-- ==== Sys2Proof/Word.lean ====
section
/-! DEFINITION. The register word and byte of the X512, and the extraction and insertion of a bit range of a word.
Every register is 32 bits wide and bit 0 is the least significant (R2, R4). -/
namespace Sys2Proof

/-- One register word (R4). -/
abbrev Word := BitVec 32

/-- One byte of a packet, a record or a buffer. -/
abbrev Byte := BitVec 8

/-- The mask of `w` bits from bit `lsb` up. -/
def fieldMask (lsb w : Nat) : Word := BitVec.ofNat 32 ((2 ^ w - 1) * 2 ^ lsb)

/-- Bits [lsb + w - 1 : lsb] of a word, as a number (R2). -/
def getBits (x : Word) (lsb w : Nat) : Nat := x.toNat / 2 ^ lsb % 2 ^ w

/-- The word with bits [lsb + w - 1 : lsb] replaced by the low bits of `v`. -/
def setBits (x : Word) (lsb w : Nat) (v : Nat) : Word :=
  (x &&& ~~~ (fieldMask lsb w)) ||| (BitVec.ofNat 32 (v % 2 ^ w * 2 ^ lsb))

/-- One bit of a word. -/
def getBit (x : Word) (i : Nat) : Bool := getBits x i 1 == 1

end Sys2Proof
end

