-- ==== Sys2Proof/Syntax.lean ====
section
/-! DEFINITION. The commands the block takes, one constructor per row of the operation table, and the types of their operands.
An operand carries what the sender supplies: a packet's header and parameters, a register word, or the facts of an event
at a pin, a link or an internal engine. -/
namespace Sys2Proof

/-- The header of a Xiboni request with the facts of its carriage (R304, R305, R308). -/
structure Rq where
  /-- the route it arrived on (Table 14-1) -/
  route : Nat
  /-- the MCTP endpoint ID of its sender (routes 129 to 131) -/
  eid : Nat
  /-- VERSION of the header -/
  version : Nat
  /-- SESSION of the header -/
  sess : Nat
  /-- SEQUENCE of the header -/
  seq : Nat
  /-- TAG of the header -/
  tag : Nat
  /-- PLEN of the header -/
  plen : Nat
  /-- FLAGS bit AUTH -/
  auth : Bool
  /-- the PLEN bytes of parameters, decrypted, first byte least significant; the command's other operands are what they say -/
  body : Nat
  /-- the authentication tag, where AUTH is set (R308) -/
  mac : Nat
  /-- FLAGS bit GROUP (R46) -/
  group : Bool
  /-- the function that carried a PCIe VDM: a host port, or 128 the management endpoint (route 129, R386) -/
  carrier : Nat
  deriving DecidableEq, Repr

/-- A register access through a management function's BAR: the function (host port 0 to 127, or 128 the management endpoint)
and the byte enables of the word (R4). -/
structure Bus where
  fn : Nat
  be : Nat
  deriving DecidableEq, Repr

/-- A gate rule (Table 9-10). `rest` holds the bits that must be 0: PERM above bit 1 and bytes 21 to 23. -/
structure GRule where
  base : Nat
  fin : Nat
  init : Nat
  mask : Nat
  perm : Nat
  rest : Nat
  deriving DecidableEq, Repr

/-- A consent token (Table 9-2): its fields, its reserved bytes 6 and 7, and its TAG, first byte most significant (log entry 197). -/
structure Consent where
  tenant : Nat
  region : Nat
  member : Nat
  port : Nat
  expires : Nat
  nonce : Nat
  resv : Nat
  tag : Nat
  deriving DecidableEq, Repr


/-- A lifecycle or debug token (Table 13-6), with the facts of its checks: whether every reserved field is 0, who signed it, and
whether the signature verifies. -/
structure Token where
  type : Nat
  version : Nat
  device : Nat
  nonce : Nat
  scope : Nat
  lifetime : Nat
  arg : Nat
  resvZero : Bool
  byVendor : Bool
  sigOk : Bool
  deriving DecidableEq, Repr

/-- The instructions of the TAP (R341). -/
inductive TapInstr where
  | bypass | idcode | sample | extest | ac1149 | priv
  deriving DecidableEq, Repr

/-- The kinds of request the home classifies (Table 8-2); `wb keep` keeps I (0), S (1) or E (2); `proto read` is a protocol error (R173). -/
inductive HKind where
  | rdCur | rdShared | rdOwn | own | wr
  | wb (keep : Nat)
  | ce
  | proto (read : Bool)
  deriving DecidableEq, Repr

/-- The opcodes of the M2S channels a home classifies (Table 8-2); `otherReq` and `otherRwd` are the rest of each channel, `read` one that asks for data. -/
inductive MemOpc where
  | memRd | memRdData | memInv | memInvNT | memClnEvct | memWr | memWrPtl
  | otherReq (read : Bool)
  | otherRwd
  deriving DecidableEq, Repr

/-- MetaField of an M2S message: Meta0-State, No-Op, or another code. -/
inductive MetaField where
  | state | noOp | other
  deriving DecidableEq, Repr

/-- MetaValue of an M2S message: Invalid, Shared, Any, or another code. -/
inductive MetaValue where
  | i | s | a | other
  deriving DecidableEq, Repr

/-- SnpType of an M2S message. -/
inductive SnpType where
  | noOp | data | cur | inv
  deriving DecidableEq, Repr

/-- What of an M2S message its classification reads (R173). -/
structure MemOp where
  opc : MemOpc
  field : MetaField := .state
  value : MetaValue := .i
  snp : SnpType := .noOp
  deriving DecidableEq, Repr

/-- Whether a message travels on the RwD channel. -/
def MemOp.isRwd (o : MemOp) : Bool :=
  match o.opc with
  | .memWr | .memWrPtl | .otherRwd => true
  | .memRd | .memRdData | .memInv | .memInvNT | .memClnEvct | .otherReq _ => false

/-- Whether a message's MetaField says that its MetaValue counts, and it holds a value. -/
def MemOp.holds (o : MemOp) (v : MetaValue) : Bool := o.field == .state && o.value == v

/-- The kind of request a message is (Table 8-2); a combination the table does not give is a protocol error (R173; log entry 183). -/
def MemOp.kind (o : MemOp) : HKind :=
  match o.opc with
  | .memRd => if o.holds .i then .rdCur else if o.holds .s then .rdShared else if o.holds .a then .rdOwn else .proto true
  | .memRdData => .rdShared
  | .memInv | .memInvNT => if o.holds .a then .own else .proto false
  | .memClnEvct => .ce
  | .memWr | .memWrPtl =>
    if o.snp = .inv then .wr
    else if o.snp = .noOp then (if o.holds .i then .wb 0 else if o.holds .s then .wb 1 else if o.holds .a then .wb 2 else .proto false)
    else .proto false
  | .otherReq r => .proto r
  | .otherRwd => .proto false

/-- The message of an internal requester's request of a kind. -/
def HKind.op (k : HKind) : MemOp :=
  match k with
  | .rdCur => { opc := .memRd }
  | .rdShared => { opc := .memRd, value := .s }
  | .rdOwn => { opc := .memRd, value := .a }
  | .own => { opc := .memInv, value := .a }
  | .wr => { opc := .memWr, snp := .inv }
  | .wb n => { opc := .memWr, value := if n = 0 then .i else if n = 1 then .s else .a }
  | .ce => { opc := .memClnEvct }
  | .proto r => { opc := .otherReq r }

/-- The kinds of message of Table 6-3. `ndr` and `drs` carry the completion: 0 Cmp, 1 Cmp-S, 2 Cmp-E, 3 BIConflictAck; `bisnp` the snoop:
0 BISnpCur, 1 BISnpData, 2 BISnpInv; `biRsp` whether it answers BIRspS, and whether it is of the block form; `undeliv` a snoop of a peer's home
returned as undeliverable (R134). `ioLk` is MRdLk and `ioUnlock` the Unlock message (R280). -/
inductive MsgKind where
  | ioReq | ioPosted | ioCpl
  | ioLk | ioUnlock
  | mem (o : MemOp)
  | biRsp (s blk : Bool)
  | undeliv
  | biConflict
  | ndr (c : Nat)
  | drs (c : Nat)
  | bisnp (k : Nat)
  | poolRd | poolWr | poolRsp
  | h2dReq | h2dRsp | d2hReq | d2hRsp
  | bulkReq | bulkCpl
  | mgmt
  deriving DecidableEq, Repr

/-- A message in the switch core: requester and target numbers (Table 6-1), kind, size in cells and how many of them lie in the shared
pool (R125), payload bytes, traffic class (none: DEF_TC of the egress port, R253), poison, whether all of it has been received, whether
it is one of the key messages R62 exempts, its binding, logical device, byte address, line ID, tag, data and byte enables, and whether its tenant's
shaper has admitted it (R258), whether a completion says Completer Abort (Table 6-5 case 4), and the order in which it was queued (R122). -/
structure Msg where
  src : Nat
  dst : Nat
  kind : MsgKind
  cells : Nat := 1
  shr : Nat := 0
  len : Nat := 0
  tc : Option Nat := none
  poison : Bool := false
  whole : Bool := true
  key : Bool := false
  bnd : Option Nat := none
  ld : Nat := 0
  addr : Nat := 0
  line : Nat := 0
  tag : Nat := 0
  data : Nat := 0
  be : Nat := 0
  adm : Bool := false
  ca : Bool := false
  ord : Nat := 0
  deriving DecidableEq, Repr

/-- A request to the home: requester number, the host's member and port, binding, message, device address, line ID, tag, data, and whether its data
is poisoned. -/
structure HReq where
  src : Nat
  member : Nat
  port : Nat
  bnd : Nat
  op : MemOp
  dpa : Nat
  line : Nat
  tag : Nat
  data : Nat
  poison : Bool
  deriving DecidableEq, Repr

/-- The kind of a request (R173). -/
def HReq.kind (r : HReq) : HKind := r.op.kind

/-- Whether a request writes part of its line. -/
def HReq.part (r : HReq) : Bool := r.op.opc == .memWrPtl

/-- What the symbols of a message's words came to on their way through the switch's memories, the crossbar or a die-to-die link (R12, R26): how many were
corrected, and whether a header or a data word holds uncorrectable ones. -/
structure SymErr where
  corr : Nat
  hdr : Bool
  data : Bool
  deriving DecidableEq, Repr

/-- One part of a flit's content (R116, R119, R120): a message whose header it carries; more of a message begun earlier; or its tail, with whether it is
bad. Each with its symbol errors. -/
inductive FlitItem where
  | msg (m : Msg) (e : SymErr)
  | more (dst cls : Nat) (e : SymErr)
  | tail (dst cls : Nat) (bad : Bool) (e : SymErr)
  deriving DecidableEq, Repr

/-- A bulk descriptor (Table 10-5); `resv` holds its reserved bytes. -/
structure BulkDesc where
  op : Nat
  flags : Nat
  srcBind : Nat
  dstBind : Nat
  srcDpa : Nat
  dstDpa : Nat
  len : Nat
  pattern : Nat
  cpl : Nat
  tag : Nat
  resv : Nat
  deriving DecidableEq, Repr

/-- What a directory lookup finds wrong (R165 to R167): nothing, an uncorrectable entry word, an uncorrectable dirty-mask word, both, or a
malformed entry. -/
inductive DirErr where
  | none_ | word | mask | both | malformed
  deriving DecidableEq, Repr

/-- A full-directory set as read from the Reservoir (R24): good, good after one copy on a stack was repaired, or lost on both. -/
inductive RsvRead where
  | good
  | repaired (stack : Nat)
  | lost
  deriving DecidableEq, Repr

/-- The blocks of Sealed metadata that a pool returns as other than the X512 last wrote them (R206, R209), as 512-bit numbers: leaves and nodes of a line's
path by level (1 to 12), and MAC blocks of its leaf by number (0 to 6). A block that is not listed comes back as it was last written. -/
structure Fetched where
  path : List (Nat × Nat) := []
  macs : List (Nat × Nat) := []
  deriving DecidableEq, Repr

/-- A request or writeback presented to a slice (R171): what its lookup meets in the directory cache, what the full-directory set reads as where its own
lookup reads it (R166, R170) and whether an entry there is malformed (R165), what the pool returns of a Sealed line's metadata, and whether the heat
word it samples is lost (R25). -/
structure HIn where
  r : HReq
  err : DirErr := .none_
  rsv : RsvRead := .good
  mal : Bool := false
  found : Fetched := {}
  heatLost : Bool := false
  deriving DecidableEq, Repr

/-- A response to the home (R172): a snoop response of a host slot (block forms among them, R174), a snoop returned as undeliverable by a peer, a pool's read data, the data of
a line that an overflow re-MAC reads (its number in the leaf, R208), a pool's acknowledgement of a request's write, or of a writeback buffer's write. -/
inductive HomeRsp where
  | biRsp (slot : Nat) (s blk : Bool)
  | undeliv (slot : Nat)
  | data (d : Nat) (poison : Bool)
  | leafLine (k d : Nat) (poison : Bool)
  | wrAck
  | wbAck
  deriving DecidableEq, Repr

/-- The slots one message takes in an ISL cell (R91, R93): its class, how many slots, the message that begins there, whether it ends in this
cell, the POISON bit of the slot in which it ends, and the contents of the slots. -/
structure IslPart where
  cls : Nat
  slots : Nat
  start : Option Msg
  fin : Bool
  poison : Bool
  body : List Nat := []
  deriving DecidableEq, Repr

/-- An ISL cell (Table 5-3) with its payload. -/
structure IslCell where
  type : Nat
  rpl : Bool
  nak : Bool
  ackValid : Bool
  ks : Bool
  seq : Nat
  ack : Nat
  xoff : Nat
  txc : Nat
  parts : List IslPart
  deriving DecidableEq, Repr

/-- An ISL marker (Table 5-4); `echo` holds ECHO_FRAME and ECHO_HOLD, none for 0xFFFF_FFFF. -/
structure IslMarker where
  frame : Nat
  txOfs : Nat
  echo : Option (Nat × Nat)
  txc : Nat
  group : Nat
  member : Nat
  epoch : Nat
  deriving DecidableEq, Repr

/-- What a piece of a bulk descriptor came to (R248, R249): done, a mismatch or a poisoned line at an offset, or a digest. -/
inductive BulkRes where
  | done
  | mismatch (ofs : Nat)
  | poison (ofs : Nat)
  | hash (digest : Nat)
  deriving DecidableEq, Repr

/-- What a trained partner is (R52, R55, R59). -/
inductive DevKind where
  | none | host | type1 | type2 | type3 | mld | pcie | pcieSwitch | cxlSwitch | isl
  deriving DecidableEq, Repr

/-- A write of the host to the configuration space or a BAR of the virtual switch, the management function or a virtual memory device (R65, R66,
R67, R69, R70, R72): MSI-X and MSI enables (MSI with the number of messages), Interrupt Disable, the mask of an MSI-X vector, ASPM L1 and L0p
of the virtual upstream port, the TSP lock of a virtual downstream port's memory device, the release of DPC, the end of an
attention-button sequence, agreeing to a removal, the power indicator, Data Link Layer State Changed written 1, and a register of a virtual memory device
that the TSP lock covers. -/
inductive CfgWrite where
  | msix (on : Bool)
  | msi (on : Bool) (n : Nat)
  | intDis (on : Bool)
  | vecMask (v : Nat) (on : Bool)
  | aspm (on : Bool)
  | l0p (on : Bool)
  | tspLock (vdp : Nat) (on : Bool)
  | dpcRelease (vdp : Nat)
  | attention (vdp : Nat)
  | pwrInd (vdp n : Nat)
  | stateSeen (vdp : Nat)
  | lockedReg (vdp : Nat)
  deriving DecidableEq, Repr

/-- The return codes of the FM API that Xiboni statuses map to (R319). -/
inductive FmCode where
  | success | background | invalidInput | securityState | unsupported | retry | busy | internal
  deriving DecidableEq, Repr

/-- An FM API command (Table 14-7), with the partner's completion where the command is passed on. -/
inductive FmCmd where
  | identify
  | portState (port : Nat)
  | portControl (port action : Nat)
  | ppbConfig (port request completion : Nat)
  | vcsInfo (host first count : Nat)
  | bind (host vdp port ld : Nat)
  | unbind (host vdp force : Nat)
  | aer (host vdp header : Nat)
  | tunnel (port ld command size reply : Nat)
  | ldConfig (port ld request completion : Nat)
  | ldMemory (port ld addr len data reply : Nat)
  deriving DecidableEq, Repr

/-- A region as a peer's list gives it (R430). -/
structure RemRegion where
  id : Nat
  tenant : Nat
  cls : Nat
  size : Nat
  ttBase : Nat
  deriving DecidableEq, Repr

/-- A fence token (Table 20-1), with the digest of the key that signed it, whether the signature verifies, and whether its reserved bytes are 0. -/
structure FenceTok where
  type : Nat
  version : Nat
  group : Nat
  member : Nat
  expel : Nat
  epoch : Nat
  device : Nat
  nonce : Nat
  signer : Nat
  sigOk : Bool
  resvZero : Bool
  deriving DecidableEq, Repr

/-- A firmware image in a flash bank (R293): its security version, whether the Briral signature verifies, whether it carries the
owner's cosignature, its digest, and whether it has been marked invalid (R294). -/
structure Image where
  svn : Nat := 0
  sigOk : Bool := false
  cosigned : Bool := false
  digest : Nat := 0
  marked : Bool := false
  deriving DecidableEq, Repr

/-- A personality configuration (Table 19-5): `zero` says that bytes 5 to 7 are 0, `sigOk` that the owner's signature verifies. -/
structure PersCfg where
  type : Nat
  version : Nat
  level : Nat
  zero : Bool
  owner : Nat
  serial : Nat
  sigOk : Bool
  deriving DecidableEq, Repr

/-- The facts of a Daybreak that come from outside the frame's rules: the samples of Twilight's sensors (class, index, value), whether the regulators
acknowledge a setpoint (R411), whether the active pair serviced the management watchdog in the frame that ends (R380), and whether the collector's
self-test passes where a warm reset is due (R379). -/
structure DayFacts where
  samples : List (Nat × Nat × Nat)
  ack : Bool
  serviced : Bool
  selfTest : Bool
  deriving DecidableEq, Repr

/-- The commands and events of the block: one constructor per row of the operation table. -/
inductive Instr where
  /-- Opcode 0x0309 switches the IDE key sets of a port without losing traffic (R61). -/
  | ideKeyRefresh (rq : Rq) (port : Nat)
  /-- Opcode 0x0400 creates a region with the lowest free ID, or is refused (R139). -/
  | regionCreate (rq : Rq) (tenant cls size ttBase treePool releaseFree : Nat)
  /-- Opcode 0x0401 starts a region delete, which clears its entries at the first Daybreak with no move open (R139). -/
  | regionDelete (rq : Rq) (region : Nat)
  /-- Opcode 0x0402 returns a region record (R138). -/
  | getRegion (rq : Rq) (region : Nat)
  /-- Opcode 0x0403 starts an extent add whose preparation places and fills each unbacked parcel (R146). -/
  | extentAdd (rq : Rq) (binding dpaP lenP rofsP tag : Nat)
  /-- Opcode 0x0404 releases an extent, back-invalidating its lines before the mapping is removed (R148). -/
  | extentRelease (rq : Rq) (binding dpaP force : Nat)
  /-- Opcode 0x0405 returns the extents of a binding (R145). -/
  | getExtents (rq : Rq) (binding : Nat)
  /-- Opcode 0x0500 establishes a tenant key slot from a secret and derives its keys (R193). -/
  | tenantEstablish (rq : Rq) (tenant secret verifier : Nat)
  /-- Opcode 0x0501 zeroises a tenant key slot at a Daybreak (R196). -/
  | zeroise (rq : Rq) (tenant : Nat)
  /-- Opcode 0x0502 maps a virtual memory device's CKID to a tenant key slot (R195). -/
  | mapCkid (rq : Rq) (binding ckid tenant : Nat)
  /-- Opcode 0x0503 returns the tenant's integrity-failure counts and first failure per region (R211). -/
  | integrityQuery (rq : Rq) (region : Nat)
  /-- Opcode 0x0504 permits or forbids a tenant ID to establish its slot (R193). -/
  | enableTenant (rq : Rq) (tenant enable : Nat)
  /-- Opcode 0x0406 stages pieces of a gate's rule set (R472). -/
  | loadGateRules (rq : Rq) (g total firstPos count : Nat) (rules : List GRule)
  /-- Opcode 0x0407 stages a consent token for a Sealed binding commit (R191). -/
  | consent (rq : Rq) (tok : Consent)
  /-- Opcode 0x0600 directs a parcel range to a target pool (R229). -/
  | placementDirective (rq : Rq) (region firstP count pool : Nat)
  /-- Opcode 0x0601 aborts moves of a parcel range before their commit points (R240). -/
  | moveAbort (rq : Rq) (region firstP count : Nat)
  /-- Opcode 0x0602 returns per-parcel heat of a region to its tenant (R226). -/
  | heatQuery (rq : Rq) (region firstP count : Nat)
  /-- Opcode 0x0603 begins evacuation of a pool (R243). -/
  | evacuatePool (rq : Rq) (pool disc : Nat)
  /-- Opcode 0x0700 stages the DRR quanta of a port (R257). -/
  | quanta (rq : Rq) (port : Nat) (quanta : List Nat)
  /-- Opcode 0x0701 stages a tenant shaper's rate, burst and enable (R261). -/
  | shaper (rq : Rq) (tenant rate burst en : Nat)
  /-- Opcode 0x0702 submits a gate list for a named frame (R264). -/
  | gateList (rq : Rq) (port : Nat) (slots : List Nat) (en frame : Nat)
  /-- Opcode 0x0703 returns a port's quanta and gate list in force (R264). -/
  | getQos (rq : Rq) (port : Nat)
  /-- Opcode 0x0801 starts a fence on a window as a long command (R277). -/
  | bridgeFence (rq : Rq) (w : Nat)
  /-- Opcode 0x0800 stages a bridge window's settings (R268). -/
  | window (rq : Rq) (w cfg base size far irq : Nat)
  /-- Opcode 0x0802 returns a window's state and failure counts (R287). -/
  | getWindow (rq : Rq) (w : Nat)
  /-- Opcode 0x0100 returns identity, stepping, digest and lifecycle (R289). -/
  | getIdentity (rq : Rq)
  /-- Opcode 0x0101 opens a host, privileged or debug session (R307). -/
  | openSession (rq : Rq) (kind spdm : Nat) (tok : Token)
  /-- Opcode 0x0102 closes the session (R307). -/
  | closeSession (rq : Rq)
  /-- Opcode 0x0103 attaches an FM API source to the session (R319). -/
  | attach (rq : Rq) (source eid : Nat)
  /-- Opcode 0x0104 issues a fresh nonce for a token type (R299). -/
  | tokenNonce (rq : Rq) (type : Nat)
  /-- Opcode 0x0105 presents a lifecycle or debug token, checked and acted on (R299). -/
  | presentToken (rq : Rq) (tok : Token)
  /-- Opcode 0x0106 claims a Blank part with the owner public key (R466). -/
  | ownerClaim (rq : Rq) (key : Nat)
  /-- Opcode 0x0107 moves between Owned and Owner-open or sets or clears the configuration lock (R300). -/
  | ownerSetting (rq : Rq) (action : Nat)
  /-- Opcode 0x0108 installs or removes a fabric manager key digest (R295). -/
  | fabricManagerKey (rq : Rq) (index digest : Nat)
  /-- Opcode 0x0110 reads register words with per-field permissions (R8). -/
  | registerRead (rq : Rq) (addr count : Nat)
  /-- Opcode 0x0111 writes register words with per-field permissions (R8). -/
  | registerWriteOpcode (rq : Rq) (addr count : Nat) (words : List Word)
  /-- Opcode 0x0200 returns mode, power state and lifecycle (R323). -/
  | getMode (rq : Rq)
  /-- Opcode 0x0201 requests a mode change (R324). -/
  | setMode (rq : Rq) (byte : Nat)
  /-- Opcode 0x0202 requests Full, Economy or Hold (R331). -/
  | setPowerState (rq : Rq) (code : Nat)
  /-- Opcode 0x0203 takes the staging lock (R313). -/
  | stageBegin (rq : Rq)
  /-- Opcode 0x0204 submits all staged state as one commit, checked as a whole (R314). -/
  | commit (rq : Rq) (at_ : Nat)
  /-- Opcode 0x0205 returns staged values to those in force and frees the lock (R313). -/
  | discard (rq : Rq)
  /-- Opcode 0x0206 scope 0 requests a binding reset (R154). -/
  | resetBinding (rq : Rq) (binding : Nat)
  /-- Opcode 0x0206 scope 1 requests a port reset (R346). -/
  | resetPort (rq : Rq) (port : Nat)
  /-- Opcode 0x0206 scope 2 requests a management reset at the next Daybreak (R320). -/
  | resetManagement (rq : Rq)
  /-- Opcode 0x0206 scope 3 requests a warm reset (R343). -/
  | resetWarm (rq : Rq)
  /-- Opcode 0x0206 scope 4 requests a cold reset (R344). -/
  | resetCold (rq : Rq)
  /-- Opcode 0x0207 returns a long command's state and final status (R316). -/
  | commandStatus (rq : Rq) (handle : Nat)
  /-- Opcode 0x0208 aborts a long command before its commit point, or is answered too late (R316). -/
  | abort (rq : Rq) (handle : Nat)
  /-- Opcode 0x0300 returns a port's configuration, link, IDE and hot-plug status (R55). -/
  | getPort (rq : Rq) (port : Nat)
  /-- Opcode 0x0301 retrains, disables or enables a port's link (R15). -/
  | portControl (rq : Rq) (port action : Nat)
  /-- Opcode 0x0302 sends a CXL.io configuration request to a port's partner (R319). -/
  | ppbConfigurationRequest (rq : Rq) (port request completion : Nat)
  /-- Opcode 0x0303 binds a device to a virtual downstream port, seen as a hot-add (R59). -/
  | bindVdp (rq : Rq) (host vdp port ld : Nat)
  /-- Opcode 0x0304 unbinds a virtual downstream port, orderly or forced (R69). -/
  | unbindVdp (rq : Rq) (host vdp force : Nat)
  /-- Opcode 0x0305 generates an AER event on a virtual downstream port (R319). -/
  | generateAer (rq : Rq) (host vdp header : Nat)
  /-- Opcode 0x0306 sends a configuration request to a logical device (R319). -/
  | ldConfigurationRequest (rq : Rq) (port ld request completion : Nat)
  /-- Opcode 0x0307 sends a memory request to a logical device (R319). -/
  | ldMemoryRequest (rq : Rq) (port ld addr len data reply : Nat)
  /-- Opcode 0x0308 tunnels a CCI command to an MLD (R319). -/
  | mldTunnel (rq : Rq) (port ld command size reply : Nat)
  /-- Opcode 0x0900 returns a slot channel's state (R352). -/
  | getChannel (rq : Rq) (channel : Nat)
  /-- Opcode 0x0901 sets ENABLE with a first feed and completes at power-good or failure (R366). -/
  | slotPowerOn (rq : Rq) (channel feed : Nat)
  /-- Opcode 0x0902 powers a channel off after declaring ports down and asserting PERST_N (R367). -/
  | slotPowerOff (rq : Rq) (channel : Nat)
  /-- Opcode 0x0903 clears a channel's latch, fault count and off-time (R365). -/
  | clearLatch (rq : Rq) (channel : Nat)
  /-- Opcode 0x0A00 returns fault records from a given number (R375). -/
  | readFaultRecords (rq : Rq) (firstNum count : Nat)
  /-- Opcode 0x0A01 clears a fault record (R379). -/
  | clearFaultRecord (rq : Rq) (record : Nat)
  /-- Opcode 0x0A02 routes a shared event source to a target (R384). -/
  | routeEventSource (rq : Rq) (source target sense : Nat)
  /-- Opcode 0x0B00 stages a counter unit's selects (R400). -/
  | configureCounterUnit (rq : Rq) (unit : Nat) (selects : List Nat)
  /-- Opcode 0x0B01 designates or disables the counter dump ring (R402). -/
  | dumpRing (rq : Rq) (port base size every : Nat)
  /-- Opcode 0x0B02 returns a binding's counter page (R406). -/
  | readBindingCounters (rq : Rq) (binding : Nat)
  /-- Opcode 0x0C00 returns the latest margin records (R410). -/
  | readMargins (rq : Rq) (cls first count : Nat)
  /-- Opcode 0x0C01 returns the forecasts (R414). -/
  | readForecast (rq : Rq)
  /-- Opcode 0x0D00 writes a chunk of a firmware image to a flash bank (R419). -/
  | imageChunk (rq : Rq) (bank offset size : Nat) (image : Image)
  /-- Opcode 0x0D01 starts a hitless activation of the image in a bank (R419). -/
  | activateImage (rq : Rq) (bank : Nat)
  /-- Opcode 0x0D02 burns fuses to raise the SVN floor (R294). -/
  | raiseSvnFloor (rq : Rq) (floor : Nat) (invalidate : Bool)
  /-- Opcode 0x0D03 stores an owner-signed personality configuration (R422). -/
  | personality (rq : Rq) (c : PersCfg)
  /-- Opcode 0x0E00 stages group membership and peers (R426). -/
  | groupMembership (rq : Rq) (group member : Nat) (peers : List (Nat × Nat))
  /-- Opcode 0x0E01 presents a fence token that replaces the epoch and expel set at its Daybreak (R435). -/
  | fenceToken (rq : Rq) (tok : FenceTok)
  /-- Opcode 0x0E02 starts transferring a region's home to a peer at a named frame (R439). -/
  | transferHome (rq : Rq) (region peer at_ : Nat) (keyOk : Bool)
  /-- Opcode 0x0F00 reads a register, Reservoir partition or pool range through its gate (R340). -/
  | debugRead (rq : Rq) (addr len data : Nat)
  /-- Opcode 0x0F01 writes a register, the debug buffer or other space through its gate (R340). -/
  | debugWrite (rq : Rq) (addr len data : Nat)
  /-- The vendor's command in a vendor session exits Vendor test to Blank or retires a Blank part (R296). -/
  | vendorLifecycleCommand (rq : Rq) (retire : Bool)
  /-- A Xiboni request with an unknown opcode or version is answered with the unsupported status (R318). -/
  | unsupportedOpcode (rq : Rq) (op : Nat)
  /-- At the tick that ends a frame, the device carries out the Daybreak actions of Table 2-2 as one step (R40). -/
  | daybreak (x : DayFacts)
  /-- A follower measures the phase error of a received Daybreak edge or ISL marker and corrects its next frame by one tick (R44). -/
  | syncEdgeReceived (long : Bool) (raw : Int) (period : Nat)
  /-- When no edge arrives for four expected Daybreaks, a Locked follower enters Lost (R45). -/
  | syncEdgeMissing (n : Nat)
  /-- A write of ARM submits NEW and FRM_LEN_AT as a named-frame commit of the frame length (R39). -/
  | frmLenArm (b : Bus) (w : Word)
  /-- A write of REARM returns the follower to Unlocked (R45). -/
  | followerRearm (b : Bus)
  /-- A write that changes ROLE or SRC takes effect at once and returns a follower to Unlocked (R45). -/
  | syncRoleChange (b : Bus) (w : Word)
  /-- A write of a register without behaviour of its own acts on the fields the principal may write, or is refused and counted (R8). -/
  | registerWrite (b : Bus) (addr : Nat) (w : Word)
  /-- A port's link reaches L0 after training, with its protocols negotiated (R51). -/
  | linkUp (p rate width : Nat) (cxl flit256 lofl : Bool) (xr : Option Nat) (dev : DevKind) (cap : Nat)
  /-- After L0 at 64 GT/s with extended rate agreed, the downstream side changes speed to 128 GT/s through Recovery (R57). -/
  | xrateSpeedChange (p : Nat)
  /-- Equalisation at 128 GT/s that overruns 24 ms, or too many Recoveries, returns the link to 64 GT/s and sets XRATE_FAIL (R58). -/
  | xrateFallback (p : Nat) (overrun : Bool)
  /-- A write of RETRAIN retrains the link and clears the extended-rate hold-off (R58). -/
  | retrain (b : Bus) (p : Nat)
  /-- A write of LINK_DIS holds the link in Disabled or releases it, with the effects of a port going down or training (R15). -/
  | linkDisableWrite (b : Bus) (p : Nat) (w : Word)
  /-- From the cycle in which a required IDE stream is secure, the port forwards that protocol again (R62). -/
  | ideStreamSecure (p : Nat) (cm : Bool)
  /-- An IDE integrity check fails: the stream becomes insecure, the port is declared down and a contained fault is recorded (R64). -/
  | ideIntegrityFail (p : Nat) (cm : Bool)
  /-- A port idle for L1_IDLE µs with L1 allowed enters ASPM L1 (R66). -/
  | l1Entry (p us : Nat)
  /-- Traffic for a port in L1 starts the L1 exit (R66). -/
  | l1Exit (p : Nat)
  /-- A port whose utilisation over L0P_WIN frames is below threshold halves its width (R67). -/
  | l0pNarrow (p used total : Nat)
  /-- A port restores its trained width when utilisation exceeds 75 % or a message has waited more than 1 µs (R67). -/
  | l0pRestore (p used total waitNs : Nat)
  /-- A downstream port that loses its link is declared down within 2 µs, DPC and AER are raised, or pool bindings record fault 0x03 (R70). -/
  | surpriseDown (p : Nat)
  /-- FLUSHING clears when the last message queued at the declaration has been handled (R134). -/
  | flushComplete (p : Nat)
  /-- The host clears Bus Master Enable and in-flight management-function traffic is handled as Table 3-6 (R73). -/
  | busMasterDisable (fn msis writes reads : Nat)
  /-- On Bus Master Enable set again, pending unmasked vectors are sent within one frame in ascending order (R74). -/
  | busMasterEnable (fn : Nat)
  /-- A host-group PERST_N input asserts or releases, holding the group's ports in reset or releasing them as a port reset (R53). -/
  | hostPerstChange (g : Nat) (low : Bool)
  /-- A port reset declares the port down, discards IDE keys, resets status fields and retrains, and on a host port drains its slot (R346). -/
  | portReset (p : Nat)
  /-- A write of GLB_RST_CTL.PORT_RST requests a port reset of port PORT (R346). -/
  | portResetPortRst (b : Bus) (w : Word)
  /-- A lane's amplitude stays below the LOS threshold for 100 ns and LOS is declared (R78). -/
  | laneSignalLoss (l mv ns : Nat) (idle fails : Bool)
  /-- A lane's CDR frequency error exceeds LOL_PPM for 1 µs or it loses block alignment, and LOL is declared (R78). -/
  | laneLockLoss (l ppm ns : Nat) (align idle fails : Bool)
  /-- A write of LAN_CTL.PARK parks the lane at once or marks it to return at the next retrain (R81). -/
  | laneParkWrite (b : Bus) (l : Nat) (w : Word)
  /-- A 64-frame eye sweep completes and LAN_EYE takes the result at the next Daybreak (R82). -/
  | eyeSweepDone (l height width : Nat)
  /-- A write of LAN_PAT_CTL enables the generator, checker or a loop only in the states R83 accepts, otherwise it is dropped (R83). -/
  | patternControlWrite (b : Bus) (l : Nat) (w : Word)
  /-- A write of INJ flips one transmitted pattern bit (R85). -/
  | patternInject (b : Bus) (l : Nat)
  /-- A write of CLR clears ERR_CNT of the lane's checker (R84). -/
  | patternErrClear (b : Bus) (l : Nat)
  /-- A received ISL cell is checked and accepted, dropped as duplicate or out of order, or discarded as corrupt (R99). -/
  | islCellReceived (i : Nat) (c : IslCell) (errs : List (Nat × Nat)) (tag : Nat)
  /-- The sender sends the next data cell with the next sequence number, or an ack cell when none is ready or the span stalls (R97). -/
  | islCellSend (i : Nat)
  /-- A marker is accepted for block lock, RTT measurement, alignment and group epoch checks (R95). -/
  | islMarkerReceived (i : Nat) (raw : List Nat) (aligned : Bool)
  /-- Two consecutive missing markers lose block lock and take the link to Recovery (R95). -/
  | islMarkerMissing (i : Nat)
  /-- The replay timer expires, the sender replays from OLDEST, and repeated expiries escalate to Recovery and link down (R102). -/
  | islReplayTimerExpiry (i : Nat)
  /-- A sender that has received no good cell for 4 cell times treats every class as Off (R105). -/
  | islRxSilence (i : Nat)
  /-- Aligning completes after 16 markers and the link enters Keying or Active (R95). -/
  | islAligningDone (i : Nat)
  /-- The SPDM session between switches completes, key sets are installed and the link becomes Active (R109). -/
  | islKeyingDone (i digest : Nat)
  /-- Keying not complete within 1 s declares the link down (R109). -/
  | islKeyingTimeout (i : Nat)
  /-- Recovery that does not return to L0 within 24 ms declares the ISL down (R112). -/
  | islRecoveryTimeout (i : Nat)
  /-- Training starts again 1 ms after the ISL enters Down unless it is disabled (R112). -/
  | islTrainingRestart (i : Nat)
  /-- A port receives a whole flit, checks FEC, CRC and IDE, and moves its messages into the switch (R116). -/
  | flitReceived (p : Nat) (good integ : Bool) (items : List FlitItem)
  /-- A free output's arbiter picks a class and grants the eligible requester of highest effective priority (R129). -/
  | arbiterGrant (o room : Nat) (e : SymErr)
  /-- An output's stall count reaches WD, the watchdog fires and the blamed port is declared down (R132). -/
  | outputWatchdogFire (p : Nat) (room : Bool)
  /-- The egress scheduler chooses the next message by deficit round robin over the eight traffic classes (R255). -/
  | egressSchedule (p credits : Nat)
  /-- A class 3 request of a shaped tenant is admitted when tokens are above 0, subtracting its charge (R258). -/
  | shaperAdmit (src dst : Nat)
  /-- A write of ARM submits the staged gate list and EN_NEW as a commit for frame PRT_GL_AT (R264). -/
  | gateListArm (b : Bus) (p : Nat) (w : Word)
  /-- A write of CANCEL withdraws a pending gate-list takeover if early enough (R264). -/
  | gateListCancel (b : Bus) (p : Nat)
  /-- A host CXL.mem access is resolved through decoder, extent and translation entry to a pool address and sent to the home (R150). -/
  | cxlMemAccess (p vdp hpa : Nat) (op : MemOp) (tag data : Nat) (poison : Bool)
  /-- The walker's read of the parcel translation table returns and fills the translation cache, or the access completes with poison (R16). -/
  | translationWalkDone (i : Nat) (r : RsvRead)
  /-- The host sets Commit on the decoder, which is checked and takes effect at a Daybreak (R144). -/
  | hdmDecoderCommit (b base size ig iw : Nat) (on lock : Bool)
  /-- Preparation of an extent add finishes and the Add Capacity event is sent to the host (R146). -/
  | extentPreparationDone (b dpaP : Nat)
  /-- The host accepts or rejects an offered extent through the Add Dynamic Capacity Response (R146). -/
  | addDcResponse (b dpaP : Nat) (accept : Bool)
  /-- The host's Release Dynamic Capacity command starts a release of an extent (R148). -/
  | releaseDynamicCapacity (b dpaP : Nat)
  /-- The back-invalidation sweep of a released range completes and the removal is staged (R148). -/
  | releaseSweepDone (b dpaP : Nat)
  /-- A write of BND_RST.RESET requests a binding reset, merged with one already under way (R154). -/
  | bindingResetRequest (b : Bus) (bnd : Nat)
  /-- At the first Daybreak after the binding's last open transaction closes, it returns to active with counts and log reset (R154). -/
  | bindingResetComplete (b : Nat)
  /-- A write of BND_HARV_CTL.START begins a harvest at the next Daybreak, or is refused (R156). -/
  | harvestStart (b : Bus) (bnd : Nat) (w : Word)
  /-- The sweeper finishes the bitmap writes, writes the trailer, clears BUSY and increments SEQ (R156). -/
  | harvestDone (b : Nat) (words : List Nat)
  /-- The background clearing of a dirty-log area finishes and CLEARING reads 0 (R155). -/
  | logClearDone (b : Nat)
  /-- A home slice looks up a request or writeback and processes it under the state table (R175). -/
  | homeLookup (sl : Nat) (l : List HIn)
  /-- A BIRsp or pool response is applied to the transaction entry it answers, or discarded as late (R172). -/
  | homeResponseArrival (sl id : Nat) (rsp : HomeRsp) (f : Fetched)
  /-- A host's BIConflict is answered with BIConflictAck in order with its completion (R176). -/
  | biconflict (port line tag : Nat)
  /-- A full-directory set read from the Reservoir returns and the lookup proceeds (R166). -/
  | directoryReadDone (sl id : Nat) (r : RsvRead) (mal : Bool)
  /-- An entry active for TMO frames times out, completes with poison or discards, and records code 0x07 (R185). -/
  | homeTimeout (sl id : Nat)
  /-- A write of HOM_HOST_STAT.DRAIN starts draining a slot (R178). -/
  | hostSlotDrainWrite (b : Bus) (k : Nat)
  /-- The drain sweep completes and the slot is drained (R178). -/
  | hostSlotDrained (k : Nat)
  /-- A write of REVIVE returns a drained slot to active at the next Daybreak (R179). -/
  | hostSlotRevive (b : Bus) (k : Nat)
  /-- TSP key programming on a CKID replaces the slot's secret and rederives keys at the next Daybreak (R195). -/
  | tspKeyProgramming (spdm binding ckid secret : Nat)
  /-- A dirty leaf or node leaving the cache increments its parent counter, recomputes its MAC and is written back (R207). -/
  | metadataWriteback (g level i : Nat) (lost : Bool) (f : Fetched)
  /-- Every 1,024 frames and after a corrected symbol, each gate rechecks its rules in force for overlap (R213). -/
  | gateRuleRecheck (g : Nat)
  /-- The background sweeper visits heat records and zeroes those fully decayed (R225). -/
  | heatSweep (g : Nat) (lost : Bool)
  /-- The ranker passes over every valid translation entry and builds the promotion and demotion lists (R230). -/
  | rankerPass (lost : List Nat)
  /-- When a pool link comes up after power-good loss, Oxbow rebuilds its records keeping named parcels allocated (R368). -/
  | poolRebuild (p : Nat)
  /-- A copy read returns, its copy write is issued, and the line's copied bit is set if no home write overlapped (R235). -/
  | copyReadReturn (m e : Nat)
  /-- After a copy pass the move enters its flip frame, continues, or is abandoned as too write-hot (R236). -/
  | copyPassEnd (m : Nat)
  /-- The bulk engine finishes zeroing the freed source parcel and clears ALLOC (R239). -/
  | scrubDone (pool ppi : Nat)
  /-- A write of OXB_EVAC_p.START begins evacuation of pool p from the next Daybreak (R243). -/
  | evacuationStartWrite (b : Bus) (p : Nat) (w : Word)
  /-- A write of OXB_EVAC_p.CANCEL ends the evacuation at the next Daybreak (R243). -/
  | evacuationCancel (b : Bus) (p : Nat) (w : Word)
  /-- The host agent writes TAIL and the engine fetches the new descriptors in ring order (R246). -/
  | bulkTailWrite (b : Bus) (q : Nat) (w : Word)
  /-- A fetched descriptor is checked whole and split into pieces on the engines that hold the data (R247). -/
  | bulkDescriptorFetched (q : Nat) (d : BulkDesc) (ok : Bool)
  /-- A descriptor's last piece completes and its completion record is written and its event raised (R250). -/
  | bulkDescriptorDone (q num ofs : Nat) (r : BulkRes)
  /-- Clearing OXB_BQ_CFG.EN stops running descriptors with status 0x09 (R246). -/
  | bulkQueueDisable (b : Bus) (q : Nat) (w : Word)
  /-- A CXL.mem access in a bridge window is split into far units and issued to the downstream port (R271). -/
  | bridgeAccess (p vdp hpa : Nat) (op : MemOp) (tag data mask : Nat) (poison : Bool)
  /-- A far unit completes; a failed unit poisons the read or records a write failure (R272). -/
  | farUnitCompletion (id u : Nat) (ok : Bool) (v : Nat)
  /-- A far unit with no completion within COMP_TMO frames fails (R272). -/
  | farUnitTimeout (flush : Bool) (id u : Nat)
  /-- The flush read after a non-posted write completes and the host's Cmp is sent, with failure reported if any (R275). -/
  | flushReadComplete (num : Nat) (ok : Bool)
  /-- A posted write fails later and is reported as a posted-write-failure event (R276). -/
  | postedWriteFailure (w : Nat) (far : Option Nat)
  /-- A write of FENCE starts a fence on the window (R277). -/
  | bridgeFenceWrite (b : Bus) (win : Nat) (w : Word)
  /-- A prefetch run's lines arrive and are held in the shared prefetch buffer (R278). -/
  | prefetchFill (num : Nat) (data : List Nat) (ok : Bool)
  /-- A write of ACQ requests the far-bus lock, granted at once or queued (R280). -/
  | lockAcquire (b : Bus) (p : Nat) (w : Word)
  /-- A write of REL releases a far-bus lock and passes it to the next waiter (R282). -/
  | lockRelease (b : Bus) (p : Nat) (w : Word)
  /-- A lock held for LOCK_TMO frames is broken and the holder's pending accesses fail (R282). -/
  | lockTimeout (far : Nat)
  /-- An upstream memory write from a window's port raises a doorbell interrupt or is dropped (R283). -/
  | upstreamWrite (p addr : Nat)
  /-- An Assert_INTx or Deassert_INTx message raises or lowers the level interrupt of the port's windows (R283). -/
  | intxMessage (p line : Nat) (on : Bool)
  /-- An in-band interrupt on the slot side-band bus raises the window interrupt after flushing the port (R284). -/
  | sidebandAlert (g : Nat)
  /-- Every MIR_PER frames the bridge reads the inbound mirror and writes any pending outbound value (R285). -/
  | mirrorPeriod (w : Nat)
  /-- A write of MIR_OUT_HI marks a new outbound value pending (R285). -/
  | mirrorOutWrite (b : Bus) (win : Nat) (w : Word)
  /-- SPDM SET_CERTIFICATE writes the owner chain to certificate slot 1 (R290). -/
  | setCertificate (spdm slot chain : Nat) (certifies : Bool)
  /-- An SPDM measurements request returns the signed measurements with the frame in force (R292). -/
  | getMeasurements (spdm index : Nat)
  /-- A write of GLB_MODE_REQ.MREQ submits MODE and FORCE as a mode request (R324). -/
  | modeRequestWrite (b : Bus) (w : Word)
  /-- A write of GLB_MODE_REQ.PREQ submits PWR as a power-state request (R331). -/
  | powerRequestWrite (b : Bus) (w : Word)
  /-- A long command completes and raises the command-complete event in the issuer's bank (R316). -/
  | longCommandComplete (handle : Nat) (ok : Bool)
  /-- An FM API command from an attached source runs as its mapped Xiboni opcode (R319). -/
  | fmApiCommand (source route eid carrier : Nat) (c : FmCmd)
  /-- A write of SLT_CH_CTL.ON sets ENABLE by PRIO (R366). -/
  | slotOnWrite (b : Bus) (c : Nat)
  /-- A write of SLT_CH_CTL.OFF requests power-off of the channel (R367). -/
  | slotOffWrite (b : Bus) (c : Nat)
  /-- A write of SLT_CH_CTL.CLR clears the latch, FAULT_CNT and the off-time (R369). -/
  | slotClrWrite (b : Bus) (c : Nat)
  /-- A write of APPLY submits the staged channel fields as a self-committing commit (R370). -/
  | slotApply (b : Bus) (c : Nat)
  /-- Each microsecond the supervisor samples a channel and evaluates presence, feeds, breaker, start timeout, damage and power-good (R353). -/
  | slotSample (c : Nat) (prsnt : Bool) (vout shunt gsA gsB va vb : Nat)
  /-- The insertion delay ends and a Waiting channel ramps on the best feed in window (R355). -/
  | insertionDelayEnd (c : Nat)
  /-- A channel's off-time ends and it turns on again or its cooling clock starts (R359). -/
  | offTimeEnd (c : Nat)
  /-- The cooling clock reaches COOL seconds and FAULT_CNT clears (R360). -/
  | coolingExpiry (c : Nat)
  /-- The comparator turns the active gate off within 1 µs when current exceeds 4 × I_7 (R357). -/
  | fastTrip (c shunt : Nat)
  /-- A write of FLT_CLR.GO clears record NUMBER, or sets REFUSED (R379). -/
  | faultClearWrite (b : Bus) (w : Word)
  /-- A write of EVT_SH_ROUTE_s changes a shared source's route from the next Daybreak or is dropped (R384). -/
  | routeWrite (b : Bus) (source : Nat) (w : Word)
  /-- A block reports a fault; the collector merges it into an open record or opens a new one (R376). -/
  | faultReport (code id : Nat) (unbound : Bool) (addr : Option Nat) (detail : Nat)
  /-- A read of EVT_T_CLAIM returns and marks active the lowest qualifying source (R391). -/
  | eventClaim (b : Bus) (t : Nat)
  /-- A write of EVT_T_DONE completes an active source and re-samples a level source (R391). -/
  | eventDone (b : Bus) (t : Nat) (w : Word)
  /-- A write of 1 to a pending bit clears the source in scan mode and re-samples a level source (R393). -/
  | eventPendingClear (b : Bus) (addr : Nat) (w : Word)
  /-- A write of SCAN leaves or enters claim mode, dropping active marks (R392). -/
  | eventScanSelect (b : Bus) (t : Nat) (w : Word)
  /-- A filtered pin value changes and sets its source pending as SENSE selects (R389). -/
  | pinSourceChange (source : Nat) (low : Bool) (samples : Nat)
  /-- A write of CNT_RING_CTL that sets EN is checked against R402, or REFUSED sets (R403). -/
  | ringEnableWrite (b : Bus) (w : Word)
  /-- A write of DISMISS dismisses forecast INDEX (R414). -/
  | forecastDismiss (b : Bus) (w : Word)
  /-- A write of TWL_PCAP_p.CLR removes the rate cap and retrains the port (R412). -/
  | rateCapClear (b : Bus) (p : Nat)
  /-- The patrol scrubber completes a pass and marks rows due for repair (R417). -/
  | patrolScrubPass (corrected : List (Nat × Nat × Nat))
  /-- A row is copied to its spare and the swap takes effect at the next Daybreak (R417). -/
  | rowRepairCopyDone (macroNum row : Nat) (last : Bool)
  /-- A Reservoir stack's copy becomes single and MIRROR holds (R418). -/
  | mirrorSingle (stack cause : Nat)
  /-- Resilvering of the mirrored content completes and MIRROR clears at the next Daybreak (R418). -/
  | resilverDone (stack : Nat)
  /-- A journal page is written at the log head and read back, retiring failed pages (R415). -/
  | journalWrite (ok : Bool)
  /-- The outgoing pair rejoins as standby within 2 s or STANDBY_PAIR sets (R419). -/
  | outgoingPairRejoin (ok : Bool)
  /-- The peer receives the transfer commit message and serves the region from the next Daybreak (R440). -/
  | commitMessageReceived (m : Nat) (r : RemRegion) (treePool treeUnit : Nat) (releaseFree : Bool) (root : List (Nat × Nat)) (entries : List (Nat × Nat × Nat)) (leaves : List (Nat × Nat × List (Nat × Nat))) (nodes : List (Nat × List (Nat × Nat))) (macs : List (Nat × Nat))
  /-- A member receives a peer's region list and keeps a copy (R430). -/
  | regionListReceived (m : Nat) (l : List RemRegion) (sameMap : Bool)
  /-- When a peer stops being reachable, queues flush, requests are held in the remote table and snoops to it drain slots (R433). -/
  | peerUnreachable (m : Nat)
  /-- A peer becomes reachable, held requests are sent in order and lists are exchanged (R428). -/
  | peerReachable (m : Nat)
  /-- A TAP instruction is accepted or replaced by BYPASS under mode, lifecycle and debug scope (R341). -/
  | tapInstruction (i : TapInstr)
  /-- A write of MBX_CTL.MRST requests a management reset at the next Daybreak (R320). -/
  | managementResetRequest (b : Bus)
  /-- MGMT_RST_N held low for 25 samples requests a management reset at the next Daybreak (R454). -/
  | mgmtRstNLow (samples : Nat)
  /-- A write of GLB_RST_CTL.WARM requests a warm reset (R343). -/
  | warmResetWrite (b : Bus)
  /-- A write of GLB_RST_CTL.COLD requests a cold reset (R344). -/
  | coldResetWrite (b : Bus)
  /-- A warm reset takes every port down, zeroises keys and returns the listed blocks to reset, then enters Bring-up (R345). -/
  | warmReset (selfTest : Bool)
  /-- RESET_N low for 25 samples causes a cold reset and holds the device in it (R454). -/
  | resetNLow (samples : Nat)
  /-- AUX_PWRGD rising is a cold reset (R344). -/
  | auxPwrgdRise (straps : Nat)
  /-- Bring-up's self-test, Reservoir training and board identity check finish and the mode becomes Provisioning (R325). -/
  | bringUpComplete (ok answers : Bool) (board device : Nat)
  /-- A thermal sensor at 115 °C or more gates the tile clocks and latches THERMTRIP_N (R462). -/
  | thermtrip (celsius : Nat)
  /-- RESET_N rises, the straps are sampled and the boot ROM starts (R454). -/
  | resetNRelease (straps : Nat)
  /-- A host port loses its link and is declared down, its queues flushed and its host slot drained (R134). -/
  | hostPortLinkLoss (p : Nat)
  /-- A host configuration or BAR write to the virtual switch or management function sets interrupt enables and masks, ASPM control, the TSP lock, DPC release or the attention-button sequence (R72). -/
  | configurationWrite (fn : Nat) (c : CfgWrite)
  /-- A PCIe error message from a bridged device arrives and fails pending writes or reports a posted-write failure (R275). -/
  | deviceErrorMessage (p : Nat) (far : Option Nat)
  /-- An upstream read from a window's port is answered with Unsupported Request (R283). -/
  | upstreamRead (p tag : Nat)
  /-- The target pool acknowledges a migration copy write, releasing accesses that wait at the home for it after a flip (R239). -/
  | copyWriteAck (m e line : Nat)
  /-- The old home receives the peer's ready message after the sweep and copy of a home transfer (R439). -/
  | transferReadyReceived (region peer : Nat)
  /-- The old home receives the peer's confirmation of the commit message and stops resending it (R440). -/
  | transferConfirmReceived (region peer : Nat)
  /-- An SPDM KEY_EXCHANGE and FINISH open an SPDM session that counts against the 256 sessions (R291). -/
  | spdmKeyExchange (n route eid : Nat) (mutualAuth : Bool) (key secret : Nat) (briral : Bool)
  /-- An SPDM session ends and the Xiboni session bound to it closes (R308). -/
  | spdmEndSession (n : Nat)
  /-- The I3C bus controller assigns a dynamic address or enables or disables in-band interrupts for targets 130 and 131 (R396). -/
  | i3cInterruptEnable (bus : Nat) (on : Bool)
  /-- A register read through the management BAR latches the upper words of wide fields, counts refusals and wakes the device from Hold (R5). -/
  | barRegisterRead (b : Bus) (addr : Nat)
  /-- At the first tick of the Dusk window, the set of commits due at the next Daybreak is frozen and moved to the apply stages (R37). -/
  | duskWindowStart
  /-- Every 64 ticks each shaper adds RATE/16 bytes to its tokens, up to BURST (R259). -/
  | shaperTokenRefill
  /-- An uncorrectable word or lockstep mismatch in the collector journals 0x0801 and leads to Quarantine (R378). -/
  | collectorSelfFault
  /-- The watchdog count reaches LIMIT and the standby pair takes over or the watchdog expires (R380). -/
  | managementWatchdogLimit
  /-- The dump writer issues the last record, WR advances by 352 and private source 3 is raised (R404). -/
  | counterDumpDone
  /-- The standby pair finishes validating the bank and schedules the takeover or fails the command (R419). -/
  | imageValidated
  /-- A request held for an unreachable home longer than TMO frames completes poisoned or discarded (R433). -/
  | remoteRequestTimeout
  /-- The debug session closes at the first Daybreak after its LIFETIME runs out (R337). -/
  | debugLifetimeExpiry
  /-- TRST_N resets the TAP alone (R341). -/
  | trst
  /-- After a management or warm reset the interpreter sets READY and raises private source 8 (R320). -/
  | interpreterReady
  /-- AUX_PWRGD low holds the whole device in reset with outputs high-impedance (R455). -/
  | auxPwrgdFall
  /-- A cold reset turns gates off, zeroes the frame number, derives the identity key and resolves the lifecycle (R344). -/
  | coldReset
  /-- The boot ROM verifies an image and the device reaches Standby (R293). -/
  | bootRomDone
  /-- PWRGD_CORE asserts and Bring-up starts from Standby (R452). -/
  | pwrgdCoreAssert
  /-- PWRGD_CORE deasserts outside Standby, an uncontained fault is journaled and Standby is entered at once (R329). -/
  | pwrgdCoreDeassert
  /-- A wake cause in Hold starts the resume of the data plane (R334). -/
  | holdWake
  /-- The data plane is ready and resumes at the next Daybreak in the requested or previous power state (R334). -/
  | holdResumeReady
  /-- The timebase PLL loses lock and the X512 records an uncontained fault (R32). -/
  | timebasePllLossOfLock
  /-- The standby management pair fails, STANDBY_PAIR sets and record 0x0705 is made (R326). -/
  | standbyPairFailure
  deriving DecidableEq, Repr

end Sys2Proof
end

