-- ==== Sys2Proof/Config.lean ====
section
/-! DEFINITION. What one part fixes and what the manual leaves open. Every constant here is opaque: nothing in Lean can
evaluate it or prove a value of it, so a claim about the machine holds whatever its value is. A free value is
`Config.freeValue` applied to the state's counter `fresh`; the cryptographic functions are uninterpreted, because the manual
names the algorithms (FIPS, SPDM) without restating them. -/
namespace Sys2Proof

/-- A value the manual leaves open, one per use (log entry 3): session numbers, sequences, nonces, long-command slots. -/
opaque Config.freeValue : Nat → Nat

/-- SHA-384 over a list of values (R289, R292, R293): uninterpreted (log entry 4). -/
opaque Config.digest : List Nat → Nat

/-- HKDF with HMAC-SHA-384 (R194, R288): so many bytes, their first most significant, from input key material, a salt and an info label: uninterpreted
(log entry 4). -/
opaque Config.hkdf : (material salt : Nat) → (info : String) → (bytes : Nat) → Nat

/-- HKDF-Expand with HMAC-SHA-384 (R308): so many bytes, from a pseudorandom key and the bytes of an info label: uninterpreted (log entry 4). -/
opaque Config.hkdfExpand : (prk : Nat) → (info : List Nat) → (bytes : Nat) → Nat

/-- The 384-bit HMAC-SHA-384 of bytes under a key, its first byte most significant (R191): uninterpreted (log entry 4). -/
opaque Config.hmac : (key : Nat) → List Nat → Nat

/-- The point of P-384 that is a scalar's multiple of the base point (R288): uninterpreted (log entry 4). -/
opaque Config.p384Point : Nat → Nat × Nat

/-- The key and the fixed field of a key set that Keying derives, from the secret of its SPDM session, a direction and a generation (R109): uninterpreted
(log entry 189). -/
opaque Config.islKey : (secret dir gen : Nat) → Nat × Nat

/-- AES-256-XTS of a line under a key and a tweak (R198): uninterpreted (log entry 4). -/
opaque Config.xts : (key tweak line : Nat) → Nat

/-- The 128-bit AES-256-CMAC of bytes under a key, its first bit most significant (R205): uninterpreted (log entry 4). -/
opaque Config.cmac : (key : Nat) → List Nat → Nat

/-- The inverse of `Config.xts` (R198): uninterpreted (log entry 4). -/
opaque Config.xtsInv : (key tweak line : Nat) → Nat

/-- The ciphertext of AES-256-GCM under a key and an IV (R108): uninterpreted (log entry 4). -/
opaque Config.gcmText : (key iv plain : Nat) → Nat

/-- The tag of AES-256-GCM over authenticated data and a plaintext (R108): uninterpreted (log entry 4). -/
opaque Config.gcmTag : (key iv aad plain : Nat) → Nat

/-- The contents of a slot of a message on an inter-switch link, slot 0 its message header (R93): the manual gives no layout (log entry 188). -/
opaque Config.islSlot : Msg → Nat → Nat

/-- The two check bytes of a Reed-Solomon RS(64,62) codeword (R91): the manual gives no field polynomial (log entry 188). -/
opaque Config.rsCheck : List Nat → Nat × Nat

/-- The byte of a lane's scrambling sequence at a place counted from its seed (R91): the manual leaves it to PCIe (log entry 188). -/
opaque Config.scrambler : (lane place : Nat) → Nat

end Sys2Proof
end

