-- ==== Sys2Proof/Machine/Assoc.lean ====
section
/-! DEFINITION. Sparse tables: a list of (key, value) pairs with strictly rising keys. Reading, writing and removing one
entry keep the order, so equal tables are equal data. -/
namespace Sys2Proof.Machine

/-- A sparse table, keys strictly rising. -/
abbrev NMap (α : Type) := List (Nat × α)

/-- The entry of a key. -/
def mget {α : Type} (m : NMap α) (k : Nat) : Option α :=
  match m with
  | [] => none
  | (j, v) :: t => if j = k then some v else mget t k

/-- The table with the entry of a key set. -/
def mput {α : Type} (m : NMap α) (k : Nat) (v : α) : NMap α :=
  match m with
  | [] => [(k, v)]
  | (j, u) :: t =>
    if k < j then (k, v) :: (j, u) :: t
    else if k = j then (k, v) :: t
    else (j, u) :: mput t k v

/-- The table without the entry of a key. -/
def mdel {α : Type} (m : NMap α) (k : Nat) : NMap α :=
  match m with
  | [] => []
  | (j, u) :: t => if j = k then mdel t k else (j, u) :: mdel t k

/-- The entry of a key, or a default. -/
def mgetD {α : Type} (m : NMap α) (k : Nat) (d : α) : α := (mget m k).getD d

/-- Sets the entry of a key, or removes it where the value is the default, so that the table stays canonical. -/
def mputD {α : Type} [DecidableEq α] (m : NMap α) (k : Nat) (d v : α) : NMap α :=
  if v = d then mdel m k else mput m k v

/-- Changes the entry of a key where there is one. -/
def mmod {α : Type} (m : NMap α) (k : Nat) (f : α → α) : NMap α :=
  match mget m k with
  | some v => mput m k (f v)
  | none => m

/-- The keys of a table, in order. -/
def mkeys {α : Type} (m : NMap α) : List Nat := m.map (fun e => e.1)

/-- Whether the keys of a table rise strictly. -/
def msorted {α : Type} (m : NMap α) : Bool :=
  match m with
  | [] => true
  | [_] => true
  | (j, _) :: (k, v) :: t => decide (j < k) && msorted ((k, v) :: t)

/-- The lowest number below `n`, from `i` on, that is not a key of the table. -/
def mfreeFrom {α : Type} (m : NMap α) (i : Nat) : Nat → Option Nat
  | 0 => none
  | fuel + 1 => if (mget m i).isSome then mfreeFrom m (i + 1) fuel else some i

/-- Inserts a number into a strictly rising list of numbers. -/
def sadd (l : List Nat) (k : Nat) : List Nat :=
  match l with
  | [] => [k]
  | j :: t => if k < j then k :: j :: t else if k = j then j :: t else j :: sadd t k

/-- Removes a number from a list. -/
def sdel (l : List Nat) (k : Nat) : List Nat :=
  match l with
  | [] => []
  | j :: t => if j = k then sdel t k else j :: sdel t k

/-- Inserts a value before the first one whose key is not smaller. -/
def insertBy {α : Type} (key : α → Nat) (x : α) (l : List α) : List α :=
  match l with
  | [] => [x]
  | y :: t => if key x ≤ key y then x :: y :: t else y :: insertBy key x t

/-- A list in ascending order of a key. -/
def sortBy {α : Type} (key : α → Nat) (l : List α) : List α :=
  match l with
  | [] => []
  | x :: t => insertBy key x (sortBy key t)

end Sys2Proof.Machine
end

