-- ==== Sys2Proof/Machine/Memory.lean ====
section
/-! DEFINITION. The addressed RAM the manual lays open byte by byte: Reservoir partitions 5 and 6 (R219). Its key is the partition × 2^36 plus
the offset; an unlisted byte reads as 0 (log entry 94), and no listed byte is 0. -/
namespace Sys2Proof.Machine

/-- The bytes of the Reservoir's addressed partitions. -/
abbrev Memory := List Host.Cell

/-- What an unlisted byte reads as (log entry 94). -/
def Memory.blank : BitVec 8 := 0

/-- The byte at a key. -/
def Memory.read (m : Memory) (a : Nat) : BitVec 8 := mgetD m a Memory.blank

/-- Writes the byte at a key. -/
def Memory.write (m : Memory) (a : Nat) (b : BitVec 8) : Memory := mputD m a Memory.blank b

/-- Whether the form is canonical: keys strictly rising, no byte equal to the blank one. -/
def Memory.wf (m : Memory) : Bool := msorted m && m.all (fun c => c.2 != Memory.blank)

/-- Writes bytes at consecutive keys. -/
def Memory.writeAll (m : Memory) (a : Nat) (l : List (BitVec 8)) : Memory :=
  match l with
  | [] => m
  | b :: t => (m.write a b).writeAll (a + 1) t

/-- The number `n` bytes from a key hold, low byte first. -/
def Memory.number (m : Memory) (a : Nat) : Nat → Nat
  | 0 => 0
  | n + 1 => (m.read a).toNat + 256 * m.number (a + 1) n

end Sys2Proof.Machine
end

