-- ==== Sys2Proof/Machine/RegFields.lean ====
section
/-! DEFINITION. The software-visible registers of the X512 by name: the address of every register of the chapters' register
tables and one descriptor per field (its word address, its lowest bit, its width, and the reset word of its register).
An index argument is the number the register's chapter gives: a port, a lane, a binding, a channel. Offsets are those of
Table 1-11 plus the offset the chapter states. The reset word carries the Reset column of each field (R9); a field whose column
says fuse, strap or a table is 0 here and is read through a view of the state (RegBus.lean). -/
namespace Sys2Proof.Machine

/-- A field of a register: the word address, the lowest bit, the width, and the reset word of the whole register. -/
structure Fld where
  addr : Nat
  lsb : Nat
  width : Nat
  rst : Nat
  deriving DecidableEq, Repr

/-- The address of the first register of access gate g: gates 0 to 127 lie in the port blocks, 128 to 175 in the SEC block (R222). -/
def gateBase (g : Nat) : Nat := if g < 128 then 0x1000300 + g * 0x10000 else 0x508000 + (g - 128) * 0x40

/-- The reset word of breaker point k of a slot channel (Table 16-3). -/
def brkReset (k : Nat) : Nat :=
  match k with
  | 0 => 0x9896808c
  | 1 => 0x4c4b4096
  | 2 => 0x1e8480a0
  | 3 => 0xf4240aa
  | 4 => 0x7a120b4
  | 5 => 0x186a0c8
  | 6 => 0x4e20dc
  | 7 => 0x1388f0
  | _ => 0

/-- The word address of FRM_NUM_LO (02, frame number, low word). -/
def FRM_NUM_LO : Nat := 0x10000
def FRM_NUM_LO_NUM_LO : Fld := ⟨FRM_NUM_LO, 0, 32, 0x0⟩

/-- The word address of FRM_NUM_HI (02, frame number, high word). -/
def FRM_NUM_HI : Nat := 0x10004
def FRM_NUM_HI_NUM_HI : Fld := ⟨FRM_NUM_HI, 0, 32, 0x0⟩

/-- The word address of FRM_LEN (02, frame length). -/
def FRM_LEN : Nat := 0x10008
def FRM_LEN_CUR : Fld := ⟨FRM_LEN, 0, 2, 0x11⟩
def FRM_LEN_NEW : Fld := ⟨FRM_LEN, 4, 2, 0x11⟩
def FRM_LEN_ARM : Fld := ⟨FRM_LEN, 8, 1, 0x11⟩
def FRM_LEN_PEND : Fld := ⟨FRM_LEN, 9, 1, 0x11⟩

/-- The word address of FRM_LEN_AT_LO (02, named frame for a length change). -/
def FRM_LEN_AT_LO : Nat := 0x1000c
def FRM_LEN_AT_LO_AT : Fld := ⟨FRM_LEN_AT_LO, 0, 32, 0x0⟩

/-- The word address of FRM_LEN_AT_HI (02, named frame for a length change). -/
def FRM_LEN_AT_HI : Nat := 0x10010
def FRM_LEN_AT_HI_AT : Fld := ⟨FRM_LEN_AT_HI, 0, 32, 0x0⟩

/-- The word address of FRM_STAT (02, position within the frame). -/
def FRM_STAT : Nat := 0x10014
def FRM_STAT_TICK : Fld := ⟨FRM_STAT, 0, 13, 0x0⟩
def FRM_STAT_DUSK : Fld := ⟨FRM_STAT, 16, 1, 0x0⟩

/-- The word address of FRM_SYNC_CTL (02, alignment control). -/
def FRM_SYNC_CTL : Nat := 0x10020
def FRM_SYNC_CTL_ROLE : Fld := ⟨FRM_SYNC_CTL, 0, 2, 0x0⟩
def FRM_SYNC_CTL_OUT_EN : Fld := ⟨FRM_SYNC_CTL, 2, 1, 0x0⟩
def FRM_SYNC_CTL_SRC : Fld := ⟨FRM_SYNC_CTL, 3, 4, 0x0⟩
def FRM_SYNC_CTL_DELAY : Fld := ⟨FRM_SYNC_CTL, 8, 8, 0x0⟩
def FRM_SYNC_CTL_REARM : Fld := ⟨FRM_SYNC_CTL, 16, 1, 0x0⟩

/-- The word address of FRM_SYNC_STAT (02, alignment status). -/
def FRM_SYNC_STAT : Nat := 0x10024
def FRM_SYNC_STAT_LOCKED : Fld := ⟨FRM_SYNC_STAT, 0, 1, 0x0⟩
def FRM_SYNC_STAT_MISMATCH : Fld := ⟨FRM_SYNC_STAT, 1, 1, 0x0⟩
def FRM_SYNC_STAT_UNALIGNED : Fld := ⟨FRM_SYNC_STAT, 2, 1, 0x0⟩
def FRM_SYNC_STAT_PHASE_ERR : Fld := ⟨FRM_SYNC_STAT, 8, 8, 0x0⟩
def FRM_SYNC_STAT_LOST_CNT : Fld := ⟨FRM_SYNC_STAT, 16, 16, 0x0⟩

/-- The word address of FRM_NUM_LOAD_LO (02, frame number to adopt from SYNC_IN). -/
def FRM_NUM_LOAD_LO : Nat := 0x10028
def FRM_NUM_LOAD_LO_LOAD : Fld := ⟨FRM_NUM_LOAD_LO, 0, 32, 0x0⟩

/-- The word address of FRM_NUM_LOAD_HI (02, frame number to adopt from SYNC_IN). -/
def FRM_NUM_LOAD_HI : Nat := 0x1002c
def FRM_NUM_LOAD_HI_LOAD : Fld := ⟨FRM_NUM_LOAD_HI, 0, 32, 0x0⟩

/-- The word address of PRT_CFG (03, staged bifurcation and role). -/
def PRT_CFG (i : Nat) : Nat := 0x1000000 + i * 0x10000
def PRT_CFG_BIF (i : Nat) : Fld := ⟨PRT_CFG i, 0, 2, 0x0⟩
def PRT_CFG_ROLE (i : Nat) : Fld := ⟨PRT_CFG i, 2, 2, 0x0⟩
def PRT_CFG_PCIE_ONLY (i : Nat) : Fld := ⟨PRT_CFG i, 4, 1, 0x0⟩
def PRT_CFG_POOL (i : Nat) : Fld := ⟨PRT_CFG i, 5, 1, 0x0⟩
def PRT_CFG_FORMED (i : Nat) : Fld := ⟨PRT_CFG i, 16, 1, 0x0⟩
def PRT_CFG_COMMIT_REF (i : Nat) : Fld := ⟨PRT_CFG i, 17, 1, 0x0⟩

/-- The word address of PRT_CFG_STAT (03, bifurcation and role in force). -/
def PRT_CFG_STAT (i : Nat) : Nat := 0x1000004 + i * 0x10000
def PRT_CFG_STAT_BIF_CUR (i : Nat) : Fld := ⟨PRT_CFG_STAT i, 0, 2, 0x0⟩
def PRT_CFG_STAT_ROLE_CUR (i : Nat) : Fld := ⟨PRT_CFG_STAT i, 2, 2, 0x0⟩
def PRT_CFG_STAT_PCIE_ONLY_CUR (i : Nat) : Fld := ⟨PRT_CFG_STAT i, 4, 1, 0x0⟩
def PRT_CFG_STAT_POOL_CUR (i : Nat) : Fld := ⟨PRT_CFG_STAT i, 5, 1, 0x0⟩

/-- The word address of PRT_LINK_CTL (03, link control). -/
def PRT_LINK_CTL (i : Nat) : Nat := 0x1000008 + i * 0x10000
def PRT_LINK_CTL_MAX_RATE (i : Nat) : Fld := ⟨PRT_LINK_CTL i, 0, 4, 0x6⟩
def PRT_LINK_CTL_XRATE_EN (i : Nat) : Fld := ⟨PRT_LINK_CTL i, 4, 1, 0x6⟩
def PRT_LINK_CTL_RETRAIN (i : Nat) : Fld := ⟨PRT_LINK_CTL i, 8, 1, 0x6⟩
def PRT_LINK_CTL_LINK_DIS (i : Nat) : Fld := ⟨PRT_LINK_CTL i, 9, 1, 0x6⟩

/-- The word address of PRT_LINK_STAT (03, link status). -/
def PRT_LINK_STAT (i : Nat) : Nat := 0x100000c + i * 0x10000
def PRT_LINK_STAT_RATE (i : Nat) : Fld := ⟨PRT_LINK_STAT i, 0, 4, 0x0⟩
def PRT_LINK_STAT_WIDTH (i : Nat) : Fld := ⟨PRT_LINK_STAT i, 4, 3, 0x0⟩
def PRT_LINK_STAT_UP (i : Nat) : Fld := ⟨PRT_LINK_STAT i, 7, 1, 0x0⟩
def PRT_LINK_STAT_XRATE (i : Nat) : Fld := ⟨PRT_LINK_STAT i, 8, 1, 0x0⟩
def PRT_LINK_STAT_XRATE_FAIL (i : Nat) : Fld := ⟨PRT_LINK_STAT i, 9, 1, 0x0⟩
def PRT_LINK_STAT_CXL (i : Nat) : Fld := ⟨PRT_LINK_STAT i, 10, 1, 0x0⟩
def PRT_LINK_STAT_LOFLIT (i : Nat) : Fld := ⟨PRT_LINK_STAT i, 11, 1, 0x0⟩
def PRT_LINK_STAT_DOWN_CNT (i : Nat) : Fld := ⟨PRT_LINK_STAT i, 16, 16, 0x0⟩

/-- The word address of PRT_IDE_CTL (03, IDE policy). -/
def PRT_IDE_CTL (i : Nat) : Nat := 0x1000010 + i * 0x10000
def PRT_IDE_CTL_SKID (i : Nat) : Fld := ⟨PRT_IDE_CTL i, 0, 1, 0x0⟩
def PRT_IDE_CTL_REQ_IO (i : Nat) : Fld := ⟨PRT_IDE_CTL i, 1, 1, 0x0⟩
def PRT_IDE_CTL_REQ_CM (i : Nat) : Fld := ⟨PRT_IDE_CTL i, 2, 1, 0x0⟩

/-- The word address of PRT_IDE_STAT (03, IDE status). -/
def PRT_IDE_STAT (i : Nat) : Nat := 0x1000014 + i * 0x10000
def PRT_IDE_STAT_IO_SECURE (i : Nat) : Fld := ⟨PRT_IDE_STAT i, 0, 1, 0x0⟩
def PRT_IDE_STAT_CM_SECURE (i : Nat) : Fld := ⟨PRT_IDE_STAT i, 1, 1, 0x0⟩
def PRT_IDE_STAT_SKID_CUR (i : Nat) : Fld := ⟨PRT_IDE_STAT i, 2, 1, 0x0⟩
def PRT_IDE_STAT_SEALED_CARRIED (i : Nat) : Fld := ⟨PRT_IDE_STAT i, 3, 1, 0x0⟩
def PRT_IDE_STAT_INTEG_FAIL (i : Nat) : Fld := ⟨PRT_IDE_STAT i, 4, 1, 0x0⟩
def PRT_IDE_STAT_FAIL_CNT (i : Nat) : Fld := ⟨PRT_IDE_STAT i, 16, 16, 0x0⟩

/-- The word address of PRT_PM_CTL (03, link power control). -/
def PRT_PM_CTL (i : Nat) : Nat := 0x1000018 + i * 0x10000
def PRT_PM_CTL_L1_EN (i : Nat) : Fld := ⟨PRT_PM_CTL i, 0, 1, 0x4102003⟩
def PRT_PM_CTL_L0P_EN (i : Nat) : Fld := ⟨PRT_PM_CTL i, 1, 1, 0x4102003⟩
def PRT_PM_CTL_L1_IDLE (i : Nat) : Fld := ⟨PRT_PM_CTL i, 8, 8, 0x4102003⟩
def PRT_PM_CTL_L0P_WIN (i : Nat) : Fld := ⟨PRT_PM_CTL i, 16, 8, 0x4102003⟩
def PRT_PM_CTL_L0P_THR (i : Nat) : Fld := ⟨PRT_PM_CTL i, 24, 4, 0x4102003⟩

/-- The word address of PRT_PM_STAT (03, link power status). -/
def PRT_PM_STAT (i : Nat) : Nat := 0x100001c + i * 0x10000
def PRT_PM_STAT_STATE (i : Nat) : Fld := ⟨PRT_PM_STAT i, 0, 2, 0x0⟩
def PRT_PM_STAT_L0P_WIDTH (i : Nat) : Fld := ⟨PRT_PM_STAT i, 4, 3, 0x0⟩
def PRT_PM_STAT_L1_CNT (i : Nat) : Fld := ⟨PRT_PM_STAT i, 16, 16, 0x0⟩

/-- The word address of PRT_HP_STAT (03, removal status). -/
def PRT_HP_STAT (i : Nat) : Nat := 0x1000020 + i * 0x10000
def PRT_HP_STAT_PRESENT (i : Nat) : Fld := ⟨PRT_HP_STAT i, 0, 1, 0x0⟩
def PRT_HP_STAT_SDOWN (i : Nat) : Fld := ⟨PRT_HP_STAT i, 1, 1, 0x0⟩
def PRT_HP_STAT_DPC (i : Nat) : Fld := ⟨PRT_HP_STAT i, 2, 1, 0x0⟩
def PRT_HP_STAT_SDOWN_CNT (i : Nat) : Fld := ⟨PRT_HP_STAT i, 16, 16, 0x0⟩

/-- The word address of PRT_MF_STAT (03, management function status (host ports only)). -/
def PRT_MF_STAT (i : Nat) : Nat := 0x1000024 + i * 0x10000
def PRT_MF_STAT_BME (i : Nat) : Fld := ⟨PRT_MF_STAT i, 0, 1, 0x0⟩
def PRT_MF_STAT_INT_MODE (i : Nat) : Fld := ⟨PRT_MF_STAT i, 1, 2, 0x0⟩
def PRT_MF_STAT_DROP_SEEN (i : Nat) : Fld := ⟨PRT_MF_STAT i, 3, 1, 0x0⟩
def PRT_MF_STAT_DROP_CLR (i : Nat) : Fld := ⟨PRT_MF_STAT i, 4, 1, 0x0⟩

/-- The word address of PRT_MF_DROP (03, management function drop counts (host ports only)). -/
def PRT_MF_DROP (i : Nat) : Nat := 0x1000028 + i * 0x10000
def PRT_MF_DROP_MSI_DROP (i : Nat) : Fld := ⟨PRT_MF_DROP i, 0, 12, 0x0⟩
def PRT_MF_DROP_WR_DROP (i : Nat) : Fld := ⟨PRT_MF_DROP i, 12, 12, 0x0⟩
def PRT_MF_DROP_RD_DISC (i : Nat) : Fld := ⟨PRT_MF_DROP i, 24, 8, 0x0⟩

/-- The word address of LAN_CTL (04, lane control). -/
def LAN_CTL (i : Nat) : Nat := 0x1800000 + i * 0x1000
def LAN_CTL_TX_PRESET (i : Nat) : Fld := ⟨LAN_CTL i, 0, 4, 0x21e5f⟩
def LAN_CTL_LOS_THR (i : Nat) : Fld := ⟨LAN_CTL i, 4, 4, 0x21e5f⟩
def LAN_CTL_LOL_PPM (i : Nat) : Fld := ⟨LAN_CTL i, 8, 8, 0x21e5f⟩
def LAN_CTL_PARK (i : Nat) : Fld := ⟨LAN_CTL i, 16, 1, 0x21e5f⟩
def LAN_CTL_EYE_EN (i : Nat) : Fld := ⟨LAN_CTL i, 17, 1, 0x21e5f⟩

/-- The word address of LAN_STAT (04, lane status). -/
def LAN_STAT (i : Nat) : Nat := 0x1800004 + i * 0x1000
def LAN_STAT_LOS (i : Nat) : Fld := ⟨LAN_STAT i, 0, 1, 0x0⟩
def LAN_STAT_LOL (i : Nat) : Fld := ⟨LAN_STAT i, 1, 1, 0x0⟩
def LAN_STAT_IN_USE (i : Nat) : Fld := ⟨LAN_STAT i, 2, 1, 0x0⟩
def LAN_STAT_PARKED (i : Nat) : Fld := ⟨LAN_STAT i, 3, 1, 0x0⟩
def LAN_STAT_PARK_CAUSE (i : Nat) : Fld := ⟨LAN_STAT i, 4, 2, 0x0⟩
def LAN_STAT_LOS_SEEN (i : Nat) : Fld := ⟨LAN_STAT i, 6, 1, 0x0⟩
def LAN_STAT_LOL_SEEN (i : Nat) : Fld := ⟨LAN_STAT i, 7, 1, 0x0⟩
def LAN_STAT_LOS_CNT (i : Nat) : Fld := ⟨LAN_STAT i, 16, 8, 0x0⟩
def LAN_STAT_LOL_CNT (i : Nat) : Fld := ⟨LAN_STAT i, 24, 8, 0x0⟩

/-- The word address of LAN_EQ (04, equalisation in force). -/
def LAN_EQ (i : Nat) : Nat := 0x1800008 + i * 0x1000
def LAN_EQ_PRESET_CUR (i : Nat) : Fld := ⟨LAN_EQ i, 0, 4, 0x0⟩
def LAN_EQ_CTLE_CUR (i : Nat) : Fld := ⟨LAN_EQ i, 4, 6, 0x0⟩
def LAN_EQ_DFE_TAP1 (i : Nat) : Fld := ⟨LAN_EQ i, 16, 8, 0x0⟩
def LAN_EQ_EQ_CNT (i : Nat) : Fld := ⟨LAN_EQ i, 24, 8, 0x0⟩

/-- The word address of LAN_EYE (04, latest eye result). -/
def LAN_EYE (i : Nat) : Nat := 0x180000c + i * 0x1000
def LAN_EYE_HEIGHT (i : Nat) : Fld := ⟨LAN_EYE i, 0, 8, 0x0⟩
def LAN_EYE_WIDTH (i : Nat) : Fld := ⟨LAN_EYE i, 8, 8, 0x0⟩
def LAN_EYE_VALID (i : Nat) : Fld := ⟨LAN_EYE i, 16, 1, 0x0⟩
def LAN_EYE_LOW (i : Nat) : Fld := ⟨LAN_EYE i, 17, 1, 0x0⟩
def LAN_EYE_SEQ (i : Nat) : Fld := ⟨LAN_EYE i, 24, 8, 0x0⟩

/-- The word address of LAN_PAT_CTL (04, pattern engine control, subject to R83). -/
def LAN_PAT_CTL (i : Nat) : Nat := 0x1800010 + i * 0x1000
def LAN_PAT_CTL_PAT (i : Nat) : Fld := ⟨LAN_PAT_CTL i, 0, 3, 0x0⟩
def LAN_PAT_CTL_GEN_EN (i : Nat) : Fld := ⟨LAN_PAT_CTL i, 3, 1, 0x0⟩
def LAN_PAT_CTL_CHK_EN (i : Nat) : Fld := ⟨LAN_PAT_CTL i, 4, 1, 0x0⟩
def LAN_PAT_CTL_LOOP (i : Nat) : Fld := ⟨LAN_PAT_CTL i, 5, 2, 0x0⟩
def LAN_PAT_CTL_INJ (i : Nat) : Fld := ⟨LAN_PAT_CTL i, 7, 1, 0x0⟩
def LAN_PAT_CTL_INJ_RATE (i : Nat) : Fld := ⟨LAN_PAT_CTL i, 8, 5, 0x0⟩
def LAN_PAT_CTL_CLR (i : Nat) : Fld := ⟨LAN_PAT_CTL i, 13, 1, 0x0⟩

/-- The word address of LAN_PAT_STAT (04, pattern engine status). -/
def LAN_PAT_STAT (i : Nat) : Nat := 0x1800014 + i * 0x1000
def LAN_PAT_STAT_LOCK (i : Nat) : Fld := ⟨LAN_PAT_STAT i, 0, 1, 0x0⟩
def LAN_PAT_STAT_REFUSED (i : Nat) : Fld := ⟨LAN_PAT_STAT i, 1, 1, 0x0⟩
def LAN_PAT_STAT_ACTIVE (i : Nat) : Fld := ⟨LAN_PAT_STAT i, 2, 1, 0x0⟩
def LAN_PAT_STAT_ERR_CNT (i : Nat) : Fld := ⟨LAN_PAT_STAT i, 8, 24, 0x0⟩

/-- The word address of ISL_CFG (05, binding and protection). -/
def ISL_CFG (i : Nat) : Nat := 0x600000 + i * 0x10000
def ISL_CFG_PORT (i : Nat) : Fld := ⟨ISL_CFG i, 0, 7, 0x100⟩
def ISL_CFG_EN (i : Nat) : Fld := ⟨ISL_CFG i, 7, 1, 0x100⟩
def ISL_CFG_PROT_EN (i : Nat) : Fld := ⟨ISL_CFG i, 8, 1, 0x100⟩

/-- The word address of ISL_STAT (05, link state). -/
def ISL_STAT (i : Nat) : Nat := 0x600004 + i * 0x10000
def ISL_STAT_STATE (i : Nat) : Fld := ⟨ISL_STAT i, 0, 3, 0x0⟩
def ISL_STAT_BLOCK_LOCK (i : Nat) : Fld := ⟨ISL_STAT i, 3, 1, 0x0⟩
def ISL_STAT_PROT_ACTIVE (i : Nat) : Fld := ⟨ISL_STAT i, 4, 1, 0x0⟩
def ISL_STAT_SHORT (i : Nat) : Fld := ⟨ISL_STAT i, 5, 1, 0x0⟩
def ISL_STAT_INTEG_FAIL (i : Nat) : Fld := ⟨ISL_STAT i, 6, 1, 0x0⟩
def ISL_STAT_DOWN_CNT (i : Nat) : Fld := ⟨ISL_STAT i, 16, 16, 0x0⟩

/-- The word address of ISL_RTT (05, round trip). -/
def ISL_RTT (i : Nat) : Nat := 0x600008 + i * 0x10000
def ISL_RTT_RTT_LAST (i : Nat) : Fld := ⟨ISL_RTT i, 0, 16, 0x0⟩
def ISL_RTT_RTT_USED (i : Nat) : Fld := ⟨ISL_RTT i, 16, 16, 0x0⟩

/-- The word address of ISL_FC_CTL (05, receive buffers). -/
def ISL_FC_CTL (i : Nat) : Nat := 0x60000c + i * 0x10000
def ISL_FC_CTL_BUF0 (i : Nat) : Fld := ⟨ISL_FC_CTL i, 0, 4, 0x2001111⟩
def ISL_FC_CTL_BUF1 (i : Nat) : Fld := ⟨ISL_FC_CTL i, 4, 4, 0x2001111⟩
def ISL_FC_CTL_BUF2 (i : Nat) : Fld := ⟨ISL_FC_CTL i, 8, 4, 0x2001111⟩
def ISL_FC_CTL_BUF3 (i : Nat) : Fld := ⟨ISL_FC_CTL i, 12, 4, 0x2001111⟩
def ISL_FC_CTL_ON_GAP (i : Nat) : Fld := ⟨ISL_FC_CTL i, 16, 12, 0x2001111⟩

/-- The word address of ISL_FC_STAT (05, flow control state). -/
def ISL_FC_STAT (i : Nat) : Nat := 0x600010 + i * 0x10000
def ISL_FC_STAT_HEADROOM (i : Nat) : Fld := ⟨ISL_FC_STAT i, 0, 16, 0x0⟩
def ISL_FC_STAT_TX_OFF (i : Nat) : Fld := ⟨ISL_FC_STAT i, 16, 4, 0x0⟩
def ISL_FC_STAT_RX_OFF (i : Nat) : Fld := ⟨ISL_FC_STAT i, 20, 4, 0x0⟩
def ISL_FC_STAT_OVERRUN (i : Nat) : Fld := ⟨ISL_FC_STAT i, 24, 1, 0x0⟩

/-- The word address of ISL_SEQ (05, transmit sequence). -/
def ISL_SEQ (i : Nat) : Nat := 0x600014 + i * 0x10000
def ISL_SEQ_NEXT_TX (i : Nat) : Fld := ⟨ISL_SEQ i, 0, 12, 0x0⟩
def ISL_SEQ_OLDEST (i : Nat) : Fld := ⟨ISL_SEQ i, 12, 12, 0x0⟩
def ISL_SEQ_STALL (i : Nat) : Fld := ⟨ISL_SEQ i, 24, 1, 0x0⟩
def ISL_SEQ_REPLAYING (i : Nat) : Fld := ⟨ISL_SEQ i, 25, 1, 0x0⟩

/-- The word address of ISL_RX_SEQ (05, receive sequence). -/
def ISL_RX_SEQ (i : Nat) : Nat := 0x600018 + i * 0x10000
def ISL_RX_SEQ_NEXT_RX (i : Nat) : Fld := ⟨ISL_RX_SEQ i, 0, 12, 0x0⟩
def ISL_RX_SEQ_NAK_PEND (i : Nat) : Fld := ⟨ISL_RX_SEQ i, 12, 1, 0x0⟩

/-- The word address of ISL_REPLAY_CTL (05, replay control). -/
def ISL_REPLAY_CTL (i : Nat) : Nat := 0x60001c + i * 0x10000
def ISL_REPLAY_CTL_TIMER (i : Nat) : Fld := ⟨ISL_REPLAY_CTL i, 0, 8, 0x408⟩
def ISL_REPLAY_CTL_REPLAY_MAX (i : Nat) : Fld := ⟨ISL_REPLAY_CTL i, 8, 4, 0x408⟩

/-- The word address of ISL_REPLAY_STAT (05, replay counts). -/
def ISL_REPLAY_STAT (i : Nat) : Nat := 0x600020 + i * 0x10000
def ISL_REPLAY_STAT_REPLAY_CNT (i : Nat) : Fld := ⟨ISL_REPLAY_STAT i, 0, 16, 0x0⟩
def ISL_REPLAY_STAT_TIMEOUT_CNT (i : Nat) : Fld := ⟨ISL_REPLAY_STAT i, 16, 16, 0x0⟩

/-- The word address of ISL_LINK_ERR (05, receive errors). -/
def ISL_LINK_ERR (i : Nat) : Nat := 0x600024 + i * 0x10000
def ISL_LINK_ERR_CORRUPT (i : Nat) : Fld := ⟨ISL_LINK_ERR i, 0, 16, 0x0⟩
def ISL_LINK_ERR_DUP (i : Nat) : Fld := ⟨ISL_LINK_ERR i, 16, 16, 0x0⟩

/-- The word address of ISL_ACK_ERR (05, acknowledgement counts). -/
def ISL_ACK_ERR (i : Nat) : Nat := 0x600028 + i * 0x10000
def ISL_ACK_ERR_ACK_BAD (i : Nat) : Fld := ⟨ISL_ACK_ERR i, 0, 16, 0x0⟩
def ISL_ACK_ERR_NAK_TX (i : Nat) : Fld := ⟨ISL_ACK_ERR i, 16, 16, 0x0⟩

/-- The word address of ISL_ERR_WIN (05, error-rate window). -/
def ISL_ERR_WIN (i : Nat) : Nat := 0x60002c + i * 0x10000
def ISL_ERR_WIN_WIN (i : Nat) : Fld := ⟨ISL_ERR_WIN i, 0, 4, 0x40a⟩
def ISL_ERR_WIN_THR (i : Nat) : Fld := ⟨ISL_ERR_WIN i, 4, 12, 0x40a⟩
def ISL_ERR_WIN_CUR (i : Nat) : Fld := ⟨ISL_ERR_WIN i, 16, 12, 0x40a⟩
def ISL_ERR_WIN_WIN_DOWN (i : Nat) : Fld := ⟨ISL_ERR_WIN i, 28, 1, 0x40a⟩

/-- The word address of ISL_FEC_CNT (05, corrected bytes). -/
def ISL_FEC_CNT (i : Nat) : Nat := 0x600030 + i * 0x10000
def ISL_FEC_CNT_CORR (i : Nat) : Fld := ⟨ISL_FEC_CNT i, 0, 32, 0x0⟩

/-- The word address of PRT_ARB_PRIO (06, staged priorities of requesters 5k to 5k+4 at this output). -/
def PRT_ARB_PRIO (i j : Nat) : Nat := 0x1000100 + i * 0x10000 + j * 0x4
def PRT_ARB_PRIO_BASE0 (i j : Nat) : Fld := ⟨PRT_ARB_PRIO i j, 0, 3, 0x3aebaeba⟩
def PRT_ARB_PRIO_BASE1 (i j : Nat) : Fld := ⟨PRT_ARB_PRIO i j, 6, 3, 0x3aebaeba⟩
def PRT_ARB_PRIO_BASE2 (i j : Nat) : Fld := ⟨PRT_ARB_PRIO i j, 12, 3, 0x3aebaeba⟩
def PRT_ARB_PRIO_BASE3 (i j : Nat) : Fld := ⟨PRT_ARB_PRIO i j, 18, 3, 0x3aebaeba⟩
def PRT_ARB_PRIO_BASE4 (i j : Nat) : Fld := ⟨PRT_ARB_PRIO i j, 24, 3, 0x3aebaeba⟩
def PRT_ARB_PRIO_CEIL0 (i j : Nat) : Fld := ⟨PRT_ARB_PRIO i j, 3, 3, 0x3aebaeba⟩
def PRT_ARB_PRIO_CEIL1 (i j : Nat) : Fld := ⟨PRT_ARB_PRIO i j, 9, 3, 0x3aebaeba⟩
def PRT_ARB_PRIO_CEIL2 (i j : Nat) : Fld := ⟨PRT_ARB_PRIO i j, 15, 3, 0x3aebaeba⟩
def PRT_ARB_PRIO_CEIL3 (i j : Nat) : Fld := ⟨PRT_ARB_PRIO i j, 21, 3, 0x3aebaeba⟩
def PRT_ARB_PRIO_CEIL4 (i j : Nat) : Fld := ⟨PRT_ARB_PRIO i j, 27, 3, 0x3aebaeba⟩

/-- The word address of PRT_ARB_CUR (06, priorities in force). -/
def PRT_ARB_CUR (i j : Nat) : Nat := 0x1000180 + i * 0x10000 + j * 0x4
def PRT_ARB_CUR_BASE0_CUR (i j : Nat) : Fld := ⟨PRT_ARB_CUR i j, 0, 3, 0x3aebaeba⟩
def PRT_ARB_CUR_BASE1_CUR (i j : Nat) : Fld := ⟨PRT_ARB_CUR i j, 6, 3, 0x3aebaeba⟩
def PRT_ARB_CUR_BASE2_CUR (i j : Nat) : Fld := ⟨PRT_ARB_CUR i j, 12, 3, 0x3aebaeba⟩
def PRT_ARB_CUR_BASE3_CUR (i j : Nat) : Fld := ⟨PRT_ARB_CUR i j, 18, 3, 0x3aebaeba⟩
def PRT_ARB_CUR_BASE4_CUR (i j : Nat) : Fld := ⟨PRT_ARB_CUR i j, 24, 3, 0x3aebaeba⟩
def PRT_ARB_CUR_CEIL0_CUR (i j : Nat) : Fld := ⟨PRT_ARB_CUR i j, 3, 3, 0x3aebaeba⟩
def PRT_ARB_CUR_CEIL1_CUR (i j : Nat) : Fld := ⟨PRT_ARB_CUR i j, 9, 3, 0x3aebaeba⟩
def PRT_ARB_CUR_CEIL2_CUR (i j : Nat) : Fld := ⟨PRT_ARB_CUR i j, 15, 3, 0x3aebaeba⟩
def PRT_ARB_CUR_CEIL3_CUR (i j : Nat) : Fld := ⟨PRT_ARB_CUR i j, 21, 3, 0x3aebaeba⟩
def PRT_ARB_CUR_CEIL4_CUR (i j : Nat) : Fld := ⟨PRT_ARB_CUR i j, 27, 3, 0x3aebaeba⟩

/-- The word address of XBR_CFG (06, core settings). -/
def XBR_CFG : Nat := 0x100000
def XBR_CFG_CLASS_AGE : Fld := ⟨XBR_CFG, 0, 6, 0x20020⟩
def XBR_CFG_VOQ_MAX : Fld := ⟨XBR_CFG, 8, 12, 0x20020⟩

/-- The word address of XBR_ERR (06, uncorrectable words). -/
def XBR_ERR : Nat := 0x100004
def XBR_ERR_HDR_UE : Fld := ⟨XBR_ERR, 0, 16, 0x0⟩
def XBR_ERR_DATA_UE : Fld := ⟨XBR_ERR, 16, 16, 0x0⟩

/-- The word address of XBR_CORR (06, corrected symbols). -/
def XBR_CORR : Nat := 0x100008
def XBR_CORR_CORR : Fld := ⟨XBR_CORR, 0, 32, 0x0⟩

/-- The word address of XBR_ARB_PRIO (06, staged priorities of requesters 5k to 5k+4 at internal target 128 + i). -/
def XBR_ARB_PRIO (i j : Nat) : Nat := 0x101000 + i * 0x100 + j * 0x4
def XBR_ARB_PRIO_BASE0 (i j : Nat) : Fld := ⟨XBR_ARB_PRIO i j, 0, 3, 0x3aebaeba⟩
def XBR_ARB_PRIO_BASE1 (i j : Nat) : Fld := ⟨XBR_ARB_PRIO i j, 6, 3, 0x3aebaeba⟩
def XBR_ARB_PRIO_BASE2 (i j : Nat) : Fld := ⟨XBR_ARB_PRIO i j, 12, 3, 0x3aebaeba⟩
def XBR_ARB_PRIO_BASE3 (i j : Nat) : Fld := ⟨XBR_ARB_PRIO i j, 18, 3, 0x3aebaeba⟩
def XBR_ARB_PRIO_BASE4 (i j : Nat) : Fld := ⟨XBR_ARB_PRIO i j, 24, 3, 0x3aebaeba⟩
def XBR_ARB_PRIO_CEIL0 (i j : Nat) : Fld := ⟨XBR_ARB_PRIO i j, 3, 3, 0x3aebaeba⟩
def XBR_ARB_PRIO_CEIL1 (i j : Nat) : Fld := ⟨XBR_ARB_PRIO i j, 9, 3, 0x3aebaeba⟩
def XBR_ARB_PRIO_CEIL2 (i j : Nat) : Fld := ⟨XBR_ARB_PRIO i j, 15, 3, 0x3aebaeba⟩
def XBR_ARB_PRIO_CEIL3 (i j : Nat) : Fld := ⟨XBR_ARB_PRIO i j, 21, 3, 0x3aebaeba⟩
def XBR_ARB_PRIO_CEIL4 (i j : Nat) : Fld := ⟨XBR_ARB_PRIO i j, 27, 3, 0x3aebaeba⟩

/-- The word address of XBR_ARB_CUR (06, priorities in force). -/
def XBR_ARB_CUR (i j : Nat) : Nat := 0x101080 + i * 0x100 + j * 0x4
def XBR_ARB_CUR_BASE0_CUR (i j : Nat) : Fld := ⟨XBR_ARB_CUR i j, 0, 3, 0x3aebaeba⟩
def XBR_ARB_CUR_BASE1_CUR (i j : Nat) : Fld := ⟨XBR_ARB_CUR i j, 6, 3, 0x3aebaeba⟩
def XBR_ARB_CUR_BASE2_CUR (i j : Nat) : Fld := ⟨XBR_ARB_CUR i j, 12, 3, 0x3aebaeba⟩
def XBR_ARB_CUR_BASE3_CUR (i j : Nat) : Fld := ⟨XBR_ARB_CUR i j, 18, 3, 0x3aebaeba⟩
def XBR_ARB_CUR_BASE4_CUR (i j : Nat) : Fld := ⟨XBR_ARB_CUR i j, 24, 3, 0x3aebaeba⟩
def XBR_ARB_CUR_CEIL0_CUR (i j : Nat) : Fld := ⟨XBR_ARB_CUR i j, 3, 3, 0x3aebaeba⟩
def XBR_ARB_CUR_CEIL1_CUR (i j : Nat) : Fld := ⟨XBR_ARB_CUR i j, 9, 3, 0x3aebaeba⟩
def XBR_ARB_CUR_CEIL2_CUR (i j : Nat) : Fld := ⟨XBR_ARB_CUR i j, 15, 3, 0x3aebaeba⟩
def XBR_ARB_CUR_CEIL3_CUR (i j : Nat) : Fld := ⟨XBR_ARB_CUR i j, 21, 3, 0x3aebaeba⟩
def XBR_ARB_CUR_CEIL4_CUR (i j : Nat) : Fld := ⟨XBR_ARB_CUR i j, 27, 3, 0x3aebaeba⟩

/-- The word address of XBR_PBUF (06, class reservations of port p). -/
def XBR_PBUF (i : Nat) : Nat := 0x100800 + i * 0x10
def XBR_PBUF_RES0 (i : Nat) : Fld := ⟨XBR_PBUF i, 0, 8, 0x8081010⟩
def XBR_PBUF_RES1 (i : Nat) : Fld := ⟨XBR_PBUF i, 8, 8, 0x8081010⟩
def XBR_PBUF_RES2 (i : Nat) : Fld := ⟨XBR_PBUF i, 16, 8, 0x8081010⟩
def XBR_PBUF_RES3 (i : Nat) : Fld := ⟨XBR_PBUF i, 24, 8, 0x8081010⟩

/-- The word address of XBR_PWD (06, output watchdog of port p). -/
def XBR_PWD (i : Nat) : Nat := 0x100804 + i * 0x10
def XBR_PWD_WD (i : Nat) : Fld := ⟨XBR_PWD i, 0, 8, 0x10⟩
def XBR_PWD_FIRED (i : Nat) : Fld := ⟨XBR_PWD i, 8, 1, 0x10⟩
def XBR_PWD_CAUSE (i : Nat) : Fld := ⟨XBR_PWD i, 9, 2, 0x10⟩
def XBR_PWD_FIRE_CNT (i : Nat) : Fld := ⟨XBR_PWD i, 16, 16, 0x10⟩

/-- The word address of XBR_PSTAT (06, flush and poison status of port p). -/
def XBR_PSTAT (i : Nat) : Nat := 0x100808 + i * 0x10
def XBR_PSTAT_FLUSHING (i : Nat) : Fld := ⟨XBR_PSTAT i, 0, 1, 0x0⟩
def XBR_PSTAT_POISON_CNT (i : Nat) : Fld := ⟨XBR_PSTAT i, 16, 16, 0x0⟩

/-- The word address of XBR_PFLUSH (06, flush counts of port p). -/
def XBR_PFLUSH (i : Nat) : Nat := 0x10080c + i * 0x10
def XBR_PFLUSH_ANSWERED (i : Nat) : Fld := ⟨XBR_PFLUSH i, 0, 16, 0x0⟩
def XBR_PFLUSH_DISCARDED (i : Nat) : Fld := ⟨XBR_PFLUSH i, 16, 16, 0x0⟩

/-- The word address of BND_CFG (07, staged binding configuration). -/
def BND_CFG (i : Nat) : Nat := 0x2000000 + i * 0x100
def BND_CFG_VALID (i : Nat) : Fld := ⟨BND_CFG i, 0, 1, 0x20000⟩
def BND_CFG_HOST_PORT (i : Nat) : Fld := ⟨BND_CFG i, 1, 7, 0x20000⟩
def BND_CFG_VDP (i : Nat) : Fld := ⟨BND_CFG i, 8, 7, 0x20000⟩
def BND_CFG_POLICY (i : Nat) : Fld := ⟨BND_CFG i, 16, 2, 0x20000⟩
def BND_CFG_QOS (i : Nat) : Fld := ⟨BND_CFG i, 18, 3, 0x20000⟩
def BND_CFG_HDM_H (i : Nat) : Fld := ⟨BND_CFG i, 21, 1, 0x20000⟩
def BND_CFG_RO (i : Nat) : Fld := ⟨BND_CFG i, 22, 1, 0x20000⟩
def BND_CFG_TEN_VIEW (i : Nat) : Fld := ⟨BND_CFG i, 23, 1, 0x20000⟩

/-- The word address of BND_REGION (07, region of the binding). -/
def BND_REGION (i : Nat) : Nat := 0x2000004 + i * 0x100
def BND_REGION_REGION (i : Nat) : Fld := ⟨BND_REGION i, 0, 14, 0x0⟩
def BND_REGION_TENANT (i : Nat) : Fld := ⟨BND_REGION i, 16, 10, 0x0⟩
def BND_REGION_CLASS (i : Nat) : Fld := ⟨BND_REGION i, 26, 2, 0x0⟩

/-- The word address of BND_POOLS (07, staged allowed pools). -/
def BND_POOLS (i j : Nat) : Nat := 0x2000008 + i * 0x100 + j * 0x4
def BND_POOLS_POOLS (i j : Nat) : Fld := ⟨BND_POOLS i j, 0, 32, 0x0⟩

/-- The word address of BND_CUR (07, configuration in force). -/
def BND_CUR (i : Nat) : Nat := 0x2000018 + i * 0x100
def BND_CUR_CFG_CUR (i : Nat) : Fld := ⟨BND_CUR i, 0, 24, 0x0⟩

/-- The word address of BND_STAT (07, binding state). -/
def BND_STAT (i : Nat) : Nat := 0x200001c + i * 0x100
def BND_STAT_STATE (i : Nat) : Fld := ⟨BND_STAT i, 0, 2, 0x0⟩
def BND_STAT_EXT_CNT (i : Nat) : Fld := ⟨BND_STAT i, 4, 7, 0x0⟩
def BND_STAT_REGION_CUR (i : Nat) : Fld := ⟨BND_STAT i, 16, 14, 0x0⟩

/-- The word address of BND_POOLS_CUR (07, allowed pools in force). -/
def BND_POOLS_CUR (i j : Nat) : Nat := 0x2000020 + i * 0x100 + j * 0x4
def BND_POOLS_CUR_POOLS_CUR (i j : Nat) : Fld := ⟨BND_POOLS_CUR i j, 0, 32, 0x0⟩

/-- The word address of BND_HDM_BASE_LO (07, decoder base in force). -/
def BND_HDM_BASE_LO (i : Nat) : Nat := 0x2000030 + i * 0x100
def BND_HDM_BASE_LO_VALUE (i : Nat) : Fld := ⟨BND_HDM_BASE_LO i, 28, 4, 0x0⟩

/-- The word address of BND_HDM_BASE_HI (07, decoder base in force). -/
def BND_HDM_BASE_HI (i : Nat) : Nat := 0x2000034 + i * 0x100
def BND_HDM_BASE_HI_VALUE (i : Nat) : Fld := ⟨BND_HDM_BASE_HI i, 0, 32, 0x0⟩

/-- The word address of BND_HDM_SIZE_LO (07, decoder base in force). -/
def BND_HDM_SIZE_LO (i : Nat) : Nat := 0x2000038 + i * 0x100
def BND_HDM_SIZE_LO_VALUE (i : Nat) : Fld := ⟨BND_HDM_SIZE_LO i, 28, 4, 0x0⟩

/-- The word address of BND_HDM_SIZE_HI (07, decoder base in force). -/
def BND_HDM_SIZE_HI (i : Nat) : Nat := 0x200003c + i * 0x100
def BND_HDM_SIZE_HI_VALUE (i : Nat) : Fld := ⟨BND_HDM_SIZE_HI i, 0, 32, 0x0⟩

/-- The word address of BND_HDM_CTL (07, decoder state (R144)). -/
def BND_HDM_CTL (i : Nat) : Nat := 0x2000040 + i * 0x100
def BND_HDM_CTL_IG (i : Nat) : Fld := ⟨BND_HDM_CTL i, 0, 4, 0x0⟩
def BND_HDM_CTL_IW (i : Nat) : Fld := ⟨BND_HDM_CTL i, 4, 4, 0x0⟩
def BND_HDM_CTL_COMMITTED (i : Nat) : Fld := ⟨BND_HDM_CTL i, 8, 1, 0x0⟩
def BND_HDM_CTL_ERR_NC (i : Nat) : Fld := ⟨BND_HDM_CTL i, 9, 1, 0x0⟩
def BND_HDM_CTL_LOCKED (i : Nat) : Fld := ⟨BND_HDM_CTL i, 10, 1, 0x0⟩

/-- The word address of BND_LOG_CTL (07, dirty-log area). -/
def BND_LOG_CTL (i : Nat) : Nat := 0x2000050 + i * 0x100
def BND_LOG_CTL_BASE (i : Nat) : Fld := ⟨BND_LOG_CTL i, 0, 19, 0x0⟩
def BND_LOG_CTL_EN (i : Nat) : Fld := ⟨BND_LOG_CTL i, 31, 1, 0x0⟩

/-- The word address of BND_LOG_LEN (07, dirty-log length). -/
def BND_LOG_LEN (i : Nat) : Nat := 0x2000054 + i * 0x100
def BND_LOG_LEN_LEN (i : Nat) : Fld := ⟨BND_LOG_LEN i, 0, 20, 0x0⟩

/-- The word address of BND_HARV_ADDR_LO (07, harvest buffer). -/
def BND_HARV_ADDR_LO (i : Nat) : Nat := 0x2000058 + i * 0x100
def BND_HARV_ADDR_LO_ADDR (i : Nat) : Fld := ⟨BND_HARV_ADDR_LO i, 12, 20, 0x0⟩

/-- The word address of BND_HARV_ADDR_HI (07, harvest buffer). -/
def BND_HARV_ADDR_HI (i : Nat) : Nat := 0x200005c + i * 0x100
def BND_HARV_ADDR_HI_ADDR (i : Nat) : Fld := ⟨BND_HARV_ADDR_HI i, 0, 32, 0x0⟩

/-- The word address of BND_HARV_CTL (07, harvest control). -/
def BND_HARV_CTL (i : Nat) : Nat := 0x2000060 + i * 0x100
def BND_HARV_CTL_PORT (i : Nat) : Fld := ⟨BND_HARV_CTL i, 0, 7, 0x0⟩
def BND_HARV_CTL_START (i : Nat) : Fld := ⟨BND_HARV_CTL i, 8, 1, 0x0⟩

/-- The word address of BND_HARV_STAT (07, harvest status). -/
def BND_HARV_STAT (i : Nat) : Nat := 0x2000064 + i * 0x100
def BND_HARV_STAT_BUSY (i : Nat) : Fld := ⟨BND_HARV_STAT i, 0, 1, 0x0⟩
def BND_HARV_STAT_LOST (i : Nat) : Fld := ⟨BND_HARV_STAT i, 1, 1, 0x0⟩
def BND_HARV_STAT_CLEARING (i : Nat) : Fld := ⟨BND_HARV_STAT i, 2, 1, 0x0⟩
def BND_HARV_STAT_REFUSED (i : Nat) : Fld := ⟨BND_HARV_STAT i, 3, 1, 0x0⟩
def BND_HARV_STAT_SEQ (i : Nat) : Fld := ⟨BND_HARV_STAT i, 16, 16, 0x0⟩

/-- The word address of BND_ERR_STAT (07, first fault). -/
def BND_ERR_STAT (i : Nat) : Nat := 0x2000080 + i * 0x100
def BND_ERR_STAT_CODE (i : Nat) : Fld := ⟨BND_ERR_STAT i, 0, 8, 0x0⟩
def BND_ERR_STAT_VALID (i : Nat) : Fld := ⟨BND_ERR_STAT i, 8, 1, 0x0⟩

/-- The word address of BND_ERR_PARCEL (07, region parcel of the first fault (R153)). -/
def BND_ERR_PARCEL (i : Nat) : Nat := 0x2000084 + i * 0x100
def BND_ERR_PARCEL_PARCEL (i : Nat) : Fld := ⟨BND_ERR_PARCEL i, 0, 28, 0x0⟩

/-- The word address of BND_ERR_DPA_LO (07, address of the first fault (R153)). -/
def BND_ERR_DPA_LO (i : Nat) : Nat := 0x2000088 + i * 0x100
def BND_ERR_DPA_LO_DPA (i : Nat) : Fld := ⟨BND_ERR_DPA_LO i, 0, 32, 0x0⟩

/-- The word address of BND_ERR_DPA_HI (07, address of the first fault (R153)). -/
def BND_ERR_DPA_HI (i : Nat) : Nat := 0x200008c + i * 0x100
def BND_ERR_DPA_HI_DPA (i : Nat) : Fld := ⟨BND_ERR_DPA_HI i, 0, 32, 0x0⟩

/-- The word address of BND_ERR_CNT0 (07, fault counts). -/
def BND_ERR_CNT0 (i : Nat) : Nat := 0x2000090 + i * 0x100
def BND_ERR_CNT0_UNMAPPED (i : Nat) : Fld := ⟨BND_ERR_CNT0 i, 0, 16, 0x0⟩
def BND_ERR_CNT0_POISONED (i : Nat) : Fld := ⟨BND_ERR_CNT0 i, 16, 16, 0x0⟩

/-- The word address of BND_ERR_CNT1 (07, fault counts). -/
def BND_ERR_CNT1 (i : Nat) : Nat := 0x2000094 + i * 0x100
def BND_ERR_CNT1_WR_DISC (i : Nat) : Fld := ⟨BND_ERR_CNT1 i, 0, 16, 0x0⟩
def BND_ERR_CNT1_RO_WR (i : Nat) : Fld := ⟨BND_ERR_CNT1 i, 16, 16, 0x0⟩

/-- The word address of BND_RST (07, binding reset (R154)). -/
def BND_RST (i : Nat) : Nat := 0x2000098 + i * 0x100
def BND_RST_RESET (i : Nat) : Fld := ⟨BND_RST i, 0, 1, 0x0⟩
def BND_RST_RST_CNT (i : Nat) : Fld := ⟨BND_RST i, 16, 16, 0x0⟩

/-- The word address of HOM_CFG (08, home settings). -/
def HOM_CFG : Nat := 0x200000
def HOM_CFG_TMO : Fld := ⟨HOM_CFG, 0, 8, 0x8⟩

/-- The word address of HOM_STAT (08, home status). -/
def HOM_STAT : Nat := 0x200004
def HOM_STAT_DRAINING : Fld := ⟨HOM_STAT, 0, 1, 0x800⟩
def HOM_STAT_SWEEP : Fld := ⟨HOM_STAT, 1, 1, 0x800⟩
def HOM_STAT_TMO_CUR : Fld := ⟨HOM_STAT, 8, 8, 0x800⟩

/-- The word address of HOM_DIR_STAT (08, directory occupancy). -/
def HOM_DIR_STAT : Nat := 0x200008
def HOM_DIR_STAT_CACHE_OCC : Fld := ⟨HOM_DIR_STAT, 0, 16, 0x0⟩
def HOM_DIR_STAT_FULL_OCC : Fld := ⟨HOM_DIR_STAT, 16, 16, 0x0⟩

/-- The word address of HOM_ERR (08, protocol counts). -/
def HOM_ERR : Nat := 0x20000c
def HOM_ERR_PROTO : Fld := ⟨HOM_ERR, 0, 16, 0x0⟩
def HOM_ERR_LATE : Fld := ⟨HOM_ERR, 16, 16, 0x0⟩

/-- The word address of HOM_UE (08, directory word errors). -/
def HOM_UE : Nat := 0x200010
def HOM_UE_CLEAN_UE : Fld := ⟨HOM_UE, 0, 16, 0x0⟩
def HOM_UE_MALFORMED : Fld := ⟨HOM_UE, 16, 16, 0x0⟩

/-- The word address of HOM_EVICT (08, back-invalidating evictions). -/
def HOM_EVICT : Nat := 0x200014
def HOM_EVICT_EVICT_BI : Fld := ⟨HOM_EVICT, 0, 32, 0x0⟩

/-- The word address of HOM_HOST_MAP (08, staged host slot k). -/
def HOM_HOST_MAP (i : Nat) : Nat := 0x200100 + i * 0x4
def HOM_HOST_MAP_PORT (i : Nat) : Fld := ⟨HOM_HOST_MAP i, 0, 7, 0x0⟩
def HOM_HOST_MAP_MEMBER (i : Nat) : Fld := ⟨HOM_HOST_MAP i, 7, 3, 0x0⟩
def HOM_HOST_MAP_VALID (i : Nat) : Fld := ⟨HOM_HOST_MAP i, 15, 1, 0x0⟩

/-- The word address of HOM_HOST_CUR (08, host slot k in force). -/
def HOM_HOST_CUR (i : Nat) : Nat := 0x200200 + i * 0x4
def HOM_HOST_CUR_MAP_CUR (i : Nat) : Fld := ⟨HOM_HOST_CUR i, 0, 16, 0x0⟩

/-- The word address of HOM_HOST_STAT (08, host slot k state). -/
def HOM_HOST_STAT (i : Nat) : Nat := 0x200300 + i * 0x4
def HOM_HOST_STAT_STATE (i : Nat) : Fld := ⟨HOM_HOST_STAT i, 0, 2, 0x0⟩
def HOM_HOST_STAT_DRAIN (i : Nat) : Fld := ⟨HOM_HOST_STAT i, 2, 1, 0x0⟩
def HOM_HOST_STAT_REVIVE (i : Nat) : Fld := ⟨HOM_HOST_STAT i, 3, 1, 0x0⟩
def HOM_HOST_STAT_TMO_CAUSE (i : Nat) : Fld := ⟨HOM_HOST_STAT i, 4, 1, 0x0⟩
def HOM_HOST_STAT_REFUSED (i : Nat) : Fld := ⟨HOM_HOST_STAT i, 16, 16, 0x0⟩

/-- The word address of HOM_SLC_TT (08, transaction table of slice s). -/
def HOM_SLC_TT (i : Nat) : Nat := 0x201000 + i * 0x40
def HOM_SLC_TT_ENTRIES (i : Nat) : Fld := ⟨HOM_SLC_TT i, 0, 14, 0x0⟩
def HOM_SLC_TT_RETRY (i : Nat) : Fld := ⟨HOM_SLC_TT i, 16, 11, 0x0⟩

/-- The word address of HOM_SLC_MISS (08, directory-cache misses of slice s). -/
def HOM_SLC_MISS (i : Nat) : Nat := 0x201004 + i * 0x40
def HOM_SLC_MISS_MISS (i : Nat) : Fld := ⟨HOM_SLC_MISS i, 0, 32, 0x0⟩

/-- The word address of HOM_SLC_CONFL (08, conflict waits of slice s). -/
def HOM_SLC_CONFL (i : Nat) : Nat := 0x201008 + i * 0x40
def HOM_SLC_CONFL_CONFL (i : Nat) : Fld := ⟨HOM_SLC_CONFL i, 0, 32, 0x0⟩

/-- The word address of HOM_SLC_SNP (08, snoop failures of slice s). -/
def HOM_SLC_SNP (i : Nat) : Nat := 0x20100c + i * 0x40
def HOM_SLC_SNP_SNP_TMO (i : Nat) : Fld := ⟨HOM_SLC_SNP i, 0, 16, 0x0⟩
def HOM_SLC_SNP_UNDELIV (i : Nat) : Fld := ⟨HOM_SLC_SNP i, 16, 16, 0x0⟩

/-- The word address of SEC_STAT (09, protection status). -/
def SEC_STAT : Nat := 0x500000
def SEC_STAT_WS_READY : Fld := ⟨SEC_STAT, 0, 1, 0x0⟩
def SEC_STAT_LOCKED : Fld := ⟨SEC_STAT, 1, 1, 0x0⟩
def SEC_STAT_ESTAB : Fld := ⟨SEC_STAT, 16, 11, 0x0⟩

/-- The word address of SEC_INTEG (09, integrity failures). -/
def SEC_INTEG : Nat := 0x500010
def SEC_INTEG_CNT : Fld := ⟨SEC_INTEG, 0, 32, 0x0⟩

/-- The word address of SEC_OVF (09, minor-counter overflows). -/
def SEC_OVF : Nat := 0x500014
def SEC_OVF_CNT : Fld := ⟨SEC_OVF, 0, 32, 0x0⟩

/-- The word address of SEC_MCACHE (09, sealed-metadata cache). -/
def SEC_MCACHE : Nat := 0x500018
def SEC_MCACHE_DIRTY : Fld := ⟨SEC_MCACHE, 0, 16, 0x0⟩
def SEC_MCACHE_VICTIM : Fld := ⟨SEC_MCACHE, 16, 12, 0x0⟩

/-- The word address of SEC_IFAIL_STAT (09, first integrity failure (R211)). -/
def SEC_IFAIL_STAT : Nat := 0x500020
def SEC_IFAIL_STAT_VALID : Fld := ⟨SEC_IFAIL_STAT, 0, 1, 0x0⟩
def SEC_IFAIL_STAT_LEVEL : Fld := ⟨SEC_IFAIL_STAT, 1, 4, 0x0⟩
def SEC_IFAIL_STAT_REGION : Fld := ⟨SEC_IFAIL_STAT, 16, 14, 0x0⟩

/-- The word address of SEC_IFAIL_PARCEL (09, region parcel of the first integrity failure). -/
def SEC_IFAIL_PARCEL : Nat := 0x500024
def SEC_IFAIL_PARCEL_PARCEL : Fld := ⟨SEC_IFAIL_PARCEL, 0, 28, 0x0⟩

/-- The word address of SEC_POOL_CAP (09, staged Sealed-capable pools (R200)). -/
def SEC_POOL_CAP (i : Nat) : Nat := 0x500100 + i * 0x4
def SEC_POOL_CAP_CAP (i : Nat) : Fld := ⟨SEC_POOL_CAP i, 0, 32, 0x0⟩

/-- The word address of SEC_POOL_CAP_CUR (09, Sealed-capable pools in force). -/
def SEC_POOL_CAP_CUR (i : Nat) : Nat := 0x500110 + i * 0x4
def SEC_POOL_CAP_CUR_CAP_CUR (i : Nat) : Fld := ⟨SEC_POOL_CAP_CUR i, 0, 32, 0x0⟩

/-- The word address of SEC_SLOT (09, key slot state). -/
def SEC_SLOT (i : Nat) : Nat := 0x501000 + i * 0x4
def SEC_SLOT_STATE (i : Nat) : Fld := ⟨SEC_SLOT i, 0, 2, 0x0⟩
def SEC_SLOT_ENABLED (i : Nat) : Fld := ⟨SEC_SLOT i, 2, 1, 0x0⟩
def SEC_SLOT_REGIONS (i : Nat) : Fld := ⟨SEC_SLOT i, 16, 14, 0x0⟩

/-- The word address of GATE_CTL (09, gate control). -/
def GATE_CTL (i : Nat) : Nat := gateBase i + 0x0
def GATE_CTL_EN (i : Nat) : Fld := ⟨GATE_CTL i, 0, 1, 0x0⟩
def GATE_CTL_EN_CUR (i : Nat) : Fld := ⟨GATE_CTL i, 1, 1, 0x0⟩
def GATE_CTL_COMMIT_REF (i : Nat) : Fld := ⟨GATE_CTL i, 2, 1, 0x0⟩
def GATE_CTL_RULES (i : Nat) : Fld := ⟨GATE_CTL i, 8, 9, 0x0⟩

/-- The word address of GATE_VIO_STAT (09, first violation (R216)). -/
def GATE_VIO_STAT (i : Nat) : Nat := gateBase i + 0x4
def GATE_VIO_STAT_VALID (i : Nat) : Fld := ⟨GATE_VIO_STAT i, 0, 1, 0x0⟩
def GATE_VIO_STAT_LOCKED (i : Nat) : Fld := ⟨GATE_VIO_STAT i, 1, 1, 0x0⟩
def GATE_VIO_STAT_KIND (i : Nat) : Fld := ⟨GATE_VIO_STAT i, 2, 2, 0x0⟩
def GATE_VIO_STAT_VIO_CNT (i : Nat) : Fld := ⟨GATE_VIO_STAT i, 16, 16, 0x0⟩

/-- The word address of GATE_VIO_INIT (09, initiator). -/
def GATE_VIO_INIT (i : Nat) : Nat := gateBase i + 0x8
def GATE_VIO_INIT_INIT (i : Nat) : Fld := ⟨GATE_VIO_INIT i, 0, 16, 0x0⟩

/-- The word address of GATE_VIO_ADDR_LO (09, start address S (R217)). -/
def GATE_VIO_ADDR_LO (i : Nat) : Nat := gateBase i + 0xc
def GATE_VIO_ADDR_LO_ADDR (i : Nat) : Fld := ⟨GATE_VIO_ADDR_LO i, 0, 32, 0x0⟩

/-- The word address of GATE_VIO_ADDR_HI (09, start address S (R217)). -/
def GATE_VIO_ADDR_HI (i : Nat) : Nat := gateBase i + 0x10
def GATE_VIO_ADDR_HI_ADDR (i : Nat) : Fld := ⟨GATE_VIO_ADDR_HI i, 0, 32, 0x0⟩

/-- The word address of GATE_VIO_OFS (09, first refused byte). -/
def GATE_VIO_OFS (i : Nat) : Nat := gateBase i + 0x14
def GATE_VIO_OFS_OFS (i : Nat) : Fld := ⟨GATE_VIO_OFS i, 0, 32, 0x0⟩

/-- The word address of GATE_VIO_LEN (09, access length). -/
def GATE_VIO_LEN (i : Nat) : Nat := gateBase i + 0x18
def GATE_VIO_LEN_LEN (i : Nat) : Fld := ⟨GATE_VIO_LEN i, 0, 32, 0x0⟩

/-- The word address of GATE_VIO_FRM_LO (09, frame of the violation). -/
def GATE_VIO_FRM_LO (i : Nat) : Nat := gateBase i + 0x1c
def GATE_VIO_FRM_LO_FRAME (i : Nat) : Fld := ⟨GATE_VIO_FRM_LO i, 0, 32, 0x0⟩

/-- The word address of GATE_VIO_FRM_HI (09, frame of the violation). -/
def GATE_VIO_FRM_HI (i : Nat) : Nat := gateBase i + 0x20
def GATE_VIO_FRM_HI_FRAME (i : Nat) : Fld := ⟨GATE_VIO_FRM_HI i, 0, 32, 0x0⟩

/-- The word address of GATE_HEALTH (09, rule-set checks). -/
def GATE_HEALTH (i : Nat) : Nat := gateBase i + 0x24
def GATE_HEALTH_OVERLAP (i : Nat) : Fld := ⟨GATE_HEALTH i, 0, 1, 0x0⟩
def GATE_HEALTH_CHECKS (i : Nat) : Fld := ⟨GATE_HEALTH i, 16, 16, 0x0⟩

/-- The word address of OXB_CFG (10, Oxbow settings). -/
def OXB_CFG : Nat := 0x300000
def OXB_CFG_EN : Fld := ⟨OXB_CFG, 0, 1, 0x181⟩
def OXB_CFG_MAX_MOVES : Fld := ⟨OXB_CFG, 1, 7, 0x181⟩
def OXB_CFG_SCRUB : Fld := ⟨OXB_CFG, 8, 1, 0x181⟩

/-- The word address of OXB_SHARE (10, migration bandwidth (R233)). -/
def OXB_SHARE : Nat := 0x300004
def OXB_SHARE_SHARE : Fld := ⟨OXB_SHARE, 0, 10, 0xfa0014⟩
def OXB_SHARE_EVAC_SHARE : Fld := ⟨OXB_SHARE, 16, 10, 0xfa0014⟩

/-- The word address of OXB_RANK (10, ranking and flip limits). -/
def OXB_RANK : Nat := 0x300008
def OXB_RANK_PROMOTE_THR : Fld := ⟨OXB_RANK, 0, 8, 0x40440840⟩
def OXB_RANK_DEMOTE_THR : Fld := ⟨OXB_RANK, 8, 8, 0x40440840⟩
def OXB_RANK_PASS_MAX : Fld := ⟨OXB_RANK, 16, 4, 0x40440840⟩
def OXB_RANK_FLIP_TRIES : Fld := ⟨OXB_RANK, 20, 4, 0x40440840⟩
def OXB_RANK_FLIP_MAX : Fld := ⟨OXB_RANK, 24, 8, 0x40440840⟩

/-- The word address of OXB_STAT (10, Oxbow status). -/
def OXB_STAT : Nat := 0x30000c
def OXB_STAT_ACTIVE : Fld := ⟨OXB_STAT, 0, 7, 0x0⟩
def OXB_STAT_EVAC : Fld := ⟨OXB_STAT, 7, 1, 0x0⟩
def OXB_STAT_SCRUBBING : Fld := ⟨OXB_STAT, 8, 1, 0x0⟩
def OXB_STAT_PASS_CNT : Fld := ⟨OXB_STAT, 16, 16, 0x0⟩

/-- The word address of OXB_DONE (10, completed moves). -/
def OXB_DONE : Nat := 0x300010
def OXB_DONE_DONE : Fld := ⟨OXB_DONE, 0, 32, 0x0⟩

/-- The word address of OXB_ABORT (10, aborted moves). -/
def OXB_ABORT : Nat := 0x300014
def OXB_ABORT_ABORTED : Fld := ⟨OXB_ABORT, 0, 16, 0x0⟩
def OXB_ABORT_HOT : Fld := ⟨OXB_ABORT, 16, 16, 0x0⟩

/-- The word address of OXB_FLIP (10, flip counts). -/
def OXB_FLIP : Nat := 0x300018
def OXB_FLIP_MISSED : Fld := ⟨OXB_FLIP, 0, 16, 0x0⟩
def OXB_FLIP_TOO_LATE : Fld := ⟨OXB_FLIP, 16, 16, 0x0⟩

/-- The word address of OXB_POOL_CFG (10, pool tier and reserve). -/
def OXB_POOL_CFG (i : Nat) : Nat := 0x301000 + i * 0x20
def OXB_POOL_CFG_TIER (i : Nat) : Fld := ⟨OXB_POOL_CFG i, 0, 3, 0x1000⟩
def OXB_POOL_CFG_PLACE (i : Nat) : Fld := ⟨OXB_POOL_CFG i, 3, 1, 0x1000⟩
def OXB_POOL_CFG_FREE_MIN (i : Nat) : Fld := ⟨OXB_POOL_CFG i, 8, 16, 0x1000⟩

/-- The word address of OXB_POOL_BASE (10, global base). -/
def OXB_POOL_BASE (i : Nat) : Nat := 0x301004 + i * 0x20
def OXB_POOL_BASE_GBASE (i : Nat) : Fld := ⟨OXB_POOL_BASE i, 0, 30, 0x0⟩

/-- The word address of OXB_POOL_SIZE (10, pool size). -/
def OXB_POOL_SIZE (i : Nat) : Nat := 0x301008 + i * 0x20
def OXB_POOL_SIZE_SIZE (i : Nat) : Fld := ⟨OXB_POOL_SIZE i, 0, 31, 0x0⟩

/-- The word address of OXB_POOL_FREE (10, free parcels). -/
def OXB_POOL_FREE (i : Nat) : Nat := 0x30100c + i * 0x20
def OXB_POOL_FREE_FREE (i : Nat) : Fld := ⟨OXB_POOL_FREE i, 0, 31, 0x0⟩
def OXB_POOL_FREE_VALID (i : Nat) : Fld := ⟨OXB_POOL_FREE i, 31, 1, 0x0⟩

/-- The word address of OXB_POOL_HEAT (10, per-pool heat aggregate (R226)). -/
def OXB_POOL_HEAT (i : Nat) : Nat := 0x301010 + i * 0x20
def OXB_POOL_HEAT_MEAN (i : Nat) : Fld := ⟨OXB_POOL_HEAT i, 0, 8, 0x0⟩
def OXB_POOL_HEAT_HOT (i : Nat) : Fld := ⟨OXB_POOL_HEAT i, 8, 8, 0x0⟩

/-- The word address of OXB_EVAC (10, evacuation control (R243)). -/
def OXB_EVAC (i : Nat) : Nat := 0x301014 + i * 0x20
def OXB_EVAC_START (i : Nat) : Fld := ⟨OXB_EVAC i, 0, 1, 0x0⟩
def OXB_EVAC_DISCARD (i : Nat) : Fld := ⟨OXB_EVAC i, 1, 1, 0x0⟩
def OXB_EVAC_CANCEL (i : Nat) : Fld := ⟨OXB_EVAC i, 2, 1, 0x0⟩
def OXB_EVAC_STATE (i : Nat) : Fld := ⟨OXB_EVAC i, 4, 2, 0x0⟩

/-- The word address of OXB_EVAC_REM (10, evacuation progress). -/
def OXB_EVAC_REM (i : Nat) : Nat := 0x301018 + i * 0x20
def OXB_EVAC_REM_REMAIN (i : Nat) : Fld := ⟨OXB_EVAC_REM i, 0, 31, 0x0⟩

/-- The word address of OXB_MV_STAT (10, move slot state). -/
def OXB_MV_STAT (i : Nat) : Nat := 0x302000 + i * 0x10
def OXB_MV_STAT_STATE (i : Nat) : Fld := ⟨OXB_MV_STAT i, 0, 3, 0x0⟩
def OXB_MV_STAT_FORCED (i : Nat) : Fld := ⟨OXB_MV_STAT i, 3, 1, 0x0⟩
def OXB_MV_STAT_PASS (i : Nat) : Fld := ⟨OXB_MV_STAT i, 4, 4, 0x0⟩
def OXB_MV_STAT_SEALED (i : Nat) : Fld := ⟨OXB_MV_STAT i, 8, 1, 0x0⟩
def OXB_MV_STAT_UNCOPIED (i : Nat) : Fld := ⟨OXB_MV_STAT i, 9, 13, 0x0⟩

/-- The word address of OXB_MV_POOLS (10, move pools). -/
def OXB_MV_POOLS (i : Nat) : Nat := 0x302004 + i * 0x10
def OXB_MV_POOLS_SRC (i : Nat) : Fld := ⟨OXB_MV_POOLS i, 0, 7, 0x0⟩
def OXB_MV_POOLS_DST (i : Nat) : Fld := ⟨OXB_MV_POOLS i, 8, 7, 0x0⟩

/-- The word address of OXB_MV_TT (10, entry moved). -/
def OXB_MV_TT (i : Nat) : Nat := 0x302008 + i * 0x10
def OXB_MV_TT_INDEX (i : Nat) : Fld := ⟨OXB_MV_TT i, 0, 30, 0x0⟩

/-- The word address of OXB_MV_PPI (10, target parcel). -/
def OXB_MV_PPI (i : Nat) : Nat := 0x30200c + i * 0x10
def OXB_MV_PPI_PPI (i : Nat) : Fld := ⟨OXB_MV_PPI i, 0, 30, 0x0⟩

/-- The word address of OXB_BQ_CFG (10, queue assignment (R246)). -/
def OXB_BQ_CFG (i : Nat) : Nat := 0x304000 + i * 0x20
def OXB_BQ_CFG_EN (i : Nat) : Fld := ⟨OXB_BQ_CFG i, 0, 1, 0x0⟩
def OXB_BQ_CFG_PORT (i : Nat) : Fld := ⟨OXB_BQ_CFG i, 1, 7, 0x0⟩
def OXB_BQ_CFG_SIZE (i : Nat) : Fld := ⟨OXB_BQ_CFG i, 8, 4, 0x0⟩

/-- The word address of OXB_BQ_BASE_LO (10, ring base). -/
def OXB_BQ_BASE_LO (i : Nat) : Nat := 0x304004 + i * 0x20
def OXB_BQ_BASE_LO_ADDR (i : Nat) : Fld := ⟨OXB_BQ_BASE_LO i, 12, 20, 0x0⟩

/-- The word address of OXB_BQ_BASE_HI (10, ring base). -/
def OXB_BQ_BASE_HI (i : Nat) : Nat := 0x304008 + i * 0x20
def OXB_BQ_BASE_HI_ADDR (i : Nat) : Fld := ⟨OXB_BQ_BASE_HI i, 0, 32, 0x0⟩

/-- The word address of OXB_BQ_TAIL (10, producer index). -/
def OXB_BQ_TAIL (i : Nat) : Nat := 0x30400c + i * 0x20
def OXB_BQ_TAIL_TAIL (i : Nat) : Fld := ⟨OXB_BQ_TAIL i, 0, 20, 0x0⟩

/-- The word address of OXB_BQ_HEAD (10, consumer index). -/
def OXB_BQ_HEAD (i : Nat) : Nat := 0x304010 + i * 0x20
def OXB_BQ_HEAD_HEAD (i : Nat) : Fld := ⟨OXB_BQ_HEAD i, 0, 20, 0x0⟩

/-- The word address of OXB_BQ_STAT (10, queue status). -/
def OXB_BQ_STAT (i : Nat) : Nat := 0x304014 + i * 0x20
def OXB_BQ_STAT_BUSY (i : Nat) : Fld := ⟨OXB_BQ_STAT i, 0, 1, 0x0⟩
def OXB_BQ_STAT_FETCH_ERR (i : Nat) : Fld := ⟨OXB_BQ_STAT i, 1, 1, 0x0⟩
def OXB_BQ_STAT_DONE_CNT (i : Nat) : Fld := ⟨OXB_BQ_STAT i, 16, 16, 0x0⟩

/-- The word address of PRT_DRR_Q (11, staged quanta of classes 2k and 2k+1). -/
def PRT_DRR_Q (i j : Nat) : Nat := 0x1000200 + i * 0x10000 + j * 0x4
def PRT_DRR_Q_QUANTUM_LO (i j : Nat) : Fld := ⟨PRT_DRR_Q i j, 0, 16, 0x1100110⟩
def PRT_DRR_Q_QUANTUM_HI (i j : Nat) : Fld := ⟨PRT_DRR_Q i j, 16, 16, 0x1100110⟩

/-- The word address of PRT_DRR_CUR (11, quanta in force). -/
def PRT_DRR_CUR (i j : Nat) : Nat := 0x1000210 + i * 0x10000 + j * 0x4
def PRT_DRR_CUR_QUANTUM_LO_CUR (i j : Nat) : Fld := ⟨PRT_DRR_CUR i j, 0, 16, 0x1100110⟩
def PRT_DRR_CUR_QUANTUM_HI_CUR (i j : Nat) : Fld := ⟨PRT_DRR_CUR i j, 16, 16, 0x1100110⟩

/-- The word address of PRT_SCH_CFG (11, scheduler settings). -/
def PRT_SCH_CFG (i : Nat) : Nat := 0x1000220 + i * 0x10000
def PRT_SCH_CFG_OVERHEAD (i : Nat) : Fld := ⟨PRT_SCH_CFG i, 0, 6, 0x100⟩
def PRT_SCH_CFG_FIT (i : Nat) : Fld := ⟨PRT_SCH_CFG i, 8, 1, 0x100⟩
def PRT_SCH_CFG_DEF_TC (i : Nat) : Fld := ⟨PRT_SCH_CFG i, 10, 3, 0x100⟩

/-- The word address of PRT_GL_NEW (11, staged list, slots 4k to 4k+3). -/
def PRT_GL_NEW (i j : Nat) : Nat := 0x1000230 + i * 0x10000 + j * 0x4
def PRT_GL_NEW_SLOT0 (i j : Nat) : Fld := ⟨PRT_GL_NEW i j, 0, 8, 0xffffffff⟩
def PRT_GL_NEW_SLOT1 (i j : Nat) : Fld := ⟨PRT_GL_NEW i j, 8, 8, 0xffffffff⟩
def PRT_GL_NEW_SLOT2 (i j : Nat) : Fld := ⟨PRT_GL_NEW i j, 16, 8, 0xffffffff⟩
def PRT_GL_NEW_SLOT3 (i j : Nat) : Fld := ⟨PRT_GL_NEW i j, 24, 8, 0xffffffff⟩

/-- The word address of PRT_GL_CUR (11, list in force). -/
def PRT_GL_CUR (i j : Nat) : Nat := 0x1000240 + i * 0x10000 + j * 0x4
def PRT_GL_CUR_SLOT0_CUR (i j : Nat) : Fld := ⟨PRT_GL_CUR i j, 0, 8, 0xffffffff⟩
def PRT_GL_CUR_SLOT1_CUR (i j : Nat) : Fld := ⟨PRT_GL_CUR i j, 8, 8, 0xffffffff⟩
def PRT_GL_CUR_SLOT2_CUR (i j : Nat) : Fld := ⟨PRT_GL_CUR i j, 16, 8, 0xffffffff⟩
def PRT_GL_CUR_SLOT3_CUR (i j : Nat) : Fld := ⟨PRT_GL_CUR i j, 24, 8, 0xffffffff⟩

/-- The word address of PRT_GL_AT_LO (11, named frame of the takeover). -/
def PRT_GL_AT_LO (i : Nat) : Nat := 0x1000250 + i * 0x10000
def PRT_GL_AT_LO_AT (i : Nat) : Fld := ⟨PRT_GL_AT_LO i, 0, 32, 0x0⟩

/-- The word address of PRT_GL_AT_HI (11, named frame of the takeover). -/
def PRT_GL_AT_HI (i : Nat) : Nat := 0x1000254 + i * 0x10000
def PRT_GL_AT_HI_AT (i : Nat) : Fld := ⟨PRT_GL_AT_HI i, 0, 32, 0x0⟩

/-- The word address of PRT_GL_CTL (11, gate-list control and status (R264)). -/
def PRT_GL_CTL (i : Nat) : Nat := 0x1000258 + i * 0x10000
def PRT_GL_CTL_EN_NEW (i : Nat) : Fld := ⟨PRT_GL_CTL i, 0, 1, 0x0⟩
def PRT_GL_CTL_ARM (i : Nat) : Fld := ⟨PRT_GL_CTL i, 1, 1, 0x0⟩
def PRT_GL_CTL_CANCEL (i : Nat) : Fld := ⟨PRT_GL_CTL i, 2, 1, 0x0⟩
def PRT_GL_CTL_PEND (i : Nat) : Fld := ⟨PRT_GL_CTL i, 3, 1, 0x0⟩
def PRT_GL_CTL_EN_CUR (i : Nat) : Fld := ⟨PRT_GL_CTL i, 4, 1, 0x0⟩
def PRT_GL_CTL_REFUSED (i : Nat) : Fld := ⟨PRT_GL_CTL i, 5, 1, 0x0⟩
def PRT_GL_CTL_OVERRUN (i : Nat) : Fld := ⟨PRT_GL_CTL i, 16, 16, 0x0⟩

/-- The word address of PRT_GL_TAKE (11, takeovers). -/
def PRT_GL_TAKE (i : Nat) : Nat := 0x100025c + i * 0x10000
def PRT_GL_TAKE_TAKE_CNT (i : Nat) : Fld := ⟨PRT_GL_TAKE i, 0, 16, 0x0⟩

/-- The word address of SHP_RATE (11, staged rate). -/
def SHP_RATE (i : Nat) : Nat := 0x180000 + i * 0x10
def SHP_RATE_RATE (i : Nat) : Fld := ⟨SHP_RATE i, 0, 24, 0x0⟩
def SHP_RATE_EN (i : Nat) : Fld := ⟨SHP_RATE i, 31, 1, 0x0⟩

/-- The word address of SHP_BURST (11, staged burst). -/
def SHP_BURST (i : Nat) : Nat := 0x180004 + i * 0x10
def SHP_BURST_BURST (i : Nat) : Fld := ⟨SHP_BURST i, 0, 24, 0x0⟩

/-- The word address of SHP_CUR (11, rate in force). -/
def SHP_CUR (i : Nat) : Nat := 0x180008 + i * 0x10
def SHP_CUR_RATE_CUR (i : Nat) : Fld := ⟨SHP_CUR i, 0, 24, 0x0⟩
def SHP_CUR_EN_CUR (i : Nat) : Fld := ⟨SHP_CUR i, 31, 1, 0x0⟩

/-- The word address of SHP_STAT (11, tokens). -/
def SHP_STAT (i : Nat) : Nat := 0x18000c + i * 0x10
def SHP_STAT_TOKENS (i : Nat) : Fld := ⟨SHP_STAT i, 0, 25, 0x0⟩
def SHP_STAT_HELD (i : Nat) : Fld := ⟨SHP_STAT i, 31, 1, 0x0⟩

/-- The word address of LWB_CFG (12, bridge timing). -/
def LWB_CFG : Nat := 0x400000
def LWB_CFG_LOCK_TMO : Fld := ⟨LWB_CFG, 0, 8, 0x10041040⟩
def LWB_CFG_COMP_TMO : Fld := ⟨LWB_CFG, 8, 8, 0x10041040⟩
def LWB_CFG_PF_LIFE : Fld := ⟨LWB_CFG, 16, 8, 0x10041040⟩
def LWB_CFG_MIR_PER : Fld := ⟨LWB_CFG, 24, 8, 0x10041040⟩

/-- The word address of LWB_STAT (12, bridge status). -/
def LWB_STAT : Nat := 0x400004
def LWB_STAT_COMPACT : Fld := ⟨LWB_STAT, 0, 1, 0x1⟩
def LWB_STAT_WINDOWS : Fld := ⟨LWB_STAT, 1, 7, 0x1⟩
def LWB_STAT_LOCKS : Fld := ⟨LWB_STAT, 8, 8, 0x1⟩
def LWB_STAT_UP_DROP : Fld := ⟨LWB_STAT, 16, 16, 0x1⟩

/-- The word address of LWB_DB_LO (12, doorbell page). -/
def LWB_DB_LO : Nat := 0x400008
def LWB_DB_LO_ADDR : Fld := ⟨LWB_DB_LO, 12, 20, 0x0⟩

/-- The word address of LWB_DB_HI (12, doorbell page). -/
def LWB_DB_HI : Nat := 0x40000c
def LWB_DB_HI_ADDR : Fld := ⟨LWB_DB_HI, 0, 32, 0x0⟩

/-- The word address of LWB_LOCK (12, far-bus lock of host port p). -/
def LWB_LOCK (i : Nat) : Nat := 0x400800 + i * 0x4
def LWB_LOCK_WIN (i : Nat) : Fld := ⟨LWB_LOCK i, 0, 6, 0x0⟩
def LWB_LOCK_ACQ (i : Nat) : Fld := ⟨LWB_LOCK i, 6, 1, 0x0⟩
def LWB_LOCK_REL (i : Nat) : Fld := ⟨LWB_LOCK i, 7, 1, 0x0⟩
def LWB_LOCK_HELD (i : Nat) : Fld := ⟨LWB_LOCK i, 8, 1, 0x0⟩
def LWB_LOCK_WAIT (i : Nat) : Fld := ⟨LWB_LOCK i, 9, 1, 0x0⟩
def LWB_LOCK_REFUSED (i : Nat) : Fld := ⟨LWB_LOCK i, 10, 1, 0x0⟩
def LWB_LOCK_TMO (i : Nat) : Fld := ⟨LWB_LOCK i, 11, 1, 0x0⟩
def LWB_LOCK_TMO_CNT (i : Nat) : Fld := ⟨LWB_LOCK i, 16, 16, 0x0⟩

/-- The word address of LWB_WIN_CFG (12, staged window configuration). -/
def LWB_WIN_CFG (i : Nat) : Nat := 0x401000 + i * 0x80
def LWB_WIN_CFG_EN (i : Nat) : Fld := ⟨LWB_WIN_CFG i, 0, 1, 0x200000⟩
def LWB_WIN_CFG_PORT (i : Nat) : Fld := ⟨LWB_WIN_CFG i, 1, 7, 0x200000⟩
def LWB_WIN_CFG_BIND (i : Nat) : Fld := ⟨LWB_WIN_CFG i, 8, 12, 0x200000⟩
def LWB_WIN_CFG_WIDTH (i : Nat) : Fld := ⟨LWB_WIN_CFG i, 20, 2, 0x200000⟩
def LWB_WIN_CFG_BIGEND (i : Nat) : Fld := ⟨LWB_WIN_CFG i, 22, 1, 0x200000⟩
def LWB_WIN_CFG_POSTED (i : Nat) : Fld := ⟨LWB_WIN_CFG i, 23, 1, 0x200000⟩
def LWB_WIN_CFG_NOSE (i : Nat) : Fld := ⟨LWB_WIN_CFG i, 24, 1, 0x200000⟩
def LWB_WIN_CFG_SPARSE (i : Nat) : Fld := ⟨LWB_WIN_CFG i, 25, 1, 0x200000⟩
def LWB_WIN_CFG_PF_LINES (i : Nat) : Fld := ⟨LWB_WIN_CFG i, 26, 3, 0x200000⟩
def LWB_WIN_CFG_LK_TLP (i : Nat) : Fld := ⟨LWB_WIN_CFG i, 29, 1, 0x200000⟩

/-- The word address of LWB_WIN_CUR (12, configuration in force). -/
def LWB_WIN_CUR (i : Nat) : Nat := 0x401004 + i * 0x80
def LWB_WIN_CUR_CFG_CUR (i : Nat) : Fld := ⟨LWB_WIN_CUR i, 0, 30, 0x0⟩

/-- The word address of LWB_WIN_BASE (12, DPA range). -/
def LWB_WIN_BASE (i : Nat) : Nat := 0x401008 + i * 0x80
def LWB_WIN_BASE_BASE (i : Nat) : Fld := ⟨LWB_WIN_BASE i, 0, 30, 0x0⟩

/-- The word address of LWB_WIN_SIZE (12, DPA range). -/
def LWB_WIN_SIZE (i : Nat) : Nat := 0x40100c + i * 0x80
def LWB_WIN_SIZE_SIZE (i : Nat) : Fld := ⟨LWB_WIN_SIZE i, 0, 21, 0x0⟩

/-- The word address of LWB_WIN_FAR_LO (12, far base). -/
def LWB_WIN_FAR_LO (i : Nat) : Nat := 0x401010 + i * 0x80
def LWB_WIN_FAR_LO_FAR (i : Nat) : Fld := ⟨LWB_WIN_FAR_LO i, 12, 20, 0x0⟩

/-- The word address of LWB_WIN_FAR_HI (12, far base). -/
def LWB_WIN_FAR_HI (i : Nat) : Nat := 0x401014 + i * 0x80
def LWB_WIN_FAR_HI_FAR (i : Nat) : Fld := ⟨LWB_WIN_FAR_HI i, 0, 32, 0x0⟩

/-- The word address of LWB_WIN_FENCE (12, fence (R277)). -/
def LWB_WIN_FENCE (i : Nat) : Nat := 0x401018 + i * 0x80
def LWB_WIN_FENCE_FENCE (i : Nat) : Fld := ⟨LWB_WIN_FENCE i, 0, 1, 0x6⟩
def LWB_WIN_FENCE_DONE (i : Nat) : Fld := ⟨LWB_WIN_FENCE i, 1, 1, 0x6⟩
def LWB_WIN_FENCE_OK (i : Nat) : Fld := ⟨LWB_WIN_FENCE i, 2, 1, 0x6⟩

/-- The word address of LWB_WIN_WFAIL (12, first write failure). -/
def LWB_WIN_WFAIL (i : Nat) : Nat := 0x40101c + i * 0x80
def LWB_WIN_WFAIL_VALID (i : Nat) : Fld := ⟨LWB_WIN_WFAIL i, 0, 1, 0x0⟩
def LWB_WIN_WFAIL_ADDR_VALID (i : Nat) : Fld := ⟨LWB_WIN_WFAIL i, 1, 1, 0x0⟩
def LWB_WIN_WFAIL_POSTED (i : Nat) : Fld := ⟨LWB_WIN_WFAIL i, 2, 1, 0x0⟩
def LWB_WIN_WFAIL_PWF_CNT (i : Nat) : Fld := ⟨LWB_WIN_WFAIL i, 16, 16, 0x0⟩

/-- The word address of LWB_WIN_WADDR_LO (12, DPA of the first write failure). -/
def LWB_WIN_WADDR_LO (i : Nat) : Nat := 0x401020 + i * 0x80
def LWB_WIN_WADDR_LO_DPA (i : Nat) : Fld := ⟨LWB_WIN_WADDR_LO i, 0, 32, 0x0⟩

/-- The word address of LWB_WIN_WADDR_HI (12, DPA of the first write failure). -/
def LWB_WIN_WADDR_HI (i : Nat) : Nat := 0x401024 + i * 0x80
def LWB_WIN_WADDR_HI_DPA (i : Nat) : Fld := ⟨LWB_WIN_WADDR_HI i, 0, 32, 0x0⟩

/-- The word address of LWB_WIN_ERR (12, unit failures). -/
def LWB_WIN_ERR (i : Nat) : Nat := 0x401028 + i * 0x80
def LWB_WIN_ERR_RD_FAIL (i : Nat) : Fld := ⟨LWB_WIN_ERR i, 0, 16, 0x0⟩
def LWB_WIN_ERR_WR_FAIL (i : Nat) : Fld := ⟨LWB_WIN_ERR i, 16, 16, 0x0⟩

/-- The word address of LWB_WIN_PF (12, prefetch counts). -/
def LWB_WIN_PF (i : Nat) : Nat := 0x40102c + i * 0x80
def LWB_WIN_PF_PF_USED (i : Nat) : Fld := ⟨LWB_WIN_PF i, 0, 16, 0x0⟩
def LWB_WIN_PF_PF_DISC (i : Nat) : Fld := ⟨LWB_WIN_PF i, 16, 16, 0x0⟩

/-- The word address of LWB_WIN_IRQ (12, interrupt routing (R283, R284)). -/
def LWB_WIN_IRQ (i : Nat) : Nat := 0x401030 + i * 0x80
def LWB_WIN_IRQ_SRC (i : Nat) : Fld := ⟨LWB_WIN_IRQ i, 0, 6, 0x0⟩
def LWB_WIN_IRQ_MSI_EN (i : Nat) : Fld := ⟨LWB_WIN_IRQ i, 6, 1, 0x0⟩
def LWB_WIN_IRQ_INTX_EN (i : Nat) : Fld := ⟨LWB_WIN_IRQ i, 7, 1, 0x0⟩
def LWB_WIN_IRQ_SB_EN (i : Nat) : Fld := ⟨LWB_WIN_IRQ i, 8, 1, 0x0⟩
def LWB_WIN_IRQ_IRQ_CNT (i : Nat) : Fld := ⟨LWB_WIN_IRQ i, 16, 16, 0x0⟩

/-- The word address of LWB_WIN_MIR_CTL (12, mirror control (R285)). -/
def LWB_WIN_MIR_CTL (i : Nat) : Nat := 0x401034 + i * 0x80
def LWB_WIN_MIR_CTL_IN_EN (i : Nat) : Fld := ⟨LWB_WIN_MIR_CTL i, 0, 1, 0x0⟩
def LWB_WIN_MIR_CTL_OUT_EN (i : Nat) : Fld := ⟨LWB_WIN_MIR_CTL i, 1, 1, 0x0⟩
def LWB_WIN_MIR_CTL_IN_OFS (i : Nat) : Fld := ⟨LWB_WIN_MIR_CTL i, 2, 12, 0x0⟩
def LWB_WIN_MIR_CTL_OUT_OFS (i : Nat) : Fld := ⟨LWB_WIN_MIR_CTL i, 14, 12, 0x0⟩

/-- The word address of LWB_WIN_MIR_IN_LO (12, mirrored values). -/
def LWB_WIN_MIR_IN_LO (i : Nat) : Nat := 0x401038 + i * 0x80
def LWB_WIN_MIR_IN_LO_VALUE (i : Nat) : Fld := ⟨LWB_WIN_MIR_IN_LO i, 0, 32, 0x0⟩

/-- The word address of LWB_WIN_MIR_IN_HI (12, mirrored values). -/
def LWB_WIN_MIR_IN_HI (i : Nat) : Nat := 0x40103c + i * 0x80
def LWB_WIN_MIR_IN_HI_VALUE (i : Nat) : Fld := ⟨LWB_WIN_MIR_IN_HI i, 0, 32, 0x0⟩

/-- The word address of LWB_WIN_MIR_OUT_LO (12, mirrored values). -/
def LWB_WIN_MIR_OUT_LO (i : Nat) : Nat := 0x401040 + i * 0x80
def LWB_WIN_MIR_OUT_LO_VALUE (i : Nat) : Fld := ⟨LWB_WIN_MIR_OUT_LO i, 0, 32, 0x0⟩

/-- The word address of LWB_WIN_MIR_OUT_HI (12, mirrored values). -/
def LWB_WIN_MIR_OUT_HI (i : Nat) : Nat := 0x401044 + i * 0x80
def LWB_WIN_MIR_OUT_HI_VALUE (i : Nat) : Fld := ⟨LWB_WIN_MIR_OUT_HI i, 0, 32, 0x0⟩

/-- The word address of LWB_WIN_MIR_SEQ (12, mirror transfers). -/
def LWB_WIN_MIR_SEQ (i : Nat) : Nat := 0x401048 + i * 0x80
def LWB_WIN_MIR_SEQ_IN_SEQ (i : Nat) : Fld := ⟨LWB_WIN_MIR_SEQ i, 0, 16, 0x0⟩
def LWB_WIN_MIR_SEQ_OUT_SEQ (i : Nat) : Fld := ⟨LWB_WIN_MIR_SEQ i, 16, 16, 0x0⟩

/-- The word address of GLB_ID (13, part identity). -/
def GLB_ID : Nat := 0x100
def GLB_ID_VENDOR_ID : Fld := ⟨GLB_ID, 0, 16, 0x0⟩
def GLB_ID_DEVICE_ID : Fld := ⟨GLB_ID, 16, 16, 0x0⟩

/-- The word address of GLB_STEP (13, stepping). -/
def GLB_STEP : Nat := 0x104
def GLB_STEP_NUM : Fld := ⟨GLB_STEP, 0, 4, 0x0⟩
def GLB_STEP_LETTER : Fld := ⟨GLB_STEP, 4, 4, 0x0⟩

/-- The word address of GLB_ID_DIGEST (13, identity digest (R289)). -/
def GLB_ID_DIGEST (i : Nat) : Nat := 0x110 + i * 0x4
def GLB_ID_DIGEST_DIGEST (i : Nat) : Fld := ⟨GLB_ID_DIGEST i, 0, 32, 0x0⟩

/-- The word address of GLB_LC_STAT (13, lifecycle). -/
def GLB_LC_STAT : Nat := 0x140
def GLB_LC_STAT_STATE : Fld := ⟨GLB_LC_STAT, 0, 3, 0x0⟩
def GLB_LC_STAT_CFG_LOCK : Fld := ⟨GLB_LC_STAT, 3, 1, 0x0⟩
def GLB_LC_STAT_PENDING : Fld := ⟨GLB_LC_STAT, 4, 1, 0x0⟩
def GLB_LC_STAT_LC_FAULT : Fld := ⟨GLB_LC_STAT, 5, 1, 0x0⟩
def GLB_LC_STAT_TRANS_CNT : Fld := ⟨GLB_LC_STAT, 8, 8, 0x0⟩

/-- The word address of GLB_FW_SVN (13, firmware versions). -/
def GLB_FW_SVN : Nat := 0x144
def GLB_FW_SVN_FLOOR : Fld := ⟨GLB_FW_SVN, 0, 7, 0x0⟩
def GLB_FW_SVN_RUN_SVN : Fld := ⟨GLB_FW_SVN, 8, 7, 0x0⟩
def GLB_FW_SVN_BANK : Fld := ⟨GLB_FW_SVN, 15, 1, 0x0⟩
def GLB_FW_SVN_ALT_VALID : Fld := ⟨GLB_FW_SVN, 16, 1, 0x0⟩

/-- The word address of GLB_FW_POL (13, firmware policy). -/
def GLB_FW_POL : Nat := 0x148
def GLB_FW_POL_COSIGN : Fld := ⟨GLB_FW_POL, 0, 1, 0x0⟩

/-- The word address of GLB_BID_STAT (13, board identity (R301)). -/
def GLB_BID_STAT : Nat := 0x14c
def GLB_BID_STAT_READ_OK : Fld := ⟨GLB_BID_STAT, 0, 1, 0x0⟩
def GLB_BID_STAT_NEW_BOARD : Fld := ⟨GLB_BID_STAT, 1, 1, 0x0⟩
def GLB_BID_STAT_NEW_DEVICE : Fld := ⟨GLB_BID_STAT, 2, 1, 0x0⟩
def GLB_BID_STAT_BID_ERR : Fld := ⟨GLB_BID_STAT, 3, 1, 0x0⟩

/-- The word address of GLB_TOK_STAT (13, tokens (R299)). -/
def GLB_TOK_STAT : Nat := 0x150
def GLB_TOK_STAT_TOK_OK : Fld := ⟨GLB_TOK_STAT, 0, 16, 0x0⟩
def GLB_TOK_STAT_TOK_REJ : Fld := ⟨GLB_TOK_STAT, 16, 16, 0x0⟩

/-- The word address of MBX_CTL (14, management reset request). -/
def MBX_CTL : Nat := 0x40000
def MBX_CTL_MRST : Fld := ⟨MBX_CTL, 0, 1, 0x0⟩

/-- The word address of MBX_STAT (14, interpreter status). -/
def MBX_STAT : Nat := 0x40004
def MBX_STAT_SESSIONS : Fld := ⟨MBX_STAT, 0, 9, 0x0⟩
def MBX_STAT_READY : Fld := ⟨MBX_STAT, 9, 1, 0x0⟩
def MBX_STAT_MRST_CNT : Fld := ⟨MBX_STAT, 16, 16, 0x0⟩

/-- The word address of MBX_STAGE (14, staging lock (R313)). -/
def MBX_STAGE : Nat := 0x40008
def MBX_STAGE_HOLDER : Fld := ⟨MBX_STAGE, 0, 16, 0x0⟩
def MBX_STAGE_HELD : Fld := ⟨MBX_STAGE, 16, 1, 0x0⟩
def MBX_STAGE_LONG : Fld := ⟨MBX_STAGE, 24, 7, 0x0⟩

/-- The word address of MBX_ERR (14, session errors). -/
def MBX_ERR : Nat := 0x4000c
def MBX_ERR_AUTH_FAIL : Fld := ⟨MBX_ERR, 0, 16, 0x0⟩
def MBX_ERR_SEQ_ERR : Fld := ⟨MBX_ERR, 16, 16, 0x0⟩

/-- The word address of MBX_STAGE_REF (14, dropped staging writes). -/
def MBX_STAGE_REF : Nat := 0x40010
def MBX_STAGE_REF_STAGE_REF : Fld := ⟨MBX_STAGE_REF, 0, 16, 0x0⟩

/-- The word address of MBX_MRST_STAT (14, last management reset (R320)). -/
def MBX_MRST_STAT : Nat := 0x40014
def MBX_MRST_STAT_CANCELLED : Fld := ⟨MBX_MRST_STAT, 0, 8, 0x0⟩
def MBX_MRST_STAT_ABORTED : Fld := ⟨MBX_MRST_STAT, 8, 8, 0x0⟩
def MBX_MRST_STAT_CONTINUED : Fld := ⟨MBX_MRST_STAT, 16, 8, 0x0⟩
def MBX_MRST_STAT_CAUSE : Fld := ⟨MBX_MRST_STAT, 24, 3, 0x0⟩

/-- The word address of MBX_RT (14, route r (Table 14-1)). -/
def MBX_RT (i : Nat) : Nat := 0x40100 + i * 0x4
def MBX_RT_QUEUED (i : Nat) : Fld := ⟨MBX_RT i, 0, 5, 0x0⟩
def MBX_RT_ATTACHED (i : Nat) : Fld := ⟨MBX_RT i, 5, 1, 0x0⟩
def MBX_RT_DROP (i : Nat) : Fld := ⟨MBX_RT i, 16, 16, 0x0⟩

/-- The word address of MBX_LC (14, long-command slot h (R311)). -/
def MBX_LC (i : Nat) : Nat := 0x41000 + i * 0x4
def MBX_LC_OPCODE (i : Nat) : Fld := ⟨MBX_LC i, 0, 16, 0x0⟩
def MBX_LC_STATE (i : Nat) : Fld := ⟨MBX_LC i, 16, 3, 0x0⟩
def MBX_LC_GEN (i : Nat) : Fld := ⟨MBX_LC i, 19, 10, 0x0⟩

/-- The word address of GLB_MODE (15, mode and power state in force). -/
def GLB_MODE : Nat := 0x0
def GLB_MODE_CUR : Fld := ⟨GLB_MODE, 0, 4, 0x30⟩
def GLB_MODE_PWR : Fld := ⟨GLB_MODE, 4, 2, 0x30⟩
def GLB_MODE_PEND : Fld := ⟨GLB_MODE, 6, 1, 0x30⟩
def GLB_MODE_EVAC_DONE : Fld := ⟨GLB_MODE, 7, 1, 0x30⟩
def GLB_MODE_MAIN_SAFE : Fld := ⟨GLB_MODE, 8, 1, 0x30⟩

/-- The word address of GLB_MODE_REQ (15, mode and power requests). -/
def GLB_MODE_REQ : Nat := 0x4
def GLB_MODE_REQ_MODE : Fld := ⟨GLB_MODE_REQ, 0, 4, 0x0⟩
def GLB_MODE_REQ_FORCE : Fld := ⟨GLB_MODE_REQ, 7, 1, 0x0⟩
def GLB_MODE_REQ_PWR : Fld := ⟨GLB_MODE_REQ, 8, 2, 0x0⟩
def GLB_MODE_REQ_MREQ : Fld := ⟨GLB_MODE_REQ, 16, 1, 0x0⟩
def GLB_MODE_REQ_PREQ : Fld := ⟨GLB_MODE_REQ, 17, 1, 0x0⟩
def GLB_MODE_REQ_REFUSED : Fld := ⟨GLB_MODE_REQ, 18, 1, 0x0⟩

/-- The word address of GLB_MODE_FRM_LO (15, frame at which the mode in force took effect). -/
def GLB_MODE_FRM_LO : Nat := 0x8
def GLB_MODE_FRM_LO_FRAME : Fld := ⟨GLB_MODE_FRM_LO, 0, 32, 0x0⟩

/-- The word address of GLB_MODE_FRM_HI (15, frame at which the mode in force took effect). -/
def GLB_MODE_FRM_HI : Nat := 0xc
def GLB_MODE_FRM_HI_FRAME : Fld := ⟨GLB_MODE_FRM_HI, 0, 32, 0x0⟩

/-- The word address of GLB_DEG (15, Degraded conditions (R326)). -/
def GLB_DEG : Nat := 0x10
def GLB_DEG_MIRROR : Fld := ⟨GLB_DEG, 0, 1, 0x0⟩
def GLB_DEG_STANDBY_PAIR : Fld := ⟨GLB_DEG, 1, 1, 0x0⟩
def GLB_DEG_FORECAST : Fld := ⟨GLB_DEG, 2, 1, 0x0⟩

/-- The word address of GLB_QUAR (15, Quarantine (R336)). -/
def GLB_QUAR : Nat := 0x14
def GLB_QUAR_ACTIVE : Fld := ⟨GLB_QUAR, 0, 1, 0x0⟩
def GLB_QUAR_RECORD : Fld := ⟨GLB_QUAR, 16, 16, 0x0⟩

/-- The word address of GLB_RST_CTL (15, reset requests (R343)). -/
def GLB_RST_CTL : Nat := 0x20
def GLB_RST_CTL_WARM : Fld := ⟨GLB_RST_CTL, 0, 1, 0x0⟩
def GLB_RST_CTL_COLD : Fld := ⟨GLB_RST_CTL, 1, 1, 0x0⟩
def GLB_RST_CTL_PORT_RST : Fld := ⟨GLB_RST_CTL, 2, 1, 0x0⟩
def GLB_RST_CTL_PORT : Fld := ⟨GLB_RST_CTL, 8, 7, 0x0⟩

/-- The word address of GLB_RST_STAT (15, reset history). -/
def GLB_RST_STAT : Nat := 0x24
def GLB_RST_STAT_COLD_CAUSE : Fld := ⟨GLB_RST_STAT, 0, 3, 0x0⟩
def GLB_RST_STAT_LAST_WARM : Fld := ⟨GLB_RST_STAT, 3, 1, 0x0⟩
def GLB_RST_STAT_WARM_CNT : Fld := ⟨GLB_RST_STAT, 16, 16, 0x0⟩

/-- The word address of GLB_HOLD (15, Hold history (R334)). -/
def GLB_HOLD : Nat := 0x28
def GLB_HOLD_RESUME_US : Fld := ⟨GLB_HOLD, 0, 16, 0x0⟩
def GLB_HOLD_HOLD_CNT : Fld := ⟨GLB_HOLD, 16, 16, 0x0⟩

/-- The word address of GLB_DBG_STAT (15, debug session (R337, R339)). -/
def GLB_DBG_STAT : Nat := 0x30
def GLB_DBG_STAT_OPEN : Fld := ⟨GLB_DBG_STAT, 0, 1, 0x0⟩
def GLB_DBG_STAT_SIGNER : Fld := ⟨GLB_DBG_STAT, 1, 1, 0x0⟩
def GLB_DBG_STAT_EFF : Fld := ⟨GLB_DBG_STAT, 8, 7, 0x0⟩
def GLB_DBG_STAT_LOCKED_CNT : Fld := ⟨GLB_DBG_STAT, 16, 16, 0x0⟩

/-- The word address of GLB_DBG_LIFE_LO (15, session end). -/
def GLB_DBG_LIFE_LO : Nat := 0x34
def GLB_DBG_LIFE_LO_LAST : Fld := ⟨GLB_DBG_LIFE_LO, 0, 32, 0x0⟩

/-- The word address of GLB_DBG_LIFE_HI (15, session end). -/
def GLB_DBG_LIFE_HI : Nat := 0x38
def GLB_DBG_LIFE_HI_LAST : Fld := ⟨GLB_DBG_LIFE_HI, 0, 32, 0x0⟩

/-- The word address of SLT_FEED (16, feed voltages). -/
def SLT_FEED (i : Nat) : Nat := 0x80000 + i * 0x4
def SLT_FEED_VA (i : Nat) : Fld := ⟨SLT_FEED i, 0, 16, 0x0⟩
def SLT_FEED_VB (i : Nat) : Fld := ⟨SLT_FEED i, 16, 16, 0x0⟩

/-- The word address of SLT_FEED_STAT (16, feed windows (R355)). -/
def SLT_FEED_STAT : Nat := 0x80010
def SLT_FEED_STAT_A_OK : Fld := ⟨SLT_FEED_STAT, 0, 4, 0x0⟩
def SLT_FEED_STAT_B_OK : Fld := ⟨SLT_FEED_STAT, 4, 4, 0x0⟩
def SLT_FEED_STAT_A_OV : Fld := ⟨SLT_FEED_STAT, 8, 4, 0x0⟩
def SLT_FEED_STAT_B_OV : Fld := ⟨SLT_FEED_STAT, 12, 4, 0x0⟩

/-- The word address of SLT_CH_CFG (16, staged channel configuration). -/
def SLT_CH_CFG (i : Nat) : Nat := 0x81000 + i * 0x80
def SLT_CH_CFG_AUTO_ON (i : Nat) : Fld := ⟨SLT_CH_CFG i, 0, 1, 0x6426⟩
def SLT_CH_CFG_FEED_A_EN (i : Nat) : Fld := ⟨SLT_CH_CFG i, 1, 1, 0x6426⟩
def SLT_CH_CFG_FEED_B_EN (i : Nat) : Fld := ⟨SLT_CH_CFG i, 2, 1, 0x6426⟩
def SLT_CH_CFG_PRIO (i : Nat) : Fld := ⟨SLT_CH_CFG i, 3, 1, 0x6426⟩
def SLT_CH_CFG_REVERT (i : Nat) : Fld := ⟨SLT_CH_CFG i, 4, 1, 0x6426⟩
def SLT_CH_CFG_SLEW (i : Nat) : Fld := ⟨SLT_CH_CFG i, 5, 2, 0x6426⟩
def SLT_CH_CFG_INS_DELAY (i : Nat) : Fld := ⟨SLT_CH_CFG i, 8, 11, 0x6426⟩

/-- The word address of SLT_CH_TIME (16, staged timing). -/
def SLT_CH_TIME (i : Nat) : Nat := 0x81004 + i * 0x80
def SLT_CH_TIME_RETRY_OFF (i : Nat) : Fld := ⟨SLT_CH_TIME i, 0, 8, 0x6c323c01⟩
def SLT_CH_TIME_COOL (i : Nat) : Fld := ⟨SLT_CH_TIME i, 8, 8, 0x6c323c01⟩
def SLT_CH_TIME_START_TMO (i : Nat) : Fld := ⟨SLT_CH_TIME i, 16, 8, 0x6c323c01⟩
def SLT_CH_TIME_VOUT_MIN (i : Nat) : Fld := ⟨SLT_CH_TIME i, 24, 8, 0x6c323c01⟩

/-- The word address of SLT_CH_SHUNT (16, staged shunt). -/
def SLT_CH_SHUNT (i : Nat) : Nat := 0x81008 + i * 0x80
def SLT_CH_SHUNT_RSHUNT (i : Nat) : Fld := ⟨SLT_CH_SHUNT i, 0, 16, 0x7d0⟩

/-- The word address of SLT_CH_BRK (16, staged curve point k (R356)). -/
def SLT_CH_BRK (i j : Nat) : Nat := 0x81010 + i * 0x80 + j * 0x4
def SLT_CH_BRK_I (i j : Nat) : Fld := ⟨SLT_CH_BRK i j, 0, 8, brkReset j⟩
def SLT_CH_BRK_T (i j : Nat) : Fld := ⟨SLT_CH_BRK i j, 8, 24, brkReset j⟩

/-- The word address of SLT_CH_CTL (16, channel commands). -/
def SLT_CH_CTL (i : Nat) : Nat := 0x81030 + i * 0x80
def SLT_CH_CTL_ON (i : Nat) : Fld := ⟨SLT_CH_CTL i, 0, 1, 0x0⟩
def SLT_CH_CTL_OFF (i : Nat) : Fld := ⟨SLT_CH_CTL i, 1, 1, 0x0⟩
def SLT_CH_CTL_CLR (i : Nat) : Fld := ⟨SLT_CH_CTL i, 2, 1, 0x0⟩
def SLT_CH_CTL_APPLY (i : Nat) : Fld := ⟨SLT_CH_CTL i, 3, 1, 0x0⟩
def SLT_CH_CTL_CFG_REF (i : Nat) : Fld := ⟨SLT_CH_CTL i, 4, 1, 0x0⟩
def SLT_CH_CTL_CMD_REF (i : Nat) : Fld := ⟨SLT_CH_CTL i, 5, 1, 0x0⟩

/-- The word address of SLT_CH_STAT (16, channel status). -/
def SLT_CH_STAT (i : Nat) : Nat := 0x81034 + i * 0x80
def SLT_CH_STAT_STATE (i : Nat) : Fld := ⟨SLT_CH_STAT i, 0, 3, 0x0⟩
def SLT_CH_STAT_PRESENT (i : Nat) : Fld := ⟨SLT_CH_STAT i, 3, 1, 0x0⟩
def SLT_CH_STAT_PG (i : Nat) : Fld := ⟨SLT_CH_STAT i, 4, 1, 0x0⟩
def SLT_CH_STAT_FEED_ACT (i : Nat) : Fld := ⟨SLT_CH_STAT i, 5, 2, 0x0⟩
def SLT_CH_STAT_ENABLE (i : Nat) : Fld := ⟨SLT_CH_STAT i, 7, 1, 0x0⟩
def SLT_CH_STAT_LATCHED (i : Nat) : Fld := ⟨SLT_CH_STAT i, 8, 1, 0x0⟩
def SLT_CH_STAT_DAMAGED (i : Nat) : Fld := ⟨SLT_CH_STAT i, 9, 1, 0x0⟩
def SLT_CH_STAT_CAUSE (i : Nat) : Fld := ⟨SLT_CH_STAT i, 10, 3, 0x0⟩
def SLT_CH_STAT_POINT (i : Nat) : Fld := ⟨SLT_CH_STAT i, 13, 3, 0x0⟩
def SLT_CH_STAT_FAULT_CNT (i : Nat) : Fld := ⟨SLT_CH_STAT i, 16, 4, 0x0⟩

/-- The word address of SLT_CH_MEAS (16, latest sample). -/
def SLT_CH_MEAS (i : Nat) : Nat := 0x81038 + i * 0x80
def SLT_CH_MEAS_VOUT (i : Nat) : Fld := ⟨SLT_CH_MEAS i, 0, 16, 0x0⟩
def SLT_CH_MEAS_IOUT (i : Nat) : Fld := ⟨SLT_CH_MEAS i, 16, 16, 0x0⟩

/-- The word address of SLT_CH_OFFT (16, remaining off-time (R360)). -/
def SLT_CH_OFFT (i : Nat) : Nat := 0x8103c + i * 0x80
def SLT_CH_OFFT_OFFT (i : Nat) : Fld := ⟨SLT_CH_OFFT i, 0, 25, 0x0⟩

/-- The word address of SLT_CH_CNT (16, event counts). -/
def SLT_CH_CNT (i : Nat) : Nat := 0x81040 + i * 0x80
def SLT_CH_CNT_TRIP_CNT (i : Nat) : Fld := ⟨SLT_CH_CNT i, 0, 16, 0x0⟩
def SLT_CH_CNT_INS_CNT (i : Nat) : Fld := ⟨SLT_CH_CNT i, 16, 16, 0x0⟩

/-- The word address of SLT_CH_CUR (16, configuration in force). -/
def SLT_CH_CUR (i : Nat) : Nat := 0x81044 + i * 0x80
def SLT_CH_CUR_CFG_CUR (i : Nat) : Fld := ⟨SLT_CH_CUR i, 0, 19, 0x6426⟩
def SLT_CH_CUR_PEND (i : Nat) : Fld := ⟨SLT_CH_CUR i, 31, 1, 0x6426⟩

/-- The word address of FLT_STAT (17, collector status). -/
def FLT_STAT : Nat := 0x30000
def FLT_STAT_OPEN : Fld := ⟨FLT_STAT, 0, 7, 0x0⟩
def FLT_STAT_SELF : Fld := ⟨FLT_STAT, 7, 1, 0x0⟩
def FLT_STAT_SUSPECT : Fld := ⟨FLT_STAT, 8, 1, 0x0⟩
def FLT_STAT_WD_EXP : Fld := ⟨FLT_STAT, 9, 1, 0x0⟩
def FLT_STAT_ALIVE_RUN : Fld := ⟨FLT_STAT, 10, 1, 0x0⟩
def FLT_STAT_ALIVE_LVL : Fld := ⟨FLT_STAT, 11, 1, 0x0⟩

/-- The word address of FLT_CNT_CORR (17, fault counts). -/
def FLT_CNT_CORR : Nat := 0x30004
def FLT_CNT_CORR_CNT : Fld := ⟨FLT_CNT_CORR, 0, 32, 0x0⟩

/-- The word address of FLT_CNT_CONT (17, fault counts). -/
def FLT_CNT_CONT : Nat := 0x30008
def FLT_CNT_CONT_CNT : Fld := ⟨FLT_CNT_CONT, 0, 32, 0x0⟩

/-- The word address of FLT_CNT_UNC (17, uncontained faults and losses). -/
def FLT_CNT_UNC : Nat := 0x3000c
def FLT_CNT_UNC_UNC : Fld := ⟨FLT_CNT_UNC, 0, 16, 0x0⟩
def FLT_CNT_UNC_LOST : Fld := ⟨FLT_CNT_UNC, 16, 16, 0x0⟩

/-- The word address of FLT_NEXT (17, store occupancy). -/
def FLT_NEXT : Nat := 0x30010
def FLT_NEXT_NEXT : Fld := ⟨FLT_NEXT, 0, 16, 0x0⟩
def FLT_NEXT_USED : Fld := ⟨FLT_NEXT, 16, 10, 0x0⟩

/-- The word address of FLT_WDOG (17, management watchdog (R380)). -/
def FLT_WDOG : Nat := 0x30014
def FLT_WDOG_LIMIT : Fld := ⟨FLT_WDOG, 0, 8, 0x40⟩
def FLT_WDOG_COUNT : Fld := ⟨FLT_WDOG, 8, 8, 0x40⟩
def FLT_WDOG_TAKE_CNT : Fld := ⟨FLT_WDOG, 16, 16, 0x40⟩

/-- The word address of FLT_CLR (17, record clearing (R379)). -/
def FLT_CLR : Nat := 0x30018
def FLT_CLR_NUMBER : Fld := ⟨FLT_CLR, 0, 16, 0x0⟩
def FLT_CLR_GO : Fld := ⟨FLT_CLR, 16, 1, 0x0⟩
def FLT_CLR_REFUSED : Fld := ⟨FLT_CLR, 17, 1, 0x0⟩

/-- The word address of FLT_REC (17, record slot n). -/
def FLT_REC (i j : Nat) : Nat := 0x38000 + i * 0x40 + j * 0x4
def FLT_REC_WORD (i j : Nat) : Fld := ⟨FLT_REC i j, 0, 32, 0x0⟩

/-- The word address of EVT_SH_ROUTE (17, route of shared source s). -/
def EVT_SH_ROUTE (i : Nat) : Nat := 0x20000 + i * 0x4
def EVT_SH_ROUTE_TARGET (i : Nat) : Fld := ⟨EVT_SH_ROUTE i, 0, 8, 0x1000480⟩
def EVT_SH_ROUTE_SENSE (i : Nat) : Fld := ⟨EVT_SH_ROUTE i, 8, 2, 0x1000480⟩
def EVT_SH_ROUTE_FILT (i : Nat) : Fld := ⟨EVT_SH_ROUTE i, 10, 8, 0x1000480⟩
def EVT_SH_ROUTE_VEC (i : Nat) : Fld := ⟨EVT_SH_ROUTE i, 18, 6, 0x1000480⟩
def EVT_SH_ROUTE_EN (i : Nat) : Fld := ⟨EVT_SH_ROUTE i, 24, 1, 0x1000480⟩
def EVT_SH_ROUTE_KIND (i : Nat) : Fld := ⟨EVT_SH_ROUTE i, 25, 2, 0x1000480⟩
def EVT_SH_ROUTE_PEND_RT (i : Nat) : Fld := ⟨EVT_SH_ROUTE i, 27, 1, 0x1000480⟩

/-- The word address of EVT_SH_PEND (17, shared pending bits). -/
def EVT_SH_PEND (i : Nat) : Nat := 0x20800 + i * 0x4
def EVT_SH_PEND_PEND (i : Nat) : Fld := ⟨EVT_SH_PEND i, 0, 32, 0x0⟩

/-- The word address of EVT_T_CTL (17, target mode (R392)). -/
def EVT_T_CTL (i : Nat) : Nat := 0x21000 + i * 0x40
def EVT_T_CTL_SCAN (i : Nat) : Fld := ⟨EVT_T_CTL i, 0, 1, 0x2⟩
def EVT_T_CTL_CLAIM (i : Nat) : Fld := ⟨EVT_T_CTL i, 1, 1, 0x2⟩

/-- The word address of EVT_T_PEND_LO (17, private pending bits). -/
def EVT_T_PEND_LO (i : Nat) : Nat := 0x21004 + i * 0x40
def EVT_T_PEND_LO_PEND (i : Nat) : Fld := ⟨EVT_T_PEND_LO i, 0, 32, 0x0⟩

/-- The word address of EVT_T_PEND_HI (17, private pending bits). -/
def EVT_T_PEND_HI (i : Nat) : Nat := 0x21008 + i * 0x40
def EVT_T_PEND_HI_PEND (i : Nat) : Fld := ⟨EVT_T_PEND_HI i, 0, 32, 0x0⟩

/-- The word address of EVT_T_MASK_LO (17, private masks). -/
def EVT_T_MASK_LO (i : Nat) : Nat := 0x2100c + i * 0x40
def EVT_T_MASK_LO_MASK (i : Nat) : Fld := ⟨EVT_T_MASK_LO i, 0, 32, 0x0⟩

/-- The word address of EVT_T_MASK_HI (17, private masks). -/
def EVT_T_MASK_HI (i : Nat) : Nat := 0x21010 + i * 0x40
def EVT_T_MASK_HI_MASK (i : Nat) : Fld := ⟨EVT_T_MASK_HI i, 0, 32, 0x0⟩

/-- The word address of EVT_T_CLAIM (17, claim (R391)). -/
def EVT_T_CLAIM (i : Nat) : Nat := 0x21014 + i * 0x40
def EVT_T_CLAIM_NUMBER (i : Nat) : Fld := ⟨EVT_T_CLAIM i, 0, 9, 0x0⟩
def EVT_T_CLAIM_SHARED (i : Nat) : Fld := ⟨EVT_T_CLAIM i, 9, 1, 0x0⟩
def EVT_T_CLAIM_VALID (i : Nat) : Fld := ⟨EVT_T_CLAIM i, 31, 1, 0x0⟩

/-- The word address of EVT_T_DONE (17, completion (R391)). -/
def EVT_T_DONE (i : Nat) : Nat := 0x21018 + i * 0x40
def EVT_T_DONE_NUMBER (i : Nat) : Fld := ⟨EVT_T_DONE i, 0, 9, 0x0⟩
def EVT_T_DONE_SHARED (i : Nat) : Fld := ⟨EVT_T_DONE i, 9, 1, 0x0⟩

/-- The word address of EVT_T_STAT (17, target counts). -/
def EVT_T_STAT (i : Nat) : Nat := 0x2101c + i * 0x40
def EVT_T_STAT_PEND_CNT (i : Nat) : Fld := ⟨EVT_T_STAT i, 0, 10, 0x0⟩
def EVT_T_STAT_ACT_CNT (i : Nat) : Fld := ⟨EVT_T_STAT i, 16, 10, 0x0⟩

/-- The word address of CNT_SEL (18, staged select (R400)). -/
def CNT_SEL (i j : Nat) : Nat := 0xa0000 + i * 0x400 + j * 0x4
def CNT_SEL_EVENT (i j : Nat) : Fld := ⟨CNT_SEL i j, 0, 10, 0x0⟩
def CNT_SEL_MCLASS (i j : Nat) : Fld := ⟨CNT_SEL i j, 10, 4, 0x0⟩
def CNT_SEL_TCLASS (i j : Nat) : Fld := ⟨CNT_SEL i j, 14, 8, 0x0⟩

/-- The word address of CNT_SEL_CUR (18, select in force). -/
def CNT_SEL_CUR (i j : Nat) : Nat := 0xa0020 + i * 0x400 + j * 0x4
def CNT_SEL_CUR_SEL_CUR (i j : Nat) : Fld := ⟨CNT_SEL_CUR i j, 0, 22, 0x0⟩

/-- The word address of CNT_LIVE_LO (18, live values). -/
def CNT_LIVE_LO (i j : Nat) : Nat := 0xa0040 + i * 0x400 + j * 0x8
def CNT_LIVE_LO_VALUE (i j : Nat) : Fld := ⟨CNT_LIVE_LO i j, 0, 32, 0x0⟩

/-- The word address of CNT_LIVE_HI (18, live values). -/
def CNT_LIVE_HI (i j : Nat) : Nat := 0xa0044 + i * 0x400 + j * 0x8
def CNT_LIVE_HI_VALUE (i j : Nat) : Fld := ⟨CNT_LIVE_HI i j, 0, 16, 0x0⟩

/-- The word address of CNT_SNAP_LO (18, live values). -/
def CNT_SNAP_LO (i j : Nat) : Nat := 0xa0100 + i * 0x400 + j * 0x8
def CNT_SNAP_LO_VALUE (i j : Nat) : Fld := ⟨CNT_SNAP_LO i j, 0, 32, 0x0⟩

/-- The word address of CNT_SNAP_HI (18, live values). -/
def CNT_SNAP_HI (i j : Nat) : Nat := 0xa0104 + i * 0x400 + j * 0x8
def CNT_SNAP_HI_VALUE (i j : Nat) : Fld := ⟨CNT_SNAP_HI i j, 0, 16, 0x0⟩

/-- The word address of CNT_RING_CTL (18, ring control (R402)). -/
def CNT_RING_CTL : Nat := 0xf8000
def CNT_RING_CTL_EVERY : Fld := ⟨CNT_RING_CTL, 0, 16, 0x400⟩
def CNT_RING_CTL_PORT : Fld := ⟨CNT_RING_CTL, 16, 7, 0x400⟩
def CNT_RING_CTL_EN : Fld := ⟨CNT_RING_CTL, 23, 1, 0x400⟩
def CNT_RING_CTL_REFUSED : Fld := ⟨CNT_RING_CTL, 24, 1, 0x400⟩

/-- The word address of CNT_RING_BASE_LO (18, ring base). -/
def CNT_RING_BASE_LO : Nat := 0xf8004
def CNT_RING_BASE_LO_ADDR : Fld := ⟨CNT_RING_BASE_LO, 12, 20, 0x0⟩

/-- The word address of CNT_RING_BASE_HI (18, ring base). -/
def CNT_RING_BASE_HI : Nat := 0xf8008
def CNT_RING_BASE_HI_ADDR : Fld := ⟨CNT_RING_BASE_HI, 0, 32, 0x0⟩

/-- The word address of CNT_RING_SIZE (18, ring size). -/
def CNT_RING_SIZE : Nat := 0xf800c
def CNT_RING_SIZE_SIZE : Fld := ⟨CNT_RING_SIZE, 0, 32, 0x0⟩

/-- The word address of CNT_RING_WR (18, ring indices). -/
def CNT_RING_WR : Nat := 0xf8010
def CNT_RING_WR_WR : Fld := ⟨CNT_RING_WR, 0, 32, 0x0⟩

/-- The word address of CNT_RING_RD (18, ring indices). -/
def CNT_RING_RD : Nat := 0xf8014
def CNT_RING_RD_RD : Fld := ⟨CNT_RING_RD, 0, 32, 0x0⟩

/-- The word address of CNT_SEQ (18, snapshot sequence). -/
def CNT_SEQ : Nat := 0xf8018
def CNT_SEQ_SEQ : Fld := ⟨CNT_SEQ, 0, 32, 0x0⟩

/-- The word address of CNT_LOSS (18, skipped dumps). -/
def CNT_LOSS : Nat := 0xf801c
def CNT_LOSS_SKIP_BUSY : Fld := ⟨CNT_LOSS, 0, 16, 0x0⟩
def CNT_LOSS_SKIP_FULL : Fld := ⟨CNT_LOSS, 16, 16, 0x0⟩

/-- The word address of CNT_DROP (18, abandoned dumps). -/
def CNT_DROP : Nat := 0xf8020
def CNT_DROP_DROP : Fld := ⟨CNT_DROP, 0, 16, 0x0⟩
def CNT_DROP_BUSY : Fld := ⟨CNT_DROP, 16, 1, 0x0⟩

/-- The word address of CNT_SNAP_FRM_LO (18, frame of the last snapshot). -/
def CNT_SNAP_FRM_LO : Nat := 0xf8024
def CNT_SNAP_FRM_LO_FRAME : Fld := ⟨CNT_SNAP_FRM_LO, 0, 32, 0x0⟩

/-- The word address of CNT_SNAP_FRM_HI (18, frame of the last snapshot). -/
def CNT_SNAP_FRM_HI : Nat := 0xf8028
def CNT_SNAP_FRM_HI_FRAME : Fld := ⟨CNT_SNAP_FRM_HI, 0, 32, 0x0⟩

/-- The word address of TWL_CTL (19, actions). -/
def TWL_CTL : Nat := 0x90000
def TWL_CTL_AUTO_AVS : Fld := ⟨TWL_CTL, 0, 1, 0x5a0f⟩
def TWL_CTL_AUTO_EQ : Fld := ⟨TWL_CTL, 1, 1, 0x5a0f⟩
def TWL_CTL_AUTO_RATE : Fld := ⟨TWL_CTL, 2, 1, 0x5a0f⟩
def TWL_CTL_AUTO_WIDTH : Fld := ⟨TWL_CTL, 3, 1, 0x5a0f⟩
def TWL_CTL_HORIZON : Fld := ⟨TWL_CTL, 8, 8, 0x5a0f⟩

/-- The word address of TWL_EYE_THR (19, eye floors (R82)). -/
def TWL_EYE_THR : Nat := 0x90004
def TWL_EYE_THR_HEIGHT_MIN : Fld := ⟨TWL_EYE_THR, 0, 8, 0x2014⟩
def TWL_EYE_THR_WIDTH_MIN : Fld := ⟨TWL_EYE_THR, 8, 8, 0x2014⟩

/-- The word address of TWL_AVS (19, setpoints). -/
def TWL_AVS : Nat := 0x90008
def TWL_AVS_VCORE_SET : Fld := ⟨TWL_AVS, 0, 10, 0x32000000⟩
def TWL_AVS_VCORE_BASE : Fld := ⟨TWL_AVS, 10, 10, 0x32000000⟩
def TWL_AVS_VSRAM_SET : Fld := ⟨TWL_AVS, 20, 10, 0x32000000⟩

/-- The word address of TWL_AVS_LIM (19, limit and steps). -/
def TWL_AVS_LIM : Nat := 0x9000c
def TWL_AVS_LIM_VMAX : Fld := ⟨TWL_AVS_LIM, 0, 10, 0x352⟩
def TWL_AVS_LIM_STEPS : Fld := ⟨TWL_AVS_LIM, 16, 16, 0x352⟩

/-- The word address of TWL_TJ (19, temperature). -/
def TWL_TJ : Nat := 0x90010
def TWL_TJ_TJ_MAX : Fld := ⟨TWL_TJ, 0, 10, 0x0⟩
def TWL_TJ_TJ_AVG : Fld := ⟨TWL_TJ, 16, 10, 0x0⟩

/-- The word address of TWL_FC (19, forecasts (R414)). -/
def TWL_FC : Nat := 0x90014
def TWL_FC_COUNT : Fld := ⟨TWL_FC, 0, 7, 0x0⟩
def TWL_FC_DUE : Fld := ⟨TWL_FC, 7, 1, 0x0⟩
def TWL_FC_INDEX : Fld := ⟨TWL_FC, 8, 6, 0x0⟩
def TWL_FC_DISMISS : Fld := ⟨TWL_FC, 14, 1, 0x0⟩
def TWL_FC_MADE : Fld := ⟨TWL_FC, 16, 16, 0x0⟩

/-- The word address of TWL_FW (19, management pairs (R419)). -/
def TWL_FW : Nat := 0x90020
def TWL_FW_ACTIVE_PAIR : Fld := ⟨TWL_FW, 0, 1, 0x0⟩
def TWL_FW_STANDBY_READY : Fld := ⟨TWL_FW, 1, 1, 0x0⟩
def TWL_FW_REJOIN : Fld := ⟨TWL_FW, 2, 1, 0x0⟩
def TWL_FW_TAKE_PEND : Fld := ⟨TWL_FW, 3, 1, 0x0⟩
def TWL_FW_PLAN_CNT : Fld := ⟨TWL_FW, 16, 16, 0x0⟩

/-- The word address of TWL_REPAIR (19, SRAM repair (R417)). -/
def TWL_REPAIR : Nat := 0x90030
def TWL_REPAIR_ROWS : Fld := ⟨TWL_REPAIR, 0, 16, 0x0⟩
def TWL_REPAIR_EXHAUSTED : Fld := ⟨TWL_REPAIR, 16, 8, 0x0⟩

/-- The word address of TWL_SCRUB (19, patrol passes). -/
def TWL_SCRUB : Nat := 0x90034
def TWL_SCRUB_PASSES : Fld := ⟨TWL_SCRUB, 0, 32, 0x0⟩

/-- The word address of TWL_RSV (19, mirror (R418)). -/
def TWL_RSV : Nat := 0x90040
def TWL_RSV_STATE0 : Fld := ⟨TWL_RSV, 0, 2, 0x0⟩
def TWL_RSV_STATE1 : Fld := ⟨TWL_RSV, 2, 2, 0x0⟩
def TWL_RSV_PPR_LEFT0 : Fld := ⟨TWL_RSV, 16, 8, 0x0⟩
def TWL_RSV_PPR_LEFT1 : Fld := ⟨TWL_RSV, 24, 8, 0x0⟩

/-- The word address of TWL_PERS (19, personality (R421, R422)). -/
def TWL_PERS : Nat := 0x90050
def TWL_PERS_LEVEL : Fld := ⟨TWL_PERS, 0, 4, 0x1⟩
def TWL_PERS_NATIVE : Fld := ⟨TWL_PERS, 4, 4, 0x1⟩
def TWL_PERS_STRAP : Fld := ⟨TWL_PERS, 8, 4, 0x1⟩
def TWL_PERS_CFG_VALID : Fld := ⟨TWL_PERS, 12, 1, 0x1⟩
def TWL_PERS_PERS_ERR : Fld := ⟨TWL_PERS, 13, 1, 0x1⟩
def TWL_PERS_PEND : Fld := ⟨TWL_PERS, 14, 1, 0x1⟩
def TWL_PERS_PEND_LEVEL : Fld := ⟨TWL_PERS, 16, 4, 0x1⟩

/-- The word address of TWL_JRNL (19, journal (R415)). -/
def TWL_JRNL : Nat := 0x90060
def TWL_JRNL_HEAD : Fld := ⟨TWL_JRNL, 0, 13, 0xff0000⟩
def TWL_JRNL_SPARES : Fld := ⟨TWL_JRNL, 16, 8, 0xff0000⟩

/-- The word address of TWL_PCAP (19, rate cap of port p (R412)). -/
def TWL_PCAP (i : Nat) : Nat := 0x90400 + i * 0x4
def TWL_PCAP_CAP (i : Nat) : Fld := ⟨TWL_PCAP i, 0, 4, 0x50⟩
def TWL_PCAP_FLOOR (i : Nat) : Fld := ⟨TWL_PCAP i, 4, 4, 0x50⟩
def TWL_PCAP_CLR (i : Nat) : Fld := ⟨TWL_PCAP i, 8, 1, 0x50⟩
def TWL_PCAP_REEQ (i : Nat) : Fld := ⟨TWL_PCAP i, 16, 8, 0x50⟩
def TWL_PCAP_PARKED (i : Nat) : Fld := ⟨TWL_PCAP i, 24, 8, 0x50⟩

/-- The word address of GRP_CFG (20, staged membership). -/
def GRP_CFG : Nat := 0x680000
def GRP_CFG_GROUP : Fld := ⟨GRP_CFG, 0, 16, 0x0⟩
def GRP_CFG_MEMBER : Fld := ⟨GRP_CFG, 16, 3, 0x0⟩
def GRP_CFG_EN : Fld := ⟨GRP_CFG, 19, 1, 0x0⟩

/-- The word address of GRP_CUR (20, membership in force). -/
def GRP_CUR : Nat := 0x680004
def GRP_CUR_CFG_CUR : Fld := ⟨GRP_CUR, 0, 20, 0x0⟩

/-- The word address of GRP_EPOCH (20, fence epoch). -/
def GRP_EPOCH : Nat := 0x680008
def GRP_EPOCH_EPOCH : Fld := ⟨GRP_EPOCH, 0, 32, 0x0⟩

/-- The word address of GRP_STAT (20, group state). -/
def GRP_STAT : Nat := 0x68000c
def GRP_STAT_EXPEL : Fld := ⟨GRP_STAT, 0, 8, 0x0⟩
def GRP_STAT_REACH : Fld := ⟨GRP_STAT, 8, 8, 0x0⟩
def GRP_STAT_YIELD : Fld := ⟨GRP_STAT, 16, 1, 0x0⟩
def GRP_STAT_MAPDIFF : Fld := ⟨GRP_STAT, 17, 1, 0x0⟩

/-- The word address of GRP_REMOTE (20, remote table (R433)). -/
def GRP_REMOTE : Nat := 0x680010
def GRP_REMOTE_HELD : Fld := ⟨GRP_REMOTE, 0, 15, 0x0⟩
def GRP_REMOTE_PSN_CNT : Fld := ⟨GRP_REMOTE, 16, 16, 0x0⟩

/-- The word address of GRP_XFER (20, transfers). -/
def GRP_XFER : Nat := 0x680014
def GRP_XFER_DONE : Fld := ⟨GRP_XFER, 0, 16, 0x0⟩
def GRP_XFER_ABORTED : Fld := ⟨GRP_XFER, 16, 16, 0x0⟩

/-- The word address of GRP_PEER (20, peer m). -/
def GRP_PEER (i : Nat) : Nat := 0x680100 + i * 0x40
def GRP_PEER_VALID (i : Nat) : Fld := ⟨GRP_PEER i, 0, 1, 0x0⟩
def GRP_PEER_ISLS (i : Nat) : Fld := ⟨GRP_PEER i, 8, 8, 0x0⟩
def GRP_PEER_REACH (i : Nat) : Fld := ⟨GRP_PEER i, 16, 1, 0x0⟩

/-- The word address of GRP_PEER_EP (20, epoch seen). -/
def GRP_PEER_EP (i : Nat) : Nat := 0x680104 + i * 0x40
def GRP_PEER_EP_EPOCH_SEEN (i : Nat) : Fld := ⟨GRP_PEER_EP i, 0, 32, 0x0⟩

/-- The word address of GRP_PEER_DIG (20, peer digest). -/
def GRP_PEER_DIG (i j : Nat) : Nat := 0x680108 + i * 0x40 + j * 0x4
def GRP_PEER_DIG_DIGEST (i j : Nat) : Fld := ⟨GRP_PEER_DIG i j, 0, 32, 0x0⟩

end Sys2Proof.Machine
end

