-- ==== Sys2Proof/Machine/RegMap.lean ====
section
/-! DEFINITION. The register map: every register the chapters define, with its address pattern, its fields' access codes
(Table 0-3), principals (Table 0-4) and reset word, and the look-up of the register an address names (R28, R29). -/
namespace Sys2Proof.Machine

/-- The registers by name, one constructor per register table of the chapters. -/
inductive Reg where
  | FRM_NUM_LO : Reg | FRM_NUM_HI | FRM_LEN | FRM_LEN_AT_LO | FRM_LEN_AT_HI | FRM_STAT | FRM_SYNC_CTL | FRM_SYNC_STAT
  | FRM_NUM_LOAD_LO | FRM_NUM_LOAD_HI
  | PRT_CFG : Reg | PRT_CFG_STAT | PRT_LINK_CTL | PRT_LINK_STAT | PRT_IDE_CTL | PRT_IDE_STAT | PRT_PM_CTL | PRT_PM_STAT
  | PRT_HP_STAT | PRT_MF_STAT | PRT_MF_DROP
  | LAN_CTL : Reg | LAN_STAT | LAN_EQ | LAN_EYE | LAN_PAT_CTL | LAN_PAT_STAT
  | ISL_CFG : Reg | ISL_STAT | ISL_RTT | ISL_FC_CTL | ISL_FC_STAT | ISL_SEQ | ISL_RX_SEQ | ISL_REPLAY_CTL | ISL_REPLAY_STAT
  | ISL_LINK_ERR | ISL_ACK_ERR | ISL_ERR_WIN | ISL_FEC_CNT
  | PRT_ARB_PRIO : Reg | PRT_ARB_CUR
  | XBR_CFG : Reg | XBR_ERR | XBR_CORR | XBR_ARB_PRIO | XBR_ARB_CUR | XBR_PBUF | XBR_PWD | XBR_PSTAT | XBR_PFLUSH
  | BND_CFG : Reg | BND_REGION | BND_POOLS | BND_CUR | BND_STAT | BND_POOLS_CUR | BND_HDM_BASE_LO | BND_HDM_BASE_HI
  | BND_HDM_SIZE_LO | BND_HDM_SIZE_HI | BND_HDM_CTL | BND_LOG_CTL | BND_LOG_LEN | BND_HARV_ADDR_LO | BND_HARV_ADDR_HI
  | BND_HARV_CTL | BND_HARV_STAT | BND_ERR_STAT | BND_ERR_PARCEL | BND_ERR_DPA_LO | BND_ERR_DPA_HI | BND_ERR_CNT0
  | BND_ERR_CNT1 | BND_RST
  | HOM_CFG : Reg | HOM_STAT | HOM_DIR_STAT | HOM_ERR | HOM_UE | HOM_EVICT | HOM_HOST_MAP | HOM_HOST_CUR | HOM_HOST_STAT
  | HOM_SLC_TT | HOM_SLC_MISS | HOM_SLC_CONFL | HOM_SLC_SNP
  | SEC_STAT : Reg | SEC_INTEG | SEC_OVF | SEC_MCACHE | SEC_IFAIL_STAT | SEC_IFAIL_PARCEL | SEC_POOL_CAP | SEC_POOL_CAP_CUR
  | SEC_SLOT
  | GATE_CTL : Reg | GATE_VIO_STAT | GATE_VIO_INIT | GATE_VIO_ADDR_LO | GATE_VIO_ADDR_HI | GATE_VIO_OFS | GATE_VIO_LEN
  | GATE_VIO_FRM_LO | GATE_VIO_FRM_HI | GATE_HEALTH
  | OXB_CFG : Reg | OXB_SHARE | OXB_RANK | OXB_STAT | OXB_DONE | OXB_ABORT | OXB_FLIP | OXB_POOL_CFG | OXB_POOL_BASE
  | OXB_POOL_SIZE | OXB_POOL_FREE | OXB_POOL_HEAT | OXB_EVAC | OXB_EVAC_REM | OXB_MV_STAT | OXB_MV_POOLS | OXB_MV_TT
  | OXB_MV_PPI | OXB_BQ_CFG | OXB_BQ_BASE_LO | OXB_BQ_BASE_HI | OXB_BQ_TAIL | OXB_BQ_HEAD | OXB_BQ_STAT
  | PRT_DRR_Q : Reg | PRT_DRR_CUR | PRT_SCH_CFG | PRT_GL_NEW | PRT_GL_CUR | PRT_GL_AT_LO | PRT_GL_AT_HI | PRT_GL_CTL
  | PRT_GL_TAKE
  | SHP_RATE : Reg | SHP_BURST | SHP_CUR | SHP_STAT
  | LWB_CFG : Reg | LWB_STAT | LWB_DB_LO | LWB_DB_HI | LWB_LOCK | LWB_WIN_CFG | LWB_WIN_CUR | LWB_WIN_BASE | LWB_WIN_SIZE
  | LWB_WIN_FAR_LO | LWB_WIN_FAR_HI | LWB_WIN_FENCE | LWB_WIN_WFAIL | LWB_WIN_WADDR_LO | LWB_WIN_WADDR_HI | LWB_WIN_ERR
  | LWB_WIN_PF | LWB_WIN_IRQ | LWB_WIN_MIR_CTL | LWB_WIN_MIR_IN_LO | LWB_WIN_MIR_IN_HI | LWB_WIN_MIR_OUT_LO | LWB_WIN_MIR_OUT_HI
  | LWB_WIN_MIR_SEQ
  | GLB_ID : Reg | GLB_STEP | GLB_ID_DIGEST | GLB_LC_STAT | GLB_FW_SVN | GLB_FW_POL | GLB_BID_STAT | GLB_TOK_STAT
  | MBX_CTL : Reg | MBX_STAT | MBX_STAGE | MBX_ERR | MBX_STAGE_REF | MBX_MRST_STAT | MBX_RT | MBX_LC
  | GLB_MODE : Reg | GLB_MODE_REQ | GLB_MODE_FRM_LO | GLB_MODE_FRM_HI | GLB_DEG | GLB_QUAR | GLB_RST_CTL | GLB_RST_STAT
  | GLB_HOLD | GLB_DBG_STAT | GLB_DBG_LIFE_LO | GLB_DBG_LIFE_HI
  | SLT_FEED : Reg | SLT_FEED_STAT | SLT_CH_CFG | SLT_CH_TIME | SLT_CH_SHUNT | SLT_CH_BRK | SLT_CH_CTL | SLT_CH_STAT
  | SLT_CH_MEAS | SLT_CH_OFFT | SLT_CH_CNT | SLT_CH_CUR
  | FLT_STAT : Reg | FLT_CNT_CORR | FLT_CNT_CONT | FLT_CNT_UNC | FLT_NEXT | FLT_WDOG | FLT_CLR | FLT_REC
  | EVT_SH_ROUTE : Reg | EVT_SH_PEND | EVT_T_CTL | EVT_T_PEND_LO | EVT_T_PEND_HI | EVT_T_MASK_LO | EVT_T_MASK_HI
  | EVT_T_CLAIM | EVT_T_DONE | EVT_T_STAT
  | CNT_SEL : Reg | CNT_SEL_CUR | CNT_LIVE_LO | CNT_LIVE_HI | CNT_SNAP_LO | CNT_SNAP_HI | CNT_RING_CTL | CNT_RING_BASE_LO
  | CNT_RING_BASE_HI | CNT_RING_SIZE | CNT_RING_WR | CNT_RING_RD | CNT_SEQ | CNT_LOSS | CNT_DROP | CNT_SNAP_FRM_LO
  | CNT_SNAP_FRM_HI
  | TWL_CTL : Reg | TWL_EYE_THR | TWL_AVS | TWL_AVS_LIM | TWL_TJ | TWL_FC | TWL_FW | TWL_REPAIR | TWL_SCRUB | TWL_RSV
  | TWL_PERS | TWL_JRNL | TWL_PCAP
  | GRP_CFG : Reg | GRP_CUR | GRP_EPOCH | GRP_STAT | GRP_REMOTE | GRP_XFER | GRP_PEER | GRP_PEER_EP | GRP_PEER_DIG
  deriving DecidableEq, Repr

/-- The access code of a field (Table 0-3). -/
inductive Acc where
  | ro | rw | w1c | w1s
  deriving DecidableEq, Repr

/-- One field of a register: bits, access code, the codes SH, LK and ROS, and the principals of its Who column as a mask
(O 1, F 2, T 4, H 8, V 16, D 32). -/
structure FieldDef where
  lsb : Nat
  width : Nat
  acc : Acc
  sh : Bool
  lk : Bool
  ros : Bool
  who : Nat
  deriving DecidableEq, Repr

/-- One register: its name, the address of its first instance, its index dimensions (count, stride), the number of the first
instance, its fields, its reset word (per last index where the resets differ) and the number of upper words a read of it latches (R5). -/
structure RegDef where
  reg : Reg
  base : Nat
  dims : List (Nat × Nat)
  first : Nat
  fields : List FieldDef
  rst : Nat
  rstBy : List Nat
  wide : Nat
  deriving DecidableEq, Repr

/-- Registers of the FRM block, part 0. -/
def regsFRM0 : List RegDef := [
  ⟨.FRM_NUM_LO, 0x10000, [], 0,
    [⟨0, 32, .ro, false, false, true, 43⟩],
    0x0, [], 1⟩,
  ⟨.FRM_NUM_HI, 0x10004, [], 0,
    [⟨0, 32, .ro, false, false, true, 43⟩],
    0x0, [], 0⟩,
  ⟨.FRM_LEN, 0x10008, [], 0,
    [⟨0, 2, .ro, false, false, false, 35⟩, ⟨4, 2, .rw, false, false, false, 3⟩, ⟨8, 1, .w1s, false, false, false, 3⟩, ⟨9, 1, .ro, false, false, false, 35⟩],
    0x11, [], 0⟩,
  ⟨.FRM_LEN_AT_LO, 0x1000c, [], 0,
    [⟨0, 32, .rw, false, false, false, 3⟩],
    0x0, [], 1⟩,
  ⟨.FRM_LEN_AT_HI, 0x10010, [], 0,
    [⟨0, 32, .rw, false, false, false, 3⟩],
    0x0, [], 0⟩,
  ⟨.FRM_STAT, 0x10014, [], 0,
    [⟨0, 13, .ro, false, false, false, 43⟩, ⟨16, 1, .ro, false, false, false, 43⟩],
    0x0, [], 0⟩,
  ⟨.FRM_SYNC_CTL, 0x10020, [], 0,
    [⟨0, 2, .rw, false, false, false, 3⟩, ⟨2, 1, .rw, false, false, false, 3⟩, ⟨3, 4, .rw, false, false, false, 3⟩, ⟨8, 8, .rw, false, false, false, 3⟩, ⟨16, 1, .w1s, false, false, false, 3⟩],
    0x0, [], 0⟩,
  ⟨.FRM_SYNC_STAT, 0x10024, [], 0,
    [⟨0, 1, .ro, false, false, false, 35⟩, ⟨1, 1, .w1c, false, false, false, 3⟩, ⟨2, 1, .ro, false, false, false, 35⟩, ⟨8, 8, .ro, false, false, false, 35⟩, ⟨16, 16, .ro, false, false, true, 35⟩],
    0x0, [], 0⟩,
  ⟨.FRM_NUM_LOAD_LO, 0x10028, [], 0,
    [⟨0, 32, .rw, false, false, false, 3⟩],
    0x0, [], 1⟩,
  ⟨.FRM_NUM_LOAD_HI, 0x1002c, [], 0,
    [⟨0, 32, .rw, false, false, false, 3⟩],
    0x0, [], 0⟩]

/-- The registers of the FRM block. -/
def regsFRM : List RegDef := regsFRM0

/-- Registers of the PRT block, part 0. -/
def regsPRT0 : List RegDef := [
  ⟨.PRT_CFG, 0x1000000, [(128, 0x10000)], 0,
    [⟨0, 2, .rw, true, true, false, 3⟩, ⟨2, 2, .rw, true, false, false, 3⟩, ⟨4, 1, .rw, true, false, false, 3⟩, ⟨5, 1, .rw, true, false, false, 3⟩, ⟨16, 1, .ro, false, false, false, 35⟩, ⟨17, 1, .w1c, false, false, false, 3⟩],
    0x0, [], 0⟩,
  ⟨.PRT_CFG_STAT, 0x1000004, [(128, 0x10000)], 0,
    [⟨0, 2, .ro, false, false, false, 35⟩, ⟨2, 2, .ro, false, false, false, 35⟩, ⟨4, 1, .ro, false, false, false, 35⟩, ⟨5, 1, .ro, false, false, false, 35⟩],
    0x0, [], 0⟩,
  ⟨.PRT_LINK_CTL, 0x1000008, [(128, 0x10000)], 0,
    [⟨0, 4, .rw, false, false, false, 3⟩, ⟨4, 1, .rw, false, false, false, 3⟩, ⟨8, 1, .w1s, false, false, false, 3⟩, ⟨9, 1, .rw, false, false, false, 3⟩],
    0x6, [], 0⟩,
  ⟨.PRT_LINK_STAT, 0x100000c, [(128, 0x10000)], 0,
    [⟨0, 4, .ro, false, false, false, 35⟩, ⟨4, 3, .ro, false, false, false, 35⟩, ⟨7, 1, .ro, false, false, false, 35⟩, ⟨8, 1, .ro, false, false, false, 35⟩, ⟨9, 1, .w1c, false, false, false, 3⟩, ⟨10, 1, .ro, false, false, false, 35⟩, ⟨11, 1, .ro, false, false, false, 35⟩, ⟨16, 16, .ro, false, false, true, 35⟩],
    0x0, [], 0⟩,
  ⟨.PRT_IDE_CTL, 0x1000010, [(128, 0x10000)], 0,
    [⟨0, 1, .rw, true, false, false, 3⟩, ⟨1, 1, .rw, true, false, false, 3⟩, ⟨2, 1, .rw, true, false, false, 3⟩],
    0x0, [], 0⟩,
  ⟨.PRT_IDE_STAT, 0x1000014, [(128, 0x10000)], 0,
    [⟨0, 1, .ro, false, false, false, 35⟩, ⟨1, 1, .ro, false, false, false, 35⟩, ⟨2, 1, .ro, false, false, false, 35⟩, ⟨3, 1, .ro, false, false, false, 35⟩, ⟨4, 1, .w1c, false, false, false, 3⟩, ⟨16, 16, .ro, false, false, true, 35⟩],
    0x0, [], 0⟩,
  ⟨.PRT_PM_CTL, 0x1000018, [(128, 0x10000)], 0,
    [⟨0, 1, .rw, false, false, false, 3⟩, ⟨1, 1, .rw, false, false, false, 3⟩, ⟨8, 8, .rw, false, false, false, 3⟩, ⟨16, 8, .rw, false, false, false, 3⟩, ⟨24, 4, .rw, false, false, false, 3⟩],
    0x4102003, [], 0⟩,
  ⟨.PRT_PM_STAT, 0x100001c, [(128, 0x10000)], 0,
    [⟨0, 2, .ro, false, false, false, 35⟩, ⟨4, 3, .ro, false, false, false, 35⟩, ⟨16, 16, .ro, false, false, false, 35⟩],
    0x0, [], 0⟩,
  ⟨.PRT_HP_STAT, 0x1000020, [(128, 0x10000)], 0,
    [⟨0, 1, .ro, false, false, false, 35⟩, ⟨1, 1, .w1c, false, false, false, 3⟩, ⟨2, 1, .ro, false, false, false, 35⟩, ⟨16, 16, .ro, false, false, true, 35⟩],
    0x0, [], 0⟩,
  ⟨.PRT_MF_STAT, 0x1000024, [(128, 0x10000)], 0,
    [⟨0, 1, .ro, false, false, false, 35⟩, ⟨1, 2, .ro, false, false, false, 35⟩, ⟨3, 1, .w1c, false, false, false, 3⟩, ⟨4, 1, .w1s, false, false, false, 3⟩],
    0x0, [], 0⟩,
  ⟨.PRT_MF_DROP, 0x1000028, [(128, 0x10000)], 0,
    [⟨0, 12, .ro, false, false, true, 35⟩, ⟨12, 12, .ro, false, false, true, 35⟩, ⟨24, 8, .ro, false, false, true, 35⟩],
    0x0, [], 0⟩,
  ⟨.PRT_ARB_PRIO, 0x1000100, [(128, 0x10000), (30, 0x4)], 0,
    [⟨0, 3, .rw, true, false, false, 3⟩, ⟨6, 3, .rw, true, false, false, 3⟩, ⟨12, 3, .rw, true, false, false, 3⟩, ⟨18, 3, .rw, true, false, false, 3⟩, ⟨24, 3, .rw, true, false, false, 3⟩, ⟨3, 3, .rw, true, false, false, 3⟩, ⟨9, 3, .rw, true, false, false, 3⟩, ⟨15, 3, .rw, true, false, false, 3⟩, ⟨21, 3, .rw, true, false, false, 3⟩, ⟨27, 3, .rw, true, false, false, 3⟩],
    0x3aebaeba, [], 0⟩]

/-- Registers of the PRT block, part 1. -/
def regsPRT1 : List RegDef := [
  ⟨.PRT_ARB_CUR, 0x1000180, [(128, 0x10000), (30, 0x4)], 0,
    [⟨0, 3, .ro, false, false, false, 35⟩, ⟨6, 3, .ro, false, false, false, 35⟩, ⟨12, 3, .ro, false, false, false, 35⟩, ⟨18, 3, .ro, false, false, false, 35⟩, ⟨24, 3, .ro, false, false, false, 35⟩, ⟨3, 3, .ro, false, false, false, 35⟩, ⟨9, 3, .ro, false, false, false, 35⟩, ⟨15, 3, .ro, false, false, false, 35⟩, ⟨21, 3, .ro, false, false, false, 35⟩, ⟨27, 3, .ro, false, false, false, 35⟩],
    0x3aebaeba, [], 0⟩,
  ⟨.GATE_CTL, 0x1000300, [(128, 0x10000)], 0,
    [⟨0, 1, .rw, true, false, false, 3⟩, ⟨1, 1, .ro, false, false, false, 35⟩, ⟨2, 1, .w1c, false, false, false, 3⟩, ⟨8, 9, .ro, false, false, false, 35⟩],
    0x0, [], 0⟩,
  ⟨.GATE_VIO_STAT, 0x1000304, [(128, 0x10000)], 0,
    [⟨0, 1, .w1c, false, false, false, 3⟩, ⟨1, 1, .ro, false, false, false, 35⟩, ⟨2, 2, .ro, false, false, false, 35⟩, ⟨16, 16, .ro, false, false, false, 35⟩],
    0x0, [], 0⟩,
  ⟨.GATE_VIO_INIT, 0x1000308, [(128, 0x10000)], 0,
    [⟨0, 16, .ro, false, false, false, 35⟩],
    0x0, [], 0⟩,
  ⟨.GATE_VIO_ADDR_LO, 0x100030c, [(128, 0x10000)], 0,
    [⟨0, 32, .ro, false, false, false, 35⟩],
    0x0, [], 1⟩,
  ⟨.GATE_VIO_ADDR_HI, 0x1000310, [(128, 0x10000)], 0,
    [⟨0, 32, .ro, false, false, false, 35⟩],
    0x0, [], 0⟩,
  ⟨.GATE_VIO_OFS, 0x1000314, [(128, 0x10000)], 0,
    [⟨0, 32, .ro, false, false, false, 35⟩],
    0x0, [], 0⟩,
  ⟨.GATE_VIO_LEN, 0x1000318, [(128, 0x10000)], 0,
    [⟨0, 32, .ro, false, false, false, 35⟩],
    0x0, [], 0⟩,
  ⟨.GATE_VIO_FRM_LO, 0x100031c, [(128, 0x10000)], 0,
    [⟨0, 32, .ro, false, false, false, 35⟩],
    0x0, [], 1⟩,
  ⟨.GATE_VIO_FRM_HI, 0x1000320, [(128, 0x10000)], 0,
    [⟨0, 32, .ro, false, false, false, 35⟩],
    0x0, [], 0⟩,
  ⟨.GATE_HEALTH, 0x1000324, [(128, 0x10000)], 0,
    [⟨0, 1, .ro, false, false, false, 35⟩, ⟨16, 16, .ro, false, false, false, 35⟩],
    0x0, [], 0⟩,
  ⟨.PRT_DRR_Q, 0x1000200, [(128, 0x10000), (4, 0x4)], 0,
    [⟨0, 16, .rw, true, false, false, 3⟩, ⟨16, 16, .rw, true, false, false, 3⟩],
    0x1100110, [], 0⟩]

/-- Registers of the PRT block, part 2. -/
def regsPRT2 : List RegDef := [
  ⟨.PRT_DRR_CUR, 0x1000210, [(128, 0x10000), (4, 0x4)], 0,
    [⟨0, 16, .ro, false, false, false, 35⟩, ⟨16, 16, .ro, false, false, false, 35⟩],
    0x1100110, [], 0⟩,
  ⟨.PRT_SCH_CFG, 0x1000220, [(128, 0x10000)], 0,
    [⟨0, 6, .rw, true, false, false, 3⟩, ⟨8, 1, .rw, true, false, false, 3⟩, ⟨10, 3, .rw, true, false, false, 3⟩],
    0x100, [], 0⟩,
  ⟨.PRT_GL_NEW, 0x1000230, [(128, 0x10000), (4, 0x4)], 0,
    [⟨0, 8, .rw, false, false, false, 3⟩, ⟨8, 8, .rw, false, false, false, 3⟩, ⟨16, 8, .rw, false, false, false, 3⟩, ⟨24, 8, .rw, false, false, false, 3⟩],
    0xffffffff, [], 0⟩,
  ⟨.PRT_GL_CUR, 0x1000240, [(128, 0x10000), (4, 0x4)], 0,
    [⟨0, 8, .ro, false, false, false, 35⟩, ⟨8, 8, .ro, false, false, false, 35⟩, ⟨16, 8, .ro, false, false, false, 35⟩, ⟨24, 8, .ro, false, false, false, 35⟩],
    0xffffffff, [], 0⟩,
  ⟨.PRT_GL_AT_LO, 0x1000250, [(128, 0x10000)], 0,
    [⟨0, 32, .rw, false, false, false, 3⟩],
    0x0, [], 1⟩,
  ⟨.PRT_GL_AT_HI, 0x1000254, [(128, 0x10000)], 0,
    [⟨0, 32, .rw, false, false, false, 3⟩],
    0x0, [], 0⟩,
  ⟨.PRT_GL_CTL, 0x1000258, [(128, 0x10000)], 0,
    [⟨0, 1, .rw, false, false, false, 3⟩, ⟨1, 1, .w1s, false, false, false, 3⟩, ⟨2, 1, .w1s, false, false, false, 3⟩, ⟨3, 1, .ro, false, false, false, 35⟩, ⟨4, 1, .ro, false, false, false, 35⟩, ⟨5, 1, .w1c, false, false, false, 3⟩, ⟨16, 16, .ro, false, false, true, 35⟩],
    0x0, [], 0⟩,
  ⟨.PRT_GL_TAKE, 0x100025c, [(128, 0x10000)], 0,
    [⟨0, 16, .ro, false, false, true, 35⟩],
    0x0, [], 0⟩]

/-- The registers of the PRT block. -/
def regsPRT : List RegDef := regsPRT0 ++ regsPRT1 ++ regsPRT2

/-- Registers of the LAN block, part 0. -/
def regsLAN0 : List RegDef := [
  ⟨.LAN_CTL, 0x1800000, [(512, 0x1000)], 0,
    [⟨0, 4, .rw, false, false, false, 3⟩, ⟨4, 4, .rw, false, false, false, 3⟩, ⟨8, 8, .rw, false, false, false, 3⟩, ⟨16, 1, .rw, false, false, false, 3⟩, ⟨17, 1, .rw, false, false, false, 3⟩],
    0x21e5f, [], 0⟩,
  ⟨.LAN_STAT, 0x1800004, [(512, 0x1000)], 0,
    [⟨0, 1, .ro, false, false, false, 35⟩, ⟨1, 1, .ro, false, false, false, 35⟩, ⟨2, 1, .ro, false, false, false, 35⟩, ⟨3, 1, .ro, false, false, false, 35⟩, ⟨4, 2, .ro, false, false, false, 35⟩, ⟨6, 1, .w1c, false, false, false, 3⟩, ⟨7, 1, .w1c, false, false, false, 3⟩, ⟨16, 8, .ro, false, false, true, 35⟩, ⟨24, 8, .ro, false, false, true, 35⟩],
    0x0, [], 0⟩,
  ⟨.LAN_EQ, 0x1800008, [(512, 0x1000)], 0,
    [⟨0, 4, .ro, false, false, false, 35⟩, ⟨4, 6, .ro, false, false, false, 35⟩, ⟨16, 8, .ro, false, false, false, 35⟩, ⟨24, 8, .ro, false, false, true, 35⟩],
    0x0, [], 0⟩,
  ⟨.LAN_EYE, 0x180000c, [(512, 0x1000)], 0,
    [⟨0, 8, .ro, false, false, false, 35⟩, ⟨8, 8, .ro, false, false, false, 35⟩, ⟨16, 1, .ro, false, false, false, 35⟩, ⟨17, 1, .w1c, false, false, false, 3⟩, ⟨24, 8, .ro, false, false, false, 35⟩],
    0x0, [], 0⟩,
  ⟨.LAN_PAT_CTL, 0x1800010, [(512, 0x1000)], 0,
    [⟨0, 3, .rw, false, false, false, 35⟩, ⟨3, 1, .rw, false, false, false, 35⟩, ⟨4, 1, .rw, false, false, false, 35⟩, ⟨5, 2, .rw, false, false, false, 35⟩, ⟨7, 1, .w1s, false, false, false, 35⟩, ⟨8, 5, .rw, false, false, false, 35⟩, ⟨13, 1, .w1s, false, false, false, 35⟩],
    0x0, [], 0⟩,
  ⟨.LAN_PAT_STAT, 0x1800014, [(512, 0x1000)], 0,
    [⟨0, 1, .ro, false, false, false, 35⟩, ⟨1, 1, .w1c, false, false, false, 35⟩, ⟨2, 1, .ro, false, false, false, 35⟩, ⟨8, 24, .ro, false, false, false, 35⟩],
    0x0, [], 0⟩]

/-- The registers of the LAN block. -/
def regsLAN : List RegDef := regsLAN0

/-- Registers of the ISL block, part 0. -/
def regsISL0 : List RegDef := [
  ⟨.ISL_CFG, 0x600000, [(8, 0x10000)], 0,
    [⟨0, 7, .rw, true, false, false, 3⟩, ⟨7, 1, .rw, true, false, false, 3⟩, ⟨8, 1, .rw, true, true, false, 3⟩],
    0x100, [], 0⟩,
  ⟨.ISL_STAT, 0x600004, [(8, 0x10000)], 0,
    [⟨0, 3, .ro, false, false, false, 35⟩, ⟨3, 1, .ro, false, false, false, 35⟩, ⟨4, 1, .ro, false, false, false, 35⟩, ⟨5, 1, .ro, false, false, false, 35⟩, ⟨6, 1, .w1c, false, false, false, 3⟩, ⟨16, 16, .ro, false, false, true, 35⟩],
    0x0, [], 0⟩,
  ⟨.ISL_RTT, 0x600008, [(8, 0x10000)], 0,
    [⟨0, 16, .ro, false, false, false, 35⟩, ⟨16, 16, .ro, false, false, false, 35⟩],
    0x0, [], 0⟩,
  ⟨.ISL_FC_CTL, 0x60000c, [(8, 0x10000)], 0,
    [⟨0, 4, .rw, true, false, false, 3⟩, ⟨4, 4, .rw, true, false, false, 3⟩, ⟨8, 4, .rw, true, false, false, 3⟩, ⟨12, 4, .rw, true, false, false, 3⟩, ⟨16, 12, .rw, true, false, false, 3⟩],
    0x2001111, [], 0⟩,
  ⟨.ISL_FC_STAT, 0x600010, [(8, 0x10000)], 0,
    [⟨0, 16, .ro, false, false, false, 35⟩, ⟨16, 4, .ro, false, false, false, 35⟩, ⟨20, 4, .ro, false, false, false, 35⟩, ⟨24, 1, .w1c, false, false, false, 3⟩],
    0x0, [], 0⟩,
  ⟨.ISL_SEQ, 0x600014, [(8, 0x10000)], 0,
    [⟨0, 12, .ro, false, false, false, 35⟩, ⟨12, 12, .ro, false, false, false, 35⟩, ⟨24, 1, .ro, false, false, false, 35⟩, ⟨25, 1, .ro, false, false, false, 35⟩],
    0x0, [], 0⟩,
  ⟨.ISL_RX_SEQ, 0x600018, [(8, 0x10000)], 0,
    [⟨0, 12, .ro, false, false, false, 35⟩, ⟨12, 1, .ro, false, false, false, 35⟩],
    0x0, [], 0⟩,
  ⟨.ISL_REPLAY_CTL, 0x60001c, [(8, 0x10000)], 0,
    [⟨0, 8, .rw, false, false, false, 3⟩, ⟨8, 4, .rw, false, false, false, 3⟩],
    0x408, [], 0⟩,
  ⟨.ISL_REPLAY_STAT, 0x600020, [(8, 0x10000)], 0,
    [⟨0, 16, .ro, false, false, true, 35⟩, ⟨16, 16, .ro, false, false, true, 35⟩],
    0x0, [], 0⟩,
  ⟨.ISL_LINK_ERR, 0x600024, [(8, 0x10000)], 0,
    [⟨0, 16, .ro, false, false, true, 35⟩, ⟨16, 16, .ro, false, false, true, 35⟩],
    0x0, [], 0⟩,
  ⟨.ISL_ACK_ERR, 0x600028, [(8, 0x10000)], 0,
    [⟨0, 16, .ro, false, false, true, 35⟩, ⟨16, 16, .ro, false, false, true, 35⟩],
    0x0, [], 0⟩,
  ⟨.ISL_ERR_WIN, 0x60002c, [(8, 0x10000)], 0,
    [⟨0, 4, .rw, false, false, false, 3⟩, ⟨4, 12, .rw, false, false, false, 3⟩, ⟨16, 12, .ro, false, false, false, 35⟩, ⟨28, 1, .w1c, false, false, false, 3⟩],
    0x40a, [], 0⟩]

/-- Registers of the ISL block, part 1. -/
def regsISL1 : List RegDef := [
  ⟨.ISL_FEC_CNT, 0x600030, [(8, 0x10000)], 0,
    [⟨0, 32, .ro, false, false, true, 35⟩],
    0x0, [], 0⟩]

/-- The registers of the ISL block. -/
def regsISL : List RegDef := regsISL0 ++ regsISL1

/-- Registers of the XBR block, part 0. -/
def regsXBR0 : List RegDef := [
  ⟨.XBR_CFG, 0x100000, [], 0,
    [⟨0, 6, .rw, true, false, false, 3⟩, ⟨8, 12, .rw, true, false, false, 3⟩],
    0x20020, [], 0⟩,
  ⟨.XBR_ERR, 0x100004, [], 0,
    [⟨0, 16, .ro, false, false, true, 35⟩, ⟨16, 16, .ro, false, false, true, 35⟩],
    0x0, [], 0⟩,
  ⟨.XBR_CORR, 0x100008, [], 0,
    [⟨0, 32, .ro, false, false, true, 35⟩],
    0x0, [], 0⟩,
  ⟨.XBR_ARB_PRIO, 0x101000, [(22, 0x100), (30, 0x4)], 0,
    [⟨0, 3, .rw, true, false, false, 3⟩, ⟨6, 3, .rw, true, false, false, 3⟩, ⟨12, 3, .rw, true, false, false, 3⟩, ⟨18, 3, .rw, true, false, false, 3⟩, ⟨24, 3, .rw, true, false, false, 3⟩, ⟨3, 3, .rw, true, false, false, 3⟩, ⟨9, 3, .rw, true, false, false, 3⟩, ⟨15, 3, .rw, true, false, false, 3⟩, ⟨21, 3, .rw, true, false, false, 3⟩, ⟨27, 3, .rw, true, false, false, 3⟩],
    0x3aebaeba, [], 0⟩,
  ⟨.XBR_ARB_CUR, 0x101080, [(22, 0x100), (30, 0x4)], 0,
    [⟨0, 3, .ro, false, false, false, 35⟩, ⟨6, 3, .ro, false, false, false, 35⟩, ⟨12, 3, .ro, false, false, false, 35⟩, ⟨18, 3, .ro, false, false, false, 35⟩, ⟨24, 3, .ro, false, false, false, 35⟩, ⟨3, 3, .ro, false, false, false, 35⟩, ⟨9, 3, .ro, false, false, false, 35⟩, ⟨15, 3, .ro, false, false, false, 35⟩, ⟨21, 3, .ro, false, false, false, 35⟩, ⟨27, 3, .ro, false, false, false, 35⟩],
    0x3aebaeba, [], 0⟩,
  ⟨.XBR_PBUF, 0x100800, [(128, 0x10)], 0,
    [⟨0, 8, .rw, true, false, false, 3⟩, ⟨8, 8, .rw, true, false, false, 3⟩, ⟨16, 8, .rw, true, false, false, 3⟩, ⟨24, 8, .rw, true, false, false, 3⟩],
    0x8081010, [], 0⟩,
  ⟨.XBR_PWD, 0x100804, [(128, 0x10)], 0,
    [⟨0, 8, .rw, false, false, false, 3⟩, ⟨8, 1, .w1c, false, false, false, 3⟩, ⟨9, 2, .ro, false, false, false, 35⟩, ⟨16, 16, .ro, false, false, true, 35⟩],
    0x10, [], 0⟩,
  ⟨.XBR_PSTAT, 0x100808, [(128, 0x10)], 0,
    [⟨0, 1, .ro, false, false, false, 35⟩, ⟨16, 16, .ro, false, false, true, 35⟩],
    0x0, [], 0⟩,
  ⟨.XBR_PFLUSH, 0x10080c, [(128, 0x10)], 0,
    [⟨0, 16, .ro, false, false, true, 35⟩, ⟨16, 16, .ro, false, false, true, 35⟩],
    0x0, [], 0⟩,
  ⟨.SHP_RATE, 0x180010, [(1023, 0x10)], 1,
    [⟨0, 24, .rw, true, false, false, 3⟩, ⟨31, 1, .rw, true, false, false, 3⟩],
    0x0, [], 0⟩,
  ⟨.SHP_BURST, 0x180014, [(1023, 0x10)], 1,
    [⟨0, 24, .rw, true, false, false, 3⟩],
    0x0, [], 0⟩,
  ⟨.SHP_CUR, 0x180018, [(1023, 0x10)], 1,
    [⟨0, 24, .ro, false, false, false, 35⟩, ⟨31, 1, .ro, false, false, false, 35⟩],
    0x0, [], 0⟩]

/-- Registers of the XBR block, part 1. -/
def regsXBR1 : List RegDef := [
  ⟨.SHP_STAT, 0x18001c, [(1023, 0x10)], 1,
    [⟨0, 25, .ro, false, false, false, 39⟩, ⟨31, 1, .ro, false, false, false, 39⟩],
    0x0, [], 0⟩]

/-- The registers of the XBR block. -/
def regsXBR : List RegDef := regsXBR0 ++ regsXBR1

/-- Registers of the BND block, part 0. -/
def regsBND0 : List RegDef := [
  ⟨.BND_CFG, 0x2000000, [(4096, 0x100)], 0,
    [⟨0, 1, .rw, true, false, false, 3⟩, ⟨1, 7, .rw, true, false, false, 3⟩, ⟨8, 7, .rw, true, false, false, 3⟩, ⟨16, 2, .rw, true, false, false, 3⟩, ⟨18, 3, .rw, true, false, false, 3⟩, ⟨21, 1, .rw, true, false, false, 3⟩, ⟨22, 1, .rw, true, false, false, 3⟩, ⟨23, 1, .rw, true, false, false, 3⟩],
    0x20000, [], 0⟩,
  ⟨.BND_REGION, 0x2000004, [(4096, 0x100)], 0,
    [⟨0, 14, .rw, true, false, false, 3⟩, ⟨16, 10, .ro, false, false, false, 47⟩, ⟨26, 2, .ro, false, false, false, 47⟩],
    0x0, [], 0⟩,
  ⟨.BND_POOLS, 0x2000008, [(4096, 0x100), (4, 0x4)], 0,
    [⟨0, 32, .rw, true, false, false, 3⟩],
    0x0, [], 0⟩,
  ⟨.BND_CUR, 0x2000018, [(4096, 0x100)], 0,
    [⟨0, 24, .ro, false, false, false, 35⟩],
    0x0, [], 0⟩,
  ⟨.BND_STAT, 0x200001c, [(4096, 0x100)], 0,
    [⟨0, 2, .ro, false, false, false, 47⟩, ⟨4, 7, .ro, false, false, false, 47⟩, ⟨16, 14, .ro, false, false, false, 47⟩],
    0x0, [], 0⟩,
  ⟨.BND_POOLS_CUR, 0x2000020, [(4096, 0x100), (4, 0x4)], 0,
    [⟨0, 32, .ro, false, false, false, 35⟩],
    0x0, [], 0⟩,
  ⟨.BND_HDM_BASE_LO, 0x2000030, [(4096, 0x100)], 0,
    [⟨28, 4, .ro, false, false, false, 43⟩],
    0x0, [], 1⟩,
  ⟨.BND_HDM_BASE_HI, 0x2000034, [(4096, 0x100)], 0,
    [⟨0, 32, .ro, false, false, false, 43⟩],
    0x0, [], 0⟩,
  ⟨.BND_HDM_SIZE_LO, 0x2000038, [(4096, 0x100)], 0,
    [⟨28, 4, .ro, false, false, false, 43⟩],
    0x0, [], 1⟩,
  ⟨.BND_HDM_SIZE_HI, 0x200003c, [(4096, 0x100)], 0,
    [⟨0, 32, .ro, false, false, false, 43⟩],
    0x0, [], 0⟩,
  ⟨.BND_HDM_CTL, 0x2000040, [(4096, 0x100)], 0,
    [⟨0, 4, .ro, false, false, false, 43⟩, ⟨4, 4, .ro, false, false, false, 43⟩, ⟨8, 1, .ro, false, false, false, 43⟩, ⟨9, 1, .ro, false, false, false, 43⟩, ⟨10, 1, .ro, false, false, false, 43⟩],
    0x0, [], 0⟩,
  ⟨.BND_LOG_CTL, 0x2000050, [(4096, 0x100)], 0,
    [⟨0, 19, .rw, true, false, false, 3⟩, ⟨31, 1, .rw, true, false, false, 3⟩],
    0x0, [], 0⟩]

/-- Registers of the BND block, part 1. -/
def regsBND1 : List RegDef := [
  ⟨.BND_LOG_LEN, 0x2000054, [(4096, 0x100)], 0,
    [⟨0, 20, .rw, true, false, false, 3⟩],
    0x0, [], 0⟩,
  ⟨.BND_HARV_ADDR_LO, 0x2000058, [(4096, 0x100)], 0,
    [⟨12, 20, .rw, false, false, false, 3⟩],
    0x0, [], 1⟩,
  ⟨.BND_HARV_ADDR_HI, 0x200005c, [(4096, 0x100)], 0,
    [⟨0, 32, .rw, false, false, false, 3⟩],
    0x0, [], 0⟩,
  ⟨.BND_HARV_CTL, 0x2000060, [(4096, 0x100)], 0,
    [⟨0, 7, .rw, false, false, false, 3⟩, ⟨8, 1, .w1s, false, false, false, 3⟩],
    0x0, [], 0⟩,
  ⟨.BND_HARV_STAT, 0x2000064, [(4096, 0x100)], 0,
    [⟨0, 1, .ro, false, false, false, 35⟩, ⟨1, 1, .w1c, false, false, false, 3⟩, ⟨2, 1, .ro, false, false, false, 35⟩, ⟨3, 1, .w1c, false, false, false, 3⟩, ⟨16, 16, .ro, false, false, false, 35⟩],
    0x0, [], 0⟩,
  ⟨.BND_ERR_STAT, 0x2000080, [(4096, 0x100)], 0,
    [⟨0, 8, .ro, false, false, false, 47⟩, ⟨8, 1, .w1c, false, false, false, 11⟩],
    0x0, [], 0⟩,
  ⟨.BND_ERR_PARCEL, 0x2000084, [(4096, 0x100)], 0,
    [⟨0, 28, .ro, false, false, false, 47⟩],
    0x0, [], 0⟩,
  ⟨.BND_ERR_DPA_LO, 0x2000088, [(4096, 0x100)], 0,
    [⟨0, 32, .ro, false, false, false, 12⟩],
    0x0, [], 1⟩,
  ⟨.BND_ERR_DPA_HI, 0x200008c, [(4096, 0x100)], 0,
    [⟨0, 32, .ro, false, false, false, 12⟩],
    0x0, [], 0⟩,
  ⟨.BND_ERR_CNT0, 0x2000090, [(4096, 0x100)], 0,
    [⟨0, 16, .ro, false, false, false, 47⟩, ⟨16, 16, .ro, false, false, false, 47⟩],
    0x0, [], 0⟩,
  ⟨.BND_ERR_CNT1, 0x2000094, [(4096, 0x100)], 0,
    [⟨0, 16, .ro, false, false, false, 47⟩, ⟨16, 16, .ro, false, false, false, 47⟩],
    0x0, [], 0⟩,
  ⟨.BND_RST, 0x2000098, [(4096, 0x100)], 0,
    [⟨0, 1, .w1s, false, false, false, 11⟩, ⟨16, 16, .ro, false, false, true, 43⟩],
    0x0, [], 0⟩]

/-- The registers of the BND block. -/
def regsBND : List RegDef := regsBND0 ++ regsBND1

/-- Registers of the HOM block, part 0. -/
def regsHOM0 : List RegDef := [
  ⟨.HOM_CFG, 0x200000, [], 0,
    [⟨0, 8, .rw, true, false, false, 3⟩],
    0x8, [], 0⟩,
  ⟨.HOM_STAT, 0x200004, [], 0,
    [⟨0, 1, .ro, false, false, false, 35⟩, ⟨1, 1, .ro, false, false, false, 35⟩, ⟨8, 8, .ro, false, false, false, 35⟩],
    0x800, [], 0⟩,
  ⟨.HOM_DIR_STAT, 0x200008, [], 0,
    [⟨0, 16, .ro, false, false, false, 35⟩, ⟨16, 16, .ro, false, false, false, 35⟩],
    0x0, [], 0⟩,
  ⟨.HOM_ERR, 0x20000c, [], 0,
    [⟨0, 16, .ro, false, false, true, 35⟩, ⟨16, 16, .ro, false, false, true, 35⟩],
    0x0, [], 0⟩,
  ⟨.HOM_UE, 0x200010, [], 0,
    [⟨0, 16, .ro, false, false, true, 35⟩, ⟨16, 16, .ro, false, false, true, 35⟩],
    0x0, [], 0⟩,
  ⟨.HOM_EVICT, 0x200014, [], 0,
    [⟨0, 32, .ro, false, false, true, 35⟩],
    0x0, [], 0⟩,
  ⟨.HOM_HOST_MAP, 0x200100, [(64, 0x4)], 0,
    [⟨0, 7, .rw, true, false, false, 3⟩, ⟨7, 3, .rw, true, false, false, 3⟩, ⟨15, 1, .rw, true, false, false, 3⟩],
    0x0, [], 0⟩,
  ⟨.HOM_HOST_CUR, 0x200200, [(64, 0x4)], 0,
    [⟨0, 16, .ro, false, false, false, 35⟩],
    0x0, [], 0⟩,
  ⟨.HOM_HOST_STAT, 0x200300, [(64, 0x4)], 0,
    [⟨0, 2, .ro, false, false, false, 35⟩, ⟨2, 1, .w1s, false, false, false, 3⟩, ⟨3, 1, .w1s, false, false, false, 3⟩, ⟨4, 1, .w1c, false, false, false, 3⟩, ⟨16, 16, .ro, false, false, true, 35⟩],
    0x0, [], 0⟩,
  ⟨.HOM_SLC_TT, 0x201000, [(16, 0x40)], 0,
    [⟨0, 14, .ro, false, false, false, 35⟩, ⟨16, 11, .ro, false, false, false, 35⟩],
    0x0, [], 0⟩,
  ⟨.HOM_SLC_MISS, 0x201004, [(16, 0x40)], 0,
    [⟨0, 32, .ro, false, false, true, 35⟩],
    0x0, [], 0⟩,
  ⟨.HOM_SLC_CONFL, 0x201008, [(16, 0x40)], 0,
    [⟨0, 32, .ro, false, false, true, 35⟩],
    0x0, [], 0⟩]

/-- Registers of the HOM block, part 1. -/
def regsHOM1 : List RegDef := [
  ⟨.HOM_SLC_SNP, 0x20100c, [(16, 0x40)], 0,
    [⟨0, 16, .ro, false, false, true, 35⟩, ⟨16, 16, .ro, false, false, true, 35⟩],
    0x0, [], 0⟩]

/-- The registers of the HOM block. -/
def regsHOM : List RegDef := regsHOM0 ++ regsHOM1

/-- Registers of the SEC block, part 0. -/
def regsSEC0 : List RegDef := [
  ⟨.SEC_STAT, 0x500000, [], 0,
    [⟨0, 1, .ro, false, false, false, 47⟩, ⟨1, 1, .ro, false, false, false, 47⟩, ⟨16, 11, .ro, false, false, false, 35⟩],
    0x0, [], 0⟩,
  ⟨.SEC_INTEG, 0x500010, [], 0,
    [⟨0, 32, .ro, false, false, true, 35⟩],
    0x0, [], 0⟩,
  ⟨.SEC_OVF, 0x500014, [], 0,
    [⟨0, 32, .ro, false, false, true, 35⟩],
    0x0, [], 0⟩,
  ⟨.SEC_MCACHE, 0x500018, [], 0,
    [⟨0, 16, .ro, false, false, false, 35⟩, ⟨16, 12, .ro, false, false, false, 35⟩],
    0x0, [], 0⟩,
  ⟨.SEC_IFAIL_STAT, 0x500020, [], 0,
    [⟨0, 1, .w1c, false, false, false, 3⟩, ⟨1, 4, .ro, false, false, false, 35⟩, ⟨16, 14, .ro, false, false, false, 35⟩],
    0x0, [], 0⟩,
  ⟨.SEC_IFAIL_PARCEL, 0x500024, [], 0,
    [⟨0, 28, .ro, false, false, false, 35⟩],
    0x0, [], 0⟩,
  ⟨.SEC_POOL_CAP, 0x500100, [(4, 0x4)], 0,
    [⟨0, 32, .rw, true, false, false, 3⟩],
    0x0, [], 0⟩,
  ⟨.SEC_POOL_CAP_CUR, 0x500110, [(4, 0x4)], 0,
    [⟨0, 32, .ro, false, false, false, 35⟩],
    0x0, [], 0⟩,
  ⟨.SEC_SLOT, 0x501000, [(1024, 0x4)], 0,
    [⟨0, 2, .ro, false, false, false, 39⟩, ⟨2, 1, .rw, false, true, false, 1⟩, ⟨16, 14, .ro, false, false, false, 39⟩],
    0x0, [], 0⟩,
  ⟨.GATE_CTL, 0x508000, [(48, 0x40)], 128,
    [⟨0, 1, .rw, true, false, false, 3⟩, ⟨1, 1, .ro, false, false, false, 35⟩, ⟨2, 1, .w1c, false, false, false, 3⟩, ⟨8, 9, .ro, false, false, false, 35⟩],
    0x0, [], 0⟩,
  ⟨.GATE_VIO_STAT, 0x508004, [(48, 0x40)], 128,
    [⟨0, 1, .w1c, false, false, false, 3⟩, ⟨1, 1, .ro, false, false, false, 35⟩, ⟨2, 2, .ro, false, false, false, 35⟩, ⟨16, 16, .ro, false, false, false, 35⟩],
    0x0, [], 0⟩,
  ⟨.GATE_VIO_INIT, 0x508008, [(48, 0x40)], 128,
    [⟨0, 16, .ro, false, false, false, 35⟩],
    0x0, [], 0⟩]

/-- Registers of the SEC block, part 1. -/
def regsSEC1 : List RegDef := [
  ⟨.GATE_VIO_ADDR_LO, 0x50800c, [(48, 0x40)], 128,
    [⟨0, 32, .ro, false, false, false, 35⟩],
    0x0, [], 1⟩,
  ⟨.GATE_VIO_ADDR_HI, 0x508010, [(48, 0x40)], 128,
    [⟨0, 32, .ro, false, false, false, 35⟩],
    0x0, [], 0⟩,
  ⟨.GATE_VIO_OFS, 0x508014, [(48, 0x40)], 128,
    [⟨0, 32, .ro, false, false, false, 35⟩],
    0x0, [], 0⟩,
  ⟨.GATE_VIO_LEN, 0x508018, [(48, 0x40)], 128,
    [⟨0, 32, .ro, false, false, false, 35⟩],
    0x0, [], 0⟩,
  ⟨.GATE_VIO_FRM_LO, 0x50801c, [(48, 0x40)], 128,
    [⟨0, 32, .ro, false, false, false, 35⟩],
    0x0, [], 1⟩,
  ⟨.GATE_VIO_FRM_HI, 0x508020, [(48, 0x40)], 128,
    [⟨0, 32, .ro, false, false, false, 35⟩],
    0x0, [], 0⟩,
  ⟨.GATE_HEALTH, 0x508024, [(48, 0x40)], 128,
    [⟨0, 1, .ro, false, false, false, 35⟩, ⟨16, 16, .ro, false, false, false, 35⟩],
    0x0, [], 0⟩]

/-- The registers of the SEC block. -/
def regsSEC : List RegDef := regsSEC0 ++ regsSEC1

/-- Registers of the OXB block, part 0. -/
def regsOXB0 : List RegDef := [
  ⟨.OXB_CFG, 0x300000, [], 0,
    [⟨0, 1, .rw, true, false, false, 3⟩, ⟨1, 7, .rw, true, false, false, 3⟩, ⟨8, 1, .rw, true, false, false, 3⟩],
    0x181, [], 0⟩,
  ⟨.OXB_SHARE, 0x300004, [], 0,
    [⟨0, 10, .rw, true, false, false, 3⟩, ⟨16, 10, .rw, true, false, false, 3⟩],
    0xfa0014, [], 0⟩,
  ⟨.OXB_RANK, 0x300008, [], 0,
    [⟨0, 8, .rw, true, false, false, 3⟩, ⟨8, 8, .rw, true, false, false, 3⟩, ⟨16, 4, .rw, true, false, false, 3⟩, ⟨20, 4, .rw, true, false, false, 3⟩, ⟨24, 8, .rw, true, false, false, 3⟩],
    0x40440840, [], 0⟩,
  ⟨.OXB_STAT, 0x30000c, [], 0,
    [⟨0, 7, .ro, false, false, false, 35⟩, ⟨7, 1, .ro, false, false, false, 35⟩, ⟨8, 1, .ro, false, false, false, 35⟩, ⟨16, 16, .ro, false, false, false, 35⟩],
    0x0, [], 0⟩,
  ⟨.OXB_DONE, 0x300010, [], 0,
    [⟨0, 32, .ro, false, false, true, 35⟩],
    0x0, [], 0⟩,
  ⟨.OXB_ABORT, 0x300014, [], 0,
    [⟨0, 16, .ro, false, false, true, 35⟩, ⟨16, 16, .ro, false, false, true, 35⟩],
    0x0, [], 0⟩,
  ⟨.OXB_FLIP, 0x300018, [], 0,
    [⟨0, 16, .ro, false, false, true, 35⟩, ⟨16, 16, .ro, false, false, true, 35⟩],
    0x0, [], 0⟩,
  ⟨.OXB_POOL_CFG, 0x301000, [(128, 0x20)], 0,
    [⟨0, 3, .rw, true, false, false, 3⟩, ⟨3, 1, .rw, true, false, false, 3⟩, ⟨8, 16, .rw, true, false, false, 3⟩],
    0x1000, [], 0⟩,
  ⟨.OXB_POOL_BASE, 0x301004, [(128, 0x20)], 0,
    [⟨0, 30, .rw, true, false, false, 3⟩],
    0x0, [], 0⟩,
  ⟨.OXB_POOL_SIZE, 0x301008, [(128, 0x20)], 0,
    [⟨0, 31, .ro, false, false, false, 35⟩],
    0x0, [], 0⟩,
  ⟨.OXB_POOL_FREE, 0x30100c, [(128, 0x20)], 0,
    [⟨0, 31, .ro, false, false, false, 35⟩, ⟨31, 1, .ro, false, false, false, 35⟩],
    0x0, [], 0⟩,
  ⟨.OXB_POOL_HEAT, 0x301010, [(128, 0x20)], 0,
    [⟨0, 8, .ro, false, false, false, 3⟩, ⟨8, 8, .ro, false, false, false, 3⟩],
    0x0, [], 0⟩]

/-- Registers of the OXB block, part 1. -/
def regsOXB1 : List RegDef := [
  ⟨.OXB_EVAC, 0x301014, [(128, 0x20)], 0,
    [⟨0, 1, .w1s, false, false, false, 3⟩, ⟨1, 1, .rw, false, false, false, 3⟩, ⟨2, 1, .w1s, false, false, false, 3⟩, ⟨4, 2, .ro, false, false, false, 35⟩],
    0x0, [], 0⟩,
  ⟨.OXB_EVAC_REM, 0x301018, [(128, 0x20)], 0,
    [⟨0, 31, .ro, false, false, false, 35⟩],
    0x0, [], 0⟩,
  ⟨.OXB_MV_STAT, 0x302000, [(64, 0x10)], 0,
    [⟨0, 3, .ro, false, false, false, 35⟩, ⟨3, 1, .ro, false, false, false, 35⟩, ⟨4, 4, .ro, false, false, false, 35⟩, ⟨8, 1, .ro, false, false, false, 35⟩, ⟨9, 13, .ro, false, false, false, 35⟩],
    0x0, [], 0⟩,
  ⟨.OXB_MV_POOLS, 0x302004, [(64, 0x10)], 0,
    [⟨0, 7, .ro, false, false, false, 35⟩, ⟨8, 7, .ro, false, false, false, 35⟩],
    0x0, [], 0⟩,
  ⟨.OXB_MV_TT, 0x302008, [(64, 0x10)], 0,
    [⟨0, 30, .ro, false, false, false, 35⟩],
    0x0, [], 0⟩,
  ⟨.OXB_MV_PPI, 0x30200c, [(64, 0x10)], 0,
    [⟨0, 30, .ro, false, false, false, 35⟩],
    0x0, [], 0⟩,
  ⟨.OXB_BQ_CFG, 0x304000, [(32, 0x20)], 0,
    [⟨0, 1, .rw, false, false, false, 11⟩, ⟨1, 7, .rw, false, false, false, 3⟩, ⟨8, 4, .rw, false, false, false, 8⟩],
    0x0, [], 0⟩,
  ⟨.OXB_BQ_BASE_LO, 0x304004, [(32, 0x20)], 0,
    [⟨12, 20, .rw, false, false, false, 8⟩],
    0x0, [], 1⟩,
  ⟨.OXB_BQ_BASE_HI, 0x304008, [(32, 0x20)], 0,
    [⟨0, 32, .rw, false, false, false, 8⟩],
    0x0, [], 0⟩,
  ⟨.OXB_BQ_TAIL, 0x30400c, [(32, 0x20)], 0,
    [⟨0, 20, .rw, false, false, false, 8⟩],
    0x0, [], 0⟩,
  ⟨.OXB_BQ_HEAD, 0x304010, [(32, 0x20)], 0,
    [⟨0, 20, .ro, false, false, false, 43⟩],
    0x0, [], 0⟩,
  ⟨.OXB_BQ_STAT, 0x304014, [(32, 0x20)], 0,
    [⟨0, 1, .ro, false, false, false, 43⟩, ⟨1, 1, .w1c, false, false, false, 11⟩, ⟨16, 16, .ro, false, false, false, 43⟩],
    0x0, [], 0⟩]

/-- The registers of the OXB block. -/
def regsOXB : List RegDef := regsOXB0 ++ regsOXB1

/-- Registers of the LWB block, part 0. -/
def regsLWB0 : List RegDef := [
  ⟨.LWB_CFG, 0x400000, [], 0,
    [⟨0, 8, .rw, true, false, false, 3⟩, ⟨8, 8, .rw, true, false, false, 3⟩, ⟨16, 8, .rw, true, false, false, 3⟩, ⟨24, 8, .rw, true, false, false, 3⟩],
    0x10041040, [], 0⟩,
  ⟨.LWB_STAT, 0x400004, [], 0,
    [⟨0, 1, .ro, false, false, false, 43⟩, ⟨1, 7, .ro, false, false, false, 35⟩, ⟨8, 8, .ro, false, false, false, 35⟩, ⟨16, 16, .ro, false, false, true, 35⟩],
    0x1, [], 0⟩,
  ⟨.LWB_DB_LO, 0x400008, [], 0,
    [⟨12, 20, .rw, false, false, false, 3⟩],
    0x0, [], 1⟩,
  ⟨.LWB_DB_HI, 0x40000c, [], 0,
    [⟨0, 32, .rw, false, false, false, 3⟩],
    0x0, [], 0⟩,
  ⟨.LWB_LOCK, 0x400800, [(128, 0x4)], 0,
    [⟨0, 6, .rw, false, false, false, 11⟩, ⟨6, 1, .w1s, false, false, false, 11⟩, ⟨7, 1, .w1s, false, false, false, 11⟩, ⟨8, 1, .ro, false, false, false, 43⟩, ⟨9, 1, .ro, false, false, false, 43⟩, ⟨10, 1, .w1c, false, false, false, 11⟩, ⟨11, 1, .w1c, false, false, false, 11⟩, ⟨16, 16, .ro, false, false, true, 43⟩],
    0x0, [], 0⟩,
  ⟨.LWB_WIN_CFG, 0x401000, [(64, 0x80)], 0,
    [⟨0, 1, .rw, true, false, false, 3⟩, ⟨1, 7, .rw, true, false, false, 3⟩, ⟨8, 12, .rw, true, false, false, 3⟩, ⟨20, 2, .rw, true, false, false, 3⟩, ⟨22, 1, .rw, true, false, false, 3⟩, ⟨23, 1, .rw, true, false, false, 3⟩, ⟨24, 1, .rw, true, false, false, 3⟩, ⟨25, 1, .rw, true, false, false, 3⟩, ⟨26, 3, .rw, true, false, false, 3⟩, ⟨29, 1, .rw, true, false, false, 3⟩],
    0x200000, [], 0⟩,
  ⟨.LWB_WIN_CUR, 0x401004, [(64, 0x80)], 0,
    [⟨0, 30, .ro, false, false, false, 43⟩],
    0x0, [], 0⟩,
  ⟨.LWB_WIN_BASE, 0x401008, [(64, 0x80)], 0,
    [⟨0, 30, .rw, true, false, false, 3⟩],
    0x0, [], 0⟩,
  ⟨.LWB_WIN_SIZE, 0x40100c, [(64, 0x80)], 0,
    [⟨0, 21, .rw, true, false, false, 3⟩],
    0x0, [], 0⟩,
  ⟨.LWB_WIN_FAR_LO, 0x401010, [(64, 0x80)], 0,
    [⟨12, 20, .rw, true, false, false, 3⟩],
    0x0, [], 1⟩,
  ⟨.LWB_WIN_FAR_HI, 0x401014, [(64, 0x80)], 0,
    [⟨0, 32, .rw, true, false, false, 3⟩],
    0x0, [], 0⟩,
  ⟨.LWB_WIN_FENCE, 0x401018, [(64, 0x80)], 0,
    [⟨0, 1, .w1s, false, false, false, 11⟩, ⟨1, 1, .ro, false, false, false, 43⟩, ⟨2, 1, .ro, false, false, false, 43⟩],
    0x6, [], 0⟩]

/-- Registers of the LWB block, part 1. -/
def regsLWB1 : List RegDef := [
  ⟨.LWB_WIN_WFAIL, 0x40101c, [(64, 0x80)], 0,
    [⟨0, 1, .w1c, false, false, false, 11⟩, ⟨1, 1, .ro, false, false, false, 43⟩, ⟨2, 1, .ro, false, false, false, 43⟩, ⟨16, 16, .ro, false, false, true, 43⟩],
    0x0, [], 0⟩,
  ⟨.LWB_WIN_WADDR_LO, 0x401020, [(64, 0x80)], 0,
    [⟨0, 32, .ro, false, false, false, 12⟩],
    0x0, [], 1⟩,
  ⟨.LWB_WIN_WADDR_HI, 0x401024, [(64, 0x80)], 0,
    [⟨0, 32, .ro, false, false, false, 12⟩],
    0x0, [], 0⟩,
  ⟨.LWB_WIN_ERR, 0x401028, [(64, 0x80)], 0,
    [⟨0, 16, .ro, false, false, true, 43⟩, ⟨16, 16, .ro, false, false, true, 43⟩],
    0x0, [], 0⟩,
  ⟨.LWB_WIN_PF, 0x40102c, [(64, 0x80)], 0,
    [⟨0, 16, .ro, false, false, true, 43⟩, ⟨16, 16, .ro, false, false, true, 43⟩],
    0x0, [], 0⟩,
  ⟨.LWB_WIN_IRQ, 0x401030, [(64, 0x80)], 0,
    [⟨0, 6, .rw, true, false, false, 3⟩, ⟨6, 1, .rw, true, false, false, 3⟩, ⟨7, 1, .rw, true, false, false, 3⟩, ⟨8, 1, .rw, true, false, false, 3⟩, ⟨16, 16, .ro, false, false, false, 43⟩],
    0x0, [], 0⟩,
  ⟨.LWB_WIN_MIR_CTL, 0x401034, [(64, 0x80)], 0,
    [⟨0, 1, .rw, false, false, false, 3⟩, ⟨1, 1, .rw, false, false, false, 3⟩, ⟨2, 12, .rw, false, false, false, 3⟩, ⟨14, 12, .rw, false, false, false, 3⟩],
    0x0, [], 0⟩,
  ⟨.LWB_WIN_MIR_IN_LO, 0x401038, [(64, 0x80)], 0,
    [⟨0, 32, .ro, false, false, false, 43⟩],
    0x0, [], 1⟩,
  ⟨.LWB_WIN_MIR_IN_HI, 0x40103c, [(64, 0x80)], 0,
    [⟨0, 32, .ro, false, false, false, 43⟩],
    0x0, [], 0⟩,
  ⟨.LWB_WIN_MIR_OUT_LO, 0x401040, [(64, 0x80)], 0,
    [⟨0, 32, .rw, false, false, false, 11⟩],
    0x0, [], 1⟩,
  ⟨.LWB_WIN_MIR_OUT_HI, 0x401044, [(64, 0x80)], 0,
    [⟨0, 32, .rw, false, false, false, 11⟩],
    0x0, [], 0⟩,
  ⟨.LWB_WIN_MIR_SEQ, 0x401048, [(64, 0x80)], 0,
    [⟨0, 16, .ro, false, false, false, 43⟩, ⟨16, 16, .ro, false, false, false, 43⟩],
    0x0, [], 0⟩]

/-- The registers of the LWB block. -/
def regsLWB : List RegDef := regsLWB0 ++ regsLWB1

/-- Registers of the GLB block, part 0. -/
def regsGLB0 : List RegDef := [
  ⟨.GLB_ID, 0x100, [], 0,
    [⟨0, 16, .ro, false, false, false, 63⟩, ⟨16, 16, .ro, false, false, false, 63⟩],
    0x0, [], 0⟩,
  ⟨.GLB_STEP, 0x104, [], 0,
    [⟨0, 4, .ro, false, false, false, 63⟩, ⟨4, 4, .ro, false, false, false, 63⟩],
    0x0, [], 0⟩,
  ⟨.GLB_ID_DIGEST, 0x110, [(12, 0x4)], 0,
    [⟨0, 32, .ro, false, false, false, 63⟩],
    0x0, [], 11⟩,
  ⟨.GLB_LC_STAT, 0x140, [], 0,
    [⟨0, 3, .ro, false, false, false, 63⟩, ⟨3, 1, .ro, false, false, false, 63⟩, ⟨4, 1, .ro, false, false, false, 35⟩, ⟨5, 1, .ro, false, false, false, 63⟩, ⟨8, 8, .ro, false, false, false, 63⟩],
    0x0, [], 0⟩,
  ⟨.GLB_FW_SVN, 0x144, [], 0,
    [⟨0, 7, .ro, false, false, false, 63⟩, ⟨8, 7, .ro, false, false, false, 63⟩, ⟨15, 1, .ro, false, false, false, 51⟩, ⟨16, 1, .ro, false, false, false, 51⟩],
    0x0, [], 0⟩,
  ⟨.GLB_FW_POL, 0x148, [], 0,
    [⟨0, 1, .rw, false, true, false, 1⟩],
    0x0, [], 0⟩,
  ⟨.GLB_BID_STAT, 0x14c, [], 0,
    [⟨0, 1, .ro, false, false, false, 35⟩, ⟨1, 1, .w1c, false, false, false, 3⟩, ⟨2, 1, .w1c, false, false, false, 3⟩, ⟨3, 1, .w1c, false, false, false, 3⟩],
    0x0, [], 0⟩,
  ⟨.GLB_TOK_STAT, 0x150, [], 0,
    [⟨0, 16, .ro, false, false, true, 35⟩, ⟨16, 16, .ro, false, false, true, 35⟩],
    0x0, [], 0⟩,
  ⟨.GLB_MODE, 0x0, [], 0,
    [⟨0, 4, .ro, false, false, false, 63⟩, ⟨4, 2, .ro, false, false, false, 63⟩, ⟨6, 1, .ro, false, false, false, 35⟩, ⟨7, 1, .ro, false, false, false, 35⟩, ⟨8, 1, .ro, false, false, false, 35⟩],
    0x30, [], 0⟩,
  ⟨.GLB_MODE_REQ, 0x4, [], 0,
    [⟨0, 4, .rw, false, false, false, 3⟩, ⟨7, 1, .rw, false, false, false, 1⟩, ⟨8, 2, .rw, false, false, false, 3⟩, ⟨16, 1, .w1s, false, false, false, 3⟩, ⟨17, 1, .w1s, false, false, false, 3⟩, ⟨18, 1, .w1c, false, false, false, 3⟩],
    0x0, [], 0⟩,
  ⟨.GLB_MODE_FRM_LO, 0x8, [], 0,
    [⟨0, 32, .ro, false, false, false, 35⟩],
    0x0, [], 1⟩,
  ⟨.GLB_MODE_FRM_HI, 0xc, [], 0,
    [⟨0, 32, .ro, false, false, false, 35⟩],
    0x0, [], 0⟩]

/-- Registers of the GLB block, part 1. -/
def regsGLB1 : List RegDef := [
  ⟨.GLB_DEG, 0x10, [], 0,
    [⟨0, 1, .ro, false, false, false, 35⟩, ⟨1, 1, .ro, false, false, false, 35⟩, ⟨2, 1, .ro, false, false, false, 35⟩],
    0x0, [], 0⟩,
  ⟨.GLB_QUAR, 0x14, [], 0,
    [⟨0, 1, .ro, false, false, false, 35⟩, ⟨16, 16, .ro, false, false, true, 35⟩],
    0x0, [], 0⟩,
  ⟨.GLB_RST_CTL, 0x20, [], 0,
    [⟨0, 1, .w1s, false, false, false, 1⟩, ⟨1, 1, .w1s, false, false, false, 1⟩, ⟨2, 1, .w1s, false, false, false, 3⟩, ⟨8, 7, .rw, false, false, false, 3⟩],
    0x0, [], 0⟩,
  ⟨.GLB_RST_STAT, 0x24, [], 0,
    [⟨0, 3, .ro, false, false, false, 35⟩, ⟨3, 1, .ro, false, false, true, 35⟩, ⟨16, 16, .ro, false, false, true, 35⟩],
    0x0, [], 0⟩,
  ⟨.GLB_HOLD, 0x28, [], 0,
    [⟨0, 16, .ro, false, false, false, 35⟩, ⟨16, 16, .ro, false, false, true, 35⟩],
    0x0, [], 0⟩,
  ⟨.GLB_DBG_STAT, 0x30, [], 0,
    [⟨0, 1, .ro, false, false, false, 35⟩, ⟨1, 1, .ro, false, false, false, 35⟩, ⟨8, 7, .ro, false, false, false, 35⟩, ⟨16, 16, .ro, false, false, true, 35⟩],
    0x0, [], 0⟩,
  ⟨.GLB_DBG_LIFE_LO, 0x34, [], 0,
    [⟨0, 32, .ro, false, false, false, 35⟩],
    0x0, [], 1⟩,
  ⟨.GLB_DBG_LIFE_HI, 0x38, [], 0,
    [⟨0, 32, .ro, false, false, false, 35⟩],
    0x0, [], 0⟩]

/-- The registers of the GLB block. -/
def regsGLB : List RegDef := regsGLB0 ++ regsGLB1

/-- Registers of the MBX block, part 0. -/
def regsMBX0 : List RegDef := [
  ⟨.MBX_CTL, 0x40000, [], 0,
    [⟨0, 1, .w1s, false, false, false, 3⟩],
    0x0, [], 0⟩,
  ⟨.MBX_STAT, 0x40004, [], 0,
    [⟨0, 9, .ro, false, false, false, 35⟩, ⟨9, 1, .ro, false, false, false, 43⟩, ⟨16, 16, .ro, false, false, true, 35⟩],
    0x0, [], 0⟩,
  ⟨.MBX_STAGE, 0x40008, [], 0,
    [⟨0, 16, .ro, false, false, false, 35⟩, ⟨16, 1, .ro, false, false, false, 35⟩, ⟨24, 7, .ro, false, false, false, 35⟩],
    0x0, [], 0⟩,
  ⟨.MBX_ERR, 0x4000c, [], 0,
    [⟨0, 16, .ro, false, false, true, 35⟩, ⟨16, 16, .ro, false, false, true, 35⟩],
    0x0, [], 0⟩,
  ⟨.MBX_STAGE_REF, 0x40010, [], 0,
    [⟨0, 16, .ro, false, false, true, 35⟩],
    0x0, [], 0⟩,
  ⟨.MBX_MRST_STAT, 0x40014, [], 0,
    [⟨0, 8, .ro, false, false, true, 35⟩, ⟨8, 8, .ro, false, false, true, 35⟩, ⟨16, 8, .ro, false, false, true, 35⟩, ⟨24, 3, .ro, false, false, true, 35⟩],
    0x0, [], 0⟩,
  ⟨.MBX_RT, 0x40100, [(132, 0x4)], 0,
    [⟨0, 5, .ro, false, false, false, 35⟩, ⟨5, 1, .ro, false, false, false, 35⟩, ⟨16, 16, .ro, false, false, true, 35⟩],
    0x0, [], 0⟩,
  ⟨.MBX_LC, 0x41000, [(64, 0x4)], 0,
    [⟨0, 16, .ro, false, false, false, 35⟩, ⟨16, 3, .ro, false, false, false, 35⟩, ⟨19, 10, .ro, false, false, false, 35⟩],
    0x0, [], 0⟩]

/-- The registers of the MBX block. -/
def regsMBX : List RegDef := regsMBX0

/-- Registers of the SLT block, part 0. -/
def regsSLT0 : List RegDef := [
  ⟨.SLT_FEED, 0x80000, [(4, 0x4)], 0,
    [⟨0, 16, .ro, false, false, false, 35⟩, ⟨16, 16, .ro, false, false, false, 35⟩],
    0x0, [], 0⟩,
  ⟨.SLT_FEED_STAT, 0x80010, [], 0,
    [⟨0, 4, .ro, false, false, false, 35⟩, ⟨4, 4, .ro, false, false, false, 35⟩, ⟨8, 4, .ro, false, false, false, 35⟩, ⟨12, 4, .ro, false, false, false, 35⟩],
    0x0, [], 0⟩,
  ⟨.SLT_CH_CFG, 0x81000, [(32, 0x80)], 0,
    [⟨0, 1, .rw, true, false, false, 3⟩, ⟨1, 1, .rw, true, false, false, 3⟩, ⟨2, 1, .rw, true, false, false, 3⟩, ⟨3, 1, .rw, true, false, false, 3⟩, ⟨4, 1, .rw, true, false, false, 3⟩, ⟨5, 2, .rw, true, false, false, 3⟩, ⟨8, 11, .rw, true, false, false, 3⟩],
    0x6426, [], 0⟩,
  ⟨.SLT_CH_TIME, 0x81004, [(32, 0x80)], 0,
    [⟨0, 8, .rw, true, false, false, 3⟩, ⟨8, 8, .rw, true, false, false, 3⟩, ⟨16, 8, .rw, true, false, false, 3⟩, ⟨24, 8, .rw, true, false, false, 3⟩],
    0x6c323c01, [], 0⟩,
  ⟨.SLT_CH_SHUNT, 0x81008, [(32, 0x80)], 0,
    [⟨0, 16, .rw, true, false, false, 3⟩],
    0x7d0, [], 0⟩,
  ⟨.SLT_CH_BRK, 0x81010, [(32, 0x80), (8, 0x4)], 0,
    [⟨0, 8, .rw, true, false, false, 3⟩, ⟨8, 24, .rw, true, false, false, 3⟩],
    0x0, [0x9896808c, 0x4c4b4096, 0x1e8480a0, 0xf4240aa, 0x7a120b4, 0x186a0c8, 0x4e20dc, 0x1388f0], 0⟩,
  ⟨.SLT_CH_CTL, 0x81030, [(32, 0x80)], 0,
    [⟨0, 1, .w1s, false, false, false, 3⟩, ⟨1, 1, .w1s, false, false, false, 3⟩, ⟨2, 1, .w1s, false, false, false, 3⟩, ⟨3, 1, .w1s, false, false, false, 3⟩, ⟨4, 1, .w1c, false, false, false, 3⟩, ⟨5, 1, .w1c, false, false, false, 3⟩],
    0x0, [], 0⟩,
  ⟨.SLT_CH_STAT, 0x81034, [(32, 0x80)], 0,
    [⟨0, 3, .ro, false, false, false, 35⟩, ⟨3, 1, .ro, false, false, false, 35⟩, ⟨4, 1, .ro, false, false, false, 35⟩, ⟨5, 2, .ro, false, false, false, 35⟩, ⟨7, 1, .ro, false, false, false, 35⟩, ⟨8, 1, .ro, false, false, false, 35⟩, ⟨9, 1, .ro, false, false, false, 35⟩, ⟨10, 3, .ro, false, false, false, 35⟩, ⟨13, 3, .ro, false, false, false, 35⟩, ⟨16, 4, .ro, false, false, false, 35⟩],
    0x0, [], 0⟩,
  ⟨.SLT_CH_MEAS, 0x81038, [(32, 0x80)], 0,
    [⟨0, 16, .ro, false, false, false, 35⟩, ⟨16, 16, .ro, false, false, false, 35⟩],
    0x0, [], 0⟩,
  ⟨.SLT_CH_OFFT, 0x8103c, [(32, 0x80)], 0,
    [⟨0, 25, .ro, false, false, false, 35⟩],
    0x0, [], 0⟩,
  ⟨.SLT_CH_CNT, 0x81040, [(32, 0x80)], 0,
    [⟨0, 16, .ro, false, false, true, 35⟩, ⟨16, 16, .ro, false, false, true, 35⟩],
    0x0, [], 0⟩,
  ⟨.SLT_CH_CUR, 0x81044, [(32, 0x80)], 0,
    [⟨0, 19, .ro, false, false, false, 35⟩, ⟨31, 1, .ro, false, false, false, 35⟩],
    0x6426, [], 0⟩]

/-- The registers of the SLT block. -/
def regsSLT : List RegDef := regsSLT0

/-- Registers of the FLT block, part 0. -/
def regsFLT0 : List RegDef := [
  ⟨.FLT_STAT, 0x30000, [], 0,
    [⟨0, 7, .ro, false, false, false, 35⟩, ⟨7, 1, .ro, false, false, false, 35⟩, ⟨8, 1, .w1c, false, false, false, 1⟩, ⟨9, 1, .ro, false, false, false, 35⟩, ⟨10, 1, .ro, false, false, false, 35⟩, ⟨11, 1, .ro, false, false, false, 35⟩],
    0x0, [], 0⟩,
  ⟨.FLT_CNT_CORR, 0x30004, [], 0,
    [⟨0, 32, .ro, false, false, true, 35⟩],
    0x0, [], 0⟩,
  ⟨.FLT_CNT_CONT, 0x30008, [], 0,
    [⟨0, 32, .ro, false, false, true, 35⟩],
    0x0, [], 0⟩,
  ⟨.FLT_CNT_UNC, 0x3000c, [], 0,
    [⟨0, 16, .ro, false, false, true, 35⟩, ⟨16, 16, .ro, false, false, true, 35⟩],
    0x0, [], 0⟩,
  ⟨.FLT_NEXT, 0x30010, [], 0,
    [⟨0, 16, .ro, false, false, false, 35⟩, ⟨16, 10, .ro, false, false, false, 35⟩],
    0x0, [], 0⟩,
  ⟨.FLT_WDOG, 0x30014, [], 0,
    [⟨0, 8, .rw, false, true, false, 1⟩, ⟨8, 8, .ro, false, false, false, 35⟩, ⟨16, 16, .ro, false, false, true, 35⟩],
    0x40, [], 0⟩,
  ⟨.FLT_CLR, 0x30018, [], 0,
    [⟨0, 16, .rw, false, false, false, 3⟩, ⟨16, 1, .w1s, false, false, false, 3⟩, ⟨17, 1, .w1c, false, false, false, 3⟩],
    0x0, [], 0⟩,
  ⟨.FLT_REC, 0x38000, [(512, 0x40), (16, 0x4)], 0,
    [⟨0, 32, .ro, false, false, false, 35⟩],
    0x0, [], 0⟩]

/-- The registers of the FLT block. -/
def regsFLT : List RegDef := regsFLT0

/-- Registers of the EVT block, part 0. -/
def regsEVT0 : List RegDef := [
  ⟨.EVT_SH_ROUTE, 0x20000, [(512, 0x4)], 0,
    [⟨0, 8, .rw, false, false, false, 3⟩, ⟨8, 2, .rw, false, false, false, 3⟩, ⟨10, 8, .rw, false, false, false, 3⟩, ⟨18, 6, .rw, false, false, false, 3⟩, ⟨24, 1, .rw, false, false, false, 3⟩, ⟨25, 2, .ro, false, false, false, 35⟩, ⟨27, 1, .ro, false, false, false, 35⟩],
    0x1000480, [], 0⟩,
  ⟨.EVT_SH_PEND, 0x20800, [(16, 0x4)], 0,
    [⟨0, 32, .w1c, false, false, false, 3⟩],
    0x0, [], 0⟩,
  ⟨.EVT_T_CTL, 0x21000, [(132, 0x40)], 0,
    [⟨0, 1, .rw, false, false, false, 11⟩, ⟨1, 1, .ro, false, false, false, 43⟩],
    0x2, [], 0⟩,
  ⟨.EVT_T_PEND_LO, 0x21004, [(132, 0x40)], 0,
    [⟨0, 32, .w1c, false, false, false, 11⟩],
    0x0, [], 0⟩,
  ⟨.EVT_T_PEND_HI, 0x21008, [(132, 0x40)], 0,
    [⟨0, 32, .w1c, false, false, false, 11⟩],
    0x0, [], 0⟩,
  ⟨.EVT_T_MASK_LO, 0x2100c, [(132, 0x40)], 0,
    [⟨0, 32, .rw, false, false, false, 11⟩],
    0x0, [], 0⟩,
  ⟨.EVT_T_MASK_HI, 0x21010, [(132, 0x40)], 0,
    [⟨0, 32, .rw, false, false, false, 11⟩],
    0x0, [], 0⟩,
  ⟨.EVT_T_CLAIM, 0x21014, [(132, 0x40)], 0,
    [⟨0, 9, .ro, false, false, false, 11⟩, ⟨9, 1, .ro, false, false, false, 11⟩, ⟨31, 1, .ro, false, false, false, 11⟩],
    0x0, [], 0⟩,
  ⟨.EVT_T_DONE, 0x21018, [(132, 0x40)], 0,
    [⟨0, 9, .rw, false, false, false, 11⟩, ⟨9, 1, .rw, false, false, false, 11⟩],
    0x0, [], 0⟩,
  ⟨.EVT_T_STAT, 0x2101c, [(132, 0x40)], 0,
    [⟨0, 10, .ro, false, false, false, 43⟩, ⟨16, 10, .ro, false, false, false, 43⟩],
    0x0, [], 0⟩]

/-- The registers of the EVT block. -/
def regsEVT : List RegDef := regsEVT0

/-- Registers of the CNT block, part 0. -/
def regsCNT0 : List RegDef := [
  ⟨.CNT_SEL, 0xa0000, [(352, 0x400), (8, 0x4)], 0,
    [⟨0, 10, .rw, true, false, false, 3⟩, ⟨10, 4, .rw, true, false, false, 3⟩, ⟨14, 8, .rw, true, false, false, 3⟩],
    0x0, [], 0⟩,
  ⟨.CNT_SEL_CUR, 0xa0020, [(352, 0x400), (8, 0x4)], 0,
    [⟨0, 22, .ro, false, false, false, 35⟩],
    0x0, [], 0⟩,
  ⟨.CNT_LIVE_LO, 0xa0040, [(352, 0x400), (9, 0x8)], 0,
    [⟨0, 32, .ro, false, false, false, 35⟩],
    0x0, [], 1⟩,
  ⟨.CNT_LIVE_HI, 0xa0044, [(352, 0x400), (9, 0x8)], 0,
    [⟨0, 16, .ro, false, false, false, 35⟩],
    0x0, [], 0⟩,
  ⟨.CNT_SNAP_LO, 0xa0100, [(352, 0x400), (9, 0x8)], 0,
    [⟨0, 32, .ro, false, false, false, 35⟩],
    0x0, [], 1⟩,
  ⟨.CNT_SNAP_HI, 0xa0104, [(352, 0x400), (9, 0x8)], 0,
    [⟨0, 16, .ro, false, false, false, 35⟩],
    0x0, [], 0⟩,
  ⟨.CNT_RING_CTL, 0xf8000, [], 0,
    [⟨0, 16, .rw, false, false, false, 1⟩, ⟨16, 7, .rw, false, false, false, 1⟩, ⟨23, 1, .rw, false, false, false, 1⟩, ⟨24, 1, .w1c, false, false, false, 1⟩],
    0x400, [], 0⟩,
  ⟨.CNT_RING_BASE_LO, 0xf8004, [], 0,
    [⟨12, 20, .rw, false, false, false, 1⟩],
    0x0, [], 1⟩,
  ⟨.CNT_RING_BASE_HI, 0xf8008, [], 0,
    [⟨0, 32, .rw, false, false, false, 1⟩],
    0x0, [], 0⟩,
  ⟨.CNT_RING_SIZE, 0xf800c, [], 0,
    [⟨0, 32, .rw, false, false, false, 1⟩],
    0x0, [], 0⟩,
  ⟨.CNT_RING_WR, 0xf8010, [], 0,
    [⟨0, 32, .ro, false, false, false, 35⟩],
    0x0, [], 0⟩,
  ⟨.CNT_RING_RD, 0xf8014, [], 0,
    [⟨0, 32, .rw, false, false, false, 1⟩],
    0x0, [], 0⟩]

/-- Registers of the CNT block, part 1. -/
def regsCNT1 : List RegDef := [
  ⟨.CNT_SEQ, 0xf8018, [], 0,
    [⟨0, 32, .ro, false, false, false, 35⟩],
    0x0, [], 0⟩,
  ⟨.CNT_LOSS, 0xf801c, [], 0,
    [⟨0, 16, .ro, false, false, true, 35⟩, ⟨16, 16, .ro, false, false, true, 35⟩],
    0x0, [], 0⟩,
  ⟨.CNT_DROP, 0xf8020, [], 0,
    [⟨0, 16, .ro, false, false, true, 35⟩, ⟨16, 1, .ro, false, false, false, 35⟩],
    0x0, [], 0⟩,
  ⟨.CNT_SNAP_FRM_LO, 0xf8024, [], 0,
    [⟨0, 32, .ro, false, false, false, 35⟩],
    0x0, [], 1⟩,
  ⟨.CNT_SNAP_FRM_HI, 0xf8028, [], 0,
    [⟨0, 32, .ro, false, false, false, 35⟩],
    0x0, [], 0⟩]

/-- The registers of the CNT block. -/
def regsCNT : List RegDef := regsCNT0 ++ regsCNT1

/-- Registers of the TWL block, part 0. -/
def regsTWL0 : List RegDef := [
  ⟨.TWL_CTL, 0x90000, [], 0,
    [⟨0, 1, .rw, false, false, false, 1⟩, ⟨1, 1, .rw, false, false, false, 3⟩, ⟨2, 1, .rw, false, false, false, 3⟩, ⟨3, 1, .rw, false, false, false, 3⟩, ⟨8, 8, .rw, false, false, false, 3⟩],
    0x5a0f, [], 0⟩,
  ⟨.TWL_EYE_THR, 0x90004, [], 0,
    [⟨0, 8, .rw, false, false, false, 3⟩, ⟨8, 8, .rw, false, false, false, 3⟩],
    0x2014, [], 0⟩,
  ⟨.TWL_AVS, 0x90008, [], 0,
    [⟨0, 10, .ro, false, false, false, 35⟩, ⟨10, 10, .ro, false, false, false, 35⟩, ⟨20, 10, .ro, false, false, false, 35⟩],
    0x32000000, [], 0⟩,
  ⟨.TWL_AVS_LIM, 0x9000c, [], 0,
    [⟨0, 10, .rw, false, true, false, 1⟩, ⟨16, 16, .ro, false, false, true, 35⟩],
    0x352, [], 0⟩,
  ⟨.TWL_TJ, 0x90010, [], 0,
    [⟨0, 10, .ro, false, false, false, 35⟩, ⟨16, 10, .ro, false, false, false, 35⟩],
    0x0, [], 0⟩,
  ⟨.TWL_FC, 0x90014, [], 0,
    [⟨0, 7, .ro, false, false, false, 35⟩, ⟨7, 1, .ro, false, false, false, 35⟩, ⟨8, 6, .rw, false, false, false, 3⟩, ⟨14, 1, .w1s, false, false, false, 3⟩, ⟨16, 16, .ro, false, false, true, 35⟩],
    0x0, [], 0⟩,
  ⟨.TWL_FW, 0x90020, [], 0,
    [⟨0, 1, .ro, false, false, false, 35⟩, ⟨1, 1, .ro, false, false, false, 35⟩, ⟨2, 1, .ro, false, false, false, 35⟩, ⟨3, 1, .ro, false, false, false, 35⟩, ⟨16, 16, .ro, false, false, true, 35⟩],
    0x0, [], 0⟩,
  ⟨.TWL_REPAIR, 0x90030, [], 0,
    [⟨0, 16, .ro, false, false, true, 35⟩, ⟨16, 8, .ro, false, false, true, 35⟩],
    0x0, [], 0⟩,
  ⟨.TWL_SCRUB, 0x90034, [], 0,
    [⟨0, 32, .ro, false, false, true, 35⟩],
    0x0, [], 0⟩,
  ⟨.TWL_RSV, 0x90040, [], 0,
    [⟨0, 2, .ro, false, false, false, 35⟩, ⟨2, 2, .ro, false, false, false, 35⟩, ⟨16, 8, .ro, false, false, false, 35⟩, ⟨24, 8, .ro, false, false, false, 35⟩],
    0x0, [], 0⟩,
  ⟨.TWL_PERS, 0x90050, [], 0,
    [⟨0, 4, .ro, false, false, false, 47⟩, ⟨4, 4, .ro, false, false, false, 35⟩, ⟨8, 4, .ro, false, false, false, 35⟩, ⟨12, 1, .ro, false, false, false, 35⟩, ⟨13, 1, .w1c, false, false, false, 1⟩, ⟨14, 1, .ro, false, false, false, 35⟩, ⟨16, 4, .ro, false, false, false, 35⟩],
    0x1, [], 0⟩,
  ⟨.TWL_JRNL, 0x90060, [], 0,
    [⟨0, 13, .ro, false, false, false, 35⟩, ⟨16, 8, .ro, false, false, false, 35⟩],
    0xff0000, [], 0⟩]

/-- Registers of the TWL block, part 1. -/
def regsTWL1 : List RegDef := [
  ⟨.TWL_PCAP, 0x90400, [(128, 0x4)], 0,
    [⟨0, 4, .ro, false, false, false, 35⟩, ⟨4, 4, .rw, false, false, false, 3⟩, ⟨8, 1, .w1s, false, false, false, 3⟩, ⟨16, 8, .ro, false, false, true, 35⟩, ⟨24, 8, .ro, false, false, true, 35⟩],
    0x50, [], 0⟩]

/-- The registers of the TWL block. -/
def regsTWL : List RegDef := regsTWL0 ++ regsTWL1

/-- Registers of the GRP block, part 0. -/
def regsGRP0 : List RegDef := [
  ⟨.GRP_CFG, 0x680000, [], 0,
    [⟨0, 16, .rw, true, false, false, 3⟩, ⟨16, 3, .rw, true, false, false, 3⟩, ⟨19, 1, .rw, true, false, false, 3⟩],
    0x0, [], 0⟩,
  ⟨.GRP_CUR, 0x680004, [], 0,
    [⟨0, 20, .ro, false, false, false, 35⟩],
    0x0, [], 0⟩,
  ⟨.GRP_EPOCH, 0x680008, [], 0,
    [⟨0, 32, .ro, false, false, false, 35⟩],
    0x0, [], 0⟩,
  ⟨.GRP_STAT, 0x68000c, [], 0,
    [⟨0, 8, .ro, false, false, false, 35⟩, ⟨8, 8, .ro, false, false, false, 35⟩, ⟨16, 1, .ro, false, false, false, 35⟩, ⟨17, 1, .w1c, false, false, false, 3⟩],
    0x0, [], 0⟩,
  ⟨.GRP_REMOTE, 0x680010, [], 0,
    [⟨0, 15, .ro, false, false, false, 35⟩, ⟨16, 16, .ro, false, false, true, 35⟩],
    0x0, [], 0⟩,
  ⟨.GRP_XFER, 0x680014, [], 0,
    [⟨0, 16, .ro, false, false, true, 35⟩, ⟨16, 16, .ro, false, false, true, 35⟩],
    0x0, [], 0⟩,
  ⟨.GRP_PEER, 0x680100, [(8, 0x40)], 0,
    [⟨0, 1, .rw, true, false, false, 3⟩, ⟨8, 8, .ro, false, false, false, 35⟩, ⟨16, 1, .ro, false, false, false, 35⟩],
    0x0, [], 0⟩,
  ⟨.GRP_PEER_EP, 0x680104, [(8, 0x40)], 0,
    [⟨0, 32, .ro, false, false, false, 35⟩],
    0x0, [], 0⟩,
  ⟨.GRP_PEER_DIG, 0x680108, [(8, 0x40), (12, 0x4)], 0,
    [⟨0, 32, .rw, true, false, false, 3⟩],
    0x0, [], 11⟩]

/-- The registers of the GRP block. -/
def regsGRP : List RegDef := regsGRP0

/-- The registers of the block an address lies in (Table 1-11); none outside every range (R29). -/
def blockRegs (a : Nat) : List RegDef :=
  if 0x0 ≤ a ∧ a ≤ 0xffff then regsGLB
  else if 0x10000 ≤ a ∧ a ≤ 0x1ffff then regsFRM
  else if 0x20000 ≤ a ∧ a ≤ 0x2ffff then regsEVT
  else if 0x30000 ≤ a ∧ a ≤ 0x3ffff then regsFLT
  else if 0x40000 ≤ a ∧ a ≤ 0x7ffff then regsMBX
  else if 0x80000 ≤ a ∧ a ≤ 0x8ffff then regsSLT
  else if 0x90000 ≤ a ∧ a ≤ 0x9ffff then regsTWL
  else if 0xa0000 ≤ a ∧ a ≤ 0xfffff then regsCNT
  else if 0x100000 ≤ a ∧ a ≤ 0x1fffff then regsXBR
  else if 0x200000 ≤ a ∧ a ≤ 0x2fffff then regsHOM
  else if 0x300000 ≤ a ∧ a ≤ 0x3fffff then regsOXB
  else if 0x400000 ≤ a ∧ a ≤ 0x4fffff then regsLWB
  else if 0x500000 ≤ a ∧ a ≤ 0x5fffff then regsSEC
  else if 0x600000 ≤ a ∧ a ≤ 0x6fffff then regsISL ++ regsGRP
  else if 0x1000000 ≤ a ∧ a ≤ 0x17fffff then regsPRT
  else if 0x1800000 ≤ a ∧ a ≤ 0x19fffff then regsLAN
  else if 0x2000000 ≤ a ∧ a ≤ 0x20fffff then regsBND
  else []

/-- The indices of `rel` (the distance from a register's first instance) along its dimensions; `none` where no instance lies there. -/
def indexIn (dims : List (Nat × Nat)) (rel : Nat) : Option (List Nat) :=
  match dims with
  | [] => if rel = 0 then some [] else none
  | (n, st) :: rest =>
    if rel / st < n then (indexIn rest (rel % st)).map (fun l => (rel / st) :: l) else none

/-- The indices an address gives a register, counted from the register's first instance number. -/
def RegDef.indexOf (d : RegDef) (a : Nat) : Option (List Nat) :=
  if a < d.base then none
  else match indexIn d.dims (a - d.base) with
    | some (i :: r) => some ((i + d.first) :: r)
    | o => o

/-- The first register of a list that has an instance at an address. -/
def findReg (l : List RegDef) (a : Nat) : Option (RegDef × List Nat) :=
  match l with
  | [] => none
  | d :: t => match d.indexOf a with
    | some ix => some (d, ix)
    | none => findReg t a

/-- The register at an address, with its indices (R28); none where no chapter defines one (R29). -/
def lookupReg (a : Nat) : Option (RegDef × List Nat) := findReg (blockRegs a) a

/-- The reset word of a register at given indices (R9). -/
def RegDef.reset (d : RegDef) (ix : List Nat) : Nat :=
  if d.rstBy.isEmpty then d.rst else d.rstBy.getD (ix.getLastD 0) d.rst

/-- The reset word at an address; 0 where no register lies. -/
def resetWord (a : Nat) : Nat :=
  match lookupReg a with
  | some (d, ix) => d.reset ix
  | none => 0

end Sys2Proof.Machine
end

