-- ==== Sys2Proof/Machine/State.lean ====
section
/-! DEFINITION. The state of the X512 as plain data: the register words, and every piece of state the manual gives the machine
beside them, grouped by chapter; the queue of waiting commands; the reasons a step can stop; and the state after a cold reset. -/
namespace Sys2Proof.Machine
open Sys2Proof

/-! ### Stops -/

/-- Why a command stops the machine. No command of this block stops it with a fault (NOTES.md, Stops). -/
inductive Fault where
  /-- Raised by no meaning: kept so that the type is inhabited. Safe: a fault stops the run. -/
  | none_
  deriving DecidableEq, Repr

/-- Why a command has no meaning. -/
inductive Refusal where
  /-- Raised by the dispatch for a command whose meaning is not written. Safe: the run stops. -/
  | notModelled (mnemonic : String)
  deriving DecidableEq, Repr

/-! ### Named settings -/

/-- The modes of Table 15-1. -/
inductive Mode where
  | standby | bringUp | provisioning | service | degraded | evacuate | quarantine | diagnostic
  deriving DecidableEq, Repr

/-- The power states of GLB_MODE.PWR (R331). -/
inductive Power where
  | full | economy | hold | off
  deriving DecidableEq, Repr

/-- The lifecycle states of Table 13-3. -/
inductive Lifecycle where
  | blank | vendorTest | ownerOpen | owned | retired
  deriving DecidableEq, Repr

/-- Who a command or an access acts for (Table 0-4, Table 14-3). -/
inductive Principal where
  /-- session 0, or a function no session has attached -/
  | none
  | owner
  /-- a fabric manager, with the index of its key (R295) -/
  | fm (key : Nat)
  /-- a tenant, with its tenant ID -/
  | tenant (t : Nat)
  /-- a tenant-candidate session, with the digest of its verifier key (R307) -/
  | candidate (key : Nat)
  /-- the host agent of a host port -/
  | host (p : Nat)
  | vendor
  | debugger
  deriving DecidableEq, Repr

/-- The reply statuses of Table 14-4. -/
inductive Status where
  | success | inProgress | retry | busy | parameter | permission | state | tooLate | aborted | poolUnavailable
  | token | locked | dataPlane | modeChanged | notAligned | alignedState | unsupported | session | sequence
  | tooLarge | gate | revoked | failed
  deriving DecidableEq, Repr

/-- The code of a status (Table 14-4). -/
def Status.code : Status → Nat
  | .success => 0x0000 | .inProgress => 0x0001 | .retry => 0x0002 | .busy => 0x0003 | .parameter => 0x0004
  | .permission => 0x0005 | .state => 0x0006 | .tooLate => 0x0007 | .aborted => 0x0008 | .poolUnavailable => 0x0009
  | .token => 0x000A | .locked => 0x000B | .dataPlane => 0x000C | .modeChanged => 0x000D | .notAligned => 0x000E
  | .alignedState => 0x000F | .unsupported => 0x0010 | .session => 0x0011 | .sequence => 0x0012 | .tooLarge => 0x0013
  | .gate => 0x0014 | .revoked => 0x0015 | .failed => 0x0016

/-- The classes of a fault, in rising order (Table 17-1). -/
inductive FaultClass where
  | correctable | contained | uncontained
  deriving DecidableEq, Repr

/-- The number of a fault class (Table 17-3, CLASS). -/
def FaultClass.code : FaultClass → Nat
  | .correctable => 0 | .contained => 1 | .uncontained => 2

/-! ### Replies -/

/-- Where the reply of a request goes: its route, endpoint ID, session, sequence and tag (R304, R309). -/
structure Ref where
  route : Nat
  eid : Nat
  sess : Nat
  seq : Nat
  tag : Nat
  op : Nat
  deriving DecidableEq, Repr

/-- A reply: status, the FRAME field (R306) and the opcode's own fields, each with its size in bytes. -/
structure Reply where
  status : Status
  frame : Nat
  data : List (Nat × Nat)
  deriving DecidableEq, Repr

/-! ### Frame and alignment (chapter 2) -/

/-- The lock state of a follower (Table 2-3). -/
inductive SyncPhase where
  | unlocked | initial | locked | lost | mismatch
  deriving DecidableEq, Repr

/-- A follower's lock: its state, consecutive edges within and outside ±8 ns, and expected Daybreaks without an edge. -/
structure SyncSt where
  phase : SyncPhase := .unlocked
  good : Nat := 0
  bad : Nat := 0
  missed : Nat := 0
  deriving DecidableEq, Repr

/-- The timebase: the frame number (R34), ticks from the last cold reset to the start of the frame, the tick within the
frame, whether the Dusk window has begun (R33), the length code in force (FRM_LEN.CUR), the length of this frame in ticks
(with its correction tick, R44), the correction due for the next frame, the starts of this frame and of up to 255 before it, latest first, and the
follower's lock (R45). -/
structure TimeSt where
  frame : Nat := 0
  t0 : Nat := 0
  tick : Nat := 0
  dusk : Bool := false
  lenCode : Nat := 1
  len : Nat := 1024
  corr : Int := 0
  starts : List Nat := [0]
  sync : SyncSt := {}
  pllLocked : Bool := true
  deriving DecidableEq, Repr

/-! ### Faults and events (chapter 17) -/

/-- A fault record (Table 17-3). `jrn` is JOURNALED; `serial` is the order of creation, by which the oldest record is found (R375). -/
structure FltRec where
  number : Nat
  cls : FaultClass
  scope : Nat
  scopeId : Nat
  code : Nat
  firstF : Nat
  lastF : Nat
  merged : Nat
  addr : Option Nat
  mixed : Bool
  jrn : Bool
  opn : Bool
  detail : Nat
  serial : Nat
  deriving DecidableEq, Repr

/-- The fault collector: the store by slot, the serial of the next record, and `takeDue`, which says that the standby pair takes over at the next
Daybreak (R380). The level of ALIVE is in FLT_STAT. -/
structure FltSt where
  slots : NMap FltRec := []
  serial : Nat := 0
  takeDue : Bool := false
  /-- records the journal holds, oldest first: kept by every reset (R377, R379) -/
  journal : List FltRec := []
  /-- entries of self-faults the journal holds (R378) -/
  selfJrn : Nat := 0
  deriving DecidableEq, Repr

/-- The interrupt settings of a management function (R72 to R74): Bus Master Enable, MSI-X and MSI enables, the number of MSI
messages enabled, Interrupt Disable, the MSI-X vectors masked, and the INTA level driven. -/
structure Mf where
  bme : Bool := false
  msix : Bool := false
  msi : Bool := false
  msiN : Nat := 1
  intDis : Bool := false
  vecMask : List Nat := []
  inta : Bool := false
  deriving DecidableEq, Repr

/-- The event controller: active sources per target (the CLAIM encoding), asserted level inputs (target × 64 + source), the
filtered pin values that are not high, the route words in force, the shared sources with a route write not in force (and the
frame it takes effect), the settings of the management functions, in-band interrupt enables, and the level of ALERT_N. -/
structure EvtSt where
  active : NMap (List Nat) := []
  level : List Nat := []
  pinsLow : List Nat := []
  routeF : NMap Word := []
  mf : NMap Mf := []
  ibi : List Nat := []
  alertLow : Bool := false
  deriving DecidableEq, Repr

/-! ### Sessions and long commands (chapter 14) -/

/-- The kinds of session (Table 14-3). -/
inductive SessKind where
  | host | privileged | debug
  deriving DecidableEq, Repr

/-- An open session (R307 to R309): its kind, route, endpoint ID and principal, the key of its SPDM session, the sequence its
first request carries, the last accepted sequence and tag, the stored reply, the consecutive tag failures, and the key its packets are protected
with (R308). -/
structure Session where
  kind : SessKind
  route : Nat
  eid : Nat
  prin : Principal
  spdm : Nat
  key : Nat
  firstSeq : Nat
  last : Option (Nat × Nat)
  stored : Option Reply
  fails : Nat
  aead : Nat := 0
  deriving DecidableEq, Repr

/-- An SPDM session (R291): its route, whether the requester authenticated, the digest of the requester's certificate key, its export
master secret, and whether that certificate chains to the Briral root. -/
structure Spdm where
  route : Nat
  eid : Nat
  mutualAuth : Bool
  key : Nat
  secret : Nat := 0
  briral : Bool
  deriving DecidableEq, Repr

/-- The source of FM API requests a session has attached (opcode 0x0103): a function's BAR, an MCTP endpoint on a route, or a
function's CCI. -/
structure Attach where
  source : Nat
  route : Nat
  eid : Nat
  sess : Nat
  deriving DecidableEq, Repr

/-- The running states of a long-command slot (MBX_LC_h.STATE). -/
inductive LcState where
  | free | running | past | completed | aborted
  deriving DecidableEq, Repr

/-- A long command (R311, R316): the opcode, generation, state, the issuer, the event target of its completion, its final status
and the frame it ended. -/
structure Lc where
  op : Nat
  gen : Nat
  st : LcState
  ref : Ref
  prin : Principal
  target : Nat
  status : Status
  endFrame : Nat
  deriving DecidableEq, Repr

/-- The interpreter: open sessions, SPDM sessions, the holder of the staging lock, attachments, long commands by slot, and the
requests held on the route queues while the interpreter is not ready (with their routes, oldest first). -/
structure MbxSt where
  sess : NMap Session := []
  spdm : NMap Spdm := []
  lock : Option Nat := none
  attach : List Attach := []
  lc : NMap Lc := []
  held : List (Nat × Instr) := []
  deriving DecidableEq, Repr

/-! ### Identity and lifecycle (chapter 13) -/

/-- The lifecycle record of the journal (R297): target state, fuse count, PENDING, and whether its check passes. -/
structure LcRec where
  target : Lifecycle
  count : Nat
  pend : Bool
  ok : Bool
  prev : Lifecycle
  deriving DecidableEq, Repr

/-- A lifecycle transition under way: the target, the frame at whose Daybreak it takes effect, and the new owner key (0 for none). -/
structure LcDue where
  target : Lifecycle
  eff : Nat
  owner : Nat
  deriving DecidableEq, Repr

/-- The device identity key pair (R288): the private scalar, and the coordinates of the public key. -/
structure IdKey where
  d : Nat
  x : Nat
  y : Nat
  deriving DecidableEq, Repr

/-- The part's own non-volatile identity and what Wellspring holds (chapter 13): the fused seed among it, and the identity key from each cold reset's
derivation on. `owner` is the digest of the owner key (0 none),
`fmKeys` the four delegated digests, `nonces` the valid nonce per token type, `slot0` Briral's certificate chain and `slot1` the owner's (0 none; R290). -/
structure IdSt where
  vendorId : Nat := 0
  deviceId : Nat := 0
  stepNum : Nat := 1
  stepLetter : Nat := 0
  seed : Nat := 0
  idKey : Option IdKey := none
  digest : Nat := 0
  life : Lifecycle := .blank
  fuses : Nat := 0
  retiredFuse : Bool := false
  record : LcRec := { target := .blank, count := 0, pend := false, ok := true, prev := .blank }
  due : Option LcDue := none
  cfgLock : Bool := false
  lockDue : Option (Bool × Nat) := none
  lcFault : Bool := false
  owner : Nat := 0
  fmKeys : List Nat := [0, 0, 0, 0]
  slot0 : Nat := 0
  slot1 : Nat := 0
  seedKeys : Bool := true
  nonces : NMap Nat := []
  floor : Nat := 0
  bank0 : Image := {}
  bank1 : Image := {}
  runBank : Nat := 0
  runSvn : Nat := 0
  runDigest : Nat := 0
  board : Nat := 0
  dbgTokens : Nat := 0
  straps : Nat := 0
  persDigest : Nat := 0
  /-- the measured contents in force since the last Daybreak that changed them (R292): indices 2, 3, 4 and 6, and the words of 5 -/
  meas : List (List Nat) := []
  measCfg : NMap Nat := []
  deriving DecidableEq, Repr

/-! ### Modes, power states and resets (chapter 15) -/

/-- An accepted mode request waiting for its Daybreak (R324). -/
structure ModeReq where
  target : Mode
  eff : Nat
  ref : Option Ref
  forced : Bool
  deriving DecidableEq, Repr

/-- An accepted power-state request waiting for its Daybreak (R331). -/
structure PwrReq where
  target : Power
  eff : Nat
  ref : Option Ref
  deriving DecidableEq, Repr

/-- Where the device stands in Hold (R333, R334): not in it, entering, held, resuming to a state since a time, or ready to resume. -/
inductive HoldSt where
  | out
  | entering
  | held
  | waking (target : Power) (since : Nat)
  | ready (target : Power) (since : Nat)
  deriving DecidableEq, Repr

/-- How far the Aux domain has come from a cold reset (R452, R454, R455). -/
inductive Boot where
  | auxOff | inReset | rom | up
  deriving DecidableEq, Repr

/-- The debug session (R337): its session number, scope, whether a vendor token opened it, its last frame (0: none). -/
structure Dbg where
  sess : Nat
  scope : Nat
  vendorTok : Bool
  last : Nat
  deriving DecidableEq, Repr

/-- A requested management reset (R320): its cause code. -/
abbrev MrstCause := Nat

/-- Mode, power state, requests, Hold, boot stage, supply and reset pins, and what is due at the next Daybreak (chapter 15). -/
structure ModeSt where
  mode : Mode := .standby
  power : Power := .off
  modeFrame : Nat := 0
  modeReq : Option ModeReq := none
  pwrReq : Option PwrReq := none
  quarDue : Option Nat := none
  preHold : Power := .full
  hold : HoldSt := .out
  mainSafe : Bool := false
  boot : Boot := .rom
  pwrgdCore : Bool := false
  resetLow : Bool := false
  mrst : Option MrstCause := none
  mrstAt : Nat := 0
  warmDue : Bool := false
  coldDue : Bool := false
  portRst : List Nat := []
  /-- the interpreter restarts: 0 no, 1 after a management reset, 2 after a warm reset -/
  restart : Nat := 0
  dbg : Option Dbg := none
  clkGated : Bool := false
  thermtrip : Bool := false
  /-- the groups that were host groups when Standby was entered, until the first role commit after it takes effect (R53) -/
  heldHost : List Nat := []
  heldDown : List Nat := []
  roleHeld : Bool := false
  /-- the cause of the last cold reset: 0 AUX_PWRGD, 1 RESET_N, 2 command -/
  cause : Nat := 0
  tap : TapInstr := .idcode
  /-- register accesses outside the Aux domain made in Hold, answered after the resume (R334) -/
  waiting : List Instr := []
  deriving DecidableEq, Repr

/-! ### Ports, links and lanes (chapters 3 and 4) -/

/-- The features of Table 3-3. -/
inductive Feature where
  | cxlIo | cxlMem | cxlCache | flit256 | loFlit | flit68 | hdmDb | hdmH | dynamicCapacity | mld | portBasedRouting | cxlSwitchBelow
  | pcieSwitchBelow | aspmL1 | l0p | l1Substates | clockPm | hotPlug | surpriseDown | dpc | aer | linkIde | containment | skid
  | selectiveIde | tsp
  deriving DecidableEq, Repr

/-- A port's link state beside its registers: the partner, the widest width it offers, the trained width code, the highest rate code it offers, whether the lanes are counted from
the port's highest (R80), whether extended rate was agreed (R57) and is held off (R58), the times (in ticks) at which it left 128 GT/s
through Recovery, whether IDE keys are programmed and the key set in use, whether the host's Link Control allows L1 and enables L0p (R66, R67),
whether PERST_N holds it in reset, the capacity of a memory device in parcels, and whether the pool's records are initialised since
power-good (R227, R368). -/
structure PortX where
  dev : DevKind := .none
  wmax : Nat := 0
  rmax : Nat := 0
  trained : Nat := 0
  high : Bool := false
  xrAgreed : Bool := false
  xrHold : Bool := false
  recov : List Nat := []
  keys : Bool := false
  keySet : Bool := false
  aspm : Bool := true
  l0pHost : Bool := true
  /-- the link runs in flit mode (R51) -/
  flit : Bool := true
  heldRst : Bool := false
  cap : Nat := 0
  inited : Bool := false
  deriving DecidableEq, Repr

/-- What a virtual downstream port holds (R59). -/
inductive VdpHold where
  | empty
  | phys (port ld : Nat)
  | vmd (binding : Nat)
  deriving DecidableEq, Repr

/-- A virtual downstream port (R69, R70, R65): what it holds, presence detect, DPC triggered, the attention-button sequence agreed,
the TSP configuration lock of its virtual memory device, Data Link Layer State Changed, and the power indicator the host has set (0 reserved, 1 on,
2 blink, 3 off). -/
structure Vdp where
  hold : VdpHold := .empty
  present : Bool := false
  dpc : Bool := false
  attn : Bool := false
  tspLock : Bool := false
  dllsc : Bool := false
  pwrInd : Nat := 3
  deriving DecidableEq, Repr

/-- Ports: link state per port, virtual downstream ports (host port × 128 + number), the groups whose host PERST_N is asserted, and
the groups whose PERST_N output the X512 pulls low (R53, R445). -/
structure PrtSt where
  px : NMap PortX := []
  vdp : NMap Vdp := []
  perstIn : List Nat := []
  perstOut : List Nat := []
  deriving DecidableEq, Repr

/-- A checker that sees its own generator's pattern (R84): the pattern, the tick from which it is locked if no bit errs before, and the ticks of the
errors it has counted, newest first. -/
structure PatRun where
  pat : Nat
  lockAt : Nat
  errs : List Nat := []
  deriving DecidableEq, Repr

/-- Lanes: the failures of the last second, newest first, as (tick, 1 LOS or 2 LOL) (R79), eye results waiting for the next Daybreak and the
frames the sweeps under way began in (R82), the pattern bits sent since the last injected flip (R85), and the checkers (R84). -/
structure LanSt where
  fails : NMap (List (Nat × Nat)) := []
  eyeDue : NMap (Nat × Nat) := []
  eyeFrom : NMap Nat := []
  patBits : NMap Nat := []
  chk : NMap PatRun := []
  deriving DecidableEq, Repr

/-! ### Inter-switch links (chapter 5) -/

/-- An inter-switch link beside its registers: the replay buffer by sequence number, the next sequence of a replay under way and whether its
first cell is still to be sent, a NAK due, ACK_VALID, the transmit and receive cell counters, cells sent under the key in use and its key set,
replay-timer expiries without progress and whether Recovery has been tried for them, markers missing and cells corrupt in a row, round trips
measured in Aligning and the largest, the last marker received (frame and arrival), its own markers sent (frame and time), a silent
receiver, messages being sent with the slots still to go, the message being received (target and class) and how many of its slots have come, and when the
present state began; whether a marker has been accepted since Aligning began (R95), the cells sent since the last marker (R91), and the secret of the link's
SPDM session with the generation of the key set in use in each direction (R109). -/
structure Isl where
  rp : NMap (List IslPart) := []
  rpl : Option Nat := none
  rplFirst : Bool := false
  nakDue : Bool := false
  acked : Bool := false
  txc : Nat := 0
  rxc : Nat := 0
  keyCells : Nat := 0
  ks : Bool := false
  expiries : Nat := 0
  tried : Bool := false
  miss : Nat := 0
  bad : Nat := 0
  marks : Nat := 0
  rttMax : Nat := 0
  lastMark : Option (Nat × Nat) := none
  sentAt : NMap Nat := []
  silent : Bool := false
  tx : List (Msg × Nat) := []
  rxOpen : Option (Nat × Nat) := none
  downAt : Nat := 0
  rxGot : Nat := 0
  seen : Bool := false
  sinceMark : Nat := 0
  secret : Nat := 0
  txGen : Nat := 0
  rxGen : Nat := 0
  deriving DecidableEq, Repr

/-! ### Tenant protection (chapter 9) -/

/-- The states of a key slot (Table 9-3). -/
inductive SlotState where
  | empty | established | locked | zeroising
  deriving DecidableEq, Repr

/-- A key slot that is not Empty (R192 to R194): its state, the digest of the verifier key, and the derived keys. -/
structure KeySlot where
  st : SlotState
  verifier : Nat
  k1 : Nat
  k2 : Nat
  km : Nat
  kc : Nat
  deriving DecidableEq, Repr

/-- A leaf of a Sealed region's tree (Table 9-7): MAJOR, the MINOR of each line that is not 0, whether it is cached, dirty, and the
last frame it was written back (R207). What it holds while it is not cached is what was last written to its place on the pool; `mac` is the MAC written
with it, none for that of its first content. -/
structure Leaf where
  major : Nat := 0
  minors : NMap Nat := []
  cached : Bool := false
  dirty : Bool := false
  wbFrame : Option Nat := none
  waiting : Bool := false
  bothLost : Bool := false
  mac : Option Nat := none
  deriving DecidableEq, Repr

/-- A node of level 2 or above: the counter of each child that is not 0 (Table 9-7), whether cached, dirty and its last write-back. -/
structure TNode where
  counters : NMap Nat := []
  cached : Bool := false
  dirty : Bool := false
  wbFrame : Option Nat := none
  waiting : Bool := false
  bothLost : Bool := false
  mac : Option Nat := none
  deriving DecidableEq, Repr

/-- The seven MAC blocks of a leaf's lines (Table 9-6): their run of 64 MACs as one number, none for that of a fresh slot; which of the blocks are in the
cache, dirty, in the victim buffer, or lost in both copies; and the frame each was last written back (R207). -/
structure MacRun where
  run : Option Nat := none
  cached : List Nat := []
  dirty : List Nat := []
  waiting : List Nat := []
  lost : List Nat := []
  wb : NMap Nat := []
  deriving DecidableEq, Repr

/-- The integrity failures of a region (R211): count, and the first failure's line offset, level and frame. -/
structure Integ where
  count : Nat
  ofs : Nat
  level : Nat
  frame : Nat
  deriving DecidableEq, Repr

/-- Key slots by tenant, gate rule sets in force and staged, staged consent tokens, recorded consent nonces (tenant, nonce, last
frame), the counters of the Sealed trees (leaves and their MAC runs by region × 2^34 + parcel × 64 + leaf; nodes by level × 2^60 + region × 2^40 + index;
roots by region), and integrity failures by region. -/
structure SecSt where
  slots : NMap KeySlot := []
  rules : NMap (List GRule) := []
  gstage : NMap (List (Option GRule)) := []
  consents : List Consent := []
  nonces : List (Nat × Nat × Nat) := []
  leaves : NMap Leaf := []
  macs : NMap MacRun := []
  nodes : NMap TNode := []
  roots : NMap (NMap Nat) := []
  integ : NMap Integ := []
  wsReady : Bool := false
  deriving DecidableEq, Repr

/-! ### Bindings, regions and extents (chapter 7) -/

/-- A region record (Table 7-1), with the pool and first 4 KiB tail unit and count of its tree area (R204), whether its home is this
switch (R429), the long command of its delete, and whether its entries are to be cleared at the next
Daybreak. -/
structure Region where
  tenant : Nat
  cls : Nat
  size : Nat
  ttBase : Nat
  treePool : Nat
  treeUnit : Nat
  treeUnits : Nat
  releaseFree : Bool
  deleting : Bool
  delHandle : Option Nat
  delNow : Bool := false
  deriving DecidableEq, Repr

/-- The states of an extent: in preparation, offered, accepted, releasing (Table 7-2, R146). -/
inductive ExtSt where
  | preparing | offered | accepted | releasing
  deriving DecidableEq, Repr

/-- An extent (Table 7-2), with the long commands of its add and release, the region parcels whose entries its preparation made,
whether the host's acceptance has been taken, whether the host rejected it, whether its sweep is done, whether the fills of its preparation are, and the
long commands of further releases of it. -/
structure Extent where
  dpa : Nat
  len : Nat
  rofs : Nat
  tag : Nat
  st : ExtSt
  add : Option Nat
  rel : Option Nat
  made : List Nat
  accepting : Bool
  rejected : Bool
  swept : Bool
  filled : Bool := false
  rels : List Nat := []
  deriving DecidableEq, Repr

/-- A translation entry (Table 7-3). -/
structure TtEntry where
  valid : Bool
  moving : Bool
  pool : Nat
  ppi : Nat
  gen : Nat
  deriving DecidableEq, Repr

/-- A harvest (R156): its frame, host address, port and length in units, and its LOST flag. -/
structure Harvest where
  frame : Nat
  addr : Nat
  port : Nat
  len : Nat
  lost : Bool
  deriving DecidableEq, Repr

/-- Regions, extents per binding, the parcel translation table and its cache, binding resets requested (false) or under way (true),
the dirty-page bits set (bit number in the log area), harvests under way, harvests starting at the next Daybreak, and the
bindings being unbound by force. -/
structure BndSt where
  regions : NMap Region := []
  ext : NMap (List Extent) := []
  tt : NMap TtEntry := []
  tcache : List Nat := []
  rst : NMap Bool := []
  log : List Nat := []
  harv : NMap Harvest := []
  harvDue : List Nat := []
  unbinding : List Nat := []
  /-- CKID to tenant (R195), by binding × 65536 + CKID -/
  ckid : NMap Nat := []
  /-- accesses that wait for the walker, by table index, oldest first (R16) -/
  walk : NMap (List HReq) := []
  /-- log areas being cleared: first unit and length by binding (R155) -/
  clr : NMap (Nat × Nat) := []
  /-- table indices whose parcels go back to their pools once the flips of a Daybreak are done (Table 7-6 case 1) -/
  ret : List Nat := []
  /-- parcels being filled for an add (R146): by table index, the pool and pool parcel -/
  prep : NMap (Nat × Nat) := []
  /-- the frame a binding's reset began (R154) -/
  rstFrom : NMap Nat := []
  /-- host port and address of the harvests to begin, as they stood at START (R156) -/
  harvAt : NMap (Nat × Nat) := []
  /-- bindings that wrote beyond their log area since their last harvest began (R155) -/
  logLost : List Nat := []
  /-- bindings whose log area the Reservoir lost with its stack since their last harvest (R418) -/
  logGone : List Nat := []
  deriving DecidableEq, Repr

/-! ### Fabric group (chapter 20) -/

/-- What an ISL's markers say of its partner (R427): group, member, fence epoch. -/
structure PeerSeen where
  group : Nat
  member : Nat
  epoch : Nat
  deriving DecidableEq, Repr

/-- A request that needs a home on another member, held in the remote table since a frame (R433). -/
structure Held where
  member : Nat
  since : Nat
  req : HReq
  deriving DecidableEq, Repr

/-- The phases of a home transfer at the old home (Table 20-3): copy and sweep, transfer frame, committed, confirmed by the peer. -/
inductive XPhase where
  | copy | transfer | committed | confirmed
  deriving DecidableEq, Repr

/-- A home transfer at the old home (R439): region, peer, named frame, long command, whether the sweep has begun, the peer's ready, its phase, and
the region's record. -/
structure Xfer where
  region : Nat
  peer : Nat
  at_ : Nat
  handle : Nat
  sweep : Bool
  ready : Bool
  phase : XPhase
  rec_ : Region
  deriving DecidableEq, Repr

/-- A region whose home comes here with a commit message, from the next Daybreak (R440): its number, the old home, record, root, the entries of
its parcels (region parcel, pool, parcel) on this switch's pools, and the counters of its copied tree
and the MAC runs of its leaves. -/
structure Incoming where
  id : Nat
  peer : Nat
  rec_ : Region
  root : NMap Nat
  entries : List (Nat × Nat × Nat)
  leaves : List (Nat × Nat × List (Nat × Nat))
  nodes : List (Nat × List (Nat × Nat))
  macs : List (Nat × Nat)
  deriving DecidableEq, Repr

/-- The fabric group: region lists of peers, requests held in order, partners as seen per ISL, identity digests proven in Keying per ISL,
members whose host-slot map differs, ISLs of each requester and target pair (requester × 2^16 + member), transfers, and homes arriving. -/
structure GrpSt where
  lists : NMap (List RemRegion) := []
  held : List Held := []
  seen : NMap PeerSeen := []
  proven : NMap Nat := []
  mapDiff : List Nat := []
  pairs : NMap Nat := []
  xfers : List Xfer := []
  incoming : List Incoming := []
  deriving DecidableEq, Repr

/-! ### Switch core and scheduling (chapters 6 and 11) -/

/-- The switch core: virtual output queues by (source × 256 + target) × 4 + class, oldest first; effective priorities that are not at
their base, by output × 256 + requester; rotating pointers; consecutive grants without a class, by output × 4 + class; outputs held by
a message whose tail has not passed; egress queues by (port × 8 + traffic class) × 4 + class; TLPs sent before their tail, by port;
deficits by port × 8 + traffic class; the class whose turn it is per port; stalled-frame counts; outputs that moved a cell in this frame
and outputs that had something to move at its Daybreak; outputs whose blamed port may not be counted (R133); gate lists in force by
port (sixteen slot bytes), tokens of the shapers in sixteenths of a byte, tenants with a request waiting for tokens, and the message on
each port's wire: the time it ends, and the end of the gate run it was fitted into (0: none). -/
structure XbrSt where
  voq : NMap (List Msg) := []
  eff : NMap Nat := []
  ptr : NMap Nat := []
  age : NMap Nat := []
  busy : NMap Msg := []
  egress : NMap (List Msg) := []
  inflight : NMap Msg := []
  deficit : NMap Nat := []
  turn : NMap Nat := []
  stall : NMap Nat := []
  moved : List Nat := []
  hadWork : List Nat := []
  paused : List Nat := []
  lists : NMap (List Nat) := []
  tokens : NMap Int := []
  held : List Nat := []
  wire : NMap (Nat × Nat) := []
  /-- the number of messages queued so far, for their order (R122) -/
  serial : Nat := 0
  /-- the classes whose link credits a port withholds (R126), by port × 4 + class -/
  noCredit : List Nat := []
  /-- management messages discarded because the receive ring of the management complex was full (R124) -/
  mgmtDrops : Nat := 0
  /-- outputs whose egress buffer had room at some time in this frame, and in the frame that ended (R132) -/
  room : List Nat := []
  roomLast : List Nat := []
  deriving DecidableEq, Repr

/-! ### Home agent and directory (chapter 8) -/

/-- What a transaction entry works on: a request, a directory eviction, or the back-invalidation of one slot for a release (R168). -/
inductive TtWork where
  | req (r : HReq)
  | evict
  | sweep (slot : Nat)
  | remac
  deriving DecidableEq, Repr

/-- The phases of a transaction entry: waiting behind the line's last entry, reading the full directory, or active. -/
inductive TtPhase where
  | waiting | dirRead | active
  deriving DecidableEq, Repr

/-- A transaction entry (R168, R175): its number, line, work, phase, the frame it became active, the snoop sent and the slots still to
answer it, the slots that answered they keep S, whether a pool read or write is outstanding, the data in hand, and whether its slot began to drain while it was open (R178). -/
structure Tt where
  id : Nat
  line : Nat
  work : TtWork
  phase : TtPhase
  since : Nat := 0
  snp : Nat := 0
  waitSnp : List Nat := []
  kept : List Nat := []
  rd : Bool := false
  wrPend : Bool := false
  data : Option (Nat × Bool) := none
  /-- the order in which it began to wait for a directory way (R169) -/
  wayAt : Option Nat := none
  drained : Bool := false
  /-- the entry was in state E naming another host when it became active -/
  wasE : Bool := false
  /-- its write waits for a flip frame, or its access for a copy write still unacknowledged (R237, R239) -/
  hold : Bool := false
  /-- the completion it answers with when it was turned into an error: poisoned data -/
  bad : Bool := false
  /-- 0 before its pool access, 1 once that is issued, 2 when its write is done -/
  stage : Nat := 0
  /-- the tag of the BIConflict whose BIConflictAck follows its completion (R176) -/
  biAck : Option Nat := none
  /-- the word errors its lookup meets (R165 to R167) -/
  err : DirErr := .none_
  /-- the translation entry of its parcel when it was accepted (R151); none for the one in force -/
  ent : Option TtEntry := none
  /-- a writeback took the place of its pool read, whose data is discarded when it comes (R175) -/
  rdGone : Bool := false
  /-- what the pool returns of the metadata its write needs (R206) -/
  found : Fetched := {}
  deriving DecidableEq, Repr

/-- A directory entry (Table 8-1): sharers as a 64-bit mask, whether the state is E, its way of the full-directory set, and its cached
copy: whether cached, the way and its dirty bit (R166). -/
structure DirEnt where
  sharers : Nat
  excl : Bool
  way : Nat
  cached : Bool := false
  cway : Nat := 0
  dirty : Bool := false
  deriving DecidableEq, Repr

/-- A writeback buffer (R170): its line, data and poison, the number of the pool write it waits for, and whether that write is deferred by a
flip frame (R237), with the binding and device address it was written through. -/
structure WBuf where
  line : Nat
  data : Nat
  poison : Bool
  tag : Nat
  deferred : Bool := false
  bnd : Nat := 0
  dpa : Nat := 0
  found : Fetched := {}
  deriving DecidableEq, Repr

/-- A request in a retry queue (R169): its word errors, the entry of its parcel when it was accepted (R151), and whether its slot has begun to
drain since (R178). -/
structure Retry where
  r : HReq
  err : DirErr
  ent : TtEntry
  drained : Bool := false
  found : Fetched := {}
  deriving DecidableEq, Repr

/-- An overflow re-MAC (R208): the slice and number of its reserved entry, the line of the leaf whose write caused it, the lines whose reads are
outstanding, and the ciphertext of each line read with whether it verified. -/
structure Remac where
  sl : Nat
  id : Nat
  k : Nat
  wait : List Nat
  got : NMap (Nat × Bool)
  deriving DecidableEq, Repr

/-- The home: transaction entries per slice in lookup order, the retry queue and writeback buffers per slice, the directory by line, the
next entry number, the 15-bit pseudo-LRU state of each cache set by slice × 40,960 + set, the writebacks of each slice that wait for a buffer, the slots being swept, the slots to be revived at the next Daybreak, the countdown of each slice's
sampler (R223), and the overflow re-MACs under way by line ID ÷ 64 (R208). -/
structure HomeSt where
  tt : NMap (List Tt) := []
  retry : NMap (List Retry) := []
  wbuf : NMap (List WBuf) := []
  dir : NMap DirEnt := []
  serial : Nat := 0
  plru : NMap Nat := []
  wbWait : NMap (List HIn) := []
  sweeping : List Nat := []
  revive : List Nat := []
  sample : NMap Nat := []
  remac : NMap Remac := []
  /-- MODEL: the step of a Daybreak is being carried out, so no transaction goes on (R40; log entry 176) -/
  still : Bool := false
  deriving DecidableEq, Repr

/-! ### Legacy window bridge (chapter 12) -/

/-- An access the bridge has accepted and not completed (R271 to R276): its number, window, binding, host port, tag, device address of the
line, kind, whether it writes and whether posted; the far port, far address and unit width, byte order, whether only one unit is carried;
byte enables and data of the line, poison; the units not yet complete, whether one has failed, whether its units have been issued and when,
and whether it is a mirror transfer (1 inbound, 2 outbound). -/
structure BAcc where
  id : Nat
  win : Nat
  bnd : Nat
  host : Nat
  tag : Nat
  dpa : Nat
  kind : HKind
  write : Bool
  posted : Bool
  port : Nat
  far : Nat
  wd : Nat
  big : Bool
  one : Bool
  mask : Nat
  data : Nat
  poison : Bool
  units : List Nat
  bad : Bool := false
  issued : Bool := false
  since : Nat := 0
  mir : Nat := 0
  deriving DecidableEq, Repr

/-- A flush read on a far port (R275, R277, R284): its number, the frame it was issued, the writes it covers, the window whose fence it is, and
the windows whose side-band alert waits for it. -/
structure BFlush where
  num : Nat
  port : Nat
  since : Nat
  accs : List Nat
  fence : Option Nat
  alerts : List Nat
  deriving DecidableEq, Repr

/-- A prefetch run on its way (R278): its number, window, first line of the window and count, unit width, byte order, sparse mapping, and
whether its data is to be discarded on arrival. -/
structure BRun where
  num : Nat
  win : Nat
  line : Nat
  count : Nat
  wd : Nat
  big : Bool
  sparse : Bool
  bad : Bool
  deriving DecidableEq, Repr

/-- A held prefetched line: window, line of the window, data, the frame it was fetched in, and whether a read has used it. -/
structure BLine where
  win : Nat
  line : Nat
  data : Nat
  frame : Nat
  used : Bool
  deriving DecidableEq, Repr

/-- A far-bus lock: the host port that holds it, its window, the frame of its grant, and whether an MRdLk was sent. -/
structure BLock where
  host : Nat
  win : Nat
  since : Nat
  sent : Bool
  deriving DecidableEq, Repr

/-- A fence in progress: the number of the first access accepted after it, whether an earlier posted write has failed, its long command, and
whether its flush read has been issued. -/
structure BFence where
  mark : Nat
  failed : Bool
  handle : Option Nat
  sent : Bool
  deriving DecidableEq, Repr

/-- A window beside its registers: posted writes issued since the last flush, a posted write failed since the last fence, the fence in
progress, an outbound mirror value pending, the frame of its last mirror period, interrupts (level or not) that wait for MIR_IN, and whether
MIR_IN is to be read once more before they are raised. -/
structure BWin where
  posted : Bool := false
  failed : Bool := false
  fence : Option BFence := none
  outPend : Bool := false
  mirLast : Option Nat := none
  irqs : List Bool := []
  again : Bool := false
  deriving DecidableEq, Repr

/-- The bridge: accesses in order of acceptance, flush reads, prefetch runs, held lines (least recently used first), locks by far port, waiting
lock requests (far port, host port, window) in order, windows, INTx lines asserted (port × 4 + line), and the next number. -/
structure BrgSt where
  acc : List BAcc := []
  flush : List BFlush := []
  runs : List BRun := []
  lines : List BLine := []
  lock : NMap BLock := []
  wait : List (Nat × Nat × Nat) := []
  win : NMap BWin := []
  intx : List Nat := []
  serial : Nat := 0
  deriving DecidableEq, Repr

/-! ### Slot power (chapter 16) -/

/-- The steps of a feed change (R363): the old gate falling, the gap of 50 samples once it is off, and the new gate rising; the new feed is 1 for A
and 2 for B. -/
inductive SwPhase where
  | falling (old new : Nat)
  | gap (n new : Nat)
  | rising (new : Nat)
  deriving DecidableEq, Repr

/-- A feed as a channel has sampled it (R355): within its window, whether it has ever left it, and for how many samples it has been back. -/
structure FeedSt where
  inside : Bool := false
  left : Bool := false
  back : Nat := 0
  deriving DecidableEq, Repr

/-- A channel beside its registers, all times in samples: presence samples low and high in a row, its two feeds, breaker counters and the samples
of each that have not raised it, insertion delay and off-time still to run, the cooling clock, the time since the start of the ramp, samples with
power-good's conditions met or failed in a row, the time since power-good, a feed change, samples that show a damaged transistor, whether a fault
turned the gates off, the feed a power-on named, the long command of a power-on (none inside: by register), a power-off with its long command and
the samples until its gates turn off. -/
structure Slt where
  low : Nat := 0
  high : Nat := 0
  feedA : FeedSt := {}
  feedB : FeedSt := {}
  cnt : NMap Nat := []
  calm : NMap Nat := []
  ins : Option Nat := none
  off : Option Nat := none
  cool : Nat := 0
  ramp : Nat := 0
  good : Nat := 0
  bad : Nat := 0
  pgFor : Nat := 0
  sw : Option SwPhase := none
  dmg : Nat := 0
  tripped : Bool := false
  first : Nat := 0
  onCmd : Option (Option Nat) := none
  offCmd : Option (Option Nat) := none
  offWait : Option Nat := none
  deriving DecidableEq, Repr

/-! ### Counters (chapter 18) -/

/-- The counts of a binding's page (Table 18-4): lines read and written, BISnp sent, the sum of read latencies and cycles held. -/
structure BndPage where
  rd : Nat := 0
  wr : Nat := 0
  bisnp : Nat := 0
  lat : Nat := 0
  heldCyc : Nat := 0
  deriving DecidableEq, Repr

/-- A dump being written (R404): its port, the ring's base and record slots, the index of its first record, frame, SEQ, FLAGS, the counters that restarted
(unit × 8 + k), cycles and counts as snapshotted. -/
structure DumpRun where
  port : Nat
  base : Nat
  slots : Nat
  first : Nat
  frame : Nat
  seq : Nat
  flags : Nat
  restart : List Nat
  cycles : Nat
  counts : NMap Nat
  deriving DecidableEq, Repr

/-- Counters: live values by unit × 8 + k, core cycles up to the start of the frame, their snapshots, the counters restarted since the
last dump started, whether Hold or a snapshot not dumped lies in that interval, the dump being written, binding pages live and as
snapshotted, and the frame of the pages. -/
structure CntSt where
  live : NMap Nat := []
  cyc : Nat := 0
  snap : NMap Nat := []
  snapCyc : Nat := 0
  restarted : List Nat := []
  hold : Bool := false
  gap : Bool := false
  run : Option DumpRun := none
  pages : NMap BndPage := []
  pageSnap : NMap BndPage := []
  pageFrame : Nat := 0
  deriving DecidableEq, Repr

/-! ### Oxbow (chapter 10) -/

/-- A heat record (Table 10-1). -/
structure HeatRec where
  heat : Nat
  stamp : Nat
  alloc : Bool
  deriving DecidableEq, Repr

/-- Why a move was armed, in the order of R232; a directive carries its handle. -/
inductive MoveWhy where
  | evac | forced
  | directive (h : Nat)
  | demote | promote
  deriving DecidableEq, Repr

/-- The phases of a move (Table 10-3): copying, flip frame, past its commit point. -/
inductive MPhase where
  | copying | flip | committed
  deriving DecidableEq, Repr

/-- A move slot (R232 to R242): the region parcel (or the tree area of the region, with its blocks), source and target, reason and phase;
copied bits of lines and blocks as masks; the next element of the pass; elements being read, with whether a home write has spoilt the
copy; elements whose copy write is not acknowledged; home writes outstanding per line; the pass number, misses in a row, whether the
next Daybreak opens the flip frame, the status with which an accepted abort ends it and the frame of its Daybreak, whether its last commit
point was missed, and whether it re-backs a parcel of a down pool (R244). -/
structure Move where
  region : Nat
  parcel : Nat
  tree : Bool
  units : Nat
  srcPool : Nat
  srcPpi : Nat
  dstPool : Nat
  dstPpi : Nat
  why : MoveWhy
  phase : MPhase
  copied : Nat
  blocks : Nat
  next : Nat
  reading : NMap Bool
  writing : List Nat
  homeWr : NMap Nat
  pass : Nat
  misses : Nat
  flipNext : Bool
  abort : Option (Status × Nat)
  missed : Bool
  reback : Bool
  deriving DecidableEq, Repr

/-- A placement directive (R229): region, parcels still to be looked at, target pool, the parcels already looked at, its handle, and
whether a move of it was aborted by opcode 0x0601. -/
structure Directive where
  region : Nat
  firstP : Nat
  count : Nat
  pool : Nat
  next : Nat
  handle : Nat
  ab : Bool := false
  deriving DecidableEq, Repr

/-- A parcel listed by the ranker (R230): table index, heat and the GEN it was listed with. -/
structure Listed where
  idx : Nat
  heat : Nat
  gen : Nat
  deriving DecidableEq, Repr

/-- A parcel being scrubbed: pool, PPI, whether its slot is scrubbed too, and the 64-byte writes that its port has still to be charged for (R233). -/
structure Scrub where
  pool : Nat
  ppi : Nat
  slot : Bool
  left : Nat
  deriving DecidableEq, Repr

/-- A descriptor that has been fetched: queue (8 × engine + number), its place in the ring, and the descriptor; whether it has started (R246); the pieces
that run, by offset and engine, those still to start, and the bytes of those done (R248); and the least offset of a mismatch or of a poisoned line met
(R249). -/
structure BulkRun where
  queue : Nat
  num : Nat
  desc : BulkDesc
  started : Bool := false
  going : List (Nat × Nat) := []
  left : List Nat := []
  done : Nat := 0
  mism : Option Nat := none
  pois : Option Nat := none
  deriving DecidableEq, Repr

/-- An evacuation (R243): started (from the next Daybreak), with or without DISCARD, its long command, a cancel accepted. -/
structure Evac where
  discard : Bool
  handle : Option Nat
  cancel : Bool
  begun : Bool
  deriving DecidableEq, Repr

/-- Oxbow: heat records by global pool parcel, open moves by slot, directives in order, the ranker's lists, evacuations by pool, migration
budgets by port in 1/16,000 of a byte, scrubs under way, copy writes unacknowledged after a flip (line IDs), bulk descriptors fetched, the next
descriptor number, and the queue each engine fetched from last (R246). -/
structure OxbSt where
  heat : NMap HeatRec := []
  moves : NMap Move := []
  directives : List Directive := []
  promo : List Listed := []
  demo : List Listed := []
  evac : NMap Evac := []
  budget : NMap Nat := []
  scrubs : List Scrub := []
  unacked : List Nat := []
  /-- heat words lost since the ranker's last complete pass, by their first record (R225) -/
  lostWords : List Nat := []
  runs : List BulkRun := []
  serial : Nat := 0
  turn : NMap Nat := []
  deriving DecidableEq, Repr

/-! ### Twilight (chapter 19) -/

/-- A margin record (Table 19-2). For class 2 the height is in the low byte and the width in the high byte of WORST and MEAN. `empty` says that the
interval had no sample. -/
structure Margin where
  flags : Nat
  frame : Nat
  worst : Nat
  mean : Nat
  empty : Bool
  deriving DecidableEq, Repr

/-- A sensor: the worst sample and the sum of the interval's samples (of a lane eye, height and then width) and their number, whether an action was
taken and whether the fit restarted in it, its last 512 records (oldest first),
one in every 16 of the older ones (R416), and how many of the latest the fit uses. -/
structure Sensor where
  worst : Nat := 0
  sum : Nat := 0
  worst2 : Nat := 0
  sum2 : Nat := 0
  n : Nat := 0
  acted : Bool := false
  restart : Bool := false
  recs : List Margin := []
  old : List Margin := []
  fit : Nat := 0
  deriving DecidableEq, Repr

/-- A forecast (Table 19-4). -/
structure Fcst where
  cls : Nat
  reason : Nat
  target : Nat
  made : Nat
  due : Nat
  deriving DecidableEq, Repr

/-- An image activation (R419): the bank, its long command, the image read, and once it is validated the frame of the takeover. -/
structure Activ where
  bank : Nat
  handle : Nat
  image : Image
  due : Option Nat
  deriving DecidableEq, Repr

/-- Twilight: sensors by class × 1,024 + index; forecasts in order; lanes whose LOW has set and the frame it set; the frame each lane was last
re-equalised (plus 1); the largest slowdown and the sensor that reads it; the frames (plus 1) of the last steps of VDD_CORE and VDD_SRAM; refresh
halvings per stack; hottest samples of the last 30 days with their time; the words corrected in the last patrol pass, rows due for repair and swaps
due at the next Daybreak (macro, row, and for a swap whether it uses the macro's last spare), macros without spares; stacks whose resilvering has
completed; spare journal pages, the times of the last second's page writes, the records that wait to be written and those on each page (kind and
number, R415); the activation; the stored personality (level, serial); the fused
native level. -/
structure TwlSt where
  sens : NMap Sensor := []
  fc : List Fcst := []
  low : NMap Nat := []
  reeqAt : NMap Nat := []
  slow : Nat := 0
  slowAt : Nat := 0
  avsAt : Nat := 0
  sramAt : Nat := 0
  refresh : NMap Nat := []
  tj : List (Nat × Nat) := []
  corrected : List (Nat × Nat × Nat) := []
  rows : List (Nat × Nat) := []
  swaps : List (Nat × Nat × Bool) := []
  exhausted : List Nat := []
  resilvered : List Nat := []
  spares : Nat := 256
  pages : List Nat := []
  jq : List (Nat × Nat) := []
  log : NMap (Nat × Nat) := []
  act : Option Activ := none
  pers : Option (Nat × Nat) := none
  native : Nat := 1
  deriving DecidableEq, Repr

/-! ### Outputs -/

/-- What the block sends out: replies, messages, interrupts, pins and writes to its surroundings. -/
inductive Out where
  /-- a reply on a route (R306) -/
  | reply (ref : Ref) (r : Reply)
  /-- the protected form of the reply sent with it (R308): its parameters encrypted, and its tag -/
  | sealed (ref : Ref) (text tag : Nat)
  /-- a request dropped on a full route queue: the carrier's Busy, or nothing where it is discarded (Table 14-1) -/
  | queueFull (route : Nat) (busy : Bool)
  /-- a request discarded without a reply (R308) -/
  | discarded (ref : Ref)
  /-- an FM API reply (R319): return code, and the fields of the opcode it ran as -/
  | fmApi (route eid : Nat) (code : FmCode) (data : List (Nat × Nat))
  /-- the word a read through a function's BAR returns (R4, R8) -/
  | busData (fn addr : Nat) (w : Word)
  /-- an MSI-X vector or MSI message sent by a management function (R394) -/
  | msg (fn vec : Nat)
  /-- the INTA level of a management function (R394) -/
  | inta (fn : Nat) (level : Bool)
  /-- an I3C in-band interrupt: bus and the two data bytes (R395) -/
  | ibi (bus num : Nat)
  /-- ALERT_N: true is driven low (R395) -/
  | alert (low : Bool)
  /-- the level of ALIVE after a toggle (R381) -/
  | alive (level : Bool)
  /-- a SYNC_OUT pulse and its width in ticks (R43) -/
  | syncOut (ticks : Nat)
  /-- a record written to the journal (R377, R378) -/
  | journal (code : Nat)
  /-- PERST_N of a group: true is pulled low (R53) -/
  | perst (g : Nat) (low : Bool)
  /-- THERMTRIP_N: true is asserted (R462) -/
  | thermtrip (low : Bool)
  /-- the device record written to the board identity EEPROM (R301): bytes 64 to 115, the identity digest and its CRC-32 -/
  | deviceRecord (bytes : List Nat)
  /-- the digest a replaced-device event carries: that of the device record found (Table 13-7 case 3) -/
  | replaced (digest : Nat)
  /-- the outcome of an SPDM request: opened or written (true), or refused -/
  | spdm (session : Nat) (ok : Bool)
  /-- a signed measurements response: frame in force, and (index, digest) pairs (R292) -/
  | measurements (session frame : Nat) (values : List (Nat × Nat))
  /-- a message delivered to an internal target (Table 6-1), or sent on a port's link -/
  | sent (out : Nat) (m : Msg)
  /-- link credits of a class returned to a port's partner, or withheld (R126) -/
  | credit (port cls : Nat) (open_ : Bool)
  /-- the rest of a TLP whose header has left a port, sent as all-ones (Table 6-2) -/
  | onesRest (out : Nat) (m : Msg)
  /-- a cell sent on an ISL (R97), with its bytes on the wire (R91) -/
  | cell (isl : Nat) (c : IslCell) (bytes : List Nat)
  /-- a marker sent on an ISL at a Daybreak (R94) -/
  | marker (isl : Nat) (m : IslMarker)
  /-- a write into a host's memory through the management function of a port: address and length in bytes (R156, R250, R404) -/
  | hostWrite (port addr len : Nat)
  /-- a harvest's trailer (Table 7-5): binding, frame, sequence, flags and count -/
  | harvest (bnd frame seq flags count : Nat)
  /-- a page bitmap a harvest writes into a host's memory (R156): port, address, length in bytes, and the pages whose bits are 1, counted from the first of
  the area; every other bit is 0 -/
  | bitmap (port addr len : Nat) (pages : List Nat)
  /-- a bulk engine fills a pool parcel with zero plaintext for a region parcel (R146): pool, pool parcel, region and region parcel -/
  | zeroFill (pool ppi region parcel : Nat)
  /-- every line of a pool parcel that a region parcel is backed by anew is written poisoned (R244): pool, pool parcel, region and region parcel -/
  | poisonFill (pool ppi region parcel : Nat)
  /-- 64-byte blocks of Sealed metadata written to a pool from a pool address on (R146, R204, R207) -/
  | poolBlocks (pool addr : Nat) (blocks : List Nat)
  /-- an extent the host holds is taken by force (R148): binding and first DPA parcel -/
  | forcedRemoval (bnd dpa : Nat)
  /-- an Add or Release Capacity event of a virtual memory device (R146, R148): binding, first DPA parcel, added or removed -/
  | capacity (bnd dpa : Nat) (add : Bool)
  /-- the answer of a virtual memory device to its host's Add Dynamic Capacity Response or Release (R146, R159): accepted or invalid extent -/
  | dcReply (bnd dpa : Nat) (ok : Bool)
  /-- a management message to a peer (chapter 20): its kind, the member, and its values -/
  | peer (kind member : Nat) (values : List Nat)
  /-- a completion record of a bulk descriptor (Table 10-6): queue, host address, status, tag, bytes done, offset, digest and frame -/
  | bulk (queue addr status tag done ofs digest frame : Nat)
  /-- the features a port advertises in training (R55), and the L1 exit latency in µs (R66) -/
  | advertise (port : Nat) (features : List Feature) (exitUs : Nat)
  /-- the extended-rate entry a port offers in alternate protocol negotiation (R56): vendor ID and information field (Table 3-4) -/
  | xrOffer (port vendor info : Nat)
  /-- the answer to a host's configuration write (R65): Unsupported Request -/
  | unsupported (host num : Nat)
  /-- what a host sees at a virtual downstream port: 0 hot-add, 1 orderly removal, 2 surprise removal with AER Surprise Down and DPC (R69, R70),
  3 an AER event with a header (opcode 0x0305; an Uncorrectable Internal Error, R119) -/
  | vdp (host num ev header : Nat)
  /-- a request sent for a principal to a port's partner or a logical device of it (opcodes 0x0302, 0x0306 to 0x0308): kind, port, logical
  device and request -/
  | relay (op port ld request : Nat)
  /-- a counter dump written through a host port (Table 18-3): each record's host address and its 80 bytes -/
  | dump (port : Nat) (records : List (Nat × List Nat))
  /-- a setpoint sent over AVSBus (R411): rail 0 VDD_CORE, 1 VDD_SRAM, and mV -/
  | avs (rail mv : Nat)
  /-- a stack's refresh interval halves (R411): stack and the number of halvings -/
  | refresh (stack n : Nat)
  deriving DecidableEq, Repr

/-! ### Effects due at a Daybreak -/

/-- An effect that takes place at a Daybreak once accepted (R14, R36, R315). -/
inductive Act where
  /-- staged register words (address, value), gate rule sets (gate, set) and consent tokens, committed together (R314) -/
  | stage (words : NMap Word) (rules : NMap (List GRule)) (tokens : List Consent)
  /-- a frame length (R42) -/
  | frameLen (code : Nat)
  /-- the route of a shared source (R384) -/
  | route (src : Nat) (w : Word)
  /-- a fabric manager key digest at an index; 0 removes it and closes its sessions (R295) -/
  | fmKey (index digest : Nat)
  /-- a tenant key slot becomes Established (R193) -/
  | establish (tenant verifier k1 k2 km kc : Nat)
  /-- a tenant's key slot is erased (R196) -/
  | zeroise (tenant : Nat)
  /-- the owner permits or forbids a tenant ID to establish (R193) -/
  | enableTenant (tenant : Nat) (on : Bool)
  /-- a CKID of a binding names a tenant (R195) -/
  | mapCkid (binding ckid tenant : Nat)
  /-- new keys for an Established slot (R195) -/
  | rekey (tenant k1 k2 km kc : Nat)
  /-- a gate list takes over on a port (R264) -/
  | gateList (port : Nat) (en : Bool) (slots : List Nat)
  /-- an HDM decoder setting of a binding's device (R144) -/
  | hdm (b base size ig iw : Nat) (on lock : Bool)
  /-- a region comes to exist (R139) -/
  | region (g : Nat) (r : Region)
  /-- a translation entry made by preparation (R146) -/
  | ttSet (idx pool ppi : Nat)
  /-- an extent becomes accepted (R146) -/
  | extIn (b dpa : Nat)
  /-- an extent is removed (R147, R148) -/
  | extOut (b dpa : Nat)
  /-- a fence token's epoch and expel set (R436) -/
  | fence (epoch expel : Nat)
  /-- the staged words of a slot channel (R370) -/
  | slot (c : Nat) (words : NMap Word)
  /-- a device of a port bound to a virtual downstream port: host port, number, port, logical device or 255 (opcode 0x0303) -/
  | bindVdp (h v port ld : Nat)
  /-- a virtual downstream port emptied (opcode 0x0304) -/
  | unbindVdp (h v : Nat) (force : Bool)
  /-- the counter dump ring: port, base, size (0 disables) and interval (opcode 0x0B01) -/
  | dumpRing (port base size every : Nat)
  /-- a personality level with the serial of its configuration takes effect (R422) -/
  | persLevel (level serial : Nat)
  deriving DecidableEq, Repr

/-- An accepted effect: the frame at whose Daybreak it takes effect, whether a frame was named, whether it is group-wide (R46),
whether the Dusk window has frozen it (R37), its long-command slot, the request to answer if it is cancelled, and the effect. -/
structure Due where
  eff : Nat
  named : Bool
  group : Bool
  frozen : Bool
  handle : Option Nat
  ref : Option Ref
  act : Act
  deriving DecidableEq, Repr

/-- Register words by address. Canonical: no entry equals the reset word of its address. -/
abbrev RegFile := NMap Word

/-! ### The state -/

/-- The state of the X512. Fields marked MODEL are the model's own. -/
structure State where
  /-- the word of every register written since reset, by address: staged values for SH fields (R7) -/
  regs : RegFile
  /-- the values in force of the SH fields, by the address of their staged register (R14) -/
  force : RegFile
  /-- addresses with a staged write since the last commit, discard or close (R313) -/
  dirty : List Nat
  /-- upper words latched by a read of the lowest word of a wide field (R5) -/
  latch : NMap Word
  /-- refused accesses counted (R8, R29) -/
  refused : Nat
  /-- the timebase and frame (chapter 2) -/
  time : TimeSt
  /-- the fault collector (chapter 17) -/
  flt : FltSt
  /-- the event controller (chapter 17) -/
  evt : EvtSt
  /-- the command interpreter (chapter 14) -/
  mbx : MbxSt
  /-- identity, lifecycle and firmware (chapter 13) -/
  ident : IdSt
  /-- mode, power and resets (chapter 15) -/
  md : ModeSt
  /-- ports and links (chapter 3) -/
  prt : PrtSt
  /-- inter-switch links by index (chapter 5) -/
  isl : NMap Isl
  /-- the fabric group (chapter 20) -/
  grp : GrpSt
  /-- lanes (chapter 4) -/
  lan : LanSt
  /-- tenant protection (chapter 9) -/
  sec : SecSt
  /-- bindings, regions and extents (chapter 7) -/
  bnd : BndSt
  /-- the switch core and the egress schedulers (chapters 6 and 11) -/
  xbr : XbrSt
  /-- the legacy window bridge (chapter 12) -/
  brg : BrgSt
  /-- the home agent and its directory (chapter 8) -/
  home : HomeSt
  /-- counters (chapter 18) -/
  cnt : CntSt
  /-- Twilight, repair and hitless update (chapter 19) -/
  twl : TwlSt
  /-- slot channels (chapter 16) -/
  slt : NMap Slt
  /-- Oxbow (chapter 10) -/
  oxb : OxbSt
  /-- the bytes of Reservoir partitions 5 and 6 (management scratch and debug buffer) that are not 0, by partition × 2^36 + offset (R219) -/
  rsv : List Host.Cell
  /-- effects accepted for a Daybreak, in the order of acceptance (R36, R38, R315) -/
  due : List Due
  /-- MODEL: what the block has sent out, newest first (log entry 2) -/
  out : List Out
  /-- MODEL: the number of free values used (log entry 3) -/
  fresh : Nat
  /-- MODEL: the commands waiting, first in, first out (log entry 1) -/
  pending : List Instr
  deriving DecidableEq, Repr

/-- The machine right after a cold reset (R9, R344): every register at its Reset value, nothing pending. -/
def State.reset : State :=
  { regs := [],
    force := [],
    dirty := [],
    latch := [],
    refused := 0,
    time := {},
    flt := {},
    evt := {},
    mbx := {},
    ident := {},
    md := {},
    prt := {},
    isl := [],
    grp := {},
    lan := {},
    sec := {},
    bnd := {},
    xbr := {},
    brg := {},
    home := {},
    cnt := {},
    twl := {},
    slt := [],
    oxb := {},
    rsv := [],
    due := [],
    out := [],
    fresh := 0,
    pending := [] }

end Sys2Proof.Machine
end

