-- ==== Sys2Proof/Machine/Flags.lean ====
section
/-! DEFINITION. Reading and writing one field of a register: status bits, counters that saturate, and the values in force of
shadowed fields. -/
namespace Sys2Proof.Machine
open Sys2Proof

/-- The word at an address of a register file; the reset word where nothing is stored. -/
def rget (m : RegFile) (a : Nat) (rst : Nat) : Word := mgetD m a (BitVec.ofNat 32 rst)

/-- Stores a word, keeping the file canonical: a word equal to its reset word is not listed. -/
def rput (m : RegFile) (a : Nat) (rst : Nat) (w : Word) : RegFile := mputD m a (BitVec.ofNat 32 rst) w

/-- The value of a field as stored: for an SH field, the staged value (R7). -/
def State.fld (s : State) (f : Fld) : Nat := getBits (rget s.regs f.addr f.rst) f.lsb f.width

/-- Whether a one-bit field is 1. -/
def State.bit (s : State) (f : Fld) : Bool := s.fld f == 1

/-- The state with a field set to the low bits of a number. -/
def State.setFld (s : State) (f : Fld) (v : Nat) : State :=
  { s with regs := rput s.regs f.addr f.rst (setBits (rget s.regs f.addr f.rst) f.lsb f.width v) }

/-- The state with a one-bit field set to a truth value. -/
def State.setBit (s : State) (f : Fld) (v : Bool) : State := s.setFld f (if v then 1 else 0)

/-- Adds to a counter field that saturates at its greatest value. -/
def State.addSat (s : State) (f : Fld) (n : Nat) : State := s.setFld f (min (s.fld f + n) (2 ^ f.width - 1))

/-- Counts one event in a saturating counter field. -/
def State.inc (s : State) (f : Fld) : State := s.addSat f 1

/-- The value in force of an SH field (R14). -/
def State.cur (s : State) (f : Fld) : Nat := getBits (rget s.force f.addr f.rst) f.lsb f.width

/-- Whether a one-bit SH field is 1 in force. -/
def State.curBit (s : State) (f : Fld) : Bool := s.cur f == 1

/-- The whole word at a register's address, as stored. -/
def State.word (s : State) (a : Nat) : Word := rget s.regs a (resetWord a)

/-- The whole word in force at a shadowed register's address. -/
def State.curWord (s : State) (a : Nat) : Word := rget s.force a (resetWord a)

/-- The state with a whole register word stored. -/
def State.setWord (s : State) (a : Nat) (w : Word) : State := { s with regs := rput s.regs a (resetWord a) w }

/-- Counts a refused access (R8, R29). -/
def State.countRefused (s : State) : State := { s with refused := s.refused + 1 }

/-- Sends something out. -/
def State.emit (s : State) (o : Out) : State := { s with out := o :: s.out }

/-- A number saturated at the greatest value of `w` bits. -/
def satTo (w n : Nat) : Nat := min n (2 ^ w - 1)

/-- The bits of a two-word (64-bit) field from its words, low word first (R5). -/
def State.fld64 (s : State) (lo hi : Fld) : Nat := s.fld lo + s.fld hi * 2 ^ 32

/-- Sets a two-word field (R5). -/
def State.setFld64 (s : State) (lo hi : Fld) (v : Nat) : State := (s.setFld lo (v % 2 ^ 32)).setFld hi (v / 2 ^ 32)

end Sys2Proof.Machine
end

