-- ==== Sys2Proof/Machine/Packet.lean ====
section
/-! DEFINITION. The protection of a Xiboni packet (R305, R308): the header, IV and key of AES-256-GCM, the tag a request must carry, and the protected form
of a reply. Every number of a packet stands with its first byte least significant. -/
namespace Sys2Proof.Machine
open Sys2Proof

/-- Fields of so many bytes each, one after the other, as one number (R305: every field is little-endian). -/
def leNum : List (Nat × Nat) → Nat
  | [] => 0
  | (k, v) :: t => v % 256 ^ k + 256 ^ k * leNum t

/-- The header of a protected packet (Table 14-2). -/
def packetHeader (reply group : Bool) (op sess seq plen tag status : Nat) : Nat :=
  leNum [(1, 1), (1, reply.toNat + 2 + 4 * group.toNat), (2, op), (2, sess), (4, seq), (2, plen), (2, tag), (2, status)]

/-- The IV of a packet (R308): session, direction, five zero bytes, sequence. -/
def packetIv (reply : Bool) (sess seq : Nat) : Nat := leNum [(2, sess), (1, reply.toNat), (5, 0), (4, seq)]

/-- The key of session n over an SPDM session's export master secret: the label is "XIBONI" with the session ID after it (R308; the byte order of the ID is
log entry 194). -/
def packetKey (secret n : Nat) : Nat := Config.hkdfExpand secret [0x58, 0x49, 0x42, 0x4F, 0x4E, 0x49, n % 256, n / 256 % 256] 32

/-- The tag a request of a session must carry (R308): over its header, and its parameters as the session's key decrypts them. -/
def Session.requestTag (x : Session) (op : Nat) (rq : Rq) : Nat :=
  Config.gcmTag x.aead (packetIv false rq.sess rq.seq) (packetHeader false rq.group op rq.sess rq.seq rq.plen rq.tag 0) (rq.body % 256 ^ rq.plen) % 2 ^ 128

/-- Whether the tag of a request verifies (R308). -/
def Session.tagOk (x : Session) (op : Nat) (rq : Rq) : Bool := rq.mac == x.requestTag op rq

/-- The key a session's packets are protected with; those of a host session are not (Table 14-3). -/
def Session.wireKey (x : Session) : Option Nat := if x.kind = .host then none else some x.aead

/-- A reply's parameters (R306): FRAME and the opcode's own fields. -/
def Reply.fields (rp : Reply) : List (Nat × Nat) := (8, rp.frame) :: rp.data

/-- PLEN of a reply. -/
def Reply.plen (rp : Reply) : Nat := (rp.fields.map (fun e => e.1)).foldl (fun a b => a + b) 0

/-- What a protected reply is sent as (R308): its parameters encrypted, and its tag. -/
def replySeal (key : Option Nat) (rf : Ref) (rp : Reply) : List Out :=
  match key with
  | none => []
  | some k =>
    let iv := packetIv true rf.sess rf.seq
    let text := leNum rp.fields
    [.sealed rf (Config.gcmText k iv text % 256 ^ rp.plen)
      (Config.gcmTag k iv (packetHeader true false rf.op rf.sess rf.seq rp.plen rf.tag rp.status.code) text % 2 ^ 128)]

/-- Sends a reply, protected where a key is given. -/
def State.sendReply (s : State) (key : Option Nat) (rf : Ref) (rp : Reply) : State :=
  { s with out := .reply rf rp :: (replySeal key rf rp ++ s.out) }

/-- The key that protects the packets of an open session; those of session 0 are not. -/
def State.keyOf (s : State) (n : Nat) : Option Nat := if n = 0 then none else (mget s.mbx.sess n).bind Session.wireKey

end Sys2Proof.Machine
end

