-- ==== Sys2Proof/Machine/Ops.lean ====
section
/-! DEFINITION. Operations every chapter shares: roles in force, free values, effects due at a Daybreak, event sources and their
delivery, fault reports, wake causes in Hold, and long commands. -/
namespace Sys2Proof.Machine
open Sys2Proof

/-! ### What a command leaves alone -/

/-- A state with the frame clock of another: its number, tick, length and correction. Only the Dusk window, a Daybreak, a Daybreak edge and a cold reset
move the frame clock (R33, R40, R44, R45). -/
def State.keepClock (s t : State) : State := { t with time := { s.time with sync := t.time.sync, pllLocked := t.time.pllLocked } }

/-- The answer of a command that does not move the frame clock: the queue and the clock stay. -/
def State.done (s t : State) : Host.Outcome State Fault Refusal := .next { s.keepClock t with pending := s.pending }

/-- The answer of a command of the frame clock or of a cold reset: the queue stays. -/
def State.doneTimed (s t : State) : Host.Outcome State Fault Refusal := .next { t with pending := s.pending }

/-! ### Ports and modes in force -/

/-- Whether port p exists under the bifurcation in force of its lane group (R48). -/
def State.formed (s : State) (p : Nat) : Bool :=
  match s.cur (PRT_CFG_BIF (p / 4 * 4)) with
  | 0 => p % 4 == 0
  | 1 => p % 2 == 0
  | 2 => true
  | _ => false

/-- The role in force of port p: 0 disabled, 1 host, 2 downstream, 3 ISL (R51). -/
def State.role (s : State) (p : Nat) : Nat := s.cur (PRT_CFG_ROLE p)

/-- Whether port p is a host port in force. -/
def State.isHost (s : State) (p : Nat) : Bool := decide (p < 128) && s.role p == 1

/-- Whether port p is a pool port in force (R51). -/
def State.isPool (s : State) (p : Nat) : Bool := decide (p < 128) && s.role p == 2 && s.curBit (PRT_CFG_POOL p)

/-- Whether port p's link is up (PRT_LINK_STAT.UP). -/
def State.linkUp (s : State) (p : Nat) : Bool := s.bit (PRT_LINK_STAT_UP p)

/-- Ticks since the last cold reset. -/
def State.now (s : State) : Nat := s.time.t0 + s.time.tick

/-- The frame at whose Daybreak something accepted now takes effect (R36). -/
def State.effFrame (s : State) : Nat := if s.time.dusk then s.time.frame + 2 else s.time.frame + 1

/-- The frame that the next Daybreak opens. -/
def State.nextFrame (s : State) : Nat := s.time.frame + 1

/-! ### Free values -/

/-- A free value (log entry 3) and the state in which it has been used. -/
def State.draw (s : State) : Nat × State := (Config.freeValue s.fresh, { s with fresh := s.fresh + 1 })

/-! ### Effects due -/

/-- Adds an accepted effect, last in the order of acceptance (R38). -/
def State.addDue (s : State) (d : Due) : State := { s with due := s.due ++ [d] }

/-- Accepts an effect for the Daybreak R36 gives, with the request that is told if it is cancelled. -/
def State.submit (s : State) (ref : Option Ref) (a : Act) : State :=
  s.addDue { eff := s.effFrame, named := false, group := false, frozen := false, handle := none, ref := ref, act := a }

/-- Accepts an effect for the next Daybreak, whatever the time within the frame. -/
def State.submitNext (s : State) (a : Act) : State :=
  s.addDue { eff := s.nextFrame, named := false, group := false, frozen := true, handle := none, ref := none, act := a }

/-! ### Event sources (R383 to R396) -/

/-- The code of shared source n among a target's sources: the CLAIM encoding with SHARED = 1 (R391). -/
def sharedCode (n : Nat) : Nat := 512 + n

/-- Whether event target t exists in force (R383). -/
def State.targetExists (s : State) (t : Nat) : Bool :=
  if t < 128 then s.isHost t else decide (t ≤ 131)

/-- The route word in force of shared source n (R384). -/
def State.routeWord (s : State) (n : Nat) : Word :=
  rget s.evt.routeF (EVT_SH_ROUTE n) (EVT_SH_ROUTE_TARGET n).rst

/-- The target shared source n is routed to in force. -/
def State.routeTarget (s : State) (n : Nat) : Nat := getBits (s.routeWord n) 0 8

/-- The register and bit of a source's pending bit. -/
def pendFld (t code : Nat) : Fld :=
  if code < 32 then { EVT_T_PEND_LO_PEND t with lsb := code, width := 1 }
  else if code < 64 then { EVT_T_PEND_HI_PEND t with lsb := code - 32, width := 1 }
  else { EVT_SH_PEND_PEND ((code - 512) / 32) with lsb := (code - 512) % 32, width := 1 }

/-- Whether a source of target t is masked: its MASK bit, or EN = 0 of a shared source (R388). -/
def State.srcMasked (s : State) (t code : Nat) : Bool :=
  if code < 32 then getBit (rget s.regs (EVT_T_MASK_LO t) 0) code
  else if code < 64 then getBit (rget s.regs (EVT_T_MASK_HI t) 0) (code - 32)
  else ! getBit (s.routeWord (code - 512)) 24

/-- Whether a source is marked active at a target (R391). -/
def State.srcActive (s : State) (t code : Nat) : Bool := (mgetD s.evt.active t []).contains code

/-- Whether a source is pending, unmasked and not active at a target. -/
def State.qualifies (s : State) (t code : Nat) : Bool :=
  s.bit (pendFld t code) && ! s.srcMasked t code && ! s.srcActive t code

/-- The lowest code from `c` on, below `c + n`, that a test accepts. -/
def firstCode (test : Nat → Bool) (c : Nat) : Nat → Option Nat
  | 0 => none
  | n + 1 => if test c then some c else firstCode test (c + 1) n

/-- The lowest shared source of target t that passes a test, searching the pending words from word k on. -/
def State.lowestShared (s : State) (t k : Nat) : Nat → Option Nat
  | 0 => none
  | n + 1 =>
    if rget s.regs (EVT_SH_PEND k) 0 = 0 then s.lowestShared t (k + 1) n
    else match firstCode (fun c => s.routeTarget (c - 512) == t && s.qualifies t c) (512 + 32 * k) 32 with
      | some c => some c
      | none => s.lowestShared t (k + 1) n

/-- The lowest-numbered source of a target that is pending, unmasked and not active, private sources first (R391). -/
def State.lowestSource (s : State) (t : Nat) : Option Nat :=
  match firstCode (s.qualifies t) 0 64 with
  | some c => some c
  | none => s.lowestShared t 0 16

/-- The interrupt settings of a management function. -/
def State.mf (s : State) (fn : Nat) : Mf := mgetD s.evt.mf fn {}

/-- Changes the interrupt settings of a management function. -/
def State.setMf (s : State) (fn : Nat) (m : Mf) : State := { s with evt.mf := mputD s.evt.mf fn {} m }

/-- Whether a management function delivers by INTx: neither MSI-X nor MSI enabled, and Interrupt Disable clear (R72). -/
def Mf.intx (m : Mf) : Bool := ! m.msix && ! m.msi && ! m.intDis

/-- The vector a source uses at a function (R394): MSI-X by source or route, MSI modulo the messages enabled; none otherwise. -/
def State.vectorOf (s : State) (fn code : Nat) : Option Nat :=
  let v := if code < 64 then code else getBits (s.routeWord (code - 512)) 18 6
  let m := s.mf fn
  if m.msix then (if m.vecMask.contains v then none else some v)
  else if m.msi then some (v % max m.msiN 1)
  else none

/-- Whether a port forwards no CXL.io traffic for want of a secure stream (R62). -/
def State.ioBlocked (s : State) (p : Nat) : Bool := s.curBit (PRT_IDE_CTL_REQ_IO p) && ! s.bit (PRT_IDE_STAT_IO_SECURE p)

/-- Whether a port forwards no CXL.cache and CXL.mem traffic for want of a secure stream (R62). -/
def State.cmBlocked (s : State) (p : Nat) : Bool := s.curBit (PRT_IDE_CTL_REQ_CM p) && ! s.bit (PRT_IDE_STAT_CM_SECURE p)

/-- Whether the function of a host target or target 128 has its port up, and its CXL.io traffic passes (R62, R396). -/
def State.targetUp (s : State) (t : Nat) : Bool := decide (128 ≤ t) || (s.linkUp t && ! s.ioBlocked t)

/-- An interrupt message that Bus Master Enable stops is dropped: counted for a host port, its pending bit stays (R73, Table 3-6 case 2). -/
def State.msiDropped (s : State) (t : Nat) : State :=
  if t < 128 then (s.inc (PRT_MF_DROP_MSI_DROP t)).setBit (PRT_MF_STAT_DROP_SEEN t) true else s

/-- Brings INTA of a function, or ALERT_N, to the level its sources give (R394, R395). -/
def State.refreshLevel (s : State) (t : Nat) : State :=
  if t ≤ 128 then
    let m := s.mf t
    let lvl := m.intx && s.targetUp t && (s.lowestSource t).isSome
    if lvl == m.inta then s else (s.setMf t { m with inta := lvl }).emit (.inta t lvl)
  else if t = 129 then
    let lvl := (s.lowestSource 129).isSome
    if lvl == s.evt.alertLow then s else ({ s with evt.alertLow := lvl } : State).emit (.alert lvl)
  else s

/-- Signals a source that has come to qualify at a target (R394, R395); while the target cannot deliver, nothing is sent (R396). -/
def State.signal (s : State) (t code : Nat) : State :=
  if t ≤ 128 then
    let m := s.mf t
    if m.msix || m.msi then
      match s.vectorOf t code with
      | some v => if ! s.targetUp t then s else if m.bme then s.emit (.msg t v) else s.msiDropped t
      | none => s
    else s.refreshLevel t
  else if t = 129 then s.refreshLevel 129
  else if s.evt.ibi.contains (t - 130) then
    match s.lowestSource t with
    | some c => s.emit (.ibi (t - 130) c)
    | none => s
  else s

/-- Sets a source's pending bit at a target, and signals it if it comes to qualify (R388, R394). -/
def State.raiseAt (s : State) (t code : Nat) : State :=
  let was := s.qualifies t code
  let s1 := s.setBit (pendFld t code) true
  if ! was && s1.qualifies t code then s1.signal t code else s1

/-- Raises a private source of a target that exists (R386). -/
def State.raisePrivate (s : State) (t src : Nat) : State :=
  if s.targetExists t then s.raiseAt t src else s

/-- Raises a shared source at the target its route names (R384, R387). -/
def State.raiseShared (s : State) (n : Nat) : State := s.raiseAt (s.routeTarget n) (sharedCode n)

/-- Raises shared source 128 + p, the pulse of port p (Table 17-5). -/
def State.raisePort (s : State) (p : Nat) : State := s.raiseShared (128 + p)

/-- Raises one private source in the bank of every target of a list. -/
def State.raiseAll (s : State) (ts : List Nat) (src : Nat) : State := ts.foldl (fun s t => s.raisePrivate t src) s

/-- The host targets in force (R383). -/
def State.hostTargets (s : State) : List Nat := (List.range 128).filter s.isHost

/-! ### Wake causes in Hold (R334) -/

/-- A wake cause: in Hold the resume starts, towards the state asked for or the one before Hold; during entry, before the core
tile is gated, the entry is abandoned and the previous state stays (Table 15-9 case 3). -/
def State.wake (s : State) (p : Option Power) : State :=
  match s.md.hold with
  | .held => { s with md.hold := .waking (p.getD s.md.preHold) s.now }
  | .entering => { s with md.hold := .out, md.power := p.getD s.md.preHold }
  | _ => s

/-- Whether the device is in Hold or resuming: counts and timeouts of R334 do not advance. -/
def State.inHold (s : State) : Bool :=
  match s.md.hold with
  | .out => false
  | _ => true

/-! ### Fault reports (R371 to R377) -/

/-- A fault as a block reports it (R372): class, scope kind and number (R373), code (Table 17-2), locator and detail (R374). -/
structure FltIn where
  cls : FaultClass
  scope : Nat
  id : Nat
  code : Nat
  addr : Option Nat := none
  detail : Nat := 0
  deriving DecidableEq, Repr

/-- Counts a fault in its class (FLT_CNT_CORR, FLT_CNT_CONT, FLT_CNT_UNC). -/
def State.countFault (s : State) (c : FaultClass) : State :=
  match c with
  | .correctable => s.inc FLT_CNT_CORR_CNT
  | .contained => s.inc FLT_CNT_CONT_CNT
  | .uncontained => s.inc FLT_CNT_UNC_UNC

/-- The higher of two fault classes. -/
def FaultClass.max (a b : FaultClass) : FaultClass := if a.code < b.code then b else a

/-- The slot of the open record of a scope, in slots 0 to 510 (R376). -/
def openSlotOf (m : NMap FltRec) (scope id : Nat) : Option Nat :=
  (m.find? (fun e => decide (e.1 < 511) && e.2.opn && e.2.scope == scope && e.2.scopeId == id)).map (fun e => e.1)

/-- How many records in slots 0 to 510 are open. -/
def openCount (m : NMap FltRec) : Nat := (m.filter (fun e => decide (e.1 < 511) && e.2.opn)).length

/-- The slot of the oldest closed record of a class in slots 0 to 510. -/
def oldestClosed (m : NMap FltRec) (c : FaultClass) : Option Nat :=
  (m.foldl (fun best e =>
    if decide (e.1 < 511) && ! e.2.opn && e.2.cls == c then
      match best with
      | some (sl, ser) => if e.2.serial < ser then some (e.1, e.2.serial) else some (sl, ser)
      | none => some (e.1, e.2.serial)
    else best) (none : Option (Nat × Nat))).map (fun e => e.1)

/-- The slot a new record takes: a free one, else the oldest closed correctable, else the oldest closed contained (R375). -/
def slotForNew (m : NMap FltRec) : Option Nat :=
  match mfreeFrom m 0 511 with
  | some k => some k
  | none => match oldestClosed m .correctable with
    | some k => some k
    | none => oldestClosed m .contained

/-- The field of a Reservoir stack's state (TWL_RSV). -/
def rsvState (stack : Nat) : Fld := if stack = 0 then TWL_RSV_STATE0 else TWL_RSV_STATE1

/-- Whether a stack's copy is single, so what it alone holds reads as lost (R418). -/
def State.stackGone (s : State) (stack : Nat) : Bool := s.fld (rsvState stack) == 2

/-- A read of a mirrored structure: with one copy single, a word the survivor cannot return is lost (R24, Table 19-7 case 7). -/
def State.rsvRead (s : State) (r : RsvRead) : RsvRead :=
  match r with
  | .repaired st => if s.fld TWL_RSV_STATE0 = 0 ∧ s.fld TWL_RSV_STATE1 = 0 then .repaired st else .lost
  | _ => r

/-- A record joins the journal's queue (R415): its kind (0 an uncontained fault record, 1 a lifecycle record, 2 a personality configuration, 3 a page of a
summary set, 4 the collector's own fault, 5 the board record) and its number. Uncontained fault records and lifecycle records go first. -/
def State.journalIn (s : State) (k n : Nat) : State :=
  { s with twl.jq := if k ≤ 1 then s.twl.jq.filter (fun e => decide (e.1 ≤ 1)) ++ (k, n) :: s.twl.jq.filter (fun e => decide (1 < e.1)) else s.twl.jq ++ [(k, n)] }

/-- Quarantine is due at the next Daybreak for the record of a number (R377); in Hold it is a wake cause. -/
def State.quarantineFor (s : State) (n : Nat) : State :=
  State.wake { s with md.quarDue := if s.md.quarDue = some 0xFFFF then some 0xFFFF else some n } none

/-- A record that becomes uncontained is journaled at once, and Quarantine is due at the next Daybreak (R377). -/
def State.uncontain (s : State) (slot : Nat) : State :=
  match mget s.flt.slots slot with
  | none => s
  | some r =>
    let s1 : State := { s with
      flt.slots := mput s.flt.slots slot { r with jrn := true },
      flt.journal := (s.flt.journal.filter (fun q => q.number != r.number)) ++ [{ r with jrn := true }] }
    ((s1.journalIn 0 r.number).emit (.journal r.code)).quarantineFor r.number

/-- Merges a fault into the record of a slot (R376). -/
def State.mergeFault (s : State) (slot : Nat) (f : FltIn) : State :=
  match mget s.flt.slots slot with
  | none => s
  | some r =>
    let r' := { r with
      merged := satTo 16 (r.merged + 1), lastF := s.time.frame, mixed := r.mixed || r.code != f.code,
      cls := r.cls.max f.cls, opn := true }
    let s1 : State := { s with flt.slots := mput s.flt.slots slot r' }
    if f.cls ≠ .uncontained then s1
    else if r.cls = .uncontained then s1.quarantineFor r.number
    else s1.uncontain slot

/-- Opens a new record in a slot, numbered next, and raises shared source 297 (R375, R376). -/
def State.openFault (s : State) (slot : Nat) (f : FltIn) : State :=
  let r : FltRec := {
    number := s.fld FLT_NEXT_NEXT, cls := f.cls, scope := f.scope, scopeId := f.id, code := f.code,
    firstF := s.time.frame, lastF := s.time.frame, merged := 0, addr := f.addr, mixed := false, jrn := false, opn := true,
    detail := f.detail, serial := s.flt.serial }
  let s1 : State := { s with flt.slots := mput s.flt.slots slot r, flt.serial := s.flt.serial + 1 }
  let s2 := (s1.setFld FLT_NEXT_NEXT (s1.fld FLT_NEXT_NEXT + 1)).raiseShared 297
  if f.cls = .uncontained then s2.uncontain slot else s2

/-- Merges a fault into the overflow record of slot 511, opening it if it is closed (R375, R376). -/
def State.overflowFault (s : State) (f : FltIn) : State :=
  match mget s.flt.slots 511 with
  | some r =>
    let s1 := s.mergeFault 511 f
    if r.opn then s1 else s1.raiseShared 297
  | none => s.openFault 511 { f with scope := 0, id := 0, code := 0, addr := none, detail := 0 }

/-- A block reports a fault: it merges into the open record of its scope, or opens a new one; beyond 64 open records, or where
no slot can be replaced, it merges into the overflow record (R375, R376). -/
def State.report (s : State) (f : FltIn) : State :=
  let s0 := s.countFault f.cls
  match openSlotOf s0.flt.slots f.scope f.id with
  | some k => s0.mergeFault k f
  | none =>
    if 64 ≤ openCount s0.flt.slots then s0.overflowFault f
    else match slotForNew s0.flt.slots with
      | some k => s0.openFault k f
      | none => (s0.inc FLT_CNT_UNC_LOST).overflowFault f

/-- Sets or clears a condition of Degraded; a change raises shared source 298 (R326). -/
def State.setDeg (s : State) (f : Fld) (v : Bool) : State :=
  if s.bit f == v then s else (s.setBit f v).raiseShared 298

/-! ### Long commands (R311, R316) -/

/-- The event target whose bank a command's completion is raised in: that of the route that carried it (Table 17-6). -/
def routeTargetOf (route carrier : Nat) : Nat := if route = 129 then carrier else route

/-- Whether a long-command slot can be taken: nothing runs in it. -/
def State.lcIdle (s : State) (h : Nat) : Bool :=
  match mget s.mbx.lc h with
  | some l => l.st == .free || l.st == .completed || l.st == .aborted
  | none => true

/-- The slots a new long command can take. -/
def State.lcSlots (s : State) : List Nat := (List.range 64).filter s.lcIdle

/-- How many long commands run (MBX_STAGE.LONG). -/
def State.lcRunning (s : State) : Nat := 64 - s.lcSlots.length

/-- The handle of a slot and generation (R311). -/
def handleOf (slot gen : Nat) : Nat := slot + gen * 64

/-- The slot of a handle, when the handle names the slot's present generation. -/
def State.lcOf (s : State) (handle : Nat) : Option (Nat × Lc) :=
  match mget s.mbx.lc (handle % 64) with
  | some l => if l.gen % 1024 = handle / 64 then some (handle % 64, l) else none
  | none => none

/-- Starts a long command in one of the idle slots: which one is free (log entry 3). Answers its handle. -/
def State.lcStart (s : State) (op : Nat) (ref : Ref) (prin : Principal) (target : Nat) : Nat × State :=
  let c := s.lcSlots
  let (v, s1) := s.draw
  let h := c.getD (v % c.length) 0
  let gen := match mget s1.mbx.lc h with
    | some l => (l.gen + 1) % 1024
    | none => 1
  let l : Lc := { op := op, gen := gen, st := .running, ref := ref, prin := prin, target := target, status := .inProgress, endFrame := 0 }
  (handleOf h gen, { s1 with mbx.lc := mput s1.mbx.lc h l })

/-- A long command passes its commit point (MBX_LC_h.STATE 2). -/
def State.lcPast (s : State) (handle : Nat) : State :=
  match s.lcOf handle with
  | some (h, l) => if l.st = .running then { s with mbx.lc := mput s.mbx.lc h { l with st := .past } } else s
  | none => s

/-- A running long command completes: its slot keeps the final status and frame, and private source 0 is raised in the bank of
the target whose route carried it (R316, Table 17-6). -/
def State.lcEnd (s : State) (handle : Nat) (st : Status) : State :=
  match s.lcOf handle with
  | some (h, l) =>
    if l.st = .running ∨ l.st = .past then
      let l' := { l with st := if st = .aborted then .aborted else .completed, status := st, endFrame := s.time.frame }
      ({ s with mbx.lc := mput s.mbx.lc h l' } : State).raisePrivate l.target 0
    else s
  | none => s

/-- Completes the long command of an optional handle. -/
def State.lcEndOpt (s : State) (handle : Option Nat) (st : Status) : State :=
  match handle with
  | some h => s.lcEnd h st
  | none => s

/-- Answers a request again with another status: a mode change or initial lock has discarded what it asked for (Table 1-4 case 1,
Table 2-3; log entry 12). -/
def State.answerAgain (s : State) (ref : Option Ref) (st : Status) : State :=
  match ref with
  | none => s
  | some r =>
    let rp : Reply := { status := st, frame := s.time.frame, data := [] }
    let s1 := s.sendReply (s.keyOf r.sess) r rp
    { s1 with mbx.sess := mmod s1.mbx.sess r.sess (fun x =>
        if x.last = some (r.seq, r.tag) then { x with stored := some rp } else x) }

end Sys2Proof.Machine
end

