-- ==== Sys2Proof/Machine/Count.lean ====
section
/-! DEFINITION. Counting events (R400) and the accesses of a binding (R406), for the meanings that raise them. -/
namespace Sys2Proof.Machine
open Sys2Proof

/-- The first core-clock edge at or after a tick, counted from the last cold reset (R35): two edges a tick in Full, six every five ticks in
Economy, in a fixed phase with the timebase: an edge coincides with tick 0 and with every fifth tick after it (log entry 175). -/
def coreEdge (eco : Bool) (t : Nat) : Nat := if eco then (6 * t + 4) / 5 else 2 * t

/-- The core cycles between a tick and a later one; none without a clock (R399). -/
def State.cyclesIn (s : State) (t0 t1 : Nat) : Nat :=
  if s.md.mode = .standby ∨ s.md.clkGated ∨ s.inHold then 0
  else coreEdge (s.md.power == .economy) t1 - coreEdge (s.md.power == .economy) t0

/-- The core cycles since the core tile left reset (R171, R399). -/
def State.coreCycles (s : State) : Nat := s.cnt.cyc + s.cyclesIn s.time.t0 s.now

/-- Whether a select word counts messages of a class and traffic class (R400): a mask of 0 takes all. -/
def selTakes (w : Word) (cls tc : Nat) : Bool :=
  (getBits w 10 4 == 0 || getBit w (10 + cls)) && (getBits w 14 8 == 0 || getBit w (14 + tc))

/-- Adds `n` to the counters of unit `u` whose select in force names event `ev` and passes a test (R400). -/
def State.tallyIf (s : State) (u ev n : Nat) (test : Word → Bool) : State :=
  { s with cnt.live := (List.range 8).foldl (fun m k =>
      let w := s.curWord (CNT_SEL u k)
      if getBits w 0 10 = ev ∧ test w then mputD m (u * 8 + k) 0 ((mgetD m (u * 8 + k) 0 + n) % 2 ^ 48) else m) s.cnt.live }

/-- Counts an event of a unit. -/
def State.tally (s : State) (u ev n : Nat) : State := s.tallyIf u ev n (fun _ => true)

/-- Counts a message event of a unit. -/
def State.tallyMsg (s : State) (u ev n cls tc : Nat) : State := s.tallyIf u ev n (fun w => selTakes w cls tc)

/-- Changes the counts of a binding's page. -/
def State.page (s : State) (b : Nat) (f : BndPage → BndPage) : State :=
  { s with cnt.pages := mputD s.cnt.pages b {} (f (mgetD s.cnt.pages b {})) }

/-- A binding's counts start again (R406). -/
def State.clearPage (s : State) (b : Nat) : State := { s with cnt.pages := mdel s.cnt.pages b, cnt.pageSnap := mdel s.cnt.pageSnap b }

/-- The dump being written is abandoned (R405): WR still advances, and the drop is counted. -/
def State.abandonDump (s : State) (p : Nat) : State :=
  match s.cnt.run with
  | some d =>
    if d.port = p then
      ((({ s with cnt.run := none } : State).setFld CNT_RING_WR_WR (s.fld CNT_RING_WR_WR + 352)).inc CNT_DROP_DROP).setBit CNT_DROP_BUSY false
    else s
  | none => s

end Sys2Proof.Machine
end

