-- ==== Sys2Proof/Machine/Operands.lean ====
section
/-! DEFINITION. The operand forms of commands and accesses: the principal an access acts for, the opcodes' Who column, sessions
and route queues, and the fields of a reply. -/
namespace Sys2Proof.Machine
open Sys2Proof

/-- The bit of a principal in a Who mask: O 1, F 2, T 4, H 8, V 16, D 32 (Table 0-4); session 0 is 64 and a tenant-candidate
session 128 (Table 14-3). -/
def Principal.mask : Principal → Nat
  | .owner => 1
  | .fm _ => 2
  | .tenant _ => 4
  | .host _ => 8
  | .vendor => 16
  | .debugger => 32
  | .none => 64
  | .candidate _ => 128

/-- Whether a Who mask lists a principal. -/
def Principal.isIn (p : Principal) (who : Nat) : Bool := who / p.mask % 2 == 1

/-- Whether a principal is the owner or a fabric manager. -/
def Principal.isOF (p : Principal) : Bool := p.isIn 3

/-- The Who column of an opcode (Table 14-6, Table 14-3), as a mask. Entries that depend on an operand are checked by the opcode.
The number 0x10000, which no 16-bit opcode has, stands for the vendor's lifecycle command of Table 13-4 (log entry 21). 0x0201 lists V for
the transitions of Table 15-2 in Vendor test. -/
def opWho (op : Nat) : Nat :=
  match op with
  | 0x0100 => 127 | 0x0101 => 64 | 0x0102 => 191 | 0x0103 => 43 | 0x0104 => 127 | 0x0105 => 127 | 0x0106 => 64
  | 0x0107 => 1 | 0x0108 => 1 | 0x0110 => 63 | 0x0111 => 63
  | 0x0200 => 127 | 0x0201 => 19 | 0x0202 => 3 | 0x0203 => 3 | 0x0204 => 3 | 0x0205 => 63 | 0x0206 => 11 | 0x0207 => 63 | 0x0208 => 63
  | 0x0300 => 35 | 0x0301 => 3 | 0x0302 => 3 | 0x0303 => 3 | 0x0304 => 3 | 0x0305 => 3 | 0x0306 => 3 | 0x0307 => 3 | 0x0308 => 3 | 0x0309 => 3
  | 0x0400 => 3 | 0x0401 => 3 | 0x0402 => 7 | 0x0403 => 3 | 0x0404 => 3 | 0x0405 => 15 | 0x0406 => 3 | 0x0407 => 3
  | 0x0500 => 132 | 0x0501 => 5 | 0x0502 => 3 | 0x0503 => 4 | 0x0504 => 1
  | 0x0600 => 3 | 0x0601 => 3 | 0x0602 => 4 | 0x0603 => 3
  | 0x0700 => 3 | 0x0701 => 3 | 0x0702 => 3 | 0x0703 => 35
  | 0x0800 => 3 | 0x0801 => 11 | 0x0802 => 43
  | 0x0900 => 35 | 0x0901 => 3 | 0x0902 => 3 | 0x0903 => 3
  | 0x0A00 => 35 | 0x0A01 => 3 | 0x0A02 => 3
  | 0x0B00 => 3 | 0x0B01 => 1 | 0x0B02 => 7
  | 0x0C00 => 35 | 0x0C01 => 3
  | 0x0D00 => 17 | 0x0D01 => 17 | 0x0D02 => 17 | 0x0D03 => 1
  | 0x0E00 => 3 | 0x0E01 => 2 | 0x0E02 => 3
  | 0x0F00 => 32 | 0x0F01 => 32
  | 0x10000 => 16
  | _ => 0

/-- Whether the table of opcodes lists an opcode (R318). -/
def opKnown (op : Nat) : Bool := opWho op != 0

/-- Opcodes that need the data plane (R11, R310): those of groups 0x03 to 0x08 and 0x0E, commit, binding and port resets and the
counter opcodes (log entry 14). -/
def opNeedsData (op : Nat) : Bool :=
  (decide (0x0300 ≤ op) && decide (op ≤ 0x08FF)) || op == 0x0204 || (decide (0x0E00 ≤ op) && decide (op ≤ 0x0EFF)) ||
  (decide (0x0B00 ≤ op) && decide (op ≤ 0x0BFF))

/-- Opcodes the owner may use in Quarantine: reads, fault records, slot power, closing sessions, power states, and device-wide
resets (R335, R331). -/
def opInQuarantine (op : Nat) : Bool :=
  [0x0100, 0x0102, 0x0110, 0x0111, 0x0200, 0x0201, 0x0202, 0x0206, 0x0207, 0x0300, 0x0402, 0x0405, 0x0703, 0x0802, 0x0900, 0x0901, 0x0902,
   0x0903, 0x0A00, 0x0A01, 0x0B02, 0x0C00, 0x0C01].contains op

/-- Opcodes left in the Retired state: those of identity (R295). -/
def opInRetired (op : Nat) : Bool := [0x0100, 0x0101, 0x0102, 0x0103, 0x0104, 0x0105, 0x0110, 0x0200].contains op

/-- Where the reply of a request goes. -/
def rqRef (rq : Rq) (op : Nat) : Ref := { route := rq.route, eid := rq.eid, sess := rq.sess, seq := rq.seq, tag := rq.tag, op := op }

/-- The reply of a register opcode, the only request that waits for the end of Hold (R334). -/
def regOpRef (i : Instr) : Option Ref :=
  match i with
  | .registerRead rq _ _ => some (rqRef rq 0x0110)
  | .registerWriteOpcode rq _ _ _ => some (rqRef rq 0x0111)
  | _ => none

/-- The open session a request names: its route must match, and on routes 129 to 131 its endpoint ID (R307). -/
def State.sessionOf (s : State) (rq : Rq) : Option Session :=
  match mget s.mbx.sess rq.sess with
  | some x => if x.route = rq.route ∧ (rq.route ≤ 128 ∨ x.eid = rq.eid) then some x else none
  | none => none

/-- The principal of an open session; none for session 0 (R17). -/
def State.prinOf (s : State) (n : Nat) : Principal :=
  match mget s.mbx.sess n with
  | some x => x.prin
  | none => .none

/-- The session that has attached a function's BAR (opcode 0x0103, source 0). -/
def State.barSession (s : State) (fn : Nat) : Option Nat :=
  (s.mbx.attach.find? (fun a => a.source == 0 && a.route == fn)).map (fun a => a.sess)

/-- The principal of an access through a function's BAR: the session that attached it, else the host agent of a host port (R319). -/
def State.busPrin (s : State) (b : Bus) : Principal :=
  match s.barSession b.fn with
  | some n => s.prinOf n
  | none => if s.isHost b.fn then .host b.fn else .none

/-- How many requests wait on a route (MBX_RT_r.QUEUED). -/
def State.queued (s : State) (r : Nat) : Nat := (s.mbx.held.filter (fun e => e.1 == r)).length

/-- A request arrives while the interpreter is not ready: it waits on its route's queue of 16, or is refused and counted (R304). -/
def State.hold (s : State) (r : Nat) (i : Instr) : State :=
  if s.queued r < 16 then { s with mbx.held := s.mbx.held ++ [(r, i)] }
  else (s.inc (MBX_RT_DROP r)).emit (.queueFull r (decide (r ≤ 128)))

/-- Whether the main supplies are off: the data plane does not exist (R11). -/
def State.dataOff (s : State) : Bool := s.md.mode == .standby

/-- What a body of an opcode answers. `later` says that the reply is sent when the change takes effect (R334). -/
structure Ans where
  st : State
  status : Status
  frame : Nat
  data : List (Nat × Nat)
  later : Bool := false

/-- Refuses with a status and no effect: FRAME is the frame in force (R306, R312). -/
def State.refuse (s : State) (c : Status) : Ans := { st := s, status := c, frame := s.time.frame, data := [] }

/-- Answers a read: success, with the frame in force (R306). -/
def State.readAns (s : State) (data : List (Nat × Nat)) : Ans := { st := s, status := .success, frame := s.time.frame, data := data }

/-- Answers a change that takes effect at a Daybreak (R306). -/
def State.okAt (s : State) (frame : Nat) : Ans := { st := s, status := .success, frame := frame, data := [] }

/-- Answers a change that has taken effect at once. -/
def State.okNow (s : State) : Ans := s.okAt s.time.frame

/-- Answers a long command with its handle (R311). -/
def State.long (s : State) (frame handle : Nat) : Ans := { st := s, status := .inProgress, frame := frame, data := [(2, handle)] }

/-- The value of each byte of a number, low byte first. -/
def bytesOf (n : Nat) : Nat → List Nat
  | 0 => []
  | k + 1 => n % 256 :: bytesOf (n / 256) k

/-- The code of a mode (Table 15-1). -/
def Mode.code : Mode → Nat
  | .standby => 0 | .bringUp => 1 | .provisioning => 2 | .service => 3 | .degraded => 4 | .evacuate => 5 | .quarantine => 6 | .diagnostic => 7

/-- The mode of a code (Table 15-1). -/
def Mode.ofCode : Nat → Option Mode
  | 0 => some .standby | 1 => some .bringUp | 2 => some .provisioning | 3 => some .service | 4 => some .degraded
  | 5 => some .evacuate | 6 => some .quarantine | 7 => some .diagnostic | _ => none

/-- The code of a power state (GLB_MODE.PWR). -/
def Power.code : Power → Nat
  | .full => 0 | .economy => 1 | .hold => 2 | .off => 3

/-- The code of a lifecycle state (GLB_LC_STAT.STATE). -/
def Lifecycle.code : Lifecycle → Nat
  | .blank => 0 | .vendorTest => 1 | .ownerOpen => 2 | .owned => 3 | .retired => 4

/-- The state code of a long-command slot (MBX_LC_h.STATE). -/
def LcState.code : LcState → Nat
  | .free => 0 | .running => 1 | .past => 2 | .completed => 3 | .aborted => 4

end Sys2Proof.Machine
end

