-- ==== Sys2Proof/Machine/Staging.lean ====
section
/-! DEFINITION. The staging area and its lock (R313), and what becomes of staged words at discard, commit and Daybreak. -/
namespace Sys2Proof.Machine
open Sys2Proof

/-- The mask of the SH bits of a register. -/
def RegDef.shMask (d : RegDef) : Word :=
  d.fields.foldl (fun m f => if f.sh then m ||| fieldMask f.lsb f.width else m) 0

/-- The mask of the SH bits of a register that also carry LK. -/
def RegDef.shLkMask (d : RegDef) : Word :=
  d.fields.foldl (fun m f => if f.sh && f.lk then m ||| fieldMask f.lsb f.width else m) 0

/-- The SH mask at an address. -/
def shMaskAt (a : Nat) : Word :=
  match lookupReg a with
  | some (d, _) => d.shMask
  | none => 0

/-- The SH and LK mask at an address. -/
def shLkMaskAt (a : Nat) : Word :=
  match lookupReg a with
  | some (d, _) => d.shLkMask
  | none => 0

/-- `w` with the bits of a mask taken from `v`. -/
def mix (mask w v : Word) : Word := (w &&& ~~~ mask) ||| (v &&& mask)

/-- The staged bits of one register return to the values in force. -/
def State.revertWord (s : State) (a : Nat) : State := s.setWord a (mix (shMaskAt a) (s.word a) (s.curWord a))

/-- A register leaves the staging area: its staged bits return to the values in force (R314). -/
def State.unstage (s : State) (a : Nat) : State := { s.revertWord a with dirty := sdel s.dirty a }

/-- Whether a staged address belongs to the SLT block, which lies outside the staging area (R313). -/
def isSltAddr (a : Nat) : Bool := decide (0x80000 ≤ a) && decide (a ≤ 0x8FFFF)

/-- The addresses staged in the staging area. -/
def State.staged (s : State) : List Nat := s.dirty.filter (fun a => ! isSltAddr a)

/-- Every staged register value returns to the value in force (R313). -/
def State.revertStaged (s : State) : State := s.staged.foldl State.unstage s

/-- Stages a word: the register's SH bits take the new value, and the address joins the staging area. -/
def State.stageWord (s : State) (a : Nat) (w : Word) : State :=
  { s.setWord a (mix (shMaskAt a) (s.word a) w) with dirty := sadd s.dirty a }

/-- A staged word takes effect: it is the word in force from this Daybreak, and unless something has been staged since, the value
a read returns (R38). -/
def State.applyWord (s : State) (a : Nat) (w : Word) : State :=
  let s1 : State := { s with force := rput s.force a (resetWord a) (mix (shMaskAt a) (s.curWord a) w) }
  if s1.dirty.contains a then s1 else s1.revertWord a

/-- A field in force is set directly, and its staged copy with it unless a write is staged there: for effects that do not pass
through the staging area. -/
def State.setCur (s : State) (f : Fld) (v : Nat) : State :=
  let s1 : State := { s with force := rput s.force f.addr f.rst (setBits (rget s.force f.addr f.rst) f.lsb f.width v) }
  if s1.dirty.contains f.addr then s1 else s1.setFld f v

/-- Takes the staging lock for a session when it is free or already its own (R313). -/
def State.takeLock (s : State) (n : Nat) : Option State :=
  match s.mbx.lock with
  | none => some { s with mbx.lock := some n }
  | some h => if h = n then some s else none

/-- A staging write or opcode that finds the lock held by another session (R313). -/
def State.loseLock (s : State) : State := s.inc MBX_STAGE_REF_STAGE_REF

end Sys2Proof.Machine
end

