-- ==== Sys2Proof/Machine/Command.lean ====
section
/-! DEFINITION. Admission of a Xiboni request (R304 to R311): route queue, packet form, session, authentication, sequence, mode and
lifecycle, principal; then the opcode's body; then the reply. -/
namespace Sys2Proof.Machine
open Sys2Proof

/-- Every staged value returns to the value in force: register words, gate rule sets and consent tokens (R313). -/
def State.clearStaging (s : State) : State :=
  { s.revertStaged with sec.gstage := [], sec.consents := [] }

/-- Discards the staging of session n and frees the lock it holds (R313). -/
def State.releaseLock (s : State) (n : Nat) : State :=
  if s.mbx.lock = some n then { s.clearStaging with mbx.lock := none } else s

/-- A session closes: its staging is discarded and its lock freed, its attachments go, and a debug session ends (R313, R319, R337). -/
def State.closeSession (s : State) (n : Nat) : State :=
  match mget s.mbx.sess n with
  | none => s
  | some _ =>
    let s1 := s.releaseLock n
    let d := match s1.md.dbg with
      | some x => if x.sess = n then none else some x
      | none => none
    { s1 with
      mbx.sess := mdel s1.mbx.sess n, mbx.attach := s1.mbx.attach.filter (fun a => a.sess != n), md.dbg := d }

/-- Closes every session a test accepts. -/
def State.closeSessions (s : State) (t : Nat → Session → Bool) : State :=
  ((s.mbx.sess.filter (fun e => t e.1 e.2)).map (fun e => e.1)).foldl State.closeSession s

/-- Sends a reply that no session stores. -/
def State.reply0 (s : State) (rq : Rq) (op : Nat) (c : Status) : State :=
  s.sendReply (s.keyOf rq.sess) (rqRef rq op) { status := c, frame := s.time.frame, data := [] }

/-- A request whose tag fails is discarded; after 16 in a row the session closes (R308). -/
def State.authFail (s : State) (rq : Rq) (op : Nat) (x : Session) : State :=
  let s1 := (s.inc MBX_ERR_AUTH_FAIL).emit (.discarded (rqRef rq op))
  if 16 ≤ x.fails + 1 then s1.closeSession rq.sess
  else { s1 with mbx.sess := mput s1.mbx.sess rq.sess { x with fails := x.fails + 1 } }

/-- Whether mode and lifecycle turn a request away before its opcode is looked at, and with which status (R310). In Quarantine an open debug
session goes on (R335; log entry 92). -/
def State.modeGate (s : State) (p : Principal) (op : Nat) : Option Status :=
  if s.md.mode = .quarantine ∧ ¬ ((p = .owner ∧ opInQuarantine op) ∨ (p = .debugger ∧ p.isIn (opWho op))) then some .state
  else if s.ident.life = .retired ∧ ¬ opInRetired op then some .state
  else if s.ident.lcFault ∧ ¬ (p = .owner ∨ op = 0x0101 ∨ op = 0x0104 ∨ op = 0x0105 ∨ op = 0x0100) then some .state
  else if s.dataOff ∧ opNeedsData op then some .dataPlane
  else none

/-- Whether a request of a principal may reach its opcode's body (R310, R318). -/
def State.opGate (s : State) (p : Principal) (op : Nat) : Option Status :=
  match s.modeGate p op with
  | some c => some c
  | none =>
    if ! opKnown op then some .unsupported
    else if p.isIn (opWho op) then none
    else some .permission

/-- Sends an answer under the key of its session, stores it there for a repeat of the request, and closes the session after its last sequence (R308,
R309). -/
def State.deliver (a : Ans) (rq : Rq) (op : Nat) (key : Option Nat) : State :=
  if a.later then a.st else
  let rp : Reply := { status := a.status, frame := a.frame, data := a.data }
  let s1 := a.st.sendReply key (rqRef rq op) rp
  let s2 : State := { s1 with mbx.sess := mmod s1.mbx.sess rq.sess (fun x => { x with stored := some rp }) }
  if rq.seq = 0xFFFFFFFF ∧ rq.sess ≠ 0 then s2.closeSession rq.sess else s2

/-- Runs an opcode for an admitted request: the gate of R310 and R318, then its body. -/
def State.runOp (s : State) (rq : Rq) (op : Nat) (p : Principal) (body : Principal → State → Ans) : State :=
  match s.opGate p op with
  | some c => State.deliver (s.refuse c) rq op none
  | none => State.deliver (body p s) rq op none

/-- The sequence number the next request of a session carries (R309). -/
def Session.expected (x : Session) : Nat :=
  match x.last with
  | some (q, _) => q + 1
  | none => x.firstSeq

/-- A session takes the sequence number and tag of a request (R309). -/
def State.enter (s : State) (rq : Rq) (x : Session) : State :=
  { s with mbx.sess := mput s.mbx.sess rq.sess { x with last := some (rq.seq, rq.tag), stored := none, fails := 0 } }

/-- Runs a request of an open session under the sequence rule: a repeat of the last accepted sequence and tag gets the stored reply
and is not performed again; any other sequence but the next is refused and counted (R309). -/
def State.runSession (s : State) (rq : Rq) (op : Nat) (x : Session) (body : Principal → State → Ans) : State :=
  if x.last = some (rq.seq, rq.tag) then
    match x.stored with
    | some rp => s.sendReply x.wireKey (rqRef rq op) rp
    | none => s
  else if rq.seq ≠ x.expected then (s.inc MBX_ERR_SEQ_ERR).reply0 rq op .sequence
  else
    let s1 := s.enter rq x
    match s1.opGate x.prin op with
    | some c => State.deliver (s1.refuse c) rq op x.wireKey
    | none => State.deliver (body x.prin s1) rq op x.wireKey

/-- A Xiboni request: the checks of R304 to R310 in their order, then the opcode's body (`i` is the request itself, held while the
interpreter is not ready). In reset, nothing answers. -/
def xib (op : Nat) (rq : Rq) (i : Instr) (s : State) (body : Principal → State → Ans) : State :=
  if s.md.boot ≠ .up then s
  else if ! s.bit MBX_STAT_READY then s.hold rq.route i
  else if rq.version ≠ 1 then s.reply0 rq op .unsupported
  else if 4096 < rq.plen then s.reply0 rq op .tooLarge
  else if rq.sess = 0 then
    if rq.auth then s.reply0 rq op .parameter else s.runOp rq op .none body
  else match s.sessionOf rq with
    | none => s.reply0 rq op .session
    | some x =>
      if x.kind = .host then
        if rq.auth then s.reply0 rq op .parameter else s.runSession rq op x body
      else if rq.auth && x.tagOk op rq then s.runSession rq op x body
      else s.authFail rq op x

/-- Runs a staging opcode: it takes the lock, or is answered busy and counted while another session holds it (R313). One that is
answered with another status than success has no effect (R312). -/
def State.staging (s : State) (rq : Rq) (body : State → Ans) : Ans :=
  match s.takeLock rq.sess with
  | some s1 => let a := body s1; if a.status = .success then a else s.refuse a.status
  | none => s.loseLock.refuse .busy

end Sys2Proof.Machine
end

