-- ==== Sys2Proof/Machine/Events.lean ====
section
/-! DEFINITION. The fault collector's and the event controller's commands (chapter 17): fault reports, self-faults, the management
watchdog, records, event sources, claiming and completing, pins and routes. -/
namespace Sys2Proof.Machine
open Sys2Proof

/-! ### Fault codes (Table 17-2) -/

/-- The class and scope kind of a fault code (Table 17-2, R373). -/
def faultInfo (code : Nat) : Option (FaultClass × Nat) :=
  match code with
  | 0x0101 => some (.correctable, 0) | 0x0102 => some (.contained, 2) | 0x0103 => some (.uncontained, 0)
  | 0x0201 => some (.correctable, 1) | 0x0202 => some (.contained, 1) | 0x0203 => some (.contained, 5)
  | 0x0301 => some (.contained, 2) | 0x0302 => some (.contained, 2)
  | 0x0401 => some (.correctable, 8) | 0x0402 => some (.uncontained, 0) | 0x0403 => some (.correctable, 8)
  | 0x0404 => some (.correctable, 7) | 0x0405 => some (.uncontained, 7)
  | 0x0501 => some (.correctable, 6) | 0x0502 => some (.uncontained, 6) | 0x0503 => some (.contained, 3) | 0x0504 => some (.contained, 3)
  | 0x0601 => some (.contained, 4) | 0x0602 => some (.contained, 4)
  | 0x0701 => some (.uncontained, 0) | 0x0702 => some (.uncontained, 0) | 0x0703 => some (.uncontained, 0)
  | 0x0704 => some (.contained, 9) | 0x0705 => some (.correctable, 9)
  | _ => none

/-- Reports a fault by its code: class and scope are those of Table 17-2, the scope of 0x0102 being the port where there is no binding. -/
def State.reportCode (s : State) (code id : Nat) (addr : Option Nat) (detail : Nat) : State :=
  match faultInfo code with
  | some (c, k) => s.report { cls := c, scope := k, id := id, code := code, addr := addr, detail := detail }
  | none => s

/-- A block reports a fault (R372, R376). `unbound` says that a 0x0102 names a port, not a binding. -/
def execFaultReport (code id : Nat) (unbound : Bool) (addr : Option Nat) (detail : Nat) (s : State) : Host.Outcome State Fault Refusal :=
  s.done (if code = 0x0102 ∧ unbound then
      s.report { cls := .contained, scope := 1, id := id, code := code, addr := addr, detail := detail }
    else s.reportCode code id addr detail)

/-- A self-fault of the collector (R378): no record; the journal takes one entry with code 0x0801, Quarantine is due with RECORD
0xFFFF, and SELF and SUSPECT set. -/
def State.selfFault (s : State) : State :=
  let s1 := (((State.journalIn { s with flt.selfJrn := s.flt.selfJrn + 1 } 4 s.flt.selfJrn).emit (.journal 0x0801)).setBit FLT_STAT_SELF true).setBit FLT_STAT_SUSPECT true
  State.wake { s1 with md.quarDue := some 0xFFFF } none

def execCollectorSelfFault (s : State) : Host.Outcome State Fault Refusal := s.done s.selfFault

/-! ### Records (R373 to R379) -/

/-- The words of a fault record (Table 17-3), word w holding bytes 4w to 4w + 3. -/
def FltRec.word (r : FltRec) (w : Nat) : Nat :=
  let flags := (if r.addr.isSome then 1 else 0) + (if r.mixed then 2 else 0) + (if r.jrn then 4 else 0) + (if r.opn then 8 else 0)
  let a := r.addr.getD 0
  match w with
  | 0 => r.number + r.cls.code * 2 ^ 16 + r.scope * 2 ^ 24
  | 1 => r.scopeId + r.code * 2 ^ 16
  | 2 => r.firstF % 2 ^ 32
  | 3 => r.firstF / 2 ^ 32
  | 4 => r.lastF % 2 ^ 32
  | 5 => r.lastF / 2 ^ 32
  | 6 => r.merged + flags * 2 ^ 16
  | 7 => a % 2 ^ 32
  | 8 => a / 2 ^ 32
  | 9 => r.detail % 2 ^ 32
  | 10 => r.detail / 2 ^ 32 % 2 ^ 32
  | 11 => r.detail / 2 ^ 64 % 2 ^ 32
  | _ => 0

/-- The stored records with NUMBER at or after a number, in ascending order of NUMBER (R375). -/
def State.recordsFrom (s : State) (n : Nat) : List FltRec :=
  sortBy (fun r => r.number) ((s.flt.slots.map (fun e => e.2)).filter (fun r => decide (n ≤ r.number)))

/-- Opcode 0x0A00 (R375). A count beyond the 63 records a reply holds is too large (log entry 20). -/
def execReadFaultRecords (rq : Rq) (firstNum count : Nat) (s : State) : Host.Outcome State Fault Refusal :=
  s.done (xib 0x0A00 rq (.readFaultRecords rq firstNum count) s fun _ s =>
    if 63 < count then s.refuse .tooLarge
    else s.readAns (((s.recordsFrom firstNum).take count).flatMap (fun r => (List.range 16).map (fun w => (4, r.word w)))))

/-- The slot of the record of a number. -/
def State.slotOfNumber (s : State) (n : Nat) : Option Nat :=
  (s.flt.slots.find? (fun e => e.2.number == n)).map (fun e => e.1)

/-- Clears the record of a number; an open one is closed first (R379). None where no record has it. -/
def State.clearRecord (s : State) (n : Nat) : Option State :=
  match s.slotOfNumber n with
  | some k => some { s with flt.slots := mdel s.flt.slots k }
  | none => none

/-- Opcode 0x0A01 (R379). A clear that names no stored record is dropped and REFUSED is set (log entry 20 gives the status). -/
def execClearFaultRecord (rq : Rq) (record : Nat) (s : State) : Host.Outcome State Fault Refusal :=
  s.done (xib 0x0A01 rq (.clearFaultRecord rq record) s fun _ s =>
    match s.clearRecord record with
    | some s1 => s1.okNow
    | none => (s.setBit FLT_CLR_REFUSED true).refuse .parameter)

/-- The action of FLT_CLR.GO (R379). -/
def State.fltClrGo (s : State) : State :=
  match s.clearRecord (s.fld FLT_CLR_NUMBER) with
  | some s1 => s1
  | none => s.setBit FLT_CLR_REFUSED true

/-! ### Claiming, completing and clearing (R390 to R394) -/

/-- Whether claim mode is in force at a target (R392). -/
def State.claimMode (s : State) (t : Nat) : Bool :=
  s.md.mode == .bringUp || s.md.mode == .diagnostic || ! s.bit (EVT_T_CTL_SCAN t)

/-- Whether shared source n is a pin source (Table 17-5). -/
def isPinSource (n : Nat) : Bool := decide (n < 64)

/-- Whether a group is a host group in force (R53). While roles are held over Standby, the groups keep their class. -/
def State.hostGroup (s : State) (g : Nat) : Bool :=
  if s.md.roleHeld then s.md.heldHost.contains g else (List.range 4).any (fun k => s.isHost (4 * g + k))

/-- Whether a level source's input is asserted now: INTx of a bridge window, or a low pin sensed as a level (R388, R389). -/
def State.levelOn (s : State) (t code : Nat) : Bool :=
  if code < 64 then s.evt.level.contains (t * 64 + code)
  else
    let n := code - 512
    isPinSource n && getBits (s.routeWord n) 8 2 == 0 && s.evt.pinsLow.contains n &&
      (decide (n < 32) || s.hostGroup (n - 32))

/-- A qualifying source of a target that uses a vector. -/
def State.sourceOfVector (s : State) (t v : Nat) : Option Nat :=
  match firstCode (fun c => s.qualifies t c && s.vectorOf t c == some v) 0 64 with
  | some c => some c
  | none => firstCode (fun c => s.bit (pendFld t c) && s.routeTarget (c - 512) == t && s.qualifies t c && s.vectorOf t c == some v) 512 512

/-- After a clear or completion of a source: what its vector still carries is signalled again, and levels follow (R394). -/
def State.signalAgain (s : State) (t code : Nat) : State :=
  if t ≤ 128 then
    match s.vectorOf t code with
    | some v => match s.sourceOfVector t v with
      | some c => s.signal t c
      | none => s
    | none => s.refreshLevel t
  else if t = 129 then s.refreshLevel 129
  else match s.lowestSource t with
    | some c => s.signal t c
    | none => s

/-- Re-samples a level source after a clear, a completion or the loss of its active mark: an asserted input sets it pending (R393). -/
def State.resample (s : State) (t code : Nat) : State :=
  if s.levelOn t code then s.setBit (pendFld t code) true else s

/-- Clears the pending bit of a source and re-samples it (R390, R393). -/
def State.clearSource (s : State) (t code : Nat) : State :=
  if s.bit (pendFld t code) then
    ((s.setBit (pendFld t code) false).resample t code).signalAgain t code
  else s

/-- A read of EVT_T_CLAIM (R391): in claim mode the lowest qualifying source is returned, its pending bit cleared and the source
marked active; in scan mode it reads 0 (R390). -/
def State.claim (s : State) (t : Nat) : Word × State :=
  if ! s.claimMode t then (0, s)
  else match s.lowestSource t with
    | none => (0, s)
    | some c =>
      let s1 := s.setBit (pendFld t c) false
      let s2 : State := { s1 with evt.active := mput s1.evt.active t (sadd (mgetD s1.evt.active t []) c) }
      (BitVec.ofNat 32 (c + 2 ^ 31), s2.refreshLevel t)

/-- Removes the active mark of a source. -/
def State.dropActive (s : State) (t c : Nat) : State :=
  { s with evt.active := mputD s.evt.active t [] (sdel (mgetD s.evt.active t []) c) }

/-- A write of EVT_T_DONE completes an active source; one that names a source not active is dropped and counted (R391, R393). -/
def State.eventDone (s : State) (t : Nat) (w : Word) : State :=
  let c := getBits w 0 10
  if s.srcActive t c then ((s.dropActive t c).resample t c).signalAgain t c
  else s.countRefused

/-- A target leaves claim mode: its active marks are dropped, and each active level source is re-sampled (R392, R393). -/
def State.leaveClaim (s : State) (t : Nat) : State :=
  (mgetD s.evt.active t []).foldl (fun s c => ((s.dropActive t c).resample t c).signalAgain t c) s

/-- The action of a write of EVT_T_CTL after the word is stored: `was` is whether claim mode was in force before (R392). -/
def State.scanWritten (s : State) (t : Nat) (was : Bool) : State :=
  if was && ! s.claimMode t then s.leaveClaim t else s

/-- The action of a write of a mask: sources that come to qualify are signalled, and levels follow (R388, R394). -/
def State.unmasked (s : State) (t : Nat) (old new : Word) (base : Nat) : State :=
  ((List.range 32).foldl (fun s k =>
    if getBit old k && ! getBit new k && s.qualifies t (base + k) then s.signal t (base + k) else s) s).refreshLevel t

/-- Pending bits written 1 are cleared (R390, R393). `code` is the source of bit 0 of the word. -/
def State.clearPending (s : State) (t : Nat) (w : Word) (code : Nat) : State :=
  (List.range 32).foldl (fun s k => if getBit w k then s.clearSource t (code + k) else s) s

/-- Shared pending bits written 1 are cleared, each at the target its source is routed to. -/
def State.clearShared (s : State) (w : Word) (k : Nat) : State :=
  (List.range 32).foldl (fun s j =>
    if getBit w j then s.clearSource (s.routeTarget (32 * k + j)) (sharedCode (32 * k + j)) else s) s

/-! ### Pins and routes (R384, R389) -/

/-- A pin of a pin source takes a new value that has held for `samples` samples (R389). It is accepted when that is at least FILT;
PERST_N of a group that is no host group never pends (Table 17-5). -/
def State.pinChange (s : State) (n : Nat) (low : Bool) (samples : Nat) : State :=
  let w := s.routeWord n
  if ! isPinSource n || decide (samples < getBits w 10 8) then s
  else
    let was := s.evt.pinsLow.contains n
    let s1 : State := { s with evt.pinsLow := if low then sadd s.evt.pinsLow n else sdel s.evt.pinsLow n }
    if was == low || (decide (32 ≤ n) && ! s.hostGroup (n - 32)) then s1
    else
      let hit := match getBits w 8 2 with
        | 0 => low
        | 1 => ! low
        | 2 => low
        | _ => true
      if hit then s1.raiseShared n else s1

def execPinSourceChange (source : Nat) (low : Bool) (samples : Nat) (s : State) : Host.Outcome State Fault Refusal :=
  s.done (s.pinChange source low samples)

/-- A route word takes effect (R384): the pending bit moves with the source, its active mark is dropped, and the new target is
signalled (Table 17-7 case 9). A pin that is asserted as a level pends from then on (R388). -/
def State.applyRoute (s : State) (n : Nat) (w : Word) : State :=
  let old := s.routeTarget n
  let s1 := s.dropActive old (sharedCode n)
  let was := s1.qualifies old (sharedCode n) && old == getBits w 0 8
  let s2 := State.resample { s1 with evt.routeF := rput s1.evt.routeF (EVT_SH_ROUTE n) (EVT_SH_ROUTE_TARGET n).rst w } (getBits w 0 8) (sharedCode n)
  let t := s2.routeTarget n
  if ! was && s2.qualifies t (sharedCode n) then (s2.signal t (sharedCode n)).refreshLevel old else s2.refreshLevel old

/-- A route word that was accepted takes effect; a target that has ceased to exist since is replaced by target 128 (R384). -/
def State.routeDue (s : State) (n : Nat) (w : Word) : State :=
  if s.targetExists (getBits w 0 8) then s.applyRoute n w
  else (s.setWord (EVT_SH_ROUTE n) (setBits (s.word (EVT_SH_ROUTE n)) 0 8 128)).applyRoute n (setBits w 0 8 128)

/-- Whether a route may be set to a word: the target exists in force, and SENSE is 0 for a source that is not a pin source (R384). -/
def State.routeOk (s : State) (n : Nat) (w : Word) : Bool :=
  s.targetExists (getBits w 0 8) && (isPinSource n || getBits w 8 2 == 0)

/-- Opcode 0x0A02 (R384): the route of a shared source takes a target and, for a pin source, a sense. -/
def execRouteEventSource (rq : Rq) (source target sense : Nat) (s : State) : Host.Outcome State Fault Refusal :=
  s.done (xib 0x0A02 rq (.routeEventSource rq source target sense) s fun _ s =>
    if 511 < source ∨ 255 < target ∨ 3 < sense then s.refuse .parameter
    else
      let w := setBits (setBits (s.word (EVT_SH_ROUTE source)) 0 8 target) 8 2 sense
      if s.routeOk source w then
        let eff := s.effFrame
        ((s.setWord (EVT_SH_ROUTE source) w).submit (some (rqRef rq 0x0A02)) (.route source w)).okAt eff
      else s.refuse .parameter)

/-- A target ceases to exist at a Daybreak: its private pending bits clear and every shared source routed to it reverts to target 128
(R383, R384). -/
def State.dropTarget (s : State) (t : Nat) : State :=
  let s1 := ((s.setFld (EVT_T_PEND_LO_PEND t) 0).setFld (EVT_T_PEND_HI_PEND t) 0)
  (List.range 512).foldl (fun s n =>
    if s.routeTarget n = t then
      let w := setBits (s.routeWord n) 0 8 128
      (s.setWord (EVT_SH_ROUTE n) (setBits (s.word (EVT_SH_ROUTE n)) 0 8 128)).applyRoute n w
    else s) s1

/-- The I3C bus controller assigns an address and enables in-band interrupts on a bus, or disables them; on enabling, pending
sources are signalled at the first signalling event (R395, R396). -/
def execI3cInterruptEnable (bus : Nat) (on : Bool) (s : State) : Host.Outcome State Fault Refusal :=
  s.done (if bus < 2 then { s with evt.ibi := if on then sadd s.evt.ibi bus else sdel s.evt.ibi bus } else s)

end Sys2Proof.Machine
end

