-- ==== Sys2Proof/Machine/Regions.lean ====
section
/-! DEFINITION. Look-ups over regions, bindings, extents and translation entries (chapter 7), and over key slots (chapter 9). -/
namespace Sys2Proof.Machine
open Sys2Proof

/-- The link state of a port. -/
def State.px (s : State) (p : Nat) : PortX := mgetD s.prt.px p {}

/-- Sets the link state of a port. -/
def State.setPx (s : State) (p : Nat) (x : PortX) : State := { s with prt.px := mputD s.prt.px p {} x }

/-- Whether binding b is valid in force. -/
def State.bndValid (s : State) (b : Nat) : Bool := s.curBit (BND_CFG_VALID b)

/-- The binding whose configuration register an address is. -/
def bndOfAddr (a : Nat) : Option Nat :=
  if 0x2000000 ≤ a ∧ a < 0x2100000 ∧ a % 0x100 = 0 then some ((a - 0x2000000) / 0x100) else none

/-- The binding whose block an address lies in. -/
def bndOfWord (a : Nat) : Option Nat := if 0x2000000 ≤ a ∧ a < 0x2100000 then some ((a - 0x2000000) / 0x100) else none

/-- The bindings valid in force, in order. -/
def State.bindings (s : State) : List Nat :=
  s.force.filterMap (fun e => match bndOfAddr e.1 with
    | some b => if getBit e.2 0 then some b else none
    | none => none)

/-- The host port of binding b in force. -/
def State.bndPort (s : State) (b : Nat) : Nat := s.cur (BND_CFG_HOST_PORT b)

/-- The region of binding b in force. -/
def State.bndRegion (s : State) (b : Nat) : Nat := s.cur (BND_REGION_REGION b)

/-- The region record of binding b in force. -/
def State.bndRec (s : State) (b : Nat) : Option Region := mget s.bnd.regions (s.bndRegion b)

/-- The home and list entry of a region homed on a peer, as its list gives it. -/
def State.remoteRegion (s : State) (g : Nat) : Option (Nat × RemRegion) :=
  s.grp.lists.findSome? (fun e => (e.2.find? (fun r => r.id == g)).map (fun r => (e.1, r)))

/-- The tenant and class of the region of a binding in force (R141): of its record, or of the copy of its peer's list (R431). -/
def State.bndOwner (s : State) (b : Nat) : Nat × Nat :=
  match s.bndRec b with
  | some r => (r.tenant, r.cls)
  | none => match s.remoteRegion (s.bndRegion b) with
    | some (_, r) => (r.tenant, r.cls)
    | none => (0, 0)

/-- The tenant of a binding. -/
def State.bndTenant (s : State) (b : Nat) : Nat := (s.bndOwner b).1

/-- The class of a binding's region. -/
def State.bndClass (s : State) (b : Nat) : Nat := (s.bndOwner b).2

/-- The valid bindings of a region. -/
def State.bindingsOf (s : State) (g : Nat) : List Nat := s.bindings.filter (fun b => s.bndRegion b == g)

/-- Whether a port is in the allowed-pool set of binding b in force. -/
def State.poolAllowed (s : State) (b p : Nat) : Bool := getBit (s.curWord (BND_POOLS b (p / 32))) (p % 32)

/-- Whether a port carries a binding that is Sealed (R63): as its host port, or as a pool port in its allowed-pool set. -/
def State.carriedBy (s : State) (b p : Nat) : Bool :=
  s.bndClass b == 2 && ((s.isHost p && s.bndPort b == p) || (s.isPool p && s.poolAllowed b p))

/-- Whether a port carries a Sealed binding (R63). -/
def State.carriesSealed (s : State) (p : Nat) : Bool := s.bindings.any (fun b => s.carriedBy b p)

/-- The staged copy of `poolAllowed`. -/
def State.poolStaged (s : State) (b p : Nat) : Bool := getBit (s.word (BND_POOLS b (p / 32))) (p % 32)

/-- The extents of a binding. -/
def State.extents (s : State) (b : Nat) : List Extent := mgetD s.bnd.ext b []

/-- Sets the extents of a binding. -/
def State.setExtents (s : State) (b : Nat) (l : List Extent) : State := { s with bnd.ext := mputD s.bnd.ext b [] l }

/-- Whether an extent maps accesses: accepted, or releasing until its removal. -/
def Extent.maps (e : Extent) : Bool := e.st == .accepted || (e.st == .releasing && e.add.isNone)

/-- The extent of a binding that maps a device address. -/
def State.extentAt (s : State) (b dpa : Nat) : Option Extent :=
  (s.extents b).find? (fun e => e.maps && decide (e.dpa ≤ dpa / 262144) && decide (dpa / 262144 < e.dpa + e.len))

/-- The translation entry of a table index. -/
def State.ttEntry (s : State) (i : Nat) : TtEntry := mgetD s.bnd.tt i { valid := false, moving := false, pool := 0, ppi := 0, gen := 0 }

/-- Writes a translation entry at a Daybreak step, and drops every cached copy of it (R149, R151). -/
def State.setTt (s : State) (i : Nat) (e : TtEntry) : State :=
  { s with
    bnd.tt := mputD s.bnd.tt i { valid := false, moving := false, pool := 0, ppi := 0, gen := 0 } e,
    bnd.tcache := sdel s.bnd.tcache i }

/-- The region and region parcel of a table index, among the regions of this switch. -/
def State.regionOfTt (s : State) (i : Nat) : Option (Nat × Nat) :=
  (s.bnd.regions.find? (fun e => decide (e.2.ttBase ≤ i) && decide (i < e.2.ttBase + e.2.size))).map (fun e => (e.1, i - e.2.ttBase))

/-- Whether a region is active. -/
def State.regionActive (s : State) (g : Nat) : Bool :=
  match mget s.bnd.regions g with
  | some r => ! r.deleting
  | none => false

/-- Whether any region exists whose state is active. -/
def State.anyActive (s : State) : Bool := s.bnd.regions.any (fun e => ! e.2.deleting)

/-- Whether any Confidential or Sealed region exists. -/
def State.anySecret (s : State) : Bool := s.bnd.regions.any (fun e => e.2.cls != 0)

/-- The active regions of a tenant (SEC_SLOT_t.REGIONS). -/
def State.tenantRegions (s : State) (t : Nat) : Nat :=
  (s.bnd.regions.filter (fun e => e.2.tenant == t && ! e.2.deleting)).length

/-- The state of a tenant's key slot (Table 9-3). -/
def State.slotState (s : State) (t : Nat) : SlotState :=
  match mget s.sec.slots t with
  | some k => k.st
  | none => .empty

/-- Whether an establish of a slot has been accepted and is not yet in force. -/
def State.establishing (s : State) (t : Nat) : Bool :=
  s.due.any (fun d => match d.act with
    | .establish u _ _ _ _ _ => u == t
    | _ => false)

/-- Whether every key slot is Empty and no establish is accepted (Table 13-8 case 1, Table 15-9 case 8). -/
def State.slotsEmpty (s : State) : Bool :=
  s.sec.slots.isEmpty && ! s.due.any (fun d => match d.act with
    | .establish _ _ _ _ _ _ => true
    | _ => false)

/-- Whether a parcel of a pool holds data of a Confidential or Sealed region (R218). -/
def State.secretParcel (s : State) (pool ppi : Nat) : Bool :=
  s.bnd.tt.any (fun e => e.2.valid && e.2.pool == pool && e.2.ppi == ppi &&
    (match s.regionOfTt e.1 with
      | some (g, _) => (match mget s.bnd.regions g with
        | some r => r.cls != 0
        | none => false)
      | none => false))

/-- EVAC_DONE: no binding is valid in force and no region whose home is this switch is active (R327). -/
def State.evacDone (s : State) : Bool := s.bindings.isEmpty && ! s.anyActive

/-- Whether any ISL index has EN = 1 in force (R333). -/
def State.anyIsl (s : State) : Bool := (List.range 8).any (fun i => s.curBit (ISL_CFG_EN i))

/-! ### Bridge windows in force (R267, R269) -/

/-- Whether window w is enabled in force. -/
def State.winOn (s : State) (w : Nat) : Bool := s.curBit (LWB_WIN_CFG_EN w)

/-- The binding of window w. -/
def State.winBnd (s : State) (w : Nat) : Nat := s.cur (LWB_WIN_CFG_BIND w)

/-- The downstream port of window w. -/
def State.winPort (s : State) (w : Nat) : Nat := s.cur (LWB_WIN_CFG_PORT w)

/-- The first byte of window w and the byte after its last, as device addresses of its binding. -/
def State.winRange (s : State) (w : Nat) : Nat × Nat :=
  (s.cur (LWB_WIN_BASE_BASE w) * 65536, (s.cur (LWB_WIN_BASE_BASE w) + s.cur (LWB_WIN_SIZE_SIZE w)) * 65536)

/-- The windows enabled in force. -/
def State.windows (s : State) : List Nat := (List.range 64).filter s.winOn

/-- The enabled window of a binding a device address lies in. -/
def State.windowAt (s : State) (b dpa : Nat) : Option Nat :=
  s.windows.find? (fun w => s.winBnd w == b && decide ((s.winRange w).1 ≤ dpa) && decide (dpa < (s.winRange w).2))

/-- Whether a range of device addresses of a binding overlaps an enabled window of it. -/
def State.overWindow (s : State) (b lo hi : Nat) : Bool :=
  s.windows.any (fun w => s.winBnd w == b && decide (lo < (s.winRange w).2) && decide ((s.winRange w).1 < hi))

/-- The enabled windows of a far port. -/
def State.windowsOf (s : State) (p : Nat) : List Nat := s.windows.filter (fun w => s.winPort w == p)

/-! ### Inter-switch links (chapter 5, R427, R428) -/

/-- The enabled ISL index of a port. -/
def State.islOf (s : State) (p : Nat) : Option Nat := (List.range 8).find? (fun i => s.curBit (ISL_CFG_EN i) && s.cur (ISL_CFG_PORT i) == p)

/-- An ISL's own record. -/
def State.islAt (s : State) (i : Nat) : Isl := mgetD s.isl i {}

/-- Sets an ISL's own record. -/
def State.setIsl (s : State) (i : Nat) (x : Isl) : State := { s with isl := mputD s.isl i {} x }

/-- The state of an ISL (Table 5-1). -/
def State.islSt (s : State) (i : Nat) : Nat := s.fld (ISL_STAT_STATE i)

/-- The peer an ISL leads to (GRP_PEER_m.ISLS, R427). -/
def State.peerOf (s : State) (i : Nat) : Option Nat := (List.range 8).find? (fun m => s.fld (GRP_PEER_ISLS m) / 2 ^ i % 2 == 1)

/-- Whether a peer may be talked to (R428): the same epoch, not expelled, the same host-slot map. -/
def State.peerOk (s : State) (m : Nat) : Bool :=
  s.fld (GRP_PEER_EP_EPOCH_SEEN m) == s.fld GRP_EPOCH_EPOCH && s.fld GRP_STAT_EXPEL / 2 ^ m % 2 == 0 && ! s.grp.mapDiff.contains m

/-- Whether an ISL carries group traffic (R428). -/
def State.carries (s : State) (i : Nat) : Bool :=
  (s.islSt i == 4 || s.islSt i == 5) && (match s.peerOf i with
    | some m => s.peerOk m
    | none => false)

/-- The payload slots of a cell: 14, or 13 under protection (R103). -/
def State.islSlots (s : State) (i : Nat) : Nat := if s.bit (ISL_STAT_PROT_ACTIVE i) then 13 else 14

/-- The slots of a message (R93): its header and its payload. -/
def msgSlots (m : Msg) : Nat := 1 + (m.len + 15) / 16

end Sys2Proof.Machine
end

