-- ==== Sys2Proof/Machine/Gates.lean ====
section
/-! DEFINITION. Access gates (R212 to R220): rule matching, locked ranges, the check of an access as a whole, violation records, and
the checks of a rule set. -/
namespace Sys2Proof.Machine
open Sys2Proof

/-- The debug initiator, the management complex, Oxbow and the tenant cryptography (Table 9-9). -/
def initDebug : Nat := 0x6000
def initMgmt : Nat := 0x4000
def initOxbow : Nat := 0x5000
def initCrypto : Nat := 0x7000

/-- The kinds of access a violation record names (GATE_VIO_STAT.KIND). -/
inductive GKind where
  | read | write | rmw | revoked
  deriving DecidableEq, Repr

/-- The code of a kind. -/
def GKind.code : GKind → Nat
  | .read => 0 | .write => 1 | .rmw => 2 | .revoked => 3

/-- The permissions an access needs, as the PERM bits (R214). -/
def GKind.perm : GKind → Nat
  | .read => 1 | .write => 2 | .rmw => 3 | .revoked => 3

/-- Whether a rule names an initiator: every bit of INIT under MASK agrees (Table 9-10). -/
def ruleNames (r : GRule) (i : Nat) : Bool := (Nat.land (Nat.xor r.init i) r.mask) == 0

/-- Whether a rule is malformed: bounds off a 4 KiB granule or in the wrong order, or a reserved bit set (Table 9-10). -/
def ruleMalformed (r : GRule) : Bool :=
  r.base % 4096 != 0 || r.fin % 4096 != 0 || decide (r.fin ≤ r.base) || decide (4 ≤ r.perm) || r.rest != 0

/-- Whether two rules overlap: their ranges intersect and some initiator matches both (R213). -/
def ruleOverlaps (a b : GRule) : Bool :=
  decide (a.base < b.fin) && decide (b.base < a.fin) && (Nat.land (Nat.land (Nat.xor a.init b.init) a.mask) b.mask) == 0

/-- Whether some two rules of a set overlap. -/
def rulesOverlap (l : List GRule) : Bool :=
  match l with
  | [] => false
  | r :: t => t.any (ruleOverlaps r) || rulesOverlap t

/-- Whether a rule set may be committed: no malformed rule and no overlap (R213). -/
def rulesOk (l : List GRule) : Bool := l.all (fun r => ! ruleMalformed r) && ! rulesOverlap l

/-- The first byte of an access, from `a` on, that no rule grants; none where the access ends first (R214). -/
def firstUncovered (l : List GRule) (i perm fin : Nat) (a : Nat) : Nat → Option Nat
  | 0 => some a
  | n + 1 =>
    if fin ≤ a then none
    else match l.find? (fun r => ruleNames r i && decide (r.base ≤ a) && decide (a < r.fin) && Nat.land r.perm perm == perm) with
      | some r => firstUncovered l i perm fin r.fin n
      | none => some a

/-- The gate of a register address (R212, second table). -/
def gateOfReg (a : Nat) : Nat :=
  if a ≤ 0xFFFF then 128 else if a ≤ 0x1FFFF then 129 else if a ≤ 0x2FFFF then 130 else if a ≤ 0x3FFFF then 131
  else if a ≤ 0x7FFFF then 132 else if a ≤ 0x8FFFF then 133 else if a ≤ 0x9FFFF then 134 else if a ≤ 0xFFFFF then 135
  else if a ≤ 0x1FFFFF then 136 else if a ≤ 0x2FFFFF then 137 else if a ≤ 0x3FFFFF then 138 else if a ≤ 0x4FFFFF then 139
  else if a ≤ 0x5FFFFF then 140 else if a ≤ 0x6FFFFF then 141
  else if 0x1000000 ≤ a ∧ a ≤ 0x17FFFFF then 142 + (a - 0x1000000) / 0x200000
  else if 0x1800000 ≤ a ∧ a ≤ 0x19FFFFF then 146 + (a - 0x1800000) / 0x80000
  else if a < 0x2080000 then 150 else 151

/-- Whether gate g is in force: a port's gate only while its role is downstream (R212). -/
def State.gateEnabled (s : State) (g : Nat) : Bool :=
  s.curBit (GATE_CTL_EN g) && (decide (128 ≤ g) || s.role g == 2)

/-- The offset of the first byte of an access that lies in a locked range (R218): a whole partition that is not the initiator's, or,
for the debug initiator at a pool, a parcel of a Confidential or Sealed region. -/
def State.lockedAt (s : State) (g i start len : Nat) : Option Nat :=
  if g = 170 then (if i = initCrypto then none else some 0)
  else if g = 171 then (if i = initOxbow ∨ (0x8000 ≤ i ∧ i ≤ 0x800F) then none else some 0)
  else if g = 172 then (if 0x8000 ≤ i ∧ i ≤ 0x800F then none else some 0)
  else if g < 128 ∧ i = initDebug then
    let lo := start / 262144
    let n := (start + len - 1) / 262144 - lo + 1
    match (List.range n).find? (fun k => s.secretParcel g (lo + k)) with
    | some k => some ((lo + k) * 262144 - start)
    | none => none
  else none

/-- What a gate says of an access. -/
inductive GateRes where
  | allow
  | refuse (ofs : Nat)
  | locked (ofs : Nat)
  deriving DecidableEq, Repr

/-- The evaluation of an access of `len` bytes at `start` by initiator `i` (R214): locked ranges first, then a disabled gate allows,
then every byte must lie in a rule that names the initiator and grants the access. -/
def State.gateEval (s : State) (g i : Nat) (k : GKind) (start len : Nat) : GateRes :=
  match s.lockedAt g i start len with
  | some o => .locked o
  | none =>
    if ! s.gateEnabled g then .allow
    else
      let l := mgetD s.sec.rules g []
      match firstUncovered l i k.perm (start + len) start (l.length + 1) with
      | some a => .refuse (a - start)
      | none => .allow

/-- Records a violation at a gate: the first is kept, later ones are counted until VALID is cleared (R216); the first raises shared
source 302. -/
def State.recordVio (s : State) (g i : Nat) (k : GKind) (start len ofs : Nat) (lockd : Bool) : State :=
  if s.bit (GATE_VIO_STAT_VALID g) then s.inc (GATE_VIO_STAT_VIO_CNT g)
  else
    let s1 := (((s.setBit (GATE_VIO_STAT_VALID g) true).setBit (GATE_VIO_STAT_LOCKED g) lockd).setFld (GATE_VIO_STAT_KIND g) k.code).setFld
      (GATE_VIO_INIT_INIT g) i
    let s2 := ((s1.setFld64 (GATE_VIO_ADDR_LO_ADDR g) (GATE_VIO_ADDR_HI_ADDR g) start).setFld (GATE_VIO_OFS_OFS g) ofs).setFld
      (GATE_VIO_LEN_LEN g) (satTo 32 len)
    (s2.setFld64 (GATE_VIO_FRM_LO_FRAME g) (GATE_VIO_FRM_HI_FRAME g) s.time.frame).raiseShared 302

/-- A gate checks an access as a whole (R215); a refusal is recorded. -/
def State.gateCheck (s : State) (g i : Nat) (k : GKind) (start len : Nat) : GateRes × State :=
  match s.gateEval g i k start len with
  | .allow => (.allow, s)
  | .refuse o => (.refuse o, s.recordVio g i k start len o false)
  | .locked o => (.locked o, s.recordVio g i k start len o true)

/-- The first-violation record and VIO_CNT of a gate clear when VALID is written 1 (R216). -/
def State.clearVio (s : State) (g : Nat) : State :=
  let s1 := ((s.setFld (GATE_VIO_STAT_VALID g) 0).setFld (GATE_VIO_STAT_LOCKED g) 0).setFld (GATE_VIO_STAT_KIND g) 0
  let s2 := ((s1.setFld (GATE_VIO_STAT_VIO_CNT g) 0).setFld (GATE_VIO_INIT_INIT g) 0).setFld64 (GATE_VIO_ADDR_LO_ADDR g) (GATE_VIO_ADDR_HI_ADDR g) 0
  ((s2.setFld (GATE_VIO_OFS_OFS g) 0).setFld (GATE_VIO_LEN_LEN g) 0).setFld64 (GATE_VIO_FRM_LO_FRAME g) (GATE_VIO_FRM_HI_FRAME g) 0

/-- A gate rechecks its rules in force (R213): CHECKS rises, and an overlap in live rules is an uncontained fault. -/
def execGateRuleRecheck (g : Nat) (s : State) : Host.Outcome State Fault Refusal :=
  s.done (if 176 ≤ g then s else
    let s1 := s.setFld (GATE_HEALTH_CHECKS g) (s.fld (GATE_HEALTH_CHECKS g) + 1)
    if rulesOverlap (mgetD s.sec.rules g []) then (s1.setBit (GATE_HEALTH_OVERLAP g) true).reportCode 0x0502 g none 0 else s1)

/-- Whether only the owner controls a gate: register blocks and Reservoir partitions (GATE_CTL). -/
def gateOwnerOnly (g : Nat) : Bool := (decide (128 ≤ g) && decide (g ≤ 151)) || decide (168 ≤ g)

/-- The staged rule set of a gate: what has been staged, else the set in force (R472). -/
def State.stagedRules (s : State) (g : Nat) : List (Option GRule) :=
  match mget s.sec.gstage g with
  | some l => l
  | none => (mgetD s.sec.rules g []).map some

/-- Stores rules at positions first, first + 1, … of a list. -/
def storeAt (l : List (Option GRule)) (i : Nat) (rs : List GRule) : List (Option GRule) :=
  match rs with
  | [] => l
  | r :: t => storeAt (l.set i (some r)) (i + 1) t

/-- Opcode 0x0406 (R472): stages a piece of a gate's rule set. -/
def execLoadGateRules (rq : Rq) (g total firstPos count : Nat) (rules : List GRule) (s : State) : Host.Outcome State Fault Refusal :=
  s.done (xib 0x0406 rq (.loadGateRules rq g total firstPos count rules) s fun p s =>
    s.staging rq fun s =>
      if 176 ≤ g then s.refuse .parameter
      else if gateOwnerOnly g ∧ p ≠ .owner then s.refuse .permission
      else if 256 < total ∨ 170 < count then s.refuse .tooLarge
      else if rules.length ≠ count ∨ total < firstPos + count ∨ (total = 0 ∧ firstPos ≠ 0) ∨ (total ≠ 0 ∧ count = 0) then s.refuse .parameter
      else
        let cur := s.stagedRules g
        let base := if cur.length = total then cur else List.replicate total none
        State.okNow { s with sec.gstage := mput s.sec.gstage g (storeAt base firstPos rules) })

/-- Opcode 0x0407 (R191): stages a consent token; in Evacuate it is refused (R327). -/
def execConsent (rq : Rq) (tok : Consent) (s : State) : Host.Outcome State Fault Refusal :=
  s.done (xib 0x0407 rq (.consent rq tok) s fun _ s =>
    s.staging rq fun s =>
      if s.md.mode = .evacuate then s.refuse .state
      else State.okNow { s with sec.consents := s.sec.consents ++ [tok] })

end Sys2Proof.Machine
end

