-- ==== Sys2Proof/Machine/Identity.lean ====
section
/-! DEFINITION. Identity, sessions, tokens and lifecycle: the opcodes of group 0x01 and the SPDM requests (chapters 13 and 14). -/
namespace Sys2Proof.Machine
open Sys2Proof

/-! ### Registers of the identity as words -/

/-- GLB_LC_STAT as a word (R303). -/
def State.lcStat (s : State) : Nat :=
  s.ident.life.code + (if s.ident.cfgLock then 8 else 0) + (if s.ident.due.isSome then 16 else 0) +
    (if s.ident.lcFault then 32 else 0) + s.ident.fuses * 2 ^ 8

/-- GLB_ID as a word. -/
def State.idWord (s : State) : Nat := s.ident.vendorId + s.ident.deviceId * 2 ^ 16

/-- GLB_STEP as a word. -/
def State.stepWord (s : State) : Nat := s.ident.stepNum + s.ident.stepLetter * 2 ^ 4

/-- Opcode 0x0100 (R289): identity, stepping, digest, lifecycle, personality and running SVN. -/
def execGetIdentity (rq : Rq) (s : State) : Host.Outcome State Fault Refusal :=
  s.done (xib 0x0100 rq (.getIdentity rq) s fun _ s =>
    s.readAns [(4, s.idWord), (4, s.stepWord), (48, s.ident.digest), (4, s.lcStat), (1, s.fld TWL_PERS_LEVEL), (1, s.ident.runSvn)])

/-! ### Sessions (R307 to R309) -/

/-- How many sessions count against the limit of 256: Xiboni sessions and SPDM sessions (R291, R307). -/
def State.sessionLoad (s : State) : Nat := s.mbx.sess.length + s.mbx.spdm.length

/-- A session number not in use: which one is free (log entry 3). -/
def State.pickSession (s : State) : Nat × State :=
  let (v, s1) := s.draw
  let c := (List.range 300).map (fun i => (v + i) % 65535 + 1)
  ((c.find? (fun n => (mget s1.mbx.sess n).isNone)).getD 0, s1)

/-- Whether the lifecycle lets an owner, fabric managers and tenants act (Table 13-3). -/
def State.ownerActs (s : State) : Bool := s.ident.life == .ownerOpen || s.ident.life == .owned || s.ident.lcFault

/-- The index of a fabric manager key digest (R295). -/
def State.fmIndex (s : State) (k : Nat) : Option Nat := (List.range 4).find? (fun i => s.ident.fmKeys.getD i 0 == k && k != 0)

/-- The tenant whose slot recorded a verifier key (R193). -/
def State.tenantOfKey (s : State) (k : Nat) : Option Nat := (s.sec.slots.find? (fun e => e.2.verifier == k)).map (fun e => e.1)

/-- The principal of a privileged session, by the requester's certificate key (Table 14-3). -/
def State.keyPrincipal (s : State) (x : Spdm) : Principal :=
  if s.ownerActs && s.ident.owner != 0 && x.key == s.ident.owner then .owner
  else if x.briral && (s.ident.life == .blank || s.ident.life == .vendorTest) then .vendor
  else match (if s.ownerActs then s.fmIndex x.key else none) with
    | some i => .fm i
    | none => match (if s.ident.life == .owned then s.tenantOfKey x.key else none) with
      | some t => .tenant t
      | none => .candidate x.key

/-- Whether the signer of a token is allowed for its type in the current lifecycle state (Tables 13-3 and 13-4). -/
def State.signerOk (s : State) (t : Token) : Bool :=
  match t.type with
  | 1 => t.byVendor && s.ident.life == .blank
  | 2 => ! t.byVendor && s.ownerActs
  | 3 => ! t.byVendor && (s.ident.life == .ownerOpen || s.ident.life == .owned)
  | 4 => t.byVendor && s.ident.life == .vendorTest
  | 5 => ! t.byVendor && s.ownerActs
  | 6 => ! t.byVendor && (s.ident.life == .ownerOpen || s.ident.life == .owned)
  | _ => false

/-- The checks of R299: device, nonce, signer, signature, reserved fields. -/
def State.tokenOk (s : State) (t : Token) : Bool :=
  t.version == 1 && t.device == s.ident.digest && mget s.ident.nonces t.type == some t.nonce && s.signerOk t && t.sigOk && t.resvZero

/-- A token is refused: its nonce is consumed and TOK_REJ counts (R299). -/
def State.rejectToken (s : State) (t : Token) : State :=
  { s.inc GLB_TOK_STAT_TOK_REJ with ident.nonces := mdel s.ident.nonces t.type }

/-- A token is accepted: its nonce is used up and TOK_OK counts. -/
def State.acceptToken (s : State) (t : Token) : State :=
  { s.inc GLB_TOK_STAT_TOK_OK with ident.nonces := mdel s.ident.nonces t.type }

/-- Opens a session and answers its number, first sequence, principal and scope. The code of the principal byte is its Who mask (log entry 22). -/
def State.openSession (s : State) (kind : SessKind) (rq : Rq) (p : Principal) (spdm key scope : Nat) (tok : Option Token) : Ans :=
  let (n, s1) := s.pickSession
  let (v, s2) := s1.draw
  let q := v % 2 ^ 32
  let x : Session := {
    kind := kind, route := rq.route, eid := rq.eid, prin := p, spdm := spdm, key := key, firstSeq := q, last := none, stored := none, fails := 0,
    aead := packetKey ((mget s.mbx.spdm spdm).elim 0 (fun d => d.secret)) n }
  let s3 : State := { s2 with mbx.sess := mput s2.mbx.sess n x }
  let s4 : State := match tok with
    | some t => { s3 with
        md.dbg := some { sess := n, scope := t.scope, vendorTok := t.byVendor, last := if t.lifetime = 0 then 0 else s3.time.frame + t.lifetime },
        ident.dbgTokens := s3.ident.dbgTokens + 1 }
    | none => s3
  { st := s4, status := .success, frame := s.time.frame, data := [(2, n), (4, q), (1, p.mask), (8, scope)] }

/-- Opcode 0x0101 (R307, R337): opens a host, privileged or debug session. -/
def execOpenSession (rq : Rq) (kind spdm : Nat) (tok : Token) (s : State) : Host.Outcome State Fault Refusal :=
  s.done (xib 0x0101 rq (.openSession rq kind spdm tok) s fun _ s =>
    if 256 ≤ s.sessionLoad then s.refuse .busy
    else match kind with
      | 0 => if s.isHost rq.route then s.openSession .host rq (.host rq.route) 0 0 0 none else s.refuse .parameter
      | 1 => match mget s.mbx.spdm spdm with
        | some x =>
          if x.route = rq.route ∧ x.mutualAuth then s.openSession .privileged rq (s.keyPrincipal x) spdm x.key 0 none
          else s.refuse .parameter
        | none => s.refuse .parameter
      | 2 => match mget s.mbx.spdm spdm with
        | some x =>
          if x.route ≠ rq.route then s.refuse .parameter
          else if s.md.dbg.isSome then s.refuse .busy
          else if (tok.type = 3 ∨ tok.type = 4) ∧ tok.scope < 2 ^ 7 ∧ s.tokenOk tok then
            (s.acceptToken tok).openSession .debug rq .debugger spdm x.key tok.scope (some tok)
          else (s.rejectToken tok).refuse .token
        | none => s.refuse .parameter
      | _ => s.refuse .parameter)

/-- Opcode 0x0102 (R307): closes the session it arrives in. -/
def execCloseSession (rq : Rq) (s : State) : Host.Outcome State Fault Refusal :=
  s.done (xib 0x0102 rq (.closeSession rq) s fun _ s => (s.closeSession rq.sess).okNow)

/-- Opcode 0x0103 (R319): attaches the function's BAR, an MCTP endpoint or the endpoint's CCI to the session. A source another session
has attached is busy (log entry 23). -/
def execAttach (rq : Rq) (source eid : Nat) (s : State) : Host.Outcome State Fault Refusal :=
  s.done (xib 0x0103 rq (.attach rq source eid) s fun _ s =>
    if 2 < source ∨ (source ≠ 1 ∧ 128 < rq.route) then s.refuse .parameter
    else
      let same := fun (a : Attach) => a.source == source && a.route == rq.route && (source != 1 || a.eid == eid)
      if s.mbx.attach.any (fun a => same a && a.sess != rq.sess) then s.refuse .busy
      else State.okNow { s with
        mbx.attach := s.mbx.attach.filter (fun a => ! same a) ++ [{ source := source, route := rq.route, eid := eid, sess := rq.sess }] })

/-- The routes SPDM reaches the X512 through (R291): DOE on the management functions, and MCTP over PCIe VDM, I3C0 and I3C1. -/
def State.spdmRoute (s : State) (r : Nat) : Bool := s.isHost r || (decide (128 ≤ r) && decide (r ≤ 131))

/-- An SPDM KEY_EXCHANGE and FINISH open an SPDM session with an export master secret (R308), which counts against the 256 (R291); one more is not opened. -/
def execSpdmKeyExchange (n route eid : Nat) (mutualAuth : Bool) (key secret : Nat) (briral : Bool) (s : State) : Host.Outcome State Fault Refusal :=
  s.done (if s.md.boot = .up ∧ s.sec.wsReady ∧ s.spdmRoute route ∧ s.sessionLoad < 256 ∧ (mget s.mbx.spdm n).isNone then
      ({ s with mbx.spdm := mput s.mbx.spdm n { route := route, eid := eid, mutualAuth := mutualAuth, key := key, secret := secret, briral := briral } } : State).emit (.spdm n true)
    else s.emit (.spdm n false))

/-- An SPDM session ends, and the Xiboni session over it closes with it (R308). -/
def State.endSpdm (s : State) (n : Nat) : State :=
  let s1 := s.closeSessions (fun _ x => x.kind != .host && x.spdm == n)
  { s1 with mbx.spdm := mdel s1.mbx.spdm n }

def execSpdmEndSession (n : Nat) (s : State) : Host.Outcome State Fault Refusal := s.done (s.endSpdm n)

/-! ### Tokens and lifecycle (R295 to R300) -/

/-- Opcode 0x0104 (R299): a fresh nonce for a token type; its value is free (log entry 3). -/
def execTokenNonce (rq : Rq) (type : Nat) (s : State) : Host.Outcome State Fault Refusal :=
  s.done (xib 0x0104 rq (.tokenNonce rq type) s fun _ s =>
    if type ≠ 0x20 ∧ (type = 0 ∨ 6 < type) then s.refuse .parameter
    else
      let (v, s1) := s.draw
      let n := v % 2 ^ 256
      let s2 : State := { s1 with ident.nonces := mput s1.ident.nonces type n }
      s2.readAns [(32, n)])

/-- Starts a lifecycle transition (R297): the record is written with PENDING, the fuse burnt, and the new state is due at the next
Daybreak. -/
def State.startTransition (s : State) (target : Lifecycle) (owner : Nat) : State :=
  let f := if target = .retired then s.ident.fuses else s.ident.fuses + 1
  { s.journalIn 1 f with
    ident.record := { target := target, count := f, pend := true, ok := true, prev := s.ident.life },
    ident.fuses := f, ident.retiredFuse := s.ident.retiredFuse || target == .retired,
    ident.due := some { target := target, eff := s.nextFrame, owner := owner } }

/-- A lifecycle request whose authority has been checked: busy while a transition is under way, refused with the state status when the
fuses allow only Retired (R297). -/
def State.transition (s : State) (target : Lifecycle) (owner : Nat) : Ans :=
  if s.ident.due.isSome then s.refuse .busy
  else if 255 ≤ s.ident.fuses ∧ target ≠ .retired then s.refuse .state
  else (s.startTransition target owner).okAt s.nextFrame

/-- The precondition of a token's transition (Table 13-4): the status that refuses it, or none. -/
def State.tokenPrecondition (s : State) (t : Token) : Option Status :=
  match t.type with
  | 6 => if s.slotsEmpty && ! s.anySecret then none else some .busy
  | 2 => if s.md.mode = .standby then none else some .state
  | 5 => if s.md.mode = .standby then none else some .state
  | _ => none

/-- The state a token leads to (Table 13-4). -/
def tokenTarget (type : Nat) : Option Lifecycle :=
  match type with
  | 1 => some .vendorTest | 2 => some .blank | 5 => some .retired | 6 => some .ownerOpen | _ => none

/-- Opcode 0x0105 (R299): a token is checked and acted on. A debug token presented here is accepted and measured, and opens nothing
(log entry 24). -/
def execPresentToken (rq : Rq) (tok : Token) (s : State) : Host.Outcome State Fault Refusal :=
  s.done (xib 0x0105 rq (.presentToken rq tok) s fun _ s =>
    if ! s.tokenOk tok then (s.rejectToken tok).refuse .token
    else match tokenTarget tok.type with
      | none => State.okAt { s.acceptToken tok with ident.dbgTokens := s.ident.dbgTokens + 1 } s.nextFrame
      | some t => match s.tokenPrecondition tok with
        | some c => s.refuse c
        | none =>
          let a := s.transition t (if tok.type = 6 then tok.arg else 0)
          if a.status = .success then { a with st := a.st.acceptToken tok } else a)

/-- Opcode 0x0106 (R296, R466): an owner claims a Blank part over the management endpoint or an I3C bus. -/
def execOwnerClaim (rq : Rq) (key : Nat) (s : State) : Host.Outcome State Fault Refusal :=
  s.done (xib 0x0106 rq (.ownerClaim rq key) s fun _ s =>
    if rq.route ≠ 128 ∧ rq.route ≠ 130 ∧ rq.route ≠ 131 then s.refuse .permission
    else if s.ident.life ≠ .blank ∨ ¬ (s.md.mode = .standby ∨ s.md.mode = .bringUp ∨ s.md.mode = .provisioning) then s.refuse .state
    else s.transition .ownerOpen (Config.digest [key]))

/-- Opcode 0x0107 (R296, R300): Owned, Owner-open, or the configuration lock. -/
def execOwnerSetting (rq : Rq) (action : Nat) (s : State) : Host.Outcome State Fault Refusal :=
  s.done (xib 0x0107 rq (.ownerSetting rq action) s fun _ s =>
    match action with
    | 0 => if s.ident.life = .ownerOpen then s.transition .owned s.ident.owner else s.refuse .state
    | 1 =>
      if s.ident.life ≠ .owned then s.refuse .state
      else if s.slotsEmpty && ! s.anySecret then s.transition .ownerOpen s.ident.owner else s.refuse .busy
    | 2 => if s.ident.life = .owned then State.okAt { s with ident.lockDue := some (true, s.nextFrame) } s.nextFrame else s.refuse .state
    | 3 => if s.ident.life = .owned then State.okAt { s with ident.lockDue := some (false, s.nextFrame) } s.nextFrame else s.refuse .state
    | _ => s.refuse .parameter)

/-- Opcode 0x0108 (R295): installs a fabric manager key digest; a removal, or a digest that replaces another, takes effect at the next
Daybreak and closes the old key's sessions. -/
def execFabricManagerKey (rq : Rq) (index digest : Nat) (s : State) : Host.Outcome State Fault Refusal :=
  s.done (xib 0x0108 rq (.fabricManagerKey rq index digest) s fun _ s =>
    if 3 < index then s.refuse .parameter
    else if s.ident.life ≠ .ownerOpen ∧ s.ident.life ≠ .owned then s.refuse .state
    else if s.ident.fmKeys.getD index 0 = 0 then State.okNow { s with ident.fmKeys := s.ident.fmKeys.set index digest }
    else (s.submitNext (.fmKey index digest)).okAt s.nextFrame)

/-- The action of a fabric manager key change at its Daybreak (R295). -/
def State.applyFmKey (s : State) (index digest : Nat) : State :=
  let s1 := s.closeSessions (fun _ x => x.prin == .fm index)
  { s1 with ident.fmKeys := s1.ident.fmKeys.set index digest }

/-- The vendor's lifecycle command in a vendor session (Table 13-4): Vendor test back to Blank, or a Blank part retired in Standby. -/
def execVendorLifecycleCommand (rq : Rq) (retire : Bool) (s : State) : Host.Outcome State Fault Refusal :=
  s.done (xib 0x10000 rq (.vendorLifecycleCommand rq retire) s fun _ s =>
    if retire then
      if s.ident.life = .blank ∧ s.md.mode = .standby then s.transition .retired 0 else s.refuse .state
    else if s.ident.life = .vendorTest then s.transition .blank 0 else s.refuse .state)

/-- Every session of the owner and the fabric managers closes: their keys have been zeroised (Table 13-4, log entry 25). -/
def State.dropOwners (s : State) : State :=
  s.closeSessions (fun _ x => match x.prin with
    | .owner => true
    | .fm _ => true
    | _ => false)

/-- What a transition zeroises of the owner's state: owner key, fabric manager keys, the slot 1 certificate, and the owner's journal record, the
personality configuration (Table 13-4). -/
def State.zeroOwner (s : State) : State :=
  let s1 := s.dropOwners.setBit TWL_PERS_CFG_VALID false
  { s1 with ident.owner := 0, ident.fmKeys := [0, 0, 0, 0], ident.slot1 := 0, twl.pers := none }

/-- What a return, a retirement or a vendor-test exit zeroises of the data plane: key slots, Reservoir and SRAM content (Table 13-4). -/
def State.zeroMemory (s : State) : State :=
  { s with
    sec.slots := [], sec.nonces := [], sec.leaves := [], sec.macs := [], sec.nodes := [], sec.roots := [],
    bnd.tt := [], bnd.tcache := [], bnd.log := [], rsv := [] }

/-- A lifecycle transition is completed (R296, R297, R300): the zeroisation of Table 13-4 is performed, PENDING clears, and a transition out of Owned
clears the configuration lock. -/
def State.lifecycleNow (s : State) : State :=
  match s.ident.due with
  | none => s
  | some d =>
    let prev := s.ident.life
    let s1 : State :=
      if d.target = .ownerOpen ∧ prev = .blank then { s with ident.owner := d.owner }
      else if d.target = .ownerOpen ∧ d.owner ≠ s.ident.owner then
        let z := s.zeroOwner
        { z with ident.owner := d.owner }
      else if d.target = .blank ∧ prev = .vendorTest then { s.zeroMemory.setBit TWL_PERS_CFG_VALID false with flt.journal := [], flt.selfJrn := 0, twl.jq := [], ident.board := 0, twl.pers := none }
      else if d.target = .blank then s.zeroOwner.zeroMemory
      else if d.target = .retired then
        let z := s.zeroOwner.zeroMemory
        { z with ident.seedKeys := false }
      else s
    { s1 with
      ident.life := d.target, ident.due := none, ident.lcFault := false,
      ident.record := { s1.ident.record with pend := false },
      ident.cfgLock := s1.ident.cfgLock && d.target == .owned,
      ident.lockDue := if d.target = .owned then s1.ident.lockDue else none }

/-- A transition takes effect at its Daybreak, with an event. -/
def State.applyLifecycle (s : State) : State := if s.ident.due.isSome then s.lifecycleNow.raiseShared 300 else s

/-- A lock or unlock of the configuration takes effect (R300). -/
def State.applyLock (s : State) : State :=
  match s.ident.lockDue with
  | some (v, _) => { s with ident.cfgLock := v, ident.lockDue := none }
  | none => s

/-- Whether writes of LK fields are dropped: the lock is in force, or its command has been accepted (R300, Table 13-8 case 6). -/
def State.lkLocked (s : State) : Bool :=
  match s.ident.lockDue with
  | some (true, _) => true
  | _ => s.ident.cfgLock

/-- SPDM SET_CERTIFICATE (R290): slot 1 only, in an owner session, for a leaf that certifies the identity key. -/
def execSetCertificate (spdm slot chain : Nat) (certifies : Bool) (s : State) : Host.Outcome State Fault Refusal :=
  s.done (match mget s.mbx.spdm spdm with
    | some x =>
      if slot = 1 ∧ certifies ∧ x.mutualAuth ∧ s.ident.owner ≠ 0 ∧ x.key = s.ident.owner then
        ({ s with ident.slot1 := chain } : State).emit (.spdm spdm true)
      else s.emit (.spdm spdm false)
    | none => s.emit (.spdm spdm false))

/-! ### Measurements (R292) -/

/-- The registers measurement 5 covers beside the LK fields: Sealed-capable pools, gate enables and link protection (Table 13-2). -/
def measuredReg (d : RegDef) : Bool :=
  match d.reg with
  | .SEC_POOL_CAP => true
  | .GATE_CTL => true
  | .PRT_IDE_CTL => true
  | .ISL_CFG => true
  | _ => d.fields.any (fun f => f.lk)

/-- The measured bits of a word: every SH or LK field of a measured register, except that of ISL_CFG only PROT_EN. -/
def measuredMask (d : RegDef) : Word :=
  d.fields.foldl (fun m f =>
    if (f.lk || (f.sh && d.reg != .PRT_CFG && d.reg != .ISL_CFG)) then m ||| fieldMask f.lsb f.width else m) 0

/-- The measured words of a register file that are not at their reset value. -/
def measuredWords (m : RegFile) (sh : Bool) : NMap Nat :=
  m.filterMap (fun e => match lookupReg e.1 with
    | some (d, _) =>
      if measuredReg d && (d.shMask != 0) == sh then
        let v := (e.2 &&& measuredMask d).toNat
        if v = d.rst % 2 ^ 32 then none else some (e.1, v)
      else none
    | none => none)

/-- A gate's rule set as one number, for measurement 5. -/
def rulesNumber (l : List GRule) : Nat :=
  l.foldl (fun n r => ((((n * 2 ^ 64 + r.base) * 2 ^ 64 + r.fin) * 2 ^ 16 + r.init) * 2 ^ 16 + r.mask) * 4 + r.perm) 1

/-- The configuration content of measurement 5, in ascending address order: the measured words in force, and each gate's rule set after its GATE_CTL. -/
def State.configContent (s : State) : NMap Nat :=
  s.sec.rules.foldl (fun m e => mput m (GATE_CTL e.1 + 1) (rulesNumber e.2))
    ((measuredWords s.regs false).foldl (fun m e => mput m e.1 e.2) (measuredWords s.force true))

/-- The contents of measurements 2, 3, 4 and 6 (Table 13-2). -/
def State.measContent (s : State) : List (List Nat) :=
  [[s.ident.runDigest, s.ident.runSvn], [s.fld TWL_PERS_LEVEL, s.ident.straps, s.ident.persDigest], [s.lcStat % 2 ^ 16],
    [s.ident.dbgTokens, if s.md.dbg.isSome then 1 else 0]]

/-- At a Daybreak the measurements take the contents in force (R292). -/
def State.measure (s : State) : State := { s with ident.meas := s.measContent, ident.measCfg := s.configContent }

/-- The digest a measurement reports (Table 13-2): index 1 is the boot ROM's. -/
def State.measurement (s : State) (i : Nat) : Nat :=
  match i with
  | 1 => Config.digest [1]
  | 2 => Config.digest (2 :: s.ident.meas.getD 0 [])
  | 3 => Config.digest (3 :: s.ident.meas.getD 1 [])
  | 4 => Config.digest (4 :: s.ident.meas.getD 2 [])
  | 5 => Config.digest (5 :: s.ident.measCfg.flatMap (fun e => [e.1, e.2]))
  | _ => Config.digest (6 :: s.ident.meas.getD 3 [])

/-- A measurements request over an SPDM session (R292): the digests asked for (an index, or 0xFF for all), with the frame in force. -/
def execGetMeasurements (spdm index : Nat) (s : State) : Host.Outcome State Fault Refusal :=
  s.done (if s.md.boot = .up ∧ s.sec.wsReady then
      let l := if index = 0xFF then [1, 2, 3, 4, 5, 6] else if 1 ≤ index ∧ index ≤ 6 then [index] else []
      s.emit (.measurements spdm s.time.frame (l.map (fun i => (i, s.measurement i))))
    else s)

end Sys2Proof.Machine
end

