-- ==== Sys2Proof/Machine/Modes.lean ====
section
/-! DEFINITION. Mode and power-state requests, the staging lock's opcodes, reset requests, long-command status, the TAP, debug
scope and the hardware events of chapters 15 and 21. -/
namespace Sys2Proof.Machine
open Sys2Proof

/-! ### Mode requests (R324) -/

/-- Whether the conditions of Bring-up hold: a valid running image, not Retired, no lifecycle fault, PWRGD_CORE asserted (Table 15-2). -/
def State.bringUpOk (s : State) : Bool :=
  s.ident.runDigest != 0 && s.ident.life != .retired && ! s.ident.lcFault && s.md.pwrgdCore

/-- What the table of transitions says of a request: the principals that may make it, the condition and the status that refuses it;
none where the table does not list it (Table 15-2). -/
def State.modeRow (s : State) (target : Mode) (force : Bool) : Option (Nat × Option Status) :=
  let m := s.md.mode
  let serving := m == .service || m == .degraded
  let ownerLife := s.ident.life == .ownerOpen || s.ident.life == .owned
  let vendorBit := if s.ident.life = .vendorTest then 16 else 0
  let ownerBit := if ownerLife then 1 else 0
  match target with
  | .standby =>
    if force then (if m = .standby ∨ m = .quarantine then none else some (1, none))
    else if m = .evacuate then some (1, if s.evacDone then none else some .busy)
    else none
  | .bringUp => if m = .standby then some (1, if s.bringUpOk then none else some .state) else none
  | .provisioning =>
    if serving then some (1, if s.slotsEmpty && ! s.anySecret then none else some .busy)
    else if m = .diagnostic then some (1 + vendorBit, none)
    else none
  | .service =>
    if m = .provisioning then some (3, if ownerLife then none else some .state)
    else if m = .evacuate then some (3, none)
    else none
  | .evacuate => if serving then some (3, none) else none
  | .diagnostic =>
    if m = .provisioning ∨ serving ∨ m = .evacuate then
      some (ownerBit + vendorBit, if s.slotsEmpty && ! s.anyActive then none else some .busy)
    else none
  | .degraded => none
  | .quarantine => none

/-- Checks a mode request (R324, R336): the status that refuses it, or the target. Table 15-2 lists FORCE with Standby only. A listed request of a principal the table does not
name for it is refused with the permission status (log entry 26). -/
def State.modeCheck (s : State) (p : Principal) (code : Nat) (force : Bool) : Except Status Mode :=
  match Mode.ofCode code with
  | none => .error .parameter
  | some t =>
    if t = .degraded ∨ t = .quarantine then .error .parameter
    else if s.md.mode = .quarantine then .error .state
    else match (if force && t != .standby then none else s.modeRow t force) with
      | none => .error .state
      | some (who, cond) =>
        if ! p.isIn who then .error .permission
        else if s.md.modeReq.isSome then .error .busy
        else match cond with
          | some c => .error c
          | none => .ok t

/-- Accepts a mode request for the Daybreak R36 gives. -/
def State.acceptMode (s : State) (t : Mode) (force : Bool) (ref : Option Ref) : State :=
  { s with md.modeReq := some { target := t, eff := s.effFrame, ref := ref, forced := force } }

/-- Opcode 0x0200 (R323). -/
def execGetMode (rq : Rq) (s : State) : Host.Outcome State Fault Refusal :=
  s.done (xib 0x0200 rq (.getMode rq) s fun _ s =>
    s.readAns [(1, s.md.mode.code), (1, s.md.power.code), (1, s.ident.life.code)])

/-- Opcode 0x0201 (R324): the mode byte carries the target in bits [3:0] and FORCE in bit 7. -/
def execSetMode (rq : Rq) (byte : Nat) (s : State) : Host.Outcome State Fault Refusal :=
  s.done (xib 0x0201 rq (.setMode rq byte) s fun p s =>
    let force := byte / 128 % 2 == 1
    match s.modeCheck p (byte % 16) force with
    | .error c => s.refuse c
    | .ok t => (s.acceptMode t force (some (rqRef rq 0x0201))).okAt s.effFrame)

/-! ### Power requests (R331 to R334) -/

/-- Whether a named-frame commit, a gate-list takeover or a frame-length change is pending (R333). -/
def State.namedPending (s : State) : Bool := s.due.any (fun d => d.named)

/-- Checks a power-state request (R331, R333). -/
def State.powerCheck (s : State) (p : Principal) (code : Nat) : Except Status Power :=
  match code with
  | 0 | 1 | 2 =>
    let t : Power := if code = 0 then .full else if code = 1 then .economy else .hold
    if s.md.mode = .standby then .error .state
    else if s.md.mode = .quarantine ∧ p ≠ .owner then .error .state
    else if s.md.pwrReq.isSome then .error .busy
    else if t = .hold then
      if s.namedPending then .error .busy
      else if s.anyIsl then .error .state
      else .ok .hold
    else .ok t
  | _ => .error .parameter

/-- Accepts a power-state request. In Hold, a request for Full or Economy is a wake cause and completes at the resume Daybreak
(R334); otherwise it takes effect under R36. -/
def State.acceptPower (s : State) (t : Power) (ref : Option Ref) : State :=
  if s.inHold ∧ t ≠ .hold then
    let s1 := s.wake (some t)
    { s1 with md.pwrReq := if s1.inHold then some { target := t, eff := 0, ref := ref } else none }
  else { s with md.pwrReq := some { target := t, eff := s.effFrame, ref := ref } }

/-- Opcode 0x0202 (R331). In Hold the reply is sent at the resume Daybreak, whose frame it carries (log entry 27). -/
def execSetPowerState (rq : Rq) (code : Nat) (s : State) : Host.Outcome State Fault Refusal :=
  s.done (xib 0x0202 rq (.setPowerState rq code) s fun p s =>
    match s.powerCheck p code with
    | .error c => s.refuse c
    | .ok t =>
      let s1 := s.acceptPower t (some (rqRef rq 0x0202))
      if s.inHold ∧ t ≠ .hold ∧ s1.md.pwrReq.isSome then { s1.okAt 0 with later := true } else s1.okAt s.effFrame)

/-- The action of GLB_MODE_REQ.MREQ (R324): the request its fields hold, for the writing principal. -/
def State.modeReqWrite (s : State) (p : Principal) : State :=
  match s.modeCheck p (s.fld GLB_MODE_REQ_MODE) (s.bit GLB_MODE_REQ_FORCE) with
  | .error _ => s.setBit GLB_MODE_REQ_REFUSED true
  | .ok t => s.acceptMode t (s.bit GLB_MODE_REQ_FORCE) none

/-- The action of GLB_MODE_REQ.PREQ (R331). -/
def State.powerReqWrite (s : State) (p : Principal) : State :=
  match s.powerCheck p (s.fld GLB_MODE_REQ_PWR) with
  | .error _ => s.setBit GLB_MODE_REQ_REFUSED true
  | .ok t => s.acceptPower t none

/-- A wake cause in Hold (R334). -/
def execHoldWake (s : State) : Host.Outcome State Fault Refusal := s.done (s.wake none)

/-- The data plane is ready after a wake cause: it resumes at the next Daybreak (R334). -/
def execHoldResumeReady (s : State) : Host.Outcome State Fault Refusal :=
  s.done (match s.md.hold with
    | .waking t at_ => { s with md.hold := .ready t at_ }
    | _ => s)

/-! ### The staging lock's opcodes (R313) -/

/-- Opcode 0x0203. -/
def execStageBegin (rq : Rq) (s : State) : Host.Outcome State Fault Refusal :=
  s.done (xib 0x0203 rq (.stageBegin rq) s fun _ s => s.staging rq fun s => s.okNow)

/-- Opcode 0x0205, for the lock holder alone. -/
def execDiscard (rq : Rq) (s : State) : Host.Outcome State Fault Refusal :=
  s.done (xib 0x0205 rq (.discard rq) s fun _ s =>
    if s.mbx.lock = some rq.sess then (s.releaseLock rq.sess).okNow else s.refuse .permission)

/-! ### Reset requests (R320, R343 to R347) -/

/-- A management reset is requested for the next Daybreak; a second request before it adds nothing (R454). -/
def State.requestMrst (s : State) (cause : Nat) : State :=
  if s.md.mrst.isSome then s else { s with md.mrst := some cause, md.mrstAt := s.nextFrame }

/-- A port reset is requested (R346). -/
def State.requestPortRst (s : State) (p : Nat) : State := { s with md.portRst := sadd s.md.portRst p }

/-- Opcode 0x0206, scope 1. A port that does not exist is refused with the parameter status; a host agent with the permission status. -/
def execResetPort (rq : Rq) (port : Nat) (s : State) : Host.Outcome State Fault Refusal :=
  s.done (xib 0x0206 rq (.resetPort rq port) s fun p s =>
    if ! p.isOF then s.refuse .permission
    else if 128 ≤ port ∨ ! s.formed port then s.refuse .parameter
    else if s.md.mode = .quarantine then s.refuse .state
    else if s.dataOff then s.refuse .dataPlane
    else (s.requestPortRst port).okAt s.nextFrame)

/-- Opcode 0x0206, scope 2: answered before the Daybreak it takes effect at. -/
def execResetManagement (rq : Rq) (s : State) : Host.Outcome State Fault Refusal :=
  s.done (xib 0x0206 rq (.resetManagement rq) s fun p s =>
    if ! p.isOF then s.refuse .permission
    else if s.md.mode = .quarantine then s.refuse .state
    else (s.requestMrst 2).okAt s.nextFrame)

/-- Opcode 0x0206, scope 3, for the owner. -/
def execResetWarm (rq : Rq) (s : State) : Host.Outcome State Fault Refusal :=
  s.done (xib 0x0206 rq (.resetWarm rq) s fun p s =>
    if p ≠ .owner then s.refuse .permission else State.okAt { s with md.warmDue := true } s.nextFrame)

/-- Opcode 0x0206, scope 4, for the owner. -/
def execResetCold (rq : Rq) (s : State) : Host.Outcome State Fault Refusal :=
  s.done (xib 0x0206 rq (.resetCold rq) s fun p s =>
    if p ≠ .owner then s.refuse .permission else State.okAt { s with md.coldDue := true } s.nextFrame)

/-- MGMT_RST_N has been low for a number of consecutive samples: 25 or more act, unless RESET_N is low (R454, Table 21-7 case 2). -/
def execMgmtRstNLow (samples : Nat) (s : State) : Host.Outcome State Fault Refusal :=
  s.done (if 25 ≤ samples ∧ ! s.md.resetLow ∧ s.md.boot = .up then s.requestMrst 3 else s)

/-- Every event target that exists. -/
def State.targets (s : State) : List Nat := s.hostTargets ++ [128, 129, 130, 131]

/-- After a management or warm reset the interpreter accepts commands again (R320): READY sets, WD_EXP clears in the same cycle (R380),
and after a management reset private source 8 is raised in every bank. -/
def execInterpreterReady (s : State) : Host.Outcome State Fault Refusal :=
  s.done (if s.md.restart = 0 then s else
    let s1 := (s.setBit MBX_STAT_READY true).setBit FLT_STAT_WD_EXP false
    let s2 : State := { s1 with md.restart := 0 }
    if s.md.restart = 1 then s2.raiseAll s2.targets 8 else s2)

/-! ### Long commands (R316, R317) -/

/-- Whether a session may read or abort a long command: owner and fabric manager any, others their own (R317). -/
def lcVisible (p : Principal) (sess : Nat) (l : Lc) : Bool := p.isOF || (l.prin == p && l.ref.sess == sess)

/-- Opcode 0x0207: state, final status and end frame of a handle. -/
def execCommandStatus (rq : Rq) (handle : Nat) (s : State) : Host.Outcome State Fault Refusal :=
  s.done (xib 0x0207 rq (.commandStatus rq handle) s fun p s =>
    match s.lcOf handle with
    | none => s.refuse .parameter
    | some (_, l) =>
      if lcVisible p rq.sess l then s.readAns [(1, l.st.code), (2, l.status.code), (8, l.endFrame)] else s.refuse .permission)

/-- A long command completes with success or failure, and raises the command-complete event in its issuer's bank (R316). -/
def execLongCommandComplete (handle : Nat) (ok : Bool) (s : State) : Host.Outcome State Fault Refusal :=
  s.done (s.lcEnd handle (if ok then .success else .failed))

/-! ### Debug scope and the TAP (R338 to R341) -/

/-- The debug mask of the mode in force: seven bits of Table 15-6; in Vendor test, every bit except in Standby (R339). -/
def State.debugMask (s : State) : Nat :=
  if s.ident.life = .vendorTest ∧ s.md.mode ≠ .standby then 0x7F
  else match s.md.mode with
    | .standby => 0x01
    | .bringUp => 0x01
    | .provisioning => 0x4F
    | .service => 0x41
    | .degraded => 0x41
    | .evacuate => 0x41
    | .quarantine => 0x45
    | .diagnostic => 0x7F

/-- The effective scope of the debug session (R339), as GLB_DBG_STAT.EFF holds it since the last Daybreak or opening. -/
def State.debugEff (s : State) : Nat :=
  match s.md.dbg with
  | some d => Nat.land d.scope s.debugMask
  | none => 0

/-- The debug session closes when its last frame has passed (R337). -/
def State.debugExpire (s : State) : State :=
  match s.md.dbg with
  | some d => if d.last ≠ 0 ∧ d.last < s.time.frame then s.closeSession d.sess else s
  | none => s

def execDebugLifetimeExpiry (s : State) : Host.Outcome State Fault Refusal := s.done s.debugExpire

/-- Whether the TAP accepts an instruction (R341). -/
def State.tapAccepts (s : State) (i : TapInstr) : Bool :=
  match i with
  | .bypass => true
  | .idcode => true
  | .sample => true
  | .extest => s.md.mode == .standby || s.ident.life == .vendorTest
  | .ac1149 => s.md.mode == .standby || s.ident.life == .vendorTest
  | .priv => s.debugEff / 2 ^ 5 % 2 == 1

/-- A TAP instruction is selected, or BYPASS in its place (R341). -/
def execTapInstruction (i : TapInstr) (s : State) : Host.Outcome State Fault Refusal :=
  s.done { s with md.tap := if s.tapAccepts i then i else .bypass }

/-- TRST_N resets the TAP alone (R341); the instruction it selects is that of the TAP standard (log entry 28). -/
def execTrst (s : State) : Host.Outcome State Fault Refusal := s.done { s with md.tap := .idcode }

/-! ### Hardware events -/

/-- A thermal sensor reads a temperature in °C: at 115 or more the tile clocks are gated and THERMTRIP_N is latched (R462). -/
def execThermtrip (celsius : Nat) (s : State) : Host.Outcome State Fault Refusal :=
  s.done (if celsius < 115 then s
    else ({ s with md.clkGated := true, md.thermtrip := true } : State).emit (.thermtrip true))

/-- The timebase PLL loses lock: an uncontained fault (R32). -/
def execTimebasePllLossOfLock (s : State) : Host.Outcome State Fault Refusal :=
  s.done (State.reportCode { s with time.pllLocked := false } 0x0701 0 none 0)

/-- The standby management pair fails: STANDBY_PAIR sets and record 0x0705 is made (R326, Table 17-2). -/
def execStandbyPairFailure (s : State) : Host.Outcome State Fault Refusal :=
  s.done (((s.setDeg GLB_DEG_STANDBY_PAIR true).setBit TWL_FW_STANDBY_READY false).reportCode 0x0705 0 none 0)

/-- A Xiboni request whose opcode or version the part does not know (R318, R305): the unsupported status. -/
def execUnsupportedOpcode (rq : Rq) (op : Nat) (s : State) : Host.Outcome State Fault Refusal :=
  s.done (xib op rq (.unsupportedOpcode rq op) s fun _ s => s.refuse .unsupported)

end Sys2Proof.Machine
end

