-- ==== Sys2Proof/Machine/Frame.lean ====
section
/-! DEFINITION. Frame, Daybreak and alignment (chapter 2): named frames, frame length, and the freeze of the Dusk
window. -/
namespace Sys2Proof.Machine
open Sys2Proof

/-- The ticks of a frame of a length code (R33, FRM_LEN). -/
def frameTicks (code : Nat) : Nat := 512 * 2 ^ (code % 4)

/-- The tick at which the Dusk window of this frame begins: its last 64 ticks (R33, R44). -/
def State.duskTick (s : State) : Nat := s.time.len - 64

/-- A frame as a commit names it (R39): too far ahead is a bad parameter, and one whose preceding frame is in its Dusk window or over is
too late. -/
def State.namedRefusal (s : State) (f : Nat) : Option Status :=
  if s.time.frame + 2 ^ 32 < f then some .parameter
  else if f ≤ s.time.frame then some .tooLate
  else if f = s.time.frame + 1 ∧ s.time.dusk then some .tooLate
  else none

/-- Whether this switch is a follower that is not Locked (R46). -/
def State.unaligned (s : State) : Bool := s.fld FRM_SYNC_CTL_ROLE == 2 && s.time.sync.phase != .locked

/-- What refuses a commit that names a frame, with its group-wide flag (R39, R46). -/
def State.namedGroupRefusal (s : State) (f : Nat) (group : Bool) : Option Status :=
  if group && s.unaligned then some .notAligned else s.namedRefusal f

/-- A frame-length change is pending (FRM_LEN.PEND). -/
def State.lenPending (s : State) : Bool :=
  s.due.any (fun d => match d.act with
    | .frameLen _ => true
    | _ => false)

/-- The action of FRM_LEN.ARM (R39, R42): NEW and the named frame are submitted; a frame R39 refuses has no effect, and a register opcode that writes it is
answered with the refusal (`State.armRefusal`). -/
def State.armLength (s : State) : State :=
  let f := s.fld64 FRM_LEN_AT_LO_AT FRM_LEN_AT_HI_AT
  match s.namedRefusal f with
  | some _ => s
  | none => s.addDue { eff := f, named := true, group := false, frozen := false, handle := none, ref := none, act := .frameLen (s.fld FRM_LEN_NEW) }

/-- Freezes what is due at the next Daybreak; its long commands pass their commit point (R37). -/
def State.freeze (s : State) : State :=
  let hit := s.due.filter (fun d => decide (d.eff ≤ s.nextFrame))
  let s1 : State := { s with due := s.due.map (fun d => if d.eff ≤ s.nextFrame then { d with frozen := true } else d) }
  hit.foldl (fun s d => match d.handle with
    | some h => s.lcPast h
    | none => s) s1

/-- Whether an accepted commit carries a register's word. -/
def Due.carries (d : Due) (a : Nat) : Bool :=
  match d.act with
  | .stage words _ _ => words.any (fun e => e.1 == a)
  | _ => false

/-- A commit that has left the accepted ones without taking effect leaves no staged value behind: each of its words reads as the value in force
again, unless another commit carries it or a write is staged there. -/
def State.dropCargo (s : State) (d : Due) : State :=
  match d.act with
  | .stage words _ _ => words.foldl (fun s e => if s.dirty.contains e.1 || s.due.any (fun x => x.carries e.1) then s else s.revertWord e.1) s
  | _ => s

/-- Cancels an accepted effect: its issuer learns the status, through its long command or a second reply (log entry 12). -/
def State.cancelDue (s : State) (d : Due) (st : Status) : State :=
  ((s.dropCargo d).lcEndOpt d.handle st).answerAgain d.ref st

/-- Cancels every accepted effect a test picks. -/
def State.cancelAll (s : State) (pick : Due → Bool) (st : Status) : State :=
  let hit := s.due.filter pick
  hit.foldl (fun s d => s.cancelDue d st) { s with due := s.due.filter (fun d => ! pick d) }

end Sys2Proof.Machine
end

