-- ==== Sys2Proof/Machine/Crossbar.lean ====
section
/-! DEFINITION. The switch core (chapter 6): message classes, virtual output queues, answers for ports that are down, arbitration and
the output watchdog. -/
namespace Sys2Proof

/-- The message class of a kind (Table 6-3). -/
def MsgKind.cls : MsgKind → Nat
  | .ioReq => 3 | .ioPosted => 1 | .ioCpl => 1 | .ioLk => 3 | .ioUnlock => 1
  | .mem o => if o.isRwd && o.snp == .noOp then 1 else 3
  | .biRsp _ _ => 1 | .biConflict => 1 | .undeliv => 1
  | .ndr _ => 0 | .drs _ => 0 | .bisnp _ => 2
  | .poolRd => 1 | .poolWr => 1 | .poolRsp => 0
  | .h2dReq => 2 | .h2dRsp => 0 | .d2hReq => 3 | .d2hRsp => 1
  | .bulkReq => 3 | .bulkCpl => 0 | .mgmt => 0

/-- Whether a message carries a CXL.mem write. -/
def MsgKind.memWrites (k : MsgKind) : Bool :=
  match k with
  | .mem o => o.kind == .wr
  | _ => false

/-- Whether a kind is CXL.io traffic. -/
def MsgKind.isIo : MsgKind → Bool
  | .ioReq => true | .ioPosted => true | .ioCpl => true | .ioLk => true | .ioUnlock => true | _ => false

/-- Whether a message is forwarded by this block as CXL.mem or CXL.cache traffic. -/
def MsgKind.isCm (k : MsgKind) : Bool := ! k.isIo && k != .mgmt && k != .bulkReq && k != .bulkCpl

end Sys2Proof

namespace Sys2Proof.Machine
open Sys2Proof

/-! ### Binding faults (R152) -/

/-- The counters of a binding (Table 7-4). -/
inductive BCnt where
  | unmapped | poisoned | wrDisc | roWr | no
  deriving DecidableEq, Repr

/-- Counts in a binding. -/
def State.bndCount (s : State) (b : Nat) (c : BCnt) : State :=
  match c with
  | .unmapped => s.inc (BND_ERR_CNT0_UNMAPPED b)
  | .poisoned => s.inc (BND_ERR_CNT0_POISONED b)
  | .wrDisc => s.inc (BND_ERR_CNT1_WR_DISC b)
  | .roWr => s.inc (BND_ERR_CNT1_RO_WR b)
  | .no => s

/-- A fault of Table 7-4 in a binding: the first sets the record and raises private source 4 of its host port (Table 17-6), and the
collector gets code 0x0301 with the code in DETAIL. -/
def State.bindFault (s : State) (b code parcel dpa detail : Nat) (c : BCnt) : State :=
  let s1 := s.bndCount b c
  let s2 := if s1.bit (BND_ERR_STAT_VALID b) then s1 else
    ((((s1.setBit (BND_ERR_STAT_VALID b) true).setFld (BND_ERR_STAT_CODE b) code).setFld (BND_ERR_PARCEL_PARCEL b) parcel).setFld64
      (BND_ERR_DPA_LO_DPA b) (BND_ERR_DPA_HI_DPA b) dpa).raisePrivate (s1.bndPort b) 4
  s2.reportCode 0x0301 b (some parcel) detail

/-- Clearing the first-fault record clears its code, parcel and address (BND_ERR_STAT.VALID). -/
def State.clearBindRec (s : State) (b : Nat) : State :=
  (((s.setBit (BND_ERR_STAT_VALID b) false).setFld (BND_ERR_STAT_CODE b) 0).setFld (BND_ERR_PARCEL_PARCEL b) 0).setFld64
    (BND_ERR_DPA_LO_DPA b) (BND_ERR_DPA_HI_DPA b) 0

/-- The region parcel of a line ID in the region of a binding. -/
def State.parcelOfLine (s : State) (b line : Nat) : Nat :=
  match s.bndRec b with
  | some r => line / 4096 - r.ttBase
  | none => 0

/-! ### Messages (R115 to R122) -/

/-- All-ones line data (Table 3-5). -/
def allOnes : Nat := 2 ^ 512 - 1

/-- Whether a port blocks a protocol for want of a secure stream (R62). -/
def State.ideBlocked (s : State) (p : Nat) (m : Msg) : Bool :=
  ! m.key && ((m.kind.isIo && s.ioBlocked p) || (m.kind.isCm && s.cmBlocked p))

/-- Whether a port has no CXL.cache and CXL.mem for a message, its link having trained with CXL.io only (R52, R55). An ISL carries every kind. -/
def State.ioOnly (s : State) (p : Nat) (m : Msg) : Bool := m.kind.isCm && s.role p != 3 && ! s.bit (PRT_LINK_STAT_CXL p)

/-- Whether a port forwards a message's protocol (R52, R62). -/
def State.carriesKind (s : State) (p : Nat) (m : Msg) : Bool := ! s.ideBlocked p m && ! s.ioOnly p m

/-- Whether a port takes a message now: its link is up and it forwards the message's protocol (R135). -/
def State.takes (s : State) (p : Nat) (m : Msg) : Bool := s.linkUp p && s.carriesKind p m

/-- The key of a virtual output queue. -/
def voqKey (src dst cls : Nat) : Nat := (src * 256 + dst) * 4 + cls

/-- The messages of a virtual output queue, oldest first. -/
def State.voq (s : State) (src dst cls : Nat) : List Msg := mgetD s.xbr.voq (voqKey src dst cls) []

/-- Sets a virtual output queue. -/
def State.setVoq (s : State) (k : Nat) (l : List Msg) : State := { s with xbr.voq := mputD s.xbr.voq k [] l }

/-- Puts a message at the end of its queue, and notes its place in the order of all that are queued (R122). -/
def State.push (s : State) (m : Msg) : State :=
  State.setVoq { s with xbr.serial := s.xbr.serial + 1 } (voqKey m.src m.dst m.kind.cls)
    (s.voq m.src m.dst m.kind.cls ++ [{ m with ord := s.xbr.serial }])

/-- Counts an answered message at a port (R134). -/
def State.answered (s : State) (p : Nat) : State := s.inc (XBR_PFLUSH_ANSWERED p)

/-- Counts a discarded message at a port (R134). -/
def State.discarded (s : State) (p : Nat) : State := s.inc (XBR_PFLUSH_DISCARDED p)

/-- Poisoned all-ones read data (Table 3-5). -/
def lostData (a : Msg) (c : Nat) : Msg := { a with kind := .drs c, data := allOnes, poison := true }

/-- The completion of a CXL.mem request that reaches no memory (Table 3-5, R471); none for a writeback. -/
def memAnswer (k : HKind) (a : Msg) : Option Msg :=
  match k with
  | .rdCur => some (lostData a 0)
  | .rdShared => some (lostData a 1)
  | .rdOwn => some (lostData a 2)
  | .own => some { a with kind := .ndr 2 }
  | .wr => some a
  | .ce => some a
  | .wb _ => none
  | .proto rd => some (if rd then lostData a 0 else a)

/-- The answer to a message whose port cannot take it (Table 6-5, cases 4 and 5, R471); none for a message that gets none. -/
def answerTo (m : Msg) : Option Msg :=
  let a : Msg := { src := m.dst, dst := m.src, kind := .ndr 0, bnd := m.bnd, tag := m.tag, line := m.line, tc := m.tc }
  match m.kind with
  | .ioReq => some { a with kind := .ioCpl, data := allOnes, ca := true }
  | .ioLk => some { a with kind := .ioCpl, data := allOnes, ca := true }
  | .mem o => memAnswer o.kind a
  | .h2dReq => some { a with kind := .d2hRsp, data := allOnes, poison := true }
  | .d2hReq => some { a with kind := .h2dRsp, data := allOnes, poison := true }
  | _ => none

/-- A message that is answered or discarded for want of a port counts the write it loses in its binding (Table 3-5, Table 6-5 case 6). -/
def State.lossCounted (s : State) (m : Msg) : State :=
  if m.kind.cls = 1 ∨ m.kind.memWrites then match m.bnd with
    | some b => s.bndCount b .wrDisc
    | none => s
  else s

/-- Sends a message that needs no answer: queued, or discarded at a port that cannot take it (Table 6-5, cases 6 and 8). -/
def State.sendQuiet (s : State) (m : Msg) : State :=
  if m.dst < 128 ∧ ! s.takes m.dst m then s.discarded m.dst else s.push m

/-- Handles a message for a port that cannot take it (Table 6-5, cases 4 to 8). Snoops and pool accesses are the home's to handle first. -/
def State.bounce (s : State) (m : Msg) : State :=
  match answerTo m with
  | some a => ((s.answered m.dst).lossCounted m).sendQuiet a
  | none =>
    match m.kind with
    | .bisnp k => (s.answered m.dst).sendQuiet { src := m.dst, dst := m.src, kind := .undeliv, tag := m.tag, line := m.line, len := k }
    | _ => (s.discarded m.dst).lossCounted m

/-- Sends a message: queued for its target, or handled as Table 6-5 states where its port cannot take it. -/
def State.send (s : State) (m : Msg) : State :=
  if m.dst < 128 ∧ ! s.takes m.dst m then s.bounce m else s.push m

/-! ### Ingress buffers (R125, R126) -/

/-- The lanes of a port under the bifurcation in force (R48). -/
def State.lanesOf (s : State) (p : Nat) : Nat :=
  match s.cur (PRT_CFG_BIF (p / 4 * 4)) with
  | 0 => 16
  | 1 => 8
  | _ => 4

/-- The cells of a port's ingress buffer (R125): 512 per lane. -/
def State.portCells (s : State) (p : Nat) : Nat := 512 * s.lanesOf p

/-- The reservation of a class in force, in cells. -/
def State.reserved (s : State) (p c : Nat) : Nat := 16 * getBits (s.curWord (XBR_PBUF p)) (8 * c) 8

/-- Every message waiting at a source. -/
def State.waitingAt (s : State) (p : Nat) : List Msg :=
  (s.xbr.voq.filter (fun e => e.1 / 1024 == p)).flatMap (fun e => e.2)

/-- Cells of a class in use in its reservation. -/
def cellsReserved (l : List Msg) (c : Nat) : Nat :=
  (l.filter (fun m => m.kind.cls == c)).foldl (fun n m => n + (m.cells - m.shr)) 0

/-- Cells in use in the shared pool. -/
def cellsShared (l : List Msg) : Nat := l.foldl (fun n m => n + m.shr) 0

/-- The cells of a port's shared pool in force (R125). -/
def State.poolCells (s : State) (p : Nat) : Nat :=
  s.portCells p - (s.reserved p 0 + s.reserved p 1 + s.reserved p 2 + s.reserved p 3)

/-- Whether a class holds more reserved cells than a commit has left it (Table 6-6 case 5): it gets no more until they are fewer. -/
def State.overFull (s : State) (p c : Nat) : Bool := decide (s.reserved p c < cellsReserved (s.waitingAt p) c)

/-- The shared cells a message takes on entry, if there is room for it (R125, R126). -/
def State.roomFor (s : State) (m : Msg) : Option Nat :=
  let l := s.waitingAt m.src
  let c := m.kind.cls
  let sh := m.cells - (s.reserved m.src c - cellsReserved l c)
  if s.overFull m.src c then none
  else if sh = 0 ∨ (cellsShared l + sh ≤ s.poolCells m.src ∧ cellsShared (s.voq m.src m.dst c) + sh ≤ s.cur XBR_CFG_VOQ_MAX) then some sh
  else none

/-- The largest number of shared cells that one VOQ of a class holds at a port. -/
def State.fullestVoq (s : State) (p c : Nat) : Nat :=
  (s.xbr.voq.filter (fun e => e.1 / 1024 == p && e.1 % 4 == c)).foldl (fun n e => max n (cellsShared e.2)) 0

/-- The cells a partner may still fill in a class, whatever target it sends to (R126). -/
def State.freeCells (s : State) (p c : Nat) : Nat :=
  let l := s.waitingAt p
  if s.overFull p c then 0
  else s.reserved p c - cellsReserved l c + min (s.poolCells p - cellsShared l) (s.cur XBR_CFG_VOQ_MAX - s.fullestVoq p c)

/-- The cells of the largest message a partner may send: a 4 KiB TLP with its header (log entry 184). -/
def largestCells : Nat := 33

/-- Brings the link credits of a class of a host or downstream port to what its buffer can hold (R126); in Hold and until the resume they are withheld
(R333, R334). -/
def State.syncCredit (s : State) (p c : Nat) : State :=
  let open_ := ! s.inHold && decide (largestCells ≤ s.freeCells p c)
  if (s.role p ≠ 1 ∧ s.role p ≠ 2) ∨ s.xbr.noCredit.contains (p * 4 + c) != open_ then s
  else ({ s with xbr.noCredit := if open_ then sdel s.xbr.noCredit (p * 4 + c) else sadd s.xbr.noCredit (p * 4 + c) } : State).emit (.credit p c open_)

/-- Brings the link credits of every class of a port to what its buffer can hold. -/
def State.syncCredits (s : State) (p : Nat) : State := if p < 128 then [0, 1, 2, 3].foldl (fun s c => s.syncCredit p c) s else s

/-- Brings the link credits of every port to what its buffers can hold. -/
def State.syncAll (s : State) : State := (List.range 128).foldl State.syncCredits s

/-! ### Symbol errors and tails (R12, R26, R116 to R120) -/

/-- Reports a data error of a message: contained, in its binding, or in the port it came from when it is bound to none (Table 17-2). -/
def State.dataError (s : State) (m : Msg) : State :=
  match m.bnd with
  | some b => s.reportCode 0x0102 b none 0
  | none => s.report { cls := .contained, scope := 1, id := m.src, code := 0x0102 }

/-- Corrected symbols are counted, as a correctable fault (R12, R26). -/
def State.corrected (s : State) (n : Nat) : State :=
  if n = 0 then s else (s.addSat XBR_CORR_CORR n).report { cls := .correctable, scope := 0, id := 0, code := 0x0101 }

/-- A message whose header holds an uncorrectable symbol is discarded whole (R120). -/
def State.headerLost (s : State) : State := (s.inc XBR_ERR_HDR_UE).reportCode 0x0103 0 none 0

/-- A message's data holds an uncorrectable symbol (R119). -/
def State.dataLost (s : State) (m : Msg) : State := (s.inc XBR_ERR_DATA_UE).dataError m

/-- The messages of a queue with their tails arrived, poisoned where the tail is bad (R119). -/
def tailIn (l : List Msg) (bad : Bool) : List Msg :=
  l.map (fun m => if m.whole then m else { m with whole := true, poison := m.poison || bad })

/-- Whether a list of messages holds one whose tail has not arrived. -/
def openIn (l : List Msg) : Bool := l.any (fun m => ! m.whole)

/-- The virtual downstream port a TLP between a host and a device has passed through. -/
def State.vdpPassed (s : State) (m : Msg) : Option Nat :=
  let at_ := fun (h q : Nat) => (s.prt.vdp.find? (fun e => e.1 / 128 == h && (match e.2.hold with
    | .phys p _ => p == q
    | _ => false))).map (fun e => e.1)
  if s.isHost m.src then at_ m.src m.dst else if s.isHost m.dst then at_ m.dst m.src else none

/-- A TLP whose header has left a port is found bad (Table 6-2): the rest goes as all-ones, the virtual port it passed logs an AER Uncorrectable Internal
Error with its header, and a contained fault is recorded. -/
def State.restLost (s : State) (o : Nat) (x : Msg) : State :=
  let s1 := (s.inc (XBR_PSTAT_POISON_CNT o)).emit (.onesRest o { x with data := allOnes })
  let s2 := match s1.vdpPassed x with
    | some k => s1.emit (.vdp (k / 128) (k % 128) 3 x.addr)
    | none => s1
  match x.bnd with
  | some b => s2.reportCode 0x0102 b none 0
  | none => s2.report { cls := .contained, scope := 1, id := o, code := 0x0102 }

/-- The tail of the message that holds output o has passed (R119): what is left of it on the port's link, in an ISL's cells or in the egress buffer is
whole, and poisoned where the tail is bad. -/
def State.tailOut (s : State) (o cls : Nat) (bad : Bool) : State :=
  match mget s.xbr.inflight o with
  | some x =>
    let s1 : State := { s with xbr.inflight := mdel s.xbr.inflight o }
    if bad then s1.restLost o x else s1
  | none =>
    match (s.islOf o).map (fun i => (i, s.islAt i)) with
    | some (i, x) =>
      if x.tx.any (fun e => ! e.1.whole) then
        let s1 := if bad then s.inc (XBR_PSTAT_POISON_CNT o) else s
        s1.setIsl i { x with tx := x.tx.map (fun e => if e.1.whole then e else ({ e.1 with whole := true, poison := e.1.poison || bad }, e.2)) }
      else { s with xbr.egress := s.xbr.egress.map (fun e => if e.1 / 32 = o ∧ e.1 % 4 = cls then (e.1, tailIn e.2 bad) else e) }
    | none => { s with xbr.egress := s.xbr.egress.map (fun e => if e.1 / 32 = o ∧ e.1 % 4 = cls then (e.1, tailIn e.2 bad) else e) }

/-- The message begun earlier from src to dst in a class, where it is still open: in its queue, or holding its output. -/
def State.begun (s : State) (src dst cls : Nat) : Option Msg :=
  match (s.voq src dst cls).find? (fun m => ! m.whole) with
  | some m => some m
  | none => match mget s.xbr.busy dst with
    | some m => if m.src = src ∧ m.kind.cls = cls then some m else none
    | none => none

/-- A tail arrives for the message from src to dst in a class: the message is whole wherever it is, and its output is free again (R119). -/
def State.tail (s : State) (src dst cls : Nat) (bad : Bool) : State :=
  let k := voqKey src dst cls
  if openIn (mgetD s.xbr.voq k []) then s.setVoq k (tailIn (mgetD s.xbr.voq k []) bad)
  else match mget s.xbr.busy dst with
    | none => s
    | some m =>
      if m.src ≠ src then s
      else State.tailOut { s with xbr.busy := mdel s.xbr.busy dst, xbr.moved := sadd s.xbr.moved dst } dst cls bad

/-- More of a message begun earlier arrives: its output moves a cell (R132). -/
def State.cellMoves (s : State) (src dst : Nat) : State :=
  match mget s.xbr.busy dst with
  | some m => if m.src = src then { s with xbr.moved := sadd s.xbr.moved dst } else s
  | none => s

/-- The data of an open message: an uncorrectable symbol in it is counted, and poisons the tail (R119). -/
def State.bodyErr (s : State) (src dst cls : Nat) (e : SymErr) : State :=
  let s1 := s.corrected e.corr
  match if e.hdr || e.data then s1.begun src dst cls else none with
  | some m => s1.dataLost m
  | none => s1

/-- A message begun earlier from src to dst is marked: its tail will be poisoned (R119). -/
def State.markBad (s : State) (src dst cls : Nat) : State :=
  let f := fun (m : Msg) => if m.whole then m else { m with poison := true }
  let k := voqKey src dst cls
  if openIn (mgetD s.xbr.voq k []) then s.setVoq k ((mgetD s.xbr.voq k []).map f)
  else match mget s.xbr.busy dst with
    | some m =>
      if m.src ≠ src then s
      else { s with
        xbr.busy := mput s.xbr.busy dst { m with poison := true }
        xbr.egress := s.xbr.egress.map (fun e => if e.1 / 32 = dst ∧ e.1 % 4 = cls then (e.1, e.2.map f) else e) }
    | none => s

/-- Whether a port's trained partner is one device, not a multi-logical one (R59). -/
def State.oneDevice (s : State) (p : Nat) : Bool := (s.px p).dev != .none && (s.px p).dev != .mld

/-- Whether a binding of the logical device `d` of a port (255: the whole device) is one of `ld`. -/
def State.sameDevice (s : State) (p d ld : Nat) : Bool := d == ld || d == 255 || ld == 255 || s.oneDevice p

/-- Whether a virtual downstream port of a host holds the logical device `ld` of port q, or its whole device. -/
def State.boundTo (s : State) (h q ld : Nat) : Bool :=
  s.prt.vdp.any (fun e => e.1 / 128 == h && (match e.2.hold with
    | .phys p d => p == q && s.sameDevice p d ld
    | _ => false))

/-- Whether a message runs between a host and a device below a downstream port that is not bound to it: the port has lost the device, or never had
it (R59, Table 3-5). -/
def State.unboundPair (s : State) (h q ld : Nat) : Bool :=
  s.isHost h && decide (q < 128) && s.role q == 2 && ! s.isPool q && ! s.boundTo h q ld

/-- Whether CXL.cache may pass between two ports (R60): only a device and the host it is bound to. -/
def State.cacheAllowed (s : State) (m : Msg) : Bool :=
  match m.kind with
  | .d2hReq => s.boundTo m.dst m.src m.ld
  | .d2hRsp => s.boundTo m.dst m.src m.ld
  | .h2dReq => s.boundTo m.src m.dst m.ld
  | .h2dRsp => s.boundTo m.src m.dst m.ld
  | _ => true

/-- A completion from a device that its host no longer holds never carries good data (R71, Table 3-5). -/
def State.removed (s : State) (m : Msg) : Msg :=
  if ! s.unboundPair m.dst m.src m.ld then m
  else match m.kind with
    | .drs c => { m with kind := .drs c, data := allOnes, poison := true }
    | .ioCpl => { m with data := allOnes, ca := true }
    | _ => m

/-- Whether a message is a host's request to a device that it does not hold (Table 3-5). -/
def State.strayReq (s : State) (m : Msg) : Bool :=
  (match m.kind with
    | .ioReq => true | .ioPosted => true | .ioLk => true | .ioUnlock => true | .mem _ => true
    | _ => false) && s.unboundPair m.src m.dst m.ld

/-- Whether Quarantine turns a message away (R335): a CXL.io memory or I/O request of a host. -/
def State.quarantined (s : State) (m : Msg) : Bool :=
  s.md.mode == .quarantine && s.isHost m.src && (m.kind == .ioReq || m.kind == .ioPosted || m.kind == .ioLk)

/-- A message enters the switch from port p (R60, R62, R120). One whose header cannot be trusted is lost before anything of it is read. Blocked and
misrouted messages are discarded; a message whose data is bad is poisoned; in Quarantine a host's CXL.io request is answered (R335). Answers whether the message came in: one for which no space is free stays
with the partner, which has no credit for it (R126). -/
def State.ingress (s : State) (p : Nat) (m0 : Msg) (e : SymErr) : Bool × State :=
  let m := s.removed { m0 with src := p }
  let s0 := s.corrected e.corr
  if e.hdr then (true, s0.headerLost)
  else if ! s0.carriesKind p m ∨ ! s0.cacheAllowed m ∨ m.dst = p ∨ 150 ≤ m.dst then (true, s0)
  else match s0.roomFor m with
    | none => (false, s0.syncCredits p)
    | some sh =>
      let m1 := { m with shr := sh, poison := m.poison || e.data }
      let s1 := (if e.data then s0.dataLost m else s0).tallyMsg p 0x011 1 m.kind.cls (m.tc.getD 0)
      (true, (if s1.quarantined m1 then (answerTo m1).elim s1 s1.sendQuiet else if s1.strayReq m1 then s1.bounce m1 else s1.send m1).syncCredits p)

/-- A port leaves L1 for the width it had (R66). -/
def State.upState (s : State) (p : Nat) : Nat := if s.fld (PRT_PM_STAT_L0P_WIDTH p) < (s.px p).trained then 1 else 0

/-- Traffic for a port in L1 brings it out (R66); in Hold it is a wake cause (R334). -/
def State.l1Leave (s : State) (p : Nat) : State :=
  if 128 ≤ p ∨ s.fld (PRT_PM_STAT_STATE p) ≠ 2 then s
  else (({ s with xbr.paused := sadd s.xbr.paused p } : State).setFld (PRT_PM_STAT_STATE p) (s.upState p)).wake none

/-- A part of a flit enters the switch. `wait` holds the classes of which an earlier part has stayed with the partner: the later ones stay too (R122,
R126). -/
def State.flitItem (p : Nat) (x : List Nat × State) (i : FlitItem) : List Nat × State :=
  match i with
  | .msg m e =>
    if x.1.contains m.kind.cls then x
    else let r := x.2.ingress p m e; (if r.1 then x.1 else m.kind.cls :: x.1, r.2)
  | .more dst cls e =>
    if x.1.contains cls then x
    else
      let s1 := (x.2.bodyErr p dst cls e).cellMoves p dst
      (x.1, if e.hdr || e.data then s1.markBad p dst cls else s1)
  | .tail dst cls bad e =>
    if x.1.contains cls then x else (x.1, (x.2.bodyErr p dst cls e).tail p dst cls (bad || e.hdr || e.data))

/-- Whether a port runs a link IDE stream in containment mode (R116). -/
def State.contains_ (s : State) (p : Nat) : Bool :=
  ! s.curBit (PRT_IDE_CTL_SKID p) && (s.bit (PRT_IDE_STAT_IO_SECURE p) || s.bit (PRT_IDE_STAT_CM_SECURE p))

/-- A host or downstream port receives a whole flit (R116): nothing of it moves unless its FEC and CRC checks pass (`good`), and in containment mode its
integrity check too (`integ`). -/
def execFlitReceived (p : Nat) (good integ : Bool) (items : List FlitItem) (s : State) : Host.Outcome State Fault Refusal :=
  s.done (if good ∧ (integ ∨ ! s.contains_ p) ∧ s.linkUp p ∧ (s.role p = 1 ∨ s.role p = 2) then
      (items.foldl (State.flitItem p) ([], (s.l1Leave p).tally p 0x010 1)).2
    else s)

/-! ### Output arbitration (R128 to R131) -/

/-- The address of the priority word of a requester at an output. -/
def arbAddr (o r : Nat) : Nat := if o < 128 then PRT_ARB_PRIO o (r / 5) else XBR_ARB_PRIO (o - 128) (r / 5)

/-- The base priority in force. -/
def State.basePrio (s : State) (o r : Nat) : Nat := getBits (s.curWord (arbAddr o r)) (6 * (r % 5)) 3

/-- The ceiling in force. -/
def State.ceilPrio (s : State) (o r : Nat) : Nat := getBits (s.curWord (arbAddr o r)) (6 * (r % 5) + 3) 3

/-- The effective priority. -/
def State.effPrio (s : State) (o r : Nat) : Nat := mgetD s.xbr.eff (o * 256 + r) (s.basePrio o r)

/-- Twice the lane rate of a rate code, in GT/s (PRT_LINK_STAT.RATE). -/
def rate2 (code : Nat) : Nat :=
  match code with
  | 1 => 5 | 2 => 10 | 3 => 16 | 4 => 32 | 5 => 64 | 6 => 128 | 7 => 256 | _ => 0

/-- The lanes of a width code (PRT_LINK_STAT.WIDTH). -/
def widthLanes (code : Nat) : Nat := 2 ^ code

/-- A port's rate (R117): active lanes times lane rate, twice in GT/s. -/
def State.portRate (s : State) (p : Nat) : Nat :=
  rate2 (s.fld (PRT_LINK_STAT_RATE p)) * widthLanes (s.fld (PRT_PM_STAT_L0P_WIDTH p))

/-- Whether a message may be forwarded now (R117): whole, or cut through between ports towards an output that is not faster. -/
def State.forwardable (s : State) (m : Msg) : Bool :=
  m.whole || (decide (m.src < 128) && decide (m.dst < 128) && decide (s.portRate m.dst ≤ s.portRate m.src))

/-- Whether a tenant's shaper is on in force (R258); there is none for tenant 0. -/
def State.shaped (s : State) (t : Nat) : Bool := decide (1 ≤ t) && decide (t ≤ 1023) && s.curBit (SHP_RATE_EN t)

/-- The tenant whose shaper a message must pass (R258): class 3 CXL.mem requests of host ports, and bulk engine requests, of a binding. -/
def State.shaperOf (s : State) (m : Msg) : Option Nat :=
  match m.bnd with
  | none => none
  | some b =>
    let req := match m.kind with
      | .mem _ => m.kind.cls == 3
      | .bulkReq => true
      | _ => false
    if req && s.shaped (s.bndTenant b) then some (s.bndTenant b) else none

/-- Whether an older class 1 message of its path holds back a class 3 message (R122). -/
def State.behindPosted (s : State) (m : Msg) : Bool := m.kind.cls == 3 && (s.voq m.src m.dst 1).any (fun x => decide (x.ord < m.ord))

/-- The heads of the queues for an output, in one class, that may be granted: (requester, message). -/
def State.eligible (s : State) (o c room : Nat) : List (Nat × Msg) :=
  if room / 2 ^ c % 2 = 0 then [] else
  s.xbr.voq.filterMap (fun e =>
    if e.1 / 4 % 256 = o ∧ e.1 % 4 = c then
      match e.2 with
      | m :: _ => if s.forwardable m && ((s.shaperOf m).isNone || m.adm) && ! s.behindPosted m then some (e.1 / 1024, m) else none
      | [] => none
    else none)

/-- The class the arbiter picks (R128): an aged class with an eligible message, else the lowest-numbered class with one. -/
def State.pickClass (s : State) (o room : Nat) : Option Nat :=
  let ready := [0, 1, 2, 3].filter (fun c => ! (s.eligible o c room).isEmpty)
  match ready.filter (fun c => decide (s.cur XBR_CFG_CLASS_AGE ≤ mgetD s.xbr.age (o * 4 + c) 0)) with
  | c :: _ => some c
  | [] => ready.head?

/-- The distance of a requester from the rotating pointer, wrapping from 149 to 0 (R129). -/
def ptrDist (ptr r : Nat) : Nat := (r + 150 - ptr) % 150

/-- The winner among eligible requesters (R129): highest effective priority, ties to the first at or after the pointer. -/
def State.winner (s : State) (o : Nat) (l : List (Nat × Msg)) : Option (Nat × Msg) :=
  let ptr := mgetD s.xbr.ptr o 0
  l.foldl (fun best e =>
    match best with
    | none => some e
    | some b =>
      if s.effPrio o b.1 < s.effPrio o e.1 then some e
      else if s.effPrio o e.1 = s.effPrio o b.1 ∧ ptrDist ptr e.1 < ptrDist ptr b.1 then some e
      else some b) (none : Option (Nat × Msg))

/-- Whether a requester has anything queued for an output. -/
def State.hasQueued (s : State) (o r : Nat) : Bool :=
  s.xbr.voq.any (fun e => e.1 / 1024 == r && e.1 / 4 % 256 == o)

/-- The priorities of an output after a grant (R129): the winner returns to its base, every eligible loser rises one step up to its
ceiling, and a requester with nothing queued for the output returns to its base. -/
def State.agePrios (s : State) (o w : Nat) (l : List (Nat × Msg)) : State :=
  let e1 := l.foldl (fun m e =>
    if e.1 = w then mdel m (o * 256 + w)
    else
      let v := min (s.effPrio o e.1 + 1) (max (s.ceilPrio o e.1) (s.effPrio o e.1))
      if v = s.basePrio o e.1 then mdel m (o * 256 + e.1) else mput m (o * 256 + e.1) v) s.xbr.eff
  { s with xbr.eff := e1.filter (fun e => e.1 / 256 != o || s.hasQueued o (e.1 % 256)) }

/-- The key of an egress queue: port, traffic class and message class (R254). -/
def egKey (p tc c : Nat) : Nat := (p * 8 + tc) * 4 + c

/-- Effective priorities of requesters with nothing queued for an output return to their base (R129). -/
def State.idlePrios (s : State) : State := { s with xbr.eff := s.xbr.eff.filter (fun e => s.hasQueued (e.1 / 256) (e.1 % 256)) }

/-- A granted message leaves its queue: to the egress buffer of a port, or to its internal target (R117). While its tail has not passed it
holds the output. Symbol errors of the crossbar or a die-to-die link lose or poison it (R12, R119, R120). -/
def State.forward (s : State) (m0 : Msg) (e : SymErr) : State :=
  let c := m0.kind.cls
  let s0 := ((s.setVoq (voqKey m0.src m0.dst c) ((s.voq m0.src m0.dst c).drop 1)).syncCredits m0.src).corrected e.corr
  if e.hdr then s0.headerLost
  else
    let m := { m0 with poison := m0.poison || e.data }
    let s1 := if e.data then s0.dataLost m else s0
    let s1' := if m.src < 128 ∧ m.whole then s1.tally m.src 0x013 1 else s1
    let s2 : State := { s1' with xbr.moved := sadd s1'.xbr.moved m.dst }
    if m.dst < 128 then
      let k := egKey m.dst (m.tc.getD (s2.cur (PRT_SCH_CFG_DEF_TC m.dst))) c
      let s3 : State := { s2 with xbr.egress := mput s2.xbr.egress k (mgetD s2.xbr.egress k [] ++ [m]) }
      if m.whole then s3 else { s3 with xbr.busy := mput s3.xbr.busy m.dst m }
    else s2.emit (.sent m.dst m)

/-- Management messages for a full receive ring of the management complex are discarded and counted (R124). -/
def State.dropMgmt (s : State) : State :=
  let hit := fun (e : Nat × List Msg) => e.1 / 4 % 256 == 145 && e.1 % 4 == 0
  let n := ((s.xbr.voq.filter hit).flatMap (fun e => e.2.filter (fun m => m.kind == .mgmt))).length
  { s with
    xbr.mgmtDrops := s.xbr.mgmtDrops + n
    xbr.voq := s.xbr.voq.filterMap (fun e => if hit e then (let l := e.2.filter (fun m => m.kind != .mgmt); if l.isEmpty then none else some (e.1, l)) else some e) }

/-- Whether the core tile's clocks are gated (R333): messages wait in their ingress buffers. -/
def State.coreGated (s : State) : Bool :=
  match s.md.hold with
  | .out => false
  | .entering => false
  | .held => true
  | .waking _ _ => true
  | .ready _ _ => true

/-- The arbiter of a free output grants one message (R128, R129). `room` has a bit per class in which the egress buffer, or the internal
target, has room for a first cell. -/
def State.grant (s0 : State) (o room : Nat) (e : SymErr) : State :=
  let s : State := if room % 16 = 0 then s0 else { s0 with xbr.room := sadd s0.xbr.room o }
  if 150 ≤ o ∨ s0.coreGated then s0
  else if o = 145 ∧ room % 2 = 0 then s.dropMgmt
  else if (mget s.xbr.busy o).isSome then s
  else match s.pickClass o room with
  | none => s
  | some c =>
    let l := s.eligible o c room
    match s.winner o l with
    | none => s
    | some (w, m) =>
      let age := [0, 1, 2, 3].foldl (fun a k =>
        mputD a (o * 4 + k) 0 (if k = c ∨ (s.eligible o k room).isEmpty then 0 else mgetD s.xbr.age (o * 4 + k) 0 + 1)) s.xbr.age
      let s1 := s.forward m e
      let s2 := ({ s1 with xbr.ptr := mputD s1.xbr.ptr o 0 ((w + 1) % 150), xbr.age := age } : State)
      s2.agePrios o w l

/-- A free output's arbiter grants one message. -/
def execArbiterGrant (o room : Nat) (e : SymErr) (s : State) : Host.Outcome State Fault Refusal := s.done (s.grant o room e)

/-- A committed priority set resets every effective priority to its base (R130). -/
def State.resetPrios (s : State) : State := { s with xbr.eff := [] }

/-! ### Output watchdog (R132, R133) -/

/-- Whether an output has a message that may be forwarded and waits for room, or holds one in progress (R132). -/
def State.outputWork (s : State) (p : Nat) : Bool :=
  (mget s.xbr.busy p).isSome || [0, 1, 2, 3].any (fun c => ! (s.eligible p c 15).isEmpty)

/-- Whether anything waits for a port, or is on its way out of it. -/
def State.portBusy (s : State) (p : Nat) : Bool :=
  (mget s.xbr.busy p).isSome || s.xbr.voq.any (fun e => e.1 / 4 % 256 == p) || s.xbr.egress.any (fun e => e.1 / 32 == p)

/-- The port the watchdog blames for a stall of an output, and the cause (R132): the source of a message in progress, where the egress buffer had room;
the output itself, where it never had. Neither where it had room and no port's message is in progress. -/
def State.stallBlame (s : State) (p : Nat) (room : Bool) : Option (Nat × Nat) :=
  if ! room then some (p, 2)
  else match mget s.xbr.busy p with
    | some m => if m.src < 128 then some (m.src, 1) else none
    | none => none

/-- At a Daybreak each port output is checked (R132, R133): one that had work all through the frame and moved no cell counts a stalled frame, one that
moved a cell starts again, and another keeps its count. The count holds while the port to blame was in Recovery, an L1 exit or an L0p change; where that
is an ISL port it starts again. -/
def State.watchOutputs (s : State) : State :=
  let st := (List.range 128).foldl (fun m p =>
    let c := mgetD s.xbr.stall p 0
    let v :=
      if s.xbr.moved.contains p then 0
      else if ! s.xbr.hadWork.contains p ∨ ! s.outputWork p then c
      else match s.stallBlame p (s.xbr.room.contains p) with
        | none => c
        | some (b, _) => if s.role b = 3 then 0 else if s.xbr.paused.contains b then c else c + 1
    mputD m p 0 v) s.xbr.stall
  let work := ((List.range 128).filter s.outputWork)
  { s with xbr.stall := st, xbr.moved := [], xbr.paused := [], xbr.hadWork := work, xbr.roomLast := s.xbr.room, xbr.room := [] }

end Sys2Proof.Machine
end

