-- ==== Sys2Proof/Machine/Scheduler.lean ====
section
/-! DEFINITION. Bandwidth shares and time windows (chapter 11): deficit round robin, gate lists and tenant shapers. -/
namespace Sys2Proof.Machine
open Sys2Proof

/-! ### Gate lists in force (R262, R263) -/

/-- The slot of the frame the present tick lies in (R262): a correction tick changes the length of slot 15 only. -/
def State.slotNow (s : State) : Nat := min 15 (s.time.tick / (frameTicks s.time.lenCode / 16))

/-- Whether a traffic class is open in a slot of a port's gate list in force. -/
def State.slotOpen (s : State) (p c n : Nat) : Bool :=
  match mget s.xbr.lists p with
  | none => true
  | some l => l.getD n 255 / 2 ^ c % 2 == 1

/-- How many consecutive slots from slot n on, over the frame's end, are open for a class; at most `k`. -/
def State.openRun (s : State) (p c n : Nat) : Nat → Nat
  | 0 => 0
  | k + 1 => if s.slotOpen p c (n % 16) then 1 + s.openRun p c (n + 1) k else 0

/-- The ticks left in the run of open slots of a class at a port; none where every slot is open. -/
def State.runLeft (s : State) (p c : Nat) : Option Nat :=
  let r := s.openRun p c s.slotNow 16
  if r = 16 then none else some ((s.slotNow + r) * (frameTicks s.time.lenCode / 16) - s.time.tick)

/-- Whether the present tick is the first of a run of open slots of a class (R263). -/
def State.runBegins (s : State) (p c : Nat) : Bool :=
  s.time.tick % (frameTicks s.time.lenCode / 16) == 0 && ! s.slotOpen p c ((s.slotNow + 15) % 16)

/-- The counted length of a message (R256). -/
def State.counted (s : State) (p : Nat) (m : Msg) : Nat := 16 + m.len + s.cur (PRT_SCH_CFG_OVERHEAD p)

/-- The ticks a message takes on a port's wire at its rate in force, rounded up. -/
def State.wireTicks (s : State) (p bytes : Nat) : Nat :=
  let r := s.portRate p
  if r = 0 then 0 else (bytes * 16 + r - 1) / r

/-- Whether a message of class c may start now (R254, R263). -/
def State.mayStart (s : State) (p c : Nat) (m : Msg) : Bool :=
  s.slotOpen p c s.slotNow &&
    (! s.curBit (PRT_SCH_CFG_FIT p) || (s.runBegins p c && decide ((mgetD s.xbr.wire p (0, 0)).1 ≤ s.now)) ||
      (match s.runLeft p c with
        | none => true
        | some t => decide (s.wireTicks p (s.counted p m) ≤ t)))

/-! ### Deficit round robin (R254, R255) -/

/-- The quantum of a class in force, in bytes (PRT_DRR_CUR). -/
def State.quantum (s : State) (p c : Nat) : Nat := 16 * getBits (s.curWord (PRT_DRR_Q p (c / 2))) (16 * (c % 2)) 16

/-- Whether a message may leave its egress queue: CXL.mem and CXL.cache messages only whole, CXL.io header first (R118). -/
def mayLeave (m : Msg) : Bool := m.whole || m.kind.isIo

/-- Whether an older class 1 message of its path, still in the egress buffer, holds back a class 3 message (R122). -/
def State.postedAhead (s : State) (p : Nat) (m : Msg) : Bool :=
  m.kind.cls == 3 && s.xbr.egress.any (fun e => e.1 / 32 == p && e.1 % 4 == 1 && e.2.any (fun x => x.src == m.src && decide (x.ord < m.ord)))

/-- The head of the lowest-numbered eligible message class of a traffic class. -/
def State.eligibleHead (s : State) (p tc credits : Nat) : Option Msg :=
  [0, 1, 2, 3].findSome? (fun c =>
    match mgetD s.xbr.egress (egKey p tc c) [] with
    | m :: _ => if credits / 2 ^ c % 2 = 1 ∧ mayLeave m ∧ s.mayStart p tc m ∧ ! s.postedAhead p m then some m else none
    | [] => none)

/-- Whether every queue of a traffic class is empty at a port. -/
def State.classEmpty (s : State) (p tc : Nat) : Bool :=
  [0, 1, 2, 3].all (fun c => (mgetD s.xbr.egress (egKey p tc c) []).isEmpty)

/-- The chosen message, the deficits and the turn (twice the class, plus one once its quantum has been added) after visiting at most
`fuel` classes; none where nothing can be sent (R255). -/
def State.drr (s : State) (p credits : Nat) (d : NMap Nat) (turn : Nat) : Nat → Option (Msg × Nat) × NMap Nat × Nat
  | 0 => (none, d, turn)
  | fuel + 1 =>
    let c := turn / 2 % 8
    let nextTurn := (c + 1) % 8 * 2
    if s.classEmpty p c then s.drr p credits (if turn % 2 = 0 then mdel d (p * 8 + c) else d) nextTurn fuel
    else match s.eligibleHead p c credits with
      | none => s.drr p credits d nextTurn fuel
      | some m =>
        let have0 := mgetD d (p * 8 + c) 0 + (if turn % 2 = 0 then s.quantum p c else 0)
        let n := s.counted p m
        if n ≤ have0 then (some (m, c), mputD d (p * 8 + c) 0 (have0 - n), c * 2 + 1)
        else s.drr p credits (mputD d (p * 8 + c) 0 have0) nextTurn fuel

/-- Whether any class has something the scheduler can send. -/
def State.anyEligible (s : State) (p credits : Nat) : Bool :=
  (List.range 8).any (fun c => (s.eligibleHead p c credits).isSome)

/-- A message leaves a port: poison it carries is expressed and counted (R119, Table 6-2), its wire time is noted, and a TLP whose tail has
not arrived stays open. -/
def State.egressSend (s : State) (p tc : Nat) (m : Msg) : State :=
  let k := egKey p tc m.kind.cls
  let s1 : State := { s with
    xbr.egress := mputD s.xbr.egress k [] ((mgetD s.xbr.egress k []).drop 1),
    xbr.moved := sadd s.xbr.moved p,
    xbr.wire := mput s.xbr.wire p (s.now + s.wireTicks p (s.counted p m),
      if s.curBit (PRT_SCH_CFG_FIT p) then (match s.runLeft p tc with | some t => s.now + t | none => 0) else 0) }
  let s2 := if m.whole then s1 else { s1 with xbr.inflight := mput s1.xbr.inflight p m }
  let s3 := (s2.tallyMsg (128 + p) 0x020 1 m.kind.cls tc).tallyMsg (128 + p) 0x021 (msgSlots m) m.kind.cls tc
  (if m.poison then s3.inc (XBR_PSTAT_POISON_CNT p) else s3).emit (.sent p m)

/-- The egress scheduler of a port chooses and sends the next message. `credits` has a bit per message class with link credits (R254). -/
def State.schedule (s : State) (p credits : Nat) : State :=
  if 128 ≤ p ∨ ! s.linkUp p ∨ (mget s.xbr.inflight p).isSome ∨ ! s.anyEligible p credits then s
  else
    let r := s.drr p credits s.xbr.deficit (mgetD s.xbr.turn p 0) 4800
    let s1 : State := { s with xbr.deficit := r.2.1, xbr.turn := mputD s.xbr.turn p 0 r.2.2 }
    match r.1 with
    | some (m, c) => (s1.l1Leave p).egressSend p c m
    | none => s1

/-- The egress scheduler of an ISL port chooses the next message for its cells (R105, R428): only while the cells have room for a message to
begin, of a class that is On, and group traffic only where the ISL carries it. -/
def State.scheduleIsl (s : State) (p i credits : Nat) : State :=
  let x := s.islAt i
  let off := s.fld (ISL_FC_STAT_TX_OFF i)
  let cr := if x.silent then 0 else [0, 1, 2, 3].foldl (fun n c => n + (if credits / 2 ^ c % 2 = 1 ∧ off / 2 ^ c % 2 = 0 then 2 ^ c else 0)) 0
  if (s.islSt i ≠ 3 ∧ s.islSt i ≠ 4) ∨ s.islSlots i ≤ x.tx.foldl (fun n e => n + e.2) 0 ∨ ! s.anyEligible p cr then s
  else
    let r := s.drr p cr s.xbr.deficit (mgetD s.xbr.turn p 0) 4800
    match r.1 with
    | none => s
    | some (m, tc) =>
      if m.kind ≠ .mgmt ∧ (s.islSt i = 3 ∨ ! s.carries i) then s
      else
        let k := egKey p tc m.kind.cls
        let s1 : State := { s with
          xbr.deficit := r.2.1, xbr.turn := mputD s.xbr.turn p 0 r.2.2, xbr.egress := mputD s.xbr.egress k [] ((mgetD s.xbr.egress k []).drop 1),
          xbr.moved := sadd s.xbr.moved p }
        let s2 := ((if m.poison then s1.inc (XBR_PSTAT_POISON_CNT p) else s1).tallyMsg (128 + p) 0x020 1 m.kind.cls tc).tallyMsg (128 + p) 0x021 (msgSlots m)
          m.kind.cls tc
        s2.setIsl i { s2.islAt i with tx := x.tx ++ [(m, msgSlots m)] }

def execEgressSchedule (p credits : Nat) (s : State) : Host.Outcome State Fault Refusal :=
  s.done (if s.role p = 3 then match s.islOf p with
      | some i => s.scheduleIsl p i credits
      | none => s
    else s.schedule p credits)

/-- A quantum set takes effect: every deficit of the port is 0 (R257). -/
def State.resetDeficits (s : State) (p : Nat) : State := { s with xbr.deficit := s.xbr.deficit.filter (fun e => e.1 / 8 != p) }

/-! ### Shapers (R258 to R261) -/

/-- The tokens of a shaper in whole bytes. -/
def State.tokens (s : State) (t : Nat) : Int := (mgetD s.xbr.tokens t 0) / 16

/-- One token period of a shaper (R259): RATE sixteenths of a byte are added, up to BURST. -/
def State.refill (s : State) (t : Nat) : State :=
  let v := min (mgetD s.xbr.tokens t 0 + (s.cur (SHP_RATE_RATE t) : Int)) ((s.cur (SHP_BURST_BURST t) * 16 : Nat) : Int)
  { s with xbr.tokens := mputD s.xbr.tokens t 0 v }

/-- The shapers that are on in force. -/
def State.shapersOn (s : State) : List Nat :=
  s.force.filterMap (fun e =>
    if SHP_RATE 1 ≤ e.1 ∧ e.1 ≤ SHP_RATE 1023 ∧ e.1 % 16 = 0 ∧ getBit e.2 31 then some ((e.1 - SHP_RATE 0) / 16) else none)

/-- Every 64 ticks each shaper that is on takes its tokens. -/
def execShaperTokenRefill (s : State) : Host.Outcome State Fault Refusal := s.done (s.shapersOn.foldl State.refill s)

/-- The charge of a request or line of a binding (R258): 80 bytes plus the OVERHEAD of its host port. -/
def State.charge (s : State) (b : Nat) : Nat := 80 + s.cur (PRT_SCH_CFG_OVERHEAD (s.bndPort b))

/-- The head of the class 3 queue of a source for a target asks its tenant's shaper (R258): with tokens above 0 it is admitted and charged;
otherwise it waits at the head and HELD shows it (R260). -/
def State.letPass (s : State) (src dst : Nat) : State :=
  match s.voq src dst 3 with
  | [] => s
  | m :: l =>
    match s.shaperOf m, m.bnd with
    | some t, some b =>
      if m.adm then s
      else if s.tokens t > 0 then
        let s1 := s.setVoq (voqKey src dst 3) ({ m with adm := true } :: l)
        { s1 with
          xbr.tokens := mputD s1.xbr.tokens t 0 (mgetD s1.xbr.tokens t 0 - ((s.charge b * 16 : Nat) : Int)), xbr.held := sdel s1.xbr.held t }
      else { s with xbr.held := sadd s.xbr.held t }
    | _, _ => s

def execShaperAdmit (src dst : Nat) (s : State) : Host.Outcome State Fault Refusal := s.done (s.letPass src dst)

/-- A shaper change takes effect: its tokens are 0 (R261). -/
def State.resetTokens (s : State) (t : Nat) : State := { s with xbr.tokens := mdel s.xbr.tokens t }

/-! ### Arming a gate list (R264, R265) -/

/-- The sixteen slot bytes of a port's staged list. -/
def State.stagedSlots (s : State) (p : Nat) : List Nat :=
  (List.range 16).map (fun n => getBits (s.word (PRT_GL_NEW p (n / 4))) (8 * (n % 4)) 8)

/-- Whether a takeover is pending on a port (PRT_GL_CTL.PEND). -/
def State.glPending (s : State) (p : Nat) : Bool :=
  s.due.any (fun d => match d.act with
    | .gateList q _ _ => q == p
    | _ => false)

/-- Whether every traffic class is open in some slot (R265). -/
def opensAll (slots : List Nat) : Bool := (List.range 8).all (fun c => slots.any (fun b => b / 2 ^ c % 2 == 1))

/-- What refuses a gate list for a frame, flagged as group-wide or not (R264, R265, R39, R46). -/
def State.glRefusal (s : State) (p : Nat) (en : Bool) (slots : List Nat) (f : Nat) (group : Bool) : Option Status :=
  if s.glPending p then some .busy
  else if en && ! opensAll slots then some .parameter
  else s.namedGroupRefusal f group

/-- The named frame of a port's takeover (PRT_GL_AT). -/
def State.glAt (s : State) (p : Nat) : Nat := s.fld64 (PRT_GL_AT_LO_AT p) (PRT_GL_AT_HI_AT p)

/-- Submits a gate list for a named frame. -/
def State.glSubmit (s : State) (p : Nat) (en : Bool) (slots : List Nat) (f : Nat) (group : Bool) (h : Option Nat) : State :=
  s.addDue { eff := f, named := true, group := group, frozen := false, handle := h, ref := none, act := .gateList p en slots }

/-- The action of PRT_GL_CTL.ARM. -/
def State.glArm (s : State) (p : Nat) : State :=
  let en := s.bit (PRT_GL_CTL_EN_NEW p)
  match s.glRefusal p en (s.stagedSlots p) (s.glAt p) false with
  | some _ => s.setBit (PRT_GL_CTL_REFUSED p) true
  | none => s.glSubmit p en (s.stagedSlots p) (s.glAt p) false none

/-- The action of PRT_GL_CTL.CANCEL: a takeover that the Dusk window has not frozen is withdrawn; its command ends as aborted. -/
def State.glCancel (s : State) (p : Nat) : State :=
  s.cancelAll (fun d => (match d.act with
    | .gateList q _ _ => q == p
    | _ => false) && ! d.frozen) .aborted

/-- A gate list takes over at its Daybreak (R264). -/
def State.applyGateList (s : State) (p : Nat) (en : Bool) (slots : List Nat) : State :=
  ({ s with xbr.lists := if en then mput s.xbr.lists p slots else mdel s.xbr.lists p } : State).inc (PRT_GL_TAKE_TAKE_CNT p)

/-! ### Opcodes of group 0x07 -/

/-- Whether a port number can be named by an opcode: it exists under the bifurcation in force. -/
def State.portOk (s : State) (p : Nat) : Bool := decide (p < 128) && s.formed p

/-- A two-field word. -/
def halves (lo hi : Nat) : Word := BitVec.ofNat 32 (lo % 2 ^ 16 + hi % 2 ^ 16 * 2 ^ 16)

/-- Opcode 0x0700: stages a port's eight quanta. -/
def execQuanta (rq : Rq) (port : Nat) (quanta : List Nat) (s : State) : Host.Outcome State Fault Refusal :=
  s.done (xib 0x0700 rq (.quanta rq port quanta) s fun _ s =>
    s.staging rq fun s =>
      if ! s.portOk port ∨ quanta.length ≠ 8 then s.refuse .parameter
      else ((List.range 4).foldl (fun s k =>
        s.stageWord (PRT_DRR_Q port k) (halves (quanta.getD (2 * k) 0) (quanta.getD (2 * k + 1) 0))) s).okNow)

/-- Opcode 0x0701: stages a shaper. -/
def execShaper (rq : Rq) (tenant rate burst en : Nat) (s : State) : Host.Outcome State Fault Refusal :=
  s.done (xib 0x0701 rq (.shaper rq tenant rate burst en) s fun _ s =>
    s.staging rq fun s =>
      if tenant = 0 ∨ 1023 < tenant ∨ 2 ^ 24 ≤ rate ∨ 2 ^ 24 ≤ burst ∨ 1 < en then s.refuse .parameter
      else ((s.stageWord (SHP_RATE tenant) (BitVec.ofNat 32 (rate + en * 2 ^ 31))).stageWord (SHP_BURST tenant) (BitVec.ofNat 32 burst)).okNow)

/-- The staged list of a port, its enable and its frame are set. -/
def State.setStagedList (s : State) (p : Nat) (en : Bool) (slots : List Nat) (f : Nat) : State :=
  let s1 := (List.range 4).foldl (fun s k =>
    s.setWord (PRT_GL_NEW p k) (halves (slots.getD (4 * k) 0 + slots.getD (4 * k + 1) 0 * 256) (slots.getD (4 * k + 2) 0 + slots.getD (4 * k + 3) 0 * 256))) s
  (s1.setBit (PRT_GL_CTL_EN_NEW p) en).setFld64 (PRT_GL_AT_LO_AT p) (PRT_GL_AT_HI_AT p) f

/-- Opcode 0x0702 (R264): submits a gate list for a named frame; a long command that ends at the takeover. -/
def execGateList (rq : Rq) (port : Nat) (slots : List Nat) (en frame : Nat) (s : State) : Host.Outcome State Fault Refusal :=
  s.done (xib 0x0702 rq (.gateList rq port slots en frame) s fun p s =>
    if ! s.portOk port ∨ slots.length ≠ 16 ∨ slots.any (fun b => decide (255 < b)) ∨ 1 < en then s.refuse .parameter
    else match s.glRefusal port (en == 1) slots frame rq.group with
      | some c => s.refuse c
      | none =>
        if s.lcSlots = [] then s.refuse .busy
        else
          let (h, s1) := (s.setStagedList port (en == 1) slots frame).lcStart 0x0702 (rqRef rq 0x0702) p (routeTargetOf rq.route rq.carrier)
          (s1.glSubmit port (en == 1) slots frame rq.group (some h)).long frame h)

/-- The slot bytes in force of a port; every class open where no list is in force. -/
def State.slotsInForce (s : State) (p : Nat) : List Nat := (mget s.xbr.lists p).getD (List.replicate 16 255)

/-- Opcode 0x0703: quanta and gate list in force. -/
def execGetQos (rq : Rq) (port : Nat) (s : State) : Host.Outcome State Fault Refusal :=
  s.done (xib 0x0703 rq (.getQos rq port) s fun _ s =>
    if ! s.portOk port then s.refuse .parameter
    else s.readAns ((List.range 8).map (fun c => (2, s.quantum port c / 16)) ++ (s.slotsInForce port).map (fun b => (1, b)) ++
      [(1, if (mget s.xbr.lists port).isSome then 1 else 0)]))

end Sys2Proof.Machine
end

