-- ==== Sys2Proof/Machine/Sealed.lean ====
section
/-! DEFINITION. Lines on the pools: their addresses, the hooks of an open move (R235, R237), encryption and the counters of Sealed regions
(R198 to R211), heat samples and dirty logging (R223, R155). -/
namespace Sys2Proof.Machine
open Sys2Proof

/-! ### Bit masks kept as numbers -/

/-- Whether bit i of a mask is set. -/
def bitOn (m i : Nat) : Bool := m / 2 ^ i % 2 == 1

/-- The mask with bit i set. -/
def setOn (m i : Nat) : Nat := if bitOn m i then m else m + 2 ^ i

/-- The mask with bit i clear. -/
def setOff (m i : Nat) : Nat := if bitOn m i then m - 2 ^ i else m

/-- The numbers of the set bits of a mask below n. -/
def bitsOn (m n : Nat) : List Nat := (List.range n).filter (bitOn m)

/-- How many bits of a mask below n are set. -/
def popCount (m n : Nat) : Nat := (bitsOn m n).length

/-! ### Lines (R150, R161) -/

/-- The region, its record, the region parcel and the line within the parcel of a line ID. -/
structure LineAt where
  region : Nat
  rec_ : Region
  parcel : Nat
  ln : Nat
  deriving DecidableEq, Repr

/-- Where a line ID lies among the regions whose home is this switch (R161). -/
def State.lineAt (s : State) (line : Nat) : Option LineAt :=
  match s.regionOfTt (line / 4096) with
  | some (g, r) => (mget s.bnd.regions g).map (fun x => { region := g, rec_ := x, parcel := r, ln := line % 4096 })
  | none => none

/-- The pool and pool address of a line under a translation entry, or the code of Table 7-4 that stops the access: no valid entry, or the pool's port is
down. -/
def State.poolAt (s : State) (line : Nat) (e : TtEntry) : Except Nat (Nat × Nat) :=
  if ! e.valid then .error 2
  else if ! s.linkUp e.pool then .error 3
  else .ok (e.pool, e.ppi * 262144 + line % 4096 * 64)

/-- The same under the entry in force. -/
def State.poolOf (s : State) (line : Nat) : Except Nat (Nat × Nat) := s.poolAt line (s.ttEntry (line / 4096))

/-! ### Moves that touch a parcel (R235, R237) -/

/-- The slot of the open move of a region parcel. -/
def State.moveOf (s : State) (g r : Nat) : Option Nat :=
  (s.oxb.moves.find? (fun e => ! e.2.tree && e.2.region == g && e.2.parcel == r)).map (fun e => e.1)

/-- The slot of the open move of a line's parcel. -/
def State.moveOfLine (s : State) (line : Nat) : Option Nat :=
  match s.lineAt line with
  | some a => s.moveOf a.region a.parcel
  | none => none

/-- Whether a line belongs to the region of a home transfer. -/
def State.xferLine (_ : State) (x : Xfer) (line : Nat) : Bool :=
  decide (x.rec_.ttBase * 4096 ≤ line) && decide (line < (x.rec_.ttBase + x.rec_.size) * 4096)

/-- Whether no directory entry is made for a line: its region's home is being transferred and its sweep has begun (R439). -/
def State.noEntries (s : State) (line : Nat) : Bool := s.grp.xfers.any (fun x => x.sweep && s.xferLine x line)

/-- Whether the home holds writes of a line: its parcel is in its flip frame (R237), or its region's home in its transfer frame (R439). -/
def State.inFlip (s : State) (line : Nat) : Bool :=
  (match s.moveOfLine line with
  | some m => (match mget s.oxb.moves m with
    | some x => x.phase != .copying
    | none => false)
  | none => false) || s.grp.xfers.any (fun x => x.phase == .transfer && s.xferLine x line)

/-- A home write to a moving parcel's source is issued: the line's copied bit clears, and a copy read of it in flight no longer counts. -/
def State.moveWrite (s : State) (line : Nat) : State :=
  match s.moveOfLine line with
  | none => s
  | some m =>
    { s with oxb.moves := mmod s.oxb.moves m (fun x =>
        let l := line % 4096
        { x with
          copied := setOff x.copied l, reading := mmod x.reading l (fun _ => true),
          homeWr := mput x.homeWr l (mgetD x.homeWr l 0 + 1) }) }

/-- The elements a move copies: the lines of a parcel (0 to 4095), and after them the blocks of its slot, or of the tree area (R241, R242). -/
def Move.elements (x : Move) : List Nat :=
  (if x.tree then [] else List.range 4096) ++ (List.range x.units).map (fun b => 4096 + b)

/-- Whether an element is copied. -/
def Move.has (x : Move) (e : Nat) : Bool := if e < 4096 then bitOn x.copied e else bitOn x.blocks (e - 4096)

/-- The elements still uncopied, in ascending order. -/
def Move.clear (x : Move) : List Nat := x.elements.filter (fun e => ! x.has e)

/-- The final pass of a flip frame (R237): once no home write to the source is outstanding, every clear element is read. -/
def Move.finalPass (x : Move) : Move :=
  if x.phase = .flip ∧ x.homeWr.isEmpty then
    { x with reading := x.clear.foldl (fun m e => if x.writing.contains e then m else match mget m e with
        | some _ => m
        | none => mput m e false) x.reading }
  else x

/-- A pool acknowledges a home write to a moving parcel's source: the copied bit clears again; in the flip frame the final pass may begin. -/
def State.moveAck (s : State) (line : Nat) : State :=
  match s.moveOfLine line with
  | none => s
  | some m =>
    { s with oxb.moves := mmod s.oxb.moves m (fun x =>
        let l := line % 4096
        if mgetD x.homeWr l 0 = 0 then x else
        Move.finalPass { x with copied := setOff x.copied l, homeWr := mputD x.homeWr l 0 (mgetD x.homeWr l 0 - 1) }) }

/-! ### Heat samples (R223, R224) -/

/-- The heat epoch. -/
def State.epoch (s : State) : Nat := s.time.frame / 1024

/-- The heat record of a global pool parcel (R224). -/
def State.heatRec (s : State) (g : Nat) : HeatRec := mgetD s.oxb.heat g { heat := 0, stamp := 0, alloc := false }

/-- Sets a heat record. -/
def State.setHeat (s : State) (g : Nat) (h : HeatRec) : State :=
  { s with oxb.heat := mputD s.oxb.heat g { heat := 0, stamp := 0, alloc := false } h }

/-- The heat a record reads as now: halved once per epoch since it was written (R224). -/
def State.heatNow (s : State) (h : HeatRec) : Nat := h.heat / 2 ^ (min 8 ((s.epoch % 128 + 128 - h.stamp) % 128))

/-- The global pool parcel of a pool's parcel (R224). -/
def State.globalParcel (s : State) (pool ppi : Nat) : Nat := s.cur (OXB_POOL_BASE_GBASE pool) + ppi

/-- Merges samples into a heat record (R224). -/
def State.addHeat (s : State) (pool ppi n : Nat) : State :=
  let g := s.globalParcel pool ppi
  let h := s.heatRec g
  s.setHeat g { h with heat := min 255 (s.heatNow h + n), stamp := s.epoch % 128 }

/-- A slice performs an access through a binding: its countdown falls, and at zero the access is sampled and the countdown reloaded with a
value from 1 to 31, which is free (log entry 3). -/
def State.sample (s : State) (sl pool ppi : Nat) : State :=
  let c := mgetD s.home.sample sl 1
  if 1 < c then { s with home.sample := mput s.home.sample sl (c - 1) }
  else
    let (v, s1) := s.draw
    ({ s1 with home.sample := mput s1.home.sample sl (v % 31 + 1) } : State).addHeat pool ppi 1

/-- A word of heat records, those of eight parcels, is lost: their heat returns to 0, ALLOC is taken as 1 until the ranker's next pass, and a
correctable fault is recorded (R25). -/
def State.loseHeat (s : State) (g : Nat) : State :=
  let s1 := (List.range 8).foldl (fun s k => s.setHeat (g / 8 * 8 + k) { heat := 0, stamp := s.epoch % 128, alloc := true }) s
  State.reportCode { s1 with oxb.lostWords := sadd s1.oxb.lostWords (g / 8 * 8) } 0x0403 1 none 3

/-- The heat word that a slice's next access to a line samples is lost. -/
def State.sampledLost (s : State) (sl line : Nat) : State :=
  let e := s.ttEntry (line / 4096)
  if e.valid ∧ mgetD s.home.sample sl 1 ≤ 1 then s.loseHeat (s.globalParcel e.pool e.ppi) else s

/-! ### Dirty logging (R155) -/

/-- Whether a binding logs its writes. -/
def State.logging (s : State) (b : Nat) : Bool := s.curBit (BND_LOG_CTL_EN b)

/-- A logged write sets the bit of its page, in the same home step; beyond the area it sets LOST for the current harvest: the one under way, or else the
next. -/
def State.logWrite (s : State) (b dpa : Nat) : State :=
  if ! s.logging b then s
  else if s.cur (BND_LOG_LEN_LEN b) * 134217728 ≤ dpa then
    if (mget s.bnd.harv b).isSome then { s with bnd.harv := mmod s.bnd.harv b (fun h => { h with lost := true }) }
    else { s with bnd.logLost := sadd s.bnd.logLost b }
  else { s with bnd.log := sadd s.bnd.log (s.cur (BND_LOG_CTL_BASE b) * 32768 + dpa / 4096) }

/-! ### Encryption (R198) -/

/-- The keys of a tenant's slot, where they may be used (Table 9-3). -/
def State.keysOf (s : State) (t : Nat) : Option KeySlot := (mget s.sec.slots t).filter (fun k => k.st != .locked)

/-- The XTS key of a tenant's slot, K1 and K2 as one number; none where the slot holds no keys to use. -/
def State.xtsKey (s : State) (t : Nat) : Option Nat := (s.keysOf t).map (fun k => k.k1 * 2 ^ 256 + k.k2)

/-- KM of a tenant's slot (Table 9-4); none where the slot holds no keys to use. -/
def State.macKey (s : State) (t : Nat) : Option Nat := (s.keysOf t).map (fun k => k.km)

/-- The line offset within its region (R198). -/
def LineAt.ofs (a : LineAt) : Nat := a.parcel * 4096 + a.ln

/-- The tweak of a line (R198): no pool address enters it. -/
def LineAt.tweak (a : LineAt) : Nat := a.ofs + a.region * 2 ^ 40 + a.rec_.tenant * 2 ^ 54

/-- What the pool holds for a line: plaintext of an Open region, ciphertext otherwise (Table 9-5); none without keys (R196). -/
def State.encrypt (s : State) (a : LineAt) (data : Nat) : Option Nat :=
  if a.rec_.cls = 0 then some data else (s.xtsKey a.rec_.tenant).map (fun k => Config.xts k a.tweak data)

/-- The plaintext of what a pool returned; none without keys (R196). -/
def State.decrypt (s : State) (a : LineAt) (data : Nat) : Option Nat :=
  if a.rec_.cls = 0 then some data else (s.xtsKey a.rec_.tenant).map (fun k => Config.xtsInv k a.tweak data)

/-! ### The counter tree of Sealed regions (R200 to R208) -/

/-- The key of a leaf: region, region parcel and leaf number. -/
def leafKey (g r j : Nat) : Nat := g * 2 ^ 34 + r * 64 + j

/-- The key of a node of level 2 or above. -/
def nodeKey (level g i : Nat) : Nat := level * 2 ^ 60 + g * 2 ^ 40 + i

/-- The least k with 8^k at or above n, searching from k on. -/
def ceilLog8 (n k : Nat) : Nat → Nat
  | 0 => k
  | fuel + 1 => if n ≤ 8 ^ k then k else ceilLog8 n (k + 1) fuel

/-- The number of levels of a region's tree (R203). -/
def treeLevels (size : Nat) : Nat := if size ≤ 8 then 3 else 2 + ceilLog8 size 1 12

/-- The nodes of a level at or above 4 (R203). -/
def nodesOfLevel (size level : Nat) : Nat := (size + 8 ^ (level - 3) - 1) / 8 ^ (level - 3)

/-- The 4 KiB units of the tree area of a Sealed region (R204): every node of levels 4 to H at 64 bytes; 0 where H is 3. -/
def treeUnitsFor (size : Nat) : Nat :=
  let nodes := ((List.range (treeLevels size + 1)).filter (fun l => decide (4 ≤ l))).foldl (fun n l => n + nodesOfLevel size l) 0
  (nodes * 64 + 4095) / 4096

/-- The leaf that covers a line. -/
def State.leafOf (s : State) (a : LineAt) : Leaf := mgetD s.sec.leaves (leafKey a.region a.parcel (a.ln / 64)) {}

/-- Sets the leaf that covers a line. -/
def State.setLeaf (s : State) (a : LineAt) (l : Leaf) : State :=
  { s with sec.leaves := mputD s.sec.leaves (leafKey a.region a.parcel (a.ln / 64)) {} l }

/-- A node of level 2 or above. -/
def State.tnode (s : State) (level g i : Nat) : TNode := mgetD s.sec.nodes (nodeKey level g i) {}

/-- Sets a node. -/
def State.setTnode (s : State) (level g i : Nat) (n : TNode) : State :=
  { s with sec.nodes := mputD s.sec.nodes (nodeKey level g i) {} n }

/-- Raises private source 9 at every host port a region is bound on (Table 17-6). -/
def State.tellRegion (s : State) (g : Nat) : State :=
  (s.bindingsOf g).foldl (fun s b => s.raisePrivate (s.bndPort b) 9) s

/-- An integrity failure at a level (R210, R211): counted, first failures recorded, events raised, a contained fault of the tenant. -/
def State.integFail (s : State) (a : LineAt) (level : Nat) : State :=
  let s1 := s.inc SEC_INTEG_CNT
  let s2 := if s1.bit SEC_IFAIL_STAT_VALID then s1 else
    (((s1.setBit SEC_IFAIL_STAT_VALID true).setFld SEC_IFAIL_STAT_LEVEL level).setFld SEC_IFAIL_STAT_REGION a.region).setFld
      SEC_IFAIL_PARCEL_PARCEL (if 4 ≤ level then 0x0FFFFFFF else a.parcel)
  let i := match mget s2.sec.integ a.region with
    | some x => { x with count := satTo 32 (x.count + 1) }
    | none => { count := 1, ofs := a.ofs, level := level, frame := s2.time.frame }
  let s3 : State := { s2 with sec.integ := mput s2.sec.integ a.region i }
  ((s3.raiseShared 303).tellRegion a.region).reportCode 0x0503 a.rec_.tenant (some a.parcel) level

end Sys2Proof.Machine
end

