-- ==== Sys2Proof/Machine/Integrity.lean ====
section
/-! DEFINITION. The integrity of Sealed regions (R200 to R211): their MACs, the place of their metadata on the pools, the check of a line's path,
what a write does to its leaf and its MAC, and the metadata written back. -/
namespace Sys2Proof.Machine
open Sys2Proof

/-! ### MACs (R205, Table 9-8) -/

/-- A MAC: the first 56 bits of the AES-256-CMAC of a header and a body under KM (log entry 190). -/
def mac56 (km : Nat) (header body : List Nat) : Nat := Config.cmac km (header ++ body) / 2 ^ 72 % 2 ^ 56

/-- The 16-byte header of a MAC. -/
def macHeader (level index minor region counter : Nat) : List Nat :=
  level :: (bytesOf index 5 ++ minor :: (bytesOf region 2 ++ bytesOf counter 7))

/-- The MAC of a leaf or node, from the bits of its block below its MAC and its counter in its parent. -/
def entryMac (km level index region counter body : Nat) : Nat := mac56 km (macHeader level index 0 region counter) (bytesOf body 56)

/-- The MAC of a line. -/
def lineMac (km : Nat) (a : LineAt) (minor major cipher : Nat) : Nat := mac56 km (macHeader 0 a.ofs minor a.region major) (bytesOf cipher 64)

/-! ### Blocks (R201, R202, Tables 9-6 and 9-7) -/

/-- The bit at which the MAC of a leaf or node lies in its block. -/
def macBit (level : Nat) : Nat := if level = 1 then 440 else 448

/-- The bits of a leaf's block below its MAC. -/
def Leaf.body (l : Leaf) : Nat := l.minors.foldl (fun n e => n + e.2 % 64 * 2 ^ (56 + 6 * e.1)) (l.major % 2 ^ 56)

/-- The bits of a node's block below its MAC. -/
def TNode.body (n : TNode) : Nat := n.counters.foldl (fun b e => b + e.2 % 2 ^ 56 * 2 ^ (56 * e.1)) 0

/-- Fields of one width read from a number as a map that leaves out those that are 0. -/
def fieldsOf (b ofs width n : Nat) : NMap Nat :=
  (List.range n).filterMap (fun k =>
    let v := b / 2 ^ (ofs + width * k) % 2 ^ width
    if v = 0 then none else some (k, v))

/-- The index at level l of the ancestor of an entry (R203): a child's index ÷ 8 at every level. -/
def ancestor (level i l : Nat) : Nat := i / 8 ^ (l - level)

/-- The leaf of an index of a region. -/
def State.leafAt (s : State) (g i : Nat) : Leaf := mgetD s.sec.leaves (leafKey g (i / 64) (i % 64)) {}

/-- Changes the flags of a leaf (level 1) or node. -/
def State.modEntry (s : State) (level g i : Nat) (f : Leaf → Leaf) (h : TNode → TNode) : State :=
  if level = 1 then { s with sec.leaves := mputD s.sec.leaves (leafKey g (i / 64) (i % 64)) {} (f (s.leafAt g i)) }
  else s.setTnode level g i (h (s.tnode level g i))

/-- Whether a leaf or node is in the cache. -/
def State.entryCached (s : State) (level g i : Nat) : Bool := if level = 1 then (s.leafAt g i).cached else (s.tnode level g i).cached

/-- Whether both copies of a leaf or node were lost while it was dirty (R207). -/
def State.entryLost (s : State) (level g i : Nat) : Bool := if level = 1 then (s.leafAt g i).bothLost else (s.tnode level g i).bothLost

/-- The bits of a leaf's or node's block below its MAC. -/
def State.entryBody (s : State) (level g i : Nat) : Nat := if level = 1 then (s.leafAt g i).body else (s.tnode level g i).body

/-- The MAC last written with a leaf or node. -/
def State.entryTag (s : State) (level g i : Nat) : Option Nat := if level = 1 then (s.leafAt g i).mac else (s.tnode level g i).mac

/-- The counter a leaf or node has in its parent, in the region root for one of level H (R203). -/
def State.parentCounter (s : State) (size level g i : Nat) : Nat :=
  if level = treeLevels size then mgetD (mgetD s.sec.roots g []) i 0 else mgetD (s.tnode (level + 1) g (i / 8)).counters (i % 8) 0

/-- The block of a leaf or node as it was last written to its pool. -/
def State.entryBlock (s : State) (km size level g i : Nat) : Nat :=
  let b := s.entryBody level g i
  b + (s.entryTag level g i).getD (entryMac km level i g (s.parentCounter size level g i) b) * 2 ^ macBit level

/-! ### Places (R200, R201, R204) -/

/-- The parcels of a pool (OXB_POOL_SIZE). -/
def State.poolSize (s : State) (p : Nat) : Nat := s.fld (OXB_POOL_SIZE_SIZE p)

/-- The parcels of a metadata carve-out (R200). -/
def carve (size : Nat) : Nat := (size + 7) / 8

/-- The place of an element on a pool (R200, R201, R204): data lines, slot blocks, or blocks of the tail. -/
def State.elementAt (s : State) (tree : Bool) (pool place e : Nat) : Nat :=
  let n := s.poolSize pool - carve (s.poolSize pool)
  if tree then n * 262144 + n * 36864 + place * 4096 + (e - 4096) * 64
  else if e < 4096 then place * 262144 + e * 64
  else n * 262144 + place * 36864 + (e - 4096) * 64

/-- The block of a slot an entry lies in (Table 9-6): a MAC block (level 0, by parcel × 448 + block), a leaf, a level-2 node or the parcel node. -/
def slotBlock (level i : Nat) : Nat :=
  if level = 0 then i % 448 else if level = 1 then 448 + i % 64 else if level = 2 then 512 + i % 8 else 520

/-- The block of a region's tree area a node lies in (R204): by level, then by index. -/
def treeBlock (size level i : Nat) : Nat :=
  ((List.range level).filter (fun l => decide (4 ≤ l))).foldl (fun n l => n + nodesOfLevel size l) 0 + i

/-- The region parcel an entry below level 4 belongs to. -/
def parcelOf (level i : Nat) : Nat := if level = 0 then i / 448 else if level = 1 then i / 64 else if level = 2 then i / 8 else i

/-- The pool and address of an entry's block: in its parcel's slot, or in the region's tree area. -/
def State.metaPlace (s : State) (r : Region) (level i : Nat) : Option (Nat × Nat) :=
  if 4 ≤ level then some (r.treePool, s.elementAt true r.treePool r.treeUnit (4096 + treeBlock r.size level i))
  else
    let e := s.ttEntry (r.ttBase + parcelOf level i)
    if e.valid then some (e.pool, s.elementAt false e.pool e.ppi (4096 + slotBlock level i)) else none

/-- The tenant cryptography reaches an entry's block (Table 9-9): its pool's port is up and the port's gate allows it (log entry 191). -/
def State.metaAccess (s : State) (k : GKind) (r : Region) (level i : Nat) : Option (Nat × Nat) × State :=
  match s.metaPlace r level i with
  | none => (none, s)
  | some (p, a) =>
    if ! s.linkUp p then (none, s)
    else
      let c := s.gateCheck p initCrypto k a 64
      (if c.1 = .allow then some (p, a) else none, c.2)

/-! ### The check of a path (R206) -/

/-- What was returned for a block, where it is not what was last written. -/
def returned (l : List (Nat × Nat)) (k : Nat) : Option Nat := (l.find? (fun e => e.1 == k)).map (fun e => e.2 % 2 ^ 512)

/-- A fetched block enters the cache as its leaf or node. -/
def State.fillEntry (s : State) (level g i b : Nat) : State :=
  s.modEntry level g i
    (fun l => { l with major := b % 2 ^ 56, minors := fieldsOf b 56 6 64, cached := true, mac := some (b / 2 ^ 440 % 2 ^ 56) })
    (fun n => { n with counters := fieldsOf b 0 56 8, cached := true, mac := some (b / 2 ^ 448 % 2 ^ 56) })

/-- One element of a path: a cached one is trusted; any other is fetched, and enters the cache where it verifies against its parent. -/
def State.verifyEntry (s : State) (km g : Nat) (r : Region) (level i : Nat) (f : Fetched) : Bool × State :=
  if s.entryCached level g i then (true, s)
  else if s.entryLost level g i then (false, s)
  else
    let c := (s.tally 350 0x090 1).metaAccess .read r level i
    if c.1.isNone then (false, c.2)
    else
      let b := (returned f.path level).getD (s.entryBlock km r.size level g i)
      let s1 := c.2.tally 350 0x091 1
      if entryMac km level i g (s.parentCounter r.size level g i) (b % 2 ^ macBit level) = b / 2 ^ macBit level % 2 ^ 56 then
        (true, s1.fillEntry level g i b)
      else (false, s1)

/-- The check of the ancestors of an entry at some levels, from the top down: the first that fails ends it, and its level is answered. -/
def State.checkLevels (s : State) (km g : Nat) (r : Region) (level i : Nat) (f : Fetched) : List Nat → Option Nat × State
  | [] => (none, s)
  | l :: t =>
    let v := s.verifyEntry km g r l (ancestor level i l) f
    if v.1 then v.2.checkLevels km g r level i f t else (some l, v.2)

/-- The check of everything at or above a level that an entry of that level hangs from. -/
def State.checkPath (s : State) (km g : Nat) (r : Region) (level i : Nat) (f : Fetched) (above : Bool) : Option Nat × State :=
  s.checkLevels km g r level i f
    ((List.range (treeLevels r.size + 1)).filter (fun l => decide (if above then level < l else level ≤ l))).reverse

/-- The index of the leaf that covers a line. -/
def LineAt.leaf (a : LineAt) : Nat := a.parcel * 64 + a.ln / 64

/-! ### Line MACs (Table 9-6) -/

/-- The MAC blocks of a run that hold the MAC of line k of a leaf. -/
def macBlocks (k : Nat) : List Nat := if 7 * k / 64 = (7 * k + 6) / 64 then [7 * k / 64] else [7 * k / 64, 7 * k / 64 + 1]

/-- A field of a number replaced. -/
def setField (n ofs width v : Nat) : Nat := n - n / 2 ^ ofs % 2 ^ width * 2 ^ ofs + v % 2 ^ width * 2 ^ ofs

/-- The MAC of line k in a run. -/
def macAt (run k : Nat) : Nat := run / 2 ^ (56 * k) % 2 ^ 56

/-- The MAC blocks of a leaf. -/
def State.macRun (s : State) (g i : Nat) : MacRun := mgetD s.sec.macs (leafKey g (i / 64) (i % 64)) {}

/-- Sets the MAC blocks of a leaf. -/
def State.setMacRun (s : State) (g i : Nat) (m : MacRun) : State :=
  { s with sec.macs := mputD s.sec.macs (leafKey g (i / 64) (i % 64)) {} m }

/-- The line numbered k of a line's leaf. -/
def LineAt.sibling (a : LineAt) (k : Nat) : LineAt := { a with ln := a.ln / 64 * 64 + k }

/-- The run of a leaf whose lines are as the bulk engine filled them: zero plaintext under counters of 0 (R146, R202). -/
def State.freshRun (s : State) (km : Nat) (a : LineAt) : Nat :=
  (List.range 64).foldl (fun n k => n + lineMac km (a.sibling k) 0 0 ((s.encrypt (a.sibling k) 0).getD 0) * 2 ^ (56 * k)) 0

/-- The run of a line's leaf with the MAC blocks of the line fetched where they are not cached; none where one is lost or cannot be reached. -/
def State.fetchMacs (s : State) (km : Nat) (a : LineAt) (f : Fetched) : Option Nat × State :=
  let m := s.macRun a.region a.leaf
  (macBlocks (a.ln % 64)).foldl (fun x b =>
    match x.1 with
    | none => x
    | some run =>
      if m.lost.contains b then (none, x.2)
      else if m.cached.contains b then x
      else
        let c := (x.2.tally 350 0x090 1).metaAccess .read a.rec_ 0 (a.leaf * 7 + b)
        if c.1.isNone then (none, c.2)
        else (some (match returned f.macs b with
          | some v => setField run (512 * b) 512 v
          | none => run), c.2)) (some (m.run.getD (s.freshRun km a)), s)

/-- The MAC of a line is checked against its ciphertext, its MINOR and its leaf's MAJOR (R206). -/
def State.verifyLine (s : State) (km : Nat) (a : LineAt) (cipher : Nat) (f : Fetched) : Bool × State :=
  let l := s.leafOf a
  let x := s.fetchMacs km a f
  match x.1 with
  | none => (false, x.2)
  | some run =>
    let s1 := x.2.tally 350 0x091 1
    if lineMac km a (mgetD l.minors (a.ln % 64) 0) l.major cipher = macAt run (a.ln % 64) then
      let m := s1.macRun a.region a.leaf
      (true, s1.setMacRun a.region a.leaf { m with run := some run, cached := (macBlocks (a.ln % 64)).foldl sadd m.cached })
    else (false, s1)

/-- A new MAC is written into the cached MAC blocks of a line (R206). -/
def State.putMac (s : State) (km : Nat) (a : LineAt) (v : Nat) (f : Fetched) : State :=
  let x := s.fetchMacs km a f
  let m := x.2.macRun a.region a.leaf
  let run := x.1.getD (m.run.getD (s.freshRun km a))
  let b := macBlocks (a.ln % 64)
  x.2.setMacRun a.region a.leaf { m with
    run := some (setField run (56 * (a.ln % 64)) 56 v), cached := b.foldl sadd m.cached, dirty := b.foldl sadd m.dirty }

/-- A line's path and then its MAC are checked: the level of the element that fails. -/
def State.checkLine (s : State) (km : Nat) (a : LineAt) (cipher : Nat) (f : Fetched) : Option Nat × State :=
  let p := s.checkPath km a.region a.rec_ 1 a.leaf f false
  match p.1 with
  | some l => (some l, p.2)
  | none =>
    let v := p.2.verifyLine km a cipher f
    (if v.1 then none else some 0, v.2)

/-! ### Writes (R206) -/

/-- The outcome of preparing a line for its pool: what is written, a failure of its metadata, an overflow of its MINOR (R208), or no keys. -/
inductive LineOut where
  | write (data : Nat) (s : State)
  | failed (s : State)
  | overflow (s : State)
  | noKey

/-- Prepares a line for the pool (Table 9-5): encryption, and for a Sealed region the counter and the MAC of R206. -/
def State.sealLine (s : State) (a : LineAt) (data : Nat) (f : Fetched) : LineOut :=
  match s.encrypt a data, s.macKey a.rec_.tenant with
  | none, _ => .noKey
  | some c, none => if a.rec_.cls ≠ 2 then .write c s else .noKey
  | some c, some km =>
    if a.rec_.cls ≠ 2 then .write c s
    else
      let p := s.checkPath km a.region a.rec_ 1 a.leaf f false
      match p.1 with
      | some l => .failed (p.2.integFail a l)
      | none =>
        let lf := p.2.leafOf a
        let n := mgetD lf.minors (a.ln % 64) 0
        if n = 63 then
          if lf.major + 1 < 2 ^ 56 then .overflow p.2 else .failed (p.2.reportCode 0x0504 a.rec_.tenant (some a.parcel) 0)
        else
          .write c ((p.2.setLeaf a { lf with minors := mput lf.minors (a.ln % 64) (n + 1), dirty := true }).putMac km a
            (lineMac km a (n + 1) lf.major c) f)

/-- The end of an overflow (R208): MAJOR rises, every MINOR returns to 0, and each line read has a new MAC, or its complement where it failed. -/
def State.overflowLeaf (s : State) (km : Nat) (a : LineAt) (got : NMap (Nat × Bool)) : State :=
  let l := s.leafOf a
  let s1 := s.setLeaf a { l with major := l.major + 1, minors := [], cached := true, dirty := true }
  got.foldl (fun s e =>
    let b := a.sibling e.1
    let v := lineMac km b 0 (l.major + 1) e.2.1
    s.putMac km b (if e.2.2 then v else 2 ^ 56 - 1 - v) {}) s1

/-! ### Fresh slots and tree areas (R146, R202, R204) -/

/-- The blocks of a slot whose parcel has just been filled with zero plaintext (Table 9-6). -/
def State.freshBlocks (s : State) (km g : Nat) (x : Region) (r : Nat) : List Nat :=
  let a : LineAt := { region := g, rec_ := x, parcel := r, ln := 0 }
  (List.range 64).flatMap (fun j =>
      let run := s.freshRun km { a with ln := 64 * j }
      (List.range 7).map (fun b => run / 2 ^ (512 * b) % 2 ^ 512)) ++
    (List.range 64).map (fun j => entryMac km 1 (r * 64 + j) g 0 0 * 2 ^ macBit 1) ++
    (List.range 8).map (fun k => entryMac km 2 (r * 8 + k) g 0 0 * 2 ^ macBit 2) ++
    [entryMac km 3 r g (s.parentCounter x.size 3 g r) 0 * 2 ^ macBit 3] ++ List.replicate 55 0

/-- The slot of a parcel is initialised: its leaves, nodes and MACs return to their first state (R146, R244). -/
def State.freshSlot (s : State) (g r pool ppi : Nat) : State :=
  let s1 : State := { s with
    sec.leaves := s.sec.leaves.filter (fun e => e.1 / 64 != leafKey g r 0 / 64),
    sec.macs := s.sec.macs.filter (fun e => e.1 / 64 != leafKey g r 0 / 64),
    sec.nodes := s.sec.nodes.filter (fun e =>
      ! ((e.1 / 2 ^ 60 == 2 && e.1 / 2 ^ 40 % 2 ^ 20 == g && e.1 % 2 ^ 40 / 8 == r) ||
        (e.1 / 2 ^ 60 == 3 && e.1 / 2 ^ 40 % 2 ^ 20 == g && e.1 % 2 ^ 40 == r))) }
  match mget s.bnd.regions g with
  | none => s1
  | some x => match s1.macKey x.tenant with
    | some km => s1.emit (.poolBlocks pool (s1.elementAt false pool ppi 4096) (s1.freshBlocks km g x r))
    | none => s1

/-- The tree area of a new Sealed region is initialised: every counter is 0 (R202, R204). -/
def State.freshTree (s : State) (g : Nat) (x : Region) : State :=
  match s.macKey x.tenant with
  | some km =>
    if x.treeUnits = 0 then s
    else s.emit (.poolBlocks x.treePool (s.elementAt true x.treePool x.treeUnit 4096)
      (((List.range (treeLevels x.size + 1)).filter (fun l => decide (4 ≤ l))).flatMap (fun l =>
        (List.range (nodesOfLevel x.size l)).map (fun i => entryMac km l i g 0 0 * 2 ^ macBit l))))
  | none => s

/-! ### Metadata written back (R207) -/

/-- The move that an entry's write-back concerns: that of its parcel, or of the region's tree area. -/
def State.metaMove (s : State) (level g i : Nat) : Option Nat :=
  if 4 ≤ level then (s.oxb.moves.find? (fun e => e.2.tree && e.2.region == g)).map (fun e => e.1) else s.moveOf g (parcelOf level i)

/-- Increments the counter an entry has in its parent, the region root above level H (R203); none at the limit (R207). -/
def State.bumpParent (s : State) (size level g i : Nat) : Option State :=
  let c := s.parentCounter size level g i
  if 2 ^ 56 ≤ c + 1 then none
  else if level = treeLevels size then some { s with sec.roots := mput s.sec.roots g (mput (mgetD s.sec.roots g []) i (c + 1)) }
  else
    let n := s.tnode (level + 1) g (i / 8)
    some (s.setTnode (level + 1) g (i / 8) { n with counters := mput n.counters (i % 8) (c + 1), cached := true, dirty := true })

/-- Whether an overflow re-MAC holds a leaf or its MAC blocks (R208). -/
def State.remacHolds (s : State) (r : Region) (level i : Nat) : Bool :=
  decide (level < 2) && (mget s.home.remac (r.ttBase * 64 + (if level = 0 then i / 7 else i))).isSome

/-- Whether an entry may be written back now: not twice in a frame, not while its move is in its flip frame, and not while an overflow re-MAC holds it
(R207, R208, R237). -/
def State.mayWriteBack (s : State) (r : Region) (level g i : Nat) (wb : Option Nat) : Bool :=
  wb != some s.time.frame && ! s.remacHolds r level i && (match s.metaMove level g i with
    | some m => (match mget s.oxb.moves m with
      | some x => x.phase == .copying
      | none => true)
    | none => true)

/-- The block of an entry that is written back clears its copied bit in an open move (R241). -/
def State.metaWritten (s : State) (size level g i : Nat) : State :=
  match s.metaMove level g i with
  | none => s
  | some m =>
    let b := if 4 ≤ level then treeBlock size level i else slotBlock level i
    { s with oxb.moves := mmod s.oxb.moves m (fun x => { x with blocks := setOff x.blocks b, reading := mmod x.reading (4096 + b) (fun _ => true) }) }

/-- A MAC block leaves the cache: a dirty one is written to its slot, without any change of a parent. -/
def State.writeMacBlock (s : State) (g : Nat) (r : Region) (i : Nat) : State :=
  let m := s.macRun g (i / 7)
  let b := i % 7
  let set := fun (s : State) (m : MacRun) => s.setMacRun g (i / 7) m
  if ! m.cached.contains b then s
  else if ! m.dirty.contains b then set s { m with cached := sdel m.cached b }
  else if ! s.mayWriteBack r 0 g i (mget m.wb b) then set s { m with waiting := sadd m.waiting b }
  else
    let c := s.metaAccess .write r 0 i
    match c.1 with
    | none => set c.2 { m with waiting := sadd m.waiting b }
    | some (p, a) =>
      (set (c.2.emit (.poolBlocks p a [m.run.getD 0 / 2 ^ (512 * b) % 2 ^ 512])) { m with
        cached := sdel m.cached b, dirty := sdel m.dirty b, waiting := sdel m.waiting b, wb := mput m.wb b s.time.frame }).metaWritten r.size 0 g i

/-- An entry that must leave the cache waits in the victim buffer until the next Daybreak (R207). -/
def State.awaitVictim (s : State) (level g i : Nat) : State :=
  s.modEntry level g i (fun l => { l with waiting := true }) (fun n => { n with waiting := true })

/-- A leaf or node leaves the cache without being written. -/
def State.dropEntry (s : State) (level g i : Nat) : State :=
  s.modEntry level g i (fun l => { l with cached := false, dirty := false, waiting := false })
    (fun n => { n with cached := false, dirty := false, waiting := false })

/-- A dirty leaf or node is written to its place (R207): its counter in its parent rises, and its MAC is made again under it. -/
def State.writeEntry (s : State) (km g : Nat) (r : Region) (level i : Nat) : State :=
  let c := s.metaAccess .write r level i
  match c.1 with
  | none => c.2.awaitVictim level g i
  | some (p, a) => match c.2.bumpParent r.size level g i with
    | none => c.2.reportCode 0x0504 r.tenant (if level < 4 then some (parcelOf level i) else none) level
    | some s1 =>
      let b := s1.entryBody level g i
      let m := entryMac km level i g (s1.parentCounter r.size level g i) b
      ((s1.emit (.poolBlocks p a [b + m * 2 ^ macBit level])).modEntry level g i
        (fun l => { l with cached := false, dirty := false, waiting := false, wbFrame := some s.time.frame, mac := some m })
        (fun n => { n with cached := false, dirty := false, waiting := false, wbFrame := some s.time.frame, mac := some m })).metaWritten r.size level g i

/-- A leaf or node leaves the cache (R207): a clean one is dropped. A dirty one is written back once its parent has been fetched and verified; one
that may not be written now waits in the victim buffer, and one whose tenant has no keys any more is dropped (log entry 191). -/
def State.writeBack (s : State) (g level i : Nat) (f : Fetched) : State :=
  match mget s.bnd.regions g with
  | none => s
  | some r =>
    if level = 0 then s.writeMacBlock g r i
    else if ! s.entryCached level g i then s
    else if ! (if level = 1 then (s.leafAt g i).dirty else (s.tnode level g i).dirty) then s.dropEntry level g i
    else if ! s.mayWriteBack r level g i (if level = 1 then (s.leafAt g i).wbFrame else (s.tnode level g i).wbFrame) then s.awaitVictim level g i
    else match s.macKey r.tenant with
      | none => if (mget s.sec.slots r.tenant).isSome then s.awaitVictim level g i else s.dropEntry level g i
      | some km =>
        let c := s.checkPath km g r level i f true
        match c.1 with
        | some l => (c.2.integFail { region := g, rec_ := r, parcel := if level < 4 then parcelOf level i else i * 8 ^ (level - 3), ln := 0 } l).awaitVictim level g i
        | none => c.2.writeEntry km g r level i

/-- Both Reservoir copies of an entry have failed (R207): every line below a dirty one reads as an integrity failure; a clean one is dropped (R25). -/
def State.loseEntry (s : State) (g level i : Nat) : State :=
  if level = 0 then
    let m := s.macRun g (i / 7)
    s.setMacRun g (i / 7) { m with
      cached := sdel m.cached (i % 7), dirty := sdel m.dirty (i % 7), waiting := sdel m.waiting (i % 7),
      lost := if m.dirty.contains (i % 7) then sadd m.lost (i % 7) else m.lost }
  else
    s.modEntry level g i (fun l => { l with bothLost := l.bothLost || l.dirty, dirty := false, cached := false, waiting := false })
      (fun n => { n with bothLost := n.bothLost || n.dirty, dirty := false, cached := false, waiting := false })

/-- At a Daybreak the entries waiting in the victim buffer are written back (R207). -/
def State.drainVictims (s : State) : State :=
  let s1 := (s.sec.leaves.filter (fun e => e.2.waiting)).foldl (fun s e => s.writeBack (e.1 / 2 ^ 34) 1 (e.1 % 2 ^ 34) {}) s
  let s2 := (s1.sec.nodes.filter (fun e => e.2.waiting)).foldl (fun s e => s.writeBack (e.1 / 2 ^ 40 % 2 ^ 20) (e.1 / 2 ^ 60) (e.1 % 2 ^ 40) {}) s1
  s2.sec.macs.foldl (fun s e => e.2.waiting.foldl (fun s b => s.writeBack (e.1 / 2 ^ 34) 0 (e.1 % 2 ^ 34 * 7 + b) {}) s) s2

end Sys2Proof.Machine
end

