-- ==== Sys2Proof/Machine/Home.lean ====
section
/-! DEFINITION. The home agent (chapter 8): host slots, the directory and its two levels, transaction entries, the state table, writebacks,
evictions, draining and timeouts. -/
namespace Sys2Proof.Machine
open Sys2Proof

/-! ### Lines, slices and slots (R161 to R164) -/

/-- Bits [i+3:i] of a line ID. -/
def lineNibble (l i : Nat) : Nat := l / 2 ^ i % 16

/-- The slice of a line (R162). -/
def sliceOf (l : Nat) : Nat :=
  Nat.xor (Nat.xor (Nat.xor (lineNibble l 0) (lineNibble l 12)) (lineNibble l 24)) (lineNibble l 36)

/-- The set of a line in the full directory (R166). -/
def fullSet (l : Nat) : Nat := l / 16 % 2097152

/-- The set of a line in its slice's directory cache (R166). -/
def cacheSet (l : Nat) : Nat := l / 16 % 40960

/-- This switch's own member number. -/
def State.ownMember (s : State) : Nat := s.cur GRP_CFG_MEMBER

/-- The host slot of a member's port in force (R163). -/
def State.slotAt (s : State) (member port : Nat) : Option Nat :=
  (List.range 64).find? (fun k =>
    s.curBit (HOM_HOST_MAP_VALID k) && s.cur (HOM_HOST_MAP_MEMBER k) == member && s.cur (HOM_HOST_MAP_PORT k) == port)

/-- The state of a host slot: 0 unmapped, 1 active, 2 draining, 3 drained. -/
def State.slotSt (s : State) (k : Nat) : Nat := s.fld (HOM_HOST_STAT_STATE k)

/-- The port that carries group traffic to a peer (R428): that of the first ISL its peer entry lists. -/
def State.portToMember (s : State) (m : Nat) : Option Nat :=
  ((List.range 8).find? (fun i => s.fld (GRP_PEER_ISLS m) / 2 ^ i % 2 == 1)).map (fun i => s.cur (ISL_CFG_PORT i))

/-- The port a message for a host slot leaves by. -/
def State.slotPort (s : State) (k : Nat) : Option Nat :=
  if s.cur (HOM_HOST_MAP_MEMBER k) = s.ownMember then some (s.cur (HOM_HOST_MAP_PORT k)) else s.portToMember (s.cur (HOM_HOST_MAP_MEMBER k))

/-! ### Transaction entries (R168) -/

/-- The entries of a slice, in lookup order. -/
def State.tts (s : State) (sl : Nat) : List Tt := mgetD s.home.tt sl []

/-- Sets the entries of a slice. -/
def State.setTts (s : State) (sl : Nat) (l : List Tt) : State := { s with home.tt := mputD s.home.tt sl [] l }

/-- The entry of a number. -/
def State.ttOf (s : State) (sl id : Nat) : Option Tt := (s.tts sl).find? (fun t => t.id == id)

/-- Replaces an entry. -/
def State.putTt (s : State) (sl : Nat) (t : Tt) : State := s.setTts sl ((s.tts sl).map (fun u => if u.id = t.id then t else u))

/-- Removes an entry. -/
def State.delTt (s : State) (sl id : Nat) : State := s.setTts sl ((s.tts sl).filter (fun u => u.id != id))

/-- Whether an overflow re-MAC holds a line (R208). -/
def State.remacBusy (s : State) (line : Nat) : Bool := (mget s.home.remac (line / 64)).isSome

/-- Whether a line is busy: it has an entry, or an overflow re-MAC holds it (R168, R208). -/
def State.lineBusy (s : State) (sl line : Nat) : Bool := (s.tts sl).any (fun t => t.line == line) || s.remacBusy line

/-- Whether an entry serves a request (R168). -/
def Tt.isReq (t : Tt) : Bool :=
  match t.work with
  | .req _ => true
  | _ => false

/-- How many entries of a slice serve requests. -/
def State.reqEntries (s : State) (sl : Nat) : Nat := ((s.tts sl).filter Tt.isReq).length

/-- How many reserved entries of a slice are in use. -/
def State.rsvEntries (s : State) (sl : Nat) : Nat := ((s.tts sl).filter (fun t => ! t.isReq)).length

/-- A new entry at the end of a slice's list. -/
def State.addTt (s : State) (sl line : Nat) (w : TtWork) : Nat × State :=
  let id := s.home.serial
  let t : Tt := { id := id, line := line, work := w, phase := .waiting }
  (id, ({ s with home.serial := s.home.serial + 1 } : State).setTts sl (s.tts sl ++ [t]))

/-! ### Directory (R165, R166, R181, R182) -/

/-- The directory entry of a line. -/
def State.dirOf (s : State) (line : Nat) : Option DirEnt := mget s.home.dir line

/-- Sets or removes a directory entry. -/
def State.setDir (s : State) (line : Nat) (e : Option DirEnt) : State :=
  match e with
  | some x => { s with home.dir := mput s.home.dir line x }
  | none => { s with home.dir := mdel s.home.dir line }

/-- The slots an entry names. -/
def DirEnt.slots (e : DirEnt) : List Nat := bitsOn e.sharers 64

/-- A mask of slots. -/
def slotMask (l : List Nat) : Nat := l.foldl setOn 0

/-- The lines of a slice whose entries lie in a full-directory set. -/
def State.inFullSet (s : State) (sl set : Nat) : List (Nat × DirEnt) :=
  s.home.dir.filter (fun e => sliceOf e.1 == sl && fullSet e.1 == set)

/-- The free ways of a line's full-directory set, lowest first. -/
def State.freeWays (s : State) (line : Nat) : List Nat :=
  let used := (s.inFullSet (sliceOf line) (fullSet line)).map (fun e => e.2.way)
  (List.range 16).filter (fun w => ! used.contains w)

/-- The entries of a slice that wait for a way of a line's full-directory set (R169); one whose slot drains names no host and waits for none. -/
def State.wayWaiters (s : State) (line : Nat) : List Tt :=
  (s.tts (sliceOf line)).filter (fun t => t.wayAt.isSome && ! t.drained && fullSet t.line == fullSet line)

/-- How many of them began to wait before an entry that began at `at_`; all of them for one that does not wait yet. -/
def State.waysAhead (s : State) (line : Nat) (at_ : Option Nat) : Nat :=
  ((s.wayWaiters line).filter (fun t => match t.wayAt, at_ with
    | some i, some j => decide (i < j)
    | _, _ => true)).length

/-- The way a new entry of a line takes: a free one beyond those of the requests that began to wait earlier (R169). -/
def State.freeWay (s : State) (line : Nat) (at_ : Option Nat) : Option Nat := (s.freeWays line)[s.waysAhead line at_]?

/-- The evictions open in a line's full-directory set. -/
def State.evictions (s : State) (line : Nat) : Nat :=
  ((s.tts (sliceOf line)).filter (fun t => t.work == .evict && fullSet t.line == fullSet line)).length

/-- Whether the requests that wait for ways of a line's set outnumber its free ways and the evictions open there (R169, R182). -/
def State.wayShort (s : State) (line : Nat) : Bool :=
  decide ((s.freeWays line).length + s.evictions line < (s.wayWaiters line).length)

/-- The victim of a full-directory eviction (R182): fewest sharers among lines not busy, lowest way first. -/
def State.fullVictim (s : State) (line : Nat) : Option Nat :=
  let sl := sliceOf line
  let l := (s.inFullSet sl (fullSet line)).filter (fun e => ! s.lineBusy sl e.1)
  (l.foldl (fun best e =>
    match best with
    | none => some e
    | some b =>
      let p := popCount e.2.sharers 64
      let q := popCount b.2.sharers 64
      if p < q ∨ (p = q ∧ e.2.way < b.2.way) then some e else some b) (none : Option (Nat × DirEnt))).map (fun e => e.1)

/-- The lines of a slice cached in a cache set. -/
def State.inCacheSet (s : State) (sl set : Nat) : List (Nat × DirEnt) :=
  s.home.dir.filter (fun e => e.2.cached && sliceOf e.1 == sl && cacheSet e.1 == set)

/-! #### The pseudo-LRU state of a cache set (R166)

Fifteen bits, one for each node of a binary tree over the sixteen ways: node n has nodes 2n and 2n + 1 below it, and its bit says in which half the
way used longer ago lies (log entry 185). -/

/-- A way of a set is used: every node above it points away from it. -/
def plruTouch (bits way : Nat) : Nat :=
  (List.range 4).foldl (fun b d =>
    let node := 2 ^ d + way / 2 ^ (4 - d)
    if bitOn way (3 - d) then setOff b (node - 1) else setOn b (node - 1)) bits

/-- The way the state points to among those that may be taken: at a node whose half holds none of them the other half is searched. -/
def plruVictim (bits : Nat) (free : Nat → Bool) : Nat → Nat → Nat → Option Nat
  | _, way, 0 => if free way then some way else none
  | node, way, d + 1 =>
    let side := if bitOn bits (node - 1) then 1 else 0
    match plruVictim bits free (2 * node + side) (way + side * 2 ^ d) d with
    | some w => some w
    | none => plruVictim bits free (2 * node + (1 - side)) (way + (1 - side) * 2 ^ d) d

/-- The pseudo-LRU state of a line's cache set. -/
def State.plruOf (s : State) (line : Nat) : Nat := mgetD s.home.plru (sliceOf line * 40960 + cacheSet line) 0

/-- A way of a line's cache set is used. -/
def State.touchWay (s : State) (line way : Nat) : State :=
  { s with home.plru := mputD s.home.plru (sliceOf line * 40960 + cacheSet line) 0 (plruTouch (s.plruOf line) way) }

/-- A line's entry takes a way of its cache set. -/
def State.takeWay (s : State) (line way : Nat) : State :=
  match s.dirOf line with
  | some e => (s.setDir line (some { e with cached := true, cway := way, dirty := false })).touchWay line way
  | none => s

/-- An entry enters the directory cache (R166, R181): in a free way, or in that of the least recently used line that is not busy, whose
dirty entry is written back. When every way is busy the entry is not cached. -/
def State.cacheIn (s : State) (line : Nat) : State :=
  match s.dirOf line with
  | none => s
  | some e =>
    if e.cached then s.touchWay line e.cway
    else
      let sl := sliceOf line
      let l := s.inCacheSet sl (cacheSet line)
      match (List.range 16).find? (fun w => ! l.any (fun x => x.2.cway == w)) with
      | some w => s.takeWay line w
      | none =>
        let idle := fun (w : Nat) => l.any (fun x => x.2.cway == w && ! s.lineBusy sl x.1)
        match plruVictim (s.plruOf line) idle 1 0 4 with
        | some w => match l.find? (fun x => x.2.cway == w) with
          | some v => (s.setDir v.1 (some { v.2 with cached := false, dirty := false })).takeWay line w
          | none => s
        | none => s

/-- Changes the hosts an entry names: in the cache the entry becomes dirty, otherwise both stacks are written (R166). -/
def State.rename (s : State) (line sharers : Nat) (excl : Bool) : State :=
  match s.dirOf line with
  | some e => s.setDir line (some { e with sharers := sharers, excl := excl, dirty := e.cached })
  | none => s

/-- The bit of a slot leaves an entry. -/
def State.dropBit (s : State) (line k : Nat) : State :=
  match s.dirOf line with
  | some e => s.rename line (setOff e.sharers k) e.excl
  | none => s

/-- An entry that names no host is freed in both levels. -/
def State.freeEmpty (s : State) (line : Nat) : State :=
  match s.dirOf line with
  | some e => if e.sharers = 0 then s.setDir line none else s
  | none => s

/-! ### Messages of the home -/

/-- The message that stands for a request, as the requester sent it. -/
def hreqMsg (r : HReq) : Msg :=
  { src := r.src, dst := 128 + sliceOf r.line, kind := .mem r.op, bnd := some r.bnd, tag := r.tag, line := r.line }

/-- The traffic class of a binding's messages (R253). -/
def State.bndTc (s : State) (b : Nat) : Nat := s.cur (BND_CFG_QOS b)

/-- Sends a completion to the requester: as a completion of CXL.mem, or of a bulk engine's line. Answers whether it could be delivered. -/
def State.respond (s : State) (r : HReq) (k : MsgKind) (d : Nat) (poison : Bool) : Bool × State :=
  let m : Msg := {
    src := 128 + sliceOf r.line, dst := r.src, kind := if 146 ≤ r.src then .bulkCpl else k, len := if k = .ndr 0 then 0 else 64,
    tc := some (s.bndTc r.bnd), poison := poison, bnd := some r.bnd, tag := r.tag, line := r.line, data := d }
  (decide (128 ≤ r.src) || s.takes r.src m, s.sendQuiet m)

/-- Completes a request that is not served (R471): poisoned all-ones data, Cmp-E without data, or Cmp. -/
def State.unserved (s : State) (r : HReq) : State :=
  match answerTo (hreqMsg r) with
  | some a => s.sendQuiet { a with tc := some (s.bndTc r.bnd) }
  | none => (s.respond r (.ndr 0) 0 false).2

/-- Whether a request reads. -/
def hkReads : HKind → Bool
  | .rdCur => true | .rdShared => true | .rdOwn => true | _ => false

end Sys2Proof.Machine
end

