-- ==== Sys2Proof/Machine/HomeAgent.lean ====
section
/-! DEFINITION. What the home does with requests, writebacks and responses: the state table (Table 8-3), races (Table 8-4), draining,
timeouts, and the commands of chapter 8. -/
namespace Sys2Proof.Machine
open Sys2Proof

/-! ### Draining (R178) -/

/-- The pool's copy of a line is overwritten with poison, where its pool can be reached. -/
def State.poisonLine (s : State) (line : Nat) : State :=
  match s.poolOf line with
  | .ok (p, a) =>
    (s.send { src := 128 + sliceOf line, dst := p, kind := .poolWr, len := 64, poison := true, addr := a, line := line, data := allOnes, tag := s.home.serial }).moveWrite line
  | .error _ => s

/-- A draining slot leaves an entry: a line it may own is poisoned and returns to I; otherwise its bit is cleared. -/
def State.purge (s : State) (line k : Nat) : State :=
  match s.dirOf line with
  | some e =>
    if ! bitOn e.sharers k then s
    else if e.excl then (s.poisonLine line).setDir line none
    else (s.dropBit line k).freeEmpty line
  | none => s

/-- Whether the directory names a slot as the line's possible owner. -/
def State.owns (s : State) (line k : Nat) : Bool :=
  match s.dirOf line with
  | some e => e.excl && bitOn e.sharers k
  | none => false

/-- What draining of slot k does to one open entry: its snoop is answered as BIRspI, with the line poisoned if the slot owned it; a request of
the slot itself completes inside the slice. -/
def State.drainTt (k : Nat) (s : State) (x : Nat × Tt) : State :=
  let t := x.2
  let own := match t.work with
    | .req r => s.slotAt r.member r.port == some k && decide (r.src < 146)
    | _ => false
  let hit := t.waitSnp.contains k
  let bad := hit && s.owns t.line k
  let s1 := if hit then s.purge t.line k else s
  if own || hit then
    s1.putTt x.1 { t with drained := t.drained || own, waitSnp := sdel t.waitSnp k, bad := t.bad || bad }
  else s1

/-- A slot leaves the active state and drains (R178); an event goes to the fabric manager. `tmo` says a snoop timeout started it. -/
def State.drainSlot (s : State) (k : Nat) (tmo : Bool) : State :=
  if s.slotSt k ≠ 1 then s
  else
    let s1 := s.setFld (HOM_HOST_STAT_STATE k) 2
    let s2 := if tmo then s1.setBit (HOM_HOST_STAT_TMO_CAUSE k) true else s1
    let s3 := ({ s2 with
      home.sweeping := sadd s2.home.sweeping k,
      home.retry := s2.home.retry.map (fun e => (e.1, e.2.map (fun q =>
        if s.slotAt q.r.member q.r.port = some k ∧ q.r.src < 146 then { q with drained := true } else q))) } : State).raiseShared 304
    (s3.home.tt.flatMap (fun e => e.2.map (fun t => (e.1, t)))).foldl (State.drainTt k) s3

/-! ### Snoops (R174, R175) -/

/-- The binding through which a port reaches a line. -/
def State.bindingOfLine (s : State) (line port : Nat) : Option Nat :=
  match s.regionOfTt (line / 4096) with
  | some (g, _) => (s.bindingsOf g).find? (fun b => s.bndPort b == port)
  | none => none

/-- A BISnp is sent for a line through a port: counted for the slice and the binding it serves (R400, R406). -/
def State.countSnoop (s : State) (sl line port : Nat) : State :=
  let s1 := s.tally (256 + sl) 0x032 1
  match s.bindingOfLine line port with
  | some b => s1.page b (fun x => { x with bisnp := x.bisnp + 1 })
  | none => s1

/-- Sends a snoop to a slot: answers whether a response is awaited. A slot that is not active is answered inside the slice; a snoop that cannot
be delivered makes its slot drain (R178, R433). -/
def State.snoop (s : State) (sl line k kind : Nat) : Bool × State :=
  if s.slotSt k ≠ 1 then (false, s.purge line k)
  else
    let p := (s.slotPort k).getD 150
    let m : Msg := { src := 128 + sl, dst := p, kind := .bisnp kind, tc := (s.bindingOfLine line p).map s.bndTc, line := line, tag := k }
    if m.dst < 128 && s.takes m.dst m then (true, (s.countSnoop sl line m.dst).push m)
    else
      let s1 := ((if m.dst < 128 then s.answered m.dst else s).inc (HOM_SLC_SNP_UNDELIV sl)).drainSlot k false
      (false, s1.purge line k)

/-- Snoops a list of slots; answers those whose responses are awaited. -/
def State.snoopAll (s : State) (sl line kind : Nat) (l : List Nat) : List Nat × State :=
  l.foldl (fun a k =>
    let r := a.2.snoop sl line k kind
    (if r.1 then a.1 ++ [k] else a.1, r.2)) ([], s)

/-! ### Pool accesses -/

/-- The newest writeback buffer of a line (R170). -/
def State.bufOf (s : State) (sl line : Nat) : Option WBuf := ((mgetD s.home.wbuf sl []).filter (fun w => w.line == line)).getLast?

/-- The translation entry an entry's access is made under: that of its acceptance (R151). -/
def State.entryOf (s : State) (t : Tt) : TtEntry := t.ent.getD (s.ttEntry (t.line / 4096))

/-- Issues the read of an entry (R175): from a writeback buffer of the line, or from the pool; a fault of Table 7-4 completes it with poison. -/
def State.issueRead (s : State) (sl : Nat) (t : Tt) (r : HReq) : State :=
  if s.oxb.unacked.contains t.line then s.putTt sl { t with hold := true }
  else match s.bufOf sl t.line with
    | some w => s.putTt sl { t with stage := 1, data := some (w.data, w.poison) }
    | none => match s.poolAt t.line (s.entryOf t) with
      | .error c =>
        (s.putTt sl { t with stage := 1, data := some (allOnes, true) }).bindFault r.bnd c (s.parcelOfLine r.bnd t.line) r.dpa c .poisoned
      | .ok (p, a) =>
        let m : Msg := { src := 128 + sl, dst := p, kind := .poolRd, tc := some (s.bndTc r.bnd), bnd := some r.bnd, addr := a, line := t.line, tag := t.id }
        let s1 := (s.putTt sl { t with stage := 1, rd := true }).send m
        if 146 ≤ r.src then s1 else s1.sample sl p (a / 262144)

/-- What becomes of a line's write: it is issued, its data is discarded, or it is held. -/
inductive WriteOut where
  | issued | discarded | held
  deriving DecidableEq, Repr

/-- Whether the home holds accesses that write a line: its parcel is in its flip frame, its copy is unacknowledged, or an overflow re-MAC holds it (R208,
R237, R239). -/
def State.writeHeld (s : State) (line : Nat) : Bool := s.inFlip line || s.oxb.unacked.contains line || s.remacBusy line

/-- An overflow begins (R208): a reserved entry is taken, and the leaf's other 63 lines are read; none where no reserved entry is free. -/
def State.openRemac (s : State) (sl bnd line pool ad : Nat) : Option State :=
  if 256 ≤ s.rsvEntries sl then none
  else
    let a := (s.inc SEC_OVF_CNT).addTt sl line .remac
    let k := line % 64
    let rest := (List.range 64).filter (fun i => i != k)
    (a.2.ttOf sl a.1).map (fun t =>
      let s1 := a.2.putTt sl { t with phase := .active, since := s.time.frame }
      let s2 : State := { s1 with home.remac := mput s1.home.remac (line / 64) { sl := sl, id := a.1, k := k, wait := rest, got := [] } }
      rest.foldl (fun s i => s.send {
        src := 128 + sl, dst := pool, kind := .poolRd, tc := some (s.bndTc bnd), bnd := some bnd, addr := ad - 64 * k + 64 * i, line := line - k + i,
        tag := a.1 }) s2)

/-- Writes a line to its pool for a binding under a translation entry (R170, R206): a write that finds its MINOR at 63 is held while the leaf's MACs are
made again (R208); an access of a bulk engine is not sampled (R223). -/
def State.writeLine (s : State) (sl tag bnd dpa line data : Nat) (poison host : Bool) (ent : TtEntry) (f : Fetched) : WriteOut × State :=
  match s.lineAt line with
  | none => (.discarded, s.bindFault bnd 2 0 dpa 2 .wrDisc)
  | some a => match s.poolAt line ent with
    | .error c => (.discarded, s.bindFault bnd c a.parcel dpa c .wrDisc)
    | .ok (p, ad) => match s.sealLine a data f with
      | .noKey => (.discarded, s.bndCount bnd .wrDisc)
      | .failed s1 => (.discarded, s1.bndCount bnd .wrDisc)
      | .overflow s1 => (.held, (s1.openRemac sl bnd line p ad).getD s1)
      | .write c s1 =>
        let m : Msg := {
          src := 128 + sl, dst := p, kind := .poolWr, len := 64, tc := some (s.bndTc bnd), poison := poison, bnd := some bnd,
          addr := ad, line := line, tag := tag, data := c }
        let s2 := ((s1.send m).moveWrite line).logWrite bnd dpa
        (.issued, if host then s2.sample sl p (ad / 262144) else s2)

/-- Issues the write of a request (R175), or holds it. -/
def State.issueWrite (s : State) (sl : Nat) (t : Tt) (r : HReq) : State :=
  if s.writeHeld t.line then s.putTt sl { t with hold := true }
  else
    let w := s.writeLine sl t.id r.bnd r.dpa t.line r.data r.poison (decide (r.src < 146)) (s.entryOf t) t.found
    match w.1 with
    | .issued => w.2.putTt sl { t with stage := 1, wrPend := true }
    | .discarded => w.2.putTt sl { t with stage := 2 }
    | .held => w.2.putTt sl { t with hold := true }

/-! ### The state table (R175) -/

/-- Whether a binding is HDM-H in force (R143). -/
def State.hdmH (s : State) (b : Nat) : Bool := s.curBit (BND_CFG_HDM_H b)

/-- The slot of a request's host; a bulk engine has none. -/
def State.reqSlot (s : State) (r : HReq) : Option Nat := if 146 ≤ r.src then none else s.slotAt r.member r.port

/-- The snoop a request sends in the state the directory shows, with the slots it goes to and whether another host may own the line. -/
def snoopsFor (k : HKind) (e : Option DirEnt) (h : Option Nat) : Nat × List Nat × Bool :=
  match e with
  | none => (0, [], false)
  | some d =>
    let others := d.slots.filter (fun x => h != some x)
    let owned := d.excl && ! others.isEmpty
    match k with
    | .rdCur => (1, if owned then others else [], owned)
    | .rdShared => (1, if owned then others else [], owned)
    | .rdOwn => (2, others, owned)
    | .own => (2, others, owned)
    | .wr => (2, others, owned)
    | _ => (0, [], false)

/-- Slots that are not active leave the entry of a line before it is used (R178). -/
def State.purgeDead (s : State) (line : Nat) : State :=
  match s.dirOf line with
  | some e => (e.slots.filter (fun k => s.slotSt k != 1)).foldl (fun s k => s.purge line k) s
  | none => s

/-- An entry snoops slots, and awaits the answers of those that are active. -/
def State.snoopFor (s : State) (sl id line kind : Nat) (l : List Nat) : State :=
  let n := s.snoopAll sl line kind l
  match n.2.ttOf sl id with
  | some u => n.2.putTt sl { u with waitSnp := n.1.filter (fun k => n.2.slotSt k == 1) }
  | none => n.2

/-- A reserved entry back-invalidates its line: every host named for an eviction, one slot for a release sweep (R148, R182). -/
def State.backInvalidate (s : State) (sl : Nat) (t : Tt) : State :=
  let named := match s.dirOf t.line with
    | some e => e.slots
    | none => []
  let l := match t.work with
    | .sweep k => named.filter (fun x => x == k)
    | _ => named
  (s.putTt sl { t with phase := .active, snp := 2 }).snoopFor sl t.id t.line 2 l

/-- Opens a full-directory eviction for a line that needs a way (R182), if a victim and a reserved entry can be had. -/
def State.openEviction (s : State) (sl line : Nat) : Option State :=
  match s.fullVictim line with
  | none => none
  | some v =>
    if 256 ≤ s.rsvEntries sl then none
    else
      let a := ((s.inc HOM_EVICT_EVICT_BI).tally (256 + sl) 0x035 1).addTt sl v .evict
      (a.2.ttOf sl a.1).map (fun t => a.2.backInvalidate sl { t with since := s.time.frame })

/-- Whether a request will need a new directory entry: it grants a copy of a line that has none (R166). -/
def State.needsWay (s : State) (t : Tt) (r : HReq) : Bool :=
  (r.kind == .rdShared || r.kind == .rdOwn || r.kind == .own) && ! t.drained && ! s.noEntries t.line && (s.reqSlot r).isSome && (s.dirOf t.line).isNone

/-- A request begins to wait for a way (R169), and an eviction is opened for it (R182). -/
def State.awaitWay (s : State) (sl : Nat) (t : Tt) : State :=
  let s1 := ({ s with home.serial := s.home.serial + 1 } : State).putTt sl { t with wayAt := some s.home.serial }
  if s1.wayShort t.line then (s1.openEviction sl t.line).getD s1 else s1

/-- Whether an ownership request without data is not served because the keys of its line's region are gone (R196, R471). -/
def State.ownUnserved (s : State) (r : HReq) : Bool :=
  r.kind == .own && (match s.lineAt r.line with
    | some a => (s.encrypt a 0).isNone
    | none => false)

/-- An active entry starts its work on the directory state (Table 8-3). A request that will need a new entry where no way is free begins to wait for
one, and an eviction opens beside its pool read (R182). -/
def State.process (s : State) (sl id : Nat) : State :=
  match s.ttOf sl id with
  | none => s
  | some t0 =>
    let t := { t0 with phase := .active }
    match t.work with
    | .req r =>
      if s.ownUnserved r then ((s.bndCount r.bnd .wrDisc).delTt sl id).unserved r
      else if s.hdmH r.bnd then s.putTt sl t
      else
        let s1 := s.purgeDead t.line
        let x := snoopsFor r.kind (s1.dirOf t.line) (s1.reqSlot r)
        let s2 := (s1.putTt sl { t with snp := x.1, wasE := x.2.2 }).snoopFor sl id t.line x.1 x.2.1
        match s2.ttOf sl id with
        | some u =>
          let u1 := { u with bad := u.bad || (x.2.2 && (s2.dirOf t.line).isNone) }
          let s3 := s2.putTt sl u1
          if s3.needsWay u1 r && (s3.freeWay t.line none).isNone then s3.awaitWay sl u1 else s3
        | none => s2
    | .evict => s.backInvalidate sl t
    | .sweep _ => s.backInvalidate sl t
    | .remac => s

/-- A directory word error is met on a cached entry (R165, R167). Answers whether the cached entry can be used, must be read again from the
full directory, or is lost. -/
inductive DirUse where
  | use | reread | lost
  deriving DecidableEq, Repr

/-- The dirty bits of the cache sets that share a dirty-mask word with a line's set are taken as 1 (R167). -/
def State.dirtyMask (s : State) (line : Nat) : State :=
  { s with home.dir := s.home.dir.map (fun e =>
      if e.2.cached && sliceOf e.1 == sliceOf line && cacheSet e.1 / 8 == cacheSet line / 8 then (e.1, { e.2 with dirty := true }) else e) }

/-- An entry is malformed: counted, and handled as an uncorrectable word (R165). -/
def State.malformed (s : State) (mal : Bool) : State := if mal then s.inc HOM_UE_MALFORMED else s

/-- An uncorrectable word of the dirty mask without a failed entry (R167). -/
def State.maskError (s : State) (line : Nat) : State :=
  (s.dirtyMask line).reportCode 0x0404 (sliceOf line) none (match s.dirOf line with
    | some e => e.cway
    | none => 0)

/-- What a lookup that finds a word error in the cache does (R167). -/
def State.dirError (s : State) (line : Nat) (err : DirErr) : DirUse × State :=
  let sl := sliceOf line
  match s.dirOf line with
  | none => (.use, if err = .mask ∨ err = .both then s.maskError line else s)
  | some e =>
    if ! e.cached then (.use, if err = .mask ∨ err = .both then s.maskError line else s)
    else
      let word := fun (s : State) =>
        if e.dirty then (DirUse.lost, s.reportCode 0x0405 sl none e.cway)
        else (DirUse.reread, ((s.setDir line (some { e with cached := false })).inc HOM_UE_CLEAN_UE).reportCode 0x0404 sl none e.cway)
      match err with
      | .none_ => (.use, s)
      | .word => word s
      | .malformed => word (s.malformed true)
      | .mask => (.use, s.maskError line)
      | .both => (.lost, s.reportCode 0x0405 sl none e.cway)

/-- A lookup misses the cache and reads the full directory (R166). -/
def State.dirMiss (s : State) (sl : Nat) : State := (s.inc (HOM_SLC_MISS_MISS sl)).tally (256 + sl) 0x031 1

/-- A line's full-directory set is read from the Reservoir (R24, R165, R166): a copy that failed, or holds a malformed entry, is repaired from the other and
the line's entry enters the cache; when both have failed the fault is uncontained. Answers whether the set could be read. -/
def State.setRead (s : State) (line : Nat) (r : RsvRead) (mal : Bool) : Bool × State :=
  match s.rsvRead r with
  | .good => (true, s.cacheIn line)
  | .repaired st => (true, ((s.malformed mal).reportCode 0x0401 st none 0).cacheIn line)
  | .lost => (false, (s.malformed mal).reportCode 0x0402 0 none 0)

/-- Whether the directory cache holds a line's entry. -/
def State.dirCached (s : State) (line : Nat) : Bool :=
  match s.dirOf line with
  | some e => e.cached
  | none => false

/-- A waiting entry becomes active: a lookup that hits the cache goes on at once, one that misses reads the full directory (R166). -/
def State.activate (s : State) (sl id : Nat) : State :=
  match s.ttOf sl id with
  | none => s
  | some t =>
    let t1 := { t with since := s.time.frame, err := .none_ }
    let s1 := s.putTt sl t1
    let hdm := match t.work with
      | .req r => s.hdmH r.bnd
      | _ => false
    if hdm then s1.process sl id
    else
      let e := s1.dirError t.line t.err
      if e.1 = .lost then e.2.putTt sl { t1 with phase := .active, drained := true, stage := 2, data := some (allOnes, true) }
      else if e.2.dirCached t.line then (e.2.cacheIn t.line).process sl id
      else (e.2.dirMiss sl).putTt sl { t1 with phase := .dirRead }

/-- The lookup of a message that takes no entry reads what it needs at once (R166, R170). Answers whether the line's state is known. -/
def State.lookNow (s : State) (sl : Nat) (x : HIn) : Bool × State :=
  if s.hdmH x.r.bnd then (true, s)
  else
    let e := s.dirError x.r.line x.err
    if e.1 = .lost then (false, e.2)
    else if e.2.dirCached x.r.line then (true, e.2.cacheIn x.r.line)
    else (e.2.dirMiss sl).setRead x.r.line x.rsv x.mal

/-- The hosts an entry names once a request has been served: mask and whether the state is E (Table 8-3). `h` is none where the requester is
not to be named. -/
def nextHosts (k : HKind) (t : Tt) (e : Option DirEnt) (h : Option Nat) : Nat × Bool :=
  let cur := match e with
    | some d => d.sharers
    | none => 0
  let hm := slotMask h.toList
  let excl := match e with
    | some d => d.excl
    | none => false
  match k with
  | .rdCur => if t.wasE then (slotMask t.kept, false) else if excl then (0, false) else (cur, false)
  | .rdShared => (slotMask (bitsOn (if t.wasE then slotMask t.kept else if excl then 0 else cur) 64 ++ h.toList), false)
  | .rdOwn => (hm, ! h.isNone)
  | .own => (hm, ! h.isNone)
  | _ => (0, false)

/-- Writes the next state of a line when its transaction closes; none where a new entry must wait for a way (R169, R182). `at_` is when the transaction
began to wait for one. -/
def State.writeDir (s : State) (line sharers : Nat) (excl : Bool) (at_ : Option Nat) : Option State :=
  match s.dirOf line with
  | some _ => some (if sharers = 0 then s.setDir line none else s.rename line sharers excl)
  | none =>
    if sharers = 0 then some s
    else match s.freeWay line at_ with
      | some w => some ((s.setDir line (some { sharers := sharers, excl := excl, way := w })).cacheIn line)
      | none => none

/-- The completion a request gets, and whether the requester is then named. An HDM-H binding has no directory (R143), so its completions
grant no state. -/
def State.complete (s : State) (t : Tt) (r : HReq) : Bool × State :=
  let poisoned := t.bad || t.drained
  let d := t.data.getD (allOnes, true)
  let meta1 := fun (c : Nat) => if s.hdmH r.bnd || s.noEntries t.line then 0 else c
  match r.kind with
  | .rdCur => s.respond r (.drs 0) (if poisoned then allOnes else d.1) (poisoned || d.2)
  | .rdShared => s.respond r (.drs (meta1 1)) (if poisoned then allOnes else d.1) (poisoned || d.2)
  | .rdOwn => s.respond r (.drs (meta1 2)) (if poisoned then allOnes else d.1) (poisoned || d.2)
  | .own => s.respond r (.ndr (meta1 2)) 0 false
  | _ => s.respond r (.ndr 0) 0 false

/-- Closes a request: its completion is sent, the directory takes its next state, and a BIConflictAck that waits for it follows (R176). A requester
that drains, or that the completion cannot reach, is not named (R175, R178). -/
def State.finishReq (s : State) (sl : Nat) (t : Tt) (r : HReq) : Option State :=
  if s.hdmH r.bnd then some ((s.complete t r).2.delTt sl t.id)
  else
    let reach := (s.complete t r).1
    let h := if t.drained || ! reach || s.noEntries t.line then none else s.reqSlot r
    let n := nextHosts r.kind t (s.dirOf t.line) h
    match s.writeDir t.line n.1 n.2 t.wayAt with
    | none => none
    | some s1 =>
      let s2 := (s1.complete t r).2.delTt sl t.id
      some (match t.biAck with
        | some tag => (s2.respond { r with tag := tag } (.ndr 3) 0 false).2
        | none => s2)

/-- Whether every message an entry waits for has come. -/
def Tt.quiet (t : Tt) : Bool := t.waitSnp.isEmpty && ! t.rd && ! t.wrPend && ! t.hold

/-- A request that has all it waits for closes, or begins to wait for a directory way. -/
def State.finishOrWait (s : State) (sl : Nat) (t : Tt) (r : HReq) : Option State :=
  match s.finishReq sl t r with
  | some s1 => some s1
  | none => if t.wayAt.isSome then none else some (s.awaitWay sl t)

/-- The next thing one entry can do now; none where it must wait. -/
def State.tryTt (s : State) (sl : Nat) (t : Tt) : Option State :=
  match t.phase with
  | .waiting =>
    match (s.tts sl).find? (fun u => u.line == t.line) with
    | some u => if u.id = t.id && ! s.remacBusy t.line then some (s.activate sl t.id) else none
    | none => none
  | .dirRead => none
  | .active =>
    match t.work with
    | .remac => if s.remacBusy t.line then none else some (s.delTt sl t.id)
    | .evict => if t.quiet then some ((s.setDir t.line none).delTt sl t.id) else none
    | .sweep k => if t.quiet then some (((s.dropBit t.line k).freeEmpty t.line).delTt sl t.id) else none
    | .req r =>
      if hkReads r.kind then
        if t.stage = 0 ∧ ! t.hold then some (s.issueRead sl t r)
        else if t.quiet && t.data.isSome then s.finishOrWait sl t r
        else none
      else if r.kind = .own then (if t.quiet then s.finishOrWait sl t r else none)
      else if t.waitSnp.isEmpty && t.stage == 0 && ! t.hold then some (s.issueWrite sl t r)
      else if t.quiet && t.stage == 2 then s.finishReq sl t r
      else none

/-- A request takes an entry behind the last one of its line (R168), with what it brings from its acceptance. -/
def State.takeEntry (s : State) (sl : Nat) (q : Retry) : Nat × State :=
  let busy := s.lineBusy sl q.r.line
  let a := (if busy then (s.inc (HOM_SLC_CONFL_CONFL sl)).tally (256 + sl) 0x033 1 else s).addTt sl q.r.line (.req q.r)
  match a.2.ttOf sl a.1 with
  | some t => (a.1, a.2.putTt sl { t with err := q.err, ent := some q.ent, drained := q.drained, found := q.found })
  | none => a

/-- The oldest request in the retry queue is retried when an entry is free (R169). -/
def State.tryRetry (s : State) (sl : Nat) : Option State :=
  match mgetD s.home.retry sl [] with
  | [] => none
  | q :: l =>
    if 7936 ≤ s.reqEntries sl then none
    else some (({ s with home.retry := mputD s.home.retry sl [] l } : State).takeEntry sl q).2

/-- An eviction for the requests that wait for ways of a set, where one can be opened now (R169, R182 to R184). -/
def State.tryEvict (s : State) (sl : Nat) : Option State :=
  (s.tts sl).findSome? (fun t => if t.wayAt.isSome && ! t.drained && s.wayShort t.line then s.openEviction sl t.line else none)

/-- A slice goes on until nothing more can be done without a further message. Entries that wait for a way go first, in the order in which
they began to wait. -/
def State.settle (s : State) (sl : Nat) : Nat → State
  | 0 => s
  | fuel + 1 =>
    let l := s.tts sl
    let ways := sortBy (fun (t : Tt) => t.wayAt.getD 0) (l.filter (fun t => t.wayAt.isSome))
    match (ways ++ l.filter (fun t => t.wayAt.isNone)).findSome? (s.tryTt sl) with
    | some s1 => s1.settle sl fuel
    | none => match (s.tryEvict sl).orElse (fun _ => s.tryRetry sl) with
      | some s1 => s1.settle sl fuel
      | none => s

/-- Enough steps for every entry and retried request of a slice to go through its phases. -/
def State.settleFuel (s : State) (sl : Nat) : Nat := 16 * ((s.tts sl).length + (mgetD s.home.retry sl []).length + 2)

/-- Lets a slice go on; not part-way through the step of a Daybreak (R40). -/
def State.run (s : State) (sl : Nat) : State := if s.home.still then s else s.settle sl (s.settleFuel sl)

/-- Lets every slice go on. -/
def State.runAll (s : State) : State := (mkeys s.home.tt).foldl State.run s

/-! ### Requests (R168 to R175) -/

/-- A request from a slot that is not served (R178): counted in REFUSED, or in the binding where no slot counts it (R163). -/
def State.refuseHost (s : State) (r : HReq) : State :=
  let s1 := match s.reqSlot r with
    | some k => if r.kind = HKind.ce then s else s.inc (HOM_HOST_STAT_REFUSED k)
    | none => if r.kind = HKind.ce then s else s.bndCount r.bnd (if hkReads r.kind then .poisoned else .wrDisc)
  s1.unserved r

/-- Whether a request's host is not served: its slot drains or is drained, or it has none (R163, R178). -/
def State.hostDead (s : State) (r : HReq) : Bool :=
  decide (r.src < 146) && ! s.hdmH r.bnd && (match s.slotAt r.member r.port with
    | some k => s.slotSt k != 1
    | none => true)

/-- Whether a write has lost its mapping before it reached the home: its extent has been removed (R148). Requests of other members' hosts are checked
there. -/
def State.writeGone (s : State) (r : HReq) : Bool := r.member == s.ownMember && (s.extentAt r.bnd r.dpa).isNone

/-- A writeback's data answers the transactions that snoop its writer: the pool's own is then discarded (R175). -/
def State.feedSnoops (s : State) (sl line data : Nat) (poison : Bool) : State :=
  s.setTts sl ((s.tts sl).map (fun t =>
    if t.line = line ∧ t.phase = .active ∧ t.isReq ∧ ! t.waitSnp.isEmpty then { t with data := some (data, poison), rd := false, rdGone := t.rdGone || t.rd } else t))

/-- The directory takes the state a writeback's writer keeps (Table 8-3). -/
def State.wbState (s : State) (r : HReq) (keep : Nat) : State :=
  if s.hdmH r.bnd then s else match s.reqSlot r with
    | some k => if keep = 0 then (s.dropBit r.line k).freeEmpty r.line else s.rename r.line (slotMask [k]) (keep == 2)
    | none => s

/-- A writeback is applied in its own lookup (R170, Table 8-3): from the owner it takes a buffer and its pool write is issued; from any other host
its data is discarded. The data also answers a transaction that snoops the writer. -/
def State.writeback (s : State) (sl : Nat) (r : HReq) (keep : Nat) (f : Fetched) : State :=
  let own := s.hdmH r.bnd || (match s.reqSlot r with
    | some k => s.owns r.line k
    | none => false)
  if ! own then ((s.inc HOM_ERR_PROTO).respond r (.ndr 0) 0 false).2
  else
    let s1 := s.wbState r keep
    if s1.writeGone r then ((s1.bndCount r.bnd .wrDisc).respond r (.ndr 0) 0 false).2.run sl
    else
      let tag := s1.home.serial
      let s2 : State := { s1 with home.serial := tag + 1 }
      let w := if s2.writeHeld r.line then (.held, s2) else s2.writeLine sl tag r.bnd r.dpa r.line r.data r.poison true (s2.ttEntry (r.line / 4096)) f
      let b : WBuf := {
        line := r.line, data := r.data, poison := r.poison, tag := tag, deferred := w.1 == .held, bnd := r.bnd, dpa := r.dpa, found := f }
      let s3 := if w.1 = .discarded then w.2
        else { w.2 with home.wbuf := mput w.2.home.wbuf sl (mgetD w.2.home.wbuf sl [] ++ [b]) }
      ((s3.feedSnoops sl r.line r.data r.poison).respond r (.ndr 0) 0 false).2.run sl

/-- A writeback whose line's state cannot be read: its data is discarded (log entry 186). -/
def State.wbUnknown (s : State) (r : HReq) : State := ((s.bndCount r.bnd .wrDisc).respond r (.ndr 0) 0 false).2

/-- The lookup of a writeback (R170): one that finds no free buffer waits in class 1. -/
def State.lookupWb (s : State) (sl : Nat) (x : HIn) (keep : Nat) : State :=
  let r := x.r
  if s.hostDead r then
    match s.reqSlot r with
    | some k => if s.bit (HOM_HOST_STAT_TMO_CAUSE k) then (s.inc HOM_ERR_LATE).unserved r else s.refuseHost r
    | none => s.refuseHost r
  else if 1024 ≤ (mgetD s.home.wbuf sl []).length then
    { s with home.wbWait := mput s.home.wbWait sl (mgetD s.home.wbWait sl [] ++ [x]) }
  else
    let d := s.lookNow sl x
    if d.1 then d.2.writeback sl r keep x.found else d.2.wbUnknown r

/-- A writeback buffer comes free: the writeback that has waited longest for one is looked up (R170). -/
def State.nextWb (s : State) (sl : Nat) : State :=
  match mgetD s.home.wbWait sl [] with
  | [] => s
  | x :: l =>
    let s1 : State := { s with home.wbWait := mputD s.home.wbWait sl [] l }
    match x.r.kind with
    | .wb keep => s1.lookupWb sl x keep
    | _ => s1

/-- A clean-evict notice (Table 8-3): it removes its host only from an entry the cache holds, of a line that is not busy. -/
def State.cleanEvict (s : State) (sl : Nat) (x : HIn) : State :=
  let r := x.r
  let hit := s.dirCached r.line && ! s.lineBusy sl r.line && (s.dirError r.line x.err).1 == .use
  let d := (s.lookNow sl x).2
  let s1 := match d.dirOf r.line, d.reqSlot r with
    | some e, some k => if hit && bitOn e.sharers k then (d.dropBit r.line k).freeEmpty r.line else d
    | _, _ => d
  (s1.respond r (.ndr 0) 0 false).2

/-- An access that is not served and makes no fault record: counted as a poisoned read or a discarded write (R335). -/
def State.quietAccess (s : State) (r : HReq) : State :=
  match r.kind with
  | .ce => s.unserved r
  | k => (s.bndCount r.bnd (if hkReads k then .poisoned else .wrDisc)).unserved r

/-- A home slice looks up a request or writeback (R171, R175). While the retry queue is full no class 3 message is accepted (R169): it stays with its
requester. An HDM-H access takes no directory lookup (R20). In Quarantine a host's access is not served (R335). -/
def State.lookup (s0 : State) (x : HIn) : State :=
  let r := x.r
  let sl := sliceOf r.line
  if (MsgKind.mem r.op).cls = 3 ∧ 1024 ≤ (mgetD s0.home.retry sl []).length then s0
  else
    let s1 := if s0.hdmH r.bnd then s0 else s0.tally (256 + sl) 0x030 1
    let s := if x.heatLost || s1.stackGone 1 then s1.sampledLost sl r.line else s1
    if s.md.mode = .quarantine ∧ r.src < 128 ∧ r.member = s.ownMember then s.quietAccess r
    else match r.kind with
    | .proto _ => ((s.inc HOM_ERR_PROTO).reportCode 0x0302 r.bnd none 0).unserved r
    | .wb keep => s.lookupWb sl x keep
    | .ce => if s.hostDead r then s.refuseHost r else s.cleanEvict sl x
    | k =>
      if s.hostDead r then s.refuseHost r
      else if k = .wr ∧ s.writeGone r then (s.bndCount r.bnd .wrDisc).unserved r
      else
        let q : Retry := { r := r, err := x.err, ent := s.ttEntry (r.line / 4096), found := x.found }
        if 7936 ≤ s.reqEntries sl then { s with home.retry := mput s.home.retry sl (mgetD s.home.retry sl [] ++ [q]) }
        else
          let busy := s.lineBusy sl r.line
          let a := s.takeEntry sl q
          if busy then a.2 else (a.2.activate sl a.1).run sl

/-! ### The order of lookups (R171) -/

/-- Where a message stands among those presented in one cycle: lower classes first, then the first requester at or after the pointer. -/
def lookKey (ptr : Nat) (x : HIn) : Nat := (MsgKind.mem x.r.op).cls * 150 + (x.r.src + 150 - ptr % 150) % 150

/-- The order in which a slice looks up messages presented together: two in each core cycle, the pointer advancing by one. -/
def lookOrder (ptr : Nat) (l : List HIn) : Nat → List HIn
  | 0 => []
  | fuel + 1 =>
    let o := sortBy (lookKey ptr) l
    o.take 2 ++ lookOrder (ptr + 1) (o.drop 2) fuel

/-- The rotating pointer of every slice: the core cycles since the core tile left reset, from 0 to 149 and back to 0. -/
def State.slicePtr (s : State) : Nat := s.coreCycles % 150

def execHomeLookup (sl : Nat) (l : List HIn) (s : State) : Host.Outcome State Fault Refusal :=
  let m := l.filter (fun x => sliceOf x.r.line == sl)
  s.done ((lookOrder s.slicePtr m m.length).foldl State.lookup s)

/-- The full-directory set an entry's lookup reads returns; where it is lost the request completes with poison. -/
def State.dirRead (s : State) (sl id : Nat) (r : RsvRead) (mal : Bool) : State :=
  match s.ttOf sl id with
  | none => s
  | some t =>
    if t.phase ≠ .dirRead then s
    else
      let d := s.setRead t.line r mal
      if d.1 then (d.2.process sl id).run sl
      else (d.2.putTt sl { t with phase := .active, drained := true, stage := 2, data := some (allOnes, true) }).run sl

def execDirectoryReadDone (sl id : Nat) (r : RsvRead) (mal : Bool) (s : State) : Host.Outcome State Fault Refusal := s.done (s.dirRead sl id r mal)

/-! ### Held writes go on (R208, R237 to R240) -/

/-- The deferred writebacks of a parcel are issued, to wherever its entry now names. -/
def State.resumeWbs (s : State) (idx : Nat) : State :=
  s.home.wbuf.foldl (fun s e =>
    e.2.foldl (fun s w =>
      if w.deferred ∧ w.line / 4096 = idx ∧ ! s.writeHeld w.line then
        let r := s.writeLine e.1 w.tag w.bnd w.dpa w.line w.data w.poison true (s.ttEntry (w.line / 4096)) w.found
        { r.2 with home.wbuf := mputD r.2.home.wbuf e.1 [] ((mgetD r.2.home.wbuf e.1 []).filterMap (fun x =>
            if x.tag ≠ w.tag then some x else if r.1 = .discarded then none else some { x with deferred := r.1 == .held })) }
      else s) s) s

/-- Whether a request is a write that has not been issued. -/
def Tt.unissued (t : Tt) : Bool :=
  match t.work with
  | .req r => r.kind == .wr && t.stage == 0
  | _ => false

/-- The writes of a parcel that wait take the entry now in force (R237, R239), and with them the requests that wait behind them for their lines. -/
def State.reaim (s : State) (idx : Nat) : State :=
  { s with
    home.tt := s.home.tt.map (fun e => (e.1, e.2.map (fun t =>
      if t.line / 4096 = idx then
        { t with hold := false, ent := if e.2.any (fun u => u.line == t.line && u.unissued && decide (u.id ≤ t.id)) then none else t.ent }
      else t))),
    home.retry := s.home.retry.map (fun e => (e.1, e.2.map (fun q =>
      if q.r.line / 4096 = idx ∧ (e.2.any (fun u => u.r.line == q.r.line && u.r.kind == .wr) ∨
          (s.tts e.1).any (fun u => u.line == q.r.line && u.unissued)) then { q with ent := s.ttEntry idx } else q))) }

/-- The writes and writebacks of a parcel that its flip frame held are issued, to wherever its entry now names. -/
def State.resumeWrites (s : State) (idx : Nat) : State := ((s.resumeWbs idx).reaim idx).runAll

/-- Writes and writebacks held for no reason that still stands are issued: at a Daybreak, when a reserved entry may have come free. -/
def State.wakeHeld (s : State) : State :=
  let idx := (s.home.wbuf.flatMap (fun e => (e.2.filter (fun w => w.deferred && ! s.writeHeld w.line)).map (fun w => w.line / 4096))).eraseDups
  let s1 := idx.foldl State.resumeWbs s
  { s1 with home.tt := s1.home.tt.map (fun e => (e.1, e.2.map (fun t => if t.hold && ! s1.writeHeld t.line then { t with hold := false } else t))) }

/-! ### Overflow re-MACs (R208) -/

/-- An overflow re-MAC is over: its entry is given up, and what it held goes on. -/
def State.endRemac (s : State) (b : Nat) : State := (State.wakeHeld { s with home.remac := mdel s.home.remac b }).runAll

/-- Every line of an overflow has been read: the leaf takes its new MAJOR and MACs (Table 9-12 case 1: not without its keys). -/
def State.remacDone (s : State) (b : Nat) (m : Remac) : State :=
  match s.lineAt (b * 64) with
  | none => s.endRemac b
  | some a => match s.macKey a.rec_.tenant with
    | none => s.endRemac b
    | some km => (s.overflowLeaf km a m.got).endRemac b

/-- The data of a line that an overflow reads: checked under the old MAJOR and MINOR. -/
def State.remacData (s : State) (t : Tt) (k d : Nat) (poison : Bool) (f : Fetched) : State :=
  let b := t.line / 64
  match mget s.home.remac b with
  | none => s.inc HOM_ERR_LATE
  | some m =>
    if m.id ≠ t.id ∨ ! m.wait.contains k then s.inc HOM_ERR_LATE
    else
      let v := match s.lineAt (b * 64 + k) with
        | some a => (match s.macKey a.rec_.tenant with
          | some km => if poison then (false, s) else
              let x := s.verifyLine km a d f
              (x.1, if x.1 then x.2 else x.2.integFail a 0)
          | none => (false, s))
        | none => (false, s)
      let m1 := { m with wait := sdel m.wait k, got := mput m.got k (d, v.1) }
      let s1 : State := { v.2 with home.remac := mput v.2.home.remac b m1 }
      if m1.wait.isEmpty then s1.remacDone b m1 else s1

/-- The overflows whose parcel lies on a pool end without effect when its port goes down: their reads will not be answered. -/
def State.remacsDown (s : State) (p : Nat) : State :=
  ((mkeys s.home.remac).filter (fun b => (s.ttEntry (b / 64)).pool == p)).foldl State.endRemac s

/-! ### Metadata leaves the cache (R207) -/

/-- A leaf (level 1), node or MAC block (level 0, by parcel × 448 + block) leaves the sealed-metadata cache. `lost` says that both its copies in the
Reservoir have failed: an overflow re-MAC of the leaf then stops (Table 9-12 case 9). -/
def State.metaLeaves (s : State) (g level i : Nat) (lost : Bool) (f : Fetched) : State :=
  if 12 < level then s
  else if ! lost then s.writeBack g level i f
  else
    let s1 := s.loseEntry g level i
    match mget s.bnd.regions g with
    | some r => if level = 1 ∧ s1.remacHolds r 1 i then s1.endRemac (r.ttBase * 64 + i) else s1
    | none => s1

def execMetadataWriteback (g level i : Nat) (lost : Bool) (f : Fetched) (s : State) : Host.Outcome State Fault Refusal :=
  s.done (s.metaLeaves g level i lost f)

/-! ### Responses (R172, R210) -/

/-- A snoop response for an open entry: the host leaves the entry, or stays as S after BIRspS to BISnpData (Table 8-3). -/
def State.birsp (s : State) (sl : Nat) (t : Tt) (k : Nat) (sh : Bool) : State :=
  let keep := sh && t.snp == 1
  let s0 := if sh && t.snp == 2 then s.inc HOM_ERR_PROTO else s
  let s1 := if keep then s0 else s0.dropBit t.line k
  s1.putTt sl { t with waitSnp := sdel t.waitSnp k, kept := if keep then sadd t.kept k else t.kept }

/-- A pool's data for an open read (R206, R210): decrypted, verified for a Sealed region; data the pool poisons stays poisoned and is recorded under
code 0x04, a failed check or a missing key under code 0x06. -/
def State.poolData (s : State) (sl : Nat) (t : Tt) (r : HReq) (d : Nat) (poison : Bool) (f : Fetched) : State :=
  let pc := s.parcelOfLine r.bnd t.line
  let s0 := s.putTt sl { t with rd := false, data := if t.data.isSome then t.data else some (allOnes, true) }
  if t.data.isSome then s0
  else match s.lineAt t.line with
    | none => s0.bindFault r.bnd 2 pc r.dpa 2 .poisoned
    | some a =>
      match s.decrypt a d with
      | none => s0.bindFault r.bnd 6 pc r.dpa 6 .poisoned
      | some v =>
        let got := fun (s : State) => s.putTt sl { t with rd := false, data := some (v, poison) }
        if poison then (got s0).bindFault r.bnd 4 pc r.dpa 4 .poisoned
        else if a.rec_.cls ≠ 2 then got s0
        else
          let x := s0.checkLine ((s.macKey a.rec_.tenant).getD 0) a d f
          match x.1 with
          | some l => (x.2.integFail a l).bindFault r.bnd 6 pc r.dpa 6 .poisoned
          | none => got x.2

/-- A response that matches no active entry is late: discarded and counted (R172). -/
def State.lateRsp (s : State) : State := s.inc HOM_ERR_LATE

/-- A pool write of a writeback buffer completes (R170): the buffer comes free, and a writeback that waits for one is looked up. -/
def State.wbAck (s : State) (sl id : Nat) : State :=
  let l := mgetD s.home.wbuf sl []
  match l.find? (fun w => w.tag == id && ! w.deferred) with
  | some w => ((({ s with home.wbuf := mputD s.home.wbuf sl [] (l.filter (fun x => x.tag != id)) } : State).moveAck w.line).nextWb sl).run sl
  | none => s.lateRsp

/-- A block snoop response is a protocol error (R173, R174): discarded, counted, and a contained fault of the binding of the line it answers for. -/
def State.blockRsp (s : State) (line k : Nat) : State :=
  let s1 := s.inc HOM_ERR_PROTO
  match (s.slotPort k).bind (s.bindingOfLine line) with
  | some b => s1.reportCode 0x0302 b none 0
  | none => s1

/-- A response reaches the home and is applied to the entry it answers (R172). -/
def State.response (s : State) (sl id : Nat) (rsp : HomeRsp) (f : Fetched) : State :=
  match rsp, s.ttOf sl id with
  | .wbAck, _ => s.wbAck sl id
  | .biRsp k _ true, some t => s.blockRsp t.line k
  | .biRsp k sh false, some t => if t.waitSnp.contains k then (s.birsp sl t k sh).run sl else s.lateRsp
  | .undeliv k, some t =>
    if t.waitSnp.contains k then ((s.inc (HOM_SLC_SNP_UNDELIV sl)).drainSlot k false).run sl else s.lateRsp
  | .data d p, some t => match t.work with
    | .req r =>
      if t.rd then (s.poolData sl t r d p f).run sl
      else if t.rdGone then s.putTt sl { t with rdGone := false }
      else s.lateRsp
    | _ => s.lateRsp
  | .wrAck, some t => if t.wrPend then ((s.putTt sl { t with wrPend := false, stage := 2 }).moveAck t.line).run sl else s.lateRsp
  | .leafLine k d p, some t => s.remacData t k d p f
  | .biRsp _ _ true, none => s.inc HOM_ERR_PROTO
  | _, none => s.lateRsp

def execHomeResponseArrival (sl id : Nat) (rsp : HomeRsp) (f : Fetched) (s : State) : Host.Outcome State Fault Refusal :=
  s.done (s.response sl id rsp f)

/-- A host's BIConflict (R176): answered with BIConflictAck, behind the completion of the host's own transaction on the line where one is under way. The
answer takes the completion's traffic class, so that it cannot pass it. -/
def State.conflict (s : State) (port line tag : Nat) : State :=
  let sl := sliceOf line
  match (s.tts sl).find? (fun t => t.line == line && t.phase != .waiting && (match t.work with | .req r => r.src == port | _ => false)) with
  | some t => s.putTt sl { t with biAck := some tag }
  | none => s.sendQuiet { src := 128 + sl, dst := port, kind := .ndr 3, tc := (s.bindingOfLine line port).map s.bndTc, line := line, tag := tag }

def execBiconflict (port line tag : Nat) (s : State) : Host.Outcome State Fault Refusal := s.done (s.conflict port line tag)

/-! ### Timeouts (R185, R186) -/

/-- The slots an entry still waits for drain after its timeout. -/
def State.timeoutSnoops (s : State) (sl : Nat) (t : Tt) : State :=
  if t.waitSnp.isEmpty then s
  else t.waitSnp.foldl (fun s k => s.drainSlot k true) (s.inc (HOM_SLC_SNP_SNP_TMO sl))

/-- An entry that has been active for TMO frames times out: a read completes with poison, a write is discarded, the binding records code
0x07 and the next waiting entry goes on. -/
def State.timeout (s : State) (sl id : Nat) : State :=
  match s.ttOf sl id with
  | none => s
  | some t =>
    if t.phase = .waiting ∨ s.time.frame < t.since + s.cur HOM_CFG_TMO then s
    else
      let s1 := s.timeoutSnoops sl t
      match t.work with
      | .req r =>
        ((((s1.delTt sl id).unserved r).bindFault r.bnd 7 (s.parcelOfLine r.bnd t.line) r.dpa 7 (if hkReads r.kind then .poisoned else .wrDisc))).runAll
      | _ => s1.runAll

def execHomeTimeout (sl id : Nat) (s : State) : Host.Outcome State Fault Refusal := s.done (s.timeout sl id)

/-! ### Host slots (R178, R179) -/

/-- The drain sweep of a slot completes: its rules are applied to every entry, and the slot is drained. -/
def State.slotDrained (s : State) (k : Nat) : State :=
  if ! s.home.sweeping.contains k then s
  else
    let s1 := (mkeys s.home.dir).foldl (fun s l => s.purge l k) s
    (({ s1 with home.sweeping := sdel s1.home.sweeping k } : State).setFld (HOM_HOST_STAT_STATE k) 3).runAll

def execHostSlotDrained (k : Nat) (s : State) : Host.Outcome State Fault Refusal := s.done (s.slotDrained k)

/-- The action of HOM_HOST_STAT.DRAIN. -/
def State.drainWrite (s : State) (k : Nat) : State := (s.drainSlot k false).runAll

/-- The action of HOM_HOST_STAT.REVIVE: only a drained slot, from the next Daybreak (R179). -/
def State.reviveWrite (s : State) (k : Nat) : State :=
  if s.slotSt k = 3 then { s with home.revive := sadd s.home.revive k } else s.countRefused

/-- Slots revived take effect at a Daybreak. -/
def State.applyRevive (s : State) : State :=
  s.home.revive.foldl (fun s k => if s.slotSt k = 3 then s.setFld (HOM_HOST_STAT_STATE k) 1 else s) { s with home.revive := [] }

/-- A mapping takes effect for a slot: a valid one makes it active, an invalid one unmapped (HOM_HOST_STAT). -/
def State.applyMap (s : State) (k : Nat) : State :=
  { s.setFld (HOM_HOST_STAT_STATE k) (if s.curBit (HOM_HOST_MAP_VALID k) then 1 else 0) with home.sweeping := sdel s.home.sweeping k }

/-- Whether a binding has an open transaction at the home (R154). -/
def State.bndOpen (s : State) (b : Nat) : Bool :=
  s.home.tt.any (fun e => e.2.any (fun t => match t.work with
    | .req r => r.bnd == b
    | _ => false)) || s.home.retry.any (fun e => e.2.any (fun q => q.r.bnd == b)) || s.home.wbuf.any (fun e => e.2.any (fun w => w.bnd == b)) ||
    s.home.wbWait.any (fun e => e.2.any (fun x => x.r.bnd == b)) || s.bnd.walk.any (fun e => e.2.any (fun r => r.bnd == b))

end Sys2Proof.Machine
end

