-- ==== Sys2Proof/Machine/Pools.lean ====
section
/-! DEFINITION. Pools (R200, R227, R228): sizes, the ALLOC map, free parcels, the tail of the carve-out, the choice of a pool for a parcel, and
the initialisation of a pool's records. -/
namespace Sys2Proof.Machine
open Sys2Proof

/-- Whether a pool is Sealed-capable in force (R199). -/
def State.sealedCap (s : State) (p : Nat) : Bool := getBit (s.curWord (SEC_POOL_CAP (p / 32))) (p % 32)

/-- The data parcels of a pool. -/
def State.dataParcels (s : State) (p : Nat) : Nat :=
  if s.sealedCap p then s.poolSize p - carve (s.poolSize p) else s.poolSize p

/-- The pool parcels with ALLOC = 1 that are kept in heat records, in ascending order, below a bound. -/
def State.allocated (s : State) (p n : Nat) : List Nat :=
  let b := s.cur (OXB_POOL_BASE_GBASE p)
  s.oxb.heat.filterMap (fun e => if e.2.alloc && decide (b ≤ e.1) && decide (e.1 < b + n) then some (e.1 - b) else none)

/-- The free data parcels of a pool (OXB_POOL_FREE.FREE). -/
def State.poolFree (s : State) (p : Nat) : Nat := s.dataParcels p - (s.allocated p (s.dataParcels p)).length

/-- Whether a pool's records are valid (R227). -/
def State.poolReady (s : State) (p : Nat) : Bool := s.bit (OXB_POOL_FREE_VALID p)

/-- The first number from `i` on that a rising list does not hold. -/
def firstGap (l : List Nat) (i : Nat) : Nat :=
  match l with
  | [] => i
  | j :: t => if j = i then firstGap t (i + 1) else i

/-- The lowest free data parcel of a pool (R228). -/
def State.freeParcel (s : State) (p : Nat) : Option Nat :=
  let i := firstGap (s.allocated p (s.dataParcels p)) 0
  if i < s.dataParcels p then some i else none

/-- Sets ALLOC of a pool parcel. -/
def State.setAlloc (s : State) (p ppi : Nat) (v : Bool) : State :=
  let g := s.globalParcel p ppi
  s.setHeat g { s.heatRec g with alloc := v }

/-- Whether a pool evacuates. -/
def State.evacuating (s : State) (p : Nat) : Bool :=
  match mget s.oxb.evac p with
  | some e => e.begun
  | none => false

/-- The pools every binding of a region allows (R142). -/
def State.allowedFor (s : State) (g p : Nat) : Bool :=
  let l := s.bindingsOf g
  ! l.isEmpty && l.all (fun b => s.poolAllowed b p)

/-- Whether the bindings of a region leave its parcels no pool at all: the intersection of their allowed pools is empty (R142), bits that name no
pool left aside (R429). -/
def State.conflicted (s : State) (g : Nat) : Bool :=
  ! (s.bindingsOf g).isEmpty && ! (List.range 128).any (fun p => s.isPool p && s.allowedFor g p)

/-- The policy that applies to a region's parcels (R142): the strictest of its bindings', Pinned (0) before Placed before Autonomous. -/
def State.policyOf (s : State) (g : Nat) : Nat := (s.bindingsOf g).foldl (fun m b => min m (s.cur (BND_CFG_POLICY b))) 2

/-- The reserve of a pool in parcels. -/
def State.freeMin (s : State) (p : Nat) : Nat := 256 * s.cur (OXB_POOL_CFG_FREE_MIN p)

/-- The tier of a pool. -/
def State.tier (s : State) (p : Nat) : Nat := s.cur (OXB_POOL_CFG_TIER p)

/-- Whether a pool is a candidate for a parcel of a region, room aside (R228). -/
def State.candidate (s : State) (g p : Nat) : Bool :=
  s.isPool p && s.allowedFor g p && s.poolReady p && s.curBit (OXB_POOL_CFG_PLACE p) && ! s.evacuating p &&
    (match mget s.bnd.regions g with
      | some r => r.cls != 2 || s.sealedCap p
      | none => false)

/-- The candidates of a region that have a free parcel. -/
def State.candidates (s : State) (g : Nat) : List Nat := (List.range 128).filter (fun p => s.candidate g p && decide (0 < s.poolFree p))

/-- The member of a list with the least key, first on a tie. -/
def leastBy (key : Nat → Nat) (l : List Nat) : Option Nat :=
  l.foldl (fun b p => match b with
    | none => some p
    | some q => if key p < key q then some p else some q) none

/-- The pool of a list with the most free parcels, lowest port on a tie. -/
def State.mostFree (s : State) (l : List Nat) : Option Nat := leastBy (fun p => 2 ^ 32 - s.poolFree p) l

/-- The pool of the lowest tier in a list, then the most free (R228). -/
def State.pickLowest (s : State) (l : List Nat) : Option Nat :=
  match leastBy s.tier l with
  | none => none
  | some q => s.mostFree (l.filter (fun p => s.tier p == s.tier q))

/-- The pool a new parcel of a region is placed on (R228). -/
def State.placePool (s : State) (g : Nat) : Option Nat :=
  let l := s.candidates g
  match s.pickLowest (l.filter (fun p => decide (s.freeMin p < s.poolFree p))) with
  | some p => some p
  | none => s.pickLowest l

/-- Whether a pool's range fits and overlaps no other pool's in force (R227). -/
def State.rangeOk (s : State) (p size : Nat) : Bool :=
  let b := s.cur (OXB_POOL_BASE_GBASE p)
  decide (b + size ≤ 2 ^ 30) && (List.range 128).all (fun q =>
    q == p || s.poolSize q == 0 || ! s.isPool q ||
      decide (b + size ≤ s.cur (OXB_POOL_BASE_GBASE q)) || decide (s.cur (OXB_POOL_BASE_GBASE q) + s.poolSize q ≤ b))

/-- The parcels of a pool that an add in preparation has taken (R146): being filled, or with their entries staged. -/
def State.takenOn (s : State) (p : Nat) : List Nat :=
  s.bnd.prep.filterMap (fun e => if e.2.1 = p then some e.2.2 else none) ++
  s.due.filterMap (fun d => match d.act with
    | .ttSet _ q i => if q = p then some i else none
    | _ => none)

/-- Oxbow initialises a pool's records (R227, R368): every data parcel is free but those a valid entry, an open move, an add or a scrub names; a range
that breaks R227 leaves the pool unusable and raises shared source 301. -/
def State.initPool (s : State) (p : Nat) : State :=
  let x := s.px p
  if ! s.rangeOk p x.cap then (((s.setPx p { x with inited := true }).setFld (OXB_POOL_SIZE_SIZE p) x.cap).setBit (OXB_POOL_FREE_VALID p) false).raiseShared 301
  else
    let b := s.cur (OXB_POOL_BASE_GBASE p)
    let s1 : State := { s with oxb.heat := s.oxb.heat.filter (fun e => decide (e.1 < b) || decide (b + x.cap ≤ e.1)) }
    let s2 := s1.bnd.tt.foldl (fun s e => if e.2.valid ∧ e.2.pool = p then s.setAlloc p e.2.ppi true else s) s1
    let s3 := s2.oxb.moves.foldl (fun s e => if ! e.2.tree ∧ e.2.dstPool = p then s.setAlloc p e.2.dstPpi true else s) s2
    let s4 := (s.takenOn p).foldl (fun s i => s.setAlloc p i true) s3
    ((s4.setPx p { x with inited := true }).setFld (OXB_POOL_SIZE_SIZE p) x.cap).setBit (OXB_POOL_FREE_VALID p) true

/-! ### The tail (R200, R204) -/

/-- The 4 KiB units of a pool's tail. -/
def State.tailUnits (s : State) (p : Nat) : Nat :=
  let n := s.poolSize p
  if s.sealedCap p then (carve n * 262144 - (n - carve n) * 36864) / 4096 else 0

/-- The tail ranges in use on a pool: tree areas, targets of tree moves, and areas of regions still to be created, as (first unit, units). -/
def State.tailUsed (s : State) (p : Nat) : List (Nat × Nat) :=
  (s.bnd.regions.filterMap (fun e => if e.2.treeUnits ≠ 0 ∧ e.2.treePool = p then some (e.2.treeUnit, e.2.treeUnits) else none)) ++
  (s.oxb.moves.filterMap (fun e => if e.2.tree ∧ e.2.dstPool = p then some (e.2.dstPpi, e.2.units) else none)) ++
  (s.due.filterMap (fun d => match d.act with
    | .region _ r => if r.treeUnits ≠ 0 ∧ r.treePool = p then some (r.treeUnit, r.treeUnits) else none
    | _ => none))

/-- The lowest run of `n` free units, given ranges in rising order. -/
def tailGap (l : List (Nat × Nat)) (i n total : Nat) : Option Nat :=
  match l with
  | [] => if i + n ≤ total then some i else none
  | (a, k) :: t => if i + n ≤ a then some i else tailGap t (max i (a + k)) n total

/-- The lowest free range of a pool's tail for a tree area. -/
def State.tailRoom (s : State) (p n : Nat) : Option Nat :=
  tailGap (sortBy (fun e => e.1) (s.tailUsed p)) 0 n (s.tailUnits p)

/-- The free units of a pool's tail. -/
def State.tailFree (s : State) (p : Nat) : Nat := s.tailUnits p - (s.tailUsed p).foldl (fun n e => n + e.2) 0

/-! ### Regions as they stand (R138, R430) -/

/-- The regions that exist or have been accepted here: number, first table index and size. -/
def State.regionSpans (s : State) : List (Nat × Nat × Nat) :=
  s.bnd.regions.map (fun e => (e.1, e.2.ttBase, e.2.size)) ++
  s.due.filterMap (fun d => match d.act with
    | .region g r => some (g, r.ttBase, r.size)
    | _ => none) ++
  s.grp.lists.flatMap (fun e => e.2.map (fun r => (r.id, r.ttBase, r.size)))

/-- The lowest region number that is free here and in every list (R139). -/
def State.freeRegion (s : State) : Option Nat :=
  let used := s.regionSpans.map (fun x => x.1)
  (List.range 16384).find? (fun g => ! used.contains g)

end Sys2Proof.Machine
end

