-- ==== Sys2Proof/Machine/Moves.lean ====
section
/-! DEFINITION. Oxbow's moves (R232 to R244): arming, copying, the flip frame and its commit point, flips, aborts, scrubs, directives and
evacuations. Copy traffic is kept as the sets of elements being read and written, not as queued messages. -/
namespace Sys2Proof.Machine
open Sys2Proof

/-! ### Scrubs (R239) -/

/-- The tile of a port (R10): 32 ports each. -/
def tileOf (p : Nat) : Nat := p / 32

/-- A freed parcel is scrubbed by the engine of its pool's tile when SCRUB is set, and otherwise free at once. A scrub the pool's gate refuses
does not run, and the parcel stays in use. -/
def State.freePpi (s : State) (pool ppi : Nat) (slot : Bool) : State :=
  if ! s.curBit OXB_CFG_SCRUB then s.setAlloc pool ppi false
  else
    let g := s.gateCheck pool (0x2000 + tileOf pool) .write (ppi * 262144) 262144
    if g.1 = .allow then { g.2 with oxb.scrubs := g.2.oxb.scrubs ++ [{ pool := pool, ppi := ppi, slot := slot, left := if slot then 4672 else 4096 }] } else g.2

/-- The engine finishes zeroing a freed parcel, whose writes have all been charged to the port (R233), and clears ALLOC; while the pool's port is down no
scrub runs (Table 10-8 case 3). -/
def State.scrubDone (s : State) (pool ppi : Nat) : State :=
  if s.linkUp pool ∧ s.oxb.scrubs.any (fun x => x.pool == pool && x.ppi == ppi && x.left == 0) then
    ({ s with oxb.scrubs := s.oxb.scrubs.filter (fun x => ! (x.pool == pool && x.ppi == ppi)) } : State).setAlloc pool ppi false
  else s

def execScrubDone (pool ppi : Nat) (s : State) : Host.Outcome State Fault Refusal := s.done (s.scrubDone pool ppi)

/-! ### Open moves -/

/-- The class of a region. -/
def State.regionCls (s : State) (g : Nat) : Nat :=
  match mget s.bnd.regions g with
  | some r => r.cls
  | none => 0

/-- The table index of a move's parcel. -/
def State.moveIdx (s : State) (x : Move) : Nat :=
  match mget s.bnd.regions x.region with
  | some r => r.ttBase + x.parcel
  | none => 0

/-- Whether a move slot can be taken (R232). -/
def State.mayOpen (s : State) : Bool := decide (s.oxb.moves.length < min 64 (s.cur OXB_CFG_MAX_MOVES))

/-- Whether a move is past its commit point. -/
def Move.past (x : Move) : Bool := x.phase == .committed

/-- Whether a move is forced (OXB_MV_STAT.FORCED). -/
def Move.isForced (x : Move) : Bool := x.why == .evac || x.why == .forced

/-- A move of a region parcel is armed (R234): the target parcel is taken, a slot is taken, and the entry shows MOVING. -/
def State.arm (s : State) (g r pool : Nat) (why : MoveWhy) (reback : Bool) : State :=
  match mfreeFrom s.oxb.moves 0 64, s.freeParcel pool, mget s.bnd.regions g with
  | some m, some ppi, some rec_ =>
    let i := rec_.ttBase + r
    let e := s.ttEntry i
    let x : Move := {
      region := g, parcel := r, tree := false, units := if rec_.cls = 2 then 521 else 0, srcPool := e.pool, srcPpi := e.ppi,
      dstPool := pool, dstPpi := ppi, why := why, phase := if reback then .committed else .copying, copied := 0, blocks := 0, next := 0,
      reading := [], writing := [], homeWr := [], pass := 0, misses := 0, flipNext := false, abort := none, missed := false, reback := reback }
    ({ s with oxb.moves := mput s.oxb.moves m x } : State).setAlloc pool ppi true |>.setTt i { e with moving := true }
  | _, _, _ => s

/-- A move of a region's tree area is armed (R242). -/
def State.armTree (s : State) (g pool unit : Nat) : State :=
  match mfreeFrom s.oxb.moves 0 64, mget s.bnd.regions g with
  | some m, some r =>
    let x : Move := {
      region := g, parcel := 0, tree := true, units := r.treeUnits * 64, srcPool := r.treePool, srcPpi := r.treeUnit, dstPool := pool,
      dstPpi := unit, why := .evac, phase := .copying, copied := 0, blocks := 0, next := 4096, reading := [], writing := [], homeWr := [],
      pass := 0, misses := 0, flipNext := false, abort := none, missed := false, reback := false }
    { s with oxb.moves := mput s.oxb.moves m x }
  | _, _ => s

/-- An abort of an open move is accepted with a status (R240): before the commit point it takes effect at the Daybreak of R36, later it is too
late. Answers whether it was accepted. -/
def State.abortMove (s : State) (m : Nat) (st : Status) : Bool × State :=
  match mget s.oxb.moves m with
  | none => (false, s)
  | some x =>
    if x.past then (false, s.inc OXB_FLIP_TOO_LATE)
    else if x.abort.isSome then (true, s)
    else (true, { s with oxb.moves := mput s.oxb.moves m { x with abort := some (st, if x.phase = .flip then s.nextFrame else s.effFrame) } })

/-- Aborts every open move before its commit point that a test picks, at the next Daybreak and without a reply. -/
def State.abortMoves (s : State) (pick : Move → Bool) (st : Status) : State :=
  { s with oxb.moves := s.oxb.moves.map (fun e =>
      if pick e.2 && ! e.2.past && e.2.abort.isNone then (e.1, { e.2 with abort := some (st, s.nextFrame) }) else e) }

/-- A pool's port goes down (Table 10-8 cases 2 and 3): moves from or to it that are before their commit point are aborted. -/
def State.movesPortDown (s : State) (p : Nat) : State := s.abortMoves (fun x => x.srcPool == p || x.dstPool == p) .poolUnavailable

/-- A copy is checked by the gates of its pools as initiator 0x5000; a refusal aborts the move with the gate status (R234). -/
def State.copyGate (s : State) (m : Nat) (x : Move) (e : Nat) (k : GKind) : Bool × State :=
  let pool := if k = .read then x.srcPool else x.dstPool
  let place := if k = .read then x.srcPpi else x.dstPpi
  let g := s.gateCheck pool initOxbow k (s.elementAt x.tree pool place e) 64
  if g.1 = .allow then (true, g.2) else (false, (g.2.abortMove m .gate).2)

/-! ### Copying (R233, R235, R236) -/

/-- The units a copy of one 64-byte element is charged, in 1/16,000 of a byte. -/
def lineCharge : Nat := 64 * 16000

/-- A port's share of its line bandwidth over this frame (R233), in 1/16,000 of a byte. -/
def State.frameBudget (s : State) (p : Nat) : Nat :=
  s.portRate p * s.time.len * (if s.evacuating p then s.cur OXB_SHARE_EVAC_SHARE else s.cur OXB_SHARE_SHARE)

/-- At a Daybreak every pool port takes its budget; at most one frame's budget carries over. -/
def State.giveBudgets (s : State) : State :=
  { s with oxb.budget := (List.range 128).foldl (fun b p =>
      if s.isPool p && s.linkUp p then
        let f := s.frameBudget p
        mputD b p 0 (min (mgetD b p 0) f + f)
      else mdel b p) s.oxb.budget }

/-- The next element of a move's pass that is clear and not being read. -/
def Move.nextElement (x : Move) : Option Nat :=
  x.elements.find? (fun e => decide (x.next ≤ e) && ! x.has e && (mget x.reading e).isNone)

/-- One copy read of a move, if both ports can be charged. -/
def State.copyOne (s : State) (m : Nat) : Option State :=
  match mget s.oxb.moves m with
  | none => none
  | some x =>
    if x.phase ≠ .copying ∨ x.abort.isSome ∨ x.flipNext then none
    else match x.nextElement with
      | none => none
      | some e =>
        if mgetD s.oxb.budget x.srcPool 0 < lineCharge ∨ mgetD s.oxb.budget x.dstPool 0 < lineCharge then none
        else
          let g := s.copyGate m x e .read
          if ! g.1 then some g.2
          else
            let b1 := mputD g.2.oxb.budget x.srcPool 0 (mgetD g.2.oxb.budget x.srcPool 0 - lineCharge)
            let b2 := mputD b1 x.dstPool 0 (mgetD b1 x.dstPool 0 - lineCharge)
            let spoilt := e < 4096 && decide (0 < mgetD x.homeWr e 0)
            some (State.tally { g.2 with oxb.budget := b2, oxb.moves := mput g.2.oxb.moves m { x with reading := mput x.reading e spoilt, next := e + 1 } } 341 0x070 1)

/-- The copier takes its open moves in turn, one element each, until none can go on. -/
def State.copyRound (s : State) : Nat → State
  | 0 => s
  | fuel + 1 =>
    let r := (mkeys s.oxb.moves).foldl (fun (a : Bool × State) m =>
      match a.2.copyOne m with
      | some t => (true, t)
      | none => a) (false, s)
    if r.1 then r.2.copyRound fuel else s

/-- The scrubs under way write for as long as their ports can be charged (R233), after the copier of the frame. -/
def State.chargeScrubs (s : State) : State :=
  s.oxb.scrubs.foldl (fun s x =>
    let n := min x.left (mgetD s.oxb.budget x.pool 0 / lineCharge)
    if n = 0 then s
    else
      let s1 : State := { s with
        oxb.budget := mputD s.oxb.budget x.pool 0 (mgetD s.oxb.budget x.pool 0 - n * lineCharge),
        oxb.scrubs := s.oxb.scrubs.map (fun y => if y.pool = x.pool ∧ y.ppi = x.ppi then { y with left := y.left - n } else y) }
      s1.tally (336 + tileOf x.pool) 0x051 n) s

/-- A copy read returns (R235): the copy counts, and its write is issued, only if no home write to the line was outstanding meanwhile. -/
def State.copyReturn (s : State) (m e : Nat) : State :=
  match mget s.oxb.moves m with
  | none => s
  | some x => match mget x.reading e with
    | none => s
    | some spoilt =>
      let x1 := { x with reading := mdel x.reading e }
      let s1 : State := { s with oxb.moves := mput s.oxb.moves m x1 }
      if spoilt || (decide (e < 4096) && decide (0 < mgetD x.homeWr e 0)) then s1
      else
        let r := if x1.phase = .flip then s1.copyGate m x1 e .read else (true, s1)
        let g := if r.1 then r.2.copyGate m x1 e .write else r
        if ! g.1 then g.2
        else
          let x2 := if e < 4096 then { x1 with copied := setOn x1.copied e } else { x1 with blocks := setOn x1.blocks (e - 4096) }
          { g.2 with oxb.moves := mput g.2.oxb.moves m { x2 with writing := sadd x2.writing e } }

def execCopyReadReturn (m e : Nat) (s : State) : Host.Outcome State Fault Refusal := s.done (s.copyReturn m e)

/-- The target pool acknowledges a copy write: of an open move by its slot and element, or after the flip of the line that waits for it, whose
accesses go on (R239). -/
def State.copyAck (s : State) (m e line : Nat) : State :=
  match mget s.oxb.moves m with
  | some x =>
    if x.writing.contains e then { s with oxb.moves := mput s.oxb.moves m { x with writing := sdel x.writing e } }
    else if s.oxb.unacked.contains line then State.resumeWrites { s with oxb.unacked := sdel s.oxb.unacked line } (line / 4096) else s
  | none => if s.oxb.unacked.contains line then State.resumeWrites { s with oxb.unacked := sdel s.oxb.unacked line } (line / 4096) else s

def execCopyWriteAck (m e line : Nat) (s : State) : Host.Outcome State Fault Refusal := s.done (s.copyAck m e line)

/-- A pass ends when it has read every clear element and no read is under way (R236): the lines still clear decide what follows, and a further pass begins
within the frame's budget. The area of a tree has no flip frame while a block is clear (R242). -/
def State.passEnd (s : State) (m : Nat) : State :=
  match mget s.oxb.moves m with
  | none => s
  | some x =>
    if x.phase ≠ .copying ∨ ! x.reading.isEmpty ∨ x.flipNext ∨ x.abort.isSome ∨ x.nextElement.isSome then s
    else
      let u := (x.clear.filter (fun e => x.tree || decide (e < 4096))).length
      let pass := x.pass + 1
      if u ≤ (if x.tree then 0 else s.cur OXB_RANK_FLIP_MAX) then
        { s with oxb.moves := mput s.oxb.moves m { x with pass := min 15 pass, flipNext := true } }
      else if s.cur OXB_RANK_PASS_MAX ≤ pass then
        ((({ s with oxb.moves := mput s.oxb.moves m { x with pass := min 15 pass } } : State).inc OXB_ABORT_HOT).abortMove m .failed).2
      else
        let s1 : State := { s with oxb.moves := mput s.oxb.moves m { x with pass := min 15 pass, next := if x.tree then 4096 else 0 } }
        s1.copyRound 8192

def execCopyPassEnd (m : Nat) (s : State) : Host.Outcome State Fault Refusal := s.done (s.passEnd m)

/-! ### Commit point, flip and abort (R237 to R240) -/

/-- At Dusk+0 of its flip frame a move commits when every bit is set, or misses its flip (R238). -/
def State.movesDusk (s : State) : State :=
  s.oxb.moves.foldl (fun s e =>
    let x := e.2
    if x.phase ≠ .flip ∨ x.missed then s
    else if x.clear.isEmpty ∧ x.abort.isNone then { s with oxb.moves := mput s.oxb.moves e.1 { x with phase := .committed } }
    else
      let s1 := s.inc OXB_FLIP_MISSED
      let y := { x with missed := true, misses := x.misses + 1 }
      let s2 : State := { s1 with oxb.moves := mput s1.oxb.moves e.1 y }
      if s.cur OXB_RANK_FLIP_TRIES ≤ y.misses then s2.abortMoves (fun z => z == y) .failed else s2) s

/-- A committed move flips (R239, R244): the entry names the target, GEN rises, MOVING clears, heat follows, and held writes go to the target. -/
def State.flip (s : State) (m : Nat) (x : Move) : State :=
  let s0 := (({ s with oxb.moves := mdel s.oxb.moves m } : State).inc OXB_DONE_DONE).tally 341 0x071 1
  if x.tree then
    { s0 with bnd.regions := mmod s0.bnd.regions x.region (fun r => { r with treePool := x.dstPool, treeUnit := x.dstPpi }) }
  else
    let i := s.moveIdx x
    let e := s.ttEntry i
    let h := s0.heatRec (s0.globalParcel x.srcPool x.srcPpi)
    let s1 := (s0.setTt i { e with pool := x.dstPool, ppi := x.dstPpi, gen := (e.gen + 1) % 65536, moving := false }).setHeat
      (s0.globalParcel x.dstPool x.dstPpi) { h with alloc := true }
    let s2 := if x.reback then (if s.regionCls x.region = 2 then s1.freshSlot x.region x.parcel x.dstPool x.dstPpi else s1).setAlloc x.srcPool x.srcPpi false
      else s1.freePpi x.srcPool x.srcPpi (s.regionCls x.region == 2)
    State.resumeWrites { s2 with
      oxb.unacked := x.writing.foldl (fun l k => if k < 4096 then sadd l (i * 4096 + k) else l) s2.oxb.unacked } i

/-- An aborted move ends at its Daybreak (R240): MOVING clears, held writes go to the source, and the target parcel is scrubbed and freed. -/
def State.endAborted (s : State) (m : Nat) (x : Move) : State :=
  let s0 := ({ s with oxb.moves := mdel s.oxb.moves m } : State).inc OXB_ABORT_ABORTED
  if x.tree then s0
  else
    let i := s.moveIdx x
    let e := s.ttEntry i
    (((if e.valid then s0.setTt i { e with moving := false } else s0).freePpi x.dstPool x.dstPpi (s.regionCls x.region == 2)).resumeWrites i)

/-- A missed flip goes back to copying (R238): its passes start again. -/
def State.backToCopying (s : State) (m : Nat) (x : Move) : State :=
  ({ s with oxb.moves := mput s.oxb.moves m { x with phase := .copying, missed := false, pass := 0, next := if x.tree then 4096 else 0, reading := [] } } : State).resumeWrites
    (s.moveIdx x)

/-- A move enters its flip frame: its final pass may begin. -/
def State.enterFlip (s : State) (m : Nat) (x : Move) : State :=
  { s with oxb.moves := mput s.oxb.moves m (Move.finalPass { x with phase := .flip, flipNext := false }) }

/-- Whether the flip frame of a move must be postponed by a frame: an overflow holds a line of its parcel (R236), or a block of a tree area is clear
again (R242). -/
def State.flipWaits (s : State) (x : Move) : Bool :=
  if x.tree then ! x.clear.isEmpty else s.home.remac.any (fun e => e.1 / 64 == s.moveIdx x)

/-- A move whose flip frame was due stays in Copying: that of a tree area goes on copying. -/
def State.flipLater (s : State) (m : Nat) (x : Move) : State :=
  if x.tree then { s with oxb.moves := mput s.oxb.moves m { x with flipNext := false, next := 4096 } } else s

/-- The moves at a Daybreak, which opens frame `s.time.frame` (Table 2-2, order 4): flips, aborts, missed flips, and new flip frames. -/
def State.stepMoves (s : State) : State :=
  s.oxb.moves.foldl (fun s e => match mget s.oxb.moves e.1 with
    | none => s
    | some x =>
      if x.past then s.flip e.1 x
      else match x.abort with
        | some (_, f) => if f ≤ s.time.frame then s.endAborted e.1 x else s
        | none => if x.missed then s.backToCopying e.1 x else if ! x.flipNext then s else if s.flipWaits x then s.flipLater e.1 x else s.enterFlip e.1 x) s

/-! ### Targets (R231, R242) -/

/-- How far a pool's tier is from a tier, the faster one first at equal distance. -/
def tierKey (src t : Nat) : Nat := if t < src then 2 * (src - t) else 2 * (t - src) + 1

/-- The pool of the nearest tier in a list, then the most free. -/
def State.pickNearest (s : State) (src : Nat) (l : List Nat) : Option Nat :=
  match leastBy (fun p => tierKey (s.tier src) (s.tier p)) l with
  | none => none
  | some q => s.mostFree (l.filter (fun p => s.tier p == s.tier q))

/-- The target of a forced move (R231), on a pool whose port is up. -/
def State.forcedTarget (s : State) (g src : Nat) : Option Nat :=
  let l := (s.candidates g).filter (fun p => p != src && s.linkUp p)
  match s.pickNearest src (l.filter (fun p => decide (s.freeMin p < s.poolFree p))) with
  | some p => some p
  | none => s.pickNearest src l

/-- The target pool and first unit of a tree area that has to leave its pool (R242). -/
def State.treeTarget (s : State) (g : Nat) (r : Region) : Option (Nat × Nat) :=
  let l := (List.range 128).filter (fun p =>
    s.isPool p && s.linkUp p && s.allowedFor g p && s.sealedCap p && s.curBit (OXB_POOL_CFG_PLACE p) && s.poolReady p && ! s.evacuating p &&
      (s.tailRoom p r.treeUnits).isSome)
  match leastBy s.tier l with
  | none => none
  | some q => match leastBy (fun p => 2 ^ 40 - s.tailFree p) (l.filter (fun p => s.tier p == s.tier q)) with
    | none => none
    | some p => (s.tailRoom p r.treeUnits).map (fun u => (p, u))

/-! ### Arming at a Daybreak (R232, R244) -/

/-- Whether a region's parcels may be moved: it is active, and no mode or transfer forbids it (R139, R335). -/
def State.movable (s : State) (g : Nat) : Bool := s.regionActive g && s.md.mode != .quarantine && ! s.grp.xfers.any (fun x => x.region == g)

/-- A parcel of a pool whose port is down is backed anew on a target, every line of it poisoned (R244). -/
def State.rebackOn (s : State) (g r pool : Nat) (why : MoveWhy) : State :=
  match s.freeParcel pool with
  | some ppi => (s.arm g r pool why true).emit (.poisonFill pool ppi g r)
  | none => s

/-- One parcel due for a forced move off a pool, if it can be armed; answers whether it was stuck for want of a target. -/
def State.forceOne (s : State) (i : Nat) (why : MoveWhy) : Bool × State :=
  let e := s.ttEntry i
  match s.regionOfTt i with
  | none => (false, s)
  | some (g, r) =>
    if ! e.valid || e.moving || ! s.movable g || ! s.mayOpen then (false, s)
    else
      let disc := why == .evac && s.bit (OXB_EVAC_DISCARD e.pool)
      if ! s.linkUp e.pool && ! disc then (why == .evac, s)
      else match s.forcedTarget g e.pool with
        | none => (why == .evac, s)
        | some p => (false, if s.linkUp e.pool then s.arm g r p why false else s.rebackOn g r p why)

/-- The tree areas of an evacuating pool are due for a move (R242); answers whether one is stuck. -/
def State.forceTrees (s : State) (p : Nat) : Bool × State :=
  s.bnd.regions.foldl (fun a e =>
    let s := a.2
    if e.2.treeUnits = 0 ∨ e.2.treePool ≠ p ∨ ! s.mayOpen ∨ ! s.movable e.1 ∨ s.oxb.moves.any (fun x => x.2.tree && x.2.region == e.1) then a
    else if ! s.linkUp p then (true, s)
    else match s.treeTarget e.1 e.2 with
      | none => (true, s)
      | some (q, u) => (a.1, s.armTree e.1 q u)) (false, s)

/-- The valid table entries on a pool, in order. -/
def State.entriesOn (s : State) (p : Nat) : List Nat := s.bnd.tt.filterMap (fun e => if e.2.valid ∧ e.2.pool = p then some e.1 else none)

/-- The tree areas on a pool. -/
def State.treesOn (s : State) (p : Nat) : Nat := (s.bnd.regions.filter (fun e => e.2.treeUnits != 0 && e.2.treePool == p)).length

/-- Whether an evacuation is done: no valid entry and no tree area on the pool, nothing in flight off it, nothing to scrub. -/
def State.evacFinished (s : State) (p : Nat) : Bool :=
  (s.entriesOn p).isEmpty && s.treesOn p == 0 && ! s.oxb.scrubs.any (fun x => x.pool == p) && ! s.oxb.moves.any (fun e => e.2.srcPool == p)

/-- An evacuating pool at a Daybreak (R243): its parcels and tree areas are due for moves; STATE follows, and a change to stalled or done is
an event. -/
def State.evacPool (s : State) (p : Nat) : State :=
  let a := (s.entriesOn p).foldl (fun a i => let r := a.2.forceOne i .evac; (a.1 || r.1, r.2)) (false, s)
  let t := a.2.forceTrees p
  let s1 := t.2
  let st := if s1.evacFinished p then 2 else if a.1 || t.1 then 3 else 1
  let was := s1.fld (OXB_EVAC_STATE p)
  let s2 := s1.setFld (OXB_EVAC_STATE p) st
  if st = was then s2
  else
    let s3 := if st = 2 ∨ st = 3 then s2.raiseShared 301 else s2
    if st = 2 then match mget s3.oxb.evac p with
      | some e => s3.lcEndOpt e.handle .success
      | none => s3
    else s3

/-- Evacuations that begin or end at a Daybreak (R243). -/
def State.evacSwitch (s : State) : State :=
  s.oxb.evac.foldl (fun s e =>
    if e.2.cancel then
      (({ s with oxb.evac := mdel s.oxb.evac e.1 } : State).setFld (OXB_EVAC_STATE e.1) 0).lcEndOpt e.2.handle .aborted
    else if ! e.2.begun then
      (({ s with oxb.evac := mput s.oxb.evac e.1 { e.2 with begun := true } } : State).setFld (OXB_EVAC_STATE e.1) 1).abortMoves
        (fun x => x.dstPool == e.1) .aborted
    else s) s

/-- Parcels outside the allowed pools of their region are due for a forced move (R229, Table 1-4 case 4); an empty intersection leaves them. -/
def State.forceOutside (s : State) : State :=
  s.bnd.tt.foldl (fun s e => match s.regionOfTt e.1 with
    | none => s
    | some (g, _) =>
      if e.2.valid ∧ ! s.evacuating e.2.pool ∧ ! s.allowedFor g e.2.pool ∧ ! s.conflicted g then (s.forceOne e.1 .forced).2 else s) s

/-! ### Directives (R229) -/

/-- Whether a pool may be the target of a directive for a region, at acceptance. -/
def State.directiveTarget (s : State) (g p : Nat) : Bool :=
  s.isPool p && s.allowedFor g p && s.curBit (OXB_POOL_CFG_PLACE p) && ! s.evacuating p &&
    (s.regionCls g != 2 || s.sealedCap p)

/-- A directive goes on at a Daybreak: each parcel is armed, skipped, or found on the target; it waits for a move slot and for an open move of
the parcel. -/
def State.stepDirective (s : State) (d : Directive) : Nat → Directive × State
  | 0 => (d, s)
  | fuel + 1 =>
    if d.count ≤ d.next then (d, s)
    else match mget s.bnd.regions d.region with
      | none => ({ d with next := d.count }, s)
      | some r =>
        let e := s.ttEntry (r.ttBase + d.firstP + d.next)
        let d1 := { d with next := d.next + 1 }
        if ! e.valid ∨ e.pool = d.pool then s.stepDirective d1 fuel
        else if e.moving then (d, s)
        else if ! s.linkUp e.pool ∨ ! s.linkUp d.pool ∨ ! s.poolReady d.pool ∨ ! s.directiveTarget d.region d.pool ∨ s.poolFree d.pool ≤ s.freeMin d.pool ∨ ! s.movable d.region then
          s.stepDirective d1 fuel
        else if ! s.mayOpen then (d, s)
        else (s.arm d.region (d.firstP + d.next) d.pool (.directive d.handle) false).stepDirective d1 fuel

/-- Whether every parcel of a directive lies on its target. -/
def State.directiveMet (s : State) (d : Directive) : Bool :=
  match mget s.bnd.regions d.region with
  | none => false
  | some r => (List.range d.count).all (fun k => let e := s.ttEntry (r.ttBase + d.firstP + k); e.valid && e.pool == d.pool)

/-- The directives at a Daybreak, in the order they were accepted; those that have ended complete. -/
def State.stepDirectives (s : State) : State :=
  s.oxb.directives.foldl (fun s d =>
    let r := s.stepDirective d (d.count + 1)
    let d1 : Directive := { r.1 with ab := r.1.ab || s.oxb.moves.any (fun e => e.2.why == .directive d.handle && (match e.2.abort with
      | some (st, _) => st == .aborted
      | none => false)) }
    if d1.count ≤ d1.next ∧ ! r.2.oxb.moves.any (fun e => e.2.why == .directive d.handle) then
      ({ r.2 with oxb.directives := r.2.oxb.directives.filter (fun x => x.handle != d.handle) } : State).lcEnd d.handle
        (if r.2.directiveMet d1 then .success else if d1.ab then .aborted else .failed)
    else { r.2 with oxb.directives := r.2.oxb.directives.map (fun x => if x.handle = d.handle then d1 else x) }) s

/-- Opcode 0x0600 (R229): directs a range of region parcels to a pool, as a long command. -/
def execPlacementDirective (rq : Rq) (region firstP count pool : Nat) (s : State) : Host.Outcome State Fault Refusal :=
  s.done (xib 0x0600 rq (.placementDirective rq region firstP count pool) s fun p s =>
    match mget s.bnd.regions region with
    | none => s.refuse .parameter
    | some r =>
      if r.deleting ∨ count = 0 ∨ r.size < firstP + count then s.refuse .parameter
      else if s.policyOf region = 0 ∨ 127 < pool ∨ ! s.directiveTarget region pool then s.refuse .parameter
      else if (List.range count).any (fun k => (s.moveOf region (firstP + k)).isSome) then s.refuse .busy
      else if s.lcSlots = [] then s.refuse .busy
      else
        let (h, s1) := s.lcStart 0x0600 (rqRef rq 0x0600) p (routeTargetOf rq.route rq.carrier)
        let d : Directive := { region := region, firstP := firstP, count := count, pool := pool, next := 0, handle := h }
        State.long { s1 with oxb.directives := s1.oxb.directives ++ [d] } s.effFrame h)

/-- Opcode 0x0601 (R240): aborts the open moves of a range; answers how many were aborted and how many were too late. -/
def execMoveAbort (rq : Rq) (region firstP count : Nat) (s : State) : Host.Outcome State Fault Refusal :=
  s.done (xib 0x0601 rq (.moveAbort rq region firstP count) s fun _ s =>
    match mget s.bnd.regions region with
    | none => s.refuse .parameter
    | some r =>
      if count = 0 ∨ r.size < firstP + count then s.refuse .parameter
      else
        let l := s.oxb.moves.filter (fun e => ! e.2.tree && e.2.region == region && decide (firstP ≤ e.2.parcel) && decide (e.2.parcel < firstP + count))
        let a := l.foldl (fun (a : Nat × Nat × State) e =>
          let t := a.2.2.abortMove e.1 .aborted
          if t.1 then (a.1 + 1, a.2.1, t.2) else (a.1, a.2.1 + 1, t.2)) (0, 0, s)
        { st := a.2.2, status := .success, frame := s.effFrame, data := [(4, a.1), (4, a.2.1)] })

/-! ### Starting and ending an evacuation (R243) -/

/-- What refuses an evacuation START. -/
def State.evacRefusal (s : State) (p : Nat) : Option Status :=
  if 127 < p ∨ ! s.isPool p ∨ ! s.poolReady p then some .parameter
  else if (mget s.oxb.evac p).isSome then some .busy
  else none

/-- Opcode 0x0603 (R243). -/
def execEvacuatePool (rq : Rq) (pool discard : Nat) (s : State) : Host.Outcome State Fault Refusal :=
  s.done (xib 0x0603 rq (.evacuatePool rq pool discard) s fun p s =>
    if 1 < discard then s.refuse .parameter
    else match s.evacRefusal pool with
      | some c => s.refuse c
      | none =>
        if s.lcSlots = [] then s.refuse .busy
        else
          let (h, s1) := s.lcStart 0x0603 (rqRef rq 0x0603) p (routeTargetOf rq.route rq.carrier)
          let s2 := s1.setBit (OXB_EVAC_DISCARD pool) (discard == 1)
          State.long { s2 with oxb.evac := mput s2.oxb.evac pool { discard := discard == 1, handle := some h, cancel := false, begun := false } } s.nextFrame h)

/-- The action of OXB_EVAC_p.START: refused writes are dropped and counted. -/
def State.evacStart (s : State) (p : Nat) : State :=
  match s.evacRefusal p with
  | some _ => s.countRefused
  | none => { s with oxb.evac := mput s.oxb.evac p { discard := s.bit (OXB_EVAC_DISCARD p), handle := none, cancel := false, begun := false } }

/-- The action of OXB_EVAC_p.CANCEL. -/
def State.evacCancel (s : State) (p : Nat) : State :=
  { s with oxb.evac := mmod s.oxb.evac p (fun e => { e with cancel := true }) }

/-! ### Ranker and heat (R225, R226, R230, R231) -/

/-- The background sweeper visits one heat record (R225): a fully decayed one is written with heat 0. -/
def State.heatSweep (s : State) (g : Nat) : State :=
  let h := s.heatRec g
  if 8 ≤ (s.epoch % 128 + 128 - h.stamp) % 128 then s.setHeat g { h with heat := 0, stamp := s.epoch % 128 } else s

/-- The sweeper visits a record; `lost` says that its heat word (16 bytes, R26) is uncorrectable: its eight records read heat 0 and in use,
and an unmirrored word is lost (R25); of a failed stack every word is (R418). -/
def execHeatSweep (g : Nat) (lost : Bool) (s : State) : Host.Outcome State Fault Refusal :=
  s.done (if lost || s.stackGone 1 then s.loseHeat g else s.heatSweep g)

/-- The target of a promotion of a parcel: a pool of the lowest tier below its own with room above the reserve (R231). -/
def State.promoteTarget (s : State) (g src : Nat) : Option Nat :=
  s.pickLowest ((s.candidates g).filter (fun p => decide (s.tier p < s.tier src) && decide (s.freeMin p < s.poolFree p)))

/-- The target of a demotion: a pool of the nearest tier above its own. -/
def State.demoteTarget (s : State) (g src : Nat) : Option Nat :=
  s.pickLowest ((s.candidates g).filter (fun p => decide (s.tier src < s.tier p) && decide (s.freeMin p < s.poolFree p)))

/-- Whether an entry is eligible for promotion (R231). -/
def State.promotable (s : State) (i : Nat) : Bool :=
  let e := s.ttEntry i
  match s.regionOfTt i with
  | some (g, _) =>
    e.valid && ! e.moving && s.policyOf g == 2 && s.regionActive g &&
      decide (s.cur OXB_RANK_PROMOTE_THR ≤ s.heatNow (s.heatRec (s.globalParcel e.pool e.ppi))) && (s.promoteTarget g e.pool).isSome
  | none => false

/-- Whether an entry is eligible for demotion (R231). -/
def State.demotable (s : State) (i : Nat) : Bool :=
  let e := s.ttEntry i
  match s.regionOfTt i with
  | some (g, _) =>
    e.valid && ! e.moving && s.policyOf g == 2 && s.regionActive g &&
      decide (s.heatNow (s.heatRec (s.globalParcel e.pool e.ppi)) ≤ s.cur OXB_RANK_DEMOTE_THR) &&
      decide (s.poolFree e.pool < 2 * s.freeMin e.pool) && (s.demoteTarget g e.pool).isSome
  | none => false

/-- What the ranker lists of an entry. -/
def State.listed (s : State) (i : Nat) : Listed :=
  let e := s.ttEntry i
  { idx := i, heat := s.heatNow (s.heatRec (s.globalParcel e.pool e.ppi)), gen := e.gen }

/-- The heat figures of a pool after a pass (OXB_POOL_HEAT): the mean of its backed parcels, and the part at or above the threshold. -/
def State.poolHeat (s : State) (p : Nat) : State :=
  let l := (s.entriesOn p).map (fun i => (s.listed i).heat)
  let n := l.length
  if n = 0 then (s.setFld (OXB_POOL_HEAT_MEAN p) 0).setFld (OXB_POOL_HEAT_HOT p) 0
  else
    (s.setFld (OXB_POOL_HEAT_MEAN p) (l.foldl (fun a b => a + b) 0 / n)).setFld (OXB_POOL_HEAT_HOT p)
      (min 255 ((l.filter (fun h => decide (s.cur OXB_RANK_PROMOTE_THR ≤ h))).length * 256 / n))

/-- A complete pass of the ranker (R225, R230): the two lists are built anew, at most 256 parcels each, pool figures follow, and in the heat words
lost before this pass ALLOC clears of every parcel that nothing names. `words` are the global parcels whose words the pass finds lost (R25); of a failed stack every word is (R418). -/
def State.rankerPass (s0 : State) (words : List Nat) : State :=
  let lost := if s0.stackGone 1 then (s0.oxb.heat.map (fun e => e.1 / 8 * 8)).eraseDups else words
  let s := lost.foldl State.loseHeat s0
  let en := s.curBit OXB_CFG_EN
  let idx := s.bnd.tt.filterMap (fun e => if e.2.valid then some e.1 else none)
  let promo := (sortBy (fun (x : Listed) => 255 - x.heat) ((idx.filter s.promotable).map s.listed)).take 256
  let demo := (sortBy (fun (x : Listed) => x.heat) ((idx.filter s.demotable).map s.listed)).take 256
  let s1 : State := { s with oxb.promo := if en then promo else [], oxb.demo := if en then demo else [] }
  let s2 := (List.range 128).foldl (fun s p => if s.isPool p then s.poolHeat p else s) s1
  let inUse := fun (p ppi : Nat) => s.bnd.tt.any (fun e => e.2.valid && e.2.pool == p && e.2.ppi == ppi) ||
    s.oxb.moves.any (fun e => ! e.2.tree && e.2.dstPool == p && e.2.dstPpi == ppi) ||
    s.oxb.scrubs.any (fun x => x.pool == p && x.ppi == ppi) ||
    s.due.any (fun d => match d.act with
      | .ttSet _ q i => q == p && i == ppi
      | _ => false) || s.bnd.prep.any (fun e => e.2 == (p, ppi))
  let s3 := (List.range 128).foldl (fun s p =>
    if s.isPool p then (s.allocated p (s.dataParcels p)).foldl (fun s i =>
      if inUse p i || ! s0.oxb.lostWords.contains (s.globalParcel p i / 8 * 8) then s else s.setAlloc p i false) s else s) s2
  State.setFld { s3 with oxb.lostWords := lost.foldl (fun l g => sadd l (g / 8 * 8)) [] } OXB_STAT_PASS_CNT (s3.fld OXB_STAT_PASS_CNT + 1)

def execRankerPass (lost : List Nat) (s : State) : Host.Outcome State Fault Refusal := s.done (s.rankerPass lost)

/-- Whether a listed parcel stays listed (R230): its entry is the one listed and shows no move, and its heat still meets the threshold. -/
def State.stillListed (s : State) (x : Listed) (promo : Bool) : Bool :=
  let e := s.ttEntry x.idx
  let h := (s.listed x.idx).heat
  e.valid && e.gen == x.gen && ! e.moving &&
    (if promo then decide (s.cur OXB_RANK_PROMOTE_THR ≤ h) else decide (h ≤ s.cur OXB_RANK_DEMOTE_THR))

/-- The move of a listed parcel, where it can be armed now: it is eligible, its region's parcels may be moved, and both ports are up. -/
def State.rankedMove (s : State) (x : Listed) (promo : Bool) : Option State :=
  let e := s.ttEntry x.idx
  match s.regionOfTt x.idx with
  | none => none
  | some (g, r) =>
    if ! s.mayOpen ∨ ! s.linkUp e.pool ∨ ! s.movable g ∨ ! (if promo then s.promotable x.idx else s.demotable x.idx) then none
    else match (if promo then s.promoteTarget g e.pool else s.demoteTarget g e.pool) with
      | some p => if s.linkUp p then some (s.arm g r p (if promo then .promote else .demote) false) else none
      | none => none

/-- A list of the ranker is gone through in order: a parcel that may not stay listed is dropped, one whose move is armed leaves, and the rest stay. -/
def State.takeRanked (s : State) (l : List Listed) (promo : Bool) : List Listed × State :=
  l.foldl (fun (a : List Listed × State) x =>
    if ! a.2.stillListed x promo then a
    else match a.2.rankedMove x promo with
      | some t => (a.1, t)
      | none => (a.1 ++ [x], a.2)) ([], s)

/-- The ranker's lists at a Daybreak (R230, R232): demotions before promotions. -/
def State.stepRanked (s : State) : State :=
  if ! s.curBit OXB_CFG_EN then { s with oxb.promo := [], oxb.demo := [] }
  else
    let d := s.takeRanked s.oxb.demo false
    let u := State.takeRanked { d.2 with oxb.demo := d.1 } d.2.oxb.promo true
    { u.2 with oxb.promo := u.1 }

/-- Oxbow at a Daybreak after the flips (R232, R233): evacuations, other forced moves, directives, demotions and promotions, in that order; then
the copier's reads of the new frame, and what scrubs write of it. A move whose target the sets in force no longer allow is aborted first (Table 10-8 case 4). -/
def State.armMoves (s : State) : State :=
  let s1 := (s.abortMoves (fun x => ! (s.bindingsOf x.region).isEmpty && ! s.allowedFor x.region x.dstPool) .aborted).evacSwitch
  let s2 := (mkeys s1.oxb.evac).foldl (fun s p => if s.evacuating p then s.evacPool p else s) s1
  let s3 := ((s2.forceOutside).stepDirectives).stepRanked
  (s3.giveBudgets.copyRound 262144).chargeScrubs

/-- Opcode 0x0602 (R226): per-parcel heat of a region, for its tenant only, while some binding of the region has TEN_VIEW set. -/
def execHeatQuery (rq : Rq) (region firstP count : Nat) (s : State) : Host.Outcome State Fault Refusal :=
  s.done (xib 0x0602 rq (.heatQuery rq region firstP count) s fun p s =>
    match mget s.bnd.regions region with
    | none => s.refuse .parameter
    | some r =>
      if p ≠ .tenant r.tenant ∨ ! (s.bindingsOf region).any (fun b => s.curBit (BND_CFG_TEN_VIEW b)) then s.refuse .permission
      else if 4000 < count then s.refuse .tooLarge
      else if count = 0 ∨ r.size < firstP + count then s.refuse .parameter
      else s.readAns ((List.range count).map (fun k =>
        (1, if (s.ttEntry (r.ttBase + firstP + k)).valid then (s.listed (r.ttBase + firstP + k)).heat else 0))))

/-- The records of a pool whose link has come up are built or rebuilt (R227, R368); an evacuation that is done returns to idle. -/
def State.poolRebuilt (s : State) (p : Nat) : State :=
  let s1 := s.initPool p
  if s1.poolReady p ∧ s1.fld (OXB_EVAC_STATE p) = 2 then ({ s1 with oxb.evac := mdel s1.oxb.evac p } : State).setFld (OXB_EVAC_STATE p) 0 else s1

/-- A pool's link has come up after its channel was without power-good: the rebuild of its records is done (R368). -/
def execPoolRebuild (p : Nat) (s : State) : Host.Outcome State Fault Refusal :=
  s.done (if p < 128 ∧ s.isPool p ∧ s.linkUp p ∧ ! (s.px p).inited then s.poolRebuilt p else s)

end Sys2Proof.Machine
end

