-- ==== Sys2Proof/Machine/Bind.lean ====
section
/-! DEFINITION. Bindings, regions and virtual memory devices (chapter 7): region opcodes, the HDM decoder, extents, the path of a CXL.mem access
to its home, and binding resets. -/
namespace Sys2Proof.Machine
open Sys2Proof

/-! ### Regions (R138, R139) -/

/-- Opcode 0x0400 (R139, R204): creates a region, whose number it answers; the region exists from the Daybreak of R36. -/
def execRegionCreate (rq : Rq) (tenant cls size ttBase treePool releaseFree : Nat) (s : State) : Host.Outcome State Fault Refusal :=
  s.done (xib 0x0400 rq (.regionCreate rq tenant cls size ttBase treePool releaseFree) s fun _ s =>
    let spans := s.regionSpans
    if s.md.mode = .evacuate then s.refuse .state
    else if size = 0 ∨ 2 ^ 28 < size ∨ 2 < cls ∨ 1023 < tenant ∨ 1 < releaseFree then s.refuse .parameter
    else if cls ≠ 0 ∧ tenant = 0 then s.refuse .parameter
    else if 2 ^ 30 < ttBase + size ∨ spans.any (fun x => decide (ttBase < x.2.1 + x.2.2) && decide (x.2.1 < ttBase + size)) then s.refuse .parameter
    else if cls ≠ 0 ∧ s.slotState tenant ≠ .established then s.refuse .parameter
    else
      let units := if cls = 2 ∧ 4 ≤ treeLevels size then treeUnitsFor size else 0
      let room := if units = 0 then some 0
        else if treePool < 128 ∧ s.isPool treePool ∧ s.sealedCap treePool ∧ s.poolReady treePool ∧ ! s.evacuating treePool then s.tailRoom treePool units else none
      match room with
      | none => s.refuse .poolUnavailable
      | some u => match s.freeRegion with
        | none => s.refuse .busy
        | some g =>
          let r : Region := {
            tenant := tenant, cls := cls, size := size, ttBase := ttBase, treePool := if units = 0 then 0 else treePool, treeUnit := u,
            treeUnits := units, releaseFree := releaseFree == 1, deleting := false, delHandle := none }
          { st := s.submit (some (rqRef rq 0x0400)) (.region g r), status := .success, frame := s.effFrame, data := [(2, g)] })

/-- How many bindings of a region are committed (NBIND). -/
def State.nBind (s : State) (g : Nat) : Nat := (s.bindingsOf g).length

/-- Whether a commit's words leave binding b valid and name a region for it. -/
def State.namesRegion (s : State) (ws : NMap Word) (b g : Nat) : Bool :=
  getBit ((mget ws (BND_CFG b)).getD (s.curWord (BND_CFG b))) 0 && getBits ((mget ws (BND_REGION b)).getD (s.curWord (BND_REGION b))) 0 14 == g

/-- Whether an accepted commit that is not yet in force names a region, by the configuration or the region of a binding. -/
def State.bindingDue (s : State) (g : Nat) : Bool :=
  s.due.any (fun d => match d.act with
    | .stage ws _ _ => ws.any (fun w => match bndOfWord w.1 with
        | some b => (w.1 == BND_CFG b || w.1 == BND_REGION b) && s.namesRegion ws b g
        | none => false)
    | _ => false)

/-- Opcode 0x0401 (R139): deletes a region, as a long command. -/
def execRegionDelete (rq : Rq) (region : Nat) (s : State) : Host.Outcome State Fault Refusal :=
  s.done (xib 0x0401 rq (.regionDelete rq region) s fun p s =>
    match mget s.bnd.regions region with
    | none => s.refuse .parameter
    | some r =>
      if r.deleting ∨ 0 < s.nBind region ∨ s.bindingDue region ∨ s.lcSlots = [] then s.refuse .busy
      else
        let (h, s1) := s.lcStart 0x0401 (rqRef rq 0x0401) p (routeTargetOf rq.route rq.carrier)
        let s2 : State := { s1 with bnd.regions := mput s1.bnd.regions region { r with deleting := true, delHandle := some h } }
        State.long (s2.abortMoves (fun x => x.region == region) .aborted) s.effFrame h)

/-- At Dusk+0 a deleting region with no move open passes its commit point (R139). -/
def State.deletesDusk (s : State) : State :=
  s.bnd.regions.foldl (fun s e =>
    if e.2.deleting ∧ ! e.2.delNow ∧ ! s.oxb.moves.any (fun x => x.2.region == e.1) then
      let s1 : State := { s with bnd.regions := mput s.bnd.regions e.1 { e.2 with delNow := true } }
      match e.2.delHandle with
      | some h => s1.lcPast h
      | none => s1
    else s) s

/-- A translation entry is cleared at a Daybreak, and its parcel returns to its pool (R139, R148). -/
def State.clearEntry (s : State) (i : Nat) : State :=
  let e := s.ttEntry i
  if e.valid then (s.setTt i { valid := false, moving := false, pool := 0, ppi := 0, gen := (e.gen + 1) % 65536 }).setAlloc e.pool e.ppi false else s

/-- Regions whose delete takes effect at this Daybreak (R139). -/
def State.applyDeletes (s : State) : State :=
  s.bnd.regions.foldl (fun s e =>
    if e.2.deleting ∧ e.2.delNow then
      let idx := (mkeys s.bnd.tt).filter (fun i => decide (e.2.ttBase ≤ i) && decide (i < e.2.ttBase + e.2.size))
      let s1 := idx.foldl State.clearEntry s
      State.lcEndOpt { s1 with
        bnd.regions := mdel s1.bnd.regions e.1, sec.roots := mdel s1.sec.roots e.1, sec.integ := mdel s1.sec.integ e.1,
        sec.leaves := s1.sec.leaves.filter (fun l => l.1 / 2 ^ 34 != e.1), sec.macs := s1.sec.macs.filter (fun l => l.1 / 2 ^ 34 != e.1),
        sec.nodes := s1.sec.nodes.filter (fun n => n.1 / 2 ^ 40 % 2 ^ 20 != e.1) } e.2.delHandle .success
    else s) s

/-- A region record as one 16-byte number: the fields of Table 7-1 in order, from bit 0 (log entry 30). -/
def State.regionRecord (s : State) (g : Nat) (tenant cls size ttBase state : Nat) (rf : Bool) : Nat :=
  g + tenant * 2 ^ 14 + cls * 2 ^ 24 + size * 2 ^ 26 + ttBase * 2 ^ 55 + state * 2 ^ 85 + s.nBind g * 2 ^ 87 + (if rf then 2 ^ 94 else 0)

/-- Opcode 0x0402 (R138): a region record; a tenant reads those of its own regions. -/
def execGetRegion (rq : Rq) (region : Nat) (s : State) : Host.Outcome State Fault Refusal :=
  s.done (xib 0x0402 rq (.getRegion rq region) s fun p s =>
    match mget s.bnd.regions region with
    | some r =>
      if (match p with | .tenant t => decide (t ≠ r.tenant) | _ => false) then s.refuse .permission
      else s.readAns [(16, s.regionRecord region r.tenant r.cls r.size r.ttBase (if r.deleting then 2 else 1) r.releaseFree)]
    | none =>
      if 16383 < region then s.refuse .parameter
      else if (match p with | .tenant _ => true | _ => false) then s.refuse .permission
      else s.readAns [(16, s.regionRecord region 0 0 0 0 0 false)])

/-! ### The HDM decoder (R144) -/

/-- Whether the TSP lock of a binding's virtual memory device is set (R65). -/
def State.tspLocked (s : State) (b : Nat) : Bool := s.prt.vdp.any (fun e => e.2.hold == .vmd b && e.2.tspLock)

/-- The host writes Commit on a binding's decoder (R144): a locked decoder is left alone, and under the TSP lock the write is refused (R65); a setting R144 refuses sets ERR_NC; otherwise it
takes effect under R36. -/
def execHdmDecoderCommit (b base size ig iw : Nat) (on lock : Bool) (s : State) : Host.Outcome State Fault Refusal :=
  s.done (if 4096 ≤ b ∨ ! s.bndValid b ∨ s.bit (BND_HDM_CTL_LOCKED b) then s
    else if s.tspLocked b then s.emit (.unsupported (s.bndPort b) (s.cur (BND_CFG_VDP b)))
    else if on ∧ (2 ^ 46 < size ∨ base % 2 ^ 28 ≠ 0 ∨ size % 2 ^ 28 ≠ 0 ∨ 2 ^ 64 ≤ base ∨ 6 < ig ∨ 4 < iw) then s.setBit (BND_HDM_CTL_ERR_NC b) true
    else (s.setBit (BND_HDM_CTL_ERR_NC b) false).submit none (.hdm b base size ig iw on lock))

/-- A decoder setting takes effect. -/
def State.applyHdm (s : State) (b base size ig iw : Nat) (on lock : Bool) : State :=
  if ! on then s.setBit (BND_HDM_CTL_COMMITTED b) false
  else
    let s1 := (s.setFld (BND_HDM_BASE_LO_VALUE b) (base / 2 ^ 28 % 16)).setFld (BND_HDM_BASE_HI_VALUE b) (base / 2 ^ 32)
    let s2 := (s1.setFld (BND_HDM_SIZE_LO_VALUE b) (size / 2 ^ 28 % 16)).setFld (BND_HDM_SIZE_HI_VALUE b) (size / 2 ^ 32)
    let s3 := ((s2.setFld (BND_HDM_CTL_IG b) ig).setFld (BND_HDM_CTL_IW b) iw).setBit (BND_HDM_CTL_COMMITTED b) true
    if lock then s3.setBit (BND_HDM_CTL_LOCKED b) true else s3

/-- The device physical address of a host physical address (R144): the interleave bits are removed; none outside the decoder. -/
def State.dpaOf (s : State) (b hpa : Nat) : Option Nat :=
  let base := s.fld (BND_HDM_BASE_LO_VALUE b) * 2 ^ 28 + s.fld (BND_HDM_BASE_HI_VALUE b) * 2 ^ 32
  let size := s.fld (BND_HDM_SIZE_LO_VALUE b) * 2 ^ 28 + s.fld (BND_HDM_SIZE_HI_VALUE b) * 2 ^ 32
  let gran := 2 ^ (8 + s.fld (BND_HDM_CTL_IG b))
  let ways := 2 ^ s.fld (BND_HDM_CTL_IW b)
  if s.bit (BND_HDM_CTL_COMMITTED b) ∧ base ≤ hpa ∧ hpa < base + size then
    some ((hpa - base) / (gran * ways) * gran + (hpa - base) % gran)
  else none

/-! ### Extents (R145 to R148) -/

/-- The extent of a binding that begins at a DPA parcel. -/
def State.extentOf (s : State) (b dpaP : Nat) : Option Extent := (s.extents b).find? (fun e => e.dpa == dpaP)

/-- Replaces an extent. -/
def State.putExtent (s : State) (b : Nat) (x : Extent) : State :=
  s.setExtents b ((s.extents b).map (fun e => if e.dpa = x.dpa then x else e))

/-- Removes an extent. -/
def State.delExtent (s : State) (b dpaP : Nat) : State := s.setExtents b ((s.extents b).filter (fun e => e.dpa != dpaP))

/-- Whether some binding's extent covers a region parcel. -/
def State.mapped (s : State) (g r : Nat) : Bool :=
  s.bnd.ext.any (fun e => s.bndRegion e.1 == g && e.2.any (fun x => decide (x.rofs ≤ r) && decide (r < x.rofs + x.len)))

/-- Whether an entry is staged for an add. -/
def State.beingMade (s : State) (i : Nat) : Bool :=
  s.due.any (fun d => match d.act with
    | .ttSet j _ _ => j == i
    | _ => false)

/-- Whether the preparation of an add is making an entry: its parcel is being filled, or the entry is staged. -/
def State.inPrep (s : State) (i : Nat) : Bool := (mget s.bnd.prep i).isSome || s.beingMade i

/-- One region parcel of an add (R146): an unbacked one is placed, and its parcel taken and filled; a Sealed one gets a fresh slot. None
where no pool can take it. -/
def State.prepare (s : State) (g : Nat) (r_ : Region) (r : Nat) : Option (Bool × State) :=
  let i := r_.ttBase + r
  if (s.ttEntry i).valid || s.inPrep i then some (false, s)
  else match s.placePool g with
    | none => none
    | some p => match s.freeParcel p with
      | none => none
      | some ppi =>
        if ! s.linkUp p then none
        else
          let s1 := (if r_.cls = 2 then s.freshSlot g r p ppi else s).setAlloc p ppi true
          some (true, (State.emit { s1 with bnd.prep := mput s1.bnd.prep i (p, ppi) } (.zeroFill p ppi g r)).tally (336 + tileOf p) 0x051 4096)

/-- Every parcel of an add, in order, with those it made. -/
def State.prepareAll (s : State) (g : Nat) (r_ : Region) : List Nat → Option (List Nat × State)
  | [] => some ([], s)
  | r :: t => match s.prepare g r_ r with
    | none => none
    | some (made, s1) => match s1.prepareAll g r_ t with
      | none => none
      | some (l, s2) => some (if made then r :: l else l, s2)

/-- Opcode 0x0403 (R145, R146): adds an extent, as a long command. For a region homed on a peer the home has the entries. -/
def execExtentAdd (rq : Rq) (binding dpaP lenP rofsP tag : Nat) (s : State) : Host.Outcome State Fault Refusal :=
  s.done (xib 0x0403 rq (.extentAdd rq binding dpaP lenP rofsP tag) s fun p s =>
    if s.md.mode = .evacuate then s.refuse .state
    else if 4096 ≤ binding ∨ ! s.bndValid binding ∨ s.bnd.unbinding.contains binding then s.refuse .parameter
    else
      let g := s.bndRegion binding
      let size := match mget s.bnd.regions g with
        | some r => r.size
        | none => match s.remoteRegion g with
          | some x => x.2.size
          | none => 0
      if s.overWindow binding (dpaP * 262144) ((dpaP + lenP) * 262144) then s.refuse .parameter
      else if lenP = 0 ∨ size < rofsP + lenP ∨ 2 ^ 28 < dpaP + lenP ∨ 64 ≤ ((s.extents binding).filter (fun e => e.st != .releasing)).length then s.refuse .parameter
      else if (s.extents binding).any (fun e => decide (dpaP < e.dpa + e.len) && decide (e.dpa < dpaP + lenP)) then s.refuse .parameter
      else if s.lcSlots = [] then s.refuse .busy
      else
        let made := match mget s.bnd.regions g with
          | some r => s.prepareAll g r ((List.range lenP).map (fun k => rofsP + k))
          | none => some ([], s)
        match made with
        | none => s.refuse .poolUnavailable
        | some (l, s0) =>
          let (h, s1) := s0.lcStart 0x0403 (rqRef rq 0x0403) p (routeTargetOf rq.route rq.carrier)
          let e : Extent := {
            dpa := dpaP, len := lenP, rofs := rofsP, tag := tag, st := .preparing, add := some h, rel := none, made := l, accepting := false,
            rejected := false, swept := false }
          (s1.setExtents binding (sortBy (fun (x : Extent) => x.dpa) (s1.extents binding ++ [e]))).long s.effFrame h)

/-- The table index of a region parcel of a binding's region. -/
def State.idxOf (s : State) (b r : Nat) : Nat :=
  match s.bndRec b with
  | some x => x.ttBase + r
  | none => 0

/-- Whether every region parcel of an extent has its entry in force; those of a region homed on a peer are that switch's. -/
def State.backed (s : State) (b : Nat) (e : Extent) : Bool :=
  (s.bndRec b).isNone || (List.range e.len).all (fun k => (s.ttEntry (s.idxOf b (e.rofs + k))).valid)

/-- An extent whose parcels are all filled and backed is offered (R146): the Add Capacity event is sent, which is the commit point. -/
def State.offer (s : State) (b : Nat) (e : Extent) : State :=
  if e.st ≠ .preparing ∨ ! e.filled ∨ ! s.backed b e then s
  else
    let s1 := (s.putExtent b { e with st := .offered }).emit (.capacity b e.dpa true)
    match e.add with
    | some h => s1.lcPast h
    | none => s1

/-- A filled parcel's entry is staged (R146). -/
def State.stageFilled (s : State) (i : Nat) : State :=
  match mget s.bnd.prep i with
  | some (p, ppi) => State.submit { s with bnd.prep := mdel s.bnd.prep i } none (.ttSet i p ppi)
  | none => s

/-- The fills of an add finish (R146): its entries are committed, and it is offered once every parcel of its range is backed, at once or at a Daybreak. -/
def State.prepDone (s : State) (b dpaP : Nat) : State :=
  match s.extentOf b dpaP with
  | none => s
  | some e =>
    if e.st ≠ .preparing ∨ e.filled then s
    else
      let e1 := { e with filled := true }
      State.offer ((e.made.map (s.idxOf b)).foldl State.stageFilled (s.putExtent b e1)) b e1

/-- At a Daybreak the adds whose entries have come into force are offered. -/
def State.offerAll (s : State) : State := s.bnd.ext.foldl (fun s x => x.2.foldl (fun s e => s.offer x.1 e) s) s

def execExtentPreparationDone (b dpaP : Nat) (s : State) : Host.Outcome State Fault Refusal := s.done (s.prepDone b dpaP)

/-- The first add in preparation, of another binding of the region, that needs a region parcel. -/
def State.sharer (s : State) (b r : Nat) : Option (Nat × Extent) :=
  s.bnd.ext.findSome? (fun x =>
    if x.1 = b ∨ s.bndRegion x.1 ≠ s.bndRegion b then none
    else (x.2.find? (fun e => e.st == .preparing && decide (e.rofs ≤ r) && decide (r < e.rofs + e.len))).map (fun e => (x.1, e)))

/-- A parcel that an add has made passes to another add that needs it: one that is still being filled is then that add's to wait for. -/
def State.passOn (s : State) (r : Nat) (x : Nat × Extent) : State :=
  s.putExtent x.1 { x.2 with made := x.2.made ++ [r], filled := x.2.filled && (mget s.bnd.prep (s.idxOf x.1 r)).isNone }

/-- A parcel an add has made is taken back (R146): its entry is withdrawn, or cleared at the Daybreak, and the parcel returns to its pool. -/
def State.unmake (s : State) (i : Nat) : State :=
  let staged := s.due.filterMap (fun d => match d.act with
    | .ttSet j p ppi => if j = i then some (p, ppi) else none
    | _ => none)
  let s1 := (staged ++ (mget s.bnd.prep i).toList).foldl (fun s x => s.setAlloc x.1 x.2 false) s
  { s1 with
    due := s1.due.filter (fun d => match d.act with
      | .ttSet j _ _ => j != i
      | _ => true),
    bnd.prep := mdel s1.bnd.prep i,
    bnd.ret := if (s1.ttEntry i).valid then s1.bnd.ret ++ [i] else s1.bnd.ret }

/-- An add in preparation is withdrawn (R146, Table 7-6 case 3): entries made so far are cleared and their parcels return, but those another add in
preparation needs. -/
def State.cancelAdd (s : State) (b : Nat) (e : Extent) (st : Status) : State :=
  let s1 := e.made.foldl (fun s r => match s.sharer b r with
    | some x => s.passOn r x
    | none => s.unmake (s.idxOf b r)) (s.delExtent b e.dpa)
  s1.lcEndOpt e.add st

/-- Whether the parcel an add has made for a table index lies on a pool. -/
def State.madeOn (s : State) (p i : Nat) : Bool :=
  ((s.ttEntry i).valid && (s.ttEntry i).pool == p) || (match mget s.bnd.prep i with
    | some x => x.1 == p
    | none => false) || s.due.any (fun d => match d.act with
    | .ttSet j q _ => j == i && q == p
    | _ => false)

/-- A pool's port goes down (Table 7-6 case 3): adds whose preparation made parcels there stop. -/
def State.addsPortDown (s : State) (p : Nat) : State :=
  s.bnd.ext.foldl (fun s x => x.2.foldl (fun s e0 => match s.extentOf x.1 e0.dpa with
    | some e => if e.st = .preparing ∧ e.made.any (fun r => s.madeOn p (s.idxOf x.1 r)) then s.cancelAdd x.1 e .poolUnavailable else s
    | none => s) s) s

/-- The moves of an extent's parcels that are before their commit points abort (R147, R148). -/
def State.abortRange (s : State) (b : Nat) (e : Extent) : State :=
  let g := s.bndRegion b
  s.abortMoves (fun x => ! x.tree && x.region == g && decide (e.rofs ≤ x.parcel) && decide (x.parcel < e.rofs + e.len)) .aborted

/-- The host answers an offer (R146): accepted, it takes effect under R36; rejected, the extent is removed. An answer for an extent that is not
offered is an invalid extent. -/
def execAddDcResponse (b dpaP : Nat) (accept : Bool) (s : State) : Host.Outcome State Fault Refusal :=
  s.done (match s.extentOf b dpaP with
    | some e =>
      if e.st ≠ .offered ∨ e.accepting ∨ e.rejected then s.emit (.dcReply b dpaP false)
      else if accept then (s.putExtent b { e with accepting := true }).submit none (.extIn b dpaP)
      else (((s.putExtent b { e with rejected := true, st := .releasing }).abortRange b e).submit none (.extOut b dpaP)).emit (.dcReply b dpaP true)
    | none => s.emit (.dcReply b dpaP false))

/-- An acceptance takes effect (R146): the add completes with success. -/
def State.applyExtIn (s : State) (b dpaP : Nat) : State :=
  match s.extentOf b dpaP with
  | some e =>
    let st := if e.st = .offered then ExtSt.accepted else e.st
    ((s.putExtent b { e with st := st, accepting := false, add := none }).lcEndOpt e.add .success).emit (.dcReply b dpaP true)
  | none => s

/-- A removal takes effect (R147, R148): an add still pending completes failed; parcels no binding maps go back if the region says so. -/
def State.applyExtOut (s : State) (b dpaP : Nat) : State :=
  match s.extentOf b dpaP with
  | none => s
  | some e =>
    let g := s.bndRegion b
    let s1 := s.delExtent b dpaP
    let free := match mget s.bnd.regions g with
      | some r => if r.releaseFree then (List.range e.len).filterMap (fun k =>
          if s1.mapped g (e.rofs + k) || ! (s1.ttEntry (r.ttBase + e.rofs + k)).valid then none else some (r.ttBase + e.rofs + k)) else []
      | none => []
    e.rels.foldl (fun s h => s.lcEnd h .success) ((({ s1 with bnd.ret := s1.bnd.ret ++ free } : State).lcEndOpt e.add .failed).lcEndOpt e.rel .success)

/-- Parcels go back to their pools, after the flips of the same Daybreak (Table 7-6 case 1). -/
def State.returnParcels (s : State) : State :=
  s.bnd.ret.foldl (fun s i =>
    let keep := match s.regionOfTt i with
      | some (g, r) => s.mapped g r
      | none => false
    if keep then s else s.clearEntry i) { s with bnd.ret := [] }

/-! ### Release (R148) -/

/-- The lines of a range of a binding's region that the directory names its host for. -/
def State.heldLines (s : State) (b : Nat) (e : Extent) : List Nat :=
  match s.slotAt s.ownMember (s.bndPort b) with
  | none => []
  | some k =>
    let lo := s.idxOf b e.rofs * 4096
    s.home.dir.filterMap (fun d => if lo ≤ d.1 ∧ d.1 < lo + e.len * 4096 ∧ bitOn d.2.sharers k then some d.1 else none)

/-- The home back-invalidates lines of a range for a release, on its reserved entries (R148, R168). -/
def State.sweepRange (s : State) (b : Nat) (e : Extent) : State :=
  match s.slotAt s.ownMember (s.bndPort b) with
  | none => s
  | some k =>
    let s1 := (s.heldLines b e).foldl (fun s line =>
      let sl := sliceOf line
      if 256 ≤ s.rsvEntries sl ∨ (s.tts sl).any (fun t => t.line == line && t.work == .sweep k) then s
      else
        let busy := s.lineBusy sl line
        let a := s.addTt sl line (.sweep k)
        if busy then a.2 else (match a.2.ttOf sl a.1 with
          | some t => (a.2.putTt sl { t with since := s.time.frame, phase := .active }).process sl a.1
          | none => a.2)) s
    s1.runAll

/-- A release takes an extent to releasing (R148): moves of its parcels that are before their commit point abort; an HDM-DB range is swept
first, and otherwise the removal is staged at once. -/
def State.startRelease (s : State) (b : Nat) (e : Extent) (h : Option Nat) : State :=
  let e1 := { e with st := .releasing, rel := h, swept := false }
  let s1 := (s.putExtent b e1).abortRange b e
  if s.hdmH b || e.st == .offered || (s.bndRec b).isNone then
    ({ s1.putExtent b { e1 with swept := true } with due := s1.due ++ [{ eff := s.effFrame, named := false, group := false, frozen := false, handle := h, ref := none, act := .extOut b e.dpa }] } : State)
  else s1.sweepRange b e1

/-- What refuses a release (R148). -/
def relRefusal (e : Option Extent) : Option Status :=
  match e with
  | none => some .parameter
  | some x => if x.st = .preparing ∨ x.st = .releasing then some .busy else none

/-- The long commands that wait for an extent's release, with one more. -/
def Extent.withRel (e : Extent) (h : Nat) : Extent :=
  match e.rel with
  | none => { e with rel := some h }
  | some _ => { e with rels := e.rels ++ [h] }

/-- A release by force, or of an extent that is still offered, starts at once; what the host holds is taken from it by a forced removal (R148). -/
def State.forceRelease (s : State) (b : Nat) (e : Extent) : State :=
  let s1 := s.startRelease b e e.rel
  if e.st = .accepted then s1.emit (.forcedRemoval b e.dpa) else s1

/-- Opcode 0x0404 (R148), a long command: forced, or pending, the release starts at once; otherwise the host is asked by an event and starts
it (log entry 31). -/
def execExtentRelease (rq : Rq) (binding dpaP force : Nat) (s : State) : Host.Outcome State Fault Refusal :=
  s.done (xib 0x0404 rq (.extentRelease rq binding dpaP force) s fun p s =>
    if 4096 ≤ binding ∨ 1 < force then s.refuse .parameter
    else match relRefusal (s.extentOf binding dpaP), s.extentOf binding dpaP with
      | some c, _ => s.refuse c
      | none, none => s.refuse .parameter
      | none, some e =>
        if s.lcSlots = [] then s.refuse .busy
        else
          let (h, s1) := s.lcStart 0x0404 (rqRef rq 0x0404) p (routeTargetOf rq.route rq.carrier)
          let e1 := e.withRel h
          if force = 1 ∨ e.st = .offered then (s1.forceRelease binding e1).long s.effFrame h
          else ((s1.putExtent binding e1).emit (.capacity binding dpaP false)).long s.effFrame h)

/-- The host's Release Dynamic Capacity command (R148): an extent that is not accepted is invalid. -/
def execReleaseDynamicCapacity (b dpaP : Nat) (s : State) : Host.Outcome State Fault Refusal :=
  s.done (match s.extentOf b dpaP with
    | some e => if e.st = .accepted then (s.startRelease b e e.rel).emit (.dcReply b dpaP true) else s.emit (.dcReply b dpaP false)
    | none => s.emit (.dcReply b dpaP false))

/-- The sweep of a released range completes and the removal is staged (R148); while lines are left it goes on. -/
def State.sweepDone (s : State) (b dpaP : Nat) : State :=
  match s.extentOf b dpaP with
  | none => s
  | some e =>
    if e.st ≠ .releasing ∨ e.swept then s
    else if ! (s.heldLines b e).isEmpty then s.sweepRange b e
    else { s.putExtent b { e with swept := true } with due := s.due ++ [{ eff := s.effFrame, named := false, group := false, frozen := false, handle := e.rel, ref := none, act := .extOut b dpaP }] }

def execReleaseSweepDone (b dpaP : Nat) (s : State) : Host.Outcome State Fault Refusal := s.done (s.sweepDone b dpaP)

/-- A release is aborted before its commit point (Table 14-5): the extent stays accepted, or pending, unless another release of it goes on. -/
def State.cancelRelease (s : State) (b : Nat) (e : Extent) (h : Nat) : State :=
  let others := (e.rel.toList ++ e.rels).filter (fun k => k != h)
  match others with
  | k :: l => (s.putExtent b { e with rel := some k, rels := l }).lcEnd h .aborted
  | [] =>
    let s1 : State := { s with due := s.due.filter (fun d => d.act != .extOut b e.dpa) }
    (s1.putExtent b { e with st := if e.add.isSome then .offered else .accepted, rel := none, swept := false }).lcEnd h .aborted

/-- The state byte of an extent (Table 7-2); an add in preparation has not been offered and is not returned. -/
def ExtSt.code : ExtSt → Nat
  | .preparing => 0 | .offered => 1 | .accepted => 2 | .releasing => 3

/-- Whether a principal may see a binding: a tenant its own, a host agent those on its own port (R160). -/
def State.maySeeBinding (s : State) (p : Principal) (b : Nat) : Bool :=
  match p with
  | .tenant t => s.bndTenant b == t
  | .host h => s.bndPort b == h
  | _ => true

/-- Opcode 0x0405 (R145): the extents of a binding. -/
def execGetExtents (rq : Rq) (binding : Nat) (s : State) : Host.Outcome State Fault Refusal :=
  s.done (xib 0x0405 rq (.getExtents rq binding) s fun p s =>
    if 4096 ≤ binding ∨ ! s.bndValid binding then s.refuse .parameter
    else if ! s.maySeeBinding p binding then s.refuse .permission
    else
      let l := (s.extents binding).filter (fun e => e.st != .preparing)
      s.readAns ((1, l.length) :: l.flatMap (fun e => [(4, e.dpa), (4, e.len), (4, e.rofs), (16, e.tag), (1, e.st.code), (3, 0)])))

/-! ### CXL.mem accesses (R150, R471) -/

/-- The binding a host port's virtual downstream port holds. -/
def State.bindingAt (s : State) (p vdp : Nat) : Option Nat :=
  s.bindings.find? (fun b => s.bndPort b == p && s.cur (BND_CFG_VDP b) == vdp)

/-- An access that is not served counts and makes its fault as its code says, and completes under R471. -/
def State.failAccess (s : State) (r : HReq) (code parcel : Nat) : State :=
  match r.kind with
  | .ce => (if code = 1 then s.bndCount r.bnd .unmapped else s).unserved r
  | k =>
    if hkReads k then (s.bindFault r.bnd code parcel r.dpa code (if code = 1 then .unmapped else .poisoned)).unserved r
    else if code = 5 then (s.bindFault r.bnd code parcel r.dpa code .roWr).unserved r
    else ((if code = 1 then s.bndCount r.bnd .unmapped else s).bindFault r.bnd code parcel r.dpa code .wrDisc).unserved r

/-- An access a binding in reset does not serve (R154): unmapped, without a fault record, and counted. -/
def State.resetAccess (s : State) (r : HReq) : State :=
  let s1 := s.bndCount r.bnd .unmapped
  match r.kind with
  | .ce => s1.unserved r
  | k => (if hkReads k then s1 else s1.bndCount r.bnd .wrDisc).unserved r

/-- An access the gate of its pool port refuses (Table 9-11, R217): the binding's first-fault record takes it; its code there is free (log
entry 32), and the collector gets none. -/
def State.gatedAccess (s : State) (r : HReq) (parcel : Nat) : State :=
  let s1 := match r.kind with
    | .ce => s
    | k =>
      let s0 := s.bndCount r.bnd (if hkReads k then .poisoned else .wrDisc)
      if s0.bit (BND_ERR_STAT_VALID r.bnd) then s0
      else
        let v := s0.draw
        ((((v.2.setBit (BND_ERR_STAT_VALID r.bnd) true).setFld (BND_ERR_STAT_CODE r.bnd) (v.1 % 256)).setFld (BND_ERR_PARCEL_PARCEL r.bnd) parcel).setFld64
          (BND_ERR_DPA_LO_DPA r.bnd) (BND_ERR_DPA_HI_DPA r.bnd) r.dpa).raisePrivate (s0.bndPort r.bnd) 4
  s1.unserved r

/-- Whether a request carries a write of data (a full or partial write, or a writeback). -/
def hkWrites : HKind → Bool
  | .wr => true
  | .wb _ => true
  | _ => false

/-- The kind of access a gate sees. -/
def gateKind (k : HKind) : GKind := if hkWrites k || k == .own then .write else .read

/-- A line read or written through a binding is counted (R406). -/
def State.countLine (s : State) (b : Nat) (k : HKind) : State :=
  if hkReads k then s.page b (fun x => { x with rd := x.rd + 1 })
  else if hkWrites k then s.page b (fun x => { x with wr := x.wr + 1 })
  else s

/-- A translated access goes to its home slice (R162), if its entry is valid, its pool up and its gate agrees. -/
def State.toHome (s : State) (r : HReq) (parcel : Nat) : State :=
  match s.poolOf r.line with
  | .error c => s.failAccess r c parcel
  | .ok (p, a) =>
    if r.kind = .ce then s.push { hreqMsg r with addr := r.dpa, tc := some (s.bndTc r.bnd) }
    else
      let g := s.gateCheck p (0x1000 + r.bnd) (gateKind r.kind) a 64
      if g.1 ≠ .allow then g.2.gatedAccess r parcel
      else
        let m := { hreqMsg r with
          addr := r.dpa, data := r.data, len := if hkWrites r.kind then 64 else 0, poison := r.poison, tc := some (g.2.bndTc r.bnd) }
        (g.2.countLine r.bnd r.kind).push m

/-- A request for a home on a peer that cannot be served completes under a code, and is counted (R433, R436); a clean-evict is counted only where it is
unmapped (R471). -/
def State.remoteFail (s : State) (r : HReq) (code : Nat) : State :=
  (if r.kind = .ce then s else s.inc GRP_REMOTE_PSN_CNT).failAccess r code (r.line / 4096)

/-- Whether a peer is reachable (GRP_STAT.REACH). -/
def State.reach (s : State) (m : Nat) : Bool := bitOn (s.fld GRP_STAT_REACH) m

/-- The ISL port that carries group traffic of a requester to a peer (R428): each pair keeps one ISL while that ISL carries traffic. -/
def State.pairPort (s : State) (src m : Nat) : Option Nat × State :=
  let l := bitsOn (s.fld (GRP_PEER_ISLS m)) 8
  let k := src * 65536 + m
  match mget s.grp.pairs k with
  | some i => if l.contains i then (some (s.cur (ISL_CFG_PORT i)), s)
    else match l.head? with
      | some j => (some (s.cur (ISL_CFG_PORT j)), { s with grp.pairs := mput s.grp.pairs k j })
      | none => (none, s)
  | none =>
    if l.isEmpty then (none, s)
    else
      let v := s.draw
      let j := l.getD (v.1 % l.length) 0
      (some (v.2.cur (ISL_CFG_PORT j)), { v.2 with grp.pairs := mput v.2.grp.pairs k j })

/-- A request waits for an unreachable peer in the remote table (R433); a writeback is discarded instead, and while the table is full nothing
waits. -/
def State.holdRemote (s : State) (m : Nat) (r : HReq) : State :=
  match r.kind with
  | .wb _ => (s.bndCount r.bnd .wrDisc).unserved r
  | _ =>
    if 16384 ≤ s.grp.held.length then s.remoteFail r 7
    else { s with grp.held := s.grp.held ++ [{ member := m, since := s.time.frame, req := r }] }

/-- A request goes to its home on a peer (R431), or waits for the peer (R433). -/
def State.toPeer (s : State) (m : Nat) (r : HReq) : State :=
  let p := if s.reach m then s.pairPort r.src m else (none, s)
  match p.1 with
  | some q => (p.2.countLine r.bnd r.kind).push { hreqMsg r with
      dst := q, addr := r.dpa, data := r.data, len := if hkWrites r.kind then 64 else 0, poison := r.poison, tc := some (s.bndTc r.bnd) }
  | none => s.holdRemote m r

/-- A host's CXL.mem access (R150): decoder, extent, read-only check, translation through the cache or the walker, gate, home. What the
device's decoder does not claim is left to the host's routing. -/
def State.memAccess (s : State) (p vdp hpa : Nat) (op : MemOp) (tag data : Nat) (poison : Bool) : State :=
  match s.bindingAt p vdp with
  | none => s
  | some b => match s.dpaOf b hpa with
    | none => s
    | some dpa =>
      let r0 : HReq := { src := p, member := s.ownMember, port := p, bnd := b, op := op, dpa := dpa, line := 0, tag := tag, data := data, poison := poison }
      if s.md.mode = .quarantine then s.quietAccess r0
      else if mget s.bnd.rst b = some true then s.resetAccess r0
      else match s.extentAt b dpa with
        | none => let v := s.draw; v.2.failAccess r0 1 (v.1 % 2 ^ 28)
        | some e =>
          let rp := e.rofs + (dpa / 262144 - e.dpa)
          if s.curBit (BND_CFG_RO b) ∧ (hkWrites op.kind ∨ op.kind = .own) then s.failAccess r0 5 rp
          else match s.bndRec b with
            | some g =>
              let r := { r0 with line := (g.ttBase + rp) * 4096 + dpa % 262144 / 64 }
              let i := g.ttBase + rp
              if s.bnd.tcache.contains i then s.toHome r rp
              else
                let s1 := if (mget s.bnd.walk i).isNone then s.tally 351 0x0A0 1 else s
                { s1 with bnd.walk := mput s1.bnd.walk i (mgetD s1.bnd.walk i [] ++ [r]) }
            | none => match s.remoteRegion (s.bndRegion b) with
              | some (m, g) => s.toPeer m { r0 with line := (g.ttBase + rp) * 4096 + dpa % 262144 / 64 }
              | none => s.failAccess r0 2 rp

/-- The walker's read of a translation entry returns (R16, R24): the cache takes a valid entry, and the waiting accesses go on. -/
def State.walkDone (s : State) (i : Nat) (r0 : RsvRead) : State :=
  let r := s.rsvRead r0
  match mget s.bnd.walk i with
  | none => s
  | some l =>
    let s1 : State := { s with bnd.walk := mdel s.bnd.walk i }
    let rp := match s.regionOfTt i with
      | some (_, x) => x
      | none => 0
    match r with
    | .lost => l.foldl (fun s q => s.failAccess q 2 rp) (s1.reportCode 0x0402 0 none 0)
    | _ =>
      let s2 := match r with
        | .repaired st => s1.reportCode 0x0401 st none 0
        | _ => s1
      if (s2.ttEntry i).valid then l.foldl (fun s q => s.toHome q rp) { s2 with bnd.tcache := sadd s2.bnd.tcache i }
      else l.foldl (fun s q => s.failAccess q 2 rp) s2

def execTranslationWalkDone (i : Nat) (r : RsvRead) (s : State) : Host.Outcome State Fault Refusal := s.done (s.walkDone i r)

/-! ### A pool's port goes down (R70) -/

/-- The lowest region parcel of a binding's extents that lies on a pool, with the device address it has there. -/
def State.lowestOn (s : State) (b p : Nat) : Option (Nat × Nat) :=
  let l := (s.extents b).flatMap (fun e => if e.st = .preparing then [] else (List.range e.len).map (fun k => (e.rofs + k, (e.dpa + k) * 262144)))
  (sortBy (fun x => x.1) (l.filter (fun x => let t := s.ttEntry (s.idxOf b x.1); t.valid && t.pool == p && (s.bndRec b).isSome))).head?

/-- Each binding with a parcel on a pool whose link was lost records code 0x03, and no counter rises (R70). -/
def State.poolFaults (s : State) (p : Nat) : State :=
  s.bindings.foldl (fun s b => match s.lowestOn b p with
    | some (r, dpa) => s.bindFault b 3 r dpa 3 .no
    | none => s) s

/-! ### Binding reset (R154) -/

/-- Requests a binding reset; one under way or awaited takes it in. None for a binding that is not valid. -/
def State.resetBinding (s : State) (b : Nat) : Option State :=
  if 4096 ≤ b ∨ ! s.bndValid b then none
  else if (mget s.bnd.rst b).isSome then some s
  else some { s with bnd.rst := mput s.bnd.rst b false }

/-- The action of BND_RST.RESET. -/
def State.resetWrite (s : State) (b : Nat) : State := (s.resetBinding b).getD s.countRefused

/-- Binding resets requested start at a Daybreak. -/
def State.startResets (s : State) : State :=
  { s with
    bnd.rstFrom := s.bnd.rst.foldl (fun m e => if e.2 then m else mput m e.1 s.time.frame) s.bnd.rstFrom,
    bnd.rst := s.bnd.rst.map (fun e => (e.1, true)) }

/-- The clearing of a log area starts (R155). -/
def State.clearLog (s : State) (b base len : Nat) : State :=
  if len = 0 then s else ({ s with bnd.clr := mput s.bnd.clr b (base, len) } : State).setBit (BND_HARV_STAT_CLEARING b) true

/-- A write of the management function of a host port that the port cannot issue is dropped and counted (Table 3-6 case 3). -/
def State.dropWrite (s : State) (p : Nat) : State := (s.inc (PRT_MF_DROP_WR_DROP p)).setBit (PRT_MF_STAT_DROP_SEEN p) true

/-- Whether a management function can write to its host's memory. -/
def State.canWrite (s : State) (p : Nat) : Bool := s.linkUp p && ! s.ioBlocked p && (s.mf p).bme

/-- The pages of a harvest's area whose bits are 1, counted from its first. -/
def State.loggedPages (s : State) (b : Nat) (h : Harvest) : List Nat :=
  let base := s.cur (BND_LOG_CTL_BASE b) * 32768
  s.bnd.log.filterMap (fun x => if base ≤ x ∧ x < base + h.len * 32768 then some (x - base) else none)

/-- The sweep of a harvest clears its area. -/
def State.sweepLog (s : State) (b : Nat) (h : Harvest) : State :=
  let base := s.cur (BND_LOG_CTL_BASE b) * 32768
  { s with bnd.log := s.bnd.log.filter (fun x => decide (x < base) || decide (base + h.len * 32768 ≤ x)) }

/-- A harvest ends (R156, R158): BUSY clears, SEQ rises, and the trailer is written if its port can take it; LOST is set where its writes were dropped,
it was aborted or it met LOST. -/
def State.endHarvest (s : State) (b : Nat) (h : Harvest) (lost rsv : Bool) (count : Nat) : State :=
  let ok := s.canWrite h.port
  let bad := lost || h.lost || ! ok
  let seq := (s.fld (BND_HARV_STAT_SEQ b) + 1) % 65536
  let s1 : State := { s with bnd.harv := mdel s.bnd.harv b }
  let s2 := ((s1.setBit (BND_HARV_STAT_BUSY b) false).setFld (BND_HARV_STAT_SEQ b) seq).setBit (BND_HARV_STAT_LOST b) bad
  let s3 := if ok then s2.emit (.harvest b h.frame seq ((if bad then 1 else 0) + (if rsv then 2 else 0)) count) else s2.dropWrite h.port
  s3.raisePrivate h.port 5

/-- A harvest ends before its sweep is complete, with LOST set (R158). How far the sweep had come is open: COUNT is free up to the bits of the area
(log entry 187). -/
def State.abortHarvest (s : State) (b : Nat) : State :=
  match mget s.bnd.harv b with
  | none => s
  | some h =>
    let v := s.draw
    v.2.endHarvest b h true false (v.1 % ((s.loggedPages b h).length + 1))

/-- The harvests into a host's memory whose writes are dropped meet LOST (R158): the port goes down or its Bus Master Enable is cleared. -/
def State.harvestsLost (s : State) (p : Nat) : State :=
  { s with bnd.harv := s.bnd.harv.map (fun e => (e.1, if e.2.port = p then { e.2 with lost := true } else e.2)) }

/-- A binding reset completes (R154, R160): record, counts and log return to reset, and a harvest is aborted. -/
def State.resetDone (s : State) (b : Nat) : State :=
  let s1 := ((((s.clearBindRec b).clearPage b).setWord (BND_ERR_CNT0 b) 0).setWord (BND_ERR_CNT1 b) 0).abortHarvest b
  let s2 := if s1.curBit (BND_LOG_CTL_EN b) then
      (s1.setCur (BND_LOG_CTL_EN b) 0).clearLog b (s1.cur (BND_LOG_CTL_BASE b)) (s1.cur (BND_LOG_LEN_LEN b))
    else s1
  ({ s2 with
    bnd.rst := mdel s2.bnd.rst b, bnd.rstFrom := mdel s2.bnd.rstFrom b, bnd.harvDue := sdel s2.bnd.harvDue b, bnd.harvAt := mdel s2.bnd.harvAt b,
    bnd.logLost := sdel s2.bnd.logLost b } : State).inc (BND_RST_RST_CNT b)

/-- Whether a binding's reset under way has no transaction of the binding left open. -/
def State.resetQuiet (s : State) (b : Nat) : Bool := mget s.bnd.rst b == some true && ! s.bndOpen b

/-- At a Daybreak the resets whose last transaction has closed complete (R154). -/
def State.endResets (s : State) : State := ((mkeys s.bnd.rst).filter s.resetQuiet).foldl State.resetDone s

/-- The completion of a binding reset: at a Daybreak, of a reset begun at an earlier one whose last transaction has closed (R154). -/
def execBindingResetComplete (b : Nat) (s : State) : Host.Outcome State Fault Refusal :=
  s.done (if s.resetQuiet b && s.time.tick == 0 && decide (mgetD s.bnd.rstFrom b 0 < s.time.frame) then s.resetDone b else s)

/-- Opcode 0x0206 scope 0 (R154): a host agent may reset the bindings on its own port. -/
def execResetBinding (rq : Rq) (binding : Nat) (s : State) : Host.Outcome State Fault Refusal :=
  s.done (xib 0x0206 rq (.resetBinding rq binding) s fun p s =>
    if s.dataOff then s.refuse .dataPlane
    else if (match p with | .host h => decide (binding < 4096) && s.bndValid binding && s.bndPort binding != h | _ => false) then s.refuse .permission
    else match s.resetBinding binding with
      | some s1 => s1.okAt s.nextFrame
      | none => s.refuse .parameter)

/-! ### Dirty-page logging and harvest (R155 to R158) -/

/-- The clearing of a log area finishes. -/
def State.logCleared (s : State) (b : Nat) : State :=
  match mget s.bnd.clr b with
  | none => s
  | some (base, len) =>
    ({ s with
        bnd.clr := mdel s.bnd.clr b, bnd.logGone := sdel s.bnd.logGone b,
        bnd.log := s.bnd.log.filter (fun x => decide (x < base * 32768) || decide ((base + len) * 32768 ≤ x)) } : State).setBit (BND_HARV_STAT_CLEARING b) false

def execLogClearDone (b : Nat) (s : State) : Host.Outcome State Fault Refusal := s.done (s.logCleared b)

/-- A committed log setting takes effect: switching logging off starts the clearing of the area it had (R155). -/
def State.applyLog (s : State) (b : Nat) (wasEn : Bool) (base len : Nat) : State :=
  if wasEn && ! s.curBit (BND_LOG_CTL_EN b) then s.clearLog b base len else s

/-- The action of BND_HARV_CTL.START (R156): port and address are taken as they stand. -/
def State.harvestStart (s : State) (b : Nat) : State :=
  if s.bit (BND_HARV_STAT_BUSY b) ∨ s.bit (BND_HARV_STAT_CLEARING b) ∨ ! s.curBit (BND_LOG_CTL_EN b) ∨ s.fld (BND_HARV_CTL_PORT b) ≠ s.bndPort b ∨
      s.bnd.harvDue.contains b then
    s.setBit (BND_HARV_STAT_REFUSED b) true
  else { s with
    bnd.harvDue := sadd s.bnd.harvDue b,
    bnd.harvAt := mput s.bnd.harvAt b (s.fld (BND_HARV_CTL_PORT b), s.fld (BND_HARV_ADDR_LO_ADDR b) * 4096 + s.fld (BND_HARV_ADDR_HI_ADDR b) * 2 ^ 32) }

/-- A harvest begins at a Daybreak, whose frame number it carries. Where the commit of that Daybreak has switched logging off or taken the binding from its
port, its area is no longer there to sweep and it ends at once with LOST set, its trailer unwritten (log entry 187). -/
def State.beginHarvest (s : State) (b : Nat) : State :=
  let x := mgetD s.bnd.harvAt b (0, 0)
  if ! s.bndValid b ∨ s.bndPort b ≠ x.1 ∨ ! s.logging b then s.setBit (BND_HARV_STAT_LOST b) true
  else
    let h : Harvest := { frame := s.time.frame, addr := x.2, port := x.1, len := s.cur (BND_LOG_LEN_LEN b), lost := s.bnd.logLost.contains b }
    ({ s with bnd.harv := mput s.bnd.harv b h, bnd.logLost := sdel s.bnd.logLost b } : State).setBit (BND_HARV_STAT_BUSY b) true

/-- Harvests begin at a Daybreak. -/
def State.beginHarvests (s : State) : State := s.bnd.harvDue.foldl State.beginHarvest { s with bnd.harvDue := [] }

/-- The region parcel of a page of a binding's device addresses, where an extent maps it. -/
def State.parcelOfPage (s : State) (b page : Nat) : Nat :=
  match s.extentAt b (page * 4096) with
  | some e => e.rofs + (page / 64 - e.dpa)
  | none => 0

/-- A dirty-log word the Reservoir lost (R25, R155): every page of it is taken as written, a correctable fault is recorded, and the binding records code
0x08 (Table 7-4). `w` is the first page of the word in the log area. -/
def State.loseLogWord (s : State) (b w : Nat) : State :=
  let first := w / 128 * 128
  let page := first - s.cur (BND_LOG_CTL_BASE b) * 32768
  let s1 := State.reportCode { s with bnd.log := (List.range 128).foldl (fun l k => sadd l (first + k)) s.bnd.log } 0x0403 1 none 0
  s1.bindFault b 8 (s1.parcelOfPage b page) (page * 4096) 8 .no

/-- The sweeper reads and clears the words of the area, writes them and the trailer (R156, R158). `words` holds the first page bit of each
word the Reservoir lost (R25): every page of the word is reported; of an area whose stack failed every word is lost (R418). -/
def State.harvestDone (s : State) (b : Nat) (words : List Nat) : State :=
  match mget s.bnd.harv b with
  | none => s
  | some h =>
    let base := s.cur (BND_LOG_CTL_BASE b) * 32768
    let all := (List.range (h.len * 256)).map (fun k => base + 128 * k)
    let lost := if s.bnd.logGone.contains b || s.stackGone 1 then all else words.filter (fun w => decide (base ≤ w) && decide (w < base + h.len * 32768))
    let s0 := lost.foldl (fun s w => s.loseLogWord b w) { s with bnd.logGone := sdel s.bnd.logGone b }
    let pages := s0.loggedPages b h
    let s1 := s0.sweepLog b h
    let s2 := if s1.canWrite h.port then s1.emit (.bitmap h.port h.addr (h.len * 4096) pages) else s1
    s2.endHarvest b h false (! lost.isEmpty) pages.length

def execHarvestDone (b : Nat) (words : List Nat) (s : State) : Host.Outcome State Fault Refusal := s.done (s.harvestDone b words)

/-! ### Forced unbind (R69, Table 7-6 case 8) -/

/-- A binding is unbound by force: a harvest is aborted, adds in preparation are withdrawn, every other extent is force-released. -/
def State.forceUnbind (s : State) (b : Nat) : State :=
  let s1 := (s.extents b).foldl (fun s e =>
    match e.st with
    | .preparing => s.cancelAdd b e .failed
    | .releasing => s
    | _ => s.forceRelease b e) (s.abortHarvest b)
  { s1 with bnd.unbinding := sadd s1.bnd.unbinding b }

/-- Bindings whose forced unbind has released every extent cease to be valid at this Daybreak. -/
def State.finishUnbinds (s : State) : State :=
  s.bnd.unbinding.foldl (fun s b =>
    if (s.extents b).isEmpty then
      let s1 : State := { s with bnd.unbinding := sdel s.bnd.unbinding b, prt.vdp := s.prt.vdp.filter (fun e => e.2.hold != .vmd b) }
      (s1.setCur (BND_CFG_VALID b) 0)
    else s) s

end Sys2Proof.Machine
end

