-- ==== Sys2Proof/Machine/Bulk.lean ====
section
/-! DEFINITION. The bulk engines (R246 to R250): fetched descriptors, their checks, completion, and what stops them. Queue 8e + q is queue q of
engine e. -/
namespace Sys2Proof

/-- Whether an operation reads a source range. -/
def BulkDesc.hasSrc (d : BulkDesc) : Bool := d.op == 1 || d.op == 4 || d.op == 5

/-- Whether an operation has a destination or second operand. -/
def BulkDesc.hasDst (d : BulkDesc) : Bool := d.op != 5

/-- Whether an operation writes its destination. -/
def BulkDesc.writes (d : BulkDesc) : Bool := d.op == 1 || d.op == 2 || d.op == 3

/-- Whether a descriptor's fields obey Table 10-5. -/
def BulkDesc.fieldsOk (d : BulkDesc) : Bool :=
  decide (1 ≤ d.op) && decide (d.op ≤ 5) && decide (d.flags < 4) && d.resv == 0 && (! d.hasSrc || d.srcDpa % 64 == 0) && (! d.hasDst || d.dstDpa % 64 == 0) &&
    d.len % 64 == 0 && decide (64 ≤ d.len) && decide (d.len ≤ 2 ^ 34) && d.cpl % 64 == 0

end Sys2Proof

namespace Sys2Proof.Machine
open Sys2Proof

/-- The owning host port of a queue. -/
def State.queuePort (s : State) (q : Nat) : Nat := s.fld (OXB_BQ_CFG_PORT q)

/-- Whether a binding can serve a queue: active, and on the queue's host port. -/
def State.bulkBinding (s : State) (q b : Nat) : Bool :=
  decide (b < 4096) && s.bndValid b && (mget s.bnd.rst b) != some true && ! s.bnd.unbinding.contains b && s.bndPort b == s.queuePort q

/-- The pieces of a range of a binding, cut at parcels: (offset, device address, length). -/
def piecesFrom (ofs dpa left : Nat) : Nat → List (Nat × Nat × Nat)
  | 0 => []
  | n + 1 =>
    if left = 0 then []
    else
      let k := min left (262144 - dpa % 262144)
      (ofs, dpa, k) :: piecesFrom (ofs + k) (dpa + k) (left - k) n

/-- The pieces of a range. -/
def pieces (dpa len : Nat) : List (Nat × Nat × Nat) := piecesFrom 0 dpa len (len / 262144 + 2)

/-- The offset of the first byte of a range that no accepted extent maps. -/
def State.firstUnmapped (s : State) (b dpa len : Nat) : Option Nat :=
  ((pieces dpa len).find? (fun x => (s.extentAt b x.2.1).isNone)).map (fun x => x.1)

/-- The table index of a device address of a binding. -/
def State.idxAt (s : State) (b dpa : Nat) : Option Nat :=
  match s.extentAt b dpa, s.bndRec b with
  | some e, some g => some (g.ttBase + e.rofs + (dpa / 262144 - e.dpa))
  | _, _ => none

/-- The gates of a range agree with an access of an engine (R247): answers the offset of the first byte refused, which is recorded. -/
def State.bulkGate (s : State) (init b : Nat) (k : GKind) (l : List (Nat × Nat × Nat)) : Option Nat × State :=
  match l with
  | [] => (none, s)
  | x :: t => match s.idxAt b x.2.1 with
    | none => s.bulkGate init b k t
    | some i =>
      let e := s.ttEntry i
      if ! e.valid then s.bulkGate init b k t
      else
        let g := s.gateCheck e.pool init k (e.ppi * 262144 + x.2.1 % 262144) x.2.2
        match g.1 with
        | .allow => g.2.bulkGate init b k t
        | .refuse o => (some (x.1 + o), g.2)
        | .locked o => (some (x.1 + o), g.2)

/-- Whether a copy's source and destination share a line of one region. -/
def State.bulkOverlap (s : State) (d : BulkDesc) : Bool :=
  d.op == 1 && s.bndRegion d.srcBind == s.bndRegion d.dstBind &&
    (pieces d.srcDpa d.len).any (fun x => (pieces d.dstDpa d.len).any (fun y =>
      match s.idxAt d.srcBind x.2.1, s.idxAt d.dstBind y.2.1 with
      | some i, some j => i == j && decide (x.2.1 % 262144 < y.2.1 % 262144 + y.2.2) && decide (y.2.1 % 262144 < x.2.1 % 262144 + x.2.2)
      | _, _ => false))

/-- The initiator of a descriptor's accesses: the engine of its queue (R249). -/
def bulkInit (q : Nat) : Nat := 0x2000 + q / 8

/-- The gates agree with some pieces of a descriptor, given by offset and length: the source's first, then the destination's. -/
def State.bulkGates (s : State) (q : Nat) (d : BulkDesc) (l : List (Nat × Nat)) : Option Nat × State :=
  let cut := fun (dpa : Nat) => l.flatMap (fun p => (pieces (dpa + p.1) p.2).map (fun x => (x.1 + p.1, x.2)))
  let a := if d.hasSrc then s.bulkGate (bulkInit q) d.srcBind .read (cut d.srcDpa) else (none, s)
  match a.1 with
  | some o => (some o, a.2)
  | none => if d.hasDst then a.2.bulkGate (bulkInit q) d.dstBind (if d.writes then .write else .read) (cut d.dstDpa) else a

/-- The status and offset with which a descriptor is refused whole (R247). -/
def State.bulkRefusal (s : State) (q : Nat) (d : BulkDesc) : Option (Nat × Nat) × State :=
  if ! d.fieldsOk then (some (7, 0), s)
  else if (d.hasSrc && ! s.bulkBinding q d.srcBind) || (d.hasDst && ! s.bulkBinding q d.dstBind) then (some (8, 0), s)
  else match (if d.hasSrc then s.firstUnmapped d.srcBind d.srcDpa d.len else none), (if d.hasDst then s.firstUnmapped d.dstBind d.dstDpa d.len else none) with
    | some o, _ => (some (5, o), s)
    | none, some o => (some (5, o), s)
    | none, none =>
      if d.writes && s.curBit (BND_CFG_RO d.dstBind) then (some (6, 0), s)
      else if s.bulkOverlap d then (some (7, 0), s)
      else
        let g := s.bulkGates q d [(0, d.len)]
        (g.1.map (fun o => (3, o)), g.2)

/-- A descriptor completes (R250): its record is written through the queue's host port or lost, DONE_CNT rises, and FLAGS bit 0 raises the
queue's event. -/
def State.bulkComplete (s : State) (q : Nat) (d : BulkDesc) (status done ofs digest : Nat) : State :=
  let p := s.queuePort q
  let s1 := s.setFld (OXB_BQ_STAT_DONE_CNT q) (s.fld (OXB_BQ_STAT_DONE_CNT q) + 1)
  let s2 := if s1.canWrite p then s1.emit (.bulk q d.cpl status d.tag done ofs digest s1.time.frame) else s1.dropWrite p
  let s3 := s2.setBit (OXB_BQ_STAT_BUSY q) (s2.oxb.runs.any (fun x => x.queue == q))
  if d.flags % 2 = 1 then s3.raisePrivate p 2 else s3

/-- The ring of a queue holds a descriptor that has not been fetched. -/
def State.bulkWaiting (s : State) (q : Nat) : Bool := s.fld (OXB_BQ_HEAD_HEAD q) != s.fld (OXB_BQ_TAIL_TAIL q) % 2 ^ (s.fld (OXB_BQ_CFG_SIZE q) + 4)

/-! ### Pieces (R248) -/

/-- How far a piece that begins at an offset goes: to the first parcel boundary of either range, or the end. -/
def pieceLen (d : BulkDesc) (ofs : Nat) : Nat :=
  let room := fun (on : Bool) (dpa : Nat) => if on then 262144 - (dpa + ofs) % 262144 else d.len
  min (d.len - ofs) (min (room d.hasSrc d.srcDpa) (room d.hasDst d.dstDpa))

/-- The offsets at which the pieces of a descriptor begin, from one on. -/
def pieceOfs (d : BulkDesc) (ofs : Nat) : Nat → List Nat
  | 0 => []
  | n + 1 => if d.len ≤ ofs ∨ pieceLen d ofs = 0 then [] else ofs :: pieceOfs d (ofs + pieceLen d ofs) n

/-- The engine of a piece: that of the tile whose pool port holds its source parcel, or for fill and zero its destination parcel, under the entry in force;
the queue's own where no entry here names a pool. -/
def State.pieceEngine (s : State) (q : Nat) (d : BulkDesc) (ofs : Nat) : Nat :=
  match (if d.hasSrc then s.idxAt d.srcBind (d.srcDpa + ofs) else s.idxAt d.dstBind (d.dstDpa + ofs)) with
  | some i => if (s.ttEntry i).valid then tileOf (s.ttEntry i).pool else q / 8
  | none => q / 8

/-- The pieces of a started descriptor that may start now do so: all of them, but a hash takes one at a time in ascending order. -/
def State.startPieces (s : State) (x : BulkRun) : BulkRun :=
  let n := if x.desc.op ≠ 5 then x.left.length else if x.going.isEmpty then 1 else 0
  { x with going := x.going ++ (x.left.take n).map (fun o => (o, s.pieceEngine x.queue x.desc o)), left := x.left.drop n }

/-- Sets a fetched descriptor. -/
def State.setRun (s : State) (x : BulkRun) : State := { s with oxb.runs := s.oxb.runs.map (fun y => if y.num = x.num then x else y) }

/-- Removes a fetched descriptor. -/
def State.dropRun (s : State) (num : Nat) : State := { s with oxb.runs := s.oxb.runs.filter (fun y => y.num != num) }

/-- A descriptor starts: it is checked whole, and refused with its record alone, or its pieces start (R247). -/
def State.startRun (s : State) (x : BulkRun) : State :=
  let c := s.bulkRefusal x.queue x.desc
  match c.1 with
  | some (st, o) => (c.2.dropRun x.num).bulkComplete x.queue x.desc st 0 o 0
  | none => c.2.setRun (c.2.startPieces { x with started := true, left := pieceOfs x.desc 0 (x.desc.len / 64) })

/-- Whether a fetched descriptor may start: one with FENCE only after every earlier one of its queue has completed (R246). -/
def State.runMayStart (s : State) (x : BulkRun) : Bool :=
  ! x.started && (x.desc.flags / 2 % 2 == 0 || ! s.oxb.runs.any (fun y => y.queue == x.queue && decide (y.num < x.num))) &&
    ! s.oxb.runs.any (fun y => y.queue == x.queue && decide (y.num < x.num) && ! y.started)

/-- The descriptors of a queue that may start do so, in order. -/
def State.startRuns (s : State) (q : Nat) : Nat → State
  | 0 => s
  | n + 1 => match s.oxb.runs.find? (fun x => x.queue == q && s.runMayStart x) with
    | some x => (s.startRun x).startRuns q n
    | none => s

/-- Whether an engine comes to a queue next (R246): of its queues with a descriptor to fetch, the first in round robin after the one it fetched from last. -/
def State.queueTurn (s : State) (q : Nat) : Bool :=
  let last := mgetD s.oxb.turn (q / 8) 7
  ((List.range 8).map (fun k => q / 8 * 8 + (last + 1 + k) % 8)).find? (fun i => s.bit (OXB_BQ_CFG_EN i) && s.bulkWaiting i) == some q

/-- A descriptor fetch returns (R246, R250). `ok` is false where the read completed with its data discarded: it is fetched again. A descriptor starts once
those before it have, and with FENCE once they have completed. No descriptor is fetched in Hold or Quarantine, or out of its queue's turn. -/
def State.bulkFetched (s : State) (q : Nat) (d : BulkDesc) (ok : Bool) : State :=
  if 32 ≤ q ∨ ! s.queueTurn q ∨ s.inHold ∨ s.md.mode = .quarantine then s
  else if ! ok ∨ ! s.canWrite (s.queuePort q) then
    let p := s.queuePort q
    ((s.setBit (OXB_BQ_STAT_FETCH_ERR q) true).inc (PRT_MF_DROP_RD_DISC p)).setBit (PRT_MF_STAT_DROP_SEEN p) true
  else
    let s1 := (s.setFld (OXB_BQ_HEAD_HEAD q) ((s.fld (OXB_BQ_HEAD_HEAD q) + 1) % 2 ^ (s.fld (OXB_BQ_CFG_SIZE q) + 4))).setBit (OXB_BQ_STAT_BUSY q) true
    let x : BulkRun := { queue := q, num := s1.oxb.serial, desc := d }
    let s2 : State := { s1 with
      oxb.runs := s1.oxb.runs ++ [x], oxb.serial := s1.oxb.serial + 1, oxb.turn := mput s1.oxb.turn (q / 8) (q % 8) }
    s2.startRuns q 1

def execBulkDescriptorFetched (q : Nat) (d : BulkDesc) (ok : Bool) (s : State) : Host.Outcome State Fault Refusal := s.done (s.bulkFetched q d ok)

/-- The lesser of two offsets. -/
def lesser (a b : Option Nat) : Option Nat :=
  match a, b with
  | some x, some y => some (min x y)
  | some x, none => some x
  | none, b => b

/-- What a piece's end adds to its descriptor (R249). -/
def BulkRun.note (x : BulkRun) (ofs : Nat) (r : BulkRes) : BulkRun :=
  let y := { x with going := x.going.filter (fun e => e.1 != ofs), done := x.done + pieceLen x.desc ofs }
  match r with
  | .mismatch o => if x.desc.op = 4 then { y with mism := lesser x.mism (some o) } else y
  | .poison o => if x.desc.op = 2 ∨ x.desc.op = 3 then y else { y with pois := lesser x.pois (some o) }
  | _ => y

/-- The status, bytes done, offset and digest of a descriptor whose pieces have ended (R249): copy goes on over poison; compare and hash stop at the first
poisoned line; compare reports the lowest differing byte. -/
def BulkRun.outcome (x : BulkRun) (r : BulkRes) : Nat × Nat × Nat × Nat :=
  let first := match x.mism, x.pois with
    | some m, some p => some (decide (p ≤ m), min m p)
    | some m, none => some (false, m)
    | none, some p => some (true, p)
    | none, none => none
  match first with
  | some (true, o) => if x.desc.op = 1 then (2, x.desc.len, o, 0) else (2, o / 64 * 64, o, 0)
  | some (false, o) => (1, o / 64 * 64, o, 0)
  | none => match r with
    | .hash h => if x.desc.op = 5 then (0, x.desc.len, 0, h) else (0, x.desc.len, 0, 0)
    | _ => (0, x.desc.len, 0, 0)

/-- The lines a piece read and wrote are counted for its engine (R400). -/
def State.countPiece (s : State) (d : BulkDesc) (ofs e : Nat) : State :=
  let n := pieceLen d ofs / 64
  let rd := (if d.hasSrc then n else 0) + (if d.op = 4 then n else 0)
  let s1 := if rd = 0 then s else s.tally (336 + e) 0x050 rd
  if d.writes then s1.tally (336 + e) 0x051 n else s1

/-- A piece of a running descriptor ends. With the last one, or at a hash's first poisoned line, the descriptor completes, and those that waited for it
start. -/
def State.bulkDone (s : State) (q num ofs : Nat) (r : BulkRes) : State :=
  match s.oxb.runs.find? (fun x => x.queue == q && x.num == num) with
  | none => s
  | some x => match x.going.find? (fun e => e.1 == ofs) with
    | none => s
    | some e =>
      let s1 := s.countPiece x.desc ofs e.2
      let y := s1.startPieces ((x.note ofs r))
      let z := if x.desc.op = 5 ∧ (x.note ofs r).pois.isSome then { y with going := [], left := [] } else y
      if ! z.going.isEmpty ∨ ! z.left.isEmpty then s1.setRun z
      else
        let o := z.outcome r
        ((s1.dropRun num).bulkComplete q x.desc o.1 o.2.1 o.2.2.1 o.2.2.2).startRuns q s1.oxb.runs.length

def execBulkDescriptorDone (q num ofs : Nat) (r : BulkRes) (s : State) : Host.Outcome State Fault Refusal := s.done (s.bulkDone q num ofs r)

/-- The bytes a stopped descriptor has done: those of its pieces that have ended, and a free part of those that run (log entry 3). -/
def State.doneBytes (s : State) (x : BulkRun) : Nat × State :=
  let run := (x.going.foldl (fun n e => n + pieceLen x.desc e.1) 0) / 64
  let v := s.draw
  if run = 0 then (x.done, s) else (x.done + v.1 % run * 64, v.2)

/-- Fetched descriptors a test picks stop with status 0x09, and those that waited for them start. -/
def State.bulkStop (s : State) (pick : BulkRun → Bool) : State :=
  let l := s.oxb.runs.filter pick
  let s1 := l.foldl (fun s x =>
    let v := s.doneBytes x
    (v.2.dropRun x.num).bulkComplete x.queue x.desc 9 v.1 0 0) s
  (l.map (fun x => x.queue)).foldl (fun s q => s.startRuns q s.oxb.runs.length) s1

/-- Stops what a queue runs. -/
def State.stopQueue (s : State) (q : Nat) : State := s.bulkStop (fun x => x.queue == q)

/-- A port reset stops the queues a port owns, and clears their EN (R346). -/
def State.stopPortQueues (s : State) (p : Nat) : State :=
  (List.range 32).foldl (fun s q => if s.bit (OXB_BQ_CFG_EN q) ∧ s.queuePort q = p then (s.stopQueue q).setBit (OXB_BQ_CFG_EN q) false else s) s

/-- Descriptors of a binding stop when its reset takes effect (Table 10-8 case 9). -/
def State.stopBinding (s : State) (b : Nat) : State :=
  s.bulkStop (fun x => (x.desc.hasSrc && x.desc.srcBind == b) || (x.desc.hasDst && x.desc.dstBind == b))

/-- What is left of some pieces, given by offset and length, once so many of their bytes are done. -/
def skipBytes (k : Nat) : List (Nat × Nat) → List (Nat × Nat)
  | [] => []
  | (o, n) :: t => if n ≤ k then skipBytes (k - n) t else (o + k, n - k) :: t

/-- At a Daybreak that changes gates, a running descriptor with a refused byte among those of its pieces that have not ended stops as revoked (R220). -/
def State.revokeBulk (s : State) (gates : List Nat) : State :=
  if gates.isEmpty then s
  else (s.oxb.runs.filter (fun x => x.started)).foldl (fun s x =>
    let v := s.doneBytes x
    let g := v.2.bulkGates x.queue x.desc (skipBytes (v.1 - x.done) ((x.going.map (fun e => e.1) ++ x.left).map (fun o => (o, pieceLen x.desc o))))
    match g.1 with
    | none => g.2
    | some o => (((g.2.dropRun x.num).bulkComplete x.queue x.desc 4 v.1 o 0).startRuns x.queue g.2.oxb.runs.length)) s

end Sys2Proof.Machine
end

