-- ==== Sys2Proof/Machine/Bridge.lean ====
section
/-! DEFINITION. The legacy window bridge (chapter 12): accesses through windows, splitting and byte order, writes and fences, prefetch,
far-bus locks, interrupts and status mirrors. -/
namespace Sys2Proof.Machine
open Sys2Proof

/-! ### Units and byte order (R269, R271, R273) -/

/-- Byte i of a number, low byte first. -/
def byteAt (n i : Nat) : Nat := n / 2 ^ (8 * i) % 256

/-- The number whose low bytes are those of a list. -/
def ofBytes (l : List Nat) : Nat := l.foldr (fun b n => b % 256 + 256 * n) 0

/-- The far address of a unit of an access. -/
def BAcc.unitAddr (a : BAcc) (u : Nat) : Nat := a.far + u * a.wd

/-- The place in a host line of the byte at device offset i of unit u (R273). -/
def BAcc.hostByte (a : BAcc) (u i : Nat) : Nat := u * a.wd + (if a.big then a.wd - 1 - i else i)

/-- The data of a unit as the device sees it. -/
def BAcc.unitData (a : BAcc) (u : Nat) : Nat := ofBytes ((List.range a.wd).map (fun i => byteAt a.data (a.hostByte u i)))

/-- The byte enables of a unit as the device sees them. -/
def BAcc.unitBe (a : BAcc) (u : Nat) : Nat :=
  (List.range a.wd).foldl (fun n i => n + (if bitOn a.mask (a.hostByte u i) then 2 ^ i else 0)) 0

/-- The line with the bytes of a unit replaced by what the device returned. -/
def BAcc.takeUnit (a : BAcc) (u v : Nat) : Nat :=
  ofBytes ((List.range 64).map (fun k =>
    if k / a.wd = u then byteAt v (if a.big then a.wd - 1 - k % a.wd else k % a.wd) else byteAt a.data k))

/-- The width of a window's units in bytes. -/
def State.winWidth (s : State) (w : Nat) : Nat := 2 ^ s.cur (LWB_WIN_CFG_WIDTH w)

/-- The far base of a window. -/
def State.winFar (s : State) (w : Nat) : Nat := s.cur (LWB_WIN_FAR_LO_FAR w) * 4096 + s.cur (LWB_WIN_FAR_HI_FAR w) * 2 ^ 32

/-- Whether a window is sparse. -/
def State.winSparse (s : State) (w : Nat) : Bool := s.curBit (LWB_WIN_CFG_SPARSE w)

/-- The far address of a window offset (R269). -/
def State.winAddr (s : State) (w o : Nat) : Nat :=
  if s.winSparse w then s.winFar w + o / 64 * s.winWidth w else s.winFar w + o

/-- The device address a far address of a window has (R269, R276); none outside the window. -/
def State.winDpa (s : State) (w far : Nat) : Option Nat :=
  let lo := (s.winRange w).1
  let o := if s.winSparse w then (far - s.winFar w) / s.winWidth w * 64 else far - s.winFar w
  if s.winFar w ≤ far ∧ lo + o < (s.winRange w).2 then some (lo + o) else none

/-- Whether the configuration is compact (R274): no ISL enabled and at most 16 windows. -/
def State.compact (s : State) : Bool := ! s.anyIsl && decide (s.windows.length ≤ 16)

/-- A window's own record. -/
def State.bwin (s : State) (w : Nat) : BWin := mgetD s.brg.win w {}

/-- Sets a window's own record. -/
def State.setBwin (s : State) (w : Nat) (x : BWin) : State := { s with brg.win := mputD s.brg.win w {} x }

/-! ### Failures (R272, R275, R276) -/

/-- A failure of a window's access against its binding: code 0x09, with the window in DETAIL. The binding's record names no region parcel for
it: that value is free (log entry 32). -/
def State.bridgeFault (s : State) (w : Nat) (dpa : Option Nat) : State :=
  let v := s.draw
  match dpa with
  | some a => v.2.bindFault (s.winBnd w) 9 (v.1 % 2 ^ 28) a w .no
  | none => let u := v.2.draw; u.2.bindFault (s.winBnd w) 9 (v.1 % 2 ^ 28) (u.1 % 2 ^ 64) w .no

/-- Fills the first-write-failure record if it is empty. -/
def State.fillWfail (s : State) (w : Nat) (dpa : Option Nat) (posted : Bool) : State :=
  if s.bit (LWB_WIN_WFAIL_VALID w) then s
  else
    let s1 := ((s.setBit (LWB_WIN_WFAIL_VALID w) true).setBit (LWB_WIN_WFAIL_ADDR_VALID w) dpa.isSome).setBit (LWB_WIN_WFAIL_POSTED w) posted
    s1.setFld64 (LWB_WIN_WADDR_LO_DPA w) (LWB_WIN_WADDR_HI_DPA w) (dpa.getD 0)

/-- Clearing the record clears its flags and address. -/
def State.clearWfail (s : State) (w : Nat) : State :=
  (((s.setBit (LWB_WIN_WFAIL_VALID w) false).setBit (LWB_WIN_WFAIL_ADDR_VALID w) false).setBit (LWB_WIN_WFAIL_POSTED w) false).setFld64
    (LWB_WIN_WADDR_LO_DPA w) (LWB_WIN_WADDR_HI_DPA w) 0

/-- A non-posted write fails (R275): record, count and event to the binding's host. -/
def State.writeFail (s : State) (w dpa : Nat) : State :=
  (((s.fillWfail w (some dpa) false).inc (LWB_WIN_ERR_WR_FAIL w)).bridgeFault w (some dpa)).raisePrivate (s.bndPort (s.winBnd w)) 6

/-- A posted write of a window has failed: the fence it is earlier than fails with it, and where none is in progress the next one. `id` is its
number, where known. -/
def State.failFence (s : State) (w : Nat) (id : Option Nat) : State :=
  let x := s.bwin w
  let late := match x.fence, id with
    | some f, some n => decide (f.mark ≤ n)
    | _, _ => false
  let x' : BWin := match x.fence with
    | some f => if late then { x with failed := true } else { x with fence := some { f with failed := true } }
    | none => { x with failed := true }
  s.setBwin w x'

/-- A posted write fails (R276): PWF_CNT, record and event; a fence it is earlier than fails with it. -/
def State.postedFail (s : State) (w : Nat) (id dpa : Option Nat) : State :=
  ((((s.failFence w id).inc (LWB_WIN_WFAIL_PWF_CNT w)).fillWfail w dpa true).bridgeFault w dpa).raisePrivate (s.bndPort (s.winBnd w)) 6

/-! ### Answers to the host -/

/-- The host's request as the bridge holds it. -/
def BAcc.req (a : BAcc) : HReq :=
  { src := a.host, member := 0, port := a.host, bnd := a.bnd, op := a.kind.op, dpa := a.dpa, line := 0, tag := a.tag, data := 0, poison := false }

/-- The bridge answers the host in class 0: the line for a read, Cmp for a write. Mirror transfers have no host to answer. -/
def State.bridgeAnswer (s : State) (a : BAcc) (d : Nat) (poison : Bool) : State :=
  if a.mir ≠ 0 then s
  else
    let k : MsgKind := if a.write then .ndr 0 else match a.kind with
      | .rdShared => .drs 1
      | .rdOwn => .drs 2
      | _ => .drs 0
    s.sendQuiet { src := 144, dst := a.host, kind := k, bnd := some a.bnd, tag := a.tag, data := d, poison := poison, len := if a.write then 0 else 64, tc := some (s.bndTc a.bnd) }

/-- Removes an access. -/
def State.dropAcc (s : State) (id : Nat) : State := { s with brg.acc := s.brg.acc.filter (fun a => a.id != id) }

/-- Replaces an access. -/
def State.putAcc (s : State) (a : BAcc) : State := { s with brg.acc := s.brg.acc.map (fun b => if b.id = a.id then a else b) }

/-- Takes the next number of the bridge. -/
def State.bridgeNum (s : State) : Nat × State := (s.brg.serial, { s with brg.serial := s.brg.serial + 1 })

/-! ### Far traffic (R267, R271, R275) -/

/-- A far message of a window. `ld` carries the window, and whether the write is posted. -/
def farMsg (port : Nat) (k : MsgKind) (w b tag : Nat) : Msg :=
  { src := 144, dst := port, kind := k, bnd := some b, tag := tag, ld := 2 * w }

/-- Issues the units of an access in ascending order. The holder's first read under a lock is an MRdLk where LK_TLP is set (R280). -/
def State.sendUnits (s : State) (a : BAcc) (us : List Nat) (lk : Bool) : State :=
  match us with
  | [] => s
  | u :: t =>
    let m0 := farMsg a.port (if a.write then .ioPosted else if lk then .ioLk else .ioReq) a.win a.bnd a.id
    let m : Msg := { m0 with
      addr := a.unitAddr u, len := a.wd, data := if a.write then a.unitData u else 0, be := if a.write then a.unitBe u else 2 ^ a.wd - 1, line := u, poison := a.poison,
      ld := 2 * a.win + (if a.posted then 1 else 0) }
    ((s.tally 340 0x060 1).send m).sendUnits a t false

/-- Issues a flush read on a far port: a zero-length read. -/
def State.flushRead (s : State) (w b port addr : Nat) (accs : List Nat) (fence : Option Nat) (alerts : List Nat) : State :=
  let n := s.bridgeNum
  let f : BFlush := { num := n.1, port := port, since := s.time.frame, accs := accs, fence := fence, alerts := alerts }
  let s1 : State := { n.2 with brg.flush := n.2.brg.flush ++ [f] }
  s1.send { farMsg port .ioReq w b n.1 with addr := addr }

/-- Whether the lock of a far port keeps a host's accesses waiting (R280). -/
def State.lockedOut (s : State) (port host : Nat) : Bool :=
  match mget s.brg.lock port with
  | some l => l.host != host
  | none => false

/-- The accesses of a window a fence waits for have all been issued: its flush read goes out (R277). -/
def State.tryFence (s : State) (w : Nat) : State :=
  match (s.bwin w).fence with
  | none => s
  | some f =>
    if f.sent ∨ s.brg.acc.any (fun a => a.win == w && a.posted && ! a.issued && decide (a.id < f.mark)) then s
    else
      let s1 := s.setBwin w { s.bwin w with fence := some { f with sent := true } }
      s1.flushRead w (s.winBnd w) (s.winPort w) (s.winFar w) [] (some w) []

/-- A line that misses the buffer in a window with NOSE brings the next lines (R278). A run a gate would refuse is not issued. -/
def State.prefetch (s : State) (w o : Nat) : State :=
  let k := o / 64
  let n := min (s.cur (LWB_WIN_CFG_PF_LINES w)) (s.cur (LWB_WIN_SIZE_SIZE w) * 1024 - (k + 1))
  if ! s.winOn w ∨ ! s.curBit (LWB_WIN_CFG_NOSE w) ∨ n = 0 then s
  else
    let o1 := (k + 1) * 64
    let far := s.winAddr w o1
    let len := if s.winSparse w then n * s.winWidth w else n * 64
    if (w < 16 ∧ s.gateEval (152 + w) (0x1000 + s.winBnd w) .read o1 (n * 64) ≠ .allow) ∨ s.gateEval (s.winPort w) (0x3000 + w) .read far len ≠ .allow then
      s.inc (LWB_WIN_PF_PF_DISC w)
    else
      let x := s.bridgeNum
      let r : BRun := {
        num := x.1, win := w, line := k + 1, count := n, wd := s.winWidth w, big := s.curBit (LWB_WIN_CFG_BIGEND w), sparse := s.winSparse w, bad := false }
      let s1 : State := { x.2 with brg.runs := x.2.brg.runs ++ [r] }
      s1.send { farMsg (s.winPort w) .ioReq w (s.winBnd w) x.1 with addr := far, len := len, be := 2 ^ s.winWidth w - 1 }

/-- An access the far port's gate refuses (Table 9-11, R276): a read or non-posted write is completed and discarded, a posted write has
failed. -/
def State.farRefused (s : State) (a : BAcc) : State :=
  let s1 := s.dropAcc a.id
  if a.mir ≠ 0 then s1
  else if a.posted then s1.postedFail a.win (some a.id) (some a.dpa)
  else
    let v := s1.draw
    v.2.gatedAccess a.req (v.1 % 2 ^ 28)

/-- Marks the MRdLk of a far port's lock as sent. -/
def State.markLk (s : State) (port : Nat) : State := { s with brg.lock := mmod s.brg.lock port (fun l => { l with sent := true }) }

/-- Issues an access: the far gate, then its units, then the flush read of a non-posted write, or what the read of a host prefetches (R278). -/
def State.issueAcc (s : State) (a : BAcc) : State :=
  let g := s.gateCheck a.port (0x3000 + a.win) (if a.write then .write else .read) a.far (if a.one then a.wd else 64)
  if g.1 ≠ .allow then g.2.farRefused a
  else
    let s0 := g.2
    let m := farMsg a.port .ioPosted a.win a.bnd a.id
    if a.posted then
      if ! s0.takes a.port m then (s0.dropAcc a.id).postedFail a.win (some a.id) (some a.dpa)
      else
        let s1 := (s0.dropAcc a.id).sendUnits a a.units false
        s1.setBwin a.win { s1.bwin a.win with posted := true }
    else if a.write then
      let s1 := (s0.putAcc { a with issued := true, since := s0.time.frame }).sendUnits a a.units false
      s1.flushRead a.win a.bnd a.port (a.unitAddr (a.units.getLast?.getD 0)) [a.id] none []
    else
      let lk := a.mir == 0 && s0.curBit (LWB_WIN_CFG_LK_TLP a.win) && (match mget s0.brg.lock a.port with
        | some l => l.host == a.host && ! l.sent
        | none => false)
      let s1 := (s0.putAcc { a with issued := true, since := s0.time.frame }).sendUnits a a.units lk
      let s2 := if lk then s1.markLk a.port else s1
      if a.mir ≠ 0 then s2 else s2.prefetch a.win (a.dpa - (s2.winRange a.win).1)

/-- Issues, in order, the waiting accesses of a far port that its lock lets through, then the fences that waited for them. -/
def State.bridgeRun (s : State) (port : Nat) : State :=
  let l := s.brg.acc.filter (fun a => a.port == port && ! a.issued && ! s.lockedOut port a.host)
  (s.windowsOf port).foldl State.tryFence (l.foldl State.issueAcc s)

/-- The bridge accepts an access: a posted write is answered at once (R276), a write with nothing to carry completes, and the rest is issued
unless a lock keeps it waiting. -/
def State.acceptAcc (s : State) (a : BAcc) : State :=
  if a.units.isEmpty then s.bridgeAnswer a 0 false
  else
    let s1 : State := { s with brg.acc := s.brg.acc ++ [a] }
    let s2 := if a.posted then s1.bridgeAnswer a 0 false else s1
    if s2.lockedOut a.port a.host then s2 else s2.issueAcc a

/-! ### Prefetched lines (R278, R284) -/

/-- Discards the held lines a test picks, counting those no read has used, and spoils the runs on their way. -/
def State.dropLines (s : State) (pick : Nat → Bool) : State :=
  let hit := s.brg.lines.filter (fun l => pick l.win)
  let s1 : State := { s with
    brg.lines := s.brg.lines.filter (fun l => ! pick l.win),
    brg.runs := s.brg.runs.map (fun r => if pick r.win then { r with bad := true } else r) }
  hit.foldl (fun s l => if l.used then s else s.inc (LWB_WIN_PF_PF_DISC l.win)) s1

/-- A held line moves to the end of the LRU order, used. -/
def State.useLine (s : State) (w k : Nat) : State :=
  let hit := s.brg.lines.filter (fun l => l.win == w && l.line == k)
  { s with brg.lines := s.brg.lines.filter (fun l => ! (l.win == w && l.line == k)) ++ hit.map (fun l => { l with used := true }) }

/-- Holds a line, replacing the least recently used beyond 1,024. -/
def State.holdLine (s : State) (l : BLine) : State :=
  let keep := s.brg.lines.filter (fun x => ! (x.win == l.win && x.line == l.line)) ++ [l]
  if keep.length ≤ 1024 then { s with brg.lines := keep }
  else
    let s1 : State := { s with brg.lines := keep.drop 1 }
    match keep.head? with
    | some x => if x.used then s1 else s1.inc (LWB_WIN_PF_PF_DISC x.win)
    | none => s1

/-- The host line of a far line's bytes: units swapped where the window is big-endian, and only one unit where it is sparse. -/
def BRun.toLine (r : BRun) (v : Nat) : Nat :=
  ofBytes ((List.range 64).map (fun k =>
    if r.sparse && decide (r.wd ≤ k) then 0 else byteAt v (k / r.wd * r.wd + (if r.big then r.wd - 1 - k % r.wd else k % r.wd))))

/-- A prefetch run's lines arrive: held, or discarded and counted (Table 12-1 cases 4 and 10). A failed run brings nothing. -/
def State.prefetchFill (s : State) (num : Nat) (data : List Nat) (ok : Bool) : State :=
  match s.brg.runs.find? (fun r => r.num == num) with
  | none => s
  | some r =>
    let s1 : State := { s with brg.runs := s.brg.runs.filter (fun x => x.num != num) }
    if ! ok then s1
    else if r.bad then s1.addSat (LWB_WIN_PF_PF_DISC r.win) r.count
    else (List.range r.count).foldl (fun s i =>
      s.holdLine { win := r.win, line := r.line + i, data := r.toLine (data.getD i 0), frame := s.time.frame, used := false }) s1

def execPrefetchFill (num : Nat) (data : List Nat) (ok : Bool) (s : State) : Host.Outcome State Fault Refusal := s.done (s.prefetchFill num data ok)

/-- At a Daybreak, held lines whose lifetime has passed are discarded (R278). -/
def State.expireLines (s : State) : State :=
  let old := s.brg.lines.filter (fun l => decide (l.frame + s.cur LWB_CFG_PF_LIFE ≤ s.time.frame))
  let s1 : State := { s with brg.lines := s.brg.lines.filter (fun l => decide (s.time.frame < l.frame + s.cur LWB_CFG_PF_LIFE)) }
  old.foldl (fun s l => if l.used then s else s.inc (LWB_WIN_PF_PF_DISC l.win)) s1

/-! ### Host accesses (R267 to R276) -/

/-- A bridge access at window offset o: the window's gate, then the prefetch buffer, then the far bus. `mask` enables the bytes of a write. -/
def State.bridgeAccess (s : State) (p b w dpa : Nat) (op : MemOp) (tag data mask : Nat) (poison : Bool) : State :=
  let kind := op.kind
  let o := dpa - (s.winRange w).1
  let wr := hkWrites kind
  let wd := s.winWidth w
  let one := s.winSparse w
  let r : HReq := { src := p, member := s.ownMember, port := p, bnd := b, op := op, dpa := dpa, line := 0, tag := tag, data := data, poison := poison }
  if ! wr ∧ ! hkReads kind then s.unserved r
  else
    let g := if w < 16 then s.gateCheck (152 + w) (0x1000 + b) (if wr then .write else .read) o 64 else (.allow, s)
    if g.1 ≠ .allow then
      let v := g.2.draw
      v.2.gatedAccess r (v.1 % 2 ^ 28)
    else
      let n := (g.2.countLine b kind).bridgeNum
      let cnt := if one then 1 else 64 / wd
      let us := if wr then (List.range cnt).filter (fun u => (List.range wd).any (fun i => bitOn mask (u * wd + i))) else List.range cnt
      let a : BAcc := {
        id := n.1, win := w, bnd := b, host := p, tag := tag, dpa := dpa, kind := kind, write := wr,
        posted := wr && ! s.compact && s.curBit (LWB_WIN_CFG_POSTED w), port := s.winPort w, far := s.winAddr w o, wd := wd,
        big := s.curBit (LWB_WIN_CFG_BIGEND w), one := one, mask := mask, data := if wr then data else 0, poison := poison, units := us }
      if wr then (n.2.dropLines (fun x => x == w)).acceptAcc a
      else match s.brg.lines.find? (fun l => l.win == w && l.line == o / 64) with
        | some l => ((n.2.useLine w (o / 64)).inc (LWB_WIN_PF_PF_USED w)).bridgeAnswer a l.data false
        | none => n.2.acceptAcc a

/-- A host's CXL.mem access with its byte enables: through a window, or to the home. -/
def State.hostAccess (s : State) (p vdp hpa : Nat) (op : MemOp) (tag data mask : Nat) (poison : Bool) : State :=
  let w := match s.bindingAt p vdp with
    | none => none
    | some b => match s.dpaOf b hpa with
      | none => none
      | some dpa => if s.md.mode == Mode.quarantine || mget s.bnd.rst b == some true then none else (s.windowAt b dpa).map (fun w => (b, w, dpa))
  match w with
  | some x => s.bridgeAccess p x.1 x.2.1 (x.2.2 / 64 * 64) op tag data mask poison
  | none => s.memAccess p vdp hpa op tag data poison

/-- A host's access at 64-byte line `hpa`, through a virtual downstream port. A port blocked under R62, down or not a host port takes none.
The byte enables of a partial write that turns out to lie in a bridge window are free (log entry 33): BRIDGE_ACCESS carries them. -/
def execCxlMemAccess (p vdp hpa : Nat) (op : MemOp) (tag data : Nat) (poison : Bool) (s : State) : Host.Outcome State Fault Refusal :=
  s.done (if ! s.isHost p ∨ ! s.takes p { src := p, dst := p, kind := .mem op } then s
    else if op.opc = .memWrPtl then let v := s.draw; v.2.hostAccess p vdp hpa op tag data v.1 poison
    else s.hostAccess p vdp hpa op tag data (2 ^ 64 - 1) poison)

/-- A host's access in a bridge window, with the byte enables of a partial write (R267). One outside every window goes to the home (R150). -/
def execBridgeAccess (p vdp hpa : Nat) (op : MemOp) (tag data mask : Nat) (poison : Bool) (s : State) : Host.Outcome State Fault Refusal :=
  s.done (if ! s.isHost p ∨ ! s.takes p { src := p, dst := p, kind := .mem op } then s
    else s.hostAccess p vdp hpa op tag data (if op.opc = .memWrPtl then mask else 2 ^ 64 - 1) poison)

/-! ### Interrupts (R283, R284) -/

/-- Whether an INTx line of a port is asserted. -/
def State.intxOn (s : State) (p : Nat) : Bool := s.brg.intx.any (fun k => k / 4 == p)

/-- Raises a window's source in the bank of its binding's host. -/
def State.fireIrq (s : State) (w : Nat) (level : Bool) : State :=
  let h := s.bndPort (s.winBnd w)
  let src := s.cur (LWB_WIN_IRQ_SRC w)
  let s1 := s.setFld (LWB_WIN_IRQ_IRQ_CNT w) (s.fld (LWB_WIN_IRQ_IRQ_CNT w) + 1)
  let s2 : State := if level && s1.intxOn (s1.winPort w) then { s1 with evt.level := sadd s1.evt.level (h * 64 + src) } else s1
  s2.raisePrivate h src

/-- Starts a mirror transfer of a window: inbound (1) or outbound (2), through the gates of the window (R285). -/
def State.startMirror (s : State) (w dir : Nat) : State :=
  let o := 8 * s.fld (if dir = 1 then LWB_WIN_MIR_CTL_IN_OFS w else LWB_WIN_MIR_CTL_OUT_OFS w)
  let b := s.winBnd w
  let wd := s.winWidth w
  let wr := dir == 2
  let g := if w < 16 then s.gateCheck (152 + w) (0x1000 + b) (if wr then .write else .read) o wd else (.allow, s)
  if g.1 ≠ .allow then g.2
  else
    let n := g.2.bridgeNum
    let a : BAcc := {
      id := n.1, win := w, bnd := b, host := s.bndPort b, tag := 0, dpa := (s.winRange w).1 + o, kind := if wr then .wr else .rdCur, write := wr, posted := false,
      port := s.winPort w, far := s.winAddr w o, wd := wd, big := s.curBit (LWB_WIN_CFG_BIGEND w), one := true, mask := 2 ^ 64 - 1,
      data := if wr then s.fld64 (LWB_WIN_MIR_OUT_LO_VALUE w) (LWB_WIN_MIR_OUT_HI_VALUE w) else 0, poison := false, units := [0], mir := dir }
    n.2.acceptAcc a

/-- Whether a mirror transfer of a window is outstanding in a direction. -/
def State.mirBusy (s : State) (w dir : Nat) : Bool := s.brg.acc.any (fun a => a.win == w && a.mir == dir)

/-- Raises the interrupts that waited for a window's inbound mirror. -/
def State.fireWaiting (s : State) (w : Nat) : State :=
  (s.bwin w).irqs.foldl (fun s l => s.fireIrq w l) (s.setBwin w { s.bwin w with irqs := [], again := false })

/-- A window's interrupt (R284): lines discarded, MIR_IN refreshed where IN_EN is set, then the source raised. -/
def State.windowIrq (s : State) (w : Nat) (level : Bool) : State :=
  let s1 := s.dropLines (fun x => s.winPort x == s.winPort w)
  if ! s1.bit (LWB_WIN_MIR_CTL_IN_EN w) then s1.fireIrq w level
  else
    let x := s1.bwin w
    let s2 := s1.setBwin w { x with irqs := x.irqs ++ [level], again := s1.mirBusy w 1 }
    if s1.mirBusy w 1 then s2
    else
      let s3 := s2.startMirror w 1
      if s3.mirBusy w 1 then s3 else s3.fireWaiting w

/-- An upstream memory write from a window's port (R283): a doorbell, or dropped and counted. -/
def State.upWrite (s : State) (p addr : Nat) : State :=
  if (s.windowsOf p).isEmpty then s
  else
    let db := s.fld LWB_DB_LO_ADDR * 4096 + s.fld LWB_DB_HI_ADDR * 2 ^ 32
    let w := (addr - db) / 4
    if db ≤ addr ∧ (addr - db) % 4 = 0 ∧ w < 64 ∧ s.winOn w ∧ s.curBit (LWB_WIN_IRQ_MSI_EN w) then s.windowIrq w false
    else s.inc LWB_STAT_UP_DROP

def execUpstreamWrite (p addr : Nat) (s : State) : Host.Outcome State Fault Refusal := s.done (s.upWrite p addr)

/-- An upstream read from a window's port is answered with Unsupported Request (R283). -/
def execUpstreamRead (p tag : Nat) (s : State) : Host.Outcome State Fault Refusal :=
  s.done (if (s.windowsOf p).isEmpty then s
    else s.sendQuiet { src := 144, dst := p, kind := .ioCpl, tag := tag, data := allOnes, len := 64 })

/-- Lowers the level sources of a port's windows that no asserted INTx line holds any more. -/
def State.lowerLevels (s : State) (p : Nat) : State :=
  if s.intxOn p then s
  else
    let src := fun (w : Nat) => s.bndPort (s.winBnd w) * 64 + s.cur (LWB_WIN_IRQ_SRC w)
    let kept := (s.windows.filter (fun w => s.curBit (LWB_WIN_IRQ_INTX_EN w) && s.intxOn (s.winPort w))).map src
    let gone := ((s.windowsOf p).filter (fun w => s.curBit (LWB_WIN_IRQ_INTX_EN w))).map src
    { s with evt.level := s.evt.level.filter (fun k => ! gone.contains k || kept.contains k) }

/-- An Assert_INTx or Deassert_INTx message for one of the four lines of a port (R283). -/
def State.intx (s : State) (p line : Nat) (on : Bool) : State :=
  if (s.windowsOf p).isEmpty ∨ 4 ≤ line then s
  else if on then
    let s1 : State := { s with brg.intx := sadd s.brg.intx (4 * p + line) }
    ((s.windowsOf p).filter (fun w => s.curBit (LWB_WIN_IRQ_INTX_EN w))).foldl (fun s w => s.windowIrq w true) s1
  else ({ s with brg.intx := sdel s.brg.intx (4 * p + line) } : State).lowerLevels p

def execIntxMessage (p line : Nat) (on : Bool) (s : State) : Host.Outcome State Fault Refusal := s.done (s.intx p line on)

/-- An in-band interrupt on the side-band bus of a lane group (R283, R284): per port, the lines are discarded and a flush read goes out, at the
far base of the port's first such window (log entry 193); the interrupts are raised when it completes. -/
def State.sideband (s : State) (g : Nat) : State :=
  [0, 1, 2, 3].foldl (fun s k =>
    let p := 4 * g + k
    let ws := (s.windowsOf p).filter (fun w => s.curBit (LWB_WIN_IRQ_SB_EN w))
    match ws with
    | [] => s
    | w :: _ => (s.dropLines (fun x => s.winPort x == p)).flushRead w (s.winBnd w) p (s.winFar w) [] none ws) s

def execSidebandAlert (g : Nat) (s : State) : Host.Outcome State Fault Refusal := s.done (s.sideband g)

/-! ### Completions (R272, R275, R277, R285) -/

/-- An inbound mirror read is done: MIR_IN takes its low bytes, and the interrupts that waited go on. -/
def State.mirrorIn (s : State) (a : BAcc) : State :=
  let w := a.win
  let s1 := s.dropAcc a.id
  let s2 := if a.bad then (s1.inc (LWB_WIN_ERR_RD_FAIL w)).bridgeFault w (some a.dpa)
    else ((s1.setFld (LWB_WIN_MIR_IN_LO_VALUE w) (a.data % 2 ^ 32)).setFld (LWB_WIN_MIR_IN_HI_VALUE w) (a.data / 2 ^ 32 % 2 ^ 32)).setFld
      (LWB_WIN_MIR_SEQ_IN_SEQ w) (s1.fld (LWB_WIN_MIR_SEQ_IN_SEQ w) + 1)
  let x := s2.bwin w
  if x.irqs.isEmpty then s2
  else if x.again then
    let s3 := (s2.setBwin w { x with again := false }).startMirror w 1
    if s3.mirBusy w 1 then s3 else s3.fireWaiting w
  else s2.fireWaiting w

/-- A read whose last unit has come is answered: its line, or poisoned all-ones where a unit failed (R272). -/
def State.readDone (s : State) (a : BAcc) : State :=
  if a.mir = 1 then s.mirrorIn a
  else if a.bad then (((s.dropAcc a.id).inc (LWB_WIN_ERR_RD_FAIL a.win)).bridgeFault a.win (some a.dpa)).bridgeAnswer a allOnes true
  else (s.dropAcc a.id).bridgeAnswer a a.data false

/-- A unit completes or fails (R272). A failed unit of a write does not stop its later units; the write is judged with its flush. -/
def State.unitDone (s : State) (id u : Nat) (ok : Bool) (v : Nat) : State :=
  match s.brg.acc.find? (fun a => a.id == id) with
  | none => s
  | some a =>
    if ! a.issued ∨ ! a.units.contains u then s
    else if a.write then (if ok then s else s.putAcc { a with bad := true })
    else
      let a' := { a with units := sdel a.units u, bad := a.bad || ! ok, data := if ok then a.takeUnit u v else a.data }
      if a'.units.isEmpty then (s.putAcc a').readDone a' else s.putAcc a'

def execFarUnitCompletion (id u : Nat) (ok : Bool) (v : Nat) (s : State) : Host.Outcome State Fault Refusal := s.done (s.unitDone id u ok v)

/-- A write is complete with its flush: a failure is reported, then the host's Cmp is sent (R275). -/
def State.writeDone (s : State) (bad : Bool) (id : Nat) : State :=
  match s.brg.acc.find? (fun a => a.id == id) with
  | none => s
  | some a =>
    let s1 := s.dropAcc id
    let s2 := if a.bad || bad then s1.writeFail a.win a.dpa else s1
    if a.mir = 2 then (if a.bad || bad then s2 else s2.setFld (LWB_WIN_MIR_SEQ_OUT_SEQ a.win) (s2.fld (LWB_WIN_MIR_SEQ_OUT_SEQ a.win) + 1))
    else s2.bridgeAnswer a 0 false

/-- A fence ends: DONE, and OK where no earlier posted write has failed (R277). The window's failures so far are reported. -/
def State.fenceEnd (s : State) (w : Nat) (bad : Bool) : State :=
  match (s.bwin w).fence with
  | none => s
  | some f =>
    let ok := ! (bad || f.failed)
    let s1 := s.setBwin w { s.bwin w with fence := none, posted := s.brg.acc.any (fun a => a.win == w && a.posted) }
    ((s1.setBit (LWB_WIN_FENCE_DONE w) true).setBit (LWB_WIN_FENCE_OK w) ok).lcEndOpt f.handle (if ok then .success else .failed)

/-- A flush read completes (R275, R277, R284). -/
def State.flushDone (s : State) (num : Nat) (ok : Bool) : State :=
  match s.brg.flush.find? (fun f => f.num == num) with
  | none => s
  | some f =>
    let s1 : State := { s with brg.flush := s.brg.flush.filter (fun x => x.num != num) }
    let s2 := f.accs.foldl (fun s id => s.writeDone (! ok) id) s1
    let s3 := match f.fence with
      | some w => s2.fenceEnd w (! ok)
      | none => s2
    f.alerts.foldl (fun s w => s.windowIrq w false) s3

def execFlushReadComplete (num : Nat) (ok : Bool) (s : State) : Host.Outcome State Fault Refusal := s.done (s.flushDone num ok)

/-- A unit, or a flush read where `flush` says so, has had no completion for COMP_TMO frames: it fails (R272). -/
def State.unitTimeout (s : State) (flush : Bool) (id u : Nat) : State :=
  if flush then
    match s.brg.flush.find? (fun f => f.num == id) with
    | some f => if f.since + s.cur LWB_CFG_COMP_TMO ≤ s.time.frame then s.flushDone id false else s
    | none => s
  else match s.brg.acc.find? (fun a => a.id == id) with
    | some a => if a.issued ∧ ! a.write ∧ a.since + s.cur LWB_CFG_COMP_TMO ≤ s.time.frame then s.unitDone id u false 0 else s
    | none => s

def execFarUnitTimeout (flush : Bool) (id u : Nat) (s : State) : Host.Outcome State Fault Refusal := s.done (s.unitTimeout flush id u)

/-- A posted write of a window fails later (R276); `far` is the address its device logged. -/
def execPostedWriteFailure (w : Nat) (far : Option Nat) (s : State) : Host.Outcome State Fault Refusal :=
  s.done (if 64 ≤ w then s else s.postedFail w none (match far with
    | some x => s.winDpa w x
    | none => none))

/-- A PCIe error message of a bridged port (R275, R276): every write whose flush read is outstanding there has failed; a window with posted
writes not yet flushed has a posted-write failure, at the address the device logged where it logs one. -/
def State.deviceError (s : State) (p : Nat) (far : Option Nat) : State :=
  let s1 : State := { s with brg.acc := s.brg.acc.map (fun a => if a.port = p ∧ a.write ∧ ! a.posted ∧ a.issued then { a with bad := true } else a) }
  let ws := (s.windowsOf p).filter (fun w => (s.bwin w).posted)
  match far with
  | some x =>
    match ws.find? (fun w => (s.winDpa w x).isSome) with
    | some w => s1.postedFail w none (s.winDpa w x)
    | none => s1
  | none => ws.foldl (fun s w => s.postedFail w none none) s1

def execDeviceErrorMessage (p : Nat) (far : Option Nat) (s : State) : Host.Outcome State Fault Refusal := s.done (s.deviceError p far)

/-! ### Fences (R277) -/

/-- Starts a fence on a window; none while one is in progress. -/
def State.startFence (s : State) (w : Nat) (h : Option Nat) : Option State :=
  let x := s.bwin w
  if x.fence.isSome then none
  else
    let s1 := s.setBwin w { x with fence := some { mark := s.brg.serial, failed := x.failed, handle := h, sent := false }, failed := false }
    some ((s1.setBit (LWB_WIN_FENCE_DONE w) false).tryFence w)

/-- The action of LWB_WIN_FENCE.FENCE: one written while a fence is in progress is dropped and counted as a refused access. -/
def State.fenceWrite (s : State) (w : Nat) : State := (s.startFence w none).getD s.countRefused

/-- Whether a principal may use a window: a host agent only one whose binding is on its port (R287). -/
def State.maySeeWindow (s : State) (p : Principal) (w : Nat) : Bool :=
  match p with
  | .host h => s.bndPort (s.winBnd w) == h && s.bndValid (s.winBnd w)
  | .tenant t => s.bndTenant (s.winBnd w) == t
  | _ => true

/-- Opcode 0x0801: a fence as a long command; busy while one is in progress. -/
def execBridgeFence (rq : Rq) (w : Nat) (s : State) : Host.Outcome State Fault Refusal :=
  s.done (xib 0x0801 rq (.bridgeFence rq w) s fun p s =>
    if 64 ≤ w then s.refuse .parameter
    else if ! s.maySeeWindow p w then s.refuse .permission
    else if s.lcSlots = [] then s.refuse .busy
    else
      let x := s.lcStart 0x0801 (rqRef rq 0x0801) p (routeTargetOf rq.route rq.carrier)
      match x.2.startFence w (some x.1) with
      | some s1 => s1.long s.time.frame x.1
      | none => s.refuse .busy)

/-! ### Far-bus locks (R280 to R282) -/

/-- Whether a host port holds or waits for a lock. -/
def State.lockUser (s : State) (p : Nat) : Bool := s.brg.lock.any (fun e => e.2.host == p) || s.brg.wait.any (fun x => x.2.1 == p)

/-- Grants a far port's lock to a host. -/
def State.grantLock (s : State) (far host w : Nat) : State :=
  let s1 : State := { s with
    brg.lock := mput s.brg.lock far { host := host, win := w, since := s.time.frame, sent := false },
    brg.wait := s.brg.wait.filter (fun x => x.2.1 != host) }
  (s1.setBit (LWB_LOCK_HELD host) true).setBit (LWB_LOCK_WAIT host) false

/-- The next waiting request of a far port takes its lock; one whose window is disabled by now is dropped. -/
def State.nextLock (s : State) (far : Nat) : State :=
  let gone := s.brg.wait.filter (fun x => x.1 == far && ! s.winOn x.2.2)
  let s1 := gone.foldl (fun s x => s.setBit (LWB_LOCK_WAIT x.2.1) false) { s with brg.wait := s.brg.wait.filter (fun x => ! gone.contains x) }
  match s1.brg.wait.find? (fun x => x.1 == far) with
  | some x => s1.grantLock far x.2.1 x.2.2
  | none => s1

/-- Releases a far port's lock: Unlock where an MRdLk was sent, the next request takes it, and waiting accesses go on. -/
def State.releaseFar (s : State) (far : Nat) : State :=
  match mget s.brg.lock far with
  | none => s
  | some l =>
    let s1 := ({ s with brg.lock := mdel s.brg.lock far } : State).setBit (LWB_LOCK_HELD l.host) false
    let s2 := if l.sent then s1.send (farMsg far .ioUnlock l.win (s.winBnd l.win) 0) else s1
    (s2.nextLock far).bridgeRun far

/-- The action of LWB_LOCK_p.ACQ: granted at once, queued, or refused. -/
def State.lockAcquire (s : State) (p : Nat) : State :=
  let w := s.fld (LWB_LOCK_WIN p)
  let far := s.winPort w
  if ! s.winOn w ∨ s.bndPort (s.winBnd w) ≠ p ∨ s.lockUser p then s.setBit (LWB_LOCK_REFUSED p) true
  else if (mget s.brg.lock far).isNone then s.grantLock far p w
  else ({ s with brg.wait := s.brg.wait ++ [(far, p, w)] } : State).setBit (LWB_LOCK_WAIT p) true

/-- The far port whose lock a host port holds. -/
def State.lockHeld (s : State) (p : Nat) : Option Nat := (s.brg.lock.find? (fun e => e.2.host == p)).map (fun e => e.1)

/-- The action of LWB_LOCK_p.REL. -/
def State.lockRelease (s : State) (p : Nat) : State :=
  match s.lockHeld p with
  | some far => s.releaseFar far
  | none => s

/-- The holder of a broken lock loses its pending accesses on the far port (R282). A posted write among them has failed for the fences of its
window (log entry 193). -/
def State.breakAcc (s : State) (a : BAcc) : State :=
  let s1 := s.dropAcc a.id
  if a.posted then (s1.inc (LWB_WIN_ERR_WR_FAIL a.win)).failFence a.win (some a.id)
  else if a.write then (s1.inc (LWB_WIN_ERR_WR_FAIL a.win)).bridgeAnswer a 0 false
  else s1.bridgeAnswer a allOnes true

/-- A lock held for LOCK_TMO frames is broken (R282, Table 12-1 case 1). -/
def State.lockTimeout (s : State) (far : Nat) : State :=
  match mget s.brg.lock far with
  | none => s
  | some l =>
    if s.time.frame < l.since + s.cur LWB_CFG_LOCK_TMO then s
    else
      let s1 := (s.brg.acc.filter (fun a => a.port == far && a.host == l.host && a.mir == 0)).foldl State.breakAcc s
      let s2 := ((s1.setBit (LWB_LOCK_TMO l.host) true).inc (LWB_LOCK_TMO_CNT l.host)).raisePrivate l.host 7
      let v := s2.draw
      let u := v.2.draw
      (u.2.bindFault (s.winBnd l.win) 10 (v.1 % 2 ^ 28) (u.1 % 2 ^ 64) l.win .no).releaseFar far

def execLockTimeout (far : Nat) (s : State) : Host.Outcome State Fault Refusal := s.done (s.lockTimeout far)

/-- At each Daybreak, locks held for LOCK_TMO frames are broken. -/
def State.breakLocks (s : State) : State := (mkeys s.brg.lock).foldl State.lockTimeout s

/-- Releases the locks a test picks by window. -/
def State.releaseLocks (s : State) (pick : BLock → Bool) : State :=
  ((s.brg.lock.filter (fun e => pick e.2)).map (fun e => e.1)).foldl State.releaseFar s

/-! ### Mirrors (R285) -/

/-- A mirror period of a window: every MIR_PER frames an inbound read starts, and an outbound write of a pending value; none while the previous
one is outstanding. -/
def State.mirrorPeriod (s : State) (w : Nat) : State :=
  let x := s.bwin w
  let due := match x.mirLast with
    | some f => decide (f + s.cur LWB_CFG_MIR_PER ≤ s.time.frame)
    | none => true
  if 64 ≤ w ∨ ! s.winOn w ∨ ! due then s
  else
    let s1 := s.setBwin w { x with mirLast := some s.time.frame }
    let s2 := if s1.bit (LWB_WIN_MIR_CTL_IN_EN w) ∧ ! s1.mirBusy w 1 then s1.startMirror w 1 else s1
    if s2.bit (LWB_WIN_MIR_CTL_OUT_EN w) ∧ (s2.bwin w).outPend ∧ ! s2.mirBusy w 2 then
      (s2.setBwin w { s2.bwin w with outPend := false }).startMirror w 2
    else s2

def execMirrorPeriod (w : Nat) (s : State) : Host.Outcome State Fault Refusal := s.done (s.mirrorPeriod w)

/-- A write of MIR_OUT_HI marks the outbound value pending. -/
def State.mirrorOut (s : State) (w : Nat) : State := s.setBwin w { s.bwin w with outPend := true }

/-! ### What other happenings do to the bridge (R282, Table 12-1) -/

/-- A port is declared down. Of a far port, the posted writes still queued have failed, fences end with OK = 0 and the lock is released; of a
host port, its lock is released and its waiting request goes. -/
def State.bridgePortDown (s : State) (p : Nat) : State :=
  let queued := ((s.xbr.voq ++ s.xbr.egress).flatMap (fun e => e.2)).filter (fun m => m.src == 144 && m.dst == p && m.kind == .ioPosted && m.ld % 2 == 1)
  let ids := queued.foldl (fun l m => sadd l m.tag) []
  let s1 := ids.foldl (fun s id => match queued.find? (fun m => m.tag == id) with
    | some m => s.postedFail (m.ld / 2) (some id) (s.winDpa (m.ld / 2) (m.addr / 64 * 64))
    | none => s) s
  let s2 := (s1.brg.acc.filter (fun a => a.port == p && a.posted)).foldl (fun s a => (s.dropAcc a.id).postedFail a.win (some a.id) (some a.dpa)) s1
  let s3 := (s2.windowsOf p).foldl (fun s w => s.fenceEnd w true) s2
  let s4 := ({ s3 with brg.flush := s3.brg.flush.map (fun f => if f.port = p then { f with fence := none } else f) } : State).releaseFar p
  let s5 := ({ s4 with brg.wait := s4.brg.wait.filter (fun x => x.2.1 != p) } : State)
  let s6 := if s4.brg.wait.any (fun x => x.2.1 == p) then s5.setBit (LWB_LOCK_WAIT p) false else s5
  s6.lockRelease p

/-- A commit to windows takes effect (Table 12-1 case 2, R278): their lines are discarded, and a disabled window's lock is released. -/
def State.windowsApplied (s : State) (ws : List Nat) : State :=
  if ws.isEmpty then s
  else (s.dropLines ws.contains).releaseLocks (fun l => ws.contains l.win && ! s.winOn l.win)

/-- A binding begins to reset: the locks of its windows are released (Table 12-1 case 7). -/
def State.bridgeReset (s : State) (b : Nat) : State := s.releaseLocks (fun l => s.winBnd l.win == b)

/-! ### Opcodes (group 0x08) -/

/-- Opcode 0x0800: stages a window's settings. -/
def execWindow (rq : Rq) (w cfg base size far irq : Nat) (s : State) : Host.Outcome State Fault Refusal :=
  s.done (xib 0x0800 rq (.window rq w cfg base size far irq) s fun _ s =>
    s.staging rq fun s =>
      if 64 ≤ w then s.refuse .parameter
      else
        let st := fun (s : State) (a v : Nat) => s.stageWord a (BitVec.ofNat 32 v)
        State.okNow (st (st (st (st (st (st s (LWB_WIN_CFG w) cfg) (LWB_WIN_BASE w) base) (LWB_WIN_SIZE w) size) (LWB_WIN_FAR_LO w) far)
          (LWB_WIN_FAR_HI w) (far / 2 ^ 32)) (LWB_WIN_IRQ w) irq))

/-- Opcode 0x0802: a window's configuration in force, first write failure and failure counts. -/
def execGetWindow (rq : Rq) (w : Nat) (s : State) : Host.Outcome State Fault Refusal :=
  s.done (xib 0x0802 rq (.getWindow rq w) s fun p s =>
    if 64 ≤ w then s.refuse .parameter
    else if ! s.maySeeWindow p w then s.refuse .permission
    else s.readAns [(4, (s.curWord (LWB_WIN_CFG w)).toNat % 2 ^ 30), (4, (s.word (LWB_WIN_WFAIL w)).toNat), (4, (s.word (LWB_WIN_ERR w)).toNat)])

end Sys2Proof.Machine
end

