-- ==== Sys2Proof/Machine/Forecast.lean ====
section
/-! DEFINITION. Twilight's forecasts and the restart of a lane's fit (R412 to R414), for every chapter that services a target. -/
namespace Sys2Proof.Machine
open Sys2Proof

/-- Frames in a number of days, at the frame length in force (R413). -/
def State.daysInFrames (s : State) (days : Nat) : Nat := days * 86400000000000 / (512 * 2 ^ (s.time.lenCode % 4))

/-- TWL_FC.DUE and the FORECAST condition at a frame: a forecast is due within HORIZON (R414, R326). -/
def State.refreshForecasts (s : State) (f : Nat) : State :=
  let due := s.twl.fc.any (fun c => decide (c.due ≤ f + s.daysInFrames (s.fld TWL_CTL_HORIZON)))
  (s.setBit TWL_FC_DUE due).setDeg GLB_DEG_FORECAST due

/-- A forecast is made, in place of one its target has (R414). A new target beyond 64 forecasts is not held (log entry 72). -/
def State.makeForecast (s : State) (f cls reason target due : Nat) : State :=
  let same := fun (c : Fcst) => c.cls == cls && c.target == target
  let n : Fcst := { cls := cls, reason := reason, target := target, made := f, due := due }
  let old := s.twl.fc.any same
  if ! old ∧ 64 ≤ s.twl.fc.length then s
  else
    let l := if old then s.twl.fc.map (fun c => if same c then n else c) else s.twl.fc ++ [n]
    (({ s with twl.fc := l } : State).inc TWL_FC_MADE).raiseShared 299

/-- A ladder is exhausted: a forecast due now, unless its target has one of that reason (R413, log entry 72). -/
def State.exhaust (s : State) (f cls target : Nat) : State :=
  if s.twl.fc.any (fun c => c.cls == cls && c.target == target && c.reason == 1) then s else s.makeForecast f cls 1 target f

/-- The forecast of a target is withdrawn (R414). -/
def State.withdraw (s : State) (cls target : Nat) : State :=
  if s.twl.fc.any (fun c => c.cls == cls && c.target == target) then
    State.refreshForecasts { s with twl.fc := s.twl.fc.filter (fun c => ! (c.cls == cls && c.target == target)) } s.time.frame
  else s

/-- The key of a sensor: class × 1,024 + index. -/
def sensorKey (cls i : Nat) : Nat := cls * 1024 + i

/-- A sensor's state. -/
def State.sensor (s : State) (k : Nat) : Sensor := mgetD s.twl.sens k {}

/-- Sets a sensor's state. -/
def State.setSensor (s : State) (k : Nat) (x : Sensor) : State := { s with twl.sens := mputD s.twl.sens k {} x }

/-- An action on a sensor's margin is recorded in its interval (Table 19-2, FLAGS). -/
def State.noteAction (s : State) (k : Nat) : State := s.setSensor k { s.sensor k with acted := true }

/-- The fit of a lane restarts: the interval says so and its forecast is withdrawn (R412, R414). -/
def State.restartFit (s : State) (l : Nat) : State :=
  (s.setSensor (sensorKey 2 l) { s.sensor (sensorKey 2 l) with restart := true, fit := 0 }).withdraw 2 l

/-- A dismissed forecast is gone until a fit makes it again (R414). -/
def State.dismiss (s : State) : State :=
  let i := s.fld TWL_FC_INDEX
  State.refreshForecasts { s with twl.fc := s.twl.fc.take i ++ s.twl.fc.drop (i + 1) } s.time.frame

end Sys2Proof.Machine
end

