-- ==== Sys2Proof/Machine/Link.lean ====
section
/-! DEFINITION. Ports going down and coming up (R70, R112, R134, R346), lanes and widths (R80, R81), and inter-switch links as far as a port
takes them down with it. -/
namespace Sys2Proof.Machine
open Sys2Proof

/-! ### Lanes of a port (R48, R80) -/

/-- The lanes of a port counted from its lowest (or highest), in a width. -/
def State.laneSet (s : State) (p w : Nat) (high : Bool) : List Nat :=
  (List.range w).map (fun k => if high then 4 * p + s.lanesOf p - 1 - k else 4 * p + k)

/-- The port formed over a lane. -/
def State.portOfLane (s : State) (l : Nat) : Nat :=
  match s.cur (PRT_CFG_BIF (l / 16 * 4)) with
  | 0 => l / 16 * 4
  | 1 => l / 8 * 2
  | _ => l / 4

/-- Whether a lane is parked. -/
def State.parked (s : State) (l : Nat) : Bool := s.bit (LAN_STAT_PARKED l)

/-- The width codes a port may run at, widest first: an ISL only x16, x8 and x4 (R90). -/
def State.widthCodes (s : State) (p : Nat) : List Nat := if s.role p = 3 then [4, 3, 2] else [4, 3, 2, 1, 0]

/-- The widest lane set without a parked lane, no wider than a code: its width code and the end it is counted from (R80). -/
def State.bestSet (s : State) (p most : Nat) : Option (Nat × Bool) :=
  let ok := fun (c : Nat) (high : Bool) => decide (c ≤ most) && decide (2 ^ c ≤ s.lanesOf p) && (s.laneSet p (2 ^ c) high).all (fun l => ! s.parked l)
  match (s.widthCodes p).find? (fun c => ok c false || ok c true) with
  | some c => some (c, ! ok c false)
  | none => none

/-- A lane joins the active width: it holds signal and lock, and its next eye sweep begins (R82). -/
def State.laneOn (s : State) (l : Nat) : State :=
  let s1 := ((s.setBit (LAN_STAT_IN_USE l) true).setBit (LAN_STAT_LOS l) false).setBit (LAN_STAT_LOL l) false
  if s.bit (LAN_STAT_IN_USE l) then s1 else { s1 with lan.eyeFrom := mput s1.lan.eyeFrom l s1.time.frame }

/-- The lanes in use of a port are those of its active width. -/
def State.markLanes (s : State) (p : Nat) (c : Nat) (high : Bool) : State :=
  let on := s.laneSet p (2 ^ c) high
  (s.laneSet p (s.lanesOf p) false).foldl (fun s l => if on.contains l then s.laneOn l else s.setBit (LAN_STAT_IN_USE l) false) s

/-- No lane of a port is in use. -/
def State.clearLanes (s : State) (p : Nat) : State :=
  (s.laneSet p (s.lanesOf p) false).foldl (fun s l => s.setBit (LAN_STAT_IN_USE l) false) s

/-- Whether an eye sweep of a lane is under way (R82). -/
def State.sweeps (s : State) (l : Nat) : Bool := s.bit (LAN_STAT_IN_USE l) && s.bit (LAN_CTL_EYE_EN l)

/-- The eye sweeps under way on a port's lanes are discarded, and begin again (Table 4-1 case 3). -/
def State.dropSweeps (s : State) (p : Nat) : State :=
  ((s.laneSet p (s.lanesOf p) false).filter s.sweeps).foldl (fun s l =>
    ({ s with lan.eyeDue := mdel s.lan.eyeDue l, lan.eyeFrom := mput s.lan.eyeFrom l s.time.frame } : State).setBit (LAN_EYE_VALID l) false) s

/-- A lane's pattern engine stops, keeping its error count (R86). -/
def State.stopEngine (s : State) (l : Nat) : State :=
  let s1 := ((s.setBit (LAN_PAT_CTL_GEN_EN l) false).setBit (LAN_PAT_CTL_CHK_EN l) false).setFld (LAN_PAT_CTL_LOOP l) 0
  ({ s1 with lan.patBits := mdel s1.lan.patBits l, lan.chk := mdel s1.lan.chk l } : State).setBit (LAN_PAT_STAT_ACTIVE l) false

/-- A parked lane returns to service (R81, R86), and its forecast is withdrawn (R414). -/
def State.unpark (s : State) (l : Nat) : State :=
  (((((s.setBit (LAN_STAT_PARKED l) false).setFld (LAN_STAT_PARK_CAUSE l) 0).setBit (LAN_STAT_LOS l) false).setBit (LAN_STAT_LOL l) false).stopEngine l).withdraw 2 l

/-- A port that is up changes its rate: the fit of every lane restarts (R412). -/
def State.setRate (s : State) (p r : Nat) : State :=
  if s.fld (PRT_LINK_STAT_RATE p) = r then s
  else (s.laneSet p (s.lanesOf p) false).foldl State.restartFit (s.setFld (PRT_LINK_STAT_RATE p) r)

/-- At a retrain of a port, or when its link comes up again, its parked lanes return unless a PARK write holds them (R81). -/
def State.returnLanes (s : State) (p : Nat) : State :=
  (s.laneSet p (s.lanesOf p) false).foldl (fun s l => if s.parked l ∧ ! s.bit (LAN_CTL_PARK l) then s.unpark l else s) s

/-- A lane is equalised (R76): a fixed preset stands; what training and adaptation find is free. -/
def State.equalise (s : State) (l : Nat) : State :=
  let a := s.draw
  let b := a.2.draw
  let c := b.2.draw
  let tp := s.fld (LAN_CTL_TX_PRESET l)
  (((c.2.setFld (LAN_EQ_PRESET_CUR l) (if tp = 15 then a.1 % 11 else tp)).setFld (LAN_EQ_CTLE_CUR l) (b.1 % 64)).setFld (LAN_EQ_DFE_TAP1 l) (c.1 % 256)).inc
    (LAN_EQ_EQ_CNT l)

/-! ### Inter-switch links going down (R112) -/

/-- An ISL no longer leads to any peer (R427). -/
def State.islUnknown (s : State) (i : Nat) : State :=
  (List.range 8).foldl (fun s m => s.setFld (GRP_PEER_ISLS m) (Nat.land (s.fld (GRP_PEER_ISLS m)) (255 - 2 ^ i)))
    { s with grp.seen := mdel s.grp.seen i, grp.proven := mdel s.grp.proven i }

/-- An ISL is declared down (R112): its replay and sequence state is discarded, DOWN_CNT rises and its shared source is raised. -/
def State.islDown (s : State) (i : Nat) : State :=
  if s.islSt i = 0 then s
  else
    let s1 := (s.setIsl i { downAt := s.now }).islUnknown i
    let s2 := ((((s1.setFld (ISL_STAT_STATE i) 0).setBit (ISL_STAT_BLOCK_LOCK i) false).setBit (ISL_STAT_PROT_ACTIVE i) false).setBit (ISL_STAT_SHORT i) false).inc
      (ISL_STAT_DOWN_CNT i)
    let s3 := (((s2.setFld (ISL_SEQ_NEXT_TX i) 0).setFld (ISL_SEQ_OLDEST i) 0).setBit (ISL_SEQ_STALL i) false).setBit (ISL_SEQ_REPLAYING i) false
    let s4 := ((s3.setFld (ISL_RX_SEQ_NEXT_RX i) 0).setBit (ISL_RX_SEQ_NAK_PEND i) false).setFld (ISL_FC_STAT_HEADROOM i) 0
    ((s4.setFld (ISL_FC_STAT_TX_OFF i) 0).setFld (ISL_FC_STAT_RX_OFF i) 0).raiseShared (288 + i)

/-! ### Port down (R134, Table 6-5) -/

/-- A pool access that is lost with its port: its read completes with poison and its write is discarded, under code 0x03 (Table 6-5 case 6,
Table 7-4). -/
def State.poolLost (s : State) (m : Msg) : State :=
  let sl := m.src - 128
  let s1 := s.discarded m.dst
  match s1.ttOf sl m.tag with
  | some t =>
    if m.kind = .poolRd then match t.work with
      | .req r =>
        if t.rd then
          (s1.putTt sl { t with rd := false, data := if t.data.isSome then t.data else some (allOnes, true) }).bindFault r.bnd 3
            (s1.parcelOfLine r.bnd t.line) r.dpa 3 .poisoned
        else s1
      | _ => s1
    else match t.work with
      | .req r =>
        if t.wrPend then (s1.putTt sl { t with wrPend := false, stage := 2 }).bindFault r.bnd 3 (s1.parcelOfLine r.bnd t.line) r.dpa 3 .wrDisc
        else s1
      | _ => s1
  | none =>
    let l := mgetD s1.home.wbuf sl []
    match l.find? (fun w => w.tag == m.tag && ! w.deferred) with
    | some w =>
      let s2 : State := { s1 with home.wbuf := mputD s1.home.wbuf sl [] (l.filter (fun x => x.tag != m.tag)) }
      s2.bindFault w.bnd 3 (s2.parcelOfLine w.bnd w.line) w.dpa 3 .wrDisc
    | none => s1

/-- A message queued for a port that goes down (Table 6-5 cases 4 to 8): a snoop returns to the home as undeliverable, and its slot drains. -/
def State.flushTo (s : State) (m : Msg) : State :=
  match m.kind with
  | .bisnp _ =>
    if m.src < 128 then s.bounce m else ((s.answered m.dst).inc (HOM_SLC_SNP_UNDELIV (m.src - 128))).drainSlot m.tag false
  | .poolRd => s.poolLost m
  | .poolWr => s.poolLost m
  | _ => s.bounce m

/-- What happens to messages from a port that goes down (Table 6-5 cases 1 to 3). Those in progress end poisoned at their outputs; whole ones of
class 0 and 1 stay to be delivered; the rest is discarded. The receive buffers of an ISL are discarded whole (R112). -/
def State.flushFrom (s : State) (p : Nat) : State :=
  let isl := s.role p == 3
  let gone := fun (m : Msg) => isl || ! m.whole || decide (2 ≤ m.kind.cls)
  let lost := ((s.xbr.voq.filter (fun e => e.1 / 1024 == p)).flatMap (fun e => e.2)).filter gone
  let s1 : State := { s with xbr.voq := s.xbr.voq.filterMap (fun e =>
    if e.1 / 1024 = p then (let l := e.2.filter (fun m => ! gone m); if l.isEmpty then none else some (e.1, l)) else some e) }
  let s2 := (s1.addSat (XBR_PFLUSH_DISCARDED p) lost.length).syncCredits p
  (s2.xbr.busy.filter (fun e => e.2.src == p)).foldl (fun s e => s.tail p e.1 e.2.kind.cls true) s2

/-- Every message queued for a port. -/
def State.queuedFor (s : State) (p : Nat) : List Msg :=
  (s.xbr.egress.filter (fun e => e.1 / 32 == p)).flatMap (fun e => e.2) ++ (s.xbr.voq.filter (fun e => e.1 / 4 % 256 == p)).flatMap (fun e => e.2)

/-- Messages queued for a port that satisfy a test leave its queues and are handled as for a port that is down. -/
def State.flushWhere (s : State) (p : Nat) (hit : Msg → Bool) : State :=
  let keep := fun (e : Nat × List Msg) => let l := e.2.filter (fun m => ! hit m); if l.isEmpty then none else some (e.1, l)
  let s1 : State := { s with
    xbr.voq := s.xbr.voq.filterMap (fun e => if e.1 / 4 % 256 = p then keep e else some e)
    xbr.egress := s.xbr.egress.filterMap (fun e => if e.1 / 32 = p then keep e else some e) }
  (((s.queuedFor p).filter hit).foldl (fun s m => (s.flushTo m).syncCredits m.src) s1).idlePrios

/-- The queues of a port are emptied and what was in them handled. -/
def State.flushPort (s : State) (p : Nat) : State :=
  let l := s.queuedFor p ++ (mget s.xbr.inflight p).toList
  let srcs := (s.xbr.voq.filter (fun e => e.1 / 4 % 256 == p)).foldl (fun l e => sadd l (e.1 / 1024)) []
  let s1 : State := { s with
    xbr.voq := s.xbr.voq.filter (fun e => e.1 / 4 % 256 != p), xbr.egress := s.xbr.egress.filter (fun e => e.1 / 32 != p),
    xbr.busy := mdel s.xbr.busy p, xbr.inflight := mdel s.xbr.inflight p, xbr.wire := mdel s.xbr.wire p
    xbr.stall := (mdel s.xbr.stall p).filter (fun e => (s.stallBlame e.1 true).map (fun b => b.1) != some p) }
  (srcs.foldl State.syncCredits (l.foldl State.flushTo (s1.flushFrom p))).idlePrios

/-- The virtual downstream ports that hold the device of a port. -/
def State.vdpsOf (s : State) (p : Nat) : List Nat :=
  s.prt.vdp.filterMap (fun e => match e.2.hold with
    | .phys q _ => if q = p then some e.1 else none
    | _ => none)

/-- The virtual downstream ports that hold what a port's trained partner offers: one, the lowest, where it is a single device (R59). -/
def State.vdpsHere (s : State) (p : Nat) : List Nat := if s.oneDevice p then (s.vdpsOf p).take 1 else s.vdpsOf p

/-- Sets presence at virtual downstream ports; Data Link Layer State Changed follows a change (R69). -/
def State.vdpPresence (s : State) (ks : List Nat) (v : Bool) : State :=
  ks.foldl (fun s k => { s with prt.vdp := mmod s.prt.vdp k (fun x => { x with present := v, dllsc := x.dllsc || x.present != v }) }) s

/-- The status of a port whose link is down. -/
def State.linkDownStat (s0 : State) (p : Nat) : State :=
  let s := ((s0.abandonDump p).harvestsLost p).vdpPresence (s0.vdpsOf p) false
  let s1 := ((((s.setFld (PRT_LINK_STAT_RATE p) 0).setFld (PRT_LINK_STAT_WIDTH p) 0).setBit (PRT_LINK_STAT_UP p) false).setBit (PRT_LINK_STAT_XRATE p) false)
  let s2 := ((s1.setBit (PRT_LINK_STAT_CXL p) false).setBit (PRT_LINK_STAT_LOFLIT p) false).setFld (PRT_PM_STAT_STATE p) 3
  let s3 := ((s2.setFld (PRT_PM_STAT_L0P_WIDTH p) 0).setBit (PRT_IDE_STAT_IO_SECURE p) false).setBit (PRT_IDE_STAT_CM_SECURE p) false
  (s3.setBit (PRT_HP_STAT_PRESENT p) false).clearLanes p

/-- A message whose source and output go down together (Table 6-6 case 3): the part not yet sent is dropped, counted once at the output, with no tail
poison. -/
def State.dropBetween (s : State) (ps : List Nat) : State :=
  (s.xbr.busy.filter (fun e => ps.contains e.1 && ps.contains e.2.src)).foldl (fun s e =>
    ({ s with
      xbr.busy := mdel s.xbr.busy e.1, xbr.inflight := mdel s.xbr.inflight e.1
      xbr.egress := s.xbr.egress.map (fun q => if q.1 / 32 = e.1 then (q.1, q.2.filter (fun m => m.whole)) else q) } : State).discarded e.1) s

/-- A port is declared down, whatever the cause (R134): its queues are flushed, a host's slot drains (R178), and moves and preparations that
need a pool end. A port that is down already is not flushed again. -/
def State.declareDown (s : State) (p : Nat) : State :=
  if ! s.linkUp p then s
  else
    let pool := s.isPool p
    let s0 := s.bridgePortDown p
    let s1 := match s0.islOf p with
      | some i => s0.islDown i
      | none => s0
    let s2 := (((s1.dropSweeps p).linkDownStat p).inc (PRT_LINK_STAT_DOWN_CNT p)).setBit (XBR_PSTAT_FLUSHING p) true
    let s3 := ((s2.setPx p { s2.px p with recov := [], xrAgreed := false }).raisePort p).flushPort p
    let s4 := if s.isHost p then (match s3.slotAt s3.ownMember p with
      | some k => (s3.drainSlot k false).refreshLevel p
      | none => s3.refreshLevel p) else s3
    let s5 := if pool then ((s4.movesPortDown p).addsPortDown p).remacsDown p else s4
    s5.runAll

/-- Several ports are declared down together. -/
def State.declareAll (s : State) (ps : List Nat) : State := ps.foldl State.declareDown (s.dropBetween (ps.filter s.linkUp))

/-- A downstream port has lost its link without warning (R70): DPC and Surprise Down on the virtual downstream ports its device is bound to, or
faults of the bindings with parcels on the pool. -/
def State.surprise (s : State) (p : Nat) : State :=
  if ! s.linkUp p then s
  else
    let pool := s.isPool p
    let s1 := ((s.declareDown p).setBit (PRT_HP_STAT_SDOWN p) true).inc (PRT_HP_STAT_SDOWN_CNT p)
    if pool then s1.poolFaults p
    else
      let hit := s1.vdpsOf p
      let s2 := hit.foldl (fun s k =>
        ({ s with prt.vdp := mmod s.prt.vdp k (fun x => { x with dpc := true }) } : State).emit (.vdp (k / 128) (k % 128) 2 0)) s1
      if hit.isEmpty then s2 else s2.setBit (PRT_HP_STAT_DPC p) true

/-- A port loses its link without warning, whatever its role. -/
def State.linkLost (s : State) (p : Nat) : State := if s.role p = 2 then s.surprise p else s.declareDown p

/-- A downstream port loses its link without warning (R70). -/
def execSurpriseDown (p : Nat) (s : State) : Host.Outcome State Fault Refusal := s.done (if p < 128 ∧ s.role p = 2 then s.surprise p else s)

/-- A host port loses its link (R134, R178). -/
def execHostPortLinkLoss (p : Nat) (s : State) : Host.Outcome State Fault Refusal := s.done (if s.isHost p then s.declareDown p else s)

/-- The last message queued at a declaration has been handled: FLUSHING clears (R134). -/
def execFlushComplete (p : Nat) (s : State) : Host.Outcome State Fault Refusal :=
  s.done (if p < 128 then s.setBit (XBR_PSTAT_FLUSHING p) false else s)

/-- The output watchdog fires (R132) when the stall count of an output has reached WD: the blamed port is declared down. `room` says that its
egress buffer had room at some time in the frame. -/
def State.watchdogFire (s : State) (p : Nat) (room : Bool) : State :=
  if 128 ≤ p ∨ mgetD s.xbr.stall p 0 < s.fld (XBR_PWD_WD p) then s
  else match s.stallBlame p (room || s.xbr.roomLast.contains p) with
    | none => s
    | some (b, cause) =>
      let s1 := ((s.setBit (XBR_PWD_FIRED p) true).setFld (XBR_PWD_CAUSE p) cause).inc (XBR_PWD_FIRE_CNT p)
      (({ s1 with xbr.stall := mdel s1.xbr.stall p } : State).raisePort p).declareDown b

def execOutputWatchdogFire (p : Nat) (room : Bool) (s : State) : Host.Outcome State Fault Refusal := s.done (s.watchdogFire p room)

/-! ### Recovery and width (R58, R80) -/

/-- A port enters Recovery and returns to L0: its sweeps are discarded, its watchdog count holds for this frame (R133), and a Recovery from
128 GT/s is counted (R58). -/
def State.recover (s : State) (p : Nat) : State :=
  let s1 := ({ s with xbr.paused := sadd s.xbr.paused p } : State).dropSweeps p
  if s1.bit (PRT_LINK_STAT_XRATE p) then
    s1.setPx p { s1.px p with recov := s1.now :: (s1.px p).recov.filter (fun t => decide (s1.now < t + 1000000000)) }
  else s1

/-- A port runs at a width: the trained width, and the active one (R81). -/
def State.setWidth (s : State) (p c : Nat) (high : Bool) : State :=
  let s1 := s.setPx p { s.px p with trained := c, high := high }
  ((((s1.setFld (PRT_LINK_STAT_WIDTH p) c).setFld (PRT_PM_STAT_L0P_WIDTH p) c).setFld (PRT_PM_STAT_STATE p) 0).markLanes p c high)

/-- The link enters Recovery (Table 5-1): traffic is held, and sequence state and replay buffer are kept. -/
def State.islRecover (s : State) (i : Nat) : State :=
  if s.islSt i < 2 ∨ s.islSt i = 5 then s
  else
    let s1 := ((s.setFld (ISL_STAT_STATE i) 5).setBit (ISL_STAT_BLOCK_LOCK i) false).recover (s.cur (ISL_CFG_PORT i))
    s1.setIsl i { s1.islAt i with downAt := s1.now, bad := 0, miss := 0 }

/-- A port enters Recovery and returns: an ISL keeps its sequence state and aligns again (Table 5-1). -/
def State.portRecover (s : State) (p : Nat) : State :=
  match s.islOf p with
  | some i => if s.role p = 3 then s.islRecover i else s.recover p
  | none => s.recover p

/-- A port that is up retrains at its widest lane set without a parked lane; with none left it is down (R80). -/
def State.renarrow (s : State) (p : Nat) : State :=
  if ! s.linkUp p then s
  else match s.bestSet p (s.px p).wmax with
    | some (c, h) => (s.portRecover p).setWidth p c h
    | none => s.linkLost p

/-- The lanes of the width a port has trained to, those L0p idles among them. -/
def State.trainedLanes (s : State) (p : Nat) : List Nat := if s.linkUp p then s.laneSet p (2 ^ (s.px p).trained) (s.px p).high else []

/-- A lane is parked (R79, R80): a port that has trained over it retrains narrower, with a correctable fault that names the lane and the new width, and an
event. -/
def State.parkLane (s : State) (l cause : Nat) : State :=
  let p := s.portOfLane l
  let s1 := (s.setBit (LAN_STAT_PARKED l) true).setFld (LAN_STAT_PARK_CAUSE l) cause
  if ! (s.trainedLanes p).contains l then s1
  else
    let s2 := (s1.setBit (LAN_STAT_IN_USE l) false).renarrow p
    (s2.reportCode 0x0201 p none (l + 65536 * (if s2.linkUp p then widthLanes (s2.fld (PRT_LINK_STAT_WIDTH p)) else 0))).raisePort p

/-! ### Rate and retraining (R57, R58, R412) -/

/-- MAX_RATE of a port as it acts: 0x7 is 0x6 on a CXL port that does not offer extended rate (PRT_LINK_CTL). -/
def State.maxRate (s : State) (p : Nat) : Nat :=
  let m := s.fld (PRT_LINK_CTL_MAX_RATE p)
  if (s.role p = 1 ∨ s.role p = 2) ∧ ! s.curBit (PRT_CFG_PCIE_ONLY p) ∧ ! s.bit (PRT_LINK_CTL_XRATE_EN p) then min m 6 else m

/-- The rate code a port may reach at first training: MAX_RATE, at most 64 GT/s on a CXL port, at most 32 GT/s in non-flit mode (Table 3-2), and at
most the rate cap of Twilight (R57, R412). -/
def State.rateLimit (s : State) (p : Nat) (flit : Bool) : Nat :=
  let m := s.fld (PRT_LINK_CTL_MAX_RATE p)
  let cxl := decide (s.role p ≠ 3) && ! s.curBit (PRT_CFG_PCIE_ONLY p)
  let cap := s.fld (TWL_PCAP_CAP p)
  min (min (if cxl then min m 6 else m) (if flit then 7 else 5)) (if cap = 0 then 7 else cap)

/-- Whether a port offers extended rate (R56). -/
def State.xrOffered (s : State) (p : Nat) : Bool :=
  (s.role p == 1 || s.role p == 2) && ! s.curBit (PRT_CFG_PCIE_ONLY p) && s.bit (PRT_LINK_CTL_XRATE_EN p) && s.fld (PRT_LINK_CTL_MAX_RATE p) == 7

/-- A retrain of a port: lanes return to service, the hold-off of R58 is cleared, and a link that is up runs at its widest set and at the rate
MAX_RATE and the cap allow now; extended rate goes on where they allow it (R412). An ISL that may not run at 32 GT/s goes down (R89). -/
def State.retrain (s : State) (p : Nat) : State :=
  let s1 := ((s.setPx p { s.px p with xrHold := false }).returnLanes p).renarrow p
  if ! s1.linkUp p then s1
  else
    let cap := s1.fld (TWL_PCAP_CAP p)
    let r := min (s1.px p).rmax (s1.rateLimit p (s1.px p).flit)
    if s1.bit (PRT_LINK_STAT_XRATE p) ∧ s1.xrOffered p ∧ (cap = 0 ∨ cap = 7) then s1
    else if s1.role p = 3 ∧ r < 5 then s1.declareDown p
    else (s1.setBit (PRT_LINK_STAT_XRATE p) false).setRate p r

/-! ### Link up (R51, R52, R57, R89) -/

/-- An ISL's link has reached L0: it aligns (Table 5-1). After Recovery the sequence state stays, and the sender replays from OLDEST (Table 5-5
case 6). -/
def State.islAlign (s : State) (i : Nat) : State :=
  let x := s.islAt i
  let again := s.islSt i == 5
  let x1 : Isl := if again then { x with marks := 0, rttMax := 0, miss := 0, bad := 0, seen := false, rpl := if x.rp.isEmpty then none else some (s.fld (ISL_SEQ_OLDEST i)), rplFirst := true, sentAt := [] }
    else { downAt := x.downAt }
  let s1 := ((s.setIsl i x1).setFld (ISL_STAT_STATE i) 2).setBit (ISL_STAT_BLOCK_LOCK i) false
  if again ∧ ! x.rp.isEmpty then (s1.setBit (ISL_SEQ_REPLAYING i) true).inc (ISL_REPLAY_STAT_REPLAY_CNT i)
  else if again then s1.setBit (ISL_SEQ_REPLAYING i) false
  else s1

/-- What a partner allows: 256-byte flits are needed for CXL.cache and CXL.mem, and a CXL switch gets CXL.io only (R52, R55). -/
def cxlKept (dev : DevKind) (flit256 : Bool) : Bool := flit256 && dev != .cxlSwitch

/-- Whether the X512 supports a feature (Table 3-3). -/
def Feature.supported (f : Feature) : Bool :=
  match f with
  | .flit68 | .portBasedRouting | .cxlSwitchBelow | .l1Substates | .clockPm | .selectiveIde => false
  | .cxlIo | .cxlMem | .cxlCache | .flit256 | .loFlit | .hdmDb | .hdmH | .dynamicCapacity | .mld | .pcieSwitchBelow => true
  | .aspmL1 | .l0p | .hotPlug | .surpriseDown | .dpc | .aer | .linkIde | .containment | .skid | .tsp => true

/-- Whether a feature of Table 3-3 concerns a port, by its role in force. -/
def State.featureAt (s : State) (p : Nat) (f : Feature) : Bool :=
  match f with
  | .hdmDb | .hdmH | .dynamicCapacity | .tsp | .hotPlug | .surpriseDown | .dpc | .aer => s.role p == 1
  | .mld | .pcieSwitchBelow | .cxlSwitchBelow => s.role p == 2
  | .cxlMem | .cxlCache | .flit68 | .portBasedRouting => ! s.curBit (PRT_CFG_PCIE_ONLY p)
  | .cxlIo | .flit256 | .loFlit | .aspmL1 | .l0p | .l1Substates | .clockPm | .linkIde | .containment | .skid | .selectiveIde => true

/-- The features of Table 3-3, in its order. -/
def features : List Feature :=
  [.cxlIo, .cxlMem, .cxlCache, .flit256, .loFlit, .flit68, .hdmDb, .hdmH, .dynamicCapacity, .mld, .portBasedRouting, .cxlSwitchBelow,
    .pcieSwitchBelow, .aspmL1, .l0p, .l1Substates, .clockPm, .hotPlug, .surpriseDown, .dpc, .aer, .linkIde, .containment, .skid, .selectiveIde, .tsp]

/-- What a port advertises in training (R55, R66). -/
def State.advertised (s : State) (p : Nat) : List Feature := features.filter (fun f => f.supported && s.featureAt p f)

/-- The information field of Table 3-4 the X512 offers: VERSION 1, CAPABLE, REQUEST, and MAX_XRATE 128 GT/s. It asks wherever it offers (log entry
180). -/
def xrInfo : Nat := 0x1 + 2 ^ 4 + 2 ^ 5 + 0x01 * 2 ^ 8

/-- Whether a field of Table 3-4 says that its sender can run 128 GT/s: a field of another version or with a reserved rate says nothing (log entry
180). -/
def xrCapable (f : Nat) : Bool := f % 16 == 1 && f / 2 ^ 4 % 2 == 1 && f / 2 ^ 8 % 2 ^ 8 == 1

/-- Whether two fields agree on 128 GT/s: both CAPABLE and at least one REQUEST (R57). -/
def xrAgree (a b : Nat) : Bool := xrCapable a && xrCapable b && (a / 2 ^ 5 % 2 == 1 || b / 2 ^ 5 % 2 == 1)

/-- What a port sends its partner in training: its features, and its offer of extended rate (R55, R56). -/
def State.trainingSent (s : State) (p : Nat) : State :=
  let s1 := s.emit (.advertise p (s.advertised p) 4)
  if s1.xrOffered p then s1.emit (.xrOffer p s1.ident.vendorId xrInfo) else s1

/-- A port's link reaches L0 after training (R51): at the rate and width both sides and the lanes allow. A port that is disabled, not formed, held
in Disabled or by PERST_N, or without its data plane does not train; an ISL port trains only with a partner that identifies itself (R89). -/
def State.linkTrained (s : State) (p rate width : Nat) (cxl flit256 lofl : Bool) (xr : Option Nat) (dev : DevKind) (cap : Nat) : State :=
  let again := decide (s.role p = 3) && (match s.islOf p with
    | some i => s.islSt i == 5
    | none => false)
  if 128 ≤ p ∨ ! s.formed p ∨ s.role p = 0 ∨ (s.linkUp p ∧ ! again) ∨ s.bit (PRT_LINK_CTL_LINK_DIS p) ∨ (s.px p).heldRst ∨ s.dataOff then s
  else
    let isl := s.role p == 3
    let s0 := if again then s else s.returnLanes p
    let r := min rate (s0.rateLimit p (flit256 || isl))
    match s0.bestSet p width, isl, s0.islOf p with
    | none, _, _ => s0
    | some _, true, none => s0
    | some (c, h), true, some i =>
      if s.islSt i ≠ 1 ∧ ! again then s0
      else if dev ≠ .isl then s0.raiseShared (288 + i)
      else if r < 5 then s0
      else
        let s1 := (s0.setPx p { s0.px p with dev := dev, wmax := width, rmax := rate }).setWidth p c h
        let s2 := ((s1.setFld (PRT_LINK_STAT_RATE p) r).setBit (PRT_LINK_STAT_UP p) true).setBit (PRT_HP_STAT_PRESENT p) true
        (((s2.laneSet p (2 ^ c) h).foldl State.equalise s2).raisePort p).islAlign i
    | some (c, h), false, _ =>
      let only := s.curBit (PRT_CFG_PCIE_ONLY p)
      let keep := cxl && ! only && cxlKept dev flit256
      let t := s0.trainingSent p
      let s1 := (t.setPx p { t.px p with
        dev := dev, wmax := width, rmax := rate, cap := cap, flit := flit256, xrHold := false, recov := [],
        xrAgreed := keep && s.xrOffered p && (xr.map (xrAgree xrInfo)).getD false }).setWidth p c h
      let s2 := ((s1.setFld (PRT_LINK_STAT_RATE p) r).setBit (PRT_LINK_STAT_UP p) true).setBit (PRT_LINK_STAT_CXL p) keep
      let s3 := (s2.setBit (PRT_LINK_STAT_LOFLIT p) (keep && lofl)).setBit (PRT_HP_STAT_PRESENT p) true
      let s4 := ((s3.laneSet p (2 ^ c) h).foldl State.equalise s3).raisePort p
      let s5 := if s4.isPool p ∧ ! (s4.px p).inited then s4.setBit (OXB_POOL_FREE_VALID p) false else s4
      let s6 := (s5.vdpsHere p).foldl (fun s k => s.emit (.vdp (k / 128) (k % 128) 0 0)) (s5.vdpPresence (s5.vdpsHere p) true)
      s6.refreshLevel p

/-- A port's link reaches L0 after training. `cxl`: CXL was negotiated; `flit256`: the partner runs 256-byte flits; `lofl`: latency-optimised
flits; `xr`: the partner's extended-rate information field, where it answered the entry (R56); `cap`: the capacity of a memory device in parcels. -/
def execLinkUp (p rate width : Nat) (cxl flit256 lofl : Bool) (xr : Option Nat) (dev : DevKind) (cap : Nat) (s : State) : Host.Outcome State Fault Refusal :=
  s.done (s.linkTrained p rate width cxl flit256 lofl xr dev cap)

/-- The downstream side changes the speed to 128 GT/s, through Recovery with equalisation (R57); a rate cap of Twilight forbids it (R412). -/
def State.xrateUp (s : State) (p : Nat) : State :=
  let x := s.px p
  let cap := s.fld (TWL_PCAP_CAP p)
  if 128 ≤ p ∨ ! s.linkUp p ∨ ! x.xrAgreed ∨ x.xrHold ∨ ! s.xrOffered p ∨ s.fld (PRT_LINK_STAT_RATE p) ≠ 6 ∨ (cap ≠ 0 ∧ cap < 7) then s
  else
    let s1 := ((s.recover p).setRate p 7).setBit (PRT_LINK_STAT_XRATE p) true
    (s1.laneSet p (2 ^ x.trained) x.high).foldl State.equalise s1

def execXrateSpeedChange (p : Nat) (s : State) : Host.Outcome State Fault Refusal := s.done (s.xrateUp p)

/-- Equalisation at 128 GT/s has overrun 24 ms (`overrun`), or the link has left 128 GT/s through Recovery more than four times in a second: it
returns to 64 GT/s and tries no more (R58). -/
def State.xrateBack (s : State) (p : Nat) (overrun : Bool) : State :=
  let x := s.px p
  let many := decide (4 < (x.recov.filter (fun t => decide (s.now < t + 1000000000))).length)
  if 128 ≤ p ∨ ! s.linkUp p ∨ ! x.xrAgreed ∨ ! (overrun || many) then s
  else
    let s1 := (((s.recover p).setRate p 6).setBit (PRT_LINK_STAT_XRATE p) false).setBit (PRT_LINK_STAT_XRATE_FAIL p) true
    (s1.setPx p { s1.px p with xrHold := true, recov := [] }).raisePort p

def execXrateFallback (p : Nat) (overrun : Bool) (s : State) : Host.Outcome State Fault Refusal := s.done (s.xrateBack p overrun)

/-! ### Link power (R66 to R68) -/

/-- Whether a gate list in force names a port. -/
def State.gated (s : State) (p : Nat) : Bool := (mget s.xbr.lists p).isSome

/-- Whether a port may enter L1 after an idle time in µs (R66, R68). In Hold every host and downstream port enters it. -/
def State.mayL1 (s : State) (p us : Nat) : Bool :=
  s.linkUp p && (s.role p == 1 || s.role p == 2) && (s.inHold ||
    (s.bit (PRT_PM_CTL_L1_EN p) && s.fld (PRT_PM_CTL_L1_IDLE p) != 0 && decide (s.fld (PRT_PM_CTL_L1_IDLE p) ≤ us) && (s.role p != 1 || (s.px p).aspm) &&
      ! s.gated p && ! s.portBusy p))

/-- A port that has been idle enters ASPM L1. -/
def State.l1Enter (s : State) (p us : Nat) : State :=
  if 128 ≤ p ∨ s.fld (PRT_PM_STAT_STATE p) = 2 ∨ ! s.mayL1 p us then s else (s.setFld (PRT_PM_STAT_STATE p) 2).inc (PRT_PM_STAT_L1_CNT p)

def execL1Entry (p us : Nat) (s : State) : Host.Outcome State Fault Refusal := s.done (s.l1Enter p us)

def execL1Exit (p : Nat) (s : State) : Host.Outcome State Fault Refusal := s.done (s.l1Leave p)

/-- L0p changes the active width of a port; the lanes it idles leave the active width. -/
def State.l0pTo (s : State) (p c : Nat) : State :=
  let s1 := ({ s with xbr.paused := sadd s.xbr.paused p } : State).setFld (PRT_PM_STAT_L0P_WIDTH p) c
  (s1.setFld (PRT_PM_STAT_STATE p) (s1.upState p)).markLanes p c (s1.px p).high

/-- The message on a port's wire runs to its end at a rate that has fallen from `r0`; one fitted into an open run that now passes its end is
counted (Table 11-1 case 2). -/
def State.slowWire (s : State) (p r0 : Nat) : State :=
  let r := s.portRate p
  match mget s.xbr.wire p with
  | some (e, lim) =>
    if e ≤ s.now ∨ r = 0 then s
    else
      let e' := s.now + ((e - s.now) * r0 + r - 1) / r
      let s1 : State := { s with xbr.wire := mput s.xbr.wire p (e', lim) }
      if lim ≠ 0 ∧ e ≤ lim ∧ lim < e' then s1.inc (PRT_GL_CTL_OVERRUN p) else s1
  | none => s

/-- Utilisation over the window, `used` of `total`, is below the threshold: the width halves (R67). -/
def State.l0pNarrow (s : State) (p used total : Nat) : State :=
  let c := s.fld (PRT_PM_STAT_L0P_WIDTH p)
  if 128 ≤ p ∨ ! s.linkUp p ∨ s.role p = 3 ∨ s.fld (PRT_PM_STAT_STATE p) = 2 ∨ ! s.bit (PRT_PM_CTL_L0P_EN p) ∨ s.fld (PRT_PM_CTL_L0P_WIN p) = 0 ∨
      (s.role p = 1 ∧ ! (s.px p).l0pHost) ∨ s.fld (PRT_PM_CTL_L0P_THR p) * total ≤ 16 * used ∨ c ≤ 1 ∨ c + 2 ≤ (s.px p).trained then s
  else (s.l0pTo p (c - 1)).slowWire p (s.portRate p)

def execL0pNarrow (p used total : Nat) (s : State) : Host.Outcome State Fault Refusal := s.done (s.l0pNarrow p used total)

/-- Utilisation of the reduced width exceeds 75 % in a frame, or a message has waited more than 1 µs: the trained width returns (R67). -/
def State.l0pRestore (s : State) (p used total waitNs : Nat) : State :=
  if 128 ≤ p ∨ ! s.linkUp p ∨ s.fld (PRT_PM_STAT_L0P_WIDTH p) = (s.px p).trained ∨ (4 * used ≤ 3 * total ∧ waitNs ≤ 1000) then s
  else s.l0pTo p (s.px p).trained

def execL0pRestore (p used total waitNs : Nat) (s : State) : Host.Outcome State Fault Refusal := s.done (s.l0pRestore p used total waitNs)

/-! ### Port reset (R346) -/

/-- The management function of a host port returns to its PCIe reset state: no enable is set (R72, R346). -/
def State.resetMf (s : State) (p : Nat) : State :=
  ((s.setMf p {}).setFld (PRT_MF_STAT_DROP_SEEN p) 0).refreshLevel p

/-- The sessions and queue of route p close. -/
def State.closeRoute (s : State) (p : Nat) : State :=
  let s1 := s.closeSessions (fun _ x => x.route == p)
  { s1 with mbx.held := s1.mbx.held.filter (fun e => e.1 != p) }

/-- A port reset: the port is declared down, its IDE keys go, its status fields return to reset and it trains again. A host port's management
function, sessions, queue, bulk queues, lock and slot follow. -/
def State.portReset (s : State) (p : Nat) : State :=
  if 128 ≤ p ∨ ! s.formed p then { s with md.portRst := sdel s.md.portRst p }
  else
    let s1 := s.declareDown p
    let s2 := s1.setPx p { s1.px p with keys := false, keySet := false, xrHold := false }
    let s3 := ((s2.setBit (PRT_LINK_STAT_XRATE_FAIL p) false).setBit (PRT_IDE_STAT_INTEG_FAIL p) false).setFld (PRT_PM_STAT_L1_CNT p) 0
    let s4 := ((s3.setBit (PRT_HP_STAT_SDOWN p) false).setBit (PRT_HP_STAT_DPC p) false).setFld (PRT_PM_STAT_STATE p) 0
    let s5 := if s.isHost p then
        let t := (((s4.resetMf p).closeRoute p).stopPortQueues p).lockRelease p
        (match t.slotAt t.ownMember p with
          | some k => t.drainSlot k false
          | none => t).runAll
      else s4
    { s5 with md.portRst := sdel s5.md.portRst p }

def execPortReset (p : Nat) (s : State) : Host.Outcome State Fault Refusal := s.done (s.portReset p)

/-- The ports of a host group whose PERST_N is asserted are held in reset, and no others (R53). -/
def State.syncPerst (s : State) (g : Nat) : State :=
  let held := s.hostGroup g && s.prt.perstIn.contains g
  let ps := ((List.range 4).map (fun k => 4 * g + k)).filter (fun p => (s.px p).heldRst != held)
  ps.foldl (fun s p => s.setPx p { s.px p with heldRst := held }) (if held then s.declareAll ps else s)

/-- PERST_N of a group is driven low or released from outside. In a host group it holds the ports in reset, its release is a port reset of each
(R53), and either is a wake cause in Hold (R334). -/
def State.perstChange (s : State) (g : Nat) (low : Bool) : State :=
  if 32 ≤ g ∨ s.prt.perstIn.contains g == low then s
  else
    let s1 : State := { s with prt.perstIn := if low then sadd s.prt.perstIn g else sdel s.prt.perstIn g }
    if ! s.hostGroup g then s1
    else
      let s2 := s1.wake none
      (if low then s2 else (((List.range 4).map (fun k => 4 * g + k)).filter s2.formed).foldl State.portReset s2).syncPerst g

def execHostPerstChange (g : Nat) (low : Bool) (s : State) : Host.Outcome State Fault Refusal := s.done (s.perstChange g low)

end Sys2Proof.Machine
end

