-- ==== Sys2Proof/Machine/Wire.lean ====
section
/-! DEFINITION. What an inter-switch link carries on its wire (R91 to R94, R108): the bytes of cells and markers, their checks, and which errors of a cell
its codes correct. Every multi-byte number lies least significant byte first. -/
namespace Sys2Proof.Machine
open Sys2Proof

/-- The number whose bytes are given, least significant first. -/
def numOf (l : List Nat) : Nat := l.foldr (fun b n => b % 256 + 256 * n) 0

/-! ### CRCs (R91, R94; log entry 188) -/

/-- One more bit of a remainder modulo the ECMA-182 polynomial, most significant bit first. -/
def crc64Bit (c : Nat) : Nat := if 2 ^ 63 ≤ c then Nat.xor (2 * (c - 2 ^ 63)) 0x42F0E1EBA9EA3693 else 2 * c

/-- One more byte. -/
def crc64Byte (c b : Nat) : Nat := (List.range 8).foldl (fun c _ => crc64Bit c) (Nat.xor c (b * 2 ^ 56))

/-- CRC-64 over bytes. -/
def crc64 (l : List Nat) : Nat := l.foldl crc64Byte 0

/-- One more bit of a remainder modulo the IEEE 802.3 polynomial, least significant bit first. -/
def crc32Bit (c : Nat) : Nat := if c % 2 = 1 then Nat.xor (c / 2) 0xEDB88320 else c / 2

/-- One more byte. -/
def crc32Byte (c b : Nat) : Nat := (List.range 8).foldl (fun c _ => crc32Bit c) (Nat.xor c b)

/-- CRC-32 over bytes. -/
def crc32 (l : List Nat) : Nat := Nat.xor (l.foldl crc32Byte 0xFFFFFFFF) 0xFFFFFFFF

/-! ### Cells (R91, Tables 5-2 and 5-3) -/

/-- The parts of a cell, each with the slot it begins in. -/
def placed : Nat → List IslPart → List (Nat × IslPart)
  | _, [] => []
  | k, q :: t => (k, q) :: placed (k + q.slots) t

/-- A mask with the bits of some slots. -/
def slotBits (l : List Nat) : Nat := l.foldl (fun n k => n + 2 ^ k) 0

/-- START: the slots in which messages begin. -/
def cellStarts (c : IslCell) : Nat := slotBits ((placed 0 c.parts).filterMap (fun x => if x.2.start.isSome then some x.1 else none))

/-- POISON: the slots in which poisoned messages end. -/
def cellPoisons (c : IslCell) : Nat :=
  slotBits ((placed 0 c.parts).filterMap (fun x => if x.2.fin && x.2.poison then some (x.1 + x.2.slots - 1) else none))

/-- NSLOT: the slots in use. -/
def cellNslot (c : IslCell) : Nat := c.parts.foldl (fun n q => n + q.slots) 0

/-- The cell header (Table 5-3) as a number. -/
def cellHeader (c : IslCell) : Nat :=
  c.type % 16 + c.rpl.toNat * 2 ^ 4 + c.nak.toNat * 2 ^ 5 + c.ackValid.toNat * 2 ^ 6 + c.ks.toNat * 2 ^ 7 + c.seq % 4096 * 2 ^ 8 + c.ack % 4096 * 2 ^ 20 +
    c.xoff % 16 * 2 ^ 32 + cellStarts c * 2 ^ 36 + cellPoisons c * 2 ^ 50 + cellNslot c * 2 ^ 64 + c.txc % 65536 * 2 ^ 68

/-- The payload of a cell: its slots as one number, slot 0 lowest. -/
def cellPayload (c : IslCell) : Nat := (c.parts.flatMap (fun q => q.body)).foldr (fun b n => b % 2 ^ 128 + 2 ^ 128 * n) 0

/-- The contents of slots of a message, from one on (R93). -/
def slotData (m : Msg) (from_ n : Nat) : List Nat := (List.range n).map (fun k => Config.islSlot m (from_ + k))

/-- A key set of one direction: the AES key and the fixed field of the IV (R108, R109). -/
structure KeySet where
  key : Nat
  fixed : Nat
  deriving DecidableEq, Repr

/-- The IV of a cell: the fixed field, then the cell counter. -/
def KeySet.iv (k : KeySet) (ctr : Nat) : Nat := k.fixed % 2 ^ 32 * 2 ^ 64 + ctr % 2 ^ 64

/-- The tag of a cell under a key set (R108): over its header and slots 0 to 12. -/
def cellTag (c : IslCell) (k : KeySet) (ctr : Nat) : Nat := Config.gcmTag k.key (k.iv ctr) (cellHeader c) (cellPayload c) % 2 ^ 128

/-- The fourteen slots of a cell as they leave: slots 0 to 12 encrypted and the tag in slot 13 under a key set, or as they are. -/
def cellSlotsOut (c : IslCell) (k : Option KeySet) (ctr : Nat) : Nat :=
  match k with
  | some x => Config.gcmText x.key (x.iv ctr) (cellPayload c) % 2 ^ 1664 + cellTag c x ctr * 2 ^ 1664
  | none => cellPayload c

/-- The bytes of a cell before scrambling (Table 5-2). -/
def cellBlock (c : IslCell) (k : Option KeySet) (ctr : Nat) : List Nat :=
  let body := bytesOf (cellHeader c) 16 ++ bytesOf (cellSlotsOut c k ctr) 224
  let coded := body ++ bytesOf (crc64 body) 8
  coded ++ (List.range 4).flatMap (fun j =>
    let x := Config.rsCheck ((List.range 62).map (fun n => coded.getD (4 * n + j) 0))
    [x.1 % 256, x.2 % 256])

/-- The bytes of a cell on the wire: byte b on lane b mod w, scrambled by the lane's own sequence, which every marker seeds anew. `n` cells have been sent
since the last marker. -/
def scrambled (w n : Nat) (l : List Nat) : List Nat :=
  l.zipIdx.map (fun x => Nat.xor x.1 (Config.scrambler (x.2 % w) (n * (256 / w) + x.2 / w) % 256))

/-! ### Errors of a cell (R91, R92) -/

/-- The FEC codeword a byte of a cell belongs to. -/
def codewordOf (b : Nat) : Nat := if b < 248 then b % 4 else (b - 248) / 2 % 4

/-- The bad bytes of a codeword: byte and the bits that changed. -/
def badIn (errs : List (Nat × Nat)) (k : Nat) : List (Nat × Nat) := errs.filter (fun e => codewordOf e.1 == k)

/-- The bytes FEC corrects: each codeword corrects one. -/
def fecFixed (errs : List (Nat × Nat)) : Nat := ((List.range 4).filter (fun k => (badIn errs k).length == 1)).length

/-- The errors that are left: those of a codeword with more than one bad byte (log entry 188). -/
def residual (errs : List (Nat × Nat)) : List (Nat × Nat) := errs.filter (fun e => decide (1 < (badIn errs (codewordOf e.1)).length))

/-- What errors change in a byte. -/
def errByte (errs : List (Nat × Nat)) (b : Nat) : Nat := (errs.filter (fun e => e.1 == b)).foldl (fun n e => Nat.xor n (e.2 % 256)) 0

/-- Whether the CRC of a cell with these errors left still passes: what changed is itself a word of the code. -/
def crcPasses (errs : List (Nat × Nat)) : Bool :=
  errs.all (fun e => decide (248 ≤ e.1)) ||
    crc64 ((List.range 240).map (errByte errs)) == numOf ((List.range 8).map (fun k => errByte errs (240 + k)))

/-! ### Markers (R94, Table 5-4) -/

/-- PATTERN. -/
def markerPattern : List Nat := (List.range 16).map (fun k => if k % 2 = 0 then 0x1E else 0xE1)

/-- Bytes 0 to 123 of a marker's copy. -/
def markerFields (m : IslMarker) : List Nat :=
  let e := m.echo.getD (0, 0xFFFFFFFF)
  markerPattern ++ bytesOf m.frame 8 ++ bytesOf m.txOfs 2 ++ bytesOf 0 2 ++ bytesOf e.1 8 ++ bytesOf e.2 4 ++ bytesOf m.txc 8 ++ bytesOf m.group 2 ++
    bytesOf m.member 1 ++ bytesOf 0 1 ++ bytesOf m.epoch 4 ++ List.replicate 68 0

/-- A copy of a marker, with its CRC. -/
def markerCopy (m : IslMarker) : List Nat := markerFields m ++ bytesOf (crc32 (markerFields m)) 4

/-- A marker: two copies, unscrambled. -/
def markerBlock (m : IslMarker) : List Nat := markerCopy m ++ markerCopy m

/-- The number in bytes a to a + n − 1. -/
def numAt (l : List Nat) (a n : Nat) : Nat := numOf ((l.drop a).take n)

/-- What a copy says, if its pattern and CRC pass. -/
def readCopy (l : List Nat) : Option IslMarker :=
  if l.length = 128 ∧ l.take 16 = markerPattern ∧ crc32 (l.take 124) = numAt l 124 4 then
    some {
      frame := numAt l 16 8, txOfs := numAt l 24 2, echo := if numAt l 36 4 = 0xFFFFFFFF then none else some (numAt l 28 8, numAt l 36 4),
      txc := numAt l 40 8, group := numAt l 48 2, member := numAt l 50 1, epoch := numAt l 52 4 }
  else none

/-- The marker a block is: either copy serves; with both bad it is lost. -/
def readMarker (l : List Nat) : Option IslMarker :=
  match readCopy (l.take 128) with
  | some m => some m
  | none => readCopy (l.drop 128)

end Sys2Proof.Machine
end

