-- ==== Sys2Proof/Machine/Isl.lean ====
section
/-! DEFINITION. The inter-switch link (chapter 5): cells, sequencing and replay, flow control, markers, alignment, keying and link down. -/
namespace Sys2Proof.Machine
open Sys2Proof

/-- Numbers of the sequence space: modulo 4,096 (R97). -/
def seq (n : Nat) : Nat := n % 4096

/-- How far b lies ahead of a in the sequence space. -/
def seqDist (a b : Nat) : Nat := (b + 4096 - a % 4096) % 4096

/-- The unacknowledged span (R98). -/
def State.islSpan (s : State) (i : Nat) : Nat := seqDist (s.fld (ISL_SEQ_OLDEST i)) (s.fld (ISL_SEQ_NEXT_TX i))

/-- The cell time in ns (R103). -/
def State.cellTime (s : State) (i : Nat) : Nat :=
  let p := s.cur (ISL_CFG_PORT i)
  2 ^ (7 - s.fld (PRT_LINK_STAT_RATE p)) * 2 ^ (4 - s.fld (PRT_LINK_STAT_WIDTH p))

/-- The headroom for a round trip, in slots (R103). -/
def State.headroom (s : State) (i rtt slots : Nat) : Nat := ((rtt + s.cellTime i - 1) / s.cellTime i + 4) * slots + 257

/-- The size of a class's receive buffer in slots (ISL_FC_CTL). -/
def State.rxSize (s : State) (i c : Nat) : Nat := (getBits (s.curWord (ISL_FC_CTL i)) (4 * c) 4 + 1) * 4096

/-- The slots in use in a class's receive buffer: messages that wait at the ISL's port, one still being received with the slots that have come. -/
def State.rxUsed (s : State) (i c : Nat) : Nat :=
  ((s.waitingAt (s.cur (ISL_CFG_PORT i))).filter (fun m => m.kind.cls == c)).foldl (fun n m => n + if m.whole then m.cells else (s.islAt i).rxGot) 0

/-- Whether an ISL is protected when it comes up (R109): PROT_EN, which is forced to 1 in the lifecycle Owned. -/
def State.protWanted (s : State) (i : Nat) : Bool := s.curBit (ISL_CFG_PROT_EN i) || s.ident.life == .owned

/-- The payload slots of an ISL's cells as it comes up. -/
def State.slotsWanted (s : State) (i : Nat) : Nat := if s.protWanted i then 13 else 14

/-- Whether a class's receive buffer is short for a headroom (R106). -/
def State.shortBuf (s : State) (i h : Nat) : Bool := [0, 1, 2, 3].any (fun c => decide (s.rxSize i c < h + s.cur (ISL_FC_CTL_ON_GAP i) + 257))

/-- The classes this side signals Off, with the hysteresis of R103. -/
def State.refreshOff (s : State) (i : Nat) : State :=
  let h := s.fld (ISL_FC_STAT_HEADROOM i)
  let gap := s.cur (ISL_FC_CTL_ON_GAP i)
  let old := s.fld (ISL_FC_STAT_RX_OFF i)
  s.setFld (ISL_FC_STAT_RX_OFF i) ([0, 1, 2, 3].foldl (fun n c =>
    let free := s.rxSize i c - s.rxUsed i c
    let off := if bitOn old c then decide (free < h + gap) else decide (free < h)
    n + (if off then 2 ^ c else 0)) 0)

/-- The link is declared down with its port (R112). -/
def State.islFail (s : State) (i : Nat) : State :=
  let p := s.cur (ISL_CFG_PORT i)
  if s.linkUp p ∧ s.islOf p = some i then s.declareDown p else s.islDown i

/-- A contained fault of the ISL, then the link is declared down (R106, R110). -/
def State.islFault (s : State) (i : Nat) : State := (s.reportCode 0x0203 i none 0).islFail i

/-- An error of the error-rate window (R111): beyond THR the link is declared down. -/
def State.windowError (s : State) (i : Nat) : State :=
  if s.islSt i ≠ 4 then s
  else
    let s1 := s.inc (ISL_ERR_WIN_CUR i)
    if s1.fld (ISL_ERR_WIN_THR i) < s1.fld (ISL_ERR_WIN_CUR i) then (s1.setBit (ISL_ERR_WIN_WIN_DOWN i) true).islFail i else s1

/-! ### Sending (R97, R98, R100, R105, R108, R109) -/

/-- STALL while the unacknowledged span stands at 1,024 cells and no replay is under way (R98). -/
def State.refreshStall (s : State) (i : Nat) : State := s.setBit (ISL_SEQ_STALL i) (decide (s.islSpan i = 1024) && (s.islAt i).rpl.isNone)

/-- A replay starts at a sequence number; with nothing to resend there is none. -/
def State.startReplay (s : State) (i q : Nat) : State :=
  if seqDist q (s.fld (ISL_SEQ_NEXT_TX i)) = 0 ∨ s.islSpan i < seqDist q (s.fld (ISL_SEQ_NEXT_TX i)) then s
  else
    ((s.setIsl i { s.islAt i with rpl := some (seq q), rplFirst := true }).setBit (ISL_SEQ_REPLAYING i) true).inc (ISL_REPLAY_STAT_REPLAY_CNT i)

/-- Whether a message not yet begun may begin: its class is On, and in Keying it is a management message (R105, Table 5-1). -/
def State.mayBegin (s : State) (i : Nat) (m : Msg) : Bool :=
  let x := s.islAt i
  ! x.silent && ! bitOn (s.fld (ISL_FC_STAT_TX_OFF i)) m.kind.cls && (m.kind == .mgmt || (s.islSt i == 4 && s.carries i))

/-- How many slots of a message can go now: its last slot waits for the tail, whose poison it carries (R93). -/
def slotsReady (m : Msg) (left : Nat) : Nat := if m.whole then left else left - 1

/-- Fills a cell with at most n slots: a message begun goes on first, and none begins behind one that does not end in this cell. -/
def State.pack (s : State) (i : Nat) (n : Nat) (l : List (Msg × Nat)) : List IslPart × List (Msg × Nat) :=
  match l with
  | [] => ([], [])
  | (m, left) :: t =>
    let begun := left != msgSlots m
    if n = 0 then ([], (m, left) :: t)
    else if ! begun && ! s.mayBegin i m then
      let r := s.pack i n t
      (r.1, (m, left) :: r.2)
    else
      let k := min n (slotsReady m left)
      if k = 0 then ([], (m, left) :: t)
      else
        let fin := decide (k = left)
        let part : IslPart := {
          cls := m.kind.cls, slots := k, start := if begun then none else some m, fin := fin, poison := fin && m.poison,
          body := slotData m (msgSlots m - left) k }
        if fin then
          let r := s.pack i (n - k) t
          (part :: r.1, r.2)
        else ([part], (m, left - k) :: t)

/-- The messages an ISL has to send, one that spans cells first: no other begins until it ends (R93). -/
def begunFirst (l : List (Msg × Nat)) : List (Msg × Nat) :=
  l.filter (fun x => x.2 != msgSlots x.1) ++ l.filter (fun x => x.2 == msgSlots x.1)

/-! #### Keys (R108, R109) -/

/-- A key set of a link's session: direction 0 sends, 1 receives; each generation replaces the set not in use (log entry 189). -/
def keySet (secret dir gen : Nat) : KeySet := { key := (Config.islKey secret dir gen).1, fixed := (Config.islKey secret dir gen).2 }

/-- The key set an ISL sends under, where protection is active. -/
def State.txKey (s : State) (i : Nat) : Option KeySet :=
  if s.bit (ISL_STAT_PROT_ACTIVE i) then some (keySet (s.islAt i).secret 0 (s.islAt i).txGen) else none

/-- The generation KS selects at the receiver: the one in use, or the next. -/
def Isl.rxPick (x : Isl) (ks : Bool) : Nat := if (x.rxGen % 2 == 1) == ks then x.rxGen else x.rxGen + 1

/-- The cell counter TXC extends to (R108): the first at or after the receiver's own count with these low 16 bits. -/
def Isl.counter (x : Isl) (txc : Nat) : Nat := x.rxc + (txc % 65536 + 65536 - x.rxc % 65536) % 65536

/-- The tag a received cell must carry. -/
def State.rxTag (s : State) (i : Nat) (c : IslCell) : Nat :=
  let x := s.islAt i
  cellTag c (keySet x.secret 1 (x.rxPick c.ks)) (x.counter c.txc)

/-- The cell header every cell carries, and the counters it advances: NAK is sent once, TXC counts, and the key set changes after 2^32 cells under
one key. -/
def State.sendCell (s : State) (i type sq : Nat) (rpl : Bool) (parts : List IslPart) : State :=
  let x := s.islAt i
  let c : IslCell := {
    type := type, rpl := rpl, nak := x.nakDue, ackValid := x.acked, ks := x.ks, seq := sq, ack := seq (s.fld (ISL_RX_SEQ_NEXT_RX i) + 4095),
    xoff := s.fld (ISL_FC_STAT_RX_OFF i), txc := x.txc % 65536, parts := parts }
  let prot := s.bit (ISL_STAT_PROT_ACTIVE i)
  let turn := prot && decide (x.keyCells + 1 = 2 ^ 32)
  let x1 := { x with
    nakDue := false, txc := (x.txc + 1) % 2 ^ 64, keyCells := if prot then (if turn then 0 else x.keyCells + 1) else 0,
    ks := if turn then ! x.ks else x.ks, txGen := if turn then x.txGen + 1 else x.txGen, sinceMark := x.sinceMark + 1 }
  let s1 := if x.nakDue then s.inc (ISL_ACK_ERR_NAK_TX i) else s
  let lanes := 2 ^ s.fld (PRT_LINK_STAT_WIDTH (s.cur (ISL_CFG_PORT i)))
  (s1.setIsl i x1).emit (.cell i c (scrambled lanes x.sinceMark (cellBlock c (s.txKey i) x.txc)))

/-- The next cell of an ISL: one of a replay, a new data cell, or an ack cell. -/
def State.islSend (s0 : State) (i : Nat) : State :=
  if 8 ≤ i ∨ (s0.islSt i ≠ 3 ∧ s0.islSt i ≠ 4) then s0
  else
    let s := s0.refreshOff i
    let x := s.islAt i
    let next := s.fld (ISL_SEQ_NEXT_TX i)
    match x.rpl with
    | some q =>
      let s1 := (s.tally (342 + i) 0x081 1).sendCell i 1 q x.rplFirst (mgetD x.rp q [])
      let q1 := seq (q + 1)
      if q1 = next then ((s1.setIsl i { s1.islAt i with rpl := none, rplFirst := false }).setBit (ISL_SEQ_REPLAYING i) false).refreshStall i
      else s1.setIsl i { s1.islAt i with rpl := some q1, rplFirst := false }
    | none =>
      if s.islSpan i = 1024 then (s.refreshStall i).sendCell i 0 0 false []
      else
        let r := s.pack i (s.islSlots i) (begunFirst x.tx)
        if r.1.isEmpty then s.sendCell i 0 0 false []
        else
          let s1 := (s.setIsl i { x with tx := r.2, rp := mput x.rp next r.1 }).setFld (ISL_SEQ_NEXT_TX i) (seq (next + 1))
          ((s1.tally (342 + i) 0x080 1).refreshStall i).sendCell i 1 next false r.1

def execIslCellSend (i : Nat) (s : State) : Host.Outcome State Fault Refusal := s.done (s.islSend i)

/-! ### Receiving (R92, R99 to R101, R106) -/

/-- A NAK is due for a discarded cell, unless one is unresolved (R100). -/
def State.wantNak (s : State) (i : Nat) : State :=
  if s.bit (ISL_RX_SEQ_NAK_PEND i) then s else (s.setIsl i { s.islAt i with nakDue := true }).setBit (ISL_RX_SEQ_NAK_PEND i) true

/-- A good cell's ACK (R101): outside the window it is ignored and counted; inside it releases cells, and a NAK starts a replay. -/
def State.takeAck (s : State) (i : Nat) (c : IslCell) : State :=
  if ! c.ackValid then s
  else
    let old := s.fld (ISL_SEQ_OLDEST i)
    let k := seqDist (seq (old + 4095)) c.ack
    if s.islSpan i < k then s.inc (ISL_ACK_ERR_ACK_BAD i)
    else
      let x := s.islAt i
      let new := seq (c.ack + 1)
      let kept := x.rp.filter (fun e => ! decide (seqDist old e.1 < k))
      let rpl := match x.rpl with
        | some q => if seqDist old q < k then (if kept.isEmpty then none else some new) else some q
        | none => none
      let x1 : Isl := { x with rp := kept, rpl := rpl, expiries := if k = 0 then x.expiries else 0, tried := x.tried && k == 0 }
      let s1 := ((s.setIsl i x1).setFld (ISL_SEQ_OLDEST i) new).setBit (ISL_SEQ_REPLAYING i) rpl.isSome
      let s2 := if c.nak then s1.startReplay i new else s1
      if s2.islSpan i < 1024 ∨ c.nak then s2.setBit (ISL_SEQ_STALL i) false else s2

/-- A part of an accepted cell moves into the switch; none where its class has no free slot (R106). Only management messages pass an ISL that
carries no group traffic (R427, R428). -/
def State.takePart (i : Nat) (o : Option State) (q : IslPart) : Option State :=
  match o with
  | none => none
  | some s =>
    let p := s.cur (ISL_CFG_PORT i)
    if s.rxSize i q.cls < s.rxUsed i q.cls + q.slots then none
    else match q.start with
      | some m0 =>
        let m := { m0 with src := p, cells := msgSlots m0, shr := 0, whole := q.fin, poison := q.fin && q.poison }
        let s1 := s.setIsl i { s.islAt i with rxOpen := if q.fin then none else some (m.dst, m.kind.cls), rxGot := if q.fin then 0 else q.slots }
        if m.dst = p ∨ 150 ≤ m.dst ∨ (m.kind ≠ .mgmt ∧ (s.islSt i ≠ 4 ∨ ! s.carries i)) then some s1 else some (s1.send m)
      | none =>
        if q.fin then match (s.islAt i).rxOpen with
          | some (dst, cls) => some ((s.setIsl i { s.islAt i with rxOpen := none, rxGot := 0 }).tail p dst cls q.poison)
          | none => some s
        else some (s.setIsl i { s.islAt i with rxGot := (s.islAt i).rxGot + q.slots })

/-- A good data cell (R99). -/
def State.takeData (s : State) (i : Nat) (c : IslCell) : State :=
  let next := s.fld (ISL_RX_SEQ_NEXT_RX i)
  let d := seqDist next c.seq
  if d = 0 then
    let s2 := ((s.setBit (ISL_RX_SEQ_NAK_PEND i) false).setFld (ISL_RX_SEQ_NEXT_RX i) (seq (next + 1))).setIsl i { s.islAt i with acked := true }
    match c.parts.foldl (State.takePart i) (some s2) with
    | some s3 => s3
    | none => (s2.setBit (ISL_FC_STAT_OVERRUN i) true).islFault i
  else if 3072 ≤ d then s.inc (ISL_LINK_ERR_DUP i)
  else s.wantNak i

/-- A cell that fails its FEC, CRC, type or tag check (R92, R110): counted and discarded whole; a failed tag takes the link down. -/
def State.corruptCell (s : State) (i : Nat) (tag : Bool) : State :=
  let s1 := s.inc (ISL_LINK_ERR_CORRUPT i)
  if tag then ((s1.setBit (ISL_STAT_INTEG_FAIL i) true).windowError i).islFault i
  else
    let x := s1.islAt i
    let s2 := ((s1.setIsl i { x with bad := x.bad + 1 }).wantNak i).windowError i
    if 8 ≤ x.bad + 1 then s2.islRecover i else s2

/-- A good cell (R99 to R101): its XOFF and ACK are used, a cell that begins a replay resolves an open NAK, and a data cell is classified. -/
def State.goodCell (s : State) (i : Nat) (c : IslCell) : State :=
  let x := s.islAt i
  let x1 := { x with
    bad := 0, silent := false, rxc := (x.counter c.txc + 1) % 2 ^ 64, rxGen := if s.bit (ISL_STAT_PROT_ACTIVE i) then x.rxPick c.ks else x.rxGen }
  let s1 := (s.setIsl i x1).setFld (ISL_FC_STAT_TX_OFF i) c.xoff
  let s2 := (if c.rpl then s1.setBit (ISL_RX_SEQ_NAK_PEND i) false else s1).takeAck i c
  let s3 := if c.type = 1 then s2.takeData i c else s2
  if s3.islSt i = 0 then s3 else s3.refreshOff i

/-- A received cell: `c` is the cell as its sender laid it out and protected it, `errs` the bytes that changed on the way with the bits that did, and `tag`
the content of slot 13 as its sender filled it. -/
def State.islReceive (s : State) (i : Nat) (c : IslCell) (errs : List (Nat × Nat)) (tag : Nat) : State :=
  if 8 ≤ i ∨ (s.islSt i ≠ 3 ∧ s.islSt i ≠ 4) then s
  else
    let s0 := s.addSat (ISL_FEC_CNT_CORR i) (fecFixed errs)
    if ! crcPasses (residual errs) ∨ 2 ≤ c.type then s0.corruptCell i false
    else if s0.bit (ISL_STAT_PROT_ACTIVE i) ∧ tag ≠ s0.rxTag i c then s0.corruptCell i true
    else s0.goodCell i c

def execIslCellReceived (i : Nat) (c : IslCell) (errs : List (Nat × Nat)) (tag : Nat) (s : State) : Host.Outcome State Fault Refusal :=
  s.done (s.islReceive i c errs tag)

/-- The replay timer expires (R102): a replay from OLDEST; after REPLAY_MAX expiries without progress Recovery, and after as many more link
down. It runs in Keying too, where management messages travel. -/
def State.islTimer (s : State) (i : Nat) : State :=
  let x := s.islAt i
  if 8 ≤ i ∨ x.rp.isEmpty ∨ (s.islSt i ≠ 3 ∧ s.islSt i ≠ 4) then s
  else
    let was := s.islSt i
    let s1 := ((s.setIsl i { x with expiries := x.expiries + 1 }).inc (ISL_REPLAY_STAT_TIMEOUT_CNT i)).windowError i
    if s1.islSt i ≠ was then s1
    else
      let s2 := s1.startReplay i (s1.fld (ISL_SEQ_OLDEST i))
      if x.expiries + 1 < s2.fld (ISL_REPLAY_CTL_REPLAY_MAX i) then s2
      else if x.tried then s2.islFail i
      else (s2.setIsl i { s2.islAt i with expiries := 0, tried := true }).islRecover i

def execIslReplayTimerExpiry (i : Nat) (s : State) : Host.Outcome State Fault Refusal := s.done (s.islTimer i)

/-- No good cell has come for four cell times: every class is Off until one does (R105). -/
def execIslRxSilence (i : Nat) (s : State) : Host.Outcome State Fault Refusal :=
  s.done (if 8 ≤ i ∨ s.islSt i < 3 then s else s.setIsl i { s.islAt i with silent := true })

/-! ### Markers (R94 to R96, R104, R427, R437) -/

/-- The identity digest of a peer, from its registers in force (R426): byte 0 first. -/
def State.peerDigest (s : State) (m : Nat) : Nat :=
  (List.range 12).foldr (fun k n => (s.curWord (GRP_PEER_DIG m k)).toNat + 2 ^ 32 * n) 0

/-- What an ISL's markers and keys say of its partner (R427): the peer it leads to, if any. -/
def State.identified (s : State) (i : Nat) (q : PeerSeen) : Bool :=
  s.curBit GRP_CFG_EN && q.group == s.cur GRP_CFG_GROUP && decide (q.member < 8) &&
    (! s.protWanted i || mget s.grp.proven i == some (s.peerDigest q.member))

/-- The partner of an ISL is known anew: the peer it leads to is noted, or its shared source raised (R427). -/
def State.notePeer (s : State) (i : Nat) : State :=
  match mget s.grp.seen i with
  | none => s
  | some q =>
    let s1 := (List.range 8).foldl (fun s m => s.setFld (GRP_PEER_ISLS m) (Nat.land (s.fld (GRP_PEER_ISLS m)) (255 - 2 ^ i))) s
    if s.identified i q then
      (s1.setFld (GRP_PEER_ISLS q.member) (s1.fld (GRP_PEER_ISLS q.member) + 2 ^ i)).setFld (GRP_PEER_EP_EPOCH_SEEN q.member) q.epoch
    else s1.raiseShared (288 + i)

/-- This member yields to a higher epoch (R437): accepted group-wide commits that are not frozen are cancelled with the state status. While one is frozen
the yield waits for its Daybreak (Table 20-4 case 5). -/
def State.yieldTo (s : State) (epoch : Nat) : State :=
  if epoch ≤ s.fld GRP_EPOCH_EPOCH ∨ s.due.any (fun d => d.group && d.frozen) then s
  else (s.setBit GRP_STAT_YIELD true).cancelAll (fun d => d.group && ! d.frozen) .state

/-- At a Daybreak, once its commits are in force, this member yields to each higher epoch it has seen (Table 20-4 case 5). -/
def State.yieldDue (s : State) : State :=
  s.grp.seen.foldl (fun s e => if s.identified e.1 e.2 then s.yieldTo e.2.epoch else s) s

/-- The identity a marker carries is taken over. -/
def State.markerId (s : State) (i : Nat) (m : IslMarker) : State :=
  let q : PeerSeen := { group := m.group, member := m.member, epoch := m.epoch }
  if mget s.grp.seen i = some q then s
  else
    let s1 := State.notePeer { s with grp.seen := mput s.grp.seen i q } i
    if s1.identified i q then s1.yieldTo q.epoch else s1

/-- The round trip a marker measures (R96), and what follows: in Aligning the largest is kept, later one beyond RTT_USED means Recovery (R104). -/
def State.markerRtt (s : State) (i : Nat) (m : IslMarker) : State :=
  match m.echo with
  | none => s
  | some (f, hold) =>
    let x := s.islAt i
    match mget x.sentAt f with
    | none => s
    | some t1 =>
      let rtt := s.now - t1 - hold
      let s1 := s.setFld (ISL_RTT_RTT_LAST i) (min rtt 65535)
      if s.islSt i = 2 then s1.setIsl i { x with rttMax := max x.rttMax rtt, marks := x.marks + 1 }
      else if s1.fld (ISL_RTT_RTT_USED i) < rtt then s1.islRecover i
      else s1

/-- A marker is missing (R95): two in a row lose block lock, and the link enters Recovery. -/
def State.markerMissing (s : State) (i : Nat) : State :=
  if 8 ≤ i ∨ ! s.bit (ISL_STAT_BLOCK_LOCK i) then s
  else
    let x := s.islAt i
    let s1 := s.setIsl i { x with miss := x.miss + 1 }
    if 2 ≤ x.miss + 1 then s1.islRecover i else s1

def execIslMarkerMissing (i : Nat) (s : State) : Host.Outcome State Fault Refusal := s.done (s.markerMissing i)

/-- At a Daybreak each ISL whose link is in L0 sends its marker (R94, Table 2-2 order 12); when it leaves within a cell time of the Daybreak is
free. -/
def State.sendMarker (s : State) (i : Nat) : State :=
  if s.islSt i < 2 ∨ s.islSt i = 5 then s
  else
    let v := s.draw
    let ofs := v.1 % (s.cellTime i + 1)
    let x := v.2.islAt i
    let m : IslMarker := {
      frame := s.time.frame, txOfs := ofs, echo := x.lastMark.map (fun e => (e.1, s.now + ofs - e.2)), txc := x.txc,
      group := s.cur GRP_CFG_GROUP, member := s.cur GRP_CFG_MEMBER, epoch := s.fld GRP_EPOCH_EPOCH }
    (v.2.setIsl i { x with sinceMark := 0, sentAt := (mput x.sentAt s.time.frame (s.now + ofs)).filter (fun e => decide (s.time.frame < e.1 + 64)) }).emit (.marker i m)

/-- The markers of a Daybreak. -/
def State.sendMarkers (s : State) : State := (List.range 8).foldl State.sendMarker s

/-- Error-rate windows that begin at this Daybreak (R111). -/
def State.newWindows (s : State) : State :=
  (List.range 8).foldl (fun s i => if s.time.frame % 2 ^ s.fld (ISL_ERR_WIN_WIN i) = 0 then s.setFld (ISL_ERR_WIN_CUR i) 0 else s) s

/-! ### Link states (Table 5-1) -/

/-- The link becomes Active. -/
def State.islActive (s : State) (i : Nat) : State :=
  (s.setFld (ISL_STAT_STATE i) 4).setIsl i { s.islAt i with downAt := s.now }

/-- Aligning is over after 16 markers (R95, R103, R104, R106): RTT_USED and the headroom are fixed; a short buffer holds the link in Aligning;
otherwise it enters Keying, or Active without protection. -/
def State.aligned (s : State) (i : Nat) : State :=
  let x := s.islAt i
  if 8 ≤ i ∨ s.islSt i ≠ 2 ∨ ! s.bit (ISL_STAT_BLOCK_LOCK i) ∨ x.marks < 16 then s
  else
    let used := x.rttMax + 16
    let h := s.headroom i used (s.slotsWanted i)
    let short := s.shortBuf i h
    let s1 := ((s.setFld (ISL_RTT_RTT_USED i) used).setFld (ISL_FC_STAT_HEADROOM i) h).setBit (ISL_STAT_SHORT i) short
    if short then (if s.bit (ISL_STAT_SHORT i) then s1 else s1.raiseShared (288 + i))
    else if s.protWanted i then
      ((s1.setFld (ISL_STAT_STATE i) 3).setBit (ISL_STAT_PROT_ACTIVE i) false).setIsl i { s1.islAt i with downAt := s1.now }
    else s1.islActive i

def execIslAligningDone (i : Nat) (s : State) : Host.Outcome State Fault Refusal := s.done (s.aligned i)

/-- Keying completes (R109): the partner's identity digest is proven, the key sets of the session are installed, and the link is Active. The session's
secret is free. -/
def State.keyed (s : State) (i digest : Nat) : State :=
  if 8 ≤ i ∨ s.islSt i ≠ 3 then s
  else
    let v := s.draw
    let s1 : State := { v.2 with grp.proven := mput v.2.grp.proven i digest }
    let s2 := ((s1.setIsl i { s1.islAt i with keyCells := 0, ks := false, secret := v.1, txGen := 0, rxGen := 0 }).setBit (ISL_STAT_PROT_ACTIVE i) true).islActive i
    let s3 := s2.notePeer i
    match mget s3.grp.seen i with
    | some q => if s3.identified i q then s3.yieldTo q.epoch else s3
    | none => s3

def execIslKeyingDone (i digest : Nat) (s : State) : Host.Outcome State Fault Refusal := s.done (s.keyed i digest)

/-- Keying has not completed within 1 s (R109). -/
def execIslKeyingTimeout (i : Nat) (s : State) : Host.Outcome State Fault Refusal :=
  s.done (if i < 8 ∧ s.islSt i = 3 ∧ (s.islAt i).downAt + 1000000000 ≤ s.now then s.islFail i else s)

/-- Recovery has not returned to L0 within 24 ms (R112). -/
def execIslRecoveryTimeout (i : Nat) (s : State) : Host.Outcome State Fault Refusal :=
  s.done (if i < 8 ∧ s.islSt i = 5 ∧ (s.islAt i).downAt + 24000000 ≤ s.now then s.islFail i else s)

/-- Training starts again 1 ms after Down was entered, unless the link is disabled (Table 5-1). -/
def execIslTrainingRestart (i : Nat) (s : State) : Host.Outcome State Fault Refusal :=
  s.done (if i < 8 ∧ s.islSt i = 0 ∧ s.curBit (ISL_CFG_EN i) ∧ ! s.bit (PRT_LINK_CTL_LINK_DIS (s.cur (ISL_CFG_PORT i))) ∧
      (s.islAt i).downAt + 1000000 ≤ s.now then s.setFld (ISL_STAT_STATE i) 1 else s)

/-- A commit has changed an ISL: one that is disabled, or bound to another port, goes down with the port it had (R112); SHORT follows the buffers (R106). -/
def State.islChanged (was s : State) (i : Nat) : State :=
  let p := was.cur (ISL_CFG_PORT i)
  if s.islSt i ≠ 0 ∧ (! s.curBit (ISL_CFG_EN i) ∨ s.cur (ISL_CFG_PORT i) ≠ p) then (s.declareDown p).islDown i
  else if s.fld (ISL_FC_STAT_HEADROOM i) = 0 then s
  else s.setBit (ISL_STAT_SHORT i) (s.shortBuf i (s.fld (ISL_FC_STAT_HEADROOM i)))

/-- A commit has changed ISLs. -/
def State.islApplied (s was : State) : State := (List.range 8).foldl (State.islChanged was) s

end Sys2Proof.Machine
end

