-- ==== Sys2Proof/Machine/Group.lean ====
section
/-! DEFINITION. Fabric groups (chapter 20): membership, region lists, reachability and the remote table, fence tokens, and home transfers. -/
namespace Sys2Proof.Machine
open Sys2Proof

/-! ### Membership (R426) -/

/-- Stages one peer: whether it is a member, and its digest. -/
def State.stagePeer (s : State) (m : Nat) (digest : Option Nat) : State :=
  let s1 := s.stageWord (GRP_PEER m) (if digest.isSome then 1 else 0)
  (List.range 12).foldl (fun s k => s.stageWord (GRP_PEER_DIG m k) (BitVec.ofNat 32 (digest.getD 0 / 2 ^ (32 * k)))) s1

/-- Opcode 0x0E00: stages group, member and peers (member number and digest); the group is enabled when a peer is named (log entry 40). -/
def execGroupMembership (rq : Rq) (group member : Nat) (peers : List (Nat × Nat)) (s : State) : Host.Outcome State Fault Refusal :=
  s.done (xib 0x0E00 rq (.groupMembership rq group member peers) s fun _ s =>
    s.staging rq fun s =>
      if 65535 < group ∨ 7 < member ∨ peers.any (fun x => decide (7 < x.1)) then s.refuse .parameter
      else
        let s1 := s.stageWord GRP_CFG (BitVec.ofNat 32 (group + member * 2 ^ 16 + (if peers.isEmpty then 0 else 2 ^ 19)))
        State.okNow ((List.range 8).foldl (fun s m => s.stagePeer m ((peers.find? (fun x => x.1 == m)).map (fun x => x.2))) s1))

/-! ### Region lists (R430) -/

/-- The regions whose home is this switch, as its list gives them; one being deleted is among them until its delete takes effect (R430). -/
def State.ownList (s : State) : List RemRegion :=
  s.bnd.regions.map (fun e => { id := e.1, tenant := e.2.tenant, cls := e.2.cls, size := e.2.size, ttBase := e.2.ttBase })

/-- Sends this member's region list to a peer (R430): management message 0. -/
def State.sendList (s : State) (m : Nat) : State :=
  s.emit (.peer 0 m (s.ownList.flatMap (fun r => [r.id, r.tenant, r.cls, r.size, r.ttBase])))

/-- The peers that are reachable (GRP_STAT.REACH). -/
def State.reachable (s : State) : List Nat := (List.range 8).filter s.reach

/-- Sends the list to every reachable peer, at a change. -/
def State.sendLists (s : State) : State := s.reachable.foldl State.sendList s

/-- A peer's region list arrives: a copy is kept. `sameMap` says whether its host-slot map is this switch's; a difference sets MAPDIFF (R430). The
list of an expelled peer is not kept (R436). -/
def State.takeList (s : State) (m : Nat) (l : List RemRegion) (sameMap : Bool) : State :=
  if 8 ≤ m ∨ bitOn (s.fld GRP_STAT_EXPEL) m ∨ ! s.curBit (GRP_PEER_VALID m) then s
  else
    let s1 : State := { s with grp.lists := mputD s.grp.lists m [] l }
    if sameMap then { s1 with grp.mapDiff := sdel s1.grp.mapDiff m }
    else ({ s1 with grp.mapDiff := sadd s1.grp.mapDiff m } : State).setBit GRP_STAT_MAPDIFF true

def execRegionListReceived (m : Nat) (l : List RemRegion) (sameMap : Bool) (s : State) : Host.Outcome State Fault Refusal := s.done (s.takeList m l sameMap)

/-! ### Reachability (R428, R433) -/

/-- Whether some ISL carries group traffic to a peer. -/
def State.carriedTo (s : State) (m : Nat) : Bool :=
  (List.range 8).any (fun i => s.peerOf i == some m && s.carries i)

/-- Sets the reachability of a peer. -/
def State.setReach (s : State) (m : Nat) (on : Bool) : State :=
  let r := s.fld GRP_STAT_REACH
  let r1 := if bitOn r m then r - 2 ^ m else r
  (s.setFld GRP_STAT_REACH (if on then r1 + 2 ^ m else r1)).setBit (GRP_PEER_REACH m) on

/-- A peer stops being reachable (R433): the queues of its ISLs are flushed under R134. -/
def State.unreachable (s : State) (m : Nat) : State :=
  if 8 ≤ m ∨ ! s.reach m ∨ s.carriedTo m then s
  else
    let s1 := s.setReach m false
    let ports := ((List.range 8).filter (fun i => s1.peerOf i == some m)).map (fun i => s1.cur (ISL_CFG_PORT i))
    let s2 := ports.foldl (fun s p => (s.setBit (XBR_PSTAT_FLUSHING p) true).flushPort p) s1
    State.runAll { s2 with grp.pairs := s2.grp.pairs.filter (fun e => e.1 % 65536 != m) }

def execPeerUnreachable (m : Nat) (s : State) : Host.Outcome State Fault Refusal := s.done (s.unreachable m)

/-- The requests held for a peer are sent in order (R433). -/
def State.sendHeld (s : State) (m : Nat) : State :=
  let l := s.grp.held.filter (fun h => h.member == m)
  l.foldl (fun s h => s.toPeer m h.req) { s with grp.held := s.grp.held.filter (fun h => h.member != m) }

/-- The commit message of a transfer (R439): record and root. -/
def State.sendCommit (s : State) (x : Xfer) : State :=
  s.emit (.peer 2 x.peer ([x.region, x.rec_.tenant, x.rec_.cls, x.rec_.size, x.rec_.ttBase] ++ (mgetD s.sec.roots x.region []).flatMap (fun e => [e.1, e.2])))

/-- A peer becomes reachable (R428, R433, R440): lists are exchanged, held requests are sent, and unconfirmed commit messages go again. -/
def State.nowReachable (s : State) (m : Nat) : State :=
  if 8 ≤ m ∨ s.reach m ∨ ! s.carriedTo m then s
  else
    let s1 := (((s.setReach m true).sendList m).sendHeld m)
    (s1.grp.xfers.filter (fun x => x.peer == m && x.phase == .committed && decide (x.at_ ≤ s1.time.frame))).foldl State.sendCommit s1

def execPeerReachable (m : Nat) (s : State) : Host.Outcome State Fault Refusal := s.done (s.nowReachable m)

/-- Requests held longer than HOM_CFG.TMO frames complete poisoned or discarded under code 0x07 (R433). -/
def State.heldTimeouts (s : State) : State :=
  let late := fun (h : Held) => decide (h.since + s.cur HOM_CFG_TMO < s.time.frame)
  let l := s.grp.held.filter late
  l.foldl (fun s h => s.remoteFail h.req 7) { s with grp.held := s.grp.held.filter (fun h => ! late h) }

def execRemoteRequestTimeout (s : State) : Host.Outcome State Fault Refusal := s.done s.heldTimeouts

/-! ### Home transfers (R439, R440) -/

/-- Opcode 0x0E02. `keyOk` says whether the peer's key slot for the region's tenant is Established. -/
def execTransferHome (rq : Rq) (region peer at_ : Nat) (keyOk : Bool) (s : State) : Host.Outcome State Fault Refusal :=
  s.done (xib 0x0E02 rq (.transferHome rq region peer at_ keyOk) s fun p s =>
    if s.bit GRP_STAT_YIELD then s.refuse .state
    else match mget s.bnd.regions region with
      | none => s.refuse .parameter
      | some r =>
        if 8 ≤ peer ∨ ! s.curBit (GRP_PEER_VALID peer) ∨ (s.namedRefusal at_).isSome ∨ (r.cls ≠ 0 ∧ ! keyOk) then s.refuse .parameter
        else if r.deleting then s.refuse .state
        else if s.lcSlots = [] ∨ s.grp.xfers.any (fun x => x.region == region) then s.refuse .busy
        else
          let h := s.lcStart 0x0E02 (rqRef rq 0x0E02) p (routeTargetOf rq.route rq.carrier)
          let x : Xfer := { region := region, peer := peer, at_ := at_, handle := h.1, sweep := false, ready := false, phase := .copy, rec_ := r }
          (({ h.2 with grp.xfers := h.2.grp.xfers ++ [x] } : State).emit (.peer 1 peer [region, at_])).long at_ h.1)

/-- The peer's ready message (R439): sweep and copy are done. -/
def State.xferReady (s : State) (region peer : Nat) : State :=
  { s with grp.xfers := s.grp.xfers.map (fun x => if x.region = region ∧ x.peer = peer then { x with ready := true } else x) }

def execTransferReadyReceived (region peer : Nat) (s : State) : Host.Outcome State Fault Refusal := s.done (s.xferReady region peer)

/-- The lines of a region that hosts hold. -/
def State.xferHeld (s : State) (x : Xfer) : List (Nat × DirEnt) := s.home.dir.filter (fun e => s.xferLine x e.1)

/-- The home back-invalidates the lines of a region that hosts hold (R439), on its reserved entries; what finds none goes at the next Daybreak. -/
def State.xferSweep (s : State) (x : Xfer) : State :=
  ((s.xferHeld x).flatMap (fun e => e.2.slots.map (fun k => (e.1, k)))).foldl (fun s e =>
    let sl := sliceOf e.1
    if 256 ≤ s.rsvEntries sl ∨ (s.tts sl).any (fun t => t.line == e.1 && t.work == .sweep e.2) then s
    else
      let busy := s.lineBusy sl e.1
      let a := s.addTt sl e.1 (.sweep e.2)
      if busy then a.2 else (match a.2.ttOf sl a.1 with
        | some t => (a.2.putTt sl { t with since := s.time.frame, phase := .active }).process sl a.1
        | none => a.2)) s

/-- A transfer is aborted (R439, R441): writes that waited go on at the home. -/
def State.abortXfer (s : State) (x : Xfer) (st : Status) : State :=
  let s1 := (({ s with grp.xfers := s.grp.xfers.filter (fun y => y.region != x.region) } : State).inc GRP_XFER_ABORTED).lcEnd x.handle st
  ((List.range x.rec_.size).foldl (fun s k => s.resumeWrites (x.rec_.ttBase + k)) s1)

/-- At Dusk of frame N − 1 a transfer is committed or aborted (Table 20-3, commit point). -/
def State.xfersDusk (s : State) : State :=
  s.grp.xfers.foldl (fun s x =>
    if x.at_ ≠ s.nextFrame ∨ (x.phase ≠ .transfer ∧ x.phase ≠ .copy) then s
    else if x.phase = .transfer ∧ x.ready ∧ (s.xferHeld x).isEmpty ∧ s.carriedTo x.peer then
      ({ s with grp.xfers := s.grp.xfers.map (fun y => if y.region = x.region then { y with phase := .committed } else y) } : State).lcPast x.handle
    else s.abortXfer x .aborted) s

/-- The home's open transactions of a region's lines go to the new home, the waiting writes first, each in order (Table 20-3). -/
def State.forwardHome (s : State) (x : Xfer) : State :=
  let mine := s.home.tt.flatMap (fun e => (e.2.filter (fun t => s.xferLine x t.line && ! t.rd && ! t.wrPend)).map (fun t => (e.1, t)))
  (mine.filter (fun e => e.2.hold) ++ mine.filter (fun e => ! e.2.hold)).foldl (fun s e => match e.2.work with
    | .req r => (s.delTt e.1 e.2.id).toPeer x.peer r
    | _ => s.delTt e.1 e.2.id) s

/-- Handover at the Daybreak of frame N (Table 20-3): the region is the peer's, waiting requests are forwarded, and the commit message, the new home
and the changed list are sent. -/
def State.handover (s : State) (x : Xfer) : State :=
  let g : RemRegion := { id := x.region, tenant := x.rec_.tenant, cls := x.rec_.cls, size := x.rec_.size, ttBase := x.rec_.ttBase }
  let s1 : State := { s with
    bnd.regions := mdel s.bnd.regions x.region, grp.lists := mput s.grp.lists x.peer (mgetD s.grp.lists x.peer [] ++ [g]) }
  let s2 := (s1.forwardHome x).sendCommit x
  State.sendLists (s2.reachable.foldl (fun s m => s.emit (.peer 3 m [x.region, x.peer])) s2)

/-- The peer's confirmation of the commit message (R440): it is not sent again. -/
def State.xferConfirm (s : State) (region peer : Nat) : State :=
  { s with grp.xfers := s.grp.xfers.map (fun x => if x.region = region ∧ x.peer = peer ∧ x.phase = .committed then { x with phase := .confirmed } else x) }

def execTransferConfirmReceived (region peer : Nat) (s : State) : Host.Outcome State Fault Refusal := s.done (s.xferConfirm region peer)

/-- The new home serves: the old home scrubs and frees the source parcels, and the command completes (Table 20-3). -/
def State.xferDone (s : State) (x : Xfer) : State :=
  let idx := (mkeys s.bnd.tt).filter (fun i => decide (x.rec_.ttBase ≤ i) && decide (i < x.rec_.ttBase + x.rec_.size))
  let s1 := idx.foldl (fun s i =>
    let e := s.ttEntry i
    (if e.valid then s.freePpi e.pool e.ppi (x.rec_.cls == 2) else s).setTt i { valid := false, moving := false, pool := 0, ppi := 0, gen := (e.gen + 1) % 65536 }) s
  let s2 : State := { s1 with
    grp.xfers := s1.grp.xfers.filter (fun y => y.region != x.region), sec.roots := mdel s1.sec.roots x.region, sec.integ := mdel s1.sec.integ x.region,
    sec.leaves := s1.sec.leaves.filter (fun l => l.1 / 2 ^ 34 != x.region), sec.macs := s1.sec.macs.filter (fun l => l.1 / 2 ^ 34 != x.region), sec.nodes := s1.sec.nodes.filter (fun n => n.1 / 2 ^ 40 % 2 ^ 20 != x.region) }
  (s2.inc GRP_XFER_DONE).lcEnd x.handle .success

/-- What a Daybreak does to transfers: a sweep begins or goes on, a transfer frame opens, a committed transfer is handed over, and a confirmed one
completes (Table 20-3). The copy itself is the peer's, so the Daybreak at which it has come far enough for the sweep is free (log entry 41). -/
def State.xfersDaybreak (s : State) : State :=
  s.grp.xfers.foldl (fun s x =>
    let set := fun (s : State) (y : Xfer) => ({ s with grp.xfers := s.grp.xfers.map (fun z => if z.region = y.region then y else z) } : State)
    match x.phase with
    | .copy =>
      let b := s.draw
      let s := b.2
      let y := { x with sweep := x.sweep || x.ready || b.1 % 2 == 1, phase := if x.at_ = s.time.frame + 1 then XPhase.transfer else .copy }
      if y.sweep then (set s y).xferSweep y else set s y
    | .transfer => s
    | .committed => if x.at_ = s.time.frame then s.handover x else s
    | .confirmed => s.xferDone x) s

/-- The transfer commit message reaches this switch as the new home (R440): it serves the region from the next Daybreak, and confirms. A region
already taken over is confirmed again; one from an expelled member is not taken. -/
def State.takeCommit (s : State) (m : Nat) (r : RemRegion) (treePool treeUnit : Nat) (releaseFree : Bool) (root : List (Nat × Nat))
    (entries : List (Nat × Nat × Nat)) (leaves : List (Nat × Nat × List (Nat × Nat))) (nodes : List (Nat × List (Nat × Nat))) (macs : List (Nat × Nat)) : State :=
  if 8 ≤ m ∨ bitOn (s.fld GRP_STAT_EXPEL) m then s
  else
    let s1 := s.emit (.peer 4 m [r.id])
    if (mget s.bnd.regions r.id).isSome ∨ s.grp.incoming.any (fun x => x.id == r.id) then s1
    else
      let rec1 : Region := {
        tenant := r.tenant, cls := r.cls, size := r.size, ttBase := r.ttBase, treePool := treePool, treeUnit := treeUnit,
        treeUnits := if r.cls = 2 ∧ 4 ≤ treeLevels r.size then treeUnitsFor r.size else 0, releaseFree := releaseFree, deleting := false, delHandle := none }
      let x : Incoming := { id := r.id, peer := m, rec_ := rec1, root := root, entries := entries, leaves := leaves, nodes := nodes, macs := macs }
      { s1 with grp.incoming := s1.grp.incoming ++ [x] }

def execCommitMessageReceived (m : Nat) (r : RemRegion) (treePool treeUnit : Nat) (releaseFree : Bool) (root : List (Nat × Nat))
    (entries : List (Nat × Nat × Nat)) (leaves : List (Nat × Nat × List (Nat × Nat))) (nodes : List (Nat × List (Nat × Nat))) (macs : List (Nat × Nat)) (s : State) :
    Host.Outcome State Fault Refusal :=
  s.done (s.takeCommit m r treePool treeUnit releaseFree root entries leaves nodes macs)

/-- At a Daybreak the homes that have arrived serve their regions (Table 20-3, new home). -/
def State.takeHomes (s : State) : State :=
  if s.grp.incoming.isEmpty then s
  else
    let s1 := s.grp.incoming.foldl (fun s x =>
      let s1 : State := { s with
        grp.lists := mputD s.grp.lists x.peer [] ((mgetD s.grp.lists x.peer []).filter (fun r => r.id != x.id)),
        bnd.regions := mput s.bnd.regions x.id x.rec_, sec.roots := mputD s.sec.roots x.id [] x.root,
        sec.leaves := x.leaves.foldl (fun m l => mput m l.1 { major := l.2.1, minors := l.2.2 }) s.sec.leaves,
        sec.macs := x.macs.foldl (fun m l => mput m l.1 { run := some l.2 }) s.sec.macs,
        sec.nodes := x.nodes.foldl (fun m n => mput m n.1 { counters := n.2 }) s.sec.nodes }
      x.entries.foldl (fun s e =>
        (s.setTt (x.rec_.ttBase + e.1) { valid := true, moving := false, pool := e.2.1, ppi := e.2.2, gen := ((s.ttEntry (x.rec_.ttBase + e.1)).gen + 1) % 65536 }).setAlloc e.2.1 e.2.2 true) s1) s
    State.sendLists { s1 with grp.incoming := [] }

/-! ### Fence tokens (R435 to R437) -/

/-- The highest epoch in force or accepted. -/
def State.epochAhead (s : State) : Nat :=
  s.due.foldl (fun n d => match d.act with
    | .fence e _ => max n e
    | _ => n) (s.fld GRP_EPOCH_EPOCH)

/-- Whether a fence token passes every check of R435. -/
def State.fenceOk (s : State) (t : FenceTok) : Bool :=
  t.type == 0x20 && t.version == 1 && s.curBit GRP_CFG_EN && t.group == s.cur GRP_CFG_GROUP && t.member == s.cur GRP_CFG_MEMBER &&
    t.device == s.ident.digest && mget s.ident.nonces 0x20 == some t.nonce && t.sigOk && t.signer != 0 && s.ident.fmKeys.contains t.signer &&
    decide (s.epochAhead < t.epoch) && ! bitOn t.expel (s.cur GRP_CFG_MEMBER) && t.resvZero

/-- Opcode 0x0E01 (R435, R436): an accepted token takes effect at its Daybreak; a failed check consumes the nonce and counts. -/
def execFenceToken (rq : Rq) (tok : FenceTok) (s : State) : Host.Outcome State Fault Refusal :=
  s.done (xib 0x0E01 rq (.fenceToken rq tok) s fun _ s =>
    let s1 : State := { s with ident.nonces := mdel s.ident.nonces 0x20 }
    if s.fenceOk tok then ((s1.inc GLB_TOK_STAT_TOK_OK).submit (some (rqRef rq 0x0E01)) (.fence tok.epoch tok.expel)).okAt s.effFrame
    else (s1.inc GLB_TOK_STAT_TOK_REJ).refuse .token)

/-- What expelling a member does (R436, Table 20-4 cases 1 and 2). A region whose commit message it has sent is served here all the same (R440). -/
def State.expel (s : State) (m : Nat) : State :=
  let hit := s.grp.held.filter (fun h => h.member == m)
  let s1 : State := { s with grp.lists := mdel s.grp.lists m, grp.held := s.grp.held.filter (fun h => h.member != m) }
  let s2 := hit.foldl (fun s h => s.remoteFail h.req 2) s1
  let s3 := ((List.range 64).filter (fun k => s2.curBit (HOM_HOST_MAP_VALID k) && s2.cur (HOM_HOST_MAP_MEMBER k) == m)).foldl (fun s k => s.drainSlot k false) s2
  let s4 := (s3.grp.xfers.filter (fun x => x.peer == m)).foldl (fun s x =>
    if x.phase = .copy ∨ x.phase = .transfer then s.abortXfer x .aborted
    else ({ s with grp.xfers := s.grp.xfers.filter (fun y => y.region != x.region) } : State).lcEnd x.handle .failed) s3
  s4.runAll

/-- A fence token takes effect (R436, R437): epoch and expel set are replaced; the yield ends once the epoch reaches every epoch seen. -/
def State.applyFence (s : State) (epoch expel : Nat) : State :=
  let s1 := (s.setFld GRP_EPOCH_EPOCH epoch).setFld GRP_STAT_EXPEL expel
  let s2 := (bitsOn expel 8).foldl State.expel s1
  let ahead := s2.grp.seen.any (fun e => s2.identified e.1 e.2 && decide (epoch < e.2.epoch))
  s2.setBit GRP_STAT_YIELD (s2.bit GRP_STAT_YIELD && ahead)

end Sys2Proof.Machine
end

