-- ==== Sys2Proof/Machine/Align.lean ====
section
/-! DEFINITION. Alignment across switches (R43 to R46, Table 2-3): a follower's lock, the edges it takes from SYNC_IN, and the markers an
inter-switch link receives. -/
namespace Sys2Proof.Machine
open Sys2Proof

/-- A follower returns to Unlocked (R45); it free-runs. -/
def State.toUnlocked (s : State) : State := { s with time.sync := {} }

/-- The action of FRM_SYNC_CTL.REARM. -/
def State.rearm (s : State) : State := if s.fld FRM_SYNC_CTL_ROLE = 2 then s.toUnlocked else s

/-- A number of ns in eight bits two's complement, saturating at ±127 (FRM_SYNC_STAT.PHASE_ERR). -/
def phaseCode (e : Int) : Nat := ((max (-127) (min 127 e)) % 256).toNat

/-- The correction of the next frame for a phase error: one tick longer when the edge came after the own Daybreak, one shorter when it
came before (R44). -/
def corrOf (e : Int) : Int := if e ≥ 1 then 1 else if e ≤ -1 then -1 else 0

/-- An own Daybreak: the frame it opens, its tick since the last cold reset, and the length of the frame it ends. -/
structure OwnDay where
  frame : Nat
  tick : Nat
  len : Nat
  deriving DecidableEq, Repr

/-- The own Daybreaks an edge can belong to: the next one, and those the starts of past frames tell of, latest first. -/
def State.ownDays (s : State) : List OwnDay :=
  let nominal := frameTicks s.time.lenCode
  { frame := s.time.frame + 1, tick := s.time.t0 + s.time.len, len := s.time.len } ::
    (s.time.starts.zipIdx.map (fun e =>
      { frame := s.time.frame - e.2, tick := e.1, len := match s.time.starts[e.2 + 1]? with
          | some t => e.1 - t
          | none => nominal }))

/-- How far an own Daybreak lies from an instant. -/
def OwnDay.away (d : OwnDay) (t : Int) : Nat := (t - d.tick).natAbs

/-- The own Daybreak nearest to an instant: an edge is held against it (R44). -/
def State.nearestDay (s : State) (t : Int) : OwnDay :=
  s.ownDays.foldl (fun b d => if d.away t < b.away t then d else b) { frame := s.time.frame + 1, tick := s.time.t0 + s.time.len, len := s.time.len }

/-- Entry to Lost or Mismatch: an event, and LOST_CNT rises (R45). Mismatch behaves as Lost and sets MISMATCH. -/
def State.enterLost (s : State) (p : SyncPhase) : State :=
  let s1 : State := { s.inc FRM_SYNC_STAT_LOST_CNT with time := { s.time with sync := { phase := p, good := 0, bad := 0, missed := 0 }, corr := 0 } }
  s1.keepClock ((if p = .mismatch then s1.setBit FRM_SYNC_STAT_MISMATCH true else s1).raiseShared 296)

/-- Four consecutive edges within ±8 ns lock the follower (R45). -/
def State.countGood (s : State) (inside : Bool) : State :=
  let g := if inside then s.time.sync.good + 1 else 0
  if 4 ≤ g then { s with time.sync := { phase := .locked, good := 0, bad := 0, missed := 0 } }
  else { s with time.sync := { s.time.sync with good := g, missed := 0 } }

/-! ### Adopting a frame number (R45) -/

/-- A frame number moved with the count it was taken from. -/
def movedBy (d : Int) (n : Nat) : Nat := ((n : Int) + d).toNat

/-- What waits for a Daybreak, or since one, by the own count keeps its distance when the count is adopted anew (log entry 173). -/
def State.shiftFrames (s : State) (d : Int) : State :=
  let mv := movedBy d
  { s with
    due := s.due.map (fun x => { x with eff := mv x.eff }),
    md.modeReq := s.md.modeReq.map (fun r => { r with eff := mv r.eff }), md.pwrReq := s.md.pwrReq.map (fun r => { r with eff := mv r.eff }),
    md.mrstAt := mv s.md.mrstAt,
    ident.due := s.ident.due.map (fun x => { x with eff := mv x.eff }), ident.lockDue := s.ident.lockDue.map (fun x => (x.1, mv x.2)),
    twl.act := s.twl.act.map (fun a => { a with due := a.due.map mv }),
    oxb.moves := s.oxb.moves.map (fun e => (e.1, { e.2 with abort := e.2.abort.map (fun x => (x.1, mv x.2)) })),
    grp.xfers := s.grp.xfers.map (fun x => { x with at_ := mv x.at_ }), grp.held := s.grp.held.map (fun h => { h with since := mv h.since }),
    home.tt := s.home.tt.map (fun e => (e.1, e.2.map (fun t => { t with since := mv t.since }))),
    brg.acc := s.brg.acc.map (fun a => { a with since := mv a.since }), brg.flush := s.brg.flush.map (fun a => { a with since := mv a.since }),
    brg.lines := s.brg.lines.map (fun l => { l with frame := mv l.frame }),
    brg.lock := s.brg.lock.map (fun e => (e.1, { e.2 with since := mv e.2.since })),
    brg.win := s.brg.win.map (fun e => (e.1, { e.2 with mirLast := e.2.mirLast.map mv })) }

/-- Home transfers that name a frame still to come and are not past their commit point end with the aligned-state status (R45). -/
def State.cancelXfers (s : State) : State :=
  (s.grp.xfers.filter (fun x => x.phase == .copy || x.phase == .transfer)).foldl (fun s x => s.abortXfer x .alignedState) s

/-- Initial lock (R45): the frame number is adopted once, every pending action that names a future frame is cancelled and its issuer
told, within the Dusk window too (log entry 174), and an event is raised. `n` is the number of the Daybreak the edge marks, `near` the number of the
own Daybreak it is held against; the edge itself is not one of the four that lock (log entry 174). -/
def State.initialLock (s : State) (n near : Nat) : State :=
  let f := n + s.time.frame - near
  let s1 := (s.cancelAll (fun d => d.named) .alignedState).cancelXfers
  let s2 : State := { s1.shiftFrames ((f : Int) - (s.time.frame : Int)) with
    time := { s.time with frame := f, corr := 0, sync := { phase := .initial, good := 0, bad := 0, missed := 0 } } }
  s2.keepClock (s2.raiseShared 296)

/-! ### Edges (R44, R45) -/

/-- A received Daybreak edge (R44, R45): `num` is the frame number it carries, whole from a marker, its low 12 bits zero from a long pulse;
`at_` the instant of the sender's Daybreak, which is the edge less the delay; `period` the measured frame period in ticks. A follower corrects in Initial
lock as in Locked, and its own frame period is the length of the frame that ended at the Daybreak the edge is held against (log entry 174). -/
def State.syncEdge (s : State) (num : Option Nat) (long : Bool) (at_ : Int) (period : Nat) : State :=
  let day := s.nearestDay at_
  let err := at_ - day.tick
  let inside := decide (-8 ≤ err) && decide (err ≤ 8)
  let s0 := s.setFld FRM_SYNC_STAT_PHASE_ERR (phaseCode err)
  let agrees := match num with
    | some n => n == day.frame
    | none => ! long || day.frame % 4096 == 0
  match s.time.sync.phase with
  | .unlocked =>
    match num with
    | some n => s0.initialLock n day.frame
    | none =>
      if long then s0.initialLock (s.fld64 FRM_NUM_LOAD_LO_LOAD FRM_NUM_LOAD_HI_LOAD / 4096 * 4096) day.frame else s0
  | .mismatch => s0
  | .initial => if ! agrees then s0.enterLost .mismatch else State.countGood { s0 with time.corr := corrOf err } inside
  | .lost => if ! agrees then s0.enterLost .mismatch else s0.countGood inside
  | .locked =>
    if ! agrees then s0.enterLost .mismatch
    else if period > day.len + 8 ∨ period + 8 < day.len then s0.enterLost .lost
    else
      let b := if inside then 0 else s.time.sync.bad + 1
      if 2 ≤ b then s0.enterLost .lost
      else { s0 with time.sync := { s.time.sync with bad := b, missed := 0 }, time.corr := corrOf err }

/-- An edge on SYNC_IN, for a follower whose source it is (R44): `raw` is the time from the own Daybreak nearest to its arrival to the edge in ns, from
which DELAY is taken. -/
def execSyncEdgeReceived (long : Bool) (raw : Int) (period : Nat) (s : State) : Host.Outcome State Fault Refusal :=
  s.doneTimed (if s.fld FRM_SYNC_CTL_ROLE = 2 ∧ s.fld FRM_SYNC_CTL_SRC = 0 then
      s.syncEdge none long (((s.nearestDay s.now).tick : Int) + raw - (s.fld FRM_SYNC_CTL_DELAY : Int)) period
    else s)

/-- A number of expected Daybreaks passes without an edge: four in a row lose a Locked follower (R45), and they break a run of good edges. -/
def execSyncEdgeMissing (n : Nat) (s : State) : Host.Outcome State Fault Refusal :=
  s.doneTimed (if s.fld FRM_SYNC_CTL_ROLE ≠ 2 ∨ n = 0 then s
    else
      let m := s.time.sync.missed + n
      if s.time.sync.phase = .locked ∧ 4 ≤ m then s.enterLost .lost
      else { s with time.sync := { s.time.sync with missed := m, good := 0 } })

/-- The follower's edge from a marker (R44, R96): its arrival less TX_OFS less half the round trip. -/
def State.markerSync (s : State) (i : Nat) (m : IslMarker) (last : Option (Nat × Nat)) : State :=
  if s.fld FRM_SYNC_CTL_ROLE = 2 ∧ s.fld FRM_SYNC_CTL_SRC = i + 1 then
    let at_ : Int := (s.now : Int) - m.txOfs - (s.fld (ISL_RTT_RTT_LAST i) / 2 : Nat)
    let own := (s.nearestDay at_).len
    let period := match last with
      | some (f, t) => if m.frame = f + 1 then s.now - t else own
      | none => own
    s.syncEdge (some m.frame) false at_ period
  else s

/-- How many frames have passed since the last marker, for one that arrives within ±16 ns of a whole number of local frames after it; none for one that
arrives outside (R95). -/
def State.framesSince (s : State) (t : Nat) : Option Nat :=
  let gap := s.now - t
  let len := s.time.len
  let n := (gap + len / 2) / len
  if 1 ≤ n ∧ n * len ≤ gap + 16 ∧ gap ≤ n * len + 16 then some n else none

/-- The markers missing in a row when one arrives (R95): none after one that comes in its time, with those in between that never came; one that comes too late
is missing in its place, and one that comes too early changes nothing. -/
def State.missed (s : State) (x : Isl) (t : Nat) : Nat :=
  match s.framesSince t with
  | some n => if 2 ≤ max x.miss (n - 1) then 2 else 0
  | none => if s.now < t + s.time.len then x.miss else x.miss + 1

/-- An accepted marker. `aligned` says that it begins a whole number of blocks after the one before (R95): two accepted in Aligning give block lock. -/
def State.marker (s : State) (i : Nat) (m : IslMarker) (aligned : Bool) : State :=
  if 8 ≤ i ∨ s.islSt i < 2 ∨ s.islSt i = 5 then s
  else
    let x := s.islAt i
    let s1 := s.setIsl i { x with lastMark := some (m.frame, s.now), rxc := m.txc, seen := true }
    if ! s.bit (ISL_STAT_BLOCK_LOCK i) then
      if x.seen ∧ aligned then (s1.setIsl i { s1.islAt i with miss := 0 }).setBit (ISL_STAT_BLOCK_LOCK i) true else s1
    else if ! aligned then s
    else
      let n := match x.lastMark with
        | some (_, t) => s.missed x t
        | none => 0
      let s2 := s1.setIsl i { s1.islAt i with miss := n }
      if 2 ≤ n then s.keepClock (s2.islRecover i)
      else
        let s3 := (s2.keepClock (s2.markerRtt i m)).markerSync i m x.lastMark
        s3.keepClock (s3.markerId i m)

/-- A marker arrives (R94): `raw` are the 256 bytes of its block. With both copies bad it is lost. -/
def execIslMarkerReceived (i : Nat) (raw : List Nat) (aligned : Bool) (s : State) : Host.Outcome State Fault Refusal :=
  s.doneTimed (match readMarker raw with
    | some m => s.marker i m aligned
    | none => s)

end Sys2Proof.Machine
end

