-- ==== Sys2Proof/Machine/Slots.lean ====
section
/-! DEFINITION. Slot power (chapter 16): the samples of a channel, its breaker, feeds, retries and power-good, PERST_N of the downstream groups
(R53), and the slot commands. Times are counted in samples of one microsecond (R351). -/
namespace Sys2Proof.Machine
open Sys2Proof

/-! ### Channels, feeds and what follows power-good -/

/-- A slot channel's hidden state. -/
def State.slot (s : State) (c : Nat) : Slt := mgetD s.slt c {}

/-- Sets a slot channel's hidden state. -/
def State.setSlot (s : State) (c : Nat) (x : Slt) : State := { s with slt := mputD s.slt c {} x }

/-- Whether a channel is power-good. -/
def State.pg (s : State) (c : Nat) : Bool := s.bit (SLT_CH_STAT_PG c)

/-- The state code of a channel (Table 16-1). -/
def State.chSt (s : State) (c : Nat) : Nat := s.fld (SLT_CH_STAT_STATE c)

/-- Whether a group is a downstream group, by the roles in force or those held over Standby (R53). -/
def State.downGroup (s : State) (g : Nat) : Bool :=
  if s.md.roleHeld then s.md.heldDown.contains g
  else (List.range 4).any (fun k => s.formed (4 * g + k) && s.role (4 * g + k) == 2)

/-- Whether every downstream port of a group holds its link in Disabled (R53). -/
def State.allDisabled (s : State) (g : Nat) : Bool :=
  s.md.roleHeld || (List.range 4).all (fun k => ! s.formed (4 * g + k) || s.role (4 * g + k) != 2 || s.bit (PRT_LINK_CTL_LINK_DIS (4 * g + k)))

/-- Whether the X512 pulls PERST_N of a group low (R53, R445, R457): it is released no sooner than 100 ms after power-good. -/
def State.perstWanted (s : State) (g : Nat) : Bool :=
  s.md.boot == .up && ! s.hostGroup g && s.downGroup g &&
    (! s.pg g || decide ((s.slot g).pgFor < 100000) || s.allDisabled g || (s.slot g).offWait.isSome || (s.slot g).offCmd.isSome)

/-- Brings PERST_N of a group to its level. -/
def State.refreshPerst (s : State) (g : Nat) : State :=
  let v := s.perstWanted g
  if v == s.prt.perstOut.contains g then s
  else ({ s with prt.perstOut := if v then sadd s.prt.perstOut g else sdel s.prt.perstOut g } : State).emit (.perst g v)

/-- PERST_N of every group follows the roles, the links and the channels. -/
def State.refreshPersts (s : State) : State := (List.range 32).foldl State.refreshPerst s

/-- The ports formed in a lane group. -/
def State.portsOf (s : State) (g : Nat) : List Nat := ((List.range 4).map (fun k => 4 * g + k)).filter s.formed

/-- Power-good of a channel changes (R361): an event; without it the pools of the group that are up are lost (R70), and their records are to be
rebuilt (R368). -/
def State.setPg (s : State) (c : Nat) (v : Bool) : State :=
  if s.pg c == v then s
  else
    let s1 := ((s.setBit (SLT_CH_STAT_PG c) v).setSlot c { s.slot c with pgFor := 0, good := 0, bad := 0 }).raiseShared (256 + c)
    let s2 := if v then s1
      else (s.portsOf c).foldl (fun s p =>
        let t := if s.isPool p then s.surprise p else s
        t.setPx p { t.px p with inited := false }) s1
    s2.refreshPerst c

/-- Both gates of a channel turn off (R353): no feed is active, every breaker counter resets (R356), a feed change ends, and power-good goes unless
a feed change keeps it (R364). -/
def State.gatesOff (s : State) (c : Nat) (keepPg : Bool) : State :=
  let s1 := (s.setFld (SLT_CH_STAT_FEED_ACT c) 0).setSlot c { s.slot c with cnt := [], calm := [], sw := none, good := 0, bad := 0 }
  if keepPg then s1 else s1.setPg c false

/-- A feed of a channel as a number, 1 for A and 2 for B. -/
def Slt.feed (x : Slt) (f : Nat) : FeedSt := if f = 1 then x.feedA else x.feedB

/-- Whether a feed counts as in its window: it is inside, and back for 10 ms if it has ever left (R355; log entry 50). -/
def FeedSt.ok (f : FeedSt) : Bool := f.inside && (! f.left || decide (10000 ≤ f.back))

/-- A sample of a feed's voltage in mV (R355). -/
def FeedSt.sample (f : FeedSt) (mv : Nat) : FeedSt :=
  let now := if f.inside then decide (9800 ≤ mv) && decide (mv < 13800) else decide (10200 ≤ mv) && decide (mv < 13800)
  if now then { f with inside := true, back := min (f.back + 1) 100000 }
  else { inside := false, left := f.left || f.inside, back := 0 }

/-- Whether a feed is enabled in force (R363). -/
def State.feedEn (s : State) (c f : Nat) : Bool := if f = 1 then s.curBit (SLT_CH_CFG_FEED_A_EN c) else s.curBit (SLT_CH_CFG_FEED_B_EN c)

/-- Whether a feed may be used: enabled and in its window. -/
def State.feedOk (s : State) (c f : Nat) : Bool := s.feedEn c f && ((s.slot c).feed f).ok

/-- The preferred feed. -/
def State.prefFeed (s : State) (c : Nat) : Nat := 1 + s.cur (SLT_CH_CFG_PRIO c)

/-- The feed of highest priority that may be used (R355): the one a power-on named, then the preferred one, then the other. -/
def State.bestFeed (s : State) (c : Nat) : Option Nat :=
  ([(s.slot c).first, s.prefFeed c, 3 - s.prefFeed c]).find? (fun f => f != 0 && s.feedOk c f)

/-- The active gate of a feed starts to rise (R355). -/
def State.startRamp (s : State) (c f st : Nat) : State :=
  ((s.setFld (SLT_CH_STAT_STATE c) st).setFld (SLT_CH_STAT_FEED_ACT c) f).setSlot c { s.slot c with ramp := 0, good := 0, bad := 0, tripped := false }

/-- A channel with ENABLE set and gates off goes on (R352, R355): it waits for its delays, then ramps on the best feed, or waits for a feed. -/
def State.turnOn (s : State) (c : Nat) : State :=
  let x := s.slot c
  if x.ins.isSome ∨ x.off.isSome then s.setFld (SLT_CH_STAT_STATE c) 2
  else match s.bestFeed c with
    | some f => s.startRamp c f 3
    | none => s.setFld (SLT_CH_STAT_STATE c) 6

/-- A channel whose gates are off shows the state that its presence, latch and ENABLE give (Table 16-1). -/
def State.rest (s : State) (c : Nat) : State :=
  if ! s.bit (SLT_CH_STAT_PRESENT c) then s.setFld (SLT_CH_STAT_STATE c) 0
  else if s.bit (SLT_CH_STAT_LATCHED c) then s.setFld (SLT_CH_STAT_STATE c) 7
  else if s.bit (SLT_CH_STAT_ENABLE c) then s.turnOn c
  else s.setFld (SLT_CH_STAT_STATE c) 1

/-- A power-on ends with a status (R366). -/
def State.onEnds (s : State) (c : Nat) (st : Status) : State :=
  match (s.slot c).onCmd with
  | some h => (s.setSlot c { s.slot c with onCmd := none }).lcEndOpt h st
  | none => s

/-- A power-off ends with a status (R367); PERST_N follows. -/
def State.offEnds (s : State) (c : Nat) (st : Status) : State :=
  match (s.slot c).offCmd with
  | some h => ((s.setSlot c { s.slot c with offCmd := none }).lcEndOpt h st).refreshPerst c
  | none => s

/-! ### Faults of a channel (R357 to R360, R365) -/

/-- A curve trip (cause 1), fast trip (2) or start timeout (3) of a channel (R358, R359). The off-time after a retry is 66 times the time since the
start of its ramp, at least RETRY_OFF. -/
def State.slotFault (s : State) (c cause point : Nat) : State :=
  let n := min (s.fld (SLT_CH_STAT_FAULT_CNT c) + 1) 8
  let ton := (s.slot c).ramp
  let least := s.cur (SLT_CH_TIME_RETRY_OFF c) * 1000000
  let off := if n = 1 then least else max least (66 * ton)
  let s1 := ((s.gatesOff c false).setFld (SLT_CH_STAT_FAULT_CNT c) n).inc (SLT_CH_CNT_TRIP_CNT c)
  let s2 := s1.setFld (SLT_CH_STAT_CAUSE c) cause
  let s3 := if cause = 1 then s2.setFld (SLT_CH_STAT_POINT c) point else s2
  let s4 := ((s3.reportCode 0x0601 c none (cause + 8 * (if cause = 1 then point else 0))).raiseShared (256 + c)).onEnds c .failed
  let s5 := s4.setSlot c { s4.slot c with cool := 0, tripped := true, off := if n = 8 then s4.slot c |>.off else some off }
  if n = 8 then ((s5.setBit (SLT_CH_STAT_LATCHED c) true).setBit (SLT_CH_STAT_ENABLE c) false).rest c else s5.rest c

/-- A pass transistor conducts although its gate is off (R365). -/
def State.slotDamaged (s : State) (c : Nat) : State :=
  let s1 := ((s.setBit (SLT_CH_STAT_DAMAGED c) true).setBit (SLT_CH_STAT_LATCHED c) true).setBit (SLT_CH_STAT_ENABLE c) false
  let s2 := ((s1.setFld (SLT_CH_STAT_CAUSE c) 4).reportCode 0x0602 c none 4).raiseShared (256 + c)
  ((s2.onEnds c .failed).offEnds c .failed).rest c

/-! ### One sample (R353, Table 16-2) -/

/-- What a sample reads: presence low, output voltage in mV, shunt voltage in µV, the gate-source voltages and the feed voltages in mV. -/
structure Sample where
  prsnt : Bool
  vout : Nat
  shunt : Nat
  gsA : Nat
  gsB : Nat
  va : Nat
  vb : Nat
  deriving DecidableEq, Repr

/-- The current of a shunt voltage in mA (R351). -/
def State.slotMa (s : State) (c shunt : Nat) : Nat := shunt * 1000 / s.cur (SLT_CH_SHUNT_RSHUNT c)

/-- The gate-source voltage of a feed's gate. -/
def Sample.gs (x : Sample) (f : Nat) : Nat := if f = 1 then x.gsA else x.gsB

/-- The voltage of a feed. -/
def Sample.feedMv (x : Sample) (f : Nat) : Nat := if f = 1 then x.va else x.vb

/-- One of the four bits of a feed field of SLT_FEED_STAT is set. -/
def State.feedBit (s : State) (f : Fld) (g : Nat) (v : Bool) : State := s.setBit { f with lsb := f.lsb + g, width := 1 } v

/-- A count falls by one sample; one that stood at 0 has ended. -/
def countDown (x : Option Nat) : Option Nat :=
  match x with
  | some (n + 1) => some n
  | _ => none

/-- The readings of a sample are stored, the feed windows follow, and the clocks of the channel advance by one sample. -/
def State.slotMeasure (s : State) (c : Nat) (m : Sample) : State :=
  let g := c / 8
  let x := s.slot c
  let a := x.feedA.sample m.va
  let b := x.feedB.sample m.vb
  let s1 := ((s.setFld (SLT_CH_MEAS_VOUT c) (satTo 16 m.vout)).setFld (SLT_CH_MEAS_IOUT c) (satTo 16 (s.slotMa c m.shunt))).setFld (SLT_FEED_VA g) (satTo 16 m.va)
  let s2 := ((s1.setFld (SLT_FEED_VB g) (satTo 16 m.vb)).feedBit SLT_FEED_STAT_A_OK g a.ok).feedBit SLT_FEED_STAT_B_OK g b.ok
  let s3 := (s2.feedBit SLT_FEED_STAT_A_OV g (decide (13800 ≤ m.va))).feedBit SLT_FEED_STAT_B_OV g (decide (13800 ≤ m.vb))
  s3.setSlot c { x with
    feedA := a, feedB := b,
    low := if m.prsnt then min (x.low + 1) 1000 else 0, high := if m.prsnt then 0 else min (x.high + 1) 4,
    ins := countDown x.ins, off := countDown x.off, cool := if x.off.isSome then x.cool else x.cool + 1,
    ramp := x.ramp + 1, pgFor := if s.pg c then min (x.pgFor + 1) 100000 else 0, offWait := x.offWait.map (fun n => n - 1) }

/-- Order 1: presence (R354). Answers whether the evaluation of this sample ends. -/
def State.slotPresence (s : State) (c : Nat) : Bool × State :=
  let x := s.slot c
  if s.bit (SLT_CH_STAT_PRESENT c) ∧ x.high = 4 then
    let s1 := (((s.setBit (SLT_CH_STAT_PRESENT c) false).gatesOff c false).setBit (SLT_CH_STAT_ENABLE c) false).onEnds c .failed
    (true, (s1.setSlot c { s1.slot c with ins := none, first := 0 }).rest c)
  else if ! s.bit (SLT_CH_STAT_PRESENT c) ∧ x.low = 1000 then
    let s1 := (s.setBit (SLT_CH_STAT_PRESENT c) true).inc (SLT_CH_CNT_INS_CNT c)
    let s2 := s1.setSlot c { s1.slot c with ins := some (s.cur (SLT_CH_CFG_INS_DELAY c) * 1000) }
    let s3 := if s.curBit (SLT_CH_CFG_AUTO_ON c) then s2.setBit (SLT_CH_STAT_ENABLE c) true else s2
    (false, s3.rest c)
  else (false, s)

/-- A channel leaves a feed for another (R363): the active gate turns off; power-good stays for now (R364). -/
def State.switchFeed (s : State) (c old new : Nat) : State :=
  let s1 := (s.gatesOff c true).setFld (SLT_CH_STAT_STATE c) 5
  s1.setSlot c { s1.slot c with sw := some (.falling old new) }

/-- The channel waits for a feed (R355, R363). -/
def State.feedWait (s : State) (c : Nat) : State := (s.gatesOff c false).setFld (SLT_CH_STAT_STATE c) 6

/-- The new gate of a feed change starts to rise; a channel that has lost power-good meanwhile goes on as Ramping (R364). -/
def State.riseNew (s : State) (c new : Nat) : State :=
  if s.pg c then (let s1 := s.startRamp c new 5; s1.setSlot c { s1.slot c with sw := some (.rising new) })
  else (s.setSlot c { s.slot c with sw := none }).startRamp c new 3

/-- Order 2: the window of the active feed, and the steps of a feed change (R355, R363). A channel that waits goes on once it may (R355). -/
def State.slotFeeds (s : State) (c : Nat) (m : Sample) : Bool × State :=
  let x := s.slot c
  let f := s.fld (SLT_CH_STAT_FEED_ACT c)
  match x.sw with
  | some (.falling old new) =>
    if ! s.feedOk c new then (true, s.feedWait c)
    else (false, if m.gs old < 1000 then s.setSlot c { x with sw := some (.gap 0 new) } else s)
  | some (.gap n new) =>
    if ! s.feedOk c new then (true, s.feedWait c)
    else (false, if 50 ≤ n + 1 then s.riseNew c new else s.setSlot c { x with sw := some (.gap (n + 1) new) })
  | some (.rising new) => if (x.feed new).ok then (false, s) else (true, s.feedWait c)
  | none =>
    if f ≠ 0 then
      if ! (x.feed f).ok then
        (true, if s.feedOk c (3 - f) then s.switchFeed c f (3 - f) else s.feedWait c)
      else if s.chSt c = 4 ∧ s.curBit (SLT_CH_CFG_REVERT c) ∧ f ≠ s.prefFeed c ∧ s.feedOk c (s.prefFeed c) ∧ 100000 ≤ (x.feed (s.prefFeed c)).back then
        (true, s.switchFeed c f (s.prefFeed c))
      else (false, s)
    else if s.chSt c = 6 ∨ s.chSt c = 2 then (false, s.turnOn c)
    else (false, s)

/-- The breaker counters after a sample (R356): a counter rises above its current, and otherwise falls by 1 for every 8 such samples. -/
def State.slotCount (s : State) (c ma : Nat) : State :=
  (List.range 8).foldl (fun s k =>
    let x := s.slot c
    let n := mgetD x.cnt k 0
    if s.cur (SLT_CH_BRK_I c k) * 50 < ma then s.setSlot c { x with cnt := mputD x.cnt k 0 (n + 1) }
    else
      let q := mgetD x.calm k 0 + 1
      if 8 ≤ q then s.setSlot c { x with cnt := mputD x.cnt k 0 (n - 1), calm := mputD x.calm k 0 0 }
      else s.setSlot c { x with calm := mputD x.calm k 0 q }) s

/-- The curve points whose counter has reached its time. -/
def State.slotTrips (s : State) (c : Nat) : List Nat :=
  (List.range 8).filter (fun k => decide (s.cur (SLT_CH_BRK_T c k) ≤ mgetD (s.slot c).cnt k 0))

/-- Order 3: the breaker (R356). Where several points trip in one sample, which one POINT names is free (log entry 51). -/
def State.slotBreaker (s : State) (c ma : Nat) : Bool × State :=
  if s.fld (SLT_CH_STAT_FEED_ACT c) = 0 then (false, s)
  else
    let s1 := s.slotCount c ma
    match s1.slotTrips c with
    | [] => (false, s1)
    | [k] => (true, s1.slotFault c 1 k)
    | l => let v := s1.draw; (true, v.2.slotFault c 1 (l.getD (v.1 % l.length) 0))

/-- Order 4: the start timeout of a ramp (R355). -/
def State.chStart (s : State) (c : Nat) : Bool × State :=
  if s.chSt c = 3 ∧ s.cur (SLT_CH_TIME_START_TMO c) * 1000 ≤ (s.slot c).ramp then (true, s.slotFault c 3 0) else (false, s)

/-- Order 5: a damaged pass transistor (R365). -/
def State.slotDamage (s : State) (c : Nat) (m : Sample) : State :=
  let x := s.slot c
  if (! s.bit (SLT_CH_STAT_ENABLE c) ∨ x.tripped) ∧ s.fld (SLT_CH_STAT_FEED_ACT c) = 0 ∧ m.gsA < 1000 ∧ m.gsB < 1000 ∧ 1000 < m.vout then
    let s1 := s.setSlot c { x with dmg := min (x.dmg + 1) 10000 }
    if 10000 ≤ x.dmg + 1 ∧ ! s.bit (SLT_CH_STAT_DAMAGED c) then s1.slotDamaged c else s1
  else s.setSlot c { x with dmg := 0 }

/-- Whether the voltage conditions of power-good hold (R361). -/
def voltsOk (m : Sample) (f : Nat) : Bool :=
  decide (9000 ≤ m.gs f) && decide (m.vout ≤ m.feedMv f + 200) && decide (m.feedMv f ≤ m.vout + 200)

/-- Power-good asserts: the channel is On and a power-on completes (R361, R366). -/
def State.slotOn (s : State) (c : Nat) : State :=
  let s1 := s.setFld (SLT_CH_STAT_STATE c) 4
  let s2 := (s1.setSlot c { s1.slot c with sw := none, first := 0, good := 0, bad := 0 }).setPg c true
  s2.onEnds c .success

/-- A feed change has not kept or not brought power-good (R364): the channel goes on as Ramping once the new gate rises. -/
def State.switchLost (s : State) (c : Nat) : State :=
  let s1 := s.setPg c false
  match (s1.slot c).sw with
  | some (.rising _) => (s1.setSlot c { s1.slot c with sw := none }).setFld (SLT_CH_STAT_STATE c) 3
  | _ => s1

/-- Order 6: power-good (R361, R362, R364). -/
def State.slotPower (s : State) (c : Nat) (m : Sample) : State :=
  let x := s.slot c
  let f := s.fld (SLT_CH_STAT_FEED_ACT c)
  let ok := f != 0 && voltsOk m f
  let good := if ok && x.cnt.isEmpty then x.good + 1 else 0
  let s1 := s.setSlot c { x with good := min good 2, bad := if ok then 0 else min (x.bad + 1) 2 }
  match x.sw with
  | some ph =>
    if 2 ≤ good then s1.slotOn c
    else
      let late := match ph with
        | .rising _ => decide (1000 ≤ x.ramp)
        | _ => false
      if s.pg c && (decide (m.vout < 100 * s.cur (SLT_CH_TIME_VOUT_MIN c)) || late) then s1.switchLost c else s1
  | none =>
    if f = 0 then s1
    else if ! s.pg c then (if 2 ≤ good then s1.slotOn c else s1)
    else if ! ok ∧ 2 ≤ x.bad + 1 then s1.setPg c false
    else s1

/-- A power-off goes on (R367): after 1 ms the gates turn off; it completes once VOUT is below 1.0 V. -/
def State.slotOff (s : State) (c : Nat) (m : Sample) : State :=
  let x := s.slot c
  match x.offWait, x.offCmd with
  | some 0, _ =>
    let s1 := (s.setSlot c { x with offWait := none }).gatesOff c false
    s1.rest c
  | some _, _ => s
  | none, some _ => if m.vout < 1000 then s.offEnds c .success else s
  | none, none => s

/-- The cooling clock of a channel reaches COOL seconds (R360): FAULT_CNT clears. -/
def State.coolingEnd (s : State) (c : Nat) : State :=
  if s.cur (SLT_CH_TIME_COOL c) * 1000000 ≤ (s.slot c).cool then s.setFld (SLT_CH_STAT_FAULT_CNT c) 0 else s

/-- The evaluation of one sample in the order of Table 16-2, the running power-off, the cooling clock, and PERST_N 100 ms after power-good. -/
def State.slotSample (s : State) (c : Nat) (m : Sample) : State :=
  let s0 := (s.slotMeasure c m).slotOff c m
  let a := s0.slotPresence c
  let r := if a.1 then a.2 else
    let b := a.2.slotFeeds c m
    if b.1 then b.2 else
      let d := b.2.slotBreaker c (s.slotMa c m.shunt)
      if d.1 then d.2 else
        let e := d.2.chStart c
        if e.1 then e.2 else (e.2.slotDamage c m).slotPower c m
  (r.coolingEnd c).refreshPerst c

/-- Whether the Aux domain supervises the slots: not while it is in reset or without its supply (R455, R457). -/
def State.slotsRun (s : State) : Bool := s.md.boot == .rom || s.md.boot == .up

/-- One sample of a channel (R351, R353): presence low, VOUT in mV, the shunt voltage in µV, gate-source voltages of gates A and B and the two feed
voltages in mV. -/
def execSlotSample (c : Nat) (prsnt : Bool) (vout shunt gsA gsB va vb : Nat) (s : State) : Host.Outcome State Fault Refusal :=
  s.done (if c < 32 ∧ s.slotsRun then s.slotSample c { prsnt := prsnt, vout := vout, shunt := shunt, gsA := gsA, gsB := gsB, va := va, vb := vb } else s)

/-- The insertion delay of a channel has run out (R355): a Waiting channel whose off-time has ended too ramps. -/
def State.insertionEnd (s : State) (c : Nat) : State :=
  if (s.slot c).ins = some 0 then
    let s1 := s.setSlot c { s.slot c with ins := none }
    if s.chSt c = 2 then s1.turnOn c else s1
  else s

def execInsertionDelayEnd (c : Nat) (s : State) : Host.Outcome State Fault Refusal := s.done (if c < 32 then s.insertionEnd c else s)

/-- The off-time of a channel has run out (R359, R360): a Waiting channel whose insertion delay has ended too ramps, and the cooling clock runs. -/
def State.offTimeEnd (s : State) (c : Nat) : State :=
  if (s.slot c).off = some 0 then
    let s1 := s.setSlot c { s.slot c with off := none }
    if s.chSt c = 2 then s1.turnOn c else s1
  else s

def execOffTimeEnd (c : Nat) (s : State) : Host.Outcome State Fault Refusal := s.done (if c < 32 then s.offTimeEnd c else s)

def execCoolingExpiry (c : Nat) (s : State) : Host.Outcome State Fault Refusal := s.done (if c < 32 then s.coolingEnd c else s)

/-- The fast comparator of a channel sees a shunt voltage in µV (R357, R449): above 4 × I_7 × RSHUNT, with a gate on, it is a fault. -/
def State.fastTrip (s : State) (c shunt : Nat) : State :=
  if s.fld (SLT_CH_STAT_FEED_ACT c) ≠ 0 ∧ s.cur (SLT_CH_BRK_I c 7) * s.cur (SLT_CH_SHUNT_RSHUNT c) < 5 * shunt then s.slotFault c 2 0 else s

def execFastTrip (c shunt : Nat) (s : State) : Host.Outcome State Fault Refusal := s.done (if c < 32 then s.fastTrip c shunt else s)

/-! ### Slot commands (R366, R367, R365, R369) -/

/-- What refuses a power-on (R365, R366; log entry 52). -/
def State.onRefusal (s : State) (c feed : Nat) : Option Status :=
  if 32 ≤ c ∨ 2 < feed then some .parameter
  else if feed ≠ 0 ∧ ! s.feedEn c feed then some .parameter
  else if ! s.bit (SLT_CH_STAT_PRESENT c) ∨ s.bit (SLT_CH_STAT_LATCHED c) ∨ s.bit (SLT_CH_STAT_DAMAGED c) then some .state
  else if (s.slot c).onCmd.isSome ∨ (s.slot c).offCmd.isSome then some .busy
  else none

/-- A power-on sets ENABLE (R366); a channel that is power-good already completes it at once. -/
def State.powerOn (s : State) (c feed : Nat) (h : Option Nat) : State :=
  let s1 := (s.setBit (SLT_CH_STAT_ENABLE c) true).setSlot c { s.slot c with first := feed, onCmd := some h }
  if s.pg c then s1.onEnds c .success
  else if s.chSt c = 1 then s1.rest c
  else s1

/-- Whether a pool port holds a valid translation entry or a tree area (R367, R54). -/
def State.poolUsed (s : State) (p : Nat) : Bool := s.isPool p && (! (s.entriesOn p).isEmpty || s.treesOn p != 0)

/-- Whether the device of a port is bound to a virtual downstream port (R367, R54). -/
def State.vdpBound (s : State) (p : Nat) : Bool :=
  s.prt.vdp.any (fun e => match e.2.hold with
    | .phys q _ => q == p
    | _ => false)

/-- Whether Oxbow is moving a parcel onto a port's module (Table 1-4 case 3). -/
def State.movingOnto (s : State) (p : Nat) : Bool := s.oxb.moves.any (fun e => e.2.dstPool == p)

/-- What refuses a power-off (R367, Table 1-4 case 3): never the owner's in Quarantine. -/
def State.offRefusal (s : State) (p : Principal) (c : Nat) : Option Status :=
  if 32 ≤ c then some .parameter
  else if (s.slot c).offCmd.isSome then some .busy
  else if s.md.mode = .quarantine ∧ p = .owner then none
  else if (s.portsOf c).any (fun q => s.poolUsed q || s.vdpBound q || s.movingOnto q) then some .busy
  else none

/-- A power-off (R367): ENABLE clears, the ports of the group are down, PERST_N is asserted, and the gates turn off after 1 ms. -/
def State.powerOff (s : State) (c : Nat) (h : Option Nat) : State :=
  let s1 := (s.setBit (SLT_CH_STAT_ENABLE c) false).onEnds c .failed
  let s2 := s1.declareAll (s.portsOf c)
  let s3 := s2.setSlot c { s2.slot c with offCmd := some h, offWait := some 1000 }
  (if s3.chSt c = 2 ∨ s3.chSt c = 6 then s3.rest c else s3).refreshPerst c

/-- What refuses a clear-latch (R365): a damaged channel whose output stays above 1.0 V, unless its slot is empty (Table 16-5 case 7). -/
def State.clrRefusal (s : State) (c : Nat) : Option Status :=
  if 32 ≤ c then some .parameter
  else if s.bit (SLT_CH_STAT_DAMAGED c) ∧ 1000 < s.fld (SLT_CH_MEAS_VOUT c) ∧ s.bit (SLT_CH_STAT_PRESENT c) then some .busy
  else none

/-- A clear-latch (R365, R369): the fault count and the off-time clear, damage where VOUT is below 1.0 V, and with it the latch. -/
def State.clearLatch (s : State) (c : Nat) : State :=
  let s1 := (s.setFld (SLT_CH_STAT_FAULT_CNT c) 0).setSlot c { s.slot c with off := none, dmg := 0 }
  let s2 := if s.fld (SLT_CH_MEAS_VOUT c) < 1000 ∨ ! s.bit (SLT_CH_STAT_DAMAGED c) then
      (s1.setBit (SLT_CH_STAT_DAMAGED c) false).setBit (SLT_CH_STAT_LATCHED c) false
    else s1
  if s2.fld (SLT_CH_STAT_FEED_ACT c) = 0 ∧ (s2.slot c).sw = none ∧ (s2.slot c).offWait = none then s2.rest c else s2

/-- The remaining off-time in ms, rounded up (SLT_CH_OFFT). -/
def State.slotOfft (s : State) (c : Nat) : Nat := ((s.slot c).off.getD 0 + 999) / 1000

/-- Opcode 0x0900: the words of SLT_CH_STAT, MEAS, OFFT and CNT (log entry 53). -/
def execGetChannel (rq : Rq) (c : Nat) (s : State) : Host.Outcome State Fault Refusal :=
  s.done (xib 0x0900 rq (.getChannel rq c) s fun _ s =>
    if 32 ≤ c then s.refuse .parameter
    else s.readAns [(4, (s.word (SLT_CH_STAT c)).toNat), (4, (s.word (SLT_CH_MEAS c)).toNat), (4, s.slotOfft c), (4, (s.word (SLT_CH_CNT c)).toNat)])

/-- Opcode 0x0901 (R366). -/
def execSlotPowerOn (rq : Rq) (c feed : Nat) (s : State) : Host.Outcome State Fault Refusal :=
  s.done (xib 0x0901 rq (.slotPowerOn rq c feed) s fun p s =>
    match s.onRefusal c feed with
    | some st => s.refuse st
    | none =>
      if s.lcSlots = [] then s.refuse .busy
      else
        let x := s.lcStart 0x0901 (rqRef rq 0x0901) p (routeTargetOf rq.route rq.carrier)
        (x.2.powerOn c feed (some x.1)).long s.time.frame x.1)

/-- Opcode 0x0902 (R367). -/
def execSlotPowerOff (rq : Rq) (c : Nat) (s : State) : Host.Outcome State Fault Refusal :=
  s.done (xib 0x0902 rq (.slotPowerOff rq c) s fun p s =>
    match s.offRefusal p c with
    | some st => s.refuse st
    | none =>
      if s.lcSlots = [] then s.refuse .busy
      else
        let x := s.lcStart 0x0902 (rqRef rq 0x0902) p (routeTargetOf rq.route rq.carrier)
        (x.2.powerOff c (some x.1)).long s.time.frame x.1)

/-- Opcode 0x0903 (R365, R369). -/
def execClearLatch (rq : Rq) (c : Nat) (s : State) : Host.Outcome State Fault Refusal :=
  s.done (xib 0x0903 rq (.clearLatch rq c) s fun _ s =>
    match s.clrRefusal c with
    | some st => s.refuse st
    | none => (s.clearLatch c).okNow)

/-- The action of SLT_CH_CTL.ON: a refused command sets CMD_REF. -/
def State.slotOnWrite (s : State) (c : Nat) : State :=
  if (s.onRefusal c 0).isSome then s.setBit (SLT_CH_CTL_CMD_REF c) true else s.powerOn c 0 none

/-- The action of SLT_CH_CTL.OFF. -/
def State.slotOffWrite (s : State) (p : Principal) (c : Nat) : State :=
  if (s.offRefusal p c).isSome then s.setBit (SLT_CH_CTL_CMD_REF c) true else s.powerOff c none

/-- The action of SLT_CH_CTL.CLR. -/
def State.slotClrWrite (s : State) (c : Nat) : State :=
  if (s.clrRefusal c).isSome then s.setBit (SLT_CH_CTL_CMD_REF c) true else s.clearLatch c

/-! ### APPLY (R370) -/

/-- The addresses of a channel's staged words. -/
def slotWords (c : Nat) : List Nat := [SLT_CH_CFG c, SLT_CH_TIME c, SLT_CH_SHUNT c] ++ (List.range 8).map (SLT_CH_BRK c)

/-- Whether a channel's staged values break a rule of R370. -/
def State.slotBad (s : State) (c : Nat) : Bool :=
  let i := fun k => s.fld (SLT_CH_BRK_I c k)
  let t := fun k => s.fld (SLT_CH_BRK_T c k)
  s.fld (SLT_CH_CFG_INS_DELAY c) == 0 || decide (2000 < s.fld (SLT_CH_CFG_INS_DELAY c)) || s.fld (SLT_CH_TIME_RETRY_OFF c) == 0 ||
    s.fld (SLT_CH_TIME_COOL c) == 0 || s.fld (SLT_CH_TIME_START_TMO c) == 0 || s.fld (SLT_CH_SHUNT_RSHUNT c) == 0 ||
    (List.range 7).any (fun k => decide (i (k + 1) ≤ i k) || decide (t k ≤ t (k + 1))) || decide (240 < i 7) ||
    decide (640000 < s.fld (SLT_CH_SHUNT_RSHUNT c) * i 7) || (! s.bit (SLT_CH_CFG_FEED_A_EN c) && ! s.bit (SLT_CH_CFG_FEED_B_EN c))

/-- The action of SLT_CH_CTL.APPLY: the staged words of the channel take effect under R36, or are refused and revert. -/
def State.slotApply (s : State) (c : Nat) : State :=
  let l := (slotWords c).filter (fun a => s.dirty.contains a)
  if s.slotBad c then l.foldl State.unstage (s.setBit (SLT_CH_CTL_CFG_REF c) true)
  else ({ s with dirty := s.dirty.filter (fun a => ! l.contains a) } : State).submit none (.slot c (l.map (fun a => (a, s.word a))))

/-- Whether an APPLY of a channel is accepted and not in force (SLT_CH_CUR.PEND). -/
def State.slotPend (s : State) (c : Nat) : Bool :=
  s.due.any (fun d => match d.act with
    | .slot k _ => k == c
    | _ => false)

/-- The staged words of a channel take effect at a Daybreak: every breaker counter resets (Table 16-5 case 8). Without a later APPLY, what is not
staged again reads as in force. -/
def State.slotApplied (s : State) (c : Nat) (words : NMap Word) : State :=
  let s1 := words.foldl (fun s e => { s with force := rput s.force e.1 (resetWord e.1) e.2 }) s
  let s2 := if s1.slotPend c then s1 else ((slotWords c).filter (fun a => ! s1.dirty.contains a)).foldl State.revertWord s1
  s2.setSlot c { s2.slot c with cnt := [], calm := [] }

end Sys2Proof.Machine
end

