-- ==== Sys2Proof/Machine/Lanes.lean ====
section
/-! DEFINITION. Lanes (chapter 4): the signal and lock detectors, parking, eye sweeps, and the pattern engines. -/
namespace Sys2Proof.Machine
open Sys2Proof

/-! ### Detectors (R78, R79) -/

/-- Whether a lane is in an electrical idle the link state expects (R78): its port is in L1, L0p has idled it, or its port is disabled in role, its lanes
powered down. -/
def State.expectedIdle (s : State) (l : Nat) : Bool :=
  let p := s.portOfLane l
  s.role p == 0 || (s.linkUp p && s.fld (PRT_PM_STAT_STATE p) == 2) ||
    ((s.trainedLanes p).contains l && ! s.bit (LAN_STAT_IN_USE l))

/-- Whether a lane is in use and its detectors act. -/
def State.laneWatched (s : State) (l : Nat) : Bool := decide (l < 512) && s.linkUp (s.portOfLane l) && s.bit (LAN_STAT_IN_USE l) && ! s.expectedIdle l

/-- Whether a lane's pattern engine runs. -/
def State.engineOn (s : State) (l : Nat) : Bool := s.bit (LAN_PAT_STAT_ACTIVE l)

/-- The tick since which a lane's port has been in a Recovery that still lasts: an ISL's, until its link is back. -/
def State.recoveringSince (s : State) (l : Nat) : Option Nat :=
  match s.islOf (s.portOfLane l) with
  | some i => if s.islSt i = 5 then some (s.islAt i).downAt else none
  | none => none

/-- The failures of a lane in the last second with one more, now; LOS and LOL within one Recovery are one failure (Table 4-1 case 5). The Recovery of
a host or downstream port begins and ends at one tick (log entry 181). -/
def State.noteFailure (s : State) (l cause : Nat) : Nat × State :=
  let old := (mgetD s.lan.fails l []).filter (fun f => decide (s.now < f.1 + 1000000000))
  let same := match old.head? with
    | some (t, c) => (match s.recoveringSince l with
      | some r => decide (r ≤ t)
      | none => false) || (t == s.now && c != cause)
    | none => false
  let new := if same then old else (s.now, cause) :: old
  (new.length, { s with lan.fails := mputD s.lan.fails l [] new })

/-- The rate of a pattern engine (R83): that of its port, or MAX_RATE while the link is not up. -/
def State.patRate (s : State) (l : Nat) : Nat :=
  let p := s.portOfLane l
  if s.linkUp p then s.fld (PRT_LINK_STAT_RATE p) else s.maxRate p

/-- The bits a lane sends in a number of ticks, in halves. -/
def State.patHalves (s : State) (l ticks : Nat) : Nat := rate2 (s.patRate l) * ticks

/-- The tick at which a checker that sees correct bits from now on has seen 64 of them (R84). -/
def State.lockTick (s : State) (l : Nat) : Nat := let h := rate2 (s.patRate l); s.now + (if h = 0 then 0 else (128 + h - 1) / h)

/-- Whether a lane's checker is locked (R84). -/
def State.patLocked (s : State) (l : Nat) : Bool :=
  match mget s.lan.chk l with
  | some c => decide (c.lockAt ≤ s.now)
  | none => false

/-- A lane's checker loses lock, and relocks after 64 correct bits (R84). -/
def State.patUnlock (s : State) (l : Nat) : State :=
  { s with lan.chk := mmod s.lan.chk l (fun c => { c with lockAt := s.lockTick l, errs := [] }) }

/-- A lane declares LOS (cause 1) or LOL (cause 2) (R79): a lane in use takes its port to Recovery, and is parked if it fails there or for its third
failure in one second; on a lane that runs a pattern the checker loses lock (Table 4-1 case 1). What a lane not in use declares only shows. -/
def State.laneLost (s : State) (l cause : Nat) (fails : Bool) : State :=
  let seen := if cause = 1 then LAN_STAT_LOS_SEEN l else LAN_STAT_LOL_SEEN l
  let cnt := if cause = 1 then LAN_STAT_LOS_CNT l else LAN_STAT_LOL_CNT l
  let now := if cause = 1 then LAN_STAT_LOS l else LAN_STAT_LOL l
  if s.engineOn l then (s.patUnlock l).setBit seen true
  else if s.expectedIdle l then s
  else if ! s.laneWatched l then (s.setBit seen true).setBit now true
  else
    let p := s.portOfLane l
    let a := (((s.setBit seen true).setBit now true).inc cnt).noteFailure l cause
    if fails ∨ 3 ≤ a.1 then a.2.parkLane l cause
    else
      let s1 := a.2.portRecover p
      if (s1.recoveringSince l).isSome then s1 else s1.setBit now false

/-- Whether an amplitude in mV, held for a time in ns, is a loss of signal (R78). -/
def State.isLos (s : State) (l mv ns : Nat) : Bool := decide (mv < 20 + 10 * s.fld (LAN_CTL_LOS_THR l)) && decide (100 ≤ ns)

/-- A lane's amplitude in mV has stayed low for `ns`; `idle` says that an electrical-idle ordered set announced it, `fails` that it reaches no lock and
alignment in the Recovery that follows. -/
def execLaneSignalLoss (l mv ns : Nat) (idle fails : Bool) (s : State) : Host.Outcome State Fault Refusal :=
  s.done (if l < 512 ∧ ! idle ∧ s.isLos l mv ns then s.laneLost l 1 fails else s)

/-- Whether a frequency error in ppm, held for a time in ns, or a loss of block alignment is a loss of lock (R77, R78). -/
def State.isLol (s : State) (l ppm ns : Nat) (align : Bool) : Bool :=
  align || (decide (10 * s.fld (LAN_CTL_LOL_PPM l) < ppm) && decide (1000 ≤ ns))

/-- A lane's CDR frequency error in ppm has lasted for `ns`, or the lane has lost block alignment (`align`); `idle` and `fails` are as for a loss of signal. -/
def execLaneLockLoss (l ppm ns : Nat) (align idle fails : Bool) (s : State) : Host.Outcome State Fault Refusal :=
  s.done (if l < 512 ∧ ! idle ∧ s.isLol l ppm ns align then s.laneLost l 2 fails else s)

/-! ### Writes of LAN_CTL (R76, R80, R81) -/

/-- Whether a write of LAN_CTL is dropped for its preset code. -/
def presetOk (w : Word) : Bool := decide (getBits w 0 4 ≤ 10) || getBits w 0 4 == 15

/-- Whether parking a lane would leave its port no lane set (Table 4-1 case 2). -/
def State.parkStrands (s : State) (l : Nat) : Bool :=
  let p := s.portOfLane l
  s.formed p && ((s.setBit (LAN_STAT_PARKED l) true).bestSet p 4).isNone

/-- What a write of LAN_CTL does: a fixed preset is transmitted from now on (R76), EYE_EN set begins a sweep (R82), and PARK written 1 parks the lane
at once. -/
def State.lanWritten (s : State) (l : Nat) (old : Word) : State :=
  let s1 := if s.fld (LAN_CTL_TX_PRESET l) ≤ 10 then s.setFld (LAN_EQ_PRESET_CUR l) (s.fld (LAN_CTL_TX_PRESET l)) else s
  let s2 : State := if s1.bit (LAN_CTL_EYE_EN l) ∧ ! getBit old 17 then { s1 with lan.eyeFrom := mput s1.lan.eyeFrom l s1.time.frame } else s1
  if s2.bit (LAN_CTL_PARK l) ∧ ! s2.parked l then s2.parkLane l 3 else s2

/-! ### Eye sweeps (R82) -/

/-- An eye sweep of a lane in use completes, 64 frames after it began: height in units of 2 mV, width in units of 1/256 UI. LAN_EYE takes it at the next
Daybreak, and the next sweep begins. -/
def State.eyeDone (s : State) (l height width : Nat) : State :=
  if s.laneWatched l ∧ s.sweeps l ∧ mgetD s.lan.eyeFrom l 0 + 64 ≤ s.time.frame then
    { s with lan.eyeDue := mput s.lan.eyeDue l (height % 256, width % 256), lan.eyeFrom := mput s.lan.eyeFrom l s.time.frame }
  else s

def execEyeSweepDone (l height width : Nat) (s : State) : Host.Outcome State Fault Refusal := s.done (s.eyeDone l height width)

/-- LAN_EYE takes a result. -/
def State.takeEye (s : State) (l : Nat) (r : Nat × Nat) : State :=
  let s1 := (((s.setFld (LAN_EYE_HEIGHT l) r.1).setFld (LAN_EYE_WIDTH l) r.2).setBit (LAN_EYE_VALID l) true).setFld (LAN_EYE_SEQ l) (s.fld (LAN_EYE_SEQ l) + 1)
  if r.1 < s.fld TWL_EYE_THR_HEIGHT_MIN ∨ r.2 < s.fld TWL_EYE_THR_WIDTH_MIN then s1.setBit (LAN_EYE_LOW l) true else s1

/-- At a Daybreak LAN_EYE takes every result that waits. Answers the lanes with a new result. -/
def State.takeEyes (s : State) : List Nat × State :=
  (mkeys s.lan.eyeDue, s.lan.eyeDue.foldl (fun s e => s.takeEye e.1 e.2) { s with lan.eyeDue := [] })

/-! ### Pattern engines (R83 to R86) -/

/-- Whether a lane is in a state in which the pattern engine is accepted (R83). -/
def State.engineAccepted (s : State) (l : Nat) : Bool :=
  let p := s.portOfLane l
  s.parked l || (s.formed p && s.role p != 0 && s.bit (PRT_LINK_CTL_LINK_DIS p))

/-- Whether a lane is a parked lane of a port that is up. -/
def State.parkedOfUp (s : State) (l : Nat) : Bool := s.parked l && s.linkUp (s.portOfLane l)

/-- What a write of LAN_PAT_CTL comes to (R83): dropped for a reserved code, refused, or accepted. -/
inductive PatWrite where
  | drop | refuse | take
  deriving DecidableEq, Repr

/-- Judges a write of LAN_PAT_CTL. -/
def State.patJudge (s : State) (l : Nat) (w : Word) : PatWrite :=
  let loop := getBits w 5 2
  let run := getBit w 3 || getBit w 4
  if 4 < getBits w 0 3 ∨ loop = 3 ∨ 20 < getBits w 8 5 then .drop
  else if ! (run || loop != 0) then .take
  else if ! s.engineAccepted l then .refuse
  else if s.parkedOfUp l then
    (if loop = 2 ∨ (run ∧ loop ≠ 1 ∧ s.fld (LAN_PAT_CTL_LOOP l) ≠ 1) then .refuse else .take)
  else .take

/-- The engine's status follows its settings. The checker locks on the lane's own pattern through the near-end loop (R84; log entry 60). -/
def State.patStatus (s : State) (l : Nat) : State :=
  let gen := s.bit (LAN_PAT_CTL_GEN_EN l)
  let chk := s.bit (LAN_PAT_CTL_CHK_EN l)
  let loop := s.fld (LAN_PAT_CTL_LOOP l)
  let pat := s.fld (LAN_PAT_CTL_PAT l)
  let s1 := s.setBit (LAN_PAT_STAT_ACTIVE l) (gen || chk || loop != 0)
  let s2 : State :=
    if ! (gen && chk && loop == 1 && pat != 0) then { s1 with lan.chk := mdel s1.lan.chk l }
    else if (mget s1.lan.chk l).any (fun c => c.pat == pat) then s1
    else { s1 with lan.chk := mput s1.lan.chk l { pat := pat, lockAt := s1.lockTick l } }
  if gen then s2 else { s2 with lan.patBits := mdel s2.lan.patBits l }

/-- Pattern errors reach ERR_CNT while the checker is locked (R84, R85). -/
def State.patErrors (s : State) (l n : Nat) : State := if s.patLocked l then s.addSat (LAN_PAT_STAT_ERR_CNT l) n else s

/-- INJ flips one transmitted bit (R85): a checker that is locked counts it, and loses lock at more than 32 errors in 1,024 bits; one that is not yet
locked begins its 64 correct bits again (R84). -/
def State.inject (s : State) (l : Nat) : State :=
  match mget s.lan.chk l with
  | none => s
  | some c =>
    let errs := s.now :: c.errs.filter (fun t => decide (s.patHalves l (s.now - t) < 2048))
    if ! s.patLocked l then s.patUnlock l
    else if 32 < errs.length then (s.patErrors l 1).patUnlock l
    else (({ s with lan.chk := mput s.lan.chk l { c with errs := errs } } : State)).patErrors l 1

/-- A write of LAN_PAT_CTL: settings, then CLR, then INJ. On a parked lane of a port that is up, clearing the near-end loop clears the generator and
the checker too. -/
def State.patWrite (s : State) (l : Nat) (w : Word) : State :=
  match s.patJudge l w with
  | .drop => s
  | .refuse => s.setBit (LAN_PAT_STAT_REFUSED l) true
  | .take =>
    let off := s.parkedOfUp l && getBits w 5 2 != 1
    let s1 := ((s.setFld (LAN_PAT_CTL_PAT l) (getBits w 0 3)).setBit (LAN_PAT_CTL_GEN_EN l) (getBit w 3 && ! off)).setBit (LAN_PAT_CTL_CHK_EN l)
      (getBit w 4 && ! off)
    let s2 := ((s1.setFld (LAN_PAT_CTL_LOOP l) (getBits w 5 2)).setFld (LAN_PAT_CTL_INJ_RATE l) (getBits w 8 5)).patStatus l
    let s3 := if getBit w 13 then s2.setFld (LAN_PAT_STAT_ERR_CNT l) 0 else s2
    if getBit w 7 then s3.inject l else s3

/-- The pattern bits of a frame, and the flips that INJ_RATE makes in them (R85). -/
def State.patFrame (s : State) (l : Nat) : State :=
  let n := s.fld (LAN_PAT_CTL_INJ_RATE l)
  if n = 0 ∨ ! s.bit (LAN_PAT_CTL_GEN_EN l) then s
  else
    let b := mgetD s.lan.patBits l 0 + s.patHalves l s.time.len / 2
    let every := 2 ^ (n + 10)
    ({ s with lan.patBits := mputD s.lan.patBits l 0 (b % every) } : State).patErrors l (b / every)

/-- Every running pattern engine at the end of a frame. -/
def State.patFrames (s : State) : State := ((List.range 512).filter s.engineOn).foldl State.patFrame s

/-- Pattern engines of a port's lanes that have left the states R83 accepts stop (R86). -/
def State.stopEngines (s : State) (p : Nat) : State :=
  (s.laneSet p (s.lanesOf p) false).foldl (fun s l => if s.engineOn l ∧ ! s.engineAccepted l then s.stopEngine l else s) s

end Sys2Proof.Machine
end

