-- ==== Sys2Proof/Machine/Ports.lean ====
section
/-! DEFINITION. Ports (chapter 3): link control, IDE, the host's configuration writes and Bus Master Enable, virtual downstream ports, and the
opcodes of group 0x03. -/
namespace Sys2Proof.Machine
open Sys2Proof

/-! ### Link control (R15, R58, R86) -/

/-- A link is disabled: its port goes down, and an ISL with it in whatever state it is (R112). -/
def State.disableLink (s : State) (p : Nat) : State :=
  match s.islOf p with
  | some i => (s.declareDown p).islDown i
  | none => s.declareDown p

/-- LINK_DIS of a port is set or cleared: a link that is disabled goes down, one released stops its pattern engines and trains. -/
def State.linkDisabled (s : State) (p : Nat) (was : Bool) : State :=
  let now := s.bit (PRT_LINK_CTL_LINK_DIS p)
  if now == was then s
  else if now then (s.disableLink p).refreshPerst (p / 4)
  else (s.stopEngines p).refreshPerst (p / 4)

/-- Opcode 0x0301's actions: 0 retrain, 1 disable, 2 enable the link. -/
def portControl (port action : Nat) (_ : Principal) (s : State) : Ans :=
  if 128 ≤ port ∨ ! s.formed port ∨ 2 < action then s.refuse .parameter
  else if action = 0 then (s.retrain port).okNow
  else ((s.setBit (PRT_LINK_CTL_LINK_DIS port) (action == 1)).linkDisabled port (s.bit (PRT_LINK_CTL_LINK_DIS port))).okNow

def execPortControl (rq : Rq) (port action : Nat) (s : State) : Host.Outcome State Fault Refusal :=
  s.done (xib 0x0301 rq (.portControl rq port action) s (portControl port action))

/-! ### Link IDE (R61 to R64) -/

/-- A management function's target can deliver again (R74, R396): one message for each vector that is pending and unmasked, in ascending order. -/
def State.redeliver (s : State) (fn : Nat) : State :=
  let s1 := (List.range 64).foldl (fun s v => match s.sourceOfVector fn v with
    | some _ => s.emit (.msg fn v)
    | none => s) s
  if (s.mf fn).bme ∧ ((s.mf fn).msix ∨ (s.mf fn).msi) then s1 else s.refreshLevel fn

/-- An IDE stream of a port becomes secure: CXL.io, or CXL.cachemem (`cm`), with keys programmed over SPDM (R61, R62). -/
def State.ideSecure (s : State) (p : Nat) (cm : Bool) : State :=
  if 128 ≤ p ∨ ! s.linkUp p ∨ s.role p = 3 then s
  else
    let was := s.targetUp p
    let s1 := (s.setPx p { s.px p with keys := true }).setBit (if cm then PRT_IDE_STAT_CM_SECURE p else PRT_IDE_STAT_IO_SECURE p) true
    if ! was ∧ s1.targetUp p then s1.redeliver p else s1

def execIdeStreamSecure (p : Nat) (cm : Bool) (s : State) : Host.Outcome State Fault Refusal := s.done (s.ideSecure p cm)

/-- An IDE integrity check fails (R64): the stream is insecure, the port is declared down and its keys are of no more use. -/
def State.ideFail (s : State) (p : Nat) (cm : Bool) : State :=
  let f := if cm then PRT_IDE_STAT_CM_SECURE p else PRT_IDE_STAT_IO_SECURE p
  if 128 ≤ p ∨ ! s.linkUp p ∨ ! s.bit f then s
  else
    let s1 := (((s.setBit f false).setPx p { s.px p with keys := false }).setBit (PRT_IDE_STAT_INTEG_FAIL p) true).inc (PRT_IDE_STAT_FAIL_CNT p)
    ((s1.reportCode 0x0202 p none 0).raisePort p).declareDown p

def execIdeIntegrityFail (p : Nat) (cm : Bool) (s : State) : Host.Outcome State Fault Refusal := s.done (s.ideFail p cm)

/-- Opcode 0x0309 (R61): the key set in use changes over without losing traffic. Without keys there is none to change (the state status). -/
def execIdeKeyRefresh (rq : Rq) (port : Nat) (s : State) : Host.Outcome State Fault Refusal :=
  s.done (xib 0x0309 rq (.ideKeyRefresh rq port) s fun _ s =>
    if 128 ≤ port ∨ ! s.formed port ∨ (s.role port ≠ 1 ∧ s.role port ≠ 2) then s.refuse .parameter
    else if ! s.linkUp port ∨ ! (s.px port).keys then s.refuse .state
    else (s.setPx port { s.px port with keySet := ! (s.px port).keySet }).okNow)

/-! ### Bus Master Enable and the host's configuration writes (R65, R66, R69, R72 to R74) -/

/-- A read of host memory that completes with its data discarded (Table 3-6 case 4) abandons the descriptor fetch that needed it (R250); `n` queues of
the port had one outstanding, in order. -/
def State.abandonFetches (s : State) (fn n : Nat) : State :=
  (((List.range 32).filter (fun q => s.bit (OXB_BQ_CFG_EN q) && s.queuePort q == fn && s.bulkWaiting q)).take n).foldl
    (fun s q => s.setBit (OXB_BQ_STAT_FETCH_ERR q) true) s

/-- The host clears Bus Master Enable of a function (R73, Table 3-6) with messages, writes and reads in flight. Drops are counted for host ports. -/
def State.bmeClear (s : State) (fn msis writes reads : Nat) : State :=
  if 128 < fn ∨ ! (s.mf fn).bme then s
  else
    let s1 := s.setMf fn { s.mf fn with bme := false }
    if fn = 128 then s1
    else
      let s2 := ((s1.addSat (PRT_MF_DROP_MSI_DROP fn) msis).addSat (PRT_MF_DROP_WR_DROP fn) writes).addSat (PRT_MF_DROP_RD_DISC fn) reads
      let s3 := ((if writes = 0 then s2 else s2.abandonDump fn).harvestsLost fn).abandonFetches fn reads
      if msis + writes + reads = 0 then s3 else s3.setBit (PRT_MF_STAT_DROP_SEEN fn) true

/-- `msis` messages and `writes` writes are not yet issued, and `reads` reads of host memory are outstanding. -/
def execBusMasterDisable (fn msis writes reads : Nat) (s : State) : Host.Outcome State Fault Refusal := s.done (s.bmeClear fn msis writes reads)

/-- The host sets Bus Master Enable again (R74): one message for each vector that is pending and unmasked, in ascending order. -/
def State.bmeSet (s : State) (fn : Nat) : State :=
  if 128 < fn ∨ (s.mf fn).bme then s
  else
    let s1 := s.setMf fn { s.mf fn with bme := true }
    if s1.targetUp fn then s1.redeliver fn else s1

def execBusMasterEnable (fn : Nat) (s : State) : Host.Outcome State Fault Refusal := s.done (s.bmeSet fn)

/-- Changes a virtual downstream port that holds something. -/
def State.setVdp (s : State) (k : Nat) (f : Vdp → Vdp) : State := { s with prt.vdp := mmod s.prt.vdp k f }

/-- A write of the host to configuration space: of a management function, or of its virtual switch. A write to a register of a virtual memory device that
the TSP lock covers is refused (R65). -/
def State.cfgWrite (s : State) (fn : Nat) (c : CfgWrite) : State :=
  let m := s.mf fn
  match c with
  | .msix on => (s.setMf fn { m with msix := on }).refreshLevel fn
  | .msi on n => (s.setMf fn { m with msi := on, msiN := min (max n 1) 32 }).refreshLevel fn
  | .intDis on => (s.setMf fn { m with intDis := on }).refreshLevel fn
  | .vecMask v on =>
    let s1 := s.setMf fn { m with vecMask := if on then sadd m.vecMask (v % 64) else sdel m.vecMask (v % 64) }
    if on then s1 else match s1.sourceOfVector fn (v % 64) with
      | some c => s1.signal fn c
      | none => s1
  | .pwrInd v n => s.setVdp (fn * 128 + v) (fun x => { x with pwrInd := n % 4 })
  | .stateSeen v => s.setVdp (fn * 128 + v) (fun x => { x with dllsc := false })
  | .lockedReg v => match (mgetD s.prt.vdp (fn * 128 + v) {}).hold with
    | .vmd _ => if (mgetD s.prt.vdp (fn * 128 + v) {}).tspLock then s.emit (.unsupported fn v) else s
    | _ => s
  | .aspm on => s.setPx fn { s.px fn with aspm := on }
  | .l0p on => s.setPx fn { s.px fn with l0pHost := on }
  | .tspLock v on => s.setVdp (fn * 128 + v) (fun x => match x.hold with
      | .vmd _ => { x with tspLock := on }
      | _ => x)
  | .dpcRelease v =>
    let s1 := s.setVdp (fn * 128 + v) (fun x => { x with dpc := false })
    match mget s1.prt.vdp (fn * 128 + v) with
    | some x => match x.hold with
      | .phys q _ => if (s1.vdpsOf q).any (fun k => (mgetD s1.prt.vdp k {}).dpc) then s1 else s1.setBit (PRT_HP_STAT_DPC q) false
      | _ => s1
    | none => s1
  | .attention v => s.setVdp (fn * 128 + v) (fun x => { x with attn := true })

/-- A configuration or BAR write of the host that enumerates a function. The virtual switch is that of a host port (R59). -/
def execConfigurationWrite (fn : Nat) (c : CfgWrite) (s : State) : Host.Outcome State Fault Refusal :=
  s.done (match c with
    | .msix _ | .msi _ _ | .intDis _ | .vecMask _ _ => if fn = 128 ∨ s.isHost fn then s.cfgWrite fn c else s
    | .tspLock v _ | .dpcRelease v | .attention v | .pwrInd v _ | .stateSeen v | .lockedReg v => if s.isHost fn ∧ v < 128 then s.cfgWrite fn c else s
    | .aspm _ | .l0p _ => if s.isHost fn then s.cfgWrite fn c else s)

/-! ### Virtual downstream ports (R59, R60, R69) -/

/-- Whether an accepted bind or unbind of a virtual downstream port, or of a device of a port, waits for its Daybreak. -/
def State.vdpDue (s : State) (k p : Nat) : Bool :=
  s.due.any (fun d => match d.act with
    | .bindVdp h v q _ => h * 128 + v == k || q == p
    | .unbindVdp h v _ => h * 128 + v == k
    | _ => false)

/-- Whether a logical device of a port, or its whole device (255), is bound already (R59, R60). -/
def State.devBound (s : State) (p ld : Nat) : Bool :=
  s.prt.vdp.any (fun e => match e.2.hold with
    | .phys q d => q == p && s.sameDevice p d ld
    | _ => false)

/-- Opcode 0x0303's checks (R59, R60, R268): a device of a downstream port that is no pool port, to an empty port of a host's switch. -/
def bindVdp (host vdp port ld : Nat) (_ : Principal) (s : State) : Ans :=
  if 128 ≤ host ∨ ! s.isHost host ∨ 128 ≤ vdp ∨ 128 ≤ port ∨ ! s.formed port ∨ s.role port ≠ 2 ∨ s.isPool port ∨ (16 ≤ ld ∧ ld ≠ 255) then s.refuse .parameter
  else if (mget s.prt.vdp (host * 128 + vdp)).isSome ∨ s.devBound port ld then s.refuse .parameter
  else if s.vdpDue (host * 128 + vdp) port ∨ s.windows.any (fun w => s.winPort w == port) then s.refuse .busy
  else (s.submit none (.bindVdp host vdp port ld)).okAt s.effFrame

def execBindVdp (rq : Rq) (host vdp port ld : Nat) (s : State) : Host.Outcome State Fault Refusal :=
  s.done (xib 0x0303 rq (.bindVdp rq host vdp port ld) s (bindVdp host vdp port ld))

/-- A bind takes effect at a Daybreak: the host sees a hot-add (R69). -/
def State.applyBind (s : State) (h v p ld : Nat) : State :=
  let k := h * 128 + v
  if (mget s.prt.vdp k).isSome ∨ s.role p ≠ 2 ∨ s.isPool p ∨ ! s.isHost h ∨ s.devBound p ld then s
  else ({ s with prt.vdp := mput s.prt.vdp k { hold := .phys p ld, present := s.linkUp p, dllsc := s.linkUp p } } : State).emit (.vdp h v 0 0)

/-- Opcode 0x0304's checks (R69): the unbind of a virtual memory device whose binding holds extents is refused unless forced. -/
def unbindVdp (host vdp force : Nat) (_ : Principal) (s : State) : Ans :=
  let k := host * 128 + vdp
  if 128 ≤ host ∨ ! s.isHost host ∨ 128 ≤ vdp ∨ 1 < force then s.refuse .parameter
  else match mget s.prt.vdp k with
    | none => s.refuse .parameter
    | some x =>
      if s.vdpDue k 256 then s.refuse .busy
      else match x.hold with
        | .vmd b =>
          if s.bnd.unbinding.contains b then s.refuse .busy
          else if force = 0 ∧ (s.extents b).any (fun e => e.st == .accepted) then s.refuse .busy
          else (s.submit none (.unbindVdp host vdp (force == 1))).okAt s.effFrame
        | _ => (s.submit none (.unbindVdp host vdp (force == 1))).okAt s.effFrame

def execUnbindVdp (rq : Rq) (host vdp force : Nat) (s : State) : Host.Outcome State Fault Refusal :=
  s.done (xib 0x0304 rq (.unbindVdp rq host vdp force) s (unbindVdp host vdp force))

/-- Messages a host has queued for a device that is unbound are handled as for a port that is down (Table 3-5). -/
def State.unbindFlush (s : State) (h p ld : Nat) : State := s.flushWhere p (fun m => m.src == h && s.sameDevice p ld m.ld)

/-- A commit to IDE policy takes effect: what is queued for a port in a protocol it forwards no more is handled as for a port that is down (R62). -/
def State.ideApplied (s : State) (p : Nat) : State := s.flushWhere p (s.ideBlocked p)

/-- An unbind takes effect at a Daybreak (R69): an orderly removal where the host has agreed to it, and a surprise removal where it is forced. What
the host sees of an unforced unbind that it has not agreed to is free (log entry 34). A virtual memory device's binding is released first (Table
7-6 case 8). -/
def State.applyUnbind (s : State) (h v : Nat) (force : Bool) : State :=
  let k := h * 128 + v
  match mget s.prt.vdp k with
  | none => s
  | some x =>
    let s1 :=
      if force then s.emit (.vdp h v 2 0)
      else if x.attn then s.emit (.vdp h v 1 0)
      else let u := s.draw; u.2.emit (.vdp h v (1 + u.1 % 2) 0)
    match x.hold with
    | .vmd b => s1.forceUnbind b
    | .phys p ld => ({ s1 with prt.vdp := mdel s1.prt.vdp k } : State).unbindFlush h p ld
    | .empty => { s1 with prt.vdp := mdel s1.prt.vdp k }

/-- A committed binding's virtual memory device appears in its virtual downstream port as a hot-add, and goes with the binding (R69, R140). -/
def State.bindingVdp (s : State) (b : Nat) : State :=
  let k := s.cur (BND_CFG_HOST_PORT b) * 128 + s.cur (BND_CFG_VDP b)
  let s1 : State := { s with prt.vdp := s.prt.vdp.filter (fun e => e.2.hold != .vmd b || (s.bndValid b && e.1 == k)) }
  if s.bndValid b ∧ (mget s1.prt.vdp k).isNone then
    ({ s1 with prt.vdp := mput s1.prt.vdp k { hold := .vmd b, present := true, dllsc := true } } : State).emit (.vdp (k / 128) (k % 128) 0 0)
  else s1

/-- Opcode 0x0305: an AER event at a virtual downstream port. -/
def genAer (host vdp header : Nat) (_ : Principal) (s : State) : Ans :=
  if 128 ≤ host ∨ ! s.isHost host ∨ 128 ≤ vdp then s.refuse .parameter
  else (s.emit (.vdp host vdp 3 header)).okNow

def execGenerateAer (rq : Rq) (host vdp header : Nat) (s : State) : Host.Outcome State Fault Refusal :=
  s.done (xib 0x0305 rq (.generateAer rq host vdp header) s (genAer host vdp header))

/-! ### Status and relayed requests -/

/-- The word of PRT_CFG_STAT (R51). -/
def State.cfgStat (s : State) (p : Nat) : Word :=
  BitVec.ofNat 32 (s.cur (PRT_CFG_BIF p) + s.cur (PRT_CFG_ROLE p) * 4 + s.cur (PRT_CFG_PCIE_ONLY p) * 16 + s.cur (PRT_CFG_POOL p) * 32)

/-- The word of PRT_IDE_STAT, with skid mode in force and whether the port carries a Sealed binding (R63). -/
def State.ideStat (s : State) (p : Nat) : Word :=
  setBits (setBits (s.word (PRT_IDE_STAT p)) 2 1 (s.cur (PRT_IDE_CTL_SKID p))) 3 1 (if s.carriesSealed p then 1 else 0)

/-- Opcode 0x0300: the four status words of a port. -/
def getPort (port : Nat) (_ : Principal) (s : State) : Ans :=
  if 128 ≤ port then s.refuse .parameter
  else s.readAns [(4, (s.cfgStat port).toNat), (4, (s.word (PRT_LINK_STAT port)).toNat), (4, (s.ideStat port).toNat), (4, (s.word (PRT_HP_STAT port)).toNat)]

def execGetPort (rq : Rq) (port : Nat) (s : State) : Host.Outcome State Fault Refusal :=
  s.done (xib 0x0300 rq (.getPort rq port) s (getPort port))

/-- A request passed on to a port's partner, which answers with a completion: the port must be up, and not an ISL. -/
def relay (op port ld request : Nat) (s : State) (data : List (Nat × Nat)) : Ans :=
  if 128 ≤ port ∨ ! s.formed port ∨ s.role port = 3 ∨ 16 ≤ ld then s.refuse .parameter
  else if ! s.linkUp port then s.refuse .state
  else (s.emit (.relay op port ld request)).readAns data

/-- Opcode 0x0302. `completion` is what the partner answers. -/
def execPpbConfigurationRequest (rq : Rq) (port request completion : Nat) (s : State) : Host.Outcome State Fault Refusal :=
  s.done (xib 0x0302 rq (.ppbConfigurationRequest rq port request completion) s fun _ s => relay 0x0302 port 0 request s [(8, completion)])

/-- Opcode 0x0306. -/
def execLdConfigurationRequest (rq : Rq) (port ld request completion : Nat) (s : State) : Host.Outcome State Fault Refusal :=
  s.done (xib 0x0306 rq (.ldConfigurationRequest rq port ld request completion) s fun _ s => relay 0x0306 port ld request s [(8, completion)])

/-- What opcode 0x0307 passes on: address, length and data. -/
def ldRequest (addr len data : Nat) : Nat := addr % 2 ^ 64 + len % 2 ^ 16 * 2 ^ 64 + data * 2 ^ 80

/-- Opcode 0x0307. `reply` is the data the device answers, in the length asked for. -/
def execLdMemoryRequest (rq : Rq) (port ld addr len data reply : Nat) (s : State) : Host.Outcome State Fault Refusal :=
  s.done (xib 0x0307 rq (.ldMemoryRequest rq port ld addr len data reply) s fun _ s => relay 0x0307 port ld (ldRequest addr len data) s [(len, reply)])

/-- Opcode 0x0308. `reply` is the device's CCI reply of `size` bytes. -/
def execMldTunnel (rq : Rq) (port ld command size reply : Nat) (s : State) : Host.Outcome State Fault Refusal :=
  s.done (xib 0x0308 rq (.mldTunnel rq port ld command size reply) s fun _ s => relay 0x0308 port ld command s [(size, reply)])

end Sys2Proof.Machine
end

