-- ==== Sys2Proof/Machine/Counters.lean ====
section
/-! DEFINITION. Counters (chapter 18): selects, snapshots, the dump ring and the binding pages. -/
namespace Sys2Proof.Machine
open Sys2Proof

/-! ### Selects (R400) -/

/-- The events of a unit (Table 18-2), by its number (Table 18-1). -/
def unitEvents (u : Nat) : List Nat :=
  if u < 128 then [0x010, 0x011, 0x012, 0x013]
  else if u < 256 then [0x020, 0x021, 0x022, 0x023]
  else if u < 272 then [0x030, 0x031, 0x032, 0x033, 0x034, 0x035]
  else if u < 336 then [0x040, 0x041]
  else if u < 340 then [0x050, 0x051]
  else if u = 340 then [0x060]
  else if u = 341 then [0x070, 0x071]
  else if u < 350 then [0x080, 0x081]
  else if u = 350 then [0x090, 0x091]
  else if u = 351 then [0x0A0]
  else []

/-- Whether an event is a message event. -/
def messageEvent (ev : Nat) : Bool := [0x011, 0x020, 0x021].contains ev

/-- Whether a select may be committed for a unit (R400). -/
def selectOk (u : Nat) (w : Word) : Bool :=
  let ev := getBits w 0 10
  (ev == 0 || (unitEvents u).contains ev) && (messageEvent ev || getBits w 10 12 == 0)

/-- The unit and counter of a select register's address. -/
def selOfAddr (a : Nat) : Option (Nat × Nat) :=
  if 0xA0000 ≤ a ∧ a < 0xA0000 + 352 * 0x400 ∧ (a - 0xA0000) % 0x400 < 0x20 then some ((a - 0xA0000) / 0x400, (a - 0xA0000) % 0x400 / 4) else none

/-- A select takes effect: a counter whose select changes restarts at 0 (R400). -/
def State.selApplied (s : State) (u k : Nat) (was : Word) : State :=
  if s.curWord (CNT_SEL u k) = was then s
  else { s with cnt.live := mdel s.cnt.live (u * 8 + k), cnt.restarted := sadd s.cnt.restarted (u * 8 + k) }

/-- Opcode 0x0B00: stages a unit's eight selects. -/
def execConfigureCounterUnit (rq : Rq) (unit : Nat) (selects : List Nat) (s : State) : Host.Outcome State Fault Refusal :=
  s.done (xib 0x0B00 rq (.configureCounterUnit rq unit selects) s fun _ s =>
    s.staging rq fun s =>
      if 351 < unit ∨ selects.length ≠ 8 then s.refuse .parameter
      else ((List.range 8).foldl (fun s k => s.stageWord (CNT_SEL unit k) (BitVec.ofNat 32 (selects.getD k 0))) s).okNow)

/-! ### Cycles and what is counted by the cycle -/

/-- The cycle counter of every unit now. -/
def State.cyclesNow (s : State) : Nat := s.coreCycles % 2 ^ 48

/-- The events that count cycles or data movement within a frame, which the model does not time, with the most they count in a cycle: what they
add is free (log entry 61). -/
def cycleEvents : List (Nat × Nat) :=
  [(0x012, 1), (0x022, 1), (0x023, 1), (0x034, 1024), (0x040, 1), (0x041, 1)]

/-- The counters in use, as (unit, counter, event). -/
def State.selsInUse (s : State) : List (Nat × Nat × Nat) :=
  s.force.filterMap (fun e => match selOfAddr e.1 with
    | some (u, k) => some (u, k, getBits e.2 0 10)
    | none => none)

/-- What the cycles of the frame that ends add to the counters. -/
def State.countCycles (s : State) : State :=
  let n := s.cyclesIn s.time.t0 (s.time.t0 + s.time.len)
  let s1 : State := { s with cnt.cyc := s.cnt.cyc + n }
  s1.selsInUse.foldl (fun s x =>
    match cycleEvents.find? (fun e => e.1 == x.2.2) with
    | some e =>
      let v := s.draw
      let i := x.1 * 8 + x.2.1
      { v.2 with cnt.live := mputD v.2.cnt.live i 0 ((mgetD v.2.cnt.live i 0 + v.1 % (e.2 * n + 1)) % 2 ^ 48) }
    | none => s) s1

/-- A counter's live value (j = 0 cycles, j = k + 1 CNTk). -/
def State.liveCount (s : State) (u j : Nat) : Nat := if j = 0 then s.cyclesNow else mgetD s.cnt.live (u * 8 + (j - 1)) 0

/-- A counter's snapshot. -/
def State.snapCount (s : State) (u j : Nat) : Nat := if j = 0 then s.cnt.snapCyc else mgetD s.cnt.snap (u * 8 + (j - 1)) 0

/-! ### Snapshots and dumps (R401, R404 to R406) -/

/-- The record slots of the ring (R402). -/
def State.ringSlots (s : State) : Nat := s.fld CNT_RING_SIZE_SIZE / 80

/-- The base of the ring. -/
def State.ringBase (s : State) : Nat := s.fld CNT_RING_BASE_LO_ADDR * 4096 + s.fld CNT_RING_BASE_HI_ADDR * 2 ^ 32

/-- A dump starts, or is skipped and counted (R404). -/
def State.startDump (s : State) : State :=
  let used := (s.fld CNT_RING_WR_WR + 2 ^ 32 - s.fld CNT_RING_RD_RD) % 2 ^ 32
  if ! s.bit CNT_RING_CTL_EN then { s with cnt.gap := true }
  else if s.cnt.run.isSome then State.inc { s with cnt.gap := true } CNT_LOSS_SKIP_BUSY
  else if s.ringSlots < used + 352 then State.inc { s with cnt.gap := true } CNT_LOSS_SKIP_FULL
  else
    let d : DumpRun := {
      port := s.fld CNT_RING_CTL_PORT, base := s.ringBase, slots := s.ringSlots, first := s.fld CNT_RING_WR_WR, frame := s.nextFrame, seq := s.fld CNT_SEQ_SEQ,
      flags := (if s.unaligned then 1 else 0) + (if s.cnt.hold then 2 else 0) + (if s.cnt.gap then 4 else 0),
      restart := s.cnt.restarted, cycles := s.cnt.snapCyc, counts := s.cnt.snap }
    State.setBit { s with cnt.run := some d, cnt.gap := false, cnt.hold := false, cnt.restarted := [] } CNT_DROP_BUSY true

/-- The pages of bindings take their counts (R406). The latencies and the cycles held since the last snapshot are free (log entry 61). -/
def State.snapPages (s : State) : State :=
  let s1 := s.cnt.pages.foldl (fun s e =>
    let a := s.draw
    let b := a.2.draw
    let was := mgetD s.cnt.pageSnap e.1 {}
    let lat := if e.2.rd = was.rd then e.2.lat else e.2.lat + a.1
    let held := if s.shaped (s.bndTenant e.1) then e.2.heldCyc + b.1 else e.2.heldCyc
    b.2.page e.1 (fun x => { x with lat := lat % 2 ^ 64, heldCyc := held % 2 ^ 64 })) s
  { s1 with cnt.pageSnap := s1.cnt.pages, cnt.pageFrame := s.nextFrame }

/-- The snapshot of a Daybreak whose opened frame is a multiple of EVERY (R401). -/
def State.snapshot (s : State) : State :=
  if s.nextFrame % s.fld CNT_RING_CTL_EVERY ≠ 0 then s
  else
    let s1 : State := { s with cnt.snap := s.cnt.live, cnt.snapCyc := s.cnt.cyc % 2 ^ 48 }
    let s2 := (s1.setFld CNT_SEQ_SEQ (s1.fld CNT_SEQ_SEQ + 1)).setFld64 CNT_SNAP_FRM_LO_FRAME CNT_SNAP_FRM_HI_FRAME s.nextFrame
    s2.snapPages.startDump

/-- The record of a unit in a dump (Table 18-3), 80 bytes. -/
def DumpRun.record (d : DumpRun) (u : Nat) : List Nat :=
  let flags := (List.range 8).foldl (fun n k => if d.restart.contains (u * 8 + k) then n + 2 ^ k else n) 0
  let body := bytesOf d.frame 8 ++ bytesOf u 2 ++ [d.flags, flags] ++ bytesOf d.seq 4 ++ bytesOf d.cycles 6 ++
    (List.range 8).flatMap (fun k => bytesOf (mgetD d.counts (u * 8 + k) 0) 6) ++ List.replicate 6 0
  body ++ bytesOf (crc32 body) 4

/-- The records of a dump, each with the host address of its slot (R402, R404). -/
def DumpRun.records (d : DumpRun) : List (Nat × List Nat) :=
  (List.range 352).map (fun u => (d.base + (d.first + u) % 2 ^ 32 % d.slots * 80, d.record u))

/-- The last record of a dump is issued (R404): WR advances by 352 and private source 3 is raised. Records that cannot be written are dropped and
the dump abandoned (R405). -/
def State.dumpDone (s : State) : State :=
  match s.cnt.run with
  | none => s
  | some d =>
    if ! s.canWrite d.port then (if s.linkUp d.port then s.dropWrite d.port else s).abandonDump d.port
    else
      let s1 := (({ s with cnt.run := none } : State).setFld CNT_RING_WR_WR (s.fld CNT_RING_WR_WR + 352)).setBit CNT_DROP_BUSY false
      (s1.emit (.dump d.port d.records)).raisePrivate d.port 3

def execCounterDumpDone (s : State) : Host.Outcome State Fault Refusal := s.done s.dumpDone

/-! ### The ring's settings (R402, R403) -/

/-- Whether a ring is acceptable (R402). -/
def State.ringOk (s : State) (port base size every : Nat) : Bool :=
  s.isHost port && base % 4096 == 0 && decide (704 ≤ size / 80) && decide (4 ≤ every) && decide (every ≤ 65535)

/-- Opcode 0x0B01: the ring, from a Daybreak; a SIZE of 0 disables it. -/
def execDumpRing (rq : Rq) (port base size every : Nat) (s : State) : Host.Outcome State Fault Refusal :=
  s.done (xib 0x0B01 rq (.dumpRing rq port base size every) s fun _ s =>
    if size = 0 ∨ s.ringOk port base size every then (s.submit none (.dumpRing port base size every)).okAt s.effFrame
    else s.refuse .parameter)

/-- A dump ring takes effect. -/
def State.applyRing (s : State) (port base size every : Nat) : State :=
  if size = 0 then s.setBit CNT_RING_CTL_EN false
  else
    let s1 := ((s.setFld CNT_RING_CTL_PORT port).setFld CNT_RING_CTL_EVERY every).setFld CNT_RING_BASE_LO_ADDR (base / 4096)
    ((s1.setFld CNT_RING_BASE_HI_ADDR (base / 2 ^ 32)).setFld CNT_RING_SIZE_SIZE size).setBit CNT_RING_CTL_EN true

/-- The action of a write of CNT_RING_CTL (R403, R408): a value of EVERY outside its limits is dropped; while EN is 1 only EN changes; setting EN is
checked. -/
def State.ringWrite (s : State) (w : Word) : State :=
  let every := if getBits w 0 16 < 4 then s.fld CNT_RING_CTL_EVERY else getBits w 0 16
  let s0 := if getBit w 24 then s.setBit CNT_RING_CTL_REFUSED false else s
  if s.bit CNT_RING_CTL_EN then s0.setBit CNT_RING_CTL_EN (getBit w 23)
  else
    let s1 := (s0.setFld CNT_RING_CTL_EVERY every).setFld CNT_RING_CTL_PORT (getBits w 16 7)
    if ! getBit w 23 then s1
    else if s1.ringOk (s1.fld CNT_RING_CTL_PORT) s1.ringBase (s1.fld CNT_RING_SIZE_SIZE) every then s1.setBit CNT_RING_CTL_EN true
    else s1.setBit CNT_RING_CTL_REFUSED true

/-! ### Binding pages (R406) -/

/-- Opcode 0x0B02: the page of a binding, for the tenant of its region only while TEN_VIEW is 1. -/
def execReadBindingCounters (rq : Rq) (binding : Nat) (s : State) : Host.Outcome State Fault Refusal :=
  s.done (xib 0x0B02 rq (.readBindingCounters rq binding) s fun p s =>
    if 4096 ≤ binding then s.refuse .parameter
    else
      let mayT := match p with
        | .tenant t => (s.bndValid binding && s.bndTenant binding == t && s.curBit (BND_CFG_TEN_VIEW binding))
        | _ => true
      if ! mayT then s.refuse .permission
      else
        let x := mgetD s.cnt.pageSnap binding {}
        s.readAns [(8, s.cnt.pageFrame), (8, x.rd), (8, x.wr), (8, x.bisnp), (8, x.lat), (8, x.heldCyc), (16, 0)])

end Sys2Proof.Machine
end

