-- ==== Sys2Proof/Machine/Twilight.lean ====
section
/-! DEFINITION. Twilight, repair, the mirror, hitless update and personality (chapter 19). -/
namespace Sys2Proof.Machine
open Sys2Proof

/-! ### Sensors (R409, Table 19-1) -/

/-- How many sensors a class has (Table 19-1). -/
def sensorCount (cls : Nat) : Nat :=
  match cls with
  | 0 => 96 | 1 => 48 | 2 => 512 | 3 => 64 | 4 => 32 | 5 => 2 | _ => 0

/-- Whether a class is sampled at the Daybreak that opens a frame (Table 19-1). Lane eyes are sampled with each result. -/
def sampledAt (cls f : Nat) : Bool :=
  match cls with
  | 0 => f % 2 ^ 20 == 0
  | 1 => f % 1024 == 0
  | 3 => f % 2 ^ 24 == 0
  | 4 => f % 2 ^ 20 == 0
  | 5 => f % 2 ^ 24 == 0
  | _ => false

/-- Whether a class grows worse as its samples rise: all but lane eyes and refresh margins. -/
def worseHigh (cls : Nat) : Bool := cls != 2 && cls != 5

/-- The worse of two samples of a class. -/
def worse (cls a b : Nat) : Nat := if worseHigh cls then max a b else min a b

/-- A sample joins its sensor's interval; a lane eye has a second value, its width. -/
def State.takeSample (s : State) (cls i v v2 : Nat) : State :=
  let x := s.sensor (sensorKey cls i)
  s.setSensor (sensorKey cls i) { x with
    worst := if x.n = 0 then v else worse cls x.worst v, sum := x.sum + v,
    worst2 := if x.n = 0 then v2 else worse cls x.worst2 v2, sum2 := x.sum2 + v2, n := x.n + 1 }

/-- The samples of a Daybreak that its cadences allow: (class, index, value). -/
def admitted (f : Nat) (l : List (Nat × Nat × Nat)) : List (Nat × Nat × Nat) :=
  l.filter (fun e => sampledAt e.1 f && decide (e.2.1 < sensorCount e.1))

/-- The samples of one class. -/
def ofClass (cls : Nat) (l : List (Nat × Nat × Nat)) : List (Nat × Nat) := (l.filter (fun e => e.1 == cls)).map (fun e => e.2)

/-! ### Setpoints and refresh (R411) -/

/-- The VDD_CORE setpoint a slowdown in 0.01 % asks for, at most VMAX: 10 mV for each 1 %, rounded up to a multiple of 5 mV (R411). -/
def State.avsTarget (s : State) (slow : Nat) : Nat := min (s.fld TWL_AVS_VCORE_BASE + (slow + 49) / 50 * 5) (s.fld TWL_AVS_LIM_VMAX)

/-- The largest sample of a list, with its sensor. -/
def largest (l : List (Nat × Nat)) : Option (Nat × Nat) :=
  l.foldl (fun m e => match m with
    | some b => if b.2 < e.2 then some e else some b
    | none => some e) none

/-- A setpoint write that the regulator does not acknowledge is retried three times (R461). -/
def State.avsWrite (s : State) (rail mv : Nat) (ack : Bool) : State :=
  (List.range (if ack then 1 else 4)).foldl (fun s _ => s.emit (.avs rail mv)) s

/-- One AVS step at most: 5 mV towards the target, no sooner than 2^20 frames after the last. At VMAX with the slowdown still rising, the ladder is
exhausted (R411, R413). A write the regulator does not acknowledge keeps the old setpoint, and a forecast is made (R461). -/
def State.avsStep (s : State) (f : Nat) (ack : Bool) (l : List (Nat × Nat)) : State :=
  match largest l with
  | none => s
  | some (i, v) =>
    let rising := decide (s.twl.slow < v)
    let s1 : State := { s with twl.slow := v, twl.slowAt := i }
    let cur := s1.fld TWL_AVS_VCORE_SET
    let t := s1.avsTarget v
    if ! s1.bit TWL_CTL_AUTO_AVS then s1
    else if cur < t ∧ (s1.twl.avsAt = 0 ∨ s1.twl.avsAt - 1 + 2 ^ 20 ≤ f) then
      let n := min t (cur + 5)
      if ! ack then State.exhaust (({ s1 with twl.avsAt := f + 1 } : State).avsWrite 0 n ack) f 0 i
      else (((({ s1 with twl.avsAt := f + 1 } : State).setFld TWL_AVS_VCORE_SET n).inc TWL_AVS_LIM_STEPS).avsWrite 0 n ack).noteAction (sensorKey 0 i)
    else if s1.fld TWL_AVS_LIM_VMAX ≤ cur ∧ rising then s1.exhaust f 0 i
    else s1

/-- A canary whose margin has fallen below 30 mV raises VDD_SRAM by 10 mV, up to 850 mV, once per 2^24 frames (R411). -/
def State.sramStep (s : State) (f : Nat) (ack : Bool) (l : List (Nat × Nat)) : State :=
  let cur := s.fld TWL_AVS_VSRAM_SET
  match l.find? (fun e => decide (cur < e.2 + 30)) with
  | some (i, _) =>
    if cur < 850 ∧ (s.twl.sramAt = 0 ∨ s.twl.sramAt - 1 + 2 ^ 24 ≤ f) then
      let n := min 850 (cur + 10)
      if ! ack then State.exhaust (({ s with twl.sramAt := f + 1 } : State).avsWrite 1 n ack) f 3 i
      else (((({ s with twl.sramAt := f + 1 } : State).setFld TWL_AVS_VSRAM_SET n).inc TWL_AVS_LIM_STEPS).avsWrite 1 n ack).noteAction (sensorKey 3 i)
    else s
  | none => s

/-- A stack whose refresh margin has fallen below 32 halves its refresh interval, down to a quarter (R411), which exhausts its ladder (R413). -/
def State.refreshStep (s : State) (f stack v : Nat) : State :=
  let n := mgetD s.twl.refresh stack 0
  if 32 ≤ v ∨ 2 ≤ n then s
  else
    let s1 := ((({ s with twl.refresh := mput s.twl.refresh stack (n + 1) } : State).inc TWL_AVS_LIM_STEPS).emit (.refresh stack (n + 1))).noteAction
      (sensorKey 5 stack)
    if n + 1 = 2 then s1.exhaust f 5 stack else s1

/-- Temperatures (TWL_TJ): the hottest sensor of this sample, and its average over 30 days. -/
def State.takeTemps (s : State) (l : List (Nat × Nat)) : State :=
  match largest l with
  | none => s
  | some (_, v) =>
    let h := (s.now, v) :: s.twl.tj.filter (fun e => decide (s.now < e.1 + 30 * 86400000000000))
    let avg := (h.foldl (fun n e => n + e.2) 0) / h.length
    (({ s with twl.tj := h } : State).setFld TWL_TJ_TJ_MAX v).setFld TWL_TJ_TJ_AVG avg

/-! ### Margin records and forecasts (R410, R413) -/

/-- Two values in the two bytes of a class 2 record. -/
def packEye (h w : Nat) : Nat := h % 256 + w % 256 * 256

/-- The records the journal keeps when one more is written (R416): the latest 512, and of the older ones those of every sixteenth interval, up to 512
(log entry 169). -/
def Sensor.keep (x : Sensor) (r : Margin) : List Margin × List Margin :=
  let l := x.recs ++ [r]
  let gone := (l.take (l.length - 512)).filter (fun q => q.frame / 2 ^ 36 % 16 == 0)
  let o := x.old ++ gone
  (l.drop (l.length - 512), o.drop (o.length - 512))

/-- A sensor's interval closes with one record (R410). An interval without a sample has no worst sample and no mean: their values
are free, and the fit leaves the record out (log entry 71). -/
def State.closeInterval (s : State) (f cls i : Nat) : State :=
  let k := sensorKey cls i
  let x := s.sensor k
  let flags := (if x.acted then 1 else 0) + (if x.restart then 2 else 0)
  let (r, s1) := (if x.n = 0 then
      let a := s.draw
      let b := a.2.draw
      ({ flags := flags, frame := f, worst := a.1 % 65536, mean := b.1 % 65536, empty := true }, b.2)
    else if cls = 2 then
      ({ flags := flags, frame := f, worst := packEye x.worst x.worst2, mean := packEye (x.sum / x.n) (x.sum2 / x.n), empty := false }, s)
    else ({ flags := flags, frame := f, worst := x.worst % 65536, mean := x.sum / x.n % 65536, empty := false }, s) : Margin × State)
  let l := x.keep r
  s1.setSensor k { recs := l.1, old := l.2, fit := min 64 (x.fit + 1) }

/-- The due frame of a least-squares line through points (interval number, value): where it meets a floor it moves towards, rounded up to a frame; none
with fewer than 8 points or a line that does not (R413). -/
def lineDue (pts : List (Nat × Nat)) (floor : Int) (rising : Bool) : Option Nat :=
  let n : Int := pts.length
  let sx := pts.foldl (fun (a : Int) e => a + e.1) 0
  let sy := pts.foldl (fun (a : Int) e => a + e.2) 0
  let sxx := pts.foldl (fun (a : Int) e => a + e.1 * e.1) 0
  let sxy := pts.foldl (fun (a : Int) e => a + e.1 * e.2) 0
  let d := n * sxx - sx * sx
  let m := n * sxy - sx * sy
  if pts.length < 8 ∨ d ≤ 0 ∨ m = 0 ∨ (rising != decide (0 < m)) then none
  else
    let num := (sx * m + (n * floor - sy) * d) * 2 ^ 36
    let den := n * m
    some (if den < 0 then -(num / -den) else -(-num / den)).toNat

/-- The action floor of a class (Table 19-1), in the units of its samples. -/
def State.actionFloor (s : State) (cls : Nat) (second : Bool) : Int :=
  match cls with
  | 0 => ((s.fld TWL_AVS_LIM_VMAX : Int) - s.fld TWL_AVS_VCORE_BASE) * 10
  | 1 => 380
  | 2 => if second then s.fld TWL_EYE_THR_WIDTH_MIN else s.fld TWL_EYE_THR_HEIGHT_MIN
  | 3 => (s.fld TWL_AVS_VSRAM_SET : Int) - 30
  | 4 => 10000
  | _ => 32

/-- The points a sensor's fit uses: its latest records since the last restart that hold samples, the second value of a lane eye apart. -/
def fitPoints (x : Sensor) (cls : Nat) (second : Bool) : List (Nat × Nat) :=
  ((x.recs.drop (x.recs.length - x.fit)).filter (fun r => ! r.empty)).map (fun r =>
    (r.frame / 2 ^ 36, if cls = 2 then (if second then r.worst / 256 else r.worst % 256) else r.worst))

/-- The earlier of two due frames. -/
def earlier (a b : Option Nat) : Option Nat :=
  match a, b with
  | some x, some y => some (min x y)
  | some x, none => some x
  | none, y => y

/-- When the fit of a sensor meets its floor. -/
def State.fitDue (s : State) (cls i : Nat) : Option Nat :=
  let x := s.sensor (sensorKey cls i)
  let one := lineDue (fitPoints x cls false) (s.actionFloor cls false) (worseHigh cls)
  if cls = 2 then earlier one (lineDue (fitPoints x cls true) (s.actionFloor cls true) false) else one

/-- A sensor's fit makes, replaces or withdraws its forecast (R413, R414). -/
def State.fitSensor (s : State) (f cls i : Nat) : State :=
  match s.fitDue cls i with
  | some d =>
    if d ≤ f + s.daysInFrames (s.fld TWL_CTL_HORIZON) then s.makeForecast f cls 0 i d
    else s.withdraw cls i
  | none => if s.twl.fc.any (fun c => c.cls == cls && c.target == i && c.reason == 0) then s.withdraw cls i else s

/-- Every sensor, in the order of its class and index. -/
def allSensors : List (Nat × Nat) := (List.range 6).flatMap (fun c => (List.range (sensorCount c)).map (fun i => (c, i)))

/-- Lanes on ports with a gate list whose LOW has lasted a summary interval are forecast (Table 19-7 case 5). -/
def State.deferredLows (s : State) (f : Nat) : State :=
  s.twl.low.foldl (fun s e =>
    if e.2 + 2 ^ 36 ≤ f ∧ s.gated (s.portOfLane e.1) ∧ s.bit (LAN_EYE_LOW e.1) then s.exhaust f 2 e.1 else s) s

/-- A summary Daybreak: a record of each sensor, three journal pages in all (R416), then each fit (R410, R413). -/
def State.summary (s : State) (f : Nat) : State :=
  let s1 := allSensors.foldl (fun s e => s.closeInterval f e.1 e.2) s
  let s2 := (List.range 3).foldl (fun s k => s.journalIn 3 (f / 2 ^ 36 * 3 + k)) s1
  (allSensors.foldl (fun s e => s.fitSensor f e.1 e.2) s2).deferredLows f

/-! ### The link margin ladder (R412, Table 19-3) -/

/-- Step 1: the port enters Recovery with equalisation at its rate. -/
def State.reequalise (s : State) (f p l : Nat) : State :=
  let s1 := s.portRecover p
  let s2 := ((s1.laneSet p (s1.lanesOf p) false).filter (fun k => s1.bit (LAN_STAT_IN_USE k))).foldl State.equalise s1
  ((({ s2 with twl.reeqAt := mput s2.twl.reeqAt l (f + 1) } : State).inc (TWL_PCAP_REEQ p)).noteAction (sensorKey 2 l))

/-- Step 2: the rate cap drops one step, never below FLOOR, the port retrains, and its shared source is raised. -/
def State.capRate (s : State) (p l : Nat) : State :=
  let r := max (s.fld (TWL_PCAP_FLOOR p)) (s.fld (PRT_LINK_STAT_RATE p) - 1)
  (((s.setFld (TWL_PCAP_CAP p) r).noteAction (sensorKey 2 l)).retrain p).raisePort p

/-- Step 3: the lane is parked. -/
def State.twilightPark (s : State) (p l : Nat) : State :=
  (((s.setBit (LAN_CTL_PARK l) true).noteAction (sensorKey 2 l)).inc (TWL_PCAP_PARKED p)).parkLane l 3

/-- The step of the ladder a lane takes. Steps go in order: step 1 unless it was taken within 2^36 frames; then step 2; at FLOOR step 3, or a forecast
where it cannot be taken. A fixed preset records margin only (Table 4-1 case 6). -/
def State.ladderStep (s : State) (f p l : Nat) : State :=
  let last := mget s.twl.reeqAt l
  let within := fun (n : Nat) => match last with
    | some t => decide (f < t - 1 + n)
    | none => false
  let atFloor := decide (s.fld (PRT_LINK_STAT_RATE p) ≤ s.fld (TWL_PCAP_FLOOR p))
  let eq := s.bit TWL_CTL_AUTO_EQ && ! within (2 ^ 30)
  if s.fld (LAN_CTL_TX_PRESET l) ≠ 15 then s
  else if eq && ! within (2 ^ 36) then s.reequalise f p l
  else if s.bit TWL_CTL_AUTO_RATE && within (2 ^ 36) && ! atFloor then s.capRate p l
  else if atFloor then
    (if s.bit TWL_CTL_AUTO_WIDTH && ! s.parkStrands l then s.twilightPark p l else s.exhaust f 2 l)
  else if eq then s.reequalise f p l
  else s

/-- The lanes whose LOW waits: those that no longer are in use or low drop out. -/
def State.lowLanes (s : State) : NMap Nat := s.twl.low.filter (fun e => s.bit (LAN_STAT_IN_USE e.1) && s.bit (LAN_EYE_LOW e.1))

/-- One step of the ladder on each port, its lowest lane first. A port with a gate list is deferred (Table 19-7 case 5), and nothing is done in
Quarantine (case 8). -/
def State.ladder (s : State) (f : Nat) : State :=
  let s0 : State := { s with twl.low := s.lowLanes }
  if s0.md.mode = .quarantine then s0
  else s0.twl.low.foldl (fun a e =>
    let p := s0.portOfLane e.1
    if a.1.contains p ∨ s0.gated p ∨ ! a.2.linkUp p then a
    else (p :: a.1, State.ladderStep { a.2 with twl.low := mdel a.2.twl.low e.1 } f p e.1)) (([] : List Nat), s0) |>.2

/-- The new eye results of a Daybreak: samples of class 2, and the lanes in use whose LOW has set. -/
def State.eyeResults (s : State) (f : Nat) (lanes : List Nat) : State :=
  lanes.foldl (fun s l =>
    let h := s.fld (LAN_EYE_HEIGHT l)
    let w := s.fld (LAN_EYE_WIDTH l)
    let s1 := s.takeSample 2 l h w
    if (h < s.fld TWL_EYE_THR_HEIGHT_MIN ∨ w < s.fld TWL_EYE_THR_WIDTH_MIN) ∧ (mget s1.twl.low l).isNone ∧ s.bit (LAN_STAT_IN_USE l) then
      { s1 with twl.low := mput s1.twl.low l f }
    else s1) s

/-- CLR of a rate cap: the cap is removed and the port retrains (R412). -/
def State.capClear (s : State) (p : Nat) : State := (s.setFld (TWL_PCAP_CAP p) 0).retrain p

/-! ### SRAM repair (R417) -/

/-- Swaps due take effect at a Daybreak: the row is repaired, and a macro that used its last spare is exhausted and forecast. -/
def State.applySwaps (s : State) (f : Nat) : State :=
  s.twl.swaps.foldl (fun s e =>
    let s1 := s.inc TWL_REPAIR_ROWS
    if e.2.2 then
      State.exhaust (({ s1 with twl.exhausted := sadd s1.twl.exhausted e.1 } : State).inc TWL_REPAIR_EXHAUSTED) f 0x11 e.1
    else s1) { s with twl.swaps := [] }

/-- Whether a row is due for repair after a patrol pass: a word of it was corrected in the last pass too, or four or more of its words in this one. -/
def rowDue (last now : List (Nat × Nat × Nat)) (m r : Nat) : Bool :=
  now.any (fun e => e.1 == m && e.2.1 == r && last.contains e) ||
    decide (4 ≤ ((now.eraseDups).filter (fun e => e.1 == m && e.2.1 == r)).length)

/-- A patrol pass completes (R417) with the words it corrected: macro, row, word. -/
def State.patrolPass (s : State) (corrected : List (Nat × Nat × Nat)) : State :=
  let due := ((corrected.map (fun e => (e.1, e.2.1))).eraseDups).filter (fun e =>
    rowDue s.twl.corrected corrected e.1 e.2 && ! s.twl.rows.contains e && ! s.twl.exhausted.contains e.1)
  ({ s with twl.corrected := corrected, twl.rows := s.twl.rows ++ due } : State).setFld TWL_SCRUB_PASSES (s.fld TWL_SCRUB_PASSES + 1)

def execPatrolScrubPass (corrected : List (Nat × Nat × Nat)) (s : State) : Host.Outcome State Fault Refusal := s.done (s.patrolPass corrected)

/-- The copy of a row due for repair completes: the swap is due at the next Daybreak (R417). In Hold copies stand still (Table 19-7 case 3). -/
def State.copyDone (s : State) (m r : Nat) (last : Bool) : State :=
  if ! s.twl.rows.contains (m, r) ∨ s.inHold ∨ s.twl.exhausted.contains m then s
  else { s with twl.rows := s.twl.rows.filter (fun e => e != (m, r)), twl.swaps := s.twl.swaps ++ [(m, r, last)] }

/-- `last` says that the copy took the macro's last spare row. -/
def execRowRepairCopyDone (macroNum row : Nat) (last : Bool) (s : State) : Host.Outcome State Fault Refusal := s.done (s.copyDone macroNum row last)

/-! ### The Reservoir mirror (R418) -/

/-- The content that stack 1 alone holds is lost (R23, R25, R418): each heat word held, and the dirty log of each binding that has an area, which its next
harvest reports whole. -/
def State.loseStack (s : State) : State :=
  let s1 := ((s.oxb.heat.map (fun e => e.1 / 8 * 8)).eraseDups).foldl State.loseHeat s
  { s1 with bnd.logGone := (List.range 1024).filter (fun b => decide (0 < s.cur (BND_LOG_LEN_LEN b))) }

/-- A stack's copy becomes single (R418): 16 uncorrectable words in 2^20 frames (cause 0), a failed retraining (1), or repair rows used up (2). The
other serves alone, which is forecast; MIRROR holds. -/
def State.mirrorSingle (s : State) (stack cause : Nat) : State :=
  if 1 < stack ∨ s.fld (rsvState stack) ≠ 0 ∨ s.fld (rsvState (1 - stack)) ≠ 0 then s
  else
    let s1 := (s.setFld (rsvState stack) 2).setFld (rsvState (1 - stack)) 1
    let s2 := if cause = 2 then s1.setFld (if stack = 0 then TWL_RSV_PPR_LEFT0 else TWL_RSV_PPR_LEFT1) 0 else s1
    let s3 := if stack = 1 then s2.loseStack else s2
    (s3.setDeg GLB_DEG_MIRROR true).exhaust s.time.frame 5 (1 - stack)

def execMirrorSingle (stack cause : Nat) (s : State) : Host.Outcome State Fault Refusal := s.done (s.mirrorSingle stack cause)

/-- A resilver's copy completes (R418): MIRROR clears at the next Daybreak, and until then the stack reads as resilvering. -/
def State.resilverDone (s : State) (stack : Nat) : State :=
  if 1 < stack ∨ s.fld (rsvState stack) ≠ 2 then s
  else ({ s with twl.resilvered := sadd s.twl.resilvered stack } : State).setFld (rsvState stack) 3

def execResilverDone (stack : Nat) (s : State) : Host.Outcome State Fault Refusal := s.done (s.resilverDone stack)

/-- At a Daybreak resilvered stacks are mirrored again; the forecasts of stacks that served alone are withdrawn (R414). -/
def State.applyResilver (s : State) : State :=
  s.twl.resilvered.foldl (fun s k =>
    ((((s.setFld (rsvState k) 0).setFld (rsvState (1 - k)) 0).setDeg GLB_DEG_MIRROR false).withdraw 5 k).withdraw 5 (1 - k))
    { s with twl.resilvered := [] }

/-! ### The journal (R415) -/

/-- Whether the journal still keeps a record (R415, R416, log entry 195). -/
def State.jrnLive (s : State) (e : Nat × Nat) : Bool :=
  match e.1 with
  | 0 => s.flt.journal.any (fun q => q.number == e.2)
  | 1 => e.2 == s.ident.fuses
  | 2 => s.twl.pers.any (fun q => q.2 == e.2)
  | 3 =>
    let x := s.sensor (sensorKey 0 0)
    (x.recs ++ x.old).any (fun q => q.frame / 2 ^ 36 == e.2 / 3)
  | 4 => decide (e.2 < s.flt.selfJrn)
  | _ => e.2 == s.ident.board

/-- What the next page written at the log head takes: the live record of the page that follows, which the head would overtake, else the first of the
queue; and what then stands in the pages and in the queue (R415). -/
def State.nextPage (s : State) : Option (Nat × Nat) × State :=
  let next := (s.fld TWL_JRNL_HEAD + 1) % 8192
  match (mget s.twl.log next).filter s.jrnLive with
  | some e => (some e, { s with twl.log := mdel s.twl.log next })
  | none => (s.twl.jq.head?, { s with twl.jq := s.twl.jq.tail })

/-- A page is written at the log head and read back; one that fails is retired and a spare takes its place. At most 16 pages are written in a second: a
page beyond them stays queued. -/
def State.journalWrite (s : State) (ok : Bool) : State :=
  let recent := s.twl.pages.filter (fun t => decide (s.now < t + 1000000000))
  if 16 ≤ recent.length then s
  else
    let x := s.nextPage
    let h := s.fld TWL_JRNL_HEAD
    let s0 : State := match x.1 with
      | some e => { x.2 with twl.log := mput x.2.twl.log h e }
      | none => { x.2 with twl.log := mdel x.2.twl.log h }
    let s1 := ({ s0 with twl.pages := s.now :: recent } : State).setFld TWL_JRNL_HEAD ((h + 1) % 8192)
    if ok ∨ s1.twl.spares = 0 then s1
    else
      let n := s1.twl.spares - 1
      let s2 := ({ s1 with twl.spares := n } : State).setFld TWL_JRNL_SPARES (min n 255)
      if n < 32 then s2.exhaust s.time.frame 0x10 0 else s2

def execJournalWrite (ok : Bool) (s : State) : Host.Outcome State Fault Refusal := s.done (s.journalWrite ok)

/-! ### Opcodes of group 0x0C (R410, R414) -/

/-- A margin record as the fields of a reply (Table 19-2). -/
def marginData (cls i : Nat) (r : Margin) : List (Nat × Nat) := [(1, cls), (1, r.flags), (2, i), (8, r.frame), (2, r.worst), (2, r.mean)]

/-- Opcode 0x0C00 (R410): the latest record of each sensor named; a sensor without a record has none. -/
def execReadMargins (rq : Rq) (cls first count : Nat) (s : State) : Host.Outcome State Fault Refusal :=
  s.done (xib 0x0C00 rq (.readMargins rq cls first count) s fun _ s =>
    if 5 < cls ∨ sensorCount cls < first + count then s.refuse .parameter
    else if 255 < count then s.refuse .tooLarge
    else s.readAns ((List.range count).flatMap (fun k => match (s.sensor (sensorKey cls (first + k))).recs.getLast? with
      | some r => marginData cls (first + k) r
      | none => [])))

/-- A forecast as the fields of a reply (Table 19-4). -/
def forecastData (c : Fcst) : List (Nat × Nat) :=
  [(1, c.cls), (1, c.reason), (2, c.target), (4, 0), (8, c.made), (8, c.due), (8, 0)]

/-- Opcode 0x0C01 (R414). -/
def execReadForecast (rq : Rq) (s : State) : Host.Outcome State Fault Refusal :=
  s.done (xib 0x0C01 rq (.readForecast rq) s fun _ s => s.readAns (s.twl.fc.flatMap forecastData))

/-! ### Hitless update (R293, R294, R419, R420) -/

/-- The image of a flash bank. -/
def State.bankImage (s : State) (bank : Nat) : Image := if bank = 0 then s.ident.bank0 else s.ident.bank1

/-- Whether an image is valid (R293); one that a floor raise has marked is not (R294). -/
def State.imageValid (s : State) (i : Image) : Bool :=
  i.sigOk && ! i.marked && decide (i.svn ≤ 64) && decide (s.ident.floor ≤ i.svn) &&
    (i.cosigned || ! (s.ident.life == .owned && s.bit GLB_FW_POL_COSIGN))

/-- Whether no image runs (R293). -/
def State.noImage (s : State) : Bool := s.ident.runDigest == 0

/-- Whether a principal and route may load firmware (Table 14-6, R293): the vendor in Blank, or in Vendor test too when no image runs; without a
running image only over the management endpoint and the I3C buses. -/
def State.fwWho (s : State) (p : Principal) (route : Nat) : Bool :=
  (p != .vendor || s.ident.life == .blank || (s.noImage && s.ident.life == .vendorTest)) && (! s.noImage || (route != 129 && decide (128 ≤ route)))

/-- Opcode 0x0D00: a chunk of an image; `image` is what the bank holds with it. -/
def execImageChunk (rq : Rq) (bank offset size : Nat) (image : Image) (s : State) : Host.Outcome State Fault Refusal :=
  s.done (xib 0x0D00 rq (.imageChunk rq bank offset size image) s fun p s =>
    if ! s.fwWho p rq.route then s.refuse .permission
    else if 1 < bank then s.refuse .parameter
    else if 4091 < size then s.refuse .tooLarge
    else if ! s.noImage ∧ bank = s.ident.runBank then s.refuse .busy
    else State.okNow (if bank = 0 then { s with ident.bank0 := image } else { s with ident.bank1 := image }))

/-- Opcode 0x0D01 (R419). -/
def execActivateImage (rq : Rq) (bank : Nat) (s : State) : Host.Outcome State Fault Refusal :=
  s.done (xib 0x0D01 rq (.activateImage rq bank) s fun p s =>
    if ! s.fwWho p rq.route then s.refuse .permission
    else if 1 < bank then s.refuse .parameter
    else if s.md.mode = .standby ∨ s.md.mode = .quarantine ∨ s.bit GLB_DEG_STANDBY_PAIR then s.refuse .state
    else if s.twl.act.isSome ∨ s.flt.takeDue ∨ s.lcSlots = [] then s.refuse .busy
    else
      let (h, s1) := s.lcStart 0x0D01 (rqRef rq 0x0D01) p (routeTargetOf rq.route rq.carrier)
      State.long { s1 with twl.act := some { bank := bank, handle := h, image := s.bankImage bank, due := none } } s.time.frame h)

/-- The standby pair has validated the bank (R419): one that fails completes the command with the parameter status; otherwise the takeover is due at the
first Daybreak at least 16 frames later. -/
def State.imageValidated (s : State) : State :=
  match s.twl.act with
  | none => s
  | some a =>
    if a.due.isSome then s
    else
      let i := s.bankImage a.bank
      if s.imageValid i then
        let due := s.time.frame + (if s.time.tick = 0 then 16 else 17)
        (({ s with twl.act := some { a with image := i, due := some due } } : State).setBit TWL_FW_TAKE_PEND true).setBit TWL_FW_STANDBY_READY false
      else State.lcEnd { s with twl.act := none } a.handle .parameter

def execImageValidated (s : State) : Host.Outcome State Fault Refusal := s.done s.imageValidated

/-- The active pair changes. -/
def State.swapPair (s : State) : State :=
  (s.setBit TWL_FW_ACTIVE_PAIR (! s.bit TWL_FW_ACTIVE_PAIR)).setBit TWL_FW_STANDBY_READY false

/-- An activation ends without effect: the outgoing pair keeps running. -/
def State.dropActivation (s : State) (a : Activ) (st : Status) : State :=
  (({ s with twl.act := none } : State).setBit TWL_FW_TAKE_PEND false).lcEnd a.handle st

/-- The image of an activation is in force from this Daybreak: steps 4 and 5 of R419. -/
def State.runImage (s : State) (a : Activ) : State :=
  let s1 : State := { s with
    ident.runBank := a.bank, ident.runSvn := a.image.svn, ident.runDigest := a.image.digest, twl.act := none }
  (((s1.setBit TWL_FW_TAKE_PEND false).inc TWL_FW_PLAN_CNT).setBit TWL_FW_REJOIN true).lcEnd a.handle .success

/-- A planned takeover is due at the Daybreak of frame `f` (R419): the image is verified against the lifecycle state in force (Table 13-8 case 2). -/
def State.plannedTakeover (s : State) (f : Nat) : State :=
  match s.twl.act with
  | some a =>
    if a.due = some f then
      (if s.imageValid a.image then s.swapPair.runImage a else (s.dropActivation a .parameter).setBit TWL_FW_STANDBY_READY true)
    else s
  | none => s

/-- A watchdog takeover (R380, R420): staged state is discarded and the staging lock freed. Before step 2 of an activation it is made on the image in
force and the activation completes with the retry status; from step 2 on it completes the activation. Outside one the failed pair is now the standby
pair (log entry 70). -/
def State.watchdogTakeover (s : State) : State :=
  let s1 : State := { s.clearStaging with mbx.lock := none, flt.takeDue := false }
  let s2 := s1.swapPair
  match s2.twl.act with
  | some a =>
    if a.due.isSome then s2.runImage a
    else (s2.dropActivation a .retry).setDeg GLB_DEG_STANDBY_PAIR true
  | none => s2.setDeg GLB_DEG_STANDBY_PAIR true

/-- The requests the interpreter has taken and not answered get the retry status (Table 1-4 case 5): register opcodes and power requests that wait
for the end of Hold. The resume itself goes on, and accesses through a BAR, which are no commands, keep waiting (log entry 172). -/
def State.retryInFlight (s : State) : State :=
  let s1 := (s.md.waiting.filterMap regOpRef).foldl (fun s r => s.answerAgain (some r) .retry)
    { s with md.waiting := s.md.waiting.filter (fun i => (regOpRef i).isNone) }
  match s1.md.pwrReq with
  | some r => if s1.inHold ∧ r.target ≠ .hold then { s1.answerAgain r.ref .retry with md.pwrReq := none } else s1
  | none => s1

/-- Whether a takeover is made at the Daybreak of frame `f`. -/
def State.takeoverDue (s : State) (f : Nat) : Bool :=
  s.flt.takeDue || (match s.twl.act with
    | some a => a.due == some f && s.imageValid a.image
    | none => false)

/-- Order 7 of Table 2-2: one takeover at most (Table 19-7 case 2). -/
def State.takeover (s : State) (f : Nat) : State :=
  let s1 := if s.takeoverDue f then s.retryInFlight else s
  if s1.flt.takeDue then s1.watchdogTakeover else s1.plannedTakeover f

/-- A takeover due at the next Daybreak passes its commit point at Dusk+0 (Table 14-5). -/
def State.activationDusk (s : State) : State :=
  match s.twl.act with
  | some a => if a.due = some s.nextFrame then s.lcPast a.handle else s
  | none => s

/-- The outgoing pair rejoins as the standby pair, or fails to (R419). -/
def State.rejoin (s : State) (ok : Bool) : State :=
  if ! s.bit TWL_FW_REJOIN ∧ ! s.bit GLB_DEG_STANDBY_PAIR then s
  else
    let s1 := s.setBit TWL_FW_REJOIN false
    if ok then (s1.setBit TWL_FW_STANDBY_READY true).setDeg GLB_DEG_STANDBY_PAIR false
    else s1.setDeg GLB_DEG_STANDBY_PAIR true

def execOutgoingPairRejoin (ok : Bool) (s : State) : Host.Outcome State Fault Refusal := s.done (s.rejoin ok)

/-- Opcode 0x0D02 (R294): raises the SVN floor, at once; a floor not above the present one burns nothing. -/
def execRaiseSvnFloor (rq : Rq) (floor : Nat) (invalidate : Bool) (s : State) : Host.Outcome State Fault Refusal :=
  s.done (xib 0x0D02 rq (.raiseSvnFloor rq floor invalidate) s fun p s =>
    let other := 1 - s.ident.runBank
    let oi := s.bankImage other
    if p = .vendor ∧ s.ident.life ≠ .blank then s.refuse .permission
    else if 64 < floor ∨ s.ident.runSvn < floor then s.refuse .parameter
    else if ! invalidate ∧ s.imageValid oi ∧ oi.svn < floor then s.refuse .parameter
    else
      let s1 : State := { s with ident.floor := max s.ident.floor floor }
      State.okNow (if ! invalidate then s1
        else if other = 0 then { s1 with ident.bank0 := { s1.ident.bank0 with marked := true } }
        else { s1 with ident.bank1 := { s1.ident.bank1 with marked := true } }))

/-! ### Personality (R421, R422) -/

/-- PERSONALITY[3:0], as sampled at the last cold reset. -/
def State.persStrap (s : State) : Nat := s.ident.straps % 16

/-- The level in force of a part with a stored configuration and straps (R421): the level, and whether the straps cap a stored one. -/
def State.levelOf (s : State) : Nat × Bool :=
  let base := match s.twl.pers with
    | some (l, _) => l
    | none => s.twl.native
  if s.persStrap ≠ 0 ∧ s.persStrap < base then (s.persStrap, s.twl.pers.isSome) else (base, false)

/-- A level takes effect (R422): measurement 3 changes. -/
def State.setLevel (s : State) (level serial : Nat) : State :=
  ({ s with ident.persDigest := Config.digest [level, serial] } : State).setFld TWL_PERS_LEVEL level

/-- A configuration is stored. -/
def State.storePers (s : State) (level serial : Nat) : State :=
  ({ s with twl.pers := some (level, serial) } : State).setBit TWL_PERS_CFG_VALID true

/-- The refusal of a configuration (R422). -/
def State.persRefusal (s : State) (c : PersCfg) : Option Status :=
  if c.type ≠ 0x0010 ∨ c.version ≠ 1 ∨ ! c.zero ∨ c.level = 0 ∨ s.twl.native < c.level ∨ (s.persStrap ≠ 0 ∧ s.persStrap < c.level) then some .parameter
  else if c.owner ≠ s.ident.owner ∨ ! c.sigOk ∨ s.twl.pers.any (fun e => decide (c.serial ≤ e.2)) then some .token
  else none

/-- Opcode 0x0D03 (R422): in Provisioning and Diagnostic the level takes effect at the Daybreak R36 gives; in other modes at the next cold reset. -/
def execPersonality (rq : Rq) (c : PersCfg) (s : State) : Host.Outcome State Fault Refusal :=
  s.done (xib 0x0D03 rq (.personality rq c) s fun p s =>
    match s.persRefusal c with
    | some e => s.refuse e
    | none =>
      if s.lcSlots = [] then s.refuse .busy
      else
        let (h, s1) := s.lcStart 0x0D03 (rqRef rq 0x0D03) p (routeTargetOf rq.route rq.carrier)
        let s2 := (s1.journalIn 2 c.serial).emit (.journal 0x0010)
        if s.md.mode = .provisioning ∨ s.md.mode = .diagnostic then
          (s2.addDue {
            eff := s.effFrame, named := false, group := false, frozen := false, handle := some h, ref := none,
            act := .persLevel c.level c.serial }).long s.effFrame h
        else (((((s2.storePers c.level c.serial).setBit TWL_PERS_PEND true).setFld TWL_PERS_PEND_LEVEL c.level).lcEnd h .success)).long s.time.frame h)

/-! ### Step 11 of a Daybreak (Table 2-2) -/

/-- Twilight's step at the Daybreak that opens frame `f`: the ladder for lanes whose LOW had set, the samples its cadences allow and what they ask for,
swaps and resilvering, and at a summary Daybreak the records and fits. `lanes` are those with a new eye result; `ack` says that the regulators
acknowledge. -/
def State.twilight (s : State) (f : Nat) (lanes : List Nat) (samples : List (Nat × Nat × Nat)) (ack : Bool) : State :=
  let l := admitted f samples
  let s1 := (s.ladder f).eyeResults f lanes
  let s2 := l.foldl (fun s e => s.takeSample e.1 e.2.1 e.2.2 0) s1
  let s3 := (((s2.takeTemps (ofClass 1 l)).avsStep f ack (ofClass 0 l)).sramStep f ack (ofClass 3 l)).applySwaps f
  let s4 := ((ofClass 5 l).foldl (fun s e => s.refreshStep f e.1 e.2) s3).applyResilver
  let s5 := if f % 2 ^ 36 = 0 then s4.summary f else s4
  s5.refreshForecasts f

end Sys2Proof.Machine
end

