-- ==== Sys2Proof/Machine/Longs.lean ====
section
/-! DEFINITION. Aborting a long command (R316, R317, Table 14-5), and the management reset (R320). -/
namespace Sys2Proof.Machine
open Sys2Proof

/-- The extent of a binding that a test picks. -/
def State.extentBy (s : State) (t : Extent → Bool) : Option (Nat × Extent) :=
  s.bnd.ext.findSome? (fun e => (e.2.find? t).map (fun x => (e.1, x)))

/-- An accepted effect with a handle is withdrawn before its commit point. -/
def State.withdrawDue (s : State) (h : Nat) : State :=
  ((s.due.filter (fun d => d.handle == some h)).foldl State.dropCargo
    { s with due := s.due.filter (fun d => d.handle != some h) }).lcEnd h .aborted

/-- A running long command is aborted before its commit point, with the effect Table 14-5 gives its opcode; none where it has no commit point and an
abort is too late. -/
def State.abortLong (s : State) (h : Nat) (op : Nat) : Option State :=
  match op with
  | 0x0401 => some (({ s with bnd.regions := s.bnd.regions.map (fun e =>
      if e.2.delHandle = some h then (e.1, { e.2 with deleting := false, delHandle := none, delNow := false }) else e) } : State).lcEnd h .aborted)
  | 0x0403 => match s.extentBy (fun e => e.add == some h) with
    | some (b, e) => some (s.cancelAdd b e .aborted)
    | none => none
  | 0x0404 => match s.extentBy (fun e => e.rel == some h || e.rels.contains h) with
    | some (b, e) => some (s.cancelRelease b e h)
    | none => none
  | 0x0600 =>
    let s1 : State := { s with oxb.directives := s.oxb.directives.map (fun d =>
      if d.handle = h then { d with count := d.next, ab := true } else d) }
    some (s1.abortMoves (fun x => x.why == .directive h) .aborted)
  | 0x0603 => match s.oxb.evac.find? (fun e => e.2.handle == some h) with
    | some (p, _) => some (s.evacCancel p)
    | none => none
  | 0x0E02 => match s.grp.xfers.find? (fun x => x.handle == h) with
    | some x => some (s.abortXfer x .aborted)
    | none => none
  | 0x0D01 => match s.twl.act with
    | some a => some ((s.dropActivation a .aborted).setBit TWL_FW_STANDBY_READY true)
    | none => none
  | 0x0801 => none
  | 0x0901 => none
  | 0x0902 => none
  | _ => some (s.withdrawDue h)

/-- Opcode 0x0208 (R316, R317). -/
def execAbort (rq : Rq) (handle : Nat) (s : State) : Host.Outcome State Fault Refusal :=
  s.done (xib 0x0208 rq (.abort rq handle) s fun p s =>
    match s.lcOf handle with
    | none => s.refuse .parameter
    | some (_, l) =>
      if ! lcVisible p rq.sess l then s.refuse .permission
      else if l.st ≠ .running then s.refuse .tooLate
      else match s.abortLong handle l.op with
        | some s1 => s1.okNow
        | none => s.refuse .tooLate)

/-- Every running long command before its commit point is aborted; counts those aborted that are not commits naming a frame. -/
def State.abortAll (s : State) (pick : Lc → Bool) : Nat × State :=
  s.mbx.lc.foldl (fun a e =>
    if e.2.st = .running ∧ pick e.2 then
      match a.2.abortLong (handleOf e.1 (e.2.gen % 1024)) e.2.op with
      | some s1 => (a.1 + 1, s1)
      | none => a
    else a) (0, s)

/-- How many long commands are still to end. -/
def State.lcOpen (s : State) : Nat := (s.mbx.lc.filter (fun e => e.2.st == .running || e.2.st == .past)).length

/-- The interpreter holds no session, attachment, stored reply, staged state or staging lock any more (R18, R320). -/
def State.emptyInterpreter (s : State) : State :=
  let s1 := s.closeSessions (fun _ _ => true)
  { s1.clearStaging with mbx.lock := none, mbx.spdm := [], mbx.attach := [], md.dbg := none }

/-- Both management pairs are unable to run (R18): what the interpreter held is gone, long commands before their commit point end without
effect, and every long-command slot is free (log entry 171). -/
def State.loseInterpreter (s : State) : State :=
  let s1 := (s.emptyInterpreter.abortAll (fun _ => true)).2
  { s1 with mbx.lc := [], md.waiting := s1.md.waiting.filter (fun i => (regOpRef i).isNone) }

/-- A management reset takes effect (R320). -/
def State.managementReset (s : State) (cause : Nat) : State :=
  let s2 : State := { s.emptyInterpreter with mbx.held := [] }
  let a := s2.abortAll (fun l => l.op == 0x0204)
  let b := a.2.abortAll (fun l => l.op != 0x0204)
  let s3 := (((b.2.setFld MBX_MRST_STAT_CANCELLED (satTo 8 a.1)).setFld MBX_MRST_STAT_ABORTED (satTo 8 b.1)).setFld MBX_MRST_STAT_CONTINUED
    (satTo 8 (b.2.mbx.lc.filter (fun e => e.2.st == .past)).length)).setFld MBX_MRST_STAT_CAUSE cause
  let s4 := (s3.inc MBX_STAT_MRST_CNT).setBit MBX_STAT_READY false
  (List.range 132).foldl (fun s t => s.setBit (EVT_T_CTL_SCAN t) false) { s4 with md.mrst := none, md.restart := 1, flt.takeDue := false }

/-! ### The management watchdog (R18, R380) -/

/-- The count of the management watchdog reaches LIMIT (R380): with a healthy standby pair it takes over at the next Daybreak, once
(Table 17-7 case 7); otherwise the watchdog expires, the interpreter holds nothing and commands receive no reply (R18). Below LIMIT, nothing. -/
def State.watchdogLimit (s : State) : State :=
  if s.fld FLT_WDOG_COUNT < s.fld FLT_WDOG_LIMIT ∨ s.bit FLT_STAT_WD_EXP then s
  else if ! s.bit GLB_DEG_STANDBY_PAIR then
    let s1 := (s.setFld FLT_WDOG_COUNT 0).inc FLT_WDOG_TAKE_CNT
    State.reportCode { s1 with flt.takeDue := true } 0x0705 0 none 0
  else
    let s1 := (s.reportCode 0x0704 0 none 0).setBit FLT_STAT_WD_EXP true
    s1.loseInterpreter.setBit MBX_STAT_READY false

def execManagementWatchdogLimit (s : State) : Host.Outcome State Fault Refusal := s.done s.watchdogLimit

end Sys2Proof.Machine
end

