-- ==== Sys2Proof/Machine/Tenant.lean ====
section
/-! DEFINITION. Key slots and tenants: the opcodes of group 0x05 and TSP key programming (chapter 9). -/
namespace Sys2Proof.Machine
open Sys2Proof

/-- The keys a secret gives a slot (R194, Table 9-4): K1, K2, KM and KC, salted with the identity digest. -/
def State.derive (s : State) (secret : Nat) : Nat × Nat × Nat × Nat :=
  (Config.hkdf secret s.ident.digest "IASUM DATA" 32, Config.hkdf secret s.ident.digest "IASUM TWEAK" 32,
    Config.hkdf secret s.ident.digest "IASUM MAC" 32, Config.hkdf secret s.ident.digest "IASUM CONSENT" 48)

/-- Whether the mode admits a tenant establish (Table 15-1): Service, Degraded or Evacuate. -/
def State.admitsTenants (s : State) : Bool := s.md.mode == .service || s.md.mode == .degraded || s.md.mode == .evacuate

/-- Opcode 0x0500 (R193): establishes a tenant key slot. -/
def execTenantEstablish (rq : Rq) (tenant secret verifier : Nat) (s : State) : Host.Outcome State Fault Refusal :=
  s.done (xib 0x0500 rq (.tenantEstablish rq tenant secret verifier) s fun p s =>
    if ! s.admitsTenants ∨ s.ident.life ≠ .owned then s.refuse .state
    else if tenant = 0 ∨ 1023 < tenant then s.refuse .parameter
    else if ! s.bit (SEC_SLOT_ENABLED tenant) then s.refuse .permission
    else if (match p with | .tenant t => decide (t ≠ tenant) | _ => false) then s.refuse .permission
    else if s.slotState tenant ≠ .empty ∨ s.establishing tenant then s.refuse .busy
    else
      let k := s.derive secret
      (s.submit (some (rqRef rq 0x0500)) (.establish tenant verifier k.1 k.2.1 k.2.2.1 k.2.2.2)).okAt s.effFrame)

/-- A slot becomes Established at its Daybreak (R193). -/
def State.applyEstablish (s : State) (t verifier k1 k2 km kc : Nat) : State :=
  { s with sec.slots := mput s.sec.slots t { st := .established, verifier := verifier, k1 := k1, k2 := k2, km := km, kc := kc } }

/-- A slot is erased at its Daybreak (R196); its consent nonces go with it. -/
def State.applyZeroise (s : State) (t : Nat) : State :=
  { s with sec.slots := mdel s.sec.slots t, sec.nonces := s.sec.nonces.filter (fun n => n.1 != t) }

/-- Opcode 0x0501 (R196), a long command whose commit point is the Dusk window before it takes effect. -/
def execZeroise (rq : Rq) (tenant : Nat) (s : State) : Host.Outcome State Fault Refusal :=
  s.done (xib 0x0501 rq (.zeroise rq tenant) s fun p s =>
    if tenant = 0 ∨ 1023 < tenant then s.refuse .parameter
    else if (match p with | .tenant t => decide (t ≠ tenant) | _ => false) then s.refuse .permission
    else if p = .owner ∧ s.tenantRegions tenant ≠ 0 then s.refuse .busy
    else if s.lcSlots = [] then s.refuse .busy
    else
      let eff := if s.slotState tenant = .zeroising then s.nextFrame else s.effFrame
      let (h, s1) := s.lcStart 0x0501 (rqRef rq 0x0501) p (routeTargetOf rq.route rq.carrier)
      let d : Due := { eff := eff, named := false, group := false, frozen := s.slotState tenant == .zeroising, handle := some h, ref := none, act := .zeroise tenant }
      (s1.addDue d).long eff h)

/-- Opcode 0x0502 (R195): maps a CKID of a binding's virtual memory device to the tenant of its region. -/
def execMapCkid (rq : Rq) (binding ckid tenant : Nat) (s : State) : Host.Outcome State Fault Refusal :=
  s.done (xib 0x0502 rq (.mapCkid rq binding ckid tenant) s fun _ s =>
    if 4096 ≤ binding ∨ ! s.bndValid binding then s.refuse .parameter
    else match s.bndRec binding with
      | some r =>
        if r.tenant ≠ tenant ∨ tenant = 0 then s.refuse .parameter
        else (s.submit (some (rqRef rq 0x0502)) (.mapCkid binding ckid tenant)).okAt s.effFrame
      | none => s.refuse .parameter)

/-- Whether any region of a tenant holds a backed parcel (R195). -/
def State.tenantBacked (s : State) (t : Nat) : Bool :=
  s.bnd.tt.any (fun e => e.2.valid && (match s.regionOfTt e.1 with
    | some (g, _) => (match mget s.bnd.regions g with
      | some r => r.tenant == t
      | none => false)
    | none => false))

/-- TSP key programming on a CKID (R195): accepted only in an SPDM session whose requester proves the verifier key of the mapped slot,
and refused while a region of the tenant holds a backed parcel; at the next Daybreak the slot's keys are those of the new secret. -/
def execTspKeyProgramming (spdm binding ckid secret : Nat) (s : State) : Host.Outcome State Fault Refusal :=
  s.done (match mget s.mbx.spdm spdm, mget s.bnd.ckid (binding * 65536 + ckid) with
    | some x, some t => match mget s.sec.slots t with
      | some k =>
        if k.st = .established ∧ x.mutualAuth ∧ x.key = k.verifier ∧ ! s.tenantBacked t then
          let d := s.derive secret
          (s.submitNext (.rekey t d.1 d.2.1 d.2.2.1 d.2.2.2)).emit (.spdm spdm true)
        else s.emit (.spdm spdm false)
      | none => s.emit (.spdm spdm false)
    | _, _ => s.emit (.spdm spdm false))

/-- A slot's keys are replaced at a Daybreak, if it is still Established (R195). -/
def State.applyRekey (s : State) (t k1 k2 km kc : Nat) : State :=
  { s with sec.slots := mmod s.sec.slots t (fun k => if k.st = .established then { k with k1 := k1, k2 := k2, km := km, kc := kc } else k) }

/-- Opcode 0x0503 (R211): the integrity failures of a region of the tenant. -/
def execIntegrityQuery (rq : Rq) (region : Nat) (s : State) : Host.Outcome State Fault Refusal :=
  s.done (xib 0x0503 rq (.integrityQuery rq region) s fun p s =>
    match mget s.bnd.regions region with
    | none => s.refuse .parameter
    | some r =>
      if p ≠ .tenant r.tenant then s.refuse .permission
      else
        let i := mgetD s.sec.integ region { count := 0, ofs := 0, level := 0, frame := 0 }
        s.readAns [(4, i.count), (5, i.ofs), (1, i.level), (8, i.frame)])

/-- Opcode 0x0504 (R193): the owner permits or forbids a tenant ID. ENABLED is an LK field, so under the configuration lock the
command is refused with the state status (log entry 29). -/
def execEnableTenant (rq : Rq) (tenant enable : Nat) (s : State) : Host.Outcome State Fault Refusal :=
  s.done (xib 0x0504 rq (.enableTenant rq tenant enable) s fun _ s =>
    if tenant = 0 ∨ 1023 < tenant ∨ 1 < enable then s.refuse .parameter
    else if s.lkLocked then s.refuse .state
    else (s.submit (some (rqRef rq 0x0504)) (.enableTenant tenant (enable == 1))).okAt s.effFrame)

end Sys2Proof.Machine
end

