-- ==== Sys2Proof/Machine/Reset.lean ====
section
/-! DEFINITION. Mode and power transitions at a Daybreak, Standby, Quarantine, warm and cold reset, boot and Bring-up (chapters 13, 15, 21 and 22). -/
namespace Sys2Proof.Machine
open Sys2Proof

/-! ### Register blocks that a reset returns -/

/-- The mask of the ROS bits of a register (R7). -/
def RegDef.rosMask (d : RegDef) : Word := d.fields.foldl (fun m f => if f.ros then m ||| fieldMask f.lsb f.width else m) 0

/-- The word a register takes at a reset other than cold: ROS fields keep, the rest return to the reset word (R7, R343). -/
def keepRos (a : Nat) (w : Word) : Word :=
  match lookupReg a with
  | some (d, ix) => mix d.rosMask (BitVec.ofNat 32 (d.reset ix)) w
  | none => 0

/-- The register words of the blocks a test picks return to reset. -/
def State.resetWords (s : State) (pick : Nat → Bool) : State :=
  { s with
    regs := s.regs.filterMap (fun e =>
      if pick e.1 then (let w := keepRos e.1 e.2; if w = BitVec.ofNat 32 (resetWord e.1) then none else some (e.1, w)) else some e),
    force := s.force.filter (fun e => ! pick e.1), dirty := s.dirty.filter (fun a => ! pick a), latch := s.latch.filter (fun e => ! pick e.1) }

/-- The blocks of the main domain: every block but GLB, FRM, EVT, FLT, MBX, SLT and TWL (R334). -/
def inMain (a : Nat) : Bool := decide (0xA0000 ≤ a)

/-- The blocks of a warm reset (Table 15-8). -/
def inWarm (a : Nat) : Bool := inMain a || (decide (0x20000 ≤ a) && decide (a < 0x30000)) || (decide (0x40000 ≤ a) && decide (a < 0x80000))

/-- The state behind the registers of the main domain is gone: links, lanes, ISLs, the group, keys and trees, regions and translations, queues, the home
and its directory, Oxbow, the bridge, counters and the Reservoir. -/
def State.dropMain (s : State) : State :=
  { s with
    prt := { perstIn := s.prt.perstIn, perstOut := s.prt.perstOut }, isl := [], grp := {}, lan := {}, sec := { wsReady := s.sec.wsReady },
    bnd := {}, xbr := {}, home := {}, oxb := {}, brg := {}, cnt := {}, rsv := [], evt.level := [] }

/-- Every port is taken down (R345, R328). -/
def State.allDown (s : State) : State := s.declareAll (List.range 128)

/-! ### Mode changes (R324) -/

/-- The mode changes (R324): its frame is kept, private source 1 is raised, and targets that leave claim mode drop their marks (R392). -/
def State.setMode (s : State) (m : Mode) (f : Nat) : State :=
  if s.md.mode = m then s
  else
    let was := s.targets.filter s.claimMode
    let s1 : State := { s with md.mode := m, md.modeFrame := f }
    let s2 := was.foldl (fun s t => if s.claimMode t then s else s.leaveClaim t) s1
    s2.raiseAll s2.targets 1

/-- Effects that outlive the data plane: a key of the fabric manager, a slot channel's settings, a frame length, a personality level, a route. -/
def Act.outlives (a : Act) : Bool :=
  match a with
  | .fmKey _ _ => true
  | .slot _ _ => true
  | .frameLen _ => true
  | .persLevel _ _ => true
  | .route _ _ => true
  | _ => false

/-- Whether a long command is of the data plane: any but slot power, activation and personality. -/
def Lc.dataPlane (l : Lc) : Bool := decide (l.op < 0x0900) || l.op / 256 == 0x0E

/-- Every accepted effect of the data plane is cancelled, and its long commands end: past the commit point as failed (Table 15-9 case 9), before it as
aborted (log entry 80). -/
def State.endDataCommands (s : State) : State :=
  let s1 := s.cancelAll (fun d => ! d.act.outlives && d.handle.isNone) .modeChanged
  let s2 : State := { s1 with due := s1.due.filter (fun d => d.act.outlives) }
  s2.mbx.lc.foldl (fun s e =>
    let h := handleOf e.1 (e.2.gen % 1024)
    if ! e.2.dataPlane then s
    else if e.2.st = .past then s.lcEnd h .failed
    else if e.2.st = .running then s.lcEnd h .aborted
    else s) s2

/-- Standby takes effect (R328): ports disabled, key slots, Reservoir and SRAM content gone, the core tile and I/O tiles powered down, MAIN_SAFE set. The
groups keep the class they had (R53). -/
def State.enterStandby (s : State) (f : Nat) : State :=
  let hosts := (List.range 32).filter s.hostGroup
  let downs := (List.range 32).filter s.downGroup
  let s1 := ((s.allDown.endDataCommands.dropMain).resetWords inMain).setMode .standby f
  let s2 : State := { s1 with
    md.power := .off, md.mainSafe := true, md.hold := .out, md.quarDue := none, md.modeReq := none, md.pwrReq := none, md.portRst := [],
    md.heldHost := hosts, md.heldDown := downs, md.roleHeld := true, sec := { wsReady := s1.sec.wsReady } }
  (s2.setBit GLB_QUAR_ACTIVE false).refreshPersts

/-- Bring-up takes effect (R325): the data plane powers up, and the supervisor writes both setpoints (R461). -/
def State.enterBringUp (s : State) (f : Nat) : State :=
  let s1 := ({ s with md.power := .full, md.mainSafe := false } : State).setMode .bringUp f
  ((s1.emit (.avs 0 (s1.fld TWL_AVS_VCORE_SET))).emit (.avs 1 (s1.fld TWL_AVS_VSRAM_SET))).refreshPersts

/-- Quarantine takes effect (R335): slots lock, or complete to Empty; locks are released; moves and bulk pieces stop; staged state and accepted effects go,
and their issuers are told (Table 1-4 case 1). -/
def State.enterQuarantine (s : State) (record f : Nat) : State :=
  let zero := s.due.filterMap (fun d => match d.act with
    | .zeroise t => some (t, d.handle)
    | _ => none)
  let s1 : State := { s with due := s.due.filter (fun d => match d.act with
    | .zeroise _ => false
    | _ => true) }
  let s2 := zero.foldl (fun s e => (s.applyZeroise e.1).lcEndOpt e.2 .success) s1
  let s3 : State := { s2 with sec.slots := s2.sec.slots.map (fun e => (e.1, { e.2 with st := if e.2.st = .established then .locked else e.2.st })) }
  let s4 := ((s3.cancelAll (fun d => ! d.act.outlives) .modeChanged).releaseLocks (fun _ => true)).abortMoves (fun _ => true) .failed
  let s5 := (s4.bulkStop (fun _ => true)).clearStaging
  let s6 := match s5.md.modeReq with
    | some r => s5.answerAgain r.ref .modeChanged
    | none => s5
  ((({ s6 with mbx.lock := none, md.quarDue := none, md.modeReq := none } : State).setBit GLB_QUAR_ACTIVE true).setFld GLB_QUAR_RECORD record).setMode
    .quarantine f

/-- An accepted mode takes effect (Table 15-2). Service is Degraded while a condition of R326 holds and Evacuate is left. -/
def State.enterMode (s : State) (t : Mode) (f : Nat) : State :=
  match t with
  | .standby => s.enterStandby f
  | .bringUp => s.enterBringUp f
  | .service => s.setMode (if s.md.mode = .evacuate ∧ s.word GLB_DEG ≠ 0 then .degraded else .service) f
  | _ => s.setMode t f

/-- The fault collector holds Degraded while a condition of R326 is present. -/
def State.holdDegraded (s : State) (f : Nat) : State :=
  if s.md.mode = .service ∧ s.word GLB_DEG ≠ 0 then s.setMode .degraded f
  else if s.md.mode = .degraded ∧ s.word GLB_DEG = 0 then s.setMode .service f
  else s

/-! ### Hold (R333, R334) -/

/-- Answers a power request whose reply was kept back, with the frame at which it takes effect (log entry 27). -/
def State.answerPower (s : State) (r : PwrReq) (f : Nat) : State :=
  match r.ref with
  | none => s
  | some x =>
    let rp : Reply := { status := .success, frame := f, data := [] }
    let s1 := s.sendReply (s.keyOf x.sess) x rp
    { s1 with mbx.sess := mmod s1.mbx.sess x.sess (fun y => if y.last = some (x.seq, x.tag) then { y with stored := some rp } else y) }

/-- The power state changes, with private source 1 (Table 17-6). -/
def State.setPower (s : State) (p : Power) : State :=
  if s.md.power = p then s
  else
    let s1 : State := { s with md.power := p }
    s1.raiseAll s1.targets 1

/-- Hold is entered (R333): bulk pieces stop, every host and downstream port goes to L1, and link credits are withheld. -/
def State.enterHold (s : State) : State :=
  let s1 := (s.bulkStop (fun _ => true)).inc GLB_HOLD_HOLD_CNT
  let s2 := (List.range 128).foldl (fun s p =>
    if s.linkUp p ∧ (s.role p = 1 ∨ s.role p = 2) ∧ s.fld (PRT_PM_STAT_STATE p) ≠ 2 then (s.setFld (PRT_PM_STAT_STATE p) 2).inc (PRT_PM_STAT_L1_CNT p)
    else s) s1
  (State.setPower { s2 with md.preHold := s2.md.power, md.hold := .entering, md.pwrReq := none } .hold).syncAll

/-- Whether the home is idle: no transaction entry, retry or writeback buffer in use. -/
def State.homeIdle (s : State) : Bool := s.home.tt.isEmpty && s.home.retry.isEmpty && s.home.wbuf.isEmpty

/-- The resume (R334): RESUME_US takes the time since the wake cause, and credits flow. -/
def State.resume (s : State) (p : Power) (since f : Nat) : State :=
  let s1 := ({ s with md.hold := .out } : State).setPower p
  let s2 := (s1.setFld GLB_HOLD_RESUME_US (satTo 16 ((s.time.t0 - since + 999) / 1000))).syncAll
  match s2.md.pwrReq with
  | some r => State.answerPower { s2 with md.pwrReq := none } r f
  | none => s2

/-- The power transition of a Daybreak that opens frame `f`. Hold waits until every open move has completed or aborted (Table 1-4 case 6); entry is complete
when the home is idle. -/
def State.stepPower (s : State) (f : Nat) : State :=
  match s.md.hold with
  | .ready t since => s.resume t since f
  | .entering => if s.homeIdle then { s with md.hold := .held } else s
  | .held => s
  | .waking _ _ => s
  | .out =>
    match s.md.pwrReq with
    | some r =>
      if f < r.eff then s
      else if r.target = .hold then
        (if s.oxb.moves.isEmpty then s.enterHold else s.abortMoves (fun _ => true) .aborted)
      else ({ s with md.pwrReq := none } : State).setPower r.target
    | none => if s.xbr.noCredit.isEmpty then s else s.syncAll

/-- The mode and power transitions of a Daybreak that opens frame `f` (Table 2-2 order 8). In Hold, Quarantine waits for the resume (Table 15-9 case 1). -/
def State.stepModes (s : State) (f : Nat) : State :=
  let s1 := s.stepPower f
  match s1.md.quarDue with
  | some r =>
    if s1.md.mode = .standby ∨ s1.md.mode = .quarantine then { s1 with md.quarDue := none }
    else if s1.inHold then s1
    else s1.enterQuarantine r f
  | none =>
    match s1.md.modeReq with
    | some q => if q.eff ≤ f then State.enterMode { s1 with md.modeReq := none } q.target f else s1
    | none => s1.holdDegraded f

/-! ### Warm reset (R345, Table 15-8) -/

/-- The self-test of the collector before Bring-up (R379). -/
def State.selfTest (s : State) (ok : Bool) : State :=
  if ok then s.setBit FLT_STAT_SELF false else if s.bit FLT_STAT_SELF then s.selfFault else s

/-- A warm reset (R345): links go down, keys are zeroised, the blocks of Table 15-8 and the management complex return to reset; then Bring-up, or Standby
where Bring-up may not start (Table 15-2). Lifecycle, journal, FRM, slot channels, TWL, fault records and the personality stay; a lifecycle transition goes on in Wellspring
(Table 15-9 case 4). -/
def State.warmReset (s : State) (ok : Bool) (f : Nat) : State :=
  let s1 := (s.allDown.dropMain).resetWords inWarm
  let s2 : State := { s1 with
    mbx := {}, evt := { pinsLow := s1.evt.pinsLow },
    due := s1.due.filter (fun d => match d.act with
      | .fmKey _ _ => true
      | .slot _ _ => true
      | .frameLen _ => true
      | _ => false),
    flt.takeDue := false, twl.act := none,
    md := { s1.md with
      modeReq := none, pwrReq := none, quarDue := none, hold := .out, power := .full, mrst := none, warmDue := false, portRst := [],
      restart := 2, dbg := none, mainSafe := false, heldHost := [], heldDown := [], roleHeld := false } }
  let s3 := (((s2.setBit TWL_FW_TAKE_PEND false).setBit GLB_QUAR_ACTIVE false).setBit GLB_RST_STAT_LAST_WARM true).inc GLB_RST_STAT_WARM_CNT
  let s4 := (if s3.evt.alertLow then s3.emit (.alert false) else s3).selfTest ok
  let s5 := s4.setMode (if s4.bringUpOk then .bringUp else .standby) f
  (if s5.bringUpOk then s5 else { s5 with md.power := .off, md.mainSafe := true }).refreshPersts

def execWarmReset (selfTest : Bool) (s : State) : Host.Outcome State Fault Refusal :=
  s.done (if s.md.boot = .up then s.warmReset selfTest s.time.frame else { s with md.warmDue := false })

/-! ### Cold reset (R344, R457) -/

/-- The journal's records reloaded into the store, closed, from slot 0 on (R379). -/
def reloadJournal (l : List FltRec) : NMap FltRec :=
  ((sortBy (fun r => r.number) l).zipIdx).foldl (fun m e => if e.2 < 511 then mput m e.2 { e.1 with opn := false, serial := e.2 } else m) []

/-- The outputs of a cold reset (R457). -/
def coldOuts (s : State) : List Out :=
  s.prt.perstOut.map (fun g => Out.perst g false) ++ (if s.bit FLT_STAT_ALIVE_LVL then [.alive false] else []) ++
    (if s.md.thermtrip then [.thermtrip false] else []) ++ (if s.evt.alertLow then [.alert false] else [])

/-- What a cold reset keeps of the part's identity: fuses, the journal and flash, and what Wellspring stores (Table 15-8). The configuration lock
stays too (R7; log entry 177). -/
def IdSt.afterCold (i : IdSt) : IdSt :=
  { i with
    idKey := none, lockDue := none, lcFault := false, nonces := [], runBank := 0, runSvn := 0, runDigest := 0, dbgTokens := 0, meas := [],
    measCfg := [] }

/-- What a cold reset keeps of Twilight: margin records, the journal's pages and spares, the stored personality and the fused level. -/
def TwlSt.afterCold (t : TwlSt) : TwlSt :=
  { sens := t.sens.map (fun e => (e.1, { recs := e.2.recs, old := e.2.old, fit := e.2.fit })), slow := t.slow, slowAt := t.slowAt, spares := t.spares, pers := t.pers,
    native := t.native, log := t.log }

/-- A cold reset (R344) with its cause, leaving the device in a boot stage: everything returns to reset but fuses, the journal's content and flash. -/
def State.coldReset (s : State) (cause : Nat) (boot : Boot) : State :=
  let j := reloadJournal s.flt.journal
  let r : State := { State.reset with
    ident := s.ident.afterCold, twl := s.twl.afterCold, flt := { slots := j, serial := j.length, journal := s.flt.journal, selfJrn := s.flt.selfJrn },
    prt := { perstIn := s.prt.perstIn }, evt := { pinsLow := s.evt.pinsLow },
    md := { pwrgdCore := s.md.pwrgdCore, resetLow := s.md.resetLow, boot := boot, cause := cause },
    out := coldOuts s ++ s.out, fresh := s.fresh, pending := s.pending }
  let r1 := r.setFld FLT_NEXT_NEXT ((s.flt.journal.foldl (fun n q => max n (q.number + 1)) 0))
  let r2 := (r1.setFld TWL_RSV_PPR_LEFT0 (s.fld TWL_RSV_PPR_LEFT0)).setFld TWL_RSV_PPR_LEFT1 (s.fld TWL_RSV_PPR_LEFT1)
  let r3 := ((r2.setFld TWL_AVS_VCORE_BASE (s.fld TWL_AVS_VCORE_BASE)).setFld TWL_JRNL_SPARES (min s.twl.spares 255)).setFld TWL_JRNL_HEAD (s.fld TWL_JRNL_HEAD)
  r3.setFld TWL_AVS_VCORE_SET (r3.avsTarget s.twl.slow)

def execColdReset (s : State) : Host.Outcome State Fault Refusal :=
  s.doneTimed (match s.md.boot with
    | .auxOff => s
    | .inReset => s
    | _ => s.coldReset 2 .rom)

/-- The straps are sampled (R456). -/
def State.sampleStraps (s : State) (straps : Nat) : State := { s with ident.straps := straps % 16 }

/-- RESET_N has been low for a number of consecutive samples: 25 or more cause a cold reset and hold the device in it (R454). -/
def execResetNLow (samples : Nat) (s : State) : Host.Outcome State Fault Refusal :=
  s.doneTimed (if samples < 25 then s
    else if s.md.boot = .auxOff then { s with md.resetLow := true }
    else ({ s with md.resetLow := true } : State).coldReset 1 .inReset)

/-- RESET_N rises: the straps are sampled and the boot ROM starts. -/
def execResetNRelease (straps : Nat) (s : State) : Host.Outcome State Fault Refusal :=
  s.done (if ! s.md.resetLow then s
    else
      let s1 := ({ s with md.resetLow := false } : State).sampleStraps straps
      if s1.md.boot = .inReset then { s1 with md.boot := .rom } else s1)

/-- AUX_PWRGD rises: a cold reset (R452), in which RESET_N may hold the device. -/
def execAuxPwrgdRise (straps : Nat) (s : State) : Host.Outcome State Fault Refusal :=
  s.doneTimed (if s.md.boot ≠ .auxOff then s else (s.sampleStraps straps).coldReset 0 (if s.md.resetLow then .inReset else .rom))

/-- AUX_PWRGD falls: the whole device is held in reset (R455); the journal keeps what was written before. -/
def execAuxPwrgdFall (s : State) : Host.Outcome State Fault Refusal := s.doneTimed (s.coldReset 0 .auxOff)

/-! ### Boot (R288, R293, Table 13-5) -/

/-- The order of the base point of P-384, which FIPS 186-5 fixes (log entry 192). -/
def p384Order : Nat := 0xFFFFFFFFFFFFFFFFFFFFFFFFFFFFFFFFFFFFFFFFFFFFFFFFC7634D81F4372DDF581A0DB248B0A77AECEC196ACCC52973

/-- The private scalar of the identity key (R288): the seed expanded without salt into 64 bytes, reduced by the method of extra random bits (log entry 192). -/
def identityScalar (seed : Nat) : Nat := Config.hkdf seed 0 "IASUM DEVID" 64 % (p384Order - 1) + 1

/-- The identity digest of a public key (R289): SHA-384 of its 97-byte uncompressed point. -/
def identityDigest (x y : Nat) : Nat := Config.digest (4 :: ((bytesOf x 48).reverse ++ (bytesOf y 48).reverse))

/-- Wellspring derives the identity key from the seed (R288), and the digest from the key (R289). -/
def IdSt.deriveKey (i : IdSt) : IdSt :=
  let d := identityScalar i.seed
  let p := Config.p384Point d
  { i with idKey := some { d := d, x := p.1, y := p.2 }, digest := identityDigest p.1 p.2 }

/-- Wellspring resolves the lifecycle record against the fuses (Table 13-5). -/
def State.resolveLifecycle (s : State) : State :=
  let r := s.ident.record
  if r.ok && r.count == s.ident.fuses && ! r.pend then { s with ident.life := r.target, ident.due := none }
  else if r.ok && r.count == s.ident.fuses && r.pend then
    let owner := match s.ident.due with
      | some d => d.owner
      | none => s.ident.owner
    State.lifecycleNow { s with ident.life := r.prev, ident.due := some { target := r.target, eff := 0, owner := owner } }
  else if r.ok && r.count == s.ident.fuses + 1 && r.pend then
    { s with ident.life := r.prev, ident.due := none, ident.record := { r with target := r.prev, count := s.ident.fuses, pend := false } }
  else { s with ident.life := .owned, ident.lcFault := true, ident.due := none }

/-- The image the boot ROM runs: the valid one of higher SVN, bank 0 on a tie, or none (R293). -/
def State.bootImage (s : State) : Option Nat :=
  let v0 := s.imageValid s.ident.bank0
  let v1 := s.imageValid s.ident.bank1
  if v0 && (! v1 || decide (s.ident.bank1.svn ≤ s.ident.bank0.svn)) then some 0 else if v1 then some 1 else none

/-- An image runs from a bank. -/
def State.runBankImage (s : State) (b : Nat) : State :=
  let i := s.bankImage b
  ({ s with ident.runBank := b, ident.runSvn := i.svn, ident.runDigest := i.digest } : State).setBit TWL_FW_STANDBY_READY true

/-- The level in force is taken from the stored configuration and the straps (R421). -/
def State.takeLevel (s : State) : State :=
  let l := s.levelOf
  let serial := match s.twl.pers with
    | some (_, n) => n
    | none => 0
  let s1 := (s.setLevel l.1 serial).setBit TWL_PERS_CFG_VALID s.twl.pers.isSome
  if l.2 then (s1.setBit TWL_PERS_PERS_ERR true).raiseShared 300 else s1

/-- Bring-up starts by itself when its conditions hold in Standby (Table 15-2, Table 21-7 case 5). -/
def State.autoBringUp (s : State) : State :=
  if s.md.mode = .standby ∧ s.md.boot = .up ∧ s.bringUpOk ∧ s.md.modeReq.isNone then s.acceptMode .bringUp false none else s

/-- The boot ROM has run (R293): the identity key has been derived, Wellspring is ready and the lifecycle resolved, the image runs, the level is in force, and commands are accepted. -/
def State.bootDone (s : State) : State :=
  if s.md.boot ≠ .rom then s
  else
    let s1 := State.resolveLifecycle { s with ident := s.ident.deriveKey, md.boot := .up, sec.wsReady := true }
    let s2 := (match s1.bootImage with
      | some b => s1.runBankImage b
      | none => s1).takeLevel
    ((s2.setFld GLB_RST_STAT_COLD_CAUSE s.md.cause).setBit MBX_STAT_READY true).measure.autoBringUp

def execBootRomDone (s : State) : Host.Outcome State Fault Refusal := s.done s.bootDone

/-! ### Main power and Bring-up (R325, R329, R301) -/

def execPwrgdCoreAssert (s : State) : Host.Outcome State Fault Refusal := s.done (State.autoBringUp { s with md.pwrgdCore := true })

/-- PWRGD_CORE deasserts (R329): outside Standby an uncontained fault is recorded in the journal and Standby is entered at once. With RESET_N or AUX_PWRGD
low no record is made (R455, Table 21-7 case 1). -/
def State.coreLost (s : State) : State :=
  let s1 : State := { s with md.pwrgdCore := false }
  if s.md.mode = .standby ∨ s.md.boot ≠ .up then
    { s1 with md.modeReq := match s1.md.modeReq with
        | some r => if r.target = .bringUp then none else some r
        | none => none }
  else (s1.reportCode 0x0702 0 none 0).enterStandby s.time.frame

def execPwrgdCoreDeassert (s : State) : Host.Outcome State Fault Refusal := s.done s.coreLost

/-- The device record of this part (R301): its identity digest, byte 0 first, and the CRC-32 over it. -/
def State.deviceBytes (s : State) : List Nat :=
  let d := bytesOf s.ident.digest 48
  d ++ bytesOf (crc32 d) 4

/-- The board identity check (Table 13-7): whether the EEPROM answers with a good board record, that record's digest, and the digest of the device record (0:
blank or bad). A device record that is not this part's is written anew. Events are raised on shared source 300. -/
def State.boardCheck (s : State) (answers : Bool) (board device : Nat) : State :=
  if ! answers then (s.setBit GLB_BID_STAT_BID_ERR true).raiseShared 300
  else
    let s1 := s.setBit GLB_BID_STAT_READ_OK true
    let s2 := if board = s1.ident.board then s1
      else ((({ s1 with ident.board := board } : State).journalIn 5 board).setBit GLB_BID_STAT_NEW_BOARD true).raiseShared 300
    if device = s2.ident.digest then s2
    else if device = 0 then s2.emit (.deviceRecord s2.deviceBytes)
    else (((s2.setBit GLB_BID_STAT_NEW_DEVICE true).raiseShared 300).emit (.replaced device)).emit (.deviceRecord s2.deviceBytes)

/-- Bring-up's steps are done (R325): the mode becomes Provisioning at the Daybreak R36 gives; a failure is an uncontained fault. -/
def State.bringUpDone (s : State) (ok answers : Bool) (board device : Nat) : State :=
  if s.md.mode ≠ .bringUp ∨ s.md.modeReq.isSome then s
  else if ! ok then s.reportCode 0x0703 0 none 0
  else (s.boardCheck answers board device).acceptMode .provisioning false none

def execBringUpComplete (ok answers : Bool) (board device : Nat) (s : State) : Host.Outcome State Fault Refusal :=
  s.done (s.bringUpDone ok answers board device)

end Sys2Proof.Machine
end

