-- ==== Sys2Proof/Machine/RegView.lean ====
section
/-! DEFINITION. The word a read of a register returns before the principals of its fields are looked at: status registers that report
state kept elsewhere are computed from it, every other register is the word stored. -/
namespace Sys2Proof.Machine
open Sys2Proof

/-- A truth value as a bit. -/
def b2n (b : Bool) : Nat := if b then 1 else 0

/-- A word with fields (lowest bit, width, value) put in. -/
def insBits (w : Word) (l : List (Nat × Nat × Nat)) : Word := l.foldl (fun x f => setBits x f.1 f.2.1 f.2.2) w

/-- The low bits of a word in force, as a status register shows them. -/
def State.curLow (s : State) (a n : Nat) : Word := insBits 0 [(0, n, (s.curWord a).toNat)]

/-- Whether the device is healthy (R381). -/
def State.healthy (s : State) : Bool :=
  s.md.mode != .standby && s.md.mode != .quarantine && ! s.bit FLT_STAT_WD_EXP && ! s.bit FLT_STAT_SELF

/-- GLB and TWL registers (chapters 13, 15 and 19). -/
def State.viewGlb (s : State) (r : Reg) (a i : Nat) : Word :=
  match r with
  | .GLB_ID => BitVec.ofNat 32 s.idWord
  | .GLB_STEP => BitVec.ofNat 32 s.stepWord
  | .GLB_ID_DIGEST => BitVec.ofNat 32 (s.ident.digest / 2 ^ (32 * i))
  | .GLB_LC_STAT => BitVec.ofNat 32 s.lcStat
  | .GLB_FW_SVN => insBits 0 [(0, 7, s.ident.floor), (8, 7, s.ident.runSvn), (15, 1, s.ident.runBank),
      (16, 1, b2n (s.imageValid (s.bankImage (1 - s.ident.runBank))))]
  | .GLB_MODE => insBits 0 [(0, 4, s.md.mode.code), (4, 2, s.md.power.code), (6, 1, b2n (s.md.modeReq.isSome || s.md.pwrReq.isSome)),
      (7, 1, b2n (s.md.mode == .evacuate && s.evacDone)), (8, 1, b2n s.md.mainSafe)]
  | .GLB_MODE_FRM_LO => BitVec.ofNat 32 s.md.modeFrame
  | .GLB_MODE_FRM_HI => BitVec.ofNat 32 (s.md.modeFrame / 2 ^ 32)
  | .GLB_DBG_STAT => match s.md.dbg with
    | some d => insBits (s.word a) [(0, 1, 1), (1, 1, b2n d.vendorTok), (8, 7, s.debugEff)]
    | none => s.word a
  | .GLB_DBG_LIFE_LO => match s.md.dbg with
    | some d => BitVec.ofNat 32 d.last
    | none => 0
  | .GLB_DBG_LIFE_HI => match s.md.dbg with
    | some d => BitVec.ofNat 32 (d.last / 2 ^ 32)
    | none => 0
  | .TWL_FC => insBits (s.word a) [(0, 7, s.twl.fc.length)]
  | .TWL_PERS => insBits (s.word a) [(4, 4, s.twl.native), (8, 4, s.persStrap)]
  | _ => s.word a

/-- FRM registers (chapter 2). -/
def State.viewFrm (s : State) (r : Reg) (a : Nat) : Word :=
  match r with
  | .FRM_NUM_LO => BitVec.ofNat 32 s.time.frame
  | .FRM_NUM_HI => BitVec.ofNat 32 (s.time.frame / 2 ^ 32)
  | .FRM_LEN => insBits (s.word a) [(0, 2, s.time.lenCode), (9, 1, b2n s.lenPending)]
  | .FRM_STAT => insBits 0 [(0, 13, s.time.tick), (16, 1, b2n s.time.dusk)]
  | .FRM_SYNC_STAT => insBits (s.word a) [(0, 1, b2n (s.time.sync.phase == .locked)), (2, 1, b2n s.unaligned)]
  | _ => s.word a

/-- How many sources of a target are pending and unmasked (EVT_T_STAT.PEND_CNT). -/
def State.pendCount (s : State) (t : Nat) : Nat :=
  ((List.range 64).filter (fun c => s.bit (pendFld t c) && ! s.srcMasked t c)).length +
    ((List.range 512).filter (fun n => s.routeTarget n == t && s.bit (pendFld t (sharedCode n)) && ! s.srcMasked t (sharedCode n))).length

/-- EVT and FLT registers (chapter 17). -/
def State.viewEvt (s : State) (r : Reg) (a i j : Nat) : Word :=
  match r with
  | .FLT_STAT => insBits (s.word a) [(0, 7, openCount s.flt.slots), (10, 1, b2n s.healthy)]
  | .FLT_NEXT => insBits (s.word a) [(16, 10, s.flt.slots.length)]
  | .FLT_REC => match mget s.flt.slots i with
    | some x => BitVec.ofNat 32 (x.word j)
    | none => 0
  | .EVT_SH_ROUTE => insBits (s.word a) [(25, 2, if isPinSource i then 2 else 0), (27, 1, b2n (s.due.any (fun d => match d.act with
      | .route n _ => n == i
      | _ => false)))]
  | .EVT_T_CTL => insBits (s.word a) [(1, 1, b2n (s.claimMode i))]
  | .EVT_T_STAT => insBits 0 [(0, 10, s.pendCount i), (16, 10, (mgetD s.evt.active i []).length)]
  | _ => s.word a

/-- MBX and SLT registers (chapters 14 and 16). -/
def State.viewMbx (s : State) (r : Reg) (a i : Nat) : Word :=
  match r with
  | .MBX_STAT => insBits (s.word a) [(0, 9, s.mbx.sess.length)]
  | .MBX_STAGE => insBits 0 [(0, 16, s.mbx.lock.getD 0), (16, 1, b2n s.mbx.lock.isSome), (24, 7, s.lcRunning)]
  | .MBX_RT => insBits (s.word a) [(0, 5, s.queued i), (5, 1, b2n (s.mbx.attach.any (fun x => x.route == i)))]
  | .MBX_LC => match mget s.mbx.lc i with
    | some l => insBits 0 [(0, 16, l.op), (16, 3, l.st.code), (19, 10, l.gen)]
    | none => 0
  | .SLT_CH_OFFT => BitVec.ofNat 32 (s.slotOfft i % 2 ^ 25)
  | .SLT_CH_CUR => insBits (s.curLow (SLT_CH_CFG i) 19) [(31, 1, b2n (s.slotPend i))]
  | _ => s.word a

/-- PRT registers and their gates, and those of the schedulers (chapters 3, 6, 9 and 11). -/
def State.viewPrt (s : State) (r : Reg) (a i j : Nat) : Word :=
  match r with
  | .PRT_CFG => insBits (s.word a) [(16, 1, b2n (s.formed i))]
  | .PRT_CFG_STAT => s.cfgStat i
  | .PRT_IDE_STAT => s.ideStat i
  | .PRT_MF_STAT =>
    let m := s.mf i
    if s.isHost i then insBits (s.word a) [(0, 1, b2n m.bme), (1, 2, if m.msix then 3 else if m.msi then 2 else b2n (! m.intDis))] else 0
  | .PRT_MF_DROP => if s.isHost i then s.word a else 0
  | .LAN_PAT_STAT => insBits (s.word a) [(0, 1, b2n (s.patLocked i))]
  | .PRT_ARB_CUR => s.curWord (PRT_ARB_PRIO i j)
  | .PRT_DRR_CUR => s.curWord (PRT_DRR_Q i j)
  | .PRT_GL_CUR => insBits 0 ((List.range 4).map (fun k => (8 * k, 8, (s.slotsInForce i).getD (4 * j + k) 255)))
  | .PRT_GL_CTL => insBits (s.word a) [(3, 1, b2n (s.glPending i)), (4, 1, b2n (mget s.xbr.lists i).isSome)]
  | .XBR_ARB_CUR => s.curWord (XBR_ARB_PRIO i j)
  | .SHP_CUR => s.curWord (SHP_RATE i)
  | .SHP_STAT => insBits 0 [(0, 25, ((s.tokens i) % 2 ^ 25).toNat), (31, 1, b2n (s.xbr.held.contains i))]
  | .GATE_CTL => insBits (s.word a) [(1, 1, b2n (s.curBit (GATE_CTL_EN i))), (8, 9, (mgetD s.sec.rules i []).length)]
  | .GATE_VIO_ADDR_LO => if s.isPool i then insBits (s.word a) [(0, 18, 0)] else s.word a
  | .CNT_SEL_CUR => s.curWord (CNT_SEL i j)
  | .CNT_LIVE_LO => BitVec.ofNat 32 (s.liveCount i j)
  | .CNT_LIVE_HI => BitVec.ofNat 32 (s.liveCount i j / 2 ^ 32 % 2 ^ 16)
  | .CNT_SNAP_LO => BitVec.ofNat 32 (s.snapCount i j)
  | .CNT_SNAP_HI => BitVec.ofNat 32 (s.snapCount i j / 2 ^ 32 % 2 ^ 16)
  | _ => s.word a

/-- The state of a binding (BND_STAT.STATE). -/
def State.bndState (s : State) (b : Nat) : Nat :=
  if s.bnd.unbinding.contains b then 3 else if mget s.bnd.rst b = some true then 2 else if s.bndValid b then 1 else 0

/-- BND and HOM registers (chapters 7 and 8). -/
def State.viewBnd (s : State) (r : Reg) (a i j : Nat) : Word :=
  match r with
  | .BND_REGION => if s.bndValid i then insBits (s.word a) [(16, 10, s.bndTenant i), (26, 2, s.bndClass i)] else s.word a
  | .BND_HDM_CTL => insBits (s.word a) [(10, 1, b2n (s.bit (BND_HDM_CTL_LOCKED i) || s.tspLocked i))]
  | .BND_CUR => if s.curWord (BND_CFG i) = resetWord (BND_CFG i) then 0 else s.curLow (BND_CFG i) 24
  | .BND_STAT => insBits 0 [(0, 2, s.bndState i), (4, 7, ((s.extents i).filter (fun e => e.st == .offered || e.st == .accepted)).length),
      (16, 14, (s.curWord (BND_REGION i)).toNat)]
  | .BND_POOLS_CUR => s.curWord (BND_POOLS i j)
  | .HOM_STAT => insBits 0 [(0, 1, b2n ((List.range 64).any (fun k => s.slotSt k == 2))), (1, 1, b2n (! s.home.sweeping.isEmpty)),
      (8, 8, s.cur HOM_CFG_TMO)]
  | .HOM_DIR_STAT => insBits 0 [(0, 16, (s.home.dir.filter (fun e => e.2.cached)).length / 256), (16, 16, s.home.dir.length / 16384)]
  | .HOM_HOST_CUR => s.curLow (HOM_HOST_MAP i) 16
  | .HOM_SLC_TT => insBits 0 [(0, 14, (s.tts i).length), (16, 11, (mgetD s.home.retry i []).length)]
  | _ => s.word a

/-- The dirty entries of the sealed-metadata cache (SEC_MCACHE): leaves, nodes and MAC blocks (R206). -/
def State.metaDirty (s : State) : Nat :=
  (s.sec.leaves.filter (fun e => e.2.dirty)).length + (s.sec.nodes.filter (fun e => e.2.dirty)).length +
    (s.sec.macs.map (fun e => e.2.dirty.length)).sum

/-- The entries in the victim buffer (R207). -/
def State.metaWaiting (s : State) : Nat :=
  (s.sec.leaves.filter (fun e => e.2.waiting)).length + (s.sec.nodes.filter (fun e => e.2.waiting)).length +
    (s.sec.macs.map (fun e => e.2.waiting.length)).sum

/-- SEC and OXB registers (chapters 9 and 10). -/
def State.viewSec (s : State) (r : Reg) (a i : Nat) : Word :=
  match r with
  | .SEC_STAT => insBits 0 [(0, 1, b2n s.sec.wsReady), (1, 1, b2n (s.md.mode == .quarantine)),
      (16, 11, (s.sec.slots.filter (fun e => e.2.st == .established)).length)]
  | .SEC_MCACHE => insBits 0 [(0, 16, s.metaDirty / 65536), (16, 12, min s.metaWaiting 4095)]
  | .SEC_POOL_CAP_CUR => s.curWord (SEC_POOL_CAP i)
  | .SEC_SLOT => insBits (s.word a) [(0, 2, match s.slotState i with
      | .empty => 0 | .established => 1 | .locked => 2 | .zeroising => 3), (16, 14, s.tenantRegions i)]
  | .OXB_STAT => insBits (s.word a) [(0, 7, s.oxb.moves.length), (7, 1, b2n ((List.range 128).any s.evacuating)),
      (8, 1, b2n (! s.oxb.scrubs.isEmpty))]
  | .OXB_POOL_FREE => if s.poolReady i then insBits (s.word a) [(0, 31, s.poolFree i)] else s.word a
  | .OXB_EVAC_REM => if s.isPool i then BitVec.ofNat 32 ((s.entriesOn i).length + s.treesOn i) else 0
  | .OXB_MV_STAT => match mget s.oxb.moves i with
    | some x => insBits 0 [(0, 3, match x.phase with
        | .copying => 2 | .flip => 3 | .committed => 4), (3, 1, b2n x.isForced), (4, 4, min x.pass 15),
        (8, 1, b2n (! x.tree && s.regionCls x.region == 2)), (9, 13, if x.tree then 0 else 4096 - popCount x.copied 4096)]
    | none => 0
  | .OXB_MV_POOLS => match mget s.oxb.moves i with
    | some x => insBits 0 [(0, 7, x.srcPool), (8, 7, x.dstPool)]
    | none => 0
  | .OXB_MV_TT => match mget s.oxb.moves i with
    | some x => BitVec.ofNat 32 (s.moveIdx x % 2 ^ 30)
    | none => 0
  | .OXB_MV_PPI => match mget s.oxb.moves i with
    | some x => BitVec.ofNat 32 (x.dstPpi % 2 ^ 30)
    | none => 0
  | _ => s.word a

/-- LWB, ISL and group registers (chapters 5, 12 and 20). -/
def State.viewLwb (s : State) (r : Reg) (a i : Nat) : Word :=
  match r with
  | .LWB_STAT => insBits (s.word a) [(0, 1, b2n s.compact), (1, 7, s.windows.length), (8, 8, s.brg.lock.length)]
  | .ISL_CFG => if s.ident.life == .owned then s.word a ||| 0x100#32 else s.word a
  | .LWB_WIN_CUR => s.curLow (LWB_WIN_CFG i) 30
  | .GRP_CUR => s.curLow GRP_CFG 20
  | .GRP_REMOTE => insBits (s.word a) [(0, 15, s.grp.held.length)]
  | _ => s.word a

/-- The word of a register at an address with its indices, by block (Table 1-11). -/
def State.view (s : State) (r : Reg) (a i j : Nat) : Word :=
  if a ≤ 0xFFFF ∨ (0x90000 ≤ a ∧ a ≤ 0x9FFFF) then s.viewGlb r a i
  else if a ≤ 0x1FFFF then s.viewFrm r a
  else if a ≤ 0x3FFFF then s.viewEvt r a i j
  else if a ≤ 0x8FFFF then s.viewMbx r a i
  else if a ≤ 0x1FFFFF then s.viewPrt r a i j
  else if a ≤ 0x2FFFFF then s.viewBnd r a i j
  else if a ≤ 0x3FFFFF then s.viewSec r a i
  else if a ≤ 0x4FFFFF then s.viewLwb r a i
  else if r = .GATE_CTL ∨ r = .GATE_VIO_ADDR_LO then s.viewPrt r a i j
  else if a ≤ 0x5FFFFF then s.viewSec r a i
  else if a ≤ 0xFFFFFF then s.viewLwb r a i
  else if a < 0x2000000 then s.viewPrt r a i j
  else s.viewBnd r a i j

end Sys2Proof.Machine
end

