-- ==== Sys2Proof/Machine/RegBus.lean ====
section
/-! DEFINITION. The register window (R4 to R8, R28, R29): who may reach a word, what a read returns, and what a write does to each of its
fields. -/
namespace Sys2Proof.Machine
open Sys2Proof

/-- Whom a register access acts for: its principal, the session behind it (for staging, R313), and the initiator its gate sees (Table 9-9). -/
structure RegAcc where
  prin : Principal
  sess : Option Nat
  init : Nat
  deriving DecidableEq, Repr

/-- An access through the BAR of a management function: a host port's function is host traffic, the endpoint's the management complex, and a
debug session's the debug initiator (log entry 90). -/
def State.busAcc (s : State) (b : Bus) : RegAcc :=
  let p := s.busPrin b
  { prin := p, sess := s.barSession b.fn, init := if p = .debugger then initDebug else if b.fn < 128 then b.fn else initMgmt }

/-- An access by a register opcode of a session. -/
def opAcc (p : Principal) (n : Nat) : RegAcc := { prin := p, sess := some n, init := if p = .debugger then initDebug else initMgmt }

/-! ### Who may reach a word -/

/-- The principals of a field: the fields of a gate only the owner controls that list O and F list O only (R222), and BIF is reserved but in the
lead port of a group (R75). -/
def fieldWho (r : Reg) (i : Nat) (f : FieldDef) : Nat :=
  if r = .PRT_CFG ∧ f.lsb = 0 ∧ i % 4 ≠ 0 then 0
  else if (r = .GATE_CTL ∨ r = .GATE_VIO_STAT) ∧ gateOwnerOnly i ∧ f.who = 3 then 1 else f.who

/-- Whether a field lists a principal (R8). -/
def fieldFor (r : Reg) (i : Nat) (p : Principal) (f : FieldDef) : Bool := p.isIn (fieldWho r i f)

/-- The bits of the fields a test picks. -/
def RegDef.maskOf (d : RegDef) (t : FieldDef → Bool) : Word :=
  d.fields.foldl (fun m f => if t f then m ||| fieldMask f.lsb f.width else m) 0

/-- Whether a port block's offset exists: for a port that is not formed, only PRT_CFG and PRT_CFG_STAT (R49). -/
def State.offsetExists (s : State) (r : Reg) (a i : Nat) : Bool :=
  if 0x1000000 ≤ a ∧ a ≤ 0x17FFFFF then s.formed i || r == .PRT_CFG || r == .PRT_CFG_STAT else true

/-- The registers of an event target (R398). -/
def isTargetReg (r : Reg) : Bool :=
  [Reg.EVT_T_CTL, .EVT_T_PEND_LO, .EVT_T_PEND_HI, .EVT_T_MASK_LO, .EVT_T_MASK_HI, .EVT_T_CLAIM, .EVT_T_DONE, .EVT_T_STAT].contains r

/-- Whether a chapter's rule places a register within a principal's reach (R8): a host agent its own bindings (R160), event target (R398), lock
and windows (R287) and bulk queues; a tenant its own bindings (R160), key slot (R222), windows (R287) and shaper tokens (R266). -/
def State.withinReach (s : State) (p : Principal) (r : Reg) (a i : Nat) : Bool :=
  match p with
  | .host h =>
    if 0x2000000 ≤ a then s.bndValid i && s.maySeeBinding p i
    else if isTargetReg r then i == h
    else if 0x400000 ≤ a ∧ a ≤ 0x4FFFFF then (r == .LWB_LOCK && i == h) || (decide (0x401000 ≤ a) && s.maySeeWindow p i)
    else if 0x304000 ≤ a ∧ a ≤ 0x3043FF then s.queuePort i == h
    else true
  | .tenant t =>
    if 0x2000000 ≤ a then s.bndValid i && s.maySeeBinding p i
    else if r = .SEC_SLOT then i == t
    else if r = .SHP_STAT then i == t && s.bindings.any (fun b => s.bndTenant b == t && s.curBit (BND_CFG_TEN_VIEW b))
    else if 0x401000 ≤ a ∧ a ≤ 0x402FFF then s.bndValid (s.winBnd i) && s.maySeeWindow p i
    else true
  | _ => true

/-- What turns an access to one word away, as the status a register opcode answers: no such register (R29), out of reach or without a field
that lists the principal (R8), outside a debug session's effective scope (R339), the data plane off (R11), Retired (Table 13-3), or
Quarantine for a session that is not served (R335). -/
def State.wordRefusal (s : State) (x : RegAcc) (write : Bool) (a : Nat) : Option Status :=
  match lookupReg a with
  | none => some .permission
  | some (d, ix) =>
    let i := ix.getD 0 0
    if ! s.offsetExists d.reg a i then some .permission
    else if s.ident.life = .retired ∧ (write ∨ 0x10000 ≤ a) then some .state
    else if s.md.mode = .quarantine ∧ x.sess.isSome ∧ x.prin ≠ .owner ∧ x.prin ≠ .debugger then some .state
    else if s.dataOff ∧ inMain a then some .dataPlane
    else if ! s.withinReach x.prin d.reg a i then some .permission
    else if ! d.fields.any (fieldFor d.reg i x.prin) then some .permission
    else if x.prin = .debugger ∧ s.debugEff / (if write then 2 else 1) % 2 = 0 then some .permission
    else none

/-! ### Reads -/

/-- How many upper words a read of a register's instance latches (R5): the words of a digest are the instances of one register, and its
first alone is the lowest. -/
def RegDef.uppers (d : RegDef) (ix : List Nat) : Nat :=
  if (d.reg = .GLB_ID_DIGEST ∨ d.reg = .GRP_PEER_DIG) ∧ ix.getLast? ≠ some 0 then 0 else d.wide

/-- The addresses of the upper words of the wide field that begins at an address. -/
def upperWords (d : RegDef) (ix : List Nat) (a : Nat) : List Nat := (List.range (d.uppers ix)).map (fun k => a + 4 * (k + 1))

/-- The word at an address as it stands, whoever asks. -/
def State.viewAt (s : State) (a : Nat) : Word :=
  match lookupReg a with
  | some (d, ix) => s.view d.reg a (ix.getD 0 0) (ix.getD 1 0)
  | none => 0

/-- A read of one word that is not turned away (R5, R6, R8): the lowest word of a wide field latches the upper ones, an upper word reads
as latched, EVT_T_CLAIM claims (R391), and fields that do not list the principal read as 0. The latch is one for each address, whoever reads,
and stands until the lowest word is read again, the upper word is written or the block is reset (log entry 170). -/
def State.readWord (s : State) (x : RegAcc) (a : Nat) : Word × State :=
  match lookupReg a with
  | none => (0, s)
  | some (d, ix) =>
    let i := ix.getD 0 0
    let m := d.maskOf (fieldFor d.reg i x.prin)
    if d.reg = .EVT_T_CLAIM then
      let c := s.claim i
      (c.1 &&& m, c.2)
    else
      let s1 : State := { s with latch := (upperWords d ix a).foldl (fun l u => mput l u (s.viewAt u)) s.latch }
      let w := match mget s.latch a with
        | some v => v
        | none => s.view d.reg a i (ix.getD 1 0)
      (w &&& m, s1)

/-! ### Writes -/

/-- A word whose field keeps its old value where the new one is not allowed: a write of such a value is dropped for its field (log entry 91). -/
def keepIf (bad : Bool) (lsb w : Nat) (old new : Word) : Word := if bad then setBits new lsb w (getBits old lsb w) else new

/-- The values a register's plain fields take for a write: values the chapters drop leave their fields as they were, and fields that may not
change now are kept. -/
def State.allowed (s : State) (r : Reg) (i : Nat) (old new : Word) : Word :=
  match r with
  | .PRT_LINK_CTL => keepIf (getBits new 0 4 == 0 || decide (7 < getBits new 0 4)) 0 4 old new
  | .LAN_CTL => keepIf (getBit new 16 && ! getBit old 16 && s.parkStrands i) 16 1 old (keepIf (! presetOk new) 0 4 old new)
  | .ISL_REPLAY_CTL => keepIf (getBits new 0 8 == 0) 0 8 old (keepIf (getBits new 8 4 == 0) 8 4 old new)
  | .ISL_ERR_WIN => keepIf (getBits new 4 12 == 0) 4 12 old new
  | .XBR_PWD => keepIf (getBits new 0 8 == 0) 0 8 old new
  | .FLT_WDOG => keepIf (decide (getBits new 0 8 < 8)) 0 8 old new
  | .EVT_SH_ROUTE => keepIf (getBits new 10 8 == 0) 10 8 old new
  | .OXB_BQ_CFG => keepIf (getBit old 0) 1 11 old new
  | .OXB_BQ_BASE_LO => if s.bit (OXB_BQ_CFG_EN i) then old else new
  | .OXB_BQ_BASE_HI => if s.bit (OXB_BQ_CFG_EN i) then old else new
  | .CNT_RING_BASE_LO => if s.bit CNT_RING_CTL_EN then old else new
  | .CNT_RING_BASE_HI => if s.bit CNT_RING_CTL_EN then old else new
  | .CNT_RING_SIZE => if s.bit CNT_RING_CTL_EN then old else new
  | .TWL_CTL => keepIf (getBits new 8 8 == 0) 8 8 old new
  | .TWL_AVS_LIM => keepIf (decide (getBits new 0 10 < 700) || decide (850 < getBits new 0 10)) 0 10 old new
  | .TWL_PCAP => keepIf (decide (getBits new 4 4 < 5)) 4 4 old new
  | .SEC_SLOT => keepIf (i == 0) 2 1 old new
  | _ => new

/-- Runs an action when its bit of a write is set. -/
def State.onBit (s : State) (w : Word) (k : Nat) (f : State → State) : State := if getBit w k then f s else s

/-- What a write of a register does beyond storing its plain fields and clearing RW1C bits: `old` is the word before, `w` the bits written that
act (W1S and RW1C bits written 1), `p` the principal. -/
def State.afterWrite (s : State) (p : Principal) (r : Reg) (i : Nat) (old w : Word) : State :=
  match r with
  | .FRM_LEN => s.onBit w 8 State.armLength
  | .FRM_SYNC_CTL =>
    let s1 := if getBits (s.word FRM_SYNC_CTL) 0 2 ≠ getBits old 0 2 ∨ getBits (s.word FRM_SYNC_CTL) 3 4 ≠ getBits old 3 4 then s.toUnlocked else s
    s1.onBit w 16 State.rearm
  | .PRT_LINK_CTL => (s.linkDisabled i (getBit old 9)).onBit w 8 (fun s => s.retrain i)
  | .PRT_MF_STAT => s.onBit w 4 (fun s => if s.isHost i then s.setWord (PRT_MF_DROP i) 0 else s)
  | .LAN_CTL => s.lanWritten i old
  | .BND_HARV_CTL => s.onBit w 8 (fun s => s.harvestStart i)
  | .BND_ERR_STAT => s.onBit w 8 (fun s => s.clearBindRec i)
  | .BND_RST => s.onBit w 0 (fun s => s.resetWrite i)
  | .HOM_HOST_STAT => (s.onBit w 2 (fun s => s.drainWrite i)).onBit w 3 (fun s => s.reviveWrite i)
  | .SEC_IFAIL_STAT => s.onBit w 0 (fun s => (s.setWord SEC_IFAIL_STAT 0).setWord SEC_IFAIL_PARCEL 0)
  | .GATE_VIO_STAT => s.onBit w 0 (fun s => s.clearVio i)
  | .OXB_EVAC => (s.onBit w 0 (fun s => s.evacStart i)).onBit w 2 (fun s => s.evacCancel i)
  | .OXB_BQ_CFG => if getBit old 0 && ! s.bit (OXB_BQ_CFG_EN i) then s.stopQueue i else s
  | .PRT_GL_CTL => (s.onBit w 2 (fun s => s.glCancel i)).onBit w 1 (fun s => s.glArm i)
  | .LWB_LOCK => (s.onBit w 7 (fun s => s.lockRelease i)).onBit w 6 (fun s => s.lockAcquire i)
  | .LWB_WIN_FENCE => s.onBit w 0 (fun s => s.fenceWrite i)
  | .LWB_WIN_WFAIL => s.onBit w 0 (fun s => s.clearWfail i)
  | .LWB_WIN_MIR_OUT_HI => s.mirrorOut i
  | .MBX_CTL => s.onBit w 0 (fun s => s.requestMrst 1)
  | .GLB_MODE_REQ => (s.onBit w 16 (fun s => s.modeReqWrite p)).onBit w 17 (fun s => s.powerReqWrite p)
  | .GLB_RST_CTL =>
    ((s.onBit w 0 (fun s => { s with md.warmDue := true })).onBit w 1 (fun s => { s with md.coldDue := true })).onBit w 2
      (fun s => if s.formed (s.fld GLB_RST_CTL_PORT) then s.requestPortRst (s.fld GLB_RST_CTL_PORT) else s.countRefused)
  | .SLT_CH_CTL =>
    (((s.onBit w 2 (fun s => s.slotClrWrite i)).onBit w 3 (fun s => s.slotApply i)).onBit w 0 (fun s => s.slotOnWrite i)).onBit w 1
      (fun s => s.slotOffWrite p i)
  | .FLT_CLR => s.onBit w 16 State.fltClrGo
  | .EVT_SH_PEND => s.clearShared w i
  | .EVT_T_PEND_LO => s.clearPending i w 0
  | .EVT_T_PEND_HI => s.clearPending i w 32
  | .EVT_T_MASK_LO => s.unmasked i old (s.word (EVT_T_MASK_LO i)) 0
  | .EVT_T_MASK_HI => s.unmasked i old (s.word (EVT_T_MASK_HI i)) 32
  | .EVT_SH_ROUTE => s.submitNext (.route i (insBits (s.word (EVT_SH_ROUTE i)) [(25, 7, 0)]))
  | .TWL_CTL => s.refreshForecasts s.time.frame
  | .TWL_FC => s.onBit w 14 State.dismiss
  | .TWL_PCAP => s.onBit w 8 (fun s => s.capClear i)
  | _ => s

/-- Whether a write is refused as a whole for the value it carries or the state it meets, beyond what `wordRefusal` says: a reserved alignment
role, a route that may not be set (R384), a lane that may not be parked (Table 4-1 case 2). It is dropped and counted. -/
def State.writeRefused (s : State) (r : Reg) (i : Nat) (old new : Word) : Bool :=
  match r with
  | .FRM_SYNC_CTL => getBits new 0 2 == 3
  | .EVT_SH_ROUTE => ! s.routeOk i new
  | .LAN_CTL => getBit new 16 && ! getBit old 16 && s.parkStrands i
  | _ => false

/-- The registers a write of which is handled whole. -/
def State.wholeWrite (s : State) (r : Reg) (i : Nat) (w : Word) : Option State :=
  match r with
  | .LAN_PAT_CTL => some (s.patWrite i w)
  | .LAN_PAT_STAT => some (if getBit w 1 then s.setBit (LAN_PAT_STAT_REFUSED i) false else s)
  | .EVT_T_DONE => some (s.eventDone i w)
  | .CNT_RING_CTL => some (s.ringWrite w)
  | _ => none

/-- The staged part of a write (R313): the staged fields of the SLT block are stored whoever holds the lock, every other SH field needs the
staging lock, which the write takes if it is free; while another session holds it the part is dropped and counted. -/
def State.stagePart (s : State) (x : RegAcc) (a : Nat) (m w : Word) : State :=
  if m = 0 then s
  else if isSltAddr a then s.stageWord a (mix m (s.word a) w)
  else match x.sess with
    | none => s
    | some n => match s.takeLock n with
      | some s1 => s1.stageWord a (mix m (s1.word a) w)
      | none => s.loseLock

/-- A write of one word that is not turned away (R6 to R8): each field that lists the principal is written as its access code states; LK fields
are left alone under the configuration lock. -/
def State.writeWord (s : State) (x : RegAcc) (a : Nat) (w : Word) : State :=
  match lookupReg a with
  | none => s
  | some (d, ix) =>
    let i := ix.getD 0 0
    let mine := fun (f : FieldDef) => fieldFor d.reg i x.prin f && ! (f.lk && s.lkLocked)
    let old := s.word a
    let plainM := d.maskOf (fun f => mine f && f.acc == .rw && ! f.sh)
    let clr := d.maskOf (fun f => mine f && f.acc == .w1c) &&& w
    let act := d.maskOf (fun f => mine f && (f.acc == .w1s || f.acc == .w1c)) &&& w
    match s.wholeWrite d.reg i (w &&& d.maskOf mine) with
    | some s1 => s1
    | none =>
      let new := s.allowed d.reg i old (mix plainM old w)
      if s.writeRefused d.reg i old (mix plainM old w) then
        (if d.reg = .LAN_CTL then s.countRefused.setWord a new else s.countRefused)
      else
        let s1 := s.stagePart x a (d.maskOf (fun f => mine f && f.acc == .rw && f.sh)) w
        let was := if d.reg = .EVT_T_CTL then s.claimMode i else false
        let s2 := s1.setWord a (mix plainM (s1.word a) new &&& ~~~ clr)
        let s3 : State := { s2 with latch := mdel s2.latch a }
        if d.reg = .EVT_T_CTL then s3.scanWritten i was
        else if isPendReg d.reg then (s1.afterWrite x.prin d.reg i old act)
        else s3.afterWrite x.prin d.reg i old act
where
  /-- Registers whose pending bits clear through the event controller. -/
  isPendReg (r : Reg) : Bool := r == .EVT_SH_PEND || r == .EVT_T_PEND_LO || r == .EVT_T_PEND_HI

/-! ### Gates of register blocks (R212, R215) -/

/-- The gates a run of words touches, each with the first offset and length of its part. -/
def gateParts (a : Nat) : Nat → List (Nat × Nat × Nat)
  | 0 => []
  | n + 1 => match gateParts (a + 4) n with
    | (g, st, len) :: t => if g = gateOfReg a then (g, st - 4, len + 4) :: t else (gateOfReg a, a, 4) :: (g, st, len) :: t
    | [] => [(gateOfReg a, a, 4)]

/-- The register-block gates of an access agree; the first that refuses records the violation and names the status. -/
def State.regGates (s : State) (init : Nat) (k : GKind) (l : List (Nat × Nat × Nat)) : Option Status × State :=
  match l with
  | [] => (none, s)
  | (g, st, len) :: t =>
    match s.gateCheck g init k st len with
    | (.allow, s1) => s1.regGates init k t
    | (.refuse _, s1) => (some .permission, s1)
    | (.locked _, s1) => (some .locked, s1)

/-- The first status that turns a word of a run away. -/
def State.runRefusal (s : State) (x : RegAcc) (write : Bool) (a : Nat) : Nat → Option Status
  | 0 => none
  | n + 1 => match s.wordRefusal x write a with
    | some c => some c
    | none => s.runRefusal x write (a + 4) n

/-- Whether a run of words reaches a block outside the Aux domain (R334). -/
def runInMain (a : Nat) : Nat → Bool
  | 0 => false
  | n + 1 => inMain a || runInMain (a + 4) n

/-- Reads a run of words in ascending order. -/
def State.readRun (s : State) (x : RegAcc) (a : Nat) : Nat → List Word × State
  | 0 => ([], s)
  | n + 1 =>
    let r := s.readWord x a
    let q := r.2.readRun x (a + 4) n
    (r.1 :: q.1, q.2)

/-- Writes a run of words in ascending order. -/
def State.writeRun (s : State) (x : RegAcc) (a : Nat) (ws : List Word) : State :=
  match ws with
  | [] => s
  | w :: t => (s.writeWord x a w).writeRun x (a + 4) t

/-- Checks a run of words as a whole: every word, then the gates. An access that is turned away is counted (R8, R29). -/
def State.regCheck (s : State) (x : RegAcc) (write : Bool) (a n : Nat) : Option Status × State :=
  match s.runRefusal x write a n with
  | some c => (some c, s.countRefused)
  | none => match s.regGates x.init (if write then .write else .read) (gateParts a n) with
    | (some c, s1) => (some c, s1.countRefused)
    | (none, s1) => (none, s1)

/-- A register access by opcode that reads (R8, R312): the words, or the status that refuses it. -/
def State.opRead (s : State) (x : RegAcc) (a n : Nat) : Except Status (List Word) × State :=
  match s.regCheck x false a n with
  | (some c, s1) => (.error c, s1)
  | (none, s1) =>
    let r := s1.readRun x a n
    (.ok r.1, r.2)

/-- A register access by opcode that writes (R8, R312). One that meets a refused write has no effect. -/
def State.opWrite (s : State) (x : RegAcc) (a : Nat) (ws : List Word) : Option Status × State :=
  match s.regCheck x true a ws.length with
  | (some c, s1) => (some c, s1)
  | (none, s1) =>
    let s2 := s1.writeRun x a ws
    if s2.refused = s1.refused then (none, s2) else (some .permission, { s1 with refused := s2.refused })

/-! ### Accesses through a BAR -/

/-- Whether a register access through a BAR waits for the resume from Hold (R334). -/
def State.busWaits (s : State) (a : Nat) : Bool := s.inHold && inMain a

/-- A write of a word through a function's BAR (R4, R8). While nothing answers (R11, R455) it is lost. In Hold a block outside the Aux domain is
reached after the resume; `i` is the command that then runs. -/
def State.busWrite (s : State) (i : Instr) (b : Bus) (a : Nat) (w : Word) : State :=
  if s.md.boot ≠ .up then s
  else if s.busWaits a then ({ s with md.waiting := s.md.waiting ++ [i] } : State).wake none
  else if b.be ≠ 15 then s.countRefused
  else match s.regCheck (s.busAcc b) true a 1 with
    | (some _, s1) => s1
    | (none, s1) => s1.writeWord (s1.busAcc b) a w

/-- A read of a word through a function's BAR (R4, R5, R8): the function returns the word, or 0 where the read is refused. -/
def State.busRead (s : State) (i : Instr) (b : Bus) (a : Nat) : State :=
  if s.md.boot ≠ .up then s
  else if s.busWaits a then ({ s with md.waiting := s.md.waiting ++ [i] } : State).wake none
  else match s.regCheck (s.busAcc b) false a 1 with
    | (some _, s1) => s1.emit (.busData b.fn a 0)
    | (none, s1) =>
      let r := s1.readWord (s1.busAcc b) a
      r.2.emit (.busData b.fn a r.1)

/-- The word a register's plain fields hold, with action bits set: what a sender writes that means the action alone. -/
def State.withBits (s : State) (a : Nat) (bits : Word) : Word :=
  match lookupReg a with
  | some (d, _) => (s.word a &&& d.maskOf (fun f => f.acc == .rw)) ||| bits
  | none => bits

end Sys2Proof.Machine
end

