-- ==== Sys2Proof/Machine/RegCommands.lean ====
section
/-! DEFINITION. The commands that reach registers: opcodes 0x0110 and 0x0111, reads and writes through a BAR, one command for each register with
behaviour of its own, the FM API (R319), and the debug opcodes (R340). -/
namespace Sys2Proof.Machine
open Sys2Proof

/-! ### Register opcodes -/

/-- The body of opcode 0x0110. -/
def State.regReadBody (s : State) (rq : Rq) (addr count : Nat) (p : Principal) : Ans :=
  if count = 0 then s.refuse .parameter
  else if 1022 < count then s.refuse .tooLarge
  else match s.opRead (opAcc p rq.sess) addr count with
    | (.error c, s1) => s1.refuse c
    | (.ok ws, s1) => s1.readAns (ws.map (fun w => (4, w.toNat)))

/-- What refuses a write of words that sets FRM_LEN.ARM: a frame that R39 refuses, or a group-wide change while the follower is not Locked
(R39, R42, R46). -/
def State.armRefusal (s : State) (rq : Rq) (addr : Nat) (ws : List Word) (p : Principal) : Option Status :=
  if addr % 4 = 0 ∧ addr ≤ FRM_LEN ∧ getBit (ws.getD ((FRM_LEN - addr) / 4) 0) 8 ∧ p.isOF then
    s.namedGroupRefusal (s.fld64 FRM_LEN_AT_LO_AT FRM_LEN_AT_HI_AT) rq.group
  else none

/-- The effects accepted since there were `n` are a request's: its issuer is told if one is cancelled (Table 2-3). -/
def State.nameIssuer (s : State) (n : Nat) (ref : Ref) : State :=
  { s with due := s.due.take n ++ (s.due.drop n).map (fun d => { d with ref := some ref }) }

/-- The body of opcode 0x0111. The reply of a write that submits something for a Daybreak names that frame (R306). -/
def State.regWriteBody (s : State) (rq : Rq) (addr count : Nat) (ws : List Word) (p : Principal) : Ans :=
  if count = 0 ∨ ws.length ≠ count then s.refuse .parameter
  else if 1022 < count then s.refuse .tooLarge
  else match s.opWrite (opAcc p rq.sess) addr ws with
    | (some c, s1) => s1.refuse c
    | (none, s1) => match s.armRefusal rq addr ws p with
      | some c => s.refuse c
      | none => match (s1.due.drop s.due.length).getLast? with
        | some d => (s1.nameIssuer s.due.length (rqRef rq 0x0111)).okAt d.eff
        | none => s1.okNow

/-- Keeps an admitted request until the resume from Hold, which it asks for; its reply is sent then (R334). -/
def State.await (s : State) (i : Instr) : Ans :=
  { st := ({ s with md.waiting := s.md.waiting ++ [i] } : State).wake none, status := .success, frame := 0, data := [], later := true }

/-- Opcode 0x0110 (R8): reads words. -/
def execRegisterRead (rq : Rq) (addr count : Nat) (s : State) : Host.Outcome State Fault Refusal :=
  s.done (xib 0x0110 rq (.registerRead rq addr count) s fun p s =>
    if s.inHold ∧ runInMain addr (min count 1022) then s.await (.registerRead rq addr count) else s.regReadBody rq addr count p)

/-- Opcode 0x0111 (R8): writes words. -/
def execRegisterWriteOpcode (rq : Rq) (addr count : Nat) (words : List Word) (s : State) : Host.Outcome State Fault Refusal :=
  s.done (xib 0x0111 rq (.registerWriteOpcode rq addr count words) s fun p s =>
    if s.inHold ∧ runInMain addr (min count 1022) then s.await (.registerWriteOpcode rq addr count words)
    else s.regWriteBody rq addr count words p)

/-! ### Accesses through a BAR -/

/-- A read of a register through a function's BAR. -/
def execBarRegisterRead (b : Bus) (addr : Nat) (s : State) : Host.Outcome State Fault Refusal :=
  s.done (s.busRead (.barRegisterRead b addr) b addr)

/-- A write of a register through a function's BAR. -/
def execRegisterWrite (b : Bus) (addr : Nat) (w : Word) (s : State) : Host.Outcome State Fault Refusal :=
  s.done (s.busWrite (.registerWrite b addr w) b addr w)

/-- A read of EVT_T_CLAIM (R391). -/
def execEventClaim (b : Bus) (t : Nat) (s : State) : Host.Outcome State Fault Refusal :=
  s.done (s.busRead (.eventClaim b t) b (EVT_T_CLAIM t))

/-- A write of EVT_T_DONE (R391, R393). -/
def execEventDone (b : Bus) (t : Nat) (w : Word) (s : State) : Host.Outcome State Fault Refusal :=
  s.done (s.busWrite (.eventDone b t w) b (EVT_T_DONE t) w)

/-- A write of a pending register (R390, R393). -/
def execEventPendingClear (b : Bus) (addr : Nat) (w : Word) (s : State) : Host.Outcome State Fault Refusal :=
  s.done (s.busWrite (.eventPendingClear b addr w) b addr w)

/-- A write of EVT_T_CTL (R392). -/
def execEventScanSelect (b : Bus) (t : Nat) (w : Word) (s : State) : Host.Outcome State Fault Refusal :=
  s.done (s.busWrite (.eventScanSelect b t w) b (EVT_T_CTL t) w)

/-- A write of FLT_CLR with GO (R379). -/
def execFaultClearWrite (b : Bus) (w : Word) (s : State) : Host.Outcome State Fault Refusal :=
  s.done (s.busWrite (.faultClearWrite b w) b FLT_CLR (w ||| 0x10000#32))

/-- A write of EVT_SH_ROUTE (R384). -/
def execRouteWrite (b : Bus) (source : Nat) (w : Word) (s : State) : Host.Outcome State Fault Refusal :=
  s.done (s.busWrite (.routeWrite b source w) b (EVT_SH_ROUTE source) w)

/-- A write of GLB_MODE_REQ with MREQ (R324). -/
def execModeRequestWrite (b : Bus) (w : Word) (s : State) : Host.Outcome State Fault Refusal :=
  s.done (s.busWrite (.modeRequestWrite b w) b GLB_MODE_REQ (w ||| 0x10000#32))

/-- A write of GLB_MODE_REQ with PREQ (R331). -/
def execPowerRequestWrite (b : Bus) (w : Word) (s : State) : Host.Outcome State Fault Refusal :=
  s.done (s.busWrite (.powerRequestWrite b w) b GLB_MODE_REQ (w ||| 0x20000#32))

/-- A write of MBX_CTL.MRST (R320). -/
def execManagementResetRequest (b : Bus) (s : State) : Host.Outcome State Fault Refusal :=
  s.done (s.busWrite (.managementResetRequest b) b MBX_CTL 1)

/-- A write of GLB_RST_CTL.WARM (R343). -/
def execWarmResetWrite (b : Bus) (s : State) : Host.Outcome State Fault Refusal :=
  s.done (s.busWrite (.warmResetWrite b) b GLB_RST_CTL (s.withBits GLB_RST_CTL 1))

/-- A write of GLB_RST_CTL.COLD (R343). -/
def execColdResetWrite (b : Bus) (s : State) : Host.Outcome State Fault Refusal :=
  s.done (s.busWrite (.coldResetWrite b) b GLB_RST_CTL (s.withBits GLB_RST_CTL 2))

/-- A write of GLB_RST_CTL with PORT_RST (R346). -/
def execPortResetPortRst (b : Bus) (w : Word) (s : State) : Host.Outcome State Fault Refusal :=
  s.done (s.busWrite (.portResetPortRst b w) b GLB_RST_CTL (insBits w [(0, 2, 0), (2, 1, 1)]))

/-- A write of FRM_LEN with ARM (R39, R42). -/
def execFrmLenArm (b : Bus) (w : Word) (s : State) : Host.Outcome State Fault Refusal :=
  s.done (s.busWrite (.frmLenArm b w) b FRM_LEN (w ||| 0x100#32))

/-- A write of FRM_SYNC_CTL.REARM (R45). -/
def execFollowerRearm (b : Bus) (s : State) : Host.Outcome State Fault Refusal :=
  s.done (s.busWrite (.followerRearm b) b FRM_SYNC_CTL (s.withBits FRM_SYNC_CTL 0x10000))

/-- A write of FRM_SYNC_CTL that changes ROLE or SRC. -/
def execSyncRoleChange (b : Bus) (w : Word) (s : State) : Host.Outcome State Fault Refusal :=
  s.done (s.busWrite (.syncRoleChange b w) b FRM_SYNC_CTL w)

/-- A write of PRT_GL_CTL with ARM (R264). -/
def execGateListArm (b : Bus) (p : Nat) (w : Word) (s : State) : Host.Outcome State Fault Refusal :=
  s.done (s.busWrite (.gateListArm b p w) b (PRT_GL_CTL p) (w ||| 2#32))

/-- A write of PRT_GL_CTL.CANCEL (R264). -/
def execGateListCancel (b : Bus) (p : Nat) (s : State) : Host.Outcome State Fault Refusal :=
  s.done (s.busWrite (.gateListCancel b p) b (PRT_GL_CTL p) (s.withBits (PRT_GL_CTL p) 4))

/-- A write of HOM_HOST_STAT.DRAIN (R178). -/
def execHostSlotDrainWrite (b : Bus) (k : Nat) (s : State) : Host.Outcome State Fault Refusal :=
  s.done (s.busWrite (.hostSlotDrainWrite b k) b (HOM_HOST_STAT k) 4)

/-- A write of HOM_HOST_STAT.REVIVE (R179). -/
def execHostSlotRevive (b : Bus) (k : Nat) (s : State) : Host.Outcome State Fault Refusal :=
  s.done (s.busWrite (.hostSlotRevive b k) b (HOM_HOST_STAT k) 8)

/-- A write of OXB_EVAC with START (R243). -/
def execEvacuationStartWrite (b : Bus) (p : Nat) (w : Word) (s : State) : Host.Outcome State Fault Refusal :=
  s.done (s.busWrite (.evacuationStartWrite b p w) b (OXB_EVAC p) (w ||| 1#32))

/-- A write of OXB_EVAC with CANCEL (R243). -/
def execEvacuationCancel (b : Bus) (p : Nat) (w : Word) (s : State) : Host.Outcome State Fault Refusal :=
  s.done (s.busWrite (.evacuationCancel b p w) b (OXB_EVAC p) (w ||| 4#32))

/-- A write of BND_RST.RESET (R154). -/
def execBindingResetRequest (b : Bus) (bnd : Nat) (s : State) : Host.Outcome State Fault Refusal :=
  s.done (s.busWrite (.bindingResetRequest b bnd) b (BND_RST bnd) 1)

/-- A write of BND_HARV_CTL with START (R156). -/
def execHarvestStart (b : Bus) (bnd : Nat) (w : Word) (s : State) : Host.Outcome State Fault Refusal :=
  s.done (s.busWrite (.harvestStart b bnd w) b (BND_HARV_CTL bnd) (w ||| 0x100#32))

/-- A write of OXB_BQ_TAIL (R246). -/
def execBulkTailWrite (b : Bus) (q : Nat) (w : Word) (s : State) : Host.Outcome State Fault Refusal :=
  s.done (s.busWrite (.bulkTailWrite b q w) b (OXB_BQ_TAIL q) w)

/-- A write of OXB_BQ_CFG that clears EN (R246). -/
def execBulkQueueDisable (b : Bus) (q : Nat) (w : Word) (s : State) : Host.Outcome State Fault Refusal :=
  s.done (s.busWrite (.bulkQueueDisable b q w) b (OXB_BQ_CFG q) (w &&& 0xFFFFFFFE#32))

/-- A write of LWB_WIN_FENCE.FENCE (R277). -/
def execBridgeFenceWrite (b : Bus) (win : Nat) (w : Word) (s : State) : Host.Outcome State Fault Refusal :=
  s.done (s.busWrite (.bridgeFenceWrite b win w) b (LWB_WIN_FENCE win) (w ||| 1#32))

/-- A write of LWB_LOCK with ACQ (R280). -/
def execLockAcquire (b : Bus) (p : Nat) (w : Word) (s : State) : Host.Outcome State Fault Refusal :=
  s.done (s.busWrite (.lockAcquire b p w) b (LWB_LOCK p) (w ||| 0x40#32))

/-- A write of LWB_LOCK with REL (R281). -/
def execLockRelease (b : Bus) (p : Nat) (w : Word) (s : State) : Host.Outcome State Fault Refusal :=
  s.done (s.busWrite (.lockRelease b p w) b (LWB_LOCK p) (w ||| 0x80#32))

/-- A write of LWB_WIN_MIR_OUT_HI (R285). -/
def execMirrorOutWrite (b : Bus) (win : Nat) (w : Word) (s : State) : Host.Outcome State Fault Refusal :=
  s.done (s.busWrite (.mirrorOutWrite b win w) b (LWB_WIN_MIR_OUT_HI win) w)

/-- A write of SLT_CH_CTL.ON (R366). -/
def execSlotOnWrite (b : Bus) (c : Nat) (s : State) : Host.Outcome State Fault Refusal :=
  s.done (s.busWrite (.slotOnWrite b c) b (SLT_CH_CTL c) 1)

/-- A write of SLT_CH_CTL.OFF (R367). -/
def execSlotOffWrite (b : Bus) (c : Nat) (s : State) : Host.Outcome State Fault Refusal :=
  s.done (s.busWrite (.slotOffWrite b c) b (SLT_CH_CTL c) 2)

/-- A write of SLT_CH_CTL.CLR (R369). -/
def execSlotClrWrite (b : Bus) (c : Nat) (s : State) : Host.Outcome State Fault Refusal :=
  s.done (s.busWrite (.slotClrWrite b c) b (SLT_CH_CTL c) 4)

/-- A write of SLT_CH_CTL.APPLY (R370). -/
def execSlotApply (b : Bus) (c : Nat) (s : State) : Host.Outcome State Fault Refusal :=
  s.done (s.busWrite (.slotApply b c) b (SLT_CH_CTL c) 8)

/-- A write of LAN_CTL that parks or returns a lane (R81). -/
def execLaneParkWrite (b : Bus) (l : Nat) (w : Word) (s : State) : Host.Outcome State Fault Refusal :=
  s.done (s.busWrite (.laneParkWrite b l w) b (LAN_CTL l) w)

/-- A write of LAN_PAT_CTL (R83 to R86). -/
def execPatternControlWrite (b : Bus) (l : Nat) (w : Word) (s : State) : Host.Outcome State Fault Refusal :=
  s.done (s.busWrite (.patternControlWrite b l w) b (LAN_PAT_CTL l) w)

/-- A write of LAN_PAT_CTL.INJ (R85). -/
def execPatternInject (b : Bus) (l : Nat) (s : State) : Host.Outcome State Fault Refusal :=
  s.done (s.busWrite (.patternInject b l) b (LAN_PAT_CTL l) (s.withBits (LAN_PAT_CTL l) 0x80))

/-- A write of LAN_PAT_CTL.CLR (R84). -/
def execPatternErrClear (b : Bus) (l : Nat) (s : State) : Host.Outcome State Fault Refusal :=
  s.done (s.busWrite (.patternErrClear b l) b (LAN_PAT_CTL l) (s.withBits (LAN_PAT_CTL l) 0x2000))

/-- A write of PRT_LINK_CTL.RETRAIN. -/
def execRetrain (b : Bus) (p : Nat) (s : State) : Host.Outcome State Fault Refusal :=
  s.done (s.busWrite (.retrain b p) b (PRT_LINK_CTL p) (s.withBits (PRT_LINK_CTL p) 0x100))

/-- A write of PRT_LINK_CTL that changes LINK_DIS. -/
def execLinkDisableWrite (b : Bus) (p : Nat) (w : Word) (s : State) : Host.Outcome State Fault Refusal :=
  s.done (s.busWrite (.linkDisableWrite b p w) b (PRT_LINK_CTL p) w)

/-- A write of CNT_RING_CTL (R403). -/
def execRingEnableWrite (b : Bus) (w : Word) (s : State) : Host.Outcome State Fault Refusal :=
  s.done (s.busWrite (.ringEnableWrite b w) b CNT_RING_CTL w)

/-- A write of TWL_FC with DISMISS (R414). -/
def execForecastDismiss (b : Bus) (w : Word) (s : State) : Host.Outcome State Fault Refusal :=
  s.done (s.busWrite (.forecastDismiss b w) b TWL_FC (w ||| 0x4000#32))

/-- A write of TWL_PCAP.CLR (R412). -/
def execRateCapClear (b : Bus) (p : Nat) (s : State) : Host.Outcome State Fault Refusal :=
  s.done (s.busWrite (.rateCapClear b p) b (TWL_PCAP p) (s.withBits (TWL_PCAP p) 0x100))

/-! ### The FM API (R319) -/

/-- The FM API return code of a status. `chg` says that the command is self-committing. -/
def fmCode (c : Status) (chg : Bool) : FmCode :=
  match c with
  | .success => if chg then .background else .success
  | .inProgress => .background
  | .parameter => .invalidInput
  | .tooLarge => .invalidInput
  | .permission => .securityState
  | .state => .securityState
  | .unsupported => .unsupported
  | .retry => .retry
  | .busy => .busy
  | _ => .internal

/-- The opcode an FM API command runs as (Table 14-7). -/
def fmOp : FmCmd → Nat
  | .identify => 0x0100 | .portState _ => 0x0300 | .portControl .. => 0x0301 | .ppbConfig .. => 0x0302 | .vcsInfo .. => 0x0110
  | .bind .. => 0x0303 | .unbind .. => 0x0304 | .aer .. => 0x0305 | .tunnel .. => 0x0308 | .ldConfig .. => 0x0306 | .ldMemory .. => 0x0307

/-- What a virtual downstream port holds, as an FM API reply gives it: kind (0 empty, 1 a device of a port, 2 a virtual memory device), port or
binding, logical device, presence. -/
def vdpData (v : Vdp) : List (Nat × Nat) :=
  match v.hold with
  | .empty => [(1, 0), (2, 0), (1, 0), (1, b2n v.present)]
  | .phys p ld => [(1, 1), (2, p), (1, ld), (1, b2n v.present)]
  | .vmd b => [(1, 2), (2, b), (1, 0), (1, b2n v.present)]

/-- Identify Switch Device: the fields of opcode 0x0100, with the numbers of formed ports, host ports, downstream ports and ISLs. -/
def State.fmIdentify (s : State) : Ans :=
  let n := fun (t : Nat → Bool) => ((List.range 128).filter (fun p => s.formed p && t p)).length
  s.readAns [(4, s.idWord), (4, s.stepWord), (48, s.ident.digest), (4, s.lcStat), (1, s.fld TWL_PERS_LEVEL), (1, s.ident.runSvn),
    (1, n (fun _ => true)), (1, n (fun p => s.role p == 1)), (1, n (fun p => s.role p == 2)), (1, n (fun p => s.role p == 3))]

/-- Get Virtual CXL Switch Info: the virtual downstream ports of a host port, from `first` on. -/
def State.fmVcs (s : State) (host first count : Nat) : Ans :=
  if ! s.isHost host ∨ 128 < first + count then s.refuse .parameter
  else s.readAns ((List.range count).flatMap (fun k => vdpData (mgetD s.prt.vdp (host * 128 + (first + k)) {})))

/-- The body of an FM API command. -/
def fmBody (c : FmCmd) (p : Principal) (s : State) : Ans :=
  match c with
  | .identify => s.fmIdentify
  | .portState port => getPort port p s
  | .portControl port action => portControl port action p s
  | .ppbConfig port request completion => relay 0x0302 port 0 request s [(8, completion)]
  | .vcsInfo host first count => s.fmVcs host first count
  | .bind host vdp port ld => bindVdp host vdp port ld p s
  | .unbind host vdp force => unbindVdp host vdp force p s
  | .aer host vdp header => genAer host vdp header p s
  | .tunnel port ld command size reply => relay 0x0308 port ld command s [(size, reply)]
  | .ldConfig port ld request completion => relay 0x0306 port ld request s [(8, completion)]
  | .ldMemory port ld addr len data reply => relay 0x0307 port ld (ldRequest addr len data) s [(len, reply)]

/-- Whether an FM API command is self-committing (Table 14-6). -/
def fmChanges : FmCmd → Bool
  | .bind .. => true
  | .unbind .. => true
  | _ => false

/-- The session that has attached a source. -/
def State.attached (s : State) (source route eid : Nat) : Option Nat :=
  (s.mbx.attach.find? (fun a => a.source == source && a.route == route && (source != 1 || a.eid == eid))).map (fun a => a.sess)

/-- An FM API command from a source (R319): it runs as the session that has attached the source, for the owner or a fabric manager alone. The
mode and lifecycle are checked as for a Xiboni request. -/
def State.fmApi (s : State) (source route eid : Nat) (c : FmCmd) : State :=
  match s.attached source route eid with
  | none => s.emit (.fmApi route eid .securityState [])
  | some n =>
    let p := s.prinOf n
    match s.opGate p (fmOp c) with
    | some st => s.emit (.fmApi route eid (fmCode st false) [])
    | none =>
      let a := fmBody c p s
      a.st.emit (.fmApi route eid (fmCode a.status (fmChanges c)) a.data)

/-- An FM API command arrives: while the interpreter is not ready it waits on its route's queue. `carrier` is the function that carried a VDM. -/
def execFmApiCommand (source route eid carrier : Nat) (c : FmCmd) (s : State) : Host.Outcome State Fault Refusal :=
  s.done (if s.md.boot ≠ .up then s
    else if ! s.bit MBX_STAT_READY then s.hold route (.fmApiCommand source route eid carrier c)
    else s.fmApi source route eid c)

/-! ### Debug opcodes (R338 to R340) -/

/-- The bytes of a Reservoir partition (R219). -/
def partitionSize (n : Nat) : Nat :=
  match n with
  | 0 => 0x200000000 | 1 => 0x200000000 | 2 => 0x2F0000000 | 3 => 0x80000000 | 4 => 0x80000000 | 5 => 0x8000000 | 6 => 0x8000000
  | _ => 0

/-- The 64 bits of a translation entry (Table 7-3). -/
def TtEntry.bits (e : TtEntry) : Nat :=
  (if e.valid then 1 else 0) + (if e.moving then 2 else 0) + e.pool % 128 * 4 + e.ppi % 2 ^ 30 * 512 + e.gen % 65536 * 2 ^ 48

/-- One word of a Reservoir partition as a debug read returns it. Partition 1 holds entry i at offset 8i (log entry 95); where an entry of the full
directory lies in partition 0 the manual does not say, so its words are free (log entry 3). -/
def State.partWord (s : State) (n ofs : Nat) : Nat × State :=
  match n with
  | 0 => let v := s.draw; (v.1 % 2 ^ 32, v.2)
  | 1 => ((s.ttEntry (ofs / 8)).bits / 2 ^ (ofs % 8 * 8) % 2 ^ 32, s)
  | _ => (Memory.number s.rsv (n * 2 ^ 36 + ofs) 4, s)

/-- The words of a run of a partition. -/
def State.partWords (s : State) (n ofs : Nat) : Nat → List Nat × State
  | 0 => ([], s)
  | k + 1 =>
    let v := s.partWord n ofs
    let q := v.2.partWords n (ofs + 4) k
    (v.1 :: q.1, q.2)

/-- Whether a bit of the debug session's effective scope is set. -/
def State.scopeBit (s : State) (k : Nat) : Bool := s.debugEff / 2 ^ k % 2 == 1

/-- A debug access refused at a locked range (R340): zeros with the locked status. -/
def State.debugLocked (s : State) (len : Nat) (read : Bool) : Ans :=
  let s1 := s.inc GLB_DBG_STAT_LOCKED_CNT
  { st := s1, status := .locked, frame := s1.time.frame, data := if read then [(len, 0)] else [] }

/-- Where a debug address points: a register offset, a partition and offset, a pool port and address; none for another space, stray address
bits, or an access that would leave its space (R219, R340). -/
inductive DbgSpace where
  | reg (a : Nat)
  | part (n ofs : Nat)
  | pool (p dpa : Nat)
  deriving DecidableEq, Repr

/-- Reads a debug address. -/
def State.dbgSpace (s : State) (addr len : Nat) : Option DbgSpace :=
  match addr / 2 ^ 60 with
  | 0 => if addr + len ≤ 2 ^ 28 then some (.reg addr) else none
  | 1 =>
    let n := addr / 2 ^ 56 % 16
    let ofs := addr % 2 ^ 56
    if ofs + len ≤ partitionSize n then some (.part n ofs) else none
  | 2 =>
    let p := addr / 2 ^ 52 % 256
    let dpa := addr % 2 ^ 52
    if p < 128 && s.isPool p && decide (dpa + len ≤ s.poolSize p * 262144) then some (.pool p dpa) else none
  | _ => none

/-- Whether an address and length have the form R340 asks for. -/
def dbgForm (addr len : Nat) : Bool := len % 4 == 0 && decide (4 ≤ len) && decide (len ≤ 4032) && addr % 4 == 0

/-- The body of opcode 0x0F00. `data` is what the device of a pool port returns. -/
def State.debugReadBody (s : State) (rq : Rq) (addr len data : Nat) (p : Principal) : Ans :=
  if ! dbgForm addr len then s.refuse .parameter
  else match s.dbgSpace addr len with
  | none => s.refuse .parameter
  | some (.reg a) => (match s.opRead (opAcc p rq.sess) a (len / 4) with
    | (.error c, s1) => s1.refuse c
    | (.ok ws, s1) => s1.readAns (ws.map (fun w => (4, w.toNat))))
  | some (.part n ofs) =>
    if s.dataOff then s.refuse .dataPlane
    else if ! s.scopeBit 2 then s.refuse .permission
    else (match s.gateCheck (168 + n) initDebug .read ofs len with
      | (.locked _, s1) => s1.debugLocked len true
      | (.refuse _, s1) => s1.refuse .gate
      | (.allow, s1) =>
        let r := s1.partWords n ofs (len / 4)
        r.2.readAns (r.1.map (fun w => (4, w))))
  | some (.pool q dpa) =>
    if s.dataOff then s.refuse .dataPlane
    else if ! s.scopeBit 4 then s.refuse .permission
    else if ! s.linkUp q then s.refuse .poolUnavailable
    else (match s.gateCheck q initDebug .read dpa len with
      | (.locked _, s1) => s1.debugLocked len true
      | (.refuse _, s1) => s1.refuse .gate
      | (.allow, s1) => s1.readAns [(len, data % 256 ^ len)])

/-- The body of opcode 0x0F01 with `len` bytes of data. Outside the register window and partition 6 a write lies outside every scope bit (R219). -/
def State.debugWriteBody (s : State) (rq : Rq) (addr len data : Nat) (p : Principal) : Ans :=
  if ! dbgForm addr len then s.refuse .parameter
  else match s.dbgSpace addr len with
  | none => s.refuse .parameter
  | some (.reg a) => (match s.opWrite (opAcc p rq.sess) a ((List.range (len / 4)).map (fun k => BitVec.ofNat 32 (data / 2 ^ (32 * k)))) with
    | (some c, s1) => s1.refuse c
    | (none, s1) => s1.okNow)
  | some (.part n ofs) =>
    if s.dataOff then s.refuse .dataPlane
    else if n ≠ 6 ∨ ! s.scopeBit 3 then s.refuse .permission
    else (match s.gateCheck (168 + n) initDebug .write ofs len with
      | (.locked _, s1) => s1.debugLocked len false
      | (.refuse _, s1) => s1.refuse .gate
      | (.allow, s1) =>
        State.okNow { s1 with rsv := Memory.writeAll s1.rsv (n * 2 ^ 36 + ofs) ((bytesOf data len).map (BitVec.ofNat 8)) })
  | some (.pool _ _) => if s.dataOff then s.refuse .dataPlane else s.refuse .permission

/-- Whether a debug access waits for the resume from Hold: any but one of a block in the Aux domain. -/
def dbgInMain (addr len : Nat) : Bool := decide (2 ^ 60 ≤ addr) || runInMain addr (min len 4032 / 4)

/-- Opcode 0x0F00. -/
def execDebugRead (rq : Rq) (addr len data : Nat) (s : State) : Host.Outcome State Fault Refusal :=
  s.done (xib 0x0F00 rq (.debugRead rq addr len data) s fun p s =>
    if s.inHold ∧ dbgInMain addr len then s.await (.debugRead rq addr len data) else s.debugReadBody rq addr len data p)

/-- Opcode 0x0F01, with `len` bytes of data. -/
def execDebugWrite (rq : Rq) (addr len data : Nat) (s : State) : Host.Outcome State Fault Refusal :=
  s.done (xib 0x0F01 rq (.debugWrite rq addr len data) s fun p s =>
    if s.inHold ∧ dbgInMain addr len then s.await (.debugWrite rq addr len data) else s.debugWriteBody rq addr len data p)

/-! ### After the resume -/

/-- Runs a body for a request that waited over Hold, if its session is still open. -/
def State.runAwaited (s : State) (rq : Rq) (op : Nat) (body : Principal → State → Ans) : State :=
  match s.sessionOf rq with
  | some x => (match s.opGate x.prin op with
    | some c => State.deliver (s.refuse c) rq op x.wireKey
    | none => State.deliver (body x.prin s) rq op x.wireKey)
  | none => s

/-- Runs a register access that waited over Hold (R334): an opcode goes on where its admission left it; an access through a BAR is none of
these. -/
def State.runWaiting (s : State) (i : Instr) : Option State :=
  match i with
  | .registerRead rq a n => some (s.runAwaited rq 0x0110 (fun p s => s.regReadBody rq a n p))
  | .registerWriteOpcode rq a n ws => some (s.runAwaited rq 0x0111 (fun p s => s.regWriteBody rq a n ws p))
  | .debugRead rq a n d => some (s.runAwaited rq 0x0F00 (fun p s => s.debugReadBody rq a n d p))
  | .debugWrite rq a n d => some (s.runAwaited rq 0x0F01 (fun p s => s.debugWriteBody rq a n d p))
  | _ => none

end Sys2Proof.Machine
end

