-- ==== Sys2Proof/Machine/Commit.lean ====
section
/-! DEFINITION. Opcode 0x0204 (R314): the state a commit would leave, the checks each chapter makes of it, the first register that refuses
it, and its acceptance. -/
namespace Sys2Proof.Machine
open Sys2Proof

/-! ### The committed state -/

/-- The words a commit carries: each staged register, but LK bits keep their values in force under the configuration lock (R7). -/
def State.payload (s : State) : NMap Word :=
  s.staged.map (fun a => (a, if s.lkLocked then mix (shLkMaskAt a) (s.word a) (s.curWord a) else s.word a))

/-- A word put in force, for the checks of a commit. -/
def State.withForce (s : State) (e : Nat × Word) : State :=
  { s with force := rput s.force e.1 (resetWord e.1) (mix (shMaskAt e.1) (s.curWord e.1) e.2) }

/-- The state a commit taking effect at frame `f` would leave in force: that of every commit accepted before it for that frame or an earlier
one, then its own words (R38; log entry 96). -/
def State.committed (s : State) (f : Nat) : State :=
  s.payload.foldl State.withForce
    (s.due.foldl (fun c d => match d.act with
      | .stage words _ _ => if d.eff ≤ f then words.foldl State.withForce c else c
      | _ => c) s)

/-- A register that refuses a commit, and its status. -/
abbrev Bar := Nat × Status

/-- Lists a register with a status where a test holds. -/
def barIf (t : Bool) (a : Nat) (c : Status) : List Bar := if t then [(a, c)] else []

/-- The bar of lowest address; the first listed, where an address has several. -/
def lowestBar (l : List Bar) : Option Bar :=
  l.foldl (fun b e => match b with
    | none => some e
    | some x => if e.1 < x.1 then some e else some x) none

/-- Whether a commit changes a field: its value in force differs in the committed state. -/
def changes (s c : State) (f : Fld) : Bool := s.cur f != c.cur f

/-- Whether a commit carries a word of a range of addresses. -/
def carriesIn (ws : List Nat) (lo hi : Nat) : Bool := ws.any (fun a => decide (lo ≤ a) && decide (a < hi))

/-! ### Ports (R49, R54, R63) -/

/-- A downstream port whose device is, or is accepted to be, bound to a virtual downstream port. -/
def State.vdpHeld (s : State) (p : Nat) : Bool :=
  s.vdpBound p || s.due.any (fun d => match d.act with
    | .bindVdp _ _ q _ => q == p
    | _ => false)

/-- Whether a valid translation entry or a tree area lies on a pool. -/
def State.poolHolds (s : State) (p : Nat) : Bool :=
  s.bnd.tt.any (fun e => e.2.valid && e.2.pool == p) || s.bnd.regions.any (fun e => e.2.treeUnits != 0 && e.2.treePool == p)

/-- Whether R54 refuses a port's setting in the committed state. -/
def portBarred (s c : State) (p : Nat) : Bool :=
  let r := c.role p
  let g := p / 4 * 4
  let moved := changes s c (PRT_CFG_ROLE p) || changes s c (PRT_CFG_POOL p) || changes s c (PRT_CFG_PCIE_ONLY p)
  let pool := c.curBit (PRT_CFG_POOL p)
  let pcie := c.curBit (PRT_CFG_PCIE_ONLY p)
  (p == g && (c.cur (PRT_CFG_BIF g) == 3 || (changes s c (PRT_CFG_BIF g) && (List.range 4).any (fun k => s.formed (g + k) && s.role (g + k) != 0)) ||
      ((List.range 4).any (fun k => c.formed (g + k) && c.role (g + k) == 1) && (List.range 4).any (fun k => c.formed (g + k) && c.role (g + k) != 1)))) ||
    (r != 0 && ! c.formed p) || (r == 3 && c.cur (PRT_CFG_BIF g) != 0) ||
    (pool && (r != 2 || pcie)) || (pcie && (r == 1 || r == 3)) ||
    (moved && (s.bindings.any (fun b => s.bndPort b == p) || c.bindings.any (fun b => c.bndPort b == p && s.isHost p) || s.vdpHeld p || (s.isPool p && s.poolHolds p)))

/-- The ports R54 refuses; of more than 64 host ports or 8 ISL ports, those beyond. -/
def barredPorts (s c : State) : List Nat :=
  (List.range 128).filter (portBarred s c) ++ ((List.range 128).filter (fun p => c.role p == 1)).drop 64 ++
    ((List.range 128).filter (fun p => c.role p == 3)).drop 8

def portBars (s c : State) (ws : List Nat) : List Bar :=
  if ws.any (fun a => (List.range 128).any (fun p => a == PRT_CFG p)) then (barredPorts s c).map (fun p => (PRT_CFG p, Status.parameter)) else []

/-- The word of a commit that makes a port carry a Sealed binding: its role, or the first binding it carries so. -/
def sealWord (c : State) (ws : List Nat) (p : Nat) : Nat :=
  if ws.contains (PRT_CFG p) then PRT_CFG p
  else ((c.bindings.find? (fun b => c.carriedBy b p && carriesIn ws (BND_CFG b) (BND_CFG b + 0x100))).map BND_CFG).getD (PRT_CFG p)

/-- SKID set on a port that carries a Sealed binding in the committed state, and a port that comes to carry one while SKID is 1 in force (R63). -/
def skidBars (s c : State) (ws : List Nat) : List Bar :=
  (List.range 128).flatMap (fun p =>
    barIf (ws.contains (PRT_IDE_CTL p) && c.curBit (PRT_IDE_CTL_SKID p) && c.carriesSealed p) (PRT_IDE_CTL p) .parameter ++
    barIf (s.curBit (PRT_IDE_CTL_SKID p) && c.carriesSealed p && ! s.carriesSealed p) (sealWord c ws p) .parameter)

/-! ### Inter-switch links (R107, R109, R113) -/

/-- The bytes of replay and retry SRAM an enabled ISL takes of its tile (R107). -/
def State.islBytes (c : State) (i : Nat) : Nat := ((List.range 4).foldl (fun n k => n + c.rxSize i k * 16) 0) + 262144

/-- The bytes the enabled ISLs on a port's I/O tile take. -/
def State.tileBytes (c : State) (t : Nat) : Nat :=
  (List.range 8).foldl (fun n i => if c.curBit (ISL_CFG_EN i) && c.cur (ISL_CFG_PORT i) / 32 == t then n + c.islBytes i else n) 0

def islBars (s c : State) (ws : List Nat) : List Bar :=
  if carriesIn ws 0x600000 0x680000 || ws.any (fun a => (List.range 128).any (fun p => a == PRT_CFG p)) then
    (List.range 8).flatMap (fun i =>
      let p := c.cur (ISL_CFG_PORT i)
      let on := c.curBit (ISL_CFG_EN i)
      barIf (on && c.role p != 3) (ISL_CFG i) .parameter ++
      barIf (on && (List.range i).any (fun j => c.curBit (ISL_CFG_EN j) && c.cur (ISL_CFG_PORT j) == p)) (ISL_CFG i) .parameter ++
      barIf (on && decide (8388608 < c.tileBytes (p / 32))) (ISL_FC_CTL i) .parameter ++
      barIf (ws.contains (ISL_CFG i) && s.ident.life == .owned && ! c.curBit (ISL_CFG_PROT_EN i)) (ISL_CFG i) .parameter)
  else []

/-! ### Bindings (R140, R155, R163, R191, R199, R268, R327) -/

/-- Whether a region is active here, or on the copy of a peer's list (R140, R431). -/
def State.regionUsable (s : State) (g : Nat) : Bool := s.regionActive g || (s.remoteRegion g).isSome

/-- Whether a commit carries a word of a binding. -/
def bndTouched (ws : List Nat) (b : Nat) : Bool := carriesIn ws (BND_CFG b) (BND_CFG b + 0x100)

/-- Whether a host port has an active host slot in the committed state (R163): one active now, or one to which this commit, or one accepted before it, gives
its mapping. -/
def activeSlot (s c : State) (port : Nat) : Bool :=
  match c.slotAt c.ownMember port with
  | some k => s.slotSt k == 1 || c.curWord (HOM_HOST_MAP k) != s.curWord (HOM_HOST_MAP k)
  | none => false

/-- Whether a binding gives a Sealed region a host port that held no binding of it in force (R191). -/
def needsConsent (s c : State) (b : Nat) : Bool :=
  c.bndClass b == 2 && ! s.bindings.any (fun d => s.bndRegion d == c.bndRegion b && s.bndPort d == c.bndPort b)

/-- Whether a token is for a binding: its tenant, region, member and host port (Table 9-2). -/
def tokenFor (s c : State) (b : Nat) (t : Consent) : Bool :=
  t.tenant == c.bndTenant b && t.region == c.bndRegion b && t.member == s.ownMember && t.port == c.bndPort b

/-- Whether a nonce has been used: recorded, or carried by a commit not yet in force (R191). -/
def State.nonceUsed (s : State) (t : Consent) : Bool :=
  s.sec.nonces.any (fun n => n.1 == t.tenant && n.2.1 == t.nonce) ||
  s.due.any (fun d => match d.act with
    | .stage _ _ toks => toks.any (fun u => u.tenant == t.tenant && u.nonce == t.nonce)
    | _ => false)

/-- The 24 bytes a consent token's tag covers (Table 9-2). -/
def consentBytes (t : Consent) : List Nat :=
  bytesOf t.tenant 2 ++ bytesOf t.region 2 ++ [t.member, t.port] ++ bytesOf t.resv 2 ++ bytesOf t.expires 8 ++ bytesOf t.nonce 8

/-- The tag a consent token must carry under a consent key: the first 24 of the 48 bytes (Table 9-2). -/
def consentTag (kc : Nat) (t : Consent) : Nat := Config.hmac kc (consentBytes t) / 2 ^ 192 % 2 ^ 192

/-- Whether a staged token is good: in time, its reserved bytes 0, its tag right under the consent key of an Established slot, and not used (R191,
Table 9-12 case 6). -/
def State.tokenGood (s : State) (t : Consent) : Bool :=
  decide (s.time.frame ≤ t.expires) && t.resv == 0 && (mget s.sec.slots t.tenant).any (fun k => k.st == .established && t.tag == consentTag k.kc t) &&
    ! s.nonceUsed t

/-- The first word of an allowed-pool set that allows a pool a test refuses. -/
def poolWord (c : State) (b : Nat) (bad : Nat → Bool) : Option Nat := ((List.range 128).find? (fun p => c.poolAllowed b p && bad p)).map (fun p => p / 32)

/-- The bars of a pool test, at the word of the allowed-pool set that fails it. -/
def poolBars (c : State) (b : Nat) (bad : Nat → Bool) : List Bar :=
  match poolWord c b bad with
  | some k => [(BND_POOLS b k, Status.parameter)]
  | none => []

/-- The bars of one binding valid in the committed state. -/
def bindBars (s c : State) (ws : List Nat) (b : Nat) : List Bar :=
  let hp := c.bndPort b
  let g := c.bndRegion b
  let v := c.cur (BND_CFG_VDP b)
  let others := c.bindings.filter (fun d => d != b)
  let vdp := (mgetD s.prt.vdp (hp * 128 + v) {}).hold
  let vdpTaken := (match vdp with
      | .phys _ _ => true
      | .vmd d => d != b && c.bndValid d
      | .empty => false) || others.any (fun d => c.bndPort d == hp && c.cur (BND_CFG_VDP d) == v && decide (d < b || ! bndTouched ws d)) ||
    s.due.any (fun d => match d.act with
      | .bindVdp h n _ _ => h == hp && n == v
      | _ => false)
  let shares := others.any (fun d => c.bndRegion d == g && (c.curBit (BND_CFG_HDM_H b) || c.curBit (BND_CFG_HDM_H d)))
  let here := (mget s.bnd.regions g).isSome
  let mine := s.sec.consents.filter (tokenFor s c b)
  barIf (s.md.mode == .evacuate && ! s.bndValid b) (BND_CFG b) .state ++
  barIf (! s.isHost hp || vdpTaken || shares) (BND_CFG b) .parameter ++
  barIf (bndTouched ws b && ! c.curBit (BND_CFG_HDM_H b) && ! activeSlot s c hp) (BND_CFG b) .parameter ++
  barIf (! s.regionUsable g || others.any (fun d => c.bndRegion d == g && c.bndPort d == hp && decide (d < b))) (BND_REGION b) .parameter ++
  (if here ∧ c.bndClass b = 2 then poolBars c b (fun p => ! c.sealedCap p) else []) ++
  barIf (needsConsent s c b && mine.isEmpty) (BND_CFG b) .permission ++
  barIf (needsConsent s c b && ! mine.isEmpty && ! mine.any s.tokenGood) (BND_CFG b) .token

/-- The bars of a binding that ceases to be valid: extents held (R140), or a window that names it; and of one whose region gains a second
binding or which leaves HDM-H while a window names it (R268). -/
def unbindBars (s c : State) (b : Nat) : List Bar :=
  let windowed := s.windows.any (fun w => s.winBnd w == b)
  barIf (s.bndValid b && ! c.bndValid b && ! (s.extents b).isEmpty) (BND_CFG b) .parameter ++
  barIf (windowed && (! c.bndValid b || ! c.curBit (BND_CFG_HDM_H b) || decide (1 < (c.bindingsOf (c.bndRegion b)).length))) (BND_CFG b) .busy

/-- The bars of a binding's log settings (R155). -/
def logBars (s c : State) (b : Nat) : List Bar :=
  let base := c.cur (BND_LOG_CTL_BASE b)
  let len := c.cur (BND_LOG_LEN_LEN b)
  let on := c.curBit (BND_LOG_CTL_EN b)
  let meets := fun (lo n : Nat) => decide (0 < n) && decide (0 < len) && decide (base < lo + n) && decide (lo < base + len)
  let live := c.force.filterMap (fun e => if 0x2000000 ≤ e.1 ∧ e.1 < 0x2100000 ∧ e.1 % 0x100 = 0x50 ∧ getBit e.2 31 then some ((e.1 - 0x2000000) / 0x100) else none)
  barIf (decide (524288 < base + len) || (on && len == 0) ||
      live.any (fun d => d != b && meets (c.cur (BND_LOG_CTL_BASE d)) (c.cur (BND_LOG_LEN_LEN d))) ||
      s.bnd.clr.any (fun e => e.1 != b && meets e.2.1 e.2.2)) (BND_LOG_CTL b) .parameter ++
  barIf (on && ! s.curBit (BND_LOG_CTL_EN b) && s.bit (BND_HARV_STAT_CLEARING b)) (BND_LOG_CTL b) .busy

/-- The bars of a binding a commit carries a word of, valid or not (R140): the reserved policy, and an allowed-pool bit of a port that is no pool in force.
The bits of a region homed on a peer name that switch's ports (R429). -/
def wordBars (s c : State) (ws : List Nat) (b : Nat) : List Bar :=
  if ! bndTouched ws b then []
  else barIf (c.cur (BND_CFG_POLICY b) == 3) (BND_CFG b) .parameter ++
    (if (c.bndRec b).isNone ∧ (c.remoteRegion (c.bndRegion b)).isSome then [] else poolBars c b (fun p => ! s.isPool p))

def bindingBars (s c : State) (ws : List Nat) : List Bar :=
  if carriesIn ws 0x2000000 0x2100000 then
    ((ws.filterMap bndOfWord).foldl sadd []).flatMap (wordBars s c ws) ++ c.bindings.flatMap (bindBars s c ws) ++ s.bindings.flatMap (unbindBars s c) ++
    ((List.range 4096).filter (fun b => ws.contains (BND_LOG_CTL b) || ws.contains (BND_LOG_LEN b))).flatMap (logBars s c)
  else []

/-! ### Home, pools and Oxbow (R164, R188, R200, R227, R252) -/

def homeBars (s c : State) (ws : List Nat) : List Bar :=
  barIf (ws.contains HOM_CFG && c.cur HOM_CFG_TMO == 0) HOM_CFG .parameter ++
  (if carriesIn ws (HOM_HOST_MAP 0) (HOM_HOST_MAP 64) then
    (List.range 64).flatMap (fun k =>
      barIf (c.curBit (HOM_HOST_MAP_VALID k) && (List.range k).any (fun j => c.curBit (HOM_HOST_MAP_VALID j) &&
        c.cur (HOM_HOST_MAP_PORT j) == c.cur (HOM_HOST_MAP_PORT k) && c.cur (HOM_HOST_MAP_MEMBER j) == c.cur (HOM_HOST_MAP_MEMBER k))) (HOM_HOST_MAP k) .parameter ++
      barIf ((s.slotSt k == 1 || s.slotSt k == 2) && s.curWord (HOM_HOST_MAP k) != c.curWord (HOM_HOST_MAP k)) (HOM_HOST_MAP k) .busy)
  else [])

/-- Whether a pool holds a Sealed parcel or a tree area (R200). -/
def State.sealedOn (s : State) (p : Nat) : Bool :=
  s.bnd.tt.any (fun e => e.2.valid && e.2.pool == p && (match s.regionOfTt e.1 with
    | some (g, _) => (match mget s.bnd.regions g with
      | some r => r.cls == 2
      | none => false)
    | none => false)) || ! (s.tailUsed p).isEmpty

/-- SEC_POOL_CAP (R200): set over parcels in use, or cleared over Sealed data. -/
def capBars (s c : State) : List Bar :=
  (List.range 128).flatMap (fun p =>
    let n := s.poolSize p
    barIf ((! s.sealedCap p && c.sealedCap p && s.poolReady p && (s.allocated p n).any (fun i => decide (n - carve n ≤ i))) ||
      (s.sealedCap p && ! c.sealedCap p && s.sealedOn p)) (SEC_POOL_CAP (p / 32)) .busy)

/-- A pool port's range in the committed state (R227). -/
def poolRange (c : State) (p : Nat) : Nat × Nat := (c.cur (OXB_POOL_BASE_GBASE p), c.cur (OXB_POOL_BASE_GBASE p) + c.poolSize p)

def oxbowBars (s c : State) (ws : List Nat) : List Bar :=
  let share := c.cur OXB_SHARE_SHARE
  let evac := c.cur OXB_SHARE_EVAC_SHARE
  barIf (ws.contains OXB_CFG && (c.cur OXB_CFG_MAX_MOVES == 0 || decide (64 < c.cur OXB_CFG_MAX_MOVES))) OXB_CFG .parameter ++
  barIf (ws.contains OXB_SHARE && (share == 0 || decide (evac < share) || decide (1000 < share) || decide (1000 < evac))) OXB_SHARE .parameter ++
  barIf (ws.contains OXB_RANK && (decide (c.cur OXB_RANK_PROMOTE_THR ≤ c.cur OXB_RANK_DEMOTE_THR) || c.cur OXB_RANK_PASS_MAX == 0 ||
    c.cur OXB_RANK_FLIP_TRIES == 0 || c.cur OXB_RANK_FLIP_MAX == 0)) OXB_RANK .parameter ++
  (List.range 128).flatMap (fun p =>
    let r := poolRange c p
    let q := fun (x : Nat × Nat) => decide (r.1 < x.2) && decide (x.1 < r.2)
    barIf (ws.contains (OXB_POOL_BASE p) && (decide (2 ^ 30 < r.2) || (changes s c (OXB_POOL_BASE_GBASE p) && ! (s.allocated p (s.dataParcels p)).isEmpty) ||
      (c.isPool p && (List.range 128).any (fun k => k != p && c.isPool k && q (poolRange c k))))) (OXB_POOL_BASE p) .parameter)

/-! ### Switch core and scheduling (R127, R130, R257, R261) -/

/-- Whether a word of five base and ceiling priorities has a ceiling below its base (R130). -/
def prioBad (w : Word) : Bool := (List.range 5).any (fun k => decide (getBits w (6 * k + 3) 3 < getBits w (6 * k) 3))

/-- What a register's own committed value breaks (R127, R130, R257, R261, R268, R287, R400). -/
def valueBar (s c : State) (a : Nat) : Option Status :=
  match lookupReg a with
  | none => none
  | some (d, ix) =>
    let i := ix.getD 0 0
    let w := c.curWord a
    let bad := match d.reg with
      | .XBR_CFG => c.cur XBR_CFG_CLASS_AGE == 0 || c.cur XBR_CFG_VOQ_MAX == 0
      | .XBR_ARB_PRIO => prioBad w
      | .PRT_ARB_PRIO => prioBad w
      | .XBR_PBUF =>
        (List.range 4).any (fun k => decide (getBits w (8 * k) 8 < 3)) ||
          (c.formed i && decide (c.portCells i < 2 * (List.range 4).foldl (fun n k => n + 16 * getBits w (8 * k) 8) 0))
      | .PRT_DRR_Q => getBits w 0 16 == 0 || getBits w 16 16 == 0
      | .SHP_RATE => c.curBit (SHP_RATE_EN i) && c.cur (SHP_RATE_RATE i) == 0
      | .SHP_BURST => c.curBit (SHP_RATE_EN i) && decide (c.cur (SHP_BURST_BURST i) < 128)
      | .LWB_WIN_CFG => c.cur (LWB_WIN_CFG_PF_LINES i) != 0 && ! c.curBit (LWB_WIN_CFG_NOSE i)
      | .LWB_WIN_SIZE => c.cur (LWB_WIN_SIZE_SIZE i) == 0 || decide (1048576 < c.cur (LWB_WIN_SIZE_SIZE i))
      | .LWB_CFG => c.cur LWB_CFG_LOCK_TMO == 0 || c.cur LWB_CFG_COMP_TMO == 0 || c.cur LWB_CFG_MIR_PER == 0
      | .CNT_SEL => ! selectOk i w
      | _ => false
    if bad then some .parameter
    else if d.reg = .SHP_RATE ∧ c.curBit (SHP_RATE_EN i) ∧ c.cur (SHP_BURST_BURST i) < 128 ∧ s.curWord a ≠ w then some .parameter
    else none

def valueBars (s c : State) (ws : List Nat) : List Bar :=
  ws.filterMap (fun a => (valueBar s c a).map (fun st => (a, st)))

/-! ### Windows (R268) -/

/-- The bars of one window enabled in the committed state. -/
def windowBars (s c : State) (w : Nat) : List Bar :=
  let b := c.winBnd w
  let r := c.winRange w
  let p := c.winPort w
  barIf (! c.bndValid b || ! c.curBit (BND_CFG_HDM_H b) || c.bndClass b != 0 || decide (1 < (c.bindingsOf (c.bndRegion b)).length)) (LWB_WIN_CFG w) .parameter ++
  barIf (s.role p != 2 || c.curBit (PRT_CFG_POOL p) || s.vdpHeld p) (LWB_WIN_CFG w) .parameter ++
  barIf (c.cur (LWB_WIN_CFG_PF_LINES w) != 0 && ! c.curBit (LWB_WIN_CFG_NOSE w)) (LWB_WIN_CFG w) .parameter ++
  barIf ((s.extents b).any (fun e => decide (e.dpa * 262144 < r.2) && decide (r.1 < (e.dpa + e.len) * 262144)) ||
    (c.windows.filter (fun v => decide (v < w))).any (fun v => c.winBnd v == b && decide (r.1 < (c.winRange v).2) && decide ((c.winRange v).1 < r.2))) (LWB_WIN_BASE w) .parameter ++
  barIf (c.cur (LWB_WIN_SIZE_SIZE w) == 0 || decide (1048576 < c.cur (LWB_WIN_SIZE_SIZE w))) (LWB_WIN_SIZE w) .parameter

def bridgeBars (s c : State) (ws : List Nat) : List Bar :=
  if carriesIn ws 0x401000 0x403000 then c.windows.flatMap (windowBars s c) else []

/-! ### The fabric group (R426) -/

/-- The committed digest of a peer. -/
def State.digestOf (c : State) (m : Nat) : List Word := (List.range 12).map (fun j => c.curWord (GRP_PEER_DIG m j))

def groupBars (s c : State) (ws : List Nat) : List Bar :=
  if carriesIn ws 0x680000 0x690000 then
    barIf (c.curBit GRP_CFG_EN && ! (List.range 8).any (fun m => c.curBit (GRP_PEER_VALID m))) GRP_CFG .parameter ++
    barIf (s.curBit GRP_CFG_EN && (changes s c GRP_CFG_GROUP || changes s c GRP_CFG_MEMBER)) GRP_CFG .busy ++
    (List.range 8).flatMap (fun m =>
      barIf (c.curBit (GRP_PEER_VALID m) && m == c.ownMember) (GRP_PEER m) .parameter ++
      barIf (c.curBit (GRP_PEER_VALID m) && (List.range m).any (fun n => c.curBit (GRP_PEER_VALID n) && c.digestOf n == c.digestOf m)) (GRP_PEER_DIG m 0) .parameter)
  else []

/-! ### Gates (R213, R472) -/

/-- Whether a staged rule set may not be committed: a position not filled, a malformed rule or an overlap. -/
def gateSetBad (l : List (Option GRule)) : Bool := l.any Option.isNone || ! rulesOk (l.filterMap id)

/-- The gates whose staged rule set refuses the commit. -/
def State.badGates (s : State) : List Nat := (s.sec.gstage.filter (fun e => gateSetBad e.2)).map (fun e => e.1)

def State.gateBars (s : State) : List Bar := s.badGates.map (fun g => (GATE_CTL g, Status.parameter))

/-! ### Consent tokens (R191, Table 22-4 case 5) -/

/-- A staged token that is out of time or whose nonce is used refuses the commit; it has no register, and stands behind every register. -/
def State.consentBars (s : State) : List Bar :=
  barIf (s.sec.consents.any (fun t => decide (t.expires < s.time.frame) || s.nonceUsed t)) (2 ^ 32) .token

/-- Whether two staged tokens carry one nonce: each token is used once (R191). -/
def State.consentTwice (s : State) : Bool :=
  match s.sec.consents with
  | [] => false
  | l => (List.range l.length).any (fun i => (l.take i).any (fun t => (l.drop i).head?.any (fun u => u.tenant == t.tenant && u.nonce == t.nonce)))

/-! ### The commit -/

/-- Every bar of a commit that takes effect at frame `f`. -/
def State.bars (s : State) (f : Nat) : List Bar :=
  let c := s.committed f
  let ws := s.staged
  portBars s c ws ++ skidBars s c ws ++ islBars s c ws ++ bindingBars s c ws ++ homeBars s c ws ++ capBars s c ++ oxbowBars s c ws ++ valueBars s c ws ++
    bridgeBars s c ws ++ groupBars s c ws ++ s.gateBars ++ s.consentBars

/-- Sets COMMIT_REF of every port whose staged PRT_CFG is not the one in force, and returns it to it (R54). -/
def State.revertPorts (s : State) : State :=
  (List.range 128).foldl (fun s p =>
    if s.dirty.contains (PRT_CFG p) then
      (if (s.word (PRT_CFG p) &&& shMaskAt (PRT_CFG p)) = (s.curWord (PRT_CFG p) &&& shMaskAt (PRT_CFG p)) then s
        else s.setBit (PRT_CFG_COMMIT_REF p) true).unstage (PRT_CFG p)
    else s) s

/-- A gate's rule set refuses a commit: its staged set and EN return to the values in force, COMMIT_REF sets and the gate reports (R213, R472). -/
def State.revertGate (s : State) (g : Nat) : State :=
  let s1 : State := { s with sec.gstage := mdel s.sec.gstage g }
  ((s1.unstage (GATE_CTL g)).setBit (GATE_CTL_COMMIT_REF g) true).reportCode 0x0501 g none 0

/-- What a refused commit reverts: the register or record whose rule refused it (R314). -/
def State.revertBar (s : State) (a : Nat) : State :=
  match s.badGates.find? (fun g => GATE_CTL g == a) with
  | some g => s.revertGate g
  | none =>
    if (List.range 128).any (fun p => PRT_CFG p == a) then s.revertPorts
    else if a = 2 ^ 32 then { s with sec.consents := s.sec.consents.filter (fun t => decide (s.time.frame ≤ t.expires) && ! s.nonceUsed t) }
    else if s.dirty.contains a then s.unstage a
    else s

/-- The status and register of a refused commit. -/
def State.barred (s : State) (b : Bar) : Ans :=
  let a := (s.revertBar b.1).refuse b.2
  { a with data := [(4, b.1 % 2 ^ 32)] }

/-- The staging area is handed over: rule sets and tokens go with the commit, and the lock is free (R313). -/
def State.handOver (s : State) : State := { s with dirty := s.dirty.filter isSltAddr, sec.gstage := [], sec.consents := [], mbx.lock := none }

/-- What a commit carries. -/
def State.cargo (s : State) : Act := .stage s.payload (s.sec.gstage.map (fun e => (e.1, e.2.filterMap id))) s.sec.consents

/-- What turns a commit away before it is checked (R314, R333, R46, R437, R39, R311). -/
def State.commitRefusal (s : State) (rq : Rq) (at_ : Nat) : Option Status :=
  if s.mbx.lock = none ∨ s.inHold ∨ s.md.mode = .bringUp then some .state
  else if s.mbx.lock ≠ some rq.sess then some .busy
  else if rq.group ∧ s.bit GRP_STAT_YIELD then some .state
  else if at_ = 0 then none
  else match s.namedGroupRefusal at_ rq.group with
    | some c => some c
    | none => if s.lcSlots = [] then some .busy else none

/-- Accepts a commit: under R36, or, for a named frame, as a long command under R39. -/
def State.acceptCommit (s : State) (rq : Rq) (p : Principal) (at_ : Nat) : Ans :=
  if at_ = 0 then
    let d : Due := { eff := s.effFrame, named := false, group := rq.group, frozen := false, handle := none, ref := some (rqRef rq 0x0204), act := s.cargo }
    (s.handOver.addDue d).okAt s.effFrame
  else
    let r := s.lcStart 0x0204 (rqRef rq 0x0204) p (routeTargetOf rq.route rq.carrier)
    let d : Due := { eff := at_, named := true, group := rq.group, frozen := false, handle := some r.1, ref := none, act := s.cargo }
    (r.2.handOver.addDue d).long at_ r.1

/-- The body of opcode 0x0204. While Quarantine is due the commit is not applied and the staging is discarded (Table 1-4 case 1). -/
def State.commitBody (s : State) (rq : Rq) (at_ : Nat) (p : Principal) : Ans :=
  if s.md.quarDue.isSome ∧ s.mbx.lock = some rq.sess then (s.releaseLock rq.sess).refuse .modeChanged
  else match s.commitRefusal rq at_ with
  | some c => s.refuse c
  | none =>
    match lowestBar (s.bars (if at_ = 0 then s.effFrame else at_)) with
    | some b => s.barred b
    | none =>
      if s.consentTwice then s.barred (2 ^ 32, .token) else s.acceptCommit rq p at_

/-- Opcode 0x0204 (R314). `at_` 0 names no frame. -/
def execCommit (rq : Rq) (at_ : Nat) (s : State) : Host.Outcome State Fault Refusal :=
  s.done (xib 0x0204 rq (.commit rq at_) s fun p s => s.commitBody rq at_ p)

end Sys2Proof.Machine
end

