-- ==== Sys2Proof/Machine/Daybreak.lean ====
section
/-! DEFINITION. The Dusk window and Daybreak (R33 to R46, Table 2-2): what is frozen, and the actions of a Daybreak in their order. -/
namespace Sys2Proof.Machine
open Sys2Proof

/-! ### Dusk (R37) -/

/-- Whether Quarantine takes effect at the next Daybreak. -/
def State.quarComing (s : State) : Bool := s.md.quarDue.isSome && ! s.inHold && s.md.mode != .standby && s.md.mode != .quarantine

/-- A zeroise completes in Quarantine too (R335). -/
def Act.isZeroise (a : Act) : Bool :=
  match a with
  | .zeroise _ => true
  | _ => false

/-- An uncontained fault before the Dusk window: no commit takes effect, its issuer learns that the mode has changed, and staged state is discarded
(Table 1-4 case 1). -/
def State.quarDusk (s : State) : State :=
  if ! s.quarComing then s
  else
    let s1 := (s.cancelAll (fun d => ! d.act.outlives && ! d.act.isZeroise) .modeChanged).clearStaging
    { s1 with mbx.lock := none }

/-- Whether time runs: not while the device is held in reset. -/
def State.running (s : State) : Bool := s.md.boot == .rom || s.md.boot == .up

/-- The first tick of the Dusk window: what is due at the next Daybreak is frozen, and moves, deletes, transfers and an activation pass or miss their
commit points. -/
def State.duskStart (s : State) : State :=
  if ! s.running || s.time.dusk then s
  else
    let s1 := s.quarDusk.freeze
    let s2 := s1.movesDusk.deletesDusk.xfersDusk.activationDusk
    { s2 with time := { s.time with dusk := true, tick := s.duskTick } }

def execDuskWindowStart (s : State) : Host.Outcome State Fault Refusal := s.doneTimed s.duskStart

/-! ### Commits take effect (R38) -/

/-- The instances of a register that a commit carries, by first index. -/
def carried (ws : NMap Word) (r : Reg) : List Nat :=
  ws.foldl (fun l e => match lookupReg e.1 with
    | some (d, ix) => if d.reg = r then sadd l (ix.getD 0 0) else l
    | none => l) []

/-- The ports whose role or existence a commit changes. -/
def rolesMoved (s c : State) : List Nat := (List.range 128).filter (fun p => s.role p != c.role p || s.formed p != c.formed p)

/-- The ports a role commit takes down go down in the state before it. -/
def State.downMoved (s : State) (ws : NMap Word) : State :=
  if (carried ws .PRT_CFG).isEmpty then s
  else
    let c := ws.foldl State.withForce s
    s.declareAll ((rolesMoved s c).filter s.linkUp)

/-- A role commit has taken effect (R53, R82, R86, R227, R383, R384). -/
def State.portsApplied (s was : State) (ws : NMap Word) : State :=
  if (carried ws .PRT_CFG).isEmpty then s
  else
    let s0 : State := { s with md.roleHeld := false, md.heldHost := [], md.heldDown := [] }
    let gone := (List.range 128).filter (fun p => was.isHost p && ! s.isHost p)
    let s1 := gone.foldl (fun s p => ((s.dropTarget p).closeRoute p).resetMf p) s0
    let s2 := (rolesMoved was s).foldl State.stopEngines s1
    let s3 := ((List.range 128).filter (fun p => ! was.isPool p && s.isPool p && s.linkUp p && (s.px p).cap != 0)).foldl State.poolRebuilt s2
    let s4 := ((List.range 128).filter (fun p => was.isPool p && ! s.isPool p)).foldl (fun s p =>
      (s.setPx p { s.px p with inited := false }).setBit (OXB_POOL_FREE_VALID p) false) s3
    (List.range 32).foldl State.syncPerst s4

/-- Commits to shapers: one whose rate, burst or enable changes starts with no tokens (R261). -/
def State.shapersApplied (s was : State) (ws : NMap Word) : State :=
  (carried ws .SHP_RATE ++ carried ws .SHP_BURST).foldl (fun s t =>
    if s.curWord (SHP_RATE t) = was.curWord (SHP_RATE t) ∧ s.curWord (SHP_BURST t) = was.curWord (SHP_BURST t) then s else s.resetTokens t) s

/-- Commits to host slots (R163). -/
def State.mapsApplied (s was : State) (ws : NMap Word) : State :=
  (carried ws .HOM_HOST_MAP).foldl (fun s k => if s.curWord (HOM_HOST_MAP k) = was.curWord (HOM_HOST_MAP k) then s else s.applyMap k) s

/-- Commits to bindings: one that becomes valid starts its counts again and appears at its host (R406, R69), and its log settings take effect. -/
def State.bindingsApplied (s was : State) (ws : NMap Word) : State :=
  let bs := (carried ws .BND_LOG_CTL).foldl sadd (carried ws .BND_CFG)
  bs.foldl (fun s b =>
    let s1 := if ! was.bndValid b ∧ s.bndValid b then s.clearPage b else s
    (s1.bindingVdp b).applyLog b (was.curBit (BND_LOG_CTL_EN b)) (was.cur (BND_LOG_CTL_BASE b)) (was.cur (BND_LOG_LEN_LEN b))) s

/-- Commits to bindings: a region whose bindings come to leave it no pool reports the conflict (R142), and so does a binding in force that allows a
port that is no pool here (R429). -/
def State.placementApplied (s was : State) (ws : NMap Word) : State :=
  let bs := (carried ws .BND_POOLS ++ carried ws .BND_REGION).foldl sadd (carried ws .BND_CFG)
  let gs := bs.foldl (fun l b => sadd (sadd l (was.bndRegion b)) (s.bndRegion b)) []
  let s1 := gs.foldl (fun s g => if s.conflicted g ∧ ! was.conflicted g then s.raiseShared 301 else s) s
  bs.foldl (fun s b =>
    if s.bndValid b && (s.bndRec b).isSome && (List.range 128).any (fun p => s.poolAllowed b p && ! s.isPool p) then s.raiseShared 301 else s) s1

/-- The windows a commit carries a word of. -/
def carriedWindows (ws : NMap Word) : List Nat :=
  (((carried ws .LWB_WIN_BASE ++ carried ws .LWB_WIN_SIZE) ++ carried ws .LWB_WIN_FAR_LO) ++ carried ws .LWB_WIN_FAR_HI).foldl sadd (carried ws .LWB_WIN_CFG)

/-- Commits to counter selects (R400). -/
def State.selsApplied (s was : State) (ws : NMap Word) : State :=
  (carried ws .CNT_SEL).foldl (fun s u => (List.range 8).foldl (fun s k => s.selApplied u k (was.curWord (CNT_SEL u k))) s) s

/-- Commits of the switch core's priorities and quanta (R130, R257). -/
def State.coreApplied (s : State) (ws : NMap Word) : State :=
  let s1 := if (carried ws .XBR_ARB_PRIO).isEmpty && (carried ws .PRT_ARB_PRIO).isEmpty then s else s.resetPrios
  (carried ws .PRT_DRR_Q).foldl State.resetDeficits s1

/-- What the committed words of a commit start, in the blocks that own them. -/
def State.wordsApplied (s was : State) (ws : NMap Word) : State :=
  let s1 := ((s.portsApplied was ws).coreApplied ws).shapersApplied was ws
  let s2 := (((s1.mapsApplied was ws).bindingsApplied was ws).placementApplied was ws).selsApplied was ws
  let s3 := (carried ws .PRT_IDE_CTL).foldl State.ideApplied (s2.windowsApplied (carriedWindows ws))
  if (carried ws .ISL_CFG ++ carried ws .ISL_FC_CTL).isEmpty then s3 else s3.islApplied was

/-- A commit takes effect: its words all together, its rule sets and its consent nonces (R14, R38, R191, R213). -/
def State.applyStage (s : State) (ws : NMap Word) (rules : NMap (List GRule)) (toks : List Consent) : State :=
  let s1 := ws.foldl (fun s e => s.applyWord e.1 e.2) (s.downMoved ws)
  let s2 : State := { s1 with
    sec.rules := rules.foldl (fun m e => mputD m e.1 [] e.2) s1.sec.rules,
    sec.nonces := s1.sec.nonces ++ toks.map (fun t => (t.tenant, t.nonce, t.expires)) }
  let s3 := s2.wordsApplied s ws
  s3.revokeBulk ((mkeys rules).foldl sadd (carried ws .GATE_CTL))

/-! ### Accepted effects (Table 2-2, orders 3, 5 and 6) -/

/-- The effect of an accepted action at its Daybreak; gate lists and frame lengths have orders of their own. -/
def State.applyAct (s : State) (a : Act) : State :=
  match a with
  | .stage ws rules toks => s.applyStage ws rules toks
  | .frameLen _ => s
  | .route n w => s.routeDue n w
  | .fmKey i d => s.applyFmKey i d
  | .establish t v k1 k2 km kc => s.applyEstablish t v k1 k2 km kc
  | .zeroise t => s.applyZeroise t
  | .enableTenant t on => s.setBit (SEC_SLOT_ENABLED t) on
  | .mapCkid b c t => { s with bnd.ckid := mput s.bnd.ckid (b * 65536 + c) t }
  | .rekey t k1 k2 km kc => s.applyRekey t k1 k2 km kc
  | .gateList _ _ _ => s
  | .hdm b base size ig iw on lock => s.applyHdm b base size ig iw on lock
  | .region g r => (State.sendLists { s with bnd.regions := mput s.bnd.regions g r }).freshTree g r
  | .ttSet i p q => s.setTt i { valid := true, moving := false, pool := p, ppi := q, gen := ((s.ttEntry i).gen + 1) % 65536 }
  | .extIn b d => s.applyExtIn b d
  | .extOut b d => s.applyExtOut b d
  | .fence e x => s.applyFence e x
  | .slot c ws => s.slotApplied c ws
  | .bindVdp h v p ld => s.applyBind h v p ld
  | .unbindVdp h v f => s.applyUnbind h v f
  | .dumpRing p b n e => s.applyRing p b n e
  | .persLevel l n => (s.storePers l n).setLevel l n

/-- Whether an effect belongs to the step of a Daybreak that carries out frozen commits. -/
def Act.third (a : Act) : Bool :=
  match a with
  | .gateList _ _ _ => false
  | .frameLen _ => false
  | _ => true

/-- Takes the accepted effects due at the frame now open that a test picks, oldest first (R38). -/
def State.takeDue (s : State) (pick : Act → Bool) : List Due × State :=
  let now := fun (d : Due) => decide (d.eff ≤ s.time.frame) && pick d.act
  (s.due.filter now, { s with due := s.due.filter (fun d => ! now d) })

/-- An accepted effect takes place, and its long command ends. -/
def State.applyDue (s : State) (d : Due) : State := (s.applyAct d.act).lcEndOpt d.handle .success

/-- What the commits of a Daybreak stage together: of two values of one register, rule set or token the later stands (R38). -/
def stagedTogether (l : List Due) : NMap Word × NMap (List GRule) × List Consent :=
  l.foldl (fun a d => match d.act with
    | .stage ws rules toks => (ws.foldl (fun m e => mput m e.1 e.2) a.1, rules.foldl (fun m e => mput m e.1 e.2) a.2.1, a.2.2 ++ toks)
    | _ => a) ([], [], [])

/-- Whether an effect is a commit of staged state. -/
def Act.isStage (a : Act) : Bool :=
  match a with
  | .stage _ _ _ => true
  | _ => false

/-- The commits of a Daybreak take effect as one, so that no state between two of them is seen (R38); then the other accepted effects, in the order of
acceptance. -/
def State.applyTogether (s : State) (l : List Due) : State :=
  let g := stagedTogether l
  let s1 := if l.any (fun d => d.act.isStage) then s.applyStage g.1 g.2.1 g.2.2 else s
  l.foldl (fun s d => if d.act.isStage then s.lcEndOpt d.handle .success else s.applyDue d) s1

/-- Order 3 of Table 2-2. -/
def State.commitsEffect (s : State) : State :=
  let t := s.takeDue Act.third
  let s1 := (((t.2.applyTogether t.1).applyLifecycle).applyLock).endResets
  let fresh := (s1.bnd.rst.filter (fun e => ! e.2)).map (fun e => e.1)
  let s2 := fresh.foldl (fun s b => (s.stopBinding b).bridgeReset b) s1.startResets
  let s3 := s2.applyDeletes
  let s4 := if s3.ownList = s2.ownList then s3 else s3.sendLists
  (((s4.takeHomes).applyRevive).beginHarvests).yieldDue

/-- Order 5: gate lists take over (R264). -/
def State.gatesTake (s : State) : State :=
  let t := s.takeDue (fun a => match a with
    | .gateList _ _ _ => true
    | _ => false)
  t.1.foldl (fun s d => match d.act with
    | .gateList p en l => (s.applyGateList p en l).lcEndOpt d.handle .success
    | _ => s) t.2

/-- The length code in force once accepted frame lengths have taken effect, the last of them standing (R42). -/
def codeAfter (l : List Due) (code : Nat) : Nat :=
  l.foldl (fun k d => match d.act with
    | .frameLen c => c % 4
    | _ => k) code

/-- The correction tick of the frame that opens: a follower corrects in Initial lock and Locked, and free-runs otherwise (R44, Table 2-3). -/
def State.correction (s : State) : Int :=
  if s.fld FRM_SYNC_CTL_ROLE = 2 ∧ (s.time.sync.phase = .initial ∨ s.time.sync.phase = .locked) then s.time.corr else 0

/-- Order 6: a frame length takes effect, and the frame that opens is corrected by a tick where the follower asks for it (R42, R44). -/
def State.lengthTakes (s : State) : State :=
  let t := s.takeDue (fun a => match a with
    | .frameLen _ => true
    | _ => false)
  let code := codeAfter t.1 s.time.lenCode
  let s1 := t.1.foldl (fun s d => s.lcEndOpt d.handle .success) t.2
  { s1 with time := { s.time with lenCode := code, len := ((frameTicks code : Int) + s.correction).toNat, corr := 0 } }

/-! ### The other orders -/

/-- Order 1: what the frame's cycles count, the pattern engines, the output watchdog and the snapshot. In Hold the output watchdog does not count and
no snapshot is taken (R334). -/
def State.frameEnds (s : State) : State :=
  let s1 := s.countCycles.patFrames
  if s.inHold then { s1 with cnt.hold := true } else s1.watchOutputs.snapshot

/-- Order 2: the frame number rises by one, and every fault record is closed (R34, R376). -/
def State.frameOpens (s : State) : State :=
  { s with
    time.frame := s.time.frame + 1, time.t0 := s.time.t0 + s.time.len, time.tick := 0, time.dusk := false,
    time.starts := ((s.time.t0 + s.time.len) :: s.time.starts).take 256,
    flt.slots := s.flt.slots.map (fun e => (e.1, { e.2 with opn := false })) }

/-- In Hold the counts of home, bridge lock and bridge completion timeouts stand still (R334). -/
def State.holdCounts (s : State) : State :=
  { s with
    home.tt := s.home.tt.map (fun e => (e.1, e.2.map (fun t => { t with since := t.since + 1 }))),
    brg.acc := s.brg.acc.map (fun a => { a with since := a.since + 1 }), brg.flush := s.brg.flush.map (fun a => { a with since := a.since + 1 }),
    brg.lock := s.brg.lock.map (fun e => (e.1, { e.2 with since := e.2.since + 1 })) }

/-- Timeouts that a Daybreak decides: home entries, held remote requests, bridge locks (R186, R433, R282); held lines expire and error-rate windows begin. -/
def State.frameTimeouts (s : State) : State :=
  if s.inHold then s.holdCounts
  else
    let ids := s.home.tt.flatMap (fun e => e.2.map (fun t => (e.1, t.id)))
    let s1 := ids.foldl (fun s e => s.timeout e.1 e.2) s
    s1.heldTimeouts.breakLocks.expireLines.newWindows

/-- A management reset and port resets due at this Daybreak. -/
def State.smallResets (s : State) (f : Nat) : State :=
  let s1 := match s.md.mrst with
    | some c => if s.md.mrstAt ≤ f then s.managementReset c else s
    | none => s
  s1.md.portRst.foldl State.portReset s1

/-- The resets due at this Daybreak, the widest alone (R343 to R346; log entry 100): cold, warm, or management and ports. -/
def State.stepResets (s : State) (cold ok : Bool) (f : Nat) : State :=
  if cold then s.coldReset 2 .rom
  else s.keepClock (if s.md.warmDue then s.warmReset ok f else s.smallResets f)

/-- Order 9: ALIVE toggles every 512 frames while the device is healthy (R381). -/
def State.stepAlive (s : State) (f : Nat) : State :=
  if f % 512 = 0 ∧ s.healthy then
    let v := ! s.bit FLT_STAT_ALIVE_LVL
    (s.setBit FLT_STAT_ALIVE_LVL v).emit (.alive v)
  else s

/-- The management watchdog counts the Daybreaks since it was last serviced (R380); after an expiry the count stands. -/
def State.stepWatchdog (s : State) (serviced : Bool) : State :=
  if s.bit FLT_STAT_WD_EXP || s.md.boot != .up then s
  else if serviced then s.setFld FLT_WDOG_COUNT 0
  else s.inc FLT_WDOG_COUNT

/-- SYNC_OUT at a Daybreak (R43). -/
def State.syncPulse (s : State) : State :=
  if s.bit FRM_SYNC_CTL_OUT_EN then s.emit (.syncOut (if s.time.frame % 4096 = 0 then 96 else 32)) else s

/-- Whether Oxbow may arm and copy: the data plane is powered and not in Hold (R334). -/
def State.oxbowRuns (s : State) : Bool := ! s.inHold && s.md.mode != .standby && s.md.mode != .bringUp

/-- Orders 3 to 7 of Table 2-2 and the mode of order 8. -/
def State.dayMiddle (s : State) : State :=
  let s1 := s.commitsEffect.offerAll.stepMoves.xfersDaybreak.returnParcels.finishUnbinds.gatesTake
  let s2 := (s.keepClock s1).lengthTakes
  s2.keepClock ((s2.takeover s.time.frame).stepModes s.time.frame)

/-- Orders 9 to 12, and what each block does at the start of a frame. -/
def State.dayEnd (s : State) (x : DayFacts) : State :=
  let f := s.time.frame
  let s1 := (s.stepAlive f).stepWatchdog x.serviced
  let e := s1.takeEyes
  let s2 := (e.2.twilight f e.1 x.samples x.ack).sendMarkers
  let s3 := if s2.oxbowRuns then s2.armMoves.drainVictims else s2
  let s4 : State := { s3 with sec.nonces := s3.sec.nonces.filter (fun n => decide (f ≤ n.2.2)) }
  s.keepClock ((s4.debugExpire.refreshPersts.syncPulse).measure)

/-- The step of a Daybreak is done: transactions that it let go on do so now, none part-way through it (R40). -/
def State.goOn (s : State) : State :=
  let s1 : State := { s with home.still := false }
  s1.keepClock s1.wakeHeld.runAll

/-- A Daybreak: the actions of Table 2-2 as one step. Where the Dusk window has not begun, it begins first. -/
def State.daybreak (s : State) (x : DayFacts) : State :=
  if ! s.running then s
  else
    let s1 := s.duskStart
    let s2 : State := { s1 with time.tick := s1.time.len, home.still := true }
    let s3 := (s2.keepClock s2.frameEnds).frameOpens
    let s4 := (s3.keepClock s3.frameTimeouts).dayMiddle
    let s5 := s4.stepResets s.md.coldDue x.selfTest s4.time.frame
    if s.md.coldDue then s5 else (s5.dayEnd x).goOn

/-- The Daybreak that ends the frame (R40). -/
def execDaybreak (x : DayFacts) (s : State) : Host.Outcome State Fault Refusal := s.doneTimed (s.daybreak x)

end Sys2Proof.Machine
end

