-- ==== Sys2Proof/Machine/Dispatch.lean ====
section
/-! DEFINITION. The effect of each command, arm by arm. -/
namespace Sys2Proof.Machine
open Sys2Proof

def exec (i : Instr) (s : State) : Host.Outcome State Fault Refusal :=
  match i with
  | .daybreak x => Sys2Proof.Machine.execDaybreak x s
  | .duskWindowStart => Sys2Proof.Machine.execDuskWindowStart s
  | .syncEdgeReceived long raw period => Sys2Proof.Machine.execSyncEdgeReceived long raw period s
  | .syncEdgeMissing n => Sys2Proof.Machine.execSyncEdgeMissing n s
  | .frmLenArm b w => Sys2Proof.Machine.execFrmLenArm b w s
  | .followerRearm b => Sys2Proof.Machine.execFollowerRearm b s
  | .syncRoleChange b w => Sys2Proof.Machine.execSyncRoleChange b w s
  | .registerWrite b addr w => Sys2Proof.Machine.execRegisterWrite b addr w s
  | .linkUp p rate width cxl flit256 lofl xr dev cap => Sys2Proof.Machine.execLinkUp p rate width cxl flit256 lofl xr dev cap s
  | .xrateSpeedChange p => Sys2Proof.Machine.execXrateSpeedChange p s
  | .xrateFallback p overrun => Sys2Proof.Machine.execXrateFallback p overrun s
  | .retrain b p => Sys2Proof.Machine.execRetrain b p s
  | .linkDisableWrite b p w => Sys2Proof.Machine.execLinkDisableWrite b p w s
  | .ideStreamSecure p cm => Sys2Proof.Machine.execIdeStreamSecure p cm s
  | .ideIntegrityFail p cm => Sys2Proof.Machine.execIdeIntegrityFail p cm s
  | .ideKeyRefresh rq port => Sys2Proof.Machine.execIdeKeyRefresh rq port s
  | .l1Entry p us => Sys2Proof.Machine.execL1Entry p us s
  | .l1Exit p => Sys2Proof.Machine.execL1Exit p s
  | .l0pNarrow p used total => Sys2Proof.Machine.execL0pNarrow p used total s
  | .l0pRestore p used total waitNs => Sys2Proof.Machine.execL0pRestore p used total waitNs s
  | .surpriseDown p => Sys2Proof.Machine.execSurpriseDown p s
  | .flushComplete p => Sys2Proof.Machine.execFlushComplete p s
  | .busMasterDisable fn msis writes reads => Sys2Proof.Machine.execBusMasterDisable fn msis writes reads s
  | .busMasterEnable fn => Sys2Proof.Machine.execBusMasterEnable fn s
  | .hostPerstChange g low => Sys2Proof.Machine.execHostPerstChange g low s
  | .portReset p => Sys2Proof.Machine.execPortReset p s
  | .portResetPortRst b w => Sys2Proof.Machine.execPortResetPortRst b w s
  | .laneSignalLoss l mv ns idle fails => Sys2Proof.Machine.execLaneSignalLoss l mv ns idle fails s
  | .laneLockLoss l ppm ns align idle fails => Sys2Proof.Machine.execLaneLockLoss l ppm ns align idle fails s
  | .laneParkWrite b l w => Sys2Proof.Machine.execLaneParkWrite b l w s
  | .eyeSweepDone l height width => Sys2Proof.Machine.execEyeSweepDone l height width s
  | .patternControlWrite b l w => Sys2Proof.Machine.execPatternControlWrite b l w s
  | .patternInject b l => Sys2Proof.Machine.execPatternInject b l s
  | .patternErrClear b l => Sys2Proof.Machine.execPatternErrClear b l s
  | .islCellReceived n c errs tag => Sys2Proof.Machine.execIslCellReceived n c errs tag s
  | .islCellSend n => Sys2Proof.Machine.execIslCellSend n s
  | .islMarkerReceived n raw aligned => Sys2Proof.Machine.execIslMarkerReceived n raw aligned s
  | .islMarkerMissing n => Sys2Proof.Machine.execIslMarkerMissing n s
  | .islReplayTimerExpiry n => Sys2Proof.Machine.execIslReplayTimerExpiry n s
  | .islRxSilence n => Sys2Proof.Machine.execIslRxSilence n s
  | .islAligningDone n => Sys2Proof.Machine.execIslAligningDone n s
  | .islKeyingDone n digest => Sys2Proof.Machine.execIslKeyingDone n digest s
  | .islKeyingTimeout n => Sys2Proof.Machine.execIslKeyingTimeout n s
  | .islRecoveryTimeout n => Sys2Proof.Machine.execIslRecoveryTimeout n s
  | .islTrainingRestart n => Sys2Proof.Machine.execIslTrainingRestart n s
  | .flitReceived p good integ items => Sys2Proof.Machine.execFlitReceived p good integ items s
  | .arbiterGrant o room e => Sys2Proof.Machine.execArbiterGrant o room e s
  | .outputWatchdogFire p room => Sys2Proof.Machine.execOutputWatchdogFire p room s
  | .egressSchedule p credits => Sys2Proof.Machine.execEgressSchedule p credits s
  | .shaperTokenRefill => Sys2Proof.Machine.execShaperTokenRefill s
  | .shaperAdmit src dst => Sys2Proof.Machine.execShaperAdmit src dst s
  | .gateListArm b p w => Sys2Proof.Machine.execGateListArm b p w s
  | .gateListCancel b p => Sys2Proof.Machine.execGateListCancel b p s
  | .cxlMemAccess p vdp hpa op tag data poison => Sys2Proof.Machine.execCxlMemAccess p vdp hpa op tag data poison s
  | .translationWalkDone n r => Sys2Proof.Machine.execTranslationWalkDone n r s
  | .hdmDecoderCommit b base size ig iw on lock => Sys2Proof.Machine.execHdmDecoderCommit b base size ig iw on lock s
  | .regionCreate rq tenant cls size ttBase treePool releaseFree => Sys2Proof.Machine.execRegionCreate rq tenant cls size ttBase treePool releaseFree s
  | .regionDelete rq region => Sys2Proof.Machine.execRegionDelete rq region s
  | .getRegion rq region => Sys2Proof.Machine.execGetRegion rq region s
  | .extentAdd rq binding dpaP lenP rofsP tag => Sys2Proof.Machine.execExtentAdd rq binding dpaP lenP rofsP tag s
  | .extentPreparationDone b dpaP => Sys2Proof.Machine.execExtentPreparationDone b dpaP s
  | .addDcResponse b dpaP accept => Sys2Proof.Machine.execAddDcResponse b dpaP accept s
  | .extentRelease rq binding dpaP force => Sys2Proof.Machine.execExtentRelease rq binding dpaP force s
  | .releaseDynamicCapacity b dpaP => Sys2Proof.Machine.execReleaseDynamicCapacity b dpaP s
  | .releaseSweepDone b dpaP => Sys2Proof.Machine.execReleaseSweepDone b dpaP s
  | .getExtents rq binding => Sys2Proof.Machine.execGetExtents rq binding s
  | .bindingResetRequest b bnd => Sys2Proof.Machine.execBindingResetRequest b bnd s
  | .bindingResetComplete b => Sys2Proof.Machine.execBindingResetComplete b s
  | .harvestStart b bnd w => Sys2Proof.Machine.execHarvestStart b bnd w s
  | .harvestDone b words => Sys2Proof.Machine.execHarvestDone b words s
  | .logClearDone b => Sys2Proof.Machine.execLogClearDone b s
  | .homeLookup sl l => Sys2Proof.Machine.execHomeLookup sl l s
  | .homeResponseArrival sl id rsp f => Sys2Proof.Machine.execHomeResponseArrival sl id rsp f s
  | .biconflict port line tag => Sys2Proof.Machine.execBiconflict port line tag s
  | .directoryReadDone sl id r mal => Sys2Proof.Machine.execDirectoryReadDone sl id r mal s
  | .homeTimeout sl id => Sys2Proof.Machine.execHomeTimeout sl id s
  | .hostSlotDrainWrite b k => Sys2Proof.Machine.execHostSlotDrainWrite b k s
  | .hostSlotDrained k => Sys2Proof.Machine.execHostSlotDrained k s
  | .hostSlotRevive b k => Sys2Proof.Machine.execHostSlotRevive b k s
  | .tenantEstablish rq tenant secret verifier => Sys2Proof.Machine.execTenantEstablish rq tenant secret verifier s
  | .zeroise rq tenant => Sys2Proof.Machine.execZeroise rq tenant s
  | .mapCkid rq binding ckid tenant => Sys2Proof.Machine.execMapCkid rq binding ckid tenant s
  | .tspKeyProgramming spdm binding ckid secret => Sys2Proof.Machine.execTspKeyProgramming spdm binding ckid secret s
  | .integrityQuery rq region => Sys2Proof.Machine.execIntegrityQuery rq region s
  | .enableTenant rq tenant enable => Sys2Proof.Machine.execEnableTenant rq tenant enable s
  | .metadataWriteback g level n lost f => Sys2Proof.Machine.execMetadataWriteback g level n lost f s
  | .loadGateRules rq g total firstPos count rules => Sys2Proof.Machine.execLoadGateRules rq g total firstPos count rules s
  | .consent rq tok => Sys2Proof.Machine.execConsent rq tok s
  | .gateRuleRecheck g => Sys2Proof.Machine.execGateRuleRecheck g s
  | .heatSweep g lost => Sys2Proof.Machine.execHeatSweep g lost s
  | .rankerPass lost => Sys2Proof.Machine.execRankerPass lost s
  | .poolRebuild p => Sys2Proof.Machine.execPoolRebuild p s
  | .copyReadReturn m e => Sys2Proof.Machine.execCopyReadReturn m e s
  | .copyPassEnd m => Sys2Proof.Machine.execCopyPassEnd m s
  | .scrubDone pool ppi => Sys2Proof.Machine.execScrubDone pool ppi s
  | .placementDirective rq region firstP count pool => Sys2Proof.Machine.execPlacementDirective rq region firstP count pool s
  | .moveAbort rq region firstP count => Sys2Proof.Machine.execMoveAbort rq region firstP count s
  | .heatQuery rq region firstP count => Sys2Proof.Machine.execHeatQuery rq region firstP count s
  | .evacuatePool rq pool disc => Sys2Proof.Machine.execEvacuatePool rq pool disc s
  | .evacuationStartWrite b p w => Sys2Proof.Machine.execEvacuationStartWrite b p w s
  | .evacuationCancel b p w => Sys2Proof.Machine.execEvacuationCancel b p w s
  | .bulkTailWrite b q w => Sys2Proof.Machine.execBulkTailWrite b q w s
  | .bulkDescriptorFetched q d ok => Sys2Proof.Machine.execBulkDescriptorFetched q d ok s
  | .bulkDescriptorDone q num ofs r => Sys2Proof.Machine.execBulkDescriptorDone q num ofs r s
  | .bulkQueueDisable b q w => Sys2Proof.Machine.execBulkQueueDisable b q w s
  | .quanta rq port quanta => Sys2Proof.Machine.execQuanta rq port quanta s
  | .shaper rq tenant rate burst en => Sys2Proof.Machine.execShaper rq tenant rate burst en s
  | .gateList rq port slots en frame => Sys2Proof.Machine.execGateList rq port slots en frame s
  | .getQos rq port => Sys2Proof.Machine.execGetQos rq port s
  | .bridgeAccess p vdp hpa op tag data mask poison => Sys2Proof.Machine.execBridgeAccess p vdp hpa op tag data mask poison s
  | .farUnitCompletion id u ok v => Sys2Proof.Machine.execFarUnitCompletion id u ok v s
  | .farUnitTimeout flush id u => Sys2Proof.Machine.execFarUnitTimeout flush id u s
  | .flushReadComplete num ok => Sys2Proof.Machine.execFlushReadComplete num ok s
  | .postedWriteFailure w far => Sys2Proof.Machine.execPostedWriteFailure w far s
  | .bridgeFenceWrite b win w => Sys2Proof.Machine.execBridgeFenceWrite b win w s
  | .bridgeFence rq w => Sys2Proof.Machine.execBridgeFence rq w s
  | .prefetchFill num data ok => Sys2Proof.Machine.execPrefetchFill num data ok s
  | .lockAcquire b p w => Sys2Proof.Machine.execLockAcquire b p w s
  | .lockRelease b p w => Sys2Proof.Machine.execLockRelease b p w s
  | .lockTimeout far => Sys2Proof.Machine.execLockTimeout far s
  | .upstreamWrite p addr => Sys2Proof.Machine.execUpstreamWrite p addr s
  | .intxMessage p line on => Sys2Proof.Machine.execIntxMessage p line on s
  | .sidebandAlert g => Sys2Proof.Machine.execSidebandAlert g s
  | .mirrorPeriod w => Sys2Proof.Machine.execMirrorPeriod w s
  | .mirrorOutWrite b win w => Sys2Proof.Machine.execMirrorOutWrite b win w s
  | .window rq w cfg base size far irq => Sys2Proof.Machine.execWindow rq w cfg base size far irq s
  | .getWindow rq w => Sys2Proof.Machine.execGetWindow rq w s
  | .getIdentity rq => Sys2Proof.Machine.execGetIdentity rq s
  | .openSession rq kind spdm tok => Sys2Proof.Machine.execOpenSession rq kind spdm tok s
  | .closeSession rq => Sys2Proof.Machine.execCloseSession rq s
  | .attach rq source eid => Sys2Proof.Machine.execAttach rq source eid s
  | .tokenNonce rq type => Sys2Proof.Machine.execTokenNonce rq type s
  | .presentToken rq tok => Sys2Proof.Machine.execPresentToken rq tok s
  | .ownerClaim rq key => Sys2Proof.Machine.execOwnerClaim rq key s
  | .ownerSetting rq action => Sys2Proof.Machine.execOwnerSetting rq action s
  | .fabricManagerKey rq index digest => Sys2Proof.Machine.execFabricManagerKey rq index digest s
  | .setCertificate spdm slot chain certifies => Sys2Proof.Machine.execSetCertificate spdm slot chain certifies s
  | .getMeasurements spdm index => Sys2Proof.Machine.execGetMeasurements spdm index s
  | .registerRead rq addr count => Sys2Proof.Machine.execRegisterRead rq addr count s
  | .registerWriteOpcode rq addr count words => Sys2Proof.Machine.execRegisterWriteOpcode rq addr count words s
  | .getMode rq => Sys2Proof.Machine.execGetMode rq s
  | .setMode rq byte => Sys2Proof.Machine.execSetMode rq byte s
  | .setPowerState rq code => Sys2Proof.Machine.execSetPowerState rq code s
  | .modeRequestWrite b w => Sys2Proof.Machine.execModeRequestWrite b w s
  | .powerRequestWrite b w => Sys2Proof.Machine.execPowerRequestWrite b w s
  | .stageBegin rq => Sys2Proof.Machine.execStageBegin rq s
  | .commit rq at_ => Sys2Proof.Machine.execCommit rq at_ s
  | .discard rq => Sys2Proof.Machine.execDiscard rq s
  | .resetBinding rq binding => Sys2Proof.Machine.execResetBinding rq binding s
  | .resetPort rq port => Sys2Proof.Machine.execResetPort rq port s
  | .resetManagement rq => Sys2Proof.Machine.execResetManagement rq s
  | .resetWarm rq => Sys2Proof.Machine.execResetWarm rq s
  | .resetCold rq => Sys2Proof.Machine.execResetCold rq s
  | .commandStatus rq handle => Sys2Proof.Machine.execCommandStatus rq handle s
  | .abort rq handle => Sys2Proof.Machine.execAbort rq handle s
  | .longCommandComplete handle ok => Sys2Proof.Machine.execLongCommandComplete handle ok s
  | .getPort rq port => Sys2Proof.Machine.execGetPort rq port s
  | .portControl rq port action => Sys2Proof.Machine.execPortControl rq port action s
  | .ppbConfigurationRequest rq port request completion => Sys2Proof.Machine.execPpbConfigurationRequest rq port request completion s
  | .bindVdp rq host vdp port ld => Sys2Proof.Machine.execBindVdp rq host vdp port ld s
  | .unbindVdp rq host vdp force => Sys2Proof.Machine.execUnbindVdp rq host vdp force s
  | .generateAer rq host vdp header => Sys2Proof.Machine.execGenerateAer rq host vdp header s
  | .ldConfigurationRequest rq port ld request completion => Sys2Proof.Machine.execLdConfigurationRequest rq port ld request completion s
  | .ldMemoryRequest rq port ld addr len data reply => Sys2Proof.Machine.execLdMemoryRequest rq port ld addr len data reply s
  | .mldTunnel rq port ld command size reply => Sys2Proof.Machine.execMldTunnel rq port ld command size reply s
  | .fmApiCommand source route eid carrier c => Sys2Proof.Machine.execFmApiCommand source route eid carrier c s
  | .getChannel rq channel => Sys2Proof.Machine.execGetChannel rq channel s
  | .slotPowerOn rq channel feed => Sys2Proof.Machine.execSlotPowerOn rq channel feed s
  | .slotPowerOff rq channel => Sys2Proof.Machine.execSlotPowerOff rq channel s
  | .clearLatch rq channel => Sys2Proof.Machine.execClearLatch rq channel s
  | .slotOnWrite b c => Sys2Proof.Machine.execSlotOnWrite b c s
  | .slotOffWrite b c => Sys2Proof.Machine.execSlotOffWrite b c s
  | .slotClrWrite b c => Sys2Proof.Machine.execSlotClrWrite b c s
  | .slotApply b c => Sys2Proof.Machine.execSlotApply b c s
  | .slotSample c prsnt vout shunt gsA gsB va vb => Sys2Proof.Machine.execSlotSample c prsnt vout shunt gsA gsB va vb s
  | .insertionDelayEnd c => Sys2Proof.Machine.execInsertionDelayEnd c s
  | .offTimeEnd c => Sys2Proof.Machine.execOffTimeEnd c s
  | .coolingExpiry c => Sys2Proof.Machine.execCoolingExpiry c s
  | .fastTrip c shunt => Sys2Proof.Machine.execFastTrip c shunt s
  | .readFaultRecords rq firstNum count => Sys2Proof.Machine.execReadFaultRecords rq firstNum count s
  | .clearFaultRecord rq record => Sys2Proof.Machine.execClearFaultRecord rq record s
  | .faultClearWrite b w => Sys2Proof.Machine.execFaultClearWrite b w s
  | .routeEventSource rq source target sense => Sys2Proof.Machine.execRouteEventSource rq source target sense s
  | .routeWrite b source w => Sys2Proof.Machine.execRouteWrite b source w s
  | .faultReport code id unbound addr detail => Sys2Proof.Machine.execFaultReport code id unbound addr detail s
  | .collectorSelfFault => Sys2Proof.Machine.execCollectorSelfFault s
  | .managementWatchdogLimit => Sys2Proof.Machine.execManagementWatchdogLimit s
  | .eventClaim b t => Sys2Proof.Machine.execEventClaim b t s
  | .eventDone b t w => Sys2Proof.Machine.execEventDone b t w s
  | .eventPendingClear b addr w => Sys2Proof.Machine.execEventPendingClear b addr w s
  | .eventScanSelect b t w => Sys2Proof.Machine.execEventScanSelect b t w s
  | .pinSourceChange source low samples => Sys2Proof.Machine.execPinSourceChange source low samples s
  | .configureCounterUnit rq unit selects => Sys2Proof.Machine.execConfigureCounterUnit rq unit selects s
  | .dumpRing rq port base size every => Sys2Proof.Machine.execDumpRing rq port base size every s
  | .ringEnableWrite b w => Sys2Proof.Machine.execRingEnableWrite b w s
  | .readBindingCounters rq binding => Sys2Proof.Machine.execReadBindingCounters rq binding s
  | .counterDumpDone => Sys2Proof.Machine.execCounterDumpDone s
  | .readMargins rq cls first count => Sys2Proof.Machine.execReadMargins rq cls first count s
  | .readForecast rq => Sys2Proof.Machine.execReadForecast rq s
  | .forecastDismiss b w => Sys2Proof.Machine.execForecastDismiss b w s
  | .rateCapClear b p => Sys2Proof.Machine.execRateCapClear b p s
  | .patrolScrubPass corrected => Sys2Proof.Machine.execPatrolScrubPass corrected s
  | .rowRepairCopyDone macroNum row last => Sys2Proof.Machine.execRowRepairCopyDone macroNum row last s
  | .mirrorSingle stack cause => Sys2Proof.Machine.execMirrorSingle stack cause s
  | .resilverDone stack => Sys2Proof.Machine.execResilverDone stack s
  | .journalWrite ok => Sys2Proof.Machine.execJournalWrite ok s
  | .imageChunk rq bank offset size image => Sys2Proof.Machine.execImageChunk rq bank offset size image s
  | .activateImage rq bank => Sys2Proof.Machine.execActivateImage rq bank s
  | .imageValidated => Sys2Proof.Machine.execImageValidated s
  | .outgoingPairRejoin ok => Sys2Proof.Machine.execOutgoingPairRejoin ok s
  | .raiseSvnFloor rq floor invalidate => Sys2Proof.Machine.execRaiseSvnFloor rq floor invalidate s
  | .personality rq c => Sys2Proof.Machine.execPersonality rq c s
  | .groupMembership rq group member peers => Sys2Proof.Machine.execGroupMembership rq group member peers s
  | .fenceToken rq tok => Sys2Proof.Machine.execFenceToken rq tok s
  | .transferHome rq region peer at_ keyOk => Sys2Proof.Machine.execTransferHome rq region peer at_ keyOk s
  | .commitMessageReceived m r treePool treeUnit releaseFree root entries leaves nodes macs => Sys2Proof.Machine.execCommitMessageReceived m r treePool treeUnit releaseFree root entries leaves nodes macs s
  | .regionListReceived m l sameMap => Sys2Proof.Machine.execRegionListReceived m l sameMap s
  | .peerUnreachable m => Sys2Proof.Machine.execPeerUnreachable m s
  | .remoteRequestTimeout => Sys2Proof.Machine.execRemoteRequestTimeout s
  | .peerReachable m => Sys2Proof.Machine.execPeerReachable m s
  | .debugRead rq addr len data => Sys2Proof.Machine.execDebugRead rq addr len data s
  | .debugWrite rq addr len data => Sys2Proof.Machine.execDebugWrite rq addr len data s
  | .debugLifetimeExpiry => Sys2Proof.Machine.execDebugLifetimeExpiry s
  | .tapInstruction n => Sys2Proof.Machine.execTapInstruction n s
  | .trst => Sys2Proof.Machine.execTrst s
  | .managementResetRequest b => Sys2Proof.Machine.execManagementResetRequest b s
  | .mgmtRstNLow samples => Sys2Proof.Machine.execMgmtRstNLow samples s
  | .interpreterReady => Sys2Proof.Machine.execInterpreterReady s
  | .warmResetWrite b => Sys2Proof.Machine.execWarmResetWrite b s
  | .coldResetWrite b => Sys2Proof.Machine.execColdResetWrite b s
  | .warmReset selfTest => Sys2Proof.Machine.execWarmReset selfTest s
  | .resetNLow samples => Sys2Proof.Machine.execResetNLow samples s
  | .auxPwrgdRise straps => Sys2Proof.Machine.execAuxPwrgdRise straps s
  | .auxPwrgdFall => Sys2Proof.Machine.execAuxPwrgdFall s
  | .coldReset => Sys2Proof.Machine.execColdReset s
  | .bootRomDone => Sys2Proof.Machine.execBootRomDone s
  | .pwrgdCoreAssert => Sys2Proof.Machine.execPwrgdCoreAssert s
  | .pwrgdCoreDeassert => Sys2Proof.Machine.execPwrgdCoreDeassert s
  | .bringUpComplete ok answers board device => Sys2Proof.Machine.execBringUpComplete ok answers board device s
  | .holdWake => Sys2Proof.Machine.execHoldWake s
  | .holdResumeReady => Sys2Proof.Machine.execHoldResumeReady s
  | .thermtrip celsius => Sys2Proof.Machine.execThermtrip celsius s
  | .timebasePllLossOfLock => Sys2Proof.Machine.execTimebasePllLossOfLock s
  | .resetNRelease straps => Sys2Proof.Machine.execResetNRelease straps s
  | .hostPortLinkLoss p => Sys2Proof.Machine.execHostPortLinkLoss p s
  | .standbyPairFailure => Sys2Proof.Machine.execStandbyPairFailure s
  | .configurationWrite fn c => Sys2Proof.Machine.execConfigurationWrite fn c s
  | .deviceErrorMessage p far => Sys2Proof.Machine.execDeviceErrorMessage p far s
  | .upstreamRead p tag => Sys2Proof.Machine.execUpstreamRead p tag s
  | .copyWriteAck m e line => Sys2Proof.Machine.execCopyWriteAck m e line s
  | .transferReadyReceived region peer => Sys2Proof.Machine.execTransferReadyReceived region peer s
  | .transferConfirmReceived region peer => Sys2Proof.Machine.execTransferConfirmReceived region peer s
  | .vendorLifecycleCommand rq retire => Sys2Proof.Machine.execVendorLifecycleCommand rq retire s
  | .spdmKeyExchange n route eid mutualAuth key secret briral => Sys2Proof.Machine.execSpdmKeyExchange n route eid mutualAuth key secret briral s
  | .spdmEndSession n => Sys2Proof.Machine.execSpdmEndSession n s
  | .unsupportedOpcode rq op => Sys2Proof.Machine.execUnsupportedOpcode rq op s
  | .i3cInterruptEnable bus on => Sys2Proof.Machine.execI3cInterruptEnable bus on s
  | .barRegisterRead b addr => Sys2Proof.Machine.execBarRegisterRead b addr s

end Sys2Proof.Machine
end

