-- ==== Sys2Proof/Machine/Step.lean ====
section
/-! DEFINITION. One step of the block: the command at the front of the queue, or, on an empty queue, what the block does by itself. -/
namespace Sys2Proof.Machine
open Sys2Proof

/-- The next request the interpreter takes from the route queues, once it is ready, and the state without it (R304, R320). -/
def State.nextHeld (s : State) : Option (Instr × State) :=
  if s.md.boot = .up ∧ s.bit MBX_STAT_READY then
    match s.mbx.held with
    | h :: t => some (h.2, { s with mbx.held := t })
    | [] => none
  else none

/-- The next register access that has waited for the end of Hold (R334), and the state without it. -/
def State.nextWaiting (s : State) : Option (Instr × State) :=
  if s.inHold then none
  else
    match s.md.waiting with
    | i :: t => some (i, { s with md.waiting := t })
    | [] => none

/-- A tick passes within the present part of the frame. The boundaries themselves, the first tick of the Dusk window and the Daybreak, are
commands (log entry 1). -/
def State.tickOn (s : State) : State :=
  let bound := if s.time.dusk then s.time.len else s.duskTick
  if s.running ∧ s.time.tick + 1 < bound then { s with time.tick := s.time.tick + 1 } else s

/-- A step on an empty queue (log entry 1). -/
def idle (s : State) : Host.Outcome State Fault Refusal :=
  match s.nextHeld with
  | some (i, t) => exec i t
  | none =>
    match s.nextWaiting with
    | some (i, t) =>
      match t.runWaiting i with
      | some u => t.done u
      | none => exec i t
    | none => .next s.tickOn

/-- One step: the command at the front of the queue has its effect on the state with the queue's rest. -/
def step (s : State) : Host.Outcome State Fault Refusal :=
  match s.pending with
  | c :: rest => exec c { s with pending := rest }
  | [] => idle s

/-- The state with a command in front of its queue. -/
def State.withCommand (s : State) (c : Instr) : State := { s with pending := c :: s.pending }

/-- The state with the command a word spells in front of its queue; unchanged where the word spells none. -/
def State.withFetchWord (s : State) (nbits w : Nat) : State :=
  match decodeTableWord nbits w with
  | some c => s.withCommand c
  | none => s

end Sys2Proof.Machine
end

