-- ==== Sys2Proof/Safety.lean ====
section
/-! DEFINITION. What claims about the machine are stated in: when a step completes, the invariant of the frame clock, when a Xiboni request is
served and what its reply is, and when a write through a BAR is served. -/
namespace Sys2Proof.Machine
open Sys2Proof

/-- A step or a command that answers a next state: no fault, no refusal. -/
def completes (o : Host.Outcome State Fault Refusal) : Bool :=
  match o with
  | .next _ => true
  | .fault _ => false
  | .refused _ => false

/-! ### The frame clock -/

/-- The frame clock stands within its frame (R33, R42, R44): the length code is one of the four; the frame is as long as its code says, give or take the one
tick of a correction; a correction due is one tick at most; the tick lies within the frame; and from the beginning of the Dusk window on, and only
then, it lies within the last 64. -/
def ClockOk (t : TimeSt) : Prop :=
  t.lenCode < 4 ∧ (t.len : Int) - frameTicks t.lenCode ≤ 1 ∧ (frameTicks t.lenCode : Int) - t.len ≤ 1 ∧ -1 ≤ t.corr ∧ t.corr ≤ 1 ∧
    t.tick < t.len ∧ (t.dusk = true ↔ t.len ≤ t.tick + 64)

/-! ### Xiboni requests -/

/-- Whether an open session is the one a request belongs to, as the next of its sequence, with the form of authentication of its kind (R307 to R309). -/
def Session.fits (x : Session) (op : Nat) (rq : Rq) : Bool :=
  (if x.kind = .host then ! rq.auth else rq.auth && x.tagOk op rq) && x.last != some (rq.seq, rq.tag) && rq.seq == x.expected

/-- Whether a request is admitted, for a principal (R304, R305, R307 to R309): the interpreter is ready, the packet has the right form, and its session is
open and expects it. The last request of a session, after which it closes (R309), is left apart. -/
def State.admits (s : State) (rq : Rq) (op : Nat) (p : Principal) : Bool :=
  s.md.boot == .up && s.bit MBX_STAT_READY && rq.version == 1 && decide (rq.plen ≤ 4096) && rq.seq != 0xFFFFFFFF &&
    (if rq.sess = 0 then ! rq.auth && p == .none
     else match s.sessionOf rq with
       | some x => x.prin == p && x.fits op rq
       | none => false)

/-- Whether a request passes every check before its opcode is carried out: it is admitted, and mode, lifecycle and principal let it reach the opcode
(R310, R318). -/
def State.serves (s : State) (rq : Rq) (op : Nat) (p : Principal) : Bool := s.admits rq op p && s.opGate p op == none

/-- The state in which the opcode of a served request is carried out: its session has taken the sequence number (R309). -/
def State.entered (s : State) (rq : Rq) : State :=
  if rq.sess = 0 then s
  else match s.sessionOf rq with
    | some x => s.enter rq x
    | none => s

/-- The key under which a request's reply is protected: that of its session (R308). -/
def State.answerKey (s : State) (rq : Rq) : Option Nat := if rq.sess = 0 then none else (s.sessionOf rq).bind Session.wireKey

/-- What a request's answer puts before what had been sent: the reply, and its protected form (R306, R308). -/
def State.sentReply (s : State) (rq : Rq) (op : Nat) (rp : Reply) (out : List Out) : List Out :=
  .reply (rqRef rq op) rp :: (replySeal (s.answerKey rq) (rqRef rq op) rp ++ out)

/-- The last thing sent is the reply of a request: its status, its FRAME and the opcode's own fields (R306). -/
def State.replied (s : State) (rq : Rq) (op : Nat) (c : Status) (frame : Nat) (data : List (Nat × Nat)) : Prop :=
  s.out.head? = some (.reply (rqRef rq op) { status := c, frame := frame, data := data })

/-- A request is answered with a status and has no other effect (R312). -/
def State.turnsAway (s t : State) (rq : Rq) (op : Nat) (c : Status) : Prop :=
  t.replied rq op c s.time.frame [] ∧ t = { s with out := t.out, mbx.sess := t.mbx.sess }

/-- A staging request finds the lock held by another session: it is answered busy and counted, and stages nothing (R313). -/
def State.losesLock (s t : State) (rq : Rq) (op : Nat) : Prop :=
  t.replied rq op .busy s.time.frame [] ∧ t.fld MBX_STAGE_REF_STAGE_REF = min (s.fld MBX_STAGE_REF_STAGE_REF + 1) (2 ^ 16 - 1) ∧
    t = { s with out := t.out, mbx.sess := t.mbx.sess, regs := t.regs }

/-! ### Writes through a BAR -/

/-- Whether a write of a word through a BAR is carried out (R4, R8, R11, R212, R334): the device answers, the block is reached at once, the word is whole,
and neither the word's Who column nor its gate turns it away. -/
def State.takesWrite (s : State) (b : Bus) (a : Nat) : Bool :=
  s.md.boot == .up && ! s.busWaits a && b.be == 15 && (s.regCheck (s.busAcc b) true a 1).1 == none

/-- Whether a read of a word through a BAR is carried out (R8, R11, R212, R334). -/
def State.takesRead (s : State) (b : Bus) (a : Nat) : Bool :=
  s.md.boot == .up && ! s.busWaits a && (s.regCheck (s.busAcc b) false a 1).1 == none

/-- Whether a register lies at an address of the window (R29): inside a range of Table 1-11, at an offset that the owning chapter defines. -/
def State.defines (s : State) (a : Nat) : Bool :=
  match lookupReg a with
  | some (d, ix) => s.offsetExists d.reg a (ix.getD 0 0)
  | none => false

/-- The principal of an access through a BAR. -/
def State.busP (s : State) (b : Bus) : Principal := (s.busAcc b).prin

/-! ### Counters and ports -/

/-- What a saturating counter field holds after one more event. -/
def State.oneMore (s : State) (f : Fld) : Nat := min (s.fld f + 1) (2 ^ f.width - 1)

/-- Nothing is in transit and nothing hangs on a port: no message waits anywhere, no home transaction, bridge access or dump runs, and the port is no
pool port, carries no inter-switch link, no bridge window and no host slot. -/
def State.alone (s : State) (p : Nat) : Prop :=
  s.xbr.voq = [] ∧ s.xbr.egress = [] ∧ s.xbr.busy = [] ∧ s.home.tt = [] ∧ s.brg = {} ∧ s.cnt.run = none ∧
    s.isPool p = false ∧ s.islOf p = none ∧ s.windowsOf p = [] ∧ s.slotAt s.ownMember p = none

/-- No lane of a port is parked. -/
def State.lanesGood (s : State) (p : Nat) : Prop := ∀ l ∈ s.laneSet p (s.lanesOf p) false, s.parked l = false

end Sys2Proof.Machine
end

