-- ==== Sys2Proof/Certificates/Slice0/Obligations.lean ====
section
/-! DEFINITION. The statements about the machine, each a proposition that the provers show or refute. Those about commands say, clause by clause,
under which hypotheses on the state and the operands a command completes, what its next state holds, and what it leaves as it was. -/
open Sys2Proof Sys2Proof.Machine

/-- A step at a state with a command in front of its queue is exec of that command on the state with the queue's rest; with nothing in the queue,
nothing held by the interpreter and no access waiting, the block idles: its answer is the state with at most one tick passed (log entry 1, the
model's choice). Cites 01_architecture.md, 02_frame_time.md, R304. -/
def Obligations.QueueFront : Prop :=
  (∀ (s : State) (c : Instr), step (s.withCommand c) = exec c s) ∧
  (∀ (s : State) (c : Instr) (rest : List Instr), s.pending = c :: rest → step s = exec c { s with pending := rest }) ∧
  (∀ (s : State), s.pending = [] → s.mbx.held = [] → s.md.waiting = [] → step s = .next s.tickOn) ∧
  (∀ (s : State), s.tickOn = { s with time.tick := s.tickOn.time.tick } ∧ (s.tickOn.time.tick = s.time.tick ∨ s.tickOn.time.tick = s.time.tick + 1))

/-- At State.reset: frame 0 of the standard length, Standby, no session, no staging lock, no fault record, nothing due, no valid binding, empty key
slots, every link down, the Reservoir in canonical form, READY clear; every register word is the reset word of its address, and six registers
with reset values that are not 0 hold them. That the queue of waiting commands is empty is the model's choice (log entry 1). Cites R9, R344, R34,
R326, R192, R33. -/
def Obligations.ResetState : Prop :=
  State.reset.time.frame = 0 ∧ State.reset.time.tick = 0 ∧ State.reset.time.len = 1024 ∧ ClockOk State.reset.time ∧ State.reset.md.mode = .standby ∧
  State.reset.due = [] ∧ State.reset.pending = [] ∧ State.reset.mbx.sess = [] ∧ State.reset.mbx.lock = none ∧ State.reset.flt.slots = [] ∧
  Memory.wf State.reset.rsv ∧ State.reset.bit MBX_STAT_READY = false ∧
  (∀ a, State.reset.word a = resetWord a ∧ State.reset.curWord a = resetWord a) ∧
  (∀ t, State.reset.slotState t = .empty) ∧ (∀ p < 128, State.reset.linkUp p = false) ∧ (∀ i < 8, State.reset.islSt i = 0) ∧
  State.reset.bindings = []  ∧ (∀ k < 64, State.reset.slotSt k = 0) ∧ (∀ c < 32, State.reset.pg c = false) ∧
  State.reset.fld FLT_WDOG_LIMIT = 0x40 ∧ State.reset.fld (PRT_LINK_CTL_MAX_RATE 0) = 6 ∧ State.reset.fld (XBR_PWD_WD 0) = 0x10 ∧
  State.reset.fld (ISL_REPLAY_CTL_REPLAY_MAX 0) = 4 ∧ State.reset.fld TWL_CTL_HORIZON = 0x5A ∧ State.reset.fld (PRT_PM_CTL_L1_IDLE 0) = 0x20

/-- For every command and every state exec answers a next state (no fault, no refusal) whose queue is the one it was given; and every command but the
boundaries of the frame, the cold resets and the received alignment edges and markers leaves the frame number, the tick and the frame's length as
they were. Cites R36, R34, R44, R344, 00_scope.md. -/
def Obligations.EveryCommandCompletes : Prop :=
  ∀ (c : Instr) (s : State), ∃ t, exec c s = .next t ∧ t.pending = s.pending ∧
    ((∀ x, c ≠ .daybreak x) → c ≠ .duskWindowStart → c ≠ .coldReset → (∀ n, c ≠ .resetNLow n) → (∀ n, c ≠ .auxPwrgdRise n) → c ≠ .auxPwrgdFall →
      (∀ l e p, c ≠ .syncEdgeReceived l e p) → (∀ i m a, c ≠ .islMarkerReceived i m a) → t.time.frame = s.time.frame ∧ t.time.tick = s.time.tick ∧
      t.time.len = s.time.len)

/-- ClockOk: the length code is one of four; the frame has as many ticks as its code says give or take one correction tick; the tick lies within the
frame; and the Dusk window has begun exactly when the tick lies within the last 64. Reset has it with the default code 1; the four codes stand
for 512, 1,024, 2,048 and 4,096 ticks; from every state that has it, whatever the command, a step that answers a next state gives a state that
has it. Cites R33. -/
def Obligations.FrameClock : Prop :=
  State.reset.time.lenCode = 1 ∧ ClockOk State.reset.time ∧
  frameTicks 0 = 512 ∧ frameTicks 1 = 1024 ∧ frameTicks 2 = 2048 ∧ frameTicks 3 = 4096 ∧
  (∀ s t : State, ClockOk s.time → step s = .next t → ClockOk t.time)

/-- An access to an address of the window at which no register lies (a range or an offset that no chapter defines) is refused: through a BAR a read
returns 0 and a write is dropped, by opcode the answer is permission; the count of refused accesses rises by one, and nothing else changes: no
fault is recorded. Cites R29. -/
def Obligations.UndefinedAddresses : Prop :=
  (∀ (s : State) (b : Bus) (a : Nat), s.md.boot = .up → s.busWaits a = false → s.defines a = false →
    exec (.barRegisterRead b a) s = .next { s with refused := s.refused + 1, out := .busData b.fn a 0 :: s.out }) ∧
  (∀ (s : State) (b : Bus) (a : Nat) (w : Word), s.md.boot = .up → s.busWaits a = false → s.defines a = false →
    exec (.registerWrite b a w) s = .next { s with refused := s.refused + 1 }) ∧
  (∀ (s : State) (rq : Rq) (p : Principal) (a : Nat), s.serves rq 0x0110 p = true → s.inHold = false → s.defines a = false →
    ∃ t, exec (.registerRead rq a 1) s = .next t ∧ t.replied rq 0x0110 .permission s.time.frame [] ∧
      t = { s with out := t.out, mbx.sess := t.mbx.sess, refused := s.refused + 1 }) ∧
  (∀ (s : State) (rq : Rq) (p : Principal) (a : Nat) (w : Word), s.serves rq 0x0111 p = true → s.inHold = false → s.defines a = false →
    ∃ t, exec (.registerWriteOpcode rq a 1 [w]) s = .next t ∧ t.replied rq 0x0111 .permission s.time.frame [] ∧
      t = { s with out := t.out, mbx.sess := t.mbx.sess, refused := s.refused + 1 })

/-- For a management function whose Bus Master Enable is clear and whose event target is up, the write that sets it sends one message for every
vector that some pending and unmasked source of the function has, and changes nothing else. Cites R74. -/
def Obligations.BusMasterReplay : Prop :=
  ∀ (s : State) (fn : Nat), fn ≤ 128 → (s.mf fn).bme = false → s.targetUp fn = true →
    exec (.busMasterEnable fn) s = .next { s with
      evt.mf := mputD s.evt.mf fn {} { s.mf fn with bme := true },
      out := (((List.range 64).filter (fun v => (s.sourceOfVector fn v).isSome)).map (fun v => Out.msg fn v)).reverse ++ s.out }

/-- For every opcode: a repeat of the last request of a session gets the stored reply again with no other effect; a request out of sequence is
answered sequence and counted; one whose tag does not verify is discarded and counted, and the sixteenth in a row closes the session; the request
with the last sequence number closes its session; a request of no open session is answered session; while the interpreter is not ready a request
waits in its route's queue, and is answered busy or dropped when the queue is full. Cites R304, R306, R307, R308, R309. -/
def Obligations.SessionSequence : Prop :=
  (∀ (s : State) (rq : Rq) (byte : Nat) (x : Session) (rp : Reply), s.md.boot = .up → s.bit MBX_STAT_READY = true → rq.version = 1 → rq.plen ≤ 4096 →
    rq.sess ≠ 0 → s.sessionOf rq = some x → x.kind ≠ .host → rq.auth = true → x.tagOk 0x0201 rq = true →
    x.last = some (rq.seq, rq.tag) → x.stored = some rp → exec (.setMode rq byte) s = .next (s.sendReply x.wireKey (rqRef rq 0x0201) rp)) ∧
  (∀ (s : State) (op : Nat) (rq : Rq) (i : Instr) (body : Principal → State → Ans) (x : Session) (rp : Reply), s.md.boot = .up →
    s.bit MBX_STAT_READY = true → rq.version = 1 → rq.plen ≤ 4096 → rq.sess ≠ 0 → s.sessionOf rq = some x → x.kind ≠ .host → rq.auth = true →
    x.tagOk op rq = true → x.last = some (rq.seq, rq.tag) → x.stored = some rp → xib op rq i s body = s.sendReply x.wireKey (rqRef rq op) rp) ∧
  (∀ (s : State) (op : Nat) (rq : Rq) (i : Instr) (body : Principal → State → Ans) (x : Session), s.md.boot = .up → s.bit MBX_STAT_READY = true →
    rq.version = 1 → rq.plen ≤ 4096 → rq.sess ≠ 0 → s.sessionOf rq = some x → x.kind ≠ .host → rq.auth = true → x.tagOk op rq = true →
    x.last ≠ some (rq.seq, rq.tag) → rq.seq ≠ x.expected →
    ∃ t, xib op rq i s body = t ∧ t.replied rq op .sequence s.time.frame [] ∧ t.fld MBX_ERR_SEQ_ERR = s.oneMore MBX_ERR_SEQ_ERR ∧
      t = { s with out := t.out, regs := t.regs }) ∧
  (∀ (s : State) (op : Nat) (rq : Rq) (i : Instr) (body : Principal → State → Ans) (x : Session), s.md.boot = .up → s.bit MBX_STAT_READY = true →
    rq.version = 1 → rq.plen ≤ 4096 → rq.sess ≠ 0 → s.sessionOf rq = some x → x.kind ≠ .host → (rq.auth = false ∨ x.tagOk op rq = false) → x.fails < 15 →
    ∃ t, xib op rq i s body = t ∧ t.fld MBX_ERR_AUTH_FAIL = s.oneMore MBX_ERR_AUTH_FAIL ∧
      mget t.mbx.sess rq.sess = some { x with fails := x.fails + 1 } ∧
      t = { s with out := .discarded (rqRef rq op) :: s.out, regs := t.regs, mbx.sess := t.mbx.sess }) ∧
  (∀ (s : State) (op : Nat) (rq : Rq) (i : Instr) (body : Principal → State → Ans) (x : Session), s.md.boot = .up → s.bit MBX_STAT_READY = true →
    rq.version = 1 → rq.plen ≤ 4096 → rq.sess ≠ 0 → s.sessionOf rq = some x → x.kind ≠ .host → (rq.auth = false ∨ x.tagOk op rq = false) → 15 ≤ x.fails →
    mget (xib op rq i s body).mbx.sess rq.sess = none ∧ (xib op rq i s body).mbx.lock ≠ some rq.sess) ∧
  (∀ (s : State) (op : Nat) (rq : Rq) (i : Instr) (body : Principal → State → Ans) (x : Session), s.md.boot = .up → s.bit MBX_STAT_READY = true →
    rq.version = 1 → rq.plen ≤ 4096 → rq.sess ≠ 0 → s.sessionOf rq = some x → x.kind ≠ .host → rq.auth = true → x.tagOk op rq = true →
    rq.seq = 0xFFFFFFFF → x.expected = 0xFFFFFFFF → x.last ≠ some (rq.seq, rq.tag) → (body x.prin (s.enter rq x)).later = false →
    mget (xib op rq i s body).mbx.sess rq.sess = none) ∧
  (∀ (s : State) (op : Nat) (rq : Rq) (i : Instr) (body : Principal → State → Ans), s.md.boot = .up → s.bit MBX_STAT_READY = true →
    rq.version = 1 → rq.plen ≤ 4096 → rq.sess ≠ 0 → s.sessionOf rq = none →
    ∃ t, xib op rq i s body = t ∧ t.replied rq op .session s.time.frame [] ∧ t = { s with out := t.out }) ∧
  (∀ (s : State) (op : Nat) (rq : Rq) (i : Instr) (body : Principal → State → Ans), s.md.boot = .up → s.bit MBX_STAT_READY = false →
    s.queued rq.route < 16 → xib op rq i s body = { s with mbx.held := s.mbx.held ++ [(rq.route, i)] }) ∧
  (∀ (s : State) (op : Nat) (rq : Rq) (i : Instr) (body : Principal → State → Ans), s.md.boot = .up → s.bit MBX_STAT_READY = false →
    16 ≤ s.queued rq.route →
    ∃ t, xib op rq i s body = t ∧ t.fld (MBX_RT_DROP rq.route) = s.oneMore (MBX_RT_DROP rq.route) ∧
      t = { s with out := .queueFull rq.route (decide (rq.route ≤ 128)) :: s.out, regs := t.regs })

/-- GET_MODE reads mode, power state and lifecycle; SET_MODE and SET_POWER_STATE that pass their checks are accepted for the Daybreak of R36 and
recorded as the pending request, and otherwise answered with the status of the check that refuses them and no effect; a wake event in Hold starts
the resume, and the resume is ready when its conditions hold. In Hold a SET_POWER_STATE is answered at the resume (log entry 27). Cites R323,
R324, R325, R331, R333, R334, R36. -/
def Obligations.ModeAndPowerRequests : Prop :=
  (∀ (s : State) (rq : Rq) (p : Principal), s.serves rq 0x0200 p = true →
    ∃ t, exec (.getMode rq) s = .next t ∧
      t.replied rq 0x0200 .success s.time.frame [(1, s.md.mode.code), (1, s.md.power.code), (1, s.ident.life.code)] ∧
      t = { s with out := t.out, mbx.sess := t.mbx.sess }) ∧
  (∀ (s : State) (rq : Rq) (p : Principal) (byte : Nat) (m : Mode), s.serves rq 0x0201 p = true →
    s.modeCheck p (byte % 16) (byte / 128 % 2 == 1) = .ok m →
    ∃ t, exec (.setMode rq byte) s = .next t ∧ t.replied rq 0x0201 .success s.effFrame [] ∧
      t = { s with
        out := t.out, mbx.sess := t.mbx.sess,
        md.modeReq := some { target := m, eff := s.effFrame, ref := some (rqRef rq 0x0201), forced := byte / 128 % 2 == 1 } }) ∧
  (∀ (s : State) (rq : Rq) (p : Principal) (byte : Nat) (c : Status), s.serves rq 0x0201 p = true →
    s.modeCheck p (byte % 16) (byte / 128 % 2 == 1) = .error c →
    ∃ t, exec (.setMode rq byte) s = .next t ∧ t.replied rq 0x0201 c s.time.frame [] ∧ t = { s with out := t.out, mbx.sess := t.mbx.sess }) ∧
  (∀ (s : State) (rq : Rq) (p : Principal) (code : Nat) (w : Power), s.serves rq 0x0202 p = true → s.powerCheck p code = .ok w → s.inHold = false →
    ∃ t, exec (.setPowerState rq code) s = .next t ∧ t.replied rq 0x0202 .success s.effFrame [] ∧
      t = { s with
        out := t.out, mbx.sess := t.mbx.sess,
        md.pwrReq := some { target := w, eff := s.effFrame, ref := some (rqRef rq 0x0202) } }) ∧
  (∀ (s : State) (rq : Rq) (p : Principal) (code : Nat) (c : Status), s.serves rq 0x0202 p = true → s.powerCheck p code = .error c →
    ∃ t, exec (.setPowerState rq code) s = .next t ∧ t.replied rq 0x0202 c s.time.frame [] ∧ t = { s with out := t.out, mbx.sess := t.mbx.sess }) ∧
  (∀ (s : State), s.md.hold = .held → exec .holdWake s = .next { s with md.hold := .waking s.md.preHold s.now }) ∧
  (∀ (s : State), s.md.hold = .entering → exec .holdWake s = .next { s with md.hold := .out, md.power := s.md.preHold }) ∧
  (∀ (s : State) (w : Power) (a : Nat), s.md.hold = .waking w a → exec .holdResumeReady s = .next { s with md.hold := .ready w a })

/-- STAGE_BEGIN takes the free staging lock and is busy while another session holds it; DISCARD by the holder returns every staged word to the value
in force and frees the lock; a COMMIT that passes its checks is accepted with all that is staged, for the Daybreak of R36 or for the frame it
names (then as a long command), and frees the lock; one that a check refuses changes nothing. Cites R313, R314, R315, R36, R14, R16. -/
def Obligations.StagingAndCommit : Prop :=
  (∀ (s : State) (rq : Rq) (p : Principal), s.serves rq 0x0203 p = true → (s.mbx.lock = none ∨ s.mbx.lock = some rq.sess) →
    ∃ t, exec (.stageBegin rq) s = .next t ∧ t.replied rq 0x0203 .success s.time.frame [] ∧
      t = { s with out := t.out, mbx.sess := t.mbx.sess, mbx.lock := some rq.sess }) ∧
  (∀ (s : State) (rq : Rq) (p : Principal) (n : Nat), s.serves rq 0x0203 p = true → s.mbx.lock = some n → n ≠ rq.sess →
    ∃ t, exec (.stageBegin rq) s = .next t ∧ t.replied rq 0x0203 .busy s.time.frame [] ∧
      t.fld MBX_STAGE_REF_STAGE_REF = min (s.fld MBX_STAGE_REF_STAGE_REF + 1) (2 ^ 16 - 1) ∧
      t = { s with out := t.out, mbx.sess := t.mbx.sess, regs := t.regs }) ∧
  (∀ (s : State) (rq : Rq) (p : Principal), s.serves rq 0x0205 p = true → s.mbx.lock = some rq.sess →
    ∃ t, exec (.discard rq) s = .next t ∧ t.replied rq 0x0205 .success s.time.frame [] ∧ t.mbx.lock = none ∧
      (∀ a ∈ s.staged, t.word a = mix (shMaskAt a) (s.word a) (s.curWord a)) ∧ (∀ a, a ∉ s.staged → t.word a = s.word a) ∧
      t.staged = [] ∧ t.sec = { s.sec with gstage := [], consents := [] } ∧ t.force = s.force ∧ t.due = s.due ∧ t.bnd = s.bnd ∧ t.rsv = s.rsv) ∧
  (∀ (s : State) (rq : Rq) (p : Principal), s.serves rq 0x0205 p = true → s.mbx.lock ≠ some rq.sess →
    ∃ t, exec (.discard rq) s = .next t ∧ t.replied rq 0x0205 .permission s.time.frame [] ∧ t = { s with out := t.out, mbx.sess := t.mbx.sess }) ∧
  (∀ (s : State) (rq : Rq) (p : Principal), s.serves rq 0x0204 p = true → s.md.quarDue = none → s.commitRefusal rq 0 = none →
    lowestBar ((s.entered rq).bars s.effFrame) = none → s.consentTwice = false →
    ∃ t, exec (.commit rq 0) s = .next t ∧ t.replied rq 0x0204 .success s.effFrame [] ∧
      t = { s with
        out := t.out, mbx.sess := t.mbx.sess, mbx.lock := none, dirty := s.dirty.filter isSltAddr, sec.gstage := [], sec.consents := [],
        due := s.due ++ [Due.mk s.effFrame false rq.group false none (some (rqRef rq 0x0204)) s.cargo] }) ∧
  (∀ (s : State) (rq : Rq) (p : Principal) (f : Nat), s.serves rq 0x0204 p = true → s.md.quarDue = none → f ≠ 0 → s.commitRefusal rq f = none →
    lowestBar ((s.entered rq).bars f) = none → s.consentTwice = false →
    ∃ t h, exec (.commit rq f) s = .next t ∧ t.replied rq 0x0204 .inProgress f [(2, h)] ∧ t.mbx.lock = none ∧
      t.due = s.due ++ [Due.mk f true rq.group false (some h) none s.cargo] ∧
      t.force = s.force ∧ t.regs = s.regs ∧ t.bnd = s.bnd) ∧
  (∀ (s : State) (rq : Rq) (p : Principal) (at_ : Nat) (c : Status), s.serves rq 0x0204 p = true → s.md.quarDue = none → s.commitRefusal rq at_ = some c →
    ∃ t, exec (.commit rq at_) s = .next t ∧ t.replied rq 0x0204 c s.time.frame [] ∧ t = { s with out := t.out, mbx.sess := t.mbx.sess }) ∧
  (∀ (s : State) (rq : Rq) (at_ : Nat), s.commitRefusal rq at_ = none → s.mbx.lock = some rq.sess ∧ s.inHold = false ∧ s.md.mode ≠ .bringUp)

/-- The reset opcodes of a port, of management, and, for the owner alone, warm and cold record their request for the next Daybreak and change nothing
else; MGMT_RST_N low for long enough requests a management reset; after its restart the interpreter is ready. Cites R320, R343, R344, R346, R454. -/
def Obligations.ResetRequests : Prop :=
  (∀ (s : State) (rq : Rq) (p : Principal) (port : Nat), s.serves rq 0x0206 p = true → p.isOF = true → port < 128 → s.formed port = true →
    s.md.mode ≠ .quarantine → s.dataOff = false →
    ∃ t, exec (.resetPort rq port) s = .next t ∧ t.replied rq 0x0206 .success (s.time.frame + 1) [] ∧
      t = { s with out := t.out, mbx.sess := t.mbx.sess, md.portRst := sadd s.md.portRst port }) ∧
  (∀ (s : State) (rq : Rq) (p : Principal), s.serves rq 0x0206 p = true → p.isOF = true → s.md.mode ≠ .quarantine → s.md.mrst = none →
    ∃ t, exec (.resetManagement rq) s = .next t ∧ t.replied rq 0x0206 .success (s.time.frame + 1) [] ∧
      t = { s with out := t.out, mbx.sess := t.mbx.sess, md.mrst := some 2, md.mrstAt := s.time.frame + 1 }) ∧
  (∀ (s : State) (rq : Rq), s.serves rq 0x0206 .owner = true →
    ∃ t, exec (.resetWarm rq) s = .next t ∧ t.replied rq 0x0206 .success (s.time.frame + 1) [] ∧
      t = { s with out := t.out, mbx.sess := t.mbx.sess, md.warmDue := true }) ∧
  (∀ (s : State) (rq : Rq), s.serves rq 0x0206 .owner = true →
    ∃ t, exec (.resetCold rq) s = .next t ∧ t.replied rq 0x0206 .success (s.time.frame + 1) [] ∧
      t = { s with out := t.out, mbx.sess := t.mbx.sess, md.coldDue := true }) ∧
  (∀ (s : State) (rq : Rq) (p : Principal), s.serves rq 0x0206 p = true → p ≠ .owner →
    (∃ t, exec (.resetWarm rq) s = .next t ∧ t.replied rq 0x0206 .permission s.time.frame [] ∧ t = { s with out := t.out, mbx.sess := t.mbx.sess }) ∧
    ∃ t, exec (.resetCold rq) s = .next t ∧ t.replied rq 0x0206 .permission s.time.frame [] ∧ t = { s with out := t.out, mbx.sess := t.mbx.sess }) ∧
  (∀ (s : State) (n : Nat), 25 ≤ n → s.md.resetLow = false → s.md.boot = .up → s.md.mrst = none →
    exec (.mgmtRstNLow n) s = .next { s with md.mrst := some 3, md.mrstAt := s.time.frame + 1 }) ∧
  (∀ (s : State), s.md.restart ≠ 0 →
    ∃ t, exec .interpreterReady s = .next t ∧ t.bit MBX_STAT_READY = true ∧ t.bit FLT_STAT_WD_EXP = false ∧ t.md = { s.md with restart := 0 } ∧
      (s.md.restart = 1 → t.bit (pendFld 128 8) = true) ∧ t.mbx = s.mbx ∧ t.due = s.due)

/-- Writes of GLB_MODE_REQ, MBX_CTL, GLB_RST_CTL, FRM_LEN and FRM_SYNC_CTL record what they ask for, for the Daybreak of their rule, and change
nothing of the rest; a write of ROLE 3 is refused and counted (log entry 91). Cites R39, R45, R320, R324, R331, R343, R344, R346. -/
def Obligations.ControlWrites : Prop :=
  (∀ (s : State) (b : Bus), s.takesWrite b GLB_MODE_REQ = true → (s.busP b).isOF = true → s.md.mode = .provisioning → s.ident.life = .owned →
    s.md.modeReq = none →
    ∃ t, exec (.modeRequestWrite b 3#32) s = .next t ∧
      t.md = { s.md with modeReq := some { target := .service, eff := s.effFrame, ref := none, forced := false } } ∧ t.bnd = s.bnd ∧ t.due = s.due) ∧
  (∀ (s : State) (b : Bus) (c : Nat), s.takesWrite b GLB_MODE_REQ = true → (s.busP b).isOF = true → c ≤ 1 → s.md.mode ≠ .standby →
    s.md.mode ≠ .quarantine → s.md.pwrReq = none → s.inHold = false →
    ∃ t, exec (.powerRequestWrite b (BitVec.ofNat 32 (c * 256))) s = .next t ∧
      t.md = { s.md with pwrReq := some { target := if c = 0 then .full else .economy, eff := s.effFrame, ref := none } } ∧ t.bnd = s.bnd) ∧
  (∀ (s : State) (b : Bus), s.takesWrite b MBX_CTL = true → (s.busP b).isOF = true → s.md.mrst = none →
    ∃ t, exec (.managementResetRequest b) s = .next t ∧ t.md = { s.md with mrst := some 1, mrstAt := s.time.frame + 1 } ∧ t.mbx = s.mbx) ∧
  (∀ (s : State) (b : Bus), s.takesWrite b GLB_RST_CTL = true → s.busP b = .owner →
    ∃ t, exec (.warmResetWrite b) s = .next t ∧ t.md = { s.md with warmDue := true } ∧ t.bnd = s.bnd ∧ t.due = s.due) ∧
  (∀ (s : State) (b : Bus), s.takesWrite b GLB_RST_CTL = true → s.busP b = .owner →
    ∃ t, exec (.coldResetWrite b) s = .next t ∧ t.md = { s.md with coldDue := true } ∧ t.bnd = s.bnd ∧ t.due = s.due) ∧
  (∀ (s : State) (b : Bus) (w : Word), s.takesWrite b GLB_RST_CTL = true → (s.busP b).isOF = true → s.formed (getBits w 8 7) = true →
    ∃ t, exec (.portResetPortRst b w) s = .next t ∧ t.md = { s.md with portRst := sadd s.md.portRst (getBits w 8 7) } ∧ t.bnd = s.bnd) ∧
  (∀ (s : State) (b : Bus) (w : Word), s.takesWrite b FRM_LEN = true → (s.busP b).isOF = true →
    s.namedRefusal (s.fld64 FRM_LEN_AT_LO_AT FRM_LEN_AT_HI_AT) = none →
    ∃ t, exec (.frmLenArm b w) s = .next t ∧ t.md = s.md ∧ t.time = s.time ∧
      t.due = s.due ++ [Due.mk (s.fld64 FRM_LEN_AT_LO_AT FRM_LEN_AT_HI_AT) true false false none none (.frameLen (getBits w 4 2))]) ∧
  (∀ (s : State) (b : Bus), s.takesWrite b FRM_SYNC_CTL = true → (s.busP b).isOF = true → s.fld FRM_SYNC_CTL_ROLE = 2 →
    ∃ t, exec (.followerRearm b) s = .next t ∧ t.time = { s.time with sync := {} } ∧ t.fld FRM_SYNC_CTL_ROLE = 2 ∧ t.due = s.due) ∧
  (∀ (s : State) (b : Bus) (w : Word), s.takesWrite b FRM_SYNC_CTL = true → (s.busP b).isOF = true → getBits w 0 2 ≠ 3 →
    getBits w 0 2 ≠ s.fld FRM_SYNC_CTL_ROLE →
    ∃ t, exec (.syncRoleChange b w) s = .next t ∧ t.time = { s.time with sync := {} } ∧ t.fld FRM_SYNC_CTL_ROLE = getBits w 0 2 ∧ t.due = s.due) ∧
  (∀ (s : State) (b : Bus) (w : Word), s.takesWrite b FRM_SYNC_CTL = true → (s.busP b).isOF = true → getBits w 0 2 = 3 →
    exec (.syncRoleChange b w) s = .next { s with refused := s.refused + 1 })

/-- COMMAND_STATUS reports a visible long command; its completion writes status and end frame and raises the completion event; ABORT withdraws a
commit, a gate list or a region delete that has not passed, is too late for the opcodes that cannot be aborted, and is refused for a handle that
is not the session's own; an unknown opcode is answered unsupported; loss of the standby pair and of PLL lock set their bits. Cites R32, R316,
R318, R326. -/
def Obligations.LongCommands : Prop :=
  (∀ (s : State) (rq : Rq) (p : Principal) (h k : Nat) (l : Lc), s.serves rq 0x0207 p = true → s.lcOf h = some (k, l) → lcVisible p rq.sess l = true →
    ∃ t, exec (.commandStatus rq h) s = .next t ∧
      t.replied rq 0x0207 .success s.time.frame [(1, l.st.code), (2, l.status.code), (8, l.endFrame)] ∧ t = { s with out := t.out, mbx.sess := t.mbx.sess }) ∧
  (∀ (s : State) (h k : Nat) (l : Lc) (ok : Bool), s.lcOf h = some (k, l) → (l.st = .running ∨ l.st = .past) →
    ∃ t, exec (.longCommandComplete h ok) s = .next t ∧
      mget t.mbx.lc k = some { l with st := .completed, status := if ok then .success else .failed, endFrame := s.time.frame } ∧
      (s.targetExists l.target = true → t.bit (pendFld l.target 0) = true) ∧ t.md = s.md ∧ t.due = s.due ∧ t.bnd = s.bnd) ∧
  (∀ (s : State) (rq : Rq) (p : Principal) (op : Nat) (c : Status), s.admits rq op p = true → s.opGate p op = some c →
    ∃ t, exec (.unsupportedOpcode rq op) s = .next t ∧ t.replied rq op c s.time.frame [] ∧ t = { s with out := t.out, mbx.sess := t.mbx.sess }) ∧
  (∀ (s : State) (p : Principal) (op : Nat), s.modeGate p op = none → opKnown op = false → s.opGate p op = some .unsupported) ∧
  (∀ (s : State) (rq : Rq) (p : Principal) (h k : Nat) (l : Lc), s.serves rq 0x0208 p = true → s.lcOf h = some (k, l) → lcVisible p rq.sess l = true →
    l.st = .running → (l.op = 0x0204 ∨ l.op = 0x0702) →
    ∃ t, exec (.abort rq h) s = .next t ∧ t.replied rq 0x0208 .success s.time.frame [] ∧ (∀ d ∈ t.due, d.handle ≠ some h) ∧
      mget t.mbx.lc k = some { l with st := .aborted, status := .aborted, endFrame := s.time.frame } ∧ t.bnd = s.bnd ∧ t.force = s.force) ∧
  (∀ (s : State) (rq : Rq) (p : Principal) (h k : Nat) (l : Lc), s.serves rq 0x0208 p = true → s.lcOf h = some (k, l) → lcVisible p rq.sess l = true →
    l.st = .running → l.op = 0x0401 →
    ∃ t, exec (.abort rq h) s = .next t ∧ t.replied rq 0x0208 .success s.time.frame [] ∧
      (∀ e ∈ t.bnd.regions, e.2.delHandle ≠ some h) ∧ mget t.mbx.lc k = some { l with st := .aborted, status := .aborted, endFrame := s.time.frame } ∧
      t.bnd.tt = s.bnd.tt ∧ t.due = s.due) ∧
  (∀ (s : State) (rq : Rq) (p : Principal) (h k : Nat) (l : Lc), s.serves rq 0x0208 p = true → s.lcOf h = some (k, l) → lcVisible p rq.sess l = true →
    (l.st ≠ .running ∨ l.op = 0x0801 ∨ l.op = 0x0901 ∨ l.op = 0x0902) → ∃ t, exec (.abort rq h) s = .next t ∧ s.turnsAway t rq 0x0208 .tooLate) ∧
  (∀ (s : State) (rq : Rq) (p : Principal) (h k : Nat) (l : Lc), s.serves rq 0x0208 p = true → s.lcOf h = some (k, l) → lcVisible p rq.sess l = false →
    ∃ t, exec (.abort rq h) s = .next t ∧ s.turnsAway t rq 0x0208 .permission) ∧
  (∀ (s : State) (rq : Rq) (p : Principal) (h : Nat), s.serves rq 0x0208 p = true → s.lcOf h = none →
    ∃ t, exec (.abort rq h) s = .next t ∧ s.turnsAway t rq 0x0208 .parameter) ∧
  (∀ (s : State), ∃ t, exec .standbyPairFailure s = .next t ∧ t.bit GLB_DEG_STANDBY_PAIR = true ∧ t.bit TWL_FW_STANDBY_READY = false ∧ t.bnd = s.bnd ∧
    t.due = s.due) ∧
  (∀ (s : State), ∃ t, exec .timebasePllLossOfLock s = .next t ∧ t.time.pllLocked = false ∧ t.bnd = s.bnd ∧ t.due = s.due)

/-- The debug session closes after its lifetime; the TAP takes the instructions it accepts and BYPASS for others; THERMTRIP gates the clocks; a debug
write stores its bytes in the Reservoir and leaves every other byte, and a debug read returns them; an FM API command of an attached source is
carried out with its principal and answered with its code, and one of no attached source is refused. Cites R319, R337, R340, R341, R462. -/
def Obligations.DebugAndFmApi : Prop :=
  (∀ (s : State) (d : Dbg) (x : Session), s.md.dbg = some d → d.last ≠ 0 → d.last < s.time.frame → mget s.mbx.sess d.sess = some x →
    ∃ t, exec .debugLifetimeExpiry s = .next t ∧ t.md.dbg = none ∧ mget t.mbx.sess d.sess = none ∧ t.bnd = s.bnd ∧ t.force = s.force) ∧
  (∀ (s : State) (i : TapInstr), s.tapAccepts i = true → exec (.tapInstruction i) s = .next { s with md.tap := i }) ∧
  (∀ (s : State) (i : TapInstr), s.tapAccepts i = false → exec (.tapInstruction i) s = .next { s with md.tap := .bypass }) ∧
  (∀ (s : State), exec .trst s = .next { s with md.tap := .idcode }) ∧
  (∀ (s : State) (c : Nat), 115 ≤ c →
    exec (.thermtrip c) s = .next { s with md.clkGated := true, md.thermtrip := true, out := .thermtrip true :: s.out }) ∧
  (∀ (s : State) (rq : Rq) (p : Principal) (ofs len data : Nat), s.serves rq 0x0F01 p = true → s.inHold = false → s.dataOff = false →
    dbgForm (2 ^ 60 + 6 * 2 ^ 56 + ofs) len = true → ofs + len ≤ 0x8000000 → s.scopeBit 3 = true →
    ((s.entered rq).gateCheck 174 initDebug .write ofs len).1 = .allow →
    ∃ t, exec (.debugWrite rq (2 ^ 60 + 6 * 2 ^ 56 + ofs) len data) s = .next t ∧ t.replied rq 0x0F01 .success s.time.frame [] ∧
      (∀ k, k < len → Memory.read t.rsv (6 * 2 ^ 36 + ofs + k) = BitVec.ofNat 8 (data / 256 ^ k)) ∧
      (∀ a, (a < 6 * 2 ^ 36 + ofs ∨ 6 * 2 ^ 36 + ofs + len ≤ a) → Memory.read t.rsv a = Memory.read s.rsv a) ∧
      t = { s with out := t.out, mbx.sess := t.mbx.sess, rsv := t.rsv }) ∧
  (∀ (s : State) (rq : Rq) (p : Principal) (n ofs data : Nat), s.serves rq 0x0F00 p = true → s.inHold = false → s.dataOff = false → (n = 5 ∨ n = 6) →
    ofs % 4 = 0 → ofs + 4 ≤ 0x8000000 → s.scopeBit 2 = true → ((s.entered rq).gateCheck (168 + n) initDebug .read ofs 4).1 = .allow →
    ∃ t, exec (.debugRead rq (2 ^ 60 + n * 2 ^ 56 + ofs) 4 data) s = .next t ∧
      t.replied rq 0x0F00 .success s.time.frame [(4, Memory.number s.rsv (n * 2 ^ 36 + ofs) 4)] ∧ t = { s with out := t.out, mbx.sess := t.mbx.sess }) ∧
  (∀ (s : State) (source route eid carrier n : Nat) (c : FmCmd), s.md.boot = .up → s.bit MBX_STAT_READY = true → s.attached source route eid = some n →
    s.opGate (s.prinOf n) (fmOp c) = none →
    ∃ t, exec (.fmApiCommand source route eid carrier c) s = .next t ∧
      t.out.head? = some (.fmApi route eid (fmCode (fmBody c (s.prinOf n) s).status (fmChanges c)) (fmBody c (s.prinOf n) s).data) ∧
      t.bnd = (fmBody c (s.prinOf n) s).st.bnd ∧ t.prt = (fmBody c (s.prinOf n) s).st.prt ∧ t.due = (fmBody c (s.prinOf n) s).st.due) ∧
  (∀ (s : State) (source route eid carrier : Nat) (c : FmCmd), s.md.boot = .up → s.bit MBX_STAT_READY = true → s.attached source route eid = none →
    exec (.fmApiCommand source route eid carrier c) s = .next { s with out := .fmApi route eid .securityState [] :: s.out })

/-- GET_IDENTITY reports the identity; OPEN_SESSION over a mutually authenticated SPDM session opens a session whose number is free and whose first
sequence number is open (a free value, log entry 3); with 256 sessions open it is busy; CLOSE_SESSION frees all the session holds; ATTACH records
the source; SPDM sessions open and end. Cites R289, R291, R307, R308, R319. -/
def Obligations.SessionsOpenAndClose : Prop :=
  (∀ (s : State) (rq : Rq) (p : Principal), s.serves rq 0x0100 p = true →
    ∃ t, exec (.getIdentity rq) s = .next t ∧
      t.replied rq 0x0100 .success s.time.frame
        [(4, s.idWord), (4, s.stepWord), (48, s.ident.digest), (4, s.lcStat), (1, s.fld TWL_PERS_LEVEL), (1, s.ident.runSvn)] ∧
      t = { s with out := t.out, mbx.sess := t.mbx.sess }) ∧
  (∀ (s : State) (rq : Rq) (p : Principal) (spdm : Nat) (x : Spdm) (tok : Token), s.serves rq 0x0101 p = true → rq.sess = 0 → s.sessionLoad < 256 →
    mget s.mbx.spdm spdm = some x → x.route = rq.route → x.mutualAuth = true →
    ∃ t n, exec (.openSession rq 1 spdm tok) s = .next t ∧ 1 ≤ n ∧ n ≤ 65535 ∧ mget s.mbx.sess n = none ∧
      mget t.mbx.sess n = some (Session.mk .privileged rq.route rq.eid (s.keyPrincipal x) spdm x.key (Config.freeValue (s.fresh + 1) % 2 ^ 32) none none 0
        (packetKey x.secret n)) ∧
      t.replied rq 0x0101 .success s.time.frame
        [(2, n), (4, Config.freeValue (s.fresh + 1) % 2 ^ 32), (1, (s.keyPrincipal x).mask), (8, 0)] ∧
      t = { s with out := t.out, mbx.sess := t.mbx.sess, fresh := s.fresh + 2 }) ∧
  (∀ (s : State) (rq : Rq) (p : Principal) (kind spdm : Nat) (tok : Token), s.serves rq 0x0101 p = true → 256 ≤ s.sessionLoad →
    ∃ t, exec (.openSession rq kind spdm tok) s = .next t ∧ t.replied rq 0x0101 .busy s.time.frame [] ∧ t = { s with out := t.out, mbx.sess := t.mbx.sess }) ∧
  (∀ (s : State) (rq : Rq) (p : Principal), s.serves rq 0x0102 p = true → rq.sess ≠ 0 →
    ∃ t, exec (.closeSession rq) s = .next t ∧ t.replied rq 0x0102 .success s.time.frame [] ∧ mget t.mbx.sess rq.sess = none ∧
      t.mbx.lock ≠ some rq.sess ∧ (∀ a ∈ t.mbx.attach, a.sess ≠ rq.sess) ∧ t.force = s.force ∧ t.due = s.due ∧ t.ident = s.ident) ∧
  (∀ (s : State) (rq : Rq) (p : Principal), s.serves rq 0x0103 p = true → rq.route ≤ 128 →
    (∀ a ∈ s.mbx.attach, a.source = 0 → a.route = rq.route → a.sess = rq.sess) →
    ∃ t, exec (.attach rq 0 0) s = .next t ∧ t.replied rq 0x0103 .success s.time.frame [] ∧
      { source := 0, route := rq.route, eid := 0, sess := rq.sess } ∈ t.mbx.attach ∧
      t = { s with out := t.out, mbx.sess := t.mbx.sess, mbx.attach := t.mbx.attach }) ∧
  (∀ (s : State) (n route eid key secret : Nat) (mutualAuth briral : Bool), s.md.boot = .up → s.sec.wsReady = true → s.spdmRoute route = true →
    s.sessionLoad < 256 → mget s.mbx.spdm n = none →
    exec (.spdmKeyExchange n route eid mutualAuth key secret briral) s = .next { s with
      mbx.spdm := mput s.mbx.spdm n { route := route, eid := eid, mutualAuth := mutualAuth, key := key, secret := secret, briral := briral },
      out := .spdm n true :: s.out }) ∧
  (∀ (s : State) (n route eid key secret : Nat) (mutualAuth briral : Bool), s.spdmRoute route = false →
    exec (.spdmKeyExchange n route eid mutualAuth key secret briral) s = .next { s with out := .spdm n false :: s.out }) ∧
  (∀ (s : State) (n : Nat), ∃ t, exec (.spdmEndSession n) s = .next t ∧ mget t.mbx.spdm n = none ∧ t.force = s.force ∧ t.due = s.due ∧ t.ident = s.ident)

/-- TOKEN_NONCE makes a fresh nonce (a free value, log entry 3) the valid one of its type; a token that fails a check is answered token and counted
and its nonce is spent; one that passes burns the lifecycle fuse and takes effect at the next Daybreak; OWNER_CLAIM, OWNER_SETTING and the
vendor's lifecycle command start their transitions. The vendor command's opcode is the model's (log entry 21). Cites R296, R299, R300, R466. -/
def Obligations.TokensAndLifecycle : Prop :=
  (∀ (s : State) (rq : Rq) (p : Principal) (type : Nat), s.serves rq 0x0104 p = true → (type = 0x20 ∨ (1 ≤ type ∧ type ≤ 6)) →
    ∃ t, exec (.tokenNonce rq type) s = .next t ∧ t.replied rq 0x0104 .success s.time.frame [(32, Config.freeValue s.fresh % 2 ^ 256)] ∧
      t = { s with
        out := t.out, mbx.sess := t.mbx.sess, fresh := s.fresh + 1, ident.nonces := mput s.ident.nonces type (Config.freeValue s.fresh % 2 ^ 256) }) ∧
  (∀ (s : State) (rq : Rq) (p : Principal) (tok : Token), s.serves rq 0x0105 p = true → s.tokenOk tok = false →
    ∃ t, exec (.presentToken rq tok) s = .next t ∧ t.replied rq 0x0105 .token s.time.frame [] ∧
      t.fld GLB_TOK_STAT_TOK_REJ = min (s.fld GLB_TOK_STAT_TOK_REJ + 1) (2 ^ 16 - 1) ∧
      t = { s with out := t.out, mbx.sess := t.mbx.sess, regs := t.regs, ident.nonces := mdel s.ident.nonces tok.type }) ∧
  (∀ (s : State) (rq : Rq) (p : Principal) (tok : Token), s.serves rq 0x0105 p = true → s.tokenOk tok = true → tok.type = 1 → s.ident.due = none →
    s.ident.fuses < 255 →
    ∃ t, exec (.presentToken rq tok) s = .next t ∧ t.replied rq 0x0105 .success (s.time.frame + 1) [] ∧
      t.fld GLB_TOK_STAT_TOK_OK = min (s.fld GLB_TOK_STAT_TOK_OK + 1) (2 ^ 16 - 1) ∧
      t = { s with
        out := t.out, mbx.sess := t.mbx.sess, regs := t.regs, ident.nonces := mdel s.ident.nonces 1, ident.fuses := s.ident.fuses + 1,
        ident.record := { target := .vendorTest, count := s.ident.fuses + 1, pend := true, ok := true, prev := s.ident.life },
        ident.retiredFuse := s.ident.retiredFuse || false, ident.due := some { target := .vendorTest, eff := s.time.frame + 1, owner := 0 },
        twl.jq := (s.journalIn 1 (s.ident.fuses + 1)).twl.jq }) ∧
  (∀ (s : State) (rq : Rq) (p : Principal) (key : Nat), s.serves rq 0x0106 p = true → (rq.route = 128 ∨ rq.route = 130 ∨ rq.route = 131) →
    s.ident.life = .blank → (s.md.mode = .standby ∨ s.md.mode = .bringUp ∨ s.md.mode = .provisioning) → s.ident.due = none → s.ident.fuses < 255 →
    ∃ t, exec (.ownerClaim rq key) s = .next t ∧ t.replied rq 0x0106 .success (s.time.frame + 1) [] ∧ t.ident.fuses = s.ident.fuses + 1 ∧
      t.ident.due = some { target := .ownerOpen, eff := s.time.frame + 1, owner := Config.digest [key] } ∧
      t = { s with
        out := t.out, mbx.sess := t.mbx.sess, ident := t.ident, twl.jq := (s.journalIn 1 (s.ident.fuses + 1)).twl.jq }) ∧
  (∀ (s : State) (rq : Rq) (p : Principal), s.serves rq 0x0107 p = true → s.ident.life = .ownerOpen → s.ident.due = none → s.ident.fuses < 255 →
    ∃ t, exec (.ownerSetting rq 0) s = .next t ∧ t.replied rq 0x0107 .success (s.time.frame + 1) [] ∧
      t.ident.due = some { target := .owned, eff := s.time.frame + 1, owner := s.ident.owner } ∧
      t = { s with
        out := t.out, mbx.sess := t.mbx.sess, ident := t.ident, twl.jq := (s.journalIn 1 (s.ident.fuses + 1)).twl.jq }) ∧
  (∀ (s : State) (rq : Rq) (p : Principal), s.serves rq 0x0107 p = true → s.ident.life = .owned →
    ∃ t, exec (.ownerSetting rq 2) s = .next t ∧ t.replied rq 0x0107 .success (s.time.frame + 1) [] ∧
      t = { s with out := t.out, mbx.sess := t.mbx.sess, ident.lockDue := some (true, s.time.frame + 1) }) ∧
  (∀ (s : State) (rq : Rq) (p : Principal), s.serves rq 0x10000 p = true → s.ident.life = .vendorTest → s.ident.due = none → s.ident.fuses < 255 →
    ∃ t, exec (.vendorLifecycleCommand rq false) s = .next t ∧ t.replied rq 0x10000 .success (s.time.frame + 1) [] ∧
      t.ident.due = some { target := .blank, eff := s.time.frame + 1, owner := 0 } ∧ t = { s with
        out := t.out, mbx.sess := t.mbx.sess, ident := t.ident, twl.jq := (s.journalIn 1 (s.ident.fuses + 1)).twl.jq })

/-- FABRIC_MANAGER_KEY installs a key in an empty slot at once and replaces one at the next Daybreak; SET_CERTIFICATE stores the owner's chain in
slot 1 alone; GET_MEASUREMENTS reports an index; a dirty leaf of a Sealed tree written back raises the counter of its parent and is clean, one
written back in this frame already waits, and one whose two copies are lost is marked so. Cites R207, R290, R292, R295. -/
def Obligations.KeysAndMetadata : Prop :=
  (∀ (s : State) (rq : Rq) (p : Principal) (index digest : Nat), s.serves rq 0x0108 p = true → index ≤ 3 →
    (s.ident.life = .ownerOpen ∨ s.ident.life = .owned) → s.ident.fmKeys.getD index 0 = 0 →
    ∃ t, exec (.fabricManagerKey rq index digest) s = .next t ∧ t.replied rq 0x0108 .success s.time.frame [] ∧
      t = { s with out := t.out, mbx.sess := t.mbx.sess, ident.fmKeys := s.ident.fmKeys.set index digest }) ∧
  (∀ (s : State) (rq : Rq) (p : Principal) (index digest : Nat), s.serves rq 0x0108 p = true → index ≤ 3 →
    (s.ident.life = .ownerOpen ∨ s.ident.life = .owned) → s.ident.fmKeys.getD index 0 ≠ 0 →
    ∃ t, exec (.fabricManagerKey rq index digest) s = .next t ∧ t.replied rq 0x0108 .success (s.time.frame + 1) [] ∧
      t = { s with
        out := t.out, mbx.sess := t.mbx.sess,
        due := s.due ++ [Due.mk (s.time.frame + 1) false false true none none (.fmKey index digest)] }) ∧
  (∀ (s : State) (spdm chain : Nat) (x : Spdm), mget s.mbx.spdm spdm = some x → x.mutualAuth = true → s.ident.owner ≠ 0 → x.key = s.ident.owner →
    exec (.setCertificate spdm 1 chain true) s = .next { s with ident.slot1 := chain, out := .spdm spdm true :: s.out }) ∧
  (∀ (s : State) (spdm slot chain : Nat), slot ≠ 1 →
    exec (.setCertificate spdm slot chain true) s = .next { s with out := .spdm spdm false :: s.out }) ∧
  (∀ (s : State) (spdm i : Nat), s.md.boot = .up → s.sec.wsReady = true → 1 ≤ i → i ≤ 6 →
    exec (.getMeasurements spdm i) s = .next { s with out := .measurements spdm s.time.frame [(i, s.measurement i)] :: s.out }) ∧
  (∀ (s : State) (g i : Nat) (f : Fetched), (∀ r, mget s.bnd.regions g = some r → s.remacHolds r 1 i = false) →
    exec (.metadataWriteback g 1 i true f) s = .next { s with
      sec.leaves := mputD s.sec.leaves (leafKey g (i / 64) (i % 64)) {}
        { s.leafAt g i with bothLost := (s.leafAt g i).bothLost || (s.leafAt g i).dirty, dirty := false, cached := false, waiting := false } }) ∧
  (∀ (s : State) (g i : Nat) (f : Fetched),
    exec (.metadataWriteback g 0 i true f) s = .next (s.setMacRun g (i / 7) { s.macRun g (i / 7) with
      cached := sdel (s.macRun g (i / 7)).cached (i % 7), dirty := sdel (s.macRun g (i / 7)).dirty (i % 7),
      waiting := sdel (s.macRun g (i / 7)).waiting (i % 7),
      lost := if (s.macRun g (i / 7)).dirty.contains (i % 7) then sadd (s.macRun g (i / 7)).lost (i % 7) else (s.macRun g (i / 7)).lost })) ∧
  (∀ (s : State) (g level i : Nat) (lost : Bool) (f : Fetched), 12 < level → exec (.metadataWriteback g level i lost f) s = .next s) ∧
  (∀ (s : State) (g i : Nat) (f : Fetched), (s.leafAt g i).cached = false → exec (.metadataWriteback g 1 i false f) s = .next s) ∧
  (∀ (s : State) (g i : Nat) (f : Fetched) (r : Region), mget s.bnd.regions g = some r → (s.leafAt g i).cached = true → (s.leafAt g i).dirty = false →
    exec (.metadataWriteback g 1 i false f) s = .next { s with
      sec.leaves := mputD s.sec.leaves (leafKey g (i / 64) (i % 64)) {} { s.leafAt g i with cached := false, dirty := false, waiting := false } }) ∧
  (∀ (s s1 s2 : State) (g i km pool a : Nat) (f : Fetched) (r : Region), mget s.bnd.regions g = some r → (s.leafAt g i).cached = true →
    (s.leafAt g i).dirty = true → s.mayWriteBack r 1 g i (s.leafAt g i).wbFrame = true → s.macKey r.tenant = some km →
    s.checkPath km g r 1 i f true = (none, s1) → s1.metaAccess .write r 1 i = (some (pool, a), s2) → s2.parentCounter r.size 1 g i + 1 < 2 ^ 56 →
    ∃ t, exec (.metadataWriteback g 1 i false f) s = .next t ∧ (t.leafAt g i).cached = false ∧ (t.leafAt g i).dirty = false ∧
      (t.leafAt g i).wbFrame = some s1.time.frame ∧ t.parentCounter r.size 1 g i = s2.parentCounter r.size 1 g i + 1 ∧
      (t.leafAt g i).mac = some (entryMac km 1 i g (s2.parentCounter r.size 1 g i + 1) (s2.entryBody 1 g i)) ∧
      t.out = .poolBlocks pool a [s2.entryBody 1 g i + entryMac km 1 i g (s2.parentCounter r.size 1 g i + 1) (s2.entryBody 1 g i) * 2 ^ macBit 1] :: s2.out) ∧
  (∀ (s : State) (g i : Nat) (f : Fetched) (r : Region), mget s.bnd.regions g = some r → (s.leafAt g i).cached = true → (s.leafAt g i).dirty = true →
    s.mayWriteBack r 1 g i (s.leafAt g i).wbFrame = false →
    exec (.metadataWriteback g 1 i false f) s = .next { s with
      sec.leaves := mputD s.sec.leaves (leafKey g (i / 64) (i % 64)) {} { s.leafAt g i with waiting := true } }) ∧
  (∀ (s s1 : State) (g i pool a : Nat) (f : Fetched) (r : Region), mget s.bnd.regions g = some r → (s.macRun g (i / 7)).cached.contains (i % 7) = true →
    (s.macRun g (i / 7)).dirty.contains (i % 7) = true → s.mayWriteBack r 0 g i (mget (s.macRun g (i / 7)).wb (i % 7)) = true →
    s.metaAccess .write r 0 i = (some (pool, a), s1) →
    ∃ t, exec (.metadataWriteback g 0 i false f) s = .next t ∧ t.macRun g (i / 7) = { s.macRun g (i / 7) with
        cached := sdel (s.macRun g (i / 7)).cached (i % 7), dirty := sdel (s.macRun g (i / 7)).dirty (i % 7),
        waiting := sdel (s.macRun g (i / 7)).waiting (i % 7), wb := mput (s.macRun g (i / 7)).wb (i % 7) s.time.frame } ∧
      t.out = .poolBlocks pool a [(s.macRun g (i / 7)).run.getD 0 / 2 ^ (512 * (i % 7)) % 2 ^ 512] :: s1.out ∧
      t.sec.leaves = s1.sec.leaves ∧ t.sec.nodes = s1.sec.nodes ∧ t.sec.roots = s1.sec.roots)

/-- The Dusk window opens 64 ticks before the end of a running frame; Daybreak raises the frame number by one and starts a frame of the length in
force with its correction, or carries out a cold reset that is due; a locked follower takes an edge within 8 ns into its correction, ignores
edges of another source, and loses lock after four missing edges. Cites R37, R40, R44, R45. -/
def Obligations.FrameAndSync : Prop :=
  (∀ (s : State), s.running = true → s.time.dusk = false →
    ∃ t, exec .duskWindowStart s = .next t ∧ t.time = { s.time with dusk := true, tick := s.time.len - 64 } ∧ t.pending = s.pending) ∧
  (∀ (s : State), (s.running = false ∨ s.time.dusk = true) → exec .duskWindowStart s = .next s) ∧
  (∀ (s : State) (x : DayFacts), s.running = true → s.md.coldDue = false →
    ∃ t, exec (.daybreak x) s = .next t ∧ t.time.frame = s.time.frame + 1 ∧ t.time.t0 = s.time.t0 + s.time.len ∧ t.time.tick = 0 ∧
      t.time.dusk = false ∧ t.time.corr = 0 ∧ t.time.len = ((frameTicks t.time.lenCode : Int) + s.time.corr).toNat ∧ t.pending = s.pending) ∧
  (∀ (s : State) (x : DayFacts), s.running = true → s.md.coldDue = true →
    ∃ t, exec (.daybreak x) s = .next t ∧ t.time = {} ∧ t.md.boot = .rom ∧ t.md.mode = .standby ∧ t.mbx = {} ∧ t.bnd = {} ∧ t.due = []) ∧
  (∀ (s : State) (x : DayFacts), s.running = false → exec (.daybreak x) s = .next s) ∧
  (∀ (s : State) (raw : Int) (period : Nat), s.fld FRM_SYNC_CTL_ROLE = 2 → s.fld FRM_SYNC_CTL_SRC = 0 → s.time.sync.phase = .locked →
    -8 ≤ raw - (s.fld FRM_SYNC_CTL_DELAY : Int) → raw - (s.fld FRM_SYNC_CTL_DELAY : Int) ≤ 8 →
    period ≤ frameTicks s.time.lenCode + 8 → frameTicks s.time.lenCode ≤ period + 8 →
    ∃ t, exec (.syncEdgeReceived false raw period) s = .next t ∧
      t.time = { s.time with
        sync := { s.time.sync with bad := 0, missed := 0 }, corr := corrOf (raw - (s.fld FRM_SYNC_CTL_DELAY : Int)) } ∧
      t = { s with regs := t.regs, time := t.time }) ∧
  (∀ (s : State) (long : Bool) (raw : Int) (period : Nat), (s.fld FRM_SYNC_CTL_ROLE ≠ 2 ∨ s.fld FRM_SYNC_CTL_SRC ≠ 0) →
    exec (.syncEdgeReceived long raw period) s = .next s) ∧
  (∀ (s : State) (n : Nat), s.fld FRM_SYNC_CTL_ROLE = 2 → n ≠ 0 → s.time.sync.phase = .locked → 4 ≤ s.time.sync.missed + n →
    ∃ t, exec (.syncEdgeMissing n) s = .next t ∧ t.time.sync.phase = .lost ∧ t.time.corr = 0 ∧ t.time.frame = s.time.frame ∧
      t.fld FRM_SYNC_STAT_LOST_CNT = min (s.fld FRM_SYNC_STAT_LOST_CNT + 1) (2 ^ 16 - 1) ∧
      t.bit (pendFld 0 (sharedCode 296)) = true) ∧
  (∀ (s : State) (n : Nat), s.fld FRM_SYNC_CTL_ROLE = 2 → n ≠ 0 → (s.time.sync.phase ≠ .locked ∨ s.time.sync.missed + n < 4) →
    exec (.syncEdgeMissing n) s = .next { s with time.sync := { s.time.sync with missed := s.time.sync.missed + n, good := 0 } })

/-- A cold reset, RESET_N low for long enough, and AUX_PWRGD clear time, sessions, bindings and what is due and keep the non-volatile state; a
shorter pulse does nothing; release and power-good start the boot ROM; a warm reset clears sessions, bindings and the Reservoir and keeps time,
identity and slots; the boot ROM's end makes the interpreter ready; loss of core power-good leads to Standby; the end of Bring-up asks for
Provisioning. Cites R293, R325, R329, R344, R345, R452, R454, R455. -/
def Obligations.ResetsAndBoot : Prop :=
  (∀ (s : State), (s.md.boot = .rom ∨ s.md.boot = .up) →
    ∃ t, exec .coldReset s = .next t ∧ t.md.boot = .rom ∧ t.md.mode = .standby ∧ t.md.power = .off ∧ t.time = {} ∧ t.mbx = {} ∧ t.bnd = {} ∧ t.due = [] ∧
      t.rsv = [] ∧ t.sec = {} ∧ t.ident.fuses = s.ident.fuses ∧ t.ident.life = s.ident.life ∧ t.ident.owner = s.ident.owner ∧
      t.flt.journal = s.flt.journal ∧ t.pending = s.pending) ∧
  (∀ (s : State) (n : Nat), 25 ≤ n → s.md.boot ≠ .auxOff →
    ∃ t, exec (.resetNLow n) s = .next t ∧ t.md.boot = .inReset ∧ t.md.resetLow = true ∧ t.md.mode = .standby ∧ t.time = {} ∧ t.bnd = {} ∧ t.due = [] ∧
      t.ident.fuses = s.ident.fuses ∧ t.flt.journal = s.flt.journal) ∧
  (∀ (s : State) (n : Nat), n < 25 → exec (.resetNLow n) s = .next s) ∧
  (∀ (s : State) (straps : Nat), s.md.resetLow = true → s.md.boot = .inReset →
    exec (.resetNRelease straps) s = .next { s with md.resetLow := false, md.boot := .rom, ident.straps := straps % 16 }) ∧
  (∀ (s : State) (straps : Nat), s.md.boot = .auxOff → s.md.resetLow = false →
    ∃ t, exec (.auxPwrgdRise straps) s = .next t ∧ t.md.boot = .rom ∧ t.ident.straps = straps % 16 ∧ t.time = {} ∧ t.md.mode = .standby ∧
      t.flt.journal = s.flt.journal) ∧
  (∀ (s : State), ∃ t, exec .auxPwrgdFall s = .next t ∧ t.md.boot = .auxOff ∧ t.time = {} ∧ t.mbx = {} ∧ t.bnd = {} ∧ t.due = [] ∧
      t.ident.fuses = s.ident.fuses ∧ t.flt.journal = s.flt.journal) ∧
  (∀ (s : State) (ok : Bool), s.md.boot = .up →
    ∃ t, exec (.warmReset ok) s = .next t ∧ t.mbx = {} ∧ t.bnd = {} ∧ t.rsv = [] ∧ t.md.warmDue = false ∧ t.md.restart = 2 ∧ t.md.dbg = none ∧
      (t.md.mode = .bringUp ∨ t.md.mode = .standby) ∧ t.time = s.time ∧ t.ident = s.ident ∧ t.slt = s.slt) ∧
  (∀ (s : State), s.md.boot = .rom →
    ∃ t, exec .bootRomDone s = .next t ∧ t.bit MBX_STAT_READY = true ∧ t.md.boot = .up ∧ t.sec.wsReady = true ∧ t.time.frame = s.time.frame) ∧
  (∀ (s : State), s.md.boot ≠ .rom → exec .bootRomDone s = .next s) ∧
  (∀ (s : State), ∃ t, exec .pwrgdCoreAssert s = .next t ∧ t.md.pwrgdCore = true ∧ t.md.mode = s.md.mode ∧ t = { s with md := t.md }) ∧
  (∀ (s : State), s.md.mode ≠ .standby → s.md.boot = .up →
    ∃ t, exec .pwrgdCoreDeassert s = .next t ∧ t.md.mode = .standby ∧ t.md.power = .off ∧ t.md.mainSafe = true ∧ t.rsv = [] ∧ t.bnd = {} ∧
      t.bit GLB_QUAR_ACTIVE = false) ∧
  (∀ (s : State) (answers : Bool) (board device : Nat), s.md.mode = .bringUp → s.md.modeReq = none →
    ∃ t, exec (.bringUpComplete true answers board device) s = .next t ∧
      t.md = { s.md with modeReq := some { target := .provisioning, eff := s.effFrame, ref := none, forced := false } } ∧ t.bnd = s.bnd ∧ t.due = s.due)

/-- A fault report opens a record and raises its event, or merges into the record open for its scope; an uncontained one, and a fault of the
collector itself, make Quarantine due; the management watchdog acts at its limit alone; READ and CLEAR_FAULT_RECORD, the filtered pin sources,
ROUTE_EVENT_SOURCE and the in-band interrupt enable have the effect of their rules. Cites R375, R376, R378, R379, R380, R384, R389, R396. -/
def Obligations.FaultsAndRoutes : Prop :=
  (∀ (s : State) (code id detail k j : Nat) (addr : Option Nat) (c : FaultClass), faultInfo code = some (c, k) → c ≠ .uncontained →
    openSlotOf s.flt.slots k id = none → openCount s.flt.slots < 64 → slotForNew s.flt.slots = some j →
    ∃ t, exec (.faultReport code id false addr detail) s = .next t ∧
      mget t.flt.slots j = some (FltRec.mk (s.fld FLT_NEXT_NEXT) c k id code s.time.frame s.time.frame 0 addr false false true detail s.flt.serial) ∧
      t.bit (pendFld 0 (sharedCode 297)) = true ∧ t.md = s.md ∧ t.bnd = s.bnd ∧ t.mbx = s.mbx) ∧
  (∀ (s : State) (code id detail k j : Nat) (addr : Option Nat) (c : FaultClass) (r : FltRec), faultInfo code = some (c, k) → c ≠ .uncontained →
    openSlotOf s.flt.slots k id = some j → mget s.flt.slots j = some r →
    ∃ t, exec (.faultReport code id false addr detail) s = .next t ∧
      mget t.flt.slots j = some { r with
        merged := min (r.merged + 1) 65535, lastF := s.time.frame, mixed := r.mixed || r.code != code, cls := r.cls.max c, opn := true } ∧
      t.md = s.md ∧ t.evt = s.evt ∧ t.out = s.out ∧ t.bnd = s.bnd) ∧
  (∀ (s : State) (code id detail k : Nat) (addr : Option Nat), faultInfo code = some (.uncontained, k) →
    ∃ t, exec (.faultReport code id false addr detail) s = .next t ∧ t.md.quarDue.isSome = true ∧ t.md.mode = s.md.mode ∧ t.time = s.time) ∧
  (∀ (s : State), ∃ t, exec .collectorSelfFault s = .next t ∧ t.md.quarDue = some 0xFFFF ∧ t.bit FLT_STAT_SELF = true ∧ t.bit FLT_STAT_SUSPECT = true ∧
      t.out = .journal 0x0801 :: s.out ∧
      t = { s with
        regs := t.regs, md := t.md, out := t.out, flt.selfJrn := s.flt.selfJrn + 1, twl.jq := (s.journalIn 4 s.flt.selfJrn).twl.jq }) ∧
  (∀ (s : State), s.fld FLT_WDOG_LIMIT ≤ s.fld FLT_WDOG_COUNT → s.bit FLT_STAT_WD_EXP = false → s.bit GLB_DEG_STANDBY_PAIR = true →
    ∃ t, exec .managementWatchdogLimit s = .next t ∧ t.bit MBX_STAT_READY = false ∧ t.bit FLT_STAT_WD_EXP = true ∧ t.mbx.sess = [] ∧ t.mbx.lock = none ∧
      t.mbx.spdm = [] ∧ t.mbx.attach = [] ∧ t.mbx.lc = [] ∧ t.staged = [] ∧ t.md.dbg = none ∧ t.md.mode = s.md.mode) ∧
  (∀ (s : State), (s.fld FLT_WDOG_COUNT < s.fld FLT_WDOG_LIMIT ∨ s.bit FLT_STAT_WD_EXP = true) → exec .managementWatchdogLimit s = .next s) ∧
  (∀ (s : State) (rq : Rq) (p : Principal) (n count : Nat), s.serves rq 0x0A00 p = true → count ≤ 63 →
    ∃ t, exec (.readFaultRecords rq n count) s = .next t ∧
      t.replied rq 0x0A00 .success s.time.frame (((s.recordsFrom n).take count).flatMap (fun r => (List.range 16).map (fun w => (4, r.word w)))) ∧
      t = { s with out := t.out, mbx.sess := t.mbx.sess }) ∧
  (∀ (s : State) (rq : Rq) (p : Principal) (n k : Nat), s.serves rq 0x0A01 p = true → s.slotOfNumber n = some k →
    ∃ t, exec (.clearFaultRecord rq n) s = .next t ∧ t.replied rq 0x0A01 .success s.time.frame [] ∧ mget t.flt.slots k = none ∧
      t = { s with out := t.out, mbx.sess := t.mbx.sess, flt.slots := t.flt.slots }) ∧
  (∀ (s : State) (rq : Rq) (p : Principal) (n : Nat), s.serves rq 0x0A01 p = true → s.slotOfNumber n = none →
    ∃ t, exec (.clearFaultRecord rq n) s = .next t ∧ t.replied rq 0x0A01 .parameter s.time.frame [] ∧ t.bit FLT_CLR_REFUSED = true ∧
      t = { s with out := t.out, mbx.sess := t.mbx.sess, regs := t.regs }) ∧
  (∀ (s : State) (n samples : Nat), n < 32 → getBits (s.routeWord n) 10 8 ≤ samples → getBits (s.routeWord n) 8 2 = 2 → n ∉ s.evt.pinsLow →
    ∃ t, exec (.pinSourceChange n true samples) s = .next t ∧ t.bit (pendFld 0 (sharedCode n)) = true ∧
      t = { s with regs := t.regs, evt := t.evt, out := t.out }) ∧
  (∀ (s : State) (n samples : Nat) (low : Bool), samples < getBits (s.routeWord n) 10 8 → exec (.pinSourceChange n low samples) s = .next s) ∧
  (∀ (s : State) (rq : Rq) (p : Principal) (n target : Nat), s.serves rq 0x0A02 p = true → n ≤ 511 → target ≤ 255 →
    s.routeOk n (setBits (setBits (s.word (EVT_SH_ROUTE n)) 0 8 target) 8 2 0) = true →
    ∃ t, exec (.routeEventSource rq n target 0) s = .next t ∧ t.replied rq 0x0A02 .success s.effFrame [] ∧
      t.due = s.due ++ [Due.mk s.effFrame false false false none (some (rqRef rq 0x0A02))
        (.route n (setBits (setBits (s.word (EVT_SH_ROUTE n)) 0 8 target) 8 2 0))] ∧
      t = { s with out := t.out, mbx.sess := t.mbx.sess, regs := t.regs, due := t.due }) ∧
  (∀ (s : State) (bus : Nat), bus < 2 → exec (.i3cInterruptEnable bus true) s = .next { s with evt.ibi := sadd s.evt.ibi bus }) ∧
  (∀ (s : State) (bus : Nat), bus < 2 → exec (.i3cInterruptEnable bus false) s = .next { s with evt.ibi := sdel s.evt.ibi bus })

/-- FLT_CLR frees a record; EVT_SH_ROUTE of an existing target takes effect at the next Daybreak and of no target is refused and counted; EVT_T_CLAIM
makes the lowest pending source active, EVT_T_DONE ends an active one and is refused and counted for another; a write of 1 clears a pending bit
whose level input is not asserted and leaves the others; EVT_T_CTL that selects scan mode empties the active list. Cites R379, R384, R391, R392,
R393. -/
def Obligations.EventWrites : Prop :=
  (∀ (s : State) (b : Bus) (w : Word) (k : Nat), s.takesWrite b FLT_CLR = true → (s.busP b).isOF = true → s.slotOfNumber (getBits w 0 16) = some k →
    ∃ t, exec (.faultClearWrite b w) s = .next t ∧ t.flt = { s.flt with slots := mdel s.flt.slots k } ∧ t.md = s.md ∧ t.evt = s.evt) ∧
  (∀ (s : State) (b : Bus) (n : Nat) (w : Word), s.takesWrite b (EVT_SH_ROUTE n) = true → (s.busP b).isOF = true → n < 512 →
    s.targetExists (getBits w 0 8) = true → (n < 64 ∨ getBits w 8 2 = 0) → getBits w 10 8 ≠ 0 →
    ∃ t v, exec (.routeWrite b n w) s = .next t ∧ getBits v 0 8 = getBits w 0 8 ∧ getBits v 10 8 = getBits w 10 8 ∧
      t.due = s.due ++ [Due.mk (s.time.frame + 1) false false true none none (.route n v)] ∧ t.evt = s.evt) ∧
  (∀ (s : State) (b : Bus) (n : Nat) (w : Word), s.takesWrite b (EVT_SH_ROUTE n) = true → (s.busP b).isOF = true → n < 512 →
    s.targetExists (getBits w 0 8) = false → exec (.routeWrite b n w) s = .next { s with refused := s.refused + 1 }) ∧
  (∀ (s : State) (b : Bus) (g c : Nat), s.takesRead b (EVT_T_CLAIM g) = true → g < 132 → s.claimMode g = true → s.lowestSource g = some c →
    ∃ t, exec (.eventClaim b g) s = .next t ∧ c ∈ mgetD t.evt.active g [] ∧ t.bit (pendFld g c) = false ∧ t.md = s.md ∧ t.flt = s.flt) ∧
  (∀ (s : State) (b : Bus) (g : Nat), s.takesRead b (EVT_T_CLAIM g) = true → g < 132 → (s.claimMode g = false ∨ s.lowestSource g = none) →
    exec (.eventClaim b g) s = .next { s with out := .busData b.fn (EVT_T_CLAIM g) 0 :: s.out }) ∧
  (∀ (s : State) (b : Bus) (g : Nat) (w : Word), s.takesWrite b (EVT_T_DONE g) = true → (s.busP b).isIn 11 = true → g < 132 →
    s.srcActive g (getBits w 0 10) = true →
    ∃ t, exec (.eventDone b g w) s = .next t ∧ getBits w 0 10 ∉ mgetD t.evt.active g [] ∧ t.md = s.md ∧ t.flt = s.flt ∧ t.refused = s.refused) ∧
  (∀ (s : State) (b : Bus) (g : Nat) (w : Word), s.takesWrite b (EVT_T_DONE g) = true → (s.busP b).isIn 11 = true → g < 132 →
    s.srcActive g (getBits w 0 10) = false → exec (.eventDone b g w) s = .next { s with refused := s.refused + 1 }) ∧
  (∀ (s : State) (b : Bus) (g k : Nat), s.takesWrite b (EVT_T_PEND_LO g) = true → (s.busP b).isIn 11 = true → g < 132 → k < 32 →
    s.levelOn g k = false →
    ∃ t, exec (.eventPendingClear b (EVT_T_PEND_LO g) (BitVec.ofNat 32 (2 ^ k))) s = .next t ∧ t.bit (pendFld g k) = false ∧
      (∀ j < 32, j ≠ k → t.bit (pendFld g j) = s.bit (pendFld g j)) ∧ t.md = s.md ∧ t.flt = s.flt) ∧
  (∀ (s : State) (b : Bus) (g : Nat) (w : Word), s.takesWrite b (EVT_T_CTL g) = true → (s.busP b).isIn 11 = true → g < 132 → s.claimMode g = true →
    s.md.mode = .service → getBit w 0 = true →
    ∃ t, exec (.eventScanSelect b g w) s = .next t ∧ mgetD t.evt.active g [] = [] ∧ t.md = s.md ∧ t.flt = s.flt)

/-- REGISTER_READ and REGISTER_WRITE carry out the run of words and answer with them, or turn the whole run away with the status of the word that
refuses it; a read through a BAR answers the word the chapter's rules give and a refused one 0; a write with some byte enables clear, or that a
word's Who column or its offset refuses, is counted and has no other effect; a plain field takes the value written and no other register changes.
Cites R5, R8. -/
def Obligations.RegisterAccess : Prop :=
  (∀ (s : State) (rq : Rq) (p : Principal) (a n : Nat) (ws : List Word) (u : State), s.serves rq 0x0110 p = true → 1 ≤ n → n ≤ 1022 → s.inHold = false →
    (s.entered rq).opRead (opAcc p rq.sess) a n = (.ok ws, u) →
    ∃ t, exec (.registerRead rq a n) s = .next t ∧ t.replied rq 0x0110 .success u.time.frame (ws.map (fun w => (4, w.toNat))) ∧ t.regs = u.regs ∧
      t.latch = u.latch ∧ t.evt = u.evt ∧ t.refused = u.refused) ∧
  (∀ (s : State) (rq : Rq) (p : Principal) (a : Nat) (ws : List Word) (u : State), s.serves rq 0x0111 p = true → 1 ≤ ws.length → ws.length ≤ 1022 →
    s.inHold = false → (s.entered rq).opWrite (opAcc p rq.sess) a ws = (none, u) →
    ∃ t, exec (.registerWriteOpcode rq a ws.length ws) s = .next t ∧ t.replied rq 0x0111 .success u.time.frame [] ∧ t.regs = u.regs ∧
      t.force = u.force ∧ t.dirty = u.dirty ∧ t.md = u.md ∧ t.due = u.due) ∧
  (∀ (s : State) (rq : Rq) (p : Principal) (a : Nat) (ws : List Word) (c : Status), s.serves rq 0x0111 p = true → 1 ≤ ws.length → ws.length ≤ 1022 →
    s.inHold = false → s.runRefusal (opAcc p rq.sess) true a ws.length = some c →
    ∃ t, exec (.registerWriteOpcode rq a ws.length ws) s = .next t ∧ t.replied rq 0x0111 c s.time.frame [] ∧
      t = { s with out := t.out, mbx.sess := t.mbx.sess, refused := s.refused + 1 }) ∧
  (∀ (s : State) (b : Bus) (a : Nat), s.takesRead b a = true →
    ∃ t, exec (.barRegisterRead b a) s = .next t ∧ t.out.head? = some (.busData b.fn a (s.readWord (s.busAcc b) a).1) ∧
      t.regs = (s.readWord (s.busAcc b) a).2.regs ∧ t.latch = (s.readWord (s.busAcc b) a).2.latch ∧ t.refused = (s.readWord (s.busAcc b) a).2.refused) ∧
  (∀ (s : State) (b : Bus) (a : Nat) (c : Status), s.md.boot = .up → s.busWaits a = false → s.wordRefusal (s.busAcc b) false a = some c →
    exec (.barRegisterRead b a) s = .next { s with refused := s.refused + 1, out := .busData b.fn a 0 :: s.out }) ∧
  (∀ (s : State) (b : Bus) (w : Word), s.takesWrite b CNT_RING_SIZE = true → s.busP b = .owner → s.bit CNT_RING_CTL_EN = false →
    ∃ t, exec (.registerWrite b CNT_RING_SIZE w) s = .next t ∧ t.fld CNT_RING_SIZE_SIZE = getBits w 0 CNT_RING_SIZE_SIZE.width ∧
      (∀ a r, a ≠ CNT_RING_SIZE → rget t.regs a r = rget s.regs a r) ∧ t = { s with regs := t.regs, latch := t.latch }) ∧
  (∀ (s : State) (b : Bus) (a : Nat) (w : Word) (c : Status), s.md.boot = .up → s.busWaits a = false → b.be = 15 →
    s.wordRefusal (s.busAcc b) true a = some c → exec (.registerWrite b a w) s = .next { s with refused := s.refused + 1 }) ∧
  (∀ (s : State) (b : Bus) (a : Nat) (w : Word), s.md.boot = .up → s.busWaits a = false → b.be ≠ 15 →
    exec (.registerWrite b a w) s = .next { s with refused := s.refused + 1 })

/-- REGION_CREATE with parameters that agree with R141 and R204 is accepted for the Daybreak of R36 with the record it asks for (and a tree area from
the pool's tail where its tree is that deep), and otherwise refused; REGION_DELETE of a region with no binding marks it as a long command, and is
busy with one; GET_REGION and GET_EXTENTS report what is in force. Cites R138, R139, R145. -/
def Obligations.RegionOpcodes : Prop :=
  (∀ (s : State) (rq : Rq) (p : Principal) (tenant cls size ttBase pool rf g : Nat), s.serves rq 0x0400 p = true → s.md.mode ≠ .evacuate → 0 < size →
    size ≤ 2 ^ 28 → cls ≤ 2 → tenant ≤ 1023 → rf ≤ 1 → ttBase + size ≤ 2 ^ 30 → (cls = 0 ∨ (tenant ≠ 0 ∧ s.slotState tenant = .established)) →
    (∀ x ∈ s.regionSpans, ttBase + size ≤ x.2.1 ∨ x.2.1 + x.2.2 ≤ ttBase) → (cls = 2 → treeLevels size < 4) → s.freeRegion = some g →
    ∃ t r, exec (.regionCreate rq tenant cls size ttBase pool rf) s = .next t ∧ t.replied rq 0x0400 .success s.effFrame [(2, g)] ∧
      r.tenant = tenant ∧ r.cls = cls ∧ r.size = size ∧ r.ttBase = ttBase ∧ r.releaseFree = (rf == 1) ∧ r.deleting = false ∧
      t = { s with
        out := t.out, mbx.sess := t.mbx.sess,
        due := s.due ++ [Due.mk s.effFrame false false false none (some (rqRef rq 0x0400)) (.region g r)] }) ∧
  (∀ (s : State) (rq : Rq) (p : Principal) (tenant size ttBase pool rf g u : Nat), s.serves rq 0x0400 p = true → s.md.mode ≠ .evacuate →
    size ≤ 2 ^ 28 → 1 ≤ tenant → tenant ≤ 1023 → rf ≤ 1 → ttBase + size ≤ 2 ^ 30 → s.slotState tenant = .established →
    (∀ x ∈ s.regionSpans, ttBase + size ≤ x.2.1 ∨ x.2.1 + x.2.2 ≤ ttBase) → 4 ≤ treeLevels size → pool < 128 → s.isPool pool = true →
    s.sealedCap pool = true → s.poolReady pool = true → s.evacuating pool = false → s.tailRoom pool (treeUnitsFor size) = some u →
    s.freeRegion = some g →
    ∃ t r, exec (.regionCreate rq tenant 2 size ttBase pool rf) s = .next t ∧ t.replied rq 0x0400 .success s.effFrame [(2, g)] ∧
      r.tenant = tenant ∧ r.cls = 2 ∧ r.size = size ∧ r.ttBase = ttBase ∧ r.treePool = pool ∧ r.treeUnit = u ∧ r.treeUnits = treeUnitsFor size ∧
      t.due = s.due ++ [Due.mk s.effFrame false false false none (some (rqRef rq 0x0400)) (.region g r)] ∧ t.bnd = s.bnd) ∧
  (∀ (s : State) (rq : Rq) (p : Principal) (tenant cls size ttBase pool rf : Nat), s.serves rq 0x0400 p = true → s.md.mode ≠ .evacuate →
    (size = 0 ∨ 2 ^ 28 < size ∨ 2 ^ 30 < ttBase + size ∨ (∃ x ∈ s.regionSpans, ttBase < x.2.1 + x.2.2 ∧ x.2.1 < ttBase + size)) →
    ∃ t, exec (.regionCreate rq tenant cls size ttBase pool rf) s = .next t ∧ t.replied rq 0x0400 .parameter s.time.frame [] ∧
      t = { s with out := t.out, mbx.sess := t.mbx.sess }) ∧
  (∀ (s : State) (rq : Rq) (p : Principal) (g : Nat) (r : Region), s.serves rq 0x0401 p = true → mget s.bnd.regions g = some r → r.deleting = false →
    s.nBind g = 0 → s.bindingDue g = false → s.lcSlots ≠ [] →
    ∃ t h, exec (.regionDelete rq g) s = .next t ∧ t.replied rq 0x0401 .inProgress s.effFrame [(2, h)] ∧
      mget t.bnd.regions g = some { r with deleting := true, delHandle := some h } ∧ (∀ k, k ≠ g → mget t.bnd.regions k = mget s.bnd.regions k) ∧
      t = { s with out := t.out, mbx := t.mbx, oxb.moves := t.oxb.moves, fresh := t.fresh, bnd.regions := t.bnd.regions }) ∧
  (∀ (s : State) (rq : Rq) (p : Principal) (g : Nat) (r : Region), s.serves rq 0x0401 p = true → mget s.bnd.regions g = some r → 0 < s.nBind g →
    ∃ t, exec (.regionDelete rq g) s = .next t ∧ t.replied rq 0x0401 .busy s.time.frame [] ∧ t = { s with out := t.out, mbx.sess := t.mbx.sess }) ∧
  (∀ (s : State) (rq : Rq) (p : Principal) (g : Nat) (r : Region), s.serves rq 0x0402 p = true → mget s.bnd.regions g = some r →
    (∀ k, p = .tenant k → k = r.tenant) →
    ∃ t, exec (.getRegion rq g) s = .next t ∧ t.replied rq 0x0402 .success s.time.frame
        [(16, s.regionRecord g r.tenant r.cls r.size r.ttBase (if r.deleting then 2 else 1) r.releaseFree)] ∧
      t = { s with out := t.out, mbx.sess := t.mbx.sess }) ∧
  (∀ (s : State) (rq : Rq) (p : Principal) (b : Nat), s.serves rq 0x0405 p = true → b < 4096 → s.bndValid b = true → s.maySeeBinding p b = true →
    ∃ t, exec (.getExtents rq b) s = .next t ∧ t.replied rq 0x0405 .success s.time.frame
        ((1, ((s.extents b).filter (fun e => e.st != .preparing)).length) :: ((s.extents b).filter (fun e => e.st != .preparing)).flatMap
          (fun e => [(4, e.dpa), (4, e.len), (4, e.rofs), (16, e.tag), (1, e.st.code), (3, 0)])) ∧
      t = { s with out := t.out, mbx.sess := t.mbx.sess })

/-- EXTENT_ADD whose parameters, binding and region agree is accepted as a long command with an extent in preparation, its entries prepared here for
a region of this home and none for a remote one; one that overlaps another extent is refused; a finished preparation offers the extent to the
host and takes its long command past the point of abort; the host's response to an offered extent accepts it or rejects it for the Daybreak of
R36, and a response to none is answered so. Cites R146. -/
def Obligations.ExtentAdd : Prop :=
  (∀ (s u : State) (rq : Rq) (p : Principal) (b dpa len rofs tag : Nat) (r : Region) (l : List Nat), s.serves rq 0x0403 p = true → s.md.mode ≠ .evacuate →
    b < 4096 → s.bndValid b = true → s.bnd.unbinding.contains b = false → mget s.bnd.regions (s.bndRegion b) = some r →
    s.overWindow b (dpa * 262144) ((dpa + len) * 262144) = false → 0 < len → rofs + len ≤ r.size → dpa + len ≤ 2 ^ 28 → ((s.extents b).filter (fun e => e.st != .releasing)).length < 64 →
    (∀ e ∈ s.extents b, dpa + len ≤ e.dpa ∨ e.dpa + e.len ≤ dpa) → s.lcSlots ≠ [] →
    (s.entered rq).prepareAll (s.bndRegion b) r ((List.range len).map (fun k => rofs + k)) = some (l, u) →
    ∃ t h, exec (.extentAdd rq b dpa len rofs tag) s = .next t ∧ t.replied rq 0x0403 .inProgress s.effFrame [(2, h)] ∧
      (∃ e ∈ t.extents b, e.dpa = dpa ∧ e.len = len ∧ e.rofs = rofs ∧ e.tag = tag ∧ e.st = .preparing ∧ e.add = some h ∧ e.made = l) ∧
      (∀ e ∈ u.extents b, e ∈ t.extents b) ∧ t.due = u.due ∧ t.bnd.tt = u.bnd.tt ∧ t.bnd.prep = u.bnd.prep ∧ t.oxb = u.oxb) ∧
  (∀ (s : State) (rq : Rq) (p : Principal) (b dpa len rofs tag m : Nat) (x : RemRegion), s.serves rq 0x0403 p = true → s.md.mode ≠ .evacuate →
    b < 4096 → s.bndValid b = true → s.bnd.unbinding.contains b = false → mget s.bnd.regions (s.bndRegion b) = none →
    s.remoteRegion (s.bndRegion b) = some (m, x) → s.overWindow b (dpa * 262144) ((dpa + len) * 262144) = false → 0 < len → rofs + len ≤ x.size →
    dpa + len ≤ 2 ^ 28 → ((s.extents b).filter (fun e => e.st != .releasing)).length < 64 → (∀ e ∈ s.extents b, dpa + len ≤ e.dpa ∨ e.dpa + e.len ≤ dpa) → s.lcSlots ≠ [] →
    ∃ t h, exec (.extentAdd rq b dpa len rofs tag) s = .next t ∧ t.replied rq 0x0403 .inProgress s.effFrame [(2, h)] ∧
      (∃ e ∈ t.extents b, e.dpa = dpa ∧ e.len = len ∧ e.rofs = rofs ∧ e.tag = tag ∧ e.st = .preparing ∧ e.add = some h ∧ e.made = []) ∧
      (∀ e ∈ s.extents b, e ∈ t.extents b) ∧ t = { s with out := t.out, mbx := t.mbx, fresh := t.fresh, bnd.ext := t.bnd.ext }) ∧
  (∀ (s : State) (rq : Rq) (p : Principal) (b dpa len rofs tag : Nat), s.serves rq 0x0403 p = true → s.md.mode ≠ .evacuate → b < 4096 →
    s.bndValid b = true → (∃ e ∈ s.extents b, dpa < e.dpa + e.len ∧ e.dpa < dpa + len) →
    ∃ t, exec (.extentAdd rq b dpa len rofs tag) s = .next t ∧ t.replied rq 0x0403 .parameter s.time.frame [] ∧
      t = { s with out := t.out, mbx.sess := t.mbx.sess }) ∧
  (∀ (s : State) (b dpa : Nat) (e : Extent), s.extentOf b dpa = some e → e.st = .preparing → e.filled = false →
    ∃ t x, exec (.extentPreparationDone b dpa) s = .next t ∧ t.extentOf b dpa = some x ∧ x.filled = true ∧
      (∀ r ∈ e.made, ∀ p ppi, mget s.bnd.prep (s.idxOf b r) = some (p, ppi) → mget t.bnd.prep (s.idxOf b r) = none ∧
        Due.mk s.effFrame false false false none none (.ttSet (s.idxOf b r) p ppi) ∈ t.due)) ∧
  (∀ (s : State) (b dpa : Nat) (e : Extent), s.extentOf b dpa = some e → e.st = .preparing → e.filled = false → e.made = [] →
    s.backed b { e with filled := true } = true →
    ∃ t, exec (.extentPreparationDone b dpa) s = .next t ∧ t.extentOf b dpa = some { e with st := .offered, filled := true } ∧
      t.out = .capacity b dpa true :: s.out ∧
      (∀ h k l, e.add = some h → s.lcOf h = some (k, l) → l.st = .running → mget t.mbx.lc k = some { l with st := .past }) ∧
      t = { s with out := t.out, mbx.lc := t.mbx.lc, bnd.ext := t.bnd.ext }) ∧
  (∀ (s : State) (b dpa : Nat) (e : Extent), s.extentOf b dpa = some e → (e.st ≠ .preparing ∨ e.filled = true) →
    exec (.extentPreparationDone b dpa) s = .next s) ∧
  (∀ (s : State) (b dpa : Nat) (e : Extent), s.extentOf b dpa = some e → e.st = .offered → e.accepting = false → e.rejected = false →
    ∃ t, exec (.addDcResponse b dpa true) s = .next t ∧ t.extentOf b dpa = some { e with accepting := true } ∧
      t = { s with bnd.ext := t.bnd.ext, due := s.due ++ [Due.mk s.effFrame false false false none none (.extIn b dpa)] }) ∧
  (∀ (s : State) (b dpa : Nat) (e : Extent), s.extentOf b dpa = some e → e.st = .offered → e.accepting = false → e.rejected = false →
    ∃ t, exec (.addDcResponse b dpa false) s = .next t ∧ t.extentOf b dpa = some { e with rejected := true, st := .releasing } ∧
      .dcReply b dpa true ∈ t.out ∧ Due.mk s.effFrame false false false none none (.extOut b dpa) ∈ t.due) ∧
  (∀ (s : State) (b dpa : Nat) (e : Extent), s.extentOf b dpa = some e → e.st = .offered → e.accepting = false → e.rejected = false → s.oxb.moves = [] →
    ∃ t, exec (.addDcResponse b dpa false) s = .next t ∧ t.extentOf b dpa = some { e with rejected := true, st := .releasing } ∧
      t = { s with
        out := .dcReply b dpa true :: s.out, bnd.ext := t.bnd.ext, due := s.due ++ [Due.mk s.effFrame false false false none none (.extOut b dpa)] }) ∧
  (∀ (s : State) (b dpa : Nat) (a : Bool), (∀ e, s.extentOf b dpa = some e → e.st ≠ .offered ∨ e.accepting = true ∨ e.rejected = true) →
    exec (.addDcResponse b dpa a) s = .next { s with out := .dcReply b dpa false :: s.out })

/-- EXTENT_RELEASE of an accepted or offered extent is accepted as a long command: unforced it asks the host by an event (log entry 31), and forced
on an HDM-H binding the extent leaves at the Daybreak of R36; of one in preparation or release it is busy. The host's own release of an accepted
extent begins, and is answered so; of another it is refused. A finished sweep of a releasing extent that holds no line makes it leave at the
Daybreak of R36, and does nothing otherwise. Cites R148. -/
def Obligations.ExtentRelease : Prop :=
  (∀ (s : State) (rq : Rq) (p : Principal) (b dpa : Nat) (e : Extent), s.serves rq 0x0404 p = true → b < 4096 → s.extentOf b dpa = some e → e.st = .accepted →
    s.lcSlots ≠ [] →
    ∃ t h, exec (.extentRelease rq b dpa 0) s = .next t ∧ t.replied rq 0x0404 .inProgress s.effFrame [(2, h)] ∧ .capacity b dpa false ∈ t.out ∧
      t.extentOf b dpa = some (e.withRel h) ∧
      t = { s with out := t.out, mbx := t.mbx, fresh := t.fresh, bnd.ext := t.bnd.ext }) ∧
  (∀ (s : State) (rq : Rq) (p : Principal) (b dpa f : Nat) (e : Extent), s.serves rq 0x0404 p = true → b < 4096 → s.extentOf b dpa = some e →
    (e.st = .accepted ∨ e.st = .offered) → s.lcSlots ≠ [] → f ≤ 1 →
    ∃ t h, exec (.extentRelease rq b dpa f) s = .next t ∧ t.replied rq 0x0404 .inProgress s.effFrame [(2, h)]) ∧
  (∀ (s : State) (rq : Rq) (p : Principal) (b dpa : Nat) (e : Extent), s.serves rq 0x0404 p = true → b < 4096 → s.extentOf b dpa = some e → e.st = .accepted →
    e.rel = none → s.lcSlots ≠ [] → s.hdmH b = true →
    ∃ t h, exec (.extentRelease rq b dpa 1) s = .next t ∧ t.replied rq 0x0404 .inProgress s.effFrame [(2, h)] ∧
      t.extentOf b dpa = some { e with st := .releasing, rel := some h, swept := true } ∧ .forcedRemoval b dpa ∈ t.out ∧
      t.due = s.due ++ [Due.mk s.effFrame false false false (some h) none (.extOut b dpa)] ∧ t.bnd.tt = s.bnd.tt) ∧
  (∀ (s : State) (rq : Rq) (p : Principal) (b dpa f : Nat) (e : Extent), s.serves rq 0x0404 p = true → b < 4096 → s.extentOf b dpa = some e →
    (e.st = .preparing ∨ e.st = .releasing) → f ≤ 1 →
    ∃ t, exec (.extentRelease rq b dpa f) s = .next t ∧ t.replied rq 0x0404 .busy s.time.frame [] ∧ t = { s with out := t.out, mbx.sess := t.mbx.sess }) ∧
  (∀ (s : State) (b dpa : Nat) (e : Extent), s.extentOf b dpa = some e → e.st = .accepted →
    ∃ t, exec (.releaseDynamicCapacity b dpa) s = .next t ∧ t.out.head? = some (.dcReply b dpa true) ∧
      (s.hdmH b = true → t.extentOf b dpa = some { e with st := .releasing, swept := true } ∧
        t.due = s.due ++ [Due.mk s.effFrame false false false e.rel none (.extOut b dpa)] ∧ t.bnd.tt = s.bnd.tt)) ∧
  (∀ (s : State) (b dpa : Nat), (∀ e, s.extentOf b dpa = some e → e.st ≠ .accepted) →
    exec (.releaseDynamicCapacity b dpa) s = .next { s with out := .dcReply b dpa false :: s.out }) ∧
  (∀ (s : State) (b dpa : Nat) (e : Extent), s.extentOf b dpa = some e → e.st = .releasing → e.swept = false → s.heldLines b e = [] →
    ∃ t, exec (.releaseSweepDone b dpa) s = .next t ∧ t.extentOf b dpa = some { e with swept := true } ∧
      t = { s with bnd.ext := t.bnd.ext, due := s.due ++ [Due.mk s.effFrame false false false e.rel none (.extOut b dpa)] }) ∧
  (∀ (s : State) (b dpa : Nat) (e : Extent), s.extentOf b dpa = some e → e.st = .releasing → e.swept = false → s.heldLines b e ≠ [] →
    ∃ t, exec (.releaseSweepDone b dpa) s = .next t ∧ t.bnd.ext = s.bnd.ext ∧ t.due = s.due) ∧
  (∀ (s : State) (b dpa : Nat) (e : Extent), s.extentOf b dpa = some e → (e.st ≠ .releasing ∨ e.swept = true) →
    exec (.releaseSweepDone b dpa) s = .next s)

/-- A decoder commit with good parameters is due at the Daybreak of R36, one with bad parameters sets ERR_NC, and one of a locked decoder does
nothing; a walk that finds a valid entry fills the translation cache, and one that finds none, or whose read is lost, only ends; a home
transaction past its time-out ends with the binding's error record; a host slot drains by its write, is drained when the sweep has taken it out
of every directory entry, and is revived at the next Daybreak or the write is refused and counted. Cites R16, R144, R178, R179, R185. -/
def Obligations.DecodersAndHostSlots : Prop :=
  (∀ (s : State) (b base size ig iw : Nat) (lock : Bool), b < 4096 → s.bndValid b = true → s.bit (BND_HDM_CTL_LOCKED b) = false → s.tspLocked b = false → size ≤ 2 ^ 46 →
    base % 2 ^ 28 = 0 → size % 2 ^ 28 = 0 → base < 2 ^ 64 → ig ≤ 6 → iw ≤ 4 →
    ∃ t, exec (.hdmDecoderCommit b base size ig iw true lock) s = .next t ∧ t.bit (BND_HDM_CTL_ERR_NC b) = false ∧
      t = { s with regs := t.regs, due := s.due ++ [Due.mk s.effFrame false false false none none (.hdm b base size ig iw true lock)] }) ∧
  (∀ (s : State) (b base size ig iw : Nat) (lock : Bool), b < 4096 → s.bndValid b = true → s.bit (BND_HDM_CTL_LOCKED b) = false → s.tspLocked b = false →
    (2 ^ 46 < size ∨ base % 2 ^ 28 ≠ 0 ∨ size % 2 ^ 28 ≠ 0 ∨ 6 < ig ∨ 4 < iw) →
    ∃ t, exec (.hdmDecoderCommit b base size ig iw true lock) s = .next t ∧ t.bit (BND_HDM_CTL_ERR_NC b) = true ∧ t = { s with regs := t.regs }) ∧
  (∀ (s : State) (b base size ig iw : Nat) (on lock : Bool), b < 4096 → s.bndValid b = true → s.bit (BND_HDM_CTL_LOCKED b) = false →
    s.tspLocked b = true →
    exec (.hdmDecoderCommit b base size ig iw on lock) s = .next { s with out := .unsupported (s.bndPort b) (s.cur (BND_CFG_VDP b)) :: s.out }) ∧
  (∀ (s : State) (b base size ig iw : Nat) (on lock : Bool), (4096 ≤ b ∨ s.bndValid b = false ∨ s.bit (BND_HDM_CTL_LOCKED b) = true) →
    exec (.hdmDecoderCommit b base size ig iw on lock) s = .next s) ∧
  (∀ (s : State) (i : Nat) (l : List HReq) (r : RsvRead), mget s.bnd.walk i = some l → s.rsvRead r ≠ .lost → (s.ttEntry i).valid = true →
    ∃ t, exec (.translationWalkDone i r) s = .next t ∧ i ∈ t.bnd.tcache ∧ mget t.bnd.walk i = none ∧ t.bnd.tt = s.bnd.tt ∧ t.bnd.ext = s.bnd.ext ∧
      t.bnd.regions = s.bnd.regions) ∧
  (∀ (s : State) (i : Nat) (l : List HReq) (r : RsvRead), mget s.bnd.walk i = some l → s.rsvRead r ≠ .lost → (s.ttEntry i).valid = false →
    ∃ t, exec (.translationWalkDone i r) s = .next t ∧ t.bnd = { s.bnd with walk := mdel s.bnd.walk i }) ∧
  (∀ (s : State) (i : Nat) (l : List HReq) (r : RsvRead), mget s.bnd.walk i = some l → s.rsvRead r = .lost →
    ∃ t, exec (.translationWalkDone i r) s = .next t ∧ t.bnd = { s.bnd with walk := mdel s.bnd.walk i }) ∧
  (∀ (s : State) (i : Nat) (r : RsvRead), mget s.bnd.walk i = none → exec (.translationWalkDone i r) s = .next s) ∧
  (∀ (s : State) (sl id : Nat) (e : Tt) (r : HReq), s.home.tt = [(sl, [e])] → e.id = id → e.phase ≠ .waiting → e.since + s.cur HOM_CFG_TMO ≤ s.time.frame →
    e.waitSnp = [] → e.work = .req r → hkReads r.kind = true →
    ∃ t, exec (.homeTimeout sl id) s = .next t ∧ t.home.tt = [] ∧
      t.fld (BND_ERR_CNT0_POISONED r.bnd) = min (s.fld (BND_ERR_CNT0_POISONED r.bnd) + 1) (2 ^ (BND_ERR_CNT0_POISONED r.bnd).width - 1) ∧
      t.bit (BND_ERR_STAT_VALID r.bnd) = true ∧ (s.bit (BND_ERR_STAT_VALID r.bnd) = false → t.fld (BND_ERR_STAT_CODE r.bnd) = 7) ∧
      t.bnd = s.bnd) ∧
  (∀ (s : State) (sl id : Nat), (∀ e, s.ttOf sl id = some e → e.phase = .waiting ∨ s.time.frame < e.since + s.cur HOM_CFG_TMO) →
    exec (.homeTimeout sl id) s = .next s) ∧
  (∀ (s : State) (k : Nat), k ∈ s.home.sweeping → s.home.tt = [] →
    ∃ t, exec (.hostSlotDrained k) s = .next t ∧ t.slotSt k = 3 ∧ k ∉ t.home.sweeping ∧ (∀ l d, t.dirOf l = some d → bitOn d.sharers k = false) ∧
      t.bnd = s.bnd) ∧
  (∀ (s : State) (k : Nat), k ∉ s.home.sweeping → exec (.hostSlotDrained k) s = .next s) ∧
  (∀ (s : State) (b : Bus) (k : Nat), s.takesWrite b (HOM_HOST_STAT k) = true → (s.busP b).isOF = true → k < 64 → s.slotSt k = 1 → s.home.tt = [] →
    ∃ t, exec (.hostSlotDrainWrite b k) s = .next t ∧ t.slotSt k = 2 ∧ k ∈ t.home.sweeping ∧ t.bit (pendFld (s.routeTarget 304) (sharedCode 304)) = true ∧
      t.home.dir = s.home.dir ∧ t.refused = s.refused) ∧
  (∀ (s : State) (b : Bus) (k : Nat), s.takesWrite b (HOM_HOST_STAT k) = true → (s.busP b).isOF = true → k < 64 → s.slotSt k = 3 →
    ∃ t, exec (.hostSlotRevive b k) s = .next t ∧ t.slotSt k = 3 ∧ t.home = { s.home with revive := sadd s.home.revive k } ∧ t.refused = s.refused) ∧
  (∀ (s : State) (b : Bus) (k : Nat), s.takesWrite b (HOM_HOST_STAT k) = true → (s.busP b).isOF = true → k < 64 → s.slotSt k ≠ 3 →
    ∃ t, exec (.hostSlotRevive b k) s = .next t ∧ t.home = s.home ∧ t.refused = s.refused + 1) ∧
  (∀ (s : State) (sl id : Nat) (e : Tt) (r : HReq), s.ttOf sl id = some e → e.phase ≠ .waiting → e.since + s.cur HOM_CFG_TMO ≤ s.time.frame →
    e.work = .req r → r.bnd < 4096 → id < s.home.serial → (∀ y ∈ s.tts sl, y.id = id → y = e) →
    ∃ t, exec (.homeTimeout sl id) s = .next t ∧ t.ttOf sl id = none ∧ t.bit (BND_ERR_STAT_VALID r.bnd) = true ∧
      (s.bit (BND_ERR_STAT_VALID r.bnd) = false → e.waitSnp = [] → t.fld (BND_ERR_STAT_CODE r.bnd) = 7) ∧
      t.time = s.time ∧ t.md = s.md) ∧
  (∀ (s : State) (k : Nat), k ∈ s.home.sweeping →
    ∃ t, exec (.hostSlotDrained k) s = .next t ∧ t.slotSt k = 3 ∧ k ∉ t.home.sweeping ∧ t.bnd.ext = s.bnd.ext ∧ t.time = s.time) ∧
  (∀ (s : State) (b : Bus) (k : Nat), s.takesWrite b (HOM_HOST_STAT k) = true → (s.busP b).isOF = true → k < 64 → s.slotSt k = 1 →
    ∃ t, exec (.hostSlotDrainWrite b k) s = .next t ∧ t.slotSt k = 2 ∧ k ∈ t.home.sweeping ∧
      t.bit (pendFld (s.routeTarget 304) (sharedCode 304)) = true ∧ t.refused = s.refused)

/-- A binding reset is requested by register or opcode, refused and counted for a binding that is not valid, and completes, counts and clears the
error record when nothing of the binding is open; a harvest starts at the next Daybreak or is REFUSED; its end sends the area and its record to
the host and clears the area's bits in the log, or is LOST when the function cannot write; a log clear ends with the area's bits clear. Cites
R154, R155, R156. -/
def Obligations.BindingResetAndHarvest : Prop :=
  (∀ (s : State) (b : Bus) (n : Nat), s.takesWrite b (BND_RST n) = true → (s.busP b).isIn 11 = true → n < 4096 → s.bndValid n = true →
    mget s.bnd.rst n = none →
    ∃ t, exec (.bindingResetRequest b n) s = .next t ∧ t.bnd = { s.bnd with rst := mput s.bnd.rst n false } ∧ t.refused = s.refused ∧ t.md = s.md ∧
      t.due = s.due) ∧
  (∀ (s : State) (b : Bus) (n : Nat), s.takesWrite b (BND_RST n) = true → (s.busP b).isIn 11 = true → n < 4096 → s.bndValid n = false →
    ∃ t, exec (.bindingResetRequest b n) s = .next t ∧ t.bnd = s.bnd ∧ t.refused = s.refused + 1) ∧
  (∀ (s : State) (rq : Rq) (p : Principal) (n : Nat), s.serves rq 0x0206 p = true → s.dataOff = false → n < 4096 → s.bndValid n = true →
    (∀ h, p = .host h → s.bndPort n = h) → mget s.bnd.rst n = none →
    ∃ t, exec (.resetBinding rq n) s = .next t ∧ t.replied rq 0x0206 .success s.nextFrame [] ∧
      t = { s with out := t.out, mbx.sess := t.mbx.sess, bnd.rst := mput s.bnd.rst n false }) ∧
  (∀ (s : State) (n : Nat), mget s.bnd.rst n = some true → s.bndOpen n = false → s.time.tick = 0 → mgetD s.bnd.rstFrom n 0 < s.time.frame →
    ∃ t, exec (.bindingResetComplete n) s = .next t ∧ mget t.bnd.rst n = none ∧ t.fld (BND_RST_RST_CNT n) = min (s.fld (BND_RST_RST_CNT n) + 1) 65535 ∧
      t.bit (BND_ERR_STAT_VALID n) = false ∧ t.word (BND_ERR_CNT0 n) = 0 ∧ t.word (BND_ERR_CNT1 n) = 0 ∧ t.bnd.ext = s.bnd.ext ∧ t.bnd.tt = s.bnd.tt) ∧
  (∀ (s : State) (n : Nat), (mget s.bnd.rst n ≠ some true ∨ s.bndOpen n = true ∨ s.time.tick ≠ 0 ∨ s.time.frame ≤ mgetD s.bnd.rstFrom n 0) → exec (.bindingResetComplete n) s = .next s) ∧
  (∀ (s : State) (b : Bus) (n : Nat) (w : Word), s.takesWrite b (BND_HARV_CTL n) = true → (s.busP b).isOF = true → n < 4096 →
    s.bit (BND_HARV_STAT_BUSY n) = false → s.bit (BND_HARV_STAT_CLEARING n) = false → s.curBit (BND_LOG_CTL_EN n) = true →
    getBits w 0 7 = s.bndPort n → s.bnd.harvDue.contains n = false →
    ∃ t, exec (.harvestStart b n w) s = .next t ∧ t.bnd = { s.bnd with
        harvDue := sadd s.bnd.harvDue n, harvAt := mput s.bnd.harvAt n
          (getBits w 0 7, s.fld (BND_HARV_ADDR_LO_ADDR n) * 4096 + s.fld (BND_HARV_ADDR_HI_ADDR n) * 2 ^ 32) } ∧ t.md = s.md ∧ t.due = s.due) ∧
  (∀ (s : State) (b : Bus) (n : Nat) (w : Word), s.takesWrite b (BND_HARV_CTL n) = true → (s.busP b).isOF = true → n < 4096 →
    (s.bit (BND_HARV_STAT_BUSY n) = true ∨ s.bit (BND_HARV_STAT_CLEARING n) = true ∨ s.curBit (BND_LOG_CTL_EN n) = false ∨
      getBits w 0 7 ≠ s.bndPort n ∨ s.bnd.harvDue.contains n = true) →
    ∃ t, exec (.harvestStart b n w) s = .next t ∧ t.bit (BND_HARV_STAT_REFUSED n) = true ∧ t.bnd = s.bnd) ∧
  (∀ (s : State) (n : Nat) (h : Harvest), mget s.bnd.harv n = some h → s.canWrite h.port = true → s.stackGone 1 = false → n ∉ s.bnd.logGone →
    ∃ t, exec (.harvestDone n []) s = .next t ∧ mget t.bnd.harv n = none ∧ t.bit (BND_HARV_STAT_BUSY n) = false ∧
      t.bit (BND_HARV_STAT_LOST n) = h.lost ∧ .bitmap h.port h.addr (h.len * 4096) (s.loggedPages n h) ∈ t.out ∧
      .harvest n h.frame ((s.fld (BND_HARV_STAT_SEQ n) + 1) % 65536) (if h.lost then 1 else 0) (s.loggedPages n h).length ∈ t.out ∧
      (∀ x, x ∈ t.bnd.log ↔ x ∈ s.bnd.log ∧
        (x < s.cur (BND_LOG_CTL_BASE n) * 32768 ∨ s.cur (BND_LOG_CTL_BASE n) * 32768 + h.len * 32768 ≤ x))) ∧
  (∀ (s : State) (n : Nat) (h : Harvest), mget s.bnd.harv n = some h → s.canWrite h.port = false →
    ∃ t, exec (.harvestDone n []) s = .next t ∧ mget t.bnd.harv n = none ∧ t.bit (BND_HARV_STAT_LOST n) = true ∧
      t.fld (PRT_MF_DROP_WR_DROP h.port) = min (s.fld (PRT_MF_DROP_WR_DROP h.port) + 1) (2 ^ (PRT_MF_DROP_WR_DROP h.port).width - 1)) ∧
  (∀ (s : State) (n w : Nat) (ws : List Nat) (h : Harvest), mget s.bnd.harv n = some h → w ∈ ws → s.cur (BND_LOG_CTL_BASE n) * 32768 ≤ w →
    w < s.cur (BND_LOG_CTL_BASE n) * 32768 + h.len * 32768 →
    ∃ t, exec (.harvestDone n ws) s = .next t ∧ mget t.bnd.harv n = none ∧ t.bit (BND_HARV_STAT_BUSY n) = false ∧ t.bit (BND_ERR_STAT_VALID n) = true ∧
      (s.bit (BND_ERR_STAT_VALID n) = false → t.fld (BND_ERR_STAT_CODE n) = 8)) ∧
  (∀ (s : State) (n : Nat) (ws : List Nat), mget s.bnd.harv n = none → exec (.harvestDone n ws) s = .next s) ∧
  (∀ (s : State) (n base len : Nat), mget s.bnd.clr n = some (base, len) →
    ∃ t, exec (.logClearDone n) s = .next t ∧ mget t.bnd.clr n = none ∧ t.bit (BND_HARV_STAT_CLEARING n) = false ∧
      (∀ x, x ∈ t.bnd.log ↔ x ∈ s.bnd.log ∧ (x < base * 32768 ∨ (base + len) * 32768 ≤ x)) ∧
      t = { s with regs := t.regs, bnd.clr := t.bnd.clr, bnd.log := t.bnd.log, bnd.logGone := t.bnd.logGone }) ∧
  (∀ (s : State) (n : Nat), mget s.bnd.clr n = none → exec (.logClearDone n) s = .next s)

/-- The opcodes that stage words of the bandwidth and binding registers write exactly the staged fields they name; applying the words of a commit
gives each address its last word's shadowed fields in force, and its staged view follows where nothing newer is staged; staging alone changes no
word in force; a revert gives every staged word its value in force. Cites R257, R261, R400. -/
def Obligations.StagedQuanta : Prop :=
  (∀ (s : State) (rq : Rq) (p : Principal) (port : Nat) (l : List Nat), s.serves rq 0x0700 p = true → (s.mbx.lock = none ∨ s.mbx.lock = some rq.sess) →
    s.portOk port = true → l.length = 8 →
    ∃ t, exec (.quanta rq port l) s = .next t ∧ t.replied rq 0x0700 .success s.time.frame [] ∧
      (∀ k, k < 4 → t.word (PRT_DRR_Q port k) = mix (shMaskAt (PRT_DRR_Q port k)) (s.word (PRT_DRR_Q port k))
        (halves (l.getD (2 * k) 0) (l.getD (2 * k + 1) 0)) ∧ PRT_DRR_Q port k ∈ t.dirty) ∧
      t = { s with out := t.out, mbx.sess := t.mbx.sess, mbx.lock := some rq.sess, regs := t.regs, dirty := t.dirty }) ∧
  (∀ (s : State) (rq : Rq) (p : Principal) (port n : Nat) (l : List Nat), s.serves rq 0x0700 p = true → s.mbx.lock = some n → n ≠ rq.sess →
    ∃ t, exec (.quanta rq port l) s = .next t ∧ s.losesLock t rq 0x0700) ∧
  (∀ (s : State) (rq : Rq) (p : Principal) (tenant rate burst en : Nat), s.serves rq 0x0701 p = true → (s.mbx.lock = none ∨ s.mbx.lock = some rq.sess) →
    1 ≤ tenant → tenant ≤ 1023 → rate < 2 ^ 24 → burst < 2 ^ 24 → en ≤ 1 →
    ∃ t, exec (.shaper rq tenant rate burst en) s = .next t ∧ t.replied rq 0x0701 .success s.time.frame [] ∧
      t.word (SHP_RATE tenant) = mix (shMaskAt (SHP_RATE tenant)) (s.word (SHP_RATE tenant)) (BitVec.ofNat 32 (rate + en * 2 ^ 31)) ∧
      t.word (SHP_BURST tenant) = mix (shMaskAt (SHP_BURST tenant)) (s.word (SHP_BURST tenant)) (BitVec.ofNat 32 burst) ∧
      SHP_RATE tenant ∈ t.dirty ∧ SHP_BURST tenant ∈ t.dirty ∧
      t = { s with out := t.out, mbx.sess := t.mbx.sess, mbx.lock := some rq.sess, regs := t.regs, dirty := t.dirty }) ∧
  (∀ (s : State) (rq : Rq) (p : Principal) (tenant rate burst en n : Nat), s.serves rq 0x0701 p = true → s.mbx.lock = some n → n ≠ rq.sess →
    ∃ t, exec (.shaper rq tenant rate burst en) s = .next t ∧ s.losesLock t rq 0x0701) ∧
  (∀ (s : State) (rq : Rq) (p : Principal) (u : Nat) (l : List Nat), s.serves rq 0x0B00 p = true → (s.mbx.lock = none ∨ s.mbx.lock = some rq.sess) →
    u ≤ 351 → l.length = 8 →
    ∃ t, exec (.configureCounterUnit rq u l) s = .next t ∧ t.replied rq 0x0B00 .success s.time.frame [] ∧
      (∀ k, k < 8 → t.word (CNT_SEL u k) = mix (shMaskAt (CNT_SEL u k)) (s.word (CNT_SEL u k)) (BitVec.ofNat 32 (l.getD k 0)) ∧ CNT_SEL u k ∈ t.dirty) ∧
      t = { s with out := t.out, mbx.sess := t.mbx.sess, mbx.lock := some rq.sess, regs := t.regs, dirty := t.dirty }) ∧
  (∀ (s : State) (rq : Rq) (p : Principal) (u n : Nat) (l : List Nat), s.serves rq 0x0B00 p = true → s.mbx.lock = some n → n ≠ rq.sess →
    ∃ t, exec (.configureCounterUnit rq u l) s = .next t ∧ s.losesLock t rq 0x0B00) ∧
  (∀ (l : List (Nat × Word)) (s : State) (a : Nat), (l.foldl (fun s e => s.applyWord e.1 e.2) s).curWord a =
    match (l.filter (fun e => e.1 == a)).getLast? with
    | some e => mix (shMaskAt a) (s.curWord a) e.2
    | none => s.curWord a) ∧
  (∀ (l : List (Nat × Word)) (s : State) (a : Nat), a ∈ l.map Prod.fst → a ∉ s.dirty →
    (l.foldl (fun s e => s.applyWord e.1 e.2) s).word a =
      mix (shMaskAt a) (s.word a) ((l.foldl (fun s e => s.applyWord e.1 e.2) s).curWord a)) ∧
  (∀ (l : List (Nat × Word)) (s : State) (a : Nat), (a ∉ l.map Prod.fst ∨ a ∈ s.dirty) →
    (l.foldl (fun s e => s.applyWord e.1 e.2) s).word a = s.word a) ∧
  (∀ (s : State) (a b : Nat) (w : Word), (s.stageWord a w).curWord b = s.curWord b) ∧
  (∀ (s : State) (a : Nat), a ∈ s.staged → s.revertStaged.word a = mix (shMaskAt a) (s.word a) (s.curWord a) ∧ a ∉ s.revertStaged.staged)

/-- The opcodes that stage gate rules, consent tokens and windows stage what they name and nothing else and take the staging lock, or find it held by
another session; a consent in Evacuate and a window number above 63 are refused; the recheck of a gate counts, and reports rules that overlap.
Cites R191, R213, R268, R472. -/
def Obligations.StagedGatesAndWindows : Prop :=
  (∀ (s : State) (rq : Rq) (p : Principal) (g total first : Nat) (l : List GRule), s.serves rq 0x0406 p = true →
    (s.mbx.lock = none ∨ s.mbx.lock = some rq.sess) → g < 176 → (gateOwnerOnly g = false ∨ p = .owner) → total ≤ 256 → l.length ≤ 170 →
    first + l.length ≤ total → (total = 0 ∨ l ≠ []) →
    ∃ t, exec (.loadGateRules rq g total first l.length l) s = .next t ∧ t.replied rq 0x0406 .success s.time.frame [] ∧
      t = { s with
        out := t.out, mbx.sess := t.mbx.sess, mbx.lock := some rq.sess,
        sec.gstage := mput s.sec.gstage g (storeAt (if (s.stagedRules g).length = total then s.stagedRules g else List.replicate total none) first l) }) ∧
  (∀ (s : State) (rq : Rq) (p : Principal) (g total first n c : Nat) (l : List GRule), s.serves rq 0x0406 p = true → s.mbx.lock = some n → n ≠ rq.sess →
    ∃ t, exec (.loadGateRules rq g total first c l) s = .next t ∧ s.losesLock t rq 0x0406) ∧
  (∀ (s : State) (rq : Rq) (p : Principal) (tok : Consent), s.serves rq 0x0407 p = true → (s.mbx.lock = none ∨ s.mbx.lock = some rq.sess) →
    s.md.mode ≠ .evacuate →
    ∃ t, exec (.consent rq tok) s = .next t ∧ t.replied rq 0x0407 .success s.time.frame [] ∧
      t = { s with out := t.out, mbx.sess := t.mbx.sess, mbx.lock := some rq.sess, sec.consents := s.sec.consents ++ [tok] }) ∧
  (∀ (s : State) (rq : Rq) (p : Principal) (tok : Consent), s.serves rq 0x0407 p = true → (s.mbx.lock = none ∨ s.mbx.lock = some rq.sess) →
    s.md.mode = .evacuate → ∃ t, exec (.consent rq tok) s = .next t ∧ s.turnsAway t rq 0x0407 .state) ∧
  (∀ (s : State) (rq : Rq) (p : Principal) (w cfg base size far irq : Nat), s.serves rq 0x0800 p = true →
    (s.mbx.lock = none ∨ s.mbx.lock = some rq.sess) → w < 64 →
    ∃ t, exec (.window rq w cfg base size far irq) s = .next t ∧ t.replied rq 0x0800 .success s.time.frame [] ∧
      (∀ x ∈ [(LWB_WIN_CFG w, cfg), (LWB_WIN_BASE w, base), (LWB_WIN_SIZE w, size), (LWB_WIN_FAR_LO w, far), (LWB_WIN_FAR_HI w, far / 2 ^ 32),
        (LWB_WIN_IRQ w, irq)], t.word x.1 = mix (shMaskAt x.1) (s.word x.1) (BitVec.ofNat 32 x.2) ∧ x.1 ∈ t.dirty) ∧
      t = { s with out := t.out, mbx.sess := t.mbx.sess, mbx.lock := some rq.sess, regs := t.regs, dirty := t.dirty }) ∧
  (∀ (s : State) (rq : Rq) (p : Principal) (w cfg base size far irq n : Nat), s.serves rq 0x0800 p = true → s.mbx.lock = some n → n ≠ rq.sess →
    ∃ t, exec (.window rq w cfg base size far irq) s = .next t ∧ s.losesLock t rq 0x0800) ∧
  (∀ (s : State) (rq : Rq) (p : Principal) (w cfg base size far irq : Nat), s.serves rq 0x0800 p = true →
    (s.mbx.lock = none ∨ s.mbx.lock = some rq.sess) → 64 ≤ w →
    ∃ t, exec (.window rq w cfg base size far irq) s = .next t ∧ s.turnsAway t rq 0x0800 .parameter) ∧
  (∀ (s : State) (g : Nat), g < 176 → rulesOverlap (mgetD s.sec.rules g []) = false →
    ∃ t, exec (.gateRuleRecheck g) s = .next t ∧
      t.fld (GATE_HEALTH_CHECKS g) = (s.fld (GATE_HEALTH_CHECKS g) + 1) % 2 ^ (GATE_HEALTH_CHECKS g).width ∧ t = { s with regs := t.regs }) ∧
  (∀ (s : State) (g : Nat), g < 176 → rulesOverlap (mgetD s.sec.rules g []) = true →
    ∃ t, exec (.gateRuleRecheck g) s = .next t ∧ t.bit (GATE_HEALTH_OVERLAP g) = true ∧ t.sec = s.sec ∧ t.bnd = s.bnd)

/-- A copy read that returns becomes a copy write and marks its element copied, unless a home write has overtaken it; an acknowledged copy write is
forgotten; a pass ends with a flip frame asked for, with another pass, or with an abort after the last pass; a finished scrub frees its parcel;
each does nothing where there is no such element, write or link. Cites R235, R236, R239. -/
def Obligations.MoveCopying : Prop :=
  (∀ (s : State) (m e : Nat) (x : Move) (b : Bool), mget s.oxb.moves m = some x → mget x.reading e = some b →
    (b = true ∨ (e < 4096 ∧ 0 < mgetD x.homeWr e 0)) →
    exec (.copyReadReturn m e) s = .next { s with oxb.moves := mput s.oxb.moves m { x with reading := mdel x.reading e } }) ∧
  (∀ (s : State) (m e : Nat) (x : Move), mget s.oxb.moves m = some x → mget x.reading e = some false → (e < 4096 → mgetD x.homeWr e 0 = 0) →
    (x.phase = .flip → s.gateEval x.srcPool initOxbow .read (s.elementAt x.tree x.srcPool x.srcPpi e) 64 = .allow) →
    s.gateEval x.dstPool initOxbow .write (s.elementAt x.tree x.dstPool x.dstPpi e) 64 = .allow →
    ∃ t, exec (.copyReadReturn m e) s = .next t ∧
      mget t.oxb.moves m = some (if e < 4096 then { x with reading := mdel x.reading e, writing := sadd x.writing e, copied := setOn x.copied e }
        else { x with reading := mdel x.reading e, writing := sadd x.writing e, blocks := setOn x.blocks (e - 4096) }) ∧
      (∀ k, k ≠ m → mget t.oxb.moves k = mget s.oxb.moves k) ∧ t = { s with oxb.moves := t.oxb.moves }) ∧
  (∀ (s : State) (m e : Nat), (∀ x, mget s.oxb.moves m = some x → mget x.reading e = none) → exec (.copyReadReturn m e) s = .next s) ∧
  (∀ (s : State) (m e line : Nat) (x : Move), mget s.oxb.moves m = some x → e ∈ x.writing →
    exec (.copyWriteAck m e line) s = .next { s with oxb.moves := mput s.oxb.moves m { x with writing := sdel x.writing e } }) ∧
  (∀ (s : State) (m e line : Nat), mget s.oxb.moves m = none → line ∈ s.oxb.unacked → s.home.wbuf = [] → s.home.tt = [] →
    exec (.copyWriteAck m e line) s = .next { s with oxb.unacked := sdel s.oxb.unacked line }) ∧
  (∀ (s : State) (m e line : Nat), mget s.oxb.moves m = none → line ∉ s.oxb.unacked → exec (.copyWriteAck m e line) s = .next s) ∧
  (∀ (s : State) (m : Nat) (x : Move), mget s.oxb.moves m = some x → x.phase = .copying → x.reading = [] → x.flipNext = false → x.abort = none →
    x.nextElement = none → (x.clear.filter (fun e => x.tree || decide (e < 4096))).length ≤ (if x.tree then 0 else s.cur OXB_RANK_FLIP_MAX) →
    exec (.copyPassEnd m) s = .next { s with oxb.moves := mput s.oxb.moves m { x with pass := min 15 (x.pass + 1), flipNext := true } }) ∧
  (∀ (s : State) (m : Nat) (x : Move), mget s.oxb.moves m = some x → x.phase = .copying → x.reading = [] → x.flipNext = false → x.abort = none →
    x.nextElement = none → (if x.tree then 0 else s.cur OXB_RANK_FLIP_MAX) < (x.clear.filter (fun e => x.tree || decide (e < 4096))).length → s.cur OXB_RANK_PASS_MAX ≤ x.pass + 1 →
    ∃ t, exec (.copyPassEnd m) s = .next t ∧ mget t.oxb.moves m = some { x with pass := min 15 (x.pass + 1), abort := some (.failed, s.effFrame) } ∧
      t.fld OXB_ABORT_HOT = min (s.fld OXB_ABORT_HOT + 1) (2 ^ OXB_ABORT_HOT.width - 1) ∧ t = { s with regs := t.regs, oxb.moves := t.oxb.moves }) ∧
  (∀ (s : State) (m : Nat) (x : Move), mget s.oxb.moves m = some x → x.phase = .copying → x.reading = [] → x.flipNext = false → x.abort = none →
    x.nextElement = none → (if x.tree then 0 else s.cur OXB_RANK_FLIP_MAX) < (x.clear.filter (fun e => x.tree || decide (e < 4096))).length → x.pass + 1 < s.cur OXB_RANK_PASS_MAX →
    ∃ t, exec (.copyPassEnd m) s = .next t ∧
      t = State.copyRound { s with oxb.moves := mput s.oxb.moves m { x with pass := min 15 (x.pass + 1), next := if x.tree then 4096 else 0 } } 8192) ∧
  (∀ (s : State) (pool ppi : Nat), s.linkUp pool = true → (∃ x ∈ s.oxb.scrubs, x.pool = pool ∧ x.ppi = ppi ∧ x.left = 0) →
    ∃ t, exec (.scrubDone pool ppi) s = .next t ∧ (t.heatRec (s.globalParcel pool ppi)).alloc = false ∧
      (∀ x, x ∈ t.oxb.scrubs ↔ x ∈ s.oxb.scrubs ∧ ¬ (x.pool = pool ∧ x.ppi = ppi)) ∧ t = { s with oxb.scrubs := t.oxb.scrubs, oxb.heat := t.oxb.heat }) ∧
  (∀ (s : State) (pool ppi : Nat), (s.linkUp pool = false ∨ ∀ x ∈ s.oxb.scrubs, x.pool = pool → x.ppi = ppi → x.left ≠ 0) →
    exec (.scrubDone pool ppi) s = .next s)

/-- PLACEMENT_DIRECTIVE is accepted as a long command at the end of the list of directives, or refused by its parameters; MOVE_ABORT ends every open
move of the range that is not past its commit point; HEAT_QUERY gives the region's own tenant the heat of each parcel, and refuses everyone else.
Cites R226, R229, R240. -/
def Obligations.MoveOpcodes : Prop :=
  (∀ (s : State) (rq : Rq) (p : Principal) (g first count pool : Nat) (r : Region), s.serves rq 0x0600 p = true → mget s.bnd.regions g = some r →
    r.deleting = false → 1 ≤ count → first + count ≤ r.size → s.policyOf g ≠ 0 → pool ≤ 127 → s.directiveTarget g pool = true →
    (∀ k, k < count → s.moveOf g (first + k) = none) → s.lcSlots ≠ [] →
    ∃ t h d, exec (.placementDirective rq g first count pool) s = .next t ∧ t.replied rq 0x0600 .inProgress s.effFrame [(2, h)] ∧
      d.region = g ∧ d.firstP = first ∧ d.count = count ∧ d.pool = pool ∧ d.next = 0 ∧ d.handle = h ∧
      t = { s with out := t.out, mbx := t.mbx, fresh := t.fresh, oxb.directives := s.oxb.directives ++ [d] }) ∧
  (∀ (s : State) (rq : Rq) (p : Principal) (g first count pool : Nat) (r : Region), s.serves rq 0x0600 p = true → mget s.bnd.regions g = some r →
    (count = 0 ∨ r.size < first + count ∨ s.policyOf g = 0 ∨ 127 < pool ∨ s.directiveTarget g pool = false) →
    ∃ t, exec (.placementDirective rq g first count pool) s = .next t ∧ s.turnsAway t rq 0x0600 .parameter) ∧
  (∀ (s : State) (rq : Rq) (p : Principal) (g first count : Nat) (r : Region), s.serves rq 0x0601 p = true → mget s.bnd.regions g = some r → 1 ≤ count →
    first + count ≤ r.size →
    ∃ t a b, exec (.moveAbort rq g first count) s = .next t ∧ t.replied rq 0x0601 .success s.effFrame [(4, a), (4, b)] ∧
      a + b = (s.oxb.moves.filter (fun e => ! e.2.tree && e.2.region == g && decide (first ≤ e.2.parcel) && decide (e.2.parcel < first + count))).length ∧
      (∀ k x, mget s.oxb.moves k = some x → x.tree = false → x.region = g → first ≤ x.parcel → x.parcel < first + count → x.past = false →
        ∃ y, mget t.oxb.moves k = some y ∧ y.abort.isSome = true) ∧
      t = { s with out := t.out, mbx.sess := t.mbx.sess, regs := t.regs, oxb.moves := t.oxb.moves }) ∧
  (∀ (s : State) (rq : Rq) (g first count : Nat) (r : Region), s.serves rq 0x0602 (.tenant r.tenant) = true → mget s.bnd.regions g = some r →
    (∃ b ∈ s.bindingsOf g, s.curBit (BND_CFG_TEN_VIEW b) = true) → 1 ≤ count → count ≤ 4000 → first + count ≤ r.size →
    ∃ t, exec (.heatQuery rq g first count) s = .next t ∧ t.replied rq 0x0602 .success s.time.frame ((List.range count).map (fun k =>
        (1, if (s.ttEntry (r.ttBase + first + k)).valid then (s.listed (r.ttBase + first + k)).heat else 0))) ∧
      t = { s with out := t.out, mbx.sess := t.mbx.sess }) ∧
  (∀ (s : State) (rq : Rq) (p : Principal) (g first count : Nat) (r : Region), s.serves rq 0x0602 p = true → mget s.bnd.regions g = some r →
    (p ≠ .tenant r.tenant ∨ ∀ b ∈ s.bindingsOf g, s.curBit (BND_CFG_TEN_VIEW b) = false) →
    ∃ t, exec (.heatQuery rq g first count) s = .next t ∧ s.turnsAway t rq 0x0602 .permission)

/-- EVACUATE_POOL and OXB_EVAC start an evacuation or refuse it with the status of the check; a cancel marks it; a pool's rebuild makes its records
valid or reports that they cannot be; a heat sweep ages a record that is eight epochs old; a heat word that cannot be corrected loses the records
of its word alone; a ranker pass lists at most 256 parcels each way. Cites R225, R230, R243, R368. -/
def Obligations.EvacuationAndRanker : Prop :=
  (∀ (s : State) (rq : Rq) (p : Principal) (pool disc : Nat), s.serves rq 0x0603 p = true → disc ≤ 1 → s.evacRefusal pool = none → s.lcSlots ≠ [] →
    ∃ t h, exec (.evacuatePool rq pool disc) s = .next t ∧ t.replied rq 0x0603 .inProgress s.nextFrame [(2, h)] ∧
      mget t.oxb.evac pool = some { discard := disc == 1, handle := some h, cancel := false, begun := false } ∧
      t.bit (OXB_EVAC_DISCARD pool) = (disc == 1) ∧
      t = { s with out := t.out, mbx := t.mbx, fresh := t.fresh, regs := t.regs, oxb.evac := t.oxb.evac }) ∧
  (∀ (s : State) (rq : Rq) (p : Principal) (pool disc : Nat) (c : Status), s.serves rq 0x0603 p = true → disc ≤ 1 → s.evacRefusal pool = some c →
    ∃ t, exec (.evacuatePool rq pool disc) s = .next t ∧ s.turnsAway t rq 0x0603 c) ∧
  (∀ (s : State) (b : Bus) (p : Nat) (w : Word), s.takesWrite b (OXB_EVAC p) = true → (s.busP b).isOF = true → p < 128 → s.evacRefusal p = none →
    ∃ t, exec (.evacuationStartWrite b p w) s = .next t ∧
      mget t.oxb.evac p = some { discard := getBit w 1, handle := none, cancel := getBit w 2, begun := false } ∧ t.bnd = s.bnd ∧ t.refused = s.refused) ∧
  (∀ (s : State) (b : Bus) (p : Nat) (w : Word) (c : Status), s.takesWrite b (OXB_EVAC p) = true → (s.busP b).isOF = true → p < 128 →
    s.evacRefusal p = some c → getBit w 2 = false →
    ∃ t, exec (.evacuationStartWrite b p w) s = .next t ∧ t.oxb = s.oxb ∧ t.bnd = s.bnd ∧ t.refused = s.refused + 1) ∧
  (∀ (s : State) (b : Bus) (p : Nat) (w : Word) (e : Evac), s.takesWrite b (OXB_EVAC p) = true → (s.busP b).isOF = true → p < 128 →
    mget s.oxb.evac p = some e →
    ∃ t, exec (.evacuationCancel b p w) s = .next t ∧ mget t.oxb.evac p = some { e with cancel := true } ∧ t.oxb.moves = s.oxb.moves ∧ t.bnd = s.bnd) ∧
  (∀ (s : State) (p : Nat), p < 128 → s.isPool p = true → s.linkUp p = true → (s.px p).inited = false → s.rangeOk p (s.px p).cap = true →
    ∃ t, exec (.poolRebuild p) s = .next t ∧ (t.px p).inited = true ∧ t.bit (OXB_POOL_FREE_VALID p) = true ∧
      t.fld (OXB_POOL_SIZE_SIZE p) = (s.px p).cap % 2 ^ (OXB_POOL_SIZE_SIZE p).width ∧ t.bnd = s.bnd ∧ t.oxb.moves = s.oxb.moves) ∧
  (∀ (s : State) (p : Nat), p < 128 → s.isPool p = true → s.linkUp p = true → (s.px p).inited = false → s.rangeOk p (s.px p).cap = false →
    ∃ t, exec (.poolRebuild p) s = .next t ∧ (t.px p).inited = true ∧ t.bit (OXB_POOL_FREE_VALID p) = false ∧
      t.bit (pendFld (s.routeTarget 301) (sharedCode 301)) = true ∧ t.bnd = s.bnd) ∧
  (∀ (s : State) (p : Nat), (s.linkUp p = false ∨ (s.px p).inited = true) → exec (.poolRebuild p) s = .next s) ∧
  (∀ (s : State) (g : Nat), s.stackGone 1 = false → 8 ≤ (s.epoch % 128 + 128 - (s.heatRec g).stamp) % 128 →
    ∃ t, exec (.heatSweep g false) s = .next t ∧ t.heatRec g = { s.heatRec g with heat := 0, stamp := s.epoch % 128 } ∧
      (∀ k, k ≠ g → t.heatRec k = s.heatRec k) ∧ t = { s with oxb.heat := t.oxb.heat }) ∧
  (∀ (s : State) (g : Nat), s.stackGone 1 = false → (s.epoch % 128 + 128 - (s.heatRec g).stamp) % 128 < 8 →
    exec (.heatSweep g false) s = .next s) ∧
  (∀ (s : State) (g : Nat) (lost : Bool), (lost = true ∨ s.stackGone 1 = true) → ∃ t, exec (.heatSweep g lost) s = .next t ∧
    g / 8 * 8 ∈ t.oxb.lostWords ∧ (∀ k, k / 8 = g / 8 → t.heatRec k = { heat := 0, stamp := s.epoch % 128, alloc := true }) ∧
    (∀ k, k / 8 ≠ g / 8 → t.heatRec k = s.heatRec k) ∧ t.bnd = s.bnd ∧ t.rsv = s.rsv) ∧
  (∀ (s : State), s.stackGone 1 = false → ∃ t, exec (.rankerPass []) s = .next t ∧ t.oxb.lostWords = [] ∧ t.oxb.promo.length ≤ 256 ∧
    t.oxb.demo.length ≤ 256 ∧ (s.curBit OXB_CFG_EN = false → t.oxb.promo = [] ∧ t.oxb.demo = []) ∧
    t.fld OXB_STAT_PASS_CNT = (s.fld OXB_STAT_PASS_CNT + 1) % 2 ^ OXB_STAT_PASS_CNT.width ∧
    t = { s with regs := t.regs, oxb.heat := t.oxb.heat, oxb.lostWords := [], oxb.promo := t.oxb.promo, oxb.demo := t.oxb.demo }) ∧
  (∀ (s : State) (l : List Nat), s.stackGone 1 = false → ∃ t, exec (.rankerPass l) s = .next t ∧ (∀ g ∈ l, g / 8 * 8 ∈ t.oxb.lostWords) ∧
    (∀ w ∈ t.oxb.lostWords, ∃ g ∈ l, w = g / 8 * 8) ∧ t.oxb.promo.length ≤ 256 ∧ t.oxb.demo.length ≤ 256 ∧ t.bnd = s.bnd ∧ t.rsv = s.rsv ∧
    t.oxb.moves = s.oxb.moves)

/-- A descriptor fetched by a queue that runs starts or is completed with its error; a failed fetch sets FETCH_ERR and keeps the head; a finished one
writes its completion and counts; a fenced one waits for those before it; TAIL writes and the disabling of a queue have the effect of their
rules. Cites R246, R247, R250. -/
def Obligations.BulkEngines : Prop :=
  (∀ (s : State) (q : Nat) (d : BulkDesc), q < 32 → s.queueTurn q = true → s.inHold = false → s.md.mode ≠ .quarantine →
    s.canWrite (s.queuePort q) = true → d.fieldsOk = false → (∀ y ∈ s.oxb.runs, y.queue ≠ q ∧ y.num < s.oxb.serial) →
    ∃ t, exec (.bulkDescriptorFetched q d true) s = .next t ∧ .bulk q d.cpl 7 d.tag 0 0 0 s.time.frame ∈ t.out ∧
      t.fld (OXB_BQ_STAT_DONE_CNT q) = (s.fld (OXB_BQ_STAT_DONE_CNT q) + 1) % 2 ^ 16 ∧
      t.oxb = { s.oxb with serial := s.oxb.serial + 1, turn := mput s.oxb.turn (q / 8) (q % 8) } ∧ t.bnd = s.bnd) ∧
  (∀ (s u : State) (q : Nat) (d : BulkDesc), q < 32 → s.queueTurn q = true → s.inHold = false → s.md.mode ≠ .quarantine →
    s.canWrite (s.queuePort q) = true → (∀ y ∈ s.oxb.runs, y.queue ≠ q ∧ y.num < s.oxb.serial) →
    u = { (s.setFld (OXB_BQ_HEAD_HEAD q) ((s.fld (OXB_BQ_HEAD_HEAD q) + 1) % 2 ^ (s.fld (OXB_BQ_CFG_SIZE q) + 4))).setBit (OXB_BQ_STAT_BUSY q) true with
      oxb.runs := s.oxb.runs ++ [{ queue := q, num := s.oxb.serial, desc := d }], oxb.serial := s.oxb.serial + 1,
      oxb.turn := mput s.oxb.turn (q / 8) (q % 8) } → u.bulkRefusal q d = (none, u) →
    ∃ t, exec (.bulkDescriptorFetched q d true) s = .next t ∧ t.bit (OXB_BQ_STAT_BUSY q) = true ∧
      t.fld (OXB_BQ_HEAD_HEAD q) = (s.fld (OXB_BQ_HEAD_HEAD q) + 1) % 2 ^ (s.fld (OXB_BQ_CFG_SIZE q) + 4) ∧
      t.oxb.runs = s.oxb.runs ++
        [u.startPieces { queue := q, num := s.oxb.serial, desc := d, started := true, left := pieceOfs d 0 (d.len / 64) }] ∧
      t = { u with oxb.runs := t.oxb.runs }) ∧
  (∀ (s : State) (q : Nat) (d : BulkDesc), q < 32 → s.queueTurn q = true → s.inHold = false → s.md.mode ≠ .quarantine →
    s.canWrite (s.queuePort q) = true → d.flags / 2 % 2 = 1 → (∀ y ∈ s.oxb.runs, y.num < s.oxb.serial ∧ (y.queue = q → y.started = true)) →
    (∃ y ∈ s.oxb.runs, y.queue = q) →
    ∃ t, exec (.bulkDescriptorFetched q d true) s = .next t ∧ t = { s with
      regs := t.regs, oxb.runs := s.oxb.runs ++ [{ queue := q, num := s.oxb.serial, desc := d }], oxb.serial := s.oxb.serial + 1,
      oxb.turn := mput s.oxb.turn (q / 8) (q % 8) }) ∧
  (∀ (s : State) (q : Nat) (d : BulkDesc) (ok : Bool), q < 32 → s.queueTurn q = true → s.inHold = false → s.md.mode ≠ .quarantine →
    (ok = false ∨ s.canWrite (s.queuePort q) = false) →
    ∃ t, exec (.bulkDescriptorFetched q d ok) s = .next t ∧ t.bit (OXB_BQ_STAT_FETCH_ERR q) = true ∧ t.fld (OXB_BQ_HEAD_HEAD q) = s.fld (OXB_BQ_HEAD_HEAD q) ∧
      t = { s with regs := t.regs }) ∧
  (∀ (s : State) (q : Nat) (d : BulkDesc) (ok : Bool), (s.queueTurn q = false ∨ s.inHold = true ∨ s.md.mode = .quarantine) →
    exec (.bulkDescriptorFetched q d ok) s = .next s) ∧
  (∀ (s : State) (q : Nat), s.queueTurn q = true → q < 32 → s.bit (OXB_BQ_CFG_EN q) = true ∧ s.bulkWaiting q = true) ∧
  (∀ (s : State) (q n ofs e : Nat) (r : BulkRes) (x : BulkRun), q < 32 → s.oxb.runs.find? (fun x => x.queue == q && x.num == n) = some x →
    x.going = [(ofs, e)] → x.left = [] → (∀ y ∈ s.oxb.runs, y.queue = q → y.num = n) → s.canWrite (s.queuePort q) = true →
    ∃ t, exec (.bulkDescriptorDone q n ofs r) s = .next t ∧
      .bulk q x.desc.cpl ((x.note ofs r).outcome r).1 x.desc.tag ((x.note ofs r).outcome r).2.1 ((x.note ofs r).outcome r).2.2.1
        ((x.note ofs r).outcome r).2.2.2 s.time.frame ∈ t.out ∧
      t.fld (OXB_BQ_STAT_DONE_CNT q) = (s.fld (OXB_BQ_STAT_DONE_CNT q) + 1) % 2 ^ 16 ∧ t.oxb.runs = s.oxb.runs.filter (fun y => y.num != n) ∧
      (x.desc.flags % 2 = 1 → s.targetExists (s.queuePort q) = true → t.bit (pendFld (s.queuePort q) 2) = true)) ∧
  (∀ (s : State) (q n ofs e : Nat) (r : BulkRes) (x : BulkRun), s.oxb.runs.find? (fun x => x.queue == q && x.num == n) = some x →
    x.going.find? (fun y => y.1 == ofs) = some (ofs, e) → x.left = [] → x.desc.op ≠ 5 → (∃ y ∈ x.going, y.1 ≠ ofs) →
    exec (.bulkDescriptorDone q n ofs r) s = .next ((s.countPiece x.desc ofs e).setRun (x.note ofs r))) ∧
  (∀ (s : State) (q n ofs : Nat) (r : BulkRes), (∀ x, s.oxb.runs.find? (fun x => x.queue == q && x.num == n) = some x →
      x.going.find? (fun y => y.1 == ofs) = none) → exec (.bulkDescriptorDone q n ofs r) s = .next s) ∧
  (∀ (s : State) (b : Bus) (q : Nat) (w : Word), s.takesWrite b (OXB_BQ_TAIL q) = true → (s.busP b).isIn 8 = true → q < 32 →
    ∃ t, exec (.bulkTailWrite b q w) s = .next t ∧ t.fld (OXB_BQ_TAIL_TAIL q) = getBits w 0 20 ∧ t = { s with regs := t.regs, latch := t.latch }) ∧
  (∀ (s : State) (b : Bus) (q : Nat) (w : Word), s.takesWrite b (OXB_BQ_CFG q) = true → (s.busP b).isIn 11 = true → q < 32 →
    s.bit (OXB_BQ_CFG_EN q) = true →
    ∃ t, exec (.bulkQueueDisable b q w) s = .next t ∧ t.bit (OXB_BQ_CFG_EN q) = false ∧ (∀ x ∈ t.oxb.runs, x.queue ≠ q) ∧
      t.fld (OXB_BQ_CFG_PORT q) = s.fld (OXB_BQ_CFG_PORT q) ∧ t.bnd = s.bnd) ∧
  (∀ (s : State) (q : Nat) (d : BulkDesc), q < 32 → s.queueTurn q = true → s.inHold = false → s.md.mode ≠ .quarantine → s.canWrite (s.queuePort q) = true →
    (∃ y ∈ s.oxb.runs, y.queue = q ∧ y.started = false) → (∀ y ∈ s.oxb.runs, y.queue = q → s.runMayStart y = false) →
    ∃ t, exec (.bulkDescriptorFetched q d true) s = .next t ∧ t.bit (OXB_BQ_STAT_BUSY q) = true ∧
      t.fld (OXB_BQ_HEAD_HEAD q) = (s.fld (OXB_BQ_HEAD_HEAD q) + 1) % 2 ^ (s.fld (OXB_BQ_CFG_SIZE q) + 4) ∧
      t.oxb.runs = s.oxb.runs ++ [{ queue := q, num := s.oxb.serial, desc := d }]) ∧
  (∀ (s : State) (q n ofs e : Nat) (r : BulkRes) (x : BulkRun), q < 32 → s.oxb.runs.find? (fun x => x.queue == q && x.num == n) = some x →
    x.going = [(ofs, e)] → x.left = [] → n < s.oxb.serial →
    ∃ t, exec (.bulkDescriptorDone q n ofs r) s = .next t ∧ (∀ y ∈ t.oxb.runs, y.queue = q → y.num ≠ n) ∧ t.oxb.serial = s.oxb.serial)

/-- A finished dump writes its records at the ring's position and raises its event, or is dropped and counted when the function cannot write;
DUMP_RING and CNT_RING_CTL set or refuse a ring by the same conditions; READ_BINDING_COUNTERS answers the page of the last snapshot to whom it
may. Cites R402, R403, R404, R406. -/
def Obligations.CounterDumps : Prop :=
  (∀ (s : State) (d : DumpRun), s.cnt.run = some d → s.canWrite d.port = true →
    ∃ t, exec .counterDumpDone s = .next t ∧ .dump d.port d.records ∈ t.out ∧ t.cnt = { s.cnt with run := none } ∧
      t.fld CNT_RING_WR_WR = (s.fld CNT_RING_WR_WR + 352) % 2 ^ 32 ∧ t.bit CNT_DROP_BUSY = false ∧
      (s.targetExists d.port = true → t.bit (pendFld d.port 3) = true)) ∧
  (∀ (s : State) (d : DumpRun), s.cnt.run = some d → s.canWrite d.port = false →
    ∃ t, exec .counterDumpDone s = .next t ∧ t.cnt = { s.cnt with run := none } ∧ t.fld CNT_RING_WR_WR = (s.fld CNT_RING_WR_WR + 352) % 2 ^ 32 ∧
      t.fld CNT_DROP_DROP = min (s.fld CNT_DROP_DROP + 1) (2 ^ 16 - 1) ∧ t.bit CNT_DROP_BUSY = false ∧
      (s.linkUp d.port = true → t.fld (PRT_MF_DROP_WR_DROP d.port) = min (s.fld (PRT_MF_DROP_WR_DROP d.port) + 1) (2 ^ (PRT_MF_DROP_WR_DROP d.port).width - 1)) ∧
      t = { s with cnt.run := none, regs := t.regs }) ∧
  (∀ (s : State), s.cnt.run = none → exec .counterDumpDone s = .next s) ∧
  (∀ (s : State) (rq : Rq) (p : Principal) (port base size every : Nat), s.serves rq 0x0B01 p = true →
    (size = 0 ∨ s.ringOk port base size every = true) →
    ∃ t, exec (.dumpRing rq port base size every) s = .next t ∧ t.replied rq 0x0B01 .success s.effFrame [] ∧
      t = { s with
        out := t.out, mbx.sess := t.mbx.sess,
        due := s.due ++ [Due.mk s.effFrame false false false none none (.dumpRing port base size every)] }) ∧
  (∀ (s : State) (rq : Rq) (p : Principal) (port base size every : Nat), s.serves rq 0x0B01 p = true → size ≠ 0 → s.ringOk port base size every = false →
    ∃ t, exec (.dumpRing rq port base size every) s = .next t ∧ s.turnsAway t rq 0x0B01 .parameter) ∧
  (∀ (s : State) (rq : Rq) (p : Principal) (b : Nat), s.serves rq 0x0B02 p = true → b < 4096 →
    (∀ k, p = .tenant k → s.bndValid b = true ∧ s.bndTenant b = k ∧ s.curBit (BND_CFG_TEN_VIEW b) = true) →
    ∃ t, exec (.readBindingCounters rq b) s = .next t ∧ t.replied rq 0x0B02 .success s.time.frame
        [(8, s.cnt.pageFrame), (8, (mgetD s.cnt.pageSnap b {}).rd), (8, (mgetD s.cnt.pageSnap b {}).wr), (8, (mgetD s.cnt.pageSnap b {}).bisnp),
          (8, (mgetD s.cnt.pageSnap b {}).lat), (8, (mgetD s.cnt.pageSnap b {}).heldCyc), (16, 0)] ∧
      t = { s with out := t.out, mbx.sess := t.mbx.sess }) ∧
  (∀ (s : State) (rq : Rq) (k b : Nat), s.serves rq 0x0B02 (.tenant k) = true → b < 4096 → s.curBit (BND_CFG_TEN_VIEW b) = false →
    ∃ t, exec (.readBindingCounters rq b) s = .next t ∧ s.turnsAway t rq 0x0B02 .permission) ∧
  (∀ (s : State) (b : Bus) (w : Word), s.takesWrite b CNT_RING_CTL = true → s.busP b = .owner → s.bit CNT_RING_CTL_EN = false → getBit w 23 = true →
    4 ≤ getBits w 0 16 → s.ringOk (getBits w 16 7) s.ringBase (s.fld CNT_RING_SIZE_SIZE) (getBits w 0 16) = true →
    ∃ t, exec (.ringEnableWrite b w) s = .next t ∧ t.bit CNT_RING_CTL_EN = true ∧ t.fld CNT_RING_CTL_EVERY = getBits w 0 16 ∧
      t.fld CNT_RING_CTL_PORT = getBits w 16 7 ∧ t = { s with regs := t.regs }) ∧
  (∀ (s : State) (b : Bus) (w : Word), s.takesWrite b CNT_RING_CTL = true → s.busP b = .owner → s.bit CNT_RING_CTL_EN = false → getBit w 23 = true →
    4 ≤ getBits w 0 16 → s.ringOk (getBits w 16 7) s.ringBase (s.fld CNT_RING_SIZE_SIZE) (getBits w 0 16) = false →
    ∃ t, exec (.ringEnableWrite b w) s = .next t ∧ t.bit CNT_RING_CTL_EN = false ∧ t.bit CNT_RING_CTL_REFUSED = true ∧ t = { s with regs := t.regs }) ∧
  (∀ (s : State) (b : Bus) (w : Word), s.takesWrite b CNT_RING_CTL = true → s.busP b = .owner → s.bit CNT_RING_CTL_EN = true → getBit w 23 = false →
    ∃ t, exec (.ringEnableWrite b w) s = .next t ∧ t.bit CNT_RING_CTL_EN = false ∧ t.fld CNT_RING_CTL_EVERY = s.fld CNT_RING_CTL_EVERY ∧
      t.fld CNT_RING_CTL_PORT = s.fld CNT_RING_CTL_PORT ∧ t = { s with regs := t.regs })

/-- A received message joins the tail of its queue, poisoned where its data did not check, and none where its header did not or its rules refuse it;
a grant takes the head of the winner's queue to the output's class queue, moves the rotating pointer past the winner, restarts the class's age,
and picks a requester of the highest effective priority of the class whose turn it is. Cites R116, R129. -/
def Obligations.IngressAndArbitration : Prop :=
  (∀ (s : State) (p : Nat) (g integ : Bool) (l : List FlitItem),
    (g = false ∨ (integ = false ∧ s.contains_ p = true) ∨ s.linkUp p = false ∨ (s.role p ≠ 1 ∧ s.role p ≠ 2)) →
    exec (.flitReceived p g integ l) s = .next s) ∧
  (∀ (s : State) (p : Nat) (integ : Bool), s.linkUp p = true → (s.role p = 1 ∨ s.role p = 2) → (integ = true ∨ s.contains_ p = false) → p < 128 →
    s.fld (PRT_PM_STAT_STATE p) = 2 →
    ∃ t, exec (.flitReceived p true integ []) s = .next t ∧ t.fld (PRT_PM_STAT_STATE p) = s.upState p ∧ p ∈ t.xbr.paused ∧
      t = { s with regs := t.regs, cnt.live := t.cnt.live, xbr.paused := t.xbr.paused, md := t.md }) ∧
  (∀ (s : State) (p sh : Nat) (m m' : Msg) (integ : Bool), s.linkUp p = true → (s.role p = 1 ∨ s.role p = 2) → (integ = true ∨ s.contains_ p = false) → s.fld (PRT_PM_STAT_STATE p) ≠ 2 →
    m' = s.removed { m with src := p } → s.carriesKind p m' = true → s.cacheAllowed m' = true → m'.dst ≠ p → m'.dst < 150 →
    s.roomFor m' = some sh → s.quarantined { m' with shr := sh } = false → s.strayReq { m' with shr := sh } = false →
    (128 ≤ m'.dst ∨ s.takes m'.dst { m' with shr := sh } = true) →
    ∃ t, exec (.flitReceived p true integ [.msg m { corr := 0, hdr := false, data := false }]) s = .next t ∧
      t.voq p m'.dst m'.kind.cls = s.voq p m'.dst m'.kind.cls ++ [{ m' with shr := sh, ord := s.xbr.serial }] ∧
      t = { s with xbr.voq := t.xbr.voq, xbr.serial := s.xbr.serial + 1, xbr.noCredit := t.xbr.noCredit, out := t.out, cnt.live := t.cnt.live }) ∧
  (∀ (s : State) (p sh : Nat) (m m' : Msg) (integ : Bool), s.linkUp p = true → (s.role p = 1 ∨ s.role p = 2) → (integ = true ∨ s.contains_ p = false) → s.fld (PRT_PM_STAT_STATE p) ≠ 2 →
    m' = s.removed { m with src := p } → s.carriesKind p m' = true → s.cacheAllowed m' = true → 128 ≤ m'.dst → m'.dst < 150 →
    s.roomFor m' = some sh → s.quarantined { m' with shr := sh } = false →
    ∃ t, exec (.flitReceived p true integ [.msg m { corr := 0, hdr := false, data := true }]) s = .next t ∧
      t.voq p m'.dst m'.kind.cls = s.voq p m'.dst m'.kind.cls ++ [{ m' with shr := sh, poison := true, ord := s.xbr.serial }] ∧
      t.fld XBR_ERR_DATA_UE = min (s.fld XBR_ERR_DATA_UE + 1) (2 ^ XBR_ERR_DATA_UE.width - 1)) ∧
  (∀ (s : State) (p : Nat) (m : Msg) (n : Nat) (d integ : Bool), s.linkUp p = true → (s.role p = 1 ∨ s.role p = 2) → (integ = true ∨ s.contains_ p = false) → s.fld (PRT_PM_STAT_STATE p) ≠ 2 →
    ∃ t, exec (.flitReceived p true integ [.msg m { corr := n, hdr := true, data := d }]) s = .next t ∧ t.xbr = s.xbr ∧
      t.fld XBR_ERR_HDR_UE = min (s.fld XBR_ERR_HDR_UE + 1) (2 ^ XBR_ERR_HDR_UE.width - 1) ∧
      t.fld XBR_CORR_CORR = min (s.fld XBR_CORR_CORR + n) (2 ^ XBR_CORR_CORR.width - 1)) ∧
  (∀ (s : State) (p : Nat) (m m' : Msg) (d integ : Bool), m' = s.removed { m with src := p } →
    (s.carriesKind p m' = false ∨ s.cacheAllowed m' = false ∨ m'.dst = p ∨ 150 ≤ m'.dst ∨ s.roomFor m' = none) → s.linkUp p = true → (s.role p = 1 ∨ s.role p = 2) → (integ = true ∨ s.contains_ p = false) → s.fld (PRT_PM_STAT_STATE p) ≠ 2 →
    ∃ t, exec (.flitReceived p true integ [.msg m { corr := 0, hdr := false, data := d }]) s = .next t ∧
      t = { s with cnt.live := t.cnt.live, xbr.noCredit := t.xbr.noCredit, out := t.out }) ∧
  (∀ (s : State) (p b sh : Nat) (m m' : Msg) (integ : Bool), s.linkUp p = true → (s.role p = 1 ∨ s.role p = 2) → (integ = true ∨ s.contains_ p = false) → s.fld (PRT_PM_STAT_STATE p) ≠ 2 →
    m' = s.removed { m with src := p } → m'.kind = .ioReq → s.isHost p = true → s.md.mode = .quarantine → s.ideBlocked p m' = false → m'.dst = b →
    b ≠ p → b < 150 → s.roomFor m' = some sh → s.takes p { src := b, dst := p, kind := .ioReq } = true →
    ∃ t a, exec (.flitReceived p true integ [.msg m { corr := 0, hdr := false, data := false }]) s = .next t ∧ answerTo { m' with shr := sh } = some a ∧
      t.voq p b m'.kind.cls = s.voq p b m'.kind.cls ∧
      (a.dst = p → s.takes p a = true → { a with ord := s.xbr.serial } ∈ t.voq a.src p a.kind.cls)) ∧
  (∀ (s : State) (o room c w : Nat) (m : Msg), o < 150 → s.coreGated = false → (o = 145 → room % 2 = 1) → mget s.xbr.busy o = none →
    s.pickClass o room = some c → s.winner o (s.eligible o c room) = some (w, m) →
    ∃ t, exec (.arbiterGrant o room { corr := 0, hdr := false, data := false }) s = .next t ∧
      t.voq m.src m.dst m.kind.cls = (s.voq m.src m.dst m.kind.cls).drop 1 ∧
      mgetD t.xbr.ptr o 0 = (w + 1) % 150 ∧ mgetD t.xbr.age (o * 4 + c) 0 = 0 ∧ (128 ≤ m.dst → .sent m.dst m ∈ t.out) ∧
      (m.dst < 128 → mgetD t.xbr.egress (egKey m.dst (m.tc.getD (s.cur (PRT_SCH_CFG_DEF_TC m.dst))) m.kind.cls) [] =
        mgetD s.xbr.egress (egKey m.dst (m.tc.getD (s.cur (PRT_SCH_CFG_DEF_TC m.dst))) m.kind.cls) [] ++ [m]) ∧
      (m.dst < 128 → m.whole = false → mget t.xbr.busy m.dst = some m) ∧ t = { s with xbr := t.xbr, cnt.live := t.cnt.live, out := t.out }) ∧
  (∀ (s : State) (o room c w n : Nat) (m : Msg) (d : Bool), o < 150 → s.coreGated = false → (o = 145 → room % 2 = 1) → mget s.xbr.busy o = none →
    s.pickClass o room = some c → s.winner o (s.eligible o c room) = some (w, m) →
    ∃ t, exec (.arbiterGrant o room { corr := n, hdr := true, data := d }) s = .next t ∧
      t.voq m.src m.dst m.kind.cls = (s.voq m.src m.dst m.kind.cls).drop 1 ∧ t.xbr.egress = s.xbr.egress ∧ t.xbr.busy = s.xbr.busy ∧
      t.fld XBR_ERR_HDR_UE = min (s.fld XBR_ERR_HDR_UE + 1) (2 ^ XBR_ERR_HDR_UE.width - 1) ∧
      t.fld XBR_CORR_CORR = min (s.fld XBR_CORR_CORR + n) (2 ^ XBR_CORR_CORR.width - 1)) ∧
  (∀ (s : State) (o room c w : Nat) (m : Msg), o < 150 → s.coreGated = false → (o = 145 → room % 2 = 1) → mget s.xbr.busy o = none →
    s.pickClass o room = some c → s.winner o (s.eligible o c room) = some (w, m) → m.dst < 128 →
    ∃ t, exec (.arbiterGrant o room { corr := 0, hdr := false, data := true }) s = .next t ∧
      mgetD t.xbr.egress (egKey m.dst (m.tc.getD (s.cur (PRT_SCH_CFG_DEF_TC m.dst))) m.kind.cls) [] =
        mgetD s.xbr.egress (egKey m.dst (m.tc.getD (s.cur (PRT_SCH_CFG_DEF_TC m.dst))) m.kind.cls) [] ++ [{ m with poison := true }] ∧
      t.fld XBR_ERR_DATA_UE = min (s.fld XBR_ERR_DATA_UE + 1) (2 ^ XBR_ERR_DATA_UE.width - 1)) ∧
  (∀ (s : State) (room : Nat) (e : SymErr), s.coreGated = false → room % 2 = 0 →
    ∃ t, exec (.arbiterGrant 145 room e) s = .next t ∧ (∀ p m, m ∈ t.voq p 145 0 → m.kind ≠ .mgmt) ∧ s.xbr.mgmtDrops ≤ t.xbr.mgmtDrops ∧
      t = { s with xbr.voq := t.xbr.voq, xbr.mgmtDrops := t.xbr.mgmtDrops, xbr.room := t.xbr.room }) ∧
  (∀ (s : State) (o room c w : Nat) (m : Msg), s.pickClass o room = some c → s.winner o (s.eligible o c room) = some (w, m) →
    (w, m) ∈ s.eligible o c room ∧ ∀ e ∈ s.eligible o c room, s.effPrio o e.1 ≤ s.effPrio o w) ∧
  (∀ (s : State) (o room c : Nat), s.pickClass o room = some c →
    c < 4 ∧ s.eligible o c room ≠ [] ∧
    ((∀ k, s.eligible o k room ≠ [] → mgetD s.xbr.age (o * 4 + k) 0 < s.cur XBR_CFG_CLASS_AGE) → ∀ k, k < 4 → s.eligible o k room ≠ [] → c ≤ k)) ∧
  (∀ (s : State) (o room : Nat) (e : SymErr), ((mget s.xbr.busy o).isSome = true ∨ s.pickClass o room = none) → (o = 145 → room % 2 = 1) →
    ∃ t, exec (.arbiterGrant o room e) s = .next t ∧ t = { s with xbr.room := t.xbr.room }) ∧
  (∀ (s : State) (o room : Nat) (e : SymErr), (s.coreGated = true ∨ 150 ≤ o) → exec (.arbiterGrant o room e) s = .next s)

/-- An idle egress port sends the message that deficit round robin picks among the eligible classes; an ISL port moves it to its cells; a refill adds
the rate to every shaper up to its burst; a tenant's request is admitted against its tokens or waits; GATE_LIST and the gate-list registers arm,
cancel or refuse a list for its named frame; GET_QOS reports what is in force. Cites R255, R258, R259, R264. -/
def Obligations.EgressAndShapers : Prop :=
  (∀ (s : State) (p cr c u : Nat) (m : Msg) (d : NMap Nat), s.role p ≠ 3 → p < 128 → s.linkUp p = true → mget s.xbr.inflight p = none →
    s.fld (PRT_PM_STAT_STATE p) ≠ 2 → s.anyEligible p cr = true → s.drr p cr s.xbr.deficit (mgetD s.xbr.turn p 0) 4800 = (some (m, c), d, u) →
    ∃ t, exec (.egressSchedule p cr) s = .next t ∧ t.out = .sent p m :: s.out ∧ t.xbr.deficit = d ∧ mgetD t.xbr.turn p 0 = u ∧
      mgetD t.xbr.egress (egKey p c m.kind.cls) [] = (mgetD s.xbr.egress (egKey p c m.kind.cls) []).drop 1 ∧ t.xbr.voq = s.xbr.voq ∧
      (m.whole = false → mget t.xbr.inflight p = some m) ∧
      (m.poison = true → t.fld (XBR_PSTAT_POISON_CNT p) = min (s.fld (XBR_PSTAT_POISON_CNT p) + 1) (2 ^ (XBR_PSTAT_POISON_CNT p).width - 1)) ∧
      (m.poison = false → t.regs = s.regs)) ∧
  (∀ (s : State) (p cr c u : Nat) (m : Msg) (d : NMap Nat), s.role p ≠ 3 → p < 128 → s.linkUp p = true → mget s.xbr.inflight p = none →
    s.fld (PRT_PM_STAT_STATE p) = 2 → s.anyEligible p cr = true → s.drr p cr s.xbr.deficit (mgetD s.xbr.turn p 0) 4800 = (some (m, c), d, u) →
    ∃ t, exec (.egressSchedule p cr) s = .next t ∧ t.out = .sent p m :: s.out ∧ t.fld (PRT_PM_STAT_STATE p) = s.upState p ∧ p ∈ t.xbr.paused) ∧
  (∀ (s : State) (p cr : Nat), s.role p ≠ 3 → (s.linkUp p = false ∨ (mget s.xbr.inflight p).isSome = true ∨ s.anyEligible p cr = false) →
    exec (.egressSchedule p cr) s = .next s) ∧
  (∀ (s : State) (p cr i c u k : Nat) (m : Msg) (d : NMap Nat), s.role p = 3 → s.islOf p = some i → ((s.islSt i = 4 ∧ s.carries i = true) ∨ ((s.islSt i = 3 ∨ s.islSt i = 4) ∧ m.kind = .mgmt)) →
    (s.islAt i).silent = false → (s.islAt i).tx.foldl (fun n e => n + e.2) 0 < s.islSlots i →
    k = [0, 1, 2, 3].foldl (fun n c => n + (if cr / 2 ^ c % 2 = 1 ∧ s.fld (ISL_FC_STAT_TX_OFF i) / 2 ^ c % 2 = 0 then 2 ^ c else 0)) 0 →
    s.anyEligible p k = true → s.drr p k s.xbr.deficit (mgetD s.xbr.turn p 0) 4800 = (some (m, c), d, u) →
    ∃ t, exec (.egressSchedule p cr) s = .next t ∧ (t.islAt i).tx = (s.islAt i).tx ++ [(m, msgSlots m)] ∧ t.xbr.deficit = d ∧
      mgetD t.xbr.egress (egKey p c m.kind.cls) [] = (mgetD s.xbr.egress (egKey p c m.kind.cls) []).drop 1 ∧ t.out = s.out ∧ t.xbr.voq = s.xbr.voq) ∧
  (∀ (s : State), s.shapersOn.Nodup →
    ∃ t, exec .shaperTokenRefill s = .next t ∧
      (∀ k, k ∈ s.shapersOn → mgetD t.xbr.tokens k 0 =
        min (mgetD s.xbr.tokens k 0 + (s.cur (SHP_RATE_RATE k) : Int)) ((s.cur (SHP_BURST_BURST k) * 16 : Nat) : Int)) ∧
      (∀ k, k ∉ s.shapersOn → mgetD t.xbr.tokens k 0 = mgetD s.xbr.tokens k 0) ∧ t = { s with xbr.tokens := t.xbr.tokens }) ∧
  (∀ (s : State) (src dst k b : Nat) (m : Msg) (l : List Msg), s.voq src dst 3 = m :: l → s.shaperOf m = some k → m.bnd = some b → m.adm = false →
    0 < s.tokens k →
    ∃ t, exec (.shaperAdmit src dst) s = .next t ∧ t.voq src dst 3 = { m with adm := true } :: l ∧
      mgetD t.xbr.tokens k 0 = mgetD s.xbr.tokens k 0 - ((s.charge b * 16 : Nat) : Int) ∧ k ∉ t.xbr.held ∧
      t = { s with xbr.voq := t.xbr.voq, xbr.tokens := t.xbr.tokens, xbr.held := t.xbr.held }) ∧
  (∀ (s : State) (src dst k b : Nat) (m : Msg) (l : List Msg), s.voq src dst 3 = m :: l → s.shaperOf m = some k → m.bnd = some b → m.adm = false →
    s.tokens k ≤ 0 → exec (.shaperAdmit src dst) s = .next { s with xbr.held := sadd s.xbr.held k }) ∧
  (∀ (s : State) (src dst : Nat), (∀ m, (s.voq src dst 3).head? = some m → s.shaperOf m = none ∨ m.adm = true) →
    exec (.shaperAdmit src dst) s = .next s) ∧
  (∀ (s : State) (rq : Rq) (p : Principal) (port en f : Nat) (l : List Nat), s.serves rq 0x0702 p = true → s.portOk port = true → l.length = 16 →
    (∀ b ∈ l, b ≤ 255) → en ≤ 1 → s.glRefusal port (en == 1) l f rq.group = none → s.lcSlots ≠ [] →
    ∃ t h, exec (.gateList rq port l en f) s = .next t ∧ t.replied rq 0x0702 .inProgress f [(2, h)] ∧
      t = { s with
        out := t.out, mbx := t.mbx, fresh := t.fresh, regs := t.regs,
        due := s.due ++ [Due.mk f true rq.group false (some h) none (.gateList port (en == 1) l)] }) ∧
  (∀ (s : State) (rq : Rq) (p : Principal) (port en f : Nat) (l : List Nat) (c : Status), s.serves rq 0x0702 p = true → s.portOk port = true →
    l.length = 16 → (∀ b ∈ l, b ≤ 255) → en ≤ 1 → s.glRefusal port (en == 1) l f rq.group = some c →
    ∃ t, exec (.gateList rq port l en f) s = .next t ∧ s.turnsAway t rq 0x0702 c) ∧
  (∀ (s : State) (b : Bus) (p : Nat) (w : Word), s.takesWrite b (PRT_GL_CTL p) = true → (s.busP b).isOF = true → p < 128 → getBit w 2 = false →
    s.glRefusal p (getBit w 0) (s.stagedSlots p) (s.glAt p) false = none →
    ∃ t, exec (.gateListArm b p w) s = .next t ∧ t.bit (PRT_GL_CTL_EN_NEW p) = getBit w 0 ∧
      t = { s with
        regs := t.regs, latch := t.latch,
        due := s.due ++ [Due.mk (s.glAt p) true false false none none (.gateList p (getBit w 0) (s.stagedSlots p))] }) ∧
  (∀ (s : State) (b : Bus) (p : Nat) (w : Word) (c : Status), s.takesWrite b (PRT_GL_CTL p) = true → (s.busP b).isOF = true → p < 128 →
    getBit w 2 = false → s.glRefusal p (getBit w 0) (s.stagedSlots p) (s.glAt p) false = some c →
    ∃ t, exec (.gateListArm b p w) s = .next t ∧ t.bit (PRT_GL_CTL_REFUSED p) = true ∧ t.due = s.due ∧ t.xbr = s.xbr) ∧
  (∀ (s : State) (b : Bus) (p : Nat), s.takesWrite b (PRT_GL_CTL p) = true → (s.busP b).isOF = true → p < 128 →
    ∃ t, exec (.gateListCancel b p) s = .next t ∧ (∀ d ∈ t.due, d.frozen = false → ∀ e l, d.act ≠ .gateList p e l) ∧
      (∀ d ∈ s.due, (d.frozen = true ∨ ∀ e l, d.act ≠ .gateList p e l) → d ∈ t.due) ∧ t.xbr = s.xbr) ∧
  (∀ (s : State) (rq : Rq) (p : Principal) (port : Nat), s.serves rq 0x0703 p = true → s.portOk port = true →
    ∃ t, exec (.getQos rq port) s = .next t ∧ t.replied rq 0x0703 .success s.time.frame
        ((List.range 8).map (fun c => (2, s.quantum port c / 16)) ++ (s.slotsInForce port).map (fun b => (1, b)) ++
          [(1, if (mget s.xbr.lists port).isSome then 1 else 0)]) ∧
      t = { s with out := t.out, mbx.sess := t.mbx.sess }) ∧
  (∀ (s : State) (rq : Rq) (p : Principal) (port : Nat), s.serves rq 0x0703 p = true → s.portOk port = false →
    ∃ t, exec (.getQos rq port) s = .next t ∧ s.turnsAway t rq 0x0703 .parameter)

/-- A home request that is a protocol error is counted; one of a host that is not alive is refused and counted; another opens a transaction entry,
that reads the directory, or waits behind the entry of its line, or joins the retry queue when the table is full, with the counters of its slice.
Cites R175. -/
def Obligations.HomeLookup : Prop :=
  (∀ (s : State) (x : HIn), (MsgKind.mem x.r.op).cls = 3 → 1024 ≤ (mgetD s.home.retry (sliceOf x.r.line) []).length →
    exec (.homeLookup (sliceOf x.r.line) [x]) s = .next s) ∧
  (∀ (s : State) (sl : Nat) (l : List HIn), (∀ x ∈ l, sliceOf x.r.line ≠ sl) → exec (.homeLookup sl l) s = .next s) ∧
  (∀ (s : State) (x : HIn), (mgetD s.home.retry (sliceOf x.r.line) []).length < 1024 → x.heatLost = false → s.stackGone 1 = false → s.md.mode = .quarantine → x.r.src < 128 →
    x.r.member = s.ownMember → hkReads x.r.kind = true →
    ∃ t, exec (.homeLookup (sliceOf x.r.line) [x]) s = .next t ∧ t.home = s.home ∧
      t.fld (BND_ERR_CNT0_POISONED x.r.bnd) = min (s.fld (BND_ERR_CNT0_POISONED x.r.bnd) + 1) (2 ^ (BND_ERR_CNT0_POISONED x.r.bnd).width - 1) ∧
      t.bnd = s.bnd) ∧
  (∀ (s : State) (x : HIn) (b : Bool), (mgetD s.home.retry (sliceOf x.r.line) []).length < 1024 → x.heatLost = false → s.stackGone 1 = false → s.md.mode ≠ .quarantine → x.r.kind = .proto b →
    ∃ t, exec (.homeLookup (sliceOf x.r.line) [x]) s = .next t ∧ t.fld HOM_ERR_PROTO = min (s.fld HOM_ERR_PROTO + 1) 65535 ∧ t.home = s.home) ∧
  (∀ (s : State) (x : HIn) (k : Nat), (mgetD s.home.retry (sliceOf x.r.line) []).length < 1024 → x.heatLost = false → s.stackGone 1 = false → s.md.mode ≠ .quarantine → (hkReads x.r.kind = true ∨ x.r.kind = .own ∨ x.r.kind = .wr) → s.hostDead x.r = true → s.reqSlot x.r = some k →
    ∃ t, exec (.homeLookup (sliceOf x.r.line) [x]) s = .next t ∧ t.fld (HOM_HOST_STAT_REFUSED k) = min (s.fld (HOM_HOST_STAT_REFUSED k) + 1) 65535 ∧ t.home = s.home ∧
      t.bnd = s.bnd) ∧
  (∀ (s : State) (x : HIn), (mgetD s.home.retry (sliceOf x.r.line) []).length < 1024 → x.heatLost = false → s.stackGone 1 = false → s.md.mode ≠ .quarantine → s.hostDead x.r = false → x.r.kind = .wr → s.writeGone x.r = true →
    ∃ t, exec (.homeLookup (sliceOf x.r.line) [x]) s = .next t ∧ t.home = s.home ∧
      t.fld (BND_ERR_CNT1_WR_DISC x.r.bnd) = min (s.fld (BND_ERR_CNT1_WR_DISC x.r.bnd) + 1) (2 ^ (BND_ERR_CNT1_WR_DISC x.r.bnd).width - 1)) ∧
  (∀ (s : State) (x : HIn), x.heatLost = false → s.stackGone 1 = false → s.md.mode ≠ .quarantine → (hkReads x.r.kind = true ∨ x.r.kind = .own ∨ x.r.kind = .wr) → s.hostDead x.r = false → (x.r.kind = .wr → s.writeGone x.r = false) → x.err = .none_ →
    s.hdmH x.r.bnd = false → s.tts (sliceOf x.r.line) = [] → mgetD s.home.retry (sliceOf x.r.line) [] = [] → s.dirOf x.r.line = none →
    ∃ t, exec (.homeLookup (sliceOf x.r.line) [x]) s = .next t ∧ t.tts (sliceOf x.r.line) =
        [{ id := s.home.serial, line := x.r.line, work := .req x.r, phase := .dirRead, since := s.time.frame,
            ent := some (s.ttEntry (x.r.line / 4096)), found := x.found }] ∧
      t.fld (HOM_SLC_MISS_MISS (sliceOf x.r.line)) = min (s.fld (HOM_SLC_MISS_MISS (sliceOf x.r.line)) + 1) (2 ^ 32 - 1) ∧ t.home.dir = s.home.dir ∧
      t = { s with regs := t.regs, cnt.live := t.cnt.live, home.tt := t.home.tt, home.serial := s.home.serial + 1 }) ∧
  (∀ (s : State) (x : HIn), (mgetD s.home.retry (sliceOf x.r.line) []).length < 1024 → x.heatLost = false → s.stackGone 1 = false → s.md.mode ≠ .quarantine → (hkReads x.r.kind = true ∨ x.r.kind = .own ∨ x.r.kind = .wr) → s.hostDead x.r = false → (x.r.kind = .wr → s.writeGone x.r = false) →
    s.reqEntries (sliceOf x.r.line) < 7936 → s.lineBusy (sliceOf x.r.line) x.r.line = true →
    ∃ t, exec (.homeLookup (sliceOf x.r.line) [x]) s = .next t ∧ t.tts (sliceOf x.r.line) = s.tts (sliceOf x.r.line) ++
        [{ id := s.home.serial, line := x.r.line, work := .req x.r, phase := .waiting, err := x.err,
            ent := some (s.ttEntry (x.r.line / 4096)), found := x.found }] ∧
      t.fld (HOM_SLC_CONFL_CONFL (sliceOf x.r.line)) = min (s.fld (HOM_SLC_CONFL_CONFL (sliceOf x.r.line)) + 1) (2 ^ 32 - 1) ∧
      t = { s with regs := t.regs, cnt.live := t.cnt.live, home.tt := t.home.tt, home.serial := s.home.serial + 1 }) ∧
  (∀ (s : State) (x : HIn), (mgetD s.home.retry (sliceOf x.r.line) []).length < 1024 → x.heatLost = false → s.stackGone 1 = false → s.md.mode ≠ .quarantine → (hkReads x.r.kind = true ∨ x.r.kind = .own ∨ x.r.kind = .wr) → s.hostDead x.r = false → (x.r.kind = .wr → s.writeGone x.r = false) → 7936 ≤ s.reqEntries (sliceOf x.r.line) →
    ∃ t, exec (.homeLookup (sliceOf x.r.line) [x]) s = .next t ∧ mgetD t.home.retry (sliceOf x.r.line) [] = mgetD s.home.retry (sliceOf x.r.line) [] ++
        [{ r := x.r, err := x.err, ent := s.ttEntry (x.r.line / 4096), found := x.found }] ∧
      t.home.tt = s.home.tt) ∧
  (∀ (s : State) (x : HIn) (k : Nat), x.heatLost = false → s.stackGone 1 = false → s.md.mode ≠ .quarantine → x.r.kind = .wb k → s.hostDead x.r = false → 1024 ≤ (mgetD s.home.wbuf (sliceOf x.r.line) []).length →
    ∃ t, exec (.homeLookup (sliceOf x.r.line) [x]) s = .next t ∧ mgetD t.home.wbWait (sliceOf x.r.line) [] = mgetD s.home.wbWait (sliceOf x.r.line) [] ++ [x] ∧
      t = { s with cnt.live := t.cnt.live, home.wbWait := t.home.wbWait }) ∧
  (∀ (s : State) (x : HIn) (k : Nat), x.heatLost = false → s.stackGone 1 = false → s.md.mode ≠ .quarantine → x.r.kind = .wb k → s.hostDead x.r = false → s.hdmH x.r.bnd = false →
    x.err = .none_ → x.rsv = .good → (mgetD s.home.wbuf (sliceOf x.r.line) []).length < 1024 → (∀ n, s.reqSlot x.r = some n → s.owns x.r.line n = false) →
    ∃ t, exec (.homeLookup (sliceOf x.r.line) [x]) s = .next t ∧ t.fld HOM_ERR_PROTO = min (s.fld HOM_ERR_PROTO + 1) 65535 ∧ t.home.tt = s.home.tt ∧
      t.home.wbuf = s.home.wbuf ∧ t.bnd = s.bnd) ∧
  (∀ (s : State) (x : HIn) (n : Nat), x.heatLost = false → s.stackGone 1 = false → s.md.mode ≠ .quarantine → x.r.kind = .wb 0 → s.hostDead x.r = false → s.hdmH x.r.bnd = false →
    x.err = .none_ → x.rsv = .good → (mgetD s.home.wbuf (sliceOf x.r.line) []).length < 1024 → s.reqSlot x.r = some n → s.owns x.r.line n = true →
    s.tts (sliceOf x.r.line) = [] → mgetD s.home.retry (sliceOf x.r.line) [] = [] →
    ∃ t, exec (.homeLookup (sliceOf x.r.line) [x]) s = .next t ∧ (∀ d, t.dirOf x.r.line = some d → bitOn d.sharers n = false) ∧
      (∀ l, l ≠ x.r.line → (t.dirOf l).map (fun d => (d.sharers, d.excl)) = (s.dirOf l).map (fun d => (d.sharers, d.excl))) ∧
      t.bnd.tt = s.bnd.tt) ∧
  (∀ (s : State) (x : HIn), x.heatLost = false → s.stackGone 1 = false → s.md.mode ≠ .quarantine → x.r.kind = .ce → s.hostDead x.r = false → x.err = .none_ → x.rsv = .good →
    s.dirOf x.r.line = none → ∃ t, exec (.homeLookup (sliceOf x.r.line) [x]) s = .next t ∧ t.home = s.home) ∧
  (∀ (s : State) (x : HIn) (n : Nat) (d : DirEnt), x.heatLost = false → s.stackGone 1 = false → s.md.mode ≠ .quarantine → x.r.kind = .ce → s.hostDead x.r = false → s.hdmH x.r.bnd = false →
    x.err = .none_ → s.dirOf x.r.line = some d →
    d.cached = true → s.lineBusy (sliceOf x.r.line) x.r.line = false → s.reqSlot x.r = some n → bitOn d.sharers n = true → setOff d.sharers n = 0 →
    ∃ t, exec (.homeLookup (sliceOf x.r.line) [x]) s = .next t ∧ t.dirOf x.r.line = none ∧ (∀ l, l ≠ x.r.line → t.dirOf l = s.dirOf l)) ∧
  (∀ (s : State) (x : HIn) (b : Bool), x.r.kind = .proto b → s.stackGone 1 = false → x.heatLost = true →
    s.md.mode ≠ .quarantine → (mgetD s.home.retry (sliceOf x.r.line) []).length < 1024 → (s.ttEntry (x.r.line / 4096)).valid = true →
    mgetD s.home.sample (sliceOf x.r.line) 1 ≤ 1 →
    ∃ t, exec (.homeLookup (sliceOf x.r.line) [x]) s = .next t ∧
      (t.heatRec (s.globalParcel (s.ttEntry (x.r.line / 4096)).pool (s.ttEntry (x.r.line / 4096)).ppi)).heat = 0) ∧
  (∀ (s : State) (x : HIn), x.heatLost = false → s.stackGone 1 = false → s.md.mode ≠ .quarantine → (hkReads x.r.kind = true ∨ x.r.kind = .own ∨ x.r.kind = .wr) →
    s.hostDead x.r = false → (x.r.kind = .wr → s.writeGone x.r = false) → x.err = .none_ → s.hdmH x.r.bnd = false →
    (mgetD s.home.retry (sliceOf x.r.line) []).length < 1024 → s.reqEntries (sliceOf x.r.line) < 7936 → s.lineBusy (sliceOf x.r.line) x.r.line = false →
    s.dirCached x.r.line = false → (∀ y ∈ s.tts (sliceOf x.r.line), y.id < s.home.serial) →
    ∃ t u, exec (.homeLookup (sliceOf x.r.line) [x]) s = .next t ∧ t.ttOf (sliceOf x.r.line) s.home.serial = some u ∧
      u.line = x.r.line ∧ u.work = .req x.r ∧ u.phase = .dirRead ∧ u.since = s.time.frame ∧
      (t.ttOf (sliceOf x.r.line) s.home.serial).any (fun u => u.line == x.r.line && u.phase == .dirRead && u.since == s.time.frame) = true)

/-- The directory read of a shared read that no host holds leads to a pool read; the pool's data completes a current read to its host and closes its
entry; a response that no entry or buffer awaits is counted; an acknowledged writeback frees its buffer; a BIConflict is noted in the active
entry of its line and host, and otherwise answered at once. Cites R166, R172, R176. -/
def Obligations.HomeReadPath : Prop :=
  (∀ (s : State) (sl id p a : Nat) (e : Tt) (r : HReq), s.tts sl = [e] → e.id = id → e.phase = .dirRead → e.work = .req r → r.kind = .rdShared →
    s.home.still = false → s.stackGone 0 = false → s.stackGone 1 = false → s.hdmH r.bnd = false → (s.freeWay e.line none).isSome = true → e.wayAt = none → s.dirOf e.line = none → e.stage = 0 → e.hold = false → e.rd = false → e.waitSnp = [] → e.wrPend = false → e.data = none →
    mgetD s.home.retry sl [] = [] → e.line ∉ s.oxb.unacked → s.bufOf sl e.line = none → s.poolAt e.line (s.entryOf e) = .ok (p, a) → p < 128 →
    s.takes p { src := 128 + sl, dst := p, kind := .poolRd } = true →
    ∃ t u m, exec (.directoryReadDone sl id .good false) s = .next t ∧ t.tts sl = [u] ∧ u.id = id ∧ u.rd = true ∧ u.stage = 1 ∧ u.phase = .active ∧
      m ∈ t.voq (128 + sl) p MsgKind.poolRd.cls ∧ m.kind = .poolRd ∧ m.addr = a ∧ m.tag = id ∧ m.line = e.line ∧ t.home.dir = s.home.dir) ∧
  (∀ (s : State) (sl id : Nat) (r : RsvRead) (mal : Bool), (∀ t, s.ttOf sl id = some t → t.phase ≠ .dirRead) →
    exec (.directoryReadDone sl id r mal) s = .next s) ∧
  (∀ (s : State) (sl id d : Nat) (e : Tt) (r : HReq) (a : LineAt) (f : Fetched), s.tts sl = [e] → e.id = id → e.phase = .active → e.work = .req r →
    r.kind = .rdCur → s.hdmH r.bnd = false → s.dirOf e.line = none → e.stage = 1 → e.hold = false → e.rd = true → e.waitSnp = [] → e.wrPend = false →
    e.data = none → e.bad = false → e.drained = false → e.wasE = false → e.biAck = none → mgetD s.home.retry sl [] = [] → s.lineAt e.line = some a →
    a.rec_.cls = 0 → r.src < 128 → s.takes r.src { src := 0, dst := r.src, kind := .drs 0 } = true → s.home.still = false →
    ∃ t m, exec (.homeResponseArrival sl id (.data d false) f) s = .next t ∧ t.tts sl = [] ∧
      m ∈ t.voq (128 + sliceOf r.line) r.src (MsgKind.drs 0).cls ∧ m.kind = .drs 0 ∧ m.data = d ∧ m.poison = false ∧ m.tag = r.tag ∧ t.regs = s.regs) ∧
  (∀ (s : State) (sl id : Nat) (x : HomeRsp) (f : Fetched), (∀ k b, x ≠ .biRsp k b true) → s.ttOf sl id = none → (∀ w ∈ mgetD s.home.wbuf sl [], w.tag ≠ id) →
    ∃ t, exec (.homeResponseArrival sl id x f) s = .next t ∧ t.fld HOM_ERR_LATE = min (s.fld HOM_ERR_LATE + 1) 65535 ∧ t = { s with regs := t.regs }) ∧
  (∀ (s : State) (sl id : Nat) (w : WBuf) (f : Fetched), (mgetD s.home.wbuf sl []).find? (fun w => w.tag == id && ! w.deferred) = some w →
    s.tts sl = [] → mgetD s.home.retry sl [] = [] → mgetD s.home.wbWait sl [] = [] →
    ∃ t, exec (.homeResponseArrival sl id .wbAck f) s = .next t ∧
      mgetD t.home.wbuf sl [] = (mgetD s.home.wbuf sl []).filter (fun x => x.tag != id) ∧
      t = { s with home.wbuf := t.home.wbuf, oxb.moves := t.oxb.moves }) ∧
  (∀ (s : State) (sl id k : Nat) (b : Bool) (f : Fetched), s.ttOf sl id = none →
    ∃ t, exec (.homeResponseArrival sl id (.biRsp k b true) f) s = .next t ∧ t.fld HOM_ERR_PROTO = min (s.fld HOM_ERR_PROTO + 1) 65535 ∧
      t = { s with regs := t.regs }) ∧
  (∀ (s : State) (port line tag : Nat) (e : Tt), (s.tts (sliceOf line)).find? (fun t => t.line == line && t.phase != .waiting && (match t.work with
      | .req r => r.src == port
      | _ => false)) = some e →
    ∃ t u, exec (.biconflict port line tag) s = .next t ∧ u ∈ t.tts (sliceOf line) ∧ u = { e with biAck := some tag } ∧
      t = { s with home.tt := t.home.tt }) ∧
  (∀ (s : State) (port line tag : Nat), (s.tts (sliceOf line)).find? (fun t => t.line == line && t.phase != .waiting && (match t.work with
      | .req r => r.src == port
      | _ => false)) = none → port < 128 → s.takes port { src := 128, dst := port, kind := .ndr 3 } = true →
    ∃ t, exec (.biconflict port line tag) s = .next t ∧ t.voq (128 + sliceOf line) port (MsgKind.ndr 3).cls =
        s.voq (128 + sliceOf line) port (MsgKind.ndr 3).cls ++
          [{ src := 128 + sliceOf line, dst := port, kind := .ndr 3, tc := (s.bindingOfLine line port).map s.bndTc, line := line, tag := tag,
              ord := s.xbr.serial }] ∧
      t = { s with xbr.voq := t.xbr.voq, xbr.serial := s.xbr.serial + 1 }) ∧
  (∀ (s : State) (sl id : Nat) (e : Tt), s.ttOf sl id = some e → e.phase = .dirRead → s.stackGone 0 = false → s.stackGone 1 = false → id < s.home.serial →
    (∀ y ∈ s.tts sl, y.id = id → y = e) →
    ∃ t, exec (.directoryReadDone sl id .good false) s = .next t ∧ (t.ttOf sl id).all (fun u => u.phase != .dirRead && u.line == e.line) = true) ∧
  (∀ (s : State) (sl id d v : Nat) (p : Bool) (e : Tt) (r : HReq) (a : LineAt) (f : Fetched), s.ttOf sl id = some e → e.phase = .active → e.work = .req r →
    e.rd = true → e.data = none → e.waitSnp ≠ [] → s.lineAt e.line = some a → s.decrypt a d = some v → a.rec_.cls ≠ 2 → id < s.home.serial →
    (∀ y ∈ s.tts sl, y.id = id → y = e) →
    ∃ t, exec (.homeResponseArrival sl id (.data d p) f) s = .next t ∧ (t.ttOf sl id).any (fun u => ! u.rd && u.data == some (v, p)) = true) ∧
  (∀ (s : State) (sl id : Nat) (e : Tt) (f : Fetched), s.ttOf sl id = some e → e.phase = .active → e.wrPend = true → id < s.home.serial →
    (∀ y ∈ s.tts sl, y.id = id → y = e) →
    ∃ t, exec (.homeResponseArrival sl id .wrAck f) s = .next t ∧ (t.ttOf sl id).all (fun u => ! u.wrPend) = true) ∧
  (∀ (s : State) (sl id k : Nat) (sh : Bool) (e : Tt) (f : Fetched), s.ttOf sl id = some e → e.phase = .active → k ∈ e.waitSnp → id < s.home.serial →
    (∀ y ∈ s.tts sl, y.id = id → y = e) →
    ∃ t, exec (.homeResponseArrival sl id (.biRsp k sh false) f) s = .next t ∧ (t.ttOf sl id).all (fun u => ! u.waitSnp.contains k) = true ∧
      (sh = true → e.snp = 2 → t.fld HOM_ERR_PROTO = min (s.fld HOM_ERR_PROTO + 1) 65535))

/-- An access of a port that is no host port, or that may not take it, does nothing; an address no extent or window holds is counted in the binding's
error record; one that misses the translation cache starts a walk, and one that hits it sends its request to the line's home slice where the gate
allows it; a window read that finds its prefetched line is answered from it, and one that does not joins the bridge's accesses in order. Cites
R150, R271. -/
def Obligations.HostMemoryAccess : Prop :=
  (∀ (s : State) (p vdp hpa tag data : Nat) (k : MemOp) (poison : Bool), (s.isHost p = false ∨ s.takes p { src := p, dst := p, kind := .mem k } = false) →
    exec (.cxlMemAccess p vdp hpa k tag data poison) s = .next s) ∧
  (∀ (s : State) (p vdp hpa tag data b dpa : Nat) (k : MemOp) (poison : Bool), s.isHost p = true → s.takes p { src := p, dst := p, kind := .mem k } = true →
    s.bindingAt p vdp = some b → s.dpaOf b hpa = some dpa → s.md.mode ≠ .quarantine → mget s.bnd.rst b ≠ some true → s.windowAt b dpa = none →
    s.extentAt b dpa = none → hkReads k.kind = true →
    ∃ t, exec (.cxlMemAccess p vdp hpa k tag data poison) s = .next t ∧
      t.fld (BND_ERR_CNT0_UNMAPPED b) = min (s.fld (BND_ERR_CNT0_UNMAPPED b) + 1) (2 ^ (BND_ERR_CNT0_UNMAPPED b).width - 1) ∧
      t.bit (BND_ERR_STAT_VALID b) = true ∧ (s.bit (BND_ERR_STAT_VALID b) = false → t.fld (BND_ERR_STAT_CODE b) = 1) ∧ t.bnd = s.bnd ∧ t.home = s.home) ∧
  (∀ (s : State) (p vdp hpa tag data b dpa : Nat) (k : MemOp) (poison : Bool) (e : Extent) (g : Region), s.isHost p = true →
    s.takes p { src := p, dst := p, kind := .mem k } = true → s.bindingAt p vdp = some b → s.dpaOf b hpa = some dpa → s.md.mode ≠ .quarantine →
    mget s.bnd.rst b ≠ some true → s.windowAt b dpa = none → s.extentAt b dpa = some e → s.curBit (BND_CFG_RO b) = false → s.bndRec b = some g →
    g.ttBase + (e.rofs + (dpa / 262144 - e.dpa)) ∉ s.bnd.tcache → mget s.bnd.walk (g.ttBase + (e.rofs + (dpa / 262144 - e.dpa))) = none →
    ∃ t r, exec (.cxlMemAccess p vdp hpa k tag data poison) s = .next t ∧
      t.bnd = { s.bnd with walk := mput s.bnd.walk (g.ttBase + (e.rofs + (dpa / 262144 - e.dpa))) [r] } ∧ r.bnd = b ∧ r.op = k ∧ r.tag = tag ∧
      r.line = (g.ttBase + (e.rofs + (dpa / 262144 - e.dpa))) * 4096 + dpa % 262144 / 64 ∧ t.xbr = s.xbr ∧ t.home = s.home) ∧
  (∀ (s : State) (p vdp hpa tag data b dpa q a l : Nat) (k : MemOp) (e : Extent) (g : Region), s.isHost p = true →
    s.takes p { src := p, dst := p, kind := .mem k } = true → s.bindingAt p vdp = some b → s.dpaOf b hpa = some dpa → s.md.mode ≠ .quarantine →
    mget s.bnd.rst b ≠ some true → s.windowAt b dpa = none → s.extentAt b dpa = some e → s.curBit (BND_CFG_RO b) = false → s.bndRec b = some g →
    g.ttBase + (e.rofs + (dpa / 262144 - e.dpa)) ∈ s.bnd.tcache → hkReads k.kind = true →
    l = (g.ttBase + (e.rofs + (dpa / 262144 - e.dpa))) * 4096 + dpa % 262144 / 64 → s.poolOf l = .ok (q, a) →
    s.gateEval q (0x1000 + b) .read a 64 = .allow →
    ∃ t m, exec (.cxlMemAccess p vdp hpa k tag data false) s = .next t ∧
      t.voq p (128 + sliceOf l) 3 = s.voq p (128 + sliceOf l) 3 ++ [m] ∧ m.kind = .mem k ∧ m.line = l ∧ m.tag = tag ∧ m.bnd = some b ∧ t.regs = s.regs ∧
      t.bnd = s.bnd) ∧
  (∀ (s : State) (p vdp hpa tag data mask b dpa w : Nat) (k : MemOp) (poison : Bool) (l : BLine), s.isHost p = true → p < 128 →
    s.takes p { src := p, dst := p, kind := .mem k } = true → s.bindingAt p vdp = some b → s.dpaOf b hpa = some dpa → s.md.mode ≠ .quarantine →
    mget s.bnd.rst b ≠ some true → s.windowAt b dpa = some w → 16 ≤ w → hkReads k.kind = true →
    s.brg.lines.find? (fun l => l.win == w && l.line == (dpa / 64 * 64 - (s.winRange w).1) / 64) = some l →
    ∃ t m, exec (.bridgeAccess p vdp hpa k tag data mask poison) s = .next t ∧
      t.fld (LWB_WIN_PF_PF_USED w) = min (s.fld (LWB_WIN_PF_PF_USED w) + 1) (2 ^ (LWB_WIN_PF_PF_USED w).width - 1) ∧
      m ∈ t.voq 144 p 0 ∧ m.data = l.data ∧ m.tag = tag ∧ m.poison = false ∧ t.brg.acc = s.brg.acc) ∧
  (∀ (s : State) (p vdp hpa tag data mask b dpa w : Nat) (k : MemOp) (poison : Bool), s.isHost p = true →
    s.takes p { src := p, dst := p, kind := .mem k } = true → s.bindingAt p vdp = some b → s.dpaOf b hpa = some dpa → s.md.mode ≠ .quarantine →
    mget s.bnd.rst b ≠ some true → s.windowAt b dpa = some w → 16 ≤ w → hkReads k.kind = true →
    s.brg.lines.find? (fun l => l.win == w && l.line == (dpa / 64 * 64 - (s.winRange w).1) / 64) = none → s.winSparse w = true →
    s.lockedOut (s.winPort w) p = true →
    ∃ t a, exec (.bridgeAccess p vdp hpa k tag data mask poison) s = .next t ∧ t.brg.acc = s.brg.acc ++ [a] ∧ a.id = s.brg.serial ∧ a.win = w ∧ a.host = p ∧
      a.dpa = dpa / 64 * 64 ∧ a.write = false ∧ a.units = [0] ∧ a.issued = false ∧ t.xbr = s.xbr) ∧
  (∀ (s : State) (p vdp hpa tag data mask : Nat) (k : MemOp) (poison : Bool), (s.isHost p = false ∨ s.takes p { src := p, dst := p, kind := .mem k } = false) →
    exec (.bridgeAccess p vdp hpa k tag data mask poison) s = .next s) ∧
  (∀ (s : State) (p vdp hpa tag data b dpa q a l : Nat) (k : MemOp) (e : Extent) (g : Region), s.isHost p = true →
    s.takes p { src := p, dst := p, kind := .mem k } = true → s.bindingAt p vdp = some b → s.dpaOf b hpa = some dpa → s.md.mode ≠ .quarantine →
    mget s.bnd.rst b ≠ some true → s.windowAt b dpa = none → s.extentAt b dpa = some e → s.curBit (BND_CFG_RO b) = false → s.bndRec b = some g →
    g.ttBase + (e.rofs + (dpa / 262144 - e.dpa)) ∈ s.bnd.tcache → k.kind = .wr → k.opc = .memWr →
    l = (g.ttBase + (e.rofs + (dpa / 262144 - e.dpa))) * 4096 + dpa % 262144 / 64 → s.poolOf l = .ok (q, a) →
    s.gateEval q (0x1000 + b) .write a 64 = .allow →
    ∃ t m, exec (.cxlMemAccess p vdp hpa k tag data false) s = .next t ∧
      t.voq p (128 + sliceOf l) (MsgKind.mem k).cls = s.voq p (128 + sliceOf l) (MsgKind.mem k).cls ++ [m] ∧ m.kind = .mem k ∧ m.line = l ∧
      m.tag = tag ∧ m.data = data ∧ m.bnd = some b ∧ t.regs = s.regs ∧ t.bnd = s.bnd) ∧
  (∀ (s : State) (p vdp hpa tag data mask b dpa w : Nat) (k : MemOp) (poison : Bool), s.isHost p = true → s.takes p { src := p, dst := p, kind := .mem k } = true →
    s.bindingAt p vdp = some b → s.dpaOf b hpa = some dpa → s.md.mode ≠ .quarantine → mget s.bnd.rst b ≠ some true → s.windowAt b dpa = some w → 16 ≤ w →
    w < 64 → hkReads k.kind = true →
    s.brg.lines.find? (fun l => l.win == w && l.line == (dpa / 64 * 64 - (s.winRange w).1) / 64) = none → s.lockedOut (s.winPort w) p = false →
    s.gateEval (s.winPort w) (0x3000 + w) .read (s.winAddr w (dpa / 64 * 64 - (s.winRange w).1)) (if s.winSparse w then s.winWidth w else 64) = .allow →
    s.winPort w < 128 → s.takes (s.winPort w) { src := 144, dst := s.winPort w, kind := .ioReq } = true → (∀ x ∈ s.brg.acc, x.id < s.brg.serial) →
    ∃ t a, exec (.bridgeAccess p vdp hpa k tag data mask poison) s = .next t ∧ a ∈ t.brg.acc ∧ a.id = s.brg.serial ∧ a.win = w ∧ a.host = p ∧ a.tag = tag ∧
      a.write = false ∧ a.issued = true ∧
      t.brg.acc.any (fun a => a.id == s.brg.serial && a.win == w && a.host == p && ! a.write && a.issued && a.dpa == dpa / 64 * 64) = true ∧
      (t.voq 144 (s.winPort w) MsgKind.ioReq.cls).any (fun m => m.tag == s.brg.serial && m.kind == .ioReq && m.len == s.winWidth w) = true) ∧
  (∀ (s : State) (p vdp hpa tag data mask b dpa w : Nat) (k : MemOp) (poison : Bool), s.isHost p = true → s.takes p { src := p, dst := p, kind := .mem k } = true →
    s.bindingAt p vdp = some b → s.dpaOf b hpa = some dpa → s.md.mode ≠ .quarantine → mget s.bnd.rst b ≠ some true → s.windowAt b dpa = some w → 16 ≤ w →
    w < 64 → k.opc = .memWr → hkWrites k.kind = true → s.curBit (LWB_WIN_CFG_POSTED w) = false → s.lockedOut (s.winPort w) p = false →
    s.gateEval (s.winPort w) (0x3000 + w) .write (s.winAddr w (dpa / 64 * 64 - (s.winRange w).1)) (if s.winSparse w then s.winWidth w else 64) = .allow →
    s.winPort w < 128 → s.takes (s.winPort w) { src := 144, dst := s.winPort w, kind := .ioPosted } = true →
    s.takes (s.winPort w) { src := 144, dst := s.winPort w, kind := .ioReq } = true → (∀ x ∈ s.brg.acc, x.id < s.brg.serial) →
    ∃ t, exec (.bridgeAccess p vdp hpa k tag data mask poison) s = .next t ∧
      t.brg.acc.any (fun a => a.id == s.brg.serial && a.win == w && a.host == p && a.write && a.issued && a.data == data) = true ∧
      t.brg.flush.any (fun f => f.accs == [s.brg.serial] && f.port == s.winPort w && f.fence == none) = true ∧
      (∀ l ∈ t.brg.lines, l.win ≠ w)) ∧
  (∀ (s : State) (p vdp hpa tag data mask b dpa w : Nat) (k : MemOp) (poison : Bool), s.isHost p = true → p < 128 →
    s.takes p { src := p, dst := p, kind := .mem k } = true →
    s.bindingAt p vdp = some b → s.dpaOf b hpa = some dpa → s.md.mode ≠ .quarantine → mget s.bnd.rst b ≠ some true → s.windowAt b dpa = some w → 16 ≤ w →
    w < 64 → k.opc = .memWr → hkWrites k.kind = true → s.curBit (LWB_WIN_CFG_POSTED w) = true → s.compact = false → s.lockedOut (s.winPort w) p = false →
    s.gateEval (s.winPort w) (0x3000 + w) .write (s.winAddr w (dpa / 64 * 64 - (s.winRange w).1)) (if s.winSparse w then s.winWidth w else 64) = .allow →
    s.winPort w < 128 → s.takes (s.winPort w) { src := 144, dst := s.winPort w, kind := .ioPosted } = true →
    s.takes p { src := 144, dst := p, kind := .ndr 0 } = true → (∀ x ∈ s.brg.acc, x.id < s.brg.serial) →
    ∃ t, exec (.bridgeAccess p vdp hpa k tag data mask poison) s = .next t ∧ (t.bwin w).posted = true ∧ t.brg.acc = s.brg.acc ∧
      (t.voq 144 p 0).any (fun m => m.tag == tag && ! m.poison) = true ∧ (t.voq 144 (s.winPort w) MsgKind.ioPosted.cls).any (fun m => m.tag == s.brg.serial) = true)

/-- The last unit of a far read gives the host its data, or poison and a count when it fails; a flush read that returns completes the write it
covers, or counts and records its failure, and completes the fence it is for; a unit past the completion time-out fails; each does nothing where
no access waits for it. Cites R272, R275. -/
def Obligations.FarTraffic : Prop :=
  (∀ (s : State) (id u v : Nat) (a : BAcc), s.brg.acc.find? (fun a => a.id == id) = some a → a.issued = true → a.units = [u] → a.write = false → a.mir = 0 →
    a.bad = false → a.host < 128 → s.takes a.host { src := 144, dst := a.host, kind := .ndr 0 } = true →
    ∃ t m, exec (.farUnitCompletion id u true v) s = .next t ∧ (∀ x ∈ t.brg.acc, x.id ≠ id) ∧ m ∈ t.voq 144 a.host 0 ∧ m.data = a.takeUnit u v ∧
      m.poison = false ∧ m.tag = a.tag ∧ t.regs = s.regs) ∧
  (∀ (s : State) (id u v : Nat) (a : BAcc), s.brg.acc.find? (fun a => a.id == id) = some a → a.issued = true → a.units = [u] → a.write = false → a.mir = 0 →
    a.win < 64 → a.host < 128 → s.takes a.host { src := 144, dst := a.host, kind := .ndr 0 } = true →
    ∃ t m, exec (.farUnitCompletion id u false v) s = .next t ∧ (∀ x ∈ t.brg.acc, x.id ≠ id) ∧ m ∈ t.voq 144 a.host 0 ∧ m.data = allOnes ∧
      m.poison = true ∧ m.tag = a.tag ∧ t.fld (LWB_WIN_ERR_RD_FAIL a.win) = min (s.fld (LWB_WIN_ERR_RD_FAIL a.win) + 1) (2 ^ (LWB_WIN_ERR_RD_FAIL a.win).width - 1)) ∧
  (∀ (s : State) (id u v : Nat) (ok : Bool), (∀ a, s.brg.acc.find? (fun a => a.id == id) = some a → a.issued = false ∨ u ∉ a.units) →
    exec (.farUnitCompletion id u ok v) s = .next s) ∧
  (∀ (s : State) (n id : Nat) (f : BFlush) (a : BAcc), s.brg.flush.find? (fun f => f.num == n) = some f → f.accs = [id] → f.fence = none → f.alerts = [] →
    s.brg.acc.find? (fun a => a.id == id) = some a → a.bad = false → a.mir = 0 → a.write = true → a.host < 128 → s.takes a.host { src := 144, dst := a.host, kind := .ndr 0 } = true →
    ∃ t m, exec (.flushReadComplete n true) s = .next t ∧ (∀ x ∈ t.brg.flush, x.num ≠ n) ∧ (∀ x ∈ t.brg.acc, x.id ≠ id) ∧ m ∈ t.voq 144 a.host 0 ∧
      m.kind = .ndr 0 ∧ m.tag = a.tag ∧ t.regs = s.regs) ∧
  (∀ (s : State) (n id : Nat) (f : BFlush) (a : BAcc), s.brg.flush.find? (fun f => f.num == n) = some f → f.accs = [id] → f.fence = none → f.alerts = [] →
    s.brg.acc.find? (fun a => a.id == id) = some a → a.mir = 0 → a.write = true → a.win < 64 →
    ∃ t, exec (.flushReadComplete n false) s = .next t ∧ (∀ x ∈ t.brg.acc, x.id ≠ id) ∧ t.bit (LWB_WIN_WFAIL_VALID a.win) = true ∧
      t.fld (LWB_WIN_ERR_WR_FAIL a.win) = min (s.fld (LWB_WIN_ERR_WR_FAIL a.win) + 1) (2 ^ (LWB_WIN_ERR_WR_FAIL a.win).width - 1)) ∧
  (∀ (s : State) (n w : Nat) (ok : Bool) (f : BFlush) (x : BFence), s.brg.flush.find? (fun f => f.num == n) = some f → f.accs = [] → f.fence = some w →
    f.alerts = [] → (s.bwin w).fence = some x →
    ∃ t, exec (.flushReadComplete n ok) s = .next t ∧ (t.bwin w).fence = none ∧ t.bit (LWB_WIN_FENCE_DONE w) = true ∧
      t.bit (LWB_WIN_FENCE_OK w) = (ok && ! x.failed)) ∧
  (∀ (s : State) (n : Nat) (ok : Bool), s.brg.flush.find? (fun f => f.num == n) = none → exec (.flushReadComplete n ok) s = .next s) ∧
  (∀ (s : State) (id u : Nat) (a : BAcc), s.brg.acc.find? (fun a => a.id == id) = some a → a.issued = true → a.units = [u] → a.write = false → a.mir = 0 →
    a.win < 64 → a.since + s.cur LWB_CFG_COMP_TMO ≤ s.time.frame →
    ∃ t, exec (.farUnitTimeout false id u) s = .next t ∧ (∀ x ∈ t.brg.acc, x.id ≠ id) ∧
      t.fld (LWB_WIN_ERR_RD_FAIL a.win) = min (s.fld (LWB_WIN_ERR_RD_FAIL a.win) + 1) (2 ^ (LWB_WIN_ERR_RD_FAIL a.win).width - 1)) ∧
  (∀ (s : State) (id u : Nat), (∀ a, s.brg.acc.find? (fun a => a.id == id) = some a → s.time.frame < a.since + s.cur LWB_CFG_COMP_TMO) →
    exec (.farUnitTimeout false id u) s = .next s) ∧
  (∀ (s : State) (id u v : Nat) (ok : Bool) (a : BAcc), s.brg.acc.find? (fun a => a.id == id) = some a → a.issued = true → u ∈ a.units → a.write = false →
    sdel a.units u ≠ [] →
    exec (.farUnitCompletion id u ok v) s = .next { s with
      brg.acc := s.brg.acc.map (fun b => if b.id = id then
        { a with units := sdel a.units u, bad := a.bad || ! ok, data := if ok then a.takeUnit u v else a.data } else b) }) ∧
  (∀ (s : State) (id u v : Nat) (ok : Bool) (a : BAcc), s.brg.acc.find? (fun a => a.id == id) = some a → a.issued = true → u ∈ a.units → a.write = true →
    exec (.farUnitCompletion id u ok v) s = .next (if ok then s else { s with
      brg.acc := s.brg.acc.map (fun b => if b.id = id then { a with bad := true } else b) })) ∧
  (∀ (s : State) (n : Nat) (ok : Bool) (f : BFlush), s.brg.flush.find? (fun f => f.num == n) = some f →
    ∃ t, exec (.flushReadComplete n ok) s = .next t ∧ (∀ x ∈ t.brg.flush, x.num ≠ n) ∧
      (f.alerts = [] → ∀ i ∈ f.accs, ∀ x ∈ t.brg.acc, x.id ≠ i) ∧ t.brg.lock = s.brg.lock) ∧
  (∀ (s : State) (n u : Nat) (f : BFlush), s.brg.flush.find? (fun f => f.num == n) = some f → f.since + s.cur LWB_CFG_COMP_TMO ≤ s.time.frame →
    ∃ t, exec (.farUnitTimeout true n u) s = .next t ∧ (∀ x ∈ t.brg.flush, x.num ≠ n) ∧ exec (.flushReadComplete n false) s = .next t) ∧
  (∀ (s : State) (id u : Nat) (a : BAcc), s.brg.acc.find? (fun a => a.id == id) = some a → a.issued = true → u ∈ a.units → a.write = false →
    a.since + s.cur LWB_CFG_COMP_TMO ≤ s.time.frame → sdel a.units u ≠ [] →
    exec (.farUnitTimeout false id u) s = .next { s with
      brg.acc := s.brg.acc.map (fun b => if b.id = id then { a with units := sdel a.units u, bad := true } else b) })

/-- A failed posted write is counted and recorded and fails the window's fence; a device's error message fails the far port's issued writes, and the
posted writes of the windows that have one; BRIDGE_FENCE and LWB_WIN_FENCE start a fence marked by the accesses before it, and are busy or
refused during one; GET_WINDOW reports a window to whom it may. Cites R275, R276, R277, R287. -/
def Obligations.BridgeFailuresAndFences : Prop :=
  (∀ (s : State) (w : Nat) (far : Option Nat), w < 64 →
    ∃ t, exec (.postedWriteFailure w far) s = .next t ∧ t.bit (LWB_WIN_WFAIL_VALID w) = true ∧
      t.fld (LWB_WIN_WFAIL_PWF_CNT w) = min (s.fld (LWB_WIN_WFAIL_PWF_CNT w) + 1) (2 ^ (LWB_WIN_WFAIL_PWF_CNT w).width - 1) ∧
      (∀ f, (s.bwin w).fence = some f → (t.bwin w).fence = some { f with failed := true }) ∧
      ((s.bwin w).fence = none → (t.bwin w).failed = true) ∧ t.brg.acc = s.brg.acc) ∧
  (∀ (s : State) (w : Nat) (far : Option Nat), 64 ≤ w → exec (.postedWriteFailure w far) s = .next s) ∧
  (∀ (s : State) (p : Nat) (far : Option Nat), (∀ w ∈ s.windowsOf p, (s.bwin w).posted = false) →
    ∃ t, exec (.deviceErrorMessage p far) s = .next t ∧ t = { s with
      brg.acc := s.brg.acc.map (fun a => if a.port = p ∧ a.write ∧ ! a.posted ∧ a.issued then { a with bad := true } else a) }) ∧
  (∀ (s : State) (p w : Nat), (s.windowsOf p).filter (fun w => (s.bwin w).posted) = [w] →
    ∃ t, exec (.deviceErrorMessage p none) s = .next t ∧ t.bit (LWB_WIN_WFAIL_VALID w) = true ∧
      t.fld (LWB_WIN_WFAIL_PWF_CNT w) = min (s.fld (LWB_WIN_WFAIL_PWF_CNT w) + 1) (2 ^ (LWB_WIN_WFAIL_PWF_CNT w).width - 1)) ∧
  (∀ (s : State) (rq : Rq) (p : Principal) (w : Nat), s.serves rq 0x0801 p = true → w < 64 → s.maySeeWindow p w = true → s.lcSlots ≠ [] →
    (s.bwin w).fence = none →
    ∃ t h f, exec (.bridgeFence rq w) s = .next t ∧ t.replied rq 0x0801 .inProgress s.time.frame [(2, h)] ∧ (t.bwin w).fence = some f ∧
      f.mark = s.brg.serial ∧ f.failed = (s.bwin w).failed ∧ f.handle = some h ∧ t.bit (LWB_WIN_FENCE_DONE w) = false) ∧
  (∀ (s : State) (rq : Rq) (p : Principal) (w : Nat), s.serves rq 0x0801 p = true → w < 64 → s.maySeeWindow p w = true →
    (s.bwin w).fence.isSome = true → ∃ t, exec (.bridgeFence rq w) s = .next t ∧ s.turnsAway t rq 0x0801 .busy) ∧
  (∀ (s : State) (b : Bus) (n : Nat) (w : Word), s.takesWrite b (LWB_WIN_FENCE n) = true → (s.busP b).isIn 11 = true → n < 64 → (s.bwin n).fence = none →
    ∃ t f, exec (.bridgeFenceWrite b n w) s = .next t ∧ (t.bwin n).fence = some f ∧ f.mark = s.brg.serial ∧ f.handle = none ∧
      t.bit (LWB_WIN_FENCE_DONE n) = false ∧ t.refused = s.refused) ∧
  (∀ (s : State) (b : Bus) (n : Nat) (w : Word), s.takesWrite b (LWB_WIN_FENCE n) = true → (s.busP b).isIn 11 = true → n < 64 →
    (s.bwin n).fence.isSome = true → ∃ t, exec (.bridgeFenceWrite b n w) s = .next t ∧ t.brg = s.brg ∧ t.refused = s.refused + 1) ∧
  (∀ (s : State) (rq : Rq) (p : Principal) (w : Nat), s.serves rq 0x0802 p = true → w < 64 → s.maySeeWindow p w = true →
    ∃ t, exec (.getWindow rq w) s = .next t ∧ t.replied rq 0x0802 .success s.time.frame [(4, (s.curWord (LWB_WIN_CFG w)).toNat % 2 ^ 30),
        (4, (s.word (LWB_WIN_WFAIL w)).toNat), (4, (s.word (LWB_WIN_ERR w)).toNat)] ∧ t = { s with out := t.out, mbx.sess := t.mbx.sess }) ∧
  (∀ (s : State) (rq : Rq) (p : Principal) (w : Nat), s.serves rq 0x0802 p = true → w < 64 → s.maySeeWindow p w = false →
    ∃ t, exec (.getWindow rq w) s = .next t ∧ s.turnsAway t rq 0x0802 .permission)

/-- LWB_LOCK acquires the free lock of a far port for a host whose window is on, waits in order for one that is held, and refuses where its rule says
so; a release frees it; a lock held for LOCK_TMO frames is taken away and counted. Cites R280, R282. -/
def Obligations.BridgeLocks : Prop :=
  (∀ (s : State) (b : Bus) (p : Nat) (w : Word), s.takesWrite b (LWB_LOCK p) = true → (s.busP b).isIn 11 = true → p < 128 → getBit w 7 = false →
    s.winOn (getBits w 0 6) = true → s.bndPort (s.winBnd (getBits w 0 6)) = p → s.lockUser p = false →
    mget s.brg.lock (s.winPort (getBits w 0 6)) = none →
    ∃ t, exec (.lockAcquire b p w) s = .next t ∧ t.bit (LWB_LOCK_HELD p) = true ∧ t.bit (LWB_LOCK_WAIT p) = false ∧
      mget t.brg.lock (s.winPort (getBits w 0 6)) = some { host := p, win := getBits w 0 6, since := s.time.frame, sent := false } ∧ t.brg.acc = s.brg.acc) ∧
  (∀ (s : State) (b : Bus) (p : Nat) (w : Word), s.takesWrite b (LWB_LOCK p) = true → (s.busP b).isIn 11 = true → p < 128 → getBit w 7 = false →
    s.winOn (getBits w 0 6) = true → s.bndPort (s.winBnd (getBits w 0 6)) = p → s.lockUser p = false →
    (mget s.brg.lock (s.winPort (getBits w 0 6))).isSome = true →
    ∃ t, exec (.lockAcquire b p w) s = .next t ∧ t.bit (LWB_LOCK_WAIT p) = true ∧
      t.brg = { s.brg with wait := s.brg.wait ++ [(s.winPort (getBits w 0 6), p, getBits w 0 6)] }) ∧
  (∀ (s : State) (b : Bus) (p : Nat) (w : Word), s.takesWrite b (LWB_LOCK p) = true → (s.busP b).isIn 11 = true → p < 128 → getBit w 7 = false →
    (s.winOn (getBits w 0 6) = false ∨ s.bndPort (s.winBnd (getBits w 0 6)) ≠ p ∨ s.lockUser p = true) →
    ∃ t, exec (.lockAcquire b p w) s = .next t ∧ t.bit (LWB_LOCK_REFUSED p) = true ∧ t.brg = s.brg) ∧
  (∀ (s : State) (b : Bus) (p far : Nat) (w : Word) (l : BLock), s.takesWrite b (LWB_LOCK p) = true → (s.busP b).isIn 11 = true → p < 128 →
    getBit w 6 = false → s.lockHeld p = some far → mget s.brg.lock far = some l → l.host = p → l.sent = false → s.brg.wait = [] → s.brg.acc = [] →
    (∀ n ∈ s.windowsOf far, (s.bwin n).fence = none) →
    ∃ t, exec (.lockRelease b p w) s = .next t ∧ t.bit (LWB_LOCK_HELD p) = false ∧ t.brg = { s.brg with lock := mdel s.brg.lock far } ∧ t.xbr = s.xbr) ∧
  (∀ (s : State) (b : Bus) (p : Nat) (w : Word), s.takesWrite b (LWB_LOCK p) = true → (s.busP b).isIn 11 = true → p < 128 →
    getBit w 6 = false → s.lockHeld p = none → ∃ t, exec (.lockRelease b p w) s = .next t ∧ t.brg = s.brg ∧ t.xbr = s.xbr ∧ t.refused = s.refused) ∧
  (∀ (s : State) (far : Nat) (l : BLock), mget s.brg.lock far = some l → l.since + s.cur LWB_CFG_LOCK_TMO ≤ s.time.frame → l.sent = false → l.host < 128 →
    s.brg.wait = [] → s.brg.acc = [] → (∀ n ∈ s.windowsOf far, (s.bwin n).fence = none) →
    ∃ t, exec (.lockTimeout far) s = .next t ∧ mget t.brg.lock far = none ∧ t.bit (LWB_LOCK_HELD l.host) = false ∧ t.bit (LWB_LOCK_TMO l.host) = true ∧
      t.fld (LWB_LOCK_TMO_CNT l.host) = min (s.fld (LWB_LOCK_TMO_CNT l.host) + 1) (2 ^ (LWB_LOCK_TMO_CNT l.host).width - 1)) ∧
  (∀ (s : State) (far : Nat), (∀ l, mget s.brg.lock far = some l → s.time.frame < l.since + s.cur LWB_CFG_LOCK_TMO) →
    exec (.lockTimeout far) s = .next s) ∧
  (∀ (s : State) (b : Bus) (p far : Nat) (w : Word) (l : BLock), s.takesWrite b (LWB_LOCK p) = true → (s.busP b).isIn 11 = true → p < 128 → getBit w 6 = false →
    s.lockHeld p = some far → mget s.brg.lock far = some l → l.host = p → (∀ x ∈ s.brg.wait, x.2.1 ≠ p) →
    ∃ t, exec (.lockRelease b p w) s = .next t ∧ t.bit (LWB_LOCK_HELD p) = false ∧ (∀ k, mget t.brg.lock far = some k → k.host ≠ p) ∧
      ((∀ x ∈ s.brg.wait, x.1 ≠ far) → mget t.brg.lock far = none) ∧ t.refused = s.refused) ∧
  (∀ (s : State) (far : Nat) (l : BLock), mget s.brg.lock far = some l → l.since + s.cur LWB_CFG_LOCK_TMO ≤ s.time.frame → l.host < 128 →
    (∀ x ∈ s.brg.wait, x.2.1 ≠ l.host) →
    ∃ t, exec (.lockTimeout far) s = .next t ∧ t.bit (LWB_LOCK_HELD l.host) = false ∧ t.bit (LWB_LOCK_TMO l.host) = true ∧
      t.fld (LWB_LOCK_TMO_CNT l.host) = min (s.fld (LWB_LOCK_TMO_CNT l.host) + 1) (2 ^ (LWB_LOCK_TMO_CNT l.host).width - 1) ∧
      ((∀ x ∈ s.brg.wait, x.1 ≠ far) → mget t.brg.lock far = none)) ∧
  (∀ (s : State) (b : Bus) (p far n : Nat) (w : Word) (l : BLock), s.takesWrite b (LWB_LOCK p) = true → (s.busP b).isIn 11 = true → p < 128 → getBit w 6 = false →
    s.lockHeld p = some far → mget s.brg.lock far = some l → l.host = p → l.sent = false → s.winOn n = true →
    s.brg.wait.head? = some (far, p + 1, n) → (∀ x ∈ s.brg.wait, x.2.1 ≠ p) → p + 1 < 128 →
    ∃ t, exec (.lockRelease b p w) s = .next t ∧ t.bit (LWB_LOCK_HELD p) = false ∧ t.bit (LWB_LOCK_HELD (p + 1)) = true ∧
      t.bit (LWB_LOCK_WAIT (p + 1)) = false ∧ (mget t.brg.lock far).any (fun k => k.host == p + 1 && k.win == n && k.since == s.time.frame) = true)

/-- A doorbell write raises the window's interrupt and drops the prefetched lines of its far port, an upstream write below the doorbells is dropped
and counted, an upstream read completes as all ones, INTx levels and side-band alerts reach the windows that enable them, a prefetch fill holds
its lines or is discarded, a mirror period starts the transfers that are enabled, and a write of MIR_OUT is kept for it. Cites R278, R283, R284,
R285. -/
def Obligations.BridgeInterruptsAndMirrors : Prop :=
  (∀ (s : State) (p a : Nat), s.windowsOf p = [] → exec (.upstreamWrite p a) s = .next s) ∧
  (∀ (s : State) (p a w : Nat), s.windowsOf p ≠ [] → a = s.fld LWB_DB_LO_ADDR * 4096 + s.fld LWB_DB_HI_ADDR * 2 ^ 32 + 4 * w → w < 64 → s.winOn w = true →
    s.curBit (LWB_WIN_IRQ_MSI_EN w) = true → s.bit (LWB_WIN_MIR_CTL_IN_EN w) = false →
    ∃ t, exec (.upstreamWrite p a) s = .next t ∧ t.fld (LWB_WIN_IRQ_IRQ_CNT w) = (s.fld (LWB_WIN_IRQ_IRQ_CNT w) + 1) % 2 ^ (LWB_WIN_IRQ_IRQ_CNT w).width ∧
      (s.targetExists (s.bndPort (s.winBnd w)) = true → t.bit (pendFld (s.bndPort (s.winBnd w)) (s.cur (LWB_WIN_IRQ_SRC w))) = true) ∧
      (∀ l ∈ t.brg.lines, s.winPort l.win ≠ s.winPort w) ∧ t.brg.acc = s.brg.acc) ∧
  (∀ (s : State) (p a : Nat), s.windowsOf p ≠ [] → a < s.fld LWB_DB_LO_ADDR * 4096 + s.fld LWB_DB_HI_ADDR * 2 ^ 32 →
    ∃ t, exec (.upstreamWrite p a) s = .next t ∧ t.fld LWB_STAT_UP_DROP = min (s.fld LWB_STAT_UP_DROP + 1) (2 ^ LWB_STAT_UP_DROP.width - 1) ∧
      t = { s with regs := t.regs }) ∧
  (∀ (s : State) (p tag : Nat), s.windowsOf p ≠ [] → p < 128 → s.takes p { src := 144, dst := p, kind := .ioCpl } = true →
    ∃ t, exec (.upstreamRead p tag) s = .next t ∧
      t.voq 144 p 1 = s.voq 144 p 1 ++ [{ src := 144, dst := p, kind := .ioCpl, tag := tag, data := allOnes, len := 64, ord := s.xbr.serial }] ∧
      t = { s with xbr.voq := t.xbr.voq, xbr.serial := s.xbr.serial + 1 }) ∧
  (∀ (s : State) (p tag : Nat), s.windowsOf p = [] → exec (.upstreamRead p tag) s = .next s) ∧
  (∀ (s : State) (p l w : Nat), s.windowsOf p ≠ [] → l < 4 → (s.windowsOf p).filter (fun w => s.curBit (LWB_WIN_IRQ_INTX_EN w)) = [w] →
    s.bit (LWB_WIN_MIR_CTL_IN_EN w) = false →
    ∃ t, exec (.intxMessage p l true) s = .next t ∧ t.brg.intx = sadd s.brg.intx (4 * p + l) ∧
      s.bndPort (s.winBnd w) * 64 + s.cur (LWB_WIN_IRQ_SRC w) ∈ t.evt.level ∧
      t.fld (LWB_WIN_IRQ_IRQ_CNT w) = (s.fld (LWB_WIN_IRQ_IRQ_CNT w) + 1) % 2 ^ (LWB_WIN_IRQ_IRQ_CNT w).width) ∧
  (∀ (s : State) (p l : Nat), s.windowsOf p ≠ [] → l < 4 →
    ∃ t, exec (.intxMessage p l false) s = .next t ∧ t.brg.intx = sdel s.brg.intx (4 * p + l) ∧ (∀ k ∈ t.evt.level, k ∈ s.evt.level) ∧
      t = { s with brg.intx := t.brg.intx, evt.level := t.evt.level }) ∧
  (∀ (s : State) (g k : Nat), k < 4 → (s.windowsOf (4 * g + k)).filter (fun w => s.curBit (LWB_WIN_IRQ_SB_EN w)) ≠ [] →
    ∃ t f, exec (.sidebandAlert g) s = .next t ∧ f ∈ t.brg.flush ∧ f.port = 4 * g + k ∧
      f.alerts = (s.windowsOf (4 * g + k)).filter (fun w => s.curBit (LWB_WIN_IRQ_SB_EN w)) ∧ f.fence = none) ∧
  (∀ (s : State) (n : Nat) (d : List Nat) (r : BRun), s.brg.runs.find? (fun r => r.num == n) = some r → r.bad = false →
    s.brg.lines.length + r.count ≤ 1024 →
    ∃ t, exec (.prefetchFill n d true) s = .next t ∧ (∀ x ∈ t.brg.runs, x.num ≠ n) ∧
      (∀ i, i < r.count → ∃ l ∈ t.brg.lines, l.win = r.win ∧ l.line = r.line + i ∧ l.data = r.toLine (d.getD i 0) ∧ l.used = false)) ∧
  (∀ (s : State) (n : Nat) (d : List Nat) (r : BRun), s.brg.runs.find? (fun r => r.num == n) = some r → r.bad = true →
    ∃ t, exec (.prefetchFill n d true) s = .next t ∧ t.brg.lines = s.brg.lines ∧
      t.fld (LWB_WIN_PF_PF_DISC r.win) = min (s.fld (LWB_WIN_PF_PF_DISC r.win) + r.count) (2 ^ (LWB_WIN_PF_PF_DISC r.win).width - 1)) ∧
  (∀ (s : State) (w : Nat), w < 64 → s.winOn w = true → (s.bwin w).mirLast = none → s.bit (LWB_WIN_MIR_CTL_IN_EN w) = false →
    s.bit (LWB_WIN_MIR_CTL_OUT_EN w) = false →
    ∃ t, exec (.mirrorPeriod w) s = .next t ∧ t.bwin w = { s.bwin w with mirLast := some s.time.frame } ∧ t = { s with brg.win := t.brg.win }) ∧
  (∀ (s : State) (w : Nat), 16 ≤ w → w < 64 → s.winOn w = true → (s.bwin w).mirLast = none → s.bit (LWB_WIN_MIR_CTL_IN_EN w) = true →
    s.bit (LWB_WIN_MIR_CTL_OUT_EN w) = false → s.mirBusy w 1 = false → s.lockedOut (s.winPort w) (s.bndPort (s.winBnd w)) = true →
    ∃ t a, exec (.mirrorPeriod w) s = .next t ∧ t.brg.acc = s.brg.acc ++ [a] ∧ a.win = w ∧ a.mir = 1 ∧ a.write = false) ∧
  (∀ (s : State) (w : Nat), (64 ≤ w ∨ s.winOn w = false) → exec (.mirrorPeriod w) s = .next s) ∧
  (∀ (s : State) (b : Bus) (n : Nat) (w : Word), s.takesWrite b (LWB_WIN_MIR_OUT_HI n) = true → (s.busP b).isIn 11 = true → n < 64 →
    ∃ t, exec (.mirrorOutWrite b n w) s = .next t ∧ t.bwin n = { s.bwin n with outPend := true } ∧ t.word (LWB_WIN_MIR_OUT_HI n) = w ∧
      t = { s with regs := t.regs, latch := t.latch, brg.win := t.brg.win }) ∧
  (∀ (s : State) (w : Nat), 16 ≤ w → w < 64 → s.winOn w = true → (∀ f, (s.bwin w).mirLast = some f → f + s.cur LWB_CFG_MIR_PER ≤ s.time.frame) →
    s.bit (LWB_WIN_MIR_CTL_IN_EN w) = true → s.bit (LWB_WIN_MIR_CTL_OUT_EN w) = false → s.mirBusy w 1 = false →
    s.lockedOut (s.winPort w) (s.bndPort (s.winBnd w)) = false →
    s.gateEval (s.winPort w) (0x3000 + w) .read (s.winAddr w (8 * s.fld (LWB_WIN_MIR_CTL_IN_OFS w))) (s.winWidth w) = .allow →
    s.winPort w < 128 → s.takes (s.winPort w) { src := 144, dst := s.winPort w, kind := .ioReq } = true → (∀ x ∈ s.brg.acc, x.id < s.brg.serial) →
    ∃ t, exec (.mirrorPeriod w) s = .next t ∧ (t.bwin w).mirLast = some s.time.frame ∧
      t.brg.acc.any (fun a => a.id == s.brg.serial && a.win == w && a.mir == 1 && ! a.write && a.issued) = true ∧
      (t.voq 144 (s.winPort w) MsgKind.ioReq.cls).any (fun m => m.tag == s.brg.serial && m.len == s.winWidth w) = true) ∧
  (∀ (s : State) (w : Nat), 16 ≤ w → w < 64 → s.winOn w = true → (∀ f, (s.bwin w).mirLast = some f → f + s.cur LWB_CFG_MIR_PER ≤ s.time.frame) →
    s.bit (LWB_WIN_MIR_CTL_IN_EN w) = false → s.bit (LWB_WIN_MIR_CTL_OUT_EN w) = true → (s.bwin w).outPend = true → s.mirBusy w 2 = false →
    s.lockedOut (s.winPort w) (s.bndPort (s.winBnd w)) = false →
    s.gateEval (s.winPort w) (0x3000 + w) .write (s.winAddr w (8 * s.fld (LWB_WIN_MIR_CTL_OUT_OFS w))) (s.winWidth w) = .allow →
    s.winPort w < 128 → s.takes (s.winPort w) { src := 144, dst := s.winPort w, kind := .ioPosted } = true → (∀ x ∈ s.brg.acc, x.id < s.brg.serial) →
    ∃ t, exec (.mirrorPeriod w) s = .next t ∧ (t.bwin w).mirLast = some s.time.frame ∧ (t.bwin w).outPend = false ∧
      t.brg.acc.any (fun a => a.id == s.brg.serial && a.win == w && a.mir == 2 && a.write && a.issued &&
        a.data == s.fld64 (LWB_WIN_MIR_OUT_LO_VALUE w) (LWB_WIN_MIR_OUT_HI_VALUE w)) = true)

/-- TENANT_ESTABLISH, ZEROISE, MAP_CKID and ENABLE_TENANT are accepted for the Daybreak of R36 with exactly that effect due, or refused by their
rules; TSP key programming replaces the keys of a slot with nothing backed by it; INTEGRITY_QUERY answers the region's own tenant. The
derivations are uninterpreted (log entry 4). Cites R193, R195, R196, R211. -/
def Obligations.TenantKeys : Prop :=
  (∀ (s : State) (rq : Rq) (p : Principal) (n secret verifier : Nat), s.serves rq 0x0500 p = true → s.admitsTenants = true → s.ident.life = .owned →
    1 ≤ n → n ≤ 1023 → s.bit (SEC_SLOT_ENABLED n) = true → (∀ m, p = .tenant m → m = n) → s.slotState n = .empty → s.establishing n = false →
    ∃ t, exec (.tenantEstablish rq n secret verifier) s = .next t ∧ t.replied rq 0x0500 .success s.effFrame [] ∧
      t = { s with
        out := t.out, mbx.sess := t.mbx.sess,
        due := s.due ++ [Due.mk s.effFrame false false false none (some (rqRef rq 0x0500)) (.establish n verifier (Config.hkdf secret s.ident.digest "IASUM DATA" 32)
          (Config.hkdf secret s.ident.digest "IASUM TWEAK" 32) (Config.hkdf secret s.ident.digest "IASUM MAC" 32) (Config.hkdf secret s.ident.digest "IASUM CONSENT" 48))] }) ∧
  (∀ (s : State) (rq : Rq) (p : Principal) (n secret verifier : Nat), s.serves rq 0x0500 p = true → (s.admitsTenants = false ∨ s.ident.life ≠ .owned) →
    ∃ t, exec (.tenantEstablish rq n secret verifier) s = .next t ∧ s.turnsAway t rq 0x0500 .state) ∧
  (∀ (s : State) (rq : Rq) (p : Principal) (n : Nat), s.serves rq 0x0501 p = true → 1 ≤ n → n ≤ 1023 → (∀ m, p = .tenant m → m = n) →
    (p = .owner → s.tenantRegions n = 0) → s.slotState n ≠ .zeroising → s.lcSlots ≠ [] →
    ∃ t h, exec (.zeroise rq n) s = .next t ∧ t.replied rq 0x0501 .inProgress s.effFrame [(2, h)] ∧
      t = { s with
        out := t.out, mbx.sess := t.mbx.sess, mbx.lc := t.mbx.lc, fresh := s.fresh + 1,
        due := s.due ++ [Due.mk s.effFrame false false false (some h) none (.zeroise n)] }) ∧
  (∀ (s : State) (rq : Rq) (p : Principal) (n : Nat), s.serves rq 0x0501 p = true → 1 ≤ n → n ≤ 1023 → p = .owner → s.tenantRegions n ≠ 0 →
    ∃ t, exec (.zeroise rq n) s = .next t ∧ s.turnsAway t rq 0x0501 .busy) ∧
  (∀ (s : State) (rq : Rq) (p : Principal) (b k n : Nat) (r : Region), s.serves rq 0x0502 p = true → b < 4096 → s.bndValid b = true →
    s.bndRec b = some r → r.tenant = n → n ≠ 0 →
    ∃ t, exec (.mapCkid rq b k n) s = .next t ∧ t.replied rq 0x0502 .success s.effFrame [] ∧
      t = { s with
        out := t.out, mbx.sess := t.mbx.sess,
        due := s.due ++ [Due.mk s.effFrame false false false none (some (rqRef rq 0x0502)) (.mapCkid b k n)] }) ∧
  (∀ (s : State) (n b c secret m : Nat) (x : Spdm) (k : KeySlot), mget s.mbx.spdm n = some x → mget s.bnd.ckid (b * 65536 + c) = some m →
    mget s.sec.slots m = some k → k.st = .established → x.mutualAuth = true → x.key = k.verifier → s.tenantBacked m = false →
    exec (.tspKeyProgramming n b c secret) s = .next { s with
      out := .spdm n true :: s.out,
      due := s.due ++ [Due.mk (s.time.frame + 1) false false true none none (.rekey m (Config.hkdf secret s.ident.digest "IASUM DATA" 32)
        (Config.hkdf secret s.ident.digest "IASUM TWEAK" 32) (Config.hkdf secret s.ident.digest "IASUM MAC" 32) (Config.hkdf secret s.ident.digest "IASUM CONSENT" 48))] }) ∧
  (∀ (s : State) (n b c secret m : Nat) (x : Spdm) (k : KeySlot), mget s.mbx.spdm n = some x → mget s.bnd.ckid (b * 65536 + c) = some m →
    mget s.sec.slots m = some k → (k.st ≠ .established ∨ x.mutualAuth = false ∨ x.key ≠ k.verifier ∨ s.tenantBacked m = true) →
    exec (.tspKeyProgramming n b c secret) s = .next { s with out := .spdm n false :: s.out }) ∧
  (∀ (s : State) (rq : Rq) (g : Nat) (r : Region) (i : Integ), s.serves rq 0x0503 (.tenant r.tenant) = true → mget s.bnd.regions g = some r →
    mget s.sec.integ g = some i →
    ∃ t, exec (.integrityQuery rq g) s = .next t ∧
      t.replied rq 0x0503 .success s.time.frame [(4, i.count), (5, i.ofs), (1, i.level), (8, i.frame)] ∧
      t = { s with out := t.out, mbx.sess := t.mbx.sess }) ∧
  (∀ (s : State) (rq : Rq) (p : Principal) (g : Nat) (r : Region), s.serves rq 0x0503 p = true → mget s.bnd.regions g = some r → p ≠ .tenant r.tenant →
    ∃ t, exec (.integrityQuery rq g) s = .next t ∧ s.turnsAway t rq 0x0503 .permission) ∧
  (∀ (s : State) (rq : Rq) (p : Principal) (n e : Nat), s.serves rq 0x0504 p = true → 1 ≤ n → n ≤ 1023 → e ≤ 1 → s.lkLocked = false →
    ∃ t, exec (.enableTenant rq n e) s = .next t ∧ t.replied rq 0x0504 .success s.effFrame [] ∧
      t = { s with
        out := t.out, mbx.sess := t.mbx.sess,
        due := s.due ++ [Due.mk s.effFrame false false false none (some (rqRef rq 0x0504)) (.enableTenant n (e == 1))] })

/-- GROUP_MEMBERSHIP stages the group's registers; a peer's region list is held, with the difference of host-slot maps; a peer becomes reachable or
unreachable with its links; a held remote request past the home's time-out is answered as poison. Cites R426, R428, R430, R433. -/
def Obligations.GroupsAndPeers : Prop :=
  (∀ (s : State) (rq : Rq) (p : Principal) (group member : Nat) (peers : List (Nat × Nat)), s.serves rq 0x0E00 p = true →
    (s.mbx.lock = none ∨ s.mbx.lock = some rq.sess) → group ≤ 65535 → member ≤ 7 → (∀ x ∈ peers, x.1 ≤ 7) →
    ∃ t, exec (.groupMembership rq group member peers) s = .next t ∧ t.replied rq 0x0E00 .success s.time.frame [] ∧
      t.word GRP_CFG = mix (shMaskAt GRP_CFG) (s.word GRP_CFG)
        (BitVec.ofNat 32 (group + member * 2 ^ 16 + (if peers.isEmpty then 0 else 2 ^ 19))) ∧
      (∀ m, m < 8 → t.word (GRP_PEER m) = mix (shMaskAt (GRP_PEER m)) (s.word (GRP_PEER m)) (if peers.any (fun x => x.1 == m) then 1 else 0)) ∧
      (∀ m k d, m < 8 → k < 12 → peers.find? (fun x => x.1 == m) = some (m, d) →
        t.word (GRP_PEER_DIG m k) = mix (shMaskAt (GRP_PEER_DIG m k)) (s.word (GRP_PEER_DIG m k)) (BitVec.ofNat 32 (d / 2 ^ (32 * k)))) ∧
      t = { s with out := t.out, mbx.sess := t.mbx.sess, mbx.lock := some rq.sess, regs := t.regs, dirty := t.dirty }) ∧
  (∀ (s : State) (rq : Rq) (p : Principal) (group member n : Nat) (peers : List (Nat × Nat)), s.serves rq 0x0E00 p = true → s.mbx.lock = some n →
    n ≠ rq.sess → ∃ t, exec (.groupMembership rq group member peers) s = .next t ∧ s.losesLock t rq 0x0E00) ∧
  (∀ (s : State) (m : Nat) (l : List RemRegion), m < 8 → bitOn (s.fld GRP_STAT_EXPEL) m = false → s.curBit (GRP_PEER_VALID m) = true →
    exec (.regionListReceived m l true) s = .next { s with grp.lists := mputD s.grp.lists m [] l, grp.mapDiff := sdel s.grp.mapDiff m }) ∧
  (∀ (s : State) (m : Nat) (l : List RemRegion), m < 8 → bitOn (s.fld GRP_STAT_EXPEL) m = false → s.curBit (GRP_PEER_VALID m) = true →
    ∃ t, exec (.regionListReceived m l false) s = .next t ∧ t.bit GRP_STAT_MAPDIFF = true ∧
      t = { s with regs := t.regs, grp.lists := mputD s.grp.lists m [] l, grp.mapDiff := sadd s.grp.mapDiff m }) ∧
  (∀ (s : State) (m : Nat) (l : List RemRegion) (same : Bool), (8 ≤ m ∨ bitOn (s.fld GRP_STAT_EXPEL) m = true ∨ s.curBit (GRP_PEER_VALID m) = false) →
    exec (.regionListReceived m l same) s = .next s) ∧
  (∀ (s : State) (m : Nat), m < 8 → s.reach m = false → s.carriedTo m = true → s.grp.held = [] → s.grp.xfers = [] →
    ∃ t, exec (.peerReachable m) s = .next t ∧ t.reach m = true ∧
      t = { s with regs := t.regs, out := .peer 0 m (s.ownList.flatMap (fun r => [r.id, r.tenant, r.cls, r.size, r.ttBase])) :: s.out }) ∧
  (∀ (s : State) (m : Nat), (8 ≤ m ∨ s.reach m = true ∨ s.carriedTo m = false) → exec (.peerReachable m) s = .next s) ∧
  (∀ (s : State) (m : Nat), m < 8 → s.reach m = true → s.carriedTo m = false → (∀ i, i < 8 → s.peerOf i ≠ some m) → s.home.tt = [] →
    ∃ t, exec (.peerUnreachable m) s = .next t ∧ t.reach m = false ∧
      t = { s with regs := t.regs, grp.pairs := s.grp.pairs.filter (fun e => e.1 % 65536 != m) }) ∧
  (∀ (s : State) (m : Nat), (8 ≤ m ∨ s.reach m = false ∨ s.carriedTo m = true) → exec (.peerUnreachable m) s = .next s) ∧
  (∀ (s : State), (∀ h ∈ s.grp.held, s.time.frame ≤ h.since + s.cur HOM_CFG_TMO) → exec .remoteRequestTimeout s = .next s) ∧
  (∀ (s : State) (h : Held), s.grp.held = [h] → h.since + s.cur HOM_CFG_TMO < s.time.frame → h.req.src < 128 → h.req.bnd < 4096 →
    s.takes h.req.src { src := 128, dst := h.req.src, kind := .ndr 0 } = true → hkReads h.req.kind = true →
    ∃ t m, exec .remoteRequestTimeout s = .next t ∧ t.grp.held = [] ∧ t.fld GRP_REMOTE_PSN_CNT = s.oneMore GRP_REMOTE_PSN_CNT ∧
      m ∈ t.voq (128 + sliceOf h.req.line) h.req.src 0 ∧ m.tag = h.req.tag ∧ m.poison = true ∧ m.data = allOnes) ∧
  (∀ (s : State) (m : Nat), m < 8 → s.reach m = false → s.carriedTo m = true →
    ∃ t, exec (.peerReachable m) s = .next t ∧ t.reach m = true ∧ (∀ h ∈ t.grp.held, h.member ≠ m) ∧
      .peer 0 m (s.ownList.flatMap (fun r => [r.id, r.tenant, r.cls, r.size, r.ttBase])) ∈ t.out) ∧
  (∀ (s : State) (m : Nat), m < 8 → s.reach m = true → s.carriedTo m = false →
    ∃ t, exec (.peerUnreachable m) s = .next t ∧ t.reach m = false ∧ (∀ k, k ≠ m → k < 8 → t.reach k = s.reach k) ∧
      t.grp.pairs = s.grp.pairs.filter (fun e => e.1 % 65536 != m)) ∧
  (∀ (s : State),
    ∃ t, exec .remoteRequestTimeout s = .next t ∧ (∀ h ∈ t.grp.held, t.time.frame ≤ h.since + t.cur HOM_CFG_TMO) ∧
      (∀ h ∈ t.grp.held, h ∈ s.grp.held) ∧ t.time = s.time)

/-- TRANSFER_HOME is accepted as a long command for its named frame, or refused; the peer's ready and confirm messages move its transfers alone; a
commit message brings the region's record and trees; FENCE_TOKEN that passes its checks is due at the Daybreak of R36 and one that does not is
counted. What a copy carries is log entry 41. Cites R435, R439, R440. -/
def Obligations.TransfersAndFences : Prop :=
  (∀ (s : State) (rq : Rq) (p : Principal) (g m f : Nat) (r : Region) (ok : Bool), s.serves rq 0x0E02 p = true → s.bit GRP_STAT_YIELD = false →
    mget s.bnd.regions g = some r → m < 8 → s.curBit (GRP_PEER_VALID m) = true → s.namedRefusal f = none → (r.cls = 0 ∨ ok = true) → r.deleting = false →
    s.lcSlots ≠ [] → (∀ x ∈ s.grp.xfers, x.region ≠ g) →
    ∃ t h, exec (.transferHome rq g m f ok) s = .next t ∧ t.replied rq 0x0E02 .inProgress f [(2, h)] ∧
      t = { s with
        out := t.out, mbx.sess := t.mbx.sess, mbx.lc := t.mbx.lc, fresh := s.fresh + 1,
        grp.xfers := s.grp.xfers ++ [Xfer.mk g m f h false false .copy r] }) ∧
  (∀ (s : State) (rq : Rq) (p : Principal) (g m f : Nat) (ok : Bool), s.serves rq 0x0E02 p = true → s.bit GRP_STAT_YIELD = true →
    ∃ t, exec (.transferHome rq g m f ok) s = .next t ∧ s.turnsAway t rq 0x0E02 .state) ∧
  (∀ (s : State) (g m : Nat), ∃ t, exec (.transferReadyReceived g m) s = .next t ∧
    (∀ x ∈ t.grp.xfers, x.region = g → x.peer = m → x.ready = true) ∧ (∀ x ∈ s.grp.xfers, (x.region ≠ g ∨ x.peer ≠ m) → x ∈ t.grp.xfers) ∧
    t = { s with grp.xfers := t.grp.xfers }) ∧
  (∀ (s : State) (g m : Nat), ∃ t, exec (.transferConfirmReceived g m) s = .next t ∧
    (∀ x ∈ t.grp.xfers, x.region = g → x.peer = m → x.phase ≠ .committed) ∧ (∀ x ∈ s.grp.xfers, x.phase ≠ .committed → x ∈ t.grp.xfers) ∧
    t = { s with grp.xfers := t.grp.xfers }) ∧
  (∀ (s : State) (m q u : Nat) (r : RemRegion) (fr : Bool) (root : List (Nat × Nat)) (en : List (Nat × Nat × Nat))
    (lv : List (Nat × Nat × List (Nat × Nat))) (nd : List (Nat × List (Nat × Nat))) (mc : List (Nat × Nat)), m < 8 → bitOn (s.fld GRP_STAT_EXPEL) m = false →
    mget s.bnd.regions r.id = none → (∀ x ∈ s.grp.incoming, x.id ≠ r.id) →
    ∃ t x, exec (.commitMessageReceived m r q u fr root en lv nd mc) s = .next t ∧ x.id = r.id ∧ x.peer = m ∧ x.root = root ∧ x.entries = en ∧
      x.leaves = lv ∧ x.nodes = nd ∧ x.macs = mc ∧ x.rec_.tenant = r.tenant ∧ x.rec_.cls = r.cls ∧ x.rec_.size = r.size ∧ x.rec_.ttBase = r.ttBase ∧
      t = { s with out := .peer 4 m [r.id] :: s.out, grp.incoming := s.grp.incoming ++ [x] }) ∧
  (∀ (s : State) (m q u : Nat) (r : RemRegion) (fr : Bool) (root : List (Nat × Nat)) (en : List (Nat × Nat × Nat))
    (lv : List (Nat × Nat × List (Nat × Nat))) (nd : List (Nat × List (Nat × Nat))) (mc : List (Nat × Nat)), (8 ≤ m ∨ bitOn (s.fld GRP_STAT_EXPEL) m = true) →
    exec (.commitMessageReceived m r q u fr root en lv nd mc) s = .next s) ∧
  (∀ (s : State) (rq : Rq) (p : Principal) (k : FenceTok), s.serves rq 0x0E01 p = true → s.fenceOk k = true →
    ∃ t, exec (.fenceToken rq k) s = .next t ∧ t.replied rq 0x0E01 .success s.effFrame [] ∧
      t.fld GLB_TOK_STAT_TOK_OK = s.oneMore GLB_TOK_STAT_TOK_OK ∧
      t = { s with
        out := t.out, mbx.sess := t.mbx.sess, regs := t.regs, ident.nonces := mdel s.ident.nonces 0x20,
        due := s.due ++ [Due.mk s.effFrame false false false none (some (rqRef rq 0x0E01)) (.fence k.epoch k.expel)] }) ∧
  (∀ (s : State) (rq : Rq) (p : Principal) (k : FenceTok), s.serves rq 0x0E01 p = true → s.fenceOk k = false →
    ∃ t, exec (.fenceToken rq k) s = .next t ∧ t.replied rq 0x0E01 .token s.time.frame [] ∧
      t.fld GLB_TOK_STAT_TOK_REJ = s.oneMore GLB_TOK_STAT_TOK_REJ ∧
      t = { s with out := t.out, mbx.sess := t.mbx.sess, regs := t.regs, ident.nonces := mdel s.ident.nonces 0x20 }) ∧
  (∀ (s : State) (k : FenceTok), s.fenceOk k = true → s.epochAhead < k.epoch ∧ k.group = s.cur GRP_CFG_GROUP ∧ k.member = s.cur GRP_CFG_MEMBER ∧
    bitOn k.expel (s.cur GRP_CFG_MEMBER) = false ∧ k.signer ∈ s.ident.fmKeys ∧ k.signer ≠ 0 ∧ k.sigOk = true)

/-- An ISL in Keying or Up sends, in this order, a replayed cell, a control cell when nothing is to go or the replay span is full, or a payload cell
that it keeps for replay; a corrupt cell makes a NAK due; a control cell updates flow control; a payload cell in sequence advances NEXT_RX, a
duplicate is counted and dropped. Cites R97, R99. -/
def Obligations.IslCells : Prop :=
  (∀ (s : State) (i : Nat), i < 8 → (s.islSt i = 3 ∨ s.islSt i = 4) → (s.islAt i).rpl = none → s.islSpan i ≠ 1024 → (s.islAt i).tx = [] →
    ∃ t c b, exec (.islCellSend i) s = .next t ∧ t.out = .cell i c b :: s.out ∧
      b = scrambled (2 ^ s.fld (PRT_LINK_STAT_WIDTH (s.cur (ISL_CFG_PORT i)))) (s.islAt i).sinceMark (cellBlock c (s.txKey i) (s.islAt i).txc) ∧ c.type = 0 ∧ c.seq = 0 ∧ c.parts = [] ∧
      c.ack = seq (s.fld (ISL_RX_SEQ_NEXT_RX i) + 4095) ∧ c.ackValid = (s.islAt i).acked ∧ c.nak = (s.islAt i).nakDue ∧
      t.fld (ISL_SEQ_NEXT_TX i) = s.fld (ISL_SEQ_NEXT_TX i) ∧ (t.islAt i).rp = (s.islAt i).rp) ∧
  (∀ (s : State) (i : Nat) (m : Msg), i < 8 → (s.islSt i = 3 ∨ s.islSt i = 4) → (s.islAt i).rpl = none → s.islSpan i ≠ 1024 →
    (s.islAt i).tx = [(m, msgSlots m)] → m.whole = true → 1 ≤ msgSlots m → msgSlots m ≤ s.islSlots i → s.mayBegin i m = true →
    ∃ t c b, exec (.islCellSend i) s = .next t ∧ t.out = .cell i c b :: s.out ∧
      b = scrambled (2 ^ s.fld (PRT_LINK_STAT_WIDTH (s.cur (ISL_CFG_PORT i)))) (s.islAt i).sinceMark (cellBlock c (s.txKey i) (s.islAt i).txc) ∧ c.type = 1 ∧ c.rpl = false ∧ c.seq = s.fld (ISL_SEQ_NEXT_TX i) ∧
      c.parts = [IslPart.mk m.kind.cls (msgSlots m) (some m) true m.poison (slotData m 0 (msgSlots m))] ∧ t.fld (ISL_SEQ_NEXT_TX i) = seq (s.fld (ISL_SEQ_NEXT_TX i) + 1) ∧
      (t.islAt i).tx = [] ∧ mget (t.islAt i).rp (s.fld (ISL_SEQ_NEXT_TX i)) = some c.parts) ∧
  (∀ (s : State) (i q : Nat), i < 8 → (s.islSt i = 3 ∨ s.islSt i = 4) → (s.islAt i).rpl = some q →
    ∃ t c b, exec (.islCellSend i) s = .next t ∧ t.out = .cell i c b :: s.out ∧
      b = scrambled (2 ^ s.fld (PRT_LINK_STAT_WIDTH (s.cur (ISL_CFG_PORT i)))) (s.islAt i).sinceMark (cellBlock c (s.txKey i) (s.islAt i).txc) ∧ c.type = 1 ∧ c.seq = q ∧ c.rpl = (s.islAt i).rplFirst ∧
      c.parts = mgetD (s.islAt i).rp q [] ∧ t.fld (ISL_SEQ_NEXT_TX i) = s.fld (ISL_SEQ_NEXT_TX i) ∧
      (t.islAt i).rpl = (if seq (q + 1) = s.fld (ISL_SEQ_NEXT_TX i) then none else some (seq (q + 1)))) ∧
  (∀ (s : State) (i : Nat), i < 8 → (s.islSt i = 3 ∨ s.islSt i = 4) → (s.islAt i).rpl = none → s.islSpan i = 1024 →
    ∃ t c b, exec (.islCellSend i) s = .next t ∧ t.out = .cell i c b :: s.out ∧
      b = scrambled (2 ^ s.fld (PRT_LINK_STAT_WIDTH (s.cur (ISL_CFG_PORT i)))) (s.islAt i).sinceMark (cellBlock c (s.txKey i) (s.islAt i).txc) ∧ c.type = 0 ∧ t.bit (ISL_SEQ_STALL i) = true) ∧
  (∀ (s : State) (i : Nat), (8 ≤ i ∨ (s.islSt i ≠ 3 ∧ s.islSt i ≠ 4)) → exec (.islCellSend i) s = .next s) ∧
  (∀ (s : State) (i tag : Nat) (c : IslCell) (errs : List (Nat × Nat)), i < 8 → s.islSt i = 3 → s.bit (ISL_RX_SEQ_NAK_PEND i) = false → (s.islAt i).bad < 7 →
    (crcPasses (residual errs) = false ∨ 2 ≤ c.type) →
    ∃ t, exec (.islCellReceived i c errs tag) s = .next t ∧ t.fld (ISL_LINK_ERR_CORRUPT i) = s.oneMore (ISL_LINK_ERR_CORRUPT i) ∧
      t.bit (ISL_RX_SEQ_NAK_PEND i) = true ∧ (t.islAt i).nakDue = true ∧ (t.islAt i).bad = (s.islAt i).bad + 1 ∧
      t.fld (ISL_RX_SEQ_NEXT_RX i) = s.fld (ISL_RX_SEQ_NEXT_RX i) ∧ t = { s with regs := t.regs, isl := t.isl }) ∧
  (∀ (s : State) (i tag : Nat) (c : IslCell) (errs : List (Nat × Nat)), i < 8 → (s.islSt i = 3 ∨ s.islSt i = 4) → c.type = 0 → c.ackValid = false →
    crcPasses (residual errs) = true → (s.bit (ISL_STAT_PROT_ACTIVE i) = true → tag = s.rxTag i c) →
    ∃ t, exec (.islCellReceived i c errs tag) s = .next t ∧ t.fld (ISL_FC_STAT_TX_OFF i) = c.xoff % 16 ∧ (t.islAt i).bad = 0 ∧
      (t.islAt i).silent = false ∧ (t.islAt i).rxc = ((s.islAt i).counter c.txc + 1) % 2 ^ 64 ∧
      t.fld (ISL_FEC_CNT_CORR i) = min (s.fld (ISL_FEC_CNT_CORR i) + fecFixed errs) (2 ^ (ISL_FEC_CNT_CORR i).width - 1) ∧ t = { s with regs := t.regs, isl := t.isl }) ∧
  (∀ (s : State) (i tag : Nat) (c : IslCell) (errs : List (Nat × Nat)), i < 8 → (s.islSt i = 3 ∨ s.islSt i = 4) → c.type = 1 → c.ackValid = false → c.parts = [] →
    c.seq = s.fld (ISL_RX_SEQ_NEXT_RX i) → crcPasses (residual errs) = true → (s.bit (ISL_STAT_PROT_ACTIVE i) = true → tag = s.rxTag i c) →
    ∃ t, exec (.islCellReceived i c errs tag) s = .next t ∧ t.fld (ISL_RX_SEQ_NEXT_RX i) = seq (s.fld (ISL_RX_SEQ_NEXT_RX i) + 1) ∧
      t.bit (ISL_RX_SEQ_NAK_PEND i) = false ∧ (t.islAt i).acked = true ∧ t = { s with regs := t.regs, isl := t.isl }) ∧
  (∀ (s : State) (i tag : Nat) (c : IslCell) (errs : List (Nat × Nat)), i < 8 → (s.islSt i = 3 ∨ s.islSt i = 4) → c.type = 1 → c.ackValid = false → c.rpl = false →
    3072 ≤ seqDist (s.fld (ISL_RX_SEQ_NEXT_RX i)) c.seq → crcPasses (residual errs) = true → (s.bit (ISL_STAT_PROT_ACTIVE i) = true → tag = s.rxTag i c) →
    ∃ t, exec (.islCellReceived i c errs tag) s = .next t ∧ t.fld (ISL_LINK_ERR_DUP i) = s.oneMore (ISL_LINK_ERR_DUP i) ∧
      t.fld (ISL_RX_SEQ_NEXT_RX i) = s.fld (ISL_RX_SEQ_NEXT_RX i) ∧ t = { s with regs := t.regs, isl := t.isl }) ∧
  (∀ (s : State) (i tag : Nat) (c : IslCell) (errs : List (Nat × Nat)), i < 8 → (s.islSt i = 3 ∨ s.islSt i = 4) → c.type < 2 →
    crcPasses (residual errs) = true → s.bit (ISL_STAT_PROT_ACTIVE i) = true → tag ≠ s.rxTag i c → s.linkUp (s.cur (ISL_CFG_PORT i)) = false →
    ∃ t, exec (.islCellReceived i c errs tag) s = .next t ∧ t.fld (ISL_LINK_ERR_CORRUPT i) = s.oneMore (ISL_LINK_ERR_CORRUPT i) ∧
      t.bit (ISL_STAT_INTEG_FAIL i) = true ∧ t.islSt i = 0) ∧
  (∀ (s : State) (i tag : Nat) (c : IslCell) (errs : List (Nat × Nat)), (8 ≤ i ∨ (s.islSt i ≠ 3 ∧ s.islSt i ≠ 4)) → exec (.islCellReceived i c errs tag) s = .next s)

/-- The replay timer starts a replay from the oldest cell or, after its limit, Recovery; a silent receiver is noted; markers give block lock and the
round trip, and a round trip above the one in use, or two missing markers, leads to Recovery. Cites R95, R102, R105. -/
def Obligations.IslTimersAndMarkers : Prop :=
  (∀ (s : State) (i : Nat), (8 ≤ i ∨ (s.islAt i).rp = [] ∨ (s.islSt i ≠ 3 ∧ s.islSt i ≠ 4)) → exec (.islReplayTimerExpiry i) s = .next s) ∧
  (∀ (s : State) (i : Nat), i < 8 → (s.islAt i).rp ≠ [] →
    (s.islSt i = 3 ∨ (s.islSt i = 4 ∧ s.fld (ISL_ERR_WIN_CUR i) + 1 ≤ s.fld (ISL_ERR_WIN_THR i))) → (s.islAt i).expiries + 1 < s.fld (ISL_REPLAY_CTL_REPLAY_MAX i) → s.islSpan i ≠ 0 →
    ∃ t, exec (.islReplayTimerExpiry i) s = .next t ∧ t.fld (ISL_REPLAY_STAT_TIMEOUT_CNT i) = s.oneMore (ISL_REPLAY_STAT_TIMEOUT_CNT i) ∧
      (t.islAt i).expiries = (s.islAt i).expiries + 1 ∧ (t.islAt i).rpl = some (seq (s.fld (ISL_SEQ_OLDEST i))) ∧ (t.islAt i).rplFirst = true ∧
      t.bit (ISL_SEQ_REPLAYING i) = true ∧
      t.fld (ISL_REPLAY_STAT_REPLAY_CNT i) = s.oneMore (ISL_REPLAY_STAT_REPLAY_CNT i) ∧ t = { s with regs := t.regs, isl := t.isl }) ∧
  (∀ (s : State) (i : Nat), i < 8 → (s.islAt i).rp ≠ [] → s.islSt i = 4 → s.fld (ISL_ERR_WIN_CUR i) + 1 ≤ s.fld (ISL_ERR_WIN_THR i) →
    s.fld (ISL_REPLAY_CTL_REPLAY_MAX i) ≤ (s.islAt i).expiries + 1 → (s.islAt i).tried = false →
    ∃ t, exec (.islReplayTimerExpiry i) s = .next t ∧ t.islSt i = 5 ∧ (t.islAt i).tried = true ∧ (t.islAt i).expiries = 0 ∧
      (t.islAt i).rp = (s.islAt i).rp) ∧
  (∀ (s : State) (i : Nat), i < 8 → 3 ≤ s.islSt i →
    ∃ t, exec (.islRxSilence i) s = .next t ∧ (t.islAt i).silent = true ∧ (∀ j, j ≠ i → t.islAt j = s.islAt j) ∧ t = { s with isl := t.isl }) ∧
  (∀ (s : State) (i : Nat), (8 ≤ i ∨ s.islSt i < 3) → exec (.islRxSilence i) s = .next s) ∧
  (∀ (s : State) (i : Nat) (m : IslMarker) (raw : List Nat), readMarker raw = some m → i < 8 → 2 ≤ s.islSt i → s.islSt i ≠ 5 → s.bit (ISL_STAT_BLOCK_LOCK i) = false →
    (s.islAt i).seen = true →
    ∃ t, exec (.islMarkerReceived i raw true) s = .next t ∧ t.bit (ISL_STAT_BLOCK_LOCK i) = true ∧ (t.islAt i).lastMark = some (m.frame, s.now) ∧
      t = { s with regs := t.regs, isl := t.isl }) ∧
  (∀ (s : State) (i f hold t1 : Nat) (m : IslMarker) (raw : List Nat), readMarker raw = some m → i < 8 → s.islSt i = 2 → s.bit (ISL_STAT_BLOCK_LOCK i) = true → m.echo = some (f, hold) →
    mget (s.islAt i).sentAt f = some t1 → (∀ g u, (s.islAt i).lastMark = some (g, u) → s.missed (s.islAt i) u < 2) →
    s.fld FRM_SYNC_CTL_ROLE ≠ 2 → mget s.grp.seen i = some (PeerSeen.mk m.group m.member m.epoch) →
    ∃ t, exec (.islMarkerReceived i raw true) s = .next t ∧ t.fld (ISL_RTT_RTT_LAST i) = min (s.now - t1 - hold) 65535 ∧
      (t.islAt i).marks = (s.islAt i).marks + 1 ∧ (t.islAt i).rttMax = max (s.islAt i).rttMax (s.now - t1 - hold) ∧ t.time = s.time) ∧
  (∀ (s : State) (i f hold t1 : Nat) (m : IslMarker) (raw : List Nat), readMarker raw = some m → i < 8 → s.islSt i = 4 → s.bit (ISL_STAT_BLOCK_LOCK i) = true → m.echo = some (f, hold) →
    mget (s.islAt i).sentAt f = some t1 → (∀ g u, (s.islAt i).lastMark = some (g, u) → s.missed (s.islAt i) u < 2) →
    s.fld FRM_SYNC_CTL_ROLE ≠ 2 → mget s.grp.seen i = some (PeerSeen.mk m.group m.member m.epoch) →
    s.fld (ISL_RTT_RTT_USED i) < s.now - t1 - hold →
    ∃ t, exec (.islMarkerReceived i raw true) s = .next t ∧ t.islSt i = 5 ∧ t.bit (ISL_STAT_BLOCK_LOCK i) = false ∧ t.time = s.time) ∧
  (∀ (s : State) (i : Nat) (raw : List Nat) (a : Bool), (8 ≤ i ∨ s.islSt i < 2 ∨ s.islSt i = 5 ∨ readMarker raw = none ∨
      (s.bit (ISL_STAT_BLOCK_LOCK i) = true ∧ a = false)) → exec (.islMarkerReceived i raw a) s = .next s) ∧
  (∀ (s : State) (i g u : Nat) (m : IslMarker) (raw : List Nat), readMarker raw = some m → i < 8 → 2 ≤ s.islSt i → s.islSt i ≠ 5 →
    s.bit (ISL_STAT_BLOCK_LOCK i) = true → (s.islAt i).lastMark = some (g, u) → s.missed (s.islAt i) u = 2 →
    ∃ t, exec (.islMarkerReceived i raw true) s = .next t ∧ t.islSt i = 5 ∧ t.bit (ISL_STAT_BLOCK_LOCK i) = false ∧ t.time = s.time) ∧
  (∀ (s : State) (i : Nat), i < 8 → s.bit (ISL_STAT_BLOCK_LOCK i) = true → (s.islAt i).miss = 0 →
    ∃ t, exec (.islMarkerMissing i) s = .next t ∧ (t.islAt i).miss = 1 ∧ t = { s with isl := t.isl }) ∧
  (∀ (s : State) (i : Nat), i < 8 → s.bit (ISL_STAT_BLOCK_LOCK i) = true → 1 ≤ (s.islAt i).miss → 2 ≤ s.islSt i → s.islSt i ≠ 5 →
    ∃ t, exec (.islMarkerMissing i) s = .next t ∧ t.islSt i = 5 ∧ t.bit (ISL_STAT_BLOCK_LOCK i) = false ∧ (t.islAt i).rp = (s.islAt i).rp ∧
      t.fld (ISL_SEQ_NEXT_TX i) = s.fld (ISL_SEQ_NEXT_TX i)) ∧
  (∀ (s : State) (i : Nat), (8 ≤ i ∨ s.bit (ISL_STAT_BLOCK_LOCK i) = false) → exec (.islMarkerMissing i) s = .next s)

/-- Aligning ends in Up, or in Keying where protection is enabled, with the round trip and headroom measured, or stays with SHORT set when a receive
buffer does not suffice; Keying ends in Up with protection active; Keying and Recovery past their time-outs end in Down with sequence numbers and
replay buffer cleared; Down restarts training after its wait; each does nothing in another state. Cites R95, R109, R112. -/
def Obligations.IslLinkStates : Prop :=
  (∀ (s : State) (i h : Nat), i < 8 → s.islSt i = 2 → s.bit (ISL_STAT_BLOCK_LOCK i) = true → 16 ≤ (s.islAt i).marks → s.protWanted i = false →
    h = s.headroom i ((s.islAt i).rttMax + 16) 14 → (∀ c, c < 4 → h + s.cur (ISL_FC_CTL_ON_GAP i) + 257 ≤ s.rxSize i c) →
    ∃ t, exec (.islAligningDone i) s = .next t ∧ t.islSt i = 4 ∧ t.bit (ISL_STAT_SHORT i) = false ∧
      t.fld (ISL_RTT_RTT_USED i) = ((s.islAt i).rttMax + 16) % 2 ^ 16 ∧ t.fld (ISL_FC_STAT_HEADROOM i) = h % 2 ^ 16 ∧
      t = { s with regs := t.regs, isl := t.isl }) ∧
  (∀ (s : State) (i h : Nat), i < 8 → s.islSt i = 2 → s.bit (ISL_STAT_BLOCK_LOCK i) = true → 16 ≤ (s.islAt i).marks → s.protWanted i = true →
    h = s.headroom i ((s.islAt i).rttMax + 16) 13 → (∀ c, c < 4 → h + s.cur (ISL_FC_CTL_ON_GAP i) + 257 ≤ s.rxSize i c) →
    ∃ t, exec (.islAligningDone i) s = .next t ∧ t.islSt i = 3 ∧ t.bit (ISL_STAT_PROT_ACTIVE i) = false ∧ t.bit (ISL_STAT_SHORT i) = false ∧
      t.fld (ISL_FC_STAT_HEADROOM i) = h % 2 ^ 16 ∧ t = { s with regs := t.regs, isl := t.isl }) ∧
  (∀ (s : State) (i h c : Nat), i < 8 → s.islSt i = 2 → s.bit (ISL_STAT_BLOCK_LOCK i) = true → 16 ≤ (s.islAt i).marks →
    h = s.headroom i ((s.islAt i).rttMax + 16) (s.slotsWanted i) → c < 4 →
    s.rxSize i c < h + s.cur (ISL_FC_CTL_ON_GAP i) + 257 →
    ∃ t, exec (.islAligningDone i) s = .next t ∧ t.islSt i = 2 ∧ t.bit (ISL_STAT_SHORT i) = true ∧
      (s.bit (ISL_STAT_SHORT i) = false → t.bit (pendFld (s.routeTarget (288 + i)) (sharedCode (288 + i))) = true) ∧ t.isl = s.isl) ∧
  (∀ (s : State) (i : Nat), (8 ≤ i ∨ s.islSt i ≠ 2 ∨ s.bit (ISL_STAT_BLOCK_LOCK i) = false ∨ (s.islAt i).marks < 16) →
    exec (.islAligningDone i) s = .next s) ∧
  (∀ (s : State) (i d : Nat), i < 8 → s.islSt i = 3 → mget s.grp.seen i = none →
    ∃ t, exec (.islKeyingDone i d) s = .next t ∧ t.islSt i = 4 ∧ t.bit (ISL_STAT_PROT_ACTIVE i) = true ∧ (t.islAt i).keyCells = 0 ∧
      (t.islAt i).ks = false ∧ (t.islAt i).secret = Config.freeValue s.fresh ∧
      t = { s with fresh := s.fresh + 1, regs := t.regs, isl := t.isl, grp.proven := mput s.grp.proven i d }) ∧
  (∀ (s : State) (i d : Nat), (8 ≤ i ∨ s.islSt i ≠ 3) → exec (.islKeyingDone i d) s = .next s) ∧
  (∀ (s : State) (i : Nat), i < 8 → s.islSt i = 3 → (s.islAt i).downAt + 1000000000 ≤ s.now → s.linkUp (s.cur (ISL_CFG_PORT i)) = false →
    ∃ t, exec (.islKeyingTimeout i) s = .next t ∧ t.islSt i = 0 ∧ t.fld (ISL_STAT_DOWN_CNT i) = s.oneMore (ISL_STAT_DOWN_CNT i) ∧
      t.bit (ISL_STAT_BLOCK_LOCK i) = false ∧ t.fld (ISL_SEQ_NEXT_TX i) = 0 ∧ t.fld (ISL_RX_SEQ_NEXT_RX i) = 0 ∧ (t.islAt i).rp = []) ∧
  (∀ (s : State) (i : Nat), (8 ≤ i ∨ s.islSt i ≠ 3 ∨ s.now < (s.islAt i).downAt + 1000000000) → exec (.islKeyingTimeout i) s = .next s) ∧
  (∀ (s : State) (i : Nat), i < 8 → s.islSt i = 5 → (s.islAt i).downAt + 24000000 ≤ s.now → s.linkUp (s.cur (ISL_CFG_PORT i)) = false →
    ∃ t, exec (.islRecoveryTimeout i) s = .next t ∧ t.islSt i = 0 ∧ t.fld (ISL_STAT_DOWN_CNT i) = s.oneMore (ISL_STAT_DOWN_CNT i) ∧
      t.fld (ISL_SEQ_NEXT_TX i) = 0 ∧ t.fld (ISL_RX_SEQ_NEXT_RX i) = 0 ∧ (t.islAt i).rp = []) ∧
  (∀ (s : State) (i : Nat), (8 ≤ i ∨ s.islSt i ≠ 5 ∨ s.now < (s.islAt i).downAt + 24000000) → exec (.islRecoveryTimeout i) s = .next s) ∧
  (∀ (s : State) (i : Nat), i < 8 → s.islSt i = 0 → s.curBit (ISL_CFG_EN i) = true → s.bit (PRT_LINK_CTL_LINK_DIS (s.cur (ISL_CFG_PORT i))) = false →
    (s.islAt i).downAt + 1000000 ≤ s.now →
    ∃ t, exec (.islTrainingRestart i) s = .next t ∧ t.islSt i = 1 ∧ t = { s with regs := t.regs }) ∧
  (∀ (s : State) (i : Nat), (8 ≤ i ∨ s.islSt i ≠ 0 ∨ s.curBit (ISL_CFG_EN i) = false ∨
      s.bit (PRT_LINK_CTL_LINK_DIS (s.cur (ISL_CFG_PORT i))) = true ∨ s.now < (s.islAt i).downAt + 1000000) →
    exec (.islTrainingRestart i) s = .next s)

/-- A link trains to the rate and width that its partner and its limits allow, and does not where it may not; extended rate is entered and left by
its conditions; RETRAIN settles the best width and rate of a link that is up; LINK_DIS takes down the link of a port on which nothing hangs, and
its clearing leaves the link as it is. Cites R15, R51, R57, R58. -/
def Obligations.LinkTraining : Prop :=
  (∀ (s : State) (p rate width cap : Nat) (cxl flit lofl : Bool) (xr : Option Nat) (dev : DevKind), p < 128 → s.formed p = true → (s.role p = 1 ∨ s.role p = 2) →
    s.linkUp p = false → s.bit (PRT_LINK_CTL_LINK_DIS p) = false → (s.px p).heldRst = false → s.dataOff = false → s.lanesGood p → width ≤ 4 →
    2 ^ width ≤ s.lanesOf p →
    ∃ t, exec (.linkUp p rate width cxl flit lofl xr dev cap) s = .next t ∧ t.linkUp p = true ∧
      t.fld (PRT_LINK_STAT_RATE p) = min rate (s.rateLimit p flit) ∧ t.fld (PRT_LINK_STAT_WIDTH p) = width ∧
      t.bit (PRT_LINK_STAT_CXL p) = (cxl && ! s.curBit (PRT_CFG_PCIE_ONLY p) && flit && dev != .cxlSwitch) ∧ t.bit (PRT_HP_STAT_PRESENT p) = true ∧
      .advertise p (s.advertised p) 4 ∈ t.out ∧ (s.xrOffered p = true → .xrOffer p s.ident.vendorId xrInfo ∈ t.out) ∧
      (t.px p).dev = dev ∧ (t.px p).trained = width ∧ t.time = s.time ∧ t.home = s.home ∧ t.bnd = s.bnd) ∧
  (∀ (s : State) (p rate width cap : Nat) (cxl flit lofl : Bool) (xr : Option Nat) (dev : DevKind), (128 ≤ p ∨ s.formed p = false ∨ s.role p = 0 ∨
      (s.linkUp p = true ∧ s.role p ≠ 3) ∨ s.bit (PRT_LINK_CTL_LINK_DIS p) = true ∨ (s.px p).heldRst = true ∨ s.dataOff = true) →
    exec (.linkUp p rate width cxl flit lofl xr dev cap) s = .next s) ∧
  (∀ (s : State) (p : Nat), p < 128 → s.linkUp p = true → (s.px p).xrAgreed = true → (s.px p).xrHold = false → s.xrOffered p = true →
    s.fld (PRT_LINK_STAT_RATE p) = 6 →
    (s.fld (TWL_PCAP_CAP p) = 0 ∨ 7 ≤ s.fld (TWL_PCAP_CAP p)) →
    ∃ t, exec (.xrateSpeedChange p) s = .next t ∧ t.fld (PRT_LINK_STAT_RATE p) = 7 ∧ t.bit (PRT_LINK_STAT_XRATE p) = true ∧ t.linkUp p = true ∧
      t.time = s.time ∧ t.home = s.home) ∧
  (∀ (s : State) (p : Nat), (128 ≤ p ∨ s.linkUp p = false ∨ (s.px p).xrAgreed = false ∨ (s.px p).xrHold = true ∨
      s.xrOffered p = false ∨ s.fld (PRT_LINK_STAT_RATE p) ≠ 6) →
    exec (.xrateSpeedChange p) s = .next s) ∧
  (∀ (s : State) (p : Nat), p < 128 → s.linkUp p = true → (s.px p).xrAgreed = true →
    ∃ t, exec (.xrateFallback p true) s = .next t ∧ t.fld (PRT_LINK_STAT_RATE p) = 6 ∧ t.bit (PRT_LINK_STAT_XRATE p) = false ∧
      t.bit (PRT_LINK_STAT_XRATE_FAIL p) = true ∧ (t.px p).xrHold = true ∧ t.linkUp p = true ∧ t.time = s.time ∧ t.home = s.home) ∧
  (∀ (s : State) (p : Nat) (o : Bool), (128 ≤ p ∨ s.linkUp p = false ∨ (s.px p).xrAgreed = false) → exec (.xrateFallback p o) s = .next s) ∧
  (∀ (s : State) (b : Bus) (p c : Nat) (h : Bool), s.takesWrite b (PRT_LINK_CTL p) = true → (s.busP b).isOF = true → p < 128 → s.linkUp p = true →
    s.lanesGood p → s.role p ≠ 3 → s.bestSet p (s.px p).wmax = some (c, h) → s.bit (PRT_LINK_STAT_XRATE p) = false →
    ∃ t, exec (.retrain b p) s = .next t ∧ (t.px p).xrHold = false ∧ t.fld (PRT_LINK_STAT_WIDTH p) = c ∧
      t.fld (PRT_LINK_STAT_RATE p) = min (s.px p).rmax (s.rateLimit p (s.px p).flit) ∧ t.linkUp p = true) ∧
  (∀ (s : State) (b : Bus) (p : Nat), s.takesWrite b (PRT_LINK_CTL p) = true → (s.busP b).isOF = true → p < 128 → s.linkUp p = false →
    ∃ t, exec (.retrain b p) s = .next t ∧ (t.px p).xrHold = false ∧ t.linkUp p = false) ∧
  (∀ (s : State) (b : Bus) (p : Nat) (w : Word), s.takesWrite b (PRT_LINK_CTL p) = true → (s.busP b).isOF = true → p < 128 → getBit w 9 = true →
    getBit w 8 = false → s.bit (PRT_LINK_CTL_LINK_DIS p) = false → s.linkUp p = true → s.alone p →
    ∃ t, exec (.linkDisableWrite b p w) s = .next t ∧ t.bit (PRT_LINK_CTL_LINK_DIS p) = true ∧ t.linkUp p = false ∧
      t.fld (PRT_LINK_STAT_DOWN_CNT p) = s.oneMore (PRT_LINK_STAT_DOWN_CNT p)) ∧
  (∀ (s : State) (b : Bus) (p : Nat) (w : Word), s.takesWrite b (PRT_LINK_CTL p) = true → (s.busP b).isOF = true → p < 128 → getBit w 9 = false →
    getBit w 8 = false → s.bit (PRT_LINK_CTL_LINK_DIS p) = true →
    ∃ t, exec (.linkDisableWrite b p w) s = .next t ∧ t.bit (PRT_LINK_CTL_LINK_DIS p) = false ∧ t.linkUp p = s.linkUp p)

/-- A link enters L1 where it may and leaves it; L0p narrows an underused link by one step and restores the trained width under load; each does
nothing where its condition does not hold. Cites R66, R67. -/
def Obligations.LinkPower : Prop :=
  (∀ (s : State) (p us : Nat), p < 128 → s.fld (PRT_PM_STAT_STATE p) ≠ 2 → s.mayL1 p us = true →
    ∃ t, exec (.l1Entry p us) s = .next t ∧ t.fld (PRT_PM_STAT_STATE p) = 2 ∧ t.fld (PRT_PM_STAT_L1_CNT p) = s.oneMore (PRT_PM_STAT_L1_CNT p) ∧
      t = { s with regs := t.regs }) ∧
  (∀ (s : State) (p us : Nat), (128 ≤ p ∨ s.fld (PRT_PM_STAT_STATE p) = 2 ∨ s.mayL1 p us = false) → exec (.l1Entry p us) s = .next s) ∧
  (∀ (s : State) (p : Nat), p < 128 → s.fld (PRT_PM_STAT_STATE p) = 2 →
    ∃ t, exec (.l1Exit p) s = .next t ∧ t.fld (PRT_PM_STAT_STATE p) = s.upState p ∧ p ∈ t.xbr.paused ∧
      (s.md.hold = .held → t.md.hold = .waking s.md.preHold s.now) ∧ t = { s with regs := t.regs, xbr.paused := t.xbr.paused, md := t.md }) ∧
  (∀ (s : State) (p : Nat), (128 ≤ p ∨ s.fld (PRT_PM_STAT_STATE p) ≠ 2) → exec (.l1Exit p) s = .next s) ∧
  (∀ (s : State) (p used total : Nat), p < 128 → s.linkUp p = true → s.role p ≠ 3 → s.fld (PRT_PM_STAT_STATE p) ≠ 2 →
    s.bit (PRT_PM_CTL_L0P_EN p) = true → s.fld (PRT_PM_CTL_L0P_WIN p) ≠ 0 → (s.role p = 1 → (s.px p).l0pHost = true) →
    16 * used < s.fld (PRT_PM_CTL_L0P_THR p) * total → 2 ≤ s.fld (PRT_PM_STAT_L0P_WIDTH p) → (s.px p).trained < s.fld (PRT_PM_STAT_L0P_WIDTH p) + 2 →
    ∃ t, exec (.l0pNarrow p used total) s = .next t ∧ t.fld (PRT_PM_STAT_L0P_WIDTH p) = s.fld (PRT_PM_STAT_L0P_WIDTH p) - 1 ∧ p ∈ t.xbr.paused ∧
      t.linkUp p = true ∧ t.time = s.time ∧ t.home = s.home ∧ t.bnd = s.bnd) ∧
  (∀ (s : State) (p used total : Nat), (128 ≤ p ∨ s.linkUp p = false ∨ s.role p = 3 ∨ s.bit (PRT_PM_CTL_L0P_EN p) = false ∨
      s.fld (PRT_PM_CTL_L0P_THR p) * total ≤ 16 * used ∨ s.fld (PRT_PM_STAT_L0P_WIDTH p) ≤ 1) → exec (.l0pNarrow p used total) s = .next s) ∧
  (∀ (s : State) (p used total ns : Nat), p < 128 → s.linkUp p = true → s.fld (PRT_PM_STAT_L0P_WIDTH p) ≠ (s.px p).trained → (s.px p).trained ≤ 4 →
    (3 * total < 4 * used ∨ 1000 < ns) →
    ∃ t, exec (.l0pRestore p used total ns) s = .next t ∧ t.fld (PRT_PM_STAT_L0P_WIDTH p) = (s.px p).trained ∧ t.fld (PRT_PM_STAT_STATE p) = 0 ∧
      t.time = s.time ∧ t.home = s.home ∧ t.bnd = s.bnd) ∧
  (∀ (s : State) (p used total ns : Nat), (128 ≤ p ∨ s.linkUp p = false ∨ s.fld (PRT_PM_STAT_L0P_WIDTH p) = (s.px p).trained ∨
      (4 * used ≤ 3 * total ∧ ns ≤ 1000)) → exec (.l0pRestore p used total ns) s = .next s)

/-- Surprise down, loss of a host link, the output watchdog, a port reset and PERST_N take the link of a port on which nothing else hangs down, with
exactly the status bits and counters of their rules, and do nothing where their condition does not hold. Cites R53, R70, R132, R134, R346. -/
def Obligations.PortsDownAndReset : Prop :=
  (∀ (s : State) (p : Nat), p < 128 → s.role p = 2 → s.linkUp p = true →
    ∃ t, exec (.surpriseDown p) s = .next t ∧ t.linkUp p = false ∧ t.bit (PRT_HP_STAT_SDOWN p) = true ∧
      (s.isPool p = false → s.vdpsOf p ≠ [] → t.bit (PRT_HP_STAT_DPC p) = true)) ∧
  (∀ (s : State) (p : Nat), s.isHost p = true → s.linkUp p = true →
    ∃ t, exec (.hostPortLinkLoss p) s = .next t ∧ t.linkUp p = false ∧ t.bit (XBR_PSTAT_FLUSHING p) = true ∧ t.fld (PRT_PM_STAT_STATE p) = 3) ∧
  (∀ (s : State) (p b c : Nat) (room : Bool), p < 128 → s.fld (XBR_PWD_WD p) ≤ mgetD s.xbr.stall p 0 →
    s.stallBlame p (room || s.xbr.roomLast.contains p) = some (b, c) →
    ∃ t, exec (.outputWatchdogFire p room) s = .next t ∧ t.bit (XBR_PWD_FIRED p) = true ∧ t.fld (XBR_PWD_CAUSE p) = c ∧
      t.fld (XBR_PWD_FIRE_CNT p) = s.oneMore (XBR_PWD_FIRE_CNT p) ∧ t.linkUp b = false) ∧
  (∀ (s : State) (p : Nat), p < 128 → s.formed p = true →
    ∃ t, exec (.portReset p) s = .next t ∧ t.linkUp p = false ∧ t.bit (PRT_LINK_STAT_XRATE_FAIL p) = false ∧ t.bit (PRT_IDE_STAT_INTEG_FAIL p) = false ∧
      t.fld (PRT_PM_STAT_L1_CNT p) = 0 ∧ t.bit (PRT_HP_STAT_SDOWN p) = false ∧ t.bit (PRT_HP_STAT_DPC p) = false ∧ (t.px p).keys = false ∧
      p ∉ t.md.portRst) ∧
  (∀ (s : State) (g : Nat), g < 32 → s.hostGroup g = true → s.prt.perstIn.contains g = false →
    ∃ t, exec (.hostPerstChange g true) s = .next t ∧ g ∈ t.prt.perstIn ∧
      (∀ k, k < 4 → (t.px (4 * g + k)).heldRst = true ∧ ((s.px (4 * g + k)).heldRst = false → t.linkUp (4 * g + k) = false))) ∧
  (∀ (s : State) (g : Nat), g < 32 → s.hostGroup g = true → s.prt.perstIn.contains g = true →
    ∃ t, exec (.hostPerstChange g false) s = .next t ∧ (∀ k, k < 4 → (t.px (4 * g + k)).heldRst = false ∧
      (s.formed (4 * g + k) = true → t.linkUp (4 * g + k) = false ∧ (t.px (4 * g + k)).keys = false))) ∧
  (∀ (s : State) (p : Nat), p < 128 → s.role p = 2 → s.linkUp p = true → s.alone p → s.vdpsOf p = [] →
    ∃ t, exec (.surpriseDown p) s = .next t ∧ t.linkUp p = false ∧ t.bit (PRT_HP_STAT_SDOWN p) = true ∧
      t.fld (PRT_HP_STAT_SDOWN_CNT p) = s.oneMore (PRT_HP_STAT_SDOWN_CNT p) ∧ t.fld (PRT_LINK_STAT_DOWN_CNT p) = s.oneMore (PRT_LINK_STAT_DOWN_CNT p) ∧
      t.bit (PRT_HP_STAT_DPC p) = s.bit (PRT_HP_STAT_DPC p)) ∧
  (∀ (s : State) (p k : Nat), p < 128 → s.role p = 2 → s.linkUp p = true → s.alone p → s.vdpsOf p = [k] →
    ∃ t, exec (.surpriseDown p) s = .next t ∧ t.linkUp p = false ∧ t.bit (PRT_HP_STAT_SDOWN p) = true ∧ t.bit (PRT_HP_STAT_DPC p) = true ∧
      (∀ x, mget s.prt.vdp k = some x → mget t.prt.vdp k = some { x with present := false, dpc := true, dllsc := x.dllsc || x.present })) ∧
  (∀ (s : State) (p : Nat), (128 ≤ p ∨ s.role p ≠ 2 ∨ s.linkUp p = false) → exec (.surpriseDown p) s = .next s) ∧
  (∀ (s : State) (p : Nat), s.isHost p = true → s.linkUp p = true → s.alone p →
    ∃ t, exec (.hostPortLinkLoss p) s = .next t ∧ t.linkUp p = false ∧ t.bit (XBR_PSTAT_FLUSHING p) = true ∧
      t.fld (PRT_LINK_STAT_DOWN_CNT p) = s.oneMore (PRT_LINK_STAT_DOWN_CNT p) ∧ t.fld (PRT_PM_STAT_STATE p) = 3 ∧ t.bnd = s.bnd) ∧
  (∀ (s : State) (p : Nat), (s.isHost p = false ∨ s.linkUp p = false) → exec (.hostPortLinkLoss p) s = .next s) ∧
  (∀ (s : State) (p : Nat), p < 128 →
    ∃ t, exec (.flushComplete p) s = .next t ∧ t.bit (XBR_PSTAT_FLUSHING p) = false ∧ t = { s with regs := t.regs }) ∧
  (∀ (s : State) (p : Nat), 128 ≤ p → exec (.flushComplete p) s = .next s) ∧
  (∀ (s : State) (p : Nat) (room : Bool), (128 ≤ p ∨ mgetD s.xbr.stall p 0 < s.fld (XBR_PWD_WD p) ∨
      s.stallBlame p (room || s.xbr.roomLast.contains p) = none) → exec (.outputWatchdogFire p room) s = .next s) ∧
  (∀ (s : State) (p : Nat), p < 128 → s.fld (XBR_PWD_WD p) ≤ mgetD s.xbr.stall p 0 → p ∉ s.xbr.roomLast → s.linkUp p = true → s.alone p →
    ∃ t, exec (.outputWatchdogFire p false) s = .next t ∧ t.bit (XBR_PWD_FIRED p) = true ∧ t.fld (XBR_PWD_CAUSE p) = 2 ∧
      t.fld (XBR_PWD_FIRE_CNT p) = s.oneMore (XBR_PWD_FIRE_CNT p) ∧ t.linkUp p = false ∧ mget t.xbr.stall p = none) ∧
  (∀ (s : State) (p : Nat), (128 ≤ p ∨ s.formed p = false) → exec (.portReset p) s = .next { s with md.portRst := sdel s.md.portRst p }) ∧
  (∀ (s : State) (p : Nat), p < 128 → s.formed p = true → s.isHost p = false → s.alone p →
    ∃ t, exec (.portReset p) s = .next t ∧ t.linkUp p = false ∧ t.bit (PRT_LINK_STAT_XRATE_FAIL p) = false ∧ t.bit (PRT_IDE_STAT_INTEG_FAIL p) = false ∧
      t.fld (PRT_PM_STAT_L1_CNT p) = 0 ∧ t.bit (PRT_HP_STAT_SDOWN p) = false ∧ (t.px p).keys = false ∧ t.md.portRst = sdel s.md.portRst p) ∧
  (∀ (s : State) (g : Nat), g < 32 → s.hostGroup g = true → s.prt.perstIn.contains g = false → (∀ k, k < 4 → s.linkUp (4 * g + k) = false) →
    ∃ t, exec (.hostPerstChange g true) s = .next t ∧ (∀ k, k < 4 → (t.px (4 * g + k)).heldRst = true) ∧
      t = { s with prt.px := t.prt.px, prt.perstIn := sadd s.prt.perstIn g, md := t.md }) ∧
  (∀ (s : State) (g p : Nat), g < 32 → s.hostGroup g = true → s.prt.perstIn.contains g = true → s.portsOf g = [p] → s.isHost p = true → s.linkUp p = false → s.alone p → s.mbx.sess = [] →
    (∀ q, q < 32 → s.bit (OXB_BQ_CFG_EN q) = false) →
    ∃ t, exec (.hostPerstChange g false) s = .next t ∧ t.prt.perstIn = sdel s.prt.perstIn g ∧ (t.px p).heldRst = false ∧ (t.px p).keys = false ∧
      t.mf p = {}) ∧
  (∀ (s : State) (g : Nat) (low : Bool), (32 ≤ g ∨ s.prt.perstIn.contains g = low) → exec (.hostPerstChange g low) s = .next s) ∧
  (∀ (s : State) (g : Nat) (low : Bool), g < 32 → s.hostGroup g = false → s.prt.perstIn.contains g = ! low →
    exec (.hostPerstChange g low) s = .next { s with prt.perstIn := if low then sadd s.prt.perstIn g else sdel s.prt.perstIn g })

/-- A loss of signal or of lock that meets its detector's limits is counted and sends the port through Recovery or parks the lane; it does nothing on
a lane that is not watched; an eye sweep's result is kept for the next Daybreak. Cites R78, R82. -/
def Obligations.LaneDetectors : Prop :=
  (∀ (s : State) (l mv ns : Nat) (e f : Bool), (512 ≤ l ∨ e = true ∨ s.isLos l mv ns = false ∨ (s.engineOn l = false ∧ s.expectedIdle l = true)) →
    exec (.laneSignalLoss l mv ns e f) s = .next s) ∧
  (∀ (s : State) (l mv ns : Nat) (f : Bool), l < 512 → s.isLos l mv ns = true → s.engineOn l = true →
    ∃ t, exec (.laneSignalLoss l mv ns false f) s = .next t ∧ t.bit (LAN_STAT_LOS_SEEN l) = true ∧
      (∀ c, mget s.lan.chk l = some c → mget t.lan.chk l = some { c with lockAt := s.lockTick l, errs := [] }) ∧
      t = { s with regs := t.regs, lan.chk := t.lan.chk }) ∧
  (∀ (s : State) (l mv ns : Nat), l < 512 → s.isLos l mv ns = true → s.engineOn l = false → s.laneWatched l = true → mgetD s.lan.fails l [] = [] →
    s.role (s.portOfLane l) ≠ 3 →
    ∃ t, exec (.laneSignalLoss l mv ns false false) s = .next t ∧ t.bit (LAN_STAT_LOS_SEEN l) = true ∧ t.fld (LAN_STAT_LOS_CNT l) = s.oneMore (LAN_STAT_LOS_CNT l) ∧
      mgetD t.lan.fails l [] = [(s.now, 1)] ∧
      s.portOfLane l ∈ t.xbr.paused ∧ t.linkUp (s.portOfLane l) = true ∧ t.parked l = s.parked l) ∧
  (∀ (s : State) (l mv ns : Nat), l < 512 → s.isLos l mv ns = true → s.engineOn l = false → s.laneWatched l = true →
    s.role (s.portOfLane l) ≠ 3 → s.formed (s.portOfLane l) = true → s.parkStrands l = false →
    ∃ t, exec (.laneSignalLoss l mv ns false true) s = .next t ∧ t.parked l = true ∧ t.fld (LAN_STAT_PARK_CAUSE l) = 1 ∧ t.bit (LAN_STAT_LOS l) = true ∧
      t.bit (LAN_STAT_LOS_SEEN l) = true ∧ t.bit (LAN_STAT_IN_USE l) = false ∧ t.linkUp (s.portOfLane l) = true) ∧
  (∀ (s : State) (l mv ns : Nat) (f : Bool), l < 512 → s.isLos l mv ns = true → s.engineOn l = false → s.expectedIdle l = false → s.laneWatched l = false →
    ∃ t, exec (.laneSignalLoss l mv ns false f) s = .next t ∧ t.bit (LAN_STAT_LOS_SEEN l) = true ∧ t.bit (LAN_STAT_LOS l) = true ∧
      t = { s with regs := t.regs }) ∧
  (∀ (s : State) (l ppm ns : Nat) (a f : Bool), l < 512 → s.isLol l ppm ns a = true → s.engineOn l = false → s.expectedIdle l = false →
    s.laneWatched l = false →
    ∃ t, exec (.laneLockLoss l ppm ns a false f) s = .next t ∧ t.bit (LAN_STAT_LOL_SEEN l) = true ∧ t.bit (LAN_STAT_LOL l) = true ∧
      t = { s with regs := t.regs }) ∧
  (∀ (s : State) (l ppm ns : Nat) (a e f : Bool), (512 ≤ l ∨ e = true ∨ s.isLol l ppm ns a = false ∨ (s.engineOn l = false ∧ s.expectedIdle l = true)) →
    exec (.laneLockLoss l ppm ns a e f) s = .next s) ∧
  (∀ (s : State) (l ppm ns : Nat) (a : Bool), l < 512 → s.isLol l ppm ns a = true → s.engineOn l = false → s.laneWatched l = true →
    mgetD s.lan.fails l [] = [] → s.role (s.portOfLane l) ≠ 3 →
    ∃ t, exec (.laneLockLoss l ppm ns a false false) s = .next t ∧ t.bit (LAN_STAT_LOL_SEEN l) = true ∧
      t.fld (LAN_STAT_LOL_CNT l) = s.oneMore (LAN_STAT_LOL_CNT l) ∧ mgetD t.lan.fails l [] = [(s.now, 2)] ∧ s.portOfLane l ∈ t.xbr.paused ∧
      t.linkUp (s.portOfLane l) = true ∧ t.parked l = s.parked l) ∧
  (∀ (s : State) (l ppm ns : Nat) (a : Bool), l < 512 → s.isLol l ppm ns a = true → s.engineOn l = false → s.laneWatched l = true →
    s.role (s.portOfLane l) ≠ 3 → s.formed (s.portOfLane l) = true → s.parkStrands l = false →
    ∃ t, exec (.laneLockLoss l ppm ns a false true) s = .next t ∧ t.parked l = true ∧ t.fld (LAN_STAT_PARK_CAUSE l) = 2 ∧ t.bit (LAN_STAT_LOL l) = true ∧
      t.bit (LAN_STAT_IN_USE l) = false ∧ t.linkUp (s.portOfLane l) = true) ∧
  (∀ (s : State) (l h w : Nat), s.laneWatched l = true → s.sweeps l = true → mgetD s.lan.eyeFrom l 0 + 64 ≤ s.time.frame →
    exec (.eyeSweepDone l h w) s = .next { s with
      lan.eyeDue := mput s.lan.eyeDue l (h % 256, w % 256), lan.eyeFrom := mput s.lan.eyeFrom l s.time.frame }) ∧
  (∀ (s : State) (l h w : Nat), (s.laneWatched l = false ∨ s.sweeps l = false ∨ s.time.frame < mgetD s.lan.eyeFrom l 0 + 64) → exec (.eyeSweepDone l h w) s = .next s)

/-- LAN_CTL parks a lane unless that strands its port; LAN_PAT_CTL starts or refuses an engine, and ignores settings that the chapter reserves; an
injected flip shows in the looped checker; CLR clears the count. Cites R81, R83, R84, R85. -/
def Obligations.LanesAndPatterns : Prop :=
  (∀ (s : State) (b : Bus) (l : Nat) (w : Word), s.takesWrite b (LAN_CTL l) = true → (s.busP b).isOF = true → l < 512 → getBit w 16 = true →
    s.bit (LAN_CTL_PARK l) = false → s.parkStrands l = false → s.parked l = false → l ∉ s.trainedLanes (s.portOfLane l) →
    ∃ t, exec (.laneParkWrite b l w) s = .next t ∧ t.parked l = true ∧ t.fld (LAN_STAT_PARK_CAUSE l) = 3 ∧ t.bit (LAN_CTL_PARK l) = true ∧
      t = { s with regs := t.regs, latch := t.latch, lan.eyeFrom := t.lan.eyeFrom }) ∧
  (∀ (s : State) (b : Bus) (l : Nat) (w : Word), s.takesWrite b (LAN_CTL l) = true → (s.busP b).isOF = true → l < 512 → getBit w 16 = true →
    s.bit (LAN_CTL_PARK l) = false → s.parkStrands l = true →
    ∃ t, exec (.laneParkWrite b l w) s = .next t ∧ t.parked l = s.parked l ∧ t.bit (LAN_CTL_PARK l) = false ∧ t.refused = s.refused + 1) ∧
  (∀ (s : State) (b : Bus) (l : Nat) (w : Word), s.takesWrite b (LAN_CTL l) = true → (s.busP b).isOF = true → l < 512 → getBit w 16 = false →
    ∃ t, exec (.laneParkWrite b l w) s = .next t ∧ t.bit (LAN_CTL_PARK l) = false ∧ t.parked l = s.parked l ∧
      (presetOk w = true → getBits w 0 4 ≤ 10 → t.fld (LAN_EQ_PRESET_CUR l) = getBits w 0 4) ∧
      t = { s with regs := t.regs, latch := t.latch, lan.eyeFrom := t.lan.eyeFrom }) ∧
  (∀ (s : State) (b : Bus) (l : Nat) (w : Word), s.takesWrite b (LAN_PAT_CTL l) = true → (s.busP b).isIn 35 = true → l < 512 → getBits w 0 3 ≤ 4 →
    getBits w 5 2 ≠ 3 → getBits w 8 5 ≤ 20 → s.engineAccepted l = true → s.parkedOfUp l = false → getBit w 7 = false → getBit w 3 = true →
    ∃ t, exec (.patternControlWrite b l w) s = .next t ∧ t.fld (LAN_PAT_CTL_PAT l) = getBits w 0 3 ∧ t.bit (LAN_PAT_CTL_GEN_EN l) = true ∧
      t.bit (LAN_PAT_CTL_CHK_EN l) = getBit w 4 ∧ t.fld (LAN_PAT_CTL_LOOP l) = getBits w 5 2 ∧ t.fld (LAN_PAT_CTL_INJ_RATE l) = getBits w 8 5 ∧
      t.bit (LAN_PAT_STAT_ACTIVE l) = true ∧ t = { s with regs := t.regs, lan.chk := t.lan.chk, lan.patBits := t.lan.patBits }) ∧
  (∀ (s : State) (b : Bus) (l : Nat) (w : Word), s.takesWrite b (LAN_PAT_CTL l) = true → (s.busP b).isIn 35 = true → l < 512 → getBits w 0 3 ≤ 4 →
    getBits w 5 2 ≠ 3 → getBits w 8 5 ≤ 20 → (getBit w 3 = true ∨ getBit w 4 = true ∨ getBits w 5 2 ≠ 0) → s.engineAccepted l = false →
    ∃ t, exec (.patternControlWrite b l w) s = .next t ∧ t.bit (LAN_PAT_STAT_REFUSED l) = true ∧ t.fld (LAN_PAT_CTL_PAT l) = s.fld (LAN_PAT_CTL_PAT l) ∧
      t.bit (LAN_PAT_CTL_GEN_EN l) = s.bit (LAN_PAT_CTL_GEN_EN l) ∧ t = { s with regs := t.regs }) ∧
  (∀ (s : State) (b : Bus) (l : Nat) (w : Word), s.takesWrite b (LAN_PAT_CTL l) = true → (s.busP b).isIn 35 = true → l < 512 →
    (4 < getBits w 0 3 ∨ getBits w 5 2 = 3 ∨ 20 < getBits w 8 5) → exec (.patternControlWrite b l w) s = .next s) ∧
  (∀ (s : State) (b : Bus) (l : Nat) (c : PatRun), s.takesWrite b (LAN_PAT_CTL l) = true → (s.busP b).isIn 35 = true → l < 512 →
    mget s.lan.chk l = some c → c.pat = s.fld (LAN_PAT_CTL_PAT l) → c.lockAt ≤ s.now → c.errs.length < 32 → s.engineAccepted l = true →
    s.parkedOfUp l = false → s.bit (LAN_PAT_CTL_GEN_EN l) = true → s.bit (LAN_PAT_CTL_CHK_EN l) = true → s.fld (LAN_PAT_CTL_LOOP l) = 1 →
    1 ≤ s.fld (LAN_PAT_CTL_PAT l) → s.fld (LAN_PAT_CTL_PAT l) ≤ 4 → s.fld (LAN_PAT_CTL_INJ_RATE l) ≤ 20 →
    ∃ t, exec (.patternInject b l) s = .next t ∧ t.fld (LAN_PAT_STAT_ERR_CNT l) = s.oneMore (LAN_PAT_STAT_ERR_CNT l) ∧
      t.patLocked l = true ∧ t = { s with regs := t.regs, lan.chk := t.lan.chk }) ∧
  (∀ (s : State) (b : Bus) (l : Nat), s.takesWrite b (LAN_PAT_CTL l) = true → (s.busP b).isIn 35 = true → l < 512 →
    (s.engineAccepted l = true ∨ (s.bit (LAN_PAT_CTL_GEN_EN l) = false ∧ s.bit (LAN_PAT_CTL_CHK_EN l) = false ∧ s.fld (LAN_PAT_CTL_LOOP l) = 0)) →
    s.parkedOfUp l = false → s.fld (LAN_PAT_CTL_PAT l) ≤ 4 → s.fld (LAN_PAT_CTL_LOOP l) ≠ 3 → s.fld (LAN_PAT_CTL_INJ_RATE l) ≤ 20 →
    ∃ t, exec (.patternErrClear b l) s = .next t ∧ t.fld (LAN_PAT_STAT_ERR_CNT l) = 0 ∧ t.fld (LAN_PAT_CTL_PAT l) = s.fld (LAN_PAT_CTL_PAT l) ∧
      t = { s with regs := t.regs, lan.chk := t.lan.chk, lan.patBits := t.lan.patBits })

/-- PORT_CONTROL disables, enables and retrains a port; an IDE stream becomes secure; an integrity failure takes the link down and drops its keys;
IDE_KEY_REFRESH changes the key set, or is refused without keys. Cites R15, R61, R62, R64. -/
def Obligations.PortsAndIde : Prop :=
  (∀ (s : State) (rq : Rq) (p : Principal) (q : Nat), s.serves rq 0x0301 p = true → q < 128 → s.formed q = true → s.linkUp q = false →
    s.bit (PRT_LINK_CTL_LINK_DIS q) = false →
    ∃ t, exec (.portControl rq q 1) s = .next t ∧ t.replied rq 0x0301 .success s.time.frame [] ∧ t.bit (PRT_LINK_CTL_LINK_DIS q) = true ∧
      t = { s with out := t.out, mbx.sess := t.mbx.sess, regs := t.regs, prt.perstOut := t.prt.perstOut }) ∧
  (∀ (s : State) (rq : Rq) (p : Principal) (q : Nat), s.serves rq 0x0301 p = true → q < 128 → s.formed q = true → s.bit (PRT_LINK_CTL_LINK_DIS q) = true →
    ∃ t, exec (.portControl rq q 2) s = .next t ∧ t.replied rq 0x0301 .success s.time.frame [] ∧ t.bit (PRT_LINK_CTL_LINK_DIS q) = false ∧
      t.linkUp q = s.linkUp q) ∧
  (∀ (s : State) (rq : Rq) (p : Principal) (q : Nat), s.serves rq 0x0301 p = true → q < 128 → s.formed q = true → s.linkUp q = false →
    ∃ t, exec (.portControl rq q 0) s = .next t ∧ t.replied rq 0x0301 .success s.time.frame [] ∧ (t.px q).xrHold = false) ∧
  (∀ (s : State) (rq : Rq) (p : Principal) (q a : Nat), s.serves rq 0x0301 p = true → (128 ≤ q ∨ s.formed q = false ∨ 2 < a) →
    ∃ t, exec (.portControl rq q a) s = .next t ∧ s.turnsAway t rq 0x0301 .parameter) ∧
  (∀ (s : State) (p : Nat), p < 128 → s.linkUp p = true → s.role p ≠ 3 →
    ∃ t, exec (.ideStreamSecure p true) s = .next t ∧ t.bit (PRT_IDE_STAT_CM_SECURE p) = true ∧ (t.px p).keys = true ∧
      t.bit (PRT_IDE_STAT_IO_SECURE p) = s.bit (PRT_IDE_STAT_IO_SECURE p) ∧ t = { s with regs := t.regs, prt.px := t.prt.px }) ∧
  (∀ (s : State) (p : Nat), p < 128 → s.linkUp p = true → s.role p ≠ 3 →
    ∃ t, exec (.ideStreamSecure p false) s = .next t ∧ t.bit (PRT_IDE_STAT_IO_SECURE p) = true ∧ (t.px p).keys = true ∧
      t.bit (PRT_IDE_STAT_CM_SECURE p) = s.bit (PRT_IDE_STAT_CM_SECURE p) ∧ t = { s with regs := t.regs, prt.px := t.prt.px }) ∧
  (∀ (s : State) (p : Nat) (cm : Bool), (128 ≤ p ∨ s.linkUp p = false ∨ s.role p = 3) → exec (.ideStreamSecure p cm) s = .next s) ∧
  (∀ (s : State) (p : Nat), p < 128 → s.linkUp p = true → s.bit (PRT_IDE_STAT_CM_SECURE p) = true → s.alone p →
    ∃ t, exec (.ideIntegrityFail p true) s = .next t ∧ t.linkUp p = false ∧ t.bit (PRT_IDE_STAT_CM_SECURE p) = false ∧
      t.bit (PRT_IDE_STAT_INTEG_FAIL p) = true ∧ t.fld (PRT_IDE_STAT_FAIL_CNT p) = s.oneMore (PRT_IDE_STAT_FAIL_CNT p) ∧ (t.px p).keys = false) ∧
  (∀ (s : State) (p : Nat) (cm : Bool), (128 ≤ p ∨ s.linkUp p = false) → exec (.ideIntegrityFail p cm) s = .next s) ∧
  (∀ (s : State) (rq : Rq) (p : Principal) (q : Nat), s.serves rq 0x0309 p = true → q < 128 → s.formed q = true → (s.role q = 1 ∨ s.role q = 2) →
    s.linkUp q = true → (s.px q).keys = true →
    ∃ t, exec (.ideKeyRefresh rq q) s = .next t ∧ t.replied rq 0x0309 .success s.time.frame [] ∧ (t.px q).keySet = (! (s.px q).keySet) ∧
      t = { s with out := t.out, mbx.sess := t.mbx.sess, prt.px := t.prt.px }) ∧
  (∀ (s : State) (rq : Rq) (p : Principal) (q : Nat), s.serves rq 0x0309 p = true → q < 128 → s.formed q = true → (s.role q = 1 ∨ s.role q = 2) →
    (s.linkUp q = false ∨ (s.px q).keys = false) → ∃ t, exec (.ideKeyRefresh rq q) s = .next t ∧ s.turnsAway t rq 0x0309 .state)

/-- Clearing Bus Master Enable counts what it drops and ends a dump; setting it sends the pending interrupts; the configuration writes of interrupts,
link power, DPC release and TSP lock set what they name and nothing else, and do nothing on a port that is not a host port. Cites R72, R73, R74. -/
def Obligations.HostConfiguration : Prop :=
  (∀ (s : State) (fn msis writes reads : Nat), fn < 128 → (s.mf fn).bme = true → writes = 0 → 1 ≤ msis + reads →
    ∃ t, exec (.busMasterDisable fn msis writes reads) s = .next t ∧ t.mf fn = { s.mf fn with bme := false } ∧
      t.fld (PRT_MF_DROP_MSI_DROP fn) = min (s.fld (PRT_MF_DROP_MSI_DROP fn) + msis) (2 ^ (PRT_MF_DROP_MSI_DROP fn).width - 1) ∧
      t.fld (PRT_MF_DROP_RD_DISC fn) = min (s.fld (PRT_MF_DROP_RD_DISC fn) + reads) (2 ^ (PRT_MF_DROP_RD_DISC fn).width - 1) ∧
      t.bit (PRT_MF_STAT_DROP_SEEN fn) = true ∧ t = { s with regs := t.regs, evt.mf := t.evt.mf }) ∧
  (∀ (s : State) (fn msis writes reads : Nat), fn < 128 → (s.mf fn).bme = true → 1 ≤ writes →
    ∃ t, exec (.busMasterDisable fn msis writes reads) s = .next t ∧ (t.mf fn).bme = false ∧
      t.fld (PRT_MF_DROP_WR_DROP fn) = min (s.fld (PRT_MF_DROP_WR_DROP fn) + writes) (2 ^ (PRT_MF_DROP_WR_DROP fn).width - 1) ∧
      t.bit (PRT_MF_STAT_DROP_SEEN fn) = true ∧ (∀ d, s.cnt.run = some d → d.port = fn → t.cnt.run = none)) ∧
  (∀ (s : State) (msis writes reads : Nat), (s.mf 128).bme = true →
    ∃ t, exec (.busMasterDisable 128 msis writes reads) s = .next t ∧ t.mf 128 = { s.mf 128 with bme := false } ∧ t = { s with evt.mf := t.evt.mf }) ∧
  (∀ (s : State) (fn msis writes reads : Nat), (128 < fn ∨ (s.mf fn).bme = false) → exec (.busMasterDisable fn msis writes reads) s = .next s) ∧
  (∀ (s : State) (fn : Nat), fn ≤ 128 → (s.mf fn).bme = false → s.targetUp fn = true →
    ∃ t, exec (.busMasterEnable fn) s = .next t ∧ t.mf fn = { s.mf fn with bme := true } ∧
      (∀ v, v < 64 → s.sourceOfVector fn v ≠ none → .msg fn v ∈ t.out) ∧ t = { s with out := t.out, evt.mf := t.evt.mf }) ∧
  (∀ (s : State) (fn : Nat), fn ≤ 128 → (s.mf fn).bme = false → s.targetUp fn = false →
    ∃ t, exec (.busMasterEnable fn) s = .next t ∧ t.mf fn = { s.mf fn with bme := true } ∧ t = { s with evt.mf := t.evt.mf }) ∧
  (∀ (s : State) (fn : Nat), (128 < fn ∨ (s.mf fn).bme = true) → exec (.busMasterEnable fn) s = .next s) ∧
  (∀ (s : State) (fn n : Nat) (on : Bool), s.isHost fn = true →
    ∃ t u v, exec (.configurationWrite fn (.msix on)) s = .next t ∧ (t.mf fn).msix = on ∧ t = { s with out := t.out, evt.mf := t.evt.mf } ∧
      exec (.configurationWrite fn (.msi on n)) s = .next u ∧ (u.mf fn).msi = on ∧ (u.mf fn).msiN = min (max n 1) 32 ∧
      exec (.configurationWrite fn (.intDis on)) s = .next v ∧ (v.mf fn).intDis = on) ∧
  (∀ (s : State) (fn v : Nat), s.isHost fn = true → v < 64 →
    ∃ t, exec (.configurationWrite fn (.vecMask v true)) s = .next t ∧ v ∈ (t.mf fn).vecMask ∧ t = { s with evt.mf := t.evt.mf }) ∧
  (∀ (s : State) (fn : Nat) (on : Bool), s.isHost fn = true →
    ∃ t u, exec (.configurationWrite fn (.aspm on)) s = .next t ∧ (t.px fn).aspm = on ∧ t = { s with prt.px := t.prt.px } ∧
      exec (.configurationWrite fn (.l0p on)) s = .next u ∧ (u.px fn).l0pHost = on ∧ u = { s with prt.px := u.prt.px }) ∧
  (∀ (s : State) (fn v q d : Nat) (x : Vdp), s.isHost fn = true → v < 128 → s.prt.vdp = [(fn * 128 + v, x)] → x.hold = .phys q d → q < 128 →
    ∃ t, exec (.configurationWrite fn (.dpcRelease v)) s = .next t ∧ t.bit (PRT_HP_STAT_DPC q) = false ∧
      t = { s with regs := t.regs, prt.vdp := [(fn * 128 + v, { x with dpc := false })] }) ∧
  (∀ (s : State) (fn v b : Nat) (x : Vdp) (on : Bool), s.isHost fn = true → v < 128 → mget s.prt.vdp (fn * 128 + v) = some x → x.hold = .vmd b →
    ∃ t, exec (.configurationWrite fn (.tspLock v on)) s = .next t ∧ mget t.prt.vdp (fn * 128 + v) = some { x with tspLock := on } ∧
      t = { s with prt.vdp := t.prt.vdp }) ∧
  (∀ (s : State) (fn : Nat) (c : CfgWrite), s.isHost fn = false → fn ≠ 128 → exec (.configurationWrite fn c) s = .next s)

/-- BIND_VDP and UNBIND_VDP are due at the Daybreak of R36 or refused; GENERATE_AER sends its event; GET_PORT reports the words; configuration,
memory and tunnelled requests are relayed to a link that is up and answered with what the device returns. Cites R55, R59, R69, R319. -/
def Obligations.PortOpcodes : Prop :=
  (∀ (s : State) (rq : Rq) (p : Principal) (h v q ld : Nat), s.serves rq 0x0303 p = true → s.isHost h = true → v < 128 → q < 128 → s.formed q = true →
    s.role q = 2 → s.isPool q = false → (ld < 16 ∨ ld = 255) → mget s.prt.vdp (h * 128 + v) = none → s.devBound q ld = false →
    s.vdpDue (h * 128 + v) q = false → s.windowsOf q = [] →
    ∃ t, exec (.bindVdp rq h v q ld) s = .next t ∧ t.replied rq 0x0303 .success s.effFrame [] ∧
      t = { s with
        out := t.out, mbx.sess := t.mbx.sess, due := s.due ++ [Due.mk s.effFrame false false false none none (.bindVdp h v q ld)] }) ∧
  (∀ (s : State) (rq : Rq) (p : Principal) (h v q ld : Nat), s.serves rq 0x0303 p = true → (s.isHost h = false ∨ 128 ≤ v ∨ s.role q ≠ 2 ∨
      s.isPool q = true ∨ (16 ≤ ld ∧ ld ≠ 255) ∨ mget s.prt.vdp (h * 128 + v) ≠ none ∨ s.devBound q ld = true) →
    ∃ t, exec (.bindVdp rq h v q ld) s = .next t ∧ s.turnsAway t rq 0x0303 .parameter) ∧
  (∀ (s : State) (rq : Rq) (p : Principal) (h v f q d : Nat) (x : Vdp), s.serves rq 0x0304 p = true → s.isHost h = true → v < 128 → f ≤ 1 →
    mget s.prt.vdp (h * 128 + v) = some x → x.hold = .phys q d → s.vdpDue (h * 128 + v) 256 = false →
    ∃ t, exec (.unbindVdp rq h v f) s = .next t ∧ t.replied rq 0x0304 .success s.effFrame [] ∧
      t = { s with
        out := t.out, mbx.sess := t.mbx.sess, due := s.due ++ [Due.mk s.effFrame false false false none none (.unbindVdp h v (f == 1))] }) ∧
  (∀ (s : State) (rq : Rq) (p : Principal) (h v b : Nat) (x : Vdp), s.serves rq 0x0304 p = true → s.isHost h = true → v < 128 →
    mget s.prt.vdp (h * 128 + v) = some x → x.hold = .vmd b → s.extents b ≠ [] →
    ∃ t, exec (.unbindVdp rq h v 0) s = .next t ∧ s.turnsAway t rq 0x0304 .busy) ∧
  (∀ (s : State) (rq : Rq) (p : Principal) (h v x : Nat), s.serves rq 0x0305 p = true → s.isHost h = true → v < 128 →
    ∃ t, exec (.generateAer rq h v x) s = .next t ∧ t.replied rq 0x0305 .success s.time.frame [] ∧ .vdp h v 3 x ∈ t.out ∧
      t = { s with out := t.out, mbx.sess := t.mbx.sess }) ∧
  (∀ (s : State) (rq : Rq) (p : Principal) (q : Nat), s.serves rq 0x0300 p = true → q < 128 →
    ∃ t, exec (.getPort rq q) s = .next t ∧ t.replied rq 0x0300 .success s.time.frame
        [(4, (s.cfgStat q).toNat), (4, (s.word (PRT_LINK_STAT q)).toNat), (4, (s.ideStat q).toNat), (4, (s.word (PRT_HP_STAT q)).toNat)] ∧
      t = { s with out := t.out, mbx.sess := t.mbx.sess }) ∧
  (∀ (s : State) (rq : Rq) (p : Principal) (q n c : Nat), s.serves rq 0x0302 p = true → q < 128 → s.formed q = true → s.role q ≠ 3 → s.linkUp q = true →
    ∃ t, exec (.ppbConfigurationRequest rq q n c) s = .next t ∧ t.replied rq 0x0302 .success s.time.frame [(8, c)] ∧ .relay 0x0302 q 0 n ∈ t.out ∧
      t = { s with out := t.out, mbx.sess := t.mbx.sess }) ∧
  (∀ (s : State) (rq : Rq) (p : Principal) (q n c : Nat), s.serves rq 0x0302 p = true → q < 128 → s.formed q = true → s.role q ≠ 3 →
    s.linkUp q = false → ∃ t, exec (.ppbConfigurationRequest rq q n c) s = .next t ∧ s.turnsAway t rq 0x0302 .state) ∧
  (∀ (s : State) (rq : Rq) (p : Principal) (q ld n c : Nat), s.serves rq 0x0306 p = true → q < 128 → s.formed q = true → s.role q ≠ 3 →
    s.linkUp q = true → ld < 16 →
    ∃ t, exec (.ldConfigurationRequest rq q ld n c) s = .next t ∧ t.replied rq 0x0306 .success s.time.frame [(8, c)] ∧ .relay 0x0306 q ld n ∈ t.out ∧
      t = { s with out := t.out, mbx.sess := t.mbx.sess }) ∧
  (∀ (s : State) (rq : Rq) (p : Principal) (q ld a n d c : Nat), s.serves rq 0x0307 p = true → q < 128 → s.formed q = true → s.role q ≠ 3 →
    s.linkUp q = true → ld < 16 →
    ∃ t, exec (.ldMemoryRequest rq q ld a n d c) s = .next t ∧ t.replied rq 0x0307 .success s.time.frame [(n, c)] ∧
      .relay 0x0307 q ld (ldRequest a n d) ∈ t.out ∧ t = { s with out := t.out, mbx.sess := t.mbx.sess }) ∧
  (∀ (s : State) (rq : Rq) (p : Principal) (q ld n z c : Nat), s.serves rq 0x0308 p = true → q < 128 → s.formed q = true → s.role q ≠ 3 →
    s.linkUp q = true → ld < 16 →
    ∃ t, exec (.mldTunnel rq q ld n z c) s = .next t ∧ t.replied rq 0x0308 .success s.time.frame [(z, c)] ∧ .relay 0x0308 q ld n ∈ t.out ∧
      t = { s with out := t.out, mbx.sess := t.mbx.sess })

/-- A sample of a channel records its measurements and steps its presence; insertion and off-time ends start the ramp where the channel waits;
cooling clears the fault count; the fast trip turns the feed off at once, counts the fault, and latches the eighth. Cites R353, R355, R357, R359,
R360. -/
def Obligations.SlotSupervision : Prop :=
  (∀ (s : State) (c vout shunt gsA gsB va vb : Nat) (l : Bool), (32 ≤ c ∨ s.slotsRun = false) →
    exec (.slotSample c l vout shunt gsA gsB va vb) s = .next s) ∧
  (∀ (s : State) (c vout shunt gsA gsB va vb : Nat) (l : Bool), c < 32 → s.slotsRun = true → s.chSt c = 1 → s.bit (SLT_CH_STAT_PRESENT c) = true →
    (l = true ∨ (s.slot c).high < 3) → s.fld (SLT_CH_STAT_FEED_ACT c) = 0 → (s.slot c).sw = none → (s.slot c).offWait = none → (s.slot c).offCmd = none →
    s.pg c = false → vout ≤ 1000 →
    ∃ t, exec (.slotSample c l vout shunt gsA gsB va vb) s = .next t ∧ t.fld (SLT_CH_MEAS_VOUT c) = min vout 65535 ∧
      t.fld (SLT_CH_MEAS_IOUT c) = min (s.slotMa c shunt) 65535 ∧ t.fld (SLT_FEED_VA (c / 8)) = min va 65535 ∧
      t.fld (SLT_FEED_VB (c / 8)) = min vb 65535 ∧ t.chSt c = 1 ∧ t.pg c = false ∧ t.time = s.time ∧ t.bnd = s.bnd) ∧
  (∀ (s : State) (c vout shunt gsA gsB va vb : Nat), c < 32 → s.slotsRun = true → s.chSt c = 0 → s.bit (SLT_CH_STAT_PRESENT c) = false →
    (s.slot c).low = 999 → s.fld (SLT_CH_STAT_FEED_ACT c) = 0 → (s.slot c).sw = none → (s.slot c).offWait = none → (s.slot c).offCmd = none →
    s.pg c = false → vout ≤ 1000 → s.curBit (SLT_CH_CFG_AUTO_ON c) = false → s.bit (SLT_CH_STAT_ENABLE c) = false → s.bit (SLT_CH_STAT_LATCHED c) = false →
    ∃ t, exec (.slotSample c true vout shunt gsA gsB va vb) s = .next t ∧ t.bit (SLT_CH_STAT_PRESENT c) = true ∧ t.chSt c = 1 ∧
      t.fld (SLT_CH_CNT_INS_CNT c) = s.oneMore (SLT_CH_CNT_INS_CNT c) ∧ (t.slot c).ins = some (s.cur (SLT_CH_CFG_INS_DELAY c) * 1000)) ∧
  (∀ (s : State) (c vout shunt gsA gsB va vb : Nat), c < 32 → s.slotsRun = true → s.bit (SLT_CH_STAT_PRESENT c) = true → 3 ≤ (s.slot c).high →
    (s.slot c).offWait = none → (s.slot c).offCmd = none → (s.slot c).onCmd = none → s.pg c = false →
    ∃ t, exec (.slotSample c false vout shunt gsA gsB va vb) s = .next t ∧ t.bit (SLT_CH_STAT_PRESENT c) = false ∧ t.bit (SLT_CH_STAT_ENABLE c) = false ∧
      t.fld (SLT_CH_STAT_FEED_ACT c) = 0 ∧ t.chSt c = 0 ∧ (t.slot c).ins = none) ∧
  (∀ (s : State) (c : Nat), c < 32 → (s.slot c).ins = some 0 → s.chSt c ≠ 2 →
    ∃ t, exec (.insertionDelayEnd c) s = .next t ∧ t.slot c = { s.slot c with ins := none } ∧ t = { s with slt := t.slt }) ∧
  (∀ (s : State) (c f : Nat), c < 32 → (s.slot c).ins = some 0 → s.chSt c = 2 → (s.slot c).off = none → s.bestFeed c = some f → f ≤ 2 →
    ∃ t, exec (.insertionDelayEnd c) s = .next t ∧ t.chSt c = 3 ∧ t.fld (SLT_CH_STAT_FEED_ACT c) = f ∧ (t.slot c).ins = none ∧ (t.slot c).ramp = 0 ∧
      t = { s with slt := t.slt, regs := t.regs }) ∧
  (∀ (s : State) (c : Nat), (32 ≤ c ∨ (s.slot c).ins ≠ some 0) → exec (.insertionDelayEnd c) s = .next s) ∧
  (∀ (s : State) (c f : Nat), c < 32 → (s.slot c).off = some 0 → s.chSt c = 2 → (s.slot c).ins = none → s.bestFeed c = some f → f ≤ 2 →
    ∃ t, exec (.offTimeEnd c) s = .next t ∧ t.chSt c = 3 ∧ t.fld (SLT_CH_STAT_FEED_ACT c) = f ∧ (t.slot c).off = none ∧ (t.slot c).ramp = 0 ∧
      t = { s with slt := t.slt, regs := t.regs }) ∧
  (∀ (s : State) (c : Nat), c < 32 → (s.slot c).off = some 0 → s.chSt c = 2 → (s.slot c).ins = none → s.bestFeed c = none →
    ∃ t, exec (.offTimeEnd c) s = .next t ∧ t.chSt c = 6 ∧ (t.slot c).off = none ∧ t = { s with slt := t.slt, regs := t.regs }) ∧
  (∀ (s : State) (c : Nat), (32 ≤ c ∨ (s.slot c).off ≠ some 0) → exec (.offTimeEnd c) s = .next s) ∧
  (∀ (s : State) (c : Nat), c < 32 → s.cur (SLT_CH_TIME_COOL c) * 1000000 ≤ (s.slot c).cool →
    ∃ t, exec (.coolingExpiry c) s = .next t ∧ t.fld (SLT_CH_STAT_FAULT_CNT c) = 0 ∧ t.bit (SLT_CH_STAT_LATCHED c) = s.bit (SLT_CH_STAT_LATCHED c) ∧
      t = { s with regs := t.regs }) ∧
  (∀ (s : State) (c : Nat), (32 ≤ c ∨ (s.slot c).cool < s.cur (SLT_CH_TIME_COOL c) * 1000000) → exec (.coolingExpiry c) s = .next s) ∧
  (∀ (s : State) (c shunt : Nat), c < 32 → s.fld (SLT_CH_STAT_FEED_ACT c) ≠ 0 → s.cur (SLT_CH_BRK_I c 7) * s.cur (SLT_CH_SHUNT_RSHUNT c) < 5 * shunt →
    s.pg c = false →
    ∃ t, exec (.fastTrip c shunt) s = .next t ∧ t.fld (SLT_CH_STAT_FAULT_CNT c) = min (s.fld (SLT_CH_STAT_FAULT_CNT c) + 1) 8 ∧
      t.fld (SLT_CH_STAT_CAUSE c) = 2 ∧ t.fld (SLT_CH_STAT_FEED_ACT c) = 0 ∧ t.fld (SLT_CH_CNT_TRIP_CNT c) = s.oneMore (SLT_CH_CNT_TRIP_CNT c) ∧
      (7 ≤ s.fld (SLT_CH_STAT_FAULT_CNT c) → t.bit (SLT_CH_STAT_LATCHED c) = true ∧ t.bit (SLT_CH_STAT_ENABLE c) = false)) ∧
  (∀ (s : State) (c shunt : Nat), (32 ≤ c ∨ s.fld (SLT_CH_STAT_FEED_ACT c) = 0 ∨
      5 * shunt ≤ s.cur (SLT_CH_BRK_I c 7) * s.cur (SLT_CH_SHUNT_RSHUNT c)) → exec (.fastTrip c shunt) s = .next s)

/-- SLOT_POWER_ON, SLOT_POWER_OFF, CLEAR_LATCH and the bits of SLT_CH_CTL start their sequence, or are refused with the status of the check that
refuses them; APPLY makes the channel's staged words due at the Daybreak of R36, or refuses them. Cites R352, R365, R366, R367, R369, R370. -/
def Obligations.SlotCommands : Prop :=
  (∀ (s : State) (rq : Rq) (p : Principal) (c : Nat), s.serves rq 0x0900 p = true → c < 32 →
    ∃ t, exec (.getChannel rq c) s = .next t ∧ t.replied rq 0x0900 .success s.time.frame
        [(4, (s.word (SLT_CH_STAT c)).toNat), (4, (s.word (SLT_CH_MEAS c)).toNat), (4, s.slotOfft c), (4, (s.word (SLT_CH_CNT c)).toNat)] ∧
      t = { s with out := t.out, mbx.sess := t.mbx.sess }) ∧
  (∀ (s : State) (rq : Rq) (p : Principal) (c f : Nat), s.serves rq 0x0901 p = true → s.onRefusal c f = none → s.lcSlots ≠ [] → s.pg c = false →
    ∃ t h, exec (.slotPowerOn rq c f) s = .next t ∧ t.replied rq 0x0901 .inProgress s.time.frame [(2, h)] ∧ t.bit (SLT_CH_STAT_ENABLE c) = true ∧
      (t.slot c).first = f ∧ (t.slot c).onCmd = some (some h) ∧
      t = { s with out := t.out, mbx.sess := t.mbx.sess, mbx.lc := t.mbx.lc, fresh := s.fresh + 1, regs := t.regs, slt := t.slt }) ∧
  (∀ (s : State) (rq : Rq) (p : Principal) (c f : Nat) (r : Status), s.serves rq 0x0901 p = true → s.onRefusal c f = some r →
    ∃ t, exec (.slotPowerOn rq c f) s = .next t ∧ s.turnsAway t rq 0x0901 r) ∧
  (∀ (s : State) (rq : Rq) (p : Principal) (c : Nat), s.serves rq 0x0902 p = true → s.offRefusal p c = none → s.lcSlots ≠ [] →
    (∀ q ∈ s.portsOf c, s.linkUp q = false) → (s.slot c).onCmd = none →
    ∃ t h, exec (.slotPowerOff rq c) s = .next t ∧ t.replied rq 0x0902 .inProgress s.time.frame [(2, h)] ∧ t.bit (SLT_CH_STAT_ENABLE c) = false ∧
      (t.slot c).offCmd = some (some h) ∧ (t.slot c).offWait = some 1000 ∧ t.fld (SLT_CH_STAT_FEED_ACT c) = s.fld (SLT_CH_STAT_FEED_ACT c)) ∧
  (∀ (s : State) (rq : Rq) (p : Principal) (c : Nat) (r : Status), s.serves rq 0x0902 p = true → s.offRefusal p c = some r →
    ∃ t, exec (.slotPowerOff rq c) s = .next t ∧ s.turnsAway t rq 0x0902 r) ∧
  (∀ (s : State) (rq : Rq) (p : Principal) (c : Nat), s.serves rq 0x0903 p = true → s.clrRefusal c = none → s.fld (SLT_CH_MEAS_VOUT c) < 1000 →
    ∃ t, exec (.clearLatch rq c) s = .next t ∧ t.replied rq 0x0903 .success s.time.frame [] ∧ t.fld (SLT_CH_STAT_FAULT_CNT c) = 0 ∧
      t.bit (SLT_CH_STAT_LATCHED c) = false ∧ t.bit (SLT_CH_STAT_DAMAGED c) = false ∧ (t.slot c).off = none ∧
      t = { s with out := t.out, mbx.sess := t.mbx.sess, regs := t.regs, slt := t.slt }) ∧
  (∀ (s : State) (rq : Rq) (p : Principal) (c : Nat) (r : Status), s.serves rq 0x0903 p = true → s.clrRefusal c = some r →
    ∃ t, exec (.clearLatch rq c) s = .next t ∧ s.turnsAway t rq 0x0903 r) ∧
  (∀ (s : State) (b : Bus) (c : Nat), s.takesWrite b (SLT_CH_CTL c) = true → (s.busP b).isOF = true → c < 32 → s.onRefusal c 0 = none → s.pg c = false →
    ∃ t, exec (.slotOnWrite b c) s = .next t ∧ t.bit (SLT_CH_STAT_ENABLE c) = true ∧ (t.slot c).onCmd = some none ∧
      t = { s with regs := t.regs, latch := t.latch, slt := t.slt }) ∧
  (∀ (s : State) (b : Bus) (c : Nat) (r : Status), s.takesWrite b (SLT_CH_CTL c) = true → (s.busP b).isOF = true → c < 32 → s.onRefusal c 0 = some r →
    ∃ t, exec (.slotOnWrite b c) s = .next t ∧ t.bit (SLT_CH_CTL_CMD_REF c) = true ∧ t.bit (SLT_CH_STAT_ENABLE c) = s.bit (SLT_CH_STAT_ENABLE c) ∧
      t = { s with regs := t.regs, latch := t.latch }) ∧
  (∀ (s : State) (b : Bus) (c : Nat), s.takesWrite b (SLT_CH_CTL c) = true → (s.busP b).isOF = true → c < 32 → s.offRefusal (s.busP b) c = none →
    (∀ q ∈ s.portsOf c, s.linkUp q = false) → (s.slot c).onCmd = none →
    ∃ t, exec (.slotOffWrite b c) s = .next t ∧ t.bit (SLT_CH_STAT_ENABLE c) = false ∧ (t.slot c).offCmd = some none ∧
      (t.slot c).offWait = some 1000) ∧
  (∀ (s : State) (b : Bus) (c : Nat) (r : Status), s.takesWrite b (SLT_CH_CTL c) = true → (s.busP b).isOF = true → c < 32 →
    s.offRefusal (s.busP b) c = some r →
    ∃ t, exec (.slotOffWrite b c) s = .next t ∧ t.bit (SLT_CH_CTL_CMD_REF c) = true ∧ t = { s with regs := t.regs, latch := t.latch }) ∧
  (∀ (s : State) (b : Bus) (c : Nat), s.takesWrite b (SLT_CH_CTL c) = true → (s.busP b).isOF = true → c < 32 → s.clrRefusal c = none →
    s.fld (SLT_CH_MEAS_VOUT c) < 1000 →
    ∃ t, exec (.slotClrWrite b c) s = .next t ∧ t.fld (SLT_CH_STAT_FAULT_CNT c) = 0 ∧ t.bit (SLT_CH_STAT_LATCHED c) = false ∧
      t.bit (SLT_CH_STAT_DAMAGED c) = false ∧ t = { s with regs := t.regs, latch := t.latch, slt := t.slt }) ∧
  (∀ (s : State) (b : Bus) (c : Nat), s.takesWrite b (SLT_CH_CTL c) = true → (s.busP b).isOF = true → c < 32 → s.slotBad c = false →
    ∃ t, exec (.slotApply b c) s = .next t ∧
      t.due = s.due ++ [Due.mk s.effFrame false false false none none (.slot c (((slotWords c).filter (fun a => s.dirty.contains a)).map (fun a => (a, s.word a))))] ∧
      (∀ a ∈ slotWords c, a ∉ t.dirty) ∧ t.force = s.force) ∧
  (∀ (s : State) (b : Bus) (c : Nat), s.takesWrite b (SLT_CH_CTL c) = true → (s.busP b).isOF = true → c < 32 → s.slotBad c = true →
    ∃ t, exec (.slotApply b c) s = .next t ∧ t.bit (SLT_CH_CTL_CFG_REF c) = true ∧ t.due = s.due ∧ t.force = s.force)

/-- A patrol pass lists rows that corrected twice; a row copied waits for its swap; a stack of the mirror that fails leaves the other alone, and
resilvering completes it; journal pages advance within their rate; READ_MARGINS and READ_FORECAST report; a forecast is dismissed and a rate cap
cleared. Cites R410, R412, R414, R415, R417, R418. -/
def Obligations.TwilightAndRepair : Prop :=
  (∀ (s : State) (m r w : Nat), s.twl.corrected = [(m, r, w)] → (m, r) ∉ s.twl.rows → m ∉ s.twl.exhausted →
    ∃ t, exec (.patrolScrubPass [(m, r, w)]) s = .next t ∧ t.twl.rows = s.twl.rows ++ [(m, r)] ∧ t.twl.corrected = [(m, r, w)] ∧
      t.fld TWL_SCRUB_PASSES = (s.fld TWL_SCRUB_PASSES + 1) % 2 ^ 32 ∧
      t = { s with regs := t.regs, twl.rows := t.twl.rows, twl.corrected := t.twl.corrected }) ∧
  (∀ (s : State), ∃ t, exec (.patrolScrubPass []) s = .next t ∧ t.twl.rows = s.twl.rows ∧ t.twl.corrected = [] ∧
      t.fld TWL_SCRUB_PASSES = (s.fld TWL_SCRUB_PASSES + 1) % 2 ^ 32) ∧
  (∀ (s : State) (m r : Nat) (last : Bool), (m, r) ∈ s.twl.rows → s.inHold = false → m ∉ s.twl.exhausted →
    exec (.rowRepairCopyDone m r last) s = .next { s with
      twl.rows := s.twl.rows.filter (fun e => e != (m, r)), twl.swaps := s.twl.swaps ++ [(m, r, last)] }) ∧
  (∀ (s : State) (m r : Nat) (last : Bool), ((m, r) ∉ s.twl.rows ∨ s.inHold = true ∨ m ∈ s.twl.exhausted) →
    exec (.rowRepairCopyDone m r last) s = .next s) ∧
  (∀ (s : State) (k c : Nat), k ≤ 1 → s.fld TWL_RSV_STATE0 = 0 → s.fld TWL_RSV_STATE1 = 0 →
    ∃ t, exec (.mirrorSingle k c) s = .next t ∧ t.fld (rsvState k) = 2 ∧ t.fld (rsvState (1 - k)) = 1 ∧ t.bit GLB_DEG_MIRROR = true ∧
      t.time = s.time ∧ t.bnd = s.bnd ∧ (s.twl.fc = [] → t.twl.fc = [Fcst.mk 5 1 (1 - k) s.time.frame s.time.frame])) ∧
  (∀ (s : State) (k c : Nat), (1 < k ∨ s.fld TWL_RSV_STATE0 ≠ 0 ∨ s.fld TWL_RSV_STATE1 ≠ 0) → exec (.mirrorSingle k c) s = .next s) ∧
  (∀ (s : State) (k : Nat), k ≤ 1 → s.fld (rsvState k) = 2 →
    ∃ t, exec (.resilverDone k) s = .next t ∧ t.fld (rsvState k) = 3 ∧ k ∈ t.twl.resilvered ∧
      t = { s with regs := t.regs, twl.resilvered := t.twl.resilvered }) ∧
  (∀ (s : State) (k : Nat), (1 < k ∨ s.fld (rsvState k) ≠ 2) → exec (.resilverDone k) s = .next s) ∧
  (∀ (s : State) (ok : Bool), (s.twl.pages.filter (fun x => decide (s.now < x + 1000000000))).length < 16 → (ok = true ∨ s.twl.spares = 0) →
    ∃ t, exec (.journalWrite ok) s = .next t ∧ t.fld TWL_JRNL_HEAD = (s.fld TWL_JRNL_HEAD + 1) % 8192 ∧ t.twl.spares = s.twl.spares ∧
      t.twl.pages.head? = some s.now ∧ t = { s with regs := t.regs, twl.pages := t.twl.pages }) ∧
  (∀ (s : State), (s.twl.pages.filter (fun x => decide (s.now < x + 1000000000))).length < 16 → 1 ≤ s.twl.spares →
    ∃ t, exec (.journalWrite false) s = .next t ∧ t.fld TWL_JRNL_HEAD = (s.fld TWL_JRNL_HEAD + 1) % 8192 ∧ t.twl.spares = s.twl.spares - 1 ∧
      t.fld TWL_JRNL_SPARES = min (s.twl.spares - 1) 255) ∧
  (∀ (s : State) (ok : Bool), 16 ≤ (s.twl.pages.filter (fun x => decide (s.now < x + 1000000000))).length → exec (.journalWrite ok) s = .next s) ∧
  (∀ (s : State) (rq : Rq) (p : Principal) (cls i : Nat) (r : Margin), s.serves rq 0x0C00 p = true → cls ≤ 5 → i < sensorCount cls →
    (s.sensor (sensorKey cls i)).recs.getLast? = some r →
    ∃ t, exec (.readMargins rq cls i 1) s = .next t ∧
      t.replied rq 0x0C00 .success s.time.frame [(1, cls), (1, r.flags), (2, i), (8, r.frame), (2, r.worst), (2, r.mean)] ∧
      t = { s with out := t.out, mbx.sess := t.mbx.sess }) ∧
  (∀ (s : State) (rq : Rq) (p : Principal) (cls i n : Nat), s.serves rq 0x0C00 p = true → (5 < cls ∨ sensorCount cls < i + n) →
    ∃ t, exec (.readMargins rq cls i n) s = .next t ∧ s.turnsAway t rq 0x0C00 .parameter) ∧
  (∀ (s : State) (rq : Rq) (p : Principal), s.serves rq 0x0C01 p = true →
    ∃ t, exec (.readForecast rq) s = .next t ∧ t.replied rq 0x0C01 .success s.time.frame
        (s.twl.fc.flatMap (fun c => [(1, c.cls), (1, c.reason), (2, c.target), (4, 0), (8, c.made), (8, c.due), (8, 0)])) ∧
      t = { s with out := t.out, mbx.sess := t.mbx.sess }) ∧
  (∀ (s : State) (b : Bus) (w : Word) (c : Fcst), s.takesWrite b TWL_FC = true → (s.busP b).isOF = true → s.twl.fc = [c] → getBits w 8 6 = 0 →
    ∃ t, exec (.forecastDismiss b w) s = .next t ∧ t.twl.fc = [] ∧ t.bit TWL_FC_DUE = false ∧ t.bit GLB_DEG_FORECAST = false) ∧
  (∀ (s : State) (b : Bus) (p : Nat), s.takesWrite b (TWL_PCAP p) = true → (s.busP b).isOF = true → p < 128 → s.linkUp p = false →
    ∃ t, exec (.rateCapClear b p) s = .next t ∧ t.fld (TWL_PCAP_CAP p) = 0 ∧ t.fld (TWL_PCAP_FLOOR p) = s.fld (TWL_PCAP_FLOOR p) ∧
      (t.px p).xrHold = false)

/-- IMAGE_CHUNK writes a bank that does not run; ACTIVATE_IMAGE is accepted as a long command, and a valid image schedules the takeover; the outgoing
pair rejoins or is lost; RAISE_SVN_FLOOR raises the floor within its bounds; PERSONALITY is due, or stored for the next entry to Provisioning, or
refused. Cites R294, R419, R422. -/
def Obligations.FirmwareAndPersonality : Prop :=
  (∀ (s : State) (rq : Rq) (p : Principal) (n k z : Nat) (i : Image), s.serves rq 0x0D00 p = true → s.fwWho p rq.route = true → n ≤ 1 → z ≤ 4091 →
    (s.noImage = true ∨ n ≠ s.ident.runBank) →
    ∃ t, exec (.imageChunk rq n k z i) s = .next t ∧ t.replied rq 0x0D00 .success s.time.frame [] ∧
      t = { s with
        out := t.out, mbx.sess := t.mbx.sess, ident.bank0 := if n = 0 then i else s.ident.bank0, ident.bank1 := if n = 0 then s.ident.bank1 else i }) ∧
  (∀ (s : State) (rq : Rq) (p : Principal) (n k z : Nat) (i : Image), s.serves rq 0x0D00 p = true → s.fwWho p rq.route = true → n ≤ 1 → z ≤ 4091 →
    s.noImage = false → n = s.ident.runBank → ∃ t, exec (.imageChunk rq n k z i) s = .next t ∧ s.turnsAway t rq 0x0D00 .busy) ∧
  (∀ (s : State) (rq : Rq) (p : Principal) (n : Nat), s.serves rq 0x0D01 p = true → s.fwWho p rq.route = true → n ≤ 1 →
    s.md.mode ≠ .standby → s.md.mode ≠ .quarantine → s.bit GLB_DEG_STANDBY_PAIR = false → s.twl.act = none → s.flt.takeDue = false → s.lcSlots ≠ [] →
    ∃ t h, exec (.activateImage rq n) s = .next t ∧ t.replied rq 0x0D01 .inProgress s.time.frame [(2, h)] ∧
      t = { s with
        out := t.out, mbx.sess := t.mbx.sess, mbx.lc := t.mbx.lc, fresh := s.fresh + 1,
        twl.act := some { bank := n, handle := h, image := if n = 0 then s.ident.bank0 else s.ident.bank1, due := none } }) ∧
  (∀ (s : State) (rq : Rq) (p : Principal) (n : Nat), s.serves rq 0x0D01 p = true → s.fwWho p rq.route = true → n ≤ 1 →
    s.bit GLB_DEG_STANDBY_PAIR = true → ∃ t, exec (.activateImage rq n) s = .next t ∧ s.turnsAway t rq 0x0D01 .state) ∧
  (∀ (s : State) (a : Activ), s.twl.act = some a → a.due = none → s.imageValid (s.bankImage a.bank) = true →
    ∃ t, exec .imageValidated s = .next t ∧ t.bit TWL_FW_TAKE_PEND = true ∧ t.bit TWL_FW_STANDBY_READY = false ∧
      t = { s with
        regs := t.regs,
        twl.act := some { a with image := s.bankImage a.bank, due := some (s.time.frame + if s.time.tick = 0 then 16 else 17) } }) ∧
  (∀ (s : State) (a : Activ), s.twl.act = some a → a.due = none → s.imageValid (s.bankImage a.bank) = false →
    ∃ t, exec .imageValidated s = .next t ∧ t.twl.act = none ∧ t.bit TWL_FW_TAKE_PEND = s.bit TWL_FW_TAKE_PEND ∧ t.ident = s.ident) ∧
  (∀ (s : State), (s.twl.act = none ∨ ∃ a, s.twl.act = some a ∧ a.due ≠ none) → exec .imageValidated s = .next s) ∧
  (∀ (s : State), (s.bit TWL_FW_REJOIN = true ∨ s.bit GLB_DEG_STANDBY_PAIR = true) →
    ∃ t u, exec (.outgoingPairRejoin true) s = .next t ∧ t.bit TWL_FW_REJOIN = false ∧ t.bit TWL_FW_STANDBY_READY = true ∧
      t.bit GLB_DEG_STANDBY_PAIR = false ∧ exec (.outgoingPairRejoin false) s = .next u ∧ u.bit TWL_FW_REJOIN = false ∧
      u.bit TWL_FW_STANDBY_READY = s.bit TWL_FW_STANDBY_READY ∧ u.bit GLB_DEG_STANDBY_PAIR = true) ∧
  (∀ (s : State) (ok : Bool), s.bit TWL_FW_REJOIN = false → s.bit GLB_DEG_STANDBY_PAIR = false → exec (.outgoingPairRejoin ok) s = .next s) ∧
  (∀ (s : State) (rq : Rq) (p : Principal) (f : Nat), s.serves rq 0x0D02 p = true → (p = .vendor → s.ident.life = .blank) → f ≤ 64 → f ≤ s.ident.runSvn →
    (s.imageValid (s.bankImage (1 - s.ident.runBank)) = true → f ≤ (s.bankImage (1 - s.ident.runBank)).svn) →
    ∃ t, exec (.raiseSvnFloor rq f false) s = .next t ∧ t.replied rq 0x0D02 .success s.time.frame [] ∧
      t = { s with out := t.out, mbx.sess := t.mbx.sess, ident.floor := max s.ident.floor f }) ∧
  (∀ (s : State) (rq : Rq) (p : Principal) (f : Nat) (v : Bool), s.serves rq 0x0D02 p = true → (p = .vendor → s.ident.life = .blank) →
    (64 < f ∨ s.ident.runSvn < f) → ∃ t, exec (.raiseSvnFloor rq f v) s = .next t ∧ s.turnsAway t rq 0x0D02 .parameter) ∧
  (∀ (s : State) (rq : Rq) (p : Principal) (c : PersCfg), s.serves rq 0x0D03 p = true → s.persRefusal c = none → s.lcSlots ≠ [] →
    s.md.mode = .provisioning →
    ∃ t h, exec (.personality rq c) s = .next t ∧ t.replied rq 0x0D03 .inProgress s.effFrame [(2, h)] ∧ .journal 0x0010 ∈ t.out ∧
      t = { s with
        out := t.out, mbx.sess := t.mbx.sess, mbx.lc := t.mbx.lc, fresh := s.fresh + 1,
        due := s.due ++ [Due.mk s.effFrame false false false (some h) none (.persLevel c.level c.serial)] }) ∧
  (∀ (s : State) (rq : Rq) (p : Principal) (c : PersCfg), s.serves rq 0x0D03 p = true → s.persRefusal c = none → s.lcSlots ≠ [] →
    s.md.mode = .service →
    ∃ t h, exec (.personality rq c) s = .next t ∧ t.replied rq 0x0D03 .inProgress s.time.frame [(2, h)] ∧ t.twl.pers = some (c.level, c.serial) ∧
      t.bit TWL_PERS_CFG_VALID = true ∧ t.bit TWL_PERS_PEND = true ∧ t.fld TWL_PERS_PEND_LEVEL = c.level % 16 ∧
      t.fld TWL_PERS_LEVEL = s.fld TWL_PERS_LEVEL ∧ t.due = s.due) ∧
  (∀ (s : State) (rq : Rq) (p : Principal) (c : PersCfg) (e : Status), s.serves rq 0x0D03 p = true → s.persRefusal c = some e →
    ∃ t, exec (.personality rq c) s = .next t ∧ s.turnsAway t rq 0x0D03 e)
end

