-- ==== Sys2Proof/Laws/Assoc.lean ====
section
/-! SUPPORT. The laws of sparse tables: a read after a write, and the canonical form. -/

set_option Elab.async false
namespace Sys2Proof.Machine

variable {α : Type}

theorem mget_mput (m : NMap α) (k j : Nat) (v : α) : mget (mput m k v) j = if k = j then some v else mget m j := by
  induction m with
  | nil => simp [mput, mget]
  | cons e t ih =>
    obtain ⟨i, u⟩ := e
    unfold mput
    split
    · simp only [mget]
    · split
      · next _ h => subst h; simp only [mget]; split <;> simp_all
      · simp only [mget, ih]; split <;> simp_all

@[simp] theorem mget_mput_same (m : NMap α) (k : Nat) (v : α) : mget (mput m k v) k = some v := by simp [mget_mput]

theorem mget_mput_ne (m : NMap α) {k j : Nat} (v : α) (h : k ≠ j) : mget (mput m k v) j = mget m j := by simp [mget_mput, h]

theorem mget_mdel (m : NMap α) (k j : Nat) : mget (mdel m k) j = if k = j then none else mget m j := by
  induction m with
  | nil => simp [mdel, mget]
  | cons e t ih =>
    obtain ⟨i, u⟩ := e
    unfold mdel
    split
    · next h => subst h; rw [ih]; simp only [mget]; split <;> simp_all
    · next h =>
      simp only [mget, ih]
      by_cases h1 : i = j
      · subst h1; simp [Ne.symm h]
      · simp [h1]

@[simp] theorem mget_mdel_same (m : NMap α) (k : Nat) : mget (mdel m k) k = none := by simp [mget_mdel]

theorem mget_mdel_ne (m : NMap α) {k j : Nat} (h : k ≠ j) : mget (mdel m k) j = mget m j := by simp [mget_mdel, h]

theorem mgetD_mputD [DecidableEq α] (m : NMap α) (k j : Nat) (d v : α) :
    mgetD (mputD m k d v) j d = if k = j then v else mgetD m j d := by
  unfold mgetD mputD
  split
  · next h => rw [mget_mdel]; split <;> simp_all
  · rw [mget_mput]; split <;> simp_all

@[simp] theorem mgetD_mputD_same [DecidableEq α] (m : NMap α) (k : Nat) (d v : α) : mgetD (mputD m k d v) k d = v := by simp [mgetD_mputD]

theorem mgetD_mputD_ne [DecidableEq α] (m : NMap α) {k j : Nat} (d v : α) (h : k ≠ j) :
    mgetD (mputD m k d v) j d = mgetD m j d := by simp [mgetD_mputD, h]

@[simp] theorem mget_mmod_same (m : NMap α) (k : Nat) (f : α → α) : mget (mmod m k f) k = (mget m k).map f := by
  unfold mmod; split <;> simp_all

theorem mget_mmod_ne (m : NMap α) {k j : Nat} (f : α → α) (h : k ≠ j) : mget (mmod m k f) j = mget m j := by
  unfold mmod; split <;> simp [mget_mput, h]

/-- Whether every key of a table is above a number. -/
def mabove (k : Nat) (m : NMap α) : Prop := ∀ e ∈ m, k < e.1

theorem msorted_cons (e : Nat × α) (m : NMap α) : msorted (e :: m) = true ↔ mabove e.1 m ∧ msorted m = true := by
  induction m generalizing e with
  | nil => simp [msorted, mabove]
  | cons f t ih =>
    simp only [msorted, Bool.and_eq_true, decide_eq_true_eq]
    constructor
    · rintro ⟨h, hs⟩
      refine ⟨?_, hs⟩
      intro g hg
      rcases List.mem_cons.1 hg with rfl | hg
      · exact h
      · exact lt_trans h (((ih f).1 hs).1 g hg)
    · rintro ⟨h, hs⟩
      exact ⟨h f (by simp), hs⟩

theorem mput_mem (m : NMap α) (k : Nat) (v : α) (e : Nat × α) (h : e ∈ mput m k v) : e = (k, v) ∨ e ∈ m := by
  induction m with
  | nil => simpa [mput] using h
  | cons f t ih =>
    unfold mput at h
    split at h
    · simpa using h
    · split at h
      · rcases List.mem_cons.1 h with h | h
        · exact .inl h
        · exact .inr (List.mem_cons_of_mem _ h)
      · rcases List.mem_cons.1 h with h | h
        · exact .inr (by simp [h])
        · rcases ih h with h | h
          · exact .inl h
          · exact .inr (List.mem_cons_of_mem _ h)

theorem mdel_mem (m : NMap α) (k : Nat) (e : Nat × α) (h : e ∈ mdel m k) : e ∈ m := by
  induction m with
  | nil => simp [mdel] at h
  | cons f t ih =>
    unfold mdel at h
    split at h
    · exact List.mem_cons_of_mem _ (ih h)
    · rcases List.mem_cons.1 h with h | h
      · simp [h]
      · exact List.mem_cons_of_mem _ (ih h)

/-- Setting an entry keeps the keys strictly rising. -/
theorem msorted_mput (m : NMap α) (k : Nat) (v : α) (h : msorted m = true) : msorted (mput m k v) = true := by
  induction m with
  | nil => rfl
  | cons f t ih =>
    obtain ⟨hf, ht⟩ := (msorted_cons f t).1 h
    unfold mput
    split
    · next hk =>
      refine (msorted_cons _ _).2 ⟨?_, h⟩
      intro e he
      rcases List.mem_cons.1 he with rfl | he
      · exact hk
      · exact lt_trans hk (hf e he)
    · split
      · next _ hk => exact (msorted_cons _ _).2 ⟨by subst hk; exact hf, ht⟩
      · next h1 h2 =>
        refine (msorted_cons _ _).2 ⟨?_, ih ht⟩
        intro e he
        rcases mput_mem t k v e he with rfl | he
        · simp only; omega
        · exact hf e he

/-- Removing an entry keeps the keys strictly rising. -/
theorem msorted_mdel (m : NMap α) (k : Nat) (h : msorted m = true) : msorted (mdel m k) = true := by
  induction m with
  | nil => rfl
  | cons f t ih =>
    obtain ⟨hf, ht⟩ := (msorted_cons f t).1 h
    unfold mdel
    split
    · exact ih ht
    · exact (msorted_cons _ _).2 ⟨fun e he => hf e (mdel_mem t k e he), ih ht⟩

end Sys2Proof.Machine
end

