-- ==== Sys2Proof/Laws/State.lean ====
section
/-! SUPPORT. What the updates of State leave alone: one lemma for each field an update does not touch, true by rfl. -/
namespace Sys2Proof.Machine
open Sys2Proof

/-! ### Register fields -/

@[simp] theorem State.setFld_force (s : State) (f : Fld) (v : Nat) : (s.setFld f v).force = s.force := rfl
@[simp] theorem State.setFld_dirty (s : State) (f : Fld) (v : Nat) : (s.setFld f v).dirty = s.dirty := rfl
@[simp] theorem State.setFld_latch (s : State) (f : Fld) (v : Nat) : (s.setFld f v).latch = s.latch := rfl
@[simp] theorem State.setFld_refused (s : State) (f : Fld) (v : Nat) : (s.setFld f v).refused = s.refused := rfl
@[simp] theorem State.setFld_time (s : State) (f : Fld) (v : Nat) : (s.setFld f v).time = s.time := rfl
@[simp] theorem State.setFld_flt (s : State) (f : Fld) (v : Nat) : (s.setFld f v).flt = s.flt := rfl
@[simp] theorem State.setFld_evt (s : State) (f : Fld) (v : Nat) : (s.setFld f v).evt = s.evt := rfl
@[simp] theorem State.setFld_mbx (s : State) (f : Fld) (v : Nat) : (s.setFld f v).mbx = s.mbx := rfl
@[simp] theorem State.setFld_ident (s : State) (f : Fld) (v : Nat) : (s.setFld f v).ident = s.ident := rfl
@[simp] theorem State.setFld_md (s : State) (f : Fld) (v : Nat) : (s.setFld f v).md = s.md := rfl
@[simp] theorem State.setFld_prt (s : State) (f : Fld) (v : Nat) : (s.setFld f v).prt = s.prt := rfl
@[simp] theorem State.setFld_isl (s : State) (f : Fld) (v : Nat) : (s.setFld f v).isl = s.isl := rfl
@[simp] theorem State.setFld_grp (s : State) (f : Fld) (v : Nat) : (s.setFld f v).grp = s.grp := rfl
@[simp] theorem State.setFld_lan (s : State) (f : Fld) (v : Nat) : (s.setFld f v).lan = s.lan := rfl
@[simp] theorem State.setFld_sec (s : State) (f : Fld) (v : Nat) : (s.setFld f v).sec = s.sec := rfl
@[simp] theorem State.setFld_bnd (s : State) (f : Fld) (v : Nat) : (s.setFld f v).bnd = s.bnd := rfl
@[simp] theorem State.setFld_xbr (s : State) (f : Fld) (v : Nat) : (s.setFld f v).xbr = s.xbr := rfl
@[simp] theorem State.setFld_brg (s : State) (f : Fld) (v : Nat) : (s.setFld f v).brg = s.brg := rfl
@[simp] theorem State.setFld_home (s : State) (f : Fld) (v : Nat) : (s.setFld f v).home = s.home := rfl
@[simp] theorem State.setFld_cnt (s : State) (f : Fld) (v : Nat) : (s.setFld f v).cnt = s.cnt := rfl
@[simp] theorem State.setFld_twl (s : State) (f : Fld) (v : Nat) : (s.setFld f v).twl = s.twl := rfl
@[simp] theorem State.setFld_slt (s : State) (f : Fld) (v : Nat) : (s.setFld f v).slt = s.slt := rfl
@[simp] theorem State.setFld_oxb (s : State) (f : Fld) (v : Nat) : (s.setFld f v).oxb = s.oxb := rfl
@[simp] theorem State.setFld_rsv (s : State) (f : Fld) (v : Nat) : (s.setFld f v).rsv = s.rsv := rfl
@[simp] theorem State.setFld_due (s : State) (f : Fld) (v : Nat) : (s.setFld f v).due = s.due := rfl
@[simp] theorem State.setFld_out (s : State) (f : Fld) (v : Nat) : (s.setFld f v).out = s.out := rfl
@[simp] theorem State.setFld_fresh (s : State) (f : Fld) (v : Nat) : (s.setFld f v).fresh = s.fresh := rfl
@[simp] theorem State.setFld_pending (s : State) (f : Fld) (v : Nat) : (s.setFld f v).pending = s.pending := rfl
@[simp] theorem State.setBit_force (s : State) (f : Fld) (v : Bool) : (s.setBit f v).force = s.force := rfl
@[simp] theorem State.setBit_dirty (s : State) (f : Fld) (v : Bool) : (s.setBit f v).dirty = s.dirty := rfl
@[simp] theorem State.setBit_latch (s : State) (f : Fld) (v : Bool) : (s.setBit f v).latch = s.latch := rfl
@[simp] theorem State.setBit_refused (s : State) (f : Fld) (v : Bool) : (s.setBit f v).refused = s.refused := rfl
@[simp] theorem State.setBit_time (s : State) (f : Fld) (v : Bool) : (s.setBit f v).time = s.time := rfl
@[simp] theorem State.setBit_flt (s : State) (f : Fld) (v : Bool) : (s.setBit f v).flt = s.flt := rfl
@[simp] theorem State.setBit_evt (s : State) (f : Fld) (v : Bool) : (s.setBit f v).evt = s.evt := rfl
@[simp] theorem State.setBit_mbx (s : State) (f : Fld) (v : Bool) : (s.setBit f v).mbx = s.mbx := rfl
@[simp] theorem State.setBit_ident (s : State) (f : Fld) (v : Bool) : (s.setBit f v).ident = s.ident := rfl
@[simp] theorem State.setBit_md (s : State) (f : Fld) (v : Bool) : (s.setBit f v).md = s.md := rfl
@[simp] theorem State.setBit_prt (s : State) (f : Fld) (v : Bool) : (s.setBit f v).prt = s.prt := rfl
@[simp] theorem State.setBit_isl (s : State) (f : Fld) (v : Bool) : (s.setBit f v).isl = s.isl := rfl
@[simp] theorem State.setBit_grp (s : State) (f : Fld) (v : Bool) : (s.setBit f v).grp = s.grp := rfl
@[simp] theorem State.setBit_lan (s : State) (f : Fld) (v : Bool) : (s.setBit f v).lan = s.lan := rfl
@[simp] theorem State.setBit_sec (s : State) (f : Fld) (v : Bool) : (s.setBit f v).sec = s.sec := rfl
@[simp] theorem State.setBit_bnd (s : State) (f : Fld) (v : Bool) : (s.setBit f v).bnd = s.bnd := rfl
@[simp] theorem State.setBit_xbr (s : State) (f : Fld) (v : Bool) : (s.setBit f v).xbr = s.xbr := rfl
@[simp] theorem State.setBit_brg (s : State) (f : Fld) (v : Bool) : (s.setBit f v).brg = s.brg := rfl
@[simp] theorem State.setBit_home (s : State) (f : Fld) (v : Bool) : (s.setBit f v).home = s.home := rfl
@[simp] theorem State.setBit_cnt (s : State) (f : Fld) (v : Bool) : (s.setBit f v).cnt = s.cnt := rfl
@[simp] theorem State.setBit_twl (s : State) (f : Fld) (v : Bool) : (s.setBit f v).twl = s.twl := rfl
@[simp] theorem State.setBit_slt (s : State) (f : Fld) (v : Bool) : (s.setBit f v).slt = s.slt := rfl
@[simp] theorem State.setBit_oxb (s : State) (f : Fld) (v : Bool) : (s.setBit f v).oxb = s.oxb := rfl
@[simp] theorem State.setBit_rsv (s : State) (f : Fld) (v : Bool) : (s.setBit f v).rsv = s.rsv := rfl
@[simp] theorem State.setBit_due (s : State) (f : Fld) (v : Bool) : (s.setBit f v).due = s.due := rfl
@[simp] theorem State.setBit_out (s : State) (f : Fld) (v : Bool) : (s.setBit f v).out = s.out := rfl
@[simp] theorem State.setBit_fresh (s : State) (f : Fld) (v : Bool) : (s.setBit f v).fresh = s.fresh := rfl
@[simp] theorem State.setBit_pending (s : State) (f : Fld) (v : Bool) : (s.setBit f v).pending = s.pending := rfl
@[simp] theorem State.addSat_force (s : State) (f : Fld) (n : Nat) : (s.addSat f n).force = s.force := rfl
@[simp] theorem State.addSat_dirty (s : State) (f : Fld) (n : Nat) : (s.addSat f n).dirty = s.dirty := rfl
@[simp] theorem State.addSat_latch (s : State) (f : Fld) (n : Nat) : (s.addSat f n).latch = s.latch := rfl
@[simp] theorem State.addSat_refused (s : State) (f : Fld) (n : Nat) : (s.addSat f n).refused = s.refused := rfl
@[simp] theorem State.addSat_time (s : State) (f : Fld) (n : Nat) : (s.addSat f n).time = s.time := rfl
@[simp] theorem State.addSat_flt (s : State) (f : Fld) (n : Nat) : (s.addSat f n).flt = s.flt := rfl
@[simp] theorem State.addSat_evt (s : State) (f : Fld) (n : Nat) : (s.addSat f n).evt = s.evt := rfl
@[simp] theorem State.addSat_mbx (s : State) (f : Fld) (n : Nat) : (s.addSat f n).mbx = s.mbx := rfl
@[simp] theorem State.addSat_ident (s : State) (f : Fld) (n : Nat) : (s.addSat f n).ident = s.ident := rfl
@[simp] theorem State.addSat_md (s : State) (f : Fld) (n : Nat) : (s.addSat f n).md = s.md := rfl
@[simp] theorem State.addSat_prt (s : State) (f : Fld) (n : Nat) : (s.addSat f n).prt = s.prt := rfl
@[simp] theorem State.addSat_isl (s : State) (f : Fld) (n : Nat) : (s.addSat f n).isl = s.isl := rfl
@[simp] theorem State.addSat_grp (s : State) (f : Fld) (n : Nat) : (s.addSat f n).grp = s.grp := rfl
@[simp] theorem State.addSat_lan (s : State) (f : Fld) (n : Nat) : (s.addSat f n).lan = s.lan := rfl
@[simp] theorem State.addSat_sec (s : State) (f : Fld) (n : Nat) : (s.addSat f n).sec = s.sec := rfl
@[simp] theorem State.addSat_bnd (s : State) (f : Fld) (n : Nat) : (s.addSat f n).bnd = s.bnd := rfl
@[simp] theorem State.addSat_xbr (s : State) (f : Fld) (n : Nat) : (s.addSat f n).xbr = s.xbr := rfl
@[simp] theorem State.addSat_brg (s : State) (f : Fld) (n : Nat) : (s.addSat f n).brg = s.brg := rfl
@[simp] theorem State.addSat_home (s : State) (f : Fld) (n : Nat) : (s.addSat f n).home = s.home := rfl
@[simp] theorem State.addSat_cnt (s : State) (f : Fld) (n : Nat) : (s.addSat f n).cnt = s.cnt := rfl
@[simp] theorem State.addSat_twl (s : State) (f : Fld) (n : Nat) : (s.addSat f n).twl = s.twl := rfl
@[simp] theorem State.addSat_slt (s : State) (f : Fld) (n : Nat) : (s.addSat f n).slt = s.slt := rfl
@[simp] theorem State.addSat_oxb (s : State) (f : Fld) (n : Nat) : (s.addSat f n).oxb = s.oxb := rfl
@[simp] theorem State.addSat_rsv (s : State) (f : Fld) (n : Nat) : (s.addSat f n).rsv = s.rsv := rfl
@[simp] theorem State.addSat_due (s : State) (f : Fld) (n : Nat) : (s.addSat f n).due = s.due := rfl
@[simp] theorem State.addSat_out (s : State) (f : Fld) (n : Nat) : (s.addSat f n).out = s.out := rfl
@[simp] theorem State.addSat_fresh (s : State) (f : Fld) (n : Nat) : (s.addSat f n).fresh = s.fresh := rfl
@[simp] theorem State.addSat_pending (s : State) (f : Fld) (n : Nat) : (s.addSat f n).pending = s.pending := rfl
@[simp] theorem State.inc_force (s : State) (f : Fld) : (s.inc f).force = s.force := rfl
@[simp] theorem State.inc_dirty (s : State) (f : Fld) : (s.inc f).dirty = s.dirty := rfl
@[simp] theorem State.inc_latch (s : State) (f : Fld) : (s.inc f).latch = s.latch := rfl
@[simp] theorem State.inc_refused (s : State) (f : Fld) : (s.inc f).refused = s.refused := rfl
@[simp] theorem State.inc_time (s : State) (f : Fld) : (s.inc f).time = s.time := rfl
@[simp] theorem State.inc_flt (s : State) (f : Fld) : (s.inc f).flt = s.flt := rfl
@[simp] theorem State.inc_evt (s : State) (f : Fld) : (s.inc f).evt = s.evt := rfl
@[simp] theorem State.inc_mbx (s : State) (f : Fld) : (s.inc f).mbx = s.mbx := rfl
@[simp] theorem State.inc_ident (s : State) (f : Fld) : (s.inc f).ident = s.ident := rfl
@[simp] theorem State.inc_md (s : State) (f : Fld) : (s.inc f).md = s.md := rfl
@[simp] theorem State.inc_prt (s : State) (f : Fld) : (s.inc f).prt = s.prt := rfl
@[simp] theorem State.inc_isl (s : State) (f : Fld) : (s.inc f).isl = s.isl := rfl
@[simp] theorem State.inc_grp (s : State) (f : Fld) : (s.inc f).grp = s.grp := rfl
@[simp] theorem State.inc_lan (s : State) (f : Fld) : (s.inc f).lan = s.lan := rfl
@[simp] theorem State.inc_sec (s : State) (f : Fld) : (s.inc f).sec = s.sec := rfl
@[simp] theorem State.inc_bnd (s : State) (f : Fld) : (s.inc f).bnd = s.bnd := rfl
@[simp] theorem State.inc_xbr (s : State) (f : Fld) : (s.inc f).xbr = s.xbr := rfl
@[simp] theorem State.inc_brg (s : State) (f : Fld) : (s.inc f).brg = s.brg := rfl
@[simp] theorem State.inc_home (s : State) (f : Fld) : (s.inc f).home = s.home := rfl
@[simp] theorem State.inc_cnt (s : State) (f : Fld) : (s.inc f).cnt = s.cnt := rfl
@[simp] theorem State.inc_twl (s : State) (f : Fld) : (s.inc f).twl = s.twl := rfl
@[simp] theorem State.inc_slt (s : State) (f : Fld) : (s.inc f).slt = s.slt := rfl
@[simp] theorem State.inc_oxb (s : State) (f : Fld) : (s.inc f).oxb = s.oxb := rfl
@[simp] theorem State.inc_rsv (s : State) (f : Fld) : (s.inc f).rsv = s.rsv := rfl
@[simp] theorem State.inc_due (s : State) (f : Fld) : (s.inc f).due = s.due := rfl
@[simp] theorem State.inc_out (s : State) (f : Fld) : (s.inc f).out = s.out := rfl
@[simp] theorem State.inc_fresh (s : State) (f : Fld) : (s.inc f).fresh = s.fresh := rfl
@[simp] theorem State.inc_pending (s : State) (f : Fld) : (s.inc f).pending = s.pending := rfl
@[simp] theorem State.setWord_force (s : State) (a : Nat) (w : Word) : (s.setWord a w).force = s.force := rfl
@[simp] theorem State.setWord_dirty (s : State) (a : Nat) (w : Word) : (s.setWord a w).dirty = s.dirty := rfl
@[simp] theorem State.setWord_latch (s : State) (a : Nat) (w : Word) : (s.setWord a w).latch = s.latch := rfl
@[simp] theorem State.setWord_refused (s : State) (a : Nat) (w : Word) : (s.setWord a w).refused = s.refused := rfl
@[simp] theorem State.setWord_time (s : State) (a : Nat) (w : Word) : (s.setWord a w).time = s.time := rfl
@[simp] theorem State.setWord_flt (s : State) (a : Nat) (w : Word) : (s.setWord a w).flt = s.flt := rfl
@[simp] theorem State.setWord_evt (s : State) (a : Nat) (w : Word) : (s.setWord a w).evt = s.evt := rfl
@[simp] theorem State.setWord_mbx (s : State) (a : Nat) (w : Word) : (s.setWord a w).mbx = s.mbx := rfl
@[simp] theorem State.setWord_ident (s : State) (a : Nat) (w : Word) : (s.setWord a w).ident = s.ident := rfl
@[simp] theorem State.setWord_md (s : State) (a : Nat) (w : Word) : (s.setWord a w).md = s.md := rfl
@[simp] theorem State.setWord_prt (s : State) (a : Nat) (w : Word) : (s.setWord a w).prt = s.prt := rfl
@[simp] theorem State.setWord_isl (s : State) (a : Nat) (w : Word) : (s.setWord a w).isl = s.isl := rfl
@[simp] theorem State.setWord_grp (s : State) (a : Nat) (w : Word) : (s.setWord a w).grp = s.grp := rfl
@[simp] theorem State.setWord_lan (s : State) (a : Nat) (w : Word) : (s.setWord a w).lan = s.lan := rfl
@[simp] theorem State.setWord_sec (s : State) (a : Nat) (w : Word) : (s.setWord a w).sec = s.sec := rfl
@[simp] theorem State.setWord_bnd (s : State) (a : Nat) (w : Word) : (s.setWord a w).bnd = s.bnd := rfl
@[simp] theorem State.setWord_xbr (s : State) (a : Nat) (w : Word) : (s.setWord a w).xbr = s.xbr := rfl
@[simp] theorem State.setWord_brg (s : State) (a : Nat) (w : Word) : (s.setWord a w).brg = s.brg := rfl
@[simp] theorem State.setWord_home (s : State) (a : Nat) (w : Word) : (s.setWord a w).home = s.home := rfl
@[simp] theorem State.setWord_cnt (s : State) (a : Nat) (w : Word) : (s.setWord a w).cnt = s.cnt := rfl
@[simp] theorem State.setWord_twl (s : State) (a : Nat) (w : Word) : (s.setWord a w).twl = s.twl := rfl
@[simp] theorem State.setWord_slt (s : State) (a : Nat) (w : Word) : (s.setWord a w).slt = s.slt := rfl
@[simp] theorem State.setWord_oxb (s : State) (a : Nat) (w : Word) : (s.setWord a w).oxb = s.oxb := rfl
@[simp] theorem State.setWord_rsv (s : State) (a : Nat) (w : Word) : (s.setWord a w).rsv = s.rsv := rfl
@[simp] theorem State.setWord_due (s : State) (a : Nat) (w : Word) : (s.setWord a w).due = s.due := rfl
@[simp] theorem State.setWord_out (s : State) (a : Nat) (w : Word) : (s.setWord a w).out = s.out := rfl
@[simp] theorem State.setWord_fresh (s : State) (a : Nat) (w : Word) : (s.setWord a w).fresh = s.fresh := rfl
@[simp] theorem State.setWord_pending (s : State) (a : Nat) (w : Word) : (s.setWord a w).pending = s.pending := rfl
@[simp] theorem State.setFld64_force (s : State) (lo hi : Fld) (v : Nat) : (s.setFld64 lo hi v).force = s.force := rfl
@[simp] theorem State.setFld64_dirty (s : State) (lo hi : Fld) (v : Nat) : (s.setFld64 lo hi v).dirty = s.dirty := rfl
@[simp] theorem State.setFld64_latch (s : State) (lo hi : Fld) (v : Nat) : (s.setFld64 lo hi v).latch = s.latch := rfl
@[simp] theorem State.setFld64_refused (s : State) (lo hi : Fld) (v : Nat) : (s.setFld64 lo hi v).refused = s.refused := rfl
@[simp] theorem State.setFld64_time (s : State) (lo hi : Fld) (v : Nat) : (s.setFld64 lo hi v).time = s.time := rfl
@[simp] theorem State.setFld64_flt (s : State) (lo hi : Fld) (v : Nat) : (s.setFld64 lo hi v).flt = s.flt := rfl
@[simp] theorem State.setFld64_evt (s : State) (lo hi : Fld) (v : Nat) : (s.setFld64 lo hi v).evt = s.evt := rfl
@[simp] theorem State.setFld64_mbx (s : State) (lo hi : Fld) (v : Nat) : (s.setFld64 lo hi v).mbx = s.mbx := rfl
@[simp] theorem State.setFld64_ident (s : State) (lo hi : Fld) (v : Nat) : (s.setFld64 lo hi v).ident = s.ident := rfl
@[simp] theorem State.setFld64_md (s : State) (lo hi : Fld) (v : Nat) : (s.setFld64 lo hi v).md = s.md := rfl
@[simp] theorem State.setFld64_prt (s : State) (lo hi : Fld) (v : Nat) : (s.setFld64 lo hi v).prt = s.prt := rfl
@[simp] theorem State.setFld64_isl (s : State) (lo hi : Fld) (v : Nat) : (s.setFld64 lo hi v).isl = s.isl := rfl
@[simp] theorem State.setFld64_grp (s : State) (lo hi : Fld) (v : Nat) : (s.setFld64 lo hi v).grp = s.grp := rfl
@[simp] theorem State.setFld64_lan (s : State) (lo hi : Fld) (v : Nat) : (s.setFld64 lo hi v).lan = s.lan := rfl
@[simp] theorem State.setFld64_sec (s : State) (lo hi : Fld) (v : Nat) : (s.setFld64 lo hi v).sec = s.sec := rfl
@[simp] theorem State.setFld64_bnd (s : State) (lo hi : Fld) (v : Nat) : (s.setFld64 lo hi v).bnd = s.bnd := rfl
@[simp] theorem State.setFld64_xbr (s : State) (lo hi : Fld) (v : Nat) : (s.setFld64 lo hi v).xbr = s.xbr := rfl
@[simp] theorem State.setFld64_brg (s : State) (lo hi : Fld) (v : Nat) : (s.setFld64 lo hi v).brg = s.brg := rfl
@[simp] theorem State.setFld64_home (s : State) (lo hi : Fld) (v : Nat) : (s.setFld64 lo hi v).home = s.home := rfl
@[simp] theorem State.setFld64_cnt (s : State) (lo hi : Fld) (v : Nat) : (s.setFld64 lo hi v).cnt = s.cnt := rfl
@[simp] theorem State.setFld64_twl (s : State) (lo hi : Fld) (v : Nat) : (s.setFld64 lo hi v).twl = s.twl := rfl
@[simp] theorem State.setFld64_slt (s : State) (lo hi : Fld) (v : Nat) : (s.setFld64 lo hi v).slt = s.slt := rfl
@[simp] theorem State.setFld64_oxb (s : State) (lo hi : Fld) (v : Nat) : (s.setFld64 lo hi v).oxb = s.oxb := rfl
@[simp] theorem State.setFld64_rsv (s : State) (lo hi : Fld) (v : Nat) : (s.setFld64 lo hi v).rsv = s.rsv := rfl
@[simp] theorem State.setFld64_due (s : State) (lo hi : Fld) (v : Nat) : (s.setFld64 lo hi v).due = s.due := rfl
@[simp] theorem State.setFld64_out (s : State) (lo hi : Fld) (v : Nat) : (s.setFld64 lo hi v).out = s.out := rfl
@[simp] theorem State.setFld64_fresh (s : State) (lo hi : Fld) (v : Nat) : (s.setFld64 lo hi v).fresh = s.fresh := rfl
@[simp] theorem State.setFld64_pending (s : State) (lo hi : Fld) (v : Nat) : (s.setFld64 lo hi v).pending = s.pending := rfl
@[simp] theorem State.countRefused_regs (s : State) : (s.countRefused).regs = s.regs := rfl
@[simp] theorem State.countRefused_force (s : State) : (s.countRefused).force = s.force := rfl
@[simp] theorem State.countRefused_dirty (s : State) : (s.countRefused).dirty = s.dirty := rfl
@[simp] theorem State.countRefused_latch (s : State) : (s.countRefused).latch = s.latch := rfl
@[simp] theorem State.countRefused_time (s : State) : (s.countRefused).time = s.time := rfl
@[simp] theorem State.countRefused_flt (s : State) : (s.countRefused).flt = s.flt := rfl
@[simp] theorem State.countRefused_evt (s : State) : (s.countRefused).evt = s.evt := rfl
@[simp] theorem State.countRefused_mbx (s : State) : (s.countRefused).mbx = s.mbx := rfl
@[simp] theorem State.countRefused_ident (s : State) : (s.countRefused).ident = s.ident := rfl
@[simp] theorem State.countRefused_md (s : State) : (s.countRefused).md = s.md := rfl
@[simp] theorem State.countRefused_prt (s : State) : (s.countRefused).prt = s.prt := rfl
@[simp] theorem State.countRefused_isl (s : State) : (s.countRefused).isl = s.isl := rfl
@[simp] theorem State.countRefused_grp (s : State) : (s.countRefused).grp = s.grp := rfl
@[simp] theorem State.countRefused_lan (s : State) : (s.countRefused).lan = s.lan := rfl
@[simp] theorem State.countRefused_sec (s : State) : (s.countRefused).sec = s.sec := rfl
@[simp] theorem State.countRefused_bnd (s : State) : (s.countRefused).bnd = s.bnd := rfl
@[simp] theorem State.countRefused_xbr (s : State) : (s.countRefused).xbr = s.xbr := rfl
@[simp] theorem State.countRefused_brg (s : State) : (s.countRefused).brg = s.brg := rfl
@[simp] theorem State.countRefused_home (s : State) : (s.countRefused).home = s.home := rfl
@[simp] theorem State.countRefused_cnt (s : State) : (s.countRefused).cnt = s.cnt := rfl
@[simp] theorem State.countRefused_twl (s : State) : (s.countRefused).twl = s.twl := rfl
@[simp] theorem State.countRefused_slt (s : State) : (s.countRefused).slt = s.slt := rfl
@[simp] theorem State.countRefused_oxb (s : State) : (s.countRefused).oxb = s.oxb := rfl
@[simp] theorem State.countRefused_rsv (s : State) : (s.countRefused).rsv = s.rsv := rfl
@[simp] theorem State.countRefused_due (s : State) : (s.countRefused).due = s.due := rfl
@[simp] theorem State.countRefused_out (s : State) : (s.countRefused).out = s.out := rfl
@[simp] theorem State.countRefused_fresh (s : State) : (s.countRefused).fresh = s.fresh := rfl
@[simp] theorem State.countRefused_pending (s : State) : (s.countRefused).pending = s.pending := rfl

/-! ### Outputs, free values, effects due -/

@[simp] theorem State.emit_regs (s : State) (o : Out) : (s.emit o).regs = s.regs := rfl
@[simp] theorem State.emit_force (s : State) (o : Out) : (s.emit o).force = s.force := rfl
@[simp] theorem State.emit_dirty (s : State) (o : Out) : (s.emit o).dirty = s.dirty := rfl
@[simp] theorem State.emit_latch (s : State) (o : Out) : (s.emit o).latch = s.latch := rfl
@[simp] theorem State.emit_refused (s : State) (o : Out) : (s.emit o).refused = s.refused := rfl
@[simp] theorem State.emit_time (s : State) (o : Out) : (s.emit o).time = s.time := rfl
@[simp] theorem State.emit_flt (s : State) (o : Out) : (s.emit o).flt = s.flt := rfl
@[simp] theorem State.emit_evt (s : State) (o : Out) : (s.emit o).evt = s.evt := rfl
@[simp] theorem State.emit_mbx (s : State) (o : Out) : (s.emit o).mbx = s.mbx := rfl
@[simp] theorem State.emit_ident (s : State) (o : Out) : (s.emit o).ident = s.ident := rfl
@[simp] theorem State.emit_md (s : State) (o : Out) : (s.emit o).md = s.md := rfl
@[simp] theorem State.emit_prt (s : State) (o : Out) : (s.emit o).prt = s.prt := rfl
@[simp] theorem State.emit_isl (s : State) (o : Out) : (s.emit o).isl = s.isl := rfl
@[simp] theorem State.emit_grp (s : State) (o : Out) : (s.emit o).grp = s.grp := rfl
@[simp] theorem State.emit_lan (s : State) (o : Out) : (s.emit o).lan = s.lan := rfl
@[simp] theorem State.emit_sec (s : State) (o : Out) : (s.emit o).sec = s.sec := rfl
@[simp] theorem State.emit_bnd (s : State) (o : Out) : (s.emit o).bnd = s.bnd := rfl
@[simp] theorem State.emit_xbr (s : State) (o : Out) : (s.emit o).xbr = s.xbr := rfl
@[simp] theorem State.emit_brg (s : State) (o : Out) : (s.emit o).brg = s.brg := rfl
@[simp] theorem State.emit_home (s : State) (o : Out) : (s.emit o).home = s.home := rfl
@[simp] theorem State.emit_cnt (s : State) (o : Out) : (s.emit o).cnt = s.cnt := rfl
@[simp] theorem State.emit_twl (s : State) (o : Out) : (s.emit o).twl = s.twl := rfl
@[simp] theorem State.emit_slt (s : State) (o : Out) : (s.emit o).slt = s.slt := rfl
@[simp] theorem State.emit_oxb (s : State) (o : Out) : (s.emit o).oxb = s.oxb := rfl
@[simp] theorem State.emit_rsv (s : State) (o : Out) : (s.emit o).rsv = s.rsv := rfl
@[simp] theorem State.emit_due (s : State) (o : Out) : (s.emit o).due = s.due := rfl
@[simp] theorem State.emit_fresh (s : State) (o : Out) : (s.emit o).fresh = s.fresh := rfl
@[simp] theorem State.emit_pending (s : State) (o : Out) : (s.emit o).pending = s.pending := rfl
@[simp] theorem State.draw_regs (s : State) : (s.draw.2).regs = s.regs := rfl
@[simp] theorem State.draw_force (s : State) : (s.draw.2).force = s.force := rfl
@[simp] theorem State.draw_dirty (s : State) : (s.draw.2).dirty = s.dirty := rfl
@[simp] theorem State.draw_latch (s : State) : (s.draw.2).latch = s.latch := rfl
@[simp] theorem State.draw_refused (s : State) : (s.draw.2).refused = s.refused := rfl
@[simp] theorem State.draw_time (s : State) : (s.draw.2).time = s.time := rfl
@[simp] theorem State.draw_flt (s : State) : (s.draw.2).flt = s.flt := rfl
@[simp] theorem State.draw_evt (s : State) : (s.draw.2).evt = s.evt := rfl
@[simp] theorem State.draw_mbx (s : State) : (s.draw.2).mbx = s.mbx := rfl
@[simp] theorem State.draw_ident (s : State) : (s.draw.2).ident = s.ident := rfl
@[simp] theorem State.draw_md (s : State) : (s.draw.2).md = s.md := rfl
@[simp] theorem State.draw_prt (s : State) : (s.draw.2).prt = s.prt := rfl
@[simp] theorem State.draw_isl (s : State) : (s.draw.2).isl = s.isl := rfl
@[simp] theorem State.draw_grp (s : State) : (s.draw.2).grp = s.grp := rfl
@[simp] theorem State.draw_lan (s : State) : (s.draw.2).lan = s.lan := rfl
@[simp] theorem State.draw_sec (s : State) : (s.draw.2).sec = s.sec := rfl
@[simp] theorem State.draw_bnd (s : State) : (s.draw.2).bnd = s.bnd := rfl
@[simp] theorem State.draw_xbr (s : State) : (s.draw.2).xbr = s.xbr := rfl
@[simp] theorem State.draw_brg (s : State) : (s.draw.2).brg = s.brg := rfl
@[simp] theorem State.draw_home (s : State) : (s.draw.2).home = s.home := rfl
@[simp] theorem State.draw_cnt (s : State) : (s.draw.2).cnt = s.cnt := rfl
@[simp] theorem State.draw_twl (s : State) : (s.draw.2).twl = s.twl := rfl
@[simp] theorem State.draw_slt (s : State) : (s.draw.2).slt = s.slt := rfl
@[simp] theorem State.draw_oxb (s : State) : (s.draw.2).oxb = s.oxb := rfl
@[simp] theorem State.draw_rsv (s : State) : (s.draw.2).rsv = s.rsv := rfl
@[simp] theorem State.draw_due (s : State) : (s.draw.2).due = s.due := rfl
@[simp] theorem State.draw_out (s : State) : (s.draw.2).out = s.out := rfl
@[simp] theorem State.draw_pending (s : State) : (s.draw.2).pending = s.pending := rfl
@[simp] theorem State.addDue_regs (s : State) (d : Due) : (s.addDue d).regs = s.regs := rfl
@[simp] theorem State.addDue_force (s : State) (d : Due) : (s.addDue d).force = s.force := rfl
@[simp] theorem State.addDue_dirty (s : State) (d : Due) : (s.addDue d).dirty = s.dirty := rfl
@[simp] theorem State.addDue_latch (s : State) (d : Due) : (s.addDue d).latch = s.latch := rfl
@[simp] theorem State.addDue_refused (s : State) (d : Due) : (s.addDue d).refused = s.refused := rfl
@[simp] theorem State.addDue_time (s : State) (d : Due) : (s.addDue d).time = s.time := rfl
@[simp] theorem State.addDue_flt (s : State) (d : Due) : (s.addDue d).flt = s.flt := rfl
@[simp] theorem State.addDue_evt (s : State) (d : Due) : (s.addDue d).evt = s.evt := rfl
@[simp] theorem State.addDue_mbx (s : State) (d : Due) : (s.addDue d).mbx = s.mbx := rfl
@[simp] theorem State.addDue_ident (s : State) (d : Due) : (s.addDue d).ident = s.ident := rfl
@[simp] theorem State.addDue_md (s : State) (d : Due) : (s.addDue d).md = s.md := rfl
@[simp] theorem State.addDue_prt (s : State) (d : Due) : (s.addDue d).prt = s.prt := rfl
@[simp] theorem State.addDue_isl (s : State) (d : Due) : (s.addDue d).isl = s.isl := rfl
@[simp] theorem State.addDue_grp (s : State) (d : Due) : (s.addDue d).grp = s.grp := rfl
@[simp] theorem State.addDue_lan (s : State) (d : Due) : (s.addDue d).lan = s.lan := rfl
@[simp] theorem State.addDue_sec (s : State) (d : Due) : (s.addDue d).sec = s.sec := rfl
@[simp] theorem State.addDue_bnd (s : State) (d : Due) : (s.addDue d).bnd = s.bnd := rfl
@[simp] theorem State.addDue_xbr (s : State) (d : Due) : (s.addDue d).xbr = s.xbr := rfl
@[simp] theorem State.addDue_brg (s : State) (d : Due) : (s.addDue d).brg = s.brg := rfl
@[simp] theorem State.addDue_home (s : State) (d : Due) : (s.addDue d).home = s.home := rfl
@[simp] theorem State.addDue_cnt (s : State) (d : Due) : (s.addDue d).cnt = s.cnt := rfl
@[simp] theorem State.addDue_twl (s : State) (d : Due) : (s.addDue d).twl = s.twl := rfl
@[simp] theorem State.addDue_slt (s : State) (d : Due) : (s.addDue d).slt = s.slt := rfl
@[simp] theorem State.addDue_oxb (s : State) (d : Due) : (s.addDue d).oxb = s.oxb := rfl
@[simp] theorem State.addDue_rsv (s : State) (d : Due) : (s.addDue d).rsv = s.rsv := rfl
@[simp] theorem State.addDue_out (s : State) (d : Due) : (s.addDue d).out = s.out := rfl
@[simp] theorem State.addDue_fresh (s : State) (d : Due) : (s.addDue d).fresh = s.fresh := rfl
@[simp] theorem State.addDue_pending (s : State) (d : Due) : (s.addDue d).pending = s.pending := rfl
@[simp] theorem State.submit_regs (s : State) (r : Option Ref) (a : Act) : (s.submit r a).regs = s.regs := rfl
@[simp] theorem State.submit_force (s : State) (r : Option Ref) (a : Act) : (s.submit r a).force = s.force := rfl
@[simp] theorem State.submit_dirty (s : State) (r : Option Ref) (a : Act) : (s.submit r a).dirty = s.dirty := rfl
@[simp] theorem State.submit_latch (s : State) (r : Option Ref) (a : Act) : (s.submit r a).latch = s.latch := rfl
@[simp] theorem State.submit_refused (s : State) (r : Option Ref) (a : Act) : (s.submit r a).refused = s.refused := rfl
@[simp] theorem State.submit_time (s : State) (r : Option Ref) (a : Act) : (s.submit r a).time = s.time := rfl
@[simp] theorem State.submit_flt (s : State) (r : Option Ref) (a : Act) : (s.submit r a).flt = s.flt := rfl
@[simp] theorem State.submit_evt (s : State) (r : Option Ref) (a : Act) : (s.submit r a).evt = s.evt := rfl
@[simp] theorem State.submit_mbx (s : State) (r : Option Ref) (a : Act) : (s.submit r a).mbx = s.mbx := rfl
@[simp] theorem State.submit_ident (s : State) (r : Option Ref) (a : Act) : (s.submit r a).ident = s.ident := rfl
@[simp] theorem State.submit_md (s : State) (r : Option Ref) (a : Act) : (s.submit r a).md = s.md := rfl
@[simp] theorem State.submit_prt (s : State) (r : Option Ref) (a : Act) : (s.submit r a).prt = s.prt := rfl
@[simp] theorem State.submit_isl (s : State) (r : Option Ref) (a : Act) : (s.submit r a).isl = s.isl := rfl
@[simp] theorem State.submit_grp (s : State) (r : Option Ref) (a : Act) : (s.submit r a).grp = s.grp := rfl
@[simp] theorem State.submit_lan (s : State) (r : Option Ref) (a : Act) : (s.submit r a).lan = s.lan := rfl
@[simp] theorem State.submit_sec (s : State) (r : Option Ref) (a : Act) : (s.submit r a).sec = s.sec := rfl
@[simp] theorem State.submit_bnd (s : State) (r : Option Ref) (a : Act) : (s.submit r a).bnd = s.bnd := rfl
@[simp] theorem State.submit_xbr (s : State) (r : Option Ref) (a : Act) : (s.submit r a).xbr = s.xbr := rfl
@[simp] theorem State.submit_brg (s : State) (r : Option Ref) (a : Act) : (s.submit r a).brg = s.brg := rfl
@[simp] theorem State.submit_home (s : State) (r : Option Ref) (a : Act) : (s.submit r a).home = s.home := rfl
@[simp] theorem State.submit_cnt (s : State) (r : Option Ref) (a : Act) : (s.submit r a).cnt = s.cnt := rfl
@[simp] theorem State.submit_twl (s : State) (r : Option Ref) (a : Act) : (s.submit r a).twl = s.twl := rfl
@[simp] theorem State.submit_slt (s : State) (r : Option Ref) (a : Act) : (s.submit r a).slt = s.slt := rfl
@[simp] theorem State.submit_oxb (s : State) (r : Option Ref) (a : Act) : (s.submit r a).oxb = s.oxb := rfl
@[simp] theorem State.submit_rsv (s : State) (r : Option Ref) (a : Act) : (s.submit r a).rsv = s.rsv := rfl
@[simp] theorem State.submit_out (s : State) (r : Option Ref) (a : Act) : (s.submit r a).out = s.out := rfl
@[simp] theorem State.submit_fresh (s : State) (r : Option Ref) (a : Act) : (s.submit r a).fresh = s.fresh := rfl
@[simp] theorem State.submit_pending (s : State) (r : Option Ref) (a : Act) : (s.submit r a).pending = s.pending := rfl
@[simp] theorem State.submitNext_regs (s : State) (a : Act) : (s.submitNext a).regs = s.regs := rfl
@[simp] theorem State.submitNext_force (s : State) (a : Act) : (s.submitNext a).force = s.force := rfl
@[simp] theorem State.submitNext_dirty (s : State) (a : Act) : (s.submitNext a).dirty = s.dirty := rfl
@[simp] theorem State.submitNext_latch (s : State) (a : Act) : (s.submitNext a).latch = s.latch := rfl
@[simp] theorem State.submitNext_refused (s : State) (a : Act) : (s.submitNext a).refused = s.refused := rfl
@[simp] theorem State.submitNext_time (s : State) (a : Act) : (s.submitNext a).time = s.time := rfl
@[simp] theorem State.submitNext_flt (s : State) (a : Act) : (s.submitNext a).flt = s.flt := rfl
@[simp] theorem State.submitNext_evt (s : State) (a : Act) : (s.submitNext a).evt = s.evt := rfl
@[simp] theorem State.submitNext_mbx (s : State) (a : Act) : (s.submitNext a).mbx = s.mbx := rfl
@[simp] theorem State.submitNext_ident (s : State) (a : Act) : (s.submitNext a).ident = s.ident := rfl
@[simp] theorem State.submitNext_md (s : State) (a : Act) : (s.submitNext a).md = s.md := rfl
@[simp] theorem State.submitNext_prt (s : State) (a : Act) : (s.submitNext a).prt = s.prt := rfl
@[simp] theorem State.submitNext_isl (s : State) (a : Act) : (s.submitNext a).isl = s.isl := rfl
@[simp] theorem State.submitNext_grp (s : State) (a : Act) : (s.submitNext a).grp = s.grp := rfl
@[simp] theorem State.submitNext_lan (s : State) (a : Act) : (s.submitNext a).lan = s.lan := rfl
@[simp] theorem State.submitNext_sec (s : State) (a : Act) : (s.submitNext a).sec = s.sec := rfl
@[simp] theorem State.submitNext_bnd (s : State) (a : Act) : (s.submitNext a).bnd = s.bnd := rfl
@[simp] theorem State.submitNext_xbr (s : State) (a : Act) : (s.submitNext a).xbr = s.xbr := rfl
@[simp] theorem State.submitNext_brg (s : State) (a : Act) : (s.submitNext a).brg = s.brg := rfl
@[simp] theorem State.submitNext_home (s : State) (a : Act) : (s.submitNext a).home = s.home := rfl
@[simp] theorem State.submitNext_cnt (s : State) (a : Act) : (s.submitNext a).cnt = s.cnt := rfl
@[simp] theorem State.submitNext_twl (s : State) (a : Act) : (s.submitNext a).twl = s.twl := rfl
@[simp] theorem State.submitNext_slt (s : State) (a : Act) : (s.submitNext a).slt = s.slt := rfl
@[simp] theorem State.submitNext_oxb (s : State) (a : Act) : (s.submitNext a).oxb = s.oxb := rfl
@[simp] theorem State.submitNext_rsv (s : State) (a : Act) : (s.submitNext a).rsv = s.rsv := rfl
@[simp] theorem State.submitNext_out (s : State) (a : Act) : (s.submitNext a).out = s.out := rfl
@[simp] theorem State.submitNext_fresh (s : State) (a : Act) : (s.submitNext a).fresh = s.fresh := rfl
@[simp] theorem State.submitNext_pending (s : State) (a : Act) : (s.submitNext a).pending = s.pending := rfl

/-! ### The frame clock -/

@[simp] theorem State.keepClock_regs (s t : State) : (s.keepClock t).regs = t.regs := rfl
@[simp] theorem State.keepClock_force (s t : State) : (s.keepClock t).force = t.force := rfl
@[simp] theorem State.keepClock_dirty (s t : State) : (s.keepClock t).dirty = t.dirty := rfl
@[simp] theorem State.keepClock_latch (s t : State) : (s.keepClock t).latch = t.latch := rfl
@[simp] theorem State.keepClock_refused (s t : State) : (s.keepClock t).refused = t.refused := rfl
@[simp] theorem State.keepClock_flt (s t : State) : (s.keepClock t).flt = t.flt := rfl
@[simp] theorem State.keepClock_evt (s t : State) : (s.keepClock t).evt = t.evt := rfl
@[simp] theorem State.keepClock_mbx (s t : State) : (s.keepClock t).mbx = t.mbx := rfl
@[simp] theorem State.keepClock_ident (s t : State) : (s.keepClock t).ident = t.ident := rfl
@[simp] theorem State.keepClock_md (s t : State) : (s.keepClock t).md = t.md := rfl
@[simp] theorem State.keepClock_prt (s t : State) : (s.keepClock t).prt = t.prt := rfl
@[simp] theorem State.keepClock_isl (s t : State) : (s.keepClock t).isl = t.isl := rfl
@[simp] theorem State.keepClock_grp (s t : State) : (s.keepClock t).grp = t.grp := rfl
@[simp] theorem State.keepClock_lan (s t : State) : (s.keepClock t).lan = t.lan := rfl
@[simp] theorem State.keepClock_sec (s t : State) : (s.keepClock t).sec = t.sec := rfl
@[simp] theorem State.keepClock_bnd (s t : State) : (s.keepClock t).bnd = t.bnd := rfl
@[simp] theorem State.keepClock_xbr (s t : State) : (s.keepClock t).xbr = t.xbr := rfl
@[simp] theorem State.keepClock_brg (s t : State) : (s.keepClock t).brg = t.brg := rfl
@[simp] theorem State.keepClock_home (s t : State) : (s.keepClock t).home = t.home := rfl
@[simp] theorem State.keepClock_cnt (s t : State) : (s.keepClock t).cnt = t.cnt := rfl
@[simp] theorem State.keepClock_twl (s t : State) : (s.keepClock t).twl = t.twl := rfl
@[simp] theorem State.keepClock_slt (s t : State) : (s.keepClock t).slt = t.slt := rfl
@[simp] theorem State.keepClock_oxb (s t : State) : (s.keepClock t).oxb = t.oxb := rfl
@[simp] theorem State.keepClock_rsv (s t : State) : (s.keepClock t).rsv = t.rsv := rfl
@[simp] theorem State.keepClock_due (s t : State) : (s.keepClock t).due = t.due := rfl
@[simp] theorem State.keepClock_out (s t : State) : (s.keepClock t).out = t.out := rfl
@[simp] theorem State.keepClock_fresh (s t : State) : (s.keepClock t).fresh = t.fresh := rfl
@[simp] theorem State.keepClock_pending (s t : State) : (s.keepClock t).pending = t.pending := rfl

/-! ### What they do change -/

@[simp] theorem State.emit_out (s : State) (o : Out) : (s.emit o).out = o :: s.out := rfl
@[simp] theorem State.addDue_due (s : State) (d : Due) : (s.addDue d).due = s.due ++ [d] := rfl
@[simp] theorem State.draw_fresh (s : State) : s.draw.2.fresh = s.fresh + 1 := rfl
@[simp] theorem State.countRefused_refused (s : State) : s.countRefused.refused = s.refused + 1 := rfl


end Sys2Proof.Machine
end

