-- ==== Sys2Proof/Laws/Ops.lean ====
section
/-! SUPPORT. What the operations every chapter shares leave alone: one lemma for each field an operation does not touch. -/
namespace Sys2Proof.Machine
open Sys2Proof

/-! ### Events (R383 to R396): a raised source changes pending bits, the levels driven and what is sent -/

@[simp] theorem State.setMf_regs (s : State) (n : Nat) (m : Mf) : (s.setMf n m).regs = s.regs := rfl
@[simp] theorem State.setMf_force (s : State) (n : Nat) (m : Mf) : (s.setMf n m).force = s.force := rfl
@[simp] theorem State.setMf_dirty (s : State) (n : Nat) (m : Mf) : (s.setMf n m).dirty = s.dirty := rfl
@[simp] theorem State.setMf_latch (s : State) (n : Nat) (m : Mf) : (s.setMf n m).latch = s.latch := rfl
@[simp] theorem State.setMf_refused (s : State) (n : Nat) (m : Mf) : (s.setMf n m).refused = s.refused := rfl
@[simp] theorem State.setMf_time (s : State) (n : Nat) (m : Mf) : (s.setMf n m).time = s.time := rfl
@[simp] theorem State.setMf_flt (s : State) (n : Nat) (m : Mf) : (s.setMf n m).flt = s.flt := rfl
@[simp] theorem State.setMf_mbx (s : State) (n : Nat) (m : Mf) : (s.setMf n m).mbx = s.mbx := rfl
@[simp] theorem State.setMf_ident (s : State) (n : Nat) (m : Mf) : (s.setMf n m).ident = s.ident := rfl
@[simp] theorem State.setMf_md (s : State) (n : Nat) (m : Mf) : (s.setMf n m).md = s.md := rfl
@[simp] theorem State.setMf_prt (s : State) (n : Nat) (m : Mf) : (s.setMf n m).prt = s.prt := rfl
@[simp] theorem State.setMf_isl (s : State) (n : Nat) (m : Mf) : (s.setMf n m).isl = s.isl := rfl
@[simp] theorem State.setMf_grp (s : State) (n : Nat) (m : Mf) : (s.setMf n m).grp = s.grp := rfl
@[simp] theorem State.setMf_lan (s : State) (n : Nat) (m : Mf) : (s.setMf n m).lan = s.lan := rfl
@[simp] theorem State.setMf_sec (s : State) (n : Nat) (m : Mf) : (s.setMf n m).sec = s.sec := rfl
@[simp] theorem State.setMf_bnd (s : State) (n : Nat) (m : Mf) : (s.setMf n m).bnd = s.bnd := rfl
@[simp] theorem State.setMf_xbr (s : State) (n : Nat) (m : Mf) : (s.setMf n m).xbr = s.xbr := rfl
@[simp] theorem State.setMf_brg (s : State) (n : Nat) (m : Mf) : (s.setMf n m).brg = s.brg := rfl
@[simp] theorem State.setMf_home (s : State) (n : Nat) (m : Mf) : (s.setMf n m).home = s.home := rfl
@[simp] theorem State.setMf_cnt (s : State) (n : Nat) (m : Mf) : (s.setMf n m).cnt = s.cnt := rfl
@[simp] theorem State.setMf_twl (s : State) (n : Nat) (m : Mf) : (s.setMf n m).twl = s.twl := rfl
@[simp] theorem State.setMf_slt (s : State) (n : Nat) (m : Mf) : (s.setMf n m).slt = s.slt := rfl
@[simp] theorem State.setMf_oxb (s : State) (n : Nat) (m : Mf) : (s.setMf n m).oxb = s.oxb := rfl
@[simp] theorem State.setMf_rsv (s : State) (n : Nat) (m : Mf) : (s.setMf n m).rsv = s.rsv := rfl
@[simp] theorem State.setMf_due (s : State) (n : Nat) (m : Mf) : (s.setMf n m).due = s.due := rfl
@[simp] theorem State.setMf_out (s : State) (n : Nat) (m : Mf) : (s.setMf n m).out = s.out := rfl
@[simp] theorem State.setMf_fresh (s : State) (n : Nat) (m : Mf) : (s.setMf n m).fresh = s.fresh := rfl
@[simp] theorem State.setMf_pending (s : State) (n : Nat) (m : Mf) : (s.setMf n m).pending = s.pending := rfl
@[simp] theorem State.refreshLevel_regs (s : State) (t : Nat) : (s.refreshLevel t).regs = s.regs := by
  simp only [State.refreshLevel]; split_ifs <;> rfl
@[simp] theorem State.refreshLevel_force (s : State) (t : Nat) : (s.refreshLevel t).force = s.force := by
  simp only [State.refreshLevel]; split_ifs <;> rfl
@[simp] theorem State.refreshLevel_dirty (s : State) (t : Nat) : (s.refreshLevel t).dirty = s.dirty := by
  simp only [State.refreshLevel]; split_ifs <;> rfl
@[simp] theorem State.refreshLevel_latch (s : State) (t : Nat) : (s.refreshLevel t).latch = s.latch := by
  simp only [State.refreshLevel]; split_ifs <;> rfl
@[simp] theorem State.refreshLevel_refused (s : State) (t : Nat) : (s.refreshLevel t).refused = s.refused := by
  simp only [State.refreshLevel]; split_ifs <;> rfl
@[simp] theorem State.refreshLevel_time (s : State) (t : Nat) : (s.refreshLevel t).time = s.time := by
  simp only [State.refreshLevel]; split_ifs <;> rfl
@[simp] theorem State.refreshLevel_flt (s : State) (t : Nat) : (s.refreshLevel t).flt = s.flt := by
  simp only [State.refreshLevel]; split_ifs <;> rfl
@[simp] theorem State.refreshLevel_mbx (s : State) (t : Nat) : (s.refreshLevel t).mbx = s.mbx := by
  simp only [State.refreshLevel]; split_ifs <;> rfl
@[simp] theorem State.refreshLevel_ident (s : State) (t : Nat) : (s.refreshLevel t).ident = s.ident := by
  simp only [State.refreshLevel]; split_ifs <;> rfl
@[simp] theorem State.refreshLevel_md (s : State) (t : Nat) : (s.refreshLevel t).md = s.md := by
  simp only [State.refreshLevel]; split_ifs <;> rfl
@[simp] theorem State.refreshLevel_prt (s : State) (t : Nat) : (s.refreshLevel t).prt = s.prt := by
  simp only [State.refreshLevel]; split_ifs <;> rfl
@[simp] theorem State.refreshLevel_isl (s : State) (t : Nat) : (s.refreshLevel t).isl = s.isl := by
  simp only [State.refreshLevel]; split_ifs <;> rfl
@[simp] theorem State.refreshLevel_grp (s : State) (t : Nat) : (s.refreshLevel t).grp = s.grp := by
  simp only [State.refreshLevel]; split_ifs <;> rfl
@[simp] theorem State.refreshLevel_lan (s : State) (t : Nat) : (s.refreshLevel t).lan = s.lan := by
  simp only [State.refreshLevel]; split_ifs <;> rfl
@[simp] theorem State.refreshLevel_sec (s : State) (t : Nat) : (s.refreshLevel t).sec = s.sec := by
  simp only [State.refreshLevel]; split_ifs <;> rfl
@[simp] theorem State.refreshLevel_bnd (s : State) (t : Nat) : (s.refreshLevel t).bnd = s.bnd := by
  simp only [State.refreshLevel]; split_ifs <;> rfl
@[simp] theorem State.refreshLevel_xbr (s : State) (t : Nat) : (s.refreshLevel t).xbr = s.xbr := by
  simp only [State.refreshLevel]; split_ifs <;> rfl
@[simp] theorem State.refreshLevel_brg (s : State) (t : Nat) : (s.refreshLevel t).brg = s.brg := by
  simp only [State.refreshLevel]; split_ifs <;> rfl
@[simp] theorem State.refreshLevel_home (s : State) (t : Nat) : (s.refreshLevel t).home = s.home := by
  simp only [State.refreshLevel]; split_ifs <;> rfl
@[simp] theorem State.refreshLevel_cnt (s : State) (t : Nat) : (s.refreshLevel t).cnt = s.cnt := by
  simp only [State.refreshLevel]; split_ifs <;> rfl
@[simp] theorem State.refreshLevel_twl (s : State) (t : Nat) : (s.refreshLevel t).twl = s.twl := by
  simp only [State.refreshLevel]; split_ifs <;> rfl
@[simp] theorem State.refreshLevel_slt (s : State) (t : Nat) : (s.refreshLevel t).slt = s.slt := by
  simp only [State.refreshLevel]; split_ifs <;> rfl
@[simp] theorem State.refreshLevel_oxb (s : State) (t : Nat) : (s.refreshLevel t).oxb = s.oxb := by
  simp only [State.refreshLevel]; split_ifs <;> rfl
@[simp] theorem State.refreshLevel_rsv (s : State) (t : Nat) : (s.refreshLevel t).rsv = s.rsv := by
  simp only [State.refreshLevel]; split_ifs <;> rfl
@[simp] theorem State.refreshLevel_due (s : State) (t : Nat) : (s.refreshLevel t).due = s.due := by
  simp only [State.refreshLevel]; split_ifs <;> rfl
@[simp] theorem State.refreshLevel_fresh (s : State) (t : Nat) : (s.refreshLevel t).fresh = s.fresh := by
  simp only [State.refreshLevel]; split_ifs <;> rfl
@[simp] theorem State.refreshLevel_pending (s : State) (t : Nat) : (s.refreshLevel t).pending = s.pending := by
  simp only [State.refreshLevel]; split_ifs <;> rfl
@[simp] theorem State.msiDropped_force (s : State) (t : Nat) : (s.msiDropped t).force = s.force := by
  simp only [State.msiDropped]; split_ifs <;> rfl
@[simp] theorem State.msiDropped_dirty (s : State) (t : Nat) : (s.msiDropped t).dirty = s.dirty := by
  simp only [State.msiDropped]; split_ifs <;> rfl
@[simp] theorem State.msiDropped_latch (s : State) (t : Nat) : (s.msiDropped t).latch = s.latch := by
  simp only [State.msiDropped]; split_ifs <;> rfl
@[simp] theorem State.msiDropped_refused (s : State) (t : Nat) : (s.msiDropped t).refused = s.refused := by
  simp only [State.msiDropped]; split_ifs <;> rfl
@[simp] theorem State.msiDropped_time (s : State) (t : Nat) : (s.msiDropped t).time = s.time := by
  simp only [State.msiDropped]; split_ifs <;> rfl
@[simp] theorem State.msiDropped_flt (s : State) (t : Nat) : (s.msiDropped t).flt = s.flt := by
  simp only [State.msiDropped]; split_ifs <;> rfl
@[simp] theorem State.msiDropped_evt (s : State) (t : Nat) : (s.msiDropped t).evt = s.evt := by
  simp only [State.msiDropped]; split_ifs <;> rfl
@[simp] theorem State.msiDropped_mbx (s : State) (t : Nat) : (s.msiDropped t).mbx = s.mbx := by
  simp only [State.msiDropped]; split_ifs <;> rfl
@[simp] theorem State.msiDropped_ident (s : State) (t : Nat) : (s.msiDropped t).ident = s.ident := by
  simp only [State.msiDropped]; split_ifs <;> rfl
@[simp] theorem State.msiDropped_md (s : State) (t : Nat) : (s.msiDropped t).md = s.md := by
  simp only [State.msiDropped]; split_ifs <;> rfl
@[simp] theorem State.msiDropped_prt (s : State) (t : Nat) : (s.msiDropped t).prt = s.prt := by
  simp only [State.msiDropped]; split_ifs <;> rfl
@[simp] theorem State.msiDropped_isl (s : State) (t : Nat) : (s.msiDropped t).isl = s.isl := by
  simp only [State.msiDropped]; split_ifs <;> rfl
@[simp] theorem State.msiDropped_grp (s : State) (t : Nat) : (s.msiDropped t).grp = s.grp := by
  simp only [State.msiDropped]; split_ifs <;> rfl
@[simp] theorem State.msiDropped_lan (s : State) (t : Nat) : (s.msiDropped t).lan = s.lan := by
  simp only [State.msiDropped]; split_ifs <;> rfl
@[simp] theorem State.msiDropped_sec (s : State) (t : Nat) : (s.msiDropped t).sec = s.sec := by
  simp only [State.msiDropped]; split_ifs <;> rfl
@[simp] theorem State.msiDropped_bnd (s : State) (t : Nat) : (s.msiDropped t).bnd = s.bnd := by
  simp only [State.msiDropped]; split_ifs <;> rfl
@[simp] theorem State.msiDropped_xbr (s : State) (t : Nat) : (s.msiDropped t).xbr = s.xbr := by
  simp only [State.msiDropped]; split_ifs <;> rfl
@[simp] theorem State.msiDropped_brg (s : State) (t : Nat) : (s.msiDropped t).brg = s.brg := by
  simp only [State.msiDropped]; split_ifs <;> rfl
@[simp] theorem State.msiDropped_home (s : State) (t : Nat) : (s.msiDropped t).home = s.home := by
  simp only [State.msiDropped]; split_ifs <;> rfl
@[simp] theorem State.msiDropped_cnt (s : State) (t : Nat) : (s.msiDropped t).cnt = s.cnt := by
  simp only [State.msiDropped]; split_ifs <;> rfl
@[simp] theorem State.msiDropped_twl (s : State) (t : Nat) : (s.msiDropped t).twl = s.twl := by
  simp only [State.msiDropped]; split_ifs <;> rfl
@[simp] theorem State.msiDropped_slt (s : State) (t : Nat) : (s.msiDropped t).slt = s.slt := by
  simp only [State.msiDropped]; split_ifs <;> rfl
@[simp] theorem State.msiDropped_oxb (s : State) (t : Nat) : (s.msiDropped t).oxb = s.oxb := by
  simp only [State.msiDropped]; split_ifs <;> rfl
@[simp] theorem State.msiDropped_rsv (s : State) (t : Nat) : (s.msiDropped t).rsv = s.rsv := by
  simp only [State.msiDropped]; split_ifs <;> rfl
@[simp] theorem State.msiDropped_due (s : State) (t : Nat) : (s.msiDropped t).due = s.due := by
  simp only [State.msiDropped]; split_ifs <;> rfl
@[simp] theorem State.msiDropped_out (s : State) (t : Nat) : (s.msiDropped t).out = s.out := by
  simp only [State.msiDropped]; split_ifs <;> rfl
@[simp] theorem State.msiDropped_fresh (s : State) (t : Nat) : (s.msiDropped t).fresh = s.fresh := by
  simp only [State.msiDropped]; split_ifs <;> rfl
@[simp] theorem State.msiDropped_pending (s : State) (t : Nat) : (s.msiDropped t).pending = s.pending := by
  simp only [State.msiDropped]; split_ifs <;> rfl
@[simp] theorem State.signal_force (s : State) (t c : Nat) : (s.signal t c).force = s.force := by
  simp only [State.signal]; repeat' split
  all_goals first | rfl | simp
@[simp] theorem State.signal_dirty (s : State) (t c : Nat) : (s.signal t c).dirty = s.dirty := by
  simp only [State.signal]; repeat' split
  all_goals first | rfl | simp
@[simp] theorem State.signal_latch (s : State) (t c : Nat) : (s.signal t c).latch = s.latch := by
  simp only [State.signal]; repeat' split
  all_goals first | rfl | simp
@[simp] theorem State.signal_refused (s : State) (t c : Nat) : (s.signal t c).refused = s.refused := by
  simp only [State.signal]; repeat' split
  all_goals first | rfl | simp
@[simp] theorem State.signal_time (s : State) (t c : Nat) : (s.signal t c).time = s.time := by
  simp only [State.signal]; repeat' split
  all_goals first | rfl | simp
@[simp] theorem State.signal_flt (s : State) (t c : Nat) : (s.signal t c).flt = s.flt := by
  simp only [State.signal]; repeat' split
  all_goals first | rfl | simp
@[simp] theorem State.signal_mbx (s : State) (t c : Nat) : (s.signal t c).mbx = s.mbx := by
  simp only [State.signal]; repeat' split
  all_goals first | rfl | simp
@[simp] theorem State.signal_ident (s : State) (t c : Nat) : (s.signal t c).ident = s.ident := by
  simp only [State.signal]; repeat' split
  all_goals first | rfl | simp
@[simp] theorem State.signal_md (s : State) (t c : Nat) : (s.signal t c).md = s.md := by
  simp only [State.signal]; repeat' split
  all_goals first | rfl | simp
@[simp] theorem State.signal_prt (s : State) (t c : Nat) : (s.signal t c).prt = s.prt := by
  simp only [State.signal]; repeat' split
  all_goals first | rfl | simp
@[simp] theorem State.signal_isl (s : State) (t c : Nat) : (s.signal t c).isl = s.isl := by
  simp only [State.signal]; repeat' split
  all_goals first | rfl | simp
@[simp] theorem State.signal_grp (s : State) (t c : Nat) : (s.signal t c).grp = s.grp := by
  simp only [State.signal]; repeat' split
  all_goals first | rfl | simp
@[simp] theorem State.signal_lan (s : State) (t c : Nat) : (s.signal t c).lan = s.lan := by
  simp only [State.signal]; repeat' split
  all_goals first | rfl | simp
@[simp] theorem State.signal_sec (s : State) (t c : Nat) : (s.signal t c).sec = s.sec := by
  simp only [State.signal]; repeat' split
  all_goals first | rfl | simp
@[simp] theorem State.signal_bnd (s : State) (t c : Nat) : (s.signal t c).bnd = s.bnd := by
  simp only [State.signal]; repeat' split
  all_goals first | rfl | simp
@[simp] theorem State.signal_xbr (s : State) (t c : Nat) : (s.signal t c).xbr = s.xbr := by
  simp only [State.signal]; repeat' split
  all_goals first | rfl | simp
@[simp] theorem State.signal_brg (s : State) (t c : Nat) : (s.signal t c).brg = s.brg := by
  simp only [State.signal]; repeat' split
  all_goals first | rfl | simp
@[simp] theorem State.signal_home (s : State) (t c : Nat) : (s.signal t c).home = s.home := by
  simp only [State.signal]; repeat' split
  all_goals first | rfl | simp
@[simp] theorem State.signal_cnt (s : State) (t c : Nat) : (s.signal t c).cnt = s.cnt := by
  simp only [State.signal]; repeat' split
  all_goals first | rfl | simp
@[simp] theorem State.signal_twl (s : State) (t c : Nat) : (s.signal t c).twl = s.twl := by
  simp only [State.signal]; repeat' split
  all_goals first | rfl | simp
@[simp] theorem State.signal_slt (s : State) (t c : Nat) : (s.signal t c).slt = s.slt := by
  simp only [State.signal]; repeat' split
  all_goals first | rfl | simp
@[simp] theorem State.signal_oxb (s : State) (t c : Nat) : (s.signal t c).oxb = s.oxb := by
  simp only [State.signal]; repeat' split
  all_goals first | rfl | simp
@[simp] theorem State.signal_rsv (s : State) (t c : Nat) : (s.signal t c).rsv = s.rsv := by
  simp only [State.signal]; repeat' split
  all_goals first | rfl | simp
@[simp] theorem State.signal_due (s : State) (t c : Nat) : (s.signal t c).due = s.due := by
  simp only [State.signal]; repeat' split
  all_goals first | rfl | simp
@[simp] theorem State.signal_fresh (s : State) (t c : Nat) : (s.signal t c).fresh = s.fresh := by
  simp only [State.signal]; repeat' split
  all_goals first | rfl | simp
@[simp] theorem State.signal_pending (s : State) (t c : Nat) : (s.signal t c).pending = s.pending := by
  simp only [State.signal]; repeat' split
  all_goals first | rfl | simp
@[simp] theorem State.raiseAt_force (s : State) (t c : Nat) : (s.raiseAt t c).force = s.force := by
  simp only [State.raiseAt]; split_ifs <;> simp
@[simp] theorem State.raiseAt_dirty (s : State) (t c : Nat) : (s.raiseAt t c).dirty = s.dirty := by
  simp only [State.raiseAt]; split_ifs <;> simp
@[simp] theorem State.raiseAt_latch (s : State) (t c : Nat) : (s.raiseAt t c).latch = s.latch := by
  simp only [State.raiseAt]; split_ifs <;> simp
@[simp] theorem State.raiseAt_refused (s : State) (t c : Nat) : (s.raiseAt t c).refused = s.refused := by
  simp only [State.raiseAt]; split_ifs <;> simp
@[simp] theorem State.raiseAt_time (s : State) (t c : Nat) : (s.raiseAt t c).time = s.time := by
  simp only [State.raiseAt]; split_ifs <;> simp
@[simp] theorem State.raiseAt_flt (s : State) (t c : Nat) : (s.raiseAt t c).flt = s.flt := by
  simp only [State.raiseAt]; split_ifs <;> simp
@[simp] theorem State.raiseAt_mbx (s : State) (t c : Nat) : (s.raiseAt t c).mbx = s.mbx := by
  simp only [State.raiseAt]; split_ifs <;> simp
@[simp] theorem State.raiseAt_ident (s : State) (t c : Nat) : (s.raiseAt t c).ident = s.ident := by
  simp only [State.raiseAt]; split_ifs <;> simp
@[simp] theorem State.raiseAt_md (s : State) (t c : Nat) : (s.raiseAt t c).md = s.md := by
  simp only [State.raiseAt]; split_ifs <;> simp
@[simp] theorem State.raiseAt_prt (s : State) (t c : Nat) : (s.raiseAt t c).prt = s.prt := by
  simp only [State.raiseAt]; split_ifs <;> simp
@[simp] theorem State.raiseAt_isl (s : State) (t c : Nat) : (s.raiseAt t c).isl = s.isl := by
  simp only [State.raiseAt]; split_ifs <;> simp
@[simp] theorem State.raiseAt_grp (s : State) (t c : Nat) : (s.raiseAt t c).grp = s.grp := by
  simp only [State.raiseAt]; split_ifs <;> simp
@[simp] theorem State.raiseAt_lan (s : State) (t c : Nat) : (s.raiseAt t c).lan = s.lan := by
  simp only [State.raiseAt]; split_ifs <;> simp
@[simp] theorem State.raiseAt_sec (s : State) (t c : Nat) : (s.raiseAt t c).sec = s.sec := by
  simp only [State.raiseAt]; split_ifs <;> simp
@[simp] theorem State.raiseAt_bnd (s : State) (t c : Nat) : (s.raiseAt t c).bnd = s.bnd := by
  simp only [State.raiseAt]; split_ifs <;> simp
@[simp] theorem State.raiseAt_xbr (s : State) (t c : Nat) : (s.raiseAt t c).xbr = s.xbr := by
  simp only [State.raiseAt]; split_ifs <;> simp
@[simp] theorem State.raiseAt_brg (s : State) (t c : Nat) : (s.raiseAt t c).brg = s.brg := by
  simp only [State.raiseAt]; split_ifs <;> simp
@[simp] theorem State.raiseAt_home (s : State) (t c : Nat) : (s.raiseAt t c).home = s.home := by
  simp only [State.raiseAt]; split_ifs <;> simp
@[simp] theorem State.raiseAt_cnt (s : State) (t c : Nat) : (s.raiseAt t c).cnt = s.cnt := by
  simp only [State.raiseAt]; split_ifs <;> simp
@[simp] theorem State.raiseAt_twl (s : State) (t c : Nat) : (s.raiseAt t c).twl = s.twl := by
  simp only [State.raiseAt]; split_ifs <;> simp
@[simp] theorem State.raiseAt_slt (s : State) (t c : Nat) : (s.raiseAt t c).slt = s.slt := by
  simp only [State.raiseAt]; split_ifs <;> simp
@[simp] theorem State.raiseAt_oxb (s : State) (t c : Nat) : (s.raiseAt t c).oxb = s.oxb := by
  simp only [State.raiseAt]; split_ifs <;> simp
@[simp] theorem State.raiseAt_rsv (s : State) (t c : Nat) : (s.raiseAt t c).rsv = s.rsv := by
  simp only [State.raiseAt]; split_ifs <;> simp
@[simp] theorem State.raiseAt_due (s : State) (t c : Nat) : (s.raiseAt t c).due = s.due := by
  simp only [State.raiseAt]; split_ifs <;> simp
@[simp] theorem State.raiseAt_fresh (s : State) (t c : Nat) : (s.raiseAt t c).fresh = s.fresh := by
  simp only [State.raiseAt]; split_ifs <;> simp
@[simp] theorem State.raiseAt_pending (s : State) (t c : Nat) : (s.raiseAt t c).pending = s.pending := by
  simp only [State.raiseAt]; split_ifs <;> simp
@[simp] theorem State.raiseShared_force (s : State) (n : Nat) : (s.raiseShared n).force = s.force := by
  simp [State.raiseShared]
@[simp] theorem State.raiseShared_dirty (s : State) (n : Nat) : (s.raiseShared n).dirty = s.dirty := by
  simp [State.raiseShared]
@[simp] theorem State.raiseShared_latch (s : State) (n : Nat) : (s.raiseShared n).latch = s.latch := by
  simp [State.raiseShared]
@[simp] theorem State.raiseShared_refused (s : State) (n : Nat) : (s.raiseShared n).refused = s.refused := by
  simp [State.raiseShared]
@[simp] theorem State.raiseShared_time (s : State) (n : Nat) : (s.raiseShared n).time = s.time := by
  simp [State.raiseShared]
@[simp] theorem State.raiseShared_flt (s : State) (n : Nat) : (s.raiseShared n).flt = s.flt := by
  simp [State.raiseShared]
@[simp] theorem State.raiseShared_mbx (s : State) (n : Nat) : (s.raiseShared n).mbx = s.mbx := by
  simp [State.raiseShared]
@[simp] theorem State.raiseShared_ident (s : State) (n : Nat) : (s.raiseShared n).ident = s.ident := by
  simp [State.raiseShared]
@[simp] theorem State.raiseShared_md (s : State) (n : Nat) : (s.raiseShared n).md = s.md := by
  simp [State.raiseShared]
@[simp] theorem State.raiseShared_prt (s : State) (n : Nat) : (s.raiseShared n).prt = s.prt := by
  simp [State.raiseShared]
@[simp] theorem State.raiseShared_isl (s : State) (n : Nat) : (s.raiseShared n).isl = s.isl := by
  simp [State.raiseShared]
@[simp] theorem State.raiseShared_grp (s : State) (n : Nat) : (s.raiseShared n).grp = s.grp := by
  simp [State.raiseShared]
@[simp] theorem State.raiseShared_lan (s : State) (n : Nat) : (s.raiseShared n).lan = s.lan := by
  simp [State.raiseShared]
@[simp] theorem State.raiseShared_sec (s : State) (n : Nat) : (s.raiseShared n).sec = s.sec := by
  simp [State.raiseShared]
@[simp] theorem State.raiseShared_bnd (s : State) (n : Nat) : (s.raiseShared n).bnd = s.bnd := by
  simp [State.raiseShared]
@[simp] theorem State.raiseShared_xbr (s : State) (n : Nat) : (s.raiseShared n).xbr = s.xbr := by
  simp [State.raiseShared]
@[simp] theorem State.raiseShared_brg (s : State) (n : Nat) : (s.raiseShared n).brg = s.brg := by
  simp [State.raiseShared]
@[simp] theorem State.raiseShared_home (s : State) (n : Nat) : (s.raiseShared n).home = s.home := by
  simp [State.raiseShared]
@[simp] theorem State.raiseShared_cnt (s : State) (n : Nat) : (s.raiseShared n).cnt = s.cnt := by
  simp [State.raiseShared]
@[simp] theorem State.raiseShared_twl (s : State) (n : Nat) : (s.raiseShared n).twl = s.twl := by
  simp [State.raiseShared]
@[simp] theorem State.raiseShared_slt (s : State) (n : Nat) : (s.raiseShared n).slt = s.slt := by
  simp [State.raiseShared]
@[simp] theorem State.raiseShared_oxb (s : State) (n : Nat) : (s.raiseShared n).oxb = s.oxb := by
  simp [State.raiseShared]
@[simp] theorem State.raiseShared_rsv (s : State) (n : Nat) : (s.raiseShared n).rsv = s.rsv := by
  simp [State.raiseShared]
@[simp] theorem State.raiseShared_due (s : State) (n : Nat) : (s.raiseShared n).due = s.due := by
  simp [State.raiseShared]
@[simp] theorem State.raiseShared_fresh (s : State) (n : Nat) : (s.raiseShared n).fresh = s.fresh := by
  simp [State.raiseShared]
@[simp] theorem State.raiseShared_pending (s : State) (n : Nat) : (s.raiseShared n).pending = s.pending := by
  simp [State.raiseShared]
@[simp] theorem State.raisePort_force (s : State) (p : Nat) : (s.raisePort p).force = s.force := by
  simp [State.raisePort]
@[simp] theorem State.raisePort_dirty (s : State) (p : Nat) : (s.raisePort p).dirty = s.dirty := by
  simp [State.raisePort]
@[simp] theorem State.raisePort_latch (s : State) (p : Nat) : (s.raisePort p).latch = s.latch := by
  simp [State.raisePort]
@[simp] theorem State.raisePort_refused (s : State) (p : Nat) : (s.raisePort p).refused = s.refused := by
  simp [State.raisePort]
@[simp] theorem State.raisePort_time (s : State) (p : Nat) : (s.raisePort p).time = s.time := by
  simp [State.raisePort]
@[simp] theorem State.raisePort_flt (s : State) (p : Nat) : (s.raisePort p).flt = s.flt := by
  simp [State.raisePort]
@[simp] theorem State.raisePort_mbx (s : State) (p : Nat) : (s.raisePort p).mbx = s.mbx := by
  simp [State.raisePort]
@[simp] theorem State.raisePort_ident (s : State) (p : Nat) : (s.raisePort p).ident = s.ident := by
  simp [State.raisePort]
@[simp] theorem State.raisePort_md (s : State) (p : Nat) : (s.raisePort p).md = s.md := by
  simp [State.raisePort]
@[simp] theorem State.raisePort_prt (s : State) (p : Nat) : (s.raisePort p).prt = s.prt := by
  simp [State.raisePort]
@[simp] theorem State.raisePort_isl (s : State) (p : Nat) : (s.raisePort p).isl = s.isl := by
  simp [State.raisePort]
@[simp] theorem State.raisePort_grp (s : State) (p : Nat) : (s.raisePort p).grp = s.grp := by
  simp [State.raisePort]
@[simp] theorem State.raisePort_lan (s : State) (p : Nat) : (s.raisePort p).lan = s.lan := by
  simp [State.raisePort]
@[simp] theorem State.raisePort_sec (s : State) (p : Nat) : (s.raisePort p).sec = s.sec := by
  simp [State.raisePort]
@[simp] theorem State.raisePort_bnd (s : State) (p : Nat) : (s.raisePort p).bnd = s.bnd := by
  simp [State.raisePort]
@[simp] theorem State.raisePort_xbr (s : State) (p : Nat) : (s.raisePort p).xbr = s.xbr := by
  simp [State.raisePort]
@[simp] theorem State.raisePort_brg (s : State) (p : Nat) : (s.raisePort p).brg = s.brg := by
  simp [State.raisePort]
@[simp] theorem State.raisePort_home (s : State) (p : Nat) : (s.raisePort p).home = s.home := by
  simp [State.raisePort]
@[simp] theorem State.raisePort_cnt (s : State) (p : Nat) : (s.raisePort p).cnt = s.cnt := by
  simp [State.raisePort]
@[simp] theorem State.raisePort_twl (s : State) (p : Nat) : (s.raisePort p).twl = s.twl := by
  simp [State.raisePort]
@[simp] theorem State.raisePort_slt (s : State) (p : Nat) : (s.raisePort p).slt = s.slt := by
  simp [State.raisePort]
@[simp] theorem State.raisePort_oxb (s : State) (p : Nat) : (s.raisePort p).oxb = s.oxb := by
  simp [State.raisePort]
@[simp] theorem State.raisePort_rsv (s : State) (p : Nat) : (s.raisePort p).rsv = s.rsv := by
  simp [State.raisePort]
@[simp] theorem State.raisePort_due (s : State) (p : Nat) : (s.raisePort p).due = s.due := by
  simp [State.raisePort]
@[simp] theorem State.raisePort_fresh (s : State) (p : Nat) : (s.raisePort p).fresh = s.fresh := by
  simp [State.raisePort]
@[simp] theorem State.raisePort_pending (s : State) (p : Nat) : (s.raisePort p).pending = s.pending := by
  simp [State.raisePort]
@[simp] theorem State.raisePrivate_force (s : State) (t n : Nat) : (s.raisePrivate t n).force = s.force := by
  simp only [State.raisePrivate]; split_ifs <;> simp
@[simp] theorem State.raisePrivate_dirty (s : State) (t n : Nat) : (s.raisePrivate t n).dirty = s.dirty := by
  simp only [State.raisePrivate]; split_ifs <;> simp
@[simp] theorem State.raisePrivate_latch (s : State) (t n : Nat) : (s.raisePrivate t n).latch = s.latch := by
  simp only [State.raisePrivate]; split_ifs <;> simp
@[simp] theorem State.raisePrivate_refused (s : State) (t n : Nat) : (s.raisePrivate t n).refused = s.refused := by
  simp only [State.raisePrivate]; split_ifs <;> simp
@[simp] theorem State.raisePrivate_time (s : State) (t n : Nat) : (s.raisePrivate t n).time = s.time := by
  simp only [State.raisePrivate]; split_ifs <;> simp
@[simp] theorem State.raisePrivate_flt (s : State) (t n : Nat) : (s.raisePrivate t n).flt = s.flt := by
  simp only [State.raisePrivate]; split_ifs <;> simp
@[simp] theorem State.raisePrivate_mbx (s : State) (t n : Nat) : (s.raisePrivate t n).mbx = s.mbx := by
  simp only [State.raisePrivate]; split_ifs <;> simp
@[simp] theorem State.raisePrivate_ident (s : State) (t n : Nat) : (s.raisePrivate t n).ident = s.ident := by
  simp only [State.raisePrivate]; split_ifs <;> simp
@[simp] theorem State.raisePrivate_md (s : State) (t n : Nat) : (s.raisePrivate t n).md = s.md := by
  simp only [State.raisePrivate]; split_ifs <;> simp
@[simp] theorem State.raisePrivate_prt (s : State) (t n : Nat) : (s.raisePrivate t n).prt = s.prt := by
  simp only [State.raisePrivate]; split_ifs <;> simp
@[simp] theorem State.raisePrivate_isl (s : State) (t n : Nat) : (s.raisePrivate t n).isl = s.isl := by
  simp only [State.raisePrivate]; split_ifs <;> simp
@[simp] theorem State.raisePrivate_grp (s : State) (t n : Nat) : (s.raisePrivate t n).grp = s.grp := by
  simp only [State.raisePrivate]; split_ifs <;> simp
@[simp] theorem State.raisePrivate_lan (s : State) (t n : Nat) : (s.raisePrivate t n).lan = s.lan := by
  simp only [State.raisePrivate]; split_ifs <;> simp
@[simp] theorem State.raisePrivate_sec (s : State) (t n : Nat) : (s.raisePrivate t n).sec = s.sec := by
  simp only [State.raisePrivate]; split_ifs <;> simp
@[simp] theorem State.raisePrivate_bnd (s : State) (t n : Nat) : (s.raisePrivate t n).bnd = s.bnd := by
  simp only [State.raisePrivate]; split_ifs <;> simp
@[simp] theorem State.raisePrivate_xbr (s : State) (t n : Nat) : (s.raisePrivate t n).xbr = s.xbr := by
  simp only [State.raisePrivate]; split_ifs <;> simp
@[simp] theorem State.raisePrivate_brg (s : State) (t n : Nat) : (s.raisePrivate t n).brg = s.brg := by
  simp only [State.raisePrivate]; split_ifs <;> simp
@[simp] theorem State.raisePrivate_home (s : State) (t n : Nat) : (s.raisePrivate t n).home = s.home := by
  simp only [State.raisePrivate]; split_ifs <;> simp
@[simp] theorem State.raisePrivate_cnt (s : State) (t n : Nat) : (s.raisePrivate t n).cnt = s.cnt := by
  simp only [State.raisePrivate]; split_ifs <;> simp
@[simp] theorem State.raisePrivate_twl (s : State) (t n : Nat) : (s.raisePrivate t n).twl = s.twl := by
  simp only [State.raisePrivate]; split_ifs <;> simp
@[simp] theorem State.raisePrivate_slt (s : State) (t n : Nat) : (s.raisePrivate t n).slt = s.slt := by
  simp only [State.raisePrivate]; split_ifs <;> simp
@[simp] theorem State.raisePrivate_oxb (s : State) (t n : Nat) : (s.raisePrivate t n).oxb = s.oxb := by
  simp only [State.raisePrivate]; split_ifs <;> simp
@[simp] theorem State.raisePrivate_rsv (s : State) (t n : Nat) : (s.raisePrivate t n).rsv = s.rsv := by
  simp only [State.raisePrivate]; split_ifs <;> simp
@[simp] theorem State.raisePrivate_due (s : State) (t n : Nat) : (s.raisePrivate t n).due = s.due := by
  simp only [State.raisePrivate]; split_ifs <;> simp
@[simp] theorem State.raisePrivate_fresh (s : State) (t n : Nat) : (s.raisePrivate t n).fresh = s.fresh := by
  simp only [State.raisePrivate]; split_ifs <;> simp
@[simp] theorem State.raisePrivate_pending (s : State) (t n : Nat) : (s.raisePrivate t n).pending = s.pending := by
  simp only [State.raisePrivate]; split_ifs <;> simp
@[simp] theorem State.raiseAll_force (s : State) (l : List Nat) (n : Nat) : (s.raiseAll l n).force = s.force := by
  unfold State.raiseAll; induction l generalizing s with
  | nil => rfl
  | cons a t ih => simp [ih]
@[simp] theorem State.raiseAll_dirty (s : State) (l : List Nat) (n : Nat) : (s.raiseAll l n).dirty = s.dirty := by
  unfold State.raiseAll; induction l generalizing s with
  | nil => rfl
  | cons a t ih => simp [ih]
@[simp] theorem State.raiseAll_latch (s : State) (l : List Nat) (n : Nat) : (s.raiseAll l n).latch = s.latch := by
  unfold State.raiseAll; induction l generalizing s with
  | nil => rfl
  | cons a t ih => simp [ih]
@[simp] theorem State.raiseAll_refused (s : State) (l : List Nat) (n : Nat) : (s.raiseAll l n).refused = s.refused := by
  unfold State.raiseAll; induction l generalizing s with
  | nil => rfl
  | cons a t ih => simp [ih]
@[simp] theorem State.raiseAll_time (s : State) (l : List Nat) (n : Nat) : (s.raiseAll l n).time = s.time := by
  unfold State.raiseAll; induction l generalizing s with
  | nil => rfl
  | cons a t ih => simp [ih]
@[simp] theorem State.raiseAll_flt (s : State) (l : List Nat) (n : Nat) : (s.raiseAll l n).flt = s.flt := by
  unfold State.raiseAll; induction l generalizing s with
  | nil => rfl
  | cons a t ih => simp [ih]
@[simp] theorem State.raiseAll_mbx (s : State) (l : List Nat) (n : Nat) : (s.raiseAll l n).mbx = s.mbx := by
  unfold State.raiseAll; induction l generalizing s with
  | nil => rfl
  | cons a t ih => simp [ih]
@[simp] theorem State.raiseAll_ident (s : State) (l : List Nat) (n : Nat) : (s.raiseAll l n).ident = s.ident := by
  unfold State.raiseAll; induction l generalizing s with
  | nil => rfl
  | cons a t ih => simp [ih]
@[simp] theorem State.raiseAll_md (s : State) (l : List Nat) (n : Nat) : (s.raiseAll l n).md = s.md := by
  unfold State.raiseAll; induction l generalizing s with
  | nil => rfl
  | cons a t ih => simp [ih]
@[simp] theorem State.raiseAll_prt (s : State) (l : List Nat) (n : Nat) : (s.raiseAll l n).prt = s.prt := by
  unfold State.raiseAll; induction l generalizing s with
  | nil => rfl
  | cons a t ih => simp [ih]
@[simp] theorem State.raiseAll_isl (s : State) (l : List Nat) (n : Nat) : (s.raiseAll l n).isl = s.isl := by
  unfold State.raiseAll; induction l generalizing s with
  | nil => rfl
  | cons a t ih => simp [ih]
@[simp] theorem State.raiseAll_grp (s : State) (l : List Nat) (n : Nat) : (s.raiseAll l n).grp = s.grp := by
  unfold State.raiseAll; induction l generalizing s with
  | nil => rfl
  | cons a t ih => simp [ih]
@[simp] theorem State.raiseAll_lan (s : State) (l : List Nat) (n : Nat) : (s.raiseAll l n).lan = s.lan := by
  unfold State.raiseAll; induction l generalizing s with
  | nil => rfl
  | cons a t ih => simp [ih]
@[simp] theorem State.raiseAll_sec (s : State) (l : List Nat) (n : Nat) : (s.raiseAll l n).sec = s.sec := by
  unfold State.raiseAll; induction l generalizing s with
  | nil => rfl
  | cons a t ih => simp [ih]
@[simp] theorem State.raiseAll_bnd (s : State) (l : List Nat) (n : Nat) : (s.raiseAll l n).bnd = s.bnd := by
  unfold State.raiseAll; induction l generalizing s with
  | nil => rfl
  | cons a t ih => simp [ih]
@[simp] theorem State.raiseAll_xbr (s : State) (l : List Nat) (n : Nat) : (s.raiseAll l n).xbr = s.xbr := by
  unfold State.raiseAll; induction l generalizing s with
  | nil => rfl
  | cons a t ih => simp [ih]
@[simp] theorem State.raiseAll_brg (s : State) (l : List Nat) (n : Nat) : (s.raiseAll l n).brg = s.brg := by
  unfold State.raiseAll; induction l generalizing s with
  | nil => rfl
  | cons a t ih => simp [ih]
@[simp] theorem State.raiseAll_home (s : State) (l : List Nat) (n : Nat) : (s.raiseAll l n).home = s.home := by
  unfold State.raiseAll; induction l generalizing s with
  | nil => rfl
  | cons a t ih => simp [ih]
@[simp] theorem State.raiseAll_cnt (s : State) (l : List Nat) (n : Nat) : (s.raiseAll l n).cnt = s.cnt := by
  unfold State.raiseAll; induction l generalizing s with
  | nil => rfl
  | cons a t ih => simp [ih]
@[simp] theorem State.raiseAll_twl (s : State) (l : List Nat) (n : Nat) : (s.raiseAll l n).twl = s.twl := by
  unfold State.raiseAll; induction l generalizing s with
  | nil => rfl
  | cons a t ih => simp [ih]
@[simp] theorem State.raiseAll_slt (s : State) (l : List Nat) (n : Nat) : (s.raiseAll l n).slt = s.slt := by
  unfold State.raiseAll; induction l generalizing s with
  | nil => rfl
  | cons a t ih => simp [ih]
@[simp] theorem State.raiseAll_oxb (s : State) (l : List Nat) (n : Nat) : (s.raiseAll l n).oxb = s.oxb := by
  unfold State.raiseAll; induction l generalizing s with
  | nil => rfl
  | cons a t ih => simp [ih]
@[simp] theorem State.raiseAll_rsv (s : State) (l : List Nat) (n : Nat) : (s.raiseAll l n).rsv = s.rsv := by
  unfold State.raiseAll; induction l generalizing s with
  | nil => rfl
  | cons a t ih => simp [ih]
@[simp] theorem State.raiseAll_due (s : State) (l : List Nat) (n : Nat) : (s.raiseAll l n).due = s.due := by
  unfold State.raiseAll; induction l generalizing s with
  | nil => rfl
  | cons a t ih => simp [ih]
@[simp] theorem State.raiseAll_fresh (s : State) (l : List Nat) (n : Nat) : (s.raiseAll l n).fresh = s.fresh := by
  unfold State.raiseAll; induction l generalizing s with
  | nil => rfl
  | cons a t ih => simp [ih]
@[simp] theorem State.raiseAll_pending (s : State) (l : List Nat) (n : Nat) : (s.raiseAll l n).pending = s.pending := by
  unfold State.raiseAll; induction l generalizing s with
  | nil => rfl
  | cons a t ih => simp [ih]
@[simp] theorem State.setDeg_force (s : State) (f : Fld) (v : Bool) : (s.setDeg f v).force = s.force := by
  simp only [State.setDeg]; split_ifs <;> simp
@[simp] theorem State.setDeg_dirty (s : State) (f : Fld) (v : Bool) : (s.setDeg f v).dirty = s.dirty := by
  simp only [State.setDeg]; split_ifs <;> simp
@[simp] theorem State.setDeg_latch (s : State) (f : Fld) (v : Bool) : (s.setDeg f v).latch = s.latch := by
  simp only [State.setDeg]; split_ifs <;> simp
@[simp] theorem State.setDeg_refused (s : State) (f : Fld) (v : Bool) : (s.setDeg f v).refused = s.refused := by
  simp only [State.setDeg]; split_ifs <;> simp
@[simp] theorem State.setDeg_time (s : State) (f : Fld) (v : Bool) : (s.setDeg f v).time = s.time := by
  simp only [State.setDeg]; split_ifs <;> simp
@[simp] theorem State.setDeg_flt (s : State) (f : Fld) (v : Bool) : (s.setDeg f v).flt = s.flt := by
  simp only [State.setDeg]; split_ifs <;> simp
@[simp] theorem State.setDeg_mbx (s : State) (f : Fld) (v : Bool) : (s.setDeg f v).mbx = s.mbx := by
  simp only [State.setDeg]; split_ifs <;> simp
@[simp] theorem State.setDeg_ident (s : State) (f : Fld) (v : Bool) : (s.setDeg f v).ident = s.ident := by
  simp only [State.setDeg]; split_ifs <;> simp
@[simp] theorem State.setDeg_md (s : State) (f : Fld) (v : Bool) : (s.setDeg f v).md = s.md := by
  simp only [State.setDeg]; split_ifs <;> simp
@[simp] theorem State.setDeg_prt (s : State) (f : Fld) (v : Bool) : (s.setDeg f v).prt = s.prt := by
  simp only [State.setDeg]; split_ifs <;> simp
@[simp] theorem State.setDeg_isl (s : State) (f : Fld) (v : Bool) : (s.setDeg f v).isl = s.isl := by
  simp only [State.setDeg]; split_ifs <;> simp
@[simp] theorem State.setDeg_grp (s : State) (f : Fld) (v : Bool) : (s.setDeg f v).grp = s.grp := by
  simp only [State.setDeg]; split_ifs <;> simp
@[simp] theorem State.setDeg_lan (s : State) (f : Fld) (v : Bool) : (s.setDeg f v).lan = s.lan := by
  simp only [State.setDeg]; split_ifs <;> simp
@[simp] theorem State.setDeg_sec (s : State) (f : Fld) (v : Bool) : (s.setDeg f v).sec = s.sec := by
  simp only [State.setDeg]; split_ifs <;> simp
@[simp] theorem State.setDeg_bnd (s : State) (f : Fld) (v : Bool) : (s.setDeg f v).bnd = s.bnd := by
  simp only [State.setDeg]; split_ifs <;> simp
@[simp] theorem State.setDeg_xbr (s : State) (f : Fld) (v : Bool) : (s.setDeg f v).xbr = s.xbr := by
  simp only [State.setDeg]; split_ifs <;> simp
@[simp] theorem State.setDeg_brg (s : State) (f : Fld) (v : Bool) : (s.setDeg f v).brg = s.brg := by
  simp only [State.setDeg]; split_ifs <;> simp
@[simp] theorem State.setDeg_home (s : State) (f : Fld) (v : Bool) : (s.setDeg f v).home = s.home := by
  simp only [State.setDeg]; split_ifs <;> simp
@[simp] theorem State.setDeg_cnt (s : State) (f : Fld) (v : Bool) : (s.setDeg f v).cnt = s.cnt := by
  simp only [State.setDeg]; split_ifs <;> simp
@[simp] theorem State.setDeg_twl (s : State) (f : Fld) (v : Bool) : (s.setDeg f v).twl = s.twl := by
  simp only [State.setDeg]; split_ifs <;> simp
@[simp] theorem State.setDeg_slt (s : State) (f : Fld) (v : Bool) : (s.setDeg f v).slt = s.slt := by
  simp only [State.setDeg]; split_ifs <;> simp
@[simp] theorem State.setDeg_oxb (s : State) (f : Fld) (v : Bool) : (s.setDeg f v).oxb = s.oxb := by
  simp only [State.setDeg]; split_ifs <;> simp
@[simp] theorem State.setDeg_rsv (s : State) (f : Fld) (v : Bool) : (s.setDeg f v).rsv = s.rsv := by
  simp only [State.setDeg]; split_ifs <;> simp
@[simp] theorem State.setDeg_due (s : State) (f : Fld) (v : Bool) : (s.setDeg f v).due = s.due := by
  simp only [State.setDeg]; split_ifs <;> simp
@[simp] theorem State.setDeg_fresh (s : State) (f : Fld) (v : Bool) : (s.setDeg f v).fresh = s.fresh := by
  simp only [State.setDeg]; split_ifs <;> simp
@[simp] theorem State.setDeg_pending (s : State) (f : Fld) (v : Bool) : (s.setDeg f v).pending = s.pending := by
  simp only [State.setDeg]; split_ifs <;> simp

/-! ### Fault reports (R371 to R377) -/

@[simp] theorem State.wake_regs (s : State) (p : Option Power) : (s.wake p).regs = s.regs := by
  simp only [State.wake]; split <;> rfl
@[simp] theorem State.wake_force (s : State) (p : Option Power) : (s.wake p).force = s.force := by
  simp only [State.wake]; split <;> rfl
@[simp] theorem State.wake_dirty (s : State) (p : Option Power) : (s.wake p).dirty = s.dirty := by
  simp only [State.wake]; split <;> rfl
@[simp] theorem State.wake_latch (s : State) (p : Option Power) : (s.wake p).latch = s.latch := by
  simp only [State.wake]; split <;> rfl
@[simp] theorem State.wake_refused (s : State) (p : Option Power) : (s.wake p).refused = s.refused := by
  simp only [State.wake]; split <;> rfl
@[simp] theorem State.wake_time (s : State) (p : Option Power) : (s.wake p).time = s.time := by
  simp only [State.wake]; split <;> rfl
@[simp] theorem State.wake_flt (s : State) (p : Option Power) : (s.wake p).flt = s.flt := by
  simp only [State.wake]; split <;> rfl
@[simp] theorem State.wake_evt (s : State) (p : Option Power) : (s.wake p).evt = s.evt := by
  simp only [State.wake]; split <;> rfl
@[simp] theorem State.wake_mbx (s : State) (p : Option Power) : (s.wake p).mbx = s.mbx := by
  simp only [State.wake]; split <;> rfl
@[simp] theorem State.wake_ident (s : State) (p : Option Power) : (s.wake p).ident = s.ident := by
  simp only [State.wake]; split <;> rfl
@[simp] theorem State.wake_prt (s : State) (p : Option Power) : (s.wake p).prt = s.prt := by
  simp only [State.wake]; split <;> rfl
@[simp] theorem State.wake_isl (s : State) (p : Option Power) : (s.wake p).isl = s.isl := by
  simp only [State.wake]; split <;> rfl
@[simp] theorem State.wake_grp (s : State) (p : Option Power) : (s.wake p).grp = s.grp := by
  simp only [State.wake]; split <;> rfl
@[simp] theorem State.wake_lan (s : State) (p : Option Power) : (s.wake p).lan = s.lan := by
  simp only [State.wake]; split <;> rfl
@[simp] theorem State.wake_sec (s : State) (p : Option Power) : (s.wake p).sec = s.sec := by
  simp only [State.wake]; split <;> rfl
@[simp] theorem State.wake_bnd (s : State) (p : Option Power) : (s.wake p).bnd = s.bnd := by
  simp only [State.wake]; split <;> rfl
@[simp] theorem State.wake_xbr (s : State) (p : Option Power) : (s.wake p).xbr = s.xbr := by
  simp only [State.wake]; split <;> rfl
@[simp] theorem State.wake_brg (s : State) (p : Option Power) : (s.wake p).brg = s.brg := by
  simp only [State.wake]; split <;> rfl
@[simp] theorem State.wake_home (s : State) (p : Option Power) : (s.wake p).home = s.home := by
  simp only [State.wake]; split <;> rfl
@[simp] theorem State.wake_cnt (s : State) (p : Option Power) : (s.wake p).cnt = s.cnt := by
  simp only [State.wake]; split <;> rfl
@[simp] theorem State.wake_twl (s : State) (p : Option Power) : (s.wake p).twl = s.twl := by
  simp only [State.wake]; split <;> rfl
@[simp] theorem State.wake_slt (s : State) (p : Option Power) : (s.wake p).slt = s.slt := by
  simp only [State.wake]; split <;> rfl
@[simp] theorem State.wake_oxb (s : State) (p : Option Power) : (s.wake p).oxb = s.oxb := by
  simp only [State.wake]; split <;> rfl
@[simp] theorem State.wake_rsv (s : State) (p : Option Power) : (s.wake p).rsv = s.rsv := by
  simp only [State.wake]; split <;> rfl
@[simp] theorem State.wake_due (s : State) (p : Option Power) : (s.wake p).due = s.due := by
  simp only [State.wake]; split <;> rfl
@[simp] theorem State.wake_out (s : State) (p : Option Power) : (s.wake p).out = s.out := by
  simp only [State.wake]; split <;> rfl
@[simp] theorem State.wake_fresh (s : State) (p : Option Power) : (s.wake p).fresh = s.fresh := by
  simp only [State.wake]; split <;> rfl
@[simp] theorem State.wake_pending (s : State) (p : Option Power) : (s.wake p).pending = s.pending := by
  simp only [State.wake]; split <;> rfl
@[simp] theorem State.countFault_force (s : State) (c : FaultClass) : (s.countFault c).force = s.force := by
  cases c <;> rfl
@[simp] theorem State.countFault_dirty (s : State) (c : FaultClass) : (s.countFault c).dirty = s.dirty := by
  cases c <;> rfl
@[simp] theorem State.countFault_latch (s : State) (c : FaultClass) : (s.countFault c).latch = s.latch := by
  cases c <;> rfl
@[simp] theorem State.countFault_refused (s : State) (c : FaultClass) : (s.countFault c).refused = s.refused := by
  cases c <;> rfl
@[simp] theorem State.countFault_time (s : State) (c : FaultClass) : (s.countFault c).time = s.time := by
  cases c <;> rfl
@[simp] theorem State.countFault_flt (s : State) (c : FaultClass) : (s.countFault c).flt = s.flt := by
  cases c <;> rfl
@[simp] theorem State.countFault_evt (s : State) (c : FaultClass) : (s.countFault c).evt = s.evt := by
  cases c <;> rfl
@[simp] theorem State.countFault_mbx (s : State) (c : FaultClass) : (s.countFault c).mbx = s.mbx := by
  cases c <;> rfl
@[simp] theorem State.countFault_ident (s : State) (c : FaultClass) : (s.countFault c).ident = s.ident := by
  cases c <;> rfl
@[simp] theorem State.countFault_md (s : State) (c : FaultClass) : (s.countFault c).md = s.md := by
  cases c <;> rfl
@[simp] theorem State.countFault_prt (s : State) (c : FaultClass) : (s.countFault c).prt = s.prt := by
  cases c <;> rfl
@[simp] theorem State.countFault_isl (s : State) (c : FaultClass) : (s.countFault c).isl = s.isl := by
  cases c <;> rfl
@[simp] theorem State.countFault_grp (s : State) (c : FaultClass) : (s.countFault c).grp = s.grp := by
  cases c <;> rfl
@[simp] theorem State.countFault_lan (s : State) (c : FaultClass) : (s.countFault c).lan = s.lan := by
  cases c <;> rfl
@[simp] theorem State.countFault_sec (s : State) (c : FaultClass) : (s.countFault c).sec = s.sec := by
  cases c <;> rfl
@[simp] theorem State.countFault_bnd (s : State) (c : FaultClass) : (s.countFault c).bnd = s.bnd := by
  cases c <;> rfl
@[simp] theorem State.countFault_xbr (s : State) (c : FaultClass) : (s.countFault c).xbr = s.xbr := by
  cases c <;> rfl
@[simp] theorem State.countFault_brg (s : State) (c : FaultClass) : (s.countFault c).brg = s.brg := by
  cases c <;> rfl
@[simp] theorem State.countFault_home (s : State) (c : FaultClass) : (s.countFault c).home = s.home := by
  cases c <;> rfl
@[simp] theorem State.countFault_cnt (s : State) (c : FaultClass) : (s.countFault c).cnt = s.cnt := by
  cases c <;> rfl
@[simp] theorem State.countFault_twl (s : State) (c : FaultClass) : (s.countFault c).twl = s.twl := by
  cases c <;> rfl
@[simp] theorem State.countFault_slt (s : State) (c : FaultClass) : (s.countFault c).slt = s.slt := by
  cases c <;> rfl
@[simp] theorem State.countFault_oxb (s : State) (c : FaultClass) : (s.countFault c).oxb = s.oxb := by
  cases c <;> rfl
@[simp] theorem State.countFault_rsv (s : State) (c : FaultClass) : (s.countFault c).rsv = s.rsv := by
  cases c <;> rfl
@[simp] theorem State.countFault_due (s : State) (c : FaultClass) : (s.countFault c).due = s.due := by
  cases c <;> rfl
@[simp] theorem State.countFault_out (s : State) (c : FaultClass) : (s.countFault c).out = s.out := by
  cases c <;> rfl
@[simp] theorem State.countFault_fresh (s : State) (c : FaultClass) : (s.countFault c).fresh = s.fresh := by
  cases c <;> rfl
@[simp] theorem State.countFault_pending (s : State) (c : FaultClass) : (s.countFault c).pending = s.pending := by
  cases c <;> rfl
@[simp] theorem State.journalIn_regs (s : State) (k n : Nat) : (s.journalIn k n).regs = s.regs := by
  rfl
@[simp] theorem State.journalIn_force (s : State) (k n : Nat) : (s.journalIn k n).force = s.force := by
  rfl
@[simp] theorem State.journalIn_dirty (s : State) (k n : Nat) : (s.journalIn k n).dirty = s.dirty := by
  rfl
@[simp] theorem State.journalIn_latch (s : State) (k n : Nat) : (s.journalIn k n).latch = s.latch := by
  rfl
@[simp] theorem State.journalIn_refused (s : State) (k n : Nat) : (s.journalIn k n).refused = s.refused := by
  rfl
@[simp] theorem State.journalIn_time (s : State) (k n : Nat) : (s.journalIn k n).time = s.time := by
  rfl
@[simp] theorem State.journalIn_flt (s : State) (k n : Nat) : (s.journalIn k n).flt = s.flt := by
  rfl
@[simp] theorem State.journalIn_evt (s : State) (k n : Nat) : (s.journalIn k n).evt = s.evt := by
  rfl
@[simp] theorem State.journalIn_mbx (s : State) (k n : Nat) : (s.journalIn k n).mbx = s.mbx := by
  rfl
@[simp] theorem State.journalIn_ident (s : State) (k n : Nat) : (s.journalIn k n).ident = s.ident := by
  rfl
@[simp] theorem State.journalIn_md (s : State) (k n : Nat) : (s.journalIn k n).md = s.md := by
  rfl
@[simp] theorem State.journalIn_prt (s : State) (k n : Nat) : (s.journalIn k n).prt = s.prt := by
  rfl
@[simp] theorem State.journalIn_isl (s : State) (k n : Nat) : (s.journalIn k n).isl = s.isl := by
  rfl
@[simp] theorem State.journalIn_grp (s : State) (k n : Nat) : (s.journalIn k n).grp = s.grp := by
  rfl
@[simp] theorem State.journalIn_lan (s : State) (k n : Nat) : (s.journalIn k n).lan = s.lan := by
  rfl
@[simp] theorem State.journalIn_sec (s : State) (k n : Nat) : (s.journalIn k n).sec = s.sec := by
  rfl
@[simp] theorem State.journalIn_bnd (s : State) (k n : Nat) : (s.journalIn k n).bnd = s.bnd := by
  rfl
@[simp] theorem State.journalIn_xbr (s : State) (k n : Nat) : (s.journalIn k n).xbr = s.xbr := by
  rfl
@[simp] theorem State.journalIn_brg (s : State) (k n : Nat) : (s.journalIn k n).brg = s.brg := by
  rfl
@[simp] theorem State.journalIn_home (s : State) (k n : Nat) : (s.journalIn k n).home = s.home := by
  rfl
@[simp] theorem State.journalIn_cnt (s : State) (k n : Nat) : (s.journalIn k n).cnt = s.cnt := by
  rfl
@[simp] theorem State.journalIn_slt (s : State) (k n : Nat) : (s.journalIn k n).slt = s.slt := by
  rfl
@[simp] theorem State.journalIn_oxb (s : State) (k n : Nat) : (s.journalIn k n).oxb = s.oxb := by
  rfl
@[simp] theorem State.journalIn_rsv (s : State) (k n : Nat) : (s.journalIn k n).rsv = s.rsv := by
  rfl
@[simp] theorem State.journalIn_due (s : State) (k n : Nat) : (s.journalIn k n).due = s.due := by
  rfl
@[simp] theorem State.journalIn_out (s : State) (k n : Nat) : (s.journalIn k n).out = s.out := by
  rfl
@[simp] theorem State.journalIn_fresh (s : State) (k n : Nat) : (s.journalIn k n).fresh = s.fresh := by
  rfl
@[simp] theorem State.journalIn_pending (s : State) (k n : Nat) : (s.journalIn k n).pending = s.pending := by
  rfl
@[simp] theorem State.quarantineFor_regs (s : State) (n : Nat) : (s.quarantineFor n).regs = s.regs := by
  simp [State.quarantineFor]
@[simp] theorem State.quarantineFor_force (s : State) (n : Nat) : (s.quarantineFor n).force = s.force := by
  simp [State.quarantineFor]
@[simp] theorem State.quarantineFor_dirty (s : State) (n : Nat) : (s.quarantineFor n).dirty = s.dirty := by
  simp [State.quarantineFor]
@[simp] theorem State.quarantineFor_latch (s : State) (n : Nat) : (s.quarantineFor n).latch = s.latch := by
  simp [State.quarantineFor]
@[simp] theorem State.quarantineFor_refused (s : State) (n : Nat) : (s.quarantineFor n).refused = s.refused := by
  simp [State.quarantineFor]
@[simp] theorem State.quarantineFor_time (s : State) (n : Nat) : (s.quarantineFor n).time = s.time := by
  simp [State.quarantineFor]
@[simp] theorem State.quarantineFor_flt (s : State) (n : Nat) : (s.quarantineFor n).flt = s.flt := by
  simp [State.quarantineFor]
@[simp] theorem State.quarantineFor_evt (s : State) (n : Nat) : (s.quarantineFor n).evt = s.evt := by
  simp [State.quarantineFor]
@[simp] theorem State.quarantineFor_mbx (s : State) (n : Nat) : (s.quarantineFor n).mbx = s.mbx := by
  simp [State.quarantineFor]
@[simp] theorem State.quarantineFor_ident (s : State) (n : Nat) : (s.quarantineFor n).ident = s.ident := by
  simp [State.quarantineFor]
@[simp] theorem State.quarantineFor_prt (s : State) (n : Nat) : (s.quarantineFor n).prt = s.prt := by
  simp [State.quarantineFor]
@[simp] theorem State.quarantineFor_isl (s : State) (n : Nat) : (s.quarantineFor n).isl = s.isl := by
  simp [State.quarantineFor]
@[simp] theorem State.quarantineFor_grp (s : State) (n : Nat) : (s.quarantineFor n).grp = s.grp := by
  simp [State.quarantineFor]
@[simp] theorem State.quarantineFor_lan (s : State) (n : Nat) : (s.quarantineFor n).lan = s.lan := by
  simp [State.quarantineFor]
@[simp] theorem State.quarantineFor_sec (s : State) (n : Nat) : (s.quarantineFor n).sec = s.sec := by
  simp [State.quarantineFor]
@[simp] theorem State.quarantineFor_bnd (s : State) (n : Nat) : (s.quarantineFor n).bnd = s.bnd := by
  simp [State.quarantineFor]
@[simp] theorem State.quarantineFor_xbr (s : State) (n : Nat) : (s.quarantineFor n).xbr = s.xbr := by
  simp [State.quarantineFor]
@[simp] theorem State.quarantineFor_brg (s : State) (n : Nat) : (s.quarantineFor n).brg = s.brg := by
  simp [State.quarantineFor]
@[simp] theorem State.quarantineFor_home (s : State) (n : Nat) : (s.quarantineFor n).home = s.home := by
  simp [State.quarantineFor]
@[simp] theorem State.quarantineFor_cnt (s : State) (n : Nat) : (s.quarantineFor n).cnt = s.cnt := by
  simp [State.quarantineFor]
@[simp] theorem State.quarantineFor_twl (s : State) (n : Nat) : (s.quarantineFor n).twl = s.twl := by
  simp [State.quarantineFor]
@[simp] theorem State.quarantineFor_slt (s : State) (n : Nat) : (s.quarantineFor n).slt = s.slt := by
  simp [State.quarantineFor]
@[simp] theorem State.quarantineFor_oxb (s : State) (n : Nat) : (s.quarantineFor n).oxb = s.oxb := by
  simp [State.quarantineFor]
@[simp] theorem State.quarantineFor_rsv (s : State) (n : Nat) : (s.quarantineFor n).rsv = s.rsv := by
  simp [State.quarantineFor]
@[simp] theorem State.quarantineFor_due (s : State) (n : Nat) : (s.quarantineFor n).due = s.due := by
  simp [State.quarantineFor]
@[simp] theorem State.quarantineFor_out (s : State) (n : Nat) : (s.quarantineFor n).out = s.out := by
  simp [State.quarantineFor]
@[simp] theorem State.quarantineFor_fresh (s : State) (n : Nat) : (s.quarantineFor n).fresh = s.fresh := by
  simp [State.quarantineFor]
@[simp] theorem State.quarantineFor_pending (s : State) (n : Nat) : (s.quarantineFor n).pending = s.pending := by
  simp [State.quarantineFor]
@[simp] theorem State.uncontain_regs (s : State) (k : Nat) : (s.uncontain k).regs = s.regs := by
  simp only [State.uncontain]; split <;> simp
@[simp] theorem State.uncontain_force (s : State) (k : Nat) : (s.uncontain k).force = s.force := by
  simp only [State.uncontain]; split <;> simp
@[simp] theorem State.uncontain_dirty (s : State) (k : Nat) : (s.uncontain k).dirty = s.dirty := by
  simp only [State.uncontain]; split <;> simp
@[simp] theorem State.uncontain_latch (s : State) (k : Nat) : (s.uncontain k).latch = s.latch := by
  simp only [State.uncontain]; split <;> simp
@[simp] theorem State.uncontain_refused (s : State) (k : Nat) : (s.uncontain k).refused = s.refused := by
  simp only [State.uncontain]; split <;> simp
@[simp] theorem State.uncontain_time (s : State) (k : Nat) : (s.uncontain k).time = s.time := by
  simp only [State.uncontain]; split <;> simp
@[simp] theorem State.uncontain_evt (s : State) (k : Nat) : (s.uncontain k).evt = s.evt := by
  simp only [State.uncontain]; split <;> simp
@[simp] theorem State.uncontain_mbx (s : State) (k : Nat) : (s.uncontain k).mbx = s.mbx := by
  simp only [State.uncontain]; split <;> simp
@[simp] theorem State.uncontain_ident (s : State) (k : Nat) : (s.uncontain k).ident = s.ident := by
  simp only [State.uncontain]; split <;> simp
@[simp] theorem State.uncontain_prt (s : State) (k : Nat) : (s.uncontain k).prt = s.prt := by
  simp only [State.uncontain]; split <;> simp
@[simp] theorem State.uncontain_isl (s : State) (k : Nat) : (s.uncontain k).isl = s.isl := by
  simp only [State.uncontain]; split <;> simp
@[simp] theorem State.uncontain_grp (s : State) (k : Nat) : (s.uncontain k).grp = s.grp := by
  simp only [State.uncontain]; split <;> simp
@[simp] theorem State.uncontain_lan (s : State) (k : Nat) : (s.uncontain k).lan = s.lan := by
  simp only [State.uncontain]; split <;> simp
@[simp] theorem State.uncontain_sec (s : State) (k : Nat) : (s.uncontain k).sec = s.sec := by
  simp only [State.uncontain]; split <;> simp
@[simp] theorem State.uncontain_bnd (s : State) (k : Nat) : (s.uncontain k).bnd = s.bnd := by
  simp only [State.uncontain]; split <;> simp
@[simp] theorem State.uncontain_xbr (s : State) (k : Nat) : (s.uncontain k).xbr = s.xbr := by
  simp only [State.uncontain]; split <;> simp
@[simp] theorem State.uncontain_brg (s : State) (k : Nat) : (s.uncontain k).brg = s.brg := by
  simp only [State.uncontain]; split <;> simp
@[simp] theorem State.uncontain_home (s : State) (k : Nat) : (s.uncontain k).home = s.home := by
  simp only [State.uncontain]; split <;> simp
@[simp] theorem State.uncontain_cnt (s : State) (k : Nat) : (s.uncontain k).cnt = s.cnt := by
  simp only [State.uncontain]; split <;> simp
@[simp] theorem State.uncontain_slt (s : State) (k : Nat) : (s.uncontain k).slt = s.slt := by
  simp only [State.uncontain]; split <;> simp
@[simp] theorem State.uncontain_oxb (s : State) (k : Nat) : (s.uncontain k).oxb = s.oxb := by
  simp only [State.uncontain]; split <;> simp
@[simp] theorem State.uncontain_rsv (s : State) (k : Nat) : (s.uncontain k).rsv = s.rsv := by
  simp only [State.uncontain]; split <;> simp
@[simp] theorem State.uncontain_due (s : State) (k : Nat) : (s.uncontain k).due = s.due := by
  simp only [State.uncontain]; split <;> simp
@[simp] theorem State.uncontain_fresh (s : State) (k : Nat) : (s.uncontain k).fresh = s.fresh := by
  simp only [State.uncontain]; split <;> simp
@[simp] theorem State.uncontain_pending (s : State) (k : Nat) : (s.uncontain k).pending = s.pending := by
  simp only [State.uncontain]; split <;> simp
@[simp] theorem State.mergeFault_regs (s : State) (k : Nat) (f : FltIn) : (s.mergeFault k f).regs = s.regs := by
  simp only [State.mergeFault]; repeat' split
  all_goals simp
@[simp] theorem State.mergeFault_force (s : State) (k : Nat) (f : FltIn) : (s.mergeFault k f).force = s.force := by
  simp only [State.mergeFault]; repeat' split
  all_goals simp
@[simp] theorem State.mergeFault_dirty (s : State) (k : Nat) (f : FltIn) : (s.mergeFault k f).dirty = s.dirty := by
  simp only [State.mergeFault]; repeat' split
  all_goals simp
@[simp] theorem State.mergeFault_latch (s : State) (k : Nat) (f : FltIn) : (s.mergeFault k f).latch = s.latch := by
  simp only [State.mergeFault]; repeat' split
  all_goals simp
@[simp] theorem State.mergeFault_refused (s : State) (k : Nat) (f : FltIn) : (s.mergeFault k f).refused = s.refused := by
  simp only [State.mergeFault]; repeat' split
  all_goals simp
@[simp] theorem State.mergeFault_time (s : State) (k : Nat) (f : FltIn) : (s.mergeFault k f).time = s.time := by
  simp only [State.mergeFault]; repeat' split
  all_goals simp
@[simp] theorem State.mergeFault_evt (s : State) (k : Nat) (f : FltIn) : (s.mergeFault k f).evt = s.evt := by
  simp only [State.mergeFault]; repeat' split
  all_goals simp
@[simp] theorem State.mergeFault_mbx (s : State) (k : Nat) (f : FltIn) : (s.mergeFault k f).mbx = s.mbx := by
  simp only [State.mergeFault]; repeat' split
  all_goals simp
@[simp] theorem State.mergeFault_ident (s : State) (k : Nat) (f : FltIn) : (s.mergeFault k f).ident = s.ident := by
  simp only [State.mergeFault]; repeat' split
  all_goals simp
@[simp] theorem State.mergeFault_prt (s : State) (k : Nat) (f : FltIn) : (s.mergeFault k f).prt = s.prt := by
  simp only [State.mergeFault]; repeat' split
  all_goals simp
@[simp] theorem State.mergeFault_isl (s : State) (k : Nat) (f : FltIn) : (s.mergeFault k f).isl = s.isl := by
  simp only [State.mergeFault]; repeat' split
  all_goals simp
@[simp] theorem State.mergeFault_grp (s : State) (k : Nat) (f : FltIn) : (s.mergeFault k f).grp = s.grp := by
  simp only [State.mergeFault]; repeat' split
  all_goals simp
@[simp] theorem State.mergeFault_lan (s : State) (k : Nat) (f : FltIn) : (s.mergeFault k f).lan = s.lan := by
  simp only [State.mergeFault]; repeat' split
  all_goals simp
@[simp] theorem State.mergeFault_sec (s : State) (k : Nat) (f : FltIn) : (s.mergeFault k f).sec = s.sec := by
  simp only [State.mergeFault]; repeat' split
  all_goals simp
@[simp] theorem State.mergeFault_bnd (s : State) (k : Nat) (f : FltIn) : (s.mergeFault k f).bnd = s.bnd := by
  simp only [State.mergeFault]; repeat' split
  all_goals simp
@[simp] theorem State.mergeFault_xbr (s : State) (k : Nat) (f : FltIn) : (s.mergeFault k f).xbr = s.xbr := by
  simp only [State.mergeFault]; repeat' split
  all_goals simp
@[simp] theorem State.mergeFault_brg (s : State) (k : Nat) (f : FltIn) : (s.mergeFault k f).brg = s.brg := by
  simp only [State.mergeFault]; repeat' split
  all_goals simp
@[simp] theorem State.mergeFault_home (s : State) (k : Nat) (f : FltIn) : (s.mergeFault k f).home = s.home := by
  simp only [State.mergeFault]; repeat' split
  all_goals simp
@[simp] theorem State.mergeFault_cnt (s : State) (k : Nat) (f : FltIn) : (s.mergeFault k f).cnt = s.cnt := by
  simp only [State.mergeFault]; repeat' split
  all_goals simp
@[simp] theorem State.mergeFault_slt (s : State) (k : Nat) (f : FltIn) : (s.mergeFault k f).slt = s.slt := by
  simp only [State.mergeFault]; repeat' split
  all_goals simp
@[simp] theorem State.mergeFault_oxb (s : State) (k : Nat) (f : FltIn) : (s.mergeFault k f).oxb = s.oxb := by
  simp only [State.mergeFault]; repeat' split
  all_goals simp
@[simp] theorem State.mergeFault_rsv (s : State) (k : Nat) (f : FltIn) : (s.mergeFault k f).rsv = s.rsv := by
  simp only [State.mergeFault]; repeat' split
  all_goals simp
@[simp] theorem State.mergeFault_due (s : State) (k : Nat) (f : FltIn) : (s.mergeFault k f).due = s.due := by
  simp only [State.mergeFault]; repeat' split
  all_goals simp
@[simp] theorem State.mergeFault_fresh (s : State) (k : Nat) (f : FltIn) : (s.mergeFault k f).fresh = s.fresh := by
  simp only [State.mergeFault]; repeat' split
  all_goals simp
@[simp] theorem State.mergeFault_pending (s : State) (k : Nat) (f : FltIn) : (s.mergeFault k f).pending = s.pending := by
  simp only [State.mergeFault]; repeat' split
  all_goals simp
@[simp] theorem State.openFault_force (s : State) (k : Nat) (f : FltIn) : (s.openFault k f).force = s.force := by
  simp only [State.openFault]; split_ifs <;> simp
@[simp] theorem State.openFault_dirty (s : State) (k : Nat) (f : FltIn) : (s.openFault k f).dirty = s.dirty := by
  simp only [State.openFault]; split_ifs <;> simp
@[simp] theorem State.openFault_latch (s : State) (k : Nat) (f : FltIn) : (s.openFault k f).latch = s.latch := by
  simp only [State.openFault]; split_ifs <;> simp
@[simp] theorem State.openFault_refused (s : State) (k : Nat) (f : FltIn) : (s.openFault k f).refused = s.refused := by
  simp only [State.openFault]; split_ifs <;> simp
@[simp] theorem State.openFault_time (s : State) (k : Nat) (f : FltIn) : (s.openFault k f).time = s.time := by
  simp only [State.openFault]; split_ifs <;> simp
@[simp] theorem State.openFault_mbx (s : State) (k : Nat) (f : FltIn) : (s.openFault k f).mbx = s.mbx := by
  simp only [State.openFault]; split_ifs <;> simp
@[simp] theorem State.openFault_ident (s : State) (k : Nat) (f : FltIn) : (s.openFault k f).ident = s.ident := by
  simp only [State.openFault]; split_ifs <;> simp
@[simp] theorem State.openFault_prt (s : State) (k : Nat) (f : FltIn) : (s.openFault k f).prt = s.prt := by
  simp only [State.openFault]; split_ifs <;> simp
@[simp] theorem State.openFault_isl (s : State) (k : Nat) (f : FltIn) : (s.openFault k f).isl = s.isl := by
  simp only [State.openFault]; split_ifs <;> simp
@[simp] theorem State.openFault_grp (s : State) (k : Nat) (f : FltIn) : (s.openFault k f).grp = s.grp := by
  simp only [State.openFault]; split_ifs <;> simp
@[simp] theorem State.openFault_lan (s : State) (k : Nat) (f : FltIn) : (s.openFault k f).lan = s.lan := by
  simp only [State.openFault]; split_ifs <;> simp
@[simp] theorem State.openFault_sec (s : State) (k : Nat) (f : FltIn) : (s.openFault k f).sec = s.sec := by
  simp only [State.openFault]; split_ifs <;> simp
@[simp] theorem State.openFault_bnd (s : State) (k : Nat) (f : FltIn) : (s.openFault k f).bnd = s.bnd := by
  simp only [State.openFault]; split_ifs <;> simp
@[simp] theorem State.openFault_xbr (s : State) (k : Nat) (f : FltIn) : (s.openFault k f).xbr = s.xbr := by
  simp only [State.openFault]; split_ifs <;> simp
@[simp] theorem State.openFault_brg (s : State) (k : Nat) (f : FltIn) : (s.openFault k f).brg = s.brg := by
  simp only [State.openFault]; split_ifs <;> simp
@[simp] theorem State.openFault_home (s : State) (k : Nat) (f : FltIn) : (s.openFault k f).home = s.home := by
  simp only [State.openFault]; split_ifs <;> simp
@[simp] theorem State.openFault_cnt (s : State) (k : Nat) (f : FltIn) : (s.openFault k f).cnt = s.cnt := by
  simp only [State.openFault]; split_ifs <;> simp
@[simp] theorem State.openFault_slt (s : State) (k : Nat) (f : FltIn) : (s.openFault k f).slt = s.slt := by
  simp only [State.openFault]; split_ifs <;> simp
@[simp] theorem State.openFault_oxb (s : State) (k : Nat) (f : FltIn) : (s.openFault k f).oxb = s.oxb := by
  simp only [State.openFault]; split_ifs <;> simp
@[simp] theorem State.openFault_rsv (s : State) (k : Nat) (f : FltIn) : (s.openFault k f).rsv = s.rsv := by
  simp only [State.openFault]; split_ifs <;> simp
@[simp] theorem State.openFault_due (s : State) (k : Nat) (f : FltIn) : (s.openFault k f).due = s.due := by
  simp only [State.openFault]; split_ifs <;> simp
@[simp] theorem State.openFault_fresh (s : State) (k : Nat) (f : FltIn) : (s.openFault k f).fresh = s.fresh := by
  simp only [State.openFault]; split_ifs <;> simp
@[simp] theorem State.openFault_pending (s : State) (k : Nat) (f : FltIn) : (s.openFault k f).pending = s.pending := by
  simp only [State.openFault]; split_ifs <;> simp
@[simp] theorem State.overflowFault_force (s : State) (f : FltIn) : (s.overflowFault f).force = s.force := by
  simp only [State.overflowFault]; repeat' split
  all_goals simp
@[simp] theorem State.overflowFault_dirty (s : State) (f : FltIn) : (s.overflowFault f).dirty = s.dirty := by
  simp only [State.overflowFault]; repeat' split
  all_goals simp
@[simp] theorem State.overflowFault_latch (s : State) (f : FltIn) : (s.overflowFault f).latch = s.latch := by
  simp only [State.overflowFault]; repeat' split
  all_goals simp
@[simp] theorem State.overflowFault_refused (s : State) (f : FltIn) : (s.overflowFault f).refused = s.refused := by
  simp only [State.overflowFault]; repeat' split
  all_goals simp
@[simp] theorem State.overflowFault_time (s : State) (f : FltIn) : (s.overflowFault f).time = s.time := by
  simp only [State.overflowFault]; repeat' split
  all_goals simp
@[simp] theorem State.overflowFault_mbx (s : State) (f : FltIn) : (s.overflowFault f).mbx = s.mbx := by
  simp only [State.overflowFault]; repeat' split
  all_goals simp
@[simp] theorem State.overflowFault_ident (s : State) (f : FltIn) : (s.overflowFault f).ident = s.ident := by
  simp only [State.overflowFault]; repeat' split
  all_goals simp
@[simp] theorem State.overflowFault_prt (s : State) (f : FltIn) : (s.overflowFault f).prt = s.prt := by
  simp only [State.overflowFault]; repeat' split
  all_goals simp
@[simp] theorem State.overflowFault_isl (s : State) (f : FltIn) : (s.overflowFault f).isl = s.isl := by
  simp only [State.overflowFault]; repeat' split
  all_goals simp
@[simp] theorem State.overflowFault_grp (s : State) (f : FltIn) : (s.overflowFault f).grp = s.grp := by
  simp only [State.overflowFault]; repeat' split
  all_goals simp
@[simp] theorem State.overflowFault_lan (s : State) (f : FltIn) : (s.overflowFault f).lan = s.lan := by
  simp only [State.overflowFault]; repeat' split
  all_goals simp
@[simp] theorem State.overflowFault_sec (s : State) (f : FltIn) : (s.overflowFault f).sec = s.sec := by
  simp only [State.overflowFault]; repeat' split
  all_goals simp
@[simp] theorem State.overflowFault_bnd (s : State) (f : FltIn) : (s.overflowFault f).bnd = s.bnd := by
  simp only [State.overflowFault]; repeat' split
  all_goals simp
@[simp] theorem State.overflowFault_xbr (s : State) (f : FltIn) : (s.overflowFault f).xbr = s.xbr := by
  simp only [State.overflowFault]; repeat' split
  all_goals simp
@[simp] theorem State.overflowFault_brg (s : State) (f : FltIn) : (s.overflowFault f).brg = s.brg := by
  simp only [State.overflowFault]; repeat' split
  all_goals simp
@[simp] theorem State.overflowFault_home (s : State) (f : FltIn) : (s.overflowFault f).home = s.home := by
  simp only [State.overflowFault]; repeat' split
  all_goals simp
@[simp] theorem State.overflowFault_cnt (s : State) (f : FltIn) : (s.overflowFault f).cnt = s.cnt := by
  simp only [State.overflowFault]; repeat' split
  all_goals simp
@[simp] theorem State.overflowFault_slt (s : State) (f : FltIn) : (s.overflowFault f).slt = s.slt := by
  simp only [State.overflowFault]; repeat' split
  all_goals simp
@[simp] theorem State.overflowFault_oxb (s : State) (f : FltIn) : (s.overflowFault f).oxb = s.oxb := by
  simp only [State.overflowFault]; repeat' split
  all_goals simp
@[simp] theorem State.overflowFault_rsv (s : State) (f : FltIn) : (s.overflowFault f).rsv = s.rsv := by
  simp only [State.overflowFault]; repeat' split
  all_goals simp
@[simp] theorem State.overflowFault_due (s : State) (f : FltIn) : (s.overflowFault f).due = s.due := by
  simp only [State.overflowFault]; repeat' split
  all_goals simp
@[simp] theorem State.overflowFault_fresh (s : State) (f : FltIn) : (s.overflowFault f).fresh = s.fresh := by
  simp only [State.overflowFault]; repeat' split
  all_goals simp
@[simp] theorem State.overflowFault_pending (s : State) (f : FltIn) : (s.overflowFault f).pending = s.pending := by
  simp only [State.overflowFault]; repeat' split
  all_goals simp
@[simp] theorem State.report_force (s : State) (f : FltIn) : (s.report f).force = s.force := by
  simp only [State.report]; repeat' split
  all_goals simp
@[simp] theorem State.report_dirty (s : State) (f : FltIn) : (s.report f).dirty = s.dirty := by
  simp only [State.report]; repeat' split
  all_goals simp
@[simp] theorem State.report_latch (s : State) (f : FltIn) : (s.report f).latch = s.latch := by
  simp only [State.report]; repeat' split
  all_goals simp
@[simp] theorem State.report_refused (s : State) (f : FltIn) : (s.report f).refused = s.refused := by
  simp only [State.report]; repeat' split
  all_goals simp
@[simp] theorem State.report_time (s : State) (f : FltIn) : (s.report f).time = s.time := by
  simp only [State.report]; repeat' split
  all_goals simp
@[simp] theorem State.report_mbx (s : State) (f : FltIn) : (s.report f).mbx = s.mbx := by
  simp only [State.report]; repeat' split
  all_goals simp
@[simp] theorem State.report_ident (s : State) (f : FltIn) : (s.report f).ident = s.ident := by
  simp only [State.report]; repeat' split
  all_goals simp
@[simp] theorem State.report_prt (s : State) (f : FltIn) : (s.report f).prt = s.prt := by
  simp only [State.report]; repeat' split
  all_goals simp
@[simp] theorem State.report_isl (s : State) (f : FltIn) : (s.report f).isl = s.isl := by
  simp only [State.report]; repeat' split
  all_goals simp
@[simp] theorem State.report_grp (s : State) (f : FltIn) : (s.report f).grp = s.grp := by
  simp only [State.report]; repeat' split
  all_goals simp
@[simp] theorem State.report_lan (s : State) (f : FltIn) : (s.report f).lan = s.lan := by
  simp only [State.report]; repeat' split
  all_goals simp
@[simp] theorem State.report_sec (s : State) (f : FltIn) : (s.report f).sec = s.sec := by
  simp only [State.report]; repeat' split
  all_goals simp
@[simp] theorem State.report_bnd (s : State) (f : FltIn) : (s.report f).bnd = s.bnd := by
  simp only [State.report]; repeat' split
  all_goals simp
@[simp] theorem State.report_xbr (s : State) (f : FltIn) : (s.report f).xbr = s.xbr := by
  simp only [State.report]; repeat' split
  all_goals simp
@[simp] theorem State.report_brg (s : State) (f : FltIn) : (s.report f).brg = s.brg := by
  simp only [State.report]; repeat' split
  all_goals simp
@[simp] theorem State.report_home (s : State) (f : FltIn) : (s.report f).home = s.home := by
  simp only [State.report]; repeat' split
  all_goals simp
@[simp] theorem State.report_cnt (s : State) (f : FltIn) : (s.report f).cnt = s.cnt := by
  simp only [State.report]; repeat' split
  all_goals simp
@[simp] theorem State.report_slt (s : State) (f : FltIn) : (s.report f).slt = s.slt := by
  simp only [State.report]; repeat' split
  all_goals simp
@[simp] theorem State.report_oxb (s : State) (f : FltIn) : (s.report f).oxb = s.oxb := by
  simp only [State.report]; repeat' split
  all_goals simp
@[simp] theorem State.report_rsv (s : State) (f : FltIn) : (s.report f).rsv = s.rsv := by
  simp only [State.report]; repeat' split
  all_goals simp
@[simp] theorem State.report_due (s : State) (f : FltIn) : (s.report f).due = s.due := by
  simp only [State.report]; repeat' split
  all_goals simp
@[simp] theorem State.report_fresh (s : State) (f : FltIn) : (s.report f).fresh = s.fresh := by
  simp only [State.report]; repeat' split
  all_goals simp
@[simp] theorem State.report_pending (s : State) (f : FltIn) : (s.report f).pending = s.pending := by
  simp only [State.report]; repeat' split
  all_goals simp

/-! ### Long commands and second replies (R311, R316) -/

@[simp] theorem State.lcStart_regs (s : State) (op : Nat) (r : Ref) (p : Principal) (t : Nat) : ((s.lcStart op r p t).2).regs = s.regs := by
  rfl
@[simp] theorem State.lcStart_force (s : State) (op : Nat) (r : Ref) (p : Principal) (t : Nat) : ((s.lcStart op r p t).2).force = s.force := by
  rfl
@[simp] theorem State.lcStart_dirty (s : State) (op : Nat) (r : Ref) (p : Principal) (t : Nat) : ((s.lcStart op r p t).2).dirty = s.dirty := by
  rfl
@[simp] theorem State.lcStart_latch (s : State) (op : Nat) (r : Ref) (p : Principal) (t : Nat) : ((s.lcStart op r p t).2).latch = s.latch := by
  rfl
@[simp] theorem State.lcStart_refused (s : State) (op : Nat) (r : Ref) (p : Principal) (t : Nat) : ((s.lcStart op r p t).2).refused = s.refused := by
  rfl
@[simp] theorem State.lcStart_time (s : State) (op : Nat) (r : Ref) (p : Principal) (t : Nat) : ((s.lcStart op r p t).2).time = s.time := by
  rfl
@[simp] theorem State.lcStart_flt (s : State) (op : Nat) (r : Ref) (p : Principal) (t : Nat) : ((s.lcStart op r p t).2).flt = s.flt := by
  rfl
@[simp] theorem State.lcStart_evt (s : State) (op : Nat) (r : Ref) (p : Principal) (t : Nat) : ((s.lcStart op r p t).2).evt = s.evt := by
  rfl
@[simp] theorem State.lcStart_ident (s : State) (op : Nat) (r : Ref) (p : Principal) (t : Nat) : ((s.lcStart op r p t).2).ident = s.ident := by
  rfl
@[simp] theorem State.lcStart_md (s : State) (op : Nat) (r : Ref) (p : Principal) (t : Nat) : ((s.lcStart op r p t).2).md = s.md := by
  rfl
@[simp] theorem State.lcStart_prt (s : State) (op : Nat) (r : Ref) (p : Principal) (t : Nat) : ((s.lcStart op r p t).2).prt = s.prt := by
  rfl
@[simp] theorem State.lcStart_isl (s : State) (op : Nat) (r : Ref) (p : Principal) (t : Nat) : ((s.lcStart op r p t).2).isl = s.isl := by
  rfl
@[simp] theorem State.lcStart_grp (s : State) (op : Nat) (r : Ref) (p : Principal) (t : Nat) : ((s.lcStart op r p t).2).grp = s.grp := by
  rfl
@[simp] theorem State.lcStart_lan (s : State) (op : Nat) (r : Ref) (p : Principal) (t : Nat) : ((s.lcStart op r p t).2).lan = s.lan := by
  rfl
@[simp] theorem State.lcStart_sec (s : State) (op : Nat) (r : Ref) (p : Principal) (t : Nat) : ((s.lcStart op r p t).2).sec = s.sec := by
  rfl
@[simp] theorem State.lcStart_bnd (s : State) (op : Nat) (r : Ref) (p : Principal) (t : Nat) : ((s.lcStart op r p t).2).bnd = s.bnd := by
  rfl
@[simp] theorem State.lcStart_xbr (s : State) (op : Nat) (r : Ref) (p : Principal) (t : Nat) : ((s.lcStart op r p t).2).xbr = s.xbr := by
  rfl
@[simp] theorem State.lcStart_brg (s : State) (op : Nat) (r : Ref) (p : Principal) (t : Nat) : ((s.lcStart op r p t).2).brg = s.brg := by
  rfl
@[simp] theorem State.lcStart_home (s : State) (op : Nat) (r : Ref) (p : Principal) (t : Nat) : ((s.lcStart op r p t).2).home = s.home := by
  rfl
@[simp] theorem State.lcStart_cnt (s : State) (op : Nat) (r : Ref) (p : Principal) (t : Nat) : ((s.lcStart op r p t).2).cnt = s.cnt := by
  rfl
@[simp] theorem State.lcStart_twl (s : State) (op : Nat) (r : Ref) (p : Principal) (t : Nat) : ((s.lcStart op r p t).2).twl = s.twl := by
  rfl
@[simp] theorem State.lcStart_slt (s : State) (op : Nat) (r : Ref) (p : Principal) (t : Nat) : ((s.lcStart op r p t).2).slt = s.slt := by
  rfl
@[simp] theorem State.lcStart_oxb (s : State) (op : Nat) (r : Ref) (p : Principal) (t : Nat) : ((s.lcStart op r p t).2).oxb = s.oxb := by
  rfl
@[simp] theorem State.lcStart_rsv (s : State) (op : Nat) (r : Ref) (p : Principal) (t : Nat) : ((s.lcStart op r p t).2).rsv = s.rsv := by
  rfl
@[simp] theorem State.lcStart_due (s : State) (op : Nat) (r : Ref) (p : Principal) (t : Nat) : ((s.lcStart op r p t).2).due = s.due := by
  rfl
@[simp] theorem State.lcStart_out (s : State) (op : Nat) (r : Ref) (p : Principal) (t : Nat) : ((s.lcStart op r p t).2).out = s.out := by
  rfl
@[simp] theorem State.lcStart_pending (s : State) (op : Nat) (r : Ref) (p : Principal) (t : Nat) : ((s.lcStart op r p t).2).pending = s.pending := by
  rfl
@[simp] theorem State.lcPast_regs (s : State) (h : Nat) : (s.lcPast h).regs = s.regs := by
  simp only [State.lcPast]; repeat' split
  all_goals rfl
@[simp] theorem State.lcPast_force (s : State) (h : Nat) : (s.lcPast h).force = s.force := by
  simp only [State.lcPast]; repeat' split
  all_goals rfl
@[simp] theorem State.lcPast_dirty (s : State) (h : Nat) : (s.lcPast h).dirty = s.dirty := by
  simp only [State.lcPast]; repeat' split
  all_goals rfl
@[simp] theorem State.lcPast_latch (s : State) (h : Nat) : (s.lcPast h).latch = s.latch := by
  simp only [State.lcPast]; repeat' split
  all_goals rfl
@[simp] theorem State.lcPast_refused (s : State) (h : Nat) : (s.lcPast h).refused = s.refused := by
  simp only [State.lcPast]; repeat' split
  all_goals rfl
@[simp] theorem State.lcPast_time (s : State) (h : Nat) : (s.lcPast h).time = s.time := by
  simp only [State.lcPast]; repeat' split
  all_goals rfl
@[simp] theorem State.lcPast_flt (s : State) (h : Nat) : (s.lcPast h).flt = s.flt := by
  simp only [State.lcPast]; repeat' split
  all_goals rfl
@[simp] theorem State.lcPast_evt (s : State) (h : Nat) : (s.lcPast h).evt = s.evt := by
  simp only [State.lcPast]; repeat' split
  all_goals rfl
@[simp] theorem State.lcPast_ident (s : State) (h : Nat) : (s.lcPast h).ident = s.ident := by
  simp only [State.lcPast]; repeat' split
  all_goals rfl
@[simp] theorem State.lcPast_md (s : State) (h : Nat) : (s.lcPast h).md = s.md := by
  simp only [State.lcPast]; repeat' split
  all_goals rfl
@[simp] theorem State.lcPast_prt (s : State) (h : Nat) : (s.lcPast h).prt = s.prt := by
  simp only [State.lcPast]; repeat' split
  all_goals rfl
@[simp] theorem State.lcPast_isl (s : State) (h : Nat) : (s.lcPast h).isl = s.isl := by
  simp only [State.lcPast]; repeat' split
  all_goals rfl
@[simp] theorem State.lcPast_grp (s : State) (h : Nat) : (s.lcPast h).grp = s.grp := by
  simp only [State.lcPast]; repeat' split
  all_goals rfl
@[simp] theorem State.lcPast_lan (s : State) (h : Nat) : (s.lcPast h).lan = s.lan := by
  simp only [State.lcPast]; repeat' split
  all_goals rfl
@[simp] theorem State.lcPast_sec (s : State) (h : Nat) : (s.lcPast h).sec = s.sec := by
  simp only [State.lcPast]; repeat' split
  all_goals rfl
@[simp] theorem State.lcPast_bnd (s : State) (h : Nat) : (s.lcPast h).bnd = s.bnd := by
  simp only [State.lcPast]; repeat' split
  all_goals rfl
@[simp] theorem State.lcPast_xbr (s : State) (h : Nat) : (s.lcPast h).xbr = s.xbr := by
  simp only [State.lcPast]; repeat' split
  all_goals rfl
@[simp] theorem State.lcPast_brg (s : State) (h : Nat) : (s.lcPast h).brg = s.brg := by
  simp only [State.lcPast]; repeat' split
  all_goals rfl
@[simp] theorem State.lcPast_home (s : State) (h : Nat) : (s.lcPast h).home = s.home := by
  simp only [State.lcPast]; repeat' split
  all_goals rfl
@[simp] theorem State.lcPast_cnt (s : State) (h : Nat) : (s.lcPast h).cnt = s.cnt := by
  simp only [State.lcPast]; repeat' split
  all_goals rfl
@[simp] theorem State.lcPast_twl (s : State) (h : Nat) : (s.lcPast h).twl = s.twl := by
  simp only [State.lcPast]; repeat' split
  all_goals rfl
@[simp] theorem State.lcPast_slt (s : State) (h : Nat) : (s.lcPast h).slt = s.slt := by
  simp only [State.lcPast]; repeat' split
  all_goals rfl
@[simp] theorem State.lcPast_oxb (s : State) (h : Nat) : (s.lcPast h).oxb = s.oxb := by
  simp only [State.lcPast]; repeat' split
  all_goals rfl
@[simp] theorem State.lcPast_rsv (s : State) (h : Nat) : (s.lcPast h).rsv = s.rsv := by
  simp only [State.lcPast]; repeat' split
  all_goals rfl
@[simp] theorem State.lcPast_due (s : State) (h : Nat) : (s.lcPast h).due = s.due := by
  simp only [State.lcPast]; repeat' split
  all_goals rfl
@[simp] theorem State.lcPast_out (s : State) (h : Nat) : (s.lcPast h).out = s.out := by
  simp only [State.lcPast]; repeat' split
  all_goals rfl
@[simp] theorem State.lcPast_fresh (s : State) (h : Nat) : (s.lcPast h).fresh = s.fresh := by
  simp only [State.lcPast]; repeat' split
  all_goals rfl
@[simp] theorem State.lcPast_pending (s : State) (h : Nat) : (s.lcPast h).pending = s.pending := by
  simp only [State.lcPast]; repeat' split
  all_goals rfl
@[simp] theorem State.lcEnd_force (s : State) (h : Nat) (c : Status) : (s.lcEnd h c).force = s.force := by
  simp only [State.lcEnd]; repeat' split
  all_goals simp
@[simp] theorem State.lcEnd_dirty (s : State) (h : Nat) (c : Status) : (s.lcEnd h c).dirty = s.dirty := by
  simp only [State.lcEnd]; repeat' split
  all_goals simp
@[simp] theorem State.lcEnd_latch (s : State) (h : Nat) (c : Status) : (s.lcEnd h c).latch = s.latch := by
  simp only [State.lcEnd]; repeat' split
  all_goals simp
@[simp] theorem State.lcEnd_refused (s : State) (h : Nat) (c : Status) : (s.lcEnd h c).refused = s.refused := by
  simp only [State.lcEnd]; repeat' split
  all_goals simp
@[simp] theorem State.lcEnd_time (s : State) (h : Nat) (c : Status) : (s.lcEnd h c).time = s.time := by
  simp only [State.lcEnd]; repeat' split
  all_goals simp
@[simp] theorem State.lcEnd_flt (s : State) (h : Nat) (c : Status) : (s.lcEnd h c).flt = s.flt := by
  simp only [State.lcEnd]; repeat' split
  all_goals simp
@[simp] theorem State.lcEnd_ident (s : State) (h : Nat) (c : Status) : (s.lcEnd h c).ident = s.ident := by
  simp only [State.lcEnd]; repeat' split
  all_goals simp
@[simp] theorem State.lcEnd_md (s : State) (h : Nat) (c : Status) : (s.lcEnd h c).md = s.md := by
  simp only [State.lcEnd]; repeat' split
  all_goals simp
@[simp] theorem State.lcEnd_prt (s : State) (h : Nat) (c : Status) : (s.lcEnd h c).prt = s.prt := by
  simp only [State.lcEnd]; repeat' split
  all_goals simp
@[simp] theorem State.lcEnd_isl (s : State) (h : Nat) (c : Status) : (s.lcEnd h c).isl = s.isl := by
  simp only [State.lcEnd]; repeat' split
  all_goals simp
@[simp] theorem State.lcEnd_grp (s : State) (h : Nat) (c : Status) : (s.lcEnd h c).grp = s.grp := by
  simp only [State.lcEnd]; repeat' split
  all_goals simp
@[simp] theorem State.lcEnd_lan (s : State) (h : Nat) (c : Status) : (s.lcEnd h c).lan = s.lan := by
  simp only [State.lcEnd]; repeat' split
  all_goals simp
@[simp] theorem State.lcEnd_sec (s : State) (h : Nat) (c : Status) : (s.lcEnd h c).sec = s.sec := by
  simp only [State.lcEnd]; repeat' split
  all_goals simp
@[simp] theorem State.lcEnd_bnd (s : State) (h : Nat) (c : Status) : (s.lcEnd h c).bnd = s.bnd := by
  simp only [State.lcEnd]; repeat' split
  all_goals simp
@[simp] theorem State.lcEnd_xbr (s : State) (h : Nat) (c : Status) : (s.lcEnd h c).xbr = s.xbr := by
  simp only [State.lcEnd]; repeat' split
  all_goals simp
@[simp] theorem State.lcEnd_brg (s : State) (h : Nat) (c : Status) : (s.lcEnd h c).brg = s.brg := by
  simp only [State.lcEnd]; repeat' split
  all_goals simp
@[simp] theorem State.lcEnd_home (s : State) (h : Nat) (c : Status) : (s.lcEnd h c).home = s.home := by
  simp only [State.lcEnd]; repeat' split
  all_goals simp
@[simp] theorem State.lcEnd_cnt (s : State) (h : Nat) (c : Status) : (s.lcEnd h c).cnt = s.cnt := by
  simp only [State.lcEnd]; repeat' split
  all_goals simp
@[simp] theorem State.lcEnd_twl (s : State) (h : Nat) (c : Status) : (s.lcEnd h c).twl = s.twl := by
  simp only [State.lcEnd]; repeat' split
  all_goals simp
@[simp] theorem State.lcEnd_slt (s : State) (h : Nat) (c : Status) : (s.lcEnd h c).slt = s.slt := by
  simp only [State.lcEnd]; repeat' split
  all_goals simp
@[simp] theorem State.lcEnd_oxb (s : State) (h : Nat) (c : Status) : (s.lcEnd h c).oxb = s.oxb := by
  simp only [State.lcEnd]; repeat' split
  all_goals simp
@[simp] theorem State.lcEnd_rsv (s : State) (h : Nat) (c : Status) : (s.lcEnd h c).rsv = s.rsv := by
  simp only [State.lcEnd]; repeat' split
  all_goals simp
@[simp] theorem State.lcEnd_due (s : State) (h : Nat) (c : Status) : (s.lcEnd h c).due = s.due := by
  simp only [State.lcEnd]; repeat' split
  all_goals simp
@[simp] theorem State.lcEnd_fresh (s : State) (h : Nat) (c : Status) : (s.lcEnd h c).fresh = s.fresh := by
  simp only [State.lcEnd]; repeat' split
  all_goals simp
@[simp] theorem State.lcEnd_pending (s : State) (h : Nat) (c : Status) : (s.lcEnd h c).pending = s.pending := by
  simp only [State.lcEnd]; repeat' split
  all_goals simp
@[simp] theorem State.lcEndOpt_force (s : State) (h : Option Nat) (c : Status) : (s.lcEndOpt h c).force = s.force := by
  simp only [State.lcEndOpt]; split <;> simp
@[simp] theorem State.lcEndOpt_dirty (s : State) (h : Option Nat) (c : Status) : (s.lcEndOpt h c).dirty = s.dirty := by
  simp only [State.lcEndOpt]; split <;> simp
@[simp] theorem State.lcEndOpt_latch (s : State) (h : Option Nat) (c : Status) : (s.lcEndOpt h c).latch = s.latch := by
  simp only [State.lcEndOpt]; split <;> simp
@[simp] theorem State.lcEndOpt_refused (s : State) (h : Option Nat) (c : Status) : (s.lcEndOpt h c).refused = s.refused := by
  simp only [State.lcEndOpt]; split <;> simp
@[simp] theorem State.lcEndOpt_time (s : State) (h : Option Nat) (c : Status) : (s.lcEndOpt h c).time = s.time := by
  simp only [State.lcEndOpt]; split <;> simp
@[simp] theorem State.lcEndOpt_flt (s : State) (h : Option Nat) (c : Status) : (s.lcEndOpt h c).flt = s.flt := by
  simp only [State.lcEndOpt]; split <;> simp
@[simp] theorem State.lcEndOpt_ident (s : State) (h : Option Nat) (c : Status) : (s.lcEndOpt h c).ident = s.ident := by
  simp only [State.lcEndOpt]; split <;> simp
@[simp] theorem State.lcEndOpt_md (s : State) (h : Option Nat) (c : Status) : (s.lcEndOpt h c).md = s.md := by
  simp only [State.lcEndOpt]; split <;> simp
@[simp] theorem State.lcEndOpt_prt (s : State) (h : Option Nat) (c : Status) : (s.lcEndOpt h c).prt = s.prt := by
  simp only [State.lcEndOpt]; split <;> simp
@[simp] theorem State.lcEndOpt_isl (s : State) (h : Option Nat) (c : Status) : (s.lcEndOpt h c).isl = s.isl := by
  simp only [State.lcEndOpt]; split <;> simp
@[simp] theorem State.lcEndOpt_grp (s : State) (h : Option Nat) (c : Status) : (s.lcEndOpt h c).grp = s.grp := by
  simp only [State.lcEndOpt]; split <;> simp
@[simp] theorem State.lcEndOpt_lan (s : State) (h : Option Nat) (c : Status) : (s.lcEndOpt h c).lan = s.lan := by
  simp only [State.lcEndOpt]; split <;> simp
@[simp] theorem State.lcEndOpt_sec (s : State) (h : Option Nat) (c : Status) : (s.lcEndOpt h c).sec = s.sec := by
  simp only [State.lcEndOpt]; split <;> simp
@[simp] theorem State.lcEndOpt_bnd (s : State) (h : Option Nat) (c : Status) : (s.lcEndOpt h c).bnd = s.bnd := by
  simp only [State.lcEndOpt]; split <;> simp
@[simp] theorem State.lcEndOpt_xbr (s : State) (h : Option Nat) (c : Status) : (s.lcEndOpt h c).xbr = s.xbr := by
  simp only [State.lcEndOpt]; split <;> simp
@[simp] theorem State.lcEndOpt_brg (s : State) (h : Option Nat) (c : Status) : (s.lcEndOpt h c).brg = s.brg := by
  simp only [State.lcEndOpt]; split <;> simp
@[simp] theorem State.lcEndOpt_home (s : State) (h : Option Nat) (c : Status) : (s.lcEndOpt h c).home = s.home := by
  simp only [State.lcEndOpt]; split <;> simp
@[simp] theorem State.lcEndOpt_cnt (s : State) (h : Option Nat) (c : Status) : (s.lcEndOpt h c).cnt = s.cnt := by
  simp only [State.lcEndOpt]; split <;> simp
@[simp] theorem State.lcEndOpt_twl (s : State) (h : Option Nat) (c : Status) : (s.lcEndOpt h c).twl = s.twl := by
  simp only [State.lcEndOpt]; split <;> simp
@[simp] theorem State.lcEndOpt_slt (s : State) (h : Option Nat) (c : Status) : (s.lcEndOpt h c).slt = s.slt := by
  simp only [State.lcEndOpt]; split <;> simp
@[simp] theorem State.lcEndOpt_oxb (s : State) (h : Option Nat) (c : Status) : (s.lcEndOpt h c).oxb = s.oxb := by
  simp only [State.lcEndOpt]; split <;> simp
@[simp] theorem State.lcEndOpt_rsv (s : State) (h : Option Nat) (c : Status) : (s.lcEndOpt h c).rsv = s.rsv := by
  simp only [State.lcEndOpt]; split <;> simp
@[simp] theorem State.lcEndOpt_due (s : State) (h : Option Nat) (c : Status) : (s.lcEndOpt h c).due = s.due := by
  simp only [State.lcEndOpt]; split <;> simp
@[simp] theorem State.lcEndOpt_fresh (s : State) (h : Option Nat) (c : Status) : (s.lcEndOpt h c).fresh = s.fresh := by
  simp only [State.lcEndOpt]; split <;> simp
@[simp] theorem State.lcEndOpt_pending (s : State) (h : Option Nat) (c : Status) : (s.lcEndOpt h c).pending = s.pending := by
  simp only [State.lcEndOpt]; split <;> simp
@[simp] theorem State.sendReply_regs (s : State) (k : Option Nat) (r : Ref) (p : Reply) : (s.sendReply k r p).regs = s.regs := by
  rfl
@[simp] theorem State.sendReply_force (s : State) (k : Option Nat) (r : Ref) (p : Reply) : (s.sendReply k r p).force = s.force := by
  rfl
@[simp] theorem State.sendReply_dirty (s : State) (k : Option Nat) (r : Ref) (p : Reply) : (s.sendReply k r p).dirty = s.dirty := by
  rfl
@[simp] theorem State.sendReply_latch (s : State) (k : Option Nat) (r : Ref) (p : Reply) : (s.sendReply k r p).latch = s.latch := by
  rfl
@[simp] theorem State.sendReply_refused (s : State) (k : Option Nat) (r : Ref) (p : Reply) : (s.sendReply k r p).refused = s.refused := by
  rfl
@[simp] theorem State.sendReply_time (s : State) (k : Option Nat) (r : Ref) (p : Reply) : (s.sendReply k r p).time = s.time := by
  rfl
@[simp] theorem State.sendReply_flt (s : State) (k : Option Nat) (r : Ref) (p : Reply) : (s.sendReply k r p).flt = s.flt := by
  rfl
@[simp] theorem State.sendReply_evt (s : State) (k : Option Nat) (r : Ref) (p : Reply) : (s.sendReply k r p).evt = s.evt := by
  rfl
@[simp] theorem State.sendReply_mbx (s : State) (k : Option Nat) (r : Ref) (p : Reply) : (s.sendReply k r p).mbx = s.mbx := by
  rfl
@[simp] theorem State.sendReply_ident (s : State) (k : Option Nat) (r : Ref) (p : Reply) : (s.sendReply k r p).ident = s.ident := by
  rfl
@[simp] theorem State.sendReply_md (s : State) (k : Option Nat) (r : Ref) (p : Reply) : (s.sendReply k r p).md = s.md := by
  rfl
@[simp] theorem State.sendReply_prt (s : State) (k : Option Nat) (r : Ref) (p : Reply) : (s.sendReply k r p).prt = s.prt := by
  rfl
@[simp] theorem State.sendReply_isl (s : State) (k : Option Nat) (r : Ref) (p : Reply) : (s.sendReply k r p).isl = s.isl := by
  rfl
@[simp] theorem State.sendReply_grp (s : State) (k : Option Nat) (r : Ref) (p : Reply) : (s.sendReply k r p).grp = s.grp := by
  rfl
@[simp] theorem State.sendReply_lan (s : State) (k : Option Nat) (r : Ref) (p : Reply) : (s.sendReply k r p).lan = s.lan := by
  rfl
@[simp] theorem State.sendReply_sec (s : State) (k : Option Nat) (r : Ref) (p : Reply) : (s.sendReply k r p).sec = s.sec := by
  rfl
@[simp] theorem State.sendReply_bnd (s : State) (k : Option Nat) (r : Ref) (p : Reply) : (s.sendReply k r p).bnd = s.bnd := by
  rfl
@[simp] theorem State.sendReply_xbr (s : State) (k : Option Nat) (r : Ref) (p : Reply) : (s.sendReply k r p).xbr = s.xbr := by
  rfl
@[simp] theorem State.sendReply_brg (s : State) (k : Option Nat) (r : Ref) (p : Reply) : (s.sendReply k r p).brg = s.brg := by
  rfl
@[simp] theorem State.sendReply_home (s : State) (k : Option Nat) (r : Ref) (p : Reply) : (s.sendReply k r p).home = s.home := by
  rfl
@[simp] theorem State.sendReply_cnt (s : State) (k : Option Nat) (r : Ref) (p : Reply) : (s.sendReply k r p).cnt = s.cnt := by
  rfl
@[simp] theorem State.sendReply_twl (s : State) (k : Option Nat) (r : Ref) (p : Reply) : (s.sendReply k r p).twl = s.twl := by
  rfl
@[simp] theorem State.sendReply_slt (s : State) (k : Option Nat) (r : Ref) (p : Reply) : (s.sendReply k r p).slt = s.slt := by
  rfl
@[simp] theorem State.sendReply_oxb (s : State) (k : Option Nat) (r : Ref) (p : Reply) : (s.sendReply k r p).oxb = s.oxb := by
  rfl
@[simp] theorem State.sendReply_rsv (s : State) (k : Option Nat) (r : Ref) (p : Reply) : (s.sendReply k r p).rsv = s.rsv := by
  rfl
@[simp] theorem State.sendReply_due (s : State) (k : Option Nat) (r : Ref) (p : Reply) : (s.sendReply k r p).due = s.due := by
  rfl
@[simp] theorem State.sendReply_fresh (s : State) (k : Option Nat) (r : Ref) (p : Reply) : (s.sendReply k r p).fresh = s.fresh := by
  rfl
@[simp] theorem State.sendReply_pending (s : State) (k : Option Nat) (r : Ref) (p : Reply) : (s.sendReply k r p).pending = s.pending := by
  rfl
@[simp] theorem State.answerAgain_regs (s : State) (r : Option Ref) (c : Status) : (s.answerAgain r c).regs = s.regs := by
  simp only [State.answerAgain]; split <;> simp
@[simp] theorem State.answerAgain_force (s : State) (r : Option Ref) (c : Status) : (s.answerAgain r c).force = s.force := by
  simp only [State.answerAgain]; split <;> simp
@[simp] theorem State.answerAgain_dirty (s : State) (r : Option Ref) (c : Status) : (s.answerAgain r c).dirty = s.dirty := by
  simp only [State.answerAgain]; split <;> simp
@[simp] theorem State.answerAgain_latch (s : State) (r : Option Ref) (c : Status) : (s.answerAgain r c).latch = s.latch := by
  simp only [State.answerAgain]; split <;> simp
@[simp] theorem State.answerAgain_refused (s : State) (r : Option Ref) (c : Status) : (s.answerAgain r c).refused = s.refused := by
  simp only [State.answerAgain]; split <;> simp
@[simp] theorem State.answerAgain_time (s : State) (r : Option Ref) (c : Status) : (s.answerAgain r c).time = s.time := by
  simp only [State.answerAgain]; split <;> simp
@[simp] theorem State.answerAgain_flt (s : State) (r : Option Ref) (c : Status) : (s.answerAgain r c).flt = s.flt := by
  simp only [State.answerAgain]; split <;> simp
@[simp] theorem State.answerAgain_evt (s : State) (r : Option Ref) (c : Status) : (s.answerAgain r c).evt = s.evt := by
  simp only [State.answerAgain]; split <;> simp
@[simp] theorem State.answerAgain_ident (s : State) (r : Option Ref) (c : Status) : (s.answerAgain r c).ident = s.ident := by
  simp only [State.answerAgain]; split <;> simp
@[simp] theorem State.answerAgain_md (s : State) (r : Option Ref) (c : Status) : (s.answerAgain r c).md = s.md := by
  simp only [State.answerAgain]; split <;> simp
@[simp] theorem State.answerAgain_prt (s : State) (r : Option Ref) (c : Status) : (s.answerAgain r c).prt = s.prt := by
  simp only [State.answerAgain]; split <;> simp
@[simp] theorem State.answerAgain_isl (s : State) (r : Option Ref) (c : Status) : (s.answerAgain r c).isl = s.isl := by
  simp only [State.answerAgain]; split <;> simp
@[simp] theorem State.answerAgain_grp (s : State) (r : Option Ref) (c : Status) : (s.answerAgain r c).grp = s.grp := by
  simp only [State.answerAgain]; split <;> simp
@[simp] theorem State.answerAgain_lan (s : State) (r : Option Ref) (c : Status) : (s.answerAgain r c).lan = s.lan := by
  simp only [State.answerAgain]; split <;> simp
@[simp] theorem State.answerAgain_sec (s : State) (r : Option Ref) (c : Status) : (s.answerAgain r c).sec = s.sec := by
  simp only [State.answerAgain]; split <;> simp
@[simp] theorem State.answerAgain_bnd (s : State) (r : Option Ref) (c : Status) : (s.answerAgain r c).bnd = s.bnd := by
  simp only [State.answerAgain]; split <;> simp
@[simp] theorem State.answerAgain_xbr (s : State) (r : Option Ref) (c : Status) : (s.answerAgain r c).xbr = s.xbr := by
  simp only [State.answerAgain]; split <;> simp
@[simp] theorem State.answerAgain_brg (s : State) (r : Option Ref) (c : Status) : (s.answerAgain r c).brg = s.brg := by
  simp only [State.answerAgain]; split <;> simp
@[simp] theorem State.answerAgain_home (s : State) (r : Option Ref) (c : Status) : (s.answerAgain r c).home = s.home := by
  simp only [State.answerAgain]; split <;> simp
@[simp] theorem State.answerAgain_cnt (s : State) (r : Option Ref) (c : Status) : (s.answerAgain r c).cnt = s.cnt := by
  simp only [State.answerAgain]; split <;> simp
@[simp] theorem State.answerAgain_twl (s : State) (r : Option Ref) (c : Status) : (s.answerAgain r c).twl = s.twl := by
  simp only [State.answerAgain]; split <;> simp
@[simp] theorem State.answerAgain_slt (s : State) (r : Option Ref) (c : Status) : (s.answerAgain r c).slt = s.slt := by
  simp only [State.answerAgain]; split <;> simp
@[simp] theorem State.answerAgain_oxb (s : State) (r : Option Ref) (c : Status) : (s.answerAgain r c).oxb = s.oxb := by
  simp only [State.answerAgain]; split <;> simp
@[simp] theorem State.answerAgain_rsv (s : State) (r : Option Ref) (c : Status) : (s.answerAgain r c).rsv = s.rsv := by
  simp only [State.answerAgain]; split <;> simp
@[simp] theorem State.answerAgain_due (s : State) (r : Option Ref) (c : Status) : (s.answerAgain r c).due = s.due := by
  simp only [State.answerAgain]; split <;> simp
@[simp] theorem State.answerAgain_fresh (s : State) (r : Option Ref) (c : Status) : (s.answerAgain r c).fresh = s.fresh := by
  simp only [State.answerAgain]; split <;> simp
@[simp] theorem State.answerAgain_pending (s : State) (r : Option Ref) (c : Status) : (s.answerAgain r c).pending = s.pending := by
  simp only [State.answerAgain]; split <;> simp

end Sys2Proof.Machine
end

