-- ==== Sys2Proof/Laws/Command.lean ====
section
/-! SUPPORT. What the admission of a Xiboni request does with one that is served, and what a served write through a BAR comes to. -/

set_option Elab.async false
namespace Sys2Proof.Machine
open Sys2Proof

theorem State.entered_opGate (s : State) (rq : Rq) (p : Principal) (op : Nat) : (s.entered rq).opGate p op = s.opGate p op := by
  unfold State.entered
  repeat' split
  all_goals rfl

/-- Entering a session changes the sessions alone. -/
theorem State.entered_eq (s : State) (rq : Rq) : s.entered rq = { s with mbx.sess := (s.entered rq).mbx.sess } := by
  unfold State.entered
  repeat' split
  all_goals rfl

/-- An admitted request meets the gate of mode, lifecycle and principal in the state its session has entered. -/
theorem xib_admits {s : State} {rq : Rq} {op : Nat} {p : Principal} (h : s.admits rq op p = true) (i : Instr) (body : Principal → State → Ans) :
    xib op rq i s body = match s.opGate p op with
      | some c => State.deliver ((s.entered rq).refuse c) rq op (s.answerKey rq)
      | none => State.deliver (body p (s.entered rq)) rq op (s.answerKey rq) := by
  simp only [State.admits, Bool.and_eq_true, beq_iff_eq, bne_iff_ne, decide_eq_true_eq] at h
  obtain ⟨⟨⟨⟨⟨h1, h2⟩, h3⟩, h4⟩, h5⟩, h7⟩ := h
  have h4' : ¬ 4096 < rq.plen := by omega
  unfold xib State.entered State.answerKey
  simp only [h1, h2, h3, h4', ne_eq, not_true_eq_false, if_false, Bool.not_true, Bool.false_eq_true]
  by_cases hs : rq.sess = 0
  · simp only [hs, if_true, Bool.and_eq_true, Bool.not_eq_true', beq_iff_eq] at h7 ⊢
    obtain ⟨ha, rfl⟩ := h7
    simp only [ha, State.runOp, Bool.false_eq_true, if_false] <;> rfl
  · simp only [hs, if_false] at h7 ⊢
    cases hx : s.sessionOf rq with
    | none => simp [hx] at h7
    | some x =>
      simp only [hx, Session.fits, Bool.and_eq_true, beq_iff_eq, bne_iff_ne] at h7
      obtain ⟨rfl, ⟨hf, hl⟩, hq⟩ := h7
      have hr : s.runSession rq op x body = match s.opGate x.prin op with
          | some c => State.deliver ((s.enter rq x).refuse c) rq op x.wireKey
          | none => State.deliver (body x.prin (s.enter rq x)) rq op x.wireKey := by
        unfold State.runSession
        simp only [hl, ← hq, ne_eq, not_true_eq_false, if_false]
        rfl
      by_cases hk : x.kind = .host
      · simp only [hk, if_true, Bool.not_eq_true'] at hf
        simp only [hk, hf, hr, if_true, Bool.false_eq_true, if_false, Option.bind_some]
      · simp only [hk, if_false, Bool.and_eq_true] at hf
        simp only [hk, hf.1, hf.2, hr, Bool.and_self, if_true, if_false, Option.bind_some]

theorem State.serves_admits {s : State} {rq : Rq} {op : Nat} {p : Principal} (h : s.serves rq op p = true) :
    s.admits rq op p = true ∧ s.opGate p op = none := by
  simpa [State.serves] using h

/-- A served request is carried out in the state its session has entered, and its answer is delivered. -/
theorem xib_serves {s : State} {rq : Rq} {op : Nat} {p : Principal} (h : s.serves rq op p = true) (i : Instr) (body : Principal → State → Ans) :
    xib op rq i s body = State.deliver (body p (s.entered rq)) rq op (s.answerKey rq) := by
  rw [xib_admits (State.serves_admits h).1, (State.serves_admits h).2]

/-- The answer of an admitted request: its state, with the reply sent and stored in the session (R306, R309). -/
theorem deliver_admits {s : State} {rq : Rq} {op : Nat} {p : Principal} (h : s.admits rq op p = true) (a : Ans) (hl : a.later = false) :
    State.deliver a rq op (s.answerKey rq) =
      { a.st with
        out := s.sentReply rq op { status := a.status, frame := a.frame, data := a.data } a.st.out,
        mbx.sess := mmod a.st.mbx.sess rq.sess (fun x => { x with stored := some { status := a.status, frame := a.frame, data := a.data } }) } := by
  simp only [State.admits, Bool.and_eq_true, bne_iff_ne] at h
  have h5 : rq.seq ≠ 0xFFFFFFFF := h.1.2
  simp [State.deliver, hl, h5, State.sendReply, State.sentReply]

/-- The next state of an admitted request that mode, lifecycle or principal turn away. -/
theorem done_gated {s : State} {rq : Rq} {op : Nat} {p : Principal} (h : s.admits rq op p = true) {c : Status} (hc : s.opGate p op = some c) (i : Instr)
    (body : Principal → State → Ans) :
    ∃ m, s.done (xib op rq i s body) = .next { s with
      out := s.sentReply rq op { status := c, frame := s.time.frame, data := [] } s.out, mbx.sess := m } := by
  rw [xib_admits h, hc, State.entered_eq]
  simp only [deliver_admits h (State.refuse _ c) rfl]
  exact ⟨_, rfl⟩

/-- The next state of a served request whose opcode's body answers `a` at once. -/
theorem done_serves {s : State} {rq : Rq} {op : Nat} {p : Principal} (h : s.serves rq op p = true) (i : Instr) (body : Principal → State → Ans)
    (a : Ans) (ha : body p { s with mbx.sess := (s.entered rq).mbx.sess } = a) (hl : a.later = false) :
    s.done (xib op rq i s body) = .next { s.keepClock a.st with
      out := s.sentReply rq op { status := a.status, frame := a.frame, data := a.data } a.st.out,
      mbx.sess := mmod a.st.mbx.sess rq.sess (fun x => { x with stored := some { status := a.status, frame := a.frame, data := a.data } }),
      pending := s.pending } := by
  rw [xib_serves h, State.entered_eq, ha, deliver_admits (State.serves_admits h).1 a hl]
  rfl

theorem regCheck_none {s : State} {x : RegAcc} {w : Bool} {a n : Nat} (h : (s.regCheck x w a n).1 = none) : s.regCheck x w a n = (none, s) := by
  have hg : ∀ (l : List (Nat × Nat × Nat)) (i : Nat) (k : GKind), (s.regGates i k l).1 = none → s.regGates i k l = (none, s) := by
    intro l i k
    induction l with
    | nil => intro _; rfl
    | cons e t ih =>
      obtain ⟨g, st, len⟩ := e
      unfold State.regGates State.gateCheck
      cases s.gateEval g i k st len with
      | allow => simpa using ih
      | refuse o => simp
      | locked o => simp
  unfold State.regCheck at h ⊢
  cases hr : s.runRefusal x w a n with
  | some c => simp [hr] at h
  | none =>
    simp only [hr] at h ⊢
    cases hq : s.regGates x.init (if w then GKind.write else GKind.read) (gateParts a n) with
    | mk o s1 =>
      cases o with
      | some c => simp [hq] at h
      | none =>
        have := hg (gateParts a n) x.init (if w then GKind.write else GKind.read) (by rw [hq])
        rw [hq] at this
        simpa using this

/-- A served write through a BAR writes the word. -/
theorem busWrite_takes {s : State} {b : Bus} {a : Nat} (h : s.takesWrite b a = true) (i : Instr) (w : Word) :
    s.busWrite i b a w = s.writeWord (s.busAcc b) a w := by
  simp only [State.takesWrite, Bool.and_eq_true, beq_iff_eq, Bool.not_eq_true'] at h
  obtain ⟨⟨⟨h1, h2⟩, h3⟩, h4⟩ := h
  unfold State.busWrite
  simp [h1, h2, h3, regCheck_none h4]

end Sys2Proof.Machine
end

