-- ==== Sys2Proof/Laws/Word.lean ====
section
/-! SUPPORT. Reading a bit range of a word after one has been written. -/

set_option Elab.async false
namespace Sys2Proof

theorem getBits_eq_extract (x : Word) (lsb w i : Nat) : (getBits x lsb w).testBit i = (decide (i < w) && x.getLsbD (lsb + i)) := by
  unfold getBits
  rw [Nat.testBit_mod_two_pow, Nat.testBit_div_two_pow, BitVec.getLsbD]
  congr 2; omega

theorem fieldMask_getLsbD (lsb w i : Nat) : (fieldMask lsb w).getLsbD i = (decide (i < 32) && decide (lsb ≤ i) && decide (i < lsb + w)) := by
  unfold fieldMask
  rw [BitVec.getLsbD_ofNat, Nat.testBit_mul_two_pow, Nat.testBit_two_pow_sub_one]
  by_cases h1 : i < 32 <;> by_cases h2 : lsb ≤ i <;> by_cases h3 : i < lsb + w <;> simp [h1, h2, h3] <;> omega

theorem setBits_getLsbD (x : Word) (lsb w v i : Nat) :
    (setBits x lsb w v).getLsbD i =
      (decide (i < 32) && if lsb ≤ i ∧ i < lsb + w then v.testBit (i - lsb) else x.getLsbD i) := by
  unfold setBits
  rw [BitVec.getLsbD_or, BitVec.getLsbD_and, BitVec.getLsbD_not, fieldMask_getLsbD, BitVec.getLsbD_ofNat, Nat.testBit_mul_two_pow,
    Nat.testBit_mod_two_pow]
  by_cases h1 : i < 32
  · by_cases h2 : lsb ≤ i
    · by_cases h3 : i < lsb + w
      · have : i - lsb < w := by omega
        simp [h1, h2, h3, this]
      · have : ¬ i - lsb < w := by omega
        simp [h1, h2, h3, this]
    · simp [h1, h2]
  · have : x.getLsbD i = false := BitVec.getLsbD_of_ge x i (by omega)
    simp [h1]

/-- A range that lies in the word reads back what was written to it. -/
theorem getBits_setBits_same (x : Word) (lsb w v : Nat) (h : lsb + w ≤ 32) : getBits (setBits x lsb w v) lsb w = v % 2 ^ w := by
  apply Nat.eq_of_testBit_eq
  intro i
  rw [getBits_eq_extract, setBits_getLsbD, Nat.testBit_mod_two_pow]
  by_cases h1 : i < w
  · have h2 : lsb + i < 32 := by omega
    have h4 : lsb + i - lsb = i := by omega
    simp [h1, h2]
  · simp [h1]

/-- A range disjoint from the one written keeps its bits. -/
theorem getBits_setBits_ne (x : Word) (l w v l' w' : Nat) (h : l' + w' ≤ l ∨ l + w ≤ l') :
    getBits (setBits x l w v) l' w' = getBits x l' w' := by
  apply Nat.eq_of_testBit_eq
  intro i
  rw [getBits_eq_extract, getBits_eq_extract, setBits_getLsbD]
  by_cases h1 : i < w'
  · have h2 : ¬ (l ≤ l' + i ∧ l' + i < l + w) := by omega
    simp only [h1, h2, if_false, decide_true, Bool.true_and]
    by_cases h3 : l' + i < 32
    · simp [h3]
    · simp [h3, BitVec.getLsbD_of_ge x (l' + i) (by omega)]
  · simp [h1]

theorem getBits_lt (x : Word) (l w : Nat) : getBits x l w < 2 ^ w := Nat.mod_lt _ (Nat.two_pow_pos w)

end Sys2Proof
end

