-- ==== Sys2Proof/Laws/Fields.lean ====
section
/-! SUPPORT. Reading a field of a register after another has been written, and after an event has been raised. -/

set_option Elab.async false
namespace Sys2Proof.Machine
open Sys2Proof

theorem rget_rput (m : RegFile) (a b r : Nat) (w : Word) : rget (rput m a r w) b r = if a = b then w else rget m b r := mgetD_mputD m a b _ w

theorem rget_rput_ne (m : RegFile) {a b : Nat} (r q : Nat) (w : Word) (h : a ≠ b) : rget (rput m a r w) b q = rget m b q := by
  unfold rget rput mputD mgetD
  split
  · rw [mget_mdel_ne m h]
  · rw [mget_mput_ne m w h]

/-! ### One field -/

theorem State.fld_setFld_same (s : State) (f : Fld) (v : Nat) (h : f.lsb + f.width ≤ 32) : (s.setFld f v).fld f = v % 2 ^ f.width := by
  unfold State.fld State.setFld
  simp only [rget_rput, if_true]
  exact getBits_setBits_same _ _ _ _ h

theorem State.fld_setFld_addr (s : State) (f g : Fld) (v : Nat) (h : f.addr ≠ g.addr) : (s.setFld f v).fld g = s.fld g := by
  unfold State.fld State.setFld
  simp only [rget_rput_ne _ _ _ _ h]

theorem State.fld_setFld_bits (s : State) (f g : Fld) (v : Nat) (h : f.addr = g.addr) (hr : f.rst = g.rst)
    (hd : g.lsb + g.width ≤ f.lsb ∨ f.lsb + f.width ≤ g.lsb) : (s.setFld f v).fld g = s.fld g := by
  unfold State.fld State.setFld
  simp only [h, hr, rget_rput, if_true]
  exact getBits_setBits_ne _ _ _ _ _ _ hd

theorem State.bit_setBit_same (s : State) (f : Fld) (v : Bool) (h : f.lsb + f.width ≤ 32) (hw : f.width = 1) : (s.setBit f v).bit f = v := by
  unfold State.bit State.setBit
  rw [State.fld_setFld_same _ _ _ h, hw]
  cases v <;> rfl

theorem State.bit_setBit_addr (s : State) (f g : Fld) (v : Bool) (h : f.addr ≠ g.addr) : (s.setBit f v).bit g = s.bit g := by
  unfold State.bit State.setBit
  rw [State.fld_setFld_addr _ _ _ _ h]

theorem State.bit_setFld_addr (s : State) (f g : Fld) (v : Nat) (h : f.addr ≠ g.addr) : (s.setFld f v).bit g = s.bit g := by
  unfold State.bit
  rw [State.fld_setFld_addr _ _ _ _ h]

theorem State.fld_setBit_addr (s : State) (f g : Fld) (v : Bool) (h : f.addr ≠ g.addr) : (s.setBit f v).fld g = s.fld g :=
  State.fld_setFld_addr _ _ _ _ h

theorem State.fld_lt (s : State) (f : Fld) : s.fld f < 2 ^ f.width := getBits_lt _ _ _

/-- A saturating counter rises by one, or stays at its greatest value. -/
theorem State.fld_inc_same (s : State) (f : Fld) (h : f.lsb + f.width ≤ 32) : (s.inc f).fld f = min (s.fld f + 1) (2 ^ f.width - 1) := by
  unfold State.inc State.addSat
  rw [State.fld_setFld_same _ _ _ h]
  have := Nat.two_pow_pos f.width
  exact Nat.mod_eq_of_lt (by omega)

theorem State.fld_inc_addr (s : State) (f g : Fld) (h : f.addr ≠ g.addr) : (s.inc f).fld g = s.fld g := State.fld_setFld_addr _ _ _ _ h

theorem State.bit_inc_addr (s : State) (f g : Fld) (h : f.addr ≠ g.addr) : (s.inc f).bit g = s.bit g := State.bit_setFld_addr _ _ _ _ h

/-- Equal register files read alike. -/
theorem State.fld_congr {s t : State} (h : s.regs = t.regs) (f : Fld) : s.fld f = t.fld f := by unfold State.fld; rw [h]

theorem State.bit_congr {s t : State} (h : s.regs = t.regs) (f : Fld) : s.bit f = t.bit f := by unfold State.bit; rw [State.fld_congr h]

theorem State.word_congr {s t : State} (h : s.regs = t.regs) (a : Nat) : s.word a = t.word a := by unfold State.word; rw [h]

/-! ### After an event -/

/-- The pending bits lie in the event controller's block. -/
theorem pendFld_addr (t code : Nat) (ht : t ≤ 131) (hc : code < 64 ∨ (512 ≤ code ∧ code < 1024)) :
    0x20000 ≤ (pendFld t code).addr ∧ (pendFld t code).addr < 0x30000 := by
  unfold pendFld
  split_ifs
  · simp only [EVT_T_PEND_LO_PEND, EVT_T_PEND_LO]; omega
  · simp only [EVT_T_PEND_HI_PEND, EVT_T_PEND_HI]; omega
  · simp only [EVT_SH_PEND_PEND, EVT_SH_PEND]; omega

/-- Signalling a source writes no register but the drop counts of a port (R73). -/
theorem State.rget_signal (s : State) (t code a r : Nat) (ha : a < 0x1000000) : rget (s.signal t code).regs a r = rget s.regs a r := by
  have hd : ∀ t, rget (s.msiDropped t).regs a r = rget s.regs a r := by
    intro t
    unfold State.msiDropped
    split_ifs
    · refine (rget_rput_ne _ _ _ _ ?_).trans (rget_rput_ne _ _ _ _ ?_)
      · simp only [PRT_MF_STAT_DROP_SEEN, PRT_MF_STAT]; omega
      · simp only [PRT_MF_DROP_MSI_DROP, PRT_MF_DROP]; omega
    · rfl
  simp only [State.signal]
  repeat' split
  all_goals first | exact hd t | rfl | simp

theorem State.rget_raiseAt (s : State) (t code a r : Nat) (ht : t ≤ 131 ∨ 512 ≤ code) (hc : code < 64 ∨ (512 ≤ code ∧ code < 1024))
    (ha : a < 0x20000 ∨ (0x30000 ≤ a ∧ a < 0x1000000)) : rget (s.raiseAt t code).regs a r = rget s.regs a r := by
  have hp : (pendFld t code).addr ≠ a := by
    rcases ht with ht | ht
    · have := pendFld_addr t code ht hc; omega
    · have h := pendFld_addr 0 code (by omega) hc
      have e : (pendFld t code).addr = (pendFld 0 code).addr := by unfold pendFld; rw [if_neg (by omega), if_neg (by omega), if_neg (by omega), if_neg (by omega)]
      omega
  have hb : rget (s.setBit (pendFld t code) true).regs a r = rget s.regs a r := rget_rput_ne _ _ _ _ hp
  simp only [State.raiseAt]
  split_ifs
  · rw [State.rget_signal _ _ _ _ _ (by omega)]; exact hb
  · exact hb

/-- A raised source leaves every field outside the event controller and the port blocks alone. -/
theorem State.fld_raiseShared (s : State) (n : Nat) (f : Fld) (hn : n < 512) (hf : f.addr < 0x20000 ∨ (0x30000 ≤ f.addr ∧ f.addr < 0x1000000)) :
    (s.raiseShared n).fld f = s.fld f := by
  unfold State.fld State.raiseShared sharedCode
  rw [State.rget_raiseAt _ _ _ _ _ (by omega) (by omega) hf]

theorem State.bit_raiseShared (s : State) (n : Nat) (f : Fld) (hn : n < 512) (hf : f.addr < 0x20000 ∨ (0x30000 ≤ f.addr ∧ f.addr < 0x1000000)) :
    (s.raiseShared n).bit f = s.bit f := by
  unfold State.bit
  rw [State.fld_raiseShared _ _ _ hn hf]

theorem State.targetExists_le (s : State) (t : Nat) (h : s.targetExists t = true) : t ≤ 131 := by
  unfold State.targetExists at h
  split at h
  · omega
  · simpa using h

theorem State.fld_raisePrivate (s : State) (t n : Nat) (f : Fld) (hn : n < 64) (hf : f.addr < 0x20000 ∨ (0x30000 ≤ f.addr ∧ f.addr < 0x1000000)) :
    (s.raisePrivate t n).fld f = s.fld f := by
  unfold State.raisePrivate
  split
  · next h =>
    have := State.targetExists_le s t h
    unfold State.fld
    rw [State.rget_raiseAt _ _ _ _ _ (by omega) (by omega) hf]
  · rfl

theorem State.fld_raiseAll (s : State) (l : List Nat) (n : Nat) (f : Fld) (hn : n < 64) (hf : f.addr < 0x20000 ∨ (0x30000 ≤ f.addr ∧ f.addr < 0x1000000)) :
    (s.raiseAll l n).fld f = s.fld f := by
  unfold State.raiseAll
  induction l generalizing s with
  | nil => rfl
  | cons a t ih => simp only [List.foldl_cons, ih, State.fld_raisePrivate _ _ _ _ hn hf]

theorem State.bit_raiseAll (s : State) (l : List Nat) (n : Nat) (f : Fld) (hn : n < 64) (hf : f.addr < 0x20000 ∨ (0x30000 ≤ f.addr ∧ f.addr < 0x1000000)) :
    (s.raiseAll l n).bit f = s.bit f := by
  unfold State.bit
  rw [State.fld_raiseAll _ _ _ _ hn hf]

/-- Whether a pending bit is of the width of a bit within its word. -/
theorem pendFld_bit (t code : Nat) : (pendFld t code).width = 1 ∧ (pendFld t code).lsb + (pendFld t code).width ≤ 32 := by
  unfold pendFld
  split_ifs <;> simp <;> omega

theorem pendFld_low (t code : Nat) (ht : t ≤ 131 ∨ 512 ≤ code) (hc : code < 64 ∨ (512 ≤ code ∧ code < 1024)) : (pendFld t code).addr < 0x1000000 := by
  rcases ht with ht | ht
  · have := pendFld_addr t code ht hc; omega
  · have h := pendFld_addr 0 code (by omega) hc
    have e : (pendFld t code).addr = (pendFld 0 code).addr := by unfold pendFld; rw [if_neg (by omega), if_neg (by omega), if_neg (by omega), if_neg (by omega)]
    omega

/-- A raised source is pending (R388). -/
theorem State.bit_raiseAt (s : State) (t code : Nat) (ht : t ≤ 131 ∨ 512 ≤ code) (hc : code < 64 ∨ (512 ≤ code ∧ code < 1024)) : (s.raiseAt t code).bit (pendFld t code) = true := by
  obtain ⟨hw, hl⟩ := pendFld_bit t code
  have hb := State.bit_setBit_same s (pendFld t code) true hl hw
  simp only [State.raiseAt]
  split_ifs
  · unfold State.bit State.fld at hb ⊢
    rw [State.rget_signal _ _ _ _ _ (pendFld_low t code ht hc)]; exact hb
  · exact hb

/-- A raised shared source is pending (R388). -/
theorem State.bit_raiseShared_pend (s : State) (n t : Nat) (hn : n < 512) : (s.raiseShared n).bit (pendFld t (sharedCode n)) = true := by
  have h := State.bit_raiseAt s (s.routeTarget n) (sharedCode n) (by unfold sharedCode; omega) (by unfold sharedCode; omega)
  have e : pendFld (s.routeTarget n) (sharedCode n) = pendFld t (sharedCode n) := by
    unfold pendFld sharedCode
    rw [if_neg (by omega), if_neg (by omega), if_neg (by omega), if_neg (by omega)]
  rw [e] at h
  exact h

theorem State.bit_raisePrivate_pend (s : State) (t n : Nat) (hn : n < 64) (h : s.targetExists t = true) : (s.raisePrivate t n).bit (pendFld t n) = true := by
  unfold State.raisePrivate
  rw [if_pos h]
  exact State.bit_raiseAt s t n (Or.inl (State.targetExists_le s t h)) (Or.inl hn)

end Sys2Proof.Machine
end

