-- ==== Sys2Proof/Laws/Memory.lean ====
section
/-! SUPPORT. The laws of the Reservoir's addressed partitions: a read after a write, and the canonical form every operation keeps. -/

set_option Elab.async false
namespace Sys2Proof.Machine

theorem Memory.read_write (m : Memory) (a j : Nat) (b : BitVec 8) : (m.write a b).read j = if a = j then b else m.read j :=
  mgetD_mputD m a j Memory.blank b

@[simp] theorem Memory.read_write_same (m : Memory) (a : Nat) (b : BitVec 8) : (m.write a b).read a = b := by
  simp [Memory.read_write]

theorem Memory.read_write_ne (m : Memory) {a j : Nat} (b : BitVec 8) (h : a ≠ j) : (m.write a b).read j = m.read j := by
  simp [Memory.read_write, h]

/-- Writing a byte keeps the canonical form. -/
theorem Memory.wf_write (m : Memory) (a : Nat) (b : BitVec 8) (h : m.wf = true) : (m.write a b).wf = true := by
  simp only [Memory.wf, Bool.and_eq_true, List.all_eq_true] at h ⊢
  unfold Memory.write mputD
  split
  · exact ⟨msorted_mdel _ _ h.1, fun c hc => h.2 c (mdel_mem _ _ _ hc)⟩
  · next hb =>
    refine ⟨msorted_mput _ _ _ h.1, fun c hc => ?_⟩
    rcases mput_mem _ _ _ _ hc with rfl | hc
    · simpa using hb
    · exact h.2 c hc

/-- Writing a run of bytes keeps the canonical form. -/
theorem Memory.wf_writeAll (m : Memory) (a : Nat) (l : List (BitVec 8)) (h : m.wf = true) : (m.writeAll a l).wf = true := by
  induction l generalizing m a with
  | nil => exact h
  | cons b t ih => exact ih _ _ (Memory.wf_write m a b h)

/-- A run of bytes leaves every key outside it alone. -/
theorem Memory.read_writeAll_out (m : Memory) (a j : Nat) (l : List (BitVec 8)) (h : j < a ∨ a + l.length ≤ j) :
    (m.writeAll a l).read j = m.read j := by
  induction l generalizing m a with
  | nil => rfl
  | cons b t ih =>
    simp only [List.length_cons] at h
    unfold Memory.writeAll
    rw [ih _ _ (by omega), Memory.read_write_ne _ _ (by omega)]

/-- A key within a run of bytes reads the byte written to it. -/
theorem Memory.read_writeAll_in (m : Memory) (a i : Nat) (l : List (BitVec 8)) (h : i < l.length) :
    (m.writeAll a l).read (a + i) = l[i] := by
  induction l generalizing m a i with
  | nil => simp at h
  | cons b t ih =>
    unfold Memory.writeAll
    cases i with
    | zero => rw [Memory.read_writeAll_out _ _ _ _ (by omega)]; simp
    | succ n =>
      have := ih (m.write a b) (a + 1) n (by simpa using h)
      rw [show a + (n + 1) = a + 1 + n by omega, this]; rfl

/-- The Reservoir after reset has the canonical form. -/
theorem Memory.wf_reset : Memory.wf State.reset.rsv = true := rfl

end Sys2Proof.Machine
end

