-- ==== Sys2Proof/Laws/RegBus.lean ====
section
/-! SUPPORT. What a write of a register without staged fields does: it stores plain fields, clears RW1C bits, and runs the register's action. -/

set_option Elab.async false
namespace Sys2Proof.Machine
open Sys2Proof

/-- The bits of a register's fields that a principal may write now and that a test picks (R7, R8). -/
def State.mineMask (s : State) (d : RegDef) (i : Nat) (p : Principal) (t : FieldDef → Bool) : Word :=
  d.maskOf (fun f => fieldFor d.reg i p f && ! (f.lk && s.lkLocked) && t f)

theorem writeWord_acts {s : State} {x : RegAcc} {a : Nat} {w : Word} {d : RegDef} {ix : List Nat} (hl : lookupReg a = some (d, ix))
    (hw : ∀ v, s.wholeWrite d.reg (ix.getD 0 0) v = none)
    (hr : s.writeRefused d.reg (ix.getD 0 0) (s.word a) (mix (s.mineMask d (ix.getD 0 0) x.prin (fun f => f.acc == .rw && ! f.sh)) (s.word a) w) = false)
    (h1 : d.reg ≠ .EVT_T_CTL) (h2 : State.writeWord.isPendReg d.reg = false) (hs : ∀ f ∈ d.fields, f.sh = false) :
    ∃ r, s.writeWord x a w = State.afterWrite { s with regs := r, latch := mdel s.latch a } x.prin d.reg (ix.getD 0 0) (s.word a)
        (s.mineMask d (ix.getD 0 0) x.prin (fun f => f.acc == .w1s || f.acc == .w1c) &&& w) ∧
      (∀ b q, b ≠ a → rget r b q = rget s.regs b q) ∧
      rget r a (resetWord a) =
        mix (s.mineMask d (ix.getD 0 0) x.prin (fun f => f.acc == .rw && ! f.sh)) (s.word a)
          (s.allowed d.reg (ix.getD 0 0) (s.word a) (mix (s.mineMask d (ix.getD 0 0) x.prin (fun f => f.acc == .rw && ! f.sh)) (s.word a) w)) &&&
          ~~~ (s.mineMask d (ix.getD 0 0) x.prin (fun f => f.acc == .w1c) &&& w) := by
  have hm : ∀ t : FieldDef → Bool, (d.maskOf fun f => fieldFor d.reg (ix.getD 0 0) x.prin f && ! (f.lk && s.lkLocked) && t f) = s.mineMask d (ix.getD 0 0) x.prin t :=
    fun _ => rfl
  have h0 : (d.maskOf fun f => fieldFor d.reg (ix.getD 0 0) x.prin f && ! (f.lk && s.lkLocked) && f.acc == .rw && f.sh) = 0 := by
    unfold RegDef.maskOf
    have : ∀ (l : List FieldDef) (m : Word), (∀ f ∈ l, f.sh = false) → l.foldl (fun m f =>
        if (fieldFor d.reg (ix.getD 0 0) x.prin f && ! (f.lk && s.lkLocked) && f.acc == .rw && f.sh) = true then m ||| fieldMask f.lsb f.width else m) m = m := by
      intro l
      induction l with
      | nil => intro m _; rfl
      | cons f t ih =>
        intro m h
        simp only [List.foldl_cons, h f (by simp), Bool.and_false, Bool.false_eq_true, if_false]
        exact ih m (fun g hg => h g (by simp [hg]))
    exact this d.fields 0 hs
  refine ⟨rput s.regs a (resetWord a) (mix (s.mineMask d (ix.getD 0 0) x.prin (fun f => f.acc == .rw && ! f.sh)) (s.word a)
          (s.allowed d.reg (ix.getD 0 0) (s.word a) (mix (s.mineMask d (ix.getD 0 0) x.prin (fun f => f.acc == .rw && ! f.sh)) (s.word a) w)) &&&
          ~~~ (s.mineMask d (ix.getD 0 0) x.prin (fun f => f.acc == .w1c) &&& w)), ?_, ?_, ?_⟩
  · have hp : ∀ f : FieldDef, (fieldFor d.reg (ix.getD 0 0) x.prin f && ! (f.lk && s.lkLocked) && f.acc == .rw && ! f.sh) =
        (fieldFor d.reg (ix.getD 0 0) x.prin f && ! (f.lk && s.lkLocked) && (f.acc == .rw && ! f.sh)) := fun f => by simp [Bool.and_assoc]
    unfold State.writeWord
    simp only [hl, hw, hp, hm, hr, h0, State.stagePart, if_true, h1, if_false, h2, Bool.false_eq_true]
    rfl
  · intro b q hb
    exact rget_rput_ne _ _ _ _ (Ne.symm hb)
  · rw [rget_rput, if_pos rfl]

end Sys2Proof.Machine
end

