-- ==== Sys2Proof/Laws/RegMap.lean ====
section
/-! SUPPORT. The registers at the addresses that commands of their own write or read. -/
namespace Sys2Proof.Machine

theorem blockRegs_BND (i o : Nat) (h : i < 4096) (ho : o < 0x100) : blockRegs (0x2000000 + o + i * 0x100) = regsBND := by
  unfold blockRegs
  repeat rw [if_neg (by omega)]
  rw [if_pos (by omega)]

/-- The indices after the first that an offset within a binding's registers gives a register of the BND block. -/
def bndTail (d : RegDef) (o : Nat) : Option (List Nat) :=
  if 0x2000000 + o < d.base then none else indexIn d.dims.tail (0x2000000 + o - d.base)

theorem indexOf_BND (d : RegDef) (i o : Nat) (h : i < 4096) (ho : o < 0x100) (h1 : 0x2000000 ≤ d.base) (h2 : d.base < 0x2000100)
    (hd : d.dims.head? = some (4096, 0x100)) (hf : d.first = 0)
    (hn : 0x2000000 + o < d.base → indexIn d.dims.tail (0x2000100 + o - d.base) = none) :
    d.indexOf (0x2000000 + o + i * 0x100) = (bndTail d o).map (fun l => i :: l) := by
  obtain ⟨rest, hr⟩ : ∃ rest, d.dims = (4096, 0x100) :: rest := by
    cases hx : d.dims with
    | nil => simp [hx] at hd
    | cons e t => simp [hx] at hd; exact ⟨t, by rw [hd]⟩
  unfold RegDef.indexOf bndTail
  rw [hr, hf]
  rw [hr] at hn
  simp only [List.tail_cons] at hn ⊢
  by_cases he : 0x2000000 + o < d.base
  · rw [if_pos he]
    split_ifs with h3
    · rfl
    · have e1 : (0x2000000 + o + i * 0x100 - d.base) % 0x100 = 0x2000100 + o - d.base := by omega
      simp only [indexIn, e1, hn he]
      split_ifs <;> rfl
  · rw [if_neg he, if_neg (by omega)]
    have e1 : (0x2000000 + o + i * 0x100 - d.base) % 0x100 = 0x2000000 + o - d.base := by omega
    have e2 : (0x2000000 + o + i * 0x100 - d.base) / 0x100 = i := by omega
    simp only [indexIn, e1, e2, h, if_true]
    cases indexIn rest (0x2000000 + o - d.base) <;> rfl

theorem findReg_BND (l : List RegDef) (i o : Nat) (h : i < 4096) (ho : o < 0x100)
    (hl : ∀ d ∈ l, 0x2000000 ≤ d.base ∧ d.base < 0x2000100 ∧ d.dims.head? = some (4096, 0x100) ∧ d.first = 0 ∧
      (0x2000000 + o < d.base → indexIn d.dims.tail (0x2000100 + o - d.base) = none)) :
    findReg l (0x2000000 + o + i * 0x100) = l.findSome? (fun d => (bndTail d o).map (fun r => (d, i :: r))) := by
  induction l with
  | nil => rfl
  | cons d t ih =>
    obtain ⟨h1, h2, h3, h4, h5⟩ := hl d (by simp)
    unfold findReg
    rw [indexOf_BND d i o h ho h1 h2 h3 h4 h5, ih (fun e he => hl e (by simp [he]))]
    cases hb : bndTail d o <;> simp [hb]


theorem lookupReg_FRM_LEN : lookupReg FRM_LEN = some (
    ⟨.FRM_LEN, 0x10008, [], 0,
      [⟨0, 2, .ro, false, false, false, 35⟩, ⟨4, 2, .rw, false, false, false, 3⟩, ⟨8, 1, .w1s, false, false, false, 3⟩, ⟨9, 1, .ro, false, false, false, 35⟩],
      0x11, [], 0⟩, []) := by decide +kernel

theorem lookupReg_FRM_SYNC_CTL : lookupReg FRM_SYNC_CTL = some (
    ⟨.FRM_SYNC_CTL, 0x10020, [], 0,
      [⟨0, 2, .rw, false, false, false, 3⟩, ⟨2, 1, .rw, false, false, false, 3⟩, ⟨3, 4, .rw, false, false, false, 3⟩, ⟨8, 8, .rw, false, false, false, 3⟩, ⟨16, 1, .w1s, false, false, false, 3⟩],
      0x0, [], 0⟩, []) := by decide +kernel

theorem lookupReg_PRT_LINK_CTL : ∀ i < 128, lookupReg (PRT_LINK_CTL i) = some (
    ⟨.PRT_LINK_CTL, 0x1000008, [(128, 0x10000)], 0,
      [⟨0, 4, .rw, false, false, false, 3⟩, ⟨4, 1, .rw, false, false, false, 3⟩, ⟨8, 1, .w1s, false, false, false, 3⟩, ⟨9, 1, .rw, false, false, false, 3⟩],
      0x6, [], 0⟩, [i]) := by decide +kernel

theorem lookupReg_LAN_CTL : ∀ i < 512, lookupReg (LAN_CTL i) = some (
    ⟨.LAN_CTL, 0x1800000, [(512, 0x1000)], 0,
      [⟨0, 4, .rw, false, false, false, 3⟩, ⟨4, 4, .rw, false, false, false, 3⟩, ⟨8, 8, .rw, false, false, false, 3⟩, ⟨16, 1, .rw, false, false, false, 3⟩, ⟨17, 1, .rw, false, false, false, 3⟩],
      0x21e5f, [], 0⟩, [i]) := by decide +kernel

theorem lookupReg_LAN_PAT_CTL : ∀ i < 512, lookupReg (LAN_PAT_CTL i) = some (
    ⟨.LAN_PAT_CTL, 0x1800010, [(512, 0x1000)], 0,
      [⟨0, 3, .rw, false, false, false, 35⟩, ⟨3, 1, .rw, false, false, false, 35⟩, ⟨4, 1, .rw, false, false, false, 35⟩, ⟨5, 2, .rw, false, false, false, 35⟩, ⟨7, 1, .w1s, false, false, false, 35⟩, ⟨8, 5, .rw, false, false, false, 35⟩, ⟨13, 1, .w1s, false, false, false, 35⟩],
      0x0, [], 0⟩, [i]) := by decide +kernel

theorem lookupReg_BND_HARV_CTL (i : Nat) (h : i < 4096) : lookupReg (BND_HARV_CTL i) = some (
    ⟨.BND_HARV_CTL, 0x2000060, [(4096, 0x100)], 0,
      [⟨0, 7, .rw, false, false, false, 3⟩, ⟨8, 1, .w1s, false, false, false, 3⟩],
      0x0, [], 0⟩, [i]) := by
  unfold lookupReg BND_HARV_CTL
  rw [blockRegs_BND i 0x60 h (by decide), findReg_BND regsBND i 0x60 h (by decide) (by decide)]
  rfl

theorem lookupReg_BND_RST (i : Nat) (h : i < 4096) : lookupReg (BND_RST i) = some (
    ⟨.BND_RST, 0x2000098, [(4096, 0x100)], 0,
      [⟨0, 1, .w1s, false, false, false, 11⟩, ⟨16, 16, .ro, false, false, true, 43⟩],
      0x0, [], 0⟩, [i]) := by
  unfold lookupReg BND_RST
  rw [blockRegs_BND i 0x98 h (by decide), findReg_BND regsBND i 0x98 h (by decide) (by decide)]
  rfl

theorem lookupReg_HOM_HOST_STAT : ∀ i < 64, lookupReg (HOM_HOST_STAT i) = some (
    ⟨.HOM_HOST_STAT, 0x200300, [(64, 0x4)], 0,
      [⟨0, 2, .ro, false, false, false, 35⟩, ⟨2, 1, .w1s, false, false, false, 3⟩, ⟨3, 1, .w1s, false, false, false, 3⟩, ⟨4, 1, .w1c, false, false, false, 3⟩, ⟨16, 16, .ro, false, false, true, 35⟩],
      0x0, [], 0⟩, [i]) := by decide +kernel

theorem lookupReg_OXB_EVAC : ∀ i < 128, lookupReg (OXB_EVAC i) = some (
    ⟨.OXB_EVAC, 0x301014, [(128, 0x20)], 0,
      [⟨0, 1, .w1s, false, false, false, 3⟩, ⟨1, 1, .rw, false, false, false, 3⟩, ⟨2, 1, .w1s, false, false, false, 3⟩, ⟨4, 2, .ro, false, false, false, 35⟩],
      0x0, [], 0⟩, [i]) := by decide +kernel

theorem lookupReg_OXB_BQ_CFG : ∀ i < 32, lookupReg (OXB_BQ_CFG i) = some (
    ⟨.OXB_BQ_CFG, 0x304000, [(32, 0x20)], 0,
      [⟨0, 1, .rw, false, false, false, 11⟩, ⟨1, 7, .rw, false, false, false, 3⟩, ⟨8, 4, .rw, false, false, false, 8⟩],
      0x0, [], 0⟩, [i]) := by decide +kernel

theorem lookupReg_OXB_BQ_TAIL : ∀ i < 32, lookupReg (OXB_BQ_TAIL i) = some (
    ⟨.OXB_BQ_TAIL, 0x30400c, [(32, 0x20)], 0,
      [⟨0, 20, .rw, false, false, false, 8⟩],
      0x0, [], 0⟩, [i]) := by decide +kernel

theorem lookupReg_PRT_GL_CTL : ∀ i < 128, lookupReg (PRT_GL_CTL i) = some (
    ⟨.PRT_GL_CTL, 0x1000258, [(128, 0x10000)], 0,
      [⟨0, 1, .rw, false, false, false, 3⟩, ⟨1, 1, .w1s, false, false, false, 3⟩, ⟨2, 1, .w1s, false, false, false, 3⟩, ⟨3, 1, .ro, false, false, false, 35⟩, ⟨4, 1, .ro, false, false, false, 35⟩, ⟨5, 1, .w1c, false, false, false, 3⟩, ⟨16, 16, .ro, false, false, true, 35⟩],
      0x0, [], 0⟩, [i]) := by decide +kernel

theorem lookupReg_LWB_LOCK : ∀ i < 128, lookupReg (LWB_LOCK i) = some (
    ⟨.LWB_LOCK, 0x400800, [(128, 0x4)], 0,
      [⟨0, 6, .rw, false, false, false, 11⟩, ⟨6, 1, .w1s, false, false, false, 11⟩, ⟨7, 1, .w1s, false, false, false, 11⟩, ⟨8, 1, .ro, false, false, false, 43⟩, ⟨9, 1, .ro, false, false, false, 43⟩, ⟨10, 1, .w1c, false, false, false, 11⟩, ⟨11, 1, .w1c, false, false, false, 11⟩, ⟨16, 16, .ro, false, false, true, 43⟩],
      0x0, [], 0⟩, [i]) := by decide +kernel

theorem lookupReg_LWB_WIN_FENCE : ∀ i < 64, lookupReg (LWB_WIN_FENCE i) = some (
    ⟨.LWB_WIN_FENCE, 0x401018, [(64, 0x80)], 0,
      [⟨0, 1, .w1s, false, false, false, 11⟩, ⟨1, 1, .ro, false, false, false, 43⟩, ⟨2, 1, .ro, false, false, false, 43⟩],
      0x6, [], 0⟩, [i]) := by decide +kernel

theorem lookupReg_LWB_WIN_MIR_OUT_HI : ∀ i < 64, lookupReg (LWB_WIN_MIR_OUT_HI i) = some (
    ⟨.LWB_WIN_MIR_OUT_HI, 0x401044, [(64, 0x80)], 0,
      [⟨0, 32, .rw, false, false, false, 11⟩],
      0x0, [], 0⟩, [i]) := by decide +kernel

theorem lookupReg_MBX_CTL : lookupReg MBX_CTL = some (
    ⟨.MBX_CTL, 0x40000, [], 0,
      [⟨0, 1, .w1s, false, false, false, 3⟩],
      0x0, [], 0⟩, []) := by decide +kernel

theorem lookupReg_GLB_MODE_REQ : lookupReg GLB_MODE_REQ = some (
    ⟨.GLB_MODE_REQ, 0x4, [], 0,
      [⟨0, 4, .rw, false, false, false, 3⟩, ⟨7, 1, .rw, false, false, false, 1⟩, ⟨8, 2, .rw, false, false, false, 3⟩, ⟨16, 1, .w1s, false, false, false, 3⟩, ⟨17, 1, .w1s, false, false, false, 3⟩, ⟨18, 1, .w1c, false, false, false, 3⟩],
      0x0, [], 0⟩, []) := by decide +kernel

theorem lookupReg_GLB_RST_CTL : lookupReg GLB_RST_CTL = some (
    ⟨.GLB_RST_CTL, 0x20, [], 0,
      [⟨0, 1, .w1s, false, false, false, 1⟩, ⟨1, 1, .w1s, false, false, false, 1⟩, ⟨2, 1, .w1s, false, false, false, 3⟩, ⟨8, 7, .rw, false, false, false, 3⟩],
      0x0, [], 0⟩, []) := by decide +kernel

theorem lookupReg_SLT_CH_CTL : ∀ i < 32, lookupReg (SLT_CH_CTL i) = some (
    ⟨.SLT_CH_CTL, 0x81030, [(32, 0x80)], 0,
      [⟨0, 1, .w1s, false, false, false, 3⟩, ⟨1, 1, .w1s, false, false, false, 3⟩, ⟨2, 1, .w1s, false, false, false, 3⟩, ⟨3, 1, .w1s, false, false, false, 3⟩, ⟨4, 1, .w1c, false, false, false, 3⟩, ⟨5, 1, .w1c, false, false, false, 3⟩],
      0x0, [], 0⟩, [i]) := by decide +kernel

theorem lookupReg_FLT_CLR : lookupReg FLT_CLR = some (
    ⟨.FLT_CLR, 0x30018, [], 0,
      [⟨0, 16, .rw, false, false, false, 3⟩, ⟨16, 1, .w1s, false, false, false, 3⟩, ⟨17, 1, .w1c, false, false, false, 3⟩],
      0x0, [], 0⟩, []) := by decide +kernel

theorem lookupReg_EVT_SH_ROUTE : ∀ i < 512, lookupReg (EVT_SH_ROUTE i) = some (
    ⟨.EVT_SH_ROUTE, 0x20000, [(512, 0x4)], 0,
      [⟨0, 8, .rw, false, false, false, 3⟩, ⟨8, 2, .rw, false, false, false, 3⟩, ⟨10, 8, .rw, false, false, false, 3⟩, ⟨18, 6, .rw, false, false, false, 3⟩, ⟨24, 1, .rw, false, false, false, 3⟩, ⟨25, 2, .ro, false, false, false, 35⟩, ⟨27, 1, .ro, false, false, false, 35⟩],
      0x1000480, [], 0⟩, [i]) := by decide +kernel

theorem lookupReg_EVT_SH_PEND : ∀ i < 16, lookupReg (EVT_SH_PEND i) = some (
    ⟨.EVT_SH_PEND, 0x20800, [(16, 0x4)], 0,
      [⟨0, 32, .w1c, false, false, false, 3⟩],
      0x0, [], 0⟩, [i]) := by decide +kernel

theorem lookupReg_EVT_T_CTL : ∀ i < 132, lookupReg (EVT_T_CTL i) = some (
    ⟨.EVT_T_CTL, 0x21000, [(132, 0x40)], 0,
      [⟨0, 1, .rw, false, false, false, 11⟩, ⟨1, 1, .ro, false, false, false, 43⟩],
      0x2, [], 0⟩, [i]) := by decide +kernel

theorem lookupReg_EVT_T_PEND_LO : ∀ i < 132, lookupReg (EVT_T_PEND_LO i) = some (
    ⟨.EVT_T_PEND_LO, 0x21004, [(132, 0x40)], 0,
      [⟨0, 32, .w1c, false, false, false, 11⟩],
      0x0, [], 0⟩, [i]) := by decide +kernel

theorem lookupReg_EVT_T_CLAIM : ∀ i < 132, lookupReg (EVT_T_CLAIM i) = some (
    ⟨.EVT_T_CLAIM, 0x21014, [(132, 0x40)], 0,
      [⟨0, 9, .ro, false, false, false, 11⟩, ⟨9, 1, .ro, false, false, false, 11⟩, ⟨31, 1, .ro, false, false, false, 11⟩],
      0x0, [], 0⟩, [i]) := by decide +kernel

theorem lookupReg_EVT_T_DONE : ∀ i < 132, lookupReg (EVT_T_DONE i) = some (
    ⟨.EVT_T_DONE, 0x21018, [(132, 0x40)], 0,
      [⟨0, 9, .rw, false, false, false, 11⟩, ⟨9, 1, .rw, false, false, false, 11⟩],
      0x0, [], 0⟩, [i]) := by decide +kernel

theorem lookupReg_CNT_RING_CTL : lookupReg CNT_RING_CTL = some (
    ⟨.CNT_RING_CTL, 0xf8000, [], 0,
      [⟨0, 16, .rw, false, false, false, 1⟩, ⟨16, 7, .rw, false, false, false, 1⟩, ⟨23, 1, .rw, false, false, false, 1⟩, ⟨24, 1, .w1c, false, false, false, 1⟩],
      0x400, [], 0⟩, []) := by decide +kernel

theorem lookupReg_CNT_RING_SIZE : lookupReg CNT_RING_SIZE = some (
    ⟨.CNT_RING_SIZE, 0xf800c, [], 0,
      [⟨0, 32, .rw, false, false, false, 1⟩],
      0x0, [], 0⟩, []) := by decide +kernel

theorem lookupReg_TWL_FC : lookupReg TWL_FC = some (
    ⟨.TWL_FC, 0x90014, [], 0,
      [⟨0, 7, .ro, false, false, false, 35⟩, ⟨7, 1, .ro, false, false, false, 35⟩, ⟨8, 6, .rw, false, false, false, 3⟩, ⟨14, 1, .w1s, false, false, false, 3⟩, ⟨16, 16, .ro, false, false, true, 35⟩],
      0x0, [], 0⟩, []) := by decide +kernel

theorem lookupReg_TWL_PCAP : ∀ i < 128, lookupReg (TWL_PCAP i) = some (
    ⟨.TWL_PCAP, 0x90400, [(128, 0x4)], 0,
      [⟨0, 4, .ro, false, false, false, 35⟩, ⟨4, 4, .rw, false, false, false, 3⟩, ⟨8, 1, .w1s, false, false, false, 3⟩, ⟨16, 8, .ro, false, false, true, 35⟩, ⟨24, 8, .ro, false, false, true, 35⟩],
      0x50, [], 0⟩, [i]) := by decide +kernel

end Sys2Proof.Machine
end

