-- ==== Sys2Proof/Laws/Staging.lean ====
section
/-! SUPPORT. What a discard of staged values does: each staged word returns to the word in force, and nothing else changes. -/

set_option Elab.async false
namespace Sys2Proof.Machine
open Sys2Proof

theorem mix_mix (m w v : Word) : mix m (mix m w v) v = mix m w v := by
  unfold mix
  ext i hi
  simp
  cases m[i] <;> simp

theorem mem_sdel (l : List Nat) (k a : Nat) : a ∈ sdel l k ↔ a ∈ l ∧ a ≠ k := by
  induction l with
  | nil => simp [sdel]
  | cons j t ih =>
    unfold sdel
    by_cases h : j = k
    · subst h
      simp only [if_true, ih, List.mem_cons]
      tauto
    · simp only [h, if_false, List.mem_cons, ih]
      constructor
      · rintro (rfl | h1)
        · exact ⟨.inl rfl, h⟩
        · exact ⟨.inr h1.1, h1.2⟩
      · rintro ⟨h1 | h1, h2⟩
        · exact .inl h1
        · exact .inr ⟨h1, h2⟩

theorem mem_foldl_sdel (l d : List Nat) (a : Nat) : a ∈ l.foldl sdel d ↔ a ∈ d ∧ a ∉ l := by
  induction l generalizing d with
  | nil => simp
  | cons b t ih => simp [ih, mem_sdel]; tauto

/-- Taking registers out of the staging area changes their words and the list of staged addresses alone. -/
theorem foldl_unstage (l : List Nat) (s : State) : l.foldl State.unstage s =
    { s with regs := (l.foldl State.unstage s).regs, dirty := l.foldl sdel s.dirty } := by
  induction l generalizing s with
  | nil => rfl
  | cons b t ih =>
    simp only [List.foldl_cons]
    rw [ih]
    rfl

/-- Each word taken out of the staging area has its staged bits at the values in force; every other word stays. -/
theorem foldl_unstage_word (l : List Nat) (s : State) (a : Nat) :
    (l.foldl State.unstage s).word a = if a ∈ l then mix (shMaskAt a) (s.word a) (s.curWord a) else s.word a := by
  induction l generalizing s with
  | nil => simp
  | cons b t ih =>
    have hw : (s.unstage b).word a = if b = a then mix (shMaskAt a) (s.word a) (s.curWord a) else s.word a := by
      by_cases hb : b = a
      · subst hb
        simp only [State.unstage, State.revertWord, State.setWord, State.word, rget_rput, if_true]
      · simp only [State.unstage, State.revertWord, State.setWord, State.word, rget_rput_ne _ _ _ _ hb, if_neg hb]
    have hc : (s.unstage b).curWord a = s.curWord a := rfl
    simp only [List.foldl_cons, ih, hw, hc, List.mem_cons]
    by_cases hb : b = a
    · subst hb
      simp [mix_mix]
    · simp [hb, Ne.symm hb]

/-- The staging area is empty after a discard. -/
theorem State.revertStaged_staged (s : State) : s.revertStaged.staged = [] := by
  unfold State.revertStaged
  rw [foldl_unstage]
  simp only [State.staged, List.filter_eq_nil_iff, mem_foldl_sdel, List.mem_filter]
  tauto

theorem State.revertStaged_word (s : State) (a : Nat) :
    s.revertStaged.word a = if a ∈ s.staged then mix (shMaskAt a) (s.word a) (s.curWord a) else s.word a := foldl_unstage_word _ _ _

theorem State.revertStaged_eq (s : State) : s.revertStaged = { s with regs := s.revertStaged.regs, dirty := s.staged.foldl sdel s.dirty } :=
  foldl_unstage _ _

end Sys2Proof.Machine
end

