-- ==== Sys2Proof/WellFormed.lean ====
section
/-! DEFINITION. Well-formed commands: every operand lies in the field that carries it (Table 14-2, Table 14-6, Table 9-10 and the numbering of ports,
lanes, gates, channels and bindings). -/
namespace Sys2Proof

/-- The fields of a packet (Table 14-2), with routes and carriers as they are numbered (Table 14-1), as many bytes of parameters as PLEN says, and a tag of
16 bytes (R308). -/
def Rq.wf (r : Rq) : Bool :=
  decide (r.route < 132) && decide (r.eid < 256) && decide (r.version < 256) && decide (r.sess < 65536) && decide (r.seq < 2 ^ 32) &&
    decide (r.tag < 65536) && decide (r.plen < 65536) && decide (r.carrier ≤ 128) && decide (r.body < 256 ^ r.plen) && decide (r.mac < 2 ^ 128)

/-- A BAR access: a function that exists, and four byte enables. -/
def Bus.wf (b : Bus) : Bool := decide (b.fn ≤ 128) && decide (b.be < 16)

/-- A gate rule (Table 9-10). -/
def GRule.wf (r : GRule) : Bool :=
  decide (r.base < 2 ^ 64) && decide (r.fin < 2 ^ 64) && decide (r.init < 65536) && decide (r.mask < 65536) && decide (r.perm < 256) && decide (r.rest < 2 ^ 32)

/-- A consent token (Table 9-2). -/
def Consent.wf (t : Consent) : Bool :=
  decide (t.tenant < 65536) && decide (t.region < 65536) && decide (t.member < 256) && decide (t.port < 256) && decide (t.expires < 2 ^ 64) && decide (t.nonce < 2 ^ 64) &&
    decide (t.resv < 65536) && decide (t.tag < 2 ^ 192)

/-- A lifecycle or debug token (Table 13-6). -/
def Token.wf (t : Token) : Bool :=
  decide (t.type < 65536) && decide (t.version < 256) && decide (t.device < 2 ^ 384) && decide (t.nonce < 2 ^ 256) && decide (t.scope < 2 ^ 64) &&
    decide (t.lifetime < 2 ^ 64) && decide (t.arg < 2 ^ 384)

/-- A fence token (Table 20-1). -/
def FenceTok.wf (t : FenceTok) : Bool :=
  decide (t.type < 65536) && decide (t.version < 256) && decide (t.group < 65536) && decide (t.member < 256) && decide (t.expel < 256) &&
    decide (t.epoch < 2 ^ 32) && decide (t.device < 2 ^ 384) && decide (t.nonce < 2 ^ 256)

/-- A personality configuration (Table 19-5). -/
def PersCfg.wf (c : PersCfg) : Bool :=
  decide (c.type < 65536) && decide (c.version < 256) && decide (c.level < 256) && decide (c.owner < 2 ^ 384) && decide (c.serial < 2 ^ 64)

/-- A request to the home: numbers of Table 6-1, and one line of data. -/
def HReq.wf (r : HReq) : Bool :=
  decide (r.src < 256) && decide (r.member < 8) && decide (r.port < 128) && decide (r.bnd < 4096) && decide (r.dpa < 2 ^ 64) && decide (r.data < 2 ^ 512)

/-- Blocks of Sealed metadata (R206): 64 bytes each, at the levels 1 to 12 and the MAC blocks 0 to 6. -/
def Fetched.wf (f : Fetched) : Bool :=
  f.path.all (fun e => decide (0 < e.1) && decide (e.1 ≤ 12) && decide (e.2 < 2 ^ 512)) && f.macs.all (fun e => decide (e.1 < 7) && decide (e.2 < 2 ^ 512))

/-- What is presented to a slice (R171): a malformed entry stands in a set of which a copy failed (R165). -/
def HIn.wf (x : HIn) : Bool := x.r.wf && x.found.wf && (! x.mal || x.rsv != .good)

/-- A bulk descriptor (Table 10-5). -/
def BulkDesc.wf (d : BulkDesc) : Bool :=
  decide (d.op < 256) && decide (d.flags < 256) && decide (d.srcBind < 65536) && decide (d.dstBind < 65536) && decide (d.srcDpa < 2 ^ 64) &&
    decide (d.dstDpa < 2 ^ 64) && decide (d.len < 2 ^ 64) && decide (d.cpl < 2 ^ 64)

/-- A message: numbers of Table 6-1, a traffic class of three bits, and at least one cell. -/
def Msg.wf (m : Msg) : Bool :=
  decide (m.src < 256) && decide (m.dst < 256) && decide (0 < m.cells) && decide (m.shr ≤ m.cells) && (m.tc.all (fun t => decide (t < 8)))

/-- A part of a flit. -/
def FlitItem.wf (i : FlitItem) : Bool :=
  match i with
  | .msg m _ => m.wf
  | .more dst cls _ => decide (dst < 256) && decide (cls < 5)
  | .tail dst cls _ _ => decide (dst < 256) && decide (cls < 5)

/-- An ISL cell (Table 5-3). -/
def IslCell.wf (c : IslCell) : Bool :=
  decide (c.type < 4) && decide (c.seq < 65536) && decide (c.ack < 65536) && decide (c.xoff < 16) && c.parts.all (fun p => decide (p.cls < 4))

/-- A region on a peer's list. -/
def RemRegion.wf (r : RemRegion) : Bool :=
  decide (r.id < 16384) && decide (r.tenant < 1024) && decide (r.cls < 3) && decide (0 < r.size)

/-- The facts of a Daybreak: samples of the six sensor classes (Table 19-1). -/
def DayFacts.wf (x : DayFacts) : Bool := x.samples.all (fun e => decide (e.1 < 6))

/-- Whether an optional value lies below a bound. -/
def optAll (o : Option Nat) (n : Nat) : Bool := o.all (fun v => decide (v < n))

/-- A well-formed command. -/
def instrWf (i : Instr) : Bool :=
  match i with
  | .daybreak x => x.wf
  | .duskWindowStart => true
  | .syncEdgeReceived _ _ _ => true
  | .syncEdgeMissing _ => true
  | .frmLenArm b _ => b.wf
  | .followerRearm b => b.wf
  | .syncRoleChange b _ => b.wf
  | .registerWrite b addr _ => b.wf && decide (addr < 2 ^ 32)
  | .linkUp p rate width _ _ _ xr _ cap => decide (p < 128) && decide (rate < 16) && decide (width < 8) && decide (cap < 2 ^ 30) && optAll xr (2 ^ 32)
  | .xrateSpeedChange p => decide (p < 128)
  | .xrateFallback p _ => decide (p < 128)
  | .retrain b p => b.wf && decide (p < 128)
  | .linkDisableWrite b p _ => b.wf && decide (p < 128)
  | .ideStreamSecure p _ => decide (p < 128)
  | .ideIntegrityFail p _ => decide (p < 128)
  | .ideKeyRefresh rq port => rq.wf && decide (port < 256)
  | .l1Entry p _ => decide (p < 128)
  | .l1Exit p => decide (p < 128)
  | .l0pNarrow p used total => decide (p < 128) && decide (used ≤ total)
  | .l0pRestore p used total _ => decide (p < 128) && decide (used ≤ total)
  | .surpriseDown p => decide (p < 128)
  | .flushComplete p => decide (p < 128)
  | .busMasterDisable fn _ _ _ => decide (fn ≤ 128)
  | .busMasterEnable fn => decide (fn ≤ 128)
  | .hostPerstChange g _ => decide (g < 32)
  | .portReset p => decide (p < 128)
  | .portResetPortRst b _ => b.wf
  | .laneSignalLoss l _ _ _ _ => decide (l < 512)
  | .laneLockLoss l _ _ _ _ _ => decide (l < 512)
  | .laneParkWrite b l _ => b.wf && decide (l < 512)
  | .eyeSweepDone l height width => decide (l < 512) && decide (height < 256) && decide (width < 256)
  | .patternControlWrite b l _ => b.wf && decide (l < 512)
  | .patternInject b l => b.wf && decide (l < 512)
  | .patternErrClear b l => b.wf && decide (l < 512)
  | .islCellReceived i c errs _ => decide (i < 8) && c.wf && errs.all (fun q => decide (q.1 < 256) && decide (q.2 < 256))
  | .islCellSend i => decide (i < 8)
  | .islMarkerReceived i raw _ => decide (i < 8) && decide (raw.length = 256) && raw.all (fun q => decide (q < 256))
  | .islMarkerMissing i => decide (i < 8)
  | .islReplayTimerExpiry i => decide (i < 8)
  | .islRxSilence i => decide (i < 8)
  | .islAligningDone i => decide (i < 8)
  | .islKeyingDone i digest => decide (i < 8) && decide (digest < 2 ^ 384)
  | .islKeyingTimeout i => decide (i < 8)
  | .islRecoveryTimeout i => decide (i < 8)
  | .islTrainingRestart i => decide (i < 8)
  | .flitReceived p _ _ items => decide (p < 128) && items.all FlitItem.wf
  | .arbiterGrant o _ _ => decide (o < 150)
  | .outputWatchdogFire p _ => decide (p < 128)
  | .egressSchedule p _ => decide (p < 128)
  | .shaperTokenRefill => true
  | .shaperAdmit src dst => decide (src < 150) && decide (dst < 150)
  | .gateListArm b p _ => b.wf && decide (p < 128)
  | .gateListCancel b p => b.wf && decide (p < 128)
  | .cxlMemAccess p vdp hpa _ _ data _ => decide (p < 128) && decide (vdp < 128) && decide (hpa < 2 ^ 64) && decide (data < 2 ^ 512)
  | .translationWalkDone i _ => decide (i < 2 ^ 30)
  | .hdmDecoderCommit b base size ig iw _ _ => decide (b < 4096) && decide (base < 2 ^ 64) && decide (size < 2 ^ 64) && decide (ig < 16) && decide (iw < 16)
  | .regionCreate rq tenant cls size ttBase treePool releaseFree => rq.wf && decide (tenant < 65536) && decide (cls < 256) && decide (size < 2 ^ 32) && decide (ttBase < 2 ^ 32) && decide (treePool < 256) && decide (releaseFree < 256)
  | .regionDelete rq region => rq.wf && decide (region < 65536)
  | .getRegion rq region => rq.wf && decide (region < 65536)
  | .extentAdd rq binding dpaP lenP rofsP tag => rq.wf && decide (binding < 65536) && decide (dpaP < 2 ^ 32) && decide (lenP < 2 ^ 32) && decide (rofsP < 2 ^ 32) && decide (tag < 2 ^ 128)
  | .extentPreparationDone b _ => decide (b < 4096)
  | .addDcResponse b _ _ => decide (b < 4096)
  | .extentRelease rq binding dpaP force => rq.wf && decide (binding < 65536) && decide (dpaP < 2 ^ 32) && decide (force < 256)
  | .releaseDynamicCapacity b _ => decide (b < 4096)
  | .releaseSweepDone b _ => decide (b < 4096)
  | .getExtents rq binding => rq.wf && decide (binding < 65536)
  | .bindingResetRequest b bnd => b.wf && decide (bnd < 4096)
  | .bindingResetComplete b => decide (b < 4096)
  | .harvestStart b bnd _ => b.wf && decide (bnd < 4096)
  | .harvestDone b _ => decide (b < 4096)
  | .logClearDone b => decide (b < 4096)
  | .homeLookup sl l => decide (sl < 16) && l.all HIn.wf
  | .homeResponseArrival sl _ _ f => decide (sl < 16) && f.wf
  | .biconflict port _ _ => decide (port < 128)
  | .directoryReadDone sl _ _ _ => decide (sl < 16)
  | .homeTimeout sl _ => decide (sl < 16)
  | .hostSlotDrainWrite b k => b.wf && decide (k < 64)
  | .hostSlotDrained k => decide (k < 64)
  | .hostSlotRevive b k => b.wf && decide (k < 64)
  | .tenantEstablish rq tenant secret verifier => rq.wf && decide (tenant < 65536) && decide (secret < 2 ^ 256) && decide (verifier < 2 ^ 384)
  | .zeroise rq tenant => rq.wf && decide (tenant < 65536)
  | .mapCkid rq binding ckid tenant => rq.wf && decide (binding < 65536) && decide (ckid < 256) && decide (tenant < 65536)
  | .tspKeyProgramming spdm binding ckid secret => decide (spdm < 2 ^ 32) && decide (binding < 4096) && decide (ckid < 65536) && decide (secret < 2 ^ 256)
  | .integrityQuery rq region => rq.wf && decide (region < 65536)
  | .enableTenant rq tenant enable => rq.wf && decide (tenant < 65536) && decide (enable < 256)
  | .metadataWriteback g level _ _ f => decide (g < 16384) && decide (level ≤ 12) && f.wf
  | .loadGateRules rq g total firstPos count rules => rq.wf && decide (g < 256) && decide (total < 65536) && decide (firstPos < 256) && decide (count < 256) && decide (rules.length = count) && rules.all GRule.wf
  | .consent rq tok => rq.wf && tok.wf
  | .gateRuleRecheck g => decide (g < 256)
  | .heatSweep g _ => decide (g < 2 ^ 30)
  | .rankerPass _ => true
  | .poolRebuild p => decide (p < 128)
  | .copyReadReturn m _ => decide (m < 64)
  | .copyPassEnd m => decide (m < 64)
  | .scrubDone pool _ => decide (pool < 128)
  | .placementDirective rq region firstP count pool => rq.wf && decide (region < 65536) && decide (firstP < 2 ^ 32) && decide (count < 2 ^ 32) && decide (pool < 256)
  | .moveAbort rq region firstP count => rq.wf && decide (region < 65536) && decide (firstP < 2 ^ 32) && decide (count < 2 ^ 32)
  | .heatQuery rq region firstP count => rq.wf && decide (region < 65536) && decide (firstP < 2 ^ 32) && decide (count < 65536)
  | .evacuatePool rq pool disc => rq.wf && decide (pool < 256) && decide (disc < 256)
  | .evacuationStartWrite b p _ => b.wf && decide (p < 128)
  | .evacuationCancel b p _ => b.wf && decide (p < 128)
  | .bulkTailWrite b q _ => b.wf && decide (q < 64)
  | .bulkDescriptorFetched q d _ => decide (q < 64) && d.wf
  | .bulkDescriptorDone q _ _ _ => decide (q < 64)
  | .bulkQueueDisable b q _ => b.wf && decide (q < 64)
  | .quanta rq port quanta => rq.wf && decide (port < 256) && decide (quanta.length = 8) && quanta.all (fun q => decide (q < 65536))
  | .shaper rq tenant rate burst en => rq.wf && decide (tenant < 65536) && decide (rate < 2 ^ 32) && decide (burst < 2 ^ 32) && decide (en < 256)
  | .gateList rq port slots en frame => rq.wf && decide (port < 256) && decide (en < 256) && decide (frame < 2 ^ 64) && decide (slots.length = 16) && slots.all (fun q => decide (q < 256))
  | .getQos rq port => rq.wf && decide (port < 256)
  | .bridgeAccess p vdp hpa _ _ data mask _ => decide (p < 128) && decide (vdp < 128) && decide (hpa < 2 ^ 64) && decide (data < 2 ^ 512) && decide (mask < 2 ^ 64)
  | .farUnitCompletion _ _ _ _ => true
  | .farUnitTimeout _ _ _ => true
  | .flushReadComplete _ _ => true
  | .postedWriteFailure w _ => decide (w < 64)
  | .bridgeFenceWrite b win _ => b.wf && decide (win < 64)
  | .bridgeFence rq w => rq.wf && decide (w < 256)
  | .prefetchFill _ _ _ => true
  | .lockAcquire b p _ => b.wf && decide (p < 128)
  | .lockRelease b p _ => b.wf && decide (p < 128)
  | .lockTimeout far => decide (far < 128)
  | .upstreamWrite p _ => decide (p < 128)
  | .intxMessage p line _ => decide (p < 128) && decide (line < 4)
  | .sidebandAlert g => decide (g < 32)
  | .mirrorPeriod w => decide (w < 64)
  | .mirrorOutWrite b win _ => b.wf && decide (win < 64)
  | .window rq w cfg base size far irq => rq.wf && decide (w < 256) && decide (cfg < 2 ^ 32) && decide (base < 2 ^ 32) && decide (size < 2 ^ 32) && decide (far < 2 ^ 64) && decide (irq < 2 ^ 32)
  | .getWindow rq w => rq.wf && decide (w < 256)
  | .getIdentity rq => rq.wf
  | .openSession rq kind spdm tok => rq.wf && decide (kind < 256) && decide (spdm < 2 ^ 32) && tok.wf
  | .closeSession rq => rq.wf
  | .attach rq source eid => rq.wf && decide (source < 256) && decide (eid < 256)
  | .tokenNonce rq type => rq.wf && decide (type < 65536)
  | .presentToken rq tok => rq.wf && tok.wf
  | .ownerClaim rq key => rq.wf && decide (key < 2 ^ 776)
  | .ownerSetting rq action => rq.wf && decide (action < 256)
  | .fabricManagerKey rq index digest => rq.wf && decide (index < 256) && decide (digest < 2 ^ 384)
  | .setCertificate spdm slot _ _ => decide (spdm < 2 ^ 32) && decide (slot < 8)
  | .getMeasurements spdm index => decide (spdm < 2 ^ 32) && decide (index < 256)
  | .registerRead rq addr count => rq.wf && decide (addr < 2 ^ 32) && decide (count < 65536)
  | .registerWriteOpcode rq addr count words => rq.wf && decide (addr < 2 ^ 32) && decide (count < 65536) && decide (words.length = count)
  | .getMode rq => rq.wf
  | .setMode rq byte => rq.wf && decide (byte < 256)
  | .setPowerState rq code => rq.wf && decide (code < 256)
  | .modeRequestWrite b _ => b.wf
  | .powerRequestWrite b _ => b.wf
  | .stageBegin rq => rq.wf
  | .commit rq at_ => rq.wf && decide (at_ < 2 ^ 64)
  | .discard rq => rq.wf
  | .resetBinding rq binding => rq.wf && decide (binding < 65536)
  | .resetPort rq port => rq.wf && decide (port < 256)
  | .resetManagement rq => rq.wf
  | .resetWarm rq => rq.wf
  | .resetCold rq => rq.wf
  | .commandStatus rq handle => rq.wf && decide (handle < 65536)
  | .abort rq handle => rq.wf && decide (handle < 65536)
  | .longCommandComplete handle _ => decide (handle < 65536)
  | .getPort rq port => rq.wf && decide (port < 256)
  | .portControl rq port action => rq.wf && decide (port < 256) && decide (action < 256)
  | .ppbConfigurationRequest rq port request completion => rq.wf && decide (port < 256) && decide (request < 2 ^ 128) && decide (completion < 2 ^ 64)
  | .bindVdp rq host vdp port ld => rq.wf && decide (host < 256) && decide (vdp < 256) && decide (port < 256) && decide (ld < 256)
  | .unbindVdp rq host vdp force => rq.wf && decide (host < 256) && decide (vdp < 256) && decide (force < 256)
  | .generateAer rq host vdp header => rq.wf && decide (host < 256) && decide (vdp < 256) && decide (header < 2 ^ 256)
  | .ldConfigurationRequest rq port ld request completion => rq.wf && decide (port < 256) && decide (ld < 256) && decide (request < 2 ^ 128) && decide (completion < 2 ^ 64)
  | .ldMemoryRequest rq port ld addr len data reply => rq.wf && decide (port < 256) && decide (ld < 256) && decide (addr < 2 ^ 64) && decide (len < 65536) && decide (data < 256 ^ len) && decide (reply < 256 ^ len)
  | .mldTunnel rq port ld command size _ => rq.wf && decide (port < 256) && decide (ld < 256) && decide (size < 2 ^ 32) && decide (size ≤ 4094) && decide (command < 256 ^ size)
  | .fmApiCommand _ route eid carrier _ => decide (route < 132) && decide (eid < 256) && decide (carrier ≤ 128)
  | .getChannel rq channel => rq.wf && decide (channel < 256)
  | .slotPowerOn rq channel feed => rq.wf && decide (channel < 256) && decide (feed < 256)
  | .slotPowerOff rq channel => rq.wf && decide (channel < 256)
  | .clearLatch rq channel => rq.wf && decide (channel < 256)
  | .slotOnWrite b c => b.wf && decide (c < 32)
  | .slotOffWrite b c => b.wf && decide (c < 32)
  | .slotClrWrite b c => b.wf && decide (c < 32)
  | .slotApply b c => b.wf && decide (c < 32)
  | .slotSample c _ _ _ _ _ _ _ => decide (c < 32)
  | .insertionDelayEnd c => decide (c < 32)
  | .offTimeEnd c => decide (c < 32)
  | .coolingExpiry c => decide (c < 32)
  | .fastTrip c _ => decide (c < 32)
  | .readFaultRecords rq firstNum count => rq.wf && decide (firstNum < 65536) && decide (count < 256)
  | .clearFaultRecord rq record => rq.wf && decide (record < 65536)
  | .faultClearWrite b _ => b.wf
  | .routeEventSource rq source target sense => rq.wf && decide (source < 65536) && decide (target < 256) && decide (sense < 256)
  | .routeWrite b source _ => b.wf && decide (source < 512)
  | .faultReport code id _ addr _ => decide (code < 65536) && decide (id < 65536) && optAll addr (2 ^ 64)
  | .collectorSelfFault => true
  | .managementWatchdogLimit => true
  | .eventClaim b t => b.wf && decide (t < 132)
  | .eventDone b t _ => b.wf && decide (t < 132)
  | .eventPendingClear b addr _ => b.wf && decide (addr < 2 ^ 32)
  | .eventScanSelect b t _ => b.wf && decide (t < 132)
  | .pinSourceChange source _ _ => decide (source < 512)
  | .configureCounterUnit rq unit selects => rq.wf && decide (unit < 65536) && decide (selects.length = 8) && selects.all (fun q => decide (q < 2 ^ 32))
  | .dumpRing rq port base size every => rq.wf && decide (port < 256) && decide (base < 2 ^ 64) && decide (size < 2 ^ 32) && decide (every < 65536)
  | .ringEnableWrite b _ => b.wf
  | .readBindingCounters rq binding => rq.wf && decide (binding < 65536)
  | .counterDumpDone => true
  | .readMargins rq cls first count => rq.wf && decide (cls < 256) && decide (first < 65536) && decide (count < 65536)
  | .readForecast rq => rq.wf
  | .forecastDismiss b _ => b.wf
  | .rateCapClear b p => b.wf && decide (p < 128)
  | .patrolScrubPass _ => true
  | .rowRepairCopyDone _ _ _ => true
  | .mirrorSingle stack _ => decide (stack < 2)
  | .resilverDone stack => decide (stack < 2)
  | .journalWrite _ => true
  | .imageChunk rq bank offset size _ => rq.wf && decide (bank < 256) && decide (offset < 2 ^ 32) && decide (size ≤ 4091)
  | .activateImage rq bank => rq.wf && decide (bank < 256)
  | .imageValidated => true
  | .outgoingPairRejoin _ => true
  | .raiseSvnFloor rq floor _ => rq.wf && decide (floor < 256)
  | .personality rq c => rq.wf && c.wf
  | .groupMembership rq group member peers => rq.wf && decide (group < 65536) && decide (member < 256) && decide (peers.length ≤ 8) && peers.all (fun q => decide (q.1 < 2 ^ 32) && decide (q.2 < 2 ^ 384))
  | .fenceToken rq tok => rq.wf && tok.wf
  | .transferHome rq region peer at_ _ => rq.wf && decide (region < 65536) && decide (peer < 256) && decide (at_ < 2 ^ 64)
  | .commitMessageReceived m r treePool _ _ _ _ _ _ _ => decide (m < 8) && decide (treePool < 128) && r.wf
  | .regionListReceived m l _ => decide (m < 8) && l.all RemRegion.wf
  | .peerUnreachable m => decide (m < 8)
  | .remoteRequestTimeout => true
  | .peerReachable m => decide (m < 8)
  | .debugRead rq addr len data => rq.wf && decide (addr < 2 ^ 64) && decide (len < 65536) && decide (data < 256 ^ len)
  | .debugWrite rq addr len data => rq.wf && decide (addr < 2 ^ 64) && decide (len < 65536) && decide (data < 256 ^ len)
  | .debugLifetimeExpiry => true
  | .tapInstruction _ => true
  | .trst => true
  | .managementResetRequest b => b.wf
  | .mgmtRstNLow _ => true
  | .interpreterReady => true
  | .warmResetWrite b => b.wf
  | .coldResetWrite b => b.wf
  | .warmReset _ => true
  | .resetNLow _ => true
  | .auxPwrgdRise straps => decide (straps < 16)
  | .auxPwrgdFall => true
  | .coldReset => true
  | .bootRomDone => true
  | .pwrgdCoreAssert => true
  | .pwrgdCoreDeassert => true
  | .bringUpComplete _ _ _ _ => true
  | .holdWake => true
  | .holdResumeReady => true
  | .thermtrip _ => true
  | .timebasePllLossOfLock => true
  | .resetNRelease straps => decide (straps < 16)
  | .hostPortLinkLoss p => decide (p < 128)
  | .standbyPairFailure => true
  | .configurationWrite fn _ => decide (fn ≤ 128)
  | .deviceErrorMessage p _ => decide (p < 128)
  | .upstreamRead p _ => decide (p < 128)
  | .copyWriteAck m _ _ => decide (m < 64)
  | .transferReadyReceived region peer => decide (region < 16384) && decide (peer < 8)
  | .transferConfirmReceived region peer => decide (region < 16384) && decide (peer < 8)
  | .vendorLifecycleCommand rq _ => rq.wf
  | .spdmKeyExchange n route eid _ key secret _ => decide (0 < n) && decide (n < 2 ^ 32) && decide (route < 132) && decide (eid < 256) && decide (key < 2 ^ 384) && decide (secret < 2 ^ 384)
  | .spdmEndSession n => decide (n < 2 ^ 32)
  | .unsupportedOpcode rq op => rq.wf && decide (op < 65536)
  | .i3cInterruptEnable bus _ => decide (bus < 2)
  | .barRegisterRead b addr => b.wf && decide (addr < 2 ^ 32)

end Sys2Proof
end

