-- ==== Sys2Proof/Tests/Slice0.lean ====
section
/-! SUPPORT. The block's own tests: ill-formed commands that are refused, the worked examples of the spec, reset words, and for every statement with
hypotheses a state and operands that meet them (one conjunct per clause, in the order of its clauses). -/
set_option Elab.async false
namespace Sys2Proof.Tests
open Sys2Proof Sys2Proof.Machine

/-! ### Small states and requests for the tests -/

/-- A session of a principal on route 128 whose next sequence number is 5. -/
def sessT (p : Principal) : Session := Session.mk .host 128 0 p 0 0 5 none none 0 0

/-- The block in Service, its lifecycle Owned, with a session of each kind of principal (1 owner, 2 fabric manager, 3 tenant 5, 5 debugger,
6 tenant candidate, 7 vendor), the management endpoint's BAR attached by the owner, and the interpreter ready. -/
def W0 : State := ({ State.reset with
  md := { State.reset.md with boot := .up, mode := .service, power := .full, pwrgdCore := true },
  ident := { State.reset.ident with life := .owned, owner := 7, fmKeys := [8, 0, 0, 0] },
  sec := { State.reset.sec with wsReady := true },
  mbx := { State.reset.mbx with
    sess := [(1, sessT .owner), (2, sessT (.fm 0)), (3, sessT (.tenant 5)), (5, sessT .debugger), (6, sessT (.candidate 9)), (7, sessT .vendor)],
    attach := [{ source := 0, route := 128, eid := 0, sess := 1 }] } } : State).setBit MBX_STAT_READY true

/-- The next request of a session of W0. -/
def rqT (n : Nat) : Rq :=
  { route := 128, eid := 0, version := 1, sess := n, seq := 5, tag := 9, plen := 0, auth := false, body := 0, mac := 0, group := false, carrier := 128 }

/-- An access through the BAR that the owner has attached in W0. -/
def busT : Bus := { fn := 128, be := 15 }

/-- W0 with port 0 a host port, port 4 a downstream port and port 8 a pool port, all up, and port 12 an inter-switch link port. -/
def W1 : State :=
  let s := ((((W0.setCur (PRT_CFG_ROLE 0) 1).setCur (PRT_CFG_ROLE 4) 2).setCur (PRT_CFG_ROLE 8) 2).setCur (PRT_CFG_POOL 8) 1).setCur (PRT_CFG_ROLE 12) 3
  let s := ((s.setBit (PRT_LINK_STAT_UP 0) true).setBit (PRT_LINK_STAT_UP 4) true).setBit (PRT_LINK_STAT_UP 8) true
  ((s.setBit (PRT_LINK_STAT_CXL 0) true).setBit (PRT_LINK_STAT_CXL 4) true).setBit (PRT_LINK_STAT_CXL 8) true

/-- A read of line 0 by host port 0. -/
def hreqT : HReq := { src := 0, member := 0, port := 0, bnd := 1, op := { opc := .memRd, value := .s }, dpa := 0, line := 0, tag := 3, data := 0, poison := false }
/-- A message from host port 0 to home slice 0. -/
def msgT : Msg := { src := 0, dst := 128, kind := .mem { opc := .memRd, value := .s } }
/-- The same read as it reaches the home, with no error. -/
def hinT : HIn := { r := hreqT }
/-- No symbol error. -/
def errT : SymErr := { corr := 0, hdr := false, data := false }
/-- An ack cell. -/
def cellT : IslCell := { type := 0, rpl := false, nak := false, ackValid := false, ks := false, seq := 0, ack := 0, xoff := 0, txc := 0, parts := [] }
/-- A marker of frame 1. -/
def markT : IslMarker := { frame := 1, txOfs := 0, echo := none, txc := 0, group := 0, member := 0, epoch := 0 }
/-- A token of type 1. -/
def tokT : Token := { type := 1, version := 1, device := 0, nonce := 0, scope := 0, lifetime := 0, arg := 0, resvZero := true, byVendor := true, sigOk := true }
/-- A fence token for epoch 1. -/
def fenceT : FenceTok :=
  { type := 0x20, version := 1, group := 0, member := 0, expel := 0, epoch := 1, device := 0, nonce := 0, signer := 8, sigOk := true, resvZero := true }
/-- A personality configuration of another type. -/
def persT : PersCfg := { type := 1, version := 1, level := 1, zero := true, owner := 7, serial := 1, sigOk := true }
/-- The facts of a quiet Daybreak. -/
def dayT : DayFacts := { samples := [], ack := true, serviced := true, selfTest := true }
/-- A bulk descriptor of one line. -/
def descT : BulkDesc :=
  { op := 1, flags := 0, srcBind := 0, dstBind := 1, srcDpa := 0, dstDpa := 0, len := 64, pattern := 0, cpl := 0, tag := 0, resv := 0 }
/-- A region on a peer's list. -/
def remT : RemRegion := { id := 3, tenant := 0, cls := 0, size := 16, ttBase := 0 }
/-- An accepted extent of four parcels at device address 0. -/
def extT : Extent :=
  { dpa := 0, len := 4, rofs := 0, tag := 0, st := .accepted, add := none, rel := none, made := [], accepting := false, rejected := false, swept := false }
/-- A Plain region of 16 parcels. -/
def regT : Region :=
  { tenant := 0, cls := 0, size := 16, ttBase := 0, treePool := 0, treeUnit := 0, treeUnits := 0, releaseFree := false, deleting := false,
    delHandle := none }
/-- A consent token of tenant 5 for region 3. -/
def consT : Consent := { tenant := 5, region := 3, member := 0, port := 0, expires := 0, nonce := 0, resv := 0, tag := 0 }
/-- A reply of success. -/
def replyT : Reply := { status := .success, frame := 0, data := [] }
/-- A forced move of region 3's first parcel from pool 8 to pool 16. -/
def moveT : Move :=
  { region := 3, parcel := 0, tree := false, units := 0, srcPool := 8, srcPpi := 0, dstPool := 16, dstPpi := 0, why := .forced, phase := .copying,
    copied := 0, blocks := 0, next := 0, reading := [], writing := [], homeWr := [], pass := 0, misses := 0, flipNext := false, abort := none,
    missed := false, reback := false }
/-- An SPDM session with mutual authentication. -/
def spdmT : Spdm := { route := 128, eid := 0, mutualAuth := true, key := 7, briral := false }
/-- The request of a long command. -/
def refT : Ref := { route := 128, eid := 0, sess := 1, seq := 4, tag := 8, op := 0x0204 }
/-- A long command that runs. -/
def lcT : Lc := { op := 0x0204, gen := 0, st := .running, ref := refT, prin := .owner, target := 128, status := .inProgress, endFrame := 0 }
/-- A debug session of session 5. -/
def dbgT : Dbg := { sess := 5, scope := 15, vendorTok := false, last := 1 }
/-- A contained fault record. -/
def fltT : FltRec := FltRec.mk 1 .contained 1 4 0x0401 0 0 0 none false false true 0 0
/-- A harvest of one unit. -/
def harvT : Harvest := { frame := 1, addr := 0, port := 0, len := 1, lost := false }
/-- A descriptor that bulk queue 0 runs. -/
def brunT : BulkRun := { queue := 0, num := 0, desc := descT }
/-- A counter dump. -/
def dumpT : DumpRun := { port := 0, base := 0, slots := 4, first := 0, frame := 0, seq := 0, flags := 0, restart := [], cycles := 0, counts := [] }
/-- A prefetch run of two lines of window 16. -/
def runT : BRun := { num := 0, win := 16, line := 0, count := 2, wd := 64, big := false, sparse := false, bad := false }
/-- An established key slot. -/
def keyT : KeySlot := { st := .established, verifier := 7, k1 := 1, k2 := 2, km := 3, kc := 4 }
/-- An activation of bank 1. -/
def actT : Activ := { bank := 1, handle := 0, image := {}, due := none }
/-- An evacuation that has begun. -/
def evacT : Evac := { discard := false, handle := none, cancel := false, begun := true }
/-- A directory entry with one sharer. -/
def dirT : DirEnt := { sharers := 1, excl := false, way := 0, cached := true }
/-- A writeback buffer of line 0. -/
def wbufT : WBuf := { line := 0, data := 1, poison := false, tag := 7 }
/-- A prefetched line of window 16. -/
def lnT : BLine := { win := 16, line := 0, data := 5, frame := 0, used := false }
/-- A fence in progress. -/
def bfT : BFence := { mark := 0, failed := false, handle := none, sent := false }
/-- A request held for member 1. -/
def heldT : Held := { member := 1, since := 0, req := hreqT }
/-- A margin record. -/
def margT : Margin := { flags := 0, frame := 1, worst := 5, mean := 6, empty := false }
/-- A forecast. -/
def fcstT : Fcst := Fcst.mk 0 0 3 0 9
/-- A transaction entry of a read of line 0. -/
def ttT : Tt := { id := 7, line := 0, work := .req hreqT, phase := .dirRead }
/-- An access of window 16 on the far port. -/
def baccT : BAcc :=
  { id := 7, win := 16, bnd := 1, host := 0, tag := 3, dpa := 0, kind := .rdShared, write := false, posted := false, port := 4, far := 0, wd := 64,
    big := false, one := true, mask := 0, data := 0, poison := false, units := [0], issued := true }
/-- A flush read of port 4. -/
def bflT : BFlush := { num := 7, port := 4, since := 0, accs := [], fence := none, alerts := [] }
/-- Line 0 of region 3. -/
def lineT : LineAt := { region := 3, rec_ := regT, parcel := 0, ln := 0 }
/-- W1 with region 3, and binding 1 of it on port 0: its decoder committed at 0, its first parcels accepted, the first of them on pool 8. -/
def W2 : State :=
  let s : State := { W1 with
    bnd := { W1.bnd with
      regions := [(3, regT)], ext := [(1, [extT])], tt := [(0, { valid := true, moving := false, pool := 8, ppi := 0, gen := 0 })] } }
  (((((s.setCur (BND_CFG_VALID 1) 1).setCur (BND_CFG_HOST_PORT 1) 0).setCur (BND_REGION_REGION 1) 3).setCur (BND_CFG_TEN_VIEW 1) 1).setFld
    (BND_HDM_SIZE_LO_VALUE 1) 15).setBit (BND_HDM_CTL_COMMITTED 1) true
/-- W2 with bridge window 16 of binding 1 on port 4, over the megabyte at 16 MiB. -/
def W3 : State :=
  ((((((W2.setCur (LWB_WIN_CFG_EN 16) 1).setCur (LWB_WIN_CFG_BIND 16) 1).setCur (LWB_WIN_CFG_PORT 16) 4).setCur (LWB_WIN_BASE_BASE 16) 256).setCur
    (LWB_WIN_SIZE_SIZE 16) 16).setCur (LWB_WIN_IRQ_MSI_EN 16) 1)
/-- W1 with inter-switch link 0 enabled on port 12 in a state. -/
def W4 (st : Nat) (x : Isl) : State :=
  { ((W1.setCur (ISL_CFG_EN 0) 1).setCur (ISL_CFG_PORT 0) 12).setFld (ISL_STAT_STATE 0) st with isl := [(0, x)] }
/-- W2 with host slot 2 of port 0, active. -/
def W5 : State := (W2.setCur (HOM_HOST_MAP_VALID 2) 1).setFld (HOM_HOST_STAT_STATE 2) 1
/-- W4 with the peer of member 1 listing inter-switch link 0, which port 12 carries. -/
def W6 (st : Nat) (x : Isl) : State := (((W4 st x).setBit (PRT_LINK_STAT_UP 12) true).setFld (GRP_PEER_ISLS 1) 1)
/-- A packet header with a route that does not exist. -/
def badRq : Rq := { rqT 1 with route := 132 }
/-- A BAR access with a fifth byte enable. -/
def badBus : Bus := { busT with be := 16 }
/-- A gate rule whose initiator does not fit. -/
def badRule : GRule := { base := 0, fin := 0, init := 65536, mask := 0, perm := 0, rest := 0 }

/-! ### Well-formed commands -/

/-- Well-formed commands are accepted: one of each of these constructors. -/
theorem test_wf_accepts_0 : (
    [.daybreak dayT, .duskWindowStart, .syncEdgeReceived false 0 0, .syncEdgeMissing 0, .frmLenArm busT 0, .followerRearm busT,
      .syncRoleChange busT 0, .registerWrite busT 0 0, .linkUp 0 0 0 false false false none .type3 0, .xrateSpeedChange 0, .xrateFallback 0 false,
      .retrain busT 0, .linkDisableWrite busT 0 0, .ideStreamSecure 0 false, .ideIntegrityFail 0 false, .ideKeyRefresh (rqT 1) 0, .l1Entry 0 0,
      .l1Exit 0, .l0pNarrow 0 0 0, .l0pRestore 0 0 0 0, .surpriseDown 0, .flushComplete 0, .busMasterDisable 0 0 0 0, .busMasterEnable 0,
      .hostPerstChange 0 false, .portReset 0, .portResetPortRst busT 0, .laneSignalLoss 0 0 0 false false, .laneLockLoss 0 0 0 false false false,
      .laneParkWrite busT 0 0, .eyeSweepDone 0 0 0, .patternControlWrite busT 0 0, .patternInject busT 0, .patternErrClear busT 0,
      .islCellReceived 0 cellT [] 0, .islCellSend 0, .islMarkerReceived 0 (List.replicate 256 0) false, .islMarkerMissing 0,
      .islReplayTimerExpiry 0, .islRxSilence 0, .islAligningDone 0, .islKeyingDone 0 0, .islKeyingTimeout 0, .islRecoveryTimeout 0,
      .islTrainingRestart 0, .flitReceived 0 false false [], .arbiterGrant 0 0 errT, .outputWatchdogFire 0 false, .egressSchedule 0 0,
      .shaperTokenRefill, .shaperAdmit 0 0, .gateListArm busT 0 0, .gateListCancel busT 0,
      .cxlMemAccess 0 0 0 { opc := .memRd, value := .s } 0 0 false, .translationWalkDone 0 .good, .hdmDecoderCommit 0 0 0 0 0 false false,
      .regionCreate (rqT 1) 0 0 0 0 0 0, .regionDelete (rqT 1) 0, .getRegion (rqT 1) 0, .extentAdd (rqT 1) 0 0 0 0 0, .extentPreparationDone 0 0,
      .addDcResponse 0 0 false, .extentRelease (rqT 1) 0 0 0, .releaseDynamicCapacity 0 0, .releaseSweepDone 0 0, .getExtents (rqT 1) 0,
      .bindingResetRequest busT 0, .bindingResetComplete 0, .harvestStart busT 0 0, .harvestDone 0 [], .logClearDone 0, .homeLookup 0 [],
      .homeResponseArrival 0 0 .wbAck {}, .biconflict 0 0 0, .directoryReadDone 0 0 .good false, .homeTimeout 0 0, .hostSlotDrainWrite busT 0,
      .hostSlotDrained 0, .hostSlotRevive busT 0, .tenantEstablish (rqT 1) 0 0 0, .zeroise (rqT 1) 0, .mapCkid (rqT 1) 0 0 0,
      .tspKeyProgramming 0 0 0 0, .integrityQuery (rqT 1) 0, .enableTenant (rqT 1) 0 0, .metadataWriteback 0 0 0 false {},
      .loadGateRules (rqT 1) 0 0 0 0 [], .consent (rqT 1) consT, .gateRuleRecheck 0, .heatSweep 0 false, .rankerPass [], .poolRebuild 0,
      .copyReadReturn 0 0, .copyPassEnd 0, .scrubDone 0 0, .placementDirective (rqT 1) 0 0 0 0, .moveAbort (rqT 1) 0 0 0, .heatQuery (rqT 1) 0 0 0,
      .evacuatePool (rqT 1) 0 0, .evacuationStartWrite busT 0 0] : List Instr).all instrWf = true := by decide +kernel

/-- Well-formed commands are accepted: one of each of these constructors. -/
theorem test_wf_accepts_1 : (
    [.evacuationCancel busT 0 0, .bulkTailWrite busT 0 0, .bulkDescriptorFetched 0 descT false, .bulkDescriptorDone 0 0 0 .done,
      .bulkQueueDisable busT 0 0, .quanta (rqT 1) 0 (List.replicate 8 0), .shaper (rqT 1) 0 0 0 0, .gateList (rqT 1) 0 (List.replicate 16 0) 0 0,
      .getQos (rqT 1) 0, .bridgeAccess 0 0 0 { opc := .memRd, value := .s } 0 0 0 false, .farUnitCompletion 0 0 false 0, .farUnitTimeout false 0 0,
      .flushReadComplete 0 false, .postedWriteFailure 0 none, .bridgeFenceWrite busT 0 0, .bridgeFence (rqT 1) 0, .prefetchFill 0 [] false,
      .lockAcquire busT 0 0, .lockRelease busT 0 0, .lockTimeout 0, .upstreamWrite 0 0, .intxMessage 0 0 false, .sidebandAlert 0, .mirrorPeriod 0,
      .mirrorOutWrite busT 0 0, .window (rqT 1) 0 0 0 0 0 0, .getWindow (rqT 1) 0, .getIdentity (rqT 1), .openSession (rqT 1) 0 0 tokT,
      .closeSession (rqT 1), .attach (rqT 1) 0 0, .tokenNonce (rqT 1) 0, .presentToken (rqT 1) tokT, .ownerClaim (rqT 1) 0, .ownerSetting (rqT 1) 0,
      .fabricManagerKey (rqT 1) 0 0, .setCertificate 0 0 0 false, .getMeasurements 0 0, .registerRead (rqT 1) 0 0,
      .registerWriteOpcode (rqT 1) 0 0 [], .getMode (rqT 1), .setMode (rqT 1) 0, .setPowerState (rqT 1) 0, .modeRequestWrite busT 0,
      .powerRequestWrite busT 0, .stageBegin (rqT 1), .commit (rqT 1) 0, .discard (rqT 1), .resetBinding (rqT 1) 0, .resetPort (rqT 1) 0,
      .resetManagement (rqT 1), .resetWarm (rqT 1), .resetCold (rqT 1), .commandStatus (rqT 1) 0, .abort (rqT 1) 0, .longCommandComplete 0 false,
      .getPort (rqT 1) 0, .portControl (rqT 1) 0 0, .ppbConfigurationRequest (rqT 1) 0 0 0, .bindVdp (rqT 1) 0 0 0 0, .unbindVdp (rqT 1) 0 0 0,
      .generateAer (rqT 1) 0 0 0, .ldConfigurationRequest (rqT 1) 0 0 0 0, .ldMemoryRequest (rqT 1) 0 0 0 0 0 0, .mldTunnel (rqT 1) 0 0 0 0 0,
      .fmApiCommand 0 0 0 0 .identify, .getChannel (rqT 1) 0, .slotPowerOn (rqT 1) 0 0, .slotPowerOff (rqT 1) 0, .clearLatch (rqT 1) 0,
      .slotOnWrite busT 0, .slotOffWrite busT 0, .slotClrWrite busT 0, .slotApply busT 0, .slotSample 0 false 0 0 0 0 0 0, .insertionDelayEnd 0,
      .offTimeEnd 0, .coolingExpiry 0, .fastTrip 0 0, .readFaultRecords (rqT 1) 0 0, .clearFaultRecord (rqT 1) 0, .faultClearWrite busT 0,
      .routeEventSource (rqT 1) 0 0 0, .routeWrite busT 0 0, .faultReport 0 0 false none 0, .collectorSelfFault, .managementWatchdogLimit,
      .eventClaim busT 0, .eventDone busT 0 0, .eventPendingClear busT 0 0, .eventScanSelect busT 0 0, .pinSourceChange 0 false 0,
      .configureCounterUnit (rqT 1) 0 (List.replicate 8 0), .dumpRing (rqT 1) 0 0 0 0, .ringEnableWrite busT 0, .readBindingCounters (rqT 1) 0,
      .counterDumpDone, .readMargins (rqT 1) 0 0 0, .readForecast (rqT 1), .forecastDismiss busT 0] : List Instr).all instrWf = true := by decide +kernel

/-- Well-formed commands are accepted: one of each of these constructors. -/
theorem test_wf_accepts_2 : (
    [.rateCapClear busT 0, .patrolScrubPass [], .rowRepairCopyDone 0 0 false, .mirrorSingle 0 0, .resilverDone 0, .journalWrite false,
      .imageChunk (rqT 1) 0 0 0 {}, .activateImage (rqT 1) 0, .imageValidated, .outgoingPairRejoin false, .raiseSvnFloor (rqT 1) 0 false,
      .personality (rqT 1) persT, .groupMembership (rqT 1) 0 0 [], .fenceToken (rqT 1) fenceT, .transferHome (rqT 1) 0 0 0 false,
      .commitMessageReceived 0 remT 0 0 false [] [] [] [] [], .regionListReceived 0 [] false, .peerUnreachable 0, .remoteRequestTimeout,
      .peerReachable 0, .debugRead (rqT 1) 0 0 0, .debugWrite (rqT 1) 0 0 0, .debugLifetimeExpiry, .tapInstruction .extest, .trst,
      .managementResetRequest busT, .mgmtRstNLow 0, .interpreterReady, .warmResetWrite busT, .coldResetWrite busT, .warmReset false, .resetNLow 0,
      .auxPwrgdRise 0, .auxPwrgdFall, .coldReset, .bootRomDone, .pwrgdCoreAssert, .pwrgdCoreDeassert, .bringUpComplete false false 0 0, .holdWake,
      .holdResumeReady, .thermtrip 0, .timebasePllLossOfLock, .resetNRelease 0, .hostPortLinkLoss 0, .standbyPairFailure,
      .configurationWrite 0 (.msix true), .deviceErrorMessage 0 none, .upstreamRead 0 0, .copyWriteAck 0 0 0, .transferReadyReceived 0 0,
      .transferConfirmReceived 0 0, .vendorLifecycleCommand (rqT 1) false, .spdmKeyExchange 1 0 0 false 0 0 false, .spdmEndSession 0,
      .unsupportedOpcode (rqT 1) 0, .i3cInterruptEnable 0 false, .barRegisterRead busT 0] : List Instr).all instrWf = true := by decide +kernel

/-- A command with one operand outside the field that carries it is refused: one term for each of these checks. -/
theorem test_wf_refuses_0 : (
    [.daybreak { dayT with samples := [(6, 0, 0)] }, .frmLenArm badBus 0, .followerRearm badBus, .syncRoleChange badBus 0,
      .registerWrite badBus 0 0, .registerWrite busT (2 ^ 32) 0, .linkUp 128 0 0 false false false none .type3 0,
      .linkUp 0 16 0 false false false none .type3 0, .linkUp 0 0 8 false false false none .type3 0,
      .linkUp 0 0 0 false false false none .type3 (2 ^ 30), .linkUp 0 0 0 false false false (some (2 ^ 32)) .type3 0, .xrateSpeedChange 128,
      .xrateFallback 128 false, .retrain badBus 0, .retrain busT 128, .linkDisableWrite badBus 0 0, .linkDisableWrite busT 128 0,
      .ideStreamSecure 128 false, .ideIntegrityFail 128 false, .ideKeyRefresh badRq 0, .ideKeyRefresh (rqT 1) 256, .l1Entry 128 0, .l1Exit 128,
      .l0pNarrow 128 0 0, .l0pNarrow 0 1 0, .l0pRestore 128 0 0 0, .l0pRestore 0 1 0 0, .surpriseDown 128, .flushComplete 128,
      .busMasterDisable 129 0 0 0, .busMasterEnable 129, .hostPerstChange 32 false, .portReset 128, .portResetPortRst badBus 0,
      .laneSignalLoss 512 0 0 false false, .laneLockLoss 512 0 0 false false false, .laneParkWrite badBus 0 0, .laneParkWrite busT 512 0,
      .eyeSweepDone 512 0 0, .eyeSweepDone 0 256 0, .eyeSweepDone 0 0 256, .patternControlWrite badBus 0 0, .patternControlWrite busT 512 0,
      .patternInject badBus 0, .patternInject busT 512, .patternErrClear badBus 0, .patternErrClear busT 512, .islCellReceived 8 cellT [] 0,
      .islCellReceived 0 { cellT with type := 4 } [] 0, .islCellReceived 0 cellT [(256, 0)] 0, .islCellReceived 0 cellT [(0, 256)] 0,
      .islCellSend 8, .islMarkerReceived 8 (List.replicate 256 0) false, .islMarkerReceived 0 [] false,
      .islMarkerReceived 0 (List.replicate 256 (256)) false, .islMarkerMissing 8, .islReplayTimerExpiry 8, .islRxSilence 8, .islAligningDone 8,
      .islKeyingDone 8 0, .islKeyingDone 0 (2 ^ 384), .islKeyingTimeout 8, .islRecoveryTimeout 8, .islTrainingRestart 8,
      .flitReceived 128 false false [], .flitReceived 0 false false [.msg { msgT with src := 256 } errT], .arbiterGrant 150 0 errT,
      .outputWatchdogFire 128 false, .egressSchedule 128 0, .shaperAdmit 150 0, .shaperAdmit 0 150, .gateListArm badBus 0 0,
      .gateListArm busT 128 0, .gateListCancel badBus 0, .gateListCancel busT 128, .cxlMemAccess 128 0 0 { opc := .memRd, value := .s } 0 0 false,
      .cxlMemAccess 0 128 0 { opc := .memRd, value := .s } 0 0 false, .cxlMemAccess 0 0 (2 ^ 64) { opc := .memRd, value := .s } 0 0 false,
      .cxlMemAccess 0 0 0 { opc := .memRd, value := .s } 0 (2 ^ 512) false, .translationWalkDone (2 ^ 30) .good] : List Instr).all (fun i => ! instrWf i) = true := by decide +kernel

/-- A command with one operand outside the field that carries it is refused: one term for each of these checks. -/
theorem test_wf_refuses_1 : (
    [.hdmDecoderCommit 4096 0 0 0 0 false false, .hdmDecoderCommit 0 (2 ^ 64) 0 0 0 false false, .hdmDecoderCommit 0 0 (2 ^ 64) 0 0 false false,
      .hdmDecoderCommit 0 0 0 16 0 false false, .hdmDecoderCommit 0 0 0 0 16 false false, .regionCreate badRq 0 0 0 0 0 0,
      .regionCreate (rqT 1) 65536 0 0 0 0 0, .regionCreate (rqT 1) 0 256 0 0 0 0, .regionCreate (rqT 1) 0 0 (2 ^ 32) 0 0 0,
      .regionCreate (rqT 1) 0 0 0 (2 ^ 32) 0 0, .regionCreate (rqT 1) 0 0 0 0 256 0, .regionCreate (rqT 1) 0 0 0 0 0 256, .regionDelete badRq 0,
      .regionDelete (rqT 1) 65536, .getRegion badRq 0, .getRegion (rqT 1) 65536, .extentAdd badRq 0 0 0 0 0, .extentAdd (rqT 1) 65536 0 0 0 0,
      .extentAdd (rqT 1) 0 (2 ^ 32) 0 0 0, .extentAdd (rqT 1) 0 0 (2 ^ 32) 0 0, .extentAdd (rqT 1) 0 0 0 (2 ^ 32) 0,
      .extentAdd (rqT 1) 0 0 0 0 (2 ^ 128), .extentPreparationDone 4096 0, .addDcResponse 4096 0 false, .extentRelease badRq 0 0 0,
      .extentRelease (rqT 1) 65536 0 0, .extentRelease (rqT 1) 0 (2 ^ 32) 0, .extentRelease (rqT 1) 0 0 256, .releaseDynamicCapacity 4096 0,
      .releaseSweepDone 4096 0, .getExtents badRq 0, .getExtents (rqT 1) 65536, .bindingResetRequest badBus 0, .bindingResetRequest busT 4096,
      .bindingResetComplete 4096, .harvestStart badBus 0 0, .harvestStart busT 4096 0, .harvestDone 4096 [], .logClearDone 4096, .homeLookup 16 [],
      .homeLookup 0 [{ hinT with mal := true }], .homeResponseArrival 16 0 .wbAck {}, .homeResponseArrival 0 0 .wbAck { path := [(0, 0)] },
      .biconflict 128 0 0, .directoryReadDone 16 0 .good false, .homeTimeout 16 0, .hostSlotDrainWrite badBus 0, .hostSlotDrainWrite busT 64,
      .hostSlotDrained 64, .hostSlotRevive badBus 0, .hostSlotRevive busT 64, .tenantEstablish badRq 0 0 0, .tenantEstablish (rqT 1) 65536 0 0,
      .tenantEstablish (rqT 1) 0 (2 ^ 256) 0, .tenantEstablish (rqT 1) 0 0 (2 ^ 384), .zeroise badRq 0, .zeroise (rqT 1) 65536,
      .mapCkid badRq 0 0 0, .mapCkid (rqT 1) 65536 0 0, .mapCkid (rqT 1) 0 256 0, .mapCkid (rqT 1) 0 0 65536, .tspKeyProgramming (2 ^ 32) 0 0 0,
      .tspKeyProgramming 0 4096 0 0, .tspKeyProgramming 0 0 65536 0, .tspKeyProgramming 0 0 0 (2 ^ 256), .integrityQuery badRq 0,
      .integrityQuery (rqT 1) 65536, .enableTenant badRq 0 0, .enableTenant (rqT 1) 65536 0, .enableTenant (rqT 1) 0 256,
      .metadataWriteback 16384 0 0 false {}, .metadataWriteback 0 13 0 false {}, .metadataWriteback 0 0 0 false { path := [(0, 0)] },
      .loadGateRules badRq 0 0 0 0 [], .loadGateRules (rqT 1) 256 0 0 0 [], .loadGateRules (rqT 1) 0 65536 0 0 [],
      .loadGateRules (rqT 1) 0 0 256 0 [], .loadGateRules (rqT 1) 0 0 0 256 [], .loadGateRules (rqT 1) 0 0 0 1 [],
      .loadGateRules (rqT 1) 0 0 0 1 [badRule]] : List Instr).all (fun i => ! instrWf i) = true := by decide +kernel

/-- A command with one operand outside the field that carries it is refused: one term for each of these checks. -/
theorem test_wf_refuses_2 : (
    [.consent badRq consT, .consent (rqT 1) { consT with region := 65536 }, .gateRuleRecheck 256, .heatSweep (2 ^ 30) false, .poolRebuild 128,
      .copyReadReturn 64 0, .copyPassEnd 64, .scrubDone 128 0, .placementDirective badRq 0 0 0 0, .placementDirective (rqT 1) 65536 0 0 0,
      .placementDirective (rqT 1) 0 (2 ^ 32) 0 0, .placementDirective (rqT 1) 0 0 (2 ^ 32) 0, .placementDirective (rqT 1) 0 0 0 256,
      .moveAbort badRq 0 0 0, .moveAbort (rqT 1) 65536 0 0, .moveAbort (rqT 1) 0 (2 ^ 32) 0, .moveAbort (rqT 1) 0 0 (2 ^ 32),
      .heatQuery badRq 0 0 0, .heatQuery (rqT 1) 65536 0 0, .heatQuery (rqT 1) 0 (2 ^ 32) 0, .heatQuery (rqT 1) 0 0 65536, .evacuatePool badRq 0 0,
      .evacuatePool (rqT 1) 256 0, .evacuatePool (rqT 1) 0 256, .evacuationStartWrite badBus 0 0, .evacuationStartWrite busT 128 0,
      .evacuationCancel badBus 0 0, .evacuationCancel busT 128 0, .bulkTailWrite badBus 0 0, .bulkTailWrite busT 64 0,
      .bulkDescriptorFetched 64 descT false, .bulkDescriptorFetched 0 { descT with op := 256 } false, .bulkDescriptorDone 64 0 0 .done,
      .bulkQueueDisable badBus 0 0, .bulkQueueDisable busT 64 0, .quanta badRq 0 (List.replicate 8 0), .quanta (rqT 1) 256 (List.replicate 8 0),
      .quanta (rqT 1) 0 [], .quanta (rqT 1) 0 (List.replicate 8 (65536)), .shaper badRq 0 0 0 0, .shaper (rqT 1) 65536 0 0 0,
      .shaper (rqT 1) 0 (2 ^ 32) 0 0, .shaper (rqT 1) 0 0 (2 ^ 32) 0, .shaper (rqT 1) 0 0 0 256, .gateList badRq 0 (List.replicate 16 0) 0 0,
      .gateList (rqT 1) 256 (List.replicate 16 0) 0 0, .gateList (rqT 1) 0 (List.replicate 16 0) 256 0,
      .gateList (rqT 1) 0 (List.replicate 16 0) 0 (2 ^ 64), .gateList (rqT 1) 0 [] 0 0, .gateList (rqT 1) 0 (List.replicate 16 (256)) 0 0,
      .getQos badRq 0, .getQos (rqT 1) 256, .bridgeAccess 128 0 0 { opc := .memRd, value := .s } 0 0 0 false,
      .bridgeAccess 0 128 0 { opc := .memRd, value := .s } 0 0 0 false, .bridgeAccess 0 0 (2 ^ 64) { opc := .memRd, value := .s } 0 0 0 false,
      .bridgeAccess 0 0 0 { opc := .memRd, value := .s } 0 (2 ^ 512) 0 false, .bridgeAccess 0 0 0 { opc := .memRd, value := .s } 0 0 (2 ^ 64) false,
      .postedWriteFailure 64 none, .bridgeFenceWrite badBus 0 0, .bridgeFenceWrite busT 64 0, .bridgeFence badRq 0, .bridgeFence (rqT 1) 256,
      .lockAcquire badBus 0 0, .lockAcquire busT 128 0, .lockRelease badBus 0 0, .lockRelease busT 128 0, .lockTimeout 128, .upstreamWrite 128 0,
      .intxMessage 128 0 false, .intxMessage 0 4 false, .sidebandAlert 32, .mirrorPeriod 64, .mirrorOutWrite badBus 0 0, .mirrorOutWrite busT 64 0,
      .window badRq 0 0 0 0 0 0, .window (rqT 1) 256 0 0 0 0 0, .window (rqT 1) 0 (2 ^ 32) 0 0 0 0, .window (rqT 1) 0 0 (2 ^ 32) 0 0 0,
      .window (rqT 1) 0 0 0 (2 ^ 32) 0 0, .window (rqT 1) 0 0 0 0 (2 ^ 64) 0] : List Instr).all (fun i => ! instrWf i) = true := by decide +kernel

/-- A command with one operand outside the field that carries it is refused: one term for each of these checks. -/
theorem test_wf_refuses_3 : (
    [.window (rqT 1) 0 0 0 0 0 (2 ^ 32), .getWindow badRq 0, .getWindow (rqT 1) 256, .getIdentity badRq, .openSession badRq 0 0 tokT,
      .openSession (rqT 1) 256 0 tokT, .openSession (rqT 1) 0 (2 ^ 32) tokT, .openSession (rqT 1) 0 0 { tokT with type := 65536 },
      .closeSession badRq, .attach badRq 0 0, .attach (rqT 1) 256 0, .attach (rqT 1) 0 256, .tokenNonce badRq 0, .tokenNonce (rqT 1) 65536,
      .presentToken badRq tokT, .presentToken (rqT 1) { tokT with type := 65536 }, .ownerClaim badRq 0, .ownerClaim (rqT 1) (2 ^ 776),
      .ownerSetting badRq 0, .ownerSetting (rqT 1) 256, .fabricManagerKey badRq 0 0, .fabricManagerKey (rqT 1) 256 0,
      .fabricManagerKey (rqT 1) 0 (2 ^ 384), .setCertificate (2 ^ 32) 0 0 false, .setCertificate 0 8 0 false, .getMeasurements (2 ^ 32) 0,
      .getMeasurements 0 256, .registerRead badRq 0 0, .registerRead (rqT 1) (2 ^ 32) 0, .registerRead (rqT 1) 0 65536,
      .registerWriteOpcode badRq 0 0 [], .registerWriteOpcode (rqT 1) (2 ^ 32) 0 [], .registerWriteOpcode (rqT 1) 0 65536 [],
      .registerWriteOpcode (rqT 1) 0 1 [], .getMode badRq, .setMode badRq 0, .setMode (rqT 1) 256, .setPowerState badRq 0,
      .setPowerState (rqT 1) 256, .modeRequestWrite badBus 0, .powerRequestWrite badBus 0, .stageBegin badRq, .commit badRq 0,
      .commit (rqT 1) (2 ^ 64), .discard badRq, .resetBinding badRq 0, .resetBinding (rqT 1) 65536, .resetPort badRq 0, .resetPort (rqT 1) 256,
      .resetManagement badRq, .resetWarm badRq, .resetCold badRq, .commandStatus badRq 0, .commandStatus (rqT 1) 65536, .abort badRq 0,
      .abort (rqT 1) 65536, .longCommandComplete 65536 false, .getPort badRq 0, .getPort (rqT 1) 256, .portControl badRq 0 0,
      .portControl (rqT 1) 256 0, .portControl (rqT 1) 0 256, .ppbConfigurationRequest badRq 0 0 0, .ppbConfigurationRequest (rqT 1) 256 0 0,
      .ppbConfigurationRequest (rqT 1) 0 (2 ^ 128) 0, .ppbConfigurationRequest (rqT 1) 0 0 (2 ^ 64), .bindVdp badRq 0 0 0 0,
      .bindVdp (rqT 1) 256 0 0 0, .bindVdp (rqT 1) 0 256 0 0, .bindVdp (rqT 1) 0 0 256 0, .bindVdp (rqT 1) 0 0 0 256, .unbindVdp badRq 0 0 0,
      .unbindVdp (rqT 1) 256 0 0, .unbindVdp (rqT 1) 0 256 0, .unbindVdp (rqT 1) 0 0 256, .generateAer badRq 0 0 0, .generateAer (rqT 1) 256 0 0,
      .generateAer (rqT 1) 0 256 0, .generateAer (rqT 1) 0 0 (2 ^ 256), .ldConfigurationRequest badRq 0 0 0 0] : List Instr).all (fun i => ! instrWf i) = true := by decide +kernel

/-- A command with one operand outside the field that carries it is refused: one term for each of these checks. -/
theorem test_wf_refuses_4 : (
    [.ldConfigurationRequest (rqT 1) 256 0 0 0, .ldConfigurationRequest (rqT 1) 0 256 0 0, .ldConfigurationRequest (rqT 1) 0 0 (2 ^ 128) 0,
      .ldConfigurationRequest (rqT 1) 0 0 0 (2 ^ 64), .ldMemoryRequest badRq 0 0 0 0 0 0, .ldMemoryRequest (rqT 1) 256 0 0 0 0 0,
      .ldMemoryRequest (rqT 1) 0 256 0 0 0 0, .ldMemoryRequest (rqT 1) 0 0 (2 ^ 64) 0 0 0, .ldMemoryRequest (rqT 1) 0 0 0 65536 0 0,
      .ldMemoryRequest (rqT 1) 0 0 0 0 1 0, .ldMemoryRequest (rqT 1) 0 0 0 0 0 1, .mldTunnel badRq 0 0 0 0 0, .mldTunnel (rqT 1) 256 0 0 0 0,
      .mldTunnel (rqT 1) 0 256 0 0 0, .mldTunnel (rqT 1) 0 0 0 (2 ^ 32) 0, .mldTunnel (rqT 1) 0 0 0 4095 0, .mldTunnel (rqT 1) 0 0 1 0 0,
      .fmApiCommand 0 132 0 0 .identify, .fmApiCommand 0 0 256 0 .identify, .fmApiCommand 0 0 0 129 .identify, .getChannel badRq 0,
      .getChannel (rqT 1) 256, .slotPowerOn badRq 0 0, .slotPowerOn (rqT 1) 256 0, .slotPowerOn (rqT 1) 0 256, .slotPowerOff badRq 0,
      .slotPowerOff (rqT 1) 256, .clearLatch badRq 0, .clearLatch (rqT 1) 256, .slotOnWrite badBus 0, .slotOnWrite busT 32, .slotOffWrite badBus 0,
      .slotOffWrite busT 32, .slotClrWrite badBus 0, .slotClrWrite busT 32, .slotApply badBus 0, .slotApply busT 32,
      .slotSample 32 false 0 0 0 0 0 0, .insertionDelayEnd 32, .offTimeEnd 32, .coolingExpiry 32, .fastTrip 32 0, .readFaultRecords badRq 0 0,
      .readFaultRecords (rqT 1) 65536 0, .readFaultRecords (rqT 1) 0 256, .clearFaultRecord badRq 0, .clearFaultRecord (rqT 1) 65536,
      .faultClearWrite badBus 0, .routeEventSource badRq 0 0 0, .routeEventSource (rqT 1) 65536 0 0, .routeEventSource (rqT 1) 0 256 0,
      .routeEventSource (rqT 1) 0 0 256, .routeWrite badBus 0 0, .routeWrite busT 512 0, .faultReport 65536 0 false none 0,
      .faultReport 0 65536 false none 0, .faultReport 0 0 false (some (2 ^ 64)) 0, .eventClaim badBus 0, .eventClaim busT 132,
      .eventDone badBus 0 0, .eventDone busT 132 0, .eventPendingClear badBus 0 0, .eventPendingClear busT (2 ^ 32) 0, .eventScanSelect badBus 0 0,
      .eventScanSelect busT 132 0, .pinSourceChange 512 false 0, .configureCounterUnit badRq 0 (List.replicate 8 0),
      .configureCounterUnit (rqT 1) 65536 (List.replicate 8 0), .configureCounterUnit (rqT 1) 0 [],
      .configureCounterUnit (rqT 1) 0 (List.replicate 8 (2 ^ 32)), .dumpRing badRq 0 0 0 0, .dumpRing (rqT 1) 256 0 0 0,
      .dumpRing (rqT 1) 0 (2 ^ 64) 0 0, .dumpRing (rqT 1) 0 0 (2 ^ 32) 0, .dumpRing (rqT 1) 0 0 0 65536, .ringEnableWrite badBus 0,
      .readBindingCounters badRq 0, .readBindingCounters (rqT 1) 65536, .readMargins badRq 0 0 0, .readMargins (rqT 1) 256 0 0] : List Instr).all (fun i => ! instrWf i) = true := by decide +kernel

/-- A command with one operand outside the field that carries it is refused: one term for each of these checks. -/
theorem test_wf_refuses_5 : (
    [.readMargins (rqT 1) 0 65536 0, .readMargins (rqT 1) 0 0 65536, .readForecast badRq, .forecastDismiss badBus 0, .rateCapClear badBus 0,
      .rateCapClear busT 128, .mirrorSingle 2 0, .resilverDone 2, .imageChunk badRq 0 0 0 {}, .imageChunk (rqT 1) 256 0 0 {},
      .imageChunk (rqT 1) 0 (2 ^ 32) 0 {}, .imageChunk (rqT 1) 0 0 4092 {}, .activateImage badRq 0, .activateImage (rqT 1) 256,
      .raiseSvnFloor badRq 0 false, .raiseSvnFloor (rqT 1) 256 false, .personality badRq persT, .personality (rqT 1) { persT with level := 256 },
      .groupMembership badRq 0 0 [], .groupMembership (rqT 1) 65536 0 [], .groupMembership (rqT 1) 0 256 [],
      .groupMembership (rqT 1) 0 0 (List.replicate 9 (0, 0)), .groupMembership (rqT 1) 0 0 [(2 ^ 32, 0)],
      .groupMembership (rqT 1) 0 0 [(0, 2 ^ 384)], .fenceToken badRq fenceT, .fenceToken (rqT 1) { fenceT with group := 65536 },
      .transferHome badRq 0 0 0 false, .transferHome (rqT 1) 65536 0 0 false, .transferHome (rqT 1) 0 256 0 false,
      .transferHome (rqT 1) 0 0 (2 ^ 64) false, .commitMessageReceived 8 remT 0 0 false [] [] [] [] [],
      .commitMessageReceived 0 remT 128 0 false [] [] [] [] [], .commitMessageReceived 0 { remT with id := 16384 } 0 0 false [] [] [] [] [],
      .regionListReceived 8 [] false, .regionListReceived 0 [{ remT with id := 16384 }] false, .peerUnreachable 8, .peerReachable 8,
      .debugRead badRq 0 0 0, .debugRead (rqT 1) (2 ^ 64) 0 0, .debugRead (rqT 1) 0 65536 0, .debugRead (rqT 1) 0 0 1, .debugWrite badRq 0 0 0,
      .debugWrite (rqT 1) (2 ^ 64) 0 0, .debugWrite (rqT 1) 0 65536 0, .debugWrite (rqT 1) 0 0 1, .managementResetRequest badBus,
      .warmResetWrite badBus, .coldResetWrite badBus, .auxPwrgdRise 16, .resetNRelease 16, .hostPortLinkLoss 128,
      .configurationWrite 129 (.msix true), .deviceErrorMessage 128 none, .upstreamRead 128 0, .copyWriteAck 64 0 0, .transferReadyReceived 16384 0,
      .transferReadyReceived 0 8, .transferConfirmReceived 16384 0, .transferConfirmReceived 0 8, .vendorLifecycleCommand badRq false,
      .spdmKeyExchange 0 0 0 false 0 0 false, .spdmKeyExchange (2 ^ 32) 0 0 false 0 0 false, .spdmKeyExchange 1 132 0 false 0 0 false,
      .spdmKeyExchange 1 0 256 false 0 0 false, .spdmKeyExchange 1 0 0 false (2 ^ 384) 0 false, .spdmKeyExchange 1 0 0 false 0 (2 ^ 384) false,
      .spdmEndSession (2 ^ 32), .unsupportedOpcode badRq 0, .unsupportedOpcode (rqT 1) 65536, .i3cInterruptEnable 2 false,
      .barRegisterRead badBus 0, .barRegisterRead busT (2 ^ 32)] : List Instr).all (fun i => ! instrWf i) = true := by decide +kernel
/-! ### The spec's worked examples -/

/-- R36, worked example of commits: accepted before Dusk for the next frame, inside the Dusk window for the frame after it. -/
theorem test_effective_frame :
    ({ W0 with time.frame := 7340032 } : State).effFrame = 7340033 ∧
    ({ W0 with time.frame := 7340032, time.dusk := true } : State).effFrame = 7340034 := by decide +kernel

/-- The worked example of chapter 1: the PRT block of port 54 begins at 0x0136_0000. -/
theorem test_port_block : PRT_CFG 54 = 0x01360000 := by decide +kernel

/-- R80 and the worked example of lanes: with lane 403 parked, port 100 takes x8 counted from lane 415; with lane 412 parked too, x2. -/
theorem test_lane_sets :
    (W0.setBit (LAN_STAT_PARKED 403) true).bestSet 100 4 = some (3, true) ∧
    ((((W0.setBit (LAN_STAT_PARKED 403) true).setBit (LAN_STAT_PARKED 412) true).bestSet 100 4).map (fun x => x.1)) = some 1 := by decide +kernel

/-- R103 and the worked example of ISL headroom: 3,533 slots at x16 and 1,921 at x8, at 128 GT/s with protection. -/
theorem test_isl_headroom :
    (((W4 4 {}).setFld (PRT_LINK_STAT_RATE 12) 7).setFld (PRT_LINK_STAT_WIDTH 12) 4).headroom 0 248 13 = 3533 ∧
    (((W4 4 {}).setFld (PRT_LINK_STAT_RATE 12) 7).setFld (PRT_LINK_STAT_WIDTH 12) 3).headroom 0 248 13 = 1921 := by decide +kernel

/-- Three class-3 messages of host ports 8, 12 and 16 for output 20, with the priorities and ceilings of Table 6-4's example. -/
def arbT : State :=
  { ((W1.setCur ⟨arbAddr 20 8, 18, 6, 0⟩ 42).setCur ⟨arbAddr 20 12, 12, 6, 0⟩ 42).setCur ⟨arbAddr 20 16, 6, 6, 0⟩ 25 with
    xbr.voq := [(voqKey 8 20 3, [{ msgT with src := 8, dst := 20 }]), (voqKey 12 20 3, [{ msgT with src := 12, dst := 20 }]),
      (voqKey 16 20 3, [{ msgT with src := 16, dst := 20 }])] }

/-- The winner of one arbitration. -/
def winT (eff : NMap Nat) (ptr : NMap Nat) : Option Nat :=
  let s : State := { arbT with xbr.eff := eff, xbr.ptr := ptr }
  (s.winner 20 (s.eligible 20 3 15)).map (fun x => x.1)

/-- Table 6-4: grants 1, 3 and 4 at output 20. -/
theorem test_arbitration :
    winT [] [] = some 8 ∧ winT [(20 * 256 + 8, 3), (20 * 256 + 16, 3)] [(20, 13)] = some 16 ∧
    winT [(20 * 256 + 8, 4), (20 * 256 + 12, 3)] [(20, 17)] = some 8 := by decide +kernel

/-- Binding 517 of host port 6 and Confidential region 904, with its two extents (worked example of chapter 7). -/
def bindT : State :=
  let s : State := { W0 with
    bnd := { W0.bnd with
      regions := [(904, { regT with cls := 1, size := 30000, ttBase := 0x2000000 })],
      ext := [(517, [{ extT with len := 4096 }, { extT with dpa := 4096, len := 8192, rofs := 16384 }])],
      tt := [(0x0200468F, { valid := true, moving := false, pool := 97, ppi := 181021, gen := 0 })] } }
  (((((s.setCur (BND_CFG_VALID 517) 1).setCur (BND_CFG_HOST_PORT 517) 6).setCur (BND_REGION_REGION 517) 904).setFld (BND_HDM_BASE_HI_VALUE 517) 0x400).setFld
    (BND_HDM_SIZE_LO_VALUE 517) 15).setBit (BND_HDM_CTL_COMMITTED 517) true |>.setBit (PRT_LINK_STAT_UP 97) true

/-- The worked example of translation: the device address, the extent that holds it, and the pool address. -/
theorem test_translation :
    bindT.dpaOf 517 0x04005A3C1240 = some 0x5A3C1240 ∧ (bindT.extentAt 517 0x5A3C1240).map (fun e => e.rofs) = some 16384 ∧
    (bindT.poolOf (0x0200468F * 4096 + 0x1240 / 64)).toOption = some (97, 0xB0C741240) := by decide +kernel

/-- The write of the bridge's worked example: bytes 4 to 11 of the line at window offset 0x840, big-endian units of four bytes. -/
def beT : BAcc :=
  { baccT with far := 0xF0000840, wd := 4, big := true, write := true, one := false, mask := 0xFF0, data := 0x181716151413121100000000 }

/-- The worked example of the bridge: units 1 and 2 go to 0xF000_0844 and 0xF000_0848 with their bytes reversed. -/
theorem test_bridge_units :
    beT.unitAddr 1 = 0xF0000844 ∧ beT.unitData 1 = 0x11121314 ∧ beT.unitAddr 2 = 0xF0000848 ∧ beT.unitData 2 = 0x15161718 := by decide +kernel

/-- Host port 6 with private sources 2 and 20 pending and unmasked. -/
def evtT : State :=
  ((((W1.setCur (PRT_CFG_ROLE 6) 1).setBit (pendFld 6 2) true).setBit (pendFld 6 20) true).setFld ⟨EVT_T_MASK_LO 6, 0, 32, 0⟩ 0)

/-- R391 and its worked example: the first claim returns source 2 and makes it active. -/
theorem test_event_claim :
    (match exec (.eventClaim { fn := 6, be := 15 } 6) evtT with
      | .next t => t.out.head? == some (.busData 6 (EVT_T_CLAIM 6) 0x80000002#32) && t.evt.active == [(6, [2])] && ! t.bit (pendFld 6 2)
      | _ => false) = true := by decide +kernel

/-! ### Reset words and refused accesses -/

/-- Reset words the tables give: LOS_THR 5, LOL_PPM 0x1E and EYE_EN 1 of a lane (chapter 4). -/
theorem test_reset_words :
    State.reset.fld (LAN_CTL_LOS_THR 7) = 5 ∧ State.reset.fld (LAN_CTL_LOL_PPM 7) = 0x1E ∧ State.reset.bit (LAN_CTL_EYE_EN 7) = true := by decide +kernel

/-- R4: a write with three byte enables is dropped and counted as a refused access. -/
theorem test_partial_write :
    (match exec (.registerWrite { fn := 128, be := 7 } (LAN_CTL 7) 0#32) W0 with
      | .next t => t.refused == 1 && t.fld (LAN_CTL_LOS_THR 7) == 5
      | _ => false) = true := by decide +kernel

/-- R33: a frame has 512, 1,024, 2,048 or 4,096 ticks, and an idle step passes one tick of it. -/
theorem test_idle_tick :
    (match step W0 with
      | .next t => t.time.tick == 1 && t.time.frame == W0.time.frame
      | _ => false) = true := by decide +kernel

/-! ### Parts of commands -/

/-- Each part of a command is checked: a packet header, a BAR access, a gate rule, tokens, a message, an ISL cell and marker, a bulk descriptor. -/
theorem test_wf_refuses_parts :
    [({ rqT 1 with eid := 256 } : Rq), { rqT 1 with version := 256 }, { rqT 1 with sess := 65536 }, { rqT 1 with seq := 2 ^ 32 },
      { rqT 1 with tag := 65536 }, { rqT 1 with plen := 65536 }, { rqT 1 with carrier := 129 }].all (fun r => ! r.wf) = true ∧
    [({ fn := 129, be := 0 } : Bus)].all (fun b => ! b.wf) = true ∧
    [({ badRule with init := 0, base := 2 ^ 64 } : GRule), { badRule with init := 0, fin := 2 ^ 64 }, { badRule with init := 0, mask := 65536 },
      { badRule with init := 0, perm := 256 }, { badRule with init := 0, rest := 2 ^ 32 }].all (fun r => ! r.wf) = true ∧
    [({ consT with tenant := 65536 } : Consent), { consT with member := 256 }, { consT with port := 256 }, { consT with expires := 2 ^ 64 },
      { consT with nonce := 2 ^ 64 }, { consT with resv := 65536 }, { consT with tag := 2 ^ 192 }].all (fun t => ! t.wf) = true ∧
    [({ tokT with version := 256 } : Token), { tokT with device := 2 ^ 384 }, { tokT with nonce := 2 ^ 256 }, { tokT with scope := 2 ^ 64 },
      { tokT with lifetime := 2 ^ 64 }, { tokT with arg := 2 ^ 384 }].all (fun t => ! t.wf) = true ∧
    [({ fenceT with type := 65536 } : FenceTok), { fenceT with version := 256 }, { fenceT with member := 256 }, { fenceT with expel := 256 },
      { fenceT with epoch := 2 ^ 32 }, { fenceT with device := 2 ^ 384 }, { fenceT with nonce := 2 ^ 256 }].all (fun t => ! t.wf) = true ∧
    [({ persT with type := 65536 } : PersCfg), { persT with version := 256 }, { persT with owner := 2 ^ 384 }, { persT with serial := 2 ^ 64 }].all
      (fun c => ! c.wf) = true ∧
    [({ hreqT with src := 256 } : HReq), { hreqT with member := 8 }, { hreqT with port := 128 }, { hreqT with dpa := 2 ^ 64 },
      { hreqT with data := 2 ^ 512 }].all (fun r => ! r.wf) = true := by decide +kernel

/-- Each part of a message, a cell, a descriptor and a region on a peer's list is checked. -/
theorem test_wf_refuses_traffic :
    [({ descT with flags := 256 } : BulkDesc), { descT with srcBind := 65536 }, { descT with dstBind := 65536 }, { descT with srcDpa := 2 ^ 64 },
      { descT with dstDpa := 2 ^ 64 }, { descT with len := 2 ^ 64 }, { descT with cpl := 2 ^ 64 }].all (fun d => ! d.wf) = true ∧
    [({ msgT with src := 256 } : Msg), { msgT with dst := 256 }, { msgT with cells := 0 }, { msgT with shr := msgT.cells + 1 },
      { msgT with tc := some 8 }].all (fun m => ! m.wf) = true ∧
    [({ cellT with seq := 65536 } : IslCell), { cellT with ack := 65536 }, { cellT with xoff := 16 }].all (fun c => ! c.wf) = true ∧
    [({ remT with tenant := 1024 } : RemRegion), { remT with cls := 3 }, { remT with size := 0 }].all (fun r => ! r.wf) = true ∧
    FlitItem.wf (.tail 0 5 false errT) = false ∧ FlitItem.wf (.more 256 0 errT) = false := by decide +kernel

/-! ### The hypotheses of the statements are met -/

/-- An answer that is some value, from its option. -/
theorem except_ok {α ε : Type} {x : Except ε α} {a : α} (h : x.toOption = some a) : x = .ok a := by
  cases x <;> simp_all [Except.toOption]

/-- An answer that is an error, from its option. -/
theorem except_error {α ε : Type} {x : Except ε α} {e : ε} (h : (match x with | .error y => some y | .ok _ => none) = some e) : x = .error e := by
  cases x <;> simp_all

/-- A value and the state beside it, from the option of the value. -/
theorem pair_ok {ε α β : Type} {x : Except ε α × β} {a : α} (h : x.1.toOption = some a) : x = (.ok a, x.2) := by
  obtain ⟨y, b⟩ := x
  exact Prod.ext (except_ok h) rfl

/-- States and operands that meet the hypotheses of each clause of QueueFront. -/
theorem wit_QueueFront :
    (∃ (s : State) (c : Instr) (rest : List Instr), s.pending = c :: rest) ∧
    (∃ (s : State), s.pending = [] ∧ s.mbx.held = [] ∧ s.md.waiting = []) :=
    ⟨⟨W0.withCommand .trst, .trst, [], by decide +kernel⟩,
      ⟨W0, by decide +kernel⟩⟩

/-- States and operands that meet the hypotheses of FrameClock. -/
theorem wit_FrameClock :
    (∃ (s : State) (t : State), ClockOk s.time ∧ step s = .next t) :=
      ⟨W0, W0.tickOn, by unfold ClockOk; decide +kernel, by rfl⟩

/-- States and operands that meet the hypotheses of each clause of UndefinedAddresses. -/
theorem wit_UndefinedAddresses :
    (∃ (s : State) (a : Nat), s.md.boot = .up ∧ s.busWaits a = false ∧ s.defines a = false) ∧
    (∃ (s : State) (a : Nat), s.md.boot = .up ∧ s.busWaits a = false ∧ s.defines a = false) ∧
    (∃ (s : State) (rq : Rq) (p : Principal) (a : Nat), s.serves rq 0x0110 p = true ∧ s.inHold = false ∧ s.defines a = false) ∧
    (∃ (s : State) (rq : Rq) (p : Principal) (a : Nat), s.serves rq 0x0111 p = true ∧ s.inHold = false ∧ s.defines a = false) :=
    ⟨⟨W0, 0xFFFFC, by decide +kernel⟩,
      ⟨W0, 0xFFFFC, by decide +kernel⟩,
      ⟨W0, (rqT 1), .owner, 0xFFFFC, by decide +kernel⟩,
      ⟨W0, (rqT 1), .owner, 0xFFFFC, by decide +kernel⟩⟩

/-- States and operands that meet the hypotheses of BusMasterReplay. -/
theorem wit_BusMasterReplay :
    (∃ (s : State) (fn : Nat), fn ≤ 128 ∧ (s.mf fn).bme = false ∧ s.targetUp fn = true) :=
      ⟨W0, 128, by decide +kernel⟩

/-- States and operands that meet the hypotheses of each clause of SessionSequence. -/
theorem wit_SessionSequence :
    (∃ (s : State) (rq : Rq) (x : Session) (rp : Reply), x.tagOk 0x0201 rq = true ∧ s.md.boot = .up ∧ s.bit MBX_STAT_READY = true ∧ rq.version = 1 ∧
      rq.plen ≤ 4096 ∧ rq.sess ≠ 0 ∧ s.sessionOf rq = some x ∧ x.kind ≠ .host ∧ rq.auth = true ∧ x.last = some (rq.seq, rq.tag) ∧ x.stored = some
      rp) ∧
    (∃ (s : State) (op : Nat) (rq : Rq) (x : Session) (rp : Reply), x.tagOk op rq = true ∧ s.md.boot = .up ∧ s.bit MBX_STAT_READY = true ∧
      rq.version = 1 ∧ rq.plen ≤ 4096 ∧ rq.sess ≠ 0 ∧ s.sessionOf rq = some x ∧ x.kind ≠ .host ∧ rq.auth = true ∧ x.last = some (rq.seq, rq.tag) ∧
      x.stored = some rp) ∧
    (∃ (s : State) (op : Nat) (rq : Rq) (x : Session), x.tagOk op rq = true ∧ s.md.boot = .up ∧ s.bit MBX_STAT_READY = true ∧ rq.version = 1 ∧
      rq.plen ≤ 4096 ∧ rq.sess ≠ 0 ∧ s.sessionOf rq = some x ∧ x.kind ≠ .host ∧ rq.auth = true ∧ x.last ≠ some (rq.seq, rq.tag) ∧ rq.seq ≠
      x.expected) ∧
    (∃ (s : State) (op : Nat) (rq : Rq) (x : Session), (rq.auth = false ∨ x.tagOk op rq = false) ∧ s.md.boot = .up ∧ s.bit MBX_STAT_READY = true ∧
      rq.version = 1 ∧ rq.plen ≤ 4096 ∧ rq.sess ≠ 0 ∧ s.sessionOf rq = some x ∧ x.kind ≠ .host ∧ x.fails < 15) ∧
    (∃ (s : State) (op : Nat) (rq : Rq) (x : Session), (rq.auth = false ∨ x.tagOk op rq = false) ∧ s.md.boot = .up ∧ s.bit MBX_STAT_READY = true ∧
      rq.version = 1 ∧ rq.plen ≤ 4096 ∧ rq.sess ≠ 0 ∧ s.sessionOf rq = some x ∧ x.kind ≠ .host ∧ 15 ≤ x.fails) ∧
    (∃ (s : State) (op : Nat) (rq : Rq) (body : Principal → State → Ans) (x : Session), x.tagOk op rq = true ∧ s.md.boot = .up ∧ s.bit
      MBX_STAT_READY = true ∧ rq.version = 1 ∧ rq.plen ≤ 4096 ∧ rq.sess ≠ 0 ∧ s.sessionOf rq = some x ∧ x.kind ≠ .host ∧ rq.auth = true ∧ rq.seq =
      0xFFFFFFFF ∧ x.expected = 0xFFFFFFFF ∧ x.last ≠ some (rq.seq, rq.tag) ∧ (body x.prin (s.enter rq x)).later = false) ∧
    (∃ (s : State) (rq : Rq), s.md.boot = .up ∧ s.bit MBX_STAT_READY = true ∧ rq.version = 1 ∧ rq.plen ≤ 4096 ∧ rq.sess ≠ 0 ∧ s.sessionOf rq = none) ∧
    (∃ (s : State) (rq : Rq), s.md.boot = .up ∧ s.bit MBX_STAT_READY = false ∧ s.queued rq.route < 16) ∧
    (∃ (s : State) (rq : Rq), s.md.boot = .up ∧ s.bit MBX_STAT_READY = false ∧ 16 ≤ s.queued rq.route) :=
    ⟨⟨{ W0 with mbx.sess := [(1, { sessT .owner with kind := .privileged, last := some (5, 9), stored := some replyT })] },
        { rqT 1 with auth := true, mac := Session.requestTag ({ sessT .owner with kind := .privileged, last := some (5, 9), stored := some replyT }) 0x0201 { rqT 1 with auth := true } },
        { sessT .owner with kind := .privileged, last := some (5, 9), stored := some replyT }, replyT, beq_self_eq_true _, by decide +kernel⟩,
      ⟨{ W0 with mbx.sess := [(1, { sessT .owner with kind := .privileged, last := some (5, 9), stored := some replyT })] }, 0x0201,
        { rqT 1 with auth := true, mac := Session.requestTag ({ sessT .owner with kind := .privileged, last := some (5, 9), stored := some replyT }) 0x0201 { rqT 1 with auth := true } },
        { sessT .owner with kind := .privileged, last := some (5, 9), stored := some replyT }, replyT, beq_self_eq_true _, by decide +kernel⟩,
      ⟨{ W0 with mbx.sess := [(1, { sessT .owner with kind := .privileged })] }, 0x0201,
        { rqT 1 with auth := true, seq := 7, mac := Session.requestTag ({ sessT .owner with kind := .privileged }) 0x0201 { rqT 1 with auth := true, seq := 7 } },
        { sessT .owner with kind := .privileged }, beq_self_eq_true _, by decide +kernel⟩,
      ⟨{ W0 with mbx.sess := [(1, { sessT .owner with kind := .privileged })] }, 0, rqT 1, { sessT .owner with kind := .privileged }, .inl rfl,
        by decide +kernel⟩,
      ⟨{ W0 with mbx.sess := [(1, { sessT .owner with kind := .privileged, fails := 15 })] }, 0, rqT 1,
        { sessT .owner with kind := .privileged, fails := 15 }, .inl rfl, by decide +kernel⟩,
      ⟨{ W0 with mbx.sess := [(1, { sessT .owner with kind := .privileged, firstSeq := 0xFFFFFFFF })] }, 0x0201,
        { rqT 1 with auth := true, seq := 0xFFFFFFFF, mac := Session.requestTag ({ sessT .owner with kind := .privileged, firstSeq := 0xFFFFFFFF }) 0x0201 { rqT 1 with auth := true, seq := 0xFFFFFFFF } },
        (fun _ s => s.okNow), { sessT .owner with kind := .privileged, firstSeq := 0xFFFFFFFF }, beq_self_eq_true _, by decide +kernel⟩,
      ⟨W0, rqT 9, by decide +kernel⟩,
      ⟨W0.setBit MBX_STAT_READY false, (rqT 1), by decide +kernel⟩,
      ⟨{ W0.setBit MBX_STAT_READY false with mbx.held := List.replicate 16 (128, .trst) }, (rqT 1), by decide +kernel⟩⟩

/-- States and operands that meet the hypotheses of each clause of ModeAndPowerRequests. -/
theorem wit_ModeAndPowerRequests :
    (∃ (s : State) (rq : Rq) (p : Principal), s.serves rq 0x0200 p = true) ∧
    (∃ (s : State) (rq : Rq) (p : Principal) (byte : Nat) (m : Mode), s.modeCheck p (byte % 16) (byte / 128 % 2 == 1) = .ok m ∧ s.serves rq 0x0201 p
      = true) ∧
    (∃ (s : State) (rq : Rq) (p : Principal) (byte : Nat) (c : Status), s.modeCheck p (byte % 16) (byte / 128 % 2 == 1) = .error c ∧ s.serves rq
      0x0201 p = true) ∧
    (∃ (s : State) (rq : Rq) (p : Principal) (code : Nat) (w : Power), s.powerCheck p code = .ok w ∧ s.serves rq 0x0202 p = true ∧ s.inHold = false) ∧
    (∃ (s : State) (rq : Rq) (p : Principal) (code : Nat) (c : Status), s.powerCheck p code = .error c ∧ s.serves rq 0x0202 p = true) ∧
    (∃ (s : State), s.md.hold = .held) ∧
    (∃ (s : State), s.md.hold = .entering) ∧
    (∃ (s : State) (w : Power) (a : Nat), s.md.hold = .waking w a) :=
    ⟨⟨W0, (rqT 1), .owner, by decide +kernel⟩,
      ⟨W0, (rqT 1), .owner, 2, .provisioning, except_ok (by decide +kernel), by decide +kernel⟩,
      ⟨W0, (rqT 1), .owner, 1, .state, except_error (by decide +kernel), by decide +kernel⟩,
      ⟨W0, (rqT 1), .owner, 1, .economy, except_ok (by decide +kernel), by decide +kernel⟩,
      ⟨W0, (rqT 1), .owner, 9, .parameter, except_error (by decide +kernel), by decide +kernel⟩,
      ⟨{ W0 with md.hold := .held }, by decide +kernel⟩,
      ⟨{ W0 with md.hold := .entering }, by decide +kernel⟩,
      ⟨{ W0 with md.hold := .waking .full 0 }, .full, 0, by decide +kernel⟩⟩

/-- States and operands that meet the hypotheses of each clause of StagingAndCommit. -/
theorem wit_StagingAndCommit :
    (∃ (s : State) (rq : Rq) (p : Principal), s.serves rq 0x0203 p = true ∧ (s.mbx.lock = none ∨ s.mbx.lock = some rq.sess)) ∧
    (∃ (s : State) (rq : Rq) (p : Principal) (n : Nat), s.serves rq 0x0203 p = true ∧ s.mbx.lock = some n ∧ n ≠ rq.sess) ∧
    (∃ (s : State) (rq : Rq) (p : Principal), s.serves rq 0x0205 p = true ∧ s.mbx.lock = some rq.sess) ∧
    (∃ (s : State) (rq : Rq) (p : Principal), s.serves rq 0x0205 p = true ∧ s.mbx.lock ≠ some rq.sess) ∧
    (∃ (s : State) (rq : Rq) (p : Principal), s.serves rq 0x0204 p = true ∧ s.md.quarDue = none ∧ s.commitRefusal rq 0 = none ∧ lowestBar
      ((s.entered rq).bars s.effFrame) = none ∧ s.consentTwice = false) ∧
    (∃ (s : State) (rq : Rq) (p : Principal) (f : Nat), s.serves rq 0x0204 p = true ∧ s.md.quarDue = none ∧ f ≠ 0 ∧ s.commitRefusal rq f = none ∧
      lowestBar ((s.entered rq).bars f) = none ∧ s.consentTwice = false) ∧
    (∃ (s : State) (rq : Rq) (p : Principal) (at_ : Nat) (c : Status), s.serves rq 0x0204 p = true ∧ s.md.quarDue = none ∧ s.commitRefusal rq at_ =
      some c) ∧
    (∃ (s : State) (rq : Rq) (at_ : Nat), s.commitRefusal rq at_ = none) :=
    ⟨⟨W0, (rqT 1), .owner, by decide +kernel⟩,
      ⟨{ W0 with mbx.lock := some 2 }, (rqT 1), .owner, 2, by decide +kernel⟩,
      ⟨{ W0.stageWord (SHP_RATE 5) 7 with mbx.lock := some 1 }, (rqT 1), .owner, by decide +kernel⟩,
      ⟨W0, (rqT 1), .owner, by decide +kernel⟩,
      ⟨{ W0.stageWord (SHP_RATE 5) 7 with mbx.lock := some 1 }, (rqT 1), .owner, by decide +kernel⟩,
      ⟨{ W0.stageWord (SHP_RATE 5) 7 with mbx.lock := some 1 }, (rqT 1), .owner, 3, by decide +kernel⟩,
      ⟨W0, (rqT 1), .owner, 0, .state, by decide +kernel⟩,
      ⟨{ W0.stageWord (SHP_RATE 5) 7 with mbx.lock := some 1 }, (rqT 1), 0, by decide +kernel⟩⟩

/-- States and operands that meet the hypotheses of each clause of ResetRequests. -/
theorem wit_ResetRequests :
    (∃ (s : State) (rq : Rq) (p : Principal) (port : Nat), s.serves rq 0x0206 p = true ∧ p.isOF = true ∧ port < 128 ∧ s.formed port = true ∧
      s.md.mode ≠ .quarantine ∧ s.dataOff = false) ∧
    (∃ (s : State) (rq : Rq) (p : Principal), s.serves rq 0x0206 p = true ∧ p.isOF = true ∧ s.md.mode ≠ .quarantine ∧ s.md.mrst = none) ∧
    (∃ (s : State) (rq : Rq), s.serves rq 0x0206 .owner = true) ∧
    (∃ (s : State) (rq : Rq), s.serves rq 0x0206 .owner = true) ∧
    (∃ (s : State) (rq : Rq) (p : Principal), s.serves rq 0x0206 p = true ∧ p ≠ .owner) ∧
    (∃ (s : State) (n : Nat), 25 ≤ n ∧ s.md.resetLow = false ∧ s.md.boot = .up ∧ s.md.mrst = none) ∧
    (∃ (s : State), s.md.restart ≠ 0) :=
    ⟨⟨W0, (rqT 1), .owner, 0, by decide +kernel⟩,
      ⟨W0, (rqT 1), .owner, by decide +kernel⟩,
      ⟨W0, (rqT 1), by decide +kernel⟩,
      ⟨W0, (rqT 1), by decide +kernel⟩,
      ⟨W0, (rqT 2), (.fm 0), by decide +kernel⟩,
      ⟨W0, 25, by decide +kernel⟩,
      ⟨{ W0 with md.restart := 1 }, by decide +kernel⟩⟩

/-- States and operands that meet the hypotheses of each clause of ControlWrites. -/
theorem wit_ControlWrites :
    (∃ (s : State) (b : Bus), s.takesWrite b GLB_MODE_REQ = true ∧ (s.busP b).isOF = true ∧ s.md.mode = .provisioning ∧ s.ident.life = .owned ∧
      s.md.modeReq = none) ∧
    (∃ (s : State) (b : Bus) (c : Nat), s.takesWrite b GLB_MODE_REQ = true ∧ (s.busP b).isOF = true ∧ c ≤ 1 ∧ s.md.mode ≠ .standby ∧ s.md.mode ≠
      .quarantine ∧ s.md.pwrReq = none ∧ s.inHold = false) ∧
    (∃ (s : State) (b : Bus), s.takesWrite b MBX_CTL = true ∧ (s.busP b).isOF = true ∧ s.md.mrst = none) ∧
    (∃ (s : State) (b : Bus), s.takesWrite b GLB_RST_CTL = true ∧ s.busP b = .owner) ∧
    (∃ (s : State) (b : Bus), s.takesWrite b GLB_RST_CTL = true ∧ s.busP b = .owner) ∧
    (∃ (s : State) (b : Bus) (w : Word), s.takesWrite b GLB_RST_CTL = true ∧ (s.busP b).isOF = true ∧ s.formed (getBits w 8 7) = true) ∧
    (∃ (s : State) (b : Bus), s.takesWrite b FRM_LEN = true ∧ (s.busP b).isOF = true ∧ s.namedRefusal (s.fld64 FRM_LEN_AT_LO_AT FRM_LEN_AT_HI_AT) =
      none) ∧
    (∃ (s : State) (b : Bus), s.takesWrite b FRM_SYNC_CTL = true ∧ (s.busP b).isOF = true ∧ s.fld FRM_SYNC_CTL_ROLE = 2) ∧
    (∃ (s : State) (b : Bus) (w : Word), s.takesWrite b FRM_SYNC_CTL = true ∧ (s.busP b).isOF = true ∧ getBits w 0 2 ≠ 3 ∧ getBits w 0 2 ≠ s.fld
      FRM_SYNC_CTL_ROLE) ∧
    (∃ (s : State) (b : Bus) (w : Word), s.takesWrite b FRM_SYNC_CTL = true ∧ (s.busP b).isOF = true ∧ getBits w 0 2 = 3) :=
    ⟨⟨{ W0 with md.mode := .provisioning }, busT, by decide +kernel⟩,
      ⟨W0, busT, 0, by decide +kernel⟩,
      ⟨W0, busT, by decide +kernel⟩,
      ⟨W0, busT, by decide +kernel⟩,
      ⟨W0, busT, by decide +kernel⟩,
      ⟨W0, busT, 0, by decide +kernel⟩,
      ⟨(W0.setFld FRM_LEN_AT_LO_AT 9), busT, by decide +kernel⟩,
      ⟨W0.setFld FRM_SYNC_CTL_ROLE 2, busT, by decide +kernel⟩,
      ⟨W0, busT, 1, by decide +kernel⟩,
      ⟨W0, busT, 3, by decide +kernel⟩⟩

/-- States and operands that meet the hypotheses of each clause of LongCommands. -/
theorem wit_LongCommands :
    (∃ (s : State) (rq : Rq) (p : Principal) (h : Nat) (k : Nat) (l : Lc), s.serves rq 0x0207 p = true ∧ s.lcOf h = some (k, l) ∧ lcVisible p
      rq.sess l = true) ∧
    (∃ (s : State) (h : Nat) (k : Nat) (l : Lc), s.lcOf h = some (k, l) ∧ (l.st = .running ∨ l.st = .past)) ∧
    (∃ (s : State) (rq : Rq) (p : Principal) (op : Nat) (c : Status), s.admits rq op p = true ∧ s.opGate p op = some c) ∧
    (∃ (s : State) (p : Principal) (op : Nat), s.modeGate p op = none ∧ opKnown op = false) ∧
    (∃ (s : State) (rq : Rq) (p : Principal) (h : Nat) (k : Nat) (l : Lc), s.serves rq 0x0208 p = true ∧ s.lcOf h = some (k, l) ∧ lcVisible p
      rq.sess l = true ∧ l.st = .running ∧ (l.op = 0x0204 ∨ l.op = 0x0702)) ∧
    (∃ (s : State) (rq : Rq) (p : Principal) (h : Nat) (k : Nat) (l : Lc), s.serves rq 0x0208 p = true ∧ s.lcOf h = some (k, l) ∧ lcVisible p
      rq.sess l = true ∧ l.st = .running ∧ l.op = 0x0401) ∧
    (∃ (s : State) (rq : Rq) (p : Principal) (h : Nat) (k : Nat) (l : Lc), s.serves rq 0x0208 p = true ∧ s.lcOf h = some (k, l) ∧ lcVisible p
      rq.sess l = true ∧ (l.st ≠ .running ∨ l.op = 0x0801 ∨ l.op = 0x0901 ∨ l.op = 0x0902)) ∧
    (∃ (s : State) (rq : Rq) (p : Principal) (h : Nat) (k : Nat) (l : Lc), s.serves rq 0x0208 p = true ∧ s.lcOf h = some (k, l) ∧ lcVisible p
      rq.sess l = false) ∧
    (∃ (s : State) (rq : Rq) (p : Principal) (h : Nat), s.serves rq 0x0208 p = true ∧ s.lcOf h = none) :=
    ⟨⟨{ W0 with mbx.lc := [(0, lcT)] }, (rqT 1), .owner, 0, 0, lcT, by decide +kernel⟩,
      ⟨{ W0 with mbx.lc := [(0, lcT)] }, 0, 0, lcT, by decide +kernel⟩,
      ⟨W0, (rqT 1), .owner, 0, .unsupported, by decide +kernel⟩,
      ⟨W0, .owner, 0, by decide +kernel⟩,
      ⟨{ W0 with mbx.lc := [(0, lcT)] }, (rqT 1), .owner, 0, 0, lcT, by decide +kernel⟩,
      ⟨{ W0 with mbx.lc := [(0, { lcT with op := 0x0401 })] }, (rqT 1), .owner, 0, 0, { lcT with op := 0x0401 }, by decide +kernel⟩,
      ⟨{ W0 with mbx.lc := [(0, { lcT with st := .past })] }, (rqT 1), .owner, 0, 0, { lcT with st := .past }, by decide +kernel⟩,
      ⟨{ W0 with mbx.lc := [(0, lcT)] }, (rqT 3), (.tenant 5), 0, 0, lcT, by decide +kernel⟩,
      ⟨W0, (rqT 1), .owner, 0, by decide +kernel⟩⟩

/-- States and operands that meet the hypotheses of each clause of DebugAndFmApi. -/
theorem wit_DebugAndFmApi :
    (∃ (s : State) (d : Dbg) (x : Session), s.md.dbg = some d ∧ d.last ≠ 0 ∧ d.last < s.time.frame ∧ mget s.mbx.sess d.sess = some x) ∧
    (∃ (s : State) (i : TapInstr), s.tapAccepts i = true) ∧
    (∃ (s : State) (i : TapInstr), s.tapAccepts i = false) ∧
    (∃ (c : Nat), 115 ≤ c) ∧
    (∃ (s : State) (rq : Rq) (p : Principal) (ofs : Nat) (len : Nat), s.serves rq 0x0F01 p = true ∧ s.inHold = false ∧ s.dataOff = false ∧ dbgForm
      (2 ^ 60 + 6 * 2 ^ 56 + ofs) len = true ∧ ofs + len ≤ 0x8000000 ∧ s.scopeBit 3 = true ∧ ((s.entered rq).gateCheck 174 initDebug .write ofs
      len).1 = .allow) ∧
    (∃ (s : State) (rq : Rq) (p : Principal) (n : Nat) (ofs : Nat), s.serves rq 0x0F00 p = true ∧ s.inHold = false ∧ s.dataOff = false ∧ (n = 5 ∨ n
      = 6) ∧ ofs % 4 = 0 ∧ ofs + 4 ≤ 0x8000000 ∧ s.scopeBit 2 = true ∧ ((s.entered rq).gateCheck (168 + n) initDebug .read ofs 4).1 = .allow) ∧
    (∃ (s : State) (source : Nat) (route : Nat) (eid : Nat) (n : Nat) (c : FmCmd), s.md.boot = .up ∧ s.bit MBX_STAT_READY = true ∧ s.attached source
      route eid = some n ∧ s.opGate (s.prinOf n) (fmOp c) = none) ∧
    (∃ (s : State) (source : Nat) (route : Nat) (eid : Nat), s.md.boot = .up ∧ s.bit MBX_STAT_READY = true ∧ s.attached source route eid = none) :=
    ⟨⟨{ W0 with md.dbg := some dbgT, time.frame := 4 }, dbgT, sessT .debugger, by decide +kernel⟩,
      ⟨W0, .bypass, by decide +kernel⟩,
      ⟨W0, .priv, by decide +kernel⟩,
      ⟨115, by decide +kernel⟩,
      ⟨{ W0 with md.dbg := some { dbgT with vendorTok := true }, ident.life := .vendorTest }, (rqT 5), .debugger, 0, 4, by decide +kernel⟩,
      ⟨{ W0 with md.dbg := some { dbgT with vendorTok := true }, ident.life := .vendorTest }, (rqT 5), .debugger, 6, 0, by decide +kernel⟩,
      ⟨W0, 0, 128, 0, 1, .identify, by decide +kernel⟩,
      ⟨W0, 0, 0, 0, by decide +kernel⟩⟩

/-- States and operands that meet the hypotheses of each clause of SessionsOpenAndClose. -/
theorem wit_SessionsOpenAndClose :
    (∃ (s : State) (rq : Rq) (p : Principal), s.serves rq 0x0100 p = true) ∧
    (∃ (s : State) (rq : Rq) (p : Principal) (spdm : Nat) (x : Spdm), s.serves rq 0x0101 p = true ∧ rq.sess = 0 ∧ s.sessionLoad < 256 ∧ mget
      s.mbx.spdm spdm = some x ∧ x.route = rq.route ∧ x.mutualAuth = true) ∧
    (∃ (s : State) (rq : Rq) (p : Principal), s.serves rq 0x0101 p = true ∧ 256 ≤ s.sessionLoad) ∧
    (∃ (s : State) (rq : Rq) (p : Principal), s.serves rq 0x0102 p = true ∧ rq.sess ≠ 0) ∧
    (∃ (s : State) (rq : Rq) (p : Principal), s.serves rq 0x0103 p = true ∧ rq.route ≤ 128 ∧ (∀ a ∈ s.mbx.attach, a.source = 0 → a.route = rq.route
      → a.sess = rq.sess)) ∧
    (∃ (s : State) (n : Nat) (route : Nat), s.md.boot = .up ∧ s.sec.wsReady = true ∧ s.spdmRoute route = true ∧ s.sessionLoad < 256 ∧ mget
      s.mbx.spdm n = none) ∧
    (∃ (s : State) (route : Nat), s.spdmRoute route = false) :=
    ⟨⟨W0, (rqT 1), .owner, by decide +kernel⟩,
      ⟨{ W0 with mbx.spdm := [(0, spdmT)] }, (rqT 0), .none, 0, spdmT, by decide +kernel⟩,
      ⟨{ W0 with mbx.spdm := List.replicate 256 (9, spdmT) }, (rqT 0), .none, by decide +kernel⟩,
      ⟨W0, (rqT 1), .owner, by decide +kernel⟩,
      ⟨W0, (rqT 1), .owner, by decide +kernel⟩,
      ⟨W0, 0, 128, by decide +kernel⟩,
      ⟨W0, 200, by decide +kernel⟩⟩

/-- States and operands that meet the hypotheses of each clause of TokensAndLifecycle. -/
theorem wit_TokensAndLifecycle :
    (∃ (s : State) (rq : Rq) (p : Principal) (type : Nat), s.serves rq 0x0104 p = true ∧ (type = 0x20 ∨ (1 ≤ type ∧ type ≤ 6))) ∧
    (∃ (s : State) (rq : Rq) (p : Principal) (tok : Token), s.serves rq 0x0105 p = true ∧ s.tokenOk tok = false) ∧
    (∃ (s : State) (rq : Rq) (p : Principal) (tok : Token), s.serves rq 0x0105 p = true ∧ s.tokenOk tok = true ∧ tok.type = 1 ∧ s.ident.due = none ∧
      s.ident.fuses < 255) ∧
    (∃ (s : State) (rq : Rq) (p : Principal), s.serves rq 0x0106 p = true ∧ (rq.route = 128 ∨ rq.route = 130 ∨ rq.route = 131) ∧ s.ident.life =
      .blank ∧ (s.md.mode = .standby ∨ s.md.mode = .bringUp ∨ s.md.mode = .provisioning) ∧ s.ident.due = none ∧ s.ident.fuses < 255) ∧
    (∃ (s : State) (rq : Rq) (p : Principal), s.serves rq 0x0107 p = true ∧ s.ident.life = .ownerOpen ∧ s.ident.due = none ∧ s.ident.fuses < 255) ∧
    (∃ (s : State) (rq : Rq) (p : Principal), s.serves rq 0x0107 p = true ∧ s.ident.life = .owned) ∧
    (∃ (s : State) (rq : Rq) (p : Principal), s.serves rq 0x10000 p = true ∧ s.ident.life = .vendorTest ∧ s.ident.due = none ∧ s.ident.fuses < 255) :=
    ⟨⟨W0, (rqT 1), .owner, 1, by decide +kernel⟩,
      ⟨W0, (rqT 1), .owner, tokT, by decide +kernel⟩,
      ⟨{ W0 with ident.nonces := [(1, 0)], ident.life := .blank }, (rqT 1), .owner, tokT, by decide +kernel⟩,
      ⟨{ W0 with ident.life := .blank, md.mode := .provisioning }, (rqT 0), .none, by decide +kernel⟩,
      ⟨{ W0 with ident.life := .ownerOpen }, (rqT 1), .owner, by decide +kernel⟩,
      ⟨W0, (rqT 1), .owner, by decide +kernel⟩,
      ⟨{ W0 with ident.life := .vendorTest }, (rqT 7), .vendor, by decide +kernel⟩⟩

/-- States and operands that meet the hypotheses of each clause of KeysAndMetadata. -/
theorem wit_KeysAndMetadata :
    (∃ (s : State) (rq : Rq) (p : Principal) (index : Nat), s.serves rq 0x0108 p = true ∧ index ≤ 3 ∧ (s.ident.life = .ownerOpen ∨ s.ident.life =
      .owned) ∧ s.ident.fmKeys.getD index 0 = 0) ∧
    (∃ (s : State) (rq : Rq) (p : Principal) (index : Nat), s.serves rq 0x0108 p = true ∧ index ≤ 3 ∧ (s.ident.life = .ownerOpen ∨ s.ident.life =
      .owned) ∧ s.ident.fmKeys.getD index 0 ≠ 0) ∧
    (∃ (s : State) (spdm : Nat) (x : Spdm), mget s.mbx.spdm spdm = some x ∧ x.mutualAuth = true ∧ s.ident.owner ≠ 0 ∧ x.key = s.ident.owner) ∧
    (∃ (slot : Nat), slot ≠ 1) ∧
    (∃ (s : State) (i : Nat), s.md.boot = .up ∧ s.sec.wsReady = true ∧ 1 ≤ i ∧ i ≤ 6) ∧
    (∃ (s : State) (g : Nat) (i : Nat), (∀ r, mget s.bnd.regions g = some r → s.remacHolds r 1 i = false)) ∧
    (∃ (level : Nat), 12 < level) ∧
    (∃ (s : State) (g : Nat) (i : Nat), (s.leafAt g i).cached = false) ∧
    (∃ (s : State) (g : Nat) (i : Nat) (r : Region), mget s.bnd.regions g = some r ∧ (s.leafAt g i).cached = true ∧ (s.leafAt g i).dirty = false) ∧
    (∃ (s : State) (s1 : State) (s2 : State) (g : Nat) (i : Nat) (km : Nat) (pool : Nat) (a : Nat) (f : Fetched) (r : Region), mget s.bnd.regions g
      = some r ∧ (s.leafAt g i).cached = true ∧ (s.leafAt g i).dirty = true ∧ s.mayWriteBack r 1 g i (s.leafAt g i).wbFrame = true ∧ s.macKey
      r.tenant = some km ∧ s.checkPath km g r 1 i f true = (none, s1) ∧ s1.metaAccess .write r 1 i = (some (pool, a), s2) ∧ s2.parentCounter r.size
      1 g i + 1 < 2 ^ 56) ∧
    (∃ (s : State) (g : Nat) (i : Nat) (r : Region), mget s.bnd.regions g = some r ∧ (s.leafAt g i).cached = true ∧ (s.leafAt g i).dirty = true ∧
      s.mayWriteBack r 1 g i (s.leafAt g i).wbFrame = false) ∧
    (∃ (s : State) (s1 : State) (g : Nat) (i : Nat) (pool : Nat) (a : Nat) (r : Region), mget s.bnd.regions g = some r ∧ (s.macRun g (i /
      7)).cached.contains (i % 7) = true ∧ (s.macRun g (i / 7)).dirty.contains (i % 7) = true ∧ s.mayWriteBack r 0 g i (mget (s.macRun g (i / 7)).wb
      (i % 7)) = true ∧ s.metaAccess .write r 0 i = (some (pool, a), s1)) :=
    ⟨⟨W0, (rqT 1), .owner, 1, by decide +kernel⟩,
      ⟨W0, (rqT 1), .owner, 0, by decide +kernel⟩,
      ⟨{ W0 with mbx.spdm := [(0, spdmT)] }, 0, spdmT, by decide +kernel⟩,
      ⟨0, by decide +kernel⟩,
      ⟨W0, 1, by decide +kernel⟩,
      ⟨W0, 0, 0, by decide +kernel⟩,
      ⟨13, by decide +kernel⟩,
      ⟨W0, 0, 0, by decide +kernel⟩,
      ⟨{ W2 with sec.leaves := [(leafKey 3 0 0, { cached := true })] }, 3, 0, regT, by decide +kernel⟩,
      ⟨(((({ W2 with bnd.regions := [(3, { regT with tenant := 5, cls := 2 })], sec.slots := [(5, keyT)], sec.leaves := [(leafKey 3 0 0, { cached := true, dirty := true })] }
        : State).setTnode 2 3 0 { cached := true }).setTnode 3 3 0 { cached := true }).setTnode 4 3 0 { cached := true }),
        (((({ W2 with bnd.regions := [(3, { regT with tenant := 5, cls := 2 })], sec.slots := [(5, keyT)], sec.leaves := [(leafKey 3 0 0, { cached := true, dirty := true })] }
        : State).setTnode 2 3 0 { cached := true }).setTnode 3 3 0 { cached := true }).setTnode 4 3 0 { cached := true }), (State.metaAccess
        (((({ W2 with bnd.regions := [(3, { regT with tenant := 5, cls := 2 })], sec.slots := [(5, keyT)], sec.leaves := [(leafKey 3 0 0, { cached := true, dirty := true })] }
        : State).setTnode 2 3 0 { cached := true }).setTnode 3 3 0 { cached := true }).setTnode 4 3 0 { cached := true }) .write
        { regT with tenant := 5, cls := 2 } 1 0).2, 3, 0, 3, 8, ((State.metaAccess
        (((({ W2 with bnd.regions := [(3, { regT with tenant := 5, cls := 2 })], sec.slots := [(5, keyT)], sec.leaves := [(leafKey 3 0 0, { cached := true, dirty := true })] }
        : State).setTnode 2 3 0 { cached := true }).setTnode 3 3 0 { cached := true }).setTnode 4 3 0 { cached := true }) .write
        { regT with tenant := 5, cls := 2 } 1 0).1.getD (0, 0)).2, {}, { regT with tenant := 5, cls := 2 }, by decide +kernel⟩,
      ⟨{ W2 with sec.leaves := [(leafKey 3 0 0, { cached := true, dirty := true, waiting := true, wbFrame := some 0 })] }, 3, 0, regT,
        by decide +kernel⟩,
      ⟨({ W2 with bnd.regions := [(3, { regT with tenant := 5, cls := 2 })], sec.slots := [(5, keyT)], sec.macs := [(leafKey 3 0 0, { run := some 9, cached := [0], dirty := [0] })] }
        : State),
        ({ W2 with bnd.regions := [(3, { regT with tenant := 5, cls := 2 })], sec.slots := [(5, keyT)], sec.macs := [(leafKey 3 0 0, { run := some 9, cached := [0], dirty := [0] })] }
        : State), 3, 0, 8, ((State.metaAccess
        ({ W2 with bnd.regions := [(3, { regT with tenant := 5, cls := 2 })], sec.slots := [(5, keyT)], sec.macs := [(leafKey 3 0 0, { run := some 9, cached := [0], dirty := [0] })] }
        : State) .write { regT with tenant := 5, cls := 2 } 0 0).1.getD (0, 0)).2, { regT with tenant := 5, cls := 2 }, by decide +kernel⟩⟩

/-- States and operands that meet the hypotheses of each clause of FrameAndSync. -/
theorem wit_FrameAndSync :
    (∃ (s : State), s.running = true ∧ s.time.dusk = false) ∧
    (∃ (s : State), (s.running = false ∨ s.time.dusk = true)) ∧
    (∃ (s : State), s.running = true ∧ s.md.coldDue = false) ∧
    (∃ (s : State), s.running = true ∧ s.md.coldDue = true) ∧
    (∃ (s : State), s.running = false) ∧
    (∃ (s : State) (raw : Int) (period : Nat), s.fld FRM_SYNC_CTL_ROLE = 2 ∧ s.fld FRM_SYNC_CTL_SRC = 0 ∧ s.time.sync.phase = .locked ∧ -8 ≤ raw -
      (s.fld FRM_SYNC_CTL_DELAY : Int) ∧ raw - (s.fld FRM_SYNC_CTL_DELAY : Int) ≤ 8 ∧ period ≤ frameTicks s.time.lenCode + 8 ∧ frameTicks
      s.time.lenCode ≤ period + 8) ∧
    (∃ (s : State), (s.fld FRM_SYNC_CTL_ROLE ≠ 2 ∨ s.fld FRM_SYNC_CTL_SRC ≠ 0)) ∧
    (∃ (s : State) (n : Nat), s.fld FRM_SYNC_CTL_ROLE = 2 ∧ n ≠ 0 ∧ s.time.sync.phase = .locked ∧ 4 ≤ s.time.sync.missed + n) ∧
    (∃ (s : State) (n : Nat), s.fld FRM_SYNC_CTL_ROLE = 2 ∧ n ≠ 0 ∧ (s.time.sync.phase ≠ .locked ∨ s.time.sync.missed + n < 4)) :=
    ⟨⟨W0, by decide +kernel⟩,
      ⟨{ W0 with time.dusk := true }, by decide +kernel⟩,
      ⟨W0, by decide +kernel⟩,
      ⟨{ W0 with md.coldDue := true }, by decide +kernel⟩,
      ⟨{ W0 with md.boot := .inReset }, by decide +kernel⟩,
      ⟨{ W0.setFld FRM_SYNC_CTL_ROLE 2 with time.sync := { phase := .locked } }, 0, 1024, by decide +kernel⟩,
      ⟨W0, by decide +kernel⟩,
      ⟨{ W0.setFld FRM_SYNC_CTL_ROLE 2 with time.sync := { phase := .locked } }, 4, by decide +kernel⟩,
      ⟨{ W0.setFld FRM_SYNC_CTL_ROLE 2 with time.sync := { phase := .locked } }, 1, by decide +kernel⟩⟩

/-- States and operands that meet the hypotheses of each clause of ResetsAndBoot. -/
theorem wit_ResetsAndBoot :
    (∃ (s : State), (s.md.boot = .rom ∨ s.md.boot = .up)) ∧
    (∃ (s : State) (n : Nat), 25 ≤ n ∧ s.md.boot ≠ .auxOff) ∧
    (∃ (n : Nat), n < 25) ∧
    (∃ (s : State), s.md.resetLow = true ∧ s.md.boot = .inReset) ∧
    (∃ (s : State), s.md.boot = .auxOff ∧ s.md.resetLow = false) ∧
    (∃ (s : State), s.md.boot = .up) ∧
    (∃ (s : State), s.md.boot = .rom) ∧
    (∃ (s : State), s.md.boot ≠ .rom) ∧
    (∃ (s : State), s.md.mode ≠ .standby ∧ s.md.boot = .up) ∧
    (∃ (s : State), s.md.mode = .bringUp ∧ s.md.modeReq = none) :=
    ⟨⟨W0, by decide +kernel⟩,
      ⟨W0, 25, by decide +kernel⟩,
      ⟨0, by decide +kernel⟩,
      ⟨{ W0 with md.resetLow := true, md.boot := .inReset }, by decide +kernel⟩,
      ⟨{ W0 with md.boot := .auxOff }, by decide +kernel⟩,
      ⟨W0, by decide +kernel⟩,
      ⟨{ W0 with md.boot := .rom }, by decide +kernel⟩,
      ⟨W0, by decide +kernel⟩,
      ⟨W0, by decide +kernel⟩,
      ⟨{ W0 with md.mode := .bringUp }, by decide +kernel⟩⟩

/-- States and operands that meet the hypotheses of each clause of FaultsAndRoutes. -/
theorem wit_FaultsAndRoutes :
    (∃ (s : State) (code : Nat) (id : Nat) (k : Nat) (j : Nat) (c : FaultClass), faultInfo code = some (c, k) ∧ c ≠ .uncontained ∧ openSlotOf
      s.flt.slots k id = none ∧ openCount s.flt.slots < 64 ∧ slotForNew s.flt.slots = some j) ∧
    (∃ (s : State) (code : Nat) (id : Nat) (k : Nat) (j : Nat) (c : FaultClass) (r : FltRec), faultInfo code = some (c, k) ∧ c ≠ .uncontained ∧
      openSlotOf s.flt.slots k id = some j ∧ mget s.flt.slots j = some r) ∧
    (∃ (code : Nat) (k : Nat), faultInfo code = some (.uncontained, k)) ∧
    (∃ (s : State), s.fld FLT_WDOG_LIMIT ≤ s.fld FLT_WDOG_COUNT ∧ s.bit FLT_STAT_WD_EXP = false ∧ s.bit GLB_DEG_STANDBY_PAIR = true) ∧
    (∃ (s : State), (s.fld FLT_WDOG_COUNT < s.fld FLT_WDOG_LIMIT ∨ s.bit FLT_STAT_WD_EXP = true)) ∧
    (∃ (s : State) (rq : Rq) (p : Principal) (count : Nat), s.serves rq 0x0A00 p = true ∧ count ≤ 63) ∧
    (∃ (s : State) (rq : Rq) (p : Principal) (n : Nat) (k : Nat), s.serves rq 0x0A01 p = true ∧ s.slotOfNumber n = some k) ∧
    (∃ (s : State) (rq : Rq) (p : Principal) (n : Nat), s.serves rq 0x0A01 p = true ∧ s.slotOfNumber n = none) ∧
    (∃ (s : State) (n : Nat) (samples : Nat), n < 32 ∧ getBits (s.routeWord n) 10 8 ≤ samples ∧ getBits (s.routeWord n) 8 2 = 2 ∧ n ∉ s.evt.pinsLow) ∧
    (∃ (s : State) (n : Nat) (samples : Nat), samples < getBits (s.routeWord n) 10 8) ∧
    (∃ (s : State) (rq : Rq) (p : Principal) (n : Nat) (target : Nat), s.serves rq 0x0A02 p = true ∧ n ≤ 511 ∧ target ≤ 255 ∧ s.routeOk n (setBits
      (setBits (s.word (EVT_SH_ROUTE n)) 0 8 target) 8 2 0) = true) ∧
    (∃ (bus : Nat), bus < 2) ∧
    (∃ (bus : Nat), bus < 2) :=
    ⟨⟨W0, 0x0401, 0, 8, 0, .correctable, by decide +kernel⟩,
      ⟨{ W0 with flt.slots := [(0, { fltT with scope := 8, scopeId := 4 })] }, 0x0401, 4, 8, 0, .correctable,
        { fltT with scope := 8, scopeId := 4 }, by decide +kernel⟩,
      ⟨0x0701, 0, by decide +kernel⟩,
      ⟨(W0.setFld FLT_WDOG_COUNT 0x40).setBit GLB_DEG_STANDBY_PAIR true, by decide +kernel⟩,
      ⟨W0, by decide +kernel⟩,
      ⟨W0, (rqT 1), .owner, 0, by decide +kernel⟩,
      ⟨{ W0 with flt.slots := [(0, fltT)] }, (rqT 1), .owner, 1, 0, by decide +kernel⟩,
      ⟨W0, (rqT 1), .owner, 0, by decide +kernel⟩,
      ⟨{ W0 with evt.routeF := rput [] (EVT_SH_ROUTE 0) (EVT_SH_ROUTE_TARGET 0).rst (setBits 0x400 8 2 2) }, 0, 100000, by decide +kernel⟩,
      ⟨W0, 0, 0, by decide +kernel⟩,
      ⟨W0, (rqT 1), .owner, 0, 128, by decide +kernel⟩,
      ⟨0, by decide +kernel⟩,
      ⟨0, by decide +kernel⟩⟩

/-- States and operands that meet the hypotheses of each clause of EventWrites. -/
theorem wit_EventWrites :
    (∃ (s : State) (b : Bus) (w : Word) (k : Nat), s.takesWrite b FLT_CLR = true ∧ (s.busP b).isOF = true ∧ s.slotOfNumber (getBits w 0 16) = some
      k) ∧
    (∃ (s : State) (b : Bus) (n : Nat) (w : Word), s.takesWrite b (EVT_SH_ROUTE n) = true ∧ (s.busP b).isOF = true ∧ n < 512 ∧ s.targetExists
      (getBits w 0 8) = true ∧ (n < 64 ∨ getBits w 8 2 = 0) ∧ getBits w 10 8 ≠ 0) ∧
    (∃ (s : State) (b : Bus) (n : Nat) (w : Word), s.takesWrite b (EVT_SH_ROUTE n) = true ∧ (s.busP b).isOF = true ∧ n < 512 ∧ s.targetExists
      (getBits w 0 8) = false) ∧
    (∃ (s : State) (b : Bus) (g : Nat) (c : Nat), s.takesRead b (EVT_T_CLAIM g) = true ∧ g < 132 ∧ s.claimMode g = true ∧ s.lowestSource g = some c) ∧
    (∃ (s : State) (b : Bus) (g : Nat), s.takesRead b (EVT_T_CLAIM g) = true ∧ g < 132 ∧ (s.claimMode g = false ∨ s.lowestSource g = none)) ∧
    (∃ (s : State) (b : Bus) (g : Nat) (w : Word), s.takesWrite b (EVT_T_DONE g) = true ∧ (s.busP b).isIn 11 = true ∧ g < 132 ∧ s.srcActive g
      (getBits w 0 10) = true) ∧
    (∃ (s : State) (b : Bus) (g : Nat) (w : Word), s.takesWrite b (EVT_T_DONE g) = true ∧ (s.busP b).isIn 11 = true ∧ g < 132 ∧ s.srcActive g
      (getBits w 0 10) = false) ∧
    (∃ (s : State) (b : Bus) (g : Nat) (k : Nat), s.takesWrite b (EVT_T_PEND_LO g) = true ∧ (s.busP b).isIn 11 = true ∧ g < 132 ∧ k < 32 ∧ s.levelOn
      g k = false) ∧
    (∃ (s : State) (b : Bus) (g : Nat) (w : Word), s.takesWrite b (EVT_T_CTL g) = true ∧ (s.busP b).isIn 11 = true ∧ g < 132 ∧ s.claimMode g = true
      ∧ s.md.mode = .service ∧ getBit w 0 = true) :=
    ⟨⟨{ W0 with flt.slots := [(0, fltT)] }, busT, 1, 0, by decide +kernel⟩,
      ⟨W0, busT, 0, (128 + 1024), by decide +kernel⟩,
      ⟨W0, busT, 0, 0, by decide +kernel⟩,
      ⟨(W0.setBit (pendFld 128 3) true), busT, 128, 3, by decide +kernel⟩,
      ⟨W0, busT, 128, by decide +kernel⟩,
      ⟨{ W0 with evt.active := [(128, [3])] }, busT, 128, 3, by decide +kernel⟩,
      ⟨W0, busT, 128, 0, by decide +kernel⟩,
      ⟨W0, busT, 128, 0, by decide +kernel⟩,
      ⟨W0, busT, 128, 1, by decide +kernel⟩⟩

/-- States and operands that meet the hypotheses of each clause of RegisterAccess. -/
theorem wit_RegisterAccess :
    (∃ (s : State) (rq : Rq) (p : Principal) (a : Nat) (n : Nat) (ws : List Word) (u : State), (s.entered rq).opRead (opAcc p rq.sess) a n = (.ok
      ws, u) ∧ s.serves rq 0x0110 p = true ∧ 1 ≤ n ∧ n ≤ 1022 ∧ s.inHold = false) ∧
    (∃ (s : State) (rq : Rq) (p : Principal) (a : Nat) (ws : List Word) (u : State), s.serves rq 0x0111 p = true ∧ 1 ≤ ws.length ∧ ws.length ≤ 1022
      ∧ s.inHold = false ∧ (s.entered rq).opWrite (opAcc p rq.sess) a ws = (none, u)) ∧
    (∃ (s : State) (rq : Rq) (p : Principal) (a : Nat) (ws : List Word) (c : Status), s.serves rq 0x0111 p = true ∧ 1 ≤ ws.length ∧ ws.length ≤ 1022
      ∧ s.inHold = false ∧ s.runRefusal (opAcc p rq.sess) true a ws.length = some c) ∧
    (∃ (s : State) (b : Bus) (a : Nat), s.takesRead b a = true) ∧
    (∃ (s : State) (b : Bus) (a : Nat) (c : Status), s.md.boot = .up ∧ s.busWaits a = false ∧ s.wordRefusal (s.busAcc b) false a = some c) ∧
    (∃ (s : State) (b : Bus), s.takesWrite b CNT_RING_SIZE = true ∧ s.busP b = .owner ∧ s.bit CNT_RING_CTL_EN = false) ∧
    (∃ (s : State) (b : Bus) (a : Nat) (c : Status), s.md.boot = .up ∧ s.busWaits a = false ∧ b.be = 15 ∧ s.wordRefusal (s.busAcc b) true a = some
      c) ∧
    (∃ (s : State) (b : Bus) (a : Nat), s.md.boot = .up ∧ s.busWaits a = false ∧ b.be ≠ 15) :=
    ⟨⟨W0, (rqT 1), .owner, 0x40004, 1, (W0.entered (rqT 1)).opRead (opAcc .owner 1) 0x40004 1 |>.1.toOption.getD [], ((W0.entered (rqT 1)).opRead
        (opAcc .owner 1) 0x40004 1).2, pair_ok (by decide +kernel), by decide +kernel⟩,
      ⟨W0, (rqT 1), .owner, CNT_RING_SIZE, [0], ((W0.entered (rqT 1)).opWrite (opAcc .owner 1) CNT_RING_SIZE [0]).2, by decide +kernel⟩,
      ⟨W0, (rqT 1), .owner, 0xFFFFC, [0], .permission, by decide +kernel⟩,
      ⟨W0, busT, 0, by decide +kernel⟩,
      ⟨W0, busT, 0xFFFFC, .permission, by decide +kernel⟩,
      ⟨W0, busT, by decide +kernel⟩,
      ⟨W0, busT, 0xFFFFC, .permission, by decide +kernel⟩,
      ⟨W0, { fn := 128, be := 7 }, 0, by decide +kernel⟩⟩

/-- States and operands that meet the hypotheses of each clause of RegionOpcodes. -/
theorem wit_RegionOpcodes :
    (∃ (s : State) (rq : Rq) (p : Principal) (tenant : Nat) (cls : Nat) (size : Nat) (ttBase : Nat) (rf : Nat) (g : Nat), s.serves rq 0x0400 p =
      true ∧ s.md.mode ≠ .evacuate ∧ 0 < size ∧ size ≤ 2 ^ 28 ∧ cls ≤ 2 ∧ tenant ≤ 1023 ∧ rf ≤ 1 ∧ ttBase + size ≤ 2 ^ 30 ∧ (cls = 0 ∨ (tenant ≠ 0 ∧
      s.slotState tenant = .established)) ∧ (∀ x ∈ s.regionSpans, ttBase + size ≤ x.2.1 ∨ x.2.1 + x.2.2 ≤ ttBase) ∧ (cls = 2 → treeLevels size < 4)
      ∧ s.freeRegion = some g) ∧
    (∃ (s : State) (rq : Rq) (p : Principal) (tenant : Nat) (size : Nat) (ttBase : Nat) (pool : Nat) (rf : Nat) (g : Nat) (u : Nat), s.serves rq
      0x0400 p = true ∧ s.md.mode ≠ .evacuate ∧ size ≤ 2 ^ 28 ∧ 1 ≤ tenant ∧ tenant ≤ 1023 ∧ rf ≤ 1 ∧ ttBase + size ≤ 2 ^ 30 ∧ s.slotState tenant =
      .established ∧ (∀ x ∈ s.regionSpans, ttBase + size ≤ x.2.1 ∨ x.2.1 + x.2.2 ≤ ttBase) ∧ 4 ≤ treeLevels size ∧ pool < 128 ∧ s.isPool pool = true
      ∧ s.sealedCap pool = true ∧ s.poolReady pool = true ∧ s.evacuating pool = false ∧ s.tailRoom pool (treeUnitsFor size) = some u ∧ s.freeRegion
      = some g) ∧
    (∃ (s : State) (rq : Rq) (p : Principal) (size : Nat) (ttBase : Nat), s.serves rq 0x0400 p = true ∧ s.md.mode ≠ .evacuate ∧ (size = 0 ∨ 2 ^ 28 <
      size ∨ 2 ^ 30 < ttBase + size ∨ (∃ x ∈ s.regionSpans, ttBase < x.2.1 + x.2.2 ∧ x.2.1 < ttBase + size))) ∧
    (∃ (s : State) (rq : Rq) (p : Principal) (g : Nat) (r : Region), s.serves rq 0x0401 p = true ∧ mget s.bnd.regions g = some r ∧ r.deleting =
      false ∧ s.nBind g = 0 ∧ s.bindingDue g = false ∧ s.lcSlots ≠ []) ∧
    (∃ (s : State) (rq : Rq) (p : Principal) (g : Nat) (r : Region), s.serves rq 0x0401 p = true ∧ mget s.bnd.regions g = some r ∧ 0 < s.nBind g) ∧
    (∃ (s : State) (rq : Rq) (p : Principal) (g : Nat) (r : Region), (∀ k, p = .tenant k → k = r.tenant) ∧ s.serves rq 0x0402 p = true ∧ mget
      s.bnd.regions g = some r) ∧
    (∃ (s : State) (rq : Rq) (p : Principal) (b : Nat), s.serves rq 0x0405 p = true ∧ b < 4096 ∧ s.bndValid b = true ∧ s.maySeeBinding p b = true) :=
    ⟨⟨W0, (rqT 1), .owner, 0, 0, 16, 0, 0, 0, by decide +kernel⟩,
      ⟨{ ((W1.setCur (SEC_POOL_CAP_CAP 0) 256).setBit (OXB_POOL_FREE_VALID 8) true).setFld (OXB_POOL_SIZE_SIZE 8) 4096 with sec.slots := [(5, keyT)] },
        (rqT 1), .owner, 5, 100, 0, 8, 0, 0, 0, by decide +kernel⟩,
      ⟨W0, (rqT 1), .owner, 0, 0, by decide +kernel⟩,
      ⟨{ W0 with bnd.regions := [(3, regT)] }, (rqT 1), .owner, 3, regT, by decide +kernel⟩,
      ⟨W2, (rqT 1), .owner, 3, regT, by decide +kernel⟩,
      ⟨W2, (rqT 1), .owner, 3, regT, by simp, by decide +kernel⟩,
      ⟨W2, (rqT 1), .owner, 1, by decide +kernel⟩⟩

/-- States and operands that meet the hypotheses of each clause of ExtentAdd. -/
theorem wit_ExtentAdd :
    (∃ (s : State) (u : State) (rq : Rq) (p : Principal) (b : Nat) (dpa : Nat) (len : Nat) (rofs : Nat) (r : Region) (l : List Nat), s.serves rq
      0x0403 p = true ∧ s.md.mode ≠ .evacuate ∧ b < 4096 ∧ s.bndValid b = true ∧ s.bnd.unbinding.contains b = false ∧ mget s.bnd.regions
      (s.bndRegion b) = some r ∧ s.overWindow b (dpa * 262144) ((dpa + len) * 262144) = false ∧ 0 < len ∧ rofs + len ≤ r.size ∧ dpa + len ≤ 2 ^ 28 ∧
      ((s.extents b).filter (fun e => e.st != .releasing)).length < 64 ∧ (∀ e ∈ s.extents b, dpa + len ≤ e.dpa ∨ e.dpa + e.len ≤ dpa) ∧ s.lcSlots ≠
      [] ∧ (s.entered rq).prepareAll (s.bndRegion b) r ((List.range len).map (fun k => rofs + k)) = some (l, u)) ∧
    (∃ (s : State) (rq : Rq) (p : Principal) (b : Nat) (dpa : Nat) (len : Nat) (rofs : Nat) (m : Nat) (x : RemRegion), s.serves rq 0x0403 p = true ∧
      s.md.mode ≠ .evacuate ∧ b < 4096 ∧ s.bndValid b = true ∧ s.bnd.unbinding.contains b = false ∧ mget s.bnd.regions (s.bndRegion b) = none ∧
      s.remoteRegion (s.bndRegion b) = some (m, x) ∧ s.overWindow b (dpa * 262144) ((dpa + len) * 262144) = false ∧ 0 < len ∧ rofs + len ≤ x.size ∧
      dpa + len ≤ 2 ^ 28 ∧ ((s.extents b).filter (fun e => e.st != .releasing)).length < 64 ∧ (∀ e ∈ s.extents b, dpa + len ≤ e.dpa ∨ e.dpa + e.len
      ≤ dpa) ∧ s.lcSlots ≠ []) ∧
    (∃ (s : State) (rq : Rq) (p : Principal) (b : Nat) (dpa : Nat) (len : Nat), s.serves rq 0x0403 p = true ∧ s.md.mode ≠ .evacuate ∧ b < 4096 ∧
      s.bndValid b = true ∧ (∃ e ∈ s.extents b, dpa < e.dpa + e.len ∧ e.dpa < dpa + len)) ∧
    (∃ (s : State) (b : Nat) (dpa : Nat) (e : Extent), s.extentOf b dpa = some e ∧ e.st = .preparing ∧ e.filled = false) ∧
    (∃ (s : State) (b : Nat) (dpa : Nat) (e : Extent), s.extentOf b dpa = some e ∧ e.st = .preparing ∧ e.filled = false ∧ e.made = [] ∧ s.backed b
      { e with filled := true } = true) ∧
    (∃ (s : State) (b : Nat) (dpa : Nat) (e : Extent), s.extentOf b dpa = some e ∧ (e.st ≠ .preparing ∨ e.filled = true)) ∧
    (∃ (s : State) (b : Nat) (dpa : Nat) (e : Extent), s.extentOf b dpa = some e ∧ e.st = .offered ∧ e.accepting = false ∧ e.rejected = false) ∧
    (∃ (s : State) (b : Nat) (dpa : Nat) (e : Extent), s.extentOf b dpa = some e ∧ e.st = .offered ∧ e.accepting = false ∧ e.rejected = false) ∧
    (∃ (s : State) (b : Nat) (dpa : Nat) (e : Extent), s.extentOf b dpa = some e ∧ e.st = .offered ∧ e.accepting = false ∧ e.rejected = false ∧
      s.oxb.moves = []) ∧
    (∃ (s : State) (b : Nat) (dpa : Nat), (∀ e, s.extentOf b dpa = some e → e.st ≠ .offered ∨ e.accepting = true ∨ e.rejected = true)) :=
    ⟨⟨W2, W2.entered (rqT 1), (rqT 1), .owner, 1, 8, 1, 0, regT, [], by decide +kernel⟩,
      ⟨{ (W0.setCur (BND_CFG_VALID 1) 1).setCur (BND_REGION_REGION 1) 3 with grp.lists := [(1, [remT])] }, (rqT 1), .owner, 1, 0, 1, 0, 1, remT,
        by decide +kernel⟩,
      ⟨W2, (rqT 1), .owner, 1, 0, 1, by decide +kernel⟩,
      ⟨{ W2 with bnd.ext := [(1, [{ extT with st := .preparing }])] }, 1, 0, { extT with st := .preparing }, by decide +kernel⟩,
      ⟨{ W2 with bnd.ext := [(1, [{ extT with st := .preparing, len := 1 }])] }, 1, 0, { extT with st := .preparing, len := 1 }, by decide +kernel⟩,
      ⟨W2, 1, 0, extT, by decide +kernel⟩,
      ⟨{ W2 with bnd.ext := [(1, [{ extT with st := .offered }])] }, 1, 0, { extT with st := .offered }, by decide +kernel⟩,
      ⟨{ W2 with bnd.ext := [(1, [{ extT with st := .offered }])] }, 1, 0, { extT with st := .offered }, by decide +kernel⟩,
      ⟨{ W2 with bnd.ext := [(1, [{ extT with st := .offered }])] }, 1, 0, { extT with st := .offered }, by decide +kernel⟩,
      ⟨W0, 0, 0, by decide +kernel⟩⟩

/-- States and operands that meet the hypotheses of each clause of ExtentRelease. -/
theorem wit_ExtentRelease :
    (∃ (s : State) (rq : Rq) (p : Principal) (b : Nat) (dpa : Nat) (e : Extent), s.serves rq 0x0404 p = true ∧ b < 4096 ∧ s.extentOf b dpa = some e
      ∧ e.st = .accepted ∧ s.lcSlots ≠ []) ∧
    (∃ (s : State) (rq : Rq) (p : Principal) (b : Nat) (dpa : Nat) (f : Nat) (e : Extent), s.serves rq 0x0404 p = true ∧ b < 4096 ∧ s.extentOf b dpa
      = some e ∧ (e.st = .accepted ∨ e.st = .offered) ∧ s.lcSlots ≠ [] ∧ f ≤ 1) ∧
    (∃ (s : State) (rq : Rq) (p : Principal) (b : Nat) (dpa : Nat) (e : Extent), s.serves rq 0x0404 p = true ∧ b < 4096 ∧ s.extentOf b dpa = some e
      ∧ e.st = .accepted ∧ e.rel = none ∧ s.lcSlots ≠ [] ∧ s.hdmH b = true) ∧
    (∃ (s : State) (rq : Rq) (p : Principal) (b : Nat) (dpa : Nat) (f : Nat) (e : Extent), s.serves rq 0x0404 p = true ∧ b < 4096 ∧ s.extentOf b dpa
      = some e ∧ (e.st = .preparing ∨ e.st = .releasing) ∧ f ≤ 1) ∧
    (∃ (s : State) (b : Nat) (dpa : Nat) (e : Extent), s.extentOf b dpa = some e ∧ e.st = .accepted) ∧
    (∃ (s : State) (b : Nat) (dpa : Nat), (∀ e, s.extentOf b dpa = some e → e.st ≠ .accepted)) ∧
    (∃ (s : State) (b : Nat) (dpa : Nat) (e : Extent), s.extentOf b dpa = some e ∧ e.st = .releasing ∧ e.swept = false ∧ s.heldLines b e = []) ∧
    (∃ (s : State) (b : Nat) (dpa : Nat) (e : Extent), s.extentOf b dpa = some e ∧ e.st = .releasing ∧ e.swept = false ∧ s.heldLines b e ≠ []) ∧
    (∃ (s : State) (b : Nat) (dpa : Nat) (e : Extent), s.extentOf b dpa = some e ∧ (e.st ≠ .releasing ∨ e.swept = true)) :=
    ⟨⟨W2, (rqT 1), .owner, 1, 0, extT, by decide +kernel⟩,
      ⟨W2, (rqT 1), .owner, 1, 0, 0, extT, by decide +kernel⟩,
      ⟨{ W1.setCur (BND_CFG_HDM_H 1) 1 with bnd.ext := [(1, [extT])] }, (rqT 1), .owner, 1, 0, extT, by decide +kernel⟩,
      ⟨{ W2 with bnd.ext := [(1, [{ extT with st := .releasing }])] }, (rqT 1), .owner, 1, 0, 0, { extT with st := .releasing }, by decide +kernel⟩,
      ⟨W2, 1, 0, extT, by decide +kernel⟩,
      ⟨W0, 0, 0, by decide +kernel⟩,
      ⟨{ W2 with bnd.ext := [(1, [{ extT with st := .releasing }])] }, 1, 0, { extT with st := .releasing }, by decide +kernel⟩,
      ⟨{ W5 with bnd.ext := [(1, [{ extT with st := .releasing }])], home.dir := [(0, { dirT with sharers := 4 })] }, 1, 0,
        { extT with st := .releasing }, by decide +kernel⟩,
      ⟨W2, 1, 0, extT, by decide +kernel⟩⟩

/-- States and operands that meet the hypotheses of each clause of DecodersAndHostSlots. -/
theorem wit_DecodersAndHostSlots :
    (∃ (s : State) (b : Nat) (base : Nat) (size : Nat) (ig : Nat) (iw : Nat), b < 4096 ∧ s.bndValid b = true ∧ s.bit (BND_HDM_CTL_LOCKED b) = false
      ∧ s.tspLocked b = false ∧ size ≤ 2 ^ 46 ∧ base % 2 ^ 28 = 0 ∧ size % 2 ^ 28 = 0 ∧ base < 2 ^ 64 ∧ ig ≤ 6 ∧ iw ≤ 4) ∧
    (∃ (s : State) (b : Nat) (base : Nat) (size : Nat) (ig : Nat) (iw : Nat), b < 4096 ∧ s.bndValid b = true ∧ s.bit (BND_HDM_CTL_LOCKED b) = false
      ∧ s.tspLocked b = false ∧ (2 ^ 46 < size ∨ base % 2 ^ 28 ≠ 0 ∨ size % 2 ^ 28 ≠ 0 ∨ 6 < ig ∨ 4 < iw)) ∧
    (∃ (s : State) (b : Nat), b < 4096 ∧ s.bndValid b = true ∧ s.bit (BND_HDM_CTL_LOCKED b) = false ∧ s.tspLocked b = true) ∧
    (∃ (s : State) (b : Nat), (4096 ≤ b ∨ s.bndValid b = false ∨ s.bit (BND_HDM_CTL_LOCKED b) = true)) ∧
    (∃ (s : State) (i : Nat) (l : List HReq) (r : RsvRead), mget s.bnd.walk i = some l ∧ s.rsvRead r ≠ .lost ∧ (s.ttEntry i).valid = true) ∧
    (∃ (s : State) (i : Nat) (l : List HReq) (r : RsvRead), mget s.bnd.walk i = some l ∧ s.rsvRead r ≠ .lost ∧ (s.ttEntry i).valid = false) ∧
    (∃ (s : State) (i : Nat) (l : List HReq) (r : RsvRead), mget s.bnd.walk i = some l ∧ s.rsvRead r = .lost) ∧
    (∃ (s : State) (i : Nat), mget s.bnd.walk i = none) ∧
    (∃ (s : State) (sl : Nat) (id : Nat) (e : Tt) (r : HReq), s.home.tt = [(sl, [e])] ∧ e.id = id ∧ e.phase ≠ .waiting ∧ e.since + s.cur HOM_CFG_TMO
      ≤ s.time.frame ∧ e.waitSnp = [] ∧ e.work = .req r ∧ hkReads r.kind = true) ∧
    (∃ (s : State) (sl : Nat) (id : Nat), (∀ e, s.ttOf sl id = some e → e.phase = .waiting ∨ s.time.frame < e.since + s.cur HOM_CFG_TMO)) ∧
    (∃ (s : State) (k : Nat), k ∈ s.home.sweeping ∧ s.home.tt = []) ∧
    (∃ (s : State) (k : Nat), k ∉ s.home.sweeping) ∧
    (∃ (s : State) (b : Bus) (k : Nat), s.takesWrite b (HOM_HOST_STAT k) = true ∧ (s.busP b).isOF = true ∧ k < 64 ∧ s.slotSt k = 1 ∧ s.home.tt = []) ∧
    (∃ (s : State) (b : Bus) (k : Nat), s.takesWrite b (HOM_HOST_STAT k) = true ∧ (s.busP b).isOF = true ∧ k < 64 ∧ s.slotSt k = 3) ∧
    (∃ (s : State) (b : Bus) (k : Nat), s.takesWrite b (HOM_HOST_STAT k) = true ∧ (s.busP b).isOF = true ∧ k < 64 ∧ s.slotSt k ≠ 3) ∧
    (∃ (s : State) (sl : Nat) (id : Nat) (e : Tt) (r : HReq), s.ttOf sl id = some e ∧ e.phase ≠ .waiting ∧ e.since + s.cur HOM_CFG_TMO ≤
      s.time.frame ∧ e.work = .req r ∧ r.bnd < 4096 ∧ id < s.home.serial ∧ (∀ y ∈ s.tts sl, y.id = id → y = e)) ∧
    (∃ (s : State) (k : Nat), k ∈ s.home.sweeping) ∧
    (∃ (s : State) (b : Bus) (k : Nat), s.takesWrite b (HOM_HOST_STAT k) = true ∧ (s.busP b).isOF = true ∧ k < 64 ∧ s.slotSt k = 1) :=
    ⟨⟨W2, 1, 0, 2 ^ 28, 0, 0, by decide +kernel⟩,
      ⟨W2, 1, 0, 0, 7, 0, by decide +kernel⟩,
      ⟨{ W2 with prt.vdp := [(3, { hold := .vmd 1, tspLock := true })] }, 1, by decide +kernel⟩,
      ⟨W0.setBit (BND_HDM_CTL_LOCKED 0) true, 0, by decide +kernel⟩,
      ⟨{ W2 with bnd.walk := [(0, [])] }, 0, [], .good, by decide +kernel⟩,
      ⟨{ W0 with bnd.walk := [(0, [])] }, 0, [], .good, by decide +kernel⟩,
      ⟨{ W0 with bnd.walk := [(0, [])] }, 0, [], .lost, by decide +kernel⟩,
      ⟨W0, 0, by decide +kernel⟩,
      ⟨{ W2 with home.tt := [(0, [{ ttT with phase := .active }])], time.frame := 1000000 }, 0, 7, { ttT with phase := .active }, hreqT,
        by decide +kernel⟩,
      ⟨W0, 0, 0, by decide +kernel⟩,
      ⟨{ W0 with home.sweeping := [2] }, 2, by decide +kernel⟩,
      ⟨W0, 0, by decide +kernel⟩,
      ⟨W0.setFld (HOM_HOST_STAT_STATE 0) 1, busT, 0, by decide +kernel⟩,
      ⟨W0.setFld (HOM_HOST_STAT_STATE 0) 3, busT, 0, by decide +kernel⟩,
      ⟨W0, busT, 0, by decide +kernel⟩,
      ⟨{ W5 with home.tt := [(0, [{ ttT with phase := .active }])], home.serial := 9, time.frame := 1000000 }, 0, 7, { ttT with phase := .active },
        hreqT, by decide +kernel⟩,
      ⟨{ W5 with home.sweeping := [2], home.tt := [(0, [{ ttT with phase := .active }])] }, 2, by decide +kernel⟩,
      ⟨{ W5 with home.tt := [(0, [{ ttT with phase := .active }])] }, busT, 2, by decide +kernel⟩⟩

/-- States and operands that meet the hypotheses of each clause of BindingResetAndHarvest. -/
theorem wit_BindingResetAndHarvest :
    (∃ (s : State) (b : Bus) (n : Nat), s.takesWrite b (BND_RST n) = true ∧ (s.busP b).isIn 11 = true ∧ n < 4096 ∧ s.bndValid n = true ∧ mget
      s.bnd.rst n = none) ∧
    (∃ (s : State) (b : Bus) (n : Nat), s.takesWrite b (BND_RST n) = true ∧ (s.busP b).isIn 11 = true ∧ n < 4096 ∧ s.bndValid n = false) ∧
    (∃ (s : State) (rq : Rq) (p : Principal) (n : Nat), (∀ h, p = .host h → s.bndPort n = h) ∧ s.serves rq 0x0206 p = true ∧ s.dataOff = false ∧ n <
      4096 ∧ s.bndValid n = true ∧ mget s.bnd.rst n = none) ∧
    (∃ (s : State) (n : Nat), mget s.bnd.rst n = some true ∧ s.bndOpen n = false ∧ s.time.tick = 0 ∧ mgetD s.bnd.rstFrom n 0 < s.time.frame) ∧
    (∃ (s : State) (n : Nat), (mget s.bnd.rst n ≠ some true ∨ s.bndOpen n = true ∨ s.time.tick ≠ 0 ∨ s.time.frame ≤ mgetD s.bnd.rstFrom n 0)) ∧
    (∃ (s : State) (b : Bus) (n : Nat) (w : Word), s.takesWrite b (BND_HARV_CTL n) = true ∧ (s.busP b).isOF = true ∧ n < 4096 ∧ s.bit
      (BND_HARV_STAT_BUSY n) = false ∧ s.bit (BND_HARV_STAT_CLEARING n) = false ∧ s.curBit (BND_LOG_CTL_EN n) = true ∧ getBits w 0 7 = s.bndPort n ∧
      s.bnd.harvDue.contains n = false) ∧
    (∃ (s : State) (b : Bus) (n : Nat) (w : Word), s.takesWrite b (BND_HARV_CTL n) = true ∧ (s.busP b).isOF = true ∧ n < 4096 ∧ (s.bit
      (BND_HARV_STAT_BUSY n) = true ∨ s.bit (BND_HARV_STAT_CLEARING n) = true ∨ s.curBit (BND_LOG_CTL_EN n) = false ∨ getBits w 0 7 ≠ s.bndPort n ∨
      s.bnd.harvDue.contains n = true)) ∧
    (∃ (s : State) (n : Nat) (h : Harvest), mget s.bnd.harv n = some h ∧ s.canWrite h.port = true ∧ s.stackGone 1 = false ∧ n ∉ s.bnd.logGone) ∧
    (∃ (s : State) (n : Nat) (h : Harvest), mget s.bnd.harv n = some h ∧ s.canWrite h.port = false) ∧
    (∃ (s : State) (n : Nat) (w : Nat) (ws : List Nat) (h : Harvest), mget s.bnd.harv n = some h ∧ w ∈ ws ∧ s.cur (BND_LOG_CTL_BASE n) * 32768 ≤ w ∧
      w < s.cur (BND_LOG_CTL_BASE n) * 32768 + h.len * 32768) ∧
    (∃ (s : State) (n : Nat), mget s.bnd.harv n = none) ∧
    (∃ (s : State) (n : Nat) (base : Nat) (len : Nat), mget s.bnd.clr n = some (base, len)) ∧
    (∃ (s : State) (n : Nat), mget s.bnd.clr n = none) :=
    ⟨⟨W2, busT, 1, by decide +kernel⟩,
      ⟨W0, busT, 0, by decide +kernel⟩,
      ⟨W2, (rqT 1), .owner, 1, by simp, by decide +kernel⟩,
      ⟨{ W2 with bnd.rst := [(1, true)], time.frame := 3 }, 1, by decide +kernel⟩,
      ⟨W0, 0, by decide +kernel⟩,
      ⟨W2.setCur (BND_LOG_CTL_EN 1) 1, busT, 1, 0, by decide +kernel⟩,
      ⟨W0, busT, 0, 0, by decide +kernel⟩,
      ⟨{ W2 with bnd.harv := [(1, harvT)], evt.mf := [(0, { bme := true })] }, 1, harvT, by decide +kernel⟩,
      ⟨{ W2 with bnd.harv := [(1, harvT)] }, 1, harvT, by decide +kernel⟩,
      ⟨{ W2 with bnd.harv := [(1, harvT)], evt.mf := [(0, { bme := true })] }, 1, 0, [0], harvT, by decide +kernel⟩,
      ⟨W0, 0, by decide +kernel⟩,
      ⟨{ W2 with bnd.clr := [(1, (0, 1))] }, 1, 0, 1, by decide +kernel⟩,
      ⟨W0, 0, by decide +kernel⟩⟩

/-- States and operands that meet the hypotheses of each clause of StagedQuanta. -/
theorem wit_StagedQuanta :
    (∃ (s : State) (rq : Rq) (p : Principal) (port : Nat) (l : List Nat), s.serves rq 0x0700 p = true ∧ (s.mbx.lock = none ∨ s.mbx.lock = some
      rq.sess) ∧ s.portOk port = true ∧ l.length = 8) ∧
    (∃ (s : State) (rq : Rq) (p : Principal) (n : Nat), s.serves rq 0x0700 p = true ∧ s.mbx.lock = some n ∧ n ≠ rq.sess) ∧
    (∃ (s : State) (rq : Rq) (p : Principal) (tenant : Nat) (rate : Nat) (burst : Nat) (en : Nat), s.serves rq 0x0701 p = true ∧ (s.mbx.lock = none
      ∨ s.mbx.lock = some rq.sess) ∧ 1 ≤ tenant ∧ tenant ≤ 1023 ∧ rate < 2 ^ 24 ∧ burst < 2 ^ 24 ∧ en ≤ 1) ∧
    (∃ (s : State) (rq : Rq) (p : Principal) (n : Nat), s.serves rq 0x0701 p = true ∧ s.mbx.lock = some n ∧ n ≠ rq.sess) ∧
    (∃ (s : State) (rq : Rq) (p : Principal) (u : Nat) (l : List Nat), s.serves rq 0x0B00 p = true ∧ (s.mbx.lock = none ∨ s.mbx.lock = some rq.sess)
      ∧ u ≤ 351 ∧ l.length = 8) ∧
    (∃ (s : State) (rq : Rq) (p : Principal) (n : Nat), s.serves rq 0x0B00 p = true ∧ s.mbx.lock = some n ∧ n ≠ rq.sess) ∧
    (∃ (l : List (Nat × Word)) (s : State) (a : Nat), a ∈ l.map Prod.fst ∧ a ∉ s.dirty) ∧
    (∃ (l : List (Nat × Word)) (s : State) (a : Nat), (a ∉ l.map Prod.fst ∨ a ∈ s.dirty)) ∧
    (∃ (s : State) (a : Nat), a ∈ s.staged) :=
    ⟨⟨W0, (rqT 1), .owner, 0, [1, 2, 3, 4, 5, 6, 7, 8], by decide +kernel⟩,
      ⟨{ W0 with mbx.lock := some 2 }, (rqT 1), .owner, 2, by decide +kernel⟩,
      ⟨W0, (rqT 1), .owner, 5, 0, 0, 0, by decide +kernel⟩,
      ⟨{ W0 with mbx.lock := some 2 }, (rqT 1), .owner, 2, by decide +kernel⟩,
      ⟨W0, (rqT 1), .owner, 0, [1, 2, 3, 4, 5, 6, 7, 8], by decide +kernel⟩,
      ⟨{ W0 with mbx.lock := some 2 }, (rqT 1), .owner, 2, by decide +kernel⟩,
      ⟨[(SHP_RATE 5, 7)], W0, SHP_RATE 5, by decide +kernel⟩,
      ⟨[], W0, 0, by decide +kernel⟩,
      ⟨W0.stageWord (SHP_RATE 5) 7, SHP_RATE 5, by decide +kernel⟩⟩

/-- States and operands that meet the hypotheses of each clause of StagedGatesAndWindows. -/
theorem wit_StagedGatesAndWindows :
    (∃ (s : State) (rq : Rq) (p : Principal) (g : Nat) (total : Nat) (first : Nat) (l : List GRule), s.serves rq 0x0406 p = true ∧ (s.mbx.lock =
      none ∨ s.mbx.lock = some rq.sess) ∧ g < 176 ∧ (gateOwnerOnly g = false ∨ p = .owner) ∧ total ≤ 256 ∧ l.length ≤ 170 ∧ first + l.length ≤ total
      ∧ (total = 0 ∨ l ≠ [])) ∧
    (∃ (s : State) (rq : Rq) (p : Principal) (n : Nat), s.serves rq 0x0406 p = true ∧ s.mbx.lock = some n ∧ n ≠ rq.sess) ∧
    (∃ (s : State) (rq : Rq) (p : Principal), s.serves rq 0x0407 p = true ∧ (s.mbx.lock = none ∨ s.mbx.lock = some rq.sess) ∧ s.md.mode ≠ .evacuate) ∧
    (∃ (s : State) (rq : Rq) (p : Principal), s.serves rq 0x0407 p = true ∧ (s.mbx.lock = none ∨ s.mbx.lock = some rq.sess) ∧ s.md.mode = .evacuate) ∧
    (∃ (s : State) (rq : Rq) (p : Principal) (w : Nat), s.serves rq 0x0800 p = true ∧ (s.mbx.lock = none ∨ s.mbx.lock = some rq.sess) ∧ w < 64) ∧
    (∃ (s : State) (rq : Rq) (p : Principal) (n : Nat), s.serves rq 0x0800 p = true ∧ s.mbx.lock = some n ∧ n ≠ rq.sess) ∧
    (∃ (s : State) (rq : Rq) (p : Principal) (w : Nat), s.serves rq 0x0800 p = true ∧ (s.mbx.lock = none ∨ s.mbx.lock = some rq.sess) ∧ 64 ≤ w) ∧
    (∃ (s : State) (g : Nat), g < 176 ∧ rulesOverlap (mgetD s.sec.rules g []) = false) ∧
    (∃ (s : State) (g : Nat), g < 176 ∧ rulesOverlap (mgetD s.sec.rules g []) = true) :=
    ⟨⟨W0, (rqT 1), .owner, 0, 0, 0, [], by decide +kernel⟩,
      ⟨{ W0 with mbx.lock := some 2 }, (rqT 1), .owner, 2, by decide +kernel⟩,
      ⟨W0, (rqT 1), .owner, by decide +kernel⟩,
      ⟨{ W0 with md.mode := .evacuate }, (rqT 1), .owner, by decide +kernel⟩,
      ⟨W0, (rqT 1), .owner, 0, by decide +kernel⟩,
      ⟨{ W0 with mbx.lock := some 2 }, (rqT 1), .owner, 2, by decide +kernel⟩,
      ⟨W0, (rqT 1), .owner, 64, by decide +kernel⟩,
      ⟨W0, 0, by decide +kernel⟩,
      ⟨{ W0 with sec.rules := [(0, [{ base := 0, fin := 9, init := 0, mask := 0, perm := 3, rest := 0 }, { base := 0, fin := 9, init := 0, mask := 0, perm := 3, rest := 0 }])] },
        0, by decide +kernel⟩⟩

/-- States and operands that meet the hypotheses of each clause of MoveCopying. -/
theorem wit_MoveCopying :
    (∃ (s : State) (m : Nat) (e : Nat) (x : Move) (b : Bool), mget s.oxb.moves m = some x ∧ mget x.reading e = some b ∧ (b = true ∨ (e < 4096 ∧ 0 <
      mgetD x.homeWr e 0))) ∧
    (∃ (s : State) (m : Nat) (e : Nat) (x : Move), mget s.oxb.moves m = some x ∧ mget x.reading e = some false ∧ (e < 4096 → mgetD x.homeWr e 0 = 0)
      ∧ (x.phase = .flip → s.gateEval x.srcPool initOxbow .read (s.elementAt x.tree x.srcPool x.srcPpi e) 64 = .allow) ∧ s.gateEval x.dstPool
      initOxbow .write (s.elementAt x.tree x.dstPool x.dstPpi e) 64 = .allow) ∧
    (∃ (s : State) (m : Nat) (e : Nat), (∀ x, mget s.oxb.moves m = some x → mget x.reading e = none)) ∧
    (∃ (s : State) (m : Nat) (e : Nat) (x : Move), mget s.oxb.moves m = some x ∧ e ∈ x.writing) ∧
    (∃ (s : State) (m : Nat) (line : Nat), mget s.oxb.moves m = none ∧ line ∈ s.oxb.unacked ∧ s.home.wbuf = [] ∧ s.home.tt = []) ∧
    (∃ (s : State) (m : Nat) (line : Nat), mget s.oxb.moves m = none ∧ line ∉ s.oxb.unacked) ∧
    (∃ (s : State) (m : Nat) (x : Move), mget s.oxb.moves m = some x ∧ x.phase = .copying ∧ x.reading = [] ∧ x.flipNext = false ∧ x.abort = none ∧
      x.nextElement = none ∧ (x.clear.filter (fun e => x.tree || decide (e < 4096))).length ≤ (if x.tree then 0 else s.cur OXB_RANK_FLIP_MAX)) ∧
    (∃ (s : State) (m : Nat) (x : Move), mget s.oxb.moves m = some x ∧ x.phase = .copying ∧ x.reading = [] ∧ x.flipNext = false ∧ x.abort = none ∧
      x.nextElement = none ∧ (if x.tree then 0 else s.cur OXB_RANK_FLIP_MAX) < (x.clear.filter (fun e => x.tree || decide (e < 4096))).length ∧
      s.cur OXB_RANK_PASS_MAX ≤ x.pass + 1) ∧
    (∃ (s : State) (m : Nat) (x : Move), mget s.oxb.moves m = some x ∧ x.phase = .copying ∧ x.reading = [] ∧ x.flipNext = false ∧ x.abort = none ∧
      x.nextElement = none ∧ (if x.tree then 0 else s.cur OXB_RANK_FLIP_MAX) < (x.clear.filter (fun e => x.tree || decide (e < 4096))).length ∧
      x.pass + 1 < s.cur OXB_RANK_PASS_MAX) ∧
    (∃ (s : State) (pool : Nat) (ppi : Nat), s.linkUp pool = true ∧ (∃ x ∈ s.oxb.scrubs, x.pool = pool ∧ x.ppi = ppi ∧ x.left = 0)) ∧
    (∃ (s : State) (pool : Nat) (ppi : Nat), (s.linkUp pool = false ∨ ∀ x ∈ s.oxb.scrubs, x.pool = pool → x.ppi = ppi → x.left ≠ 0)) :=
    ⟨⟨{ W0 with oxb.moves := [(0, { moveT with reading := [(0, true)] })] }, 0, 0, { moveT with reading := [(0, true)] }, true, by decide +kernel⟩,
      ⟨{ W0 with oxb.moves := [(0, { moveT with reading := [(0, false)] })] }, 0, 0, { moveT with reading := [(0, false)] }, by decide +kernel⟩,
      ⟨W0, 0, 0, by decide +kernel⟩,
      ⟨{ W0 with oxb.moves := [(0, { moveT with writing := [0] })] }, 0, 0, { moveT with writing := [0] }, by decide +kernel⟩,
      ⟨{ W0 with oxb.unacked := [0] }, 0, 0, by decide +kernel⟩,
      ⟨W0, 0, 0, by decide +kernel⟩,
      ⟨{ W0 with oxb.moves := [(0, { moveT with tree := true, copied := 0, blocks := 0 })] }, 0,
        { moveT with tree := true, copied := 0, blocks := 0 }, by decide +kernel⟩,
      ⟨{ W0 with oxb.moves := [(0, { moveT with next := 5000, pass := 14 })] }, 0, { moveT with next := 5000, pass := 14 }, by decide +kernel⟩,
      ⟨({ W0 with oxb.moves := [(0, { moveT with next := 5000 })] }).setCur OXB_RANK_PASS_MAX 9, 0, { moveT with next := 5000 }, by decide +kernel⟩,
      ⟨{ W1 with oxb.scrubs := [{ pool := 8, ppi := 0, slot := false, left := 0 }] }, 8, 0, by decide +kernel⟩,
      ⟨W0, 0, 0, by decide +kernel⟩⟩

/-- States and operands that meet the hypotheses of each clause of MoveOpcodes. -/
theorem wit_MoveOpcodes :
    (∃ (s : State) (rq : Rq) (p : Principal) (g : Nat) (first : Nat) (count : Nat) (pool : Nat) (r : Region), s.serves rq 0x0600 p = true ∧ mget
      s.bnd.regions g = some r ∧ r.deleting = false ∧ 1 ≤ count ∧ first + count ≤ r.size ∧ s.policyOf g ≠ 0 ∧ pool ≤ 127 ∧ s.directiveTarget g pool
      = true ∧ (∀ k, k < count → s.moveOf g (first + k) = none) ∧ s.lcSlots ≠ []) ∧
    (∃ (s : State) (rq : Rq) (p : Principal) (g : Nat) (first : Nat) (count : Nat) (pool : Nat) (r : Region), s.serves rq 0x0600 p = true ∧ mget
      s.bnd.regions g = some r ∧ (count = 0 ∨ r.size < first + count ∨ s.policyOf g = 0 ∨ 127 < pool ∨ s.directiveTarget g pool = false)) ∧
    (∃ (s : State) (rq : Rq) (p : Principal) (g : Nat) (first : Nat) (count : Nat) (r : Region), s.serves rq 0x0601 p = true ∧ mget s.bnd.regions g
      = some r ∧ 1 ≤ count ∧ first + count ≤ r.size) ∧
    (∃ (s : State) (rq : Rq) (g : Nat) (first : Nat) (count : Nat) (r : Region), s.serves rq 0x0602 (.tenant r.tenant) = true ∧ mget s.bnd.regions g
      = some r ∧ (∃ b ∈ s.bindingsOf g, s.curBit (BND_CFG_TEN_VIEW b) = true) ∧ 1 ≤ count ∧ count ≤ 4000 ∧ first + count ≤ r.size) ∧
    (∃ (s : State) (rq : Rq) (p : Principal) (g : Nat) (r : Region), s.serves rq 0x0602 p = true ∧ mget s.bnd.regions g = some r ∧ (p ≠ .tenant
      r.tenant ∨ ∀ b ∈ s.bindingsOf g, s.curBit (BND_CFG_TEN_VIEW b) = false)) :=
    ⟨⟨((W2.setCur (OXB_POOL_CFG_PLACE 8) 1).setCur (BND_POOLS_POOLS 1 0) 256).setCur (BND_CFG_POLICY 1) 2, (rqT 1), .owner, 3, 1, 1, 8, regT,
        by decide +kernel⟩,
      ⟨W2, (rqT 1), .owner, 3, 0, 0, 0, regT, by decide +kernel⟩,
      ⟨W2, (rqT 1), .owner, 3, 0, 1, regT, by decide +kernel⟩,
      ⟨{ W2 with bnd.regions := [(3, { regT with tenant := 5, cls := 1 })] }, (rqT 3), 3, 0, 1, { regT with tenant := 5, cls := 1 },
        by decide +kernel⟩,
      ⟨W2, (rqT 3), (.tenant 5), 3, regT, by decide +kernel⟩⟩

/-- States and operands that meet the hypotheses of each clause of EvacuationAndRanker. -/
theorem wit_EvacuationAndRanker :
    (∃ (s : State) (rq : Rq) (p : Principal) (pool : Nat) (disc : Nat), s.serves rq 0x0603 p = true ∧ disc ≤ 1 ∧ s.evacRefusal pool = none ∧
      s.lcSlots ≠ []) ∧
    (∃ (s : State) (rq : Rq) (p : Principal) (pool : Nat) (disc : Nat) (c : Status), s.serves rq 0x0603 p = true ∧ disc ≤ 1 ∧ s.evacRefusal pool =
      some c) ∧
    (∃ (s : State) (b : Bus) (p : Nat), s.takesWrite b (OXB_EVAC p) = true ∧ (s.busP b).isOF = true ∧ p < 128 ∧ s.evacRefusal p = none) ∧
    (∃ (s : State) (b : Bus) (p : Nat) (w : Word) (c : Status), s.takesWrite b (OXB_EVAC p) = true ∧ (s.busP b).isOF = true ∧ p < 128 ∧
      s.evacRefusal p = some c ∧ getBit w 2 = false) ∧
    (∃ (s : State) (b : Bus) (p : Nat) (e : Evac), s.takesWrite b (OXB_EVAC p) = true ∧ (s.busP b).isOF = true ∧ p < 128 ∧ mget s.oxb.evac p = some
      e) ∧
    (∃ (s : State) (p : Nat), p < 128 ∧ s.isPool p = true ∧ s.linkUp p = true ∧ (s.px p).inited = false ∧ s.rangeOk p (s.px p).cap = true) ∧
    (∃ (s : State) (p : Nat), p < 128 ∧ s.isPool p = true ∧ s.linkUp p = true ∧ (s.px p).inited = false ∧ s.rangeOk p (s.px p).cap = false) ∧
    (∃ (s : State) (p : Nat), (s.linkUp p = false ∨ (s.px p).inited = true)) ∧
    (∃ (s : State) (g : Nat), s.stackGone 1 = false ∧ 8 ≤ (s.epoch % 128 + 128 - (s.heatRec g).stamp) % 128) ∧
    (∃ (s : State) (g : Nat), s.stackGone 1 = false ∧ (s.epoch % 128 + 128 - (s.heatRec g).stamp) % 128 < 8) ∧
    (∃ (s : State) (lost : Bool), (lost = true ∨ s.stackGone 1 = true)) ∧
    (∃ (s : State), s.stackGone 1 = false) ∧
    (∃ (s : State), s.stackGone 1 = false) :=
    ⟨⟨W1.setBit (OXB_POOL_FREE_VALID 8) true, (rqT 1), .owner, 8, 0, by decide +kernel⟩,
      ⟨W0, (rqT 1), .owner, 0, 0, .parameter, by decide +kernel⟩,
      ⟨W1.setBit (OXB_POOL_FREE_VALID 8) true, busT, 8, by decide +kernel⟩,
      ⟨W0, busT, 0, 0, .parameter, by decide +kernel⟩,
      ⟨{ W0 with oxb.evac := [(0, evacT)] }, busT, 0, evacT, by decide +kernel⟩,
      ⟨W1, 8, by decide +kernel⟩,
      ⟨W1.setCur (OXB_POOL_BASE_GBASE 8) (2 ^ 30 - 1) |> fun s => { s with prt.px := [(8, { cap := 9 })] }, 8, by decide +kernel⟩,
      ⟨W0, 0, by decide +kernel⟩,
      ⟨{ W0 with time.frame := 8192 }, 0, by decide +kernel⟩,
      ⟨W0, 0, by decide +kernel⟩,
      ⟨W0, true, by decide +kernel⟩,
      ⟨W0, by decide +kernel⟩,
      ⟨W0, by decide +kernel⟩⟩

/-- States and operands that meet the hypotheses of each clause of BulkEngines. -/
theorem wit_BulkEngines :
    (∃ (s : State) (q : Nat) (d : BulkDesc), q < 32 ∧ s.queueTurn q = true ∧ s.inHold = false ∧ s.md.mode ≠ .quarantine ∧ s.canWrite (s.queuePort q)
      = true ∧ d.fieldsOk = false ∧ (∀ y ∈ s.oxb.runs, y.queue ≠ q ∧ y.num < s.oxb.serial)) ∧
    (∃ (s : State) (u : State) (q : Nat) (d : BulkDesc), q < 32 ∧ s.queueTurn q = true ∧ s.inHold = false ∧ s.md.mode ≠ .quarantine ∧ s.canWrite
      (s.queuePort q) = true ∧ (∀ y ∈ s.oxb.runs, y.queue ≠ q ∧ y.num < s.oxb.serial) ∧ u =
      { (s.setFld (OXB_BQ_HEAD_HEAD q) ((s.fld (OXB_BQ_HEAD_HEAD q) + 1) % 2 ^ (s.fld (OXB_BQ_CFG_SIZE q) + 4))).setBit (OXB_BQ_STAT_BUSY q) true with oxb.runs := s.oxb.runs ++ [{ queue := q, num := s.oxb.serial, desc := d }], oxb.serial := s.oxb.serial + 1, oxb.turn := mput s.oxb.turn (q / 8) (q % 8) }
      ∧ u.bulkRefusal q d = (none, u)) ∧
    (∃ (s : State) (q : Nat) (d : BulkDesc), q < 32 ∧ s.queueTurn q = true ∧ s.inHold = false ∧ s.md.mode ≠ .quarantine ∧ s.canWrite (s.queuePort q)
      = true ∧ d.flags / 2 % 2 = 1 ∧ (∀ y ∈ s.oxb.runs, y.num < s.oxb.serial ∧ (y.queue = q → y.started = true)) ∧ (∃ y ∈ s.oxb.runs, y.queue = q)) ∧
    (∃ (s : State) (q : Nat) (ok : Bool), q < 32 ∧ s.queueTurn q = true ∧ s.inHold = false ∧ s.md.mode ≠ .quarantine ∧ (ok = false ∨ s.canWrite
      (s.queuePort q) = false)) ∧
    (∃ (s : State) (q : Nat), (s.queueTurn q = false ∨ s.inHold = true ∨ s.md.mode = .quarantine)) ∧
    (∃ (s : State) (q : Nat), s.queueTurn q = true ∧ q < 32) ∧
    (∃ (s : State) (q : Nat) (n : Nat) (ofs : Nat) (e : Nat) (x : BulkRun), q < 32 ∧ s.oxb.runs.find? (fun x => x.queue == q && x.num == n) = some x
      ∧ x.going = [(ofs, e)] ∧ x.left = [] ∧ (∀ y ∈ s.oxb.runs, y.queue = q → y.num = n) ∧ s.canWrite (s.queuePort q) = true) ∧
    (∃ (s : State) (q : Nat) (n : Nat) (ofs : Nat) (e : Nat) (x : BulkRun), s.oxb.runs.find? (fun x => x.queue == q && x.num == n) = some x ∧
      x.going.find? (fun y => y.1 == ofs) = some (ofs, e) ∧ x.left = [] ∧ x.desc.op ≠ 5 ∧ (∃ y ∈ x.going, y.1 ≠ ofs)) ∧
    (∃ (s : State) (q : Nat) (n : Nat) (ofs : Nat), (∀ x, s.oxb.runs.find? (fun x => x.queue == q && x.num == n) = some x → x.going.find? (fun y =>
      y.1 == ofs) = none)) ∧
    (∃ (s : State) (b : Bus) (q : Nat), s.takesWrite b (OXB_BQ_TAIL q) = true ∧ (s.busP b).isIn 8 = true ∧ q < 32) ∧
    (∃ (s : State) (b : Bus) (q : Nat), s.takesWrite b (OXB_BQ_CFG q) = true ∧ (s.busP b).isIn 11 = true ∧ q < 32 ∧ s.bit (OXB_BQ_CFG_EN q) = true) ∧
    (∃ (s : State) (q : Nat), q < 32 ∧ s.queueTurn q = true ∧ s.inHold = false ∧ s.md.mode ≠ .quarantine ∧ s.canWrite (s.queuePort q) = true ∧ (∃ y
      ∈ s.oxb.runs, y.queue = q ∧ y.started = false) ∧ (∀ y ∈ s.oxb.runs, y.queue = q → s.runMayStart y = false)) ∧
    (∃ (s : State) (q : Nat) (n : Nat) (ofs : Nat) (e : Nat) (x : BulkRun), q < 32 ∧ s.oxb.runs.find? (fun x => x.queue == q && x.num == n) = some x
      ∧ x.going = [(ofs, e)] ∧ x.left = [] ∧ n < s.oxb.serial) :=
    ⟨⟨{ ((W2.setBit (OXB_BQ_CFG_EN 0) true).setFld (OXB_BQ_TAIL_TAIL 0) 1) with evt.mf := [(0, { bme := true })] }, 0, { descT with op := 9 },
        by decide +kernel⟩,
      ⟨{ ((W2.setBit (OXB_BQ_CFG_EN 0) true).setFld (OXB_BQ_TAIL_TAIL 0) 1) with evt.mf := [(0, { bme := true })] },
        (({ { ((W2.setBit (OXB_BQ_CFG_EN 0) true).setFld (OXB_BQ_TAIL_TAIL 0) 1) with evt.mf := [(0, { bme := true })] } with oxb.runs := [{ queue := 0, num := 0, desc := { descT with op := 2, dstBind := 1 } }], oxb.serial := 1, oxb.turn := [(0, 0)] }
        : State).setFld (OXB_BQ_HEAD_HEAD 0) 1).setBit (OXB_BQ_STAT_BUSY 0) true, 0, { descT with op := 2, dstBind := 1 }, by decide +kernel⟩,
      ⟨{ { ((W2.setBit (OXB_BQ_CFG_EN 0) true).setFld (OXB_BQ_TAIL_TAIL 0) 1) with evt.mf := [(0, { bme := true })] } with oxb.serial := 1, oxb.runs := [{ brunT with started := true }] },
        0, { descT with flags := 2 }, by decide +kernel⟩,
      ⟨{ ((W2.setBit (OXB_BQ_CFG_EN 0) true).setFld (OXB_BQ_TAIL_TAIL 0) 1) with evt.mf := [(0, { bme := true })] }, 0, false, by decide +kernel⟩,
      ⟨W2, 0, by decide +kernel⟩,
      ⟨{ ((W2.setBit (OXB_BQ_CFG_EN 0) true).setFld (OXB_BQ_TAIL_TAIL 0) 1) with evt.mf := [(0, { bme := true })] }, 0, by decide +kernel⟩,
      ⟨{ { ((W2.setBit (OXB_BQ_CFG_EN 0) true).setFld (OXB_BQ_TAIL_TAIL 0) 1) with evt.mf := [(0, { bme := true })] } with oxb.runs := [{ brunT with going := [(0, 1)], started := true }] },
        0, 0, 0, 1, { brunT with going := [(0, 1)], started := true }, by decide +kernel⟩,
      ⟨{ { ((W2.setBit (OXB_BQ_CFG_EN 0) true).setFld (OXB_BQ_TAIL_TAIL 0) 1) with evt.mf := [(0, { bme := true })] } with oxb.runs := [{ brunT with going := [(0, 1), (64, 2)], started := true }] },
        0, 0, 0, 1, { brunT with going := [(0, 1), (64, 2)], started := true }, by decide +kernel⟩,
      ⟨{ { ((W2.setBit (OXB_BQ_CFG_EN 0) true).setFld (OXB_BQ_TAIL_TAIL 0) 1) with evt.mf := [(0, { bme := true })] } with oxb.runs := [{ brunT with going := [(0, 1)], started := true }] },
        0, 0, 64, by decide +kernel⟩,
      ⟨(W2.setFld (OXB_BQ_CFG_PORT 0) 0), { fn := 0, be := 15 }, 0, by decide +kernel⟩,
      ⟨{ ((W2.setBit (OXB_BQ_CFG_EN 0) true).setFld (OXB_BQ_TAIL_TAIL 0) 1) with evt.mf := [(0, { bme := true })] }, busT, 0, by decide +kernel⟩,
      ⟨{ { ((W2.setBit (OXB_BQ_CFG_EN 0) true).setFld (OXB_BQ_TAIL_TAIL 0) 1) with evt.mf := [(0, { bme := true })] } with oxb.serial := 2, oxb.runs := [{ brunT with started := true }, { brunT with num := 1, desc := { descT with flags := 2 } }] },
        0, by decide +kernel⟩,
      ⟨{ { ((W2.setBit (OXB_BQ_CFG_EN 0) true).setFld (OXB_BQ_TAIL_TAIL 0) 1) with evt.mf := [(0, { bme := true })] } with oxb.serial := 2, oxb.runs := [{ brunT with going := [(0, 1)], started := true }, { brunT with num := 1, desc := { descT with flags := 2 } }] },
        0, 0, 0, 1, { brunT with going := [(0, 1)], started := true }, by decide +kernel⟩⟩

/-- States and operands that meet the hypotheses of each clause of CounterDumps. -/
theorem wit_CounterDumps :
    (∃ (s : State) (d : DumpRun), s.cnt.run = some d ∧ s.canWrite d.port = true) ∧
    (∃ (s : State) (d : DumpRun), s.cnt.run = some d ∧ s.canWrite d.port = false) ∧
    (∃ (s : State), s.cnt.run = none) ∧
    (∃ (s : State) (rq : Rq) (p : Principal) (port : Nat) (base : Nat) (size : Nat) (every : Nat), s.serves rq 0x0B01 p = true ∧ (size = 0 ∨
      s.ringOk port base size every = true)) ∧
    (∃ (s : State) (rq : Rq) (p : Principal) (port : Nat) (base : Nat) (size : Nat) (every : Nat), s.serves rq 0x0B01 p = true ∧ size ≠ 0 ∧ s.ringOk
      port base size every = false) ∧
    (∃ (s : State) (rq : Rq) (p : Principal) (b : Nat), (∀ k, p = .tenant k → s.bndValid b = true ∧ s.bndTenant b = k ∧ s.curBit (BND_CFG_TEN_VIEW
      b) = true) ∧ s.serves rq 0x0B02 p = true ∧ b < 4096) ∧
    (∃ (s : State) (rq : Rq) (k : Nat) (b : Nat), s.serves rq 0x0B02 (.tenant k) = true ∧ b < 4096 ∧ s.curBit (BND_CFG_TEN_VIEW b) = false) ∧
    (∃ (s : State) (b : Bus) (w : Word), s.takesWrite b CNT_RING_CTL = true ∧ s.busP b = .owner ∧ s.bit CNT_RING_CTL_EN = false ∧ getBit w 23 = true
      ∧ 4 ≤ getBits w 0 16 ∧ s.ringOk (getBits w 16 7) s.ringBase (s.fld CNT_RING_SIZE_SIZE) (getBits w 0 16) = true) ∧
    (∃ (s : State) (b : Bus) (w : Word), s.takesWrite b CNT_RING_CTL = true ∧ s.busP b = .owner ∧ s.bit CNT_RING_CTL_EN = false ∧ getBit w 23 = true
      ∧ 4 ≤ getBits w 0 16 ∧ s.ringOk (getBits w 16 7) s.ringBase (s.fld CNT_RING_SIZE_SIZE) (getBits w 0 16) = false) ∧
    (∃ (s : State) (b : Bus) (w : Word), s.takesWrite b CNT_RING_CTL = true ∧ s.busP b = .owner ∧ s.bit CNT_RING_CTL_EN = true ∧ getBit w 23 =
      false) :=
    ⟨⟨{ W1 with cnt.run := some dumpT, evt.mf := [(0, { bme := true })] }, dumpT, by decide +kernel⟩,
      ⟨{ W0 with cnt.run := some dumpT }, dumpT, by decide +kernel⟩,
      ⟨W0, by decide +kernel⟩,
      ⟨W0, (rqT 1), .owner, 0, 0, 0, 0, by decide +kernel⟩,
      ⟨W0, (rqT 1), .owner, 0, 0, 1, 0, by decide +kernel⟩,
      ⟨W0, (rqT 1), .owner, 0, by simp, by decide +kernel⟩,
      ⟨W0, (rqT 3), 5, 0, by decide +kernel⟩,
      ⟨W1.setFld CNT_RING_SIZE_SIZE 56320, busT, (0x800000 + 4), by decide +kernel⟩,
      ⟨W0, busT, (0x800000 + 4), by decide +kernel⟩,
      ⟨W0.setBit CNT_RING_CTL_EN true, busT, 0, by decide +kernel⟩⟩

/-- States and operands that meet the hypotheses of each clause of IngressAndArbitration. -/
theorem wit_IngressAndArbitration :
    (∃ (s : State) (p : Nat) (g : Bool) (integ : Bool), (g = false ∨ (integ = false ∧ s.contains_ p = true) ∨ s.linkUp p = false ∨ (s.role p ≠ 1 ∧
      s.role p ≠ 2))) ∧
    (∃ (s : State) (p : Nat) (integ : Bool), s.linkUp p = true ∧ (s.role p = 1 ∨ s.role p = 2) ∧ (integ = true ∨ s.contains_ p = false) ∧ p < 128 ∧
      s.fld (PRT_PM_STAT_STATE p) = 2) ∧
    (∃ (s : State) (p : Nat) (sh : Nat) (m : Msg) (m' : Msg) (integ : Bool), s.linkUp p = true ∧ (s.role p = 1 ∨ s.role p = 2) ∧ (integ = true ∨
      s.contains_ p = false) ∧ s.fld (PRT_PM_STAT_STATE p) ≠ 2 ∧ m' = s.removed { m with src := p } ∧ s.carriesKind p m' = true ∧ s.cacheAllowed m'
      = true ∧ m'.dst ≠ p ∧ m'.dst < 150 ∧ s.roomFor m' = some sh ∧ s.quarantined { m' with shr := sh } = false ∧ s.strayReq { m' with shr := sh } =
      false ∧ (128 ≤ m'.dst ∨ s.takes m'.dst { m' with shr := sh } = true)) ∧
    (∃ (s : State) (p : Nat) (sh : Nat) (m : Msg) (m' : Msg) (integ : Bool), s.linkUp p = true ∧ (s.role p = 1 ∨ s.role p = 2) ∧ (integ = true ∨
      s.contains_ p = false) ∧ s.fld (PRT_PM_STAT_STATE p) ≠ 2 ∧ m' = s.removed { m with src := p } ∧ s.carriesKind p m' = true ∧ s.cacheAllowed m'
      = true ∧ 128 ≤ m'.dst ∧ m'.dst < 150 ∧ s.roomFor m' = some sh ∧ s.quarantined { m' with shr := sh } = false) ∧
    (∃ (s : State) (p : Nat) (integ : Bool), s.linkUp p = true ∧ (s.role p = 1 ∨ s.role p = 2) ∧ (integ = true ∨ s.contains_ p = false) ∧ s.fld
      (PRT_PM_STAT_STATE p) ≠ 2) ∧
    (∃ (s : State) (p : Nat) (m : Msg) (m' : Msg) (integ : Bool), m' = s.removed { m with src := p } ∧ (s.carriesKind p m' = false ∨ s.cacheAllowed
      m' = false ∨ m'.dst = p ∨ 150 ≤ m'.dst ∨ s.roomFor m' = none) ∧ s.linkUp p = true ∧ (s.role p = 1 ∨ s.role p = 2) ∧ (integ = true ∨
      s.contains_ p = false) ∧ s.fld (PRT_PM_STAT_STATE p) ≠ 2) ∧
    (∃ (s : State) (p : Nat) (b : Nat) (sh : Nat) (m : Msg) (m' : Msg) (integ : Bool), s.linkUp p = true ∧ (s.role p = 1 ∨ s.role p = 2) ∧ (integ =
      true ∨ s.contains_ p = false) ∧ s.fld (PRT_PM_STAT_STATE p) ≠ 2 ∧ m' = s.removed { m with src := p } ∧ m'.kind = .ioReq ∧ s.isHost p = true ∧
      s.md.mode = .quarantine ∧ s.ideBlocked p m' = false ∧ m'.dst = b ∧ b ≠ p ∧ b < 150 ∧ s.roomFor m' = some sh ∧ s.takes p
      { src := b, dst := p, kind := .ioReq } = true) ∧
    (∃ (s : State) (o : Nat) (room : Nat) (c : Nat) (w : Nat) (m : Msg), o < 150 ∧ s.coreGated = false ∧ (o = 145 → room % 2 = 1) ∧ mget s.xbr.busy
      o = none ∧ s.pickClass o room = some c ∧ s.winner o (s.eligible o c room) = some (w, m)) ∧
    (∃ (s : State) (o : Nat) (room : Nat) (c : Nat) (w : Nat) (m : Msg), o < 150 ∧ s.coreGated = false ∧ (o = 145 → room % 2 = 1) ∧ mget s.xbr.busy
      o = none ∧ s.pickClass o room = some c ∧ s.winner o (s.eligible o c room) = some (w, m)) ∧
    (∃ (s : State) (o : Nat) (room : Nat) (c : Nat) (w : Nat) (m : Msg), o < 150 ∧ s.coreGated = false ∧ (o = 145 → room % 2 = 1) ∧ mget s.xbr.busy
      o = none ∧ s.pickClass o room = some c ∧ s.winner o (s.eligible o c room) = some (w, m) ∧ m.dst < 128) ∧
    (∃ (s : State) (room : Nat), s.coreGated = false ∧ room % 2 = 0) ∧
    (∃ (s : State) (o : Nat) (room : Nat) (c : Nat) (w : Nat) (m : Msg), s.pickClass o room = some c ∧ s.winner o (s.eligible o c room) = some (w,
      m)) ∧
    (∃ (s : State) (o : Nat) (room : Nat) (c : Nat), s.pickClass o room = some c) ∧
    (∃ (s : State) (o : Nat) (room : Nat), ((mget s.xbr.busy o).isSome = true ∨ s.pickClass o room = none) ∧ (o = 145 → room % 2 = 1)) ∧
    (∃ (s : State) (o : Nat), (s.coreGated = true ∨ 150 ≤ o)) :=
    ⟨⟨W0, 0, false, false, by decide +kernel⟩,
      ⟨W1.setFld (PRT_PM_STAT_STATE 4) 2, 4, true, by decide +kernel⟩,
      ⟨W1, 0, 0, msgT, W1.removed msgT, true, by decide +kernel⟩,
      ⟨W1, 0, 0, msgT, W1.removed msgT, true, by decide +kernel⟩,
      ⟨W1, 0, true, by decide +kernel⟩,
      ⟨W1, 0, { msgT with dst := 0 }, W1.removed { msgT with dst := 0 }, true, by decide +kernel⟩,
      ⟨{ W1 with md.mode := .quarantine }, 0, 4, 0, { msgT with dst := 4, kind := .ioReq }, State.removed ({ W1 with md.mode := .quarantine })
        ({ msgT with dst := 4, kind := .ioReq }), true, by decide +kernel⟩,
      ⟨{ W1 with xbr.voq := [(voqKey 0 128 3, [msgT])] }, 128, 15, 3, 0, msgT, by decide +kernel⟩,
      ⟨{ W1 with xbr.voq := [(voqKey 0 128 3, [msgT])] }, 128, 15, 3, 0, msgT, by decide +kernel⟩,
      ⟨{ W1 with xbr.voq := [(voqKey 0 4 MsgKind.ioReq.cls, [{ msgT with dst := 4, kind := .ioReq }])] }, 4, 15, MsgKind.ioReq.cls, 0,
        { msgT with dst := 4, kind := .ioReq }, by decide +kernel⟩,
      ⟨W0, 0, by decide +kernel⟩,
      ⟨{ W1 with xbr.voq := [(voqKey 0 128 3, [msgT])] }, 128, 15, 3, 0, msgT, by decide +kernel⟩,
      ⟨{ W1 with xbr.voq := [(voqKey 0 128 3, [msgT])] }, 128, 15, 3, by decide +kernel⟩,
      ⟨W0, 0, 0, by decide +kernel⟩,
      ⟨W0, 150, by decide +kernel⟩⟩

/-- States and operands that meet the hypotheses of each clause of EgressAndShapers. -/
theorem wit_EgressAndShapers :
    (∃ (s : State) (p : Nat) (cr : Nat) (c : Nat) (u : Nat) (m : Msg) (d : NMap Nat), s.role p ≠ 3 ∧ p < 128 ∧ s.linkUp p = true ∧ mget
      s.xbr.inflight p = none ∧ s.fld (PRT_PM_STAT_STATE p) ≠ 2 ∧ s.anyEligible p cr = true ∧ s.drr p cr s.xbr.deficit (mgetD s.xbr.turn p 0) 4800 =
      (some (m, c), d, u)) ∧
    (∃ (s : State) (p : Nat) (cr : Nat) (c : Nat) (u : Nat) (m : Msg) (d : NMap Nat), s.role p ≠ 3 ∧ p < 128 ∧ s.linkUp p = true ∧ mget
      s.xbr.inflight p = none ∧ s.fld (PRT_PM_STAT_STATE p) = 2 ∧ s.anyEligible p cr = true ∧ s.drr p cr s.xbr.deficit (mgetD s.xbr.turn p 0) 4800 =
      (some (m, c), d, u)) ∧
    (∃ (s : State) (p : Nat) (cr : Nat), s.role p ≠ 3 ∧ (s.linkUp p = false ∨ (mget s.xbr.inflight p).isSome = true ∨ s.anyEligible p cr = false)) ∧
    (∃ (s : State) (p : Nat) (cr : Nat) (i : Nat) (c : Nat) (u : Nat) (k : Nat) (m : Msg) (d : NMap Nat), s.role p = 3 ∧ s.islOf p = some i ∧
      ((s.islSt i = 4 ∧ s.carries i = true) ∨ ((s.islSt i = 3 ∨ s.islSt i = 4) ∧ m.kind = .mgmt)) ∧ (s.islAt i).silent = false ∧ (s.islAt
      i).tx.foldl (fun n e => n + e.2) 0 < s.islSlots i ∧ k = [0, 1, 2, 3].foldl (fun n c => n + (if cr / 2 ^ c % 2 = 1 ∧ s.fld (ISL_FC_STAT_TX_OFF
      i) / 2 ^ c % 2 = 0 then 2 ^ c else 0)) 0 ∧ s.anyEligible p k = true ∧ s.drr p k s.xbr.deficit (mgetD s.xbr.turn p 0) 4800 = (some (m, c), d,
      u)) ∧
    (∃ (s : State), s.shapersOn.Nodup) ∧
    (∃ (s : State) (src : Nat) (dst : Nat) (k : Nat) (b : Nat) (m : Msg) (l : List Msg), s.voq src dst 3 = m :: l ∧ s.shaperOf m = some k ∧ m.bnd =
      some b ∧ m.adm = false ∧ 0 < s.tokens k) ∧
    (∃ (s : State) (src : Nat) (dst : Nat) (k : Nat) (b : Nat) (m : Msg) (l : List Msg), s.voq src dst 3 = m :: l ∧ s.shaperOf m = some k ∧ m.bnd =
      some b ∧ m.adm = false ∧ s.tokens k ≤ 0) ∧
    (∃ (s : State) (src : Nat) (dst : Nat), (∀ m, (s.voq src dst 3).head? = some m → s.shaperOf m = none ∨ m.adm = true)) ∧
    (∃ (s : State) (rq : Rq) (p : Principal) (port : Nat) (en : Nat) (f : Nat) (l : List Nat), s.serves rq 0x0702 p = true ∧ s.portOk port = true ∧
      l.length = 16 ∧ (∀ b ∈ l, b ≤ 255) ∧ en ≤ 1 ∧ s.glRefusal port (en == 1) l f rq.group = none ∧ s.lcSlots ≠ []) ∧
    (∃ (s : State) (rq : Rq) (p : Principal) (port : Nat) (en : Nat) (f : Nat) (l : List Nat) (c : Status), s.serves rq 0x0702 p = true ∧ s.portOk
      port = true ∧ l.length = 16 ∧ (∀ b ∈ l, b ≤ 255) ∧ en ≤ 1 ∧ s.glRefusal port (en == 1) l f rq.group = some c) ∧
    (∃ (s : State) (b : Bus) (p : Nat) (w : Word), s.takesWrite b (PRT_GL_CTL p) = true ∧ (s.busP b).isOF = true ∧ p < 128 ∧ getBit w 2 = false ∧
      s.glRefusal p (getBit w 0) (s.stagedSlots p) (s.glAt p) false = none) ∧
    (∃ (s : State) (b : Bus) (p : Nat) (w : Word) (c : Status), s.takesWrite b (PRT_GL_CTL p) = true ∧ (s.busP b).isOF = true ∧ p < 128 ∧ getBit w 2
      = false ∧ s.glRefusal p (getBit w 0) (s.stagedSlots p) (s.glAt p) false = some c) ∧
    (∃ (s : State) (b : Bus) (p : Nat), s.takesWrite b (PRT_GL_CTL p) = true ∧ (s.busP b).isOF = true ∧ p < 128) ∧
    (∃ (s : State) (rq : Rq) (p : Principal) (port : Nat), s.serves rq 0x0703 p = true ∧ s.portOk port = true) ∧
    (∃ (s : State) (rq : Rq) (p : Principal) (port : Nat), s.serves rq 0x0703 p = true ∧ s.portOk port = false) :=
    ⟨⟨{ W1 with xbr.egress := [(egKey 4 0 MsgKind.ioReq.cls, [{ msgT with dst := 4, kind := .ioReq }])] }, 4, 15, 0,
        (({ W1 with xbr.egress := [(egKey 4 0 MsgKind.ioReq.cls, [{ msgT with dst := 4, kind := .ioReq }])] }).drr 4 15
        ({ W1 with xbr.egress := [(egKey 4 0 MsgKind.ioReq.cls, [{ msgT with dst := 4, kind := .ioReq }])] }).xbr.deficit 0 4800).2.2,
        { msgT with dst := 4, kind := .ioReq },
        (({ W1 with xbr.egress := [(egKey 4 0 MsgKind.ioReq.cls, [{ msgT with dst := 4, kind := .ioReq }])] }).drr 4 15
        ({ W1 with xbr.egress := [(egKey 4 0 MsgKind.ioReq.cls, [{ msgT with dst := 4, kind := .ioReq }])] }).xbr.deficit 0 4800).2.1,
        by decide +kernel⟩,
      ⟨{ (W1.setFld (PRT_PM_STAT_STATE 4) 2) with xbr.egress := [(egKey 4 0 MsgKind.ioReq.cls, [{ msgT with dst := 4, kind := .ioReq }])] }, 4, 15,
        0, (({ W1 with xbr.egress := [(egKey 4 0 MsgKind.ioReq.cls, [{ msgT with dst := 4, kind := .ioReq }])] }).drr 4 15
        ({ W1 with xbr.egress := [(egKey 4 0 MsgKind.ioReq.cls, [{ msgT with dst := 4, kind := .ioReq }])] }).xbr.deficit 0 4800).2.2,
        { msgT with dst := 4, kind := .ioReq },
        (({ W1 with xbr.egress := [(egKey 4 0 MsgKind.ioReq.cls, [{ msgT with dst := 4, kind := .ioReq }])] }).drr 4 15
        ({ W1 with xbr.egress := [(egKey 4 0 MsgKind.ioReq.cls, [{ msgT with dst := 4, kind := .ioReq }])] }).xbr.deficit 0 4800).2.1,
        by decide +kernel⟩,
      ⟨W0, 0, 0, by decide +kernel⟩,
      ⟨({ (W6 4 {}) with xbr.egress := [(egKey 12 0 MsgKind.ioReq.cls, [{ msgT with dst := 12, kind := .ioReq }])] } : State), 12, 15, 0, 0,
        ((({ (W6 4 {}) with xbr.egress := [(egKey 12 0 MsgKind.ioReq.cls, [{ msgT with dst := 12, kind := .ioReq }])] } : State)).drr 12 15 [] 0
        4800).2.2, 15, { msgT with dst := 12, kind := .ioReq },
        ((({ (W6 4 {}) with xbr.egress := [(egKey 12 0 MsgKind.ioReq.cls, [{ msgT with dst := 12, kind := .ioReq }])] } : State)).drr 12 15 [] 0
        4800).2.1, by decide +kernel⟩,
      ⟨W0, by decide +kernel⟩,
      ⟨{ (W2.setCur (SHP_RATE_EN 5) 1) with bnd.regions := [(3, { regT with tenant := 5 })], xbr.voq := [(voqKey 0 128 3, [{ msgT with bnd := some 1 }])], xbr.tokens := [(5, 99999)] },
        0, 128, 5, 1, { msgT with bnd := some 1 }, [], by decide +kernel⟩,
      ⟨{ (W2.setCur (SHP_RATE_EN 5) 1) with bnd.regions := [(3, { regT with tenant := 5 })], xbr.voq := [(voqKey 0 128 3, [{ msgT with bnd := some 1 }])], xbr.tokens := [(5, -3)] },
        0, 128, 5, 1, { msgT with bnd := some 1 }, [], by decide +kernel⟩,
      ⟨W0, 0, 0, by decide +kernel⟩,
      ⟨W1, (rqT 1), .owner, 4, 0, 3, List.replicate 16 255, by decide +kernel⟩,
      ⟨W0, (rqT 1), .owner, 0, 0, 0, List.replicate 16 255, .tooLate, by decide +kernel⟩,
      ⟨(W1.setFld (PRT_GL_AT_LO_AT 4) 9), busT, 4, 0, by decide +kernel⟩,
      ⟨W0, busT, 0, 0, .tooLate, by decide +kernel⟩,
      ⟨W0, busT, 0, by decide +kernel⟩,
      ⟨W0, (rqT 1), .owner, 0, by decide +kernel⟩,
      ⟨W0, (rqT 1), .owner, 200, by decide +kernel⟩⟩

/-- States and operands that meet the hypotheses of each clause of HomeLookup. -/
theorem wit_HomeLookup :
    (∃ (s : State) (x : HIn), (MsgKind.mem x.r.op).cls = 3 ∧ 1024 ≤ (mgetD s.home.retry (sliceOf x.r.line) []).length) ∧
    (∃ (sl : Nat) (l : List HIn), (∀ x ∈ l, sliceOf x.r.line ≠ sl)) ∧
    (∃ (s : State) (x : HIn), (mgetD s.home.retry (sliceOf x.r.line) []).length < 1024 ∧ x.heatLost = false ∧ s.stackGone 1 = false ∧ s.md.mode =
      .quarantine ∧ x.r.src < 128 ∧ x.r.member = s.ownMember ∧ hkReads x.r.kind = true) ∧
    (∃ (s : State) (x : HIn) (b : Bool), (mgetD s.home.retry (sliceOf x.r.line) []).length < 1024 ∧ x.heatLost = false ∧ s.stackGone 1 = false ∧
      s.md.mode ≠ .quarantine ∧ x.r.kind = .proto b) ∧
    (∃ (s : State) (x : HIn) (k : Nat), (mgetD s.home.retry (sliceOf x.r.line) []).length < 1024 ∧ x.heatLost = false ∧ s.stackGone 1 = false ∧
      s.md.mode ≠ .quarantine ∧ (hkReads x.r.kind = true ∨ x.r.kind = .own ∨ x.r.kind = .wr) ∧ s.hostDead x.r = true ∧ s.reqSlot x.r = some k) ∧
    (∃ (s : State) (x : HIn), (mgetD s.home.retry (sliceOf x.r.line) []).length < 1024 ∧ x.heatLost = false ∧ s.stackGone 1 = false ∧ s.md.mode ≠
      .quarantine ∧ s.hostDead x.r = false ∧ x.r.kind = .wr ∧ s.writeGone x.r = true) ∧
    (∃ (s : State) (x : HIn), x.heatLost = false ∧ s.stackGone 1 = false ∧ s.md.mode ≠ .quarantine ∧ (hkReads x.r.kind = true ∨ x.r.kind = .own ∨
      x.r.kind = .wr) ∧ s.hostDead x.r = false ∧ (x.r.kind = .wr → s.writeGone x.r = false) ∧ x.err = .none_ ∧ s.hdmH x.r.bnd = false ∧ s.tts
      (sliceOf x.r.line) = [] ∧ mgetD s.home.retry (sliceOf x.r.line) [] = [] ∧ s.dirOf x.r.line = none) ∧
    (∃ (s : State) (x : HIn), (mgetD s.home.retry (sliceOf x.r.line) []).length < 1024 ∧ x.heatLost = false ∧ s.stackGone 1 = false ∧ s.md.mode ≠
      .quarantine ∧ (hkReads x.r.kind = true ∨ x.r.kind = .own ∨ x.r.kind = .wr) ∧ s.hostDead x.r = false ∧ (x.r.kind = .wr → s.writeGone x.r =
      false) ∧ s.reqEntries (sliceOf x.r.line) < 7936 ∧ s.lineBusy (sliceOf x.r.line) x.r.line = true) ∧
    (∃ (s : State) (x : HIn), (mgetD s.home.retry (sliceOf x.r.line) []).length < 1024 ∧ x.heatLost = false ∧ s.stackGone 1 = false ∧ s.md.mode ≠
      .quarantine ∧ (hkReads x.r.kind = true ∨ x.r.kind = .own ∨ x.r.kind = .wr) ∧ s.hostDead x.r = false ∧ (x.r.kind = .wr → s.writeGone x.r =
      false) ∧ 7936 ≤ s.reqEntries (sliceOf x.r.line)) ∧
    (∃ (s : State) (x : HIn) (k : Nat), x.heatLost = false ∧ s.stackGone 1 = false ∧ s.md.mode ≠ .quarantine ∧ x.r.kind = .wb k ∧ s.hostDead x.r =
      false ∧ 1024 ≤ (mgetD s.home.wbuf (sliceOf x.r.line) []).length) ∧
    (∃ (s : State) (x : HIn) (k : Nat), x.heatLost = false ∧ s.stackGone 1 = false ∧ s.md.mode ≠ .quarantine ∧ x.r.kind = .wb k ∧ s.hostDead x.r =
      false ∧ s.hdmH x.r.bnd = false ∧ x.err = .none_ ∧ x.rsv = .good ∧ (mgetD s.home.wbuf (sliceOf x.r.line) []).length < 1024 ∧ (∀ n, s.reqSlot
      x.r = some n → s.owns x.r.line n = false)) ∧
    (∃ (s : State) (x : HIn) (n : Nat), x.heatLost = false ∧ s.stackGone 1 = false ∧ s.md.mode ≠ .quarantine ∧ x.r.kind = .wb 0 ∧ s.hostDead x.r =
      false ∧ s.hdmH x.r.bnd = false ∧ x.err = .none_ ∧ x.rsv = .good ∧ (mgetD s.home.wbuf (sliceOf x.r.line) []).length < 1024 ∧ s.reqSlot x.r =
      some n ∧ s.owns x.r.line n = true ∧ s.tts (sliceOf x.r.line) = [] ∧ mgetD s.home.retry (sliceOf x.r.line) [] = []) ∧
    (∃ (s : State) (x : HIn), x.heatLost = false ∧ s.stackGone 1 = false ∧ s.md.mode ≠ .quarantine ∧ x.r.kind = .ce ∧ s.hostDead x.r = false ∧ x.err
      = .none_ ∧ x.rsv = .good ∧ s.dirOf x.r.line = none) ∧
    (∃ (s : State) (x : HIn) (n : Nat) (d : DirEnt), x.heatLost = false ∧ s.stackGone 1 = false ∧ s.md.mode ≠ .quarantine ∧ x.r.kind = .ce ∧
      s.hostDead x.r = false ∧ s.hdmH x.r.bnd = false ∧ x.err = .none_ ∧ s.dirOf x.r.line = some d ∧ d.cached = true ∧ s.lineBusy (sliceOf x.r.line)
      x.r.line = false ∧ s.reqSlot x.r = some n ∧ bitOn d.sharers n = true ∧ setOff d.sharers n = 0) ∧
    (∃ (s : State) (x : HIn) (b : Bool), x.r.kind = .proto b ∧ s.stackGone 1 = false ∧ x.heatLost = true ∧ s.md.mode ≠ .quarantine ∧ (mgetD
      s.home.retry (sliceOf x.r.line) []).length < 1024 ∧ (s.ttEntry (x.r.line / 4096)).valid = true ∧ mgetD s.home.sample (sliceOf x.r.line) 1 ≤ 1) ∧
    (∃ (s : State) (x : HIn), x.heatLost = false ∧ s.stackGone 1 = false ∧ s.md.mode ≠ .quarantine ∧ (hkReads x.r.kind = true ∨ x.r.kind = .own ∨
      x.r.kind = .wr) ∧ s.hostDead x.r = false ∧ (x.r.kind = .wr → s.writeGone x.r = false) ∧ x.err = .none_ ∧ s.hdmH x.r.bnd = false ∧ (mgetD
      s.home.retry (sliceOf x.r.line) []).length < 1024 ∧ s.reqEntries (sliceOf x.r.line) < 7936 ∧ s.lineBusy (sliceOf x.r.line) x.r.line = false ∧
      s.dirCached x.r.line = false ∧ (∀ y ∈ s.tts (sliceOf x.r.line), y.id < s.home.serial)) :=
    ⟨⟨{ W5 with home.retry := [(0, List.replicate 1024 { r := hreqT, err := .none_, ent := { valid := true, moving := false, pool := 8, ppi := 0, gen := 0 } })] },
        hinT, by decide +kernel⟩,
      ⟨0, [], by decide +kernel⟩,
      ⟨{ W5 with md.mode := .quarantine }, hinT, by decide +kernel⟩,
      ⟨W5, { hinT with r := { hreqT with op := HKind.op (.proto true) } }, true, by decide +kernel⟩,
      ⟨(W5.setFld (HOM_HOST_STAT_STATE 2) 3), hinT, 2, by decide +kernel⟩,
      ⟨W5, { hinT with r := { { hreqT with op := HKind.op (.wr) } with dpa := 0x10000000 } }, by decide +kernel⟩,
      ⟨W5, hinT, by decide +kernel⟩,
      ⟨{ W5 with home.tt := [(0, [ttT])] }, hinT, by decide +kernel⟩,
      ⟨{ W5 with home.tt := [(0, List.replicate 7936 ttT)] }, hinT, by decide +kernel⟩,
      ⟨{ W5 with home.wbuf := [(0, List.replicate 1024 wbufT)] }, { hinT with r := { hreqT with op := HKind.op (.wb 1) } }, 1, by decide +kernel⟩,
      ⟨W5, { hinT with r := { hreqT with op := HKind.op (.wb 1) } }, 1, by decide +kernel⟩,
      ⟨{ W5 with home.dir := [(0, { dirT with sharers := 4, excl := true })] }, { hinT with r := { hreqT with op := HKind.op (.wb 0) } }, 2,
        by decide +kernel⟩,
      ⟨W5, { hinT with r := { hreqT with op := HKind.op (.ce) } }, by decide +kernel⟩,
      ⟨{ W5 with home.dir := [(0, { dirT with sharers := 4 })] }, { hinT with r := { hreqT with op := HKind.op (.ce) } }, 2,
        { dirT with sharers := 4 }, by decide +kernel⟩,
      ⟨W5, { hinT with r := { hreqT with op := HKind.op (.proto true) }, heatLost := true }, true, by decide +kernel⟩,
      ⟨{ W5 with home.serial := 8, home.tt := [(0, [{ ttT with line := 16, work := .req { hreqT with line := 16 } }])] }, hinT, by decide +kernel⟩⟩

/-- States and operands that meet the hypotheses of each clause of HomeReadPath. -/
theorem wit_HomeReadPath :
    (∃ (s : State) (sl : Nat) (id : Nat) (p : Nat) (a : Nat) (e : Tt) (r : HReq), s.poolAt e.line (s.entryOf e) = .ok (p, a) ∧ s.tts sl = [e] ∧ e.id
      = id ∧ e.phase = .dirRead ∧ e.work = .req r ∧ r.kind = .rdShared ∧ s.home.still = false ∧ s.stackGone 0 = false ∧ s.stackGone 1 = false ∧
      s.hdmH r.bnd = false ∧ (s.freeWay e.line none).isSome = true ∧ e.wayAt = none ∧ s.dirOf e.line = none ∧ e.stage = 0 ∧ e.hold = false ∧ e.rd =
      false ∧ e.waitSnp = [] ∧ e.wrPend = false ∧ e.data = none ∧ mgetD s.home.retry sl [] = [] ∧ e.line ∉ s.oxb.unacked ∧ s.bufOf sl e.line = none
      ∧ p < 128 ∧ s.takes p { src := 128 + sl, dst := p, kind := .poolRd } = true) ∧
    (∃ (s : State) (sl : Nat) (id : Nat), (∀ t, s.ttOf sl id = some t → t.phase ≠ .dirRead)) ∧
    (∃ (s : State) (sl : Nat) (id : Nat) (e : Tt) (r : HReq) (a : LineAt), s.tts sl = [e] ∧ e.id = id ∧ e.phase = .active ∧ e.work = .req r ∧ r.kind
      = .rdCur ∧ s.hdmH r.bnd = false ∧ s.dirOf e.line = none ∧ e.stage = 1 ∧ e.hold = false ∧ e.rd = true ∧ e.waitSnp = [] ∧ e.wrPend = false ∧
      e.data = none ∧ e.bad = false ∧ e.drained = false ∧ e.wasE = false ∧ e.biAck = none ∧ mgetD s.home.retry sl [] = [] ∧ s.lineAt e.line = some a
      ∧ a.rec_.cls = 0 ∧ r.src < 128 ∧ s.takes r.src { src := 0, dst := r.src, kind := .drs 0 } = true ∧ s.home.still = false) ∧
    (∃ (s : State) (sl : Nat) (id : Nat) (x : HomeRsp), (∀ k b, x ≠ .biRsp k b true) ∧ s.ttOf sl id = none ∧ (∀ w ∈ mgetD s.home.wbuf sl [], w.tag ≠
      id)) ∧
    (∃ (s : State) (sl : Nat) (id : Nat) (w : WBuf), (mgetD s.home.wbuf sl []).find? (fun w => w.tag == id && ! w.deferred) = some w ∧ s.tts sl = []
      ∧ mgetD s.home.retry sl [] = [] ∧ mgetD s.home.wbWait sl [] = []) ∧
    (∃ (s : State) (sl : Nat) (id : Nat), s.ttOf sl id = none) ∧
    (∃ (s : State) (port : Nat) (line : Nat) (e : Tt), (s.tts (sliceOf line)).find? (fun t => t.line == line && t.phase != .waiting &&
      (match t.work with | .req r => r.src == port | _ => false)) = some e) ∧
    (∃ (s : State) (port : Nat) (line : Nat), (s.tts (sliceOf line)).find? (fun t => t.line == line && t.phase != .waiting &&
      (match t.work with | .req r => r.src == port | _ => false)) = none ∧ port < 128 ∧ s.takes port { src := 128, dst := port, kind := .ndr 3 } =
      true) ∧
    (∃ (s : State) (sl : Nat) (id : Nat) (e : Tt), s.ttOf sl id = some e ∧ e.phase = .dirRead ∧ s.stackGone 0 = false ∧ s.stackGone 1 = false ∧ id <
      s.home.serial ∧ (∀ y ∈ s.tts sl, y.id = id → y = e)) ∧
    (∃ (s : State) (sl : Nat) (id : Nat) (d : Nat) (v : Nat) (e : Tt) (r : HReq) (a : LineAt), s.ttOf sl id = some e ∧ e.phase = .active ∧ e.work =
      .req r ∧ e.rd = true ∧ e.data = none ∧ e.waitSnp ≠ [] ∧ s.lineAt e.line = some a ∧ s.decrypt a d = some v ∧ a.rec_.cls ≠ 2 ∧ id <
      s.home.serial ∧ (∀ y ∈ s.tts sl, y.id = id → y = e)) ∧
    (∃ (s : State) (sl : Nat) (id : Nat) (e : Tt), s.ttOf sl id = some e ∧ e.phase = .active ∧ e.wrPend = true ∧ id < s.home.serial ∧ (∀ y ∈ s.tts
      sl, y.id = id → y = e)) ∧
    (∃ (s : State) (sl : Nat) (id : Nat) (k : Nat) (e : Tt), s.ttOf sl id = some e ∧ e.phase = .active ∧ k ∈ e.waitSnp ∧ id < s.home.serial ∧ (∀ y ∈
      s.tts sl, y.id = id → y = e)) :=
    ⟨⟨{ W5 with home.tt := [(0, [ttT])] }, 0, 7, 8, 0, ttT, hreqT, except_ok (by decide +kernel), by decide +kernel⟩,
      ⟨W0, 0, 0, by decide +kernel⟩,
      ⟨{ W5.setBit (PRT_LINK_STAT_UP 0) true with home.tt := [(0, [{ ttT with work := .req ({ hreqT with op := HKind.op (.rdCur) }), phase := .active, stage := 1, rd := true }])] },
        0, 7, { ttT with work := .req ({ hreqT with op := HKind.op (.rdCur) }), phase := .active, stage := 1, rd := true },
        { hreqT with op := HKind.op (.rdCur) }, lineT, by decide +kernel⟩,
      ⟨W0, 0, 0, .wbAck, (fun _ _ h => by cases h), by decide +kernel⟩,
      ⟨{ W5 with home.wbuf := [(0, [wbufT])] }, 0, 7, wbufT, by decide +kernel⟩,
      ⟨W0, 0, 0, by decide +kernel⟩,
      ⟨{ W5 with home.tt := [(0, [{ ttT with phase := .active }])] }, 0, 0, { ttT with phase := .active }, by decide +kernel⟩,
      ⟨W5, 0, 0, by decide +kernel⟩,
      ⟨{ W5 with home.tt := [(0, [ttT])], home.serial := 8 }, 0, 7, ttT, by decide +kernel⟩,
      ⟨{ W5 with home.tt := [(0, [{ ttT with work := .req ({ hreqT with op := HKind.op (.rdShared) }), phase := .active, stage := 1, rd := true, waitSnp := [3] }])], home.serial := 8 },
        0, 7, 0, 0, { ttT with work := .req ({ hreqT with op := HKind.op (.rdShared) }), phase := .active, stage := 1, rd := true, waitSnp := [3] },
        { hreqT with op := HKind.op (.rdShared) }, lineT, by decide +kernel⟩,
      ⟨{ W5 with home.tt := [(0, [{ ttT with work := .req ({ hreqT with op := HKind.op (.wr) }), phase := .active, stage := 1, wrPend := true }])], home.serial := 8 },
        0, 7, { ttT with work := .req ({ hreqT with op := HKind.op (.wr) }), phase := .active, stage := 1, wrPend := true }, by decide +kernel⟩,
      ⟨{ W5 with home.tt := [(0, [{ ttT with work := .req ({ hreqT with op := HKind.op (.rdShared) }), phase := .active, stage := 1, rd := true, waitSnp := [3], snp := 2 }])], home.serial := 8 },
        0, 7, 3,
        { ttT with work := .req ({ hreqT with op := HKind.op (.rdShared) }), phase := .active, stage := 1, rd := true, waitSnp := [3], snp := 2 },
        by decide +kernel⟩⟩

/-- States and operands that meet the hypotheses of each clause of HostMemoryAccess. -/
theorem wit_HostMemoryAccess :
    (∃ (s : State) (p : Nat) (k : MemOp), (s.isHost p = false ∨ s.takes p { src := p, dst := p, kind := .mem k } = false)) ∧
    (∃ (s : State) (p : Nat) (vdp : Nat) (hpa : Nat) (b : Nat) (dpa : Nat) (k : MemOp), s.isHost p = true ∧ s.takes p
      { src := p, dst := p, kind := .mem k } = true ∧ s.bindingAt p vdp = some b ∧ s.dpaOf b hpa = some dpa ∧ s.md.mode ≠ .quarantine ∧ mget
      s.bnd.rst b ≠ some true ∧ s.windowAt b dpa = none ∧ s.extentAt b dpa = none ∧ hkReads k.kind = true) ∧
    (∃ (s : State) (p : Nat) (vdp : Nat) (hpa : Nat) (b : Nat) (dpa : Nat) (k : MemOp) (e : Extent) (g : Region), s.isHost p = true ∧ s.takes p
      { src := p, dst := p, kind := .mem k } = true ∧ s.bindingAt p vdp = some b ∧ s.dpaOf b hpa = some dpa ∧ s.md.mode ≠ .quarantine ∧ mget
      s.bnd.rst b ≠ some true ∧ s.windowAt b dpa = none ∧ s.extentAt b dpa = some e ∧ s.curBit (BND_CFG_RO b) = false ∧ s.bndRec b = some g ∧
      g.ttBase + (e.rofs + (dpa / 262144 - e.dpa)) ∉ s.bnd.tcache ∧ mget s.bnd.walk (g.ttBase + (e.rofs + (dpa / 262144 - e.dpa))) = none) ∧
    (∃ (s : State) (p : Nat) (vdp : Nat) (hpa : Nat) (b : Nat) (dpa : Nat) (q : Nat) (a : Nat) (l : Nat) (k : MemOp) (e : Extent) (g : Region),
      s.poolOf l = .ok (q, a) ∧ s.isHost p = true ∧ s.takes p { src := p, dst := p, kind := .mem k } = true ∧ s.bindingAt p vdp = some b ∧ s.dpaOf b
      hpa = some dpa ∧ s.md.mode ≠ .quarantine ∧ mget s.bnd.rst b ≠ some true ∧ s.windowAt b dpa = none ∧ s.extentAt b dpa = some e ∧ s.curBit
      (BND_CFG_RO b) = false ∧ s.bndRec b = some g ∧ g.ttBase + (e.rofs + (dpa / 262144 - e.dpa)) ∈ s.bnd.tcache ∧ hkReads k.kind = true ∧ l =
      (g.ttBase + (e.rofs + (dpa / 262144 - e.dpa))) * 4096 + dpa % 262144 / 64 ∧ s.gateEval q (0x1000 + b) .read a 64 = .allow) ∧
    (∃ (s : State) (p : Nat) (vdp : Nat) (hpa : Nat) (b : Nat) (dpa : Nat) (w : Nat) (k : MemOp) (l : BLine), s.isHost p = true ∧ p < 128 ∧ s.takes
      p { src := p, dst := p, kind := .mem k } = true ∧ s.bindingAt p vdp = some b ∧ s.dpaOf b hpa = some dpa ∧ s.md.mode ≠ .quarantine ∧ mget
      s.bnd.rst b ≠ some true ∧ s.windowAt b dpa = some w ∧ 16 ≤ w ∧ hkReads k.kind = true ∧ s.brg.lines.find? (fun l => l.win == w && l.line ==
      (dpa / 64 * 64 - (s.winRange w).1) / 64) = some l) ∧
    (∃ (s : State) (p : Nat) (vdp : Nat) (hpa : Nat) (b : Nat) (dpa : Nat) (w : Nat) (k : MemOp), s.isHost p = true ∧ s.takes p
      { src := p, dst := p, kind := .mem k } = true ∧ s.bindingAt p vdp = some b ∧ s.dpaOf b hpa = some dpa ∧ s.md.mode ≠ .quarantine ∧ mget
      s.bnd.rst b ≠ some true ∧ s.windowAt b dpa = some w ∧ 16 ≤ w ∧ hkReads k.kind = true ∧ s.brg.lines.find? (fun l => l.win == w && l.line ==
      (dpa / 64 * 64 - (s.winRange w).1) / 64) = none ∧ s.winSparse w = true ∧ s.lockedOut (s.winPort w) p = true) ∧
    (∃ (s : State) (p : Nat) (k : MemOp), (s.isHost p = false ∨ s.takes p { src := p, dst := p, kind := .mem k } = false)) ∧
    (∃ (s : State) (p : Nat) (vdp : Nat) (hpa : Nat) (b : Nat) (dpa : Nat) (q : Nat) (a : Nat) (l : Nat) (k : MemOp) (e : Extent) (g : Region),
      s.poolOf l = .ok (q, a) ∧ s.isHost p = true ∧ s.takes p { src := p, dst := p, kind := .mem k } = true ∧ s.bindingAt p vdp = some b ∧ s.dpaOf b
      hpa = some dpa ∧ s.md.mode ≠ .quarantine ∧ mget s.bnd.rst b ≠ some true ∧ s.windowAt b dpa = none ∧ s.extentAt b dpa = some e ∧ s.curBit
      (BND_CFG_RO b) = false ∧ s.bndRec b = some g ∧ g.ttBase + (e.rofs + (dpa / 262144 - e.dpa)) ∈ s.bnd.tcache ∧ k.kind = .wr ∧ k.opc = .memWr ∧ l
      = (g.ttBase + (e.rofs + (dpa / 262144 - e.dpa))) * 4096 + dpa % 262144 / 64 ∧ s.gateEval q (0x1000 + b) .write a 64 = .allow) ∧
    (∃ (s : State) (p : Nat) (vdp : Nat) (hpa : Nat) (b : Nat) (dpa : Nat) (w : Nat) (k : MemOp), s.isHost p = true ∧ s.takes p
      { src := p, dst := p, kind := .mem k } = true ∧ s.bindingAt p vdp = some b ∧ s.dpaOf b hpa = some dpa ∧ s.md.mode ≠ .quarantine ∧ mget
      s.bnd.rst b ≠ some true ∧ s.windowAt b dpa = some w ∧ 16 ≤ w ∧ w < 64 ∧ hkReads k.kind = true ∧ s.brg.lines.find? (fun l => l.win == w &&
      l.line == (dpa / 64 * 64 - (s.winRange w).1) / 64) = none ∧ s.lockedOut (s.winPort w) p = false ∧ s.gateEval (s.winPort w) (0x3000 + w) .read
      (s.winAddr w (dpa / 64 * 64 - (s.winRange w).1)) (if s.winSparse w then s.winWidth w else 64) = .allow ∧ s.winPort w < 128 ∧ s.takes
      (s.winPort w) { src := 144, dst := s.winPort w, kind := .ioReq } = true ∧ (∀ x ∈ s.brg.acc, x.id < s.brg.serial)) ∧
    (∃ (s : State) (p : Nat) (vdp : Nat) (hpa : Nat) (b : Nat) (dpa : Nat) (w : Nat) (k : MemOp), s.isHost p = true ∧ s.takes p
      { src := p, dst := p, kind := .mem k } = true ∧ s.bindingAt p vdp = some b ∧ s.dpaOf b hpa = some dpa ∧ s.md.mode ≠ .quarantine ∧ mget
      s.bnd.rst b ≠ some true ∧ s.windowAt b dpa = some w ∧ 16 ≤ w ∧ w < 64 ∧ k.opc = .memWr ∧ hkWrites k.kind = true ∧ s.curBit (LWB_WIN_CFG_POSTED
      w) = false ∧ s.lockedOut (s.winPort w) p = false ∧ s.gateEval (s.winPort w) (0x3000 + w) .write (s.winAddr w (dpa / 64 * 64 - (s.winRange
      w).1)) (if s.winSparse w then s.winWidth w else 64) = .allow ∧ s.winPort w < 128 ∧ s.takes (s.winPort w)
      { src := 144, dst := s.winPort w, kind := .ioPosted } = true ∧ s.takes (s.winPort w) { src := 144, dst := s.winPort w, kind := .ioReq } = true
      ∧ (∀ x ∈ s.brg.acc, x.id < s.brg.serial)) ∧
    (∃ (s : State) (p : Nat) (vdp : Nat) (hpa : Nat) (b : Nat) (dpa : Nat) (w : Nat) (k : MemOp), s.isHost p = true ∧ p < 128 ∧ s.takes p
      { src := p, dst := p, kind := .mem k } = true ∧ s.bindingAt p vdp = some b ∧ s.dpaOf b hpa = some dpa ∧ s.md.mode ≠ .quarantine ∧ mget
      s.bnd.rst b ≠ some true ∧ s.windowAt b dpa = some w ∧ 16 ≤ w ∧ w < 64 ∧ k.opc = .memWr ∧ hkWrites k.kind = true ∧ s.curBit (LWB_WIN_CFG_POSTED
      w) = true ∧ s.compact = false ∧ s.lockedOut (s.winPort w) p = false ∧ s.gateEval (s.winPort w) (0x3000 + w) .write (s.winAddr w (dpa / 64 * 64
      - (s.winRange w).1)) (if s.winSparse w then s.winWidth w else 64) = .allow ∧ s.winPort w < 128 ∧ s.takes (s.winPort w)
      { src := 144, dst := s.winPort w, kind := .ioPosted } = true ∧ s.takes p { src := 144, dst := p, kind := .ndr 0 } = true ∧ (∀ x ∈ s.brg.acc,
      x.id < s.brg.serial)) :=
    ⟨⟨W0, 0, { opc := .memRd, value := .s }, by decide +kernel⟩,
      ⟨W2, 0, 0, 0x8000000, 1, 0x8000000, { opc := .memRd, value := .s }, by decide +kernel⟩,
      ⟨W2, 0, 0, 0, 1, 0, { opc := .memRd, value := .s }, extT, regT, by decide +kernel⟩,
      ⟨{ W2 with bnd.tcache := [0] }, 0, 0, 0, 1, 0, 8, 0, 0, { opc := .memRd, value := .s }, extT, regT, except_ok (by decide +kernel),
        by decide +kernel⟩,
      ⟨{ W3 with brg.lines := [lnT] }, 0, 0, 0x1000000, 1, 0x1000000, 16, { opc := .memRd, value := .s }, lnT, by decide +kernel⟩,
      ⟨{ W3.setCur (LWB_WIN_CFG_SPARSE 16) 1 with brg.lock := [(4, { host := 9, win := 16, since := 0, sent := false })] }, 0, 0, 0x1000000, 1,
        0x1000000, 16, { opc := .memRd, value := .s }, by decide +kernel⟩,
      ⟨W0, 0, { opc := .memRd, value := .s }, by decide +kernel⟩,
      ⟨{ W2 with bnd.tcache := [0] }, 0, 0, 0, 1, 0, 8, 0, 0, HKind.op .wr, extT, regT, except_ok (by decide +kernel), by decide +kernel⟩,
      ⟨W3, 0, 0, 0x1000000, 1, 0x1000000, 16, HKind.op .rdCur, by decide +kernel⟩,
      ⟨W3, 0, 0, 0x1000000, 1, 0x1000000, 16, HKind.op .wr, by decide +kernel⟩,
      ⟨((W3.setCur (LWB_WIN_CFG_POSTED 16) 1).setCur (ISL_CFG_EN 0) 1), 0, 0, 0x1000000, 1, 0x1000000, 16, HKind.op .wr, by decide +kernel⟩⟩

/-- States and operands that meet the hypotheses of each clause of FarTraffic. -/
theorem wit_FarTraffic :
    (∃ (s : State) (id : Nat) (u : Nat) (a : BAcc), s.brg.acc.find? (fun a => a.id == id) = some a ∧ a.issued = true ∧ a.units = [u] ∧ a.write =
      false ∧ a.mir = 0 ∧ a.bad = false ∧ a.host < 128 ∧ s.takes a.host { src := 144, dst := a.host, kind := .ndr 0 } = true) ∧
    (∃ (s : State) (id : Nat) (u : Nat) (a : BAcc), s.brg.acc.find? (fun a => a.id == id) = some a ∧ a.issued = true ∧ a.units = [u] ∧ a.write =
      false ∧ a.mir = 0 ∧ a.win < 64 ∧ a.host < 128 ∧ s.takes a.host { src := 144, dst := a.host, kind := .ndr 0 } = true) ∧
    (∃ (s : State) (id : Nat) (u : Nat), (∀ a, s.brg.acc.find? (fun a => a.id == id) = some a → a.issued = false ∨ u ∉ a.units)) ∧
    (∃ (s : State) (n : Nat) (id : Nat) (f : BFlush) (a : BAcc), s.brg.flush.find? (fun f => f.num == n) = some f ∧ f.accs = [id] ∧ f.fence = none ∧
      f.alerts = [] ∧ s.brg.acc.find? (fun a => a.id == id) = some a ∧ a.bad = false ∧ a.mir = 0 ∧ a.write = true ∧ a.host < 128 ∧ s.takes a.host
      { src := 144, dst := a.host, kind := .ndr 0 } = true) ∧
    (∃ (s : State) (n : Nat) (id : Nat) (f : BFlush) (a : BAcc), s.brg.flush.find? (fun f => f.num == n) = some f ∧ f.accs = [id] ∧ f.fence = none ∧
      f.alerts = [] ∧ s.brg.acc.find? (fun a => a.id == id) = some a ∧ a.mir = 0 ∧ a.write = true ∧ a.win < 64) ∧
    (∃ (s : State) (n : Nat) (w : Nat) (f : BFlush) (x : BFence), s.brg.flush.find? (fun f => f.num == n) = some f ∧ f.accs = [] ∧ f.fence = some w
      ∧ f.alerts = [] ∧ (s.bwin w).fence = some x) ∧
    (∃ (s : State) (n : Nat), s.brg.flush.find? (fun f => f.num == n) = none) ∧
    (∃ (s : State) (id : Nat) (u : Nat) (a : BAcc), s.brg.acc.find? (fun a => a.id == id) = some a ∧ a.issued = true ∧ a.units = [u] ∧ a.write =
      false ∧ a.mir = 0 ∧ a.win < 64 ∧ a.since + s.cur LWB_CFG_COMP_TMO ≤ s.time.frame) ∧
    (∃ (s : State) (id : Nat), (∀ a, s.brg.acc.find? (fun a => a.id == id) = some a → s.time.frame < a.since + s.cur LWB_CFG_COMP_TMO)) ∧
    (∃ (s : State) (id : Nat) (u : Nat) (a : BAcc), s.brg.acc.find? (fun a => a.id == id) = some a ∧ a.issued = true ∧ u ∈ a.units ∧ a.write = false
      ∧ sdel a.units u ≠ []) ∧
    (∃ (s : State) (id : Nat) (u : Nat) (a : BAcc), s.brg.acc.find? (fun a => a.id == id) = some a ∧ a.issued = true ∧ u ∈ a.units ∧ a.write = true) ∧
    (∃ (s : State) (n : Nat) (f : BFlush), s.brg.flush.find? (fun f => f.num == n) = some f) ∧
    (∃ (s : State) (n : Nat) (f : BFlush), s.brg.flush.find? (fun f => f.num == n) = some f ∧ f.since + s.cur LWB_CFG_COMP_TMO ≤ s.time.frame) ∧
    (∃ (s : State) (id : Nat) (u : Nat) (a : BAcc), s.brg.acc.find? (fun a => a.id == id) = some a ∧ a.issued = true ∧ u ∈ a.units ∧ a.write = false
      ∧ a.since + s.cur LWB_CFG_COMP_TMO ≤ s.time.frame ∧ sdel a.units u ≠ []) :=
    ⟨⟨{ W3 with brg.acc := [baccT] }, 7, 0, baccT, by decide +kernel⟩,
      ⟨{ W3 with brg.acc := [baccT] }, 7, 0, baccT, by decide +kernel⟩,
      ⟨W0, 0, 0, by decide +kernel⟩,
      ⟨{ W3 with brg.acc := [{ baccT with write := true }], brg.flush := [{ bflT with accs := [7] }] }, 7, 7, { bflT with accs := [7] },
        { baccT with write := true }, by decide +kernel⟩,
      ⟨{ W3 with brg.acc := [{ baccT with write := true }], brg.flush := [{ bflT with accs := [7] }] }, 7, 7, { bflT with accs := [7] },
        { baccT with write := true }, by decide +kernel⟩,
      ⟨{ W3 with brg.flush := [{ bflT with fence := some 16 }], brg.win := [(16, { fence := some bfT })] }, 7, 16, { bflT with fence := some 16 },
        bfT, by decide +kernel⟩,
      ⟨W0, 0, by decide +kernel⟩,
      ⟨{ { W3 with brg.acc := [baccT] } with time.frame := 1000000 }, 7, 0, baccT, by decide +kernel⟩,
      ⟨W0, 0, by decide +kernel⟩,
      ⟨{ W3 with brg.acc := [{ baccT with units := [0, 1] }] }, 7, 1, { baccT with units := [0, 1] }, by decide +kernel⟩,
      ⟨{ W3 with brg.acc := [{ baccT with write := true }] }, 7, 0, { baccT with write := true }, by decide +kernel⟩,
      ⟨{ { W3 with brg.acc := [{ baccT with write := true }], brg.flush := [{ bflT with accs := [7] }] } with time.frame := 1000000 }, 7,
        { bflT with accs := [7] }, by decide +kernel⟩,
      ⟨{ { W3 with brg.acc := [{ baccT with write := true }], brg.flush := [{ bflT with accs := [7] }] } with time.frame := 1000000 }, 7,
        { bflT with accs := [7] }, by decide +kernel⟩,
      ⟨{ { W3 with brg.acc := [{ baccT with units := [0, 1] }] } with time.frame := 1000000 }, 7, 1, { baccT with units := [0, 1] },
        by decide +kernel⟩⟩

/-- States and operands that meet the hypotheses of each clause of BridgeFailuresAndFences. -/
theorem wit_BridgeFailuresAndFences :
    (∃ (w : Nat), w < 64) ∧
    (∃ (w : Nat), 64 ≤ w) ∧
    (∃ (s : State) (p : Nat), (∀ w ∈ s.windowsOf p, (s.bwin w).posted = false)) ∧
    (∃ (s : State) (p : Nat) (w : Nat), (s.windowsOf p).filter (fun w => (s.bwin w).posted) = [w]) ∧
    (∃ (s : State) (rq : Rq) (p : Principal) (w : Nat), s.serves rq 0x0801 p = true ∧ w < 64 ∧ s.maySeeWindow p w = true ∧ s.lcSlots ≠ [] ∧ (s.bwin
      w).fence = none) ∧
    (∃ (s : State) (rq : Rq) (p : Principal) (w : Nat), s.serves rq 0x0801 p = true ∧ w < 64 ∧ s.maySeeWindow p w = true ∧ (s.bwin w).fence.isSome =
      true) ∧
    (∃ (s : State) (b : Bus) (n : Nat), s.takesWrite b (LWB_WIN_FENCE n) = true ∧ (s.busP b).isIn 11 = true ∧ n < 64 ∧ (s.bwin n).fence = none) ∧
    (∃ (s : State) (b : Bus) (n : Nat), s.takesWrite b (LWB_WIN_FENCE n) = true ∧ (s.busP b).isIn 11 = true ∧ n < 64 ∧ (s.bwin n).fence.isSome =
      true) ∧
    (∃ (s : State) (rq : Rq) (p : Principal) (w : Nat), s.serves rq 0x0802 p = true ∧ w < 64 ∧ s.maySeeWindow p w = true) ∧
    (∃ (s : State) (rq : Rq) (p : Principal) (w : Nat), s.serves rq 0x0802 p = true ∧ w < 64 ∧ s.maySeeWindow p w = false) :=
    ⟨⟨0, by decide +kernel⟩,
      ⟨64, by decide +kernel⟩,
      ⟨W0, 0, by decide +kernel⟩,
      ⟨{ W3 with brg.win := [(16, { posted := true })] }, 4, 16, by decide +kernel⟩,
      ⟨W3, (rqT 1), .owner, 16, by decide +kernel⟩,
      ⟨{ W3 with brg.win := [(16, { fence := some bfT })] }, (rqT 1), .owner, 16, by decide +kernel⟩,
      ⟨W3, busT, 16, by decide +kernel⟩,
      ⟨{ W3 with brg.win := [(16, { fence := some bfT })] }, busT, 16, by decide +kernel⟩,
      ⟨W3, (rqT 1), .owner, 16, by decide +kernel⟩,
      ⟨{ W3 with mbx.sess := (8, sessT (.host 9)) :: W3.mbx.sess }, (rqT 8), (.host 9), 16, by decide +kernel⟩⟩

/-- States and operands that meet the hypotheses of each clause of BridgeLocks. -/
theorem wit_BridgeLocks :
    (∃ (s : State) (b : Bus) (p : Nat) (w : Word), s.takesWrite b (LWB_LOCK p) = true ∧ (s.busP b).isIn 11 = true ∧ p < 128 ∧ getBit w 7 = false ∧
      s.winOn (getBits w 0 6) = true ∧ s.bndPort (s.winBnd (getBits w 0 6)) = p ∧ s.lockUser p = false ∧ mget s.brg.lock (s.winPort (getBits w 0 6))
      = none) ∧
    (∃ (s : State) (b : Bus) (p : Nat) (w : Word), s.takesWrite b (LWB_LOCK p) = true ∧ (s.busP b).isIn 11 = true ∧ p < 128 ∧ getBit w 7 = false ∧
      s.winOn (getBits w 0 6) = true ∧ s.bndPort (s.winBnd (getBits w 0 6)) = p ∧ s.lockUser p = false ∧ (mget s.brg.lock (s.winPort (getBits w 0
      6))).isSome = true) ∧
    (∃ (s : State) (b : Bus) (p : Nat) (w : Word), s.takesWrite b (LWB_LOCK p) = true ∧ (s.busP b).isIn 11 = true ∧ p < 128 ∧ getBit w 7 = false ∧
      (s.winOn (getBits w 0 6) = false ∨ s.bndPort (s.winBnd (getBits w 0 6)) ≠ p ∨ s.lockUser p = true)) ∧
    (∃ (s : State) (b : Bus) (p : Nat) (far : Nat) (w : Word) (l : BLock), s.takesWrite b (LWB_LOCK p) = true ∧ (s.busP b).isIn 11 = true ∧ p < 128
      ∧ getBit w 6 = false ∧ s.lockHeld p = some far ∧ mget s.brg.lock far = some l ∧ l.host = p ∧ l.sent = false ∧ s.brg.wait = [] ∧ s.brg.acc = []
      ∧ (∀ n ∈ s.windowsOf far, (s.bwin n).fence = none)) ∧
    (∃ (s : State) (b : Bus) (p : Nat) (w : Word), s.takesWrite b (LWB_LOCK p) = true ∧ (s.busP b).isIn 11 = true ∧ p < 128 ∧ getBit w 6 = false ∧
      s.lockHeld p = none) ∧
    (∃ (s : State) (far : Nat) (l : BLock), mget s.brg.lock far = some l ∧ l.since + s.cur LWB_CFG_LOCK_TMO ≤ s.time.frame ∧ l.sent = false ∧ l.host
      < 128 ∧ s.brg.wait = [] ∧ s.brg.acc = [] ∧ (∀ n ∈ s.windowsOf far, (s.bwin n).fence = none)) ∧
    (∃ (s : State) (far : Nat), (∀ l, mget s.brg.lock far = some l → s.time.frame < l.since + s.cur LWB_CFG_LOCK_TMO)) ∧
    (∃ (s : State) (b : Bus) (p : Nat) (far : Nat) (w : Word) (l : BLock), s.takesWrite b (LWB_LOCK p) = true ∧ (s.busP b).isIn 11 = true ∧ p < 128
      ∧ getBit w 6 = false ∧ s.lockHeld p = some far ∧ mget s.brg.lock far = some l ∧ l.host = p ∧ (∀ x ∈ s.brg.wait, x.2.1 ≠ p)) ∧
    (∃ (s : State) (far : Nat) (l : BLock), mget s.brg.lock far = some l ∧ l.since + s.cur LWB_CFG_LOCK_TMO ≤ s.time.frame ∧ l.host < 128 ∧ (∀ x ∈
      s.brg.wait, x.2.1 ≠ l.host)) ∧
    (∃ (s : State) (b : Bus) (p : Nat) (far : Nat) (n : Nat) (w : Word) (l : BLock), s.takesWrite b (LWB_LOCK p) = true ∧ (s.busP b).isIn 11 = true
      ∧ p < 128 ∧ getBit w 6 = false ∧ s.lockHeld p = some far ∧ mget s.brg.lock far = some l ∧ l.host = p ∧ l.sent = false ∧ s.winOn n = true ∧
      s.brg.wait.head? = some (far, p + 1, n) ∧ (∀ x ∈ s.brg.wait, x.2.1 ≠ p) ∧ p + 1 < 128) :=
    ⟨⟨W3, { fn := 0, be := 15 }, 0, 16, by decide +kernel⟩,
      ⟨{ W3 with brg.lock := [(4, { host := 9, win := 16, since := 0, sent := false })] }, { fn := 0, be := 15 }, 0, 16, by decide +kernel⟩,
      ⟨W3, { fn := 0, be := 15 }, 0, 0, by decide +kernel⟩,
      ⟨{ W3 with brg.lock := [(4, { host := 0, win := 16, since := 0, sent := false })], time.frame := 1000000 }, { fn := 0, be := 15 }, 0, 4, 128,
        { host := 0, win := 16, since := 0, sent := false }, by decide +kernel⟩,
      ⟨W3, { fn := 0, be := 15 }, 0, 128, by decide +kernel⟩,
      ⟨{ W3 with brg.lock := [(4, { host := 0, win := 16, since := 0, sent := false })], time.frame := 1000000 }, 4,
        { host := 0, win := 16, since := 0, sent := false }, by decide +kernel⟩,
      ⟨W0, 0, by decide +kernel⟩,
      ⟨{ W3 with brg.lock := [(4, { host := 0, win := 16, since := 0, sent := false })], time.frame := 1000000, brg.wait := [(4, 1, 16)], brg.acc := [{ baccT with issued := false }] },
        { fn := 0, be := 15 }, 0, 4, 128, { host := 0, win := 16, since := 0, sent := false }, by decide +kernel⟩,
      ⟨{ W3 with brg.lock := [(4, { host := 0, win := 16, since := 0, sent := false })], time.frame := 1000000, brg.wait := [(4, 1, 16)], brg.acc := [{ baccT with issued := false }] },
        4, { host := 0, win := 16, since := 0, sent := false }, by decide +kernel⟩,
      ⟨{ W3 with brg.lock := [(4, { host := 0, win := 16, since := 0, sent := false })], time.frame := 1000000, brg.wait := [(4, 1, 16)], brg.acc := [{ baccT with issued := false }] },
        { fn := 0, be := 15 }, 0, 4, 16, 128, { host := 0, win := 16, since := 0, sent := false }, by decide +kernel⟩⟩

/-- States and operands that meet the hypotheses of each clause of BridgeInterruptsAndMirrors. -/
theorem wit_BridgeInterruptsAndMirrors :
    (∃ (s : State) (p : Nat), s.windowsOf p = []) ∧
    (∃ (s : State) (p : Nat) (a : Nat) (w : Nat), s.windowsOf p ≠ [] ∧ a = s.fld LWB_DB_LO_ADDR * 4096 + s.fld LWB_DB_HI_ADDR * 2 ^ 32 + 4 * w ∧ w <
      64 ∧ s.winOn w = true ∧ s.curBit (LWB_WIN_IRQ_MSI_EN w) = true ∧ s.bit (LWB_WIN_MIR_CTL_IN_EN w) = false) ∧
    (∃ (s : State) (p : Nat) (a : Nat), s.windowsOf p ≠ [] ∧ a < s.fld LWB_DB_LO_ADDR * 4096 + s.fld LWB_DB_HI_ADDR * 2 ^ 32) ∧
    (∃ (s : State) (p : Nat), s.windowsOf p ≠ [] ∧ p < 128 ∧ s.takes p { src := 144, dst := p, kind := .ioCpl } = true) ∧
    (∃ (s : State) (p : Nat), s.windowsOf p = []) ∧
    (∃ (s : State) (p : Nat) (l : Nat) (w : Nat), s.windowsOf p ≠ [] ∧ l < 4 ∧ (s.windowsOf p).filter (fun w => s.curBit (LWB_WIN_IRQ_INTX_EN w)) =
      [w] ∧ s.bit (LWB_WIN_MIR_CTL_IN_EN w) = false) ∧
    (∃ (s : State) (p : Nat) (l : Nat), s.windowsOf p ≠ [] ∧ l < 4) ∧
    (∃ (s : State) (g : Nat) (k : Nat), k < 4 ∧ (s.windowsOf (4 * g + k)).filter (fun w => s.curBit (LWB_WIN_IRQ_SB_EN w)) ≠ []) ∧
    (∃ (s : State) (n : Nat) (r : BRun), s.brg.runs.find? (fun r => r.num == n) = some r ∧ r.bad = false ∧ s.brg.lines.length + r.count ≤ 1024) ∧
    (∃ (s : State) (n : Nat) (r : BRun), s.brg.runs.find? (fun r => r.num == n) = some r ∧ r.bad = true) ∧
    (∃ (s : State) (w : Nat), w < 64 ∧ s.winOn w = true ∧ (s.bwin w).mirLast = none ∧ s.bit (LWB_WIN_MIR_CTL_IN_EN w) = false ∧ s.bit
      (LWB_WIN_MIR_CTL_OUT_EN w) = false) ∧
    (∃ (s : State) (w : Nat), 16 ≤ w ∧ w < 64 ∧ s.winOn w = true ∧ (s.bwin w).mirLast = none ∧ s.bit (LWB_WIN_MIR_CTL_IN_EN w) = true ∧ s.bit
      (LWB_WIN_MIR_CTL_OUT_EN w) = false ∧ s.mirBusy w 1 = false ∧ s.lockedOut (s.winPort w) (s.bndPort (s.winBnd w)) = true) ∧
    (∃ (s : State) (w : Nat), (64 ≤ w ∨ s.winOn w = false)) ∧
    (∃ (s : State) (b : Bus) (n : Nat), s.takesWrite b (LWB_WIN_MIR_OUT_HI n) = true ∧ (s.busP b).isIn 11 = true ∧ n < 64) ∧
    (∃ (s : State) (w : Nat), 16 ≤ w ∧ w < 64 ∧ s.winOn w = true ∧ (∀ f, (s.bwin w).mirLast = some f → f + s.cur LWB_CFG_MIR_PER ≤ s.time.frame) ∧
      s.bit (LWB_WIN_MIR_CTL_IN_EN w) = true ∧ s.bit (LWB_WIN_MIR_CTL_OUT_EN w) = false ∧ s.mirBusy w 1 = false ∧ s.lockedOut (s.winPort w)
      (s.bndPort (s.winBnd w)) = false ∧ s.gateEval (s.winPort w) (0x3000 + w) .read (s.winAddr w (8 * s.fld (LWB_WIN_MIR_CTL_IN_OFS w)))
      (s.winWidth w) = .allow ∧ s.winPort w < 128 ∧ s.takes (s.winPort w) { src := 144, dst := s.winPort w, kind := .ioReq } = true ∧ (∀ x ∈
      s.brg.acc, x.id < s.brg.serial)) ∧
    (∃ (s : State) (w : Nat), 16 ≤ w ∧ w < 64 ∧ s.winOn w = true ∧ (∀ f, (s.bwin w).mirLast = some f → f + s.cur LWB_CFG_MIR_PER ≤ s.time.frame) ∧
      s.bit (LWB_WIN_MIR_CTL_IN_EN w) = false ∧ s.bit (LWB_WIN_MIR_CTL_OUT_EN w) = true ∧ (s.bwin w).outPend = true ∧ s.mirBusy w 2 = false ∧
      s.lockedOut (s.winPort w) (s.bndPort (s.winBnd w)) = false ∧ s.gateEval (s.winPort w) (0x3000 + w) .write (s.winAddr w (8 * s.fld
      (LWB_WIN_MIR_CTL_OUT_OFS w))) (s.winWidth w) = .allow ∧ s.winPort w < 128 ∧ s.takes (s.winPort w)
      { src := 144, dst := s.winPort w, kind := .ioPosted } = true ∧ (∀ x ∈ s.brg.acc, x.id < s.brg.serial)) :=
    ⟨⟨W0, 0, by decide +kernel⟩,
      ⟨W3, 4, 64, 16, by decide +kernel⟩,
      ⟨W3.setFld LWB_DB_LO_ADDR 1, 4, 0, by decide +kernel⟩,
      ⟨W3, 4, by decide +kernel⟩,
      ⟨W0, 0, by decide +kernel⟩,
      ⟨(W3.setCur (LWB_WIN_IRQ_INTX_EN 16) 1), 4, 0, 16, by decide +kernel⟩,
      ⟨(W3.setCur (LWB_WIN_IRQ_INTX_EN 16) 1), 4, 0, by decide +kernel⟩,
      ⟨W3.setCur (LWB_WIN_IRQ_SB_EN 16) 1, 1, 0, by decide +kernel⟩,
      ⟨{ W3 with brg.runs := [runT] }, 0, runT, by decide +kernel⟩,
      ⟨{ W3 with brg.runs := [{ runT with bad := true }] }, 0, { runT with bad := true }, by decide +kernel⟩,
      ⟨W3, 16, by decide +kernel⟩,
      ⟨{ (W3.setBit (LWB_WIN_MIR_CTL_IN_EN 16) true) with brg.lock := [(4, { host := 9, win := 16, since := 0, sent := false })] }, 16,
        by decide +kernel⟩,
      ⟨W0, 0, by decide +kernel⟩,
      ⟨W0, busT, 0, by decide +kernel⟩,
      ⟨W3.setBit (LWB_WIN_MIR_CTL_IN_EN 16) true, 16, by decide +kernel⟩,
      ⟨{ (W3.setBit (LWB_WIN_MIR_CTL_OUT_EN 16) true) with brg.win := [(16, { outPend := true })] }, 16, by decide +kernel⟩⟩

/-- States and operands that meet the hypotheses of each clause of TenantKeys. -/
theorem wit_TenantKeys :
    (∃ (s : State) (rq : Rq) (p : Principal) (n : Nat), (∀ m, p = .tenant m → m = n) ∧ s.serves rq 0x0500 p = true ∧ s.admitsTenants = true ∧
      s.ident.life = .owned ∧ 1 ≤ n ∧ n ≤ 1023 ∧ s.bit (SEC_SLOT_ENABLED n) = true ∧ s.slotState n = .empty ∧ s.establishing n = false) ∧
    (∃ (s : State) (rq : Rq) (p : Principal), s.serves rq 0x0500 p = true ∧ (s.admitsTenants = false ∨ s.ident.life ≠ .owned)) ∧
    (∃ (s : State) (rq : Rq) (p : Principal) (n : Nat), (∀ m, p = .tenant m → m = n) ∧ (p = .owner → s.tenantRegions n = 0) ∧ s.serves rq 0x0501 p =
      true ∧ 1 ≤ n ∧ n ≤ 1023 ∧ s.slotState n ≠ .zeroising ∧ s.lcSlots ≠ []) ∧
    (∃ (s : State) (rq : Rq) (p : Principal) (n : Nat), s.serves rq 0x0501 p = true ∧ 1 ≤ n ∧ n ≤ 1023 ∧ p = .owner ∧ s.tenantRegions n ≠ 0) ∧
    (∃ (s : State) (rq : Rq) (p : Principal) (b : Nat) (n : Nat) (r : Region), s.serves rq 0x0502 p = true ∧ b < 4096 ∧ s.bndValid b = true ∧
      s.bndRec b = some r ∧ r.tenant = n ∧ n ≠ 0) ∧
    (∃ (s : State) (n : Nat) (b : Nat) (c : Nat) (m : Nat) (x : Spdm) (k : KeySlot), mget s.mbx.spdm n = some x ∧ mget s.bnd.ckid (b * 65536 + c) =
      some m ∧ mget s.sec.slots m = some k ∧ k.st = .established ∧ x.mutualAuth = true ∧ x.key = k.verifier ∧ s.tenantBacked m = false) ∧
    (∃ (s : State) (n : Nat) (b : Nat) (c : Nat) (m : Nat) (x : Spdm) (k : KeySlot), mget s.mbx.spdm n = some x ∧ mget s.bnd.ckid (b * 65536 + c) =
      some m ∧ mget s.sec.slots m = some k ∧ (k.st ≠ .established ∨ x.mutualAuth = false ∨ x.key ≠ k.verifier ∨ s.tenantBacked m = true)) ∧
    (∃ (s : State) (rq : Rq) (g : Nat) (r : Region) (i : Integ), s.serves rq 0x0503 (.tenant r.tenant) = true ∧ mget s.bnd.regions g = some r ∧ mget
      s.sec.integ g = some i) ∧
    (∃ (s : State) (rq : Rq) (p : Principal) (g : Nat) (r : Region), s.serves rq 0x0503 p = true ∧ mget s.bnd.regions g = some r ∧ p ≠ .tenant
      r.tenant) ∧
    (∃ (s : State) (rq : Rq) (p : Principal) (n : Nat) (e : Nat), s.serves rq 0x0504 p = true ∧ 1 ≤ n ∧ n ≤ 1023 ∧ e ≤ 1 ∧ s.lkLocked = false) :=
    ⟨⟨W0.setBit (SEC_SLOT_ENABLED 5) true, (rqT 3), (.tenant 5), 5, by simp, by decide +kernel⟩,
      ⟨{ W0 with ident.life := .ownerOpen }, (rqT 3), (.tenant 5), by decide +kernel⟩,
      ⟨W0, (rqT 1), .owner, 5, by simp, by first | (intro h; cases h; done) | exact fun _ => by decide +kernel, by decide +kernel⟩,
      ⟨{ W2 with bnd.regions := [(3, { regT with tenant := 5 })] }, (rqT 1), .owner, 5, by decide +kernel⟩,
      ⟨{ W2 with bnd.regions := [(3, { regT with tenant := 5 })] }, (rqT 1), .owner, 1, 5, { regT with tenant := 5 }, by decide +kernel⟩,
      ⟨{ W0 with mbx.spdm := [(2, spdmT)], bnd.ckid := [(65536 + 9, 5)], sec.slots := [(5, keyT)] }, 2, 1, 9, 5, spdmT, keyT, by decide +kernel⟩,
      ⟨{ W0 with mbx.spdm := [(2, spdmT)], bnd.ckid := [(65536 + 9, 5)], sec.slots := [(5, { keyT with st := .zeroising })] }, 2, 1, 9, 5, spdmT,
        { keyT with st := .zeroising }, by decide +kernel⟩,
      ⟨{ { W2 with bnd.regions := [(3, { regT with tenant := 5 })] } with sec.integ := [(3, { count := 1, ofs := 0, level := 1, frame := 0 })] },
        (rqT 3), 3, { regT with tenant := 5 }, { count := 1, ofs := 0, level := 1, frame := 0 }, by decide +kernel⟩,
      ⟨W2, (rqT 3), (.tenant 5), 3, regT, by decide +kernel⟩,
      ⟨W0, (rqT 1), .owner, 5, 0, by decide +kernel⟩⟩

/-- States and operands that meet the hypotheses of each clause of GroupsAndPeers. -/
theorem wit_GroupsAndPeers :
    (∃ (s : State) (rq : Rq) (p : Principal) (group : Nat) (member : Nat) (peers : List (Nat × Nat)), s.serves rq 0x0E00 p = true ∧ (s.mbx.lock =
      none ∨ s.mbx.lock = some rq.sess) ∧ group ≤ 65535 ∧ member ≤ 7 ∧ (∀ x ∈ peers, x.1 ≤ 7)) ∧
    (∃ (s : State) (rq : Rq) (p : Principal) (n : Nat), s.serves rq 0x0E00 p = true ∧ s.mbx.lock = some n ∧ n ≠ rq.sess) ∧
    (∃ (s : State) (m : Nat), m < 8 ∧ bitOn (s.fld GRP_STAT_EXPEL) m = false ∧ s.curBit (GRP_PEER_VALID m) = true) ∧
    (∃ (s : State) (m : Nat), m < 8 ∧ bitOn (s.fld GRP_STAT_EXPEL) m = false ∧ s.curBit (GRP_PEER_VALID m) = true) ∧
    (∃ (s : State) (m : Nat), (8 ≤ m ∨ bitOn (s.fld GRP_STAT_EXPEL) m = true ∨ s.curBit (GRP_PEER_VALID m) = false)) ∧
    (∃ (s : State) (m : Nat), m < 8 ∧ s.reach m = false ∧ s.carriedTo m = true ∧ s.grp.held = [] ∧ s.grp.xfers = []) ∧
    (∃ (s : State) (m : Nat), (8 ≤ m ∨ s.reach m = true ∨ s.carriedTo m = false)) ∧
    (∃ (s : State) (m : Nat), m < 8 ∧ s.reach m = true ∧ s.carriedTo m = false ∧ (∀ i, i < 8 → s.peerOf i ≠ some m) ∧ s.home.tt = []) ∧
    (∃ (s : State) (m : Nat), (8 ≤ m ∨ s.reach m = false ∨ s.carriedTo m = true)) ∧
    (∃ (s : State), (∀ h ∈ s.grp.held, s.time.frame ≤ h.since + s.cur HOM_CFG_TMO)) ∧
    (∃ (s : State) (h : Held), s.grp.held = [h] ∧ h.since + s.cur HOM_CFG_TMO < s.time.frame ∧ h.req.src < 128 ∧ h.req.bnd < 4096 ∧ s.takes
      h.req.src { src := 128, dst := h.req.src, kind := .ndr 0 } = true ∧ hkReads h.req.kind = true) ∧
    (∃ (s : State) (m : Nat), m < 8 ∧ s.reach m = false ∧ s.carriedTo m = true) ∧
    (∃ (s : State) (m : Nat), m < 8 ∧ s.reach m = true ∧ s.carriedTo m = false) :=
    ⟨⟨W0, (rqT 1), .owner, 0, 0, [], by decide +kernel⟩,
      ⟨{ W0 with mbx.lock := some 2 }, (rqT 1), .owner, 2, by decide +kernel⟩,
      ⟨W0.setCur (GRP_PEER_VALID 1) 1, 1, by decide +kernel⟩,
      ⟨W0.setCur (GRP_PEER_VALID 1) 1, 1, by decide +kernel⟩,
      ⟨W0, 0, by decide +kernel⟩,
      ⟨W6 4 {}, 1, by decide +kernel⟩,
      ⟨W0, 0, by decide +kernel⟩,
      ⟨W0.setFld GRP_STAT_REACH 2, 1, by decide +kernel⟩,
      ⟨W0, 0, by decide +kernel⟩,
      ⟨W0, by decide +kernel⟩,
      ⟨{ W1 with grp.held := [heldT], time.frame := 1000000 }, heldT, by decide +kernel⟩,
      ⟨{ (W6 4 {}) with grp.held := [heldT] }, 1, by decide +kernel⟩,
      ⟨{ (W0.setFld GRP_STAT_REACH 2) with home.tt := [(0, [ttT])] }, 1, by decide +kernel⟩⟩

/-- States and operands that meet the hypotheses of each clause of TransfersAndFences. -/
theorem wit_TransfersAndFences :
    (∃ (s : State) (rq : Rq) (p : Principal) (g : Nat) (m : Nat) (f : Nat) (r : Region) (ok : Bool), s.serves rq 0x0E02 p = true ∧ s.bit
      GRP_STAT_YIELD = false ∧ mget s.bnd.regions g = some r ∧ m < 8 ∧ s.curBit (GRP_PEER_VALID m) = true ∧ s.namedRefusal f = none ∧ (r.cls = 0 ∨
      ok = true) ∧ r.deleting = false ∧ s.lcSlots ≠ [] ∧ (∀ x ∈ s.grp.xfers, x.region ≠ g)) ∧
    (∃ (s : State) (rq : Rq) (p : Principal), s.serves rq 0x0E02 p = true ∧ s.bit GRP_STAT_YIELD = true) ∧
    (∃ (s : State) (m : Nat) (r : RemRegion), m < 8 ∧ bitOn (s.fld GRP_STAT_EXPEL) m = false ∧ mget s.bnd.regions r.id = none ∧ (∀ x ∈
      s.grp.incoming, x.id ≠ r.id)) ∧
    (∃ (s : State) (m : Nat), (8 ≤ m ∨ bitOn (s.fld GRP_STAT_EXPEL) m = true)) ∧
    (∃ (s : State) (rq : Rq) (p : Principal) (k : FenceTok), s.serves rq 0x0E01 p = true ∧ s.fenceOk k = true) ∧
    (∃ (s : State) (rq : Rq) (p : Principal) (k : FenceTok), s.serves rq 0x0E01 p = true ∧ s.fenceOk k = false) ∧
    (∃ (s : State) (k : FenceTok), s.fenceOk k = true) :=
    ⟨⟨{ W2.setCur (GRP_PEER_VALID 1) 1 with md.mode := .service }, (rqT 1), .owner, 3, 1, 9, regT, false, by decide +kernel⟩,
      ⟨W0.setBit GRP_STAT_YIELD true, (rqT 1), .owner, by decide +kernel⟩,
      ⟨W0, 0, remT, by decide +kernel⟩,
      ⟨W0, 8, by decide +kernel⟩,
      ⟨(({ W0 with ident.nonces := [(0x20, 0)] } : State).setCur GRP_CFG_EN 1), (rqT 2), (.fm 0),
        { fenceT with device := (({ W0 with ident.nonces := [(0x20, 0)] } : State).setCur GRP_CFG_EN 1).ident.digest }, by decide +kernel⟩,
      ⟨W0, (rqT 2), (.fm 0), fenceT, by decide +kernel⟩,
      ⟨(({ W0 with ident.nonces := [(0x20, 0)] } : State).setCur GRP_CFG_EN 1),
        { fenceT with device := (({ W0 with ident.nonces := [(0x20, 0)] } : State).setCur GRP_CFG_EN 1).ident.digest }, by decide +kernel⟩⟩

/-- States and operands that meet the hypotheses of each clause of IslCells. -/
theorem wit_IslCells :
    (∃ (s : State) (i : Nat), i < 8 ∧ (s.islSt i = 3 ∨ s.islSt i = 4) ∧ (s.islAt i).rpl = none ∧ s.islSpan i ≠ 1024 ∧ (s.islAt i).tx = []) ∧
    (∃ (s : State) (i : Nat) (m : Msg), i < 8 ∧ (s.islSt i = 3 ∨ s.islSt i = 4) ∧ (s.islAt i).rpl = none ∧ s.islSpan i ≠ 1024 ∧ (s.islAt i).tx =
      [(m, msgSlots m)] ∧ m.whole = true ∧ 1 ≤ msgSlots m ∧ msgSlots m ≤ s.islSlots i ∧ s.mayBegin i m = true) ∧
    (∃ (s : State) (i : Nat) (q : Nat), i < 8 ∧ (s.islSt i = 3 ∨ s.islSt i = 4) ∧ (s.islAt i).rpl = some q) ∧
    (∃ (s : State) (i : Nat), i < 8 ∧ (s.islSt i = 3 ∨ s.islSt i = 4) ∧ (s.islAt i).rpl = none ∧ s.islSpan i = 1024) ∧
    (∃ (s : State) (i : Nat), (8 ≤ i ∨ (s.islSt i ≠ 3 ∧ s.islSt i ≠ 4))) ∧
    (∃ (s : State) (i : Nat) (c : IslCell) (errs : List (Nat × Nat)), i < 8 ∧ s.islSt i = 3 ∧ s.bit (ISL_RX_SEQ_NAK_PEND i) = false ∧ (s.islAt
      i).bad < 7 ∧ (crcPasses (residual errs) = false ∨ 2 ≤ c.type)) ∧
    (∃ (s : State) (i : Nat) (tag : Nat) (c : IslCell) (errs : List (Nat × Nat)), i < 8 ∧ (s.islSt i = 3 ∨ s.islSt i = 4) ∧ c.type = 0 ∧ c.ackValid
      = false ∧ crcPasses (residual errs) = true ∧ (s.bit (ISL_STAT_PROT_ACTIVE i) = true → tag = s.rxTag i c)) ∧
    (∃ (s : State) (i : Nat) (tag : Nat) (c : IslCell) (errs : List (Nat × Nat)), i < 8 ∧ (s.islSt i = 3 ∨ s.islSt i = 4) ∧ c.type = 1 ∧ c.ackValid
      = false ∧ c.parts = [] ∧ c.seq = s.fld (ISL_RX_SEQ_NEXT_RX i) ∧ crcPasses (residual errs) = true ∧ (s.bit (ISL_STAT_PROT_ACTIVE i) = true →
      tag = s.rxTag i c)) ∧
    (∃ (s : State) (i : Nat) (tag : Nat) (c : IslCell) (errs : List (Nat × Nat)), i < 8 ∧ (s.islSt i = 3 ∨ s.islSt i = 4) ∧ c.type = 1 ∧ c.ackValid
      = false ∧ c.rpl = false ∧ 3072 ≤ seqDist (s.fld (ISL_RX_SEQ_NEXT_RX i)) c.seq ∧ crcPasses (residual errs) = true ∧ (s.bit
      (ISL_STAT_PROT_ACTIVE i) = true → tag = s.rxTag i c)) ∧
    (∃ (s : State) (i : Nat) (tag : Nat) (c : IslCell) (errs : List (Nat × Nat)), tag ≠ s.rxTag i c ∧ i < 8 ∧ (s.islSt i = 3 ∨ s.islSt i = 4) ∧
      c.type < 2 ∧ crcPasses (residual errs) = true ∧ s.bit (ISL_STAT_PROT_ACTIVE i) = true ∧ s.linkUp (s.cur (ISL_CFG_PORT i)) = false) ∧
    (∃ (s : State) (i : Nat), (8 ≤ i ∨ (s.islSt i ≠ 3 ∧ s.islSt i ≠ 4))) :=
    ⟨⟨(W4 4 {}), 0, by decide +kernel⟩,
      ⟨(W4 4 { tx := [({ msgT with kind := .mgmt }, msgSlots { msgT with kind := .mgmt })] }), 0, { msgT with kind := .mgmt }, by decide +kernel⟩,
      ⟨(W4 4 { rpl := some 3 }), 0, 3, by decide +kernel⟩,
      ⟨((W4 4 {})).setFld (ISL_SEQ_NEXT_TX 0) 1024, 0, by decide +kernel⟩,
      ⟨W0, 0, by decide +kernel⟩,
      ⟨(W4 3 {}), 0, { cellT with type := 2 }, [], by decide +kernel⟩,
      ⟨(W4 4 {}), 0, 0, cellT, [], by decide +kernel⟩,
      ⟨(W4 4 {}), 0, 0, { cellT with type := 1 }, [], by decide +kernel⟩,
      ⟨(W4 4 {}), 0, 0, { cellT with type := 1, seq := 4000 }, [], by decide +kernel⟩,
      ⟨((W4 4 {})).setBit (ISL_STAT_PROT_ACTIVE 0) true, 0, ((((W4 4 {})).setBit (ISL_STAT_PROT_ACTIVE 0) true).rxTag 0 cellT + 1), cellT, [],
        Nat.succ_ne_self _, by decide +kernel⟩,
      ⟨W0, 0, by decide +kernel⟩⟩

/-- States and operands that meet the hypotheses of each clause of IslTimersAndMarkers. -/
theorem wit_IslTimersAndMarkers :
    (∃ (s : State) (i : Nat), (8 ≤ i ∨ (s.islAt i).rp = [] ∨ (s.islSt i ≠ 3 ∧ s.islSt i ≠ 4))) ∧
    (∃ (s : State) (i : Nat), i < 8 ∧ (s.islAt i).rp ≠ [] ∧ (s.islSt i = 3 ∨ (s.islSt i = 4 ∧ s.fld (ISL_ERR_WIN_CUR i) + 1 ≤ s.fld (ISL_ERR_WIN_THR
      i))) ∧ (s.islAt i).expiries + 1 < s.fld (ISL_REPLAY_CTL_REPLAY_MAX i) ∧ s.islSpan i ≠ 0) ∧
    (∃ (s : State) (i : Nat), i < 8 ∧ (s.islAt i).rp ≠ [] ∧ s.islSt i = 4 ∧ s.fld (ISL_ERR_WIN_CUR i) + 1 ≤ s.fld (ISL_ERR_WIN_THR i) ∧ s.fld
      (ISL_REPLAY_CTL_REPLAY_MAX i) ≤ (s.islAt i).expiries + 1 ∧ (s.islAt i).tried = false) ∧
    (∃ (s : State) (i : Nat), i < 8 ∧ 3 ≤ s.islSt i) ∧
    (∃ (s : State) (i : Nat), (8 ≤ i ∨ s.islSt i < 3)) ∧
    (∃ (s : State) (i : Nat) (m : IslMarker) (raw : List Nat), readMarker raw = some m ∧ i < 8 ∧ 2 ≤ s.islSt i ∧ s.islSt i ≠ 5 ∧ s.bit
      (ISL_STAT_BLOCK_LOCK i) = false ∧ (s.islAt i).seen = true) ∧
    (∃ (s : State) (i : Nat) (f : Nat) (hold : Nat) (t1 : Nat) (m : IslMarker) (raw : List Nat), (∀ g u, (s.islAt i).lastMark = some (g, u) →
      s.missed (s.islAt i) u < 2) ∧ readMarker raw = some m ∧ i < 8 ∧ s.islSt i = 2 ∧ s.bit (ISL_STAT_BLOCK_LOCK i) = true ∧ m.echo = some (f, hold)
      ∧ mget (s.islAt i).sentAt f = some t1 ∧ s.fld FRM_SYNC_CTL_ROLE ≠ 2 ∧ mget s.grp.seen i = some (PeerSeen.mk m.group m.member m.epoch)) ∧
    (∃ (s : State) (i : Nat) (f : Nat) (hold : Nat) (t1 : Nat) (m : IslMarker) (raw : List Nat), (∀ g u, (s.islAt i).lastMark = some (g, u) →
      s.missed (s.islAt i) u < 2) ∧ readMarker raw = some m ∧ i < 8 ∧ s.islSt i = 4 ∧ s.bit (ISL_STAT_BLOCK_LOCK i) = true ∧ m.echo = some (f, hold)
      ∧ mget (s.islAt i).sentAt f = some t1 ∧ s.fld FRM_SYNC_CTL_ROLE ≠ 2 ∧ mget s.grp.seen i = some (PeerSeen.mk m.group m.member m.epoch) ∧ s.fld
      (ISL_RTT_RTT_USED i) < s.now - t1 - hold) ∧
    (∃ (s : State) (i : Nat) (raw : List Nat) (a : Bool), (8 ≤ i ∨ s.islSt i < 2 ∨ s.islSt i = 5 ∨ readMarker raw = none ∨ (s.bit
      (ISL_STAT_BLOCK_LOCK i) = true ∧ a = false))) ∧
    (∃ (s : State) (i : Nat) (g : Nat) (u : Nat) (m : IslMarker) (raw : List Nat), readMarker raw = some m ∧ i < 8 ∧ 2 ≤ s.islSt i ∧ s.islSt i ≠ 5 ∧
      s.bit (ISL_STAT_BLOCK_LOCK i) = true ∧ (s.islAt i).lastMark = some (g, u) ∧ s.missed (s.islAt i) u = 2) ∧
    (∃ (s : State) (i : Nat), i < 8 ∧ s.bit (ISL_STAT_BLOCK_LOCK i) = true ∧ (s.islAt i).miss = 0) ∧
    (∃ (s : State) (i : Nat), i < 8 ∧ s.bit (ISL_STAT_BLOCK_LOCK i) = true ∧ 1 ≤ (s.islAt i).miss ∧ 2 ≤ s.islSt i ∧ s.islSt i ≠ 5) ∧
    (∃ (s : State) (i : Nat), (8 ≤ i ∨ s.bit (ISL_STAT_BLOCK_LOCK i) = false)) :=
    ⟨⟨W0, 0, by decide +kernel⟩,
      ⟨((W4 4 { rp := [(0, [])] })).setFld (ISL_SEQ_NEXT_TX 0) 1, 0, by decide +kernel⟩,
      ⟨(W4 4 { rp := [(0, [])], expiries := 100 }), 0, by decide +kernel⟩,
      ⟨(W4 3 {}), 0, by decide +kernel⟩,
      ⟨W0, 0, by decide +kernel⟩,
      ⟨(W4 2 { seen := true }), 0, markT, markerBlock markT, by decide +kernel⟩,
      ⟨{ ({ ((W4 2 { sentAt := [(0, 1)] })).setBit (ISL_STAT_BLOCK_LOCK 0) true with grp.seen := [(0, PeerSeen.mk 0 0 0)] } : State) with time.tick := 9 },
        0, 0, 5, 1, { markT with echo := some (0, 5) }, markerBlock ({ markT with echo := some (0, 5) }),
        (fun g u h => nomatch (show (none : Option (Nat × Nat)) = some (g, u) from h)), by decide +kernel⟩,
      ⟨{ ({ ((W4 4 { sentAt := [(0, 1)] })).setBit (ISL_STAT_BLOCK_LOCK 0) true with grp.seen := [(0, PeerSeen.mk 0 0 0)] } : State) with time.t0 := 100000 },
        0, 0, 5, 1, { markT with echo := some (0, 5) }, markerBlock ({ markT with echo := some (0, 5) }),
        (fun g u h => nomatch (show (none : Option (Nat × Nat)) = some (g, u) from h)), by decide +kernel⟩,
      ⟨W0, 0, [], false, by decide +kernel⟩,
      ⟨({ ({ ((W4 4 { lastMark := some (0, 0), miss := 1 })).setBit (ISL_STAT_BLOCK_LOCK 0) true with grp.seen := [(0, PeerSeen.mk 0 0 0)] } : State) with time.t0 := 100000 }
        : State), 0, 0, 0, markT, markerBlock markT, by decide +kernel⟩,
      ⟨({ ((W4 4 {})).setBit (ISL_STAT_BLOCK_LOCK 0) true with grp.seen := [(0, PeerSeen.mk 0 0 0)] } : State), 0, by decide +kernel⟩,
      ⟨({ ((W4 4 { miss := 1 })).setBit (ISL_STAT_BLOCK_LOCK 0) true with grp.seen := [(0, PeerSeen.mk 0 0 0)] } : State), 0, by decide +kernel⟩,
      ⟨W0, 0, by decide +kernel⟩⟩

/-- States and operands that meet the hypotheses of each clause of IslLinkStates. -/
theorem wit_IslLinkStates :
    (∃ (s : State) (i : Nat) (h : Nat), i < 8 ∧ s.islSt i = 2 ∧ s.bit (ISL_STAT_BLOCK_LOCK i) = true ∧ 16 ≤ (s.islAt i).marks ∧ s.protWanted i =
      false ∧ h = s.headroom i ((s.islAt i).rttMax + 16) 14 ∧ (∀ c, c < 4 → h + s.cur (ISL_FC_CTL_ON_GAP i) + 257 ≤ s.rxSize i c)) ∧
    (∃ (s : State) (i : Nat) (h : Nat), i < 8 ∧ s.islSt i = 2 ∧ s.bit (ISL_STAT_BLOCK_LOCK i) = true ∧ 16 ≤ (s.islAt i).marks ∧ s.protWanted i =
      true ∧ h = s.headroom i ((s.islAt i).rttMax + 16) 13 ∧ (∀ c, c < 4 → h + s.cur (ISL_FC_CTL_ON_GAP i) + 257 ≤ s.rxSize i c)) ∧
    (∃ (s : State) (i : Nat) (h : Nat) (c : Nat), i < 8 ∧ s.islSt i = 2 ∧ s.bit (ISL_STAT_BLOCK_LOCK i) = true ∧ 16 ≤ (s.islAt i).marks ∧ h =
      s.headroom i ((s.islAt i).rttMax + 16) (s.slotsWanted i) ∧ c < 4 ∧ s.rxSize i c < h + s.cur (ISL_FC_CTL_ON_GAP i) + 257) ∧
    (∃ (s : State) (i : Nat), (8 ≤ i ∨ s.islSt i ≠ 2 ∨ s.bit (ISL_STAT_BLOCK_LOCK i) = false ∨ (s.islAt i).marks < 16)) ∧
    (∃ (s : State) (i : Nat), i < 8 ∧ s.islSt i = 3 ∧ mget s.grp.seen i = none) ∧
    (∃ (s : State) (i : Nat), (8 ≤ i ∨ s.islSt i ≠ 3)) ∧
    (∃ (s : State) (i : Nat), i < 8 ∧ s.islSt i = 3 ∧ (s.islAt i).downAt + 1000000000 ≤ s.now ∧ s.linkUp (s.cur (ISL_CFG_PORT i)) = false) ∧
    (∃ (s : State) (i : Nat), (8 ≤ i ∨ s.islSt i ≠ 3 ∨ s.now < (s.islAt i).downAt + 1000000000)) ∧
    (∃ (s : State) (i : Nat), i < 8 ∧ s.islSt i = 5 ∧ (s.islAt i).downAt + 24000000 ≤ s.now ∧ s.linkUp (s.cur (ISL_CFG_PORT i)) = false) ∧
    (∃ (s : State) (i : Nat), (8 ≤ i ∨ s.islSt i ≠ 5 ∨ s.now < (s.islAt i).downAt + 24000000)) ∧
    (∃ (s : State) (i : Nat), i < 8 ∧ s.islSt i = 0 ∧ s.curBit (ISL_CFG_EN i) = true ∧ s.bit (PRT_LINK_CTL_LINK_DIS (s.cur (ISL_CFG_PORT i))) =
      false ∧ (s.islAt i).downAt + 1000000 ≤ s.now) ∧
    (∃ (s : State) (i : Nat), (8 ≤ i ∨ s.islSt i ≠ 0 ∨ s.curBit (ISL_CFG_EN i) = false ∨ s.bit (PRT_LINK_CTL_LINK_DIS (s.cur (ISL_CFG_PORT i))) =
      true ∨ s.now < (s.islAt i).downAt + 1000000)) :=
    ⟨⟨({ (({ (((W4 2 { marks := 16 })).setCur (ISL_CFG_PROT_EN 0) 0).setBit (ISL_STAT_BLOCK_LOCK 0) true with grp.seen := [(0, PeerSeen.mk 0 0 0)] } : State)) with ident.life := .ownerOpen }
        : State), 0,
        ((({ (({ (((W4 2 { marks := 16 })).setCur (ISL_CFG_PROT_EN 0) 0).setBit (ISL_STAT_BLOCK_LOCK 0) true with grp.seen := [(0, PeerSeen.mk 0 0 0)] } : State)) with ident.life := .ownerOpen }
        : State)).headroom 0 16 14), by decide +kernel⟩,
      ⟨({ ((W4 2 { marks := 16 })).setBit (ISL_STAT_BLOCK_LOCK 0) true with grp.seen := [(0, PeerSeen.mk 0 0 0)] } : State), 0,
        ((({ ((W4 2 { marks := 16 })).setBit (ISL_STAT_BLOCK_LOCK 0) true with grp.seen := [(0, PeerSeen.mk 0 0 0)] } : State)).headroom 0 16 13),
        by decide +kernel⟩,
      ⟨({ ((W4 2 { marks := 16, rttMax := 1000000000 })).setBit (ISL_STAT_BLOCK_LOCK 0) true with grp.seen := [(0, PeerSeen.mk 0 0 0)] } : State),
        0, ((({ ((W4 2 { marks := 16, rttMax := 1000000000 })).setBit (ISL_STAT_BLOCK_LOCK 0) true with grp.seen := [(0, PeerSeen.mk 0 0 0)] } :
        State)).headroom 0 (1000000000 + 16) 13), 0, by decide +kernel⟩,
      ⟨W0, 0, by decide +kernel⟩,
      ⟨(W4 3 {}), 0, by decide +kernel⟩,
      ⟨W0, 0, by decide +kernel⟩,
      ⟨({ (W4 3 {}) with time.t0 := 5000000000 } : State), 0, by decide +kernel⟩,
      ⟨W0, 0, by decide +kernel⟩,
      ⟨({ (W4 5 {}) with time.t0 := 5000000000 } : State), 0, by decide +kernel⟩,
      ⟨W0, 0, by decide +kernel⟩,
      ⟨({ (W4 0 {}) with time.t0 := 5000000000 } : State), 0, by decide +kernel⟩,
      ⟨W0, 0, by decide +kernel⟩⟩

/-- States and operands that meet the hypotheses of each clause of LinkTraining. -/
theorem wit_LinkTraining :
    (∃ (s : State) (p : Nat) (width : Nat), s.lanesGood p ∧ p < 128 ∧ s.formed p = true ∧ (s.role p = 1 ∨ s.role p = 2) ∧ s.linkUp p = false ∧ s.bit
      (PRT_LINK_CTL_LINK_DIS p) = false ∧ (s.px p).heldRst = false ∧ s.dataOff = false ∧ width ≤ 4 ∧ 2 ^ width ≤ s.lanesOf p) ∧
    (∃ (s : State) (p : Nat), (128 ≤ p ∨ s.formed p = false ∨ s.role p = 0 ∨ (s.linkUp p = true ∧ s.role p ≠ 3) ∨ s.bit (PRT_LINK_CTL_LINK_DIS p) =
      true ∨ (s.px p).heldRst = true ∨ s.dataOff = true)) ∧
    (∃ (s : State) (p : Nat), p < 128 ∧ s.linkUp p = true ∧ (s.px p).xrAgreed = true ∧ (s.px p).xrHold = false ∧ s.xrOffered p = true ∧ s.fld
      (PRT_LINK_STAT_RATE p) = 6 ∧ (s.fld (TWL_PCAP_CAP p) = 0 ∨ 7 ≤ s.fld (TWL_PCAP_CAP p))) ∧
    (∃ (s : State) (p : Nat), (128 ≤ p ∨ s.linkUp p = false ∨ (s.px p).xrAgreed = false ∨ (s.px p).xrHold = true ∨ s.xrOffered p = false ∨ s.fld
      (PRT_LINK_STAT_RATE p) ≠ 6)) ∧
    (∃ (s : State) (p : Nat), p < 128 ∧ s.linkUp p = true ∧ (s.px p).xrAgreed = true) ∧
    (∃ (s : State) (p : Nat), (128 ≤ p ∨ s.linkUp p = false ∨ (s.px p).xrAgreed = false)) ∧
    (∃ (s : State) (b : Bus) (p : Nat) (c : Nat) (h : Bool), s.lanesGood p ∧ s.takesWrite b (PRT_LINK_CTL p) = true ∧ (s.busP b).isOF = true ∧ p <
      128 ∧ s.linkUp p = true ∧ s.role p ≠ 3 ∧ s.bestSet p (s.px p).wmax = some (c, h) ∧ s.bit (PRT_LINK_STAT_XRATE p) = false) ∧
    (∃ (s : State) (b : Bus) (p : Nat), s.takesWrite b (PRT_LINK_CTL p) = true ∧ (s.busP b).isOF = true ∧ p < 128 ∧ s.linkUp p = false) ∧
    (∃ (s : State) (b : Bus) (p : Nat) (w : Word), s.alone p ∧ s.takesWrite b (PRT_LINK_CTL p) = true ∧ (s.busP b).isOF = true ∧ p < 128 ∧ getBit w
      9 = true ∧ getBit w 8 = false ∧ s.bit (PRT_LINK_CTL_LINK_DIS p) = false ∧ s.linkUp p = true) ∧
    (∃ (s : State) (b : Bus) (p : Nat) (w : Word), s.takesWrite b (PRT_LINK_CTL p) = true ∧ (s.busP b).isOF = true ∧ p < 128 ∧ getBit w 9 = false ∧
      getBit w 8 = false ∧ s.bit (PRT_LINK_CTL_LINK_DIS p) = true) :=
    ⟨⟨(W1.setBit (PRT_LINK_STAT_UP 4) false), 4, 4, by unfold State.lanesGood; decide +kernel, by decide +kernel⟩,
      ⟨W0, 0, by decide +kernel⟩,
      ⟨{ ((W1.setFld (PRT_LINK_STAT_RATE 4) 6).setBit (PRT_LINK_CTL_XRATE_EN 4) true).setFld (PRT_LINK_CTL_MAX_RATE 4) 7 with prt.px := [(4, { xrAgreed := true })] },
        4, by decide +kernel⟩,
      ⟨W0, 0, by decide +kernel⟩,
      ⟨{ W1.setFld (PRT_LINK_STAT_RATE 4) 6 with prt.px := [(4, { xrAgreed := true })] }, 4, by decide +kernel⟩,
      ⟨W0, 0, by decide +kernel⟩,
      ⟨W1, busT, 4, (((W1.bestSet 4 (W1.px 4).wmax).getD (0, false)).1), (((W1.bestSet 4 (W1.px 4).wmax).getD (0, false)).2),
        by unfold State.lanesGood; decide +kernel, by decide +kernel⟩,
      ⟨W0, busT, 4, by decide +kernel⟩,
      ⟨W1, busT, 4, 512, by unfold State.alone; decide +kernel, by decide +kernel⟩,
      ⟨W1.setBit (PRT_LINK_CTL_LINK_DIS 4) true, busT, 4, 0, by decide +kernel⟩⟩

/-- States and operands that meet the hypotheses of each clause of LinkPower. -/
theorem wit_LinkPower :
    (∃ (s : State) (p : Nat) (us : Nat), p < 128 ∧ s.fld (PRT_PM_STAT_STATE p) ≠ 2 ∧ s.mayL1 p us = true) ∧
    (∃ (s : State) (p : Nat) (us : Nat), (128 ≤ p ∨ s.fld (PRT_PM_STAT_STATE p) = 2 ∨ s.mayL1 p us = false)) ∧
    (∃ (s : State) (p : Nat), p < 128 ∧ s.fld (PRT_PM_STAT_STATE p) = 2) ∧
    (∃ (s : State) (p : Nat), (128 ≤ p ∨ s.fld (PRT_PM_STAT_STATE p) ≠ 2)) ∧
    (∃ (s : State) (p : Nat) (used : Nat) (total : Nat), p < 128 ∧ s.linkUp p = true ∧ s.role p ≠ 3 ∧ s.fld (PRT_PM_STAT_STATE p) ≠ 2 ∧ s.bit
      (PRT_PM_CTL_L0P_EN p) = true ∧ s.fld (PRT_PM_CTL_L0P_WIN p) ≠ 0 ∧ (s.role p = 1 → (s.px p).l0pHost = true) ∧ 16 * used < s.fld
      (PRT_PM_CTL_L0P_THR p) * total ∧ 2 ≤ s.fld (PRT_PM_STAT_L0P_WIDTH p) ∧ (s.px p).trained < s.fld (PRT_PM_STAT_L0P_WIDTH p) + 2) ∧
    (∃ (s : State) (p : Nat) (used : Nat) (total : Nat), (128 ≤ p ∨ s.linkUp p = false ∨ s.role p = 3 ∨ s.bit (PRT_PM_CTL_L0P_EN p) = false ∨ s.fld
      (PRT_PM_CTL_L0P_THR p) * total ≤ 16 * used ∨ s.fld (PRT_PM_STAT_L0P_WIDTH p) ≤ 1)) ∧
    (∃ (s : State) (p : Nat) (used : Nat) (total : Nat) (ns : Nat), p < 128 ∧ s.linkUp p = true ∧ s.fld (PRT_PM_STAT_L0P_WIDTH p) ≠ (s.px p).trained
      ∧ (s.px p).trained ≤ 4 ∧ (3 * total < 4 * used ∨ 1000 < ns)) ∧
    (∃ (s : State) (p : Nat) (used : Nat) (total : Nat) (ns : Nat), (128 ≤ p ∨ s.linkUp p = false ∨ s.fld (PRT_PM_STAT_L0P_WIDTH p) = (s.px
      p).trained ∨ (4 * used ≤ 3 * total ∧ ns ≤ 1000))) :=
    ⟨⟨(W1.setBit (PRT_PM_CTL_L1_EN 4) true).setFld (PRT_PM_CTL_L1_IDLE 4) 10, 4, 10, by decide +kernel⟩,
      ⟨W0, 0, 0, by decide +kernel⟩,
      ⟨W1.setFld (PRT_PM_STAT_STATE 4) 2, 4, by decide +kernel⟩,
      ⟨W0, 0, by decide +kernel⟩,
      ⟨{ ((W1.setBit (PRT_PM_CTL_L0P_EN 4) true).setFld (PRT_PM_CTL_L0P_WIN 4) 1).setFld (PRT_PM_STAT_L0P_WIDTH 4) 4 |>.setFld (PRT_PM_CTL_L0P_THR 4) 8 with prt.px := [(4, { trained := 4 })] },
        4, 0, 100, by decide +kernel⟩,
      ⟨W0, 0, 0, 0, by decide +kernel⟩,
      ⟨{ (W1.setFld (PRT_PM_STAT_L0P_WIDTH 4) 2) with prt.px := [(4, { trained := 4 })] }, 4, 80, 100, 0, by decide +kernel⟩,
      ⟨W0, 0, 0, 0, 0, by decide +kernel⟩⟩

/-- States and operands that meet the hypotheses of each clause of PortsDownAndReset. -/
theorem wit_PortsDownAndReset :
    (∃ (s : State) (p : Nat), p < 128 ∧ s.role p = 2 ∧ s.linkUp p = true) ∧
    (∃ (s : State) (p : Nat), s.isHost p = true ∧ s.linkUp p = true) ∧
    (∃ (s : State) (p : Nat) (b : Nat) (c : Nat) (room : Bool), p < 128 ∧ s.fld (XBR_PWD_WD p) ≤ mgetD s.xbr.stall p 0 ∧ s.stallBlame p (room ||
      s.xbr.roomLast.contains p) = some (b, c)) ∧
    (∃ (s : State) (p : Nat), p < 128 ∧ s.formed p = true) ∧
    (∃ (s : State) (g : Nat), g < 32 ∧ s.hostGroup g = true ∧ s.prt.perstIn.contains g = false) ∧
    (∃ (s : State) (g : Nat), g < 32 ∧ s.hostGroup g = true ∧ s.prt.perstIn.contains g = true) ∧
    (∃ (s : State) (p : Nat), s.alone p ∧ p < 128 ∧ s.role p = 2 ∧ s.linkUp p = true ∧ s.vdpsOf p = []) ∧
    (∃ (s : State) (p : Nat) (k : Nat), s.alone p ∧ p < 128 ∧ s.role p = 2 ∧ s.linkUp p = true ∧ s.vdpsOf p = [k]) ∧
    (∃ (s : State) (p : Nat), (128 ≤ p ∨ s.role p ≠ 2 ∨ s.linkUp p = false)) ∧
    (∃ (s : State) (p : Nat), s.alone p ∧ s.isHost p = true ∧ s.linkUp p = true) ∧
    (∃ (s : State) (p : Nat), (s.isHost p = false ∨ s.linkUp p = false)) ∧
    (∃ (p : Nat), p < 128) ∧
    (∃ (p : Nat), 128 ≤ p) ∧
    (∃ (s : State) (p : Nat) (room : Bool), (128 ≤ p ∨ mgetD s.xbr.stall p 0 < s.fld (XBR_PWD_WD p) ∨ s.stallBlame p (room ||
      s.xbr.roomLast.contains p) = none)) ∧
    (∃ (s : State) (p : Nat), s.alone p ∧ p < 128 ∧ s.fld (XBR_PWD_WD p) ≤ mgetD s.xbr.stall p 0 ∧ p ∉ s.xbr.roomLast ∧ s.linkUp p = true) ∧
    (∃ (s : State) (p : Nat), (128 ≤ p ∨ s.formed p = false)) ∧
    (∃ (s : State) (p : Nat), s.alone p ∧ p < 128 ∧ s.formed p = true ∧ s.isHost p = false) ∧
    (∃ (s : State) (g : Nat), g < 32 ∧ s.hostGroup g = true ∧ s.prt.perstIn.contains g = false ∧ (∀ k, k < 4 → s.linkUp (4 * g + k) = false)) ∧
    (∃ (s : State) (g : Nat) (p : Nat), s.alone p ∧ g < 32 ∧ s.hostGroup g = true ∧ s.prt.perstIn.contains g = true ∧ s.portsOf g = [p] ∧ s.isHost p
      = true ∧ s.linkUp p = false ∧ s.mbx.sess = [] ∧ (∀ q, q < 32 → s.bit (OXB_BQ_CFG_EN q) = false)) ∧
    (∃ (s : State) (g : Nat) (low : Bool), (32 ≤ g ∨ s.prt.perstIn.contains g = low)) ∧
    (∃ (s : State) (g : Nat) (low : Bool), g < 32 ∧ s.hostGroup g = false ∧ s.prt.perstIn.contains g = ! low) :=
    ⟨⟨W1, 4, by decide +kernel⟩,
      ⟨W1, 0, by decide +kernel⟩,
      ⟨{ W1 with xbr.stall := [(4, 1000000000)] }, 4, 4, 2, false, by decide +kernel⟩,
      ⟨W1, 4, by decide +kernel⟩,
      ⟨W1, 0, by decide +kernel⟩,
      ⟨{ W1 with prt.perstIn := [0] }, 0, by decide +kernel⟩,
      ⟨W1, 4, by unfold State.alone; decide +kernel, by decide +kernel⟩,
      ⟨{ W1 with prt.vdp := [(9, { hold := .phys 4 255 })] }, 4, 9, by unfold State.alone; decide +kernel, by decide +kernel⟩,
      ⟨W0, 0, by decide +kernel⟩,
      ⟨W1, 0, by unfold State.alone; decide +kernel, by decide +kernel⟩,
      ⟨W0, 0, by decide +kernel⟩,
      ⟨0, by decide +kernel⟩,
      ⟨128, by decide +kernel⟩,
      ⟨W0, 0, false, by decide +kernel⟩,
      ⟨{ W1 with xbr.stall := [(4, 1000000000)] }, 4, by unfold State.alone; decide +kernel, by decide +kernel⟩,
      ⟨W0, 1, by decide +kernel⟩,
      ⟨W1, 4, by unfold State.alone; decide +kernel, by decide +kernel⟩,
      ⟨W1.setBit (PRT_LINK_STAT_UP 0) false, 0, by decide +kernel⟩,
      ⟨{ W1.setBit (PRT_LINK_STAT_UP 0) false with mbx.sess := [], prt.perstIn := [0] }, 0, 0, by unfold State.alone; decide +kernel,
        by decide +kernel⟩,
      ⟨W0, 0, false, by decide +kernel⟩,
      ⟨W0, 1, true, by decide +kernel⟩⟩

/-- States and operands that meet the hypotheses of each clause of LaneDetectors. -/
theorem wit_LaneDetectors :
    (∃ (s : State) (l : Nat) (mv : Nat) (ns : Nat) (e : Bool), (512 ≤ l ∨ e = true ∨ s.isLos l mv ns = false ∨ (s.engineOn l = false ∧
      s.expectedIdle l = true))) ∧
    (∃ (s : State) (l : Nat) (mv : Nat) (ns : Nat), l < 512 ∧ s.isLos l mv ns = true ∧ s.engineOn l = true) ∧
    (∃ (s : State) (l : Nat) (mv : Nat) (ns : Nat), l < 512 ∧ s.isLos l mv ns = true ∧ s.engineOn l = false ∧ s.laneWatched l = true ∧ mgetD
      s.lan.fails l [] = [] ∧ s.role (s.portOfLane l) ≠ 3) ∧
    (∃ (s : State) (l : Nat) (mv : Nat) (ns : Nat), l < 512 ∧ s.isLos l mv ns = true ∧ s.engineOn l = false ∧ s.laneWatched l = true ∧ s.role
      (s.portOfLane l) ≠ 3 ∧ s.formed (s.portOfLane l) = true ∧ s.parkStrands l = false) ∧
    (∃ (s : State) (l : Nat) (mv : Nat) (ns : Nat), l < 512 ∧ s.isLos l mv ns = true ∧ s.engineOn l = false ∧ s.expectedIdle l = false ∧
      s.laneWatched l = false) ∧
    (∃ (s : State) (l : Nat) (ppm : Nat) (ns : Nat) (a : Bool), l < 512 ∧ s.isLol l ppm ns a = true ∧ s.engineOn l = false ∧ s.expectedIdle l =
      false ∧ s.laneWatched l = false) ∧
    (∃ (s : State) (l : Nat) (ppm : Nat) (ns : Nat) (a : Bool) (e : Bool), (512 ≤ l ∨ e = true ∨ s.isLol l ppm ns a = false ∨ (s.engineOn l = false
      ∧ s.expectedIdle l = true))) ∧
    (∃ (s : State) (l : Nat) (ppm : Nat) (ns : Nat) (a : Bool), l < 512 ∧ s.isLol l ppm ns a = true ∧ s.engineOn l = false ∧ s.laneWatched l = true
      ∧ mgetD s.lan.fails l [] = [] ∧ s.role (s.portOfLane l) ≠ 3) ∧
    (∃ (s : State) (l : Nat) (ppm : Nat) (ns : Nat) (a : Bool), l < 512 ∧ s.isLol l ppm ns a = true ∧ s.engineOn l = false ∧ s.laneWatched l = true
      ∧ s.role (s.portOfLane l) ≠ 3 ∧ s.formed (s.portOfLane l) = true ∧ s.parkStrands l = false) ∧
    (∃ (s : State) (l : Nat), s.laneWatched l = true ∧ s.sweeps l = true ∧ mgetD s.lan.eyeFrom l 0 + 64 ≤ s.time.frame) ∧
    (∃ (s : State) (l : Nat), (s.laneWatched l = false ∨ s.sweeps l = false ∨ s.time.frame < mgetD s.lan.eyeFrom l 0 + 64)) :=
    ⟨⟨W0, 0, 0, 0, false, by decide +kernel⟩,
      ⟨((((W1.setBit (LAN_STAT_IN_USE 16) true).setBit (LAN_CTL_EYE_EN 16) true).setBit (LAN_STAT_PARKED 16) true).setBit (LAN_PAT_CTL_CHK_EN 16)
        true).setBit (LAN_PAT_STAT_ACTIVE 16) true, 16, 0, 1000, by decide +kernel⟩,
      ⟨((W1.setBit (LAN_STAT_IN_USE 16) true).setBit (LAN_CTL_EYE_EN 16) true), 16, 0, 1000, by decide +kernel⟩,
      ⟨((W1.setBit (LAN_STAT_IN_USE 16) true).setBit (LAN_CTL_EYE_EN 16) true), 16, 0, 1000, by decide +kernel⟩,
      ⟨W1, 40, 0, 1000, by decide +kernel⟩,
      ⟨W1, 40, 1000, 1000, true, by decide +kernel⟩,
      ⟨W0, 0, 0, 0, false, false, by decide +kernel⟩,
      ⟨((W1.setBit (LAN_STAT_IN_USE 16) true).setBit (LAN_CTL_EYE_EN 16) true), 16, 0, 1000, true, by decide +kernel⟩,
      ⟨((W1.setBit (LAN_STAT_IN_USE 16) true).setBit (LAN_CTL_EYE_EN 16) true), 16, 0, 1000, true, by decide +kernel⟩,
      ⟨{ ((W1.setBit (LAN_STAT_IN_USE 16) true).setBit (LAN_CTL_EYE_EN 16) true) with time.frame := 64 }, 16, by decide +kernel⟩,
      ⟨W0, 0, by decide +kernel⟩⟩

/-- States and operands that meet the hypotheses of each clause of LanesAndPatterns. -/
theorem wit_LanesAndPatterns :
    (∃ (s : State) (b : Bus) (l : Nat) (w : Word), s.takesWrite b (LAN_CTL l) = true ∧ (s.busP b).isOF = true ∧ l < 512 ∧ getBit w 16 = true ∧ s.bit
      (LAN_CTL_PARK l) = false ∧ s.parkStrands l = false ∧ s.parked l = false ∧ l ∉ s.trainedLanes (s.portOfLane l)) ∧
    (∃ (s : State) (b : Bus) (l : Nat) (w : Word), s.takesWrite b (LAN_CTL l) = true ∧ (s.busP b).isOF = true ∧ l < 512 ∧ getBit w 16 = true ∧ s.bit
      (LAN_CTL_PARK l) = false ∧ s.parkStrands l = true) ∧
    (∃ (s : State) (b : Bus) (l : Nat) (w : Word), s.takesWrite b (LAN_CTL l) = true ∧ (s.busP b).isOF = true ∧ l < 512 ∧ getBit w 16 = false) ∧
    (∃ (s : State) (b : Bus) (l : Nat) (w : Word), s.takesWrite b (LAN_PAT_CTL l) = true ∧ (s.busP b).isIn 35 = true ∧ l < 512 ∧ getBits w 0 3 ≤ 4 ∧
      getBits w 5 2 ≠ 3 ∧ getBits w 8 5 ≤ 20 ∧ s.engineAccepted l = true ∧ s.parkedOfUp l = false ∧ getBit w 7 = false ∧ getBit w 3 = true) ∧
    (∃ (s : State) (b : Bus) (l : Nat) (w : Word), s.takesWrite b (LAN_PAT_CTL l) = true ∧ (s.busP b).isIn 35 = true ∧ l < 512 ∧ getBits w 0 3 ≤ 4 ∧
      getBits w 5 2 ≠ 3 ∧ getBits w 8 5 ≤ 20 ∧ (getBit w 3 = true ∨ getBit w 4 = true ∨ getBits w 5 2 ≠ 0) ∧ s.engineAccepted l = false) ∧
    (∃ (s : State) (b : Bus) (l : Nat) (w : Word), s.takesWrite b (LAN_PAT_CTL l) = true ∧ (s.busP b).isIn 35 = true ∧ l < 512 ∧ (4 < getBits w 0 3
      ∨ getBits w 5 2 = 3 ∨ 20 < getBits w 8 5)) ∧
    (∃ (s : State) (b : Bus) (l : Nat) (c : PatRun), s.takesWrite b (LAN_PAT_CTL l) = true ∧ (s.busP b).isIn 35 = true ∧ l < 512 ∧ mget s.lan.chk l
      = some c ∧ c.pat = s.fld (LAN_PAT_CTL_PAT l) ∧ c.lockAt ≤ s.now ∧ c.errs.length < 32 ∧ s.engineAccepted l = true ∧ s.parkedOfUp l = false ∧
      s.bit (LAN_PAT_CTL_GEN_EN l) = true ∧ s.bit (LAN_PAT_CTL_CHK_EN l) = true ∧ s.fld (LAN_PAT_CTL_LOOP l) = 1 ∧ 1 ≤ s.fld (LAN_PAT_CTL_PAT l) ∧
      s.fld (LAN_PAT_CTL_PAT l) ≤ 4 ∧ s.fld (LAN_PAT_CTL_INJ_RATE l) ≤ 20) ∧
    (∃ (s : State) (b : Bus) (l : Nat), s.takesWrite b (LAN_PAT_CTL l) = true ∧ (s.busP b).isIn 35 = true ∧ l < 512 ∧ (s.engineAccepted l = true ∨
      (s.bit (LAN_PAT_CTL_GEN_EN l) = false ∧ s.bit (LAN_PAT_CTL_CHK_EN l) = false ∧ s.fld (LAN_PAT_CTL_LOOP l) = 0)) ∧ s.parkedOfUp l = false ∧
      s.fld (LAN_PAT_CTL_PAT l) ≤ 4 ∧ s.fld (LAN_PAT_CTL_LOOP l) ≠ 3 ∧ s.fld (LAN_PAT_CTL_INJ_RATE l) ≤ 20) :=
    ⟨⟨W1, busT, 40, 65536, by decide +kernel⟩,
      ⟨W1.setBit (LAN_STAT_PARKED 0) true |> fun s => (List.range 16).foldl (fun s i => if i = 0 then s else s.setBit (LAN_STAT_PARKED (16 + i)) true) s,
        busT, 16, 65536, by decide +kernel⟩,
      ⟨W0, busT, 0, 0, by decide +kernel⟩,
      ⟨(W0.setBit (LAN_STAT_PARKED 40) true), busT, 40, 8, by decide +kernel⟩,
      ⟨W0, busT, 40, 8, by decide +kernel⟩,
      ⟨W0, busT, 0, 5, by decide +kernel⟩,
      ⟨{ ((((W0.setBit (LAN_STAT_PARKED 40) true).setBit (LAN_PAT_CTL_GEN_EN 40) true).setBit (LAN_PAT_CTL_CHK_EN 40) true).setFld (LAN_PAT_CTL_LOOP 40) 1).setFld (LAN_PAT_CTL_PAT 40) 1 with lan.chk := [(40, { pat := 1, lockAt := 0 })] },
        busT, 40, { pat := 1, lockAt := 0 }, by decide +kernel⟩,
      ⟨W0, busT, 0, by decide +kernel⟩⟩

/-- States and operands that meet the hypotheses of each clause of PortsAndIde. -/
theorem wit_PortsAndIde :
    (∃ (s : State) (rq : Rq) (p : Principal) (q : Nat), s.serves rq 0x0301 p = true ∧ q < 128 ∧ s.formed q = true ∧ s.linkUp q = false ∧ s.bit
      (PRT_LINK_CTL_LINK_DIS q) = false) ∧
    (∃ (s : State) (rq : Rq) (p : Principal) (q : Nat), s.serves rq 0x0301 p = true ∧ q < 128 ∧ s.formed q = true ∧ s.bit (PRT_LINK_CTL_LINK_DIS q)
      = true) ∧
    (∃ (s : State) (rq : Rq) (p : Principal) (q : Nat), s.serves rq 0x0301 p = true ∧ q < 128 ∧ s.formed q = true ∧ s.linkUp q = false) ∧
    (∃ (s : State) (rq : Rq) (p : Principal) (q : Nat) (a : Nat), s.serves rq 0x0301 p = true ∧ (128 ≤ q ∨ s.formed q = false ∨ 2 < a)) ∧
    (∃ (s : State) (p : Nat), p < 128 ∧ s.linkUp p = true ∧ s.role p ≠ 3) ∧
    (∃ (s : State) (p : Nat), p < 128 ∧ s.linkUp p = true ∧ s.role p ≠ 3) ∧
    (∃ (s : State) (p : Nat), (128 ≤ p ∨ s.linkUp p = false ∨ s.role p = 3)) ∧
    (∃ (s : State) (p : Nat), s.alone p ∧ p < 128 ∧ s.linkUp p = true ∧ s.bit (PRT_IDE_STAT_CM_SECURE p) = true) ∧
    (∃ (s : State) (p : Nat), (128 ≤ p ∨ s.linkUp p = false)) ∧
    (∃ (s : State) (rq : Rq) (p : Principal) (q : Nat), s.serves rq 0x0309 p = true ∧ q < 128 ∧ s.formed q = true ∧ (s.role q = 1 ∨ s.role q = 2) ∧
      s.linkUp q = true ∧ (s.px q).keys = true) ∧
    (∃ (s : State) (rq : Rq) (p : Principal) (q : Nat), s.serves rq 0x0309 p = true ∧ q < 128 ∧ s.formed q = true ∧ (s.role q = 1 ∨ s.role q = 2) ∧
      (s.linkUp q = false ∨ (s.px q).keys = false)) :=
    ⟨⟨W0, (rqT 1), .owner, 0, by decide +kernel⟩,
      ⟨W0.setBit (PRT_LINK_CTL_LINK_DIS 4) true, (rqT 1), .owner, 4, by decide +kernel⟩,
      ⟨W0, (rqT 1), .owner, 0, by decide +kernel⟩,
      ⟨W0, (rqT 1), .owner, 0, 3, by decide +kernel⟩,
      ⟨W1, 4, by decide +kernel⟩,
      ⟨W1, 4, by decide +kernel⟩,
      ⟨W0, 0, by decide +kernel⟩,
      ⟨W1.setBit (PRT_IDE_STAT_CM_SECURE 4) true, 4, by unfold State.alone; decide +kernel, by decide +kernel⟩,
      ⟨W0, 0, by decide +kernel⟩,
      ⟨{ W1 with prt.px := [(4, { keys := true })] }, (rqT 1), .owner, 4, by decide +kernel⟩,
      ⟨W1, (rqT 1), .owner, 4, by decide +kernel⟩⟩

/-- States and operands that meet the hypotheses of each clause of HostConfiguration. -/
theorem wit_HostConfiguration :
    (∃ (s : State) (fn : Nat) (msis : Nat) (writes : Nat) (reads : Nat), fn < 128 ∧ (s.mf fn).bme = true ∧ writes = 0 ∧ 1 ≤ msis + reads) ∧
    (∃ (s : State) (fn : Nat) (writes : Nat), fn < 128 ∧ (s.mf fn).bme = true ∧ 1 ≤ writes) ∧
    (∃ (s : State), (s.mf 128).bme = true) ∧
    (∃ (s : State) (fn : Nat), (128 < fn ∨ (s.mf fn).bme = false)) ∧
    (∃ (s : State) (fn : Nat), fn ≤ 128 ∧ (s.mf fn).bme = false ∧ s.targetUp fn = true) ∧
    (∃ (s : State) (fn : Nat), fn ≤ 128 ∧ (s.mf fn).bme = false ∧ s.targetUp fn = false) ∧
    (∃ (s : State) (fn : Nat), (128 < fn ∨ (s.mf fn).bme = true)) ∧
    (∃ (s : State) (fn : Nat), s.isHost fn = true) ∧
    (∃ (s : State) (fn : Nat) (v : Nat), s.isHost fn = true ∧ v < 64) ∧
    (∃ (s : State) (fn : Nat), s.isHost fn = true) ∧
    (∃ (s : State) (fn : Nat) (v : Nat) (q : Nat) (d : Nat) (x : Vdp), s.isHost fn = true ∧ v < 128 ∧ s.prt.vdp = [(fn * 128 + v, x)] ∧ x.hold =
      .phys q d ∧ q < 128) ∧
    (∃ (s : State) (fn : Nat) (v : Nat) (b : Nat) (x : Vdp), s.isHost fn = true ∧ v < 128 ∧ mget s.prt.vdp (fn * 128 + v) = some x ∧ x.hold = .vmd
      b) ∧
    (∃ (s : State) (fn : Nat), s.isHost fn = false ∧ fn ≠ 128) :=
    ⟨⟨{ W1 with evt.mf := [(0, { bme := true }), (128, { bme := true })] }, 0, 1, 0, 0, by decide +kernel⟩,
      ⟨{ W1 with evt.mf := [(0, { bme := true }), (128, { bme := true })] }, 0, 1, by decide +kernel⟩,
      ⟨{ W1 with evt.mf := [(0, { bme := true }), (128, { bme := true })] }, by decide +kernel⟩,
      ⟨W0, 0, by decide +kernel⟩,
      ⟨W1, 0, by decide +kernel⟩,
      ⟨W0, 0, by decide +kernel⟩,
      ⟨{ W1 with evt.mf := [(0, { bme := true }), (128, { bme := true })] }, 0, by decide +kernel⟩,
      ⟨W1, 0, by decide +kernel⟩,
      ⟨W1, 0, 0, by decide +kernel⟩,
      ⟨W1, 0, by decide +kernel⟩,
      ⟨{ W1 with prt.vdp := [(3, { hold := .phys 4 255 })] }, 0, 3, 4, 255, { hold := .phys 4 255 }, by decide +kernel⟩,
      ⟨{ W1 with prt.vdp := [(3, { hold := .vmd 1 })] }, 0, 3, 1, { hold := .vmd 1 }, by decide +kernel⟩,
      ⟨W0, 0, by decide +kernel⟩⟩

/-- States and operands that meet the hypotheses of each clause of PortOpcodes. -/
theorem wit_PortOpcodes :
    (∃ (s : State) (rq : Rq) (p : Principal) (h : Nat) (v : Nat) (q : Nat) (ld : Nat), s.serves rq 0x0303 p = true ∧ s.isHost h = true ∧ v < 128 ∧ q
      < 128 ∧ s.formed q = true ∧ s.role q = 2 ∧ s.isPool q = false ∧ (ld < 16 ∨ ld = 255) ∧ mget s.prt.vdp (h * 128 + v) = none ∧ s.devBound q ld =
      false ∧ s.vdpDue (h * 128 + v) q = false ∧ s.windowsOf q = []) ∧
    (∃ (s : State) (rq : Rq) (p : Principal) (h : Nat) (v : Nat) (q : Nat) (ld : Nat), s.serves rq 0x0303 p = true ∧ (s.isHost h = false ∨ 128 ≤ v ∨
      s.role q ≠ 2 ∨ s.isPool q = true ∨ (16 ≤ ld ∧ ld ≠ 255) ∨ mget s.prt.vdp (h * 128 + v) ≠ none ∨ s.devBound q ld = true)) ∧
    (∃ (s : State) (rq : Rq) (p : Principal) (h : Nat) (v : Nat) (f : Nat) (q : Nat) (d : Nat) (x : Vdp), s.serves rq 0x0304 p = true ∧ s.isHost h =
      true ∧ v < 128 ∧ f ≤ 1 ∧ mget s.prt.vdp (h * 128 + v) = some x ∧ x.hold = .phys q d ∧ s.vdpDue (h * 128 + v) 256 = false) ∧
    (∃ (s : State) (rq : Rq) (p : Principal) (h : Nat) (v : Nat) (b : Nat) (x : Vdp), s.serves rq 0x0304 p = true ∧ s.isHost h = true ∧ v < 128 ∧
      mget s.prt.vdp (h * 128 + v) = some x ∧ x.hold = .vmd b ∧ s.extents b ≠ []) ∧
    (∃ (s : State) (rq : Rq) (p : Principal) (h : Nat) (v : Nat), s.serves rq 0x0305 p = true ∧ s.isHost h = true ∧ v < 128) ∧
    (∃ (s : State) (rq : Rq) (p : Principal) (q : Nat), s.serves rq 0x0300 p = true ∧ q < 128) ∧
    (∃ (s : State) (rq : Rq) (p : Principal) (q : Nat), s.serves rq 0x0302 p = true ∧ q < 128 ∧ s.formed q = true ∧ s.role q ≠ 3 ∧ s.linkUp q =
      true) ∧
    (∃ (s : State) (rq : Rq) (p : Principal) (q : Nat), s.serves rq 0x0302 p = true ∧ q < 128 ∧ s.formed q = true ∧ s.role q ≠ 3 ∧ s.linkUp q =
      false) ∧
    (∃ (s : State) (rq : Rq) (p : Principal) (q : Nat) (ld : Nat), s.serves rq 0x0306 p = true ∧ q < 128 ∧ s.formed q = true ∧ s.role q ≠ 3 ∧
      s.linkUp q = true ∧ ld < 16) ∧
    (∃ (s : State) (rq : Rq) (p : Principal) (q : Nat) (ld : Nat), s.serves rq 0x0307 p = true ∧ q < 128 ∧ s.formed q = true ∧ s.role q ≠ 3 ∧
      s.linkUp q = true ∧ ld < 16) ∧
    (∃ (s : State) (rq : Rq) (p : Principal) (q : Nat) (ld : Nat), s.serves rq 0x0308 p = true ∧ q < 128 ∧ s.formed q = true ∧ s.role q ≠ 3 ∧
      s.linkUp q = true ∧ ld < 16) :=
    ⟨⟨W1, (rqT 1), .owner, 0, 3, 4, 255, by decide +kernel⟩,
      ⟨W0, (rqT 1), .owner, 0, 0, 0, 0, by decide +kernel⟩,
      ⟨{ W1 with prt.vdp := [(3, { hold := .phys 4 255 })] }, (rqT 1), .owner, 0, 3, 0, 4, 255, { hold := .phys 4 255 }, by decide +kernel⟩,
      ⟨{ W2 with prt.vdp := [(3, { hold := .vmd 1 })] }, (rqT 1), .owner, 0, 3, 1, { hold := .vmd 1 }, by decide +kernel⟩,
      ⟨W1, (rqT 1), .owner, 0, 0, by decide +kernel⟩,
      ⟨W0, (rqT 1), .owner, 0, by decide +kernel⟩,
      ⟨W1, (rqT 1), .owner, 4, by decide +kernel⟩,
      ⟨W0, (rqT 1), .owner, 0, by decide +kernel⟩,
      ⟨W1, (rqT 1), .owner, 4, 0, by decide +kernel⟩,
      ⟨W1, (rqT 1), .owner, 4, 0, by decide +kernel⟩,
      ⟨W1, (rqT 1), .owner, 4, 0, by decide +kernel⟩⟩

/-- States and operands that meet the hypotheses of each clause of SlotSupervision. -/
theorem wit_SlotSupervision :
    (∃ (s : State) (c : Nat), (32 ≤ c ∨ s.slotsRun = false)) ∧
    (∃ (s : State) (c : Nat) (vout : Nat) (l : Bool), c < 32 ∧ s.slotsRun = true ∧ s.chSt c = 1 ∧ s.bit (SLT_CH_STAT_PRESENT c) = true ∧ (l = true ∨
      (s.slot c).high < 3) ∧ s.fld (SLT_CH_STAT_FEED_ACT c) = 0 ∧ (s.slot c).sw = none ∧ (s.slot c).offWait = none ∧ (s.slot c).offCmd = none ∧ s.pg
      c = false ∧ vout ≤ 1000) ∧
    (∃ (s : State) (c : Nat) (vout : Nat), c < 32 ∧ s.slotsRun = true ∧ s.chSt c = 0 ∧ s.bit (SLT_CH_STAT_PRESENT c) = false ∧ (s.slot c).low = 999
      ∧ s.fld (SLT_CH_STAT_FEED_ACT c) = 0 ∧ (s.slot c).sw = none ∧ (s.slot c).offWait = none ∧ (s.slot c).offCmd = none ∧ s.pg c = false ∧ vout ≤
      1000 ∧ s.curBit (SLT_CH_CFG_AUTO_ON c) = false ∧ s.bit (SLT_CH_STAT_ENABLE c) = false ∧ s.bit (SLT_CH_STAT_LATCHED c) = false) ∧
    (∃ (s : State) (c : Nat), c < 32 ∧ s.slotsRun = true ∧ s.bit (SLT_CH_STAT_PRESENT c) = true ∧ 3 ≤ (s.slot c).high ∧ (s.slot c).offWait = none ∧
      (s.slot c).offCmd = none ∧ (s.slot c).onCmd = none ∧ s.pg c = false) ∧
    (∃ (s : State) (c : Nat), c < 32 ∧ (s.slot c).ins = some 0 ∧ s.chSt c ≠ 2) ∧
    (∃ (s : State) (c : Nat) (f : Nat), c < 32 ∧ (s.slot c).ins = some 0 ∧ s.chSt c = 2 ∧ (s.slot c).off = none ∧ s.bestFeed c = some f ∧ f ≤ 2) ∧
    (∃ (s : State) (c : Nat), (32 ≤ c ∨ (s.slot c).ins ≠ some 0)) ∧
    (∃ (s : State) (c : Nat) (f : Nat), c < 32 ∧ (s.slot c).off = some 0 ∧ s.chSt c = 2 ∧ (s.slot c).ins = none ∧ s.bestFeed c = some f ∧ f ≤ 2) ∧
    (∃ (s : State) (c : Nat), c < 32 ∧ (s.slot c).off = some 0 ∧ s.chSt c = 2 ∧ (s.slot c).ins = none ∧ s.bestFeed c = none) ∧
    (∃ (s : State) (c : Nat), (32 ≤ c ∨ (s.slot c).off ≠ some 0)) ∧
    (∃ (s : State) (c : Nat), c < 32 ∧ s.cur (SLT_CH_TIME_COOL c) * 1000000 ≤ (s.slot c).cool) ∧
    (∃ (s : State) (c : Nat), (32 ≤ c ∨ (s.slot c).cool < s.cur (SLT_CH_TIME_COOL c) * 1000000)) ∧
    (∃ (s : State) (c : Nat) (shunt : Nat), c < 32 ∧ s.fld (SLT_CH_STAT_FEED_ACT c) ≠ 0 ∧ s.cur (SLT_CH_BRK_I c 7) * s.cur (SLT_CH_SHUNT_RSHUNT c) <
      5 * shunt ∧ s.pg c = false) ∧
    (∃ (s : State) (c : Nat) (shunt : Nat), (32 ≤ c ∨ s.fld (SLT_CH_STAT_FEED_ACT c) = 0 ∨ 5 * shunt ≤ s.cur (SLT_CH_BRK_I c 7) * s.cur
      (SLT_CH_SHUNT_RSHUNT c))) :=
    ⟨⟨W0, 32, by decide +kernel⟩,
      ⟨(W0.setBit (SLT_CH_STAT_PRESENT 1) true).setFld (SLT_CH_STAT_STATE 1) 1, 1, 0, true, by decide +kernel⟩,
      ⟨{ W0 with slt := [(1, { low := 999 })] }, 1, 0, by decide +kernel⟩,
      ⟨{ (W0.setBit (SLT_CH_STAT_PRESENT 1) true) with slt := [(1, { high := 3 })] }, 1, by decide +kernel⟩,
      ⟨{ W0 with slt := [(1, { ins := some 0 })] }, 1, by decide +kernel⟩,
      ⟨{ ((W0.setFld (SLT_CH_STAT_STATE 1) 2).setBit (SLT_CH_CFG_FEED_A_EN 1) true) with slt := [(1, { ins := some 0, feedA := { inside := true } })] },
        1, 1, by decide +kernel⟩,
      ⟨W0, 0, by decide +kernel⟩,
      ⟨{ ((W0.setFld (SLT_CH_STAT_STATE 1) 2).setBit (SLT_CH_CFG_FEED_A_EN 1) true) with slt := [(1, { off := some 0, feedA := { inside := true } })] },
        1, 1, by decide +kernel⟩,
      ⟨{ ((W0.setFld (SLT_CH_STAT_STATE 1) 2).setBit (SLT_CH_CFG_FEED_A_EN 1) true) with slt := [(1, { off := some 0 })] }, 1, by decide +kernel⟩,
      ⟨W0, 0, by decide +kernel⟩,
      ⟨{ W0 with slt := [(1, { cool := 10000000000 })] }, 1, by decide +kernel⟩,
      ⟨W0, 0, by decide +kernel⟩,
      ⟨W0.setFld (SLT_CH_STAT_FEED_ACT 1) 1, 1, 1000000000, by decide +kernel⟩,
      ⟨W0, 0, 0, by decide +kernel⟩⟩

/-- States and operands that meet the hypotheses of each clause of SlotCommands. -/
theorem wit_SlotCommands :
    (∃ (s : State) (rq : Rq) (p : Principal) (c : Nat), s.serves rq 0x0900 p = true ∧ c < 32) ∧
    (∃ (s : State) (rq : Rq) (p : Principal) (c : Nat) (f : Nat), s.serves rq 0x0901 p = true ∧ s.onRefusal c f = none ∧ s.lcSlots ≠ [] ∧ s.pg c =
      false) ∧
    (∃ (s : State) (rq : Rq) (p : Principal) (c : Nat) (f : Nat) (r : Status), s.serves rq 0x0901 p = true ∧ s.onRefusal c f = some r) ∧
    (∃ (s : State) (rq : Rq) (p : Principal) (c : Nat), s.serves rq 0x0902 p = true ∧ s.offRefusal p c = none ∧ s.lcSlots ≠ [] ∧ (∀ q ∈ s.portsOf c,
      s.linkUp q = false) ∧ (s.slot c).onCmd = none) ∧
    (∃ (s : State) (rq : Rq) (p : Principal) (c : Nat) (r : Status), s.serves rq 0x0902 p = true ∧ s.offRefusal p c = some r) ∧
    (∃ (s : State) (rq : Rq) (p : Principal) (c : Nat), s.serves rq 0x0903 p = true ∧ s.clrRefusal c = none ∧ s.fld (SLT_CH_MEAS_VOUT c) < 1000) ∧
    (∃ (s : State) (rq : Rq) (p : Principal) (c : Nat) (r : Status), s.serves rq 0x0903 p = true ∧ s.clrRefusal c = some r) ∧
    (∃ (s : State) (b : Bus) (c : Nat), s.takesWrite b (SLT_CH_CTL c) = true ∧ (s.busP b).isOF = true ∧ c < 32 ∧ s.onRefusal c 0 = none ∧ s.pg c =
      false) ∧
    (∃ (s : State) (b : Bus) (c : Nat) (r : Status), s.takesWrite b (SLT_CH_CTL c) = true ∧ (s.busP b).isOF = true ∧ c < 32 ∧ s.onRefusal c 0 = some
      r) ∧
    (∃ (s : State) (b : Bus) (c : Nat), s.takesWrite b (SLT_CH_CTL c) = true ∧ (s.busP b).isOF = true ∧ c < 32 ∧ s.offRefusal (s.busP b) c = none ∧
      (∀ q ∈ s.portsOf c, s.linkUp q = false) ∧ (s.slot c).onCmd = none) ∧
    (∃ (s : State) (b : Bus) (c : Nat) (r : Status), s.takesWrite b (SLT_CH_CTL c) = true ∧ (s.busP b).isOF = true ∧ c < 32 ∧ s.offRefusal (s.busP
      b) c = some r) ∧
    (∃ (s : State) (b : Bus) (c : Nat), s.takesWrite b (SLT_CH_CTL c) = true ∧ (s.busP b).isOF = true ∧ c < 32 ∧ s.clrRefusal c = none ∧ s.fld
      (SLT_CH_MEAS_VOUT c) < 1000) ∧
    (∃ (s : State) (b : Bus) (c : Nat), s.takesWrite b (SLT_CH_CTL c) = true ∧ (s.busP b).isOF = true ∧ c < 32 ∧ s.slotBad c = false) ∧
    (∃ (s : State) (b : Bus) (c : Nat), s.takesWrite b (SLT_CH_CTL c) = true ∧ (s.busP b).isOF = true ∧ c < 32 ∧ s.slotBad c = true) :=
    ⟨⟨W0, (rqT 1), .owner, 0, by decide +kernel⟩,
      ⟨(W0.setBit (SLT_CH_STAT_PRESENT 1) true), (rqT 1), .owner, 1, 0, by decide +kernel⟩,
      ⟨W0, (rqT 1), .owner, 1, 0, .state, by decide +kernel⟩,
      ⟨W0, (rqT 1), .owner, 1, by decide +kernel⟩,
      ⟨W0, (rqT 1), .owner, 32, .parameter, by decide +kernel⟩,
      ⟨W0, (rqT 1), .owner, 1, by decide +kernel⟩,
      ⟨W0, (rqT 1), .owner, 32, .parameter, by decide +kernel⟩,
      ⟨(W0.setBit (SLT_CH_STAT_PRESENT 1) true), busT, 1, by decide +kernel⟩,
      ⟨W0, busT, 1, .state, by decide +kernel⟩,
      ⟨W0, busT, 1, by decide +kernel⟩,
      ⟨{ W0 with slt := [(1, { offCmd := some none })] }, busT, 1, .busy, by decide +kernel⟩,
      ⟨W0, busT, 1, by decide +kernel⟩,
      ⟨W0, busT, 1, by decide +kernel⟩,
      ⟨W0.setFld (SLT_CH_SHUNT_RSHUNT 1) 0, busT, 1, by decide +kernel⟩⟩

/-- States and operands that meet the hypotheses of each clause of TwilightAndRepair. -/
theorem wit_TwilightAndRepair :
    (∃ (s : State) (m : Nat) (r : Nat) (w : Nat), s.twl.corrected = [(m, r, w)] ∧ (m, r) ∉ s.twl.rows ∧ m ∉ s.twl.exhausted) ∧
    (∃ (s : State) (m : Nat) (r : Nat), (m, r) ∈ s.twl.rows ∧ s.inHold = false ∧ m ∉ s.twl.exhausted) ∧
    (∃ (s : State) (m : Nat) (r : Nat), ((m, r) ∉ s.twl.rows ∨ s.inHold = true ∨ m ∈ s.twl.exhausted)) ∧
    (∃ (s : State) (k : Nat), k ≤ 1 ∧ s.fld TWL_RSV_STATE0 = 0 ∧ s.fld TWL_RSV_STATE1 = 0) ∧
    (∃ (s : State) (k : Nat), (1 < k ∨ s.fld TWL_RSV_STATE0 ≠ 0 ∨ s.fld TWL_RSV_STATE1 ≠ 0)) ∧
    (∃ (s : State) (k : Nat), k ≤ 1 ∧ s.fld (rsvState k) = 2) ∧
    (∃ (s : State) (k : Nat), (1 < k ∨ s.fld (rsvState k) ≠ 2)) ∧
    (∃ (s : State) (ok : Bool), (s.twl.pages.filter (fun x => decide (s.now < x + 1000000000))).length < 16 ∧ (ok = true ∨ s.twl.spares = 0)) ∧
    (∃ (s : State), (s.twl.pages.filter (fun x => decide (s.now < x + 1000000000))).length < 16 ∧ 1 ≤ s.twl.spares) ∧
    (∃ (s : State), 16 ≤ (s.twl.pages.filter (fun x => decide (s.now < x + 1000000000))).length) ∧
    (∃ (s : State) (rq : Rq) (p : Principal) (cls : Nat) (i : Nat) (r : Margin), s.serves rq 0x0C00 p = true ∧ cls ≤ 5 ∧ i < sensorCount cls ∧
      (s.sensor (sensorKey cls i)).recs.getLast? = some r) ∧
    (∃ (s : State) (rq : Rq) (p : Principal) (cls : Nat) (i : Nat) (n : Nat), s.serves rq 0x0C00 p = true ∧ (5 < cls ∨ sensorCount cls < i + n)) ∧
    (∃ (s : State) (rq : Rq) (p : Principal), s.serves rq 0x0C01 p = true) ∧
    (∃ (s : State) (b : Bus) (w : Word) (c : Fcst), s.takesWrite b TWL_FC = true ∧ (s.busP b).isOF = true ∧ s.twl.fc = [c] ∧ getBits w 8 6 = 0) ∧
    (∃ (s : State) (b : Bus) (p : Nat), s.takesWrite b (TWL_PCAP p) = true ∧ (s.busP b).isOF = true ∧ p < 128 ∧ s.linkUp p = false) :=
    ⟨⟨{ W0 with twl.corrected := [(1, 2, 3)] }, 1, 2, 3, by decide +kernel⟩,
      ⟨{ W0 with twl.rows := [(1, 2)] }, 1, 2, by decide +kernel⟩,
      ⟨W0, 0, 0, by decide +kernel⟩,
      ⟨W0, 0, by decide +kernel⟩,
      ⟨W0, 2, by decide +kernel⟩,
      ⟨W0.setFld TWL_RSV_STATE0 2, 0, by decide +kernel⟩,
      ⟨W0, 0, by decide +kernel⟩,
      ⟨W0, true, by decide +kernel⟩,
      ⟨W0, by decide +kernel⟩,
      ⟨{ W0 with twl.pages := List.replicate 16 0 }, by decide +kernel⟩,
      ⟨{ W0 with twl.sens := [(sensorKey 0 0, { recs := [margT] })] }, (rqT 1), .owner, 0, 0, margT, by decide +kernel⟩,
      ⟨W0, (rqT 1), .owner, 6, 0, 0, by decide +kernel⟩,
      ⟨W0, (rqT 1), .owner, by decide +kernel⟩,
      ⟨{ W0 with twl.fc := [fcstT] }, busT, 0, fcstT, by decide +kernel⟩,
      ⟨W0, busT, 0, by decide +kernel⟩⟩

/-- States and operands that meet the hypotheses of each clause of FirmwareAndPersonality. -/
theorem wit_FirmwareAndPersonality :
    (∃ (s : State) (rq : Rq) (p : Principal) (n : Nat) (z : Nat), s.serves rq 0x0D00 p = true ∧ s.fwWho p rq.route = true ∧ n ≤ 1 ∧ z ≤ 4091 ∧
      (s.noImage = true ∨ n ≠ s.ident.runBank)) ∧
    (∃ (s : State) (rq : Rq) (p : Principal) (n : Nat) (z : Nat), s.serves rq 0x0D00 p = true ∧ s.fwWho p rq.route = true ∧ n ≤ 1 ∧ z ≤ 4091 ∧
      s.noImage = false ∧ n = s.ident.runBank) ∧
    (∃ (s : State) (rq : Rq) (p : Principal) (n : Nat), s.serves rq 0x0D01 p = true ∧ s.fwWho p rq.route = true ∧ n ≤ 1 ∧ s.md.mode ≠ .standby ∧
      s.md.mode ≠ .quarantine ∧ s.bit GLB_DEG_STANDBY_PAIR = false ∧ s.twl.act = none ∧ s.flt.takeDue = false ∧ s.lcSlots ≠ []) ∧
    (∃ (s : State) (rq : Rq) (p : Principal) (n : Nat), s.serves rq 0x0D01 p = true ∧ s.fwWho p rq.route = true ∧ n ≤ 1 ∧ s.bit GLB_DEG_STANDBY_PAIR
      = true) ∧
    (∃ (s : State) (a : Activ), s.twl.act = some a ∧ a.due = none ∧ s.imageValid (s.bankImage a.bank) = true) ∧
    (∃ (s : State) (a : Activ), s.twl.act = some a ∧ a.due = none ∧ s.imageValid (s.bankImage a.bank) = false) ∧
    (∃ (s : State), (s.twl.act = none ∨ ∃ a, s.twl.act = some a ∧ a.due ≠ none)) ∧
    (∃ (s : State), (s.bit TWL_FW_REJOIN = true ∨ s.bit GLB_DEG_STANDBY_PAIR = true)) ∧
    (∃ (s : State), s.bit TWL_FW_REJOIN = false ∧ s.bit GLB_DEG_STANDBY_PAIR = false) ∧
    (∃ (s : State) (rq : Rq) (p : Principal) (f : Nat), (p = .vendor → s.ident.life = .blank) ∧ s.serves rq 0x0D02 p = true ∧ f ≤ 64 ∧ f ≤
      s.ident.runSvn ∧ (s.imageValid (s.bankImage (1 - s.ident.runBank)) = true → f ≤ (s.bankImage (1 - s.ident.runBank)).svn)) ∧
    (∃ (s : State) (rq : Rq) (p : Principal) (f : Nat), (p = .vendor → s.ident.life = .blank) ∧ s.serves rq 0x0D02 p = true ∧ (64 < f ∨
      s.ident.runSvn < f)) ∧
    (∃ (s : State) (rq : Rq) (p : Principal) (c : PersCfg), s.serves rq 0x0D03 p = true ∧ s.persRefusal c = none ∧ s.lcSlots ≠ [] ∧ s.md.mode =
      .provisioning) ∧
    (∃ (s : State) (rq : Rq) (p : Principal) (c : PersCfg), s.serves rq 0x0D03 p = true ∧ s.persRefusal c = none ∧ s.lcSlots ≠ [] ∧ s.md.mode =
      .service) ∧
    (∃ (s : State) (rq : Rq) (p : Principal) (c : PersCfg) (e : Status), s.serves rq 0x0D03 p = true ∧ s.persRefusal c = some e) :=
    ⟨⟨{ W0 with ident.runDigest := 9, ident.runSvn := 4, ident.bank0 := { sigOk := true, cosigned := true, svn := 4 }, ident.bank1 := { sigOk := true, cosigned := true, svn := 4 } },
        (rqT 1), .owner, 1, 0, by decide +kernel⟩,
      ⟨{ W0 with ident.runDigest := 9, ident.runSvn := 4, ident.bank0 := { sigOk := true, cosigned := true, svn := 4 }, ident.bank1 := { sigOk := true, cosigned := true, svn := 4 } },
        (rqT 1), .owner, 0, 0, by decide +kernel⟩,
      ⟨W0, (rqT 1), .owner, 0, by decide +kernel⟩,
      ⟨W0.setBit GLB_DEG_STANDBY_PAIR true, (rqT 1), .owner, 0, by decide +kernel⟩,
      ⟨{ ({ W0 with ident.runDigest := 9, ident.runSvn := 4, ident.bank0 := { sigOk := true, cosigned := true, svn := 4 }, ident.bank1 := { sigOk := true, cosigned := true, svn := 4 } } : State) with twl.act := some actT },
        actT, by decide +kernel⟩,
      ⟨{ W0 with twl.act := some actT }, actT, by decide +kernel⟩,
      ⟨W0, by decide +kernel⟩,
      ⟨W0.setBit TWL_FW_REJOIN true, by decide +kernel⟩,
      ⟨W0, by decide +kernel⟩,
      ⟨{ W0 with ident.runDigest := 9, ident.runSvn := 4, ident.bank0 := { sigOk := true, cosigned := true, svn := 4 }, ident.bank1 := { sigOk := true, cosigned := true, svn := 4 } },
        (rqT 1), .owner, 3, by first | (intro h; cases h; done) | exact fun _ => by decide +kernel, by decide +kernel⟩,
      ⟨{ W0 with ident.runDigest := 9, ident.runSvn := 4, ident.bank0 := { sigOk := true, cosigned := true, svn := 4 }, ident.bank1 := { sigOk := true, cosigned := true, svn := 4 } },
        (rqT 1), .owner, 65, by first | (intro h; cases h; done) | exact fun _ => by decide +kernel, by decide +kernel⟩,
      ⟨{ W0 with md.mode := .provisioning }, (rqT 1), .owner, { persT with type := 16 }, by decide +kernel⟩,
      ⟨W0, (rqT 1), .owner, { persT with type := 16 }, by decide +kernel⟩,
      ⟨W0, (rqT 1), .owner, persT, .parameter, by decide +kernel⟩⟩

end Sys2Proof.Tests
end

section
/-! Proofs of the family 00_scope: what reset leaves (O2), and the FRAME of the reply to REGISTER_WRITE, on which O21 fails. -/
namespace Sys2Proof.Machine
open Sys2Proof

/-- At reset no register has been written: a field reads the bits of its register's reset word (R9). -/
theorem State.reset_fld (f : Fld) : State.reset.fld f = getBits (BitVec.ofNat 32 f.rst) f.lsb f.width := rfl

theorem State.reset_fld_eq_zero (f : Fld) (h : f.rst = 0) : State.reset.fld f = 0 := by
  rw [State.reset_fld, h]
  simp [getBits]

theorem State.reset_bit_eq_false (f : Fld) (h : f.rst = 0) : State.reset.bit f = false := by
  unfold State.bit
  rw [State.reset_fld_eq_zero f h]
  rfl

theorem State.reset_clockOk : ClockOk State.reset.time := by
  unfold ClockOk
  decide

/-- Settles O2: each part of the state has the value `State.reset` writes out, and a register field, which nothing has written
yet, reads from the reset word of its register (R9). -/
theorem resetState : Obligations.ResetState := by
  unfold Obligations.ResetState
  refine ⟨rfl, rfl, rfl, State.reset_clockOk, rfl, rfl, rfl, rfl, rfl, rfl, Memory.wf_reset, ?ready, fun _ => ⟨rfl, rfl⟩, fun _ => rfl,
    ?links, ?isls, rfl, ?hostSlots, ?powerGood, ?fields⟩
  case ready => exact State.reset_bit_eq_false MBX_STAT_READY rfl
  case links => exact fun p _ => State.reset_bit_eq_false (PRT_LINK_STAT_UP p) rfl
  case isls => exact fun i _ => State.reset_fld_eq_zero (ISL_STAT_STATE i) rfl
  case hostSlots => exact fun k _ => State.reset_fld_eq_zero (HOM_HOST_STAT_STATE k) rfl
  case powerGood => exact fun c _ => State.reset_bit_eq_false (SLT_CH_STAT_PG c) rfl
  case fields =>
    simp only [State.reset_fld]
    decide

/-! ### REGISTER_WRITE of words that submit something for a Daybreak -/

/-- The answer to a write of words of which the last accepted effect is `d` names the frame of that effect (R306). -/
theorem State.regWriteBody_names_effect {s u : State} {rq : Rq} {p : Principal} {a : Nat} {ws : List Word} {d : Due} (h1 : 1 ≤ ws.length)
    (h2 : ws.length ≤ 1022) (hw : s.opWrite (opAcc p rq.sess) a ws = (none, u)) (ha : s.armRefusal rq a ws p = none)
    (hd : (u.due.drop s.due.length).getLast? = some d) :
    s.regWriteBody rq a ws.length ws p = (u.nameIssuer s.due.length (rqRef rq 0x0111)).okAt d.eff := by
  have h0 : ¬ (ws.length = 0 ∨ ws.length ≠ ws.length) := by omega
  unfold State.regWriteBody
  simp only [if_neg h0, if_neg (Nat.not_lt.2 h2), hw, ha, hd]

/-- A served REGISTER_WRITE of which the last accepted effect is `d` answers success, and its FRAME is the frame of that effect (R306). -/
theorem exec_registerWriteOpcode_names_effect {s u : State} {rq : Rq} {p : Principal} {a : Nat} {ws : List Word} {d : Due}
    (hs : s.serves rq 0x0111 p = true) (h1 : 1 ≤ ws.length) (h2 : ws.length ≤ 1022) (hh : s.inHold = false)
    (hw : (s.entered rq).opWrite (opAcc p rq.sess) a ws = (none, u)) (ha : (s.entered rq).armRefusal rq a ws p = none)
    (hd : (u.due.drop s.due.length).getLast? = some d) :
    ∃ t, exec (.registerWriteOpcode rq a ws.length ws) s = .next t ∧ t.replied rq 0x0111 .success d.eff [] := by
  rw [State.entered_eq] at hw ha
  have hbody := State.regWriteBody_names_effect h1 h2 hw ha hd
  refine ⟨_, done_serves hs _ _ ((u.nameIssuer s.due.length (rqRef rq 0x0111)).okAt d.eff) ?_ rfl, rfl⟩
  exact (if_neg (fun h => Bool.noConfusion (hh.symm.trans h.1))).trans hbody

/-! ### A write of a route, which takes effect at the next Daybreak (R384) -/

/-- A host session of the owner on route 128 whose first request carries sequence number 5. -/
def ownerSession : Session :=
  { kind := .host, route := 128, eid := 0, prin := .owner, spdm := 0, key := 0, firstSeq := 5, last := none, stored := none, fails := 0 }

/-- The block in Standby just after its interpreter has become ready, with the owner's session open. -/
def ownerAtBoot : State :=
  State.setBit { State.reset with md.boot := .up, mbx.sess := [(1, ownerSession)] } MBX_STAT_READY true

/-- The first request of that session. -/
def ownerFirstRq : Rq :=
  { route := 128, eid := 0, version := 1, sess := 1, seq := 5, tag := 9, plen := 0, auth := false, body := 0, mac := 0, group := false,
    carrier := 128 }

/-- The reset word of a route with its target changed from 128 to 129. -/
def routeTo129 : Word := 0x1000481#32

/-- The state that the write of the route of shared source 0 leaves, before it is answered. -/
def routeWritten : State := ((ownerAtBoot.entered ownerFirstRq).opWrite (opAcc .owner 1) (EVT_SH_ROUTE 0) [routeTo129]).2

theorem ownerAtBoot_serves_write : ownerAtBoot.serves ownerFirstRq 0x0111 .owner = true := by decide +kernel

/-- The word is written: nothing turns it away. -/
theorem opWrite_routeTo129 :
    (ownerAtBoot.entered ownerFirstRq).opWrite (opAcc .owner 1) (EVT_SH_ROUTE 0) [routeTo129] = (none, routeWritten) := by
  decide +kernel

/-- The write has submitted the route for frame 1. -/
theorem routeWritten_due : routeWritten.due =
    [{ eff := 1, named := false, group := false, frozen := true, handle := none, ref := none, act := .route 0 routeTo129 }] := by
  decide +kernel

theorem routeWritten_frame : routeWritten.time.frame = 0 := by decide +kernel

/-- Refutes O21, by its second clause: it has every REGISTER_WRITE answered with the frame in force, and for a word that submits something for a
Daybreak the reply names that Daybreak's frame (R306). In frame 0 the owner's write of EVT_SH_ROUTE of source 0 is answered with FRAME 1. -/
theorem not_registerAccess : ¬ Obligations.RegisterAccess := by
  unfold Obligations.RegisterAccess
  rintro ⟨-, hwrite, -⟩
  obtain ⟨t, ht, hpresent, -⟩ := hwrite ownerAtBoot ownerFirstRq .owner (EVT_SH_ROUTE 0) [routeTo129] routeWritten ownerAtBoot_serves_write
    (by decide) (by decide) rfl opWrite_routeTo129
  obtain ⟨t', ht', hdaybreak⟩ := exec_registerWriteOpcode_names_effect ownerAtBoot_serves_write (by decide) (by decide) rfl opWrite_routeTo129
    rfl (by rw [routeWritten_due]; rfl)
  have heq : t = t' := Host.Outcome.next.inj (ht.symm.trans ht')
  have hframes := (heq ▸ hpresent).symm.trans hdaybreak
  simp [routeWritten_frame] at hframes

end Sys2Proof.Machine
end

section
/-! Proofs of the family 01_architecture: accesses to addresses at which no register lies (O5), PORT_CONTROL on the port of an inter-switch link,
on which O54 fails, and LINK_DIS on a port with a message on its wire, on which O49 fails. -/
namespace Sys2Proof.Machine
open Sys2Proof

/-! ### Accesses to addresses at which no register lies (R29) -/

theorem State.wordRefusal_of_not_defines {s : State} {a : Nat} (h : s.defines a = false) (x : RegAcc) (write : Bool) :
    s.wordRefusal x write a = some .permission := by
  unfold State.defines at h
  unfold State.wordRefusal
  cases hreg : lookupReg a with
  | none => rfl
  | some e =>
    rw [hreg] at h
    exact if_pos (congrArg not h)

/-- An access to one word at which no register lies is counted as refused, and nothing else comes of it (R8, R29). -/
theorem State.regCheck_of_not_defines {s : State} {a : Nat} (h : s.defines a = false) (x : RegAcc) (write : Bool) :
    s.regCheck x write a 1 = (some .permission, s.countRefused) := by
  unfold State.regCheck State.runRefusal
  rw [State.wordRefusal_of_not_defines h]

theorem State.busRead_of_not_defines {s : State} {b : Bus} {a : Nat} (hup : s.md.boot = .up) (hnow : s.busWaits a = false)
    (h : s.defines a = false) (i : Instr) : s.busRead i b a = s.countRefused.emit (.busData b.fn a 0) := by
  unfold State.busRead
  simp [hup, hnow, State.regCheck_of_not_defines h]

/-- A write that lacks byte enables is counted as refused too (R4), so the two refusals leave the same state. -/
theorem State.busWrite_of_not_defines {s : State} {b : Bus} {a : Nat} (hup : s.md.boot = .up) (hnow : s.busWaits a = false)
    (h : s.defines a = false) (i : Instr) (w : Word) : s.busWrite i b a w = s.countRefused := by
  unfold State.busWrite
  simp [hup, hnow, State.regCheck_of_not_defines h]

theorem State.regReadBody_of_not_defines (s : State) {a : Nat} (h : s.defines a = false) (rq : Rq) (p : Principal) :
    s.regReadBody rq a 1 p = s.countRefused.refuse .permission := by
  unfold State.regReadBody State.opRead
  simp [State.regCheck_of_not_defines h]

theorem State.regWriteBody_of_not_defines (s : State) {a : Nat} (h : s.defines a = false) (rq : Rq) (w : Word) (p : Principal) :
    s.regWriteBody rq a 1 [w] p = s.countRefused.refuse .permission := by
  unfold State.regWriteBody State.opWrite
  simp [State.regCheck_of_not_defines h]

/-- A served request whose body counts one refused access and answers permission does nothing else. -/
theorem done_refused_access {s : State} {rq : Rq} {op : Nat} {p : Principal} (hs : s.serves rq op p = true) (i : Instr)
    (body : Principal → State → Ans)
    (hbody : body p { s with mbx.sess := (s.entered rq).mbx.sess } =
      State.refuse { s with mbx.sess := (s.entered rq).mbx.sess, refused := s.refused + 1 } .permission) :
    ∃ t, s.done (xib op rq i s body) = .next t ∧ t.replied rq op .permission s.time.frame [] ∧
      t = { s with out := t.out, mbx.sess := t.mbx.sess, refused := s.refused + 1 } :=
  ⟨_, done_serves hs i body _ hbody rfl, rfl, rfl⟩

/-- Settles O5: no register is found at the address, or its port is not formed, so the check of the access turns it away before the word is read or
written, whether it comes through a BAR or by opcode. -/
theorem undefinedAddresses : Obligations.UndefinedAddresses := by
  unfold Obligations.UndefinedAddresses
  refine ⟨?barRead, ?barWrite, ?opcodeRead, ?opcodeWrite⟩
  case barRead =>
    intro s b a hup hnow h
    exact congrArg s.done (State.busRead_of_not_defines hup hnow h _)
  case barWrite =>
    intro s b a w hup hnow h
    exact congrArg s.done (State.busWrite_of_not_defines hup hnow h _ w)
  case opcodeRead =>
    intro s rq p a hs hhold h
    refine done_refused_access hs _ _ ?_
    refine (if_neg (fun hw => Bool.noConfusion (hhold.symm.trans hw.1))).trans ?_
    exact State.regReadBody_of_not_defines { s with mbx.sess := (s.entered rq).mbx.sess } h rq p
  case opcodeWrite =>
    intro s rq p a w hs hhold h
    refine done_refused_access hs _ _ ?_
    refine (if_neg (fun hw => Bool.noConfusion (hhold.symm.trans hw.1))).trans ?_
    exact State.regWriteBody_of_not_defines { s with mbx.sess := (s.entered rq).mbx.sess } h rq w p

/-! ### PORT_CONTROL on the port of an inter-switch link (R112) -/

@[simp] theorem State.islUnknown_isl (s : State) (i : Nat) : (s.islUnknown i).isl = s.isl := by
  unfold State.islUnknown
  exact List.foldlRecOn (motive := fun t : State => t.isl = s.isl) _ _ rfl (fun _ ht _ _ => ht)

/-- An inter-switch link that is declared down starts its record afresh at the present time (R112). -/
theorem State.islDown_isl {s : State} {i : Nat} (h : s.islSt i ≠ 0) : (s.islDown i).isl = mputD s.isl i {} { downAt := s.now } := by
  unfold State.islDown
  -- Rewriting by name: `simp` would close these steps by `rfl`, which has the kernel compare the nested states.
  rw [if_neg h, State.raiseShared_isl]
  iterate 3 rw [State.setFld_isl]
  rw [State.setBit_isl, State.setFld_isl, State.setBit_isl, State.setBit_isl, State.setFld_isl, State.setFld_isl, State.inc_isl]
  rw [State.setBit_isl, State.setBit_isl, State.setBit_isl, State.setFld_isl, State.islUnknown_isl]
  rfl

theorem State.declareDown_of_not_linkUp {s : State} {p : Nat} (h : s.linkUp p = false) : s.declareDown p = s := by
  unfold State.declareDown
  simp [h]

theorem State.refreshPerst_isl (s : State) (g : Nat) : (s.refreshPerst g).isl = s.isl := by
  unfold State.refreshPerst
  dsimp only
  split_ifs <;> rfl

/-- Setting LINK_DIS of an inter-switch link's port takes the link down in whatever state it is, be its port up or not (R112). -/
theorem State.linkDisabled_isl (s : State) {p i : Nat} (hdis : s.bit (PRT_LINK_CTL_LINK_DIS p) = true) (hdown : s.linkUp p = false)
    (hisl : s.islOf p = some i) (hst : s.islSt i ≠ 0) :
    (s.linkDisabled p false).isl = mputD s.isl i {} { downAt := s.now } := by
  unfold State.linkDisabled
  simp [hdis, State.disableLink, hisl, State.declareDown_of_not_linkUp hdown, State.refreshPerst_isl, State.islDown_isl hst]

theorem portControl_disable (s : State) {q : Nat} (hq : q < 128) (hformed : s.formed q = true) (hdis : s.bit (PRT_LINK_CTL_LINK_DIS q) = false)
    (p : Principal) : portControl q 1 p s = ((s.setBit (PRT_LINK_CTL_LINK_DIS q) true).linkDisabled q false).okNow := by
  have hnot : ¬ (128 ≤ q ∨ (! s.formed q) = true ∨ 2 < 1) := by simp [hformed, hq]
  unfold portControl
  rw [if_neg hnot, if_neg (by decide), hdis]
  rfl

/-- PORT_CONTROL that disables the port of an inter-switch link answers a state in which the link's record has started afresh, whatever the link's
state was and though the port was not up (R112). -/
theorem exec_portControl_disable_isl {s : State} {rq : Rq} {p : Principal} {q i : Nat} (hs : s.serves rq 0x0301 p = true) (hq : q < 128)
    (hformed : s.formed q = true) (hdown : s.linkUp q = false) (hdis : s.bit (PRT_LINK_CTL_LINK_DIS q) = false) (hisl : s.islOf q = some i)
    (hst : (s.setBit (PRT_LINK_CTL_LINK_DIS q) true).islSt i ≠ 0) :
    ∃ t, exec (.portControl rq q 1) s = .next t ∧ t.isl = mputD s.isl i {} { downAt := s.now } := by
  have hset : (s.setBit (PRT_LINK_CTL_LINK_DIS q) true).bit (PRT_LINK_CTL_LINK_DIS q) = true :=
    State.bit_setBit_same s _ true (by simp [PRT_LINK_CTL_LINK_DIS]) rfl
  have hdown' : (s.setBit (PRT_LINK_CTL_LINK_DIS q) true).linkUp q = false := by
    unfold State.linkUp at hdown ⊢
    rw [State.bit_setBit_addr _ _ _ _ (by simp [PRT_LINK_CTL_LINK_DIS, PRT_LINK_STAT_UP, PRT_LINK_CTL, PRT_LINK_STAT]), hdown]
  refine ⟨_, done_serves hs (.portControl rq q 1) (portControl q 1) _
    (portControl_disable { s with mbx.sess := (s.entered rq).mbx.sess } hq hformed hdis p) rfl, ?_⟩
  exact State.linkDisabled_isl (State.setBit { s with mbx.sess := (s.entered rq).mbx.sess } (PRT_LINK_CTL_LINK_DIS q) true) hset hdown' hisl hst

/-- Port 12 carries inter-switch link 0, which is training; five ticks have passed. -/
def islTraining : State :=
  let s := State.setCur { ownerAtBoot with md.mode := .service, time.tick := 5 } (PRT_CFG_ROLE 12) 3
  ((s.setCur (ISL_CFG_PORT 0) 12).setCur (ISL_CFG_EN 0) 1).setFld (ISL_STAT_STATE 0) 1

theorem islTraining_serves_portControl : islTraining.serves ownerFirstRq 0x0301 .owner = true := by decide +kernel

theorem islTraining_port : islTraining.formed 12 = true ∧ islTraining.linkUp 12 = false ∧ islTraining.bit (PRT_LINK_CTL_LINK_DIS 12) = false ∧
    islTraining.islOf 12 = some 0 ∧ (islTraining.setBit (PRT_LINK_CTL_LINK_DIS 12) true).islSt 0 ≠ 0 := by decide +kernel

/-- Refutes O54, by its first clause: it has PORT_CONTROL's disable of a port that is not up change registers, PERST_N outputs and the reply alone,
and an inter-switch link that is still training on the port goes down with it (R112), which changes the link's own record. -/
theorem not_portsAndIde : ¬ Obligations.PortsAndIde := by
  unfold Obligations.PortsAndIde
  rintro ⟨hdisable, -⟩
  obtain ⟨hformed, hdown, hdis, hisl, hst⟩ := islTraining_port
  obtain ⟨t, ht, -, -, hframe⟩ := hdisable islTraining ownerFirstRq .owner 12 islTraining_serves_portControl (by decide) hformed hdown hdis
  obtain ⟨u, hu, hrecord⟩ := exec_portControl_disable_isl islTraining_serves_portControl (by decide) hformed hdown hdis hisl hst
  have hsame : t.isl = islTraining.isl := by rw [hframe]
  rw [Host.Outcome.next.inj (ht.symm.trans hu), hrecord] at hsame
  exact absurd hsame (by decide +kernel)

/-! ### LINK_DIS on a port with a message on its wire -/

theorem regs_of_done {s u t : State} (h : s.done u = .next t) : t.regs = u.regs := by
  rw [← Host.Outcome.next.inj h]
  rfl

/-- The number of a target that does not exist. -/
def strayTarget : Nat := 0xF3F80

/-- The messages discarded for that target are counted where port 4 counts how often its link went down. -/
theorem strayTarget_discarded : XBR_PFLUSH_DISCARDED strayTarget = PRT_LINK_STAT_DOWN_CNT 4 := rfl

/-- The owner at the management endpoint's BAR; port 4 is a downstream port that is up, with nothing queued for it and one completion for
`strayTarget` on its wire. -/
def strayInFlight : State :=
  let s := State.setCur { ownerAtBoot with
    md.mode := .service,
    mbx.attach := [{ source := 0, route := 128, eid := 0, sess := 1 }],
    xbr.inflight := [(4, { src := 0, dst := strayTarget, kind := .ioCpl })] } (PRT_CFG_ROLE 4) 2
  s.setBit (PRT_LINK_STAT_UP 4) true

/-- A word access through the BAR of the management endpoint. -/
def endpointBus : Bus := { fn := 128, be := 15 }

theorem strayInFlight_takesWrite :
    strayInFlight.takesWrite endpointBus (PRT_LINK_CTL 4) = true ∧ (strayInFlight.busP endpointBus).isOF = true := by decide +kernel

theorem strayInFlight_port : strayInFlight.bit (PRT_LINK_CTL_LINK_DIS 4) = false ∧ strayInFlight.linkUp 4 = true := by decide +kernel

theorem strayInFlight_alone : strayInFlight.alone 4 := by
  unfold State.alone
  decide +kernel

/-- A write that sets LINK_DIS: MAX_RATE stays at its reset value. -/
def linkDisWord : Word := 0x206#32

theorem linkDisWord_bits : getBit linkDisWord 9 = true ∧ getBit linkDisWord 8 = false := by decide +kernel

/-- The state that the write leaves. -/
def strayDiscarded : State := strayInFlight.writeWord (strayInFlight.busAcc endpointBus) (PRT_LINK_CTL 4) linkDisWord

theorem exec_linkDisableWrite_strayInFlight :
    exec (.linkDisableWrite endpointBus 4 linkDisWord) strayInFlight = strayInFlight.done strayDiscarded :=
  congrArg strayInFlight.done (busWrite_takes strayInFlight_takesWrite.1 _ _)

/-- Two events reach that count: the link goes down, and the completion on its wire is discarded (R134). -/
theorem strayDiscarded_down_count : strayDiscarded.fld (PRT_LINK_STAT_DOWN_CNT 4) = 2 := by
  rw [← strayTarget_discarded]
  decide +kernel

theorem strayInFlight_oneMore : strayInFlight.oneMore (PRT_LINK_STAT_DOWN_CNT 4) = 1 := by decide +kernel

/-- Refutes O49, by its ninth clause: it has DOWN_CNT rise by one as LINK_DIS takes down the link of a port on which nothing hangs. `State.alone` says
that the queues are empty and leaves open what is on the port's wire (`xbr.inflight`), and no hypothesis bounds that message's target. The message
discarded with the link is counted for its target, and with `strayTarget` as the target DOWN_CNT of port 4 goes from 0 to 2. -/
theorem not_linkTraining : ¬ Obligations.LinkTraining := by
  unfold Obligations.LinkTraining
  rintro ⟨-, -, -, -, -, -, -, -, hdisable, -⟩
  obtain ⟨htakes, howner⟩ := strayInFlight_takesWrite
  obtain ⟨hdis, hup⟩ := strayInFlight_port
  obtain ⟨hset, hnoRetrain⟩ := linkDisWord_bits
  obtain ⟨t, ht, -, -, hcount⟩ :=
    hdisable strayInFlight endpointBus 4 linkDisWord htakes howner (by decide) hset hnoRetrain hdis hup strayInFlight_alone
  have hregs : t.regs = strayDiscarded.regs := regs_of_done (exec_linkDisableWrite_strayInFlight.symm.trans ht)
  rw [State.fld_congr hregs, strayDiscarded_down_count, strayInFlight_oneMore] at hcount
  exact absurd hcount (by decide)

end Sys2Proof.Machine
end

section
/-! Proofs of the family 02_frame_time, first part: which commands move the frame clock (O3), and that every step keeps it within its frame (O4). -/
namespace Sys2Proof.Machine
open Sys2Proof

/-! ### The commands that move the frame clock (R33, R40, R44, R45) -/

/-- The commands whose answer may differ in the frame clock: the boundaries of the frame, the alignment edges and markers, and what causes a cold
reset. -/
def movesClock : Instr → Bool
  | .daybreak _ => true
  | .duskWindowStart => true
  | .syncEdgeReceived _ _ _ => true
  | .syncEdgeMissing _ => true
  | .islMarkerReceived _ _ _ => true
  | .coldReset => true
  | .resetNLow _ => true
  | .auxPwrgdRise _ => true
  | .auxPwrgdFall => true
  | _ => false

/-- Every other command answers through `State.done`, which puts the clock and the queue back. -/
theorem exec_eq_done (c : Instr) (s : State) (h : movesClock c = false) : ∃ u, exec c s = s.done u := by
  cases c with
  | daybreak | duskWindowStart | syncEdgeReceived | syncEdgeMissing | islMarkerReceived | coldReset | resetNLow | auxPwrgdRise | auxPwrgdFall => cases h
  | _ => exact ⟨_, rfl⟩

theorem State.enterLost_time (s : State) (p : SyncPhase) :
    (s.enterLost p).time.frame = s.time.frame ∧ (s.enterLost p).time.tick = s.time.tick ∧ (s.enterLost p).time.len = s.time.len :=
  ⟨rfl, rfl, rfl⟩

/-- A missing edge can cost a follower its lock; the frame goes on as it was. -/
theorem exec_syncEdgeMissing_time (n : Nat) (s : State) :
    ∃ t, exec (.syncEdgeMissing n) s = .next t ∧ t.pending = s.pending ∧ t.time.frame = s.time.frame ∧ t.time.tick = s.time.tick ∧
      t.time.len = s.time.len := by
  refine ⟨_, rfl, rfl, ?_⟩
  simp only
  split_ifs
  · exact ⟨rfl, rfl, rfl⟩
  · exact State.enterLost_time s .lost
  · exact ⟨rfl, rfl, rfl⟩

/-- Settles O3: a command answers through `State.done` or, where it may move the clock, through `State.doneTimed`; both answer a next state with the
queue they were given, and `State.done` puts the clock back. Of the commands of the second kind a missing edge alone is not left out by the statement. -/
theorem everyCommandCompletes : Obligations.EveryCommandCompletes := by
  unfold Obligations.EveryCommandCompletes
  intro c s
  cases hc : movesClock c with
  | false =>
    obtain ⟨u, hu⟩ := exec_eq_done c s hc
    exact ⟨_, hu, rfl, fun _ _ _ _ _ _ _ _ => ⟨rfl, rfl, rfl⟩⟩
  | true =>
    cases c with
    | daybreak x => exact ⟨_, rfl, rfl, fun h => absurd rfl (h x)⟩
    | duskWindowStart => exact ⟨_, rfl, rfl, fun _ h => absurd rfl h⟩
    | coldReset => exact ⟨_, rfl, rfl, fun _ _ h => absurd rfl h⟩
    | resetNLow n => exact ⟨_, rfl, rfl, fun _ _ _ h => absurd rfl (h n)⟩
    | auxPwrgdRise n => exact ⟨_, rfl, rfl, fun _ _ _ _ h => absurd rfl (h n)⟩
    | auxPwrgdFall => exact ⟨_, rfl, rfl, fun _ _ _ _ _ h => absurd rfl h⟩
    | syncEdgeReceived l e p => exact ⟨_, rfl, rfl, fun _ _ _ _ _ _ h => absurd rfl (h l e p)⟩
    | islMarkerReceived i m a => exact ⟨_, rfl, rfl, fun _ _ _ _ _ _ _ h => absurd rfl (h i m a)⟩
    | syncEdgeMissing n =>
      obtain ⟨t, ht, hqueue, htime⟩ := exec_syncEdgeMissing_time n s
      exact ⟨t, ht, hqueue, fun _ _ _ _ _ _ _ _ => htime⟩
    | _ => cases hc

/-! ### The frame clock stands within its frame (R33) -/

theorem frameTicks_ge (code : Nat) : 512 ≤ frameTicks code := by
  have := Nat.two_pow_pos (code % 4)
  unfold frameTicks
  omega

theorem ClockOk.len_ge {t : TimeSt} (h : ClockOk t) : 511 ≤ t.len := by
  obtain ⟨-, -, hshort, -⟩ := h
  have := frameTicks_ge t.lenCode
  omega

/-- A new frame: it is as long as its code says, with one correction tick at most, and its first tick lies before its Dusk window. -/
theorem ClockOk.of_newFrame {t : TimeSt} {c : Int} (hcode : t.lenCode < 4) (hlow : -1 ≤ c) (hhigh : c ≤ 1)
    (hlen : t.len = ((frameTicks t.lenCode : Int) + c).toNat) (hcorr : t.corr = 0) (htick : t.tick = 0) (hdusk : t.dusk = false) : ClockOk t := by
  have := frameTicks_ge t.lenCode
  refine ⟨hcode, by omega, by omega, by omega, by omega, by omega, ?_⟩
  simp only [hdusk, Bool.false_eq_true, false_iff]
  omega

/-- The clock of another state is within its frame as it was there. -/
theorem State.keepClock_clockOk (s t : State) : ClockOk (s.keepClock t).time ↔ ClockOk s.time := Iff.rfl

/-- A correction of one tick or none, for the next frame, leaves the present frame as it is. -/
theorem ClockOk.withCorr {t : TimeSt} (h : ClockOk t) {c : Int} (hlow : -1 ≤ c) (hhigh : c ≤ 1) (y : SyncSt) (f : Nat) :
    ClockOk { t with frame := f, corr := c, sync := y } := by
  obtain ⟨hcode, hlong, hshort, -, -, htick, hdusk⟩ := h
  exact ⟨hcode, hlong, hshort, hlow, hhigh, htick, hdusk⟩

/-! ### A tick, the Dusk window and Daybreak (R33, R37, R42, R44) -/

theorem ClockOk.dusk_iff {t : TimeSt} (h : ClockOk t) : t.dusk = true ↔ t.len ≤ t.tick + 64 := by
  obtain ⟨-, -, -, -, -, -, hdusk⟩ := h
  exact hdusk

/-- The tick moves within its part of the frame. -/
theorem ClockOk.withTick {t : TimeSt} (h : ClockOk t) {n : Nat} (hn : n < t.len) (hdusk : t.dusk = true ↔ t.len ≤ n + 64) :
    ClockOk { t with tick := n } := by
  obtain ⟨hcode, hlong, hshort, hlow, hhigh, -, -⟩ := h
  exact ⟨hcode, hlong, hshort, hlow, hhigh, hn, hdusk⟩

/-- A tick never enters the Dusk window and never ends the frame (log entry 1). -/
theorem State.tickOn_clockOk {s : State} (h : ClockOk s.time) : ClockOk s.tickOn.time := by
  unfold State.tickOn
  simp only
  by_cases hrun : s.running ∧ s.time.tick + 1 < if s.time.dusk then s.time.len else s.duskTick
  · rw [if_pos hrun]
    obtain ⟨-, hnext⟩ := hrun
    by_cases hd : s.time.dusk = true
    · rw [if_pos hd] at hnext
      have hbegun := h.dusk_iff.1 hd
      exact h.withTick hnext (iff_of_true hd (by omega))
    · rw [if_neg hd] at hnext
      unfold State.duskTick at hnext
      exact h.withTick (by omega) (iff_of_false hd (by omega))
  · rw [if_neg hrun]
    exact h

theorem State.duskStart_clockOk {s : State} (h : ClockOk s.time) : ClockOk s.duskStart.time := by
  have hlen := h.len_ge
  obtain ⟨hcode, hlong, hshort, hlow, hhigh, htick, hdusk⟩ := h
  unfold State.duskStart
  split_ifs
  · exact ⟨hcode, hlong, hshort, hlow, hhigh, htick, hdusk⟩
  · refine ⟨hcode, hlong, hshort, hlow, hhigh, ?_, ?_⟩ <;> simp only [State.duskTick, true_iff] <;> omega

theorem State.correction_bounds {s : State} (hlow : -1 ≤ s.time.corr) (hhigh : s.time.corr ≤ 1) : -1 ≤ s.correction ∧ s.correction ≤ 1 := by
  unfold State.correction
  split_ifs <;> omega

/-- The code in force is one of the four whatever frame lengths have been accepted. -/
theorem codeAfter_lt (l : List Due) {code : Nat} (h : code < 4) : codeAfter l code < 4 := by
  unfold codeAfter
  induction l generalizing code with
  | nil => exact h
  | cons d t ih =>
    rw [List.foldl_cons]
    refine ih ?_
    split
    · exact Nat.mod_lt _ (by decide)
    · exact h

/-- Order 6 of Table 2-2 gives the frame that has just been opened its length, whatever state `t` the orders before it have led to. -/
theorem State.lengthTakes_clockOk {s : State} (t : State) (hcode : s.time.lenCode < 4) (hlow : -1 ≤ s.time.corr) (hhigh : s.time.corr ≤ 1)
    (htick : s.time.tick = 0) (hdusk : s.time.dusk = false) : ClockOk (s.keepClock t).lengthTakes.time := by
  obtain ⟨hc, hc'⟩ := State.correction_bounds (s := s.keepClock t) hlow hhigh
  exact .of_newFrame (codeAfter_lt _ hcode) hc hc' rfl rfl htick hdusk

/-- What else happens in orders 3 to 8 leaves the clock alone. -/
theorem State.dayMiddle_clockOk {s : State} (hcode : s.time.lenCode < 4) (hlow : -1 ≤ s.time.corr) (hhigh : s.time.corr ≤ 1)
    (htick : s.time.tick = 0) (hdusk : s.time.dusk = false) : ClockOk s.dayMiddle.time := by
  unfold State.dayMiddle
  rw [State.keepClock_clockOk]
  exact State.lengthTakes_clockOk _ hcode hlow hhigh htick hdusk

theorem State.coldReset_clockOk (s : State) (cause : Nat) (boot : Boot) : ClockOk (s.coldReset cause boot).time := State.reset_clockOk

theorem State.stepResets_clockOk (s : State) {cold : Bool} (h : ¬ cold = true) (ok : Bool) (f : Nat) :
    ClockOk (s.stepResets cold ok f).time ↔ ClockOk s.time := by
  unfold State.stepResets
  rw [if_neg h, State.keepClock_clockOk]

theorem State.dayEnd_clockOk (s : State) (x : DayFacts) : ClockOk (s.dayEnd x).time ↔ ClockOk s.time := Iff.rfl

theorem State.goOn_clockOk (s : State) : ClockOk s.goOn.time ↔ ClockOk s.time := Iff.rfl

/-- A Daybreak opens a frame of the length in force, or carries out a cold reset. -/
theorem State.daybreak_clockOk {s : State} (h : ClockOk s.time) (x : DayFacts) : ClockOk (s.daybreak x).time := by
  unfold State.daybreak
  split_ifs with hrun hcold
  · exact h
  · rw [hcold]
    exact State.coldReset_clockOk _ _ _
  · obtain ⟨hcode, -, -, hlow, hhigh, -, -⟩ := State.duskStart_clockOk h
    rw [State.goOn_clockOk, State.dayEnd_clockOk, State.stepResets_clockOk _ hcold]
    exact State.dayMiddle_clockOk hcode hlow hhigh rfl rfl

/-! ### Edges (R44, R45) -/

theorem corrOf_bounds (e : Int) : -1 ≤ corrOf e ∧ corrOf e ≤ 1 := by
  unfold corrOf
  split_ifs <;> decide

theorem State.enterLost_clockOk {s : State} (h : ClockOk s.time) (p : SyncPhase) : ClockOk (s.enterLost p).time :=
  h.withCorr (c := 0) (by decide) (by decide) { phase := p } s.time.frame

theorem State.initialLock_clockOk {s : State} (h : ClockOk s.time) (n near : Nat) : ClockOk (s.initialLock n near).time :=
  h.withCorr (c := 0) (by decide) (by decide) { phase := .initial } (n + s.time.frame - near)

theorem State.countGood_clockOk {s : State} (h : ClockOk s.time) (inside : Bool) : ClockOk (s.countGood inside).time := by
  unfold State.countGood
  simp only
  split_ifs <;> exact h

/-- Whatever an edge does to the lock, the present frame keeps its length: it sets the correction of the next one, or moves the frame number. -/
theorem State.syncEdge_clockOk {s : State} (h : ClockOk s.time) (num : Option Nat) (long : Bool) (at_ : Int) (period : Nat) :
    ClockOk (s.syncEdge num long at_ period).time := by
  have hcorr : ∀ (e : Int) (y : SyncSt), ClockOk { s.time with corr := corrOf e, sync := y } :=
    fun e y => h.withCorr (corrOf_bounds e).1 (corrOf_bounds e).2 y _
  unfold State.syncEdge
  extract_lets day err inside s0 agrees
  split
  case h_1 =>
    split
    · exact State.initialLock_clockOk (s := s0) h _ _
    · split_ifs
      · exact State.initialLock_clockOk (s := s0) h _ _
      · exact h
  case h_2 => exact h
  case h_3 =>
    split_ifs
    · exact State.enterLost_clockOk (s := s0) h _
    · exact State.countGood_clockOk (hcorr _ _) _
  case h_4 =>
    split_ifs
    · exact State.enterLost_clockOk (s := s0) h _
    · exact State.countGood_clockOk (s := s0) h _
  case h_5 =>
    split_ifs
    · exact State.enterLost_clockOk (s := s0) h _
    · exact State.enterLost_clockOk (s := s0) h _
    · exact State.enterLost_clockOk (s := s0) h _
    · exact hcorr _ _

theorem State.markerSync_clockOk {s : State} (h : ClockOk s.time) (i : Nat) (m : IslMarker) (last : Option (Nat × Nat)) :
    ClockOk (s.markerSync i m last).time := by
  unfold State.markerSync
  split_ifs
  · exact State.syncEdge_clockOk h _ _ _ _
  · exact h

/-- A marker moves the clock through its edge alone. -/
theorem State.marker_clockOk {s : State} (h : ClockOk s.time) (i : Nat) (m : IslMarker) (aligned : Bool) : ClockOk (s.marker i m aligned).time := by
  unfold State.marker
  simp only
  split_ifs
  · exact h
  · exact h
  · exact h
  · exact h
  · exact h
  · rw [State.keepClock_clockOk]
    refine State.markerSync_clockOk ?_ _ _ _
    rw [State.keepClock_clockOk]
    exact h

/-! ### Every step keeps the clock within its frame -/

theorem clockOk_of_done {s u t : State} (h : ClockOk s.time) (hd : s.done u = .next t) : ClockOk t.time := by
  rw [← Host.Outcome.next.inj hd]
  exact h

theorem clockOk_of_doneTimed {s u t : State} (h : ClockOk u.time) (hd : s.doneTimed u = .next t) : ClockOk t.time := by
  rw [← Host.Outcome.next.inj hd]
  exact h

theorem execSyncEdgeReceived_clockOk {s t : State} (h : ClockOk s.time) {long : Bool} {raw : Int} {period : Nat}
    (he : execSyncEdgeReceived long raw period s = .next t) : ClockOk t.time := by
  refine clockOk_of_doneTimed ?_ he
  split_ifs
  · exact State.syncEdge_clockOk h _ _ _ _
  · exact h

theorem execSyncEdgeMissing_clockOk {s t : State} (h : ClockOk s.time) {n : Nat} (he : execSyncEdgeMissing n s = .next t) : ClockOk t.time := by
  refine clockOk_of_doneTimed ?_ he
  simp only
  split_ifs
  · exact h
  · exact State.enterLost_clockOk h _
  · exact h

theorem execIslMarkerReceived_clockOk {s t : State} (h : ClockOk s.time) {i : Nat} {raw : List Nat} {aligned : Bool}
    (he : execIslMarkerReceived i raw aligned s = .next t) : ClockOk t.time := by
  refine clockOk_of_doneTimed ?_ he
  split
  · exact State.marker_clockOk h _ _ _
  · exact h

theorem execColdReset_clockOk {s t : State} (h : ClockOk s.time) (he : execColdReset s = .next t) : ClockOk t.time := by
  refine clockOk_of_doneTimed ?_ he
  split
  · exact h
  · exact h
  · exact State.coldReset_clockOk _ _ _

theorem execResetNLow_clockOk {s t : State} (h : ClockOk s.time) {n : Nat} (he : execResetNLow n s = .next t) : ClockOk t.time := by
  refine clockOk_of_doneTimed ?_ he
  split_ifs
  · exact h
  · exact h
  · exact State.coldReset_clockOk _ _ _

theorem execAuxPwrgdRise_clockOk {s t : State} (h : ClockOk s.time) {n : Nat} (he : execAuxPwrgdRise n s = .next t) : ClockOk t.time := by
  refine clockOk_of_doneTimed ?_ he
  split
  · exact h
  · exact State.coldReset_clockOk _ _ _

/-- Every command keeps the clock within its frame: those that answer through `State.done` put it back, and each of the others is one of the cases above. -/
theorem exec_clockOk {c : Instr} {s t : State} (h : ClockOk s.time) (he : exec c s = .next t) : ClockOk t.time := by
  cases hc : movesClock c with
  | false =>
    obtain ⟨u, hu⟩ := exec_eq_done c s hc
    exact clockOk_of_done h (hu.symm.trans he)
  | true =>
    cases c with
    | daybreak x => exact clockOk_of_doneTimed (State.daybreak_clockOk h x) he
    | duskWindowStart => exact clockOk_of_doneTimed (State.duskStart_clockOk h) he
    | syncEdgeReceived => exact execSyncEdgeReceived_clockOk h he
    | syncEdgeMissing => exact execSyncEdgeMissing_clockOk h he
    | islMarkerReceived => exact execIslMarkerReceived_clockOk h he
    | coldReset => exact execColdReset_clockOk h he
    | resetNLow => exact execResetNLow_clockOk h he
    | auxPwrgdRise => exact execAuxPwrgdRise_clockOk h he
    | auxPwrgdFall => exact clockOk_of_doneTimed (State.coldReset_clockOk _ _ _) he
    | _ => cases hc

theorem State.nextHeld_time {s t : State} {i : Instr} (h : s.nextHeld = some (i, t)) : t.time = s.time := by
  unfold State.nextHeld at h
  split_ifs at h
  split at h <;> cases h
  rfl

theorem State.nextWaiting_time {s t : State} {i : Instr} (h : s.nextWaiting = some (i, t)) : t.time = s.time := by
  unfold State.nextWaiting at h
  split_ifs at h
  split at h <;> cases h
  rfl

/-- On an empty queue the block runs a request or an access that has waited, or a tick passes (log entry 1). -/
theorem idle_clockOk {s t : State} (h : ClockOk s.time) (hi : idle s = .next t) : ClockOk t.time := by
  unfold idle at hi
  split at hi
  next i u hu => exact exec_clockOk (by rwa [State.nextHeld_time hu]) hi
  next =>
    split at hi
    next i u hu =>
      have hok : ClockOk u.time := by rwa [State.nextWaiting_time hu]
      split at hi
      · exact clockOk_of_done hok hi
      · exact exec_clockOk hok hi
    next => exact Host.Outcome.next.inj hi ▸ State.tickOn_clockOk h

theorem step_clockOk {s t : State} (h : ClockOk s.time) (hs : step s = .next t) : ClockOk t.time := by
  unfold step at hs
  split at hs
  next c rest _ => exact exec_clockOk (s := { s with pending := rest }) h hs
  next => exact idle_clockOk h hs

/-- Settles O4: reset meets the invariant, and every command and every idle step keeps it. -/
theorem frameClock : Obligations.FrameClock := by
  unfold Obligations.FrameClock
  exact ⟨rfl, State.reset_clockOk, rfl, rfl, rfl, rfl, fun _ _ h hs => step_clockOk h hs⟩

end Sys2Proof.Machine
end

section
/-! Proofs of the family 02_frame_time, second part: long commands, unsupported opcodes, the standby pair and the PLL (O12). -/
namespace Sys2Proof.Machine
open Sys2Proof

/-! ### What a fault report leaves alone (R371 to R377) -/

/-- Whether a field lies outside the blocks of the event controller and the fault collector, and outside the port blocks. -/
def outsideFaults (f : Fld) : Prop := f.addr < 0x20000 ∨ (0x40000 ≤ f.addr ∧ f.addr < 0x1000000)

theorem State.fld_raiseShared_outside (s : State) {f : Fld} (hf : outsideFaults f) : (s.raiseShared 297).fld f = s.fld f := by
  unfold outsideFaults at hf
  exact State.fld_raiseShared s 297 f (by decide) (by omega)

theorem State.fld_countFault (s : State) (c : FaultClass) {f : Fld} (hf : outsideFaults f) : (s.countFault c).fld f = s.fld f := by
  unfold outsideFaults at hf
  cases c <;> refine State.fld_inc_addr _ _ _ ?_ <;>
    simp only [FLT_CNT_CORR_CNT, FLT_CNT_CONT_CNT, FLT_CNT_UNC_UNC, FLT_CNT_CORR, FLT_CNT_CONT, FLT_CNT_UNC] <;> omega

theorem State.fld_mergeFault (s : State) (k : Nat) (i : FltIn) (f : Fld) : (s.mergeFault k i).fld f = s.fld f :=
  State.fld_congr (State.mergeFault_regs s k i) f

/-- A new record advances FLT_NEXT and raises shared source 297 (R375). -/
theorem State.fld_openFault (s : State) (k : Nat) (i : FltIn) {f : Fld} (hf : outsideFaults f) : (s.openFault k i).fld f = s.fld f := by
  have hnext : FLT_NEXT_NEXT.addr ≠ f.addr := by
    unfold outsideFaults at hf
    simp only [FLT_NEXT_NEXT, FLT_NEXT]
    omega
  have hstored : ∀ u : State, u.regs = s.regs → ∀ n, ((u.setFld FLT_NEXT_NEXT n).raiseShared 297).fld f = s.fld f := by
    intro u hu n
    rw [State.fld_raiseShared_outside _ hf, State.fld_setFld_addr _ _ _ _ hnext, State.fld_congr hu]
  unfold State.openFault
  simp only
  split
  · rw [State.fld_congr (State.uncontain_regs _ k)]
    refine hstored _ ?_ _
    rfl
  · refine hstored _ ?_ _
    rfl

theorem State.fld_overflowFault (s : State) (i : FltIn) {f : Fld} (hf : outsideFaults f) : (s.overflowFault i).fld f = s.fld f := by
  unfold State.overflowFault
  split
  · extract_lets s1
    have h1 : s1.fld f = s.fld f := State.fld_mergeFault s 511 i f
    split
    · exact h1
    · rw [State.fld_raiseShared_outside _ hf, h1]
  · exact State.fld_openFault _ _ _ hf

/-- A fault report writes registers of the fault collector, of the event controller and of the port blocks alone. -/
theorem State.fld_report (s : State) (i : FltIn) {f : Fld} (hf : outsideFaults f) : (s.report i).fld f = s.fld f := by
  have hlost : FLT_CNT_UNC_LOST.addr ≠ f.addr := by
    unfold outsideFaults at hf
    simp only [FLT_CNT_UNC_LOST, FLT_CNT_UNC]
    omega
  unfold State.report
  extract_lets s0
  have h0 : s0.fld f = s.fld f := State.fld_countFault s i.cls hf
  split
  · rw [State.fld_mergeFault, h0]
  · split
    · rw [State.fld_overflowFault _ _ hf, h0]
    · split
      · rw [State.fld_openFault _ _ _ hf, h0]
      · rw [State.fld_overflowFault _ _ hf, State.fld_inc_addr _ _ _ hlost, h0]

theorem State.reportCode_bit (s : State) (code id : Nat) (addr : Option Nat) (detail : Nat) {f : Fld} (hf : outsideFaults f) :
    (s.reportCode code id addr detail).bit f = s.bit f := by
  unfold State.reportCode State.bit
  split
  · rw [State.fld_report _ _ hf]
  · rfl

@[simp] theorem State.reportCode_time (s : State) (code id : Nat) (addr : Option Nat) (detail : Nat) :
    (s.reportCode code id addr detail).time = s.time := by
  unfold State.reportCode
  split <;> simp

@[simp] theorem State.reportCode_bnd (s : State) (code id : Nat) (addr : Option Nat) (detail : Nat) :
    (s.reportCode code id addr detail).bnd = s.bnd := by
  unfold State.reportCode
  split <;> simp

@[simp] theorem State.reportCode_due (s : State) (code id : Nat) (addr : Option Nat) (detail : Nat) :
    (s.reportCode code id addr detail).due = s.due := by
  unfold State.reportCode
  split <;> simp

/-! ### The standby pair and the PLL (R32, R326) -/

theorem State.setDeg_bit_same (s : State) (f : Fld) (v : Bool) (hl : f.lsb + f.width ≤ 32) (hw : f.width = 1) (ha : f.addr < 0x20000) :
    (s.setDeg f v).bit f = v := by
  unfold State.setDeg
  split_ifs with h
  · exact beq_iff_eq.1 h
  · rw [State.bit_raiseShared _ _ _ (by decide) (.inl ha)]
    exact State.bit_setBit_same s f v hl hw

theorem exec_standbyPairFailure (s : State) :
    ∃ t, exec .standbyPairFailure s = .next t ∧ t.bit GLB_DEG_STANDBY_PAIR = true ∧ t.bit TWL_FW_STANDBY_READY = false ∧ t.bnd = s.bnd ∧
      t.due = s.due := by
  refine ⟨_, rfl, ?pair, ?ready, ?bnd, ?due⟩
  case pair =>
    refine (State.reportCode_bit _ _ _ _ _ (.inl (by decide))).trans ?_
    rw [State.bit_setBit_addr _ _ _ _ (by decide)]
    exact State.setDeg_bit_same s GLB_DEG_STANDBY_PAIR true (by decide) rfl (by decide)
  case ready =>
    exact (State.reportCode_bit _ _ _ _ _ (.inr (by decide))).trans (State.bit_setBit_same _ _ _ (by decide) rfl)
  case bnd => simp
  case due => simp

theorem exec_timebasePllLossOfLock (s : State) :
    ∃ t, exec .timebasePllLossOfLock s = .next t ∧ t.time.pllLocked = false ∧ t.bnd = s.bnd ∧ t.due = s.due := by
  refine ⟨_, rfl, ?_, ?_, ?_⟩
  · exact congrArg TimeSt.pllLocked (State.reportCode_time _ _ _ _ _)
  · simp
  · simp

/-! ### Requests that are answered at once -/

@[simp] theorem State.entered_time (s : State) (rq : Rq) : (s.entered rq).time = s.time := by rw [State.entered_eq]
@[simp] theorem State.entered_bnd (s : State) (rq : Rq) : (s.entered rq).bnd = s.bnd := by rw [State.entered_eq]
@[simp] theorem State.entered_due (s : State) (rq : Rq) : (s.entered rq).due = s.due := by rw [State.entered_eq]
@[simp] theorem State.entered_force (s : State) (rq : Rq) : (s.entered rq).force = s.force := by rw [State.entered_eq]

theorem State.entered_lcOf (s : State) (rq : Rq) (h : Nat) : (s.entered rq).lcOf h = s.lcOf h := by
  rw [State.entered_eq]
  rfl

/-- The next state of a served request, its body run in the state its session has entered. -/
theorem done_entered {s : State} {rq : Rq} {op : Nat} {p : Principal} (hs : s.serves rq op p = true) (i : Instr) (body : Principal → State → Ans)
    {a : Ans} (ha : body p (s.entered rq) = a) (hl : a.later = false) :
    ∃ m, s.done (xib op rq i s body) = .next { s.keepClock a.st with
      out := s.sentReply rq op { status := a.status, frame := a.frame, data := a.data } a.st.out, mbx.sess := m, pending := s.pending } :=
  ⟨_, done_serves hs i body a ((congrArg (body p) (State.entered_eq s rq).symm).trans ha) hl⟩

/-- A served request that its opcode refuses is turned away (R312). -/
theorem done_refuses {s : State} {rq : Rq} {op : Nat} {p : Principal} (hs : s.serves rq op p = true) (i : Instr) (body : Principal → State → Ans)
    {c : Status} (hbody : body p (s.entered rq) = (s.entered rq).refuse c) :
    ∃ t, s.done (xib op rq i s body) = .next t ∧ s.turnsAway t rq op c := by
  obtain ⟨m, hm⟩ := done_entered hs i body hbody rfl
  rw [State.entered_eq] at hm
  exact ⟨_, hm, rfl, rfl⟩

/-- A served read is answered with its data, and has no other effect. -/
theorem done_reads {s : State} {rq : Rq} {op : Nat} {p : Principal} (hs : s.serves rq op p = true) (i : Instr) (body : Principal → State → Ans)
    {data : List (Nat × Nat)} (hbody : body p (s.entered rq) = (s.entered rq).readAns data) :
    ∃ t, s.done (xib op rq i s body) = .next t ∧ t.replied rq op .success s.time.frame data ∧
      t = { s with out := t.out, mbx.sess := t.mbx.sess } := by
  obtain ⟨m, hm⟩ := done_entered hs i body hbody rfl
  rw [State.entered_eq] at hm
  exact ⟨_, hm, rfl, rfl⟩

/-- A served request that has its effect at once is answered with success. -/
theorem done_succeeds {s : State} {rq : Rq} {op : Nat} {p : Principal} (hs : s.serves rq op p = true) (i : Instr) (body : Principal → State → Ans)
    {u : State} (hbody : body p (s.entered rq) = u.okNow) :
    ∃ t, s.done (xib op rq i s body) = .next t ∧ t.replied rq op .success u.time.frame [] ∧ t.mbx.lc = u.mbx.lc ∧ t.due = u.due ∧ t.bnd = u.bnd ∧
      t.force = u.force := by
  obtain ⟨m, hm⟩ := done_entered hs i body hbody rfl
  exact ⟨_, hm, rfl, rfl, rfl, rfl, rfl⟩

/-- A request that mode, lifecycle or principal turn away (R310, R318). -/
theorem done_gate_refuses {s : State} {rq : Rq} {op : Nat} {p : Principal} (h : s.admits rq op p = true) {c : Status} (hc : s.opGate p op = some c)
    (i : Instr) (body : Principal → State → Ans) : ∃ t, s.done (xib op rq i s body) = .next t ∧ s.turnsAway t rq op c := by
  obtain ⟨m, hm⟩ := done_gated h hc i body
  exact ⟨_, hm, rfl, rfl⟩

/-- An opcode that no table lists is unsupported, where the mode lets it through (R318). -/
theorem State.opGate_of_unknown {s : State} {p : Principal} {op : Nat} (hmode : s.modeGate p op = none) (hop : opKnown op = false) :
    s.opGate p op = some .unsupported := by
  unfold State.opGate
  simp only [hmode, hop, Bool.not_false, if_true]

/-- COMMAND_STATUS reads the slot of a handle the session may see (R316, R317). -/
theorem exec_commandStatus {s : State} {rq : Rq} {p : Principal} {h k : Nat} {l : Lc} (hs : s.serves rq 0x0207 p = true)
    (hlc : s.lcOf h = some (k, l)) (hsee : lcVisible p rq.sess l = true) :
    ∃ t, exec (.commandStatus rq h) s = .next t ∧
      t.replied rq 0x0207 .success s.time.frame [(1, l.st.code), (2, l.status.code), (8, l.endFrame)] ∧
      t = { s with out := t.out, mbx.sess := t.mbx.sess } := by
  refine done_reads hs _ _ ?_
  simp only [State.entered_lcOf, hlc, hsee, if_true]

/-! ### How a long command ends (R316) -/

/-- A long command that has not ended keeps its final status and the frame in its slot. -/
theorem State.lcEnd_slot {s : State} {h k : Nat} {l : Lc} (hlc : s.lcOf h = some (k, l)) (hst : l.st = .running ∨ l.st = .past) (c : Status) :
    mget (s.lcEnd h c).mbx.lc k =
      some { l with st := if c = .aborted then .aborted else .completed, status := c, endFrame := s.time.frame } := by
  unfold State.lcEnd
  simp only [hlc, hst, if_true, State.raisePrivate_mbx, mget_mput_same]

/-- Its completion event is pending in the bank of the target whose route carried it. -/
theorem State.lcEnd_event {s : State} {h k : Nat} {l : Lc} (hlc : s.lcOf h = some (k, l)) (hst : l.st = .running ∨ l.st = .past) (c : Status)
    (ht : s.targetExists l.target = true) : (s.lcEnd h c).bit (pendFld l.target 0) = true := by
  unfold State.lcEnd
  simp only [hlc, hst, if_true]
  exact State.bit_raisePrivate_pend _ _ _ (by decide) ht

theorem exec_longCommandComplete {s : State} {h k : Nat} {l : Lc} (ok : Bool) (hlc : s.lcOf h = some (k, l)) (hst : l.st = .running ∨ l.st = .past) :
    ∃ t, exec (.longCommandComplete h ok) s = .next t ∧
      mget t.mbx.lc k = some { l with st := .completed, status := if ok then .success else .failed, endFrame := s.time.frame } ∧
      (s.targetExists l.target = true → t.bit (pendFld l.target 0) = true) ∧ t.md = s.md ∧ t.due = s.due ∧ t.bnd = s.bnd := by
  refine ⟨_, rfl, ?slot, State.lcEnd_event hlc hst _, ?_, ?_, ?_⟩
  case slot =>
    refine (State.lcEnd_slot hlc hst _).trans ?_
    cases ok <;> rfl
  all_goals simp

/-! ### ABORT (R316, R317, Table 14-5) -/

/-- What leaves the accepted effects leaves no staged value behind: register words return to those in force, and nothing else changes. -/
theorem State.dropCargo_eq (s : State) (d : Due) : ∃ r, s.dropCargo d = { s with regs := r } := by
  have hwords : ∀ (ws : NMap Word) (t : State), ∃ r, ws.foldl
      (fun s e => if s.dirty.contains e.1 || s.due.any (fun x => x.carries e.1) then s else s.revertWord e.1) t = { t with regs := r } := by
    intro ws
    induction ws with
    | nil => exact fun _ => ⟨_, rfl⟩
    | cons e ws ih =>
      intro t
      rw [List.foldl_cons]
      split
      · exact ih t
      · obtain ⟨r, hr⟩ := ih (t.revertWord e.1)
        exact ⟨r, hr⟩
  unfold State.dropCargo
  split
  · exact hwords _ s
  · exact ⟨_, rfl⟩

theorem State.foldl_dropCargo_eq (l : List Due) (s : State) : ∃ r, l.foldl State.dropCargo s = { s with regs := r } := by
  induction l generalizing s with
  | nil => exact ⟨_, rfl⟩
  | cons d l ih =>
    obtain ⟨r, hr⟩ := s.dropCargo_eq d
    obtain ⟨q, hq⟩ := ih (s.dropCargo d)
    exact ⟨q, by rw [List.foldl_cons, hq, hr]⟩

/-- Withdrawing an accepted effect takes it out of what is due and ends its long command. -/
theorem State.withdrawDue_eq (s : State) (h : Nat) :
    ∃ r, s.withdrawDue h = State.lcEnd { s with due := s.due.filter (fun d => d.handle != some h), regs := r } h .aborted := by
  unfold State.withdrawDue
  obtain ⟨r, hr⟩ := State.foldl_dropCargo_eq (s.due.filter (fun d => d.handle == some h)) { s with due := s.due.filter (fun d => d.handle != some h) }
  exact ⟨r, by rw [hr]⟩

/-- ABORT of a command the session may see, which runs and which its opcode lets go: the answer is success (R316). -/
theorem exec_abort {s : State} {rq : Rq} {p : Principal} {h k : Nat} {l : Lc} {u : State} (hs : s.serves rq 0x0208 p = true)
    (hlc : s.lcOf h = some (k, l)) (hsee : lcVisible p rq.sess l = true) (hst : l.st = .running)
    (hu : (s.entered rq).abortLong h l.op = some u) :
    ∃ t, exec (.abort rq h) s = .next t ∧ t.replied rq 0x0208 .success u.time.frame [] ∧ t.mbx.lc = u.mbx.lc ∧ t.due = u.due ∧ t.bnd = u.bnd ∧
      t.force = u.force := by
  refine done_succeeds hs _ _ ?_
  simp only [State.entered_lcOf, hlc, hsee, hst, hu, Bool.not_true, Bool.false_eq_true, if_false, ne_eq, not_true_eq_false]

/-- A commit or a gate list that has not been frozen is withdrawn. -/
theorem exec_abort_withdraws {s : State} {rq : Rq} {p : Principal} {h k : Nat} {l : Lc} (hs : s.serves rq 0x0208 p = true)
    (hlc : s.lcOf h = some (k, l)) (hsee : lcVisible p rq.sess l = true) (hst : l.st = .running) (hop : l.op = 0x0204 ∨ l.op = 0x0702) :
    ∃ t, exec (.abort rq h) s = .next t ∧ t.replied rq 0x0208 .success s.time.frame [] ∧ (∀ d ∈ t.due, d.handle ≠ some h) ∧
      mget t.mbx.lc k = some { l with st := .aborted, status := .aborted, endFrame := s.time.frame } ∧ t.bnd = s.bnd ∧ t.force = s.force := by
  obtain ⟨r, hr⟩ := State.withdrawDue_eq (s.entered rq) h
  have hu : (s.entered rq).abortLong h l.op = some ((s.entered rq).withdrawDue h) := by
    rcases hop with hop | hop <;> rw [hop] <;> rfl
  rw [hr] at hu
  obtain ⟨t, ht, hreply, hslots, hdue, hbnd, hforce⟩ := exec_abort hs hlc hsee hst hu
  refine ⟨t, ht, ?_, ?_, ?_, ?_, ?_⟩
  · simpa using hreply
  · intro d hd
    rw [hdue, State.lcEnd_due] at hd
    exact bne_iff_ne.1 (List.mem_filter.1 hd).2
  · rw [hslots]
    simpa using State.lcEnd_slot (s := { s.entered rq with due := _, regs := r }) ((s.entered_lcOf rq h).trans hlc) (.inl hst) .aborted
  · simpa using hbnd
  · simpa using hforce

/-- A region's delete is undone for one handle: the region is as it was before the command. -/
def undeleted (h : Nat) (m : NMap Region) : NMap Region :=
  m.map (fun e => if e.2.delHandle = some h then (e.1, { e.2 with deleting := false, delHandle := none, delNow := false }) else e)

theorem delHandle_of_mem_undeleted {h : Nat} {m : NMap Region} {e : Nat × Region} (he : e ∈ undeleted h m) : e.2.delHandle ≠ some h := by
  obtain ⟨x, -, rfl⟩ := List.mem_map.1 he
  split_ifs with hx
  · simp
  · exact hx

/-- A region delete that has not passed its commit point is undone. -/
theorem exec_abort_delete {s : State} {rq : Rq} {p : Principal} {h k : Nat} {l : Lc} (hs : s.serves rq 0x0208 p = true)
    (hlc : s.lcOf h = some (k, l)) (hsee : lcVisible p rq.sess l = true) (hst : l.st = .running) (hop : l.op = 0x0401) :
    ∃ t, exec (.abort rq h) s = .next t ∧ t.replied rq 0x0208 .success s.time.frame [] ∧ (∀ e ∈ t.bnd.regions, e.2.delHandle ≠ some h) ∧
      mget t.mbx.lc k = some { l with st := .aborted, status := .aborted, endFrame := s.time.frame } ∧ t.bnd.tt = s.bnd.tt ∧ t.due = s.due := by
  have hu : (s.entered rq).abortLong h l.op =
      some (State.lcEnd { s.entered rq with bnd.regions := undeleted h (s.entered rq).bnd.regions } h .aborted) := by
    rw [hop]
    rfl
  obtain ⟨t, ht, hreply, hslots, hdue, hbnd, -⟩ := exec_abort hs hlc hsee hst hu
  rw [State.lcEnd_bnd] at hbnd
  refine ⟨t, ht, ?_, ?_, ?_, ?_, ?_⟩
  · simpa using hreply
  · rw [hbnd]
    exact fun e he => delHandle_of_mem_undeleted he
  · rw [hslots]
    simpa using State.lcEnd_slot (s := { s.entered rq with bnd.regions := undeleted h (s.entered rq).bnd.regions })
      ((s.entered_lcOf rq h).trans hlc) (.inl hst) .aborted
  · simp [hbnd]
  · simpa using hdue

/-- A command that has passed its commit point, or that has none, is not aborted. -/
theorem exec_abort_tooLate {s : State} {rq : Rq} {p : Principal} {h k : Nat} {l : Lc} (hs : s.serves rq 0x0208 p = true)
    (hlc : s.lcOf h = some (k, l)) (hsee : lcVisible p rq.sess l = true)
    (hlate : l.st ≠ .running ∨ l.op = 0x0801 ∨ l.op = 0x0901 ∨ l.op = 0x0902) :
    ∃ t, exec (.abort rq h) s = .next t ∧ s.turnsAway t rq 0x0208 .tooLate := by
  refine done_refuses hs _ _ ?_
  by_cases hst : l.st = .running
  · have hnone : (s.entered rq).abortLong h l.op = none := by
      rcases hlate with hne | hop | hop | hop
      · exact absurd hst hne
      all_goals rw [hop]; rfl
    simp only [State.entered_lcOf, hlc, hsee, hst, hnone, Bool.not_true, Bool.false_eq_true, if_false, ne_eq, not_true_eq_false]
  · simp only [State.entered_lcOf, hlc, hsee, hst, Bool.not_true, Bool.false_eq_true, if_false, if_true, ne_eq, not_false_eq_true]

theorem exec_abort_foreign {s : State} {rq : Rq} {p : Principal} {h k : Nat} {l : Lc} (hs : s.serves rq 0x0208 p = true)
    (hlc : s.lcOf h = some (k, l)) (hsee : lcVisible p rq.sess l = false) :
    ∃ t, exec (.abort rq h) s = .next t ∧ s.turnsAway t rq 0x0208 .permission := by
  refine done_refuses hs _ _ ?_
  simp only [State.entered_lcOf, hlc, hsee, Bool.not_false, if_true]

theorem exec_abort_unknown {s : State} {rq : Rq} {p : Principal} {h : Nat} (hs : s.serves rq 0x0208 p = true) (hlc : s.lcOf h = none) :
    ∃ t, exec (.abort rq h) s = .next t ∧ s.turnsAway t rq 0x0208 .parameter := by
  refine done_refuses hs _ _ ?_
  simp only [State.entered_lcOf, hlc]

/-- Settles O12: what COMMAND_STATUS and ABORT do follows from the slot that the handle names, a completion writes that slot, an unknown opcode is
turned away by its gate, and the two hardware events report faults that leave their bits alone. -/
theorem longCommands : Obligations.LongCommands := by
  unfold Obligations.LongCommands
  exact ⟨fun _ _ _ _ _ _ => exec_commandStatus, fun _ _ _ _ ok => exec_longCommandComplete ok, fun _ _ _ _ _ h hc => done_gate_refuses h hc _ _,
    fun _ _ _ => State.opGate_of_unknown, fun _ _ _ _ _ _ => exec_abort_withdraws, fun _ _ _ _ _ _ => exec_abort_delete,
    fun _ _ _ _ _ _ => exec_abort_tooLate, fun _ _ _ _ _ _ => exec_abort_foreign, fun _ _ _ _ => exec_abort_unknown, exec_standbyPairFailure,
    exec_timebasePllLossOfLock⟩

end Sys2Proof.Machine
end

section
/-! Proofs of the family 02_frame_time, third part: a mode request that carries FORCE from an earlier write, on which O11 fails, and a correction that
outlives a follower's lock, on which O17 fails. -/
namespace Sys2Proof.Machine
open Sys2Proof

/-! ### A mode request with FORCE left set (R324) -/

/-- The block in Provisioning with a fabric manager at the management endpoint's BAR; FORCE of GLB_MODE_REQ, a field of the owner alone, is still set
from an owner's earlier request. -/
def forceLeftSet : State :=
  let s : State := { ownerAtBoot with
    md.mode := .provisioning, ident.life := .owned,
    mbx.sess := [(1, { ownerSession with prin := .fm 0 })],
    mbx.attach := [{ source := 0, route := 128, eid := 0, sess := 1 }] }
  s.setBit GLB_MODE_REQ_FORCE true

theorem forceLeftSet_takesWrite :
    forceLeftSet.takesWrite endpointBus GLB_MODE_REQ = true ∧ (forceLeftSet.busP endpointBus).isOF = true := by decide +kernel

/-- What the fabric manager's write of target Service and MREQ leaves: its word does not reach FORCE. -/
def forcedRequest : State := forceLeftSet.writeWord (forceLeftSet.busAcc endpointBus) GLB_MODE_REQ (3#32 ||| 0x10000#32)

theorem exec_modeRequestWrite_forceLeftSet : exec (.modeRequestWrite endpointBus 3#32) forceLeftSet = forceLeftSet.done forcedRequest :=
  congrArg forceLeftSet.done (busWrite_takes forceLeftSet_takesWrite.1 _ _)

/-- A forced request for Service is in no row of Table 15-2: it is refused. -/
theorem forcedRequest_refused : forcedRequest.md.modeReq = none ∧ forcedRequest.bit GLB_MODE_REQ_REFUSED = true := by decide +kernel

theorem md_of_done {s u t : State} (h : s.done u = .next t) : t.md = u.md := by
  rw [← Host.Outcome.next.inj h]
  rfl

/-- Refutes O11, by its first clause: it has a write of target Service to GLB_MODE_REQ accepted from the owner and from a fabric manager. FORCE of that
register lists the owner alone, so a fabric manager's write leaves the bit as it was; where an earlier write of the owner has left it set, the request is
a forced one, and Table 15-2 forces Standby only. -/
theorem not_controlWrites : ¬ Obligations.ControlWrites := by
  unfold Obligations.ControlWrites
  rintro ⟨hmode, -⟩
  obtain ⟨htakes, howner⟩ := forceLeftSet_takesWrite
  obtain ⟨t, ht, hmd, -⟩ := hmode forceLeftSet endpointBus htakes howner rfl rfl rfl
  have hrefused : t.md.modeReq = none :=
    (congrArg ModeSt.modeReq (md_of_done (exec_modeRequestWrite_forceLeftSet.symm.trans ht))).trans forcedRequest_refused.1
  rw [hmd] at hrefused
  exact Option.some_ne_none _ hrefused

/-! ### A Daybreak of a follower that has lost its lock (R44, R45) -/

/-- A follower whose last edge, while it was locked, asked for a longer frame; REARM has then made it Unlocked, and the correction is still stored. -/
def rearmedFollower : State :=
  State.rearm { ownerAtBoot.setFld FRM_SYNC_CTL_ROLE 2 with time.sync := { phase := .locked }, time.corr := 1 }

/-- A Daybreak with the watchdog serviced and nothing to report. -/
def quietDay : DayFacts := { samples := [], ack := true, serviced := true, selfTest := true }

theorem rearmedFollower_unlocked :
    rearmedFollower.time.sync.phase = .unlocked ∧ rearmedFollower.time.corr = 1 ∧ rearmedFollower.running = true ∧
      rearmedFollower.md.coldDue = false := by decide +kernel

/-- It free-runs: the frame has the ticks of its code. -/
theorem rearmedFollower_freeRuns :
    (rearmedFollower.daybreak quietDay).time.lenCode = 1 ∧ (rearmedFollower.daybreak quietDay).time.len = 1024 := by decide +kernel

/-- Refutes O17, by its third clause: it has every Daybreak lengthen the new frame by the correction that is stored. A follower corrects in Initial lock
and Locked alone (R44, Table 2-3). After REARM it is Unlocked and free-runs, so with a stored correction of one tick its next frame has 1,024 ticks and
not 1,025. -/
theorem not_frameAndSync : ¬ Obligations.FrameAndSync := by
  unfold Obligations.FrameAndSync
  rintro ⟨-, -, hday, -⟩
  obtain ⟨-, hcorr, hrun, hcold⟩ := rearmedFollower_unlocked
  obtain ⟨hcode, hlen⟩ := rearmedFollower_freeRuns
  obtain ⟨t, ht, -, -, -, -, -, hticks, -⟩ := hday rearmedFollower quietDay hrun hcold
  have htime : t.time = (rearmedFollower.daybreak quietDay).time := by
    rw [← Host.Outcome.next.inj ht]
  rw [htime, hlen, hcode, hcorr] at hticks
  exact absurd hticks (by decide)

end Sys2Proof.Machine
end

section
/-! Proofs of the family 03_ports_standard_links, first part: an INTA level that lags behind its sources, on which O6 fails, and a harvest into a
host's memory, on which O51 and O55 fail. -/
namespace Sys2Proof.Machine
open Sys2Proof

theorem evt_of_done {s u t : State} (h : s.done u = .next t) : t.evt = u.evt := by
  rw [← Host.Outcome.next.inj h]
  rfl

theorem bnd_of_done {s u t : State} (h : s.done u = .next t) : t.bnd = u.bnd := by
  rw [← Host.Outcome.next.inj h]
  rfl

/-! ### Bus Master Enable and INTA (R74, R394, R396) -/

/-- Port 0 is a host port whose link is up. -/
def hostPortUp : State :=
  (State.setCur { ownerAtBoot with md.mode := .service } (PRT_CFG_ROLE 0) 1).setBit (PRT_LINK_STAT_UP 0) true

/-- Its management function delivers by INTx. Private source 0 came while the IDE policy stopped the port's CXL.io traffic, so INTA was not driven
(R62, R396); the policy has been lifted since, and nothing has brought the level up to date. -/
def intaLags : State := ((hostPortUp.setCur (PRT_IDE_CTL_REQ_IO 0) 1).raisePrivate 0 0).setCur (PRT_IDE_CTL_REQ_IO 0) 0

theorem intaLags_function : (intaLags.mf 0).bme = false ∧ intaLags.targetUp 0 = true ∧ (intaLags.mf 0).inta = false := by decide +kernel

/-- The write that sets Bus Master Enable has INTA follow its sources. -/
theorem intaLags_bmeSet : ((intaLags.bmeSet 0).mf 0).inta = true := by decide +kernel

/-- Refutes O6: it has the write that sets Bus Master Enable change nothing but that bit and send messages alone. A function in INTx mode drives INTA
by its sources whatever Bus Master Enable is (R394, R396), and the write brings a level that lags up to date. -/
theorem not_busMasterReplay : ¬ Obligations.BusMasterReplay := by
  unfold Obligations.BusMasterReplay
  intro hreplay
  obtain ⟨hbme, hup, hlow⟩ := intaLags_function
  have hset : mputD intaLags.evt.mf 0 {} { intaLags.mf 0 with bme := true } = (intaLags.bmeSet 0).evt.mf :=
    congrArg EvtSt.mf (evt_of_done (hreplay intaLags 0 (by decide) hbme hup))
  have hfunction : (intaLags.bmeSet 0).mf 0 = { intaLags.mf 0 with bme := true } :=
    (congrArg (mgetD · 0 {}) hset.symm).trans (mgetD_mputD_same _ _ _ _)
  have hlevel : ((intaLags.bmeSet 0).mf 0).inta = (intaLags.mf 0).inta := by rw [hfunction]
  exact Bool.noConfusion (intaLags_bmeSet.symm.trans (hlevel.trans hlow))

/-! ### A harvest into the memory of a host (R156, R158) -/

/-- The harvest of a binding into the memory of host port 0. -/
def harvestToHost : Harvest := { frame := 1, addr := 0, port := 0, len := 1, lost := false }

/-- Port 0 is a host port that is up, with Bus Master Enable set; binding 1's harvest into its memory is under way. -/
def harvesting : State := { hostPortUp with evt.mf := [(0, { bme := true })], bnd.harv := [(1, harvestToHost)] }

theorem harvesting_port :
    harvesting.isHost 0 = true ∧ harvesting.linkUp 0 = true ∧ (harvesting.mf 0).bme = true ∧ harvesting.bnd.harv = [(1, harvestToHost)] := by
  decide +kernel

theorem harvesting_alone : harvesting.alone 0 := by
  unfold State.alone
  decide +kernel

/-- The harvest meets LOST when its port goes down (R158). -/
theorem harvesting_declareDown : (harvesting.declareDown 0).bnd.harv = [(1, { harvestToHost with lost := true })] := by decide +kernel

/-- The harvest meets LOST when Bus Master Enable of its port is cleared (R158). -/
theorem harvesting_bmeClear : (harvesting.bmeClear 0 1 0 0).bnd.harv = [(1, { harvestToHost with lost := true })] := by decide +kernel

theorem harvestToHost_ne_lost : [(1, harvestToHost)] ≠ [(1, { harvestToHost with lost := true })] := by decide

/-- Refutes O51, by its tenth clause: it has the loss of the link of a host port on which nothing hangs leave the bindings' state as it was.
`State.alone` leaves open whether a harvest into that host's memory is under way, and such a harvest meets LOST as the port goes down (R156, R158). -/
theorem not_portsDownAndReset : ¬ Obligations.PortsDownAndReset := by
  unfold Obligations.PortsDownAndReset
  rintro ⟨-, -, -, -, -, -, -, -, -, hloss, -⟩
  obtain ⟨hhost, hup, -, hharv⟩ := harvesting_port
  obtain ⟨t, ht, -, -, -, -, hframe⟩ := hloss harvesting 0 hhost hup harvesting_alone
  have hexec : exec (.hostPortLinkLoss 0) harvesting = harvesting.done (harvesting.declareDown 0) := congrArg harvesting.done (if_pos hhost)
  have hbnd : harvesting.bnd = (harvesting.declareDown 0).bnd := hframe.symm.trans (bnd_of_done (hexec.symm.trans ht))
  exact harvestToHost_ne_lost (hharv.symm.trans ((congrArg BndSt.harv hbnd).trans harvesting_declareDown))

/-- Refutes O55, by its first clause: it has clearing Bus Master Enable change registers and the function's settings alone where no write is dropped. A
harvest into that host's memory meets LOST then, whether or not one of its writes was waiting (R156, R158). -/
theorem not_hostConfiguration : ¬ Obligations.HostConfiguration := by
  unfold Obligations.HostConfiguration
  rintro ⟨hclear, -⟩
  obtain ⟨-, -, hbme, hharv⟩ := harvesting_port
  obtain ⟨t, ht, -, -, -, -, hframe⟩ := hclear harvesting 0 1 0 0 (by decide) hbme rfl (by decide)
  have hbnd : t.bnd = harvesting.bnd := by rw [hframe]
  have hlost : t.bnd = (harvesting.bmeClear 0 1 0 0).bnd := bnd_of_done ht
  exact harvestToHost_ne_lost (hharv.symm.trans ((congrArg BndSt.harv (hbnd.symm.trans hlost)).trans harvesting_bmeClear))

end Sys2Proof.Machine
end

section
/-! Proofs of the family 03_ports_standard_links, second part: L1 and L0p (O50). -/
namespace Sys2Proof.Machine
open Sys2Proof

theorem mem_sadd_self (l : List Nat) (k : Nat) : k ∈ sadd l k := by
  induction l with
  | nil => exact List.mem_singleton_self k
  | cons j t ih =>
    unfold sadd
    split_ifs with hlt heq
    · exact List.mem_cons_self
    · exact heq ▸ List.mem_cons_self
    · exact List.mem_cons_of_mem j ih

/-- A command whose result has the time and the queue of the old state answers that result. -/
theorem State.done_eq_next {s u : State} (htime : u.time = s.time) (hpending : u.pending = s.pending) : s.done u = .next u := by
  unfold State.done State.keepClock
  rw [htime, ← hpending, ← htime]

/-! ### Two fields of one word -/

theorem PRT_PM_STAT_STATE_fits (p : Nat) : (PRT_PM_STAT_STATE p).lsb + (PRT_PM_STAT_STATE p).width ≤ 32 := by
  simp [PRT_PM_STAT_STATE]

theorem PRT_PM_STAT_L0P_WIDTH_fits (p : Nat) : (PRT_PM_STAT_L0P_WIDTH p).lsb + (PRT_PM_STAT_L0P_WIDTH p).width ≤ 32 := by
  simp [PRT_PM_STAT_L0P_WIDTH]

theorem PRT_PM_STAT_L1_CNT_fits (p : Nat) : (PRT_PM_STAT_L1_CNT p).lsb + (PRT_PM_STAT_L1_CNT p).width ≤ 32 := by
  simp [PRT_PM_STAT_L1_CNT]

theorem State.fld_width_setFld_pmState (s : State) (p v : Nat) :
    (s.setFld (PRT_PM_STAT_STATE p) v).fld (PRT_PM_STAT_L0P_WIDTH p) = s.fld (PRT_PM_STAT_L0P_WIDTH p) :=
  State.fld_setFld_bits _ _ _ _ rfl rfl (.inr (by simp [PRT_PM_STAT_STATE, PRT_PM_STAT_L0P_WIDTH]))

/-! ### What marking the lanes in use changes (R81) -/

/-- A state differs from another in its lanes alone: in their registers, which lie from 0x1800000 on, and in what is kept of them. -/
structure State.LanesChange (s t : State) : Prop where
  frame : t = { s with regs := t.regs, lan := t.lan }
  fld_below : ∀ f : Fld, f.addr < 0x1800000 → t.fld f = s.fld f

theorem State.LanesChange.refl (s : State) : s.LanesChange s := ⟨rfl, fun _ _ => rfl⟩

theorem State.LanesChange.trans {s t u : State} (h : s.LanesChange t) (g : t.LanesChange u) : s.LanesChange u where
  frame := g.frame.trans (by rw [h.frame])
  fld_below f hf := (g.fld_below f hf).trans (h.fld_below f hf)

theorem State.lanesChange_setBit (s : State) {f : Fld} (v : Bool) (hf : 0x1800000 ≤ f.addr) : s.LanesChange (s.setBit f v) :=
  ⟨rfl, fun g hg => State.fld_setBit_addr s f g v (by omega)⟩

theorem LAN_STAT_ge (l : Nat) : 0x1800000 ≤ LAN_STAT l := by
  unfold LAN_STAT
  omega

theorem State.laneOn_lanesChange (s : State) (l : Nat) : s.LanesChange (s.laneOn l) := by
  have hmarked : s.LanesChange (((s.setBit (LAN_STAT_IN_USE l) true).setBit (LAN_STAT_LOS l) false).setBit (LAN_STAT_LOL l) false) :=
    ((s.lanesChange_setBit true (LAN_STAT_ge l)).trans (State.lanesChange_setBit _ false (LAN_STAT_ge l))).trans
      (State.lanesChange_setBit _ false (LAN_STAT_ge l))
  unfold State.laneOn
  dsimp only
  split
  · exact hmarked
  · exact hmarked.trans ⟨rfl, fun _ _ => rfl⟩

theorem State.markLanes_lanesChange (s : State) (p c : Nat) (high : Bool) : s.LanesChange (s.markLanes p c high) := by
  unfold State.markLanes
  refine List.foldlRecOn (motive := s.LanesChange) _ _ (.refl s) fun t ht l _ => ht.trans ?_
  split
  · exact t.laneOn_lanesChange l
  · exact t.lanesChange_setBit false (LAN_STAT_ge l)

/-! ### L0p changes the active width (R67) -/

theorem PRT_PM_STAT_lt {p : Nat} (hp : p < 128) : PRT_PM_STAT p < 0x1800000 := by
  unfold PRT_PM_STAT
  omega

theorem PRT_LINK_STAT_lt {p : Nat} (hp : p < 128) : PRT_LINK_STAT p < 0x1800000 := by
  unfold PRT_LINK_STAT
  omega

/-- The state in which L0p marks the lanes of the new width. -/
def State.l0pWord (s : State) (p c : Nat) : State :=
  let s1 := ({ s with xbr.paused := sadd s.xbr.paused p } : State).setFld (PRT_PM_STAT_L0P_WIDTH p) c
  s1.setFld (PRT_PM_STAT_STATE p) (s1.upState p)

theorem State.l0pTo_lanesChange (s : State) (p c : Nat) : (s.l0pWord p c).LanesChange (s.l0pTo p c) := State.markLanes_lanesChange _ _ _ _

/-- A change of width changes registers, what is kept of the lanes, and which outputs paused in the frame. -/
theorem State.l0pTo_frame (s : State) (p c : Nat) :
    s.l0pTo p c = { s with regs := (s.l0pTo p c).regs, lan := (s.l0pTo p c).lan, xbr.paused := sadd s.xbr.paused p } :=
  (s.l0pTo_lanesChange p c).frame

theorem State.l0pTo_keeps (s : State) (p c : Nat) :
    (s.l0pTo p c).time = s.time ∧ (s.l0pTo p c).pending = s.pending ∧ (s.l0pTo p c).home = s.home ∧ (s.l0pTo p c).bnd = s.bnd ∧
      p ∈ (s.l0pTo p c).xbr.paused := by
  rw [s.l0pTo_frame p c]
  exact ⟨rfl, rfl, rfl, rfl, mem_sadd_self s.xbr.paused p⟩

theorem State.l0pTo_width (s : State) {p c : Nat} (hp : p < 128) (hc : c < 8) : (s.l0pTo p c).fld (PRT_PM_STAT_L0P_WIDTH p) = c := by
  rw [(s.l0pTo_lanesChange p c).fld_below _ (PRT_PM_STAT_lt hp)]
  unfold State.l0pWord
  dsimp only
  rw [State.fld_width_setFld_pmState, State.fld_setFld_same _ _ _ (PRT_PM_STAT_L0P_WIDTH_fits p)]
  exact Nat.mod_eq_of_lt hc

/-- A port that runs at its trained width is in L0. -/
theorem State.l0pTo_trained_pmState (s : State) {p : Nat} (hp : p < 128) (hc : (s.px p).trained < 8) :
    (s.l0pTo p (s.px p).trained).fld (PRT_PM_STAT_STATE p) = 0 := by
  have hup : State.upState (State.setFld { s with xbr.paused := sadd s.xbr.paused p } (PRT_PM_STAT_L0P_WIDTH p) (s.px p).trained) p = 0 := by
    unfold State.upState
    rw [State.fld_setFld_same _ _ _ (PRT_PM_STAT_L0P_WIDTH_fits p)]
    refine if_neg ?_
    exact Nat.not_lt.2 (Nat.mod_eq_of_lt hc).ge
  rw [(s.l0pTo_lanesChange p _).fld_below _ (PRT_PM_STAT_lt hp)]
  unfold State.l0pWord
  dsimp only
  rw [hup, State.fld_setFld_same _ _ _ (PRT_PM_STAT_STATE_fits p)]
  rfl

theorem State.l0pTo_linkUp (s : State) {p : Nat} (hp : p < 128) (c : Nat) : (s.l0pTo p c).linkUp p = s.linkUp p := by
  have hne : PRT_PM_STAT p ≠ PRT_LINK_STAT p := by
    unfold PRT_PM_STAT PRT_LINK_STAT
    omega
  unfold State.linkUp State.bit
  rw [(s.l0pTo_lanesChange p c).fld_below _ (PRT_LINK_STAT_lt hp)]
  unfold State.l0pWord
  dsimp only
  rw [State.fld_setFld_addr _ _ _ _ hne, State.fld_setFld_addr _ _ _ _ hne]
  rfl

/-- The message on a port's wire that runs slower changes its own end, and the overrun count of the port's gate list. -/
theorem State.slowWire_frame (s : State) (p r : Nat) : ∃ w, s.slowWire p r = { s with regs := (s.slowWire p r).regs, xbr.wire := w } := by
  unfold State.slowWire
  dsimp only
  split
  · split_ifs <;> exact ⟨_, rfl⟩
  · exact ⟨_, rfl⟩

theorem State.slowWire_keeps (s : State) (p r : Nat) : (s.slowWire p r).time = s.time ∧
    (s.slowWire p r).pending = s.pending ∧ (s.slowWire p r).home = s.home ∧ (s.slowWire p r).bnd = s.bnd ∧
      (s.slowWire p r).xbr.paused = s.xbr.paused := by
  obtain ⟨w, hw⟩ := s.slowWire_frame p r
  rw [hw]
  exact ⟨rfl, rfl, rfl, rfl, rfl⟩

theorem State.slowWire_fld (s : State) (p r : Nat) {f : Fld} (hf : PRT_GL_CTL p ≠ f.addr) : (s.slowWire p r).fld f = s.fld f := by
  unfold State.slowWire
  dsimp only
  split
  · split_ifs
    · rfl
    · exact State.fld_inc_addr _ _ _ hf
    · rfl
  · rfl

theorem PRT_GL_CTL_ne (p : Nat) : PRT_GL_CTL p ≠ PRT_PM_STAT p ∧ PRT_GL_CTL p ≠ PRT_LINK_STAT p := by
  unfold PRT_GL_CTL PRT_PM_STAT PRT_LINK_STAT
  omega

theorem State.slowWire_linkUp (s : State) (p r : Nat) : (s.slowWire p r).linkUp p = s.linkUp p := by
  unfold State.linkUp State.bit
  rw [s.slowWire_fld p r (PRT_GL_CTL_ne p).2]

/-! ### L1 (R66) -/

/-- In the word of a port's link power, entering L1 sets STATE and counts in L1_CNT. -/
theorem State.l1Entered_fld (s : State) (p : Nat) :
    ((s.setFld (PRT_PM_STAT_STATE p) 2).inc (PRT_PM_STAT_L1_CNT p)).fld (PRT_PM_STAT_STATE p) = 2 ∧
      ((s.setFld (PRT_PM_STAT_STATE p) 2).inc (PRT_PM_STAT_L1_CNT p)).fld (PRT_PM_STAT_L1_CNT p) = s.oneMore (PRT_PM_STAT_L1_CNT p) := by
  have hstate : (s.setFld (PRT_PM_STAT_STATE p) 2).fld (PRT_PM_STAT_STATE p) = 2 := State.fld_setFld_same _ _ _ (PRT_PM_STAT_STATE_fits p)
  have hcount : (s.setFld (PRT_PM_STAT_STATE p) 2).fld (PRT_PM_STAT_L1_CNT p) = s.fld (PRT_PM_STAT_L1_CNT p) :=
    State.fld_setFld_bits _ _ _ _ rfl rfl (.inr (by simp [PRT_PM_STAT_STATE, PRT_PM_STAT_L1_CNT]))
  constructor
  · refine (State.fld_setFld_bits _ (PRT_PM_STAT_L1_CNT p) (PRT_PM_STAT_STATE p) _ rfl rfl (.inl ?_)).trans hstate
    simp [PRT_PM_STAT_STATE, PRT_PM_STAT_L1_CNT]
  · rw [State.fld_inc_same _ _ (PRT_PM_STAT_L1_CNT_fits p), hcount]
    rfl

theorem exec_l1Entry_enters {s : State} {p us : Nat} (hp : p < 128) (hst : s.fld (PRT_PM_STAT_STATE p) ≠ 2) (hmay : s.mayL1 p us = true) :
    exec (.l1Entry p us) s = s.done ((s.setFld (PRT_PM_STAT_STATE p) 2).inc (PRT_PM_STAT_L1_CNT p)) := by
  refine congrArg s.done (if_neg ?_)
  simp [hp, hst, hmay]

theorem exec_l1Entry_barred {s : State} {p us : Nat} (h : 128 ≤ p ∨ s.fld (PRT_PM_STAT_STATE p) = 2 ∨ s.mayL1 p us = false) :
    exec (.l1Entry p us) s = .next s := by
  refine congrArg s.done (if_pos ?_)
  simpa using h

/-- The state in which a port has left L1, before the wake cause takes effect. -/
def State.l1Left (s : State) (p : Nat) : State :=
  ({ s with xbr.paused := sadd s.xbr.paused p } : State).setFld (PRT_PM_STAT_STATE p) (s.upState p)

theorem exec_l1Exit_leaves {s : State} {p : Nat} (hp : p < 128) (hst : s.fld (PRT_PM_STAT_STATE p) = 2) :
    exec (.l1Exit p) s = s.done ((s.l1Left p).wake none) := by
  refine congrArg s.done (if_neg ?_)
  simp [hp, hst]

theorem exec_l1Exit_barred {s : State} {p : Nat} (h : 128 ≤ p ∨ s.fld (PRT_PM_STAT_STATE p) ≠ 2) : exec (.l1Exit p) s = .next s :=
  congrArg s.done (if_pos h)

theorem State.upState_lt (s : State) (p : Nat) : s.upState p < 4 := by
  unfold State.upState
  split <;> decide

theorem State.l1Left_pmState (s : State) (p : Nat) : ((s.l1Left p).wake none).fld (PRT_PM_STAT_STATE p) = s.upState p := by
  rw [State.fld_congr (State.wake_regs _ none)]
  exact (State.fld_setFld_same _ _ _ (PRT_PM_STAT_STATE_fits p)).trans (Nat.mod_eq_of_lt (s.upState_lt p))

/-- A wake cause changes what is kept of modes and power alone. -/
theorem State.wake_frame (s : State) (w : Option Power) : s.wake w = { s with md := (s.wake w).md } := by
  unfold State.wake
  split <;> rfl

/-- In Hold a wake cause starts the resume to the state before Hold (R334). -/
theorem State.wake_hold_of_held {s : State} (h : s.md.hold = .held) : (s.wake none).md.hold = .waking s.md.preHold s.now := by
  unfold State.wake
  rw [h]
  rfl

/-! ### Where L0p applies (R67) -/

theorem exec_l0pNarrow_narrows {s : State} {p used total : Nat} (hp : p < 128) (hup : s.linkUp p = true) (hrole : s.role p ≠ 3)
    (hst : s.fld (PRT_PM_STAT_STATE p) ≠ 2) (hen : s.bit (PRT_PM_CTL_L0P_EN p) = true) (hwin : s.fld (PRT_PM_CTL_L0P_WIN p) ≠ 0)
    (hhost : s.role p = 1 → (s.px p).l0pHost = true) (hused : 16 * used < s.fld (PRT_PM_CTL_L0P_THR p) * total)
    (hwide : 2 ≤ s.fld (PRT_PM_STAT_L0P_WIDTH p)) (hquarter : (s.px p).trained < s.fld (PRT_PM_STAT_L0P_WIDTH p) + 2) :
    exec (.l0pNarrow p used total) s = s.done ((s.l0pTo p (s.fld (PRT_PM_STAT_L0P_WIDTH p) - 1)).slowWire p (s.portRate p)) := by
  refine congrArg s.done (if_neg ?_)
  simp only [hup, hrole, hst, hen, hwin, Bool.not_true, Bool.false_eq_true, false_or, not_or]
  refine ⟨by omega, fun hbarred => ?_, by omega, by omega, by omega⟩
  simp [hhost hbarred.1] at hbarred

theorem exec_l0pNarrow_barred {s : State} {p used total : Nat} (h : 128 ≤ p ∨ s.linkUp p = false ∨ s.role p = 3 ∨
    s.bit (PRT_PM_CTL_L0P_EN p) = false ∨ s.fld (PRT_PM_CTL_L0P_THR p) * total ≤ 16 * used ∨ s.fld (PRT_PM_STAT_L0P_WIDTH p) ≤ 1) :
    exec (.l0pNarrow p used total) s = .next s := by
  refine congrArg s.done (if_pos ?_)
  simp only [Bool.not_eq_true']
  tauto

theorem exec_l0pRestore_restores {s : State} {p used total ns : Nat} (hp : p < 128) (hup : s.linkUp p = true)
    (hnarrow : s.fld (PRT_PM_STAT_L0P_WIDTH p) ≠ (s.px p).trained) (hload : 3 * total < 4 * used ∨ 1000 < ns) :
    exec (.l0pRestore p used total ns) s = s.done (s.l0pTo p (s.px p).trained) := by
  refine congrArg s.done (if_neg ?_)
  simp only [hup, hnarrow, Bool.not_true, Bool.false_eq_true, false_or]
  omega

theorem exec_l0pRestore_barred {s : State} {p used total ns : Nat} (h : 128 ≤ p ∨ s.linkUp p = false ∨
    s.fld (PRT_PM_STAT_L0P_WIDTH p) = (s.px p).trained ∨ (4 * used ≤ 3 * total ∧ ns ≤ 1000)) :
    exec (.l0pRestore p used total ns) s = .next s := by
  refine congrArg s.done (if_pos ?_)
  simpa using h

theorem State.fld_width_lt (s : State) (p : Nat) : s.fld (PRT_PM_STAT_L0P_WIDTH p) < 8 := State.fld_lt s (PRT_PM_STAT_L0P_WIDTH p)

/-- Settles O50: whether a change takes place is the condition of its definition; L1 writes the two fields of one word, and L0p the active width in that
word and then registers of lanes, which lie beyond every port's registers. -/
theorem linkPower : Obligations.LinkPower := by
  unfold Obligations.LinkPower
  refine ⟨?l1Enters, fun s p us => exec_l1Entry_barred, ?l1Leaves, fun s p => exec_l1Exit_barred, ?narrows, fun s p used total => exec_l0pNarrow_barred,
    ?restores, fun s p used total ns => exec_l0pRestore_barred⟩
  case l1Enters =>
    intro s p us hp hst hmay
    obtain ⟨hstate, hcount⟩ := s.l1Entered_fld p
    exact ⟨_, exec_l1Entry_enters hp hst hmay, hstate, hcount, rfl⟩
  case l1Leaves =>
    intro s p hp hst
    have hframe := (s.l1Left p).wake_frame none
    refine ⟨_, exec_l1Exit_leaves hp hst, s.l1Left_pmState p, ?paused, fun hheld => State.wake_hold_of_held (s := s.l1Left p) hheld, ?frame⟩
    case paused =>
      rw [hframe]
      exact mem_sadd_self s.xbr.paused p
    case frame =>
      rw [hframe]
      rfl
  case narrows =>
    intro s p used total hp hup hrole hst hen hwin hhost hused hwide hquarter
    have hwidth := s.fld_width_lt p
    obtain ⟨htime, hpending, hhome, hbnd, hpaused⟩ := s.l0pTo_keeps p (s.fld (PRT_PM_STAT_L0P_WIDTH p) - 1)
    obtain ⟨wtime, wpending, whome, wbnd, wpaused⟩ := (s.l0pTo p (s.fld (PRT_PM_STAT_L0P_WIDTH p) - 1)).slowWire_keeps p (s.portRate p)
    refine ⟨_, (exec_l0pNarrow_narrows hp hup hrole hst hen hwin hhost hused hwide hquarter).trans
      (State.done_eq_next (wtime.trans htime) (wpending.trans hpending)), ?_, wpaused.symm ▸ hpaused,
      (State.slowWire_linkUp _ p _).trans ((s.l0pTo_linkUp hp _).trans hup), wtime.trans htime, whome.trans hhome, wbnd.trans hbnd⟩
    exact (State.slowWire_fld _ p _ (PRT_GL_CTL_ne p).1).trans (s.l0pTo_width hp (by omega))
  case restores =>
    intro s p used total ns hp hup hnarrow htrained hload
    obtain ⟨htime, hpending, hhome, hbnd, -⟩ := s.l0pTo_keeps p (s.px p).trained
    exact ⟨_, (exec_l0pRestore_restores hp hup hnarrow hload).trans (State.done_eq_next htime hpending), s.l0pTo_width hp (by omega),
      s.l0pTo_trained_pmState hp (by omega), htime, hhome, hbnd⟩

end Sys2Proof.Machine
end

section
/-! Proofs of the family 04_lanes, first part: a lane in use beyond the width its port has trained to, on which O52 fails. -/
namespace Sys2Proof.Machine
open Sys2Proof

/-- Host port 0 has trained to one lane, lane 0; lane 1 is marked in use all the same. -/
def usedBeyondWidth : State := hostPortUp.setBit (LAN_STAT_IN_USE 1) true

/-- Its detector acts on lane 1, which sees no signal, and the port has lane sets without lane 1. -/
theorem usedBeyondWidth_lane :
    usedBeyondWidth.isLos 1 0 100 = true ∧ usedBeyondWidth.engineOn 1 = false ∧ usedBeyondWidth.laneWatched 1 = true ∧
      usedBeyondWidth.role (usedBeyondWidth.portOfLane 1) ≠ 3 ∧ usedBeyondWidth.formed (usedBeyondWidth.portOfLane 1) = true ∧
      usedBeyondWidth.parkStrands 1 = false := by decide +kernel

/-- The port does not retrain, since it has not trained over the lane: IN_USE stays. -/
theorem usedBeyondWidth_parks :
    (usedBeyondWidth.laneLost 1 1 true).parked 1 = true ∧ (usedBeyondWidth.laneLost 1 1 true).bit (LAN_STAT_IN_USE 1) = true := by decide +kernel

/-- Refutes O52, by its fourth clause: it has a watched lane that is parked leave the lanes in use. A lane is watched by its IN_USE bit, while parking
takes out of use a lane of the trained width alone (R80), and no premise of the clause ties the two: lane 1, marked in use on a port that has trained
to lane 0, is parked and stays marked in use. -/
theorem not_laneDetectors : ¬ Obligations.LaneDetectors := by
  unfold Obligations.LaneDetectors
  rintro ⟨-, -, -, hpark, -⟩
  obtain ⟨hlos, hengine, hwatched, hrole, hformed, hstrands⟩ := usedBeyondWidth_lane
  obtain ⟨t, ht, -, -, -, -, hunused, -⟩ := hpark usedBeyondWidth 1 0 100 (by decide) hlos hengine hwatched hrole hformed hstrands
  have hexec : exec (.laneSignalLoss 1 0 100 false true) usedBeyondWidth = usedBeyondWidth.done (usedBeyondWidth.laneLost 1 1 true) :=
    congrArg usedBeyondWidth.done (if_pos ⟨by decide, rfl, hlos⟩)
  have hregs := regs_of_done (hexec.symm.trans ht)
  rw [State.bit_congr hregs, usedBeyondWidth_parks.2] at hunused
  exact Bool.noConfusion hunused

end Sys2Proof.Machine
end

section
/-! Proofs of the family 04_lanes, second part: LAN_CTL and the pattern engines (O53). -/
namespace Sys2Proof

/-! ### Bit ranges of masked words -/

theorem getBits_congr {x y : Word} {lsb n : Nat} (h : ∀ i < n, x.getLsbD (lsb + i) = y.getLsbD (lsb + i)) : getBits x lsb n = getBits y lsb n := by
  refine Nat.eq_of_testBit_eq fun i => ?_
  rw [getBits_eq_extract, getBits_eq_extract]
  by_cases hi : i < n
  · rw [h i hi]
  · simp [hi]

/-- A mask keeps the ranges it covers. -/
theorem getBits_and (x : Word) {m : Word} {lsb n : Nat} (hm : ∀ i < n, m.getLsbD (lsb + i) = true) : getBits (x &&& m) lsb n = getBits x lsb n :=
  getBits_congr fun i hi => by rw [BitVec.getLsbD_and, hm i hi, Bool.and_true]

theorem getBits_or (x : Word) {y : Word} {lsb n : Nat} (hy : ∀ i < n, y.getLsbD (lsb + i) = false) : getBits (x ||| y) lsb n = getBits x lsb n :=
  getBits_congr fun i hi => by rw [BitVec.getLsbD_or, hy i hi, Bool.or_false]

theorem getBits_mix (x y : Word) {m : Word} {lsb n : Nat} (hm : ∀ i < n, m.getLsbD (lsb + i) = true) :
    getBits (Machine.mix m x y) lsb n = getBits y lsb n :=
  getBits_congr fun i hi => by
    rw [Machine.mix, BitVec.getLsbD_or, BitVec.getLsbD_and, BitVec.getLsbD_and, BitVec.getLsbD_not, hm i hi]
    simp

end Sys2Proof

namespace Sys2Proof.Machine
open Sys2Proof

theorem getBits_keepIf_other (bad : Bool) (l w : Nat) (x y : Word) {l' w' : Nat} (h : l' + w' ≤ l ∨ l + w ≤ l') :
    getBits (keepIf bad l w x y) l' w' = getBits y l' w' := by
  cases bad
  · rfl
  · exact getBits_setBits_ne _ _ _ _ _ _ h

theorem getBits_keepIf_same (bad : Bool) {l w : Nat} (x y : Word) (h : l + w ≤ 32) :
    getBits (keepIf bad l w x y) l w = if bad then getBits x l w else getBits y l w := by
  cases bad
  · rfl
  · exact (getBits_setBits_same _ _ _ _ h).trans (Nat.mod_eq_of_lt (getBits_lt _ _ _))

/-! ### Two fields that share no bit -/

/-- Two fields lie in different bits of their words, which have the same reset word. -/
def Fld.bitsApart (f g : Fld) : Bool := f.rst == g.rst && (decide (g.lsb + g.width ≤ f.lsb) || decide (f.lsb + f.width ≤ g.lsb))

/-- A field keeps its value when other bits are written, be it in its own word or in another. -/
theorem State.fld_setFld_apart (s : State) {f g : Fld} (v : Nat) (h : f.bitsApart g = true) : (s.setFld f v).fld g = s.fld g := by
  simp only [Fld.bitsApart, Bool.and_eq_true, beq_iff_eq, Bool.or_eq_true, decide_eq_true_eq] at h
  obtain ⟨hrst, hbits⟩ := h
  by_cases ha : f.addr = g.addr
  · exact State.fld_setFld_bits s f g v ha hrst hbits
  · exact State.fld_setFld_addr s f g v ha

theorem State.bit_setFld_apart (s : State) {f g : Fld} (v : Nat) (h : f.bitsApart g = true) : (s.setFld f v).bit g = s.bit g := by
  unfold State.bit
  rw [State.fld_setFld_apart s v h]

theorem State.bit_setBit_apart (s : State) {f g : Fld} (v : Bool) (h : f.bitsApart g = true) : (s.setBit f v).bit g = s.bit g :=
  State.bit_setFld_apart s _ h

theorem State.fld_setBit_apart (s : State) {f g : Fld} (v : Bool) (h : f.bitsApart g = true) : (s.setBit f v).fld g = s.fld g :=
  State.fld_setFld_apart s _ h

/-! ### LAN_PAT_CTL: the settings of a pattern engine -/

/-- A word carries the settings that a lane's pattern engine has. -/
structure State.HasSettings (s : State) (l : Nat) (w : Word) : Prop where
  pat : s.fld (LAN_PAT_CTL_PAT l) = getBits w 0 3
  gen : s.bit (LAN_PAT_CTL_GEN_EN l) = getBit w 3
  chk : s.bit (LAN_PAT_CTL_CHK_EN l) = getBit w 4
  loop : s.fld (LAN_PAT_CTL_LOOP l) = getBits w 5 2
  rate : s.fld (LAN_PAT_CTL_INJ_RATE l) = getBits w 8 5

/-- What a write does only bits 0 to 13 of its word say. -/
theorem State.patWrite_and (s : State) (l : Nat) (w : Word) : s.patWrite l (w &&& 0x3FFF#32) = s.patWrite l w := by
  have hbits : ∀ lsb n, lsb + n ≤ 14 → getBits (w &&& 0x3FFF#32) lsb n = getBits w lsb n := by
    intro lsb n hn
    refine getBits_and w fun i hi => ?_
    have hall : ∀ k < 14, (0x3FFF#32).getLsbD k = true := by decide
    exact hall _ (by omega)
  unfold State.patWrite State.patJudge getBit
  rw [hbits 0 3 (by decide), hbits 3 1 (by decide), hbits 4 1 (by decide), hbits 5 2 (by decide), hbits 7 1 (by decide), hbits 8 5 (by decide),
    hbits 13 1 (by decide)]

/-- The word is handled whole, for every principal that LAN_PAT_CTL lists. -/
theorem State.writeWord_LAN_PAT_CTL (s : State) {x : RegAcc} {l : Nat} (hwho : x.prin.isIn 35 = true) (hl : l < 512) (w : Word) :
    s.writeWord x (LAN_PAT_CTL l) w = s.patWrite l w := by
  rw [← s.patWrite_and l w]
  unfold State.writeWord
  rw [lookupReg_LAN_PAT_CTL l hl]
  simp [RegDef.maskOf, fieldFor, fieldWho, hwho, State.wholeWrite, fieldMask]

theorem exec_patternControlWrite {s : State} {b : Bus} {l : Nat} {w : Word} (ht : s.takesWrite b (LAN_PAT_CTL l) = true)
    (hwho : (s.busP b).isIn 35 = true) (hl : l < 512) : exec (.patternControlWrite b l w) s = s.done (s.patWrite l w) :=
  congrArg s.done ((busWrite_takes ht _ _).trans (s.writeWord_LAN_PAT_CTL hwho hl w))

theorem exec_patternInject {s : State} {b : Bus} {l : Nat} (ht : s.takesWrite b (LAN_PAT_CTL l) = true) (hwho : (s.busP b).isIn 35 = true)
    (hl : l < 512) : exec (.patternInject b l) s = s.done (s.patWrite l (s.withBits (LAN_PAT_CTL l) 0x80)) :=
  congrArg s.done ((busWrite_takes ht _ _).trans (s.writeWord_LAN_PAT_CTL hwho hl _))

theorem exec_patternErrClear {s : State} {b : Bus} {l : Nat} (ht : s.takesWrite b (LAN_PAT_CTL l) = true) (hwho : (s.busP b).isIn 35 = true)
    (hl : l < 512) : exec (.patternErrClear b l) s = s.done (s.patWrite l (s.withBits (LAN_PAT_CTL l) 0x2000)) :=
  congrArg s.done ((busWrite_takes ht _ _).trans (s.writeWord_LAN_PAT_CTL hwho hl _))

theorem resetWord_LAN_PAT_CTL {l : Nat} (hl : l < 512) : resetWord (LAN_PAT_CTL l) = 0 := by
  unfold resetWord
  rw [lookupReg_LAN_PAT_CTL l hl]
  rfl

theorem State.withBits_LAN_PAT_CTL (s : State) {l : Nat} (hl : l < 512) (bits : Word) :
    s.withBits (LAN_PAT_CTL l) bits = (rget s.regs (LAN_PAT_CTL l) 0 &&& 0x1F7F#32) ||| bits := by
  unfold State.withBits State.word
  rw [lookupReg_LAN_PAT_CTL l hl, resetWord_LAN_PAT_CTL hl]
  simp [RegDef.maskOf, fieldMask]

/-- The word that a sender of action bits writes carries the settings of the lane (R84, R85). -/
theorem State.hasSettings_withBits (s : State) {l : Nat} (hl : l < 512) {bits : Word} (hbits : bits &&& 0x1F7F#32 = 0) :
    s.HasSettings l (s.withBits (LAN_PAT_CTL l) bits) := by
  have hclear : ∀ k, (0x1F7F#32).getLsbD k = true → bits.getLsbD k = false := by
    intro k hk
    have hzero := congrArg (BitVec.getLsbD · k) hbits
    simpa [BitVec.getLsbD_and, hk] using hzero
  have hread : ∀ lsb n, (∀ i < n, (0x1F7F#32).getLsbD (lsb + i) = true) →
      getBits (s.withBits (LAN_PAT_CTL l) bits) lsb n = getBits (rget s.regs (LAN_PAT_CTL l) 0) lsb n := by
    intro lsb n hm
    rw [s.withBits_LAN_PAT_CTL hl, getBits_or _ fun i hi => hclear _ (hm i hi), getBits_and _ hm]
  exact ⟨(hread 0 3 (by decide)).symm, (congrArg (· == 1) (hread 3 1 (by decide))).symm, (congrArg (· == 1) (hread 4 1 (by decide))).symm,
    (hread 5 2 (by decide)).symm, (hread 8 5 (by decide)).symm⟩

/-! ### A write of LAN_PAT_CTL is judged (R83) -/

theorem State.patJudge_drop {s : State} {l : Nat} {w : Word} (h : 4 < getBits w 0 3 ∨ getBits w 5 2 = 3 ∨ 20 < getBits w 8 5) :
    s.patJudge l w = .drop := if_pos h

theorem State.patJudge_refuse {s : State} {l : Nat} {w : Word} (hpat : getBits w 0 3 ≤ 4) (hloop : getBits w 5 2 ≠ 3) (hrate : getBits w 8 5 ≤ 20)
    (hruns : getBit w 3 = true ∨ getBit w 4 = true ∨ getBits w 5 2 ≠ 0) (hacc : s.engineAccepted l = false) : s.patJudge l w = .refuse := by
  have hdrop : ¬ (4 < getBits w 0 3 ∨ getBits w 5 2 = 3 ∨ 20 < getBits w 8 5) := by omega
  have hidle : (! (getBit w 3 || getBit w 4 || getBits w 5 2 != 0)) = false := by
    simp only [Bool.not_eq_eq_eq_not, Bool.not_false, Bool.or_eq_true, bne_iff_ne, or_assoc]
    exact hruns
  simp only [State.patJudge, if_neg hdrop, hidle, hacc]
  rfl

theorem State.patJudge_take {s : State} {l : Nat} {w : Word} (hpat : getBits w 0 3 ≤ 4) (hloop : getBits w 5 2 ≠ 3) (hrate : getBits w 8 5 ≤ 20)
    (hacc : s.engineAccepted l = true ∨ (getBit w 3 = false ∧ getBit w 4 = false ∧ getBits w 5 2 = 0)) (hup : s.parkedOfUp l = false) :
    s.patJudge l w = .take := by
  have hdrop : ¬ (4 < getBits w 0 3 ∨ getBits w 5 2 = 3 ∨ 20 < getBits w 8 5) := by omega
  unfold State.patJudge
  simp only [if_neg hdrop, hup]
  obtain hacc | ⟨hgen, hchk, hnone⟩ := hacc
  · simp [hacc]
  · simp [hgen, hchk, hnone]

/-! ### The settings take (R83, R84) -/

/-- The state with the settings of a word in LAN_PAT_CTL. -/
def State.patSet (s : State) (l : Nat) (w : Word) : State :=
  ((((s.setFld (LAN_PAT_CTL_PAT l) (getBits w 0 3)).setBit (LAN_PAT_CTL_GEN_EN l) (getBit w 3)).setBit (LAN_PAT_CTL_CHK_EN l)
    (getBit w 4)).setFld (LAN_PAT_CTL_LOOP l) (getBits w 5 2)).setFld (LAN_PAT_CTL_INJ_RATE l) (getBits w 8 5)

/-- The state after a write that is taken, before INJ: the settings, the engine's status and CLR. -/
def State.patTaken (s : State) (l : Nat) (w : Word) : State :=
  if getBit w 13 then ((s.patSet l w).patStatus l).setFld (LAN_PAT_STAT_ERR_CNT l) 0 else (s.patSet l w).patStatus l

theorem State.patWrite_of_take {s : State} {l : Nat} {w : Word} (hj : s.patJudge l w = .take) (hup : s.parkedOfUp l = false) :
    s.patWrite l w = if getBit w 7 then (s.patTaken l w).inject l else s.patTaken l w := by
  unfold State.patWrite State.patTaken State.patSet
  simp only [hj, hup, Bool.false_and, Bool.not_false, Bool.and_true]

theorem State.patSet_hasSettings (s : State) (l : Nat) (w : Word) : (s.patSet l w).HasSettings l w := by
  unfold State.patSet
  refine ⟨?pat, ?gen, ?chk, ?loop, ?rate⟩
  case pat =>
    rw [State.fld_setFld_apart _ _ rfl, State.fld_setFld_apart _ _ rfl, State.fld_setBit_apart _ _ rfl, State.fld_setBit_apart _ _ rfl]
    exact (State.fld_setFld_same _ _ _ (Nat.le_of_ble_eq_true rfl)).trans (Nat.mod_eq_of_lt (getBits_lt w 0 3))
  case gen =>
    rw [State.bit_setFld_apart _ _ rfl, State.bit_setFld_apart _ _ rfl, State.bit_setBit_apart _ _ rfl]
    exact State.bit_setBit_same _ _ _ (Nat.le_of_ble_eq_true rfl) rfl
  case chk =>
    rw [State.bit_setFld_apart _ _ rfl, State.bit_setFld_apart _ _ rfl]
    exact State.bit_setBit_same _ _ _ (Nat.le_of_ble_eq_true rfl) rfl
  case loop =>
    rw [State.fld_setFld_apart _ _ rfl]
    exact (State.fld_setFld_same _ _ _ (Nat.le_of_ble_eq_true rfl)).trans (Nat.mod_eq_of_lt (getBits_lt w 5 2))
  case rate => exact (State.fld_setFld_same _ _ _ (Nat.le_of_ble_eq_true rfl)).trans (Nat.mod_eq_of_lt (getBits_lt w 8 5))

theorem LAN_PAT_CTL_ne_STAT (l : Nat) : LAN_PAT_CTL l ≠ LAN_PAT_STAT l := by
  unfold LAN_PAT_CTL LAN_PAT_STAT
  omega

theorem State.patSet_errCnt (s : State) (l : Nat) (w : Word) : (s.patSet l w).fld (LAN_PAT_STAT_ERR_CNT l) = s.fld (LAN_PAT_STAT_ERR_CNT l) := by
  have hne := LAN_PAT_CTL_ne_STAT l
  unfold State.patSet
  rw [State.fld_setFld_addr _ _ _ _ hne, State.fld_setFld_addr _ _ _ _ hne, State.fld_setBit_addr _ _ _ _ hne, State.fld_setBit_addr _ _ _ _ hne,
    State.fld_setFld_addr _ _ _ _ hne]

/-- Of the registers the engine's status is ACTIVE alone. -/
theorem State.patStatus_regs (s : State) (l : Nat) : (s.patStatus l).regs =
    (s.setBit (LAN_PAT_STAT_ACTIVE l) (s.bit (LAN_PAT_CTL_GEN_EN l) || s.bit (LAN_PAT_CTL_CHK_EN l) || s.fld (LAN_PAT_CTL_LOOP l) != 0)).regs := by
  unfold State.patStatus
  dsimp only
  split_ifs <;> rfl

theorem State.patStatus_frame (s : State) (l : Nat) : s.patStatus l = { s with
    regs := (s.patStatus l).regs, lan.chk := (s.patStatus l).lan.chk, lan.patBits := (s.patStatus l).lan.patBits } := by
  unfold State.patStatus
  dsimp only
  split_ifs <;> rfl

theorem State.patStatus_patBits {s : State} {l : Nat} (hgen : s.bit (LAN_PAT_CTL_GEN_EN l) = true) : (s.patStatus l).lan.patBits = s.lan.patBits := by
  unfold State.patStatus
  dsimp only
  rw [if_pos hgen]
  split_ifs <;> rfl

/-- A checker that runs on its lane's own pattern through the near-end loop goes on. -/
theorem State.patStatus_chk {s : State} {l : Nat} {c : PatRun} (hgen : s.bit (LAN_PAT_CTL_GEN_EN l) = true) (hchk : s.bit (LAN_PAT_CTL_CHK_EN l) = true)
    (hloop : s.fld (LAN_PAT_CTL_LOOP l) = 1) (hpat : 1 ≤ s.fld (LAN_PAT_CTL_PAT l)) (hc : mget s.lan.chk l = some c)
    (hown : c.pat = s.fld (LAN_PAT_CTL_PAT l)) : (s.patStatus l).lan.chk = s.lan.chk := by
  have hon : (s.fld (LAN_PAT_CTL_PAT l) != 0) = true := bne_iff_ne.2 (by omega)
  simp [State.patStatus, hgen, hchk, hloop, hon, hc, hown]

/-- The settings stay with the word of LAN_PAT_CTL. -/
theorem State.HasSettings.congr {s t : State} {l : Nat} {w : Word} (h : s.HasSettings l w) (hfld : ∀ f : Fld, f.addr = LAN_PAT_CTL l → t.fld f = s.fld f) :
    t.HasSettings l w where
  pat := (hfld _ rfl).trans h.pat
  gen := (congrArg (· == 1) (hfld _ rfl)).trans h.gen
  chk := (congrArg (· == 1) (hfld _ rfl)).trans h.chk
  loop := (hfld _ rfl).trans h.loop
  rate := (hfld _ rfl).trans h.rate

theorem State.HasSettings.setFld_patStat {s : State} {l : Nat} {w : Word} (h : s.HasSettings l w) {f : Fld} (hf : f.addr = LAN_PAT_STAT l) (v : Nat) :
    (s.setFld f v).HasSettings l w :=
  h.congr fun g hg => State.fld_setFld_addr s f g v (by rw [hf, hg]; exact (LAN_PAT_CTL_ne_STAT l).symm)

theorem State.patStatus_hasSettings {s : State} {l : Nat} {w : Word} (h : s.HasSettings l w) : (s.patStatus l).HasSettings l w :=
  State.HasSettings.congr (h.setFld_patStat (f := LAN_PAT_STAT_ACTIVE l) rfl _) fun f _ => State.fld_congr (s.patStatus_regs l) f

/-- A state differs from another in registers and in the pattern engines' checkers and bit counts alone. -/
def State.PatFrame (s t : State) : Prop := t = { s with regs := t.regs, lan.chk := t.lan.chk, lan.patBits := t.lan.patBits }

theorem State.PatFrame.trans {s t u : State} (h : s.PatFrame t) (g : t.PatFrame u) : s.PatFrame u := by
  unfold State.PatFrame at *
  exact g.trans (by rw [h])

theorem State.PatFrame.time_eq {s t : State} (h : s.PatFrame t) : t.time = s.time := by
  unfold State.PatFrame at h
  rw [h]

/-- A command that does no more answers what it leaves. -/
theorem State.PatFrame.done_eq_next {s t : State} (h : s.PatFrame t) : s.done t = .next t :=
  State.done_eq_next h.time_eq (by unfold State.PatFrame at h; rw [h])

theorem State.PatFrame.eq_of_patBits {s t : State} (h : s.PatFrame t) (hbits : t.lan.patBits = s.lan.patBits) :
    t = { s with regs := t.regs, lan.chk := t.lan.chk } := by
  unfold State.PatFrame at h
  exact h.trans (by rw [hbits])

/-- What a write that is taken leaves before INJ. -/
structure State.PatTakes (s t : State) (l : Nat) (w : Word) : Prop where
  settings : t.HasSettings l w
  active : t.bit (LAN_PAT_STAT_ACTIVE l) = (getBit w 3 || getBit w 4 || getBits w 5 2 != 0)
  errCnt : t.fld (LAN_PAT_STAT_ERR_CNT l) = if getBit w 13 then 0 else s.fld (LAN_PAT_STAT_ERR_CNT l)
  patBits : getBit w 3 = true → t.lan.patBits = s.lan.patBits
  frame : s.PatFrame t

/-- The engine's status as it follows the settings just written. -/
theorem State.patStatus_patSet (s : State) (l : Nat) (w : Word) :
    ((s.patSet l w).patStatus l).bit (LAN_PAT_STAT_ACTIVE l) = (getBit w 3 || getBit w 4 || getBits w 5 2 != 0) ∧
      ((s.patSet l w).patStatus l).fld (LAN_PAT_STAT_ERR_CNT l) = s.fld (LAN_PAT_STAT_ERR_CNT l) := by
  have hset := s.patSet_hasSettings l w
  constructor
  · rw [State.bit_congr (State.patStatus_regs _ l), hset.gen, hset.chk, hset.loop]
    exact State.bit_setBit_same _ _ _ (Nat.le_of_ble_eq_true rfl) rfl
  · rw [State.fld_congr (State.patStatus_regs _ l), State.fld_setBit_apart _ _ rfl]
    exact s.patSet_errCnt l w

theorem State.patTaken_patTakes (s : State) (l : Nat) (w : Word) : s.PatTakes (s.patTaken l w) l w := by
  have hset := s.patSet_hasSettings l w
  obtain ⟨hactive, herr⟩ := s.patStatus_patSet l w
  have hpat : getBit w 3 = true → ((s.patSet l w).patStatus l).lan.patBits = s.lan.patBits :=
    fun hgen => State.patStatus_patBits (hset.gen.trans hgen)
  have hframe : s.PatFrame ((s.patSet l w).patStatus l) := State.patStatus_frame _ l
  unfold State.patTaken
  by_cases hclr : getBit w 13 = true
  · rw [if_pos hclr]
    exact {
      settings := (State.patStatus_hasSettings hset).setFld_patStat rfl 0
      active := (State.bit_setFld_apart _ _ rfl).trans hactive
      errCnt := (State.fld_setFld_same _ _ _ (Nat.le_of_ble_eq_true rfl)).trans (if_pos hclr).symm
      patBits := hpat
      frame := hframe.trans rfl }
  · rw [if_neg hclr]
    exact {
      settings := State.patStatus_hasSettings hset
      active := hactive
      errCnt := herr.trans (if_neg hclr).symm
      patBits := hpat
      frame := hframe }

theorem State.patTaken_chk {s : State} {l : Nat} {w : Word} {c : PatRun} (hgen : getBit w 3 = true) (hchk : getBit w 4 = true)
    (hloop : getBits w 5 2 = 1) (hon : 1 ≤ getBits w 0 3) (hc : mget s.lan.chk l = some c) (hown : c.pat = getBits w 0 3) :
    (s.patTaken l w).lan.chk = s.lan.chk := by
  have hset := s.patSet_hasSettings l w
  have hstatus : ((s.patSet l w).patStatus l).lan.chk = s.lan.chk :=
    State.patStatus_chk (hset.gen.trans hgen) (hset.chk.trans hchk) (hset.loop.trans hloop) (hset.pat ▸ hon) hc (hown.trans hset.pat.symm)
  unfold State.patTaken
  split <;> exact hstatus

/-! ### INJ (R84, R85) -/

/-- A locked checker with fewer than 32 errors behind it counts the flip and stays locked. -/
theorem State.inject_of_locked {s : State} {l : Nat} {c : PatRun} (hc : mget s.lan.chk l = some c) (hlock : c.lockAt ≤ s.now)
    (herrs : c.errs.length < 32) :
    ∃ errs, s.inject l = ({ s with lan.chk := mput s.lan.chk l { c with errs := errs } } : State).inc (LAN_PAT_STAT_ERR_CNT l) := by
  have hlocked : s.patLocked l = true := by simpa [State.patLocked, hc] using hlock
  refine ⟨s.now :: c.errs.filter (fun t => decide (s.patHalves l (s.now - t) < 2048)), ?_⟩
  have hkept := List.length_filter_le (fun t => decide (s.patHalves l (s.now - t) < 2048)) c.errs
  have hfew : ¬ 32 < (s.now :: c.errs.filter (fun t => decide (s.patHalves l (s.now - t) < 2048))).length := by
    rw [List.length_cons]
    omega
  unfold State.inject
  simp only [hc, hlocked, Bool.not_true, Bool.false_eq_true, if_false, if_neg hfew]
  refine if_pos ?_
  unfold State.patLocked
  simp only [mget_mput_same, decide_eq_true_eq]
  exact hlock

/-! ### What the writes of LAN_PAT_CTL do (R83 to R85) -/

theorem exec_patternControlWrite_takes {s : State} {b : Bus} {l : Nat} {w : Word} (ht : s.takesWrite b (LAN_PAT_CTL l) = true)
    (hwho : (s.busP b).isIn 35 = true) (hl : l < 512) (hpat : getBits w 0 3 ≤ 4) (hloop : getBits w 5 2 ≠ 3) (hrate : getBits w 8 5 ≤ 20)
    (hacc : s.engineAccepted l = true) (hup : s.parkedOfUp l = false) (hinj : getBit w 7 = false) (hgen : getBit w 3 = true) :
    ∃ t, exec (.patternControlWrite b l w) s = .next t ∧ t.fld (LAN_PAT_CTL_PAT l) = getBits w 0 3 ∧ t.bit (LAN_PAT_CTL_GEN_EN l) = true ∧
      t.bit (LAN_PAT_CTL_CHK_EN l) = getBit w 4 ∧ t.fld (LAN_PAT_CTL_LOOP l) = getBits w 5 2 ∧ t.fld (LAN_PAT_CTL_INJ_RATE l) = getBits w 8 5 ∧
      t.bit (LAN_PAT_STAT_ACTIVE l) = true ∧ t = { s with regs := t.regs, lan.chk := t.lan.chk, lan.patBits := t.lan.patBits } := by
  obtain ⟨hset, hactive, -, -, hframe⟩ := s.patTaken_patTakes l w
  have hwrite : s.patWrite l w = s.patTaken l w :=
    (State.patWrite_of_take (State.patJudge_take hpat hloop hrate (.inl hacc) hup) hup).trans (by rw [hinj]; rfl)
  refine ⟨s.patTaken l w, ?_, hset.pat, hset.gen.trans hgen, hset.chk, hset.loop, hset.rate, ?_, hframe⟩
  · rw [exec_patternControlWrite ht hwho hl, hwrite, hframe.done_eq_next]
  · rw [hactive, hgen]
    rfl

theorem exec_patternControlWrite_refused {s : State} {b : Bus} {l : Nat} {w : Word} (ht : s.takesWrite b (LAN_PAT_CTL l) = true)
    (hwho : (s.busP b).isIn 35 = true) (hl : l < 512) (hpat : getBits w 0 3 ≤ 4) (hloop : getBits w 5 2 ≠ 3) (hrate : getBits w 8 5 ≤ 20)
    (hruns : getBit w 3 = true ∨ getBit w 4 = true ∨ getBits w 5 2 ≠ 0) (hacc : s.engineAccepted l = false) :
    exec (.patternControlWrite b l w) s = .next (s.setBit (LAN_PAT_STAT_REFUSED l) true) := by
  have hwrite : s.patWrite l w = s.setBit (LAN_PAT_STAT_REFUSED l) true := by
    unfold State.patWrite
    rw [State.patJudge_refuse hpat hloop hrate hruns hacc]
  rw [exec_patternControlWrite ht hwho hl, hwrite]
  rfl

theorem exec_patternControlWrite_dropped {s : State} {b : Bus} {l : Nat} {w : Word} (ht : s.takesWrite b (LAN_PAT_CTL l) = true)
    (hwho : (s.busP b).isIn 35 = true) (hl : l < 512) (hdrop : 4 < getBits w 0 3 ∨ getBits w 5 2 = 3 ∨ 20 < getBits w 8 5) :
    exec (.patternControlWrite b l w) s = .next s := by
  have hwrite : s.patWrite l w = s := by
    unfold State.patWrite
    rw [State.patJudge_drop hdrop]
  rw [exec_patternControlWrite ht hwho hl, hwrite]
  rfl

/-- The word of CLR or INJ: the lane's settings, and its action bit. -/
theorem State.getBit_withBits (s : State) {l k : Nat} (hl : l < 512) (bits : Word) (hk : (0x1F7F#32).getLsbD k = false) :
    getBit (s.withBits (LAN_PAT_CTL l) bits) k = getBit bits k := by
  refine congrArg (· == 1) (getBits_congr fun i hi => ?_)
  obtain rfl : i = 0 := by omega
  rw [s.withBits_LAN_PAT_CTL hl, BitVec.getLsbD_or, BitVec.getLsbD_and, Nat.add_zero, hk, Bool.and_false, Bool.false_or]

/-- INJ on a lane whose checker is locked on the lane's own pattern is counted as one error, and the checker stays locked. -/
theorem exec_patternInject_counts {s : State} {b : Bus} {l : Nat} {c : PatRun} (ht : s.takesWrite b (LAN_PAT_CTL l) = true)
    (hwho : (s.busP b).isIn 35 = true) (hl : l < 512) (hc : mget s.lan.chk l = some c) (hown : c.pat = s.fld (LAN_PAT_CTL_PAT l))
    (hlock : c.lockAt ≤ s.now) (herrs : c.errs.length < 32) (hacc : s.engineAccepted l = true) (hup : s.parkedOfUp l = false)
    (hgen : s.bit (LAN_PAT_CTL_GEN_EN l) = true) (hchk : s.bit (LAN_PAT_CTL_CHK_EN l) = true) (hloop : s.fld (LAN_PAT_CTL_LOOP l) = 1)
    (hon : 1 ≤ s.fld (LAN_PAT_CTL_PAT l)) (hpat : s.fld (LAN_PAT_CTL_PAT l) ≤ 4) (hrate : s.fld (LAN_PAT_CTL_INJ_RATE l) ≤ 20) :
    ∃ t, exec (.patternInject b l) s = .next t ∧ t.fld (LAN_PAT_STAT_ERR_CNT l) = s.oneMore (LAN_PAT_STAT_ERR_CNT l) ∧
      t.patLocked l = true ∧ t = { s with regs := t.regs, lan.chk := t.lan.chk } := by
  have hword := s.hasSettings_withBits hl (bits := 0x80) (by decide)
  have hinj : getBit (s.withBits (LAN_PAT_CTL l) 0x80) 7 = true := s.getBit_withBits hl 0x80 (by decide)
  have hclr : getBit (s.withBits (LAN_PAT_CTL l) 0x80) 13 = false := s.getBit_withBits hl 0x80 (by decide)
  have hexec := exec_patternInject ht hwho hl
  generalize s.withBits (LAN_PAT_CTL l) 0x80 = w at *
  obtain ⟨wpat, wgen, wchk, wloop, wrate⟩ := hword
  obtain ⟨-, -, herr, hbits, hframe⟩ := s.patTaken_patTakes l w
  rw [hclr, if_neg Bool.false_ne_true] at herr
  have hjudge : s.patJudge l w = .take :=
    State.patJudge_take (wpat ▸ hpat) (by rw [← wloop, hloop]; decide) (wrate ▸ hrate) (.inl hacc) hup
  have hkept : (s.patTaken l w).lan.chk = s.lan.chk :=
    State.patTaken_chk (wgen ▸ hgen) (wchk ▸ hchk) (wloop ▸ hloop) (wpat ▸ hon) hc (hown.trans wpat)
  have hnow : (s.patTaken l w).now = s.now := congrArg (fun x : TimeSt => x.t0 + x.tick) hframe.time_eq
  obtain ⟨errs, hinject⟩ := State.inject_of_locked (hkept ▸ hc) (hnow.symm ▸ hlock) herrs
  have hwrite : s.patWrite l w = _ := ((State.patWrite_of_take hjudge hup).trans (if_pos hinj)).trans hinject
  rw [hwrite] at hexec
  have hframe' : s.PatFrame (State.inc { s.patTaken l w with lan.chk := mput (s.patTaken l w).lan.chk l { c with errs := errs } }
    (LAN_PAT_STAT_ERR_CNT l)) := hframe.trans rfl
  refine ⟨_, hexec.trans hframe'.done_eq_next, ?errCnt, ?locked, hframe'.eq_of_patBits (hbits (wgen ▸ hgen))⟩
  case errCnt =>
    refine (State.fld_inc_same _ _ (Nat.le_of_ble_eq_true rfl)).trans ?_
    exact congrArg (fun n => min (n + 1) (2 ^ (LAN_PAT_STAT_ERR_CNT l).width - 1)) herr
  case locked =>
    unfold State.patLocked
    simp only [State.inc_lan, mget_mput_same, decide_eq_true_eq]
    exact hnow.symm ▸ hlock

/-- CLR clears the count and leaves the settings, where the engine may run or is off. -/
theorem exec_patternErrClear_clears {s : State} {b : Bus} {l : Nat} (ht : s.takesWrite b (LAN_PAT_CTL l) = true) (hwho : (s.busP b).isIn 35 = true)
    (hl : l < 512) (hacc : s.engineAccepted l = true ∨
      (s.bit (LAN_PAT_CTL_GEN_EN l) = false ∧ s.bit (LAN_PAT_CTL_CHK_EN l) = false ∧ s.fld (LAN_PAT_CTL_LOOP l) = 0))
    (hup : s.parkedOfUp l = false) (hpat : s.fld (LAN_PAT_CTL_PAT l) ≤ 4) (hloop : s.fld (LAN_PAT_CTL_LOOP l) ≠ 3)
    (hrate : s.fld (LAN_PAT_CTL_INJ_RATE l) ≤ 20) :
    ∃ t, exec (.patternErrClear b l) s = .next t ∧ t.fld (LAN_PAT_STAT_ERR_CNT l) = 0 ∧ t.fld (LAN_PAT_CTL_PAT l) = s.fld (LAN_PAT_CTL_PAT l) ∧
      t = { s with regs := t.regs, lan.chk := t.lan.chk, lan.patBits := t.lan.patBits } := by
  have hword := s.hasSettings_withBits hl (bits := 0x2000) (by decide)
  have hinj : getBit (s.withBits (LAN_PAT_CTL l) 0x2000) 7 = false := s.getBit_withBits hl 0x2000 (by decide)
  have hclr : getBit (s.withBits (LAN_PAT_CTL l) 0x2000) 13 = true := s.getBit_withBits hl 0x2000 (by decide)
  have hexec := exec_patternErrClear ht hwho hl
  generalize s.withBits (LAN_PAT_CTL l) 0x2000 = w at *
  obtain ⟨wpat, wgen, wchk, wloop, wrate⟩ := hword
  obtain ⟨hset, -, herr, -, hframe⟩ := s.patTaken_patTakes l w
  have hjudge : s.patJudge l w = .take := by
    rw [wgen, wchk, wloop] at hacc
    exact State.patJudge_take (wpat ▸ hpat) (wloop ▸ hloop) (wrate ▸ hrate) hacc hup
  have hwrite : s.patWrite l w = s.patTaken l w := (State.patWrite_of_take hjudge hup).trans (by rw [hinj]; rfl)
  rw [hwrite, hframe.done_eq_next] at hexec
  exact ⟨_, hexec, herr.trans (if_pos hclr), hset.pat.trans wpat.symm, hframe⟩

/-! ### The word that a write of LAN_CTL stores (R76, Table 4-1 case 2) -/

theorem LAN_CTL_ne_STAT (l : Nat) : LAN_CTL l ≠ LAN_STAT l := by
  unfold LAN_CTL LAN_STAT
  omega

theorem resetWord_LAN_CTL {l : Nat} (hl : l < 512) : resetWord (LAN_CTL l) = 0x21e5f := by
  unfold resetWord
  rw [lookupReg_LAN_CTL l hl]
  rfl

theorem State.getBit_word_LAN_CTL (s : State) {l : Nat} (hl : l < 512) : getBit (s.word (LAN_CTL l)) 16 = s.bit (LAN_CTL_PARK l) := by
  unfold State.word
  rw [resetWord_LAN_CTL hl]
  rfl

/-- The written word as far as LAN_CTL has fields. -/
def State.lanMixed (s : State) (l : Nat) (w : Word) : Word := mix 0x3FFFF#32 (s.word (LAN_CTL l)) w

/-- The word that LAN_CTL takes from a write. -/
def State.lanNew (s : State) (l : Nat) (w : Word) : Word := s.allowed .LAN_CTL l (s.word (LAN_CTL l)) (s.lanMixed l w)

theorem getBits_mix_low (x y : Word) {lsb n : Nat} (h : lsb + n ≤ 18) : getBits (mix 0x3FFFF#32 x y) lsb n = getBits y lsb n := by
  refine getBits_mix _ _ fun i hi => ?_
  have hall : ∀ k < 18, (0x3FFFF#32).getLsbD k = true := by decide
  exact hall _ (by omega)

theorem State.getBits_lanMixed (s : State) (l : Nat) (w : Word) {lsb n : Nat} (h : lsb + n ≤ 18) : getBits (s.lanMixed l w) lsb n = getBits w lsb n :=
  getBits_mix_low _ _ h

theorem State.getBit_lanMixed_park (s : State) (l : Nat) (w : Word) : getBit (s.lanMixed l w) 16 = getBit w 16 :=
  congrArg (· == 1) (s.getBits_lanMixed l w (by decide))

/-- Whether a write of LAN_CTL is refused. -/
def State.parkRefused (s : State) (l : Nat) (w : Word) : Bool := getBit w 16 && ! s.bit (LAN_CTL_PARK l) && s.parkStrands l

theorem State.lanNew_eq (s : State) {l : Nat} (hl : l < 512) (w : Word) : s.lanNew l w =
    keepIf (s.parkRefused l w) 16 1 (s.word (LAN_CTL l)) (keepIf (! presetOk w) 0 4 (s.word (LAN_CTL l)) (s.lanMixed l w)) := by
  have hpreset : presetOk (s.lanMixed l w) = presetOk w := by
    unfold presetOk
    rw [s.getBits_lanMixed l w (by decide)]
  unfold State.lanNew State.allowed State.parkRefused
  simp only [s.getBit_lanMixed_park, hpreset, s.getBit_word_LAN_CTL hl]

theorem State.lanNew_park (s : State) {l : Nat} (hl : l < 512) (w : Word) :
    getBit (s.lanNew l w) 16 = if s.parkRefused l w then s.bit (LAN_CTL_PARK l) else getBit w 16 := by
  rw [s.lanNew_eq hl, getBit, getBits_keepIf_same _ _ _ (by decide), getBits_keepIf_other _ _ _ _ _ (.inr (by decide)),
    s.getBits_lanMixed l w (by decide)]
  split
  · exact s.getBit_word_LAN_CTL hl
  · rfl

theorem State.lanNew_preset (s : State) {l : Nat} (hl : l < 512) {w : Word} (hw : presetOk w = true) :
    getBits (s.lanNew l w) 0 4 = getBits w 0 4 := by
  rw [s.lanNew_eq hl, getBits_keepIf_other _ _ _ _ _ (.inl (by decide)), getBits_keepIf_same _ _ _ (by decide), s.getBits_lanMixed l w (by decide), hw]
  rfl

/-! ### A write of LAN_CTL -/

/-- The state with the word stored. -/
def State.lanStored (s : State) (l : Nat) (w : Word) : State :=
  { s.setWord (LAN_CTL l) (mix 0x3FFFF#32 (s.word (LAN_CTL l)) (s.lanNew l w)) with latch := mdel s.latch (LAN_CTL l) }

/-- For the owner and fabric managers a write of LAN_CTL reaches every field: it is refused where it would strand the port, and counted; otherwise it
acts on the word it has stored. -/
theorem State.writeWord_LAN_CTL (s : State) {x : RegAcc} {l : Nat} (hwho : x.prin.isIn 3 = true) (hl : l < 512) (w : Word) :
    s.writeWord x (LAN_CTL l) w =
      if s.parkRefused l w then s.countRefused.setWord (LAN_CTL l) (s.lanNew l w)
      else (s.lanStored l w).lanWritten l (s.word (LAN_CTL l)) := by
  have hrefused : s.writeRefused .LAN_CTL l (s.word (LAN_CTL l)) (s.lanMixed l w) = s.parkRefused l w := by
    unfold State.writeRefused State.parkRefused
    simp only [s.getBit_lanMixed_park, s.getBit_word_LAN_CTL hl]
  have hacts : ∀ (v : State) (a : Word), v.afterWrite x.prin .LAN_CTL l (s.word (LAN_CTL l)) a = v.lanWritten l (s.word (LAN_CTL l)) :=
    fun _ _ => rfl
  have hall : ∀ v : Word, v &&& 4294967295#32 = v := fun _ => BitVec.and_allOnes
  unfold State.lanMixed at hrefused
  unfold State.writeWord State.lanStored State.lanNew State.lanMixed
  rw [lookupReg_LAN_CTL l hl]
  simp [RegDef.maskOf, fieldFor, fieldWho, hwho, State.wholeWrite, fieldMask, State.stagePart, State.writeWord.isPendReg, hrefused, hacts, hall]

/-- A field of LAN_CTL after the word has been stored. -/
theorem State.fld_setWord_LAN_CTL (s : State) {l : Nat} (hl : l < 512) (w : Word) {f : Fld} (ha : f.addr = LAN_CTL l) (hr : f.rst = 0x21e5f) :
    (s.setWord (LAN_CTL l) w).fld f = getBits w f.lsb f.width := by
  unfold State.fld State.setWord
  rw [ha, hr, resetWord_LAN_CTL hl, rget_rput, if_pos rfl]

theorem State.fld_setWord_addr (s : State) {a : Nat} (w : Word) {f : Fld} (ha : f.addr ≠ a) : (s.setWord a w).fld f = s.fld f := by
  unfold State.fld State.setWord
  rw [rget_rput_ne _ _ _ _ ha.symm]

/-- A write that would strand the port is counted and leaves PARK as it was (Table 4-1 case 2). -/
theorem exec_laneParkWrite_refused {s : State} {b : Bus} {l : Nat} {w : Word} (ht : s.takesWrite b (LAN_CTL l) = true)
    (hwho : (s.busP b).isOF = true) (hl : l < 512) (hpark : getBit w 16 = true) (hold : s.bit (LAN_CTL_PARK l) = false)
    (hstrands : s.parkStrands l = true) :
    ∃ t, exec (.laneParkWrite b l w) s = .next t ∧ t.parked l = s.parked l ∧ t.bit (LAN_CTL_PARK l) = false ∧ t.refused = s.refused + 1 := by
  have hr : s.parkRefused l w = true := by simp [State.parkRefused, hpark, hold, hstrands]
  have hwrite := (busWrite_takes ht (.laneParkWrite b l w) w).trans (s.writeWord_LAN_CTL hwho hl w)
  rw [if_pos hr] at hwrite
  refine ⟨_, congrArg s.done hwrite, ?parked, ?park, rfl⟩
  case parked => exact congrArg (· == 1) (State.fld_setWord_addr s.countRefused _ (LAN_CTL_ne_STAT l).symm)
  case park =>
    refine (congrArg (· == 1) (State.fld_setWord_LAN_CTL s.countRefused hl _ rfl rfl)).trans ?_
    exact ((s.lanNew_park hl w).trans (if_pos hr)).trans hold

/-! ### Parking a lane (R80) -/

theorem State.portOfLane_lt (s : State) {l : Nat} (hl : l < 512) : s.portOfLane l < 128 := by
  unfold State.portOfLane
  split <;> omega

/-- The trained lanes of a port follow from roles in force, the port's own record and its link. -/
theorem State.trainedLanes_congr {s t : State} {p : Nat} (hforce : t.force = s.force) (hprt : t.prt = s.prt) (hup : t.linkUp p = s.linkUp p) :
    t.trainedLanes p = s.trainedLanes p := by
  unfold State.trainedLanes State.laneSet State.lanesOf State.px State.cur
  rw [hforce, hprt, hup]

theorem State.portOfLane_congr {s t : State} (hforce : t.force = s.force) (l : Nat) : t.portOfLane l = s.portOfLane l := by
  unfold State.portOfLane State.cur
  rw [hforce]

/-- Parking a lane over which its port has not trained is a matter of its status alone. -/
theorem State.parkLane_untrained {s : State} {l : Nat} (h : l ∉ s.trainedLanes (s.portOfLane l)) (cause : Nat) :
    s.parkLane l cause = (s.setBit (LAN_STAT_PARKED l) true).setFld (LAN_STAT_PARK_CAUSE l) cause :=
  if_pos (by simpa using h)

/-! ### What a write of LAN_CTL does that is not refused (R76, R80 to R82) -/

/-- The registers that a write of LAN_CTL sets before it parks are not those of a lane's status and of a port's link. -/
theorem LAN_EQ_ne (l : Nat) : LAN_EQ l ≠ LAN_STAT l ∧ LAN_EQ l ≠ LAN_CTL l := by
  unfold LAN_EQ LAN_STAT LAN_CTL
  omega

theorem PRT_LINK_STAT_ne_lane {p : Nat} (hp : p < 128) (l : Nat) : PRT_LINK_STAT p ≠ LAN_CTL l ∧ LAN_EQ l ≠ PRT_LINK_STAT p := by
  have := PRT_LINK_STAT_lt hp
  unfold LAN_EQ LAN_CTL
  omega

/-- A state differs from another in registers, in what a read has latched and in the frames that eye sweeps began in alone. -/
def State.LanFrame (s t : State) : Prop := t = { s with regs := t.regs, latch := t.latch, lan.eyeFrom := t.lan.eyeFrom }

theorem State.LanFrame.trans {s t u : State} (h : s.LanFrame t) (g : t.LanFrame u) : s.LanFrame u := by
  unfold State.LanFrame at *
  exact g.trans (by rw [h])

theorem State.LanFrame.keeps {s t : State} (h : s.LanFrame t) : t.time = s.time ∧ t.pending = s.pending ∧ t.force = s.force ∧ t.prt = s.prt := by
  unfold State.LanFrame at h
  rw [h]
  exact ⟨rfl, rfl, rfl, rfl⟩

theorem State.LanFrame.done_eq_next {s t : State} (h : s.LanFrame t) : s.done t = .next t :=
  State.done_eq_next h.keeps.1 h.keeps.2.1

/-- The part of a write of LAN_CTL that comes before parking: a fixed preset (R76), and the sweep that EYE_EN begins (R82). -/
def State.lanTuned (s : State) (l : Nat) (old : Word) : State :=
  let s1 := if s.fld (LAN_CTL_TX_PRESET l) ≤ 10 then s.setFld (LAN_EQ_PRESET_CUR l) (s.fld (LAN_CTL_TX_PRESET l)) else s
  if s1.bit (LAN_CTL_EYE_EN l) ∧ ! getBit old 17 then { s1 with lan.eyeFrom := mput s1.lan.eyeFrom l s1.time.frame } else s1

theorem State.lanWritten_eq (s : State) (l : Nat) (old : Word) : s.lanWritten l old =
    if (s.lanTuned l old).bit (LAN_CTL_PARK l) ∧ ! (s.lanTuned l old).parked l then (s.lanTuned l old).parkLane l 3 else s.lanTuned l old := rfl

theorem State.lanTuned_frame (s : State) (l : Nat) (old : Word) : s.LanFrame (s.lanTuned l old) := by
  unfold State.LanFrame State.lanTuned
  dsimp only
  split_ifs <;> rfl

theorem State.lanTuned_regs (s : State) (l : Nat) (old : Word) : (s.lanTuned l old).regs =
    (if s.fld (LAN_CTL_TX_PRESET l) ≤ 10 then s.setFld (LAN_EQ_PRESET_CUR l) (s.fld (LAN_CTL_TX_PRESET l)) else s).regs := by
  unfold State.lanTuned
  dsimp only
  split_ifs <;> rfl

theorem State.lanTuned_fld (s : State) (l : Nat) (old : Word) {f : Fld} (hf : LAN_EQ l ≠ f.addr) : (s.lanTuned l old).fld f = s.fld f := by
  rw [State.fld_congr (s.lanTuned_regs l old)]
  split
  · exact State.fld_setFld_addr _ _ _ _ hf
  · rfl

theorem State.lanTuned_preset {s : State} {l : Nat} (old : Word) (h : s.fld (LAN_CTL_TX_PRESET l) ≤ 10) :
    (s.lanTuned l old).fld (LAN_EQ_PRESET_CUR l) = s.fld (LAN_CTL_TX_PRESET l) := by
  rw [State.fld_congr (s.lanTuned_regs l old), if_pos h, State.fld_setFld_same _ _ _ (Nat.le_of_ble_eq_true rfl)]
  exact Nat.mod_eq_of_lt (State.fld_lt s (LAN_CTL_TX_PRESET l))

/-- The state in which a write of LAN_CTL parks its lane or does not: the word is stored, and what it says beside PARK is done. -/
structure State.LanTakes (s u : State) (l : Nat) (w : Word) : Prop where
  frame : s.LanFrame u
  other : ∀ f : Fld, f.addr ≠ LAN_CTL l → LAN_EQ l ≠ f.addr → u.fld f = s.fld f
  park : u.bit (LAN_CTL_PARK l) = getBit w 16
  preset : presetOk w = true → getBits w 0 4 ≤ 10 → u.fld (LAN_EQ_PRESET_CUR l) = getBits w 0 4

theorem State.LanTakes.parked {s u : State} {l : Nat} {w : Word} (h : s.LanTakes u l w) : u.parked l = s.parked l :=
  congrArg (· == 1) (h.other (LAN_STAT_PARKED l) (LAN_CTL_ne_STAT l).symm (LAN_EQ_ne l).1)

theorem State.LanTakes.linkUp {s u : State} {l : Nat} {w : Word} (h : s.LanTakes u l w) {p : Nat} (hp : p < 128) : u.linkUp p = s.linkUp p :=
  congrArg (· == 1) (h.other (PRT_LINK_STAT_UP p) (PRT_LINK_STAT_ne_lane hp l).1 (PRT_LINK_STAT_ne_lane hp l).2)

theorem State.LanTakes.trainedLanes {s u : State} {l : Nat} {w : Word} (h : s.LanTakes u l w) (hl : l < 512) :
    u.trainedLanes (u.portOfLane l) = s.trainedLanes (s.portOfLane l) := by
  obtain ⟨-, -, hforce, hprt⟩ := h.frame.keeps
  rw [State.portOfLane_congr hforce]
  exact State.trainedLanes_congr hforce hprt (h.linkUp (s.portOfLane_lt hl))

theorem State.lanStored_fld (s : State) {l : Nat} (hl : l < 512) (w : Word) {f : Fld} (ha : f.addr = LAN_CTL l) (hr : f.rst = 0x21e5f)
    (hbits : f.lsb + f.width ≤ 18) : (s.lanStored l w).fld f = getBits (s.lanNew l w) f.lsb f.width :=
  (s.fld_setWord_LAN_CTL hl _ ha hr).trans (getBits_mix_low _ _ hbits)

/-- What a write that is not refused says beside PARK is done in the state with its word stored. -/
theorem State.lanTuned_lanTakes (s : State) {l : Nat} {w : Word} (hl : l < 512) (hr : s.parkRefused l w = false) (old : Word) :
    s.LanTakes ((s.lanStored l w).lanTuned l old) l w := by
  have hframe : s.LanFrame (s.lanStored l w) := rfl
  refine ⟨hframe.trans (State.lanTuned_frame _ l old), fun f hctl heq => (State.lanTuned_fld _ l old heq).trans (s.fld_setWord_addr _ hctl),
    ?park, fun hok hfixed => ?preset⟩
  case park =>
    have hstored : (s.lanStored l w).fld (LAN_CTL_PARK l) = getBits (s.lanNew l w) 16 1 :=
      s.lanStored_fld hl w rfl rfl (Nat.le_of_ble_eq_true rfl)
    refine (congrArg (· == 1) ((State.lanTuned_fld _ l old (LAN_EQ_ne l).2).trans hstored)).trans ?_
    exact (s.lanNew_park hl w).trans (by rw [hr]; rfl)
  case preset =>
    have hstored : (s.lanStored l w).fld (LAN_CTL_TX_PRESET l) = getBits w 0 4 :=
      (s.lanStored_fld hl w rfl rfl (Nat.le_of_ble_eq_true rfl)).trans (s.lanNew_preset hl hok)
    exact (State.lanTuned_preset old (hstored.trans_le hfixed)).trans hstored

theorem exec_laneParkWrite_acts {s : State} {b : Bus} {l : Nat} {w : Word} (ht : s.takesWrite b (LAN_CTL l) = true) (hwho : (s.busP b).isOF = true)
    (hl : l < 512) (hr : s.parkRefused l w = false) :
    ∃ u, exec (.laneParkWrite b l w) s = s.done (if u.bit (LAN_CTL_PARK l) ∧ ! u.parked l then u.parkLane l 3 else u) ∧ s.LanTakes u l w := by
  have hwrite := (busWrite_takes ht (.laneParkWrite b l w) w).trans (s.writeWord_LAN_CTL hwho hl w)
  rw [hr, if_neg Bool.false_ne_true, State.lanWritten_eq] at hwrite
  exact ⟨_, congrArg s.done hwrite, s.lanTuned_lanTakes hl hr _⟩

/-- A write that sets PARK parks a lane over which its port has not trained, with cause 3. -/
theorem exec_laneParkWrite_parks {s : State} {b : Bus} {l : Nat} {w : Word} (ht : s.takesWrite b (LAN_CTL l) = true) (hwho : (s.busP b).isOF = true)
    (hl : l < 512) (hpark : getBit w 16 = true) (hstrands : s.parkStrands l = false) (hnot : s.parked l = false)
    (htrained : l ∉ s.trainedLanes (s.portOfLane l)) :
    ∃ t, exec (.laneParkWrite b l w) s = .next t ∧ t.parked l = true ∧ t.fld (LAN_STAT_PARK_CAUSE l) = 3 ∧ t.bit (LAN_CTL_PARK l) = true ∧
      t = { s with regs := t.regs, latch := t.latch, lan.eyeFrom := t.lan.eyeFrom } := by
  obtain ⟨u, hexec, htakes⟩ := exec_laneParkWrite_acts (w := w) ht hwho hl (by simp [State.parkRefused, hstrands])
  have hset := htakes.park.trans hpark
  have hfree : (! u.parked l) = true := by rw [htakes.parked, hnot]; rfl
  rw [if_pos ⟨hset, hfree⟩, State.parkLane_untrained (htakes.trainedLanes hl ▸ htrained)] at hexec
  have hframe : s.LanFrame ((u.setBit (LAN_STAT_PARKED l) true).setFld (LAN_STAT_PARK_CAUSE l) 3) := htakes.frame.trans rfl
  refine ⟨_, hexec.trans hframe.done_eq_next, ?parked, ?cause, ?park, hframe⟩
  case parked => exact (State.bit_setFld_apart _ _ rfl).trans (State.bit_setBit_same _ _ _ (Nat.le_of_ble_eq_true rfl) rfl)
  case cause => exact State.fld_setFld_same _ _ _ (Nat.le_of_ble_eq_true rfl)
  case park =>
    have hne := (LAN_CTL_ne_STAT l).symm
    exact ((State.bit_setFld_addr _ _ _ _ hne).trans (State.bit_setBit_addr _ _ _ _ hne)).trans hset

/-- A write without PARK clears PARK and leaves the lane as it is; a fixed preset is transmitted from now on (R76, R81). -/
theorem exec_laneParkWrite_unparks {s : State} {b : Bus} {l : Nat} {w : Word} (ht : s.takesWrite b (LAN_CTL l) = true)
    (hwho : (s.busP b).isOF = true) (hl : l < 512) (hpark : getBit w 16 = false) :
    ∃ t, exec (.laneParkWrite b l w) s = .next t ∧ t.bit (LAN_CTL_PARK l) = false ∧ t.parked l = s.parked l ∧
      (presetOk w = true → getBits w 0 4 ≤ 10 → t.fld (LAN_EQ_PRESET_CUR l) = getBits w 0 4) ∧
      t = { s with regs := t.regs, latch := t.latch, lan.eyeFrom := t.lan.eyeFrom } := by
  obtain ⟨u, hexec, htakes⟩ := exec_laneParkWrite_acts (w := w) ht hwho hl (by simp [State.parkRefused, hpark])
  have hclear := htakes.park.trans hpark
  rw [if_neg (fun h => Bool.noConfusion (hclear.symm.trans h.1)), htakes.frame.done_eq_next] at hexec
  exact ⟨u, hexec, hclear, htakes.parked, htakes.preset, htakes.frame⟩

/-- Settles O53: a write of LAN_CTL acts on the word it stores or is refused; a write of LAN_PAT_CTL is judged, and where it is taken the engine has the
settings of its word; the words of INJ and CLR carry the settings the lane has. -/
theorem lanesAndPatterns : Obligations.LanesAndPatterns := by
  unfold Obligations.LanesAndPatterns
  refine ⟨?parks, fun _ _ _ _ => exec_laneParkWrite_refused, fun _ _ _ _ => exec_laneParkWrite_unparks, fun _ _ _ _ => exec_patternControlWrite_takes,
    ?refused, fun _ _ _ _ => exec_patternControlWrite_dropped, fun _ _ _ _ => exec_patternInject_counts, fun _ _ _ => exec_patternErrClear_clears⟩
  case parks =>
    intro s b l w ht hwho hl hpark _ hstrands hnot htrained
    exact exec_laneParkWrite_parks ht hwho hl hpark hstrands hnot htrained
  case refused =>
    intro s b l w ht hwho hl hpat hloop hrate hruns hacc
    have hne := (LAN_PAT_CTL_ne_STAT l).symm
    exact ⟨_, exec_patternControlWrite_refused ht hwho hl hpat hloop hrate hruns hacc,
      State.bit_setBit_same _ _ _ (Nat.le_of_ble_eq_true rfl) rfl, State.fld_setBit_addr _ _ _ _ hne, State.bit_setBit_addr _ _ _ _ hne, rfl⟩

end Sys2Proof.Machine
end

section
/-! Proofs of the family 05_interswitch_link, first part: the registers and the record of an inter-switch link, and what the operations that the link's
commands share do with them. -/
namespace Sys2Proof.Machine
open Sys2Proof

/-! ### Fields that share no bit -/

/-- Two fields lie in different words, or in different bits of one word. -/
def Fld.Apart (f g : Fld) : Prop := f.addr ≠ g.addr ∨ f.bitsApart g = true

/-- The registers of every inter-switch link lie at the same places of its bank, so two fields of one link are compared by their places. -/
theorem Fld.apart_isl {f g : Fld} {i a b : Nat} (hf : f.addr = a + i * 0x10000) (hg : g.addr = b + i * 0x10000)
    (h : (Nat.beq a b && ! f.bitsApart g) = false) : f.Apart g := by
  unfold Fld.Apart
  by_cases hab : a = b
  · exact .inr (by simpa [hab] using h)
  · exact .inl (fun heq => hab (Nat.add_right_cancel ((hf.symm.trans heq).trans hg)))

theorem State.fld_setFld_of_apart (s : State) {f g : Fld} (v : Nat) (h : f.Apart g) : (s.setFld f v).fld g = s.fld g :=
  h.elim (State.fld_setFld_addr s f g v) (State.fld_setFld_apart s v)

theorem State.fld_setBit_of_apart (s : State) {f g : Fld} (v : Bool) (h : f.Apart g) : (s.setBit f v).fld g = s.fld g :=
  s.fld_setFld_of_apart _ h

theorem State.fld_inc_of_apart (s : State) {f g : Fld} (h : f.Apart g) : (s.inc f).fld g = s.fld g := s.fld_setFld_of_apart _ h

theorem State.fld_addSat_of_apart (s : State) {f g : Fld} (n : Nat) (h : f.Apart g) : (s.addSat f n).fld g = s.fld g :=
  s.fld_setFld_of_apart _ h

theorem State.bit_setFld_of_apart (s : State) {f g : Fld} (v : Nat) (h : f.Apart g) : (s.setFld f v).bit g = s.bit g :=
  congrArg (· == 1) (s.fld_setFld_of_apart v h)

theorem State.bit_setBit_of_apart (s : State) {f g : Fld} (v : Bool) (h : f.Apart g) : (s.setBit f v).bit g = s.bit g :=
  s.bit_setFld_of_apart _ h

theorem State.bit_inc_of_apart (s : State) {f g : Fld} (h : f.Apart g) : (s.inc f).bit g = s.bit g := s.bit_setFld_of_apart _ h

theorem State.bit_addSat_of_apart (s : State) {f g : Fld} (n : Nat) (h : f.Apart g) : (s.addSat f n).bit g = s.bit g :=
  s.bit_setFld_of_apart _ h

/-! ### The record of a link -/

@[simp] theorem State.islAt_setIsl_same (s : State) (i : Nat) (x : Isl) : (s.setIsl i x).islAt i = x := mgetD_mputD_same _ _ _ _

theorem State.islAt_setIsl_ne (s : State) {i j : Nat} (x : Isl) (h : j ≠ i) : (s.setIsl i x).islAt j = s.islAt j :=
  mgetD_mputD_ne _ _ _ h.symm

theorem State.islAt_congr {s t : State} (h : t.isl = s.isl) (i : Nat) : t.islAt i = s.islAt i := by
  unfold State.islAt
  rw [h]

theorem State.cur_congr {s t : State} (h : t.force = s.force) (f : Fld) : t.cur f = s.cur f := by
  unfold State.cur
  rw [h]

@[simp] theorem State.setFld_islAt (s : State) (f : Fld) (v i : Nat) : (s.setFld f v).islAt i = s.islAt i := rfl
@[simp] theorem State.setBit_islAt (s : State) (f : Fld) (v : Bool) (i : Nat) : (s.setBit f v).islAt i = s.islAt i := rfl
@[simp] theorem State.inc_islAt (s : State) (f : Fld) (i : Nat) : (s.inc f).islAt i = s.islAt i := rfl
@[simp] theorem State.setIsl_islSt (s : State) (i : Nat) (x : Isl) (j : Nat) : (s.setIsl i x).islSt j = s.islSt j := rfl

/-- The registers of the inter-switch links lie below those of the fabric group. -/
theorem isl_addr_lt {a i : Nat} (ha : a < 0x610000) (hi : i < 8) : a + i * 0x10000 < 0x680000 := by omega

theorem PRT_LINK_STAT_ge (p : Nat) : 0x1000000 ≤ PRT_LINK_STAT p := by
  unfold PRT_LINK_STAT
  omega

theorem isl_ne_PRT_LINK_STAT {f : Fld} {a i : Nat} (hi : i < 8) (hf : f.addr = a + i * 0x10000) (ha : a < 0x610000) (p : Nat) :
    f.addr ≠ PRT_LINK_STAT p := by
  have := isl_addr_lt ha hi
  have := PRT_LINK_STAT_ge p
  omega

theorem Fld.apart_port {f : Fld} {a i : Nat} (hi : i < 8) (hf : f.addr = a + i * 0x10000) (ha : a < 0x610000) (p : Nat) :
    f.Apart (PRT_LINK_STAT_UP p) := .inl (isl_ne_PRT_LINK_STAT hi hf ha p)

/-! ### A command that changes registers and the records of links alone -/

/-- A state differs from another in its registers and in the records of the inter-switch links alone. -/
def State.IslFrame (s t : State) : Prop := t = { s with regs := t.regs, isl := t.isl }

theorem State.IslFrame.refl (s : State) : s.IslFrame s := rfl

theorem State.IslFrame.trans {s t u : State} (h : s.IslFrame t) (g : t.IslFrame u) : s.IslFrame u := by
  unfold State.IslFrame at *
  exact g.trans (by rw [h])

theorem State.IslFrame.setFld {s t : State} (h : s.IslFrame t) (f : Fld) (v : Nat) : s.IslFrame (t.setFld f v) := h.trans rfl

theorem State.IslFrame.setBit {s t : State} (h : s.IslFrame t) (f : Fld) (v : Bool) : s.IslFrame (t.setBit f v) := h.setFld f _

theorem State.IslFrame.inc {s t : State} (h : s.IslFrame t) (f : Fld) : s.IslFrame (t.inc f) := h.setFld f _

theorem State.IslFrame.setIsl {s t : State} (h : s.IslFrame t) (i : Nat) (x : Isl) : s.IslFrame (t.setIsl i x) := h.trans rfl

theorem State.IslFrame.done_eq_next {s t : State} (h : s.IslFrame t) : s.done t = .next t := by
  unfold State.IslFrame at h
  exact State.done_eq_next (by rw [h]) (by rw [h])

/-- What a command answers has the registers, the records of the links, what is in force and what is sent of the state it comes to. -/
theorem State.done_keeps (s u : State) : ∃ t, s.done u = .next t ∧ t.regs = u.regs ∧ t.isl = u.isl ∧ t.force = u.force ∧ t.out = u.out :=
  ⟨_, rfl, rfl, rfl, rfl, rfl⟩

/-! ### What concerns the registers of the fabric group, of events and of faults alone -/

/-- Signalling a source writes nothing but the drop counts of a port (R73). -/
theorem State.signal_regs (s : State) (t code : Nat) : (s.signal t code).regs = s.regs ∨ (s.signal t code).regs = (s.msiDropped t).regs := by
  simp only [State.signal]
  repeat' split
  all_goals simp

theorem PRT_LINK_STAT_ne_mf (p t : Nat) : PRT_MF_STAT t ≠ PRT_LINK_STAT p ∧ PRT_MF_DROP t ≠ PRT_LINK_STAT p := by
  unfold PRT_MF_STAT PRT_MF_DROP PRT_LINK_STAT
  omega

theorem State.msiDropped_linkUp (s : State) (t p : Nat) : (s.msiDropped t).linkUp p = s.linkUp p := by
  unfold State.msiDropped State.linkUp
  split
  · rw [State.bit_setBit_addr _ _ _ _ (PRT_LINK_STAT_ne_mf p t).1, State.bit_inc_addr _ _ _ (PRT_LINK_STAT_ne_mf p t).2]
  · rfl

theorem State.signal_linkUp (s : State) (t code p : Nat) : (s.signal t code).linkUp p = s.linkUp p := by
  rcases s.signal_regs t code with h | h
  · exact State.bit_congr h _
  · exact (State.bit_congr h _).trans (s.msiDropped_linkUp t p)

/-- A raised source leaves the links of the ports as they are. -/
theorem State.raiseShared_linkUp (s : State) {n : Nat} (hn : n < 512) (p : Nat) : (s.raiseShared n).linkUp p = s.linkUp p := by
  have hne : (pendFld (s.routeTarget n) (sharedCode n)).addr ≠ (PRT_LINK_STAT_UP p).addr := by
    have hlow := pendFld_low (s.routeTarget n) (sharedCode n) (.inr (Nat.le_add_right _ _)) (.inr ⟨Nat.le_add_right _ _, by unfold sharedCode; omega⟩)
    exact Nat.ne_of_lt (hlow.trans_le (PRT_LINK_STAT_ge p))
  have hset := State.bit_setBit_addr s _ (PRT_LINK_STAT_UP p) true hne
  unfold State.raiseShared
  simp only [State.raiseAt]
  split
  · exact (State.signal_linkUp _ _ _ p).trans hset
  · exact hset

/-- A state reads like another in the registers of the inter-switch links, in what is in force and in the links of the ports. -/
structure State.IslAlike (s t : State) : Prop where
  fld : ∀ f : Fld, 0x600000 ≤ f.addr → f.addr < 0x680000 → t.fld f = s.fld f
  linkUp : ∀ p, t.linkUp p = s.linkUp p
  force : t.force = s.force

theorem State.IslAlike.trans {s t u : State} (h : s.IslAlike t) (g : t.IslAlike u) : s.IslAlike u where
  fld f hge hlt := (g.fld f hge hlt).trans (h.fld f hge hlt)
  linkUp p := (g.linkUp p).trans (h.linkUp p)
  force := g.force.trans h.force

theorem State.IslAlike.of_regs {s t : State} (hregs : t.regs = s.regs) (hforce : t.force = s.force) : s.IslAlike t :=
  ⟨fun f _ _ => State.fld_congr hregs f, fun _ => State.bit_congr hregs _, hforce⟩

theorem State.IslAlike.fld_isl {s t : State} (h : s.IslAlike t) {f : Fld} {a i : Nat} (hi : i < 8) (hf : f.addr = a + i * 0x10000)
    (ha : (decide (0x600000 ≤ a) && decide (a < 0x610000)) = true) : t.fld f = s.fld f := by
  obtain ⟨hge, hlt⟩ : 0x600000 ≤ a ∧ a < 0x610000 := by simpa using ha
  exact h.fld f (by omega) (hf.trans_lt (isl_addr_lt hlt hi))

theorem State.IslAlike.bit_isl {s t : State} (h : s.IslAlike t) {f : Fld} {a i : Nat} (hi : i < 8) (hf : f.addr = a + i * 0x10000)
    (ha : (decide (0x600000 ≤ a) && decide (a < 0x610000)) = true) : t.bit f = s.bit f := congrArg (· == 1) (h.fld_isl hi hf ha)

/-- Registers outside the banks of the links and of the ports do not concern them. -/
theorem State.setFld_islAlike (s : State) {f : Fld} (v : Nat) (hf : f.addr < 0x600000 ∨ (0x680000 ≤ f.addr ∧ f.addr < 0x1000000)) :
    s.IslAlike (s.setFld f v) where
  fld g hge hlt := s.fld_setFld_addr f g v (by omega)
  linkUp p := s.bit_setFld_addr f _ v (by have := PRT_LINK_STAT_ge p; exact Nat.ne_of_lt (by change _ < PRT_LINK_STAT p; omega))
  force := rfl

theorem State.raiseShared_islAlike (s : State) {n : Nat} (hn : n < 512) : s.IslAlike (s.raiseShared n) where
  fld f hge hlt := State.fld_raiseShared s n f hn (by omega)
  linkUp := s.raiseShared_linkUp hn
  force := by simp

theorem State.islUnknown_islAlike (s : State) {i : Nat} : s.IslAlike (s.islUnknown i) := by
  unfold State.islUnknown
  refine List.foldlRecOn (motive := s.IslAlike) _ _ (.of_regs rfl rfl) fun t ht m hm => ht.trans (t.setFld_islAlike _ (.inr ?_))
  have := List.mem_range.1 hm
  simp only [GRP_PEER_ISLS, GRP_PEER]
  omega

/-! #### Fault reports (R371 to R377) -/

theorem State.countFault_islAlike (s : State) (c : FaultClass) : s.IslAlike (s.countFault c) := by
  cases c <;> exact s.setFld_islAlike _ (.inl (by decide))

theorem State.mergeFault_islAlike (s : State) (k : Nat) (x : FltIn) : s.IslAlike (s.mergeFault k x) := .of_regs (by simp) (by simp)

theorem State.openFault_islAlike (s : State) (k : Nat) (x : FltIn) : s.IslAlike (s.openFault k x) := by
  have hopened : ∀ (u : State) (n : Nat), u.IslAlike ((u.setFld FLT_NEXT_NEXT n).raiseShared 297) := fun u n =>
    (u.setFld_islAlike n (.inl (by decide))).trans (State.raiseShared_islAlike _ (by decide))
  have hrec : ∀ {u : State}, u.regs = s.regs → u.force = s.force → ∀ n, s.IslAlike ((u.setFld FLT_NEXT_NEXT n).raiseShared 297) :=
    fun hregs hforce n => (State.IslAlike.of_regs hregs hforce).trans (hopened _ n)
  unfold State.openFault
  dsimp only
  split
  · exact (hrec (by rfl) (by rfl) _).trans (.of_regs (State.uncontain_regs _ k) (State.uncontain_force _ k))
  · exact hrec (by rfl) (by rfl) _

theorem State.overflowFault_islAlike (s : State) (x : FltIn) : s.IslAlike (s.overflowFault x) := by
  unfold State.overflowFault
  split
  · dsimp only
    split
    · exact s.mergeFault_islAlike 511 x
    · exact (s.mergeFault_islAlike 511 x).trans (State.raiseShared_islAlike _ (by decide))
  · exact s.openFault_islAlike 511 _

theorem State.report_islAlike (s : State) (x : FltIn) : s.IslAlike (s.report x) := by
  unfold State.report
  dsimp only
  refine (s.countFault_islAlike x.cls).trans ?_
  split
  · exact State.mergeFault_islAlike _ _ x
  · split
    · exact State.overflowFault_islAlike _ x
    · split
      · exact State.openFault_islAlike _ _ x
      · exact (State.setFld_islAlike _ _ (.inl (by decide))).trans (State.overflowFault_islAlike _ x)

theorem State.reportCode_islAlike (s : State) (code id : Nat) (addr : Option Nat) (detail : Nat) :
    s.IslAlike (s.reportCode code id addr detail) := by
  unfold State.reportCode
  split
  · exact s.report_islAlike _
  · exact .of_regs rfl rfl

/-! ### Link down (R112) -/

/-- The registers of a link that goes down. -/
def State.islCleared (s : State) (i : Nat) : State :=
  let s2 := ((((s.setFld (ISL_STAT_STATE i) 0).setBit (ISL_STAT_BLOCK_LOCK i) false).setBit (ISL_STAT_PROT_ACTIVE i) false).setBit (ISL_STAT_SHORT i)
    false).inc (ISL_STAT_DOWN_CNT i)
  let s3 := (((s2.setFld (ISL_SEQ_NEXT_TX i) 0).setFld (ISL_SEQ_OLDEST i) 0).setBit (ISL_SEQ_STALL i) false).setBit (ISL_SEQ_REPLAYING i) false
  let s4 := ((s3.setFld (ISL_RX_SEQ_NEXT_RX i) 0).setBit (ISL_RX_SEQ_NAK_PEND i) false).setFld (ISL_FC_STAT_HEADROOM i) 0
  (s4.setFld (ISL_FC_STAT_TX_OFF i) 0).setFld (ISL_FC_STAT_RX_OFF i) 0

/-- A state has of a link what its going down keeps: INTEG_FAIL and the count of corrupt cells, what is in force and the links of the ports. -/
structure State.IslKeeps (s t : State) (i : Nat) : Prop where
  integFail : t.bit (ISL_STAT_INTEG_FAIL i) = s.bit (ISL_STAT_INTEG_FAIL i)
  corrupt : t.fld (ISL_LINK_ERR_CORRUPT i) = s.fld (ISL_LINK_ERR_CORRUPT i)
  linkUp : ∀ p, t.linkUp p = s.linkUp p
  force : t.force = s.force

theorem State.IslKeeps.refl (s : State) (i : Nat) : s.IslKeeps s i := ⟨rfl, rfl, fun _ => rfl, rfl⟩

theorem State.IslKeeps.trans {s t u : State} {i : Nat} (h : s.IslKeeps t i) (g : t.IslKeeps u i) : s.IslKeeps u i where
  integFail := g.integFail.trans h.integFail
  corrupt := g.corrupt.trans h.corrupt
  linkUp p := (g.linkUp p).trans (h.linkUp p)
  force := g.force.trans h.force

theorem State.IslAlike.islKeeps {s t : State} {i : Nat} (h : s.IslAlike t) (hi : i < 8) : s.IslKeeps t i where
  integFail := h.bit_isl hi rfl rfl
  corrupt := h.fld_isl hi rfl rfl
  linkUp := h.linkUp
  force := h.force

/-- What a link that goes down leaves (R112): its registers cleared, but for those it keeps. -/
structure State.IslDownFrom (s t : State) (i : Nat) : Prop extends s.IslKeeps t i where
  state : t.islSt i = 0
  downCnt : t.fld (ISL_STAT_DOWN_CNT i) = s.oneMore (ISL_STAT_DOWN_CNT i)
  blockLock : t.bit (ISL_STAT_BLOCK_LOCK i) = false
  nextTx : t.fld (ISL_SEQ_NEXT_TX i) = 0
  nextRx : t.fld (ISL_RX_SEQ_NEXT_RX i) = 0

theorem State.islCleared_linkUp (s : State) {i : Nat} (hi : i < 8) (p : Nat) : (s.islCleared i).linkUp p = s.linkUp p := by
  unfold State.islCleared State.linkUp
  simp (disch := exact Fld.apart_port hi rfl (by decide) p) only [State.bit_setFld_of_apart, State.bit_setBit_of_apart, State.bit_inc_of_apart]

theorem State.islCleared_down (s : State) {i : Nat} (hi : i < 8) : s.IslDownFrom (s.islCleared i) i where
  state := by
    unfold State.islCleared State.islSt
    simp (disch := exact Fld.apart_isl rfl rfl rfl) only [State.fld_setFld_of_apart, State.fld_setBit_of_apart, State.fld_inc_of_apart]
    exact State.fld_setFld_same _ _ _ (Nat.le_of_ble_eq_true rfl)
  downCnt := by
    unfold State.islCleared
    simp (disch := exact Fld.apart_isl rfl rfl rfl) only [State.fld_setFld_of_apart, State.fld_setBit_of_apart]
    rw [State.fld_inc_same _ _ (Nat.le_of_ble_eq_true rfl)]
    simp (disch := exact Fld.apart_isl rfl rfl rfl) only [State.fld_setFld_of_apart, State.fld_setBit_of_apart]
    rfl
  blockLock := by
    unfold State.islCleared
    simp (disch := exact Fld.apart_isl rfl rfl rfl) only [State.bit_setFld_of_apart, State.bit_setBit_of_apart, State.bit_inc_of_apart]
    exact State.bit_setBit_same _ _ _ (Nat.le_of_ble_eq_true rfl) rfl
  nextTx := by
    unfold State.islCleared
    simp (disch := exact Fld.apart_isl rfl rfl rfl) only [State.fld_setFld_of_apart, State.fld_setBit_of_apart]
    exact State.fld_setFld_same _ _ _ (Nat.le_of_ble_eq_true rfl)
  nextRx := by
    unfold State.islCleared
    simp (disch := exact Fld.apart_isl rfl rfl rfl) only [State.fld_setFld_of_apart, State.fld_setBit_of_apart]
    exact State.fld_setFld_same _ _ _ (Nat.le_of_ble_eq_true rfl)
  integFail := by
    unfold State.islCleared
    simp (disch := exact Fld.apart_isl rfl rfl rfl) only [State.bit_setFld_of_apart, State.bit_setBit_of_apart, State.bit_inc_of_apart]
  corrupt := by
    unfold State.islCleared
    simp (disch := exact Fld.apart_isl rfl rfl rfl) only [State.fld_setFld_of_apart, State.fld_setBit_of_apart, State.fld_inc_of_apart]
  linkUp := s.islCleared_linkUp hi
  force := rfl

/-- What a link's going down leaves is the same for states that read alike. -/
theorem State.IslDownFrom.of_alike {s u v t : State} {i : Nat} (hi : i < 8) (hs : s.IslAlike u) (h : u.IslDownFrom v i) (ht : v.IslAlike t) :
    s.IslDownFrom t i where
  state := (ht.fld_isl hi rfl rfl).trans h.state
  downCnt := (ht.fld_isl hi rfl rfl).trans (h.downCnt.trans (congrArg (fun n => min (n + 1) _) (hs.fld_isl hi rfl rfl)))
  blockLock := (ht.bit_isl hi rfl rfl).trans h.blockLock
  nextTx := (ht.fld_isl hi rfl rfl).trans h.nextTx
  nextRx := (ht.fld_isl hi rfl rfl).trans h.nextRx
  toIslKeeps := ((hs.islKeeps hi).trans h.toIslKeeps).trans (ht.islKeeps hi)

/-- A link that goes down forgets its partner, starts its record afresh, clears its registers and raises its shared source. -/
theorem State.islDown_eq {s : State} {i : Nat} (h : s.islSt i ≠ 0) :
    s.islDown i = (((s.setIsl i { downAt := s.now }).islUnknown i).islCleared i).raiseShared (288 + i) := if_neg h

theorem State.islDown_down {s : State} {i : Nat} (hi : i < 8) (h : s.islSt i ≠ 0) : s.IslDownFrom (s.islDown i) i := by
  have hafresh : s.IslAlike (s.setIsl i { downAt := s.now }) := .of_regs rfl rfl
  have hforgets := hafresh.trans (State.islUnknown_islAlike (i := i) _)
  rw [State.islDown_eq h]
  exact (State.islCleared_down _ hi).of_alike hi hforgets (State.raiseShared_islAlike _ (by omega))

theorem State.islDown_islAt {s : State} {i : Nat} (h : s.islSt i ≠ 0) : (s.islDown i).islAt i = { downAt := s.now } := by
  unfold State.islAt
  rw [State.islDown_isl h, mgetD_mputD_same]

theorem State.islDown_islSt (s : State) {i : Nat} (hi : i < 8) : (s.islDown i).islSt i = 0 := by
  by_cases h : s.islSt i = 0
  · rw [State.islDown, if_pos h, h]
  · exact (State.islDown_down hi h).state

theorem State.islDown_keeps (s : State) {i : Nat} (hi : i < 8) : s.IslKeeps (s.islDown i) i := by
  by_cases h : s.islSt i = 0
  · rw [State.islDown, if_pos h]
    exact .refl s i
  · exact (State.islDown_down hi h).toIslKeeps

/-- On a port whose link is down, an inter-switch link that fails goes down by itself. -/
theorem State.islFail_of_not_linkUp {s : State} {i : Nat} (h : s.linkUp (s.cur (ISL_CFG_PORT i)) = false) : s.islFail i = s.islDown i := by
  unfold State.islFail
  simp [h]

/-! ### The error-rate window (R111) -/

theorem State.windowError_of_not_active {s : State} {i : Nat} (h : s.islSt i ≠ 4) : s.windowError i = s := if_pos h

/-- An error within THR is counted. -/
theorem State.windowError_within {s : State} {i : Nat} (h : s.islSt i = 4) (hthr : s.fld (ISL_ERR_WIN_CUR i) + 1 ≤ s.fld (ISL_ERR_WIN_THR i)) :
    s.windowError i = s.inc (ISL_ERR_WIN_CUR i) := by
  have hcur := s.fld_inc_same (ISL_ERR_WIN_CUR i) (Nat.le_of_ble_eq_true rfl)
  have hkept : (s.inc (ISL_ERR_WIN_CUR i)).fld (ISL_ERR_WIN_THR i) = s.fld (ISL_ERR_WIN_THR i) := s.fld_inc_of_apart (Fld.apart_isl rfl rfl rfl)
  refine (if_neg (not_not.2 h)).trans (if_neg ?_)
  rw [hcur, hkept]
  omega

/-- Whatever an error does to a link whose port's link is down, it leaves what a link's going down keeps. -/
theorem State.windowError_keeps {s : State} {i : Nat} (hi : i < 8) (hport : s.linkUp (s.cur (ISL_CFG_PORT i)) = false) :
    s.IslKeeps (s.windowError i) i := by
  have hset : ∀ (u : State) {f : Fld} {a : Nat}, f.addr = a + i * 0x10000 → a < 0x610000 → f.Apart (ISL_STAT_INTEG_FAIL i) →
      f.Apart (ISL_LINK_ERR_CORRUPT i) → ∀ v, u.IslKeeps (u.setFld f v) i := fun u f a hf ha hinteg hcorrupt v =>
    ⟨u.bit_setFld_of_apart v hinteg, u.fld_setFld_of_apart v hcorrupt, fun p => u.bit_setFld_addr f _ v (isl_ne_PRT_LINK_STAT hi hf ha p), rfl⟩
  have hcount : s.IslKeeps (s.inc (ISL_ERR_WIN_CUR i)) i :=
    hset s rfl (by decide) (Fld.apart_isl rfl rfl rfl) (Fld.apart_isl rfl rfl rfl) _
  have hdown := hcount.trans (hset _ (f := ISL_ERR_WIN_WIN_DOWN i) rfl (by decide) (Fld.apart_isl rfl rfl rfl) (Fld.apart_isl rfl rfl rfl) 1)
  unfold State.windowError
  split
  · exact .refl s i
  · dsimp only
    split
    · have hport' := (hdown.linkUp (s.cur (ISL_CFG_PORT i))).trans hport
      have hfail := State.islFail_of_not_linkUp (i := i) hport'
      rw [State.setBit, if_pos rfl, hfail]
      exact hdown.trans (State.islDown_keeps _ hi)
    · exact hcount

/-! ### Recovery (R112) -/

theorem LAN_EYE_ge (l : Nat) : 0x1800000 ≤ LAN_EYE l := by
  unfold LAN_EYE
  omega

theorem State.dropSweeps_lanesChange (s : State) (p : Nat) : s.LanesChange (s.dropSweeps p) := by
  unfold State.dropSweeps
  refine List.foldlRecOn (motive := s.LanesChange) _ _ (.refl s) fun t ht l _ => ht.trans ?_
  refine State.LanesChange.trans ?_ (State.lanesChange_setBit _ false (LAN_EYE_ge l))
  exact ⟨rfl, fun _ _ => rfl⟩

theorem State.recover_keeps (s : State) (p : Nat) :
    (s.recover p).time = s.time ∧ (s.recover p).pending = s.pending ∧ (s.recover p).grp = s.grp ∧ (s.recover p).isl = s.isl := by
  have h := (State.dropSweeps_lanesChange { s with xbr.paused := sadd s.xbr.paused p } p).frame
  have hkept := And.intro (congrArg State.time h) (And.intro (congrArg State.pending h) (And.intro (congrArg State.grp h) (congrArg State.isl h)))
  unfold State.recover
  dsimp only
  split
  · exact hkept
  · exact hkept

theorem State.recover_fld (s : State) (p : Nat) {f : Fld} (hf : f.addr < 0x1800000) : (s.recover p).fld f = s.fld f := by
  have h := (State.dropSweeps_lanesChange { s with xbr.paused := sadd s.xbr.paused p } p).fld_below f hf
  unfold State.recover
  dsimp only
  split
  · exact h
  · exact h

/-- What the entry of a link into Recovery leaves: its record as it was but for the counts that start again, and of its registers STATE and BLOCK_LOCK
changed. -/
structure State.IslRecoversTo (s t : State) (i : Nat) : Prop where
  state : t.islSt i = 5
  blockLock : t.bit (ISL_STAT_BLOCK_LOCK i) = false
  record : t.islAt i = { s.islAt i with downAt := s.now, bad := 0, miss := 0 }
  keeps : t.time = s.time ∧ t.pending = s.pending ∧ t.grp = s.grp
  fld : ∀ f : Fld, (ISL_STAT_STATE i).Apart f → (ISL_STAT_BLOCK_LOCK i).Apart f → f.addr < 0x1800000 → t.fld f = s.fld f

theorem State.islRecover_recovers {s : State} {i : Nat} (hi : i < 8) (hge : 2 ≤ s.islSt i) (hne : s.islSt i ≠ 5) :
    s.IslRecoversTo (s.islRecover i) i := by
  have hlow : ISL_STAT i < 0x1800000 := (isl_addr_lt (a := 0x600004) (by decide) hi).trans (by decide)
  let u : State := (s.setFld (ISL_STAT_STATE i) 5).setBit (ISL_STAT_BLOCK_LOCK i) false
  let v : State := u.recover (s.cur (ISL_CFG_PORT i))
  obtain ⟨htime, hpending, hgrp, hisl⟩ := u.recover_keeps (s.cur (ISL_CFG_PORT i))
  have hnow : v.now = s.now := congrArg (fun x : TimeSt => x.t0 + x.tick) htime
  have hrecord : v.islAt i = s.islAt i := State.islAt_congr hisl i
  have heq : s.islRecover i = v.setIsl i { v.islAt i with downAt := v.now, bad := 0, miss := 0 } := if_neg (by omega)
  rw [heq, hnow, hrecord]
  refine ⟨?state, ?lock, State.islAt_setIsl_same _ _ _, ⟨htime, hpending, hgrp⟩, fun f hst hlock hf => ?fld⟩
  case state =>
    refine (u.recover_fld _ hlow).trans ((State.fld_setBit_of_apart _ _ (Fld.apart_isl rfl rfl rfl)).trans ?_)
    exact State.fld_setFld_same _ _ _ (Nat.le_of_ble_eq_true rfl)
  case lock =>
    refine (congrArg (· == 1) (u.recover_fld _ hlow)).trans ?_
    exact State.bit_setBit_same _ _ _ (Nat.le_of_ble_eq_true rfl) rfl
  case fld =>
    exact (u.recover_fld _ hf).trans ((State.fld_setBit_of_apart _ _ hlock).trans (State.fld_setFld_of_apart _ _ hst))

end Sys2Proof.Machine
end

section
/-! Proofs of the family 05_interswitch_link, second part: the states of a link (O48). -/
namespace Sys2Proof.Machine
open Sys2Proof

/-! ### Aligning (R95, R103, R106) -/

/-- No receive buffer is short for a headroom. -/
theorem State.shortBuf_eq_false_iff (s : State) (i h : Nat) :
    s.shortBuf i h = false ↔ ∀ c, c < 4 → h + s.cur (ISL_FC_CTL_ON_GAP i) + 257 ≤ s.rxSize i c := by
  have hclasses : [0, 1, 2, 3] = List.range 4 := rfl
  simp [State.shortBuf, hclasses, List.any_eq_false]

/-- The state in which a link that leaves Aligning has its round trip and headroom measured. -/
def State.islMeasured (s : State) (i : Nat) : State :=
  let h := s.headroom i ((s.islAt i).rttMax + 16) (s.slotsWanted i)
  ((s.setFld (ISL_RTT_RTT_USED i) ((s.islAt i).rttMax + 16)).setFld (ISL_FC_STAT_HEADROOM i) h).setBit (ISL_STAT_SHORT i) (s.shortBuf i h)

theorem State.aligned_eq {s : State} {i : Nat} (hi : i < 8) (hst : s.islSt i = 2) (hlock : s.bit (ISL_STAT_BLOCK_LOCK i) = true)
    (hmarks : 16 ≤ (s.islAt i).marks) :
    s.aligned i =
      if s.shortBuf i (s.headroom i ((s.islAt i).rttMax + 16) (s.slotsWanted i)) then
        (if s.bit (ISL_STAT_SHORT i) then s.islMeasured i else (s.islMeasured i).raiseShared (288 + i))
      else if s.protWanted i then
        (((s.islMeasured i).setFld (ISL_STAT_STATE i) 3).setBit (ISL_STAT_PROT_ACTIVE i) false).setIsl i { s.islAt i with downAt := s.now }
      else (s.islMeasured i).islActive i := by
  refine (if_neg ?_).trans rfl
  simp [hst, hlock, hi, hmarks]

theorem State.islMeasured_rtt (s : State) (i : Nat) : (s.islMeasured i).fld (ISL_RTT_RTT_USED i) = ((s.islAt i).rttMax + 16) % 2 ^ 16 := by
  unfold State.islMeasured
  simp (disch := exact Fld.apart_isl rfl rfl rfl) only [State.fld_setFld_of_apart, State.fld_setBit_of_apart]
  exact State.fld_setFld_same _ _ _ (Nat.le_of_ble_eq_true rfl)

theorem State.islMeasured_headroom (s : State) (i : Nat) : (s.islMeasured i).fld (ISL_FC_STAT_HEADROOM i) =
    s.headroom i ((s.islAt i).rttMax + 16) (s.slotsWanted i) % 2 ^ 16 := by
  unfold State.islMeasured
  simp (disch := exact Fld.apart_isl rfl rfl rfl) only [State.fld_setBit_of_apart]
  exact State.fld_setFld_same _ _ _ (Nat.le_of_ble_eq_true rfl)

theorem State.islMeasured_short (s : State) (i : Nat) : (s.islMeasured i).bit (ISL_STAT_SHORT i) =
    s.shortBuf i (s.headroom i ((s.islAt i).rttMax + 16) (s.slotsWanted i)) := State.bit_setBit_same _ _ _ (Nat.le_of_ble_eq_true rfl) rfl

theorem State.islMeasured_islSt (s : State) (i : Nat) : (s.islMeasured i).islSt i = s.islSt i := by
  unfold State.islMeasured State.islSt
  simp (disch := exact Fld.apart_isl rfl rfl rfl) only [State.fld_setFld_of_apart, State.fld_setBit_of_apart]

/-- Without protection a link whose buffers suffice is Active once its round trip is measured. -/
theorem exec_islAligningDone_active {s : State} {i h : Nat} (hi : i < 8) (hst : s.islSt i = 2) (hlock : s.bit (ISL_STAT_BLOCK_LOCK i) = true)
    (hmarks : 16 ≤ (s.islAt i).marks) (hprot : s.protWanted i = false) (hh : h = s.headroom i ((s.islAt i).rttMax + 16) 14)
    (hfits : ∀ c, c < 4 → h + s.cur (ISL_FC_CTL_ON_GAP i) + 257 ≤ s.rxSize i c) :
    ∃ t, exec (.islAligningDone i) s = .next t ∧ t.islSt i = 4 ∧ t.bit (ISL_STAT_SHORT i) = false ∧
      t.fld (ISL_RTT_RTT_USED i) = ((s.islAt i).rttMax + 16) % 2 ^ 16 ∧ t.fld (ISL_FC_STAT_HEADROOM i) = h % 2 ^ 16 ∧
      t = { s with regs := t.regs, isl := t.isl } := by
  have hslots : s.slotsWanted i = 14 := if_neg (by simp [hprot])
  rw [← hslots] at hh
  have hnot := (s.shortBuf_eq_false_iff i h).2 hfits
  have hexec := congrArg s.done (State.aligned_eq hi hst hlock hmarks)
  rw [← hh, hnot, hprot, if_neg Bool.false_ne_true, if_neg Bool.false_ne_true] at hexec
  have hframe : s.IslFrame ((s.islMeasured i).islActive i) := rfl
  refine ⟨_, hexec.trans hframe.done_eq_next, ?_, ?_, ?_, ?_, hframe⟩
  · exact State.fld_setFld_same _ _ _ (Nat.le_of_ble_eq_true rfl)
  · exact (State.bit_setFld_of_apart _ _ (Fld.apart_isl rfl rfl rfl)).trans ((s.islMeasured_short i).trans (hh ▸ hnot))
  · exact (State.fld_setFld_of_apart _ _ (Fld.apart_isl rfl rfl rfl)).trans (s.islMeasured_rtt i)
  · exact (State.fld_setFld_of_apart _ _ (Fld.apart_isl rfl rfl rfl)).trans (hh ▸ s.islMeasured_headroom i)

/-- Under protection it enters Keying. -/
theorem exec_islAligningDone_keying {s : State} {i h : Nat} (hi : i < 8) (hst : s.islSt i = 2) (hlock : s.bit (ISL_STAT_BLOCK_LOCK i) = true)
    (hmarks : 16 ≤ (s.islAt i).marks) (hprot : s.protWanted i = true) (hh : h = s.headroom i ((s.islAt i).rttMax + 16) 13)
    (hfits : ∀ c, c < 4 → h + s.cur (ISL_FC_CTL_ON_GAP i) + 257 ≤ s.rxSize i c) :
    ∃ t, exec (.islAligningDone i) s = .next t ∧ t.islSt i = 3 ∧ t.bit (ISL_STAT_PROT_ACTIVE i) = false ∧ t.bit (ISL_STAT_SHORT i) = false ∧
      t.fld (ISL_FC_STAT_HEADROOM i) = h % 2 ^ 16 ∧ t = { s with regs := t.regs, isl := t.isl } := by
  have hslots : s.slotsWanted i = 13 := if_pos hprot
  rw [← hslots] at hh
  have hnot := (s.shortBuf_eq_false_iff i h).2 hfits
  have hexec := congrArg s.done (State.aligned_eq hi hst hlock hmarks)
  rw [← hh, hnot, hprot, if_neg Bool.false_ne_true, if_pos rfl] at hexec
  have hframe : s.IslFrame ((((s.islMeasured i).setFld (ISL_STAT_STATE i) 3).setBit (ISL_STAT_PROT_ACTIVE i) false).setIsl i
    { s.islAt i with downAt := s.now }) := rfl
  refine ⟨_, hexec.trans hframe.done_eq_next, ?_, ?_, ?_, ?_, hframe⟩
  · exact (State.fld_setBit_of_apart _ _ (Fld.apart_isl rfl rfl rfl)).trans (State.fld_setFld_same _ _ _ (Nat.le_of_ble_eq_true rfl))
  · exact State.bit_setBit_same _ _ _ (Nat.le_of_ble_eq_true rfl) rfl
  · exact (State.bit_setBit_of_apart _ _ (Fld.apart_isl rfl rfl rfl)).trans
      ((State.bit_setFld_of_apart _ _ (Fld.apart_isl rfl rfl rfl)).trans ((s.islMeasured_short i).trans (hh ▸ hnot)))
  · exact (State.fld_setBit_of_apart _ _ (Fld.apart_isl rfl rfl rfl)).trans
      ((State.fld_setFld_of_apart _ _ (Fld.apart_isl rfl rfl rfl)).trans (hh ▸ s.islMeasured_headroom i))

/-- With a buffer that is short it stays in Aligning, and its shared source is raised once (R106). -/
theorem exec_islAligningDone_short {s : State} {i h c : Nat} (hi : i < 8) (hst : s.islSt i = 2) (hlock : s.bit (ISL_STAT_BLOCK_LOCK i) = true)
    (hmarks : 16 ≤ (s.islAt i).marks) (hh : h = s.headroom i ((s.islAt i).rttMax + 16) (s.slotsWanted i)) (hc : c < 4)
    (hless : s.rxSize i c < h + s.cur (ISL_FC_CTL_ON_GAP i) + 257) :
    ∃ t, exec (.islAligningDone i) s = .next t ∧ t.islSt i = 2 ∧ t.bit (ISL_STAT_SHORT i) = true ∧
      (s.bit (ISL_STAT_SHORT i) = false → t.bit (pendFld (s.routeTarget (288 + i)) (sharedCode (288 + i))) = true) ∧ t.isl = s.isl := by
  have hshort : s.shortBuf i h = true := by
    refine Bool.of_not_eq_false fun hnot => ?_
    exact absurd ((s.shortBuf_eq_false_iff i h).1 hnot c hc) (Nat.not_le.2 hless)
  have hexec := congrArg s.done (State.aligned_eq hi hst hlock hmarks)
  rw [← hh, hshort, if_pos rfl] at hexec
  have hst2 := (s.islMeasured_islSt i).trans hst
  have hbit := (s.islMeasured_short i).trans (hh ▸ hshort)
  cases hwas : s.bit (ISL_STAT_SHORT i) with
  | true =>
    rw [hwas, if_pos rfl] at hexec
    exact ⟨_, hexec, hst2, hbit, fun h => Bool.noConfusion h, rfl⟩
  | false =>
    rw [hwas, if_neg Bool.false_ne_true] at hexec
    have hraised := (s.islMeasured i).raiseShared_islAlike (n := 288 + i) (by omega)
    exact ⟨_, hexec, (hraised.fld_isl hi rfl rfl).trans hst2, (hraised.bit_isl hi rfl rfl).trans hbit,
      fun _ => State.bit_raiseShared_pend _ _ _ (by omega), State.raiseShared_isl _ _⟩

theorem exec_islAligningDone_idle {s : State} {i : Nat}
    (h : 8 ≤ i ∨ s.islSt i ≠ 2 ∨ s.bit (ISL_STAT_BLOCK_LOCK i) = false ∨ (s.islAt i).marks < 16) : exec (.islAligningDone i) s = .next s := by
  refine congrArg s.done (if_pos ?_)
  simpa using h

/-! ### Keying (R109) -/

/-- The state in which the keys of a session are installed: its secret is a free value, and both directions begin with their first keys. -/
def State.islKeyed (s : State) (i d : Nat) : State :=
  let s1 : State := { s with fresh := s.fresh + 1, grp.proven := mput s.grp.proven i d }
  ((s1.setIsl i { s.islAt i with keyCells := 0, ks := false, secret := Config.freeValue s.fresh, txGen := 0, rxGen := 0 }).setBit
    (ISL_STAT_PROT_ACTIVE i) true).islActive i

/-- With a partner whose markers have not yet said who it is, the keys are all that Keying brings. -/
theorem State.keyed_unseen {s : State} {i : Nat} (hi : i < 8) (hst : s.islSt i = 3) (hseen : mget s.grp.seen i = none) (d : Nat) :
    s.keyed i d = s.islKeyed i d := by
  have hseen' : mget (s.islKeyed i d).grp.seen i = none := hseen
  have hnote : (s.islKeyed i d).notePeer i = s.islKeyed i d := by
    unfold State.notePeer
    rw [hseen']
  have heq : s.keyed i d = (match mget ((s.islKeyed i d).notePeer i).grp.seen i with
    | some q => if ((s.islKeyed i d).notePeer i).identified i q then ((s.islKeyed i d).notePeer i).yieldTo q.epoch else (s.islKeyed i d).notePeer i
    | none => (s.islKeyed i d).notePeer i) := if_neg (by omega)
  rw [heq, hnote, hseen']

theorem State.islActive_islAt (s : State) (i : Nat) : (s.islActive i).islAt i = { s.islAt i with downAt := s.now } :=
  State.islAt_setIsl_same _ i _

theorem exec_islKeyingDone_active {s : State} {i d : Nat} (hi : i < 8) (hst : s.islSt i = 3) (hseen : mget s.grp.seen i = none) :
    ∃ t, exec (.islKeyingDone i d) s = .next t ∧ t.islSt i = 4 ∧ t.bit (ISL_STAT_PROT_ACTIVE i) = true ∧ (t.islAt i).keyCells = 0 ∧
      (t.islAt i).ks = false ∧ (t.islAt i).secret = Config.freeValue s.fresh ∧
      t = { s with fresh := s.fresh + 1, regs := t.regs, isl := t.isl, grp.proven := mput s.grp.proven i d } := by
  have hrecord : (s.islKeyed i d).islAt i = { s.islAt i with
      keyCells := 0, ks := false, secret := Config.freeValue s.fresh, txGen := 0, rxGen := 0, downAt := s.now } :=
    (State.islActive_islAt _ i).trans (congrArg (fun x : Isl => { x with downAt := s.now }) (State.islAt_setIsl_same _ i _))
  refine ⟨s.islKeyed i d, congrArg s.done (State.keyed_unseen hi hst hseen d), ?_, ?_, ?_, ?_, ?_, rfl⟩
  · exact State.fld_setFld_same _ _ _ (Nat.le_of_ble_eq_true rfl)
  · exact (State.bit_setFld_of_apart _ _ (Fld.apart_isl rfl rfl rfl)).trans (State.bit_setBit_same _ _ _ (Nat.le_of_ble_eq_true rfl) rfl)
  all_goals rw [hrecord]

theorem exec_islKeyingDone_idle {s : State} {i d : Nat} (h : 8 ≤ i ∨ s.islSt i ≠ 3) : exec (.islKeyingDone i d) s = .next s :=
  congrArg s.done (if_pos h)

/-! ### Time-outs and the restart of training (R109, R112) -/

/-- A command that fails a link which is not Down, on a port whose link is not up, takes the link down. -/
theorem State.done_islFail {s : State} {i : Nat} (hi : i < 8) (hst : s.islSt i ≠ 0) (hport : s.linkUp (s.cur (ISL_CFG_PORT i)) = false) :
    ∃ t, s.done (s.islFail i) = .next t ∧ s.IslDownFrom t i ∧ (t.islAt i).rp = [] := by
  obtain ⟨t, ht, hregs, hisl, hforce, -⟩ := s.done_keeps (s.islDown i)
  rw [State.islFail_of_not_linkUp hport]
  refine ⟨t, ht, (State.islDown_down hi hst).of_alike hi (.of_regs rfl rfl) (.of_regs hregs hforce), ?_⟩
  rw [State.islAt_congr hisl, State.islDown_islAt hst]

theorem exec_islKeyingTimeout_down {s : State} {i : Nat} (hi : i < 8) (hst : s.islSt i = 3) (hlate : (s.islAt i).downAt + 1000000000 ≤ s.now)
    (hport : s.linkUp (s.cur (ISL_CFG_PORT i)) = false) :
    ∃ t, exec (.islKeyingTimeout i) s = .next t ∧ s.IslDownFrom t i ∧ (t.islAt i).rp = [] := by
  obtain ⟨t, ht, hdown⟩ := State.done_islFail hi (by omega) hport
  exact ⟨t, (congrArg s.done (if_pos ⟨hi, hst, hlate⟩)).trans ht, hdown⟩

theorem exec_islKeyingTimeout_idle {s : State} {i : Nat} (h : 8 ≤ i ∨ s.islSt i ≠ 3 ∨ s.now < (s.islAt i).downAt + 1000000000) :
    exec (.islKeyingTimeout i) s = .next s := congrArg s.done (if_neg (by omega))

theorem exec_islRecoveryTimeout_down {s : State} {i : Nat} (hi : i < 8) (hst : s.islSt i = 5) (hlate : (s.islAt i).downAt + 24000000 ≤ s.now)
    (hport : s.linkUp (s.cur (ISL_CFG_PORT i)) = false) :
    ∃ t, exec (.islRecoveryTimeout i) s = .next t ∧ s.IslDownFrom t i ∧ (t.islAt i).rp = [] := by
  obtain ⟨t, ht, hdown⟩ := State.done_islFail hi (by omega) hport
  exact ⟨t, (congrArg s.done (if_pos ⟨hi, hst, hlate⟩)).trans ht, hdown⟩

theorem exec_islRecoveryTimeout_idle {s : State} {i : Nat} (h : 8 ≤ i ∨ s.islSt i ≠ 5 ∨ s.now < (s.islAt i).downAt + 24000000) :
    exec (.islRecoveryTimeout i) s = .next s := congrArg s.done (if_neg (by omega))

theorem exec_islTrainingRestart_trains {s : State} {i : Nat} (hi : i < 8) (hst : s.islSt i = 0) (hen : s.curBit (ISL_CFG_EN i) = true)
    (hdis : s.bit (PRT_LINK_CTL_LINK_DIS (s.cur (ISL_CFG_PORT i))) = false) (hlate : (s.islAt i).downAt + 1000000 ≤ s.now) :
    exec (.islTrainingRestart i) s = .next (s.setFld (ISL_STAT_STATE i) 1) :=
  congrArg s.done (if_pos ⟨hi, hst, hen, by simp [hdis], hlate⟩)

theorem exec_islTrainingRestart_idle {s : State} {i : Nat} (h : 8 ≤ i ∨ s.islSt i ≠ 0 ∨ s.curBit (ISL_CFG_EN i) = false ∨
    s.bit (PRT_LINK_CTL_LINK_DIS (s.cur (ISL_CFG_PORT i))) = true ∨ s.now < (s.islAt i).downAt + 1000000) :
    exec (.islTrainingRestart i) s = .next s := by
  refine congrArg s.done (if_neg ?_)
  rintro ⟨hi, hst, hen, hdis, hlate⟩
  rcases h with h | h | h | h | h
  · omega
  · exact h hst
  · simp [h] at hen
  · simp [h] at hdis
  · omega

/-- Settles O48: Aligning ends by what the measured headroom leaves of the receive buffers; a time-out fails the link, and on a port whose link is not up
that is `State.islDown`. -/
theorem islLinkStates : Obligations.IslLinkStates := by
  unfold Obligations.IslLinkStates
  refine ⟨fun _ _ _ => exec_islAligningDone_active, fun _ _ _ => exec_islAligningDone_keying, fun _ _ _ _ => exec_islAligningDone_short,
    fun _ _ => exec_islAligningDone_idle, fun _ _ _ => exec_islKeyingDone_active, fun _ _ _ => exec_islKeyingDone_idle, ?keyingTimeout,
    fun _ _ => exec_islKeyingTimeout_idle, ?recoveryTimeout, fun _ _ => exec_islRecoveryTimeout_idle, ?restart,
    fun _ _ => exec_islTrainingRestart_idle⟩
  case keyingTimeout =>
    intro s i hi hst hlate hport
    obtain ⟨t, ht, hdown, hrp⟩ := exec_islKeyingTimeout_down hi hst hlate hport
    exact ⟨t, ht, hdown.state, hdown.downCnt, hdown.blockLock, hdown.nextTx, hdown.nextRx, hrp⟩
  case recoveryTimeout =>
    intro s i hi hst hlate hport
    obtain ⟨t, ht, hdown, hrp⟩ := exec_islRecoveryTimeout_down hi hst hlate hport
    exact ⟨t, ht, hdown.state, hdown.downCnt, hdown.nextTx, hdown.nextRx, hrp⟩
  case restart =>
    intro s i hi hst hen hdis hlate
    exact ⟨_, exec_islTrainingRestart_trains hi hst hen hdis hlate, State.fld_setFld_same _ _ _ (Nat.le_of_ble_eq_true rfl), rfl⟩

end Sys2Proof.Machine
end

section
/-! Proofs of the family 05_interswitch_link, third part: the cells a link sends (R97, R98, R100, R105). -/
namespace Sys2Proof.Machine
open Sys2Proof

/-! ### One cell -/

/-- The registers with a NAK that the next cell carries counted. -/
def State.nakCounted (s : State) (i : Nat) : State := if (s.islAt i).nakDue then s.inc (ISL_ACK_ERR_NAK_TX i) else s

theorem State.nakCounted_out (s : State) (i : Nat) : (s.nakCounted i).out = s.out := by
  unfold State.nakCounted
  split <;> rfl

/-- What a cell says of the link that sends it, and the bytes it leaves as. -/
structure State.CellOf (s : State) (i : Nat) (c : IslCell) (b : List Nat) : Prop where
  bytes : b = scrambled (2 ^ s.fld (PRT_LINK_STAT_WIDTH (s.cur (ISL_CFG_PORT i)))) (s.islAt i).sinceMark (cellBlock c (s.txKey i) (s.islAt i).txc)
  ack : c.ack = seq (s.fld (ISL_RX_SEQ_NEXT_RX i) + 4095)
  ackValid : c.ackValid = (s.islAt i).acked
  nak : c.nak = (s.islAt i).nakDue

theorem State.sendCell_out (s : State) (i type sq : Nat) (rpl : Bool) (parts : List IslPart) :
    ∃ c b, (s.sendCell i type sq rpl parts).out = .cell i c b :: s.out ∧ s.CellOf i c b ∧ c.type = type ∧ c.seq = sq ∧ c.rpl = rpl ∧
      c.parts = parts :=
  ⟨_, _, congrArg (List.cons _) (s.nakCounted_out i), ⟨rfl, rfl, rfl, rfl⟩, rfl, rfl, rfl, rfl⟩

theorem State.sendCell_fld (s : State) (i type sq : Nat) (rpl : Bool) (parts : List IslPart) {f : Fld} (hf : (ISL_ACK_ERR_NAK_TX i).Apart f) :
    (s.sendCell i type sq rpl parts).fld f = s.fld f := by
  change (s.nakCounted i).fld f = s.fld f
  unfold State.nakCounted
  split
  · exact s.fld_inc_of_apart hf
  · rfl

/-- A cell that is sent leaves the replay buffer, the replay under way and the messages that wait as they are. -/
theorem State.sendCell_record (s : State) (i type sq : Nat) (rpl : Bool) (parts : List IslPart) :
    ((s.sendCell i type sq rpl parts).islAt i).rp = (s.islAt i).rp ∧ ((s.sendCell i type sq rpl parts).islAt i).rpl = (s.islAt i).rpl ∧
      ((s.sendCell i type sq rpl parts).islAt i).tx = (s.islAt i).tx := by
  have h : (s.sendCell i type sq rpl parts).islAt i = _ := State.islAt_setIsl_same (s.nakCounted i) i _
  rw [h]
  exact ⟨rfl, rfl, rfl⟩

/-! ### States that send the same cells -/

/-- A state sends on a link what another would: it has sent the same, and has what a cell says of its link. -/
structure State.SendsLike (s u : State) (i : Nat) : Prop where
  out : u.out = s.out
  force : u.force = s.force
  width : ∀ p, u.fld (PRT_LINK_STAT_WIDTH p) = s.fld (PRT_LINK_STAT_WIDTH p)
  nextRx : u.fld (ISL_RX_SEQ_NEXT_RX i) = s.fld (ISL_RX_SEQ_NEXT_RX i)
  prot : u.bit (ISL_STAT_PROT_ACTIVE i) = s.bit (ISL_STAT_PROT_ACTIVE i)
  acks : (u.islAt i).acked = (s.islAt i).acked ∧ (u.islAt i).nakDue = (s.islAt i).nakDue
  counts : (u.islAt i).sinceMark = (s.islAt i).sinceMark ∧ (u.islAt i).txc = (s.islAt i).txc
  keys : (u.islAt i).secret = (s.islAt i).secret ∧ (u.islAt i).txGen = (s.islAt i).txGen

theorem State.SendsLike.refl (s : State) (i : Nat) : s.SendsLike s i :=
  ⟨rfl, rfl, fun _ => rfl, rfl, rfl, ⟨rfl, rfl⟩, ⟨rfl, rfl⟩, ⟨rfl, rfl⟩⟩

theorem State.SendsLike.cellOf {s u : State} {i : Nat} (h : s.SendsLike u i) {c : IslCell} {b : List Nat} (hc : u.CellOf i c b) : s.CellOf i c b := by
  obtain ⟨hacked, hnak⟩ := h.acks
  obtain ⟨hsince, htxc⟩ := h.counts
  obtain ⟨hsecret, hgen⟩ := h.keys
  have hkey : u.txKey i = s.txKey i := by
    unfold State.txKey
    rw [h.prot, hsecret, hgen]
  refine ⟨hc.bytes.trans ?_, hc.ack.trans (by rw [h.nextRx]), hc.ackValid.trans hacked, hc.nak.trans hnak⟩
  rw [State.cur_congr h.force, h.width, hsince, htxc, hkey]

/-- Registers of the link other than those a cell speaks of may change. -/
theorem State.SendsLike.setFld {s u : State} {i : Nat} (h : s.SendsLike u i) (hi : i < 8) {f : Fld} {a : Nat} (hf : f.addr = a + i * 0x10000)
    (ha : a < 0x610000) (hrx : f.Apart (ISL_RX_SEQ_NEXT_RX i)) (hprot : f.Apart (ISL_STAT_PROT_ACTIVE i)) (v : Nat) :
    s.SendsLike (u.setFld f v) i where
  out := h.out
  force := h.force
  width p := (u.fld_setFld_addr f _ v (isl_ne_PRT_LINK_STAT hi hf ha p)).trans (h.width p)
  nextRx := (u.fld_setFld_of_apart v hrx).trans h.nextRx
  prot := (u.bit_setFld_of_apart v hprot).trans h.prot
  acks := h.acks
  counts := h.counts
  keys := h.keys

/-- So may what a link has to send, its replay buffer, and what is counted of it. -/
theorem State.SendsLike.setTx {s u : State} {i : Nat} (h : s.SendsLike u i) (tx : List (Msg × Nat)) (rp : NMap (List IslPart)) :
    s.SendsLike (u.setIsl i { u.islAt i with tx := tx, rp := rp }) i := by
  have hrecord := u.islAt_setIsl_same i { u.islAt i with tx := tx, rp := rp }
  refine ⟨h.out, h.force, h.width, h.nextRx, h.prot, ?acks, ?counts, ?keys⟩
  case acks => simpa only [hrecord] using h.acks
  case counts => simpa only [hrecord] using h.counts
  case keys => simpa only [hrecord] using h.keys

theorem State.SendsLike.tally {s u : State} {i : Nat} (h : s.SendsLike u i) (k ev n : Nat) : s.SendsLike (u.tally k ev n) i :=
  ⟨h.out, h.force, h.width, h.nextRx, h.prot, h.acks, h.counts, h.keys⟩

/-! ### The classes this side signals Off, and STALL (R98, R103) -/

theorem State.refreshOff_islAt (s : State) (i j : Nat) : (s.refreshOff i).islAt j = s.islAt j := rfl

theorem State.refreshOff_fld (s : State) {i : Nat} {f : Fld} (h : (ISL_FC_STAT_RX_OFF i).Apart f) : (s.refreshOff i).fld f = s.fld f :=
  s.fld_setFld_of_apart _ h

theorem State.refreshOff_bit (s : State) {i : Nat} {f : Fld} (h : (ISL_FC_STAT_RX_OFF i).Apart f) : (s.refreshOff i).bit f = s.bit f :=
  s.bit_setFld_of_apart _ h

theorem State.refreshOff_sendsLike (s : State) {i : Nat} (hi : i < 8) : s.SendsLike (s.refreshOff i) i :=
  (State.SendsLike.refl s i).setFld hi rfl (by decide) (Fld.apart_isl rfl rfl rfl) (Fld.apart_isl rfl rfl rfl) _

theorem State.refreshOff_islSpan (s : State) (i : Nat) : (s.refreshOff i).islSpan i = s.islSpan i := by
  unfold State.islSpan
  rw [s.refreshOff_fld (Fld.apart_isl rfl rfl rfl), s.refreshOff_fld (Fld.apart_isl rfl rfl rfl)]

theorem State.refreshOff_islSlots (s : State) (i : Nat) : (s.refreshOff i).islSlots i = s.islSlots i := by
  unfold State.islSlots
  rw [s.refreshOff_bit (Fld.apart_isl rfl rfl rfl)]

/-- The registers of the fabric group stand beyond those of the links. -/
theorem State.refreshOff_fld_group (s : State) {i : Nat} (hi : i < 8) {f : Fld} (hf : 0x680000 ≤ f.addr) : (s.refreshOff i).fld f = s.fld f :=
  s.fld_setFld_addr _ f _ (Nat.ne_of_lt ((isl_addr_lt (a := 0x600010) (by decide) hi).trans_le hf))

theorem State.refreshOff_carries (s : State) {i : Nat} (hi : i < 8) : (s.refreshOff i).carries i = s.carries i := by
  have hst : (s.refreshOff i).islSt i = s.islSt i := s.refreshOff_fld (Fld.apart_isl rfl rfl rfl)
  have hislands : ∀ m, (s.refreshOff i).fld (GRP_PEER_ISLS m) = s.fld (GRP_PEER_ISLS m) := fun m =>
    s.refreshOff_fld_group hi (Nat.le_add_right_of_le (by decide))
  have hepoch : ∀ m, (s.refreshOff i).fld (GRP_PEER_EP_EPOCH_SEEN m) = s.fld (GRP_PEER_EP_EPOCH_SEEN m) := fun m =>
    s.refreshOff_fld_group hi (Nat.le_add_right_of_le (by decide))
  have hgroup : (s.refreshOff i).fld GRP_EPOCH_EPOCH = s.fld GRP_EPOCH_EPOCH ∧ (s.refreshOff i).fld GRP_STAT_EXPEL = s.fld GRP_STAT_EXPEL :=
    ⟨s.refreshOff_fld_group hi (by decide), s.refreshOff_fld_group hi (by decide)⟩
  unfold State.carries State.peerOf State.peerOk
  simp only [hst, hislands, hepoch, hgroup]
  rfl

theorem State.refreshOff_mayBegin (s : State) {i : Nat} (hi : i < 8) (m : Msg) : (s.refreshOff i).mayBegin i m = s.mayBegin i m := by
  have hst : (s.refreshOff i).islSt i = s.islSt i := s.refreshOff_fld (Fld.apart_isl rfl rfl rfl)
  unfold State.mayBegin
  simp only [s.refreshOff_islAt, s.refreshOff_fld (i := i) (f := ISL_FC_STAT_TX_OFF i) (Fld.apart_isl rfl rfl rfl), hst, s.refreshOff_carries hi]

theorem State.refreshStall_sendsLike {s u : State} {i : Nat} (h : s.SendsLike u i) (hi : i < 8) : s.SendsLike (u.refreshStall i) i :=
  h.setFld hi rfl (by decide) (Fld.apart_isl rfl rfl rfl) (Fld.apart_isl rfl rfl rfl) _

theorem State.refreshStall_fld (s : State) {i : Nat} {f : Fld} (h : (ISL_SEQ_STALL i).Apart f) : (s.refreshStall i).fld f = s.fld f :=
  s.fld_setBit_of_apart _ h

@[simp] theorem State.refreshStall_islAt (s : State) (i j : Nat) : (s.refreshStall i).islAt j = s.islAt j := rfl
@[simp] theorem State.tally_islAt (s : State) (u ev n i : Nat) : (s.tally u ev n).islAt i = s.islAt i := rfl

/-! ### The next cell -/

/-- The states of a link in which it sends and takes cells: Keying and Active. -/
theorem isl_not_idle {i st : Nat} (hi : i < 8) (hst : st = 3 ∨ st = 4) : ¬ (8 ≤ i ∨ (st ≠ 3 ∧ st ≠ 4)) := by omega

/-- The state in which a cell of a replay has been sent. -/
def State.replaySent (s : State) (i q : Nat) : State :=
  ((s.refreshOff i).tally (342 + i) 0x081 1).sendCell i 1 q (s.islAt i).rplFirst (mgetD (s.islAt i).rp q [])

/-- With a replay under way the next cell is one of it. -/
theorem State.islSend_replay {s : State} {i q : Nat} (hi : i < 8) (hst : s.islSt i = 3 ∨ s.islSt i = 4) (hrpl : (s.islAt i).rpl = some q) :
    s.islSend i =
      let u := s.replaySent i q
      if seq (q + 1) = s.fld (ISL_SEQ_NEXT_TX i) then
        ((u.setIsl i { u.islAt i with rpl := none, rplFirst := false }).setBit (ISL_SEQ_REPLAYING i) false).refreshStall i
      else u.setIsl i { u.islAt i with rpl := some (seq (q + 1)), rplFirst := false } := by
  have hnext : (s.refreshOff i).fld (ISL_SEQ_NEXT_TX i) = s.fld (ISL_SEQ_NEXT_TX i) := s.refreshOff_fld (Fld.apart_isl rfl rfl rfl)
  unfold State.islSend State.replaySent
  rw [if_neg (isl_not_idle hi hst)]
  dsimp only
  rw [s.refreshOff_islAt, hrpl, hnext]

/-- With none, and the replay span full, it is a control cell. -/
theorem State.islSend_stalled {s : State} {i : Nat} (hi : i < 8) (hst : s.islSt i = 3 ∨ s.islSt i = 4) (hrpl : (s.islAt i).rpl = none)
    (hspan : s.islSpan i = 1024) : s.islSend i = ((s.refreshOff i).refreshStall i).sendCell i 0 0 false [] := by
  unfold State.islSend
  rw [if_neg (isl_not_idle hi hst)]
  dsimp only
  rw [s.refreshOff_islAt, hrpl]
  exact if_pos ((s.refreshOff_islSpan i).trans hspan)

/-- The state in which what has been packed is kept for replay under the next sequence number. -/
def State.islPacked (s : State) (i : Nat) (r : List IslPart × List (Msg × Nat)) : State :=
  let u := ((s.refreshOff i).setIsl i { s.islAt i with tx := r.2, rp := mput (s.islAt i).rp (s.fld (ISL_SEQ_NEXT_TX i)) r.1 }).setFld
    (ISL_SEQ_NEXT_TX i) (seq (s.fld (ISL_SEQ_NEXT_TX i) + 1))
  (u.tally (342 + i) 0x080 1).refreshStall i

theorem State.islPacked_sendsLike (s : State) {i : Nat} (hi : i < 8) (r : List IslPart × List (Msg × Nat)) : s.SendsLike (s.islPacked i r) i := by
  have hkept := (s.refreshOff_sendsLike hi).setTx r.2 (mput (s.islAt i).rp (s.fld (ISL_SEQ_NEXT_TX i)) r.1)
  have hnext := hkept.setFld hi (f := ISL_SEQ_NEXT_TX i) rfl (by decide) (Fld.apart_isl rfl rfl rfl) (Fld.apart_isl rfl rfl rfl)
    (seq (s.fld (ISL_SEQ_NEXT_TX i) + 1))
  exact State.refreshStall_sendsLike (hnext.tally _ _ _) hi

theorem seq_mod (n : Nat) : seq n % 2 ^ 12 = seq n := Nat.mod_mod n 4096

theorem State.islPacked_nextTx (s : State) (i : Nat) (r : List IslPart × List (Msg × Nat)) :
    (s.islPacked i r).fld (ISL_SEQ_NEXT_TX i) = seq (s.fld (ISL_SEQ_NEXT_TX i) + 1) :=
  (State.refreshStall_fld _ (Fld.apart_isl rfl rfl rfl)).trans ((State.fld_setFld_same _ _ _ (Nat.le_of_ble_eq_true rfl)).trans (seq_mod _))

theorem State.islPacked_islAt (s : State) (i : Nat) (r : List IslPart × List (Msg × Nat)) :
    (s.islPacked i r).islAt i = { s.islAt i with tx := r.2, rp := mput (s.islAt i).rp (s.fld (ISL_SEQ_NEXT_TX i)) r.1 } :=
  ((State.refreshStall_islAt _ i i).trans ((State.tally_islAt _ _ _ _ i).trans (State.setFld_islAt _ _ _ i))).trans (State.islAt_setIsl_same _ i _)

/-- Otherwise it is what can be packed of the messages that wait. -/
theorem State.islSend_packed {s : State} {i : Nat} (hi : i < 8) (hst : s.islSt i = 3 ∨ s.islSt i = 4) (hrpl : (s.islAt i).rpl = none)
    (hspan : s.islSpan i ≠ 1024) {r : List IslPart × List (Msg × Nat)}
    (hr : (s.refreshOff i).pack i (s.islSlots i) (begunFirst (s.islAt i).tx) = r) :
    s.islSend i =
      if r.1.isEmpty then (s.refreshOff i).sendCell i 0 0 false []
      else (s.islPacked i r).sendCell i 1 (s.fld (ISL_SEQ_NEXT_TX i)) false r.1 := by
  have hnext : (s.refreshOff i).fld (ISL_SEQ_NEXT_TX i) = s.fld (ISL_SEQ_NEXT_TX i) := s.refreshOff_fld (Fld.apart_isl rfl rfl rfl)
  have hfree : (s.refreshOff i).islSpan i ≠ 1024 := (s.refreshOff_islSpan i).trans_ne hspan
  unfold State.islSend State.islPacked
  rw [if_neg (isl_not_idle hi hst)]
  dsimp only
  rw [s.refreshOff_islAt, hrpl, hnext, s.refreshOff_islSlots, hr]
  exact if_neg hfree

/-- A message that has all come, may begin and fits a cell is packed whole. -/
theorem State.pack_whole {s : State} {i n : Nat} {m : Msg} (hwhole : m.whole = true) (hsome : 1 ≤ msgSlots m) (hfits : msgSlots m ≤ n)
    (hmay : s.mayBegin i m = true) :
    s.pack i n [(m, msgSlots m)] = ([IslPart.mk m.kind.cls (msgSlots m) (some m) true m.poison (slotData m 0 (msgSlots m))], []) := by
  have hn : n ≠ 0 := by omega
  have hslots : msgSlots m ≠ 0 := by omega
  simp [State.pack, slotsReady, hwhole, hmay, hn, hslots, Nat.min_eq_right hfits]

theorem exec_islCellSend_control {s : State} {i : Nat} (hi : i < 8) (hst : s.islSt i = 3 ∨ s.islSt i = 4) (hrpl : (s.islAt i).rpl = none)
    (hspan : s.islSpan i ≠ 1024) (htx : (s.islAt i).tx = []) :
    ∃ t c b, exec (.islCellSend i) s = .next t ∧ t.out = .cell i c b :: s.out ∧ s.CellOf i c b ∧ c.type = 0 ∧ c.seq = 0 ∧ c.parts = [] ∧
      t.fld (ISL_SEQ_NEXT_TX i) = s.fld (ISL_SEQ_NEXT_TX i) ∧ (t.islAt i).rp = (s.islAt i).rp := by
  have hpack : (s.refreshOff i).pack i (s.islSlots i) (begunFirst (s.islAt i).tx) = ([], []) := by
    rw [htx]
    rfl
  have hsend := (State.islSend_packed hi hst hrpl hspan hpack).trans (if_pos rfl)
  obtain ⟨t, ht, hregs, hisl, -, hout⟩ := s.done_keeps (s.islSend i)
  rw [hsend] at hregs hisl hout
  obtain ⟨c, b, hcell, hof, htype, hseq, -, hparts⟩ := (s.refreshOff i).sendCell_out i 0 0 false []
  obtain ⟨hrp, -, -⟩ := (s.refreshOff i).sendCell_record i 0 0 false []
  have hlike := s.refreshOff_sendsLike hi
  refine ⟨t, c, b, ht, (hout.trans hcell).trans (by rw [hlike.out]), hlike.cellOf hof, htype, hseq, hparts, ?_, ?_⟩
  · exact (State.fld_congr hregs _).trans ((State.sendCell_fld _ _ _ _ _ _ (Fld.apart_isl rfl rfl rfl)).trans
      (s.refreshOff_fld (Fld.apart_isl rfl rfl rfl)))
  · rw [State.islAt_congr hisl, hrp, s.refreshOff_islAt]

theorem exec_islCellSend_stalled {s : State} {i : Nat} (hi : i < 8) (hst : s.islSt i = 3 ∨ s.islSt i = 4) (hrpl : (s.islAt i).rpl = none)
    (hspan : s.islSpan i = 1024) :
    ∃ t c b, exec (.islCellSend i) s = .next t ∧ t.out = .cell i c b :: s.out ∧ s.CellOf i c b ∧ c.type = 0 ∧
      t.bit (ISL_SEQ_STALL i) = true := by
  have hstall : ((s.refreshOff i).refreshStall i).bit (ISL_SEQ_STALL i) = true := by
    refine (State.bit_setBit_same _ _ _ (Nat.le_of_ble_eq_true rfl) rfl).trans ?_
    rw [s.refreshOff_islSpan, hspan, s.refreshOff_islAt, hrpl]
    rfl
  obtain ⟨t, ht, hregs, -, -, hout⟩ := s.done_keeps (s.islSend i)
  rw [State.islSend_stalled hi hst hrpl hspan] at hregs hout
  obtain ⟨c, b, hcell, hof, htype, -⟩ := ((s.refreshOff i).refreshStall i).sendCell_out i 0 0 false []
  have hlike := State.refreshStall_sendsLike (s.refreshOff_sendsLike hi) hi
  refine ⟨t, c, b, ht, (hout.trans hcell).trans (by rw [hlike.out]), hlike.cellOf hof, htype, ?_⟩
  exact (congrArg (· == 1) ((State.fld_congr hregs _).trans (State.sendCell_fld _ _ _ _ _ _ (Fld.apart_isl rfl rfl rfl)))).trans hstall

theorem exec_islCellSend_data {s : State} {i : Nat} {m : Msg} (hi : i < 8) (hst : s.islSt i = 3 ∨ s.islSt i = 4) (hrpl : (s.islAt i).rpl = none)
    (hspan : s.islSpan i ≠ 1024) (htx : (s.islAt i).tx = [(m, msgSlots m)]) (hwhole : m.whole = true) (hsome : 1 ≤ msgSlots m)
    (hfits : msgSlots m ≤ s.islSlots i) (hmay : s.mayBegin i m = true) :
    ∃ t c b, exec (.islCellSend i) s = .next t ∧ t.out = .cell i c b :: s.out ∧ s.CellOf i c b ∧ c.type = 1 ∧ c.rpl = false ∧
      c.seq = s.fld (ISL_SEQ_NEXT_TX i) ∧ c.parts = [IslPart.mk m.kind.cls (msgSlots m) (some m) true m.poison (slotData m 0 (msgSlots m))] ∧
      t.fld (ISL_SEQ_NEXT_TX i) = seq (s.fld (ISL_SEQ_NEXT_TX i) + 1) ∧ (t.islAt i).tx = [] ∧
      mget (t.islAt i).rp (s.fld (ISL_SEQ_NEXT_TX i)) = some c.parts := by
  have hfirst : begunFirst (s.islAt i).tx = [(m, msgSlots m)] := by simp [begunFirst, htx]
  have hpack := State.pack_whole (s := s.refreshOff i) hwhole hsome hfits ((s.refreshOff_mayBegin hi m).trans hmay)
  rw [← hfirst] at hpack
  have hsend := (State.islSend_packed hi hst hrpl hspan hpack).trans (if_neg Bool.false_ne_true)
  generalize [IslPart.mk m.kind.cls (msgSlots m) (some m) true m.poison (slotData m 0 (msgSlots m))] = parts at hsend ⊢
  obtain ⟨t, ht, hregs, hisl, -, hout⟩ := s.done_keeps (s.islSend i)
  rw [hsend] at hregs hisl hout
  obtain ⟨c, b, hcell, hof, htype, hseq, hnot, hparts⟩ := (s.islPacked i (parts, [])).sendCell_out i 1 (s.fld (ISL_SEQ_NEXT_TX i)) false parts
  obtain ⟨hrp, -, htx'⟩ := (s.islPacked i (parts, [])).sendCell_record i 1 (s.fld (ISL_SEQ_NEXT_TX i)) false parts
  have hlike := s.islPacked_sendsLike hi (parts, [])
  refine ⟨t, c, b, ht, (hout.trans hcell).trans (by rw [hlike.out]), hlike.cellOf hof, htype, hnot, hseq, hparts, ?_, ?_, ?_⟩
  · exact (State.fld_congr hregs _).trans ((State.sendCell_fld _ _ _ _ _ _ (Fld.apart_isl rfl rfl rfl)).trans (s.islPacked_nextTx i _))
  · rw [State.islAt_congr hisl, htx', s.islPacked_islAt]
  · rw [State.islAt_congr hisl, hrp, s.islPacked_islAt, hparts, mget_mput_same]

theorem exec_islCellSend_replay {s : State} {i q : Nat} (hi : i < 8) (hst : s.islSt i = 3 ∨ s.islSt i = 4) (hrpl : (s.islAt i).rpl = some q) :
    ∃ t c b, exec (.islCellSend i) s = .next t ∧ t.out = .cell i c b :: s.out ∧ s.CellOf i c b ∧ c.type = 1 ∧ c.seq = q ∧
      c.rpl = (s.islAt i).rplFirst ∧ c.parts = mgetD (s.islAt i).rp q [] ∧ t.fld (ISL_SEQ_NEXT_TX i) = s.fld (ISL_SEQ_NEXT_TX i) ∧
      (t.islAt i).rpl = (if seq (q + 1) = s.fld (ISL_SEQ_NEXT_TX i) then none else some (seq (q + 1))) := by
  have hlike := (s.refreshOff_sendsLike hi).tally (342 + i) 0x081 1
  obtain ⟨c, b, hcell, hof, htype, hseq, hfirst, hparts⟩ : ∃ c b, (s.replaySent i q).out = _ ∧ _ :=
    ((s.refreshOff i).tally (342 + i) 0x081 1).sendCell_out i 1 q (s.islAt i).rplFirst (mgetD (s.islAt i).rp q [])
  have hnext : (s.replaySent i q).fld (ISL_SEQ_NEXT_TX i) = s.fld (ISL_SEQ_NEXT_TX i) :=
    (State.sendCell_fld _ _ _ _ _ _ (Fld.apart_isl rfl rfl rfl)).trans (s.refreshOff_fld (Fld.apart_isl rfl rfl rfl))
  have hsend := State.islSend_replay hi hst hrpl
  obtain ⟨t, ht, hregs, hisl, -, hout⟩ := s.done_keeps (s.islSend i)
  generalize s.replaySent i q = u at hcell hnext hsend
  rw [hlike.out] at hcell
  rw [hsend] at hregs hisl hout
  dsimp only at hregs hisl hout
  suffices hrest : t.out = u.out ∧ t.fld (ISL_SEQ_NEXT_TX i) = u.fld (ISL_SEQ_NEXT_TX i) ∧
      (t.islAt i).rpl = (if seq (q + 1) = s.fld (ISL_SEQ_NEXT_TX i) then none else some (seq (q + 1))) by
    obtain ⟨hout', hfld, hrpl'⟩ := hrest
    exact ⟨t, c, b, ht, hout'.trans hcell, hlike.cellOf hof, htype, hseq, hfirst, hparts, hfld.trans hnext, hrpl'⟩
  split_ifs at hregs hisl hout ⊢ with hlast
  · refine ⟨hout, (State.fld_congr hregs _).trans ?_, ?_⟩
    · exact (State.refreshStall_fld _ (Fld.apart_isl rfl rfl rfl)).trans (State.fld_setBit_of_apart _ _ (Fld.apart_isl rfl rfl rfl))
    · rw [State.islAt_congr (hisl.trans rfl)]
      exact congrArg Isl.rpl (State.islAt_setIsl_same u i _)
  · exact ⟨hout, State.fld_congr hregs _, congrArg Isl.rpl ((State.islAt_congr hisl i).trans (State.islAt_setIsl_same u i _))⟩

theorem exec_islCellSend_idle {s : State} {i : Nat} (h : 8 ≤ i ∨ (s.islSt i ≠ 3 ∧ s.islSt i ≠ 4)) : exec (.islCellSend i) s = .next s :=
  congrArg s.done (if_pos h)

end Sys2Proof.Machine
end

section
/-! Proofs of the family 05_interswitch_link, fourth part: the cells a link receives (R91, R92, R99 to R101, R110), and O46. -/
namespace Sys2Proof.Machine
open Sys2Proof

/-! ### Whether a received cell is good -/

/-- The state in which the bytes that FEC corrects in a received cell are counted. -/
def State.fecCounted (s : State) (i : Nat) (errs : List (Nat × Nat)) : State := s.addSat (ISL_FEC_CNT_CORR i) (fecFixed errs)

theorem State.fecCounted_islAt (s : State) (i : Nat) (errs : List (Nat × Nat)) (j : Nat) : (s.fecCounted i errs).islAt j = s.islAt j := rfl

theorem State.fecCounted_frame (s : State) (i : Nat) (errs : List (Nat × Nat)) : s.IslFrame (s.fecCounted i errs) :=
  (State.IslFrame.refl s).setFld _ _

theorem State.fecCounted_fld (s : State) {i : Nat} (errs : List (Nat × Nat)) {f : Fld} (h : (ISL_FEC_CNT_CORR i).Apart f) :
    (s.fecCounted i errs).fld f = s.fld f := s.fld_addSat_of_apart _ h

theorem State.fecCounted_bit (s : State) {i : Nat} (errs : List (Nat × Nat)) {f : Fld} (h : (ISL_FEC_CNT_CORR i).Apart f) :
    (s.fecCounted i errs).bit f = s.bit f := s.bit_addSat_of_apart _ h

theorem State.fecCounted_corr (s : State) (i : Nat) (errs : List (Nat × Nat)) :
    (s.fecCounted i errs).fld (ISL_FEC_CNT_CORR i) = min (s.fld (ISL_FEC_CNT_CORR i) + fecFixed errs) (2 ^ (ISL_FEC_CNT_CORR i).width - 1) := by
  refine (State.fld_setFld_same _ _ _ (Nat.le_of_ble_eq_true rfl)).trans (Nat.mod_eq_of_lt ?_)
  exact Nat.lt_of_le_of_lt (Nat.min_le_right _ _) (Nat.sub_lt (Nat.two_pow_pos _) Nat.one_pos)

/-- A cell fails its CRC, or is of no type (R92). -/
theorem State.islReceive_corrupt {s : State} {i : Nat} {c : IslCell} {errs : List (Nat × Nat)} (hi : i < 8) (hst : s.islSt i = 3 ∨ s.islSt i = 4)
    (hbad : crcPasses (residual errs) = false ∨ 2 ≤ c.type) (tag : Nat) :
    s.islReceive i c errs tag = (s.fecCounted i errs).corruptCell i false :=
  (if_neg (isl_not_idle hi hst)).trans (if_pos (by simpa using hbad))

/-- Under protection a good cell whose tag is another fails too (R110). -/
theorem State.islReceive_badTag {s : State} {i tag : Nat} {c : IslCell} {errs : List (Nat × Nat)} (hi : i < 8)
    (hst : s.islSt i = 3 ∨ s.islSt i = 4) (htype : c.type < 2) (hcrc : crcPasses (residual errs) = true)
    (hprot : s.bit (ISL_STAT_PROT_ACTIVE i) = true) (htag : tag ≠ s.rxTag i c) :
    s.islReceive i c errs tag = (s.fecCounted i errs).corruptCell i true := by
  refine (if_neg (isl_not_idle hi hst)).trans ((if_neg ?_).trans (if_pos ⟨?_, htag⟩))
  · simp [hcrc, htype]
  · exact (s.fecCounted_bit errs (Fld.apart_isl rfl rfl rfl)).trans hprot

theorem State.islReceive_good {s : State} {i tag : Nat} {c : IslCell} {errs : List (Nat × Nat)} (hi : i < 8)
    (hst : s.islSt i = 3 ∨ s.islSt i = 4) (htype : c.type < 2) (hcrc : crcPasses (residual errs) = true)
    (htag : s.bit (ISL_STAT_PROT_ACTIVE i) = true → tag = s.rxTag i c) :
    s.islReceive i c errs tag = (s.fecCounted i errs).goodCell i c := by
  refine (if_neg (isl_not_idle hi hst)).trans ((if_neg ?_).trans (if_neg ?_))
  · simp [hcrc, htype]
  · rintro ⟨hprot, hne⟩
    exact hne (htag ((s.fecCounted_bit errs (Fld.apart_isl rfl rfl rfl)).symm.trans hprot))

/-! ### Corrupt cells (R92, R110) -/

/-- The state in which a corrupt cell is counted. -/
def State.badCounted (s : State) (i : Nat) : State :=
  (s.inc (ISL_LINK_ERR_CORRUPT i)).setIsl i { s.islAt i with bad := (s.islAt i).bad + 1 }

/-- The state in which a NAK is due. -/
def State.nakOpened (s : State) (i : Nat) : State := (s.setIsl i { s.islAt i with nakDue := true }).setBit (ISL_RX_SEQ_NAK_PEND i) true

theorem State.wantNak_eq {s : State} {i : Nat} (hpend : s.bit (ISL_RX_SEQ_NAK_PEND i) = false) : s.wantNak i = s.nakOpened i :=
  if_neg (by simp [hpend])

/-- In Keying, where no error-rate window runs, a corrupt cell is counted and a NAK falls due. -/
theorem State.corruptCell_keying {s : State} {i : Nat} (hst : s.islSt i = 3) (hpend : s.bit (ISL_RX_SEQ_NAK_PEND i) = false)
    (hbad : (s.islAt i).bad < 7) : s.corruptCell i false = (s.badCounted i).nakOpened i := by
  have hpend' : (s.badCounted i).bit (ISL_RX_SEQ_NAK_PEND i) = false := (s.bit_inc_of_apart (Fld.apart_isl rfl rfl rfl)).trans hpend
  have hst' : ((s.badCounted i).nakOpened i).islSt i = 3 :=
    (State.fld_setBit_of_apart _ _ (Fld.apart_isl rfl rfl rfl)).trans ((s.fld_inc_of_apart (Fld.apart_isl rfl rfl rfl)).trans hst)
  have hwindow : ((s.badCounted i).wantNak i).windowError i = (s.badCounted i).nakOpened i := by
    rw [State.wantNak_eq hpend', State.windowError_of_not_active (by rw [hst']; decide)]
  have heq : s.corruptCell i false = if 8 ≤ (s.islAt i).bad + 1 then (((s.badCounted i).wantNak i).windowError i).islRecover i
      else ((s.badCounted i).wantNak i).windowError i := rfl
  rw [heq, if_neg (by omega), hwindow]

theorem State.nakOpened_record (s : State) (i : Nat) :
    ((s.badCounted i).nakOpened i).islAt i = { s.islAt i with bad := (s.islAt i).bad + 1, nakDue := true } := by
  refine (State.setBit_islAt _ _ _ i).trans ((State.islAt_setIsl_same _ i _).trans ?_)
  exact congrArg (fun x : Isl => { x with nakDue := true }) (State.islAt_setIsl_same _ i _)

theorem State.nakOpened_frame (s : State) (i : Nat) : s.IslFrame ((s.badCounted i).nakOpened i) :=
  ((((State.IslFrame.refl s).inc _).setIsl i _).setIsl i _).setBit _ _

/-- With the port's link down, a cell whose tag fails is counted, sets INTEG_FAIL and takes the link down. -/
theorem State.corruptCell_tag {s : State} {i : Nat} (hi : i < 8) (hport : s.linkUp (s.cur (ISL_CFG_PORT i)) = false) :
    (s.corruptCell i true).fld (ISL_LINK_ERR_CORRUPT i) = s.oneMore (ISL_LINK_ERR_CORRUPT i) ∧
      (s.corruptCell i true).bit (ISL_STAT_INTEG_FAIL i) = true ∧ (s.corruptCell i true).islSt i = 0 := by
  let u : State := (s.inc (ISL_LINK_ERR_CORRUPT i)).setBit (ISL_STAT_INTEG_FAIL i) true
  let v : State := (u.windowError i).reportCode 0x0203 i none 0
  have hportu : u.linkUp (u.cur (ISL_CFG_PORT i)) = false :=
    (State.bit_setBit_addr _ _ _ _ (isl_ne_PRT_LINK_STAT hi rfl (by decide) _)).trans
      ((State.bit_inc_addr _ _ _ (isl_ne_PRT_LINK_STAT hi rfl (by decide) _)).trans hport)
  have hkeeps : u.IslKeeps v i := (State.windowError_keeps hi hportu).trans ((State.reportCode_islAlike _ _ _ _ _).islKeeps hi)
  have hportv : v.linkUp (v.cur (ISL_CFG_PORT i)) = false := by
    rw [State.cur_congr hkeeps.force, hkeeps.linkUp, hportu]
  have heq : s.corruptCell i true = v.islDown i := (State.islFail_of_not_linkUp hportv :)
  have hdown := hkeeps.trans (v.islDown_keeps hi)
  rw [heq]
  refine ⟨hdown.corrupt.trans ?_, hdown.integFail.trans ?_, v.islDown_islSt hi⟩
  · exact (State.fld_setBit_of_apart _ _ (Fld.apart_isl rfl rfl rfl)).trans (s.fld_inc_same _ (Nat.le_of_ble_eq_true rfl))
  · exact State.bit_setBit_same _ _ _ (Nat.le_of_ble_eq_true rfl) rfl

/-! ### Good cells (R99 to R101) -/

/-- The state in which a good cell without a valid ACK has updated the link's record, flow control and NAK. -/
def State.cellHeard (s : State) (i : Nat) (c : IslCell) : State :=
  let s1 := (s.setIsl i { s.islAt i with
    bad := 0, silent := false, rxc := ((s.islAt i).counter c.txc + 1) % 2 ^ 64,
    rxGen := if s.bit (ISL_STAT_PROT_ACTIVE i) then (s.islAt i).rxPick c.ks else (s.islAt i).rxGen }).setFld (ISL_FC_STAT_TX_OFF i) c.xoff
  if c.rpl then s1.setBit (ISL_RX_SEQ_NAK_PEND i) false else s1

theorem State.goodCell_eq {s : State} {i : Nat} {c : IslCell} (hack : c.ackValid = false) {u : State}
    (hu : (if c.type = 1 then (s.cellHeard i c).takeData i c else s.cellHeard i c) = u) (hst : u.islSt i ≠ 0) :
    s.goodCell i c = u.refreshOff i := by
  have htake : ∀ t : State, t.takeAck i c = t := fun t => if_pos (by simp [hack])
  unfold State.goodCell
  simp only [htake]
  change (if (if c.type = 1 then (s.cellHeard i c).takeData i c else s.cellHeard i c).islSt i = 0 then _ else
    (if c.type = 1 then (s.cellHeard i c).takeData i c else s.cellHeard i c).refreshOff i) = _
  rw [hu, if_neg hst]

theorem State.cellHeard_fld (s : State) {i : Nat} (c : IslCell) {f : Fld} (hoff : (ISL_FC_STAT_TX_OFF i).Apart f)
    (hnak : (ISL_RX_SEQ_NAK_PEND i).Apart f) : (s.cellHeard i c).fld f = s.fld f := by
  unfold State.cellHeard
  dsimp only
  split
  · exact (State.fld_setBit_of_apart _ _ hnak).trans (State.fld_setFld_of_apart _ _ hoff)
  · exact State.fld_setFld_of_apart _ _ hoff

theorem State.cellHeard_islSt (s : State) (i : Nat) (c : IslCell) : (s.cellHeard i c).islSt i = s.islSt i :=
  s.cellHeard_fld c (Fld.apart_isl rfl rfl rfl) (Fld.apart_isl rfl rfl rfl)

/-- A good cell's XOFF, ACK and NAK leave NEXT_RX as it is. -/
theorem State.cellHeard_nextRx (s : State) (i : Nat) (errs : List (Nat × Nat)) (c : IslCell) :
    ((s.fecCounted i errs).cellHeard i c).fld (ISL_RX_SEQ_NEXT_RX i) = s.fld (ISL_RX_SEQ_NEXT_RX i) :=
  (State.cellHeard_fld _ c (Fld.apart_isl rfl rfl rfl) (Fld.apart_isl rfl rfl rfl)).trans (s.fecCounted_fld errs (Fld.apart_isl rfl rfl rfl))

theorem State.cellHeard_txOff (s : State) (i : Nat) (c : IslCell) : (s.cellHeard i c).fld (ISL_FC_STAT_TX_OFF i) = c.xoff % 16 := by
  unfold State.cellHeard
  dsimp only
  split
  · exact (State.fld_setBit_of_apart _ _ (Fld.apart_isl rfl rfl rfl)).trans (State.fld_setFld_same _ _ _ (Nat.le_of_ble_eq_true rfl))
  · exact State.fld_setFld_same _ _ _ (Nat.le_of_ble_eq_true rfl)

theorem State.cellHeard_islAt (s : State) (i : Nat) (c : IslCell) : (s.cellHeard i c).islAt i = { s.islAt i with
    bad := 0, silent := false, rxc := ((s.islAt i).counter c.txc + 1) % 2 ^ 64,
    rxGen := if s.bit (ISL_STAT_PROT_ACTIVE i) then (s.islAt i).rxPick c.ks else (s.islAt i).rxGen } := by
  unfold State.cellHeard
  dsimp only
  split
  · exact State.islAt_setIsl_same s i _
  · exact State.islAt_setIsl_same s i _

theorem State.cellHeard_frame (s : State) (i : Nat) (c : IslCell) : s.IslFrame (s.cellHeard i c) := by
  have hheard := ((State.IslFrame.refl s).setIsl i { s.islAt i with
    bad := 0, silent := false, rxc := ((s.islAt i).counter c.txc + 1) % 2 ^ 64,
    rxGen := if s.bit (ISL_STAT_PROT_ACTIVE i) then (s.islAt i).rxPick c.ks else (s.islAt i).rxGen }).setFld (ISL_FC_STAT_TX_OFF i) c.xoff
  unfold State.cellHeard
  dsimp only
  split
  · exact hheard.setBit _ _
  · exact hheard

theorem State.IslFrame.refreshOff {s t : State} (h : s.IslFrame t) (i : Nat) : s.IslFrame (t.refreshOff i) := h.setFld _ _

/-! ### Data cells in sequence and duplicates (R99) -/

theorem seqDist_self (n : Nat) : seqDist n n = 0 := by
  unfold seqDist
  omega

/-- The state in which a cell in sequence has advanced NEXT_RX. -/
def State.cellTaken (s : State) (i : Nat) : State :=
  ((s.setBit (ISL_RX_SEQ_NAK_PEND i) false).setFld (ISL_RX_SEQ_NEXT_RX i) (seq (s.fld (ISL_RX_SEQ_NEXT_RX i) + 1))).setIsl i
    { s.islAt i with acked := true }

theorem State.takeData_empty {s : State} {i : Nat} {c : IslCell} (hseq : c.seq = s.fld (ISL_RX_SEQ_NEXT_RX i)) (hparts : c.parts = []) :
    s.takeData i c = s.cellTaken i := by
  have hdist : seqDist (s.fld (ISL_RX_SEQ_NEXT_RX i)) c.seq = 0 := by rw [hseq, seqDist_self]
  unfold State.takeData State.cellTaken
  dsimp only
  rw [if_pos hdist, hparts]
  rfl

theorem State.takeData_duplicate {s : State} {i : Nat} {c : IslCell} (hfar : 3072 ≤ seqDist (s.fld (ISL_RX_SEQ_NEXT_RX i)) c.seq) :
    s.takeData i c = s.inc (ISL_LINK_ERR_DUP i) := by
  unfold State.takeData
  dsimp only
  rw [if_neg (by omega), if_pos hfar]

/-! ### What a received cell does -/

theorem exec_islCellReceived_corrupt {s : State} {i tag : Nat} {c : IslCell} {errs : List (Nat × Nat)} (hi : i < 8) (hst : s.islSt i = 3)
    (hpend : s.bit (ISL_RX_SEQ_NAK_PEND i) = false) (hfew : (s.islAt i).bad < 7) (hbad : crcPasses (residual errs) = false ∨ 2 ≤ c.type) :
    ∃ t, exec (.islCellReceived i c errs tag) s = .next t ∧ t.fld (ISL_LINK_ERR_CORRUPT i) = s.oneMore (ISL_LINK_ERR_CORRUPT i) ∧
      t.bit (ISL_RX_SEQ_NAK_PEND i) = true ∧ (t.islAt i).nakDue = true ∧ (t.islAt i).bad = (s.islAt i).bad + 1 ∧
      t.fld (ISL_RX_SEQ_NEXT_RX i) = s.fld (ISL_RX_SEQ_NEXT_RX i) ∧ t = { s with regs := t.regs, isl := t.isl } := by
  have hst' : (s.fecCounted i errs).islSt i = 3 := (s.fecCounted_fld errs (Fld.apart_isl rfl rfl rfl)).trans hst
  have hpend' : (s.fecCounted i errs).bit (ISL_RX_SEQ_NAK_PEND i) = false := (s.fecCounted_bit errs (Fld.apart_isl rfl rfl rfl)).trans hpend
  have hcorrupt : (s.fecCounted i errs).fld (ISL_LINK_ERR_CORRUPT i) = s.fld (ISL_LINK_ERR_CORRUPT i) :=
    s.fecCounted_fld errs (Fld.apart_isl rfl rfl rfl)
  have hrx : (s.fecCounted i errs).fld (ISL_RX_SEQ_NEXT_RX i) = s.fld (ISL_RX_SEQ_NEXT_RX i) := s.fecCounted_fld errs (Fld.apart_isl rfl rfl rfl)
  have hrecord := s.fecCounted_islAt i errs i
  have hframe := s.fecCounted_frame i errs
  have hexec : exec (.islCellReceived i c errs tag) s = s.done ((s.fecCounted i errs).corruptCell i false) :=
    congrArg s.done (State.islReceive_corrupt hi (.inl hst) hbad tag)
  generalize s.fecCounted i errs = u at *
  rw [State.corruptCell_keying hst' hpend' (by rwa [hrecord])] at hexec
  have hframe' := hframe.trans (u.nakOpened_frame i)
  refine ⟨_, hexec.trans hframe'.done_eq_next, ?_, ?_, ?_, ?_, ?_, hframe'⟩
  · refine (State.fld_setBit_of_apart _ _ (Fld.apart_isl rfl rfl rfl)).trans ((u.fld_inc_same _ (Nat.le_of_ble_eq_true rfl)).trans ?_)
    rw [hcorrupt]
    rfl
  · exact State.bit_setBit_same _ _ _ (Nat.le_of_ble_eq_true rfl) rfl
  · rw [u.nakOpened_record]
  · rw [u.nakOpened_record, hrecord]
  · exact (State.fld_setBit_of_apart _ _ (Fld.apart_isl rfl rfl rfl)).trans ((u.fld_inc_of_apart (Fld.apart_isl rfl rfl rfl)).trans hrx)

theorem exec_islCellReceived_badTag {s : State} {i tag : Nat} {c : IslCell} {errs : List (Nat × Nat)} (hi : i < 8)
    (hst : s.islSt i = 3 ∨ s.islSt i = 4) (htype : c.type < 2) (hcrc : crcPasses (residual errs) = true)
    (hprot : s.bit (ISL_STAT_PROT_ACTIVE i) = true) (htag : tag ≠ s.rxTag i c) (hport : s.linkUp (s.cur (ISL_CFG_PORT i)) = false) :
    ∃ t, exec (.islCellReceived i c errs tag) s = .next t ∧ t.fld (ISL_LINK_ERR_CORRUPT i) = s.oneMore (ISL_LINK_ERR_CORRUPT i) ∧
      t.bit (ISL_STAT_INTEG_FAIL i) = true ∧ t.islSt i = 0 := by
  have hportu : (s.fecCounted i errs).linkUp ((s.fecCounted i errs).cur (ISL_CFG_PORT i)) = false :=
    (s.bit_setFld_addr _ _ _ (isl_ne_PRT_LINK_STAT hi rfl (by decide) _)).trans hport
  obtain ⟨hcount, hinteg, hdown⟩ := State.corruptCell_tag hi hportu
  obtain ⟨t, ht, hregs, -⟩ := s.done_keeps ((s.fecCounted i errs).corruptCell i true)
  refine ⟨t, (congrArg s.done (State.islReceive_badTag hi hst htype hcrc hprot htag)).trans ht, (State.fld_congr hregs _).trans (hcount.trans ?_),
    (State.bit_congr hregs _).trans hinteg, (State.fld_congr hregs _).trans hdown⟩
  unfold State.oneMore
  rw [s.fecCounted_fld errs (Fld.apart_isl rfl rfl rfl)]

section
variable {s : State} {i tag : Nat} {c : IslCell} {errs : List (Nat × Nat)} (hi : i < 8) (hst : s.islSt i = 3 ∨ s.islSt i = 4)
  (hack : c.ackValid = false) (hcrc : crcPasses (residual errs) = true) (htag : s.bit (ISL_STAT_PROT_ACTIVE i) = true → tag = s.rxTag i c)
include hi hst hack hcrc htag

/-- A good cell without a valid ACK is heard; what else it does, it does as a data cell. -/
theorem exec_islCellReceived_good (htype : c.type < 2) {u v : State} (hv : (s.fecCounted i errs).cellHeard i c = v)
    (hu : (if c.type = 1 then v.takeData i c else v) = u) (hframe : v.IslFrame u) (hkept : u.islSt i = v.islSt i) :
    exec (.islCellReceived i c errs tag) s = .next (u.refreshOff i) ∧ s.IslFrame (u.refreshOff i) := by
  subst hv
  have hstu : u.islSt i = s.islSt i :=
    hkept.trans ((State.cellHeard_islSt _ i c).trans (s.fecCounted_fld errs (Fld.apart_isl rfl rfl rfl)))
  have hframe' := (((s.fecCounted_frame i errs).trans (State.cellHeard_frame _ i c)).trans hframe).refreshOff i
  have hgood := (State.islReceive_good hi hst htype hcrc htag).trans (State.goodCell_eq hack hu (by omega))
  exact ⟨(congrArg s.done hgood).trans hframe'.done_eq_next, hframe'⟩

theorem exec_islCellReceived_control (htype : c.type = 0) :
    ∃ t, exec (.islCellReceived i c errs tag) s = .next t ∧ t.fld (ISL_FC_STAT_TX_OFF i) = c.xoff % 16 ∧ (t.islAt i).bad = 0 ∧
      (t.islAt i).silent = false ∧ (t.islAt i).rxc = ((s.islAt i).counter c.txc + 1) % 2 ^ 64 ∧
      t.fld (ISL_FEC_CNT_CORR i) = min (s.fld (ISL_FEC_CNT_CORR i) + fecFixed errs) (2 ^ (ISL_FEC_CNT_CORR i).width - 1) ∧
      t = { s with regs := t.regs, isl := t.isl } := by
  obtain ⟨hexec, hframe⟩ := exec_islCellReceived_good hi hst hack hcrc htag (by omega) rfl (if_neg (by omega)) (.refl _) rfl
  have hrecord := (State.refreshOff_islAt _ i i).trans ((s.fecCounted i errs).cellHeard_islAt i c)
  refine ⟨_, hexec, ?_, ?_, ?_, ?_, ?_, hframe⟩
  · exact (State.refreshOff_fld _ (Fld.apart_isl rfl rfl rfl)).trans (State.cellHeard_txOff _ i c)
  · rw [hrecord]
  · rw [hrecord]
  · rw [hrecord, s.fecCounted_islAt]
  · exact (State.refreshOff_fld _ (Fld.apart_isl rfl rfl rfl)).trans
      ((State.cellHeard_fld _ c (Fld.apart_isl rfl rfl rfl) (Fld.apart_isl rfl rfl rfl)).trans (s.fecCounted_corr i errs))

theorem exec_islCellReceived_inSequence (htype : c.type = 1) (hparts : c.parts = []) (hseq : c.seq = s.fld (ISL_RX_SEQ_NEXT_RX i)) :
    ∃ t, exec (.islCellReceived i c errs tag) s = .next t ∧ t.fld (ISL_RX_SEQ_NEXT_RX i) = seq (s.fld (ISL_RX_SEQ_NEXT_RX i) + 1) ∧
      t.bit (ISL_RX_SEQ_NAK_PEND i) = false ∧ (t.islAt i).acked = true ∧ t = { s with regs := t.regs, isl := t.isl } := by
  have hrx := s.cellHeard_nextRx i errs c
  generalize hv : (s.fecCounted i errs).cellHeard i c = v at hrx
  have hframe : v.IslFrame (v.cellTaken i) := (((State.IslFrame.refl v).setBit _ _).setFld _ _).setIsl i _
  have hkept : (v.cellTaken i).islSt i = v.islSt i :=
    (State.fld_setFld_of_apart _ _ (Fld.apart_isl rfl rfl rfl)).trans (State.fld_setBit_of_apart _ _ (Fld.apart_isl rfl rfl rfl))
  obtain ⟨hexec, hframe'⟩ := exec_islCellReceived_good hi hst hack hcrc htag (by omega) hv
    ((if_pos htype).trans (State.takeData_empty (hseq.trans hrx.symm) hparts)) hframe hkept
  refine ⟨_, hexec, ?_, ?_, ?_, hframe'⟩
  · refine (State.refreshOff_fld _ (Fld.apart_isl rfl rfl rfl)).trans ((State.fld_setFld_same _ _ _ (Nat.le_of_ble_eq_true rfl)).trans ?_)
    rw [hrx]
    exact seq_mod _
  · exact (State.refreshOff_bit _ (Fld.apart_isl rfl rfl rfl)).trans ((State.bit_setFld_of_apart _ _ (Fld.apart_isl rfl rfl rfl)).trans
      (State.bit_setBit_same _ _ _ (Nat.le_of_ble_eq_true rfl) rfl))
  · exact congrArg Isl.acked ((State.refreshOff_islAt _ i i).trans (State.islAt_setIsl_same _ i _))

theorem exec_islCellReceived_duplicate (htype : c.type = 1) (hfar : 3072 ≤ seqDist (s.fld (ISL_RX_SEQ_NEXT_RX i)) c.seq) :
    ∃ t, exec (.islCellReceived i c errs tag) s = .next t ∧ t.fld (ISL_LINK_ERR_DUP i) = s.oneMore (ISL_LINK_ERR_DUP i) ∧
      t.fld (ISL_RX_SEQ_NEXT_RX i) = s.fld (ISL_RX_SEQ_NEXT_RX i) ∧ t = { s with regs := t.regs, isl := t.isl } := by
  have hrx := s.cellHeard_nextRx i errs c
  have hdup : ((s.fecCounted i errs).cellHeard i c).fld (ISL_LINK_ERR_DUP i) = s.fld (ISL_LINK_ERR_DUP i) :=
    (State.cellHeard_fld _ c (Fld.apart_isl rfl rfl rfl) (Fld.apart_isl rfl rfl rfl)).trans (s.fecCounted_fld errs (Fld.apart_isl rfl rfl rfl))
  generalize hv : (s.fecCounted i errs).cellHeard i c = v at hrx hdup
  have hframe : v.IslFrame (v.inc (ISL_LINK_ERR_DUP i)) := (State.IslFrame.refl v).inc _
  have hkept : (v.inc (ISL_LINK_ERR_DUP i)).islSt i = v.islSt i := v.fld_inc_of_apart (Fld.apart_isl rfl rfl rfl)
  obtain ⟨hexec, hframe'⟩ := exec_islCellReceived_good hi hst hack hcrc htag (by omega) hv
    ((if_pos htype).trans (State.takeData_duplicate (by rwa [hrx]))) hframe hkept
  refine ⟨_, hexec, ?_, ?_, hframe'⟩
  · refine (State.refreshOff_fld _ (Fld.apart_isl rfl rfl rfl)).trans ((v.fld_inc_same _ (Nat.le_of_ble_eq_true rfl)).trans ?_)
    rw [hdup]
    rfl
  · exact (State.refreshOff_fld _ (Fld.apart_isl rfl rfl rfl)).trans ((v.fld_inc_of_apart (Fld.apart_isl rfl rfl rfl)).trans hrx)

end

theorem exec_islCellReceived_idle {s : State} {i tag : Nat} {c : IslCell} {errs : List (Nat × Nat)}
    (h : 8 ≤ i ∨ (s.islSt i ≠ 3 ∧ s.islSt i ≠ 4)) : exec (.islCellReceived i c errs tag) s = .next s := congrArg s.done (if_pos h)

/-- Settles O46: what is sent next is decided by the replay under way, the span and what can be packed; a received cell is judged by its errors, its type
and its tag, and a good one by its sequence number. -/
theorem islCells : Obligations.IslCells := by
  unfold Obligations.IslCells
  refine ⟨?control, ?data, ?replay, ?stalled, fun _ _ => exec_islCellSend_idle, fun _ _ _ _ _ => exec_islCellReceived_corrupt, ?heard, ?inSequence,
    ?duplicate, ?badTag, fun _ _ _ _ _ => exec_islCellReceived_idle⟩
  case control =>
    intro s i hi hst hrpl hspan htx
    obtain ⟨t, c, b, hexec, hout, hof, htype, hseq, hparts, hnext, hrp⟩ := exec_islCellSend_control hi hst hrpl hspan htx
    exact ⟨t, c, b, hexec, hout, hof.bytes, htype, hseq, hparts, hof.ack, hof.ackValid, hof.nak, hnext, hrp⟩
  case data =>
    intro s i m hi hst hrpl hspan htx hwhole hsome hfits hmay
    obtain ⟨t, c, b, hexec, hout, hof, hrest⟩ := exec_islCellSend_data hi hst hrpl hspan htx hwhole hsome hfits hmay
    exact ⟨t, c, b, hexec, hout, hof.bytes, hrest⟩
  case replay =>
    intro s i q hi hst hrpl
    obtain ⟨t, c, b, hexec, hout, hof, hrest⟩ := exec_islCellSend_replay hi hst hrpl
    exact ⟨t, c, b, hexec, hout, hof.bytes, hrest⟩
  case stalled =>
    intro s i hi hst hrpl hspan
    obtain ⟨t, c, b, hexec, hout, hof, hrest⟩ := exec_islCellSend_stalled hi hst hrpl hspan
    exact ⟨t, c, b, hexec, hout, hof.bytes, hrest⟩
  case heard =>
    intro s i tag c errs hi hst htype hack hcrc htag
    exact exec_islCellReceived_control hi hst hack hcrc htag htype
  case inSequence =>
    intro s i tag c errs hi hst htype hack hparts hseq hcrc htag
    exact exec_islCellReceived_inSequence hi hst hack hcrc htag htype hparts hseq
  case duplicate =>
    intro s i tag c errs hi hst htype hack _ hfar hcrc htag
    exact exec_islCellReceived_duplicate hi hst hack hcrc htag htype hfar
  case badTag =>
    intro s i tag c errs hi hst htype hcrc hprot htag hport
    exact exec_islCellReceived_badTag hi hst htype hcrc hprot htag hport

end Sys2Proof.Machine
end

section
/-! Proofs of the family 05_interswitch_link, fifth part: the replay timer, receiver silence and markers (R95, R96, R102, R104, R105; O47). -/
namespace Sys2Proof.Machine
open Sys2Proof

/-! ### The replay timer (R102) -/

/-- The state in which an expiry of the replay timer is counted. -/
def State.expiryCounted (s : State) (i : Nat) : State :=
  (s.setIsl i { s.islAt i with expiries := (s.islAt i).expiries + 1 }).inc (ISL_REPLAY_STAT_TIMEOUT_CNT i)

theorem State.expiryCounted_fld (s : State) {i : Nat} {f : Fld} (h : (ISL_REPLAY_STAT_TIMEOUT_CNT i).Apart f) : (s.expiryCounted i).fld f = s.fld f :=
  State.fld_inc_of_apart _ h

theorem State.expiryCounted_islAt (s : State) (i : Nat) :
    (s.expiryCounted i).islAt i = { s.islAt i with expiries := (s.islAt i).expiries + 1 } := State.islAt_setIsl_same s i _

theorem State.expiryCounted_frame (s : State) (i : Nat) : s.IslFrame (s.expiryCounted i) := ((State.IslFrame.refl s).setIsl i _).inc _

/-- What an expiry that takes no link down leaves before a replay starts: it is counted, in Active in the error-rate window too. -/
structure State.TimerRan (s u : State) (i : Nat) : Prop where
  frame : s.IslFrame u
  record : u.islAt i = { s.islAt i with expiries := (s.islAt i).expiries + 1 }
  count : u.fld (ISL_REPLAY_STAT_TIMEOUT_CNT i) = s.oneMore (ISL_REPLAY_STAT_TIMEOUT_CNT i)
  fld : ∀ f : Fld, (ISL_REPLAY_STAT_TIMEOUT_CNT i).Apart f → (ISL_ERR_WIN_CUR i).Apart f → u.fld f = s.fld f

theorem State.expiryCounted_windowError {s : State} {i : Nat}
    (hst : s.islSt i = 3 ∨ (s.islSt i = 4 ∧ s.fld (ISL_ERR_WIN_CUR i) + 1 ≤ s.fld (ISL_ERR_WIN_THR i))) :
    s.TimerRan ((s.expiryCounted i).windowError i) i := by
  have hsame : (s.expiryCounted i).islSt i = s.islSt i := s.expiryCounted_fld (Fld.apart_isl rfl rfl rfl)
  have hcount : (s.expiryCounted i).fld (ISL_REPLAY_STAT_TIMEOUT_CNT i) = s.oneMore (ISL_REPLAY_STAT_TIMEOUT_CNT i) :=
    State.fld_inc_same _ _ (Nat.le_of_ble_eq_true rfl)
  rcases hst with hkeying | ⟨hactive, hthr⟩
  · rw [State.windowError_of_not_active (by rw [hsame, hkeying]; decide)]
    exact ⟨s.expiryCounted_frame i, s.expiryCounted_islAt i, hcount, fun f htimer _ => s.expiryCounted_fld htimer⟩
  · have hcur : (s.expiryCounted i).fld (ISL_ERR_WIN_CUR i) = s.fld (ISL_ERR_WIN_CUR i) := s.expiryCounted_fld (Fld.apart_isl rfl rfl rfl)
    have hmax : (s.expiryCounted i).fld (ISL_ERR_WIN_THR i) = s.fld (ISL_ERR_WIN_THR i) := s.expiryCounted_fld (Fld.apart_isl rfl rfl rfl)
    rw [State.windowError_within (hsame.trans hactive) (by rwa [hcur, hmax])]
    exact ⟨(s.expiryCounted_frame i).inc _, (State.inc_islAt _ _ i).trans (s.expiryCounted_islAt i),
      (State.fld_inc_of_apart _ (Fld.apart_isl rfl rfl rfl)).trans hcount,
      fun f htimer hwindow => (State.fld_inc_of_apart _ hwindow).trans (s.expiryCounted_fld htimer)⟩

/-- The state in which a replay from a sequence number is under way. -/
def State.replayStarted (s : State) (i q : Nat) : State :=
  ((s.setIsl i { s.islAt i with rpl := some (seq q), rplFirst := true }).setBit (ISL_SEQ_REPLAYING i) true).inc (ISL_REPLAY_STAT_REPLAY_CNT i)

/-- A replay from the oldest cell starts whenever a cell is unacknowledged. -/
theorem State.startReplay_oldest (s : State) (i : Nat) :
    s.startReplay i (s.fld (ISL_SEQ_OLDEST i)) = if s.islSpan i = 0 then s else s.replayStarted i (s.fld (ISL_SEQ_OLDEST i)) := by
  refine if_congr (iff_of_eq ?_) rfl rfl
  change (s.islSpan i = 0 ∨ s.islSpan i < s.islSpan i) = _
  simp

theorem State.replayStarted_fld (s : State) {i q : Nat} {f : Fld} (hreplaying : (ISL_SEQ_REPLAYING i).Apart f)
    (hcount : (ISL_REPLAY_STAT_REPLAY_CNT i).Apart f) : (s.replayStarted i q).fld f = s.fld f :=
  (State.fld_inc_of_apart _ hcount).trans (State.fld_setBit_of_apart _ _ hreplaying)

theorem State.replayStarted_islAt (s : State) (i q : Nat) :
    (s.replayStarted i q).islAt i = { s.islAt i with rpl := some (seq q), rplFirst := true } :=
  (State.inc_islAt _ _ i).trans ((State.setBit_islAt _ _ _ i).trans (State.islAt_setIsl_same s i _))

theorem State.replayStarted_frame (s : State) (i q : Nat) : s.IslFrame (s.replayStarted i q) :=
  (((State.IslFrame.refl s).setIsl i _).setBit _ _).inc _

/-- What the expiry of a timer that takes no link down does next. -/
theorem State.islTimer_ran {s u : State} {i : Nat} (hi : i < 8) (hrp : (s.islAt i).rp ≠ [])
    (hst : s.islSt i = 3 ∨ (s.islSt i = 4 ∧ s.fld (ISL_ERR_WIN_CUR i) + 1 ≤ s.fld (ISL_ERR_WIN_THR i)))
    (hu : (s.expiryCounted i).windowError i = u) :
    s.islTimer i =
      let v := if u.islSpan i = 0 then u else u.replayStarted i (u.fld (ISL_SEQ_OLDEST i))
      if (s.islAt i).expiries + 1 < v.fld (ISL_REPLAY_CTL_REPLAY_MAX i) then v
      else if (s.islAt i).tried then v.islFail i
      else (v.setIsl i { v.islAt i with expiries := 0, tried := true }).islRecover i := by
  have hran := State.expiryCounted_windowError hst
  have hsame : u.islSt i = s.islSt i := hu ▸ hran.fld _ (Fld.apart_isl rfl rfl rfl) (Fld.apart_isl rfl rfl rfl)
  have hbusy : ¬ (8 ≤ i ∨ (s.islAt i).rp.isEmpty ∨ (s.islSt i ≠ 3 ∧ s.islSt i ≠ 4)) := by
    rw [List.isEmpty_iff]
    rintro (h | h | h)
    · omega
    · exact hrp h
    · omega
  unfold State.expiryCounted at hu
  rw [← u.startReplay_oldest i]
  unfold State.islTimer
  dsimp only
  rw [if_neg hbusy, hu, if_neg (not_not.2 hsame)]

theorem exec_islReplayTimerExpiry_idle {s : State} {i : Nat} (h : 8 ≤ i ∨ (s.islAt i).rp = [] ∨ (s.islSt i ≠ 3 ∧ s.islSt i ≠ 4)) :
    exec (.islReplayTimerExpiry i) s = .next s := by
  refine congrArg s.done (if_pos ?_)
  rwa [List.isEmpty_iff]

theorem exec_islReplayTimerExpiry_replays {s : State} {i : Nat} (hi : i < 8) (hrp : (s.islAt i).rp ≠ [])
    (hst : s.islSt i = 3 ∨ (s.islSt i = 4 ∧ s.fld (ISL_ERR_WIN_CUR i) + 1 ≤ s.fld (ISL_ERR_WIN_THR i)))
    (hfew : (s.islAt i).expiries + 1 < s.fld (ISL_REPLAY_CTL_REPLAY_MAX i)) (hspan : s.islSpan i ≠ 0) :
    ∃ t, exec (.islReplayTimerExpiry i) s = .next t ∧ t.fld (ISL_REPLAY_STAT_TIMEOUT_CNT i) = s.oneMore (ISL_REPLAY_STAT_TIMEOUT_CNT i) ∧
      (t.islAt i).expiries = (s.islAt i).expiries + 1 ∧ (t.islAt i).rpl = some (seq (s.fld (ISL_SEQ_OLDEST i))) ∧ (t.islAt i).rplFirst = true ∧
      t.bit (ISL_SEQ_REPLAYING i) = true ∧
      t.fld (ISL_REPLAY_STAT_REPLAY_CNT i) = s.oneMore (ISL_REPLAY_STAT_REPLAY_CNT i) ∧ t = { s with regs := t.regs, isl := t.isl } := by
  obtain ⟨u, hu⟩ : ∃ u, (s.expiryCounted i).windowError i = u := ⟨_, rfl⟩
  have htimer := State.islTimer_ran hi hrp hst hu
  obtain ⟨hframe, hrecord, hcount, hfld⟩ := hu ▸ State.expiryCounted_windowError hst
  have holdest : u.fld (ISL_SEQ_OLDEST i) = s.fld (ISL_SEQ_OLDEST i) := hfld _ (Fld.apart_isl rfl rfl rfl) (Fld.apart_isl rfl rfl rfl)
  have hspan' : u.islSpan i ≠ 0 := by
    unfold State.islSpan at hspan ⊢
    rwa [holdest, hfld (ISL_SEQ_NEXT_TX i) (Fld.apart_isl rfl rfl rfl) (Fld.apart_isl rfl rfl rfl)]
  have hmax : (u.replayStarted i (u.fld (ISL_SEQ_OLDEST i))).fld (ISL_REPLAY_CTL_REPLAY_MAX i) = s.fld (ISL_REPLAY_CTL_REPLAY_MAX i) :=
    (u.replayStarted_fld (Fld.apart_isl rfl rfl rfl) (Fld.apart_isl rfl rfl rfl)).trans
      (hfld _ (Fld.apart_isl rfl rfl rfl) (Fld.apart_isl rfl rfl rfl))
  dsimp only at htimer
  rw [if_neg hspan', if_pos (by rwa [hmax])] at htimer
  have hframe' := hframe.trans (u.replayStarted_frame i (u.fld (ISL_SEQ_OLDEST i)))
  have hrecord' := u.replayStarted_islAt i (u.fld (ISL_SEQ_OLDEST i))
  refine ⟨_, (congrArg s.done htimer).trans hframe'.done_eq_next, ?_, ?_, ?_, ?_, ?_, ?_, hframe'⟩
  · exact (u.replayStarted_fld (Fld.apart_isl rfl rfl rfl) (Fld.apart_isl rfl rfl rfl)).trans hcount
  · rw [hrecord', hrecord]
  · rw [hrecord', holdest]
  · rw [hrecord']
  · exact (State.bit_inc_of_apart _ (Fld.apart_isl rfl rfl rfl)).trans (State.bit_setBit_same _ _ _ (Nat.le_of_ble_eq_true rfl) rfl)
  · refine (State.fld_inc_same _ _ (Nat.le_of_ble_eq_true rfl)).trans (congrArg (fun n => min (n + 1) _) ?_)
    exact (State.fld_setBit_of_apart _ _ (Fld.apart_isl rfl rfl rfl)).trans (hfld _ (Fld.apart_isl rfl rfl rfl) (Fld.apart_isl rfl rfl rfl))

/-- After REPLAY_MAX expiries without progress an Active link enters Recovery, and keeps its replay buffer. -/
theorem exec_islReplayTimerExpiry_recovers {s : State} {i : Nat} (hi : i < 8) (hrp : (s.islAt i).rp ≠ []) (hst : s.islSt i = 4)
    (hthr : s.fld (ISL_ERR_WIN_CUR i) + 1 ≤ s.fld (ISL_ERR_WIN_THR i))
    (hmany : s.fld (ISL_REPLAY_CTL_REPLAY_MAX i) ≤ (s.islAt i).expiries + 1) (hfirst : (s.islAt i).tried = false) :
    ∃ t, exec (.islReplayTimerExpiry i) s = .next t ∧ t.islSt i = 5 ∧ (t.islAt i).tried = true ∧ (t.islAt i).expiries = 0 ∧
      (t.islAt i).rp = (s.islAt i).rp := by
  obtain ⟨u, hu⟩ : ∃ u, (s.expiryCounted i).windowError i = u := ⟨_, rfl⟩
  have htimer := State.islTimer_ran hi hrp (.inr ⟨hst, hthr⟩) hu
  obtain ⟨-, hrecord, -, hfld⟩ := hu ▸ State.expiryCounted_windowError (.inr ⟨hst, hthr⟩)
  obtain ⟨v, hv⟩ : ∃ v, (if u.islSpan i = 0 then u else u.replayStarted i (u.fld (ISL_SEQ_OLDEST i))) = v := ⟨_, rfl⟩
  have hkept : v.islSt i = s.islSt i ∧ v.fld (ISL_REPLAY_CTL_REPLAY_MAX i) = s.fld (ISL_REPLAY_CTL_REPLAY_MAX i) ∧
      (v.islAt i).rp = (s.islAt i).rp := by
    have hstu : u.islSt i = s.islSt i := hfld _ (Fld.apart_isl rfl rfl rfl) (Fld.apart_isl rfl rfl rfl)
    have hmax : u.fld (ISL_REPLAY_CTL_REPLAY_MAX i) = s.fld (ISL_REPLAY_CTL_REPLAY_MAX i) :=
      hfld _ (Fld.apart_isl rfl rfl rfl) (Fld.apart_isl rfl rfl rfl)
    have hrpu : (u.islAt i).rp = (s.islAt i).rp := by rw [hrecord]
    subst hv
    split
    · exact ⟨hstu, hmax, hrpu⟩
    · exact ⟨(u.replayStarted_fld (Fld.apart_isl rfl rfl rfl) (Fld.apart_isl rfl rfl rfl)).trans hstu,
        (u.replayStarted_fld (Fld.apart_isl rfl rfl rfl) (Fld.apart_isl rfl rfl rfl)).trans hmax, by rw [u.replayStarted_islAt, hrpu]⟩
  obtain ⟨hstv, hmaxv, hrpv⟩ := hkept
  dsimp only at htimer
  rw [hv, hmaxv, if_neg (by omega), hfirst, if_neg Bool.false_ne_true] at htimer
  generalize hw : v.setIsl i { v.islAt i with expiries := 0, tried := true } = w at htimer
  have hstw : w.islSt i = 4 := by rw [← hw, State.setIsl_islSt, hstv, hst]
  have hrecordw : w.islAt i = { v.islAt i with expiries := 0, tried := true } := by rw [← hw, State.islAt_setIsl_same]
  obtain ⟨hstate, -, hrecord', -⟩ := State.islRecover_recovers hi (s := w) (by omega) (by omega)
  obtain ⟨t, ht, hregs, hisl, -⟩ := s.done_keeps (w.islRecover i)
  refine ⟨t, (congrArg s.done htimer).trans ht, (State.fld_congr hregs _).trans hstate, ?_, ?_, ?_⟩
  · rw [State.islAt_congr hisl, hrecord', hrecordw]
  · rw [State.islAt_congr hisl, hrecord', hrecordw]
  · rw [State.islAt_congr hisl, hrecord', hrecordw, hrpv]

/-! ### Receiver silence (R105) -/

theorem exec_islRxSilence_notes {s : State} {i : Nat} (hi : i < 8) (hst : 3 ≤ s.islSt i) :
    ∃ t, exec (.islRxSilence i) s = .next t ∧ (t.islAt i).silent = true ∧ (∀ j, j ≠ i → t.islAt j = s.islAt j) ∧
      t = { s with isl := t.isl } := by
  refine ⟨s.setIsl i { s.islAt i with silent := true }, congrArg s.done (if_neg (by omega)), ?_, fun j hj => s.islAt_setIsl_ne _ hj, rfl⟩
  rw [State.islAt_setIsl_same]

theorem exec_islRxSilence_idle {s : State} {i : Nat} (h : 8 ≤ i ∨ s.islSt i < 3) : exec (.islRxSilence i) s = .next s :=
  congrArg s.done (if_pos h)

/-! ### Markers that do not come (R95) -/

theorem State.markerMissing_eq {s : State} {i : Nat} (hi : i < 8) (hlock : s.bit (ISL_STAT_BLOCK_LOCK i) = true) :
    s.markerMissing i = if 2 ≤ (s.islAt i).miss + 1 then (s.setIsl i { s.islAt i with miss := (s.islAt i).miss + 1 }).islRecover i
      else s.setIsl i { s.islAt i with miss := (s.islAt i).miss + 1 } := if_neg (by simp [hlock, hi])

theorem exec_islMarkerMissing_first {s : State} {i : Nat} (hi : i < 8) (hlock : s.bit (ISL_STAT_BLOCK_LOCK i) = true) (hmiss : (s.islAt i).miss = 0) :
    ∃ t, exec (.islMarkerMissing i) s = .next t ∧ (t.islAt i).miss = 1 ∧ t = { s with isl := t.isl } := by
  have heq := (State.markerMissing_eq hi hlock).trans (if_neg (by omega))
  refine ⟨_, (congrArg s.done heq).trans rfl, ?_, rfl⟩
  exact (congrArg Isl.miss (State.islAt_setIsl_same _ _ _)).trans (by rw [hmiss])

theorem exec_islMarkerMissing_second {s : State} {i : Nat} (hi : i < 8) (hlock : s.bit (ISL_STAT_BLOCK_LOCK i) = true)
    (hmiss : 1 ≤ (s.islAt i).miss) (hge : 2 ≤ s.islSt i) (hne : s.islSt i ≠ 5) :
    ∃ t, exec (.islMarkerMissing i) s = .next t ∧ t.islSt i = 5 ∧ t.bit (ISL_STAT_BLOCK_LOCK i) = false ∧ (t.islAt i).rp = (s.islAt i).rp ∧
      t.fld (ISL_SEQ_NEXT_TX i) = s.fld (ISL_SEQ_NEXT_TX i) := by
  have heq := (State.markerMissing_eq hi hlock).trans (if_pos (by omega))
  obtain ⟨hstate, hunlock, hrecord, -, hfld⟩ :=
    State.islRecover_recovers hi (s := s.setIsl i { s.islAt i with miss := (s.islAt i).miss + 1 }) hge hne
  obtain ⟨t, ht, hregs, hisl, -⟩ := s.done_keeps ((s.setIsl i { s.islAt i with miss := (s.islAt i).miss + 1 }).islRecover i)
  refine ⟨t, (congrArg s.done heq).trans ht, (State.fld_congr hregs _).trans hstate, (State.bit_congr hregs _).trans hunlock, ?_, ?_⟩
  · rw [State.islAt_congr hisl, hrecord, State.islAt_setIsl_same]
  · have hlow : ISL_SEQ i < 0x1800000 := (isl_addr_lt (a := 0x600014) (by decide) hi).trans (by decide)
    exact (State.fld_congr hregs _).trans (hfld _ (Fld.apart_isl rfl rfl rfl) (Fld.apart_isl rfl rfl rfl) hlow)

theorem exec_islMarkerMissing_idle {s : State} {i : Nat} (h : 8 ≤ i ∨ s.bit (ISL_STAT_BLOCK_LOCK i) = false) :
    exec (.islMarkerMissing i) s = .next s := congrArg s.done (if_pos (by simpa using h))

/-! ### Markers that come (R94 to R96, R104) -/

/-- The state in which an accepted marker is the last one, after `n` that are missing in a row. -/
def State.markTaken (s : State) (i : Nat) (m : IslMarker) (n : Nat) : State :=
  let s1 := s.setIsl i { s.islAt i with lastMark := some (m.frame, s.now), rxc := m.txc, seen := true }
  s1.setIsl i { s1.islAt i with miss := n }

theorem State.markTaken_islAt (s : State) (i : Nat) (m : IslMarker) (n : Nat) :
    (s.markTaken i m n).islAt i = { s.islAt i with lastMark := some (m.frame, s.now), rxc := m.txc, seen := true, miss := n } :=
  (State.islAt_setIsl_same _ i _).trans (congrArg (fun x : Isl => { x with miss := n }) (State.islAt_setIsl_same s i _))

theorem State.markTaken_frame (s : State) (i : Nat) (m : IslMarker) (n : Nat) : s.IslFrame (s.markTaken i m n) :=
  ((State.IslFrame.refl s).setIsl i _).setIsl i _

theorem State.markTaken_islSt (s : State) (i : Nat) (m : IslMarker) (n : Nat) : (s.markTaken i m n).islSt i = s.islSt i := rfl

/-- How many markers are missing in a row when one arrives: none that one knows of, if it is the first. -/
def State.MissingIs (s : State) (i n : Nat) : Prop :=
  ((s.islAt i).lastMark = none ∧ n = 0) ∨ ∃ g u, (s.islAt i).lastMark = some (g, u) ∧ n = s.missed (s.islAt i) u

theorem exec_islMarkerReceived_read {raw : List Nat} {m : IslMarker} (hread : readMarker raw = some m) (s : State) (i : Nat) (a : Bool) :
    exec (.islMarkerReceived i raw a) s = s.doneTimed (s.marker i m a) := by
  change execIslMarkerReceived i raw a s = _
  unfold execIslMarkerReceived
  rw [hread]

/-- The states of a link in which it takes markers. -/
theorem marking_not_idle {i st : Nat} (hi : i < 8) (hge : 2 ≤ st) (hne : st ≠ 5) : ¬ (8 ≤ i ∨ st < 2 ∨ st = 5) := by omega

theorem State.marker_locks {s : State} {i : Nat} (hi : i < 8) (hge : 2 ≤ s.islSt i) (hne : s.islSt i ≠ 5)
    (hlock : s.bit (ISL_STAT_BLOCK_LOCK i) = false) (hseen : (s.islAt i).seen = true) (m : IslMarker) :
    s.marker i m true = (s.markTaken i m 0).setBit (ISL_STAT_BLOCK_LOCK i) true := by
  unfold State.marker State.markTaken
  dsimp only
  rw [if_neg (marking_not_idle hi hge hne), if_pos (by simp [hlock]), if_pos ⟨hseen, rfl⟩]

/-- In block lock a marker after two that are missing means Recovery; another gives the round trip, the edge and the partner. -/
theorem State.marker_locked {s : State} {i n : Nat} (hi : i < 8) (hge : 2 ≤ s.islSt i) (hne : s.islSt i ≠ 5)
    (hlock : s.bit (ISL_STAT_BLOCK_LOCK i) = true) (hn : s.MissingIs i n) (m : IslMarker) :
    s.marker i m true =
      let u := s.markTaken i m n
      if 2 ≤ n then s.keepClock (u.islRecover i)
      else
        let v := (u.keepClock (u.markerRtt i m)).markerSync i m (s.islAt i).lastMark
        v.keepClock (v.markerId i m) := by
  unfold State.marker State.markTaken
  dsimp only
  rw [if_neg (marking_not_idle hi hge hne), if_neg (by simp [hlock]), if_neg (by simp)]
  rcases hn with ⟨hlast, rfl⟩ | ⟨g, u, hlast, rfl⟩
  · rw [hlast]
  · rw [hlast]

/-- Of a follower of no marker, and of a partner that is known, a marker tells no more than the round trip. -/
theorem State.markerSync_markerId {s u : State} {i : Nat} {m : IslMarker} (htime : u.time = s.time) (hrole : u.fld FRM_SYNC_CTL_ROLE ≠ 2)
    (hseen : mget u.grp.seen i = some (PeerSeen.mk m.group m.member m.epoch)) (last : Option (Nat × Nat)) :
    ((s.keepClock u).markerSync i m last).keepClock (((s.keepClock u).markerSync i m last).markerId i m) = u := by
  have hclock : ∀ v : State, v.keepClock v = v := fun _ => rfl
  have hkeep : s.keepClock u = u := by
    unfold State.keepClock
    rw [← htime]
  have hsync : u.markerSync i m last = u := if_neg fun h => hrole h.1
  have hid : u.markerId i m = u := if_pos hseen
  rw [hkeep, hsync, hid, hclock]

/-- The state in which a measured round trip is noted (R96). -/
def State.rttNoted (s : State) (i rtt : Nat) : State := s.setFld (ISL_RTT_RTT_LAST i) (min rtt 65535)

theorem State.rttNoted_last (s : State) (i rtt : Nat) : (s.rttNoted i rtt).fld (ISL_RTT_RTT_LAST i) = min rtt 65535 := by
  refine (State.fld_setFld_same _ _ _ (Nat.le_of_ble_eq_true rfl)).trans (Nat.mod_eq_of_lt ?_)
  exact Nat.lt_of_le_of_lt (Nat.min_le_right _ _) (Nat.lt_succ_self 65535)

theorem State.rttNoted_fld (s : State) {i rtt : Nat} {f : Fld} (h : (ISL_RTT_RTT_LAST i).Apart f) : (s.rttNoted i rtt).fld f = s.fld f :=
  s.fld_setFld_of_apart _ h

theorem ISL_RTT_ne_SYNC_CTL (i : Nat) : ISL_RTT i ≠ FRM_SYNC_CTL := by
  unfold ISL_RTT FRM_SYNC_CTL
  omega

theorem ISL_STAT_ne_SYNC_CTL (i : Nat) : ISL_STAT i ≠ FRM_SYNC_CTL := by
  unfold ISL_STAT FRM_SYNC_CTL
  omega

theorem State.markerRtt_eq {s : State} {i f hold t1 : Nat} {m : IslMarker} (hecho : m.echo = some (f, hold))
    (hsent : mget (s.islAt i).sentAt f = some t1) :
    s.markerRtt i m =
      let u := s.rttNoted i (s.now - t1 - hold)
      if s.islSt i = 2 then
        u.setIsl i { s.islAt i with rttMax := max (s.islAt i).rttMax (s.now - t1 - hold), marks := (s.islAt i).marks + 1 }
      else if u.fld (ISL_RTT_RTT_USED i) < s.now - t1 - hold then u.islRecover i
      else u := by
  unfold State.markerRtt State.rttNoted
  rw [hecho]
  dsimp only
  rw [hsent]

theorem exec_islMarkerReceived_locks {s : State} {i : Nat} {m : IslMarker} {raw : List Nat} (hread : readMarker raw = some m) (hi : i < 8)
    (hge : 2 ≤ s.islSt i) (hne : s.islSt i ≠ 5) (hlock : s.bit (ISL_STAT_BLOCK_LOCK i) = false) (hseen : (s.islAt i).seen = true) :
    ∃ t, exec (.islMarkerReceived i raw true) s = .next t ∧ t.bit (ISL_STAT_BLOCK_LOCK i) = true ∧ (t.islAt i).lastMark = some (m.frame, s.now) ∧
      t = { s with regs := t.regs, isl := t.isl } := by
  have hexec := (exec_islMarkerReceived_read hread s i true).trans (congrArg s.doneTimed (State.marker_locks hi hge hne hlock hseen m))
  have hframe := (s.markTaken_frame i m 0).setBit (ISL_STAT_BLOCK_LOCK i) true
  refine ⟨_, hexec.trans rfl, ?_, ?_, hframe⟩
  · exact State.bit_setBit_same _ _ _ (Nat.le_of_ble_eq_true rfl) rfl
  · exact congrArg Isl.lastMark ((State.setBit_islAt _ _ _ i).trans (s.markTaken_islAt i m 0))

/-- What a command of the clock answers. -/
theorem State.doneTimed_keeps (s u : State) :
    ∃ t, s.doneTimed u = .next t ∧ t.regs = u.regs ∧ t.isl = u.isl ∧ t.time = u.time := ⟨_, rfl, rfl, rfl, rfl⟩

theorem exec_islMarkerReceived_missing {s : State} {i g u : Nat} {m : IslMarker} {raw : List Nat} (hread : readMarker raw = some m) (hi : i < 8)
    (hge : 2 ≤ s.islSt i) (hne : s.islSt i ≠ 5) (hlock : s.bit (ISL_STAT_BLOCK_LOCK i) = true) (hlast : (s.islAt i).lastMark = some (g, u))
    (hmissed : s.missed (s.islAt i) u = 2) :
    ∃ t, exec (.islMarkerReceived i raw true) s = .next t ∧ t.islSt i = 5 ∧ t.bit (ISL_STAT_BLOCK_LOCK i) = false ∧ t.time = s.time := by
  have hn : s.MissingIs i 2 := .inr ⟨g, u, hlast, hmissed.symm⟩
  have hmarker := (State.marker_locked hi hge hne hlock hn m).trans (if_pos (by decide))
  obtain ⟨hstate, hunlock, -, ⟨htime, -⟩, -⟩ := State.islRecover_recovers hi (s := s.markTaken i m 2) hge hne
  obtain ⟨t, ht, hregs, -, htime'⟩ := s.doneTimed_keeps (s.keepClock ((s.markTaken i m 2).islRecover i))
  have hkept : (s.keepClock ((s.markTaken i m 2).islRecover i)).time = s.time := by
    unfold State.keepClock
    rw [htime]
    rfl
  exact ⟨t, ((exec_islMarkerReceived_read hread s i true).trans (congrArg s.doneTimed hmarker)).trans ht, (State.fld_congr hregs _).trans hstate,
    (State.bit_congr hregs _).trans hunlock, htime'.trans hkept⟩

theorem State.missingIs_of_few {s : State} {i : Nat} (hfew : ∀ g u, (s.islAt i).lastMark = some (g, u) → s.missed (s.islAt i) u < 2) :
    ∃ n, n < 2 ∧ s.MissingIs i n := by
  rcases hlast : (s.islAt i).lastMark with _ | ⟨g, u⟩
  · exact ⟨0, by decide, .inl ⟨hlast, rfl⟩⟩
  · exact ⟨_, hfew g u hlast, .inr ⟨g, u, hlast, rfl⟩⟩

section
variable {s : State} {i : Nat} {m : IslMarker} {raw : List Nat} (hread : readMarker raw = some m) (hi : i < 8)
  (hlock : s.bit (ISL_STAT_BLOCK_LOCK i) = true)
  (hfew : ∀ g u, (s.islAt i).lastMark = some (g, u) → s.missed (s.islAt i) u < 2) (hrole : s.fld FRM_SYNC_CTL_ROLE ≠ 2)
  (hseen : mget s.grp.seen i = some (PeerSeen.mk m.group m.member m.epoch))
include hread hi hlock hfew hrole hseen

/-- A marker that is not missing leaves what the measured round trip leaves, if that moves no clock and does not concern the partner. -/
theorem exec_islMarkerReceived_measures (hge : 2 ≤ s.islSt i) (hne : s.islSt i ≠ 5) :
    ∃ n, ∀ v, (s.markTaken i m n).markerRtt i m = v → v.time = s.time → v.fld FRM_SYNC_CTL_ROLE = s.fld FRM_SYNC_CTL_ROLE → v.grp = s.grp →
      exec (.islMarkerReceived i raw true) s = s.doneTimed v := by
  obtain ⟨n, hless, hn⟩ := State.missingIs_of_few hfew
  refine ⟨n, fun v hv htime hrolev hgrp => (exec_islMarkerReceived_read hread s i true).trans (congrArg s.doneTimed ?_)⟩
  have hseenv : mget v.grp.seen i = some (PeerSeen.mk m.group m.member m.epoch) := by rw [hgrp, hseen]
  have hkeeps := State.markerSync_markerId (s := s.markTaken i m n) htime (by rwa [hrolev]) hseenv (s.islAt i).lastMark
  rw [State.marker_locked hi hge hne hlock hn m]
  dsimp only
  rw [if_neg (by omega), hv, hkeeps]

theorem exec_islMarkerReceived_aligning {f hold t1 : Nat} (hst : s.islSt i = 2) (hecho : m.echo = some (f, hold))
    (hsent : mget (s.islAt i).sentAt f = some t1) :
    ∃ t, exec (.islMarkerReceived i raw true) s = .next t ∧ t.fld (ISL_RTT_RTT_LAST i) = min (s.now - t1 - hold) 65535 ∧
      (t.islAt i).marks = (s.islAt i).marks + 1 ∧ (t.islAt i).rttMax = max (s.islAt i).rttMax (s.now - t1 - hold) ∧ t.time = s.time := by
  obtain ⟨n, hmeasures⟩ := exec_islMarkerReceived_measures hread hi hlock hfew hrole hseen (by omega) (by omega)
  have hrecord := s.markTaken_islAt i m n
  have hrtt := (State.markerRtt_eq hecho (s := s.markTaken i m n) (by rwa [hrecord])).trans (if_pos hst)
  have hrole' : ((s.markTaken i m n).rttNoted i (s.now - t1 - hold)).fld FRM_SYNC_CTL_ROLE = s.fld FRM_SYNC_CTL_ROLE :=
    State.fld_setFld_addr _ _ _ _ (ISL_RTT_ne_SYNC_CTL i)
  obtain ⟨t, ht, hregs, hisl, htime⟩ := s.doneTimed_keeps (State.setIsl
    ((s.markTaken i m n).rttNoted i (s.now - t1 - hold)) i { (s.markTaken i m n).islAt i with
      rttMax := max ((s.markTaken i m n).islAt i).rttMax (s.now - t1 - hold), marks := ((s.markTaken i m n).islAt i).marks + 1 })
  refine ⟨t, (hmeasures _ hrtt rfl hrole' rfl).trans ht, (State.fld_congr hregs _).trans ?_, ?_, ?_, htime.trans rfl⟩
  · exact State.rttNoted_last _ i _
  · rw [State.islAt_congr hisl, State.islAt_setIsl_same, hrecord]
  · rw [State.islAt_congr hisl, State.islAt_setIsl_same, hrecord]

/-- A round trip above the one in use leads to Recovery (R104). -/
theorem exec_islMarkerReceived_late {f hold t1 : Nat} (hst : s.islSt i = 4) (hecho : m.echo = some (f, hold))
    (hsent : mget (s.islAt i).sentAt f = some t1) (hlate : s.fld (ISL_RTT_RTT_USED i) < s.now - t1 - hold) :
    ∃ t, exec (.islMarkerReceived i raw true) s = .next t ∧ t.islSt i = 5 ∧ t.bit (ISL_STAT_BLOCK_LOCK i) = false ∧ t.time = s.time := by
  obtain ⟨n, hmeasures⟩ := exec_islMarkerReceived_measures hread hi hlock hfew hrole hseen (by omega) (by omega)
  have hrecord := s.markTaken_islAt i m n
  have hrtt := (State.markerRtt_eq hecho (s := s.markTaken i m n) (by rwa [hrecord])).trans
    (if_neg (by rw [s.markTaken_islSt, hst]; decide))
  have hstv : ((s.markTaken i m n).rttNoted i (s.now - t1 - hold)).islSt i = 4 :=
    (State.fld_setFld_of_apart _ _ (Fld.apart_isl rfl rfl rfl)).trans hst
  have hused : ((s.markTaken i m n).rttNoted i (s.now - t1 - hold)).fld (ISL_RTT_RTT_USED i) =
      s.fld (ISL_RTT_RTT_USED i) := State.fld_setFld_of_apart _ _ (Fld.apart_isl rfl rfl rfl)
  replace hrtt := hrtt.trans (if_pos (lt_of_eq_of_lt hused hlate))
  obtain ⟨hstate, hunlock, -, ⟨htime, -, hgrp⟩, hfld⟩ := State.islRecover_recovers hi (by rw [hstv]; decide) (by rw [hstv]; decide)
  have hrole' := (hfld FRM_SYNC_CTL_ROLE (.inl (ISL_STAT_ne_SYNC_CTL i)) (.inl (ISL_STAT_ne_SYNC_CTL i)) (by decide)).trans
    (State.fld_setFld_addr _ _ _ _ (ISL_RTT_ne_SYNC_CTL i))
  obtain ⟨t, ht, hregs, -, htime'⟩ := s.doneTimed_keeps
    (((s.markTaken i m n).rttNoted i (s.now - t1 - hold)).islRecover i)
  exact ⟨t, (hmeasures _ hrtt htime hrole' hgrp).trans ht, (State.fld_congr hregs _).trans hstate, (State.bit_congr hregs _).trans hunlock,
    htime'.trans htime⟩

end

theorem exec_islMarkerReceived_idle {s : State} {i : Nat} {raw : List Nat} {a : Bool} (h : 8 ≤ i ∨ s.islSt i < 2 ∨ s.islSt i = 5 ∨
    readMarker raw = none ∨ (s.bit (ISL_STAT_BLOCK_LOCK i) = true ∧ a = false)) : exec (.islMarkerReceived i raw a) s = .next s := by
  cases hread : readMarker raw with
  | none =>
    change execIslMarkerReceived i raw a s = _
    unfold execIslMarkerReceived
    rw [hread]
    rfl
  | some m =>
    refine (exec_islMarkerReceived_read hread s i a).trans (congrArg s.doneTimed ?_)
    unfold State.marker
    by_cases hidle : 8 ≤ i ∨ s.islSt i < 2 ∨ s.islSt i = 5
    · exact if_pos hidle
    · obtain ⟨hlock, ha⟩ : s.bit (ISL_STAT_BLOCK_LOCK i) = true ∧ a = false := by
        rw [hread] at h
        tauto
      dsimp only
      rw [if_neg hidle, if_neg (by simp [hlock]), if_pos (by simp [ha])]

/-- Settles O47: an expiry within its limits starts a replay from the oldest cell, and past them the link enters Recovery, as it does after a round trip
above the one in use and after two markers that are missing. -/
theorem islTimersAndMarkers : Obligations.IslTimersAndMarkers := by
  unfold Obligations.IslTimersAndMarkers
  refine ⟨fun _ _ => exec_islReplayTimerExpiry_idle, fun _ _ => exec_islReplayTimerExpiry_replays, fun _ _ => exec_islReplayTimerExpiry_recovers,
    fun _ _ => exec_islRxSilence_notes, fun _ _ => exec_islRxSilence_idle, fun _ _ _ _ => exec_islMarkerReceived_locks, ?aligning, ?late,
    fun _ _ _ _ => exec_islMarkerReceived_idle, fun _ _ _ _ _ _ => exec_islMarkerReceived_missing, fun _ _ => exec_islMarkerMissing_first,
    fun _ _ => exec_islMarkerMissing_second, fun _ _ => exec_islMarkerMissing_idle⟩
  case aligning =>
    intro s i f hold t1 m raw hread hi hst hlock hecho hsent hfew hrole hseen
    exact exec_islMarkerReceived_aligning hread hi hlock hfew hrole hseen hst hecho hsent
  case late =>
    intro s i f hold t1 m raw hread hi hst hlock hecho hsent hfew hrole hseen hlate
    exact exec_islMarkerReceived_late hread hi hlock hfew hrole hseen hst hecho hsent hlate

end Sys2Proof.Machine
end

section
/-! Proofs of the family 06_switch_core: a message with bad data that is addressed to where it comes from, on which O34 fails. -/
namespace Sys2Proof.Machine
open Sys2Proof

/-! ### A message addressed to where it comes from -/

theorem State.voq_congr {s t : State} (h : s.xbr = t.xbr) (src dst cls : Nat) : s.voq src dst cls = t.voq src dst cls := by
  unfold State.voq
  rw [h]

theorem State.ingress_toSource {s : State} {p : Nat} {m : Msg} {e : SymErr} (hcorr : e.corr = 0) (hhdr : e.hdr = false)
    (hdst : (s.removed { m with src := p }).dst = p) : s.ingress p m e = (true, s) := by
  have hclean : s.corrected e.corr = s := if_pos hcorr
  unfold State.ingress
  dsimp only
  rw [hclean, if_neg (by simp [hhdr]), if_pos (.inr (.inr (.inl hdst)))]

/-- A flit of one message that is addressed to where it comes from leaves the crossbar alone, whether the message's data is good or not. -/
theorem exec_flitReceived_toSource {s : State} {p : Nat} {m : Msg} {e : SymErr} {integ : Bool} (hup : s.linkUp p = true)
    (hrole : s.role p = 1 ∨ s.role p = 2) (hinteg : integ = true ∨ s.contains_ p = false) (hstate : s.fld (PRT_PM_STAT_STATE p) ≠ 2)
    (hcorr : e.corr = 0) (hhdr : e.hdr = false) (hdst : (s.removed { m with src := p }).dst = p) :
    ∃ t, exec (.flitReceived p true integ [.msg m e]) s = .next t ∧ t.xbr = s.xbr := by
  have htaken : true ∧ (integ ∨ ! s.contains_ p) ∧ s.linkUp p ∧ (s.role p = 1 ∨ s.role p = 2) := by simpa [hup, hrole] using hinteg
  have hleave : s.l1Leave p = s := if_pos (.inr hstate)
  have hingress := State.ingress_toSource (s := s.tally p 0x010 1) hcorr hhdr hdst
  have hitem : State.flitItem p ([], s.tally p 0x010 1) (.msg m e) = ([], s.tally p 0x010 1) := by
    simp [State.flitItem, hingress]
  have hexec : exec (.flitReceived p true integ [.msg m e]) s = s.done (s.tally p 0x010 1) := by
    refine congrArg s.done ((if_pos htaken).trans ?_)
    rw [hleave, List.foldl_cons, hitem]
    rfl
  exact ⟨_, hexec, rfl⟩

/-- Number 128, which is that of home slice 0 and of no port, reads as a host port whose link is up: its register addresses are those of lane 0. -/
def sliceAsPort : State := (hostPortUp.setCur (PRT_CFG_ROLE 128) 1).setBit (PRT_LINK_STAT_UP 128) true

/-- A management message from number 128 to number 128. -/
def toItself : Msg := { src := 128, dst := 128, kind := .mgmt }

theorem sliceAsPort_receives :
    sliceAsPort.linkUp 128 = true ∧ sliceAsPort.role 128 = 1 ∧ sliceAsPort.fld (PRT_PM_STAT_STATE 128) ≠ 2 := by decide +kernel

theorem sliceAsPort_carries :
    sliceAsPort.removed toItself = toItself ∧ sliceAsPort.carriesKind 128 toItself = true ∧ sliceAsPort.cacheAllowed toItself = true ∧
      sliceAsPort.roomFor toItself = some 0 ∧ sliceAsPort.quarantined toItself = false := by decide +kernel

/-- Refutes O34, by its fourth clause: it has every message with bad data whose target is 128 or above join its queue. Unlike the third clause it leaves
out that the target is not where the message comes from, and no premise keeps that number below 128: a message from number 128 to number 128 is
discarded, and its queue stays as it was. -/
theorem not_ingressAndArbitration : ¬ Obligations.IngressAndArbitration := by
  unfold Obligations.IngressAndArbitration
  rintro ⟨-, -, -, hpoisoned, -⟩
  obtain ⟨hup, hrole, hstate⟩ := sliceAsPort_receives
  obtain ⟨hremoved, hcarries, hcache, hroom, hquar⟩ := sliceAsPort_carries
  obtain ⟨t, ht, hjoined, -⟩ := hpoisoned sliceAsPort 128 0 toItself toItself true hup (.inl hrole) (.inl rfl) hstate hremoved.symm hcarries hcache
    (by decide) (by decide) hroom hquar
  obtain ⟨u, hu, hxbr⟩ := exec_flitReceived_toSource (m := toItself) (integ := true) (e := { corr := 0, hdr := false, data := true }) hup (.inl hrole)
    (.inl rfl) hstate rfl rfl (congrArg Msg.dst hremoved)
  obtain rfl : u = t := Host.Outcome.next.inj (hu.symm.trans ht)
  rw [State.voq_congr hxbr] at hjoined
  exact absurd hjoined (by simp)

end Sys2Proof.Machine
end

section
/-! Proofs of the family 07_bindings, first part: creating, deleting and reading regions, and reading the extents of a binding (O22). -/
namespace Sys2Proof.Machine
open Sys2Proof

/-! ### What entering a session leaves alone (R309) -/

@[simp] theorem State.entered_md (s : State) (rq : Rq) : (s.entered rq).md = s.md := by rw [State.entered_eq]

@[simp] theorem State.entered_effFrame (s : State) (rq : Rq) : (s.entered rq).effFrame = s.effFrame := by
  rw [State.entered_eq]
  rfl

@[simp] theorem State.entered_lcSlots (s : State) (rq : Rq) : (s.entered rq).lcSlots = s.lcSlots := by
  rw [State.entered_eq]
  rfl

@[simp] theorem State.entered_bndValid (s : State) (rq : Rq) (b : Nat) : (s.entered rq).bndValid b = s.bndValid b := by
  rw [State.entered_eq]
  rfl

@[simp] theorem State.entered_extents (s : State) (rq : Rq) (b : Nat) : (s.entered rq).extents b = s.extents b := by
  rw [State.entered_eq]
  rfl

@[simp] theorem State.entered_regionSpans (s : State) (rq : Rq) : (s.entered rq).regionSpans = s.regionSpans := by
  rw [State.entered_eq]
  rfl

@[simp] theorem State.entered_slotState (s : State) (rq : Rq) (t : Nat) : (s.entered rq).slotState t = s.slotState t := by
  rw [State.entered_eq]
  rfl

@[simp] theorem State.entered_freeRegion (s : State) (rq : Rq) : (s.entered rq).freeRegion = s.freeRegion := by
  rw [State.entered_eq]
  rfl

/-- Entering a session changes nothing of the pools that a tree area may go to. -/
theorem State.entered_pools (s : State) (rq : Rq) (q n : Nat) : (s.entered rq).isPool q = s.isPool q ∧ (s.entered rq).sealedCap q = s.sealedCap q ∧
    (s.entered rq).poolReady q = s.poolReady q ∧ (s.entered rq).evacuating q = s.evacuating q ∧ (s.entered rq).tailRoom q n = s.tailRoom q n := by
  rw [State.entered_eq]
  exact ⟨rfl, rfl, rfl, rfl, rfl⟩

/-! ### Requests that have their effect at a Daybreak, and long commands (R36, R306, R311) -/

/-- A served request whose effect waits for the Daybreak of R36 is answered, and the effect is due. -/
theorem done_submits {s : State} {rq : Rq} {op : Nat} {p : Principal} (hs : s.serves rq op p = true) (i : Instr) (body : Principal → State → Ans)
    {ref : Option Ref} {a : Act} {data : List (Nat × Nat)}
    (hbody : body p (s.entered rq) = { st := (s.entered rq).submit ref a, status := .success, frame := s.effFrame, data := data }) :
    ∃ t, s.done (xib op rq i s body) = .next t ∧ t.replied rq op .success s.effFrame data ∧
      t = { s with out := t.out, mbx.sess := t.mbx.sess, due := s.due ++ [Due.mk s.effFrame false false false none ref a] } := by
  obtain ⟨m, hm⟩ := done_entered hs i body hbody rfl
  rw [State.entered_eq] at hm
  exact ⟨_, hm, rfl, rfl⟩

/-- What is left of a request that began a long command: its reply names the handle, and the rest is what its body left, but for what has been sent and
the sessions. -/
structure State.LongBegun (s t u : State) (rq : Rq) (op h : Nat) : Prop where
  replied : t.replied rq op .inProgress s.effFrame [(2, h)]
  frame : t = { u with out := t.out, mbx.sess := t.mbx.sess }

/-- A served request whose body begins a long command. -/
theorem done_long {s : State} {rq : Rq} {op : Nat} {p : Principal} (hs : s.serves rq op p = true) (i : Instr) (body : Principal → State → Ans)
    {u : State} {h : Nat} (hbody : body p (s.entered rq) = u.long s.effFrame h) (htime : u.time = s.time) (hpending : u.pending = s.pending) :
    ∃ t, s.done (xib op rq i s body) = .next t ∧ s.LongBegun t u rq op h := by
  obtain ⟨m, hm⟩ := done_entered hs i body hbody rfl
  refine ⟨{ u with out := s.sentReply rq op { status := .inProgress, frame := s.effFrame, data := [(2, h)] } u.out, mbx.sess := m }, hm.trans ?_, rfl, rfl⟩
  unfold State.keepClock
  rw [← htime, ← hpending]
  rfl

/-! ### REGION_CREATE (R139, R141, R204) -/

/-- The record that REGION_CREATE asks for, with the tree area it takes. -/
def askedRegion (tenant cls size ttBase pool unit units rf : Nat) : Region :=
  { tenant := tenant, cls := cls, size := size, ttBase := ttBase, treePool := if units = 0 then 0 else pool, treeUnit := unit, treeUnits := units,
    releaseFree := rf == 1, deleting := false, delHandle := none }

/-- A region's tree area: none unless the region is Sealed and its tree has a level above those of a slot (R204). -/
def askedUnits (cls size : Nat) : Nat := if cls = 2 ∧ 4 ≤ treeLevels size then treeUnitsFor size else 0

/-- Where a tree area of some units goes: to the tail of a pool that is fit for it, and nowhere where there is none. -/
def State.treeRoom (s : State) (pool units : Nat) : Option Nat :=
  if units = 0 then some 0
  else if pool < 128 ∧ s.isPool pool ∧ s.sealedCap pool ∧ s.poolReady pool ∧ ! s.evacuating pool then s.tailRoom pool units
  else none

theorem any_overlap_iff (l : List (Nat × Nat × Nat)) (lo n : Nat) :
    l.any (fun x => decide (lo < x.2.1 + x.2.2) && decide (x.2.1 < lo + n)) = true ↔ ∃ x ∈ l, lo < x.2.1 + x.2.2 ∧ x.2.1 < lo + n := by
  simp

/-- REGION_CREATE is accepted where its parameters agree, a tree area that it needs is free, and a number is. -/
theorem exec_regionCreate_accepts {s : State} {rq : Rq} {p : Principal} {tenant cls size ttBase pool rf g u : Nat} (hs : s.serves rq 0x0400 p = true)
    (hmode : s.md.mode ≠ .evacuate) (hsize : ¬ (size = 0 ∨ 2 ^ 28 < size ∨ 2 < cls ∨ 1023 < tenant ∨ 1 < rf))
    (hslot : cls = 0 ∨ (tenant ≠ 0 ∧ s.slotState tenant = .established)) (hend : ttBase + size ≤ 2 ^ 30)
    (hspans : ∀ x ∈ s.regionSpans, ttBase + size ≤ x.2.1 ∨ x.2.1 + x.2.2 ≤ ttBase) (hfree : s.freeRegion = some g)
    (hroom : s.treeRoom pool (askedUnits cls size) = some u) :
    ∃ t, exec (.regionCreate rq tenant cls size ttBase pool rf) s = .next t ∧ t.replied rq 0x0400 .success s.effFrame [(2, g)] ∧
      t = { s with
        out := t.out, mbx.sess := t.mbx.sess
        due := s.due ++ [Due.mk s.effFrame false false false none (some (rqRef rq 0x0400))
          (.region g (askedRegion tenant cls size ttBase pool u (askedUnits cls size) rf))] } := by
  refine done_submits hs _ _ ?_
  have hapart : ¬ (2 ^ 30 < ttBase + size ∨
      s.regionSpans.any (fun x => decide (ttBase < x.2.1 + x.2.2) && decide (x.2.1 < ttBase + size)) = true) := by
    rw [any_overlap_iff]
    rintro (h | ⟨x, hx, h⟩)
    · omega
    · have := hspans x hx
      omega
  have htenant : ¬ (cls ≠ 0 ∧ tenant = 0) := fun ⟨hcls, hzero⟩ => hslot.elim hcls fun h => h.1 hzero
  have hkeys : ¬ (cls ≠ 0 ∧ s.slotState tenant ≠ .established) := fun ⟨hcls, hst⟩ => hslot.elim hcls fun h => hst h.2
  obtain ⟨hpool, hsealed, hready, hevac, htail⟩ := s.entered_pools rq pool (askedUnits cls size)
  unfold State.treeRoom askedUnits at hroom
  unfold askedUnits at htail
  simp only [State.entered_md, State.entered_regionSpans, State.entered_slotState, State.entered_freeRegion, State.entered_effFrame, hpool, hsealed,
    hready, hevac, htail, if_neg hmode, if_neg hsize, if_neg htenant, if_neg hapart, if_neg hkeys, hroom, hfree]
  rfl

theorem askedUnits_eq_zero {cls size : Nat} (h : cls = 2 → treeLevels size < 4) : askedUnits cls size = 0 :=
  if_neg fun ⟨hcls, hdeep⟩ => absurd (h hcls) (by omega)

theorem State.treeRoom_zero (s : State) (pool : Nat) : s.treeRoom pool 0 = some 0 := rfl

theorem le_foldl_add (f : Nat → Nat) {a : Nat} {l : List Nat} (ha : a ∈ l) (k : Nat) : f a ≤ l.foldl (fun n x => n + f x) k := by
  have hle : ∀ (l : List Nat) (k : Nat), k ≤ l.foldl (fun n x => n + f x) k := by
    intro l
    induction l with
    | nil => exact fun k => le_refl k
    | cons b l ih => exact fun k => (Nat.le_add_right k (f b)).trans (ih _)
  induction l generalizing k with
  | nil => exact absurd ha List.not_mem_nil
  | cons b l ih =>
    rcases List.mem_cons.1 ha with rfl | ha
    · exact (Nat.le_add_left (f a) k).trans (hle l _)
    · exact ih ha _

/-- A region whose tree is deeper than a slot has a tree area. -/
theorem treeUnitsFor_ne_zero {size : Nat} (h : 4 ≤ treeLevels size) : treeUnitsFor size ≠ 0 := by
  have hsize : 8 < size := by
    by_contra hsmall
    rw [treeLevels, if_pos (by omega)] at h
    omega
  have hlevel : 1 ≤ nodesOfLevel size 4 := Nat.div_pos (by omega) (by decide)
  have hmem : 4 ∈ (List.range (treeLevels size + 1)).filter (fun l => decide (4 ≤ l)) := by
    simp only [List.mem_filter, List.mem_range, decide_eq_true_eq]
    omega
  have hnodes := le_foldl_add (nodesOfLevel size) hmem 0
  unfold treeUnitsFor
  dsimp only
  omega

theorem State.treeRoom_of_pool {s : State} {pool units u : Nat} (hunits : units ≠ 0) (hlt : pool < 128) (hpool : s.isPool pool = true)
    (hsealed : s.sealedCap pool = true) (hready : s.poolReady pool = true) (hevac : s.evacuating pool = false)
    (htail : s.tailRoom pool units = some u) : s.treeRoom pool units = some u := by
  unfold State.treeRoom
  rw [if_neg hunits, if_pos (by simp [hlt, hpool, hsealed, hready, hevac]), htail]

/-- REGION_CREATE of a size or place that R141 does not allow is refused. -/
theorem exec_regionCreate_refuses {s : State} {rq : Rq} {p : Principal} {tenant cls size ttBase pool rf : Nat} (hs : s.serves rq 0x0400 p = true)
    (hmode : s.md.mode ≠ .evacuate) (hbad : size = 0 ∨ 2 ^ 28 < size ∨ 2 ^ 30 < ttBase + size ∨
      (∃ x ∈ s.regionSpans, ttBase < x.2.1 + x.2.2 ∧ x.2.1 < ttBase + size)) :
    ∃ t, exec (.regionCreate rq tenant cls size ttBase pool rf) s = .next t ∧ s.turnsAway t rq 0x0400 .parameter := by
  refine done_refuses hs _ _ ?_
  simp only [State.entered_md, State.entered_regionSpans, State.entered_slotState, State.entered_freeRegion, State.entered_effFrame, if_neg hmode]
  by_cases hsize : size = 0 ∨ 2 ^ 28 < size ∨ 2 < cls ∨ 1023 < tenant ∨ 1 < rf
  · rw [if_pos hsize]
  · by_cases htenant : cls ≠ 0 ∧ tenant = 0
    · rw [if_neg hsize, if_pos htenant]
    · rw [if_neg hsize, if_neg htenant, if_pos]
      rw [any_overlap_iff]
      rcases hbad with h | h | h | h
      · exact absurd (.inl h) hsize
      · exact absurd (.inr (.inl h)) hsize
      · exact .inl h
      · exact .inr h

/-! ### REGION_DELETE (R139) -/

/-- What an accepted REGION_DELETE leaves: a long command, the region marked as it is being deleted, and its moves on their way to an abort. -/
def State.deleteBegun (s : State) (rq : Rq) (p : Principal) (g : Nat) (r : Region) : State :=
  let c := s.lcStart 0x0401 (rqRef rq 0x0401) p (routeTargetOf rq.route rq.carrier)
  State.abortMoves { c.2 with bnd.regions := mput c.2.bnd.regions g { r with deleting := true, delHandle := some c.1 } } (fun x => x.region == g) .aborted

@[simp] theorem State.entered_nBind (s : State) (rq : Rq) (g : Nat) : (s.entered rq).nBind g = s.nBind g := by
  rw [State.entered_eq]
  rfl

@[simp] theorem State.entered_bindingDue (s : State) (rq : Rq) (g : Nat) : (s.entered rq).bindingDue g = s.bindingDue g := by
  rw [State.entered_eq]
  rfl

theorem exec_regionDelete_begins {s : State} {rq : Rq} {p : Principal} {g : Nat} {r : Region} (hs : s.serves rq 0x0401 p = true)
    (hregion : mget s.bnd.regions g = some r) (hdel : r.deleting = false) (hbind : s.nBind g = 0) (hdue : s.bindingDue g = false)
    (hslots : s.lcSlots ≠ []) :
    ∃ t h, exec (.regionDelete rq g) s = .next t ∧ t.replied rq 0x0401 .inProgress s.effFrame [(2, h)] ∧
      mget t.bnd.regions g = some { r with deleting := true, delHandle := some h } ∧ (∀ k, k ≠ g → mget t.bnd.regions k = mget s.bnd.regions k) ∧
      t = { s with out := t.out, mbx := t.mbx, oxb.moves := t.oxb.moves, fresh := t.fresh, bnd.regions := t.bnd.regions } := by
  obtain ⟨h, hh⟩ : ∃ h, ((s.entered rq).lcStart 0x0401 (rqRef rq 0x0401) p (routeTargetOf rq.route rq.carrier)).1 = h := ⟨_, rfl⟩
  obtain ⟨t, ht, hbegun⟩ : ∃ t, exec (.regionDelete rq g) s = .next t ∧ s.LongBegun t ((s.entered rq).deleteBegun rq p g r) rq 0x0401 h := by
    refine done_long hs _ _ ?_ ?_ ?_
    · have hidle : ¬ (r.deleting ∨ 0 < s.nBind g ∨ s.bindingDue g ∨ s.lcSlots = []) := by simp [hdel, hbind, hdue, hslots]
      subst hh
      simp only [State.entered_bnd, hregion, State.entered_nBind, State.entered_bindingDue, State.entered_lcSlots, State.entered_effFrame, if_neg hidle]
      rfl
    · rw [State.entered_eq]
      rfl
    · rw [State.entered_eq]
      rfl
  have hregions : t.bnd.regions = mput s.bnd.regions g { r with deleting := true, delHandle := some h } := by
    rw [hbegun.frame, State.entered_eq, ← hh, State.entered_eq]
    rfl
  refine ⟨t, h, ht, hbegun.replied, ?_, fun k hk => ?_, ?_⟩
  · rw [hregions, mget_mput_same]
  · rw [hregions, mget_mput_ne _ _ (Ne.symm hk)]
  · rw [hbegun.frame, State.entered_eq]
    rfl

theorem exec_regionDelete_busy {s : State} {rq : Rq} {p : Principal} {g : Nat} {r : Region} (hs : s.serves rq 0x0401 p = true)
    (hregion : mget s.bnd.regions g = some r) (hbind : 0 < s.nBind g) :
    ∃ t, exec (.regionDelete rq g) s = .next t ∧ s.turnsAway t rq 0x0401 .busy := by
  refine done_refuses hs _ _ ?_
  simp only [State.entered_bnd, hregion, State.entered_nBind]
  exact if_pos (.inr (.inl hbind))

/-! ### GET_REGION and GET_EXTENTS (R138, R145, R160) -/

theorem State.entered_regionRecord (s : State) (rq : Rq) (g tenant cls size ttBase st : Nat) (rf : Bool) :
    (s.entered rq).regionRecord g tenant cls size ttBase st rf = s.regionRecord g tenant cls size ttBase st rf := by
  unfold State.regionRecord
  rw [State.entered_nBind]

theorem exec_getRegion_reads {s : State} {rq : Rq} {p : Principal} {g : Nat} {r : Region} (hs : s.serves rq 0x0402 p = true)
    (hregion : mget s.bnd.regions g = some r) (hown : ∀ k, p = .tenant k → k = r.tenant) :
    ∃ t, exec (.getRegion rq g) s = .next t ∧ t.replied rq 0x0402 .success s.time.frame
        [(16, s.regionRecord g r.tenant r.cls r.size r.ttBase (if r.deleting then 2 else 1) r.releaseFree)] ∧
      t = { s with out := t.out, mbx.sess := t.mbx.sess } := by
  refine done_reads hs _ _ ?_
  simp only [State.entered_bnd, hregion, State.entered_regionRecord]
  refine if_neg ?_
  cases p with
  | tenant k => simp [hown k rfl]
  | _ => exact Bool.false_ne_true

theorem State.entered_maySeeBinding (s : State) (rq : Rq) (p : Principal) (b : Nat) : (s.entered rq).maySeeBinding p b = s.maySeeBinding p b := by
  rw [State.entered_eq]
  rfl

theorem exec_getExtents_reads {s : State} {rq : Rq} {p : Principal} {b : Nat} (hs : s.serves rq 0x0405 p = true) (hb : b < 4096)
    (hvalid : s.bndValid b = true) (hsees : s.maySeeBinding p b = true) :
    ∃ t, exec (.getExtents rq b) s = .next t ∧ t.replied rq 0x0405 .success s.time.frame
        ((1, ((s.extents b).filter (fun e => e.st != .preparing)).length) :: ((s.extents b).filter (fun e => e.st != .preparing)).flatMap
          (fun e => [(4, e.dpa), (4, e.len), (4, e.rofs), (16, e.tag), (1, e.st.code), (3, 0)])) ∧
      t = { s with out := t.out, mbx.sess := t.mbx.sess } := by
  refine done_reads hs _ _ ?_
  have hplace : ¬ (4096 ≤ b ∨ ! s.bndValid b) := by simp [hb, hvalid]
  simp only [State.entered_bndValid, State.entered_maySeeBinding, State.entered_extents, hsees, if_neg hplace, Bool.not_true, Bool.false_eq_true, if_false]

/-- Settles O22: a creation whose parameters agree is due with the record it asks for, one whose place is taken is refused, a deletion marks its region, and
the reads report what is in force. -/
theorem regionOpcodes : Obligations.RegionOpcodes := by
  unfold Obligations.RegionOpcodes
  refine ⟨?slot, ?tree, ?refused, fun _ _ _ _ _ => exec_regionDelete_begins, fun _ _ _ _ _ => exec_regionDelete_busy,
    fun _ _ _ _ _ => exec_getRegion_reads, fun _ _ _ _ => exec_getExtents_reads⟩
  case slot =>
    intro s rq p tenant cls size ttBase pool rf g hs hmode hpos hmax hcls htenant hrf hend hslot hspans hshallow hfree
    have hunits := askedUnits_eq_zero hshallow
    obtain ⟨t, ht, hreply, hframe⟩ := exec_regionCreate_accepts (pool := pool) (u := 0) (rf := rf) hs hmode (by omega) hslot hend hspans hfree
      (by rw [hunits, s.treeRoom_zero])
    exact ⟨t, _, ht, hreply, rfl, rfl, rfl, rfl, rfl, rfl, hframe⟩
  case tree =>
    intro s rq p tenant size ttBase pool rf g u hs hmode hmax hpos htenant hrf hend hslot hspans hdeep hlt hpool hsealed hready hevac htail hfree
    have hunits : askedUnits 2 size = treeUnitsFor size := if_pos ⟨rfl, hdeep⟩
    have hne := treeUnitsFor_ne_zero hdeep
    have hsize : size ≠ 0 := fun hzero => by rw [hzero] at hdeep; exact absurd hdeep (by decide)
    have hfit : ¬ (size = 0 ∨ 2 ^ 28 < size ∨ 2 < 2 ∨ 1023 < tenant ∨ 1 < rf) := by omega
    obtain ⟨t, ht, hreply, hframe⟩ := exec_regionCreate_accepts (cls := 2) (pool := pool) (u := u) hs hmode hfit (.inr ⟨Nat.pos_iff_ne_zero.1 hpos, hslot⟩) hend hspans
      hfree (by rw [hunits]; exact State.treeRoom_of_pool hne hlt hpool hsealed hready hevac htail)
    rw [hunits] at hframe
    generalize treeUnitsFor size = n at hframe hne
    exact ⟨t, askedRegion tenant 2 size ttBase pool u n rf, ht, hreply, rfl, rfl, rfl, rfl, if_neg hne, rfl, rfl,
      congrArg State.due hframe, (congrArg (fun x => x.bnd) hframe :)⟩
  case refused =>
    intro s rq p tenant cls size ttBase pool rf hs hmode hbad
    exact exec_regionCreate_refuses hs hmode hbad

end Sys2Proof.Machine
end

section
/-! Proofs of the family 07_bindings, second part: the accesses of a host to memory and to bridge windows (O38). -/
namespace Sys2Proof.Machine
open Sys2Proof

/-- Binding 1 on host port 0, its decoder committed over the first 4 GiB. -/
def hostBinding : State :=
  ((((((hostPortUp.setBit (PRT_LINK_STAT_CXL 0) true).setCur (BND_CFG_VALID 1) 1).setCur (BND_CFG_HOST_PORT 1) 0).setCur (BND_CFG_TEN_VIEW 1) 1).setFld
    (BND_HDM_SIZE_LO_VALUE 1) 15).setBit (BND_HDM_CTL_COMMITTED 1) true)

/-- Sparse bridge window 16 of that binding, over the megabyte at 16 MiB, on downstream port 4, whose first read under a lock is an MRdLk (R280). -/
def lockingWindow : State :=
  let s := ((hostBinding.setCur (PRT_CFG_ROLE 4) 2).setBit (PRT_LINK_STAT_UP 4) true).setCur (LWB_WIN_CFG_EN 16) 1
  let s := ((s.setCur (LWB_WIN_CFG_BIND 16) 1).setCur (LWB_WIN_CFG_PORT 16) 4).setCur (LWB_WIN_CFG_SPARSE 16) 1
  ((s.setCur (LWB_WIN_CFG_LK_TLP 16) 1).setCur (LWB_WIN_BASE_BASE 16) 256).setCur (LWB_WIN_SIZE_SIZE 16) 16

/-- The host of port 0 holds the far port's lock and has read nothing under it. -/
def lockHeld : State :=
  { lockingWindow with brg.lock := [(4, { host := 0, win := 16, since := 0, sent := false })] }

/-- A read of the current line by a host. -/
def readCurrent : MemOp := HKind.op .rdCur

theorem lockHeld_reaches_window :
    lockHeld.isHost 0 = true ∧ lockHeld.takes 0 { src := 0, dst := 0, kind := .mem readCurrent } = true ∧ lockHeld.bindingAt 0 0 = some 1 ∧
      lockHeld.dpaOf 1 0x1000000 = some 0x1000000 ∧ lockHeld.md.mode ≠ .quarantine ∧ mget lockHeld.bnd.rst 1 ≠ some true ∧
      lockHeld.windowAt 1 0x1000000 = some 16 := by decide +kernel

theorem lockHeld_issues_read :
    hkReads readCurrent.kind = true ∧
      lockHeld.brg.lines.find? (fun l => l.win == 16 && l.line == (0x1000000 / 64 * 64 - (lockHeld.winRange 16).1) / 64) = none ∧
      lockHeld.lockedOut (lockHeld.winPort 16) 0 = false ∧
      lockHeld.gateEval (lockHeld.winPort 16) (0x3000 + 16) .read (lockHeld.winAddr 16 (0x1000000 / 64 * 64 - (lockHeld.winRange 16).1))
        (if lockHeld.winSparse 16 then lockHeld.winWidth 16 else 64) = .allow ∧
      lockHeld.winPort 16 < 128 ∧ lockHeld.takes (lockHeld.winPort 16) { src := 144, dst := lockHeld.winPort 16, kind := .ioReq } = true ∧
      ∀ x ∈ lockHeld.brg.acc, x.id < lockHeld.brg.serial := by decide +kernel

/-- The read goes out as an MRdLk, and no message of it is a plain read request. -/
theorem lockHeld_sends_MRdLk :
    ((lockHeld.hostAccess 0 0 0x1000000 readCurrent 3 0 (2 ^ 64 - 1) false).voq 144 (lockHeld.winPort 16) MsgKind.ioLk.cls).any
      (fun m => m.tag == lockHeld.brg.serial && m.kind == .ioLk && m.len == lockHeld.winWidth 16) = true ∧
    ((lockHeld.hostAccess 0 0 0x1000000 readCurrent 3 0 (2 ^ 64 - 1) false).voq 144 (lockHeld.winPort 16) MsgKind.ioReq.cls).any
      (fun m => m.tag == lockHeld.brg.serial && m.kind == .ioReq && m.len == lockHeld.winWidth 16) = false := by decide +kernel

theorem exec_bridgeAccess_lockHeld : exec (.bridgeAccess 0 0 0x1000000 readCurrent 3 0 0 false) lockHeld =
    lockHeld.done (lockHeld.hostAccess 0 0 0x1000000 readCurrent 3 0 (2 ^ 64 - 1) false) := by
  obtain ⟨hhost, htakes, -⟩ := lockHeld_reaches_window
  exact congrArg lockHeld.done (if_neg (by simp [hhost, htakes]))

theorem xbr_of_done {s u t : State} (h : s.done u = .next t) : t.xbr = u.xbr := by
  obtain rfl := Host.Outcome.next.inj h
  rfl

/-- Refutes O38, by its ninth clause: it has a bridge read that misses the prefetch buffer go out as a plain read request, and no premise keeps it from
being the first read of the host that holds the far port's lock, in a window whose LK_TLP is set. R280 has that one go out as an MRdLk. -/
theorem not_hostMemoryAccess : ¬ Obligations.HostMemoryAccess := by
  unfold Obligations.HostMemoryAccess
  rintro ⟨-, -, -, -, -, -, -, -, hread, -⟩
  obtain ⟨hhost, htakes, hbinding, hdpa, hmode, hrst, hwindow⟩ := lockHeld_reaches_window
  obtain ⟨hreads, hmiss, hlock, hgate, hport, hroom, hserial⟩ := lockHeld_issues_read
  obtain ⟨t, a, ht, -, -, -, -, -, -, -, -, hsent⟩ := hread lockHeld 0 0 0x1000000 3 0 0 1 0x1000000 16 readCurrent false hhost htakes hbinding hdpa
    hmode hrst hwindow (by decide) (by decide) hreads hmiss hlock hgate hport hroom hserial
  rw [State.voq_congr (xbr_of_done (exec_bridgeAccess_lockHeld.symm.trans ht)), lockHeld_sends_MRdLk.2] at hsent
  exact Bool.false_ne_true hsent

end Sys2Proof.Machine
end

section
/-! Proofs of the family 07_bindings, third part: adding extents (O23). -/
namespace Sys2Proof.Machine
open Sys2Proof

/-! ### The extents of a binding (R145) -/

theorem mem_insertBy {α : Type} {key : α → Nat} {a x : α} {l : List α} : a ∈ insertBy key x l ↔ a = x ∨ a ∈ l := by
  induction l with
  | nil => simp [insertBy]
  | cons y l ih =>
    unfold insertBy
    split
    · simp
    · simp [ih, or_left_comm]

theorem mem_sortBy {α : Type} {key : α → Nat} {a : α} {l : List α} : a ∈ sortBy key l ↔ a ∈ l := by
  induction l with
  | nil => exact Iff.rfl
  | cons x l ih => rw [sortBy, mem_insertBy, ih, List.mem_cons]

@[simp] theorem State.extents_setExtents (s : State) (b : Nat) (l : List Extent) : (s.setExtents b l).extents b = l :=
  mgetD_mputD_same s.bnd.ext b [] l

theorem State.extentOf_congr {s t : State} (h : t.bnd.ext = s.bnd.ext) (b d : Nat) : t.extentOf b d = s.extentOf b d := by
  unfold State.extentOf State.extents
  rw [h]

theorem State.extentOf_dpa {s : State} {b d : Nat} {e : Extent} (h : s.extentOf b d = some e) : e.dpa = d := by
  unfold State.extentOf at h
  exact beq_iff_eq.1 (List.find?_some (p := fun x : Extent => x.dpa == d) h)

/-- An extent is found where it replaced the one that begins there. -/
theorem State.extentOf_putExtent {s : State} {b d : Nat} {e x : Extent} (h : s.extentOf b d = some e) (hx : x.dpa = d) :
    (s.putExtent b x).extentOf b d = some x := by
  unfold State.extentOf at h ⊢
  rw [State.putExtent, State.extents_setExtents]
  subst hx
  generalize s.extents b = l at h ⊢
  induction l with
  | nil => exact absurd h (by simp)
  | cons y l ih =>
    by_cases hy : y.dpa = x.dpa
    · simp [hy]
    · simp only [List.map_cons, if_neg hy, List.find?_cons, beq_false_of_ne hy] at h ⊢
      exact ih h

/-! ### What entering a session leaves alone (R309) -/

@[simp] theorem State.entered_bndRegion (s : State) (rq : Rq) (b : Nat) : (s.entered rq).bndRegion b = s.bndRegion b := by
  rw [State.entered_eq]
  rfl

@[simp] theorem State.entered_remoteRegion (s : State) (rq : Rq) (g : Nat) : (s.entered rq).remoteRegion g = s.remoteRegion g := by
  rw [State.entered_eq]
  rfl

@[simp] theorem State.entered_overWindow (s : State) (rq : Rq) (b lo hi : Nat) : (s.entered rq).overWindow b lo hi = s.overWindow b lo hi := by
  rw [State.entered_eq]
  rfl

/-! ### EXTENT_ADD (R145, R146) -/

/-- The next state of a served request whose body begins a long command. -/
theorem done_begins {s : State} {rq : Rq} {op : Nat} {p : Principal} (hs : s.serves rq op p = true) (i : Instr) (body : Principal → State → Ans)
    {u : State} {h : Nat} (hbody : body p (s.entered rq) = u.long s.effFrame h) :
    ∃ t m, s.done (xib op rq i s body) = .next t ∧ t.replied rq op .inProgress s.effFrame [(2, h)] ∧
      t = { s.keepClock u with out := t.out, mbx.sess := m, pending := s.pending } := by
  obtain ⟨m, hm⟩ := done_entered hs i body hbody rfl
  exact ⟨_, m, hm, rfl, rfl⟩

/-- The size of the region of a binding, homed here or on a peer. -/
def State.boundSize (s : State) (b : Nat) : Nat :=
  match mget s.bnd.regions (s.bndRegion b) with
  | some r => r.size
  | none => match s.remoteRegion (s.bndRegion b) with
    | some x => x.2.size
    | none => 0

/-- Where an add of an extent agrees with its binding and its region, and finds a slot for a long command. -/
structure State.ExtentFits (s : State) (b dpa len rofs : Nat) : Prop where
  mode : s.md.mode ≠ .evacuate
  number : b < 4096
  valid : s.bndValid b = true
  bound : s.bnd.unbinding.contains b = false
  clear : s.overWindow b (dpa * 262144) ((dpa + len) * 262144) = false
  some_len : 0 < len
  inRegion : rofs + len ≤ s.boundSize b
  inSpace : dpa + len ≤ 2 ^ 28
  room : ((s.extents b).filter (fun e => e.st != .releasing)).length < 64
  apart : ∀ e ∈ s.extents b, dpa + len ≤ e.dpa ∨ e.dpa + e.len ≤ dpa
  slot : s.lcSlots ≠ []

/-- The preparation of an add: of the entries of a region homed here, and of none for a region of a peer. -/
def State.extentMade (s : State) (b len rofs : Nat) : Option (List Nat × State) :=
  match mget s.bnd.regions (s.bndRegion b) with
  | some r => s.prepareAll (s.bndRegion b) r ((List.range len).map (fun k => rofs + k))
  | none => some ([], s)

/-- The extent of an add whose preparation is under way. -/
def newExtent (dpa len rofs tag h : Nat) (made : List Nat) : Extent :=
  { dpa := dpa, len := len, rofs := rofs, tag := tag, st := .preparing, add := some h, rel := none, made := made, accepting := false, rejected := false,
    swept := false }

/-- What an add begins once its entries are being prepared: its long command, and its extent among the binding's. -/
def State.addBegun (s : State) (rq : Rq) (p : Principal) (b dpa len rofs tag : Nat) (made : List Nat) : State :=
  let c := s.lcStart 0x0403 (rqRef rq 0x0403) p (routeTargetOf rq.route rq.carrier)
  c.2.setExtents b (sortBy (fun x => x.dpa) (c.2.extents b ++ [newExtent dpa len rofs tag c.1 made]))

theorem any_extent_overlap_iff (l : List Extent) (lo n : Nat) :
    l.any (fun e => decide (lo < e.dpa + e.len) && decide (e.dpa < lo + n)) = true ↔ ∃ e ∈ l, lo < e.dpa + e.len ∧ e.dpa < lo + n := by
  simp

theorem exec_extentAdd_begins {s : State} {rq : Rq} {p : Principal} {b dpa len rofs tag : Nat} {l : List Nat} {u : State}
    (hs : s.serves rq 0x0403 p = true) (hfits : s.ExtentFits b dpa len rofs) (hmade : (s.entered rq).extentMade b len rofs = some (l, u)) :
    ∃ t m h, exec (.extentAdd rq b dpa len rofs tag) s = .next t ∧ t.replied rq 0x0403 .inProgress s.effFrame [(2, h)] ∧
      (newExtent dpa len rofs tag h l) ∈ t.extents b ∧ (∀ e ∈ u.extents b, e ∈ t.extents b) ∧
      t = { s.keepClock (u.addBegun rq p b dpa len rofs tag l) with out := t.out, mbx.sess := m, pending := s.pending } := by
  obtain ⟨c, hc⟩ : ∃ c, u.lcStart 0x0403 (rqRef rq 0x0403) p (routeTargetOf rq.route rq.carrier) = c := ⟨_, rfl⟩
  have hbegun : u.addBegun rq p b dpa len rofs tag l = c.2.setExtents b (sortBy (fun x => x.dpa) (c.2.extents b ++ [newExtent dpa len rofs tag c.1 l])) := by
    rw [← hc]
    rfl
  have hplace : ¬ (4096 ≤ b ∨ ! s.bndValid b ∨ s.bnd.unbinding.contains b) := by
    simpa [hfits.number, hfits.valid] using hfits.bound
  have hrange : ¬ (len = 0 ∨ s.boundSize b < rofs + len ∨ 2 ^ 28 < dpa + len ∨ 64 ≤ ((s.extents b).filter (fun e => e.st != .releasing)).length) := by
    have h1 := hfits.some_len
    have h2 := hfits.inRegion
    have h3 := hfits.inSpace
    have h4 := hfits.room
    omega
  have hapart : ¬ (s.extents b).any (fun e => decide (dpa < e.dpa + e.len) && decide (e.dpa < dpa + len)) = true := by
    rw [any_extent_overlap_iff]
    rintro ⟨e, he, h⟩
    have := hfits.apart e he
    omega
  have hclear : ¬ s.overWindow b (dpa * 262144) ((dpa + len) * 262144) = true := by simp [hfits.clear]
  unfold State.boundSize at hrange
  unfold State.extentMade at hmade
  simp only [State.entered_bnd, State.entered_bndRegion] at hmade
  obtain ⟨t, m, ht, hreply, hframe⟩ : ∃ t m, exec (.extentAdd rq b dpa len rofs tag) s = .next t ∧
      t.replied rq 0x0403 .inProgress s.effFrame [(2, c.1)] ∧
      t = { s.keepClock (u.addBegun rq p b dpa len rofs tag l) with out := t.out, mbx.sess := m, pending := s.pending } := by
    refine done_begins hs _ _ ?_
    subst hc
    simp only [State.entered_md, State.entered_bndValid, State.entered_bnd, State.entered_bndRegion, State.entered_remoteRegion, State.entered_overWindow,
      State.entered_extents, State.entered_lcSlots, State.entered_effFrame, if_neg hfits.mode, if_neg hplace, if_neg hclear, if_neg hapart, if_neg hfits.slot]
    refine (if_neg hrange).trans ?_
    cases hregion : mget s.bnd.regions (s.bndRegion b) with
    | none =>
      simp only [hregion, Option.some.injEq, Prod.mk.injEq] at hmade
      obtain ⟨rfl, rfl⟩ := hmade
      rfl
    | some r =>
      simp only [hregion] at hmade
      simp only [hmade]
      rfl
  have hextents : t.extents b = sortBy (fun x => x.dpa) (u.extents b ++ [newExtent dpa len rofs tag c.1 l]) := by
    have hbnd : t.bnd = (u.addBegun rq p b dpa len rofs tag l).bnd := (congrArg (fun x => x.bnd) hframe :)
    have hsame : c.2.extents b = u.extents b := by
      rw [← hc]
      exact congrArg (fun x : BndSt => mgetD x.ext b []) (u.lcStart_bnd _ _ _ _)
    rw [← hsame, ← State.extents_setExtents c.2 b (sortBy _ _), ← hbegun]
    exact congrArg (fun x : BndSt => mgetD x.ext b []) hbnd
  refine ⟨t, m, c.1, ht, hreply, ?_, fun e he => ?_, hframe⟩
  · rw [hextents, mem_sortBy]
    exact List.mem_append_right _ (List.mem_singleton_self _)
  · rw [hextents, mem_sortBy]
    exact List.mem_append_left _ he

theorem State.boundSize_of_region {s : State} {b : Nat} {r : Region} (h : mget s.bnd.regions (s.bndRegion b) = some r) : s.boundSize b = r.size := by
  unfold State.boundSize
  rw [h]

theorem State.boundSize_of_remote {s : State} {b m : Nat} {x : RemRegion} (h : mget s.bnd.regions (s.bndRegion b) = none)
    (hremote : s.remoteRegion (s.bndRegion b) = some (m, x)) : s.boundSize b = x.size := by
  unfold State.boundSize
  rw [h, hremote]

theorem State.extentMade_of_region {s : State} {b len rofs : Nat} {r : Region} (h : mget s.bnd.regions (s.bndRegion b) = some r) :
    s.extentMade b len rofs = s.prepareAll (s.bndRegion b) r ((List.range len).map (fun k => rofs + k)) := by
  unfold State.extentMade
  rw [h]

theorem State.extentMade_of_remote {s : State} {b len rofs : Nat} (h : mget s.bnd.regions (s.bndRegion b) = none) :
    s.extentMade b len rofs = some ([], s) := by
  unfold State.extentMade
  rw [h]

/-- What an add begins changes nothing but its long command, the free values and the extents. -/
theorem State.addBegun_eq (s : State) (rq : Rq) (p : Principal) (b dpa len rofs tag : Nat) (l : List Nat) :
    ∃ m n x, s.addBegun rq p b dpa len rofs tag l = { s with mbx := m, fresh := n, bnd.ext := x } := ⟨_, _, _, rfl⟩

/-- EXTENT_ADD of a range that lies over another extent is refused (R145). -/
theorem exec_extentAdd_refuses_overlap {s : State} {rq : Rq} {p : Principal} {b dpa len rofs tag : Nat} (hs : s.serves rq 0x0403 p = true)
    (hmode : s.md.mode ≠ .evacuate) (hoverlap : ∃ e ∈ s.extents b, dpa < e.dpa + e.len ∧ e.dpa < dpa + len) :
    ∃ t, exec (.extentAdd rq b dpa len rofs tag) s = .next t ∧ s.turnsAway t rq 0x0403 .parameter := by
  refine done_refuses hs _ _ ?_
  have hany := (any_extent_overlap_iff (s.extents b) dpa len).2 hoverlap
  simp only [State.entered_md, State.entered_extents, if_neg hmode, if_pos hany]
  split
  · rfl
  · split
    · rfl
    · exact ite_self _

/-! ### The end of a preparation (R146) -/

/-- Staging the entry of a filled parcel changes the entries in preparation and the effects due. -/
theorem State.stageFilled_eq (s : State) (i : Nat) : ∃ d m, s.stageFilled i = { s with due := d, bnd.prep := m } := by
  unfold State.stageFilled
  split
  · exact ⟨_, _, rfl⟩
  · exact ⟨s.due, s.bnd.prep, rfl⟩

theorem State.stageFilled_of_prep {s : State} {i p ppi : Nat} (h : mget s.bnd.prep i = some (p, ppi)) :
    s.stageFilled i = State.submit { s with bnd.prep := mdel s.bnd.prep i } none (.ttSet i p ppi) := by
  unfold State.stageFilled
  rw [h]

theorem State.stageFilled_of_none {s : State} {i : Nat} (h : mget s.bnd.prep i = none) : s.stageFilled i = s := by
  unfold State.stageFilled
  rw [h]

theorem State.mem_stageFilled_due {s : State} (i : Nat) {d : Due} (h : d ∈ s.due) : d ∈ (s.stageFilled i).due := by
  unfold State.stageFilled
  split
  · exact List.mem_append_left _ h
  · exact h

theorem State.stageFilled_prep_ne (s : State) {i j : Nat} (h : j ≠ i) : mget (s.stageFilled j).bnd.prep i = mget s.bnd.prep i := by
  unfold State.stageFilled
  split
  · exact mget_mdel_ne _ h
  · rfl

theorem State.stageFilled_prep_self (s : State) (i : Nat) : mget (s.stageFilled i).bnd.prep i = none := by
  cases h : mget s.bnd.prep i with
  | none => rw [State.stageFilled_of_none h, h]
  | some x =>
    rw [State.stageFilled_of_prep (p := x.1) (ppi := x.2) h]
    exact mget_mdel_same _ _

/-- The staging of an add's entries. -/
def State.stageAll (s : State) (is : List Nat) : State := is.foldl State.stageFilled s

theorem State.stageAll_eq (s : State) (is : List Nat) : ∃ d m, s.stageAll is = { s with due := d, bnd.prep := m } := by
  induction is generalizing s with
  | nil => exact ⟨s.due, s.bnd.prep, rfl⟩
  | cons i is ih =>
    obtain ⟨_, _, hfirst⟩ := s.stageFilled_eq i
    obtain ⟨d, m, hrest⟩ := ih (s.stageFilled i)
    exact ⟨d, m, hrest.trans (by rw [hfirst])⟩

theorem State.mem_stageAll_due {s : State} (is : List Nat) {d : Due} (h : d ∈ s.due) : d ∈ (s.stageAll is).due := by
  induction is generalizing s with
  | nil => exact h
  | cons i is ih => exact ih (State.mem_stageFilled_due i h)

theorem State.stageAll_prep_none {s : State} (is : List Nat) {i : Nat} (h : mget s.bnd.prep i = none) : mget (s.stageAll is).bnd.prep i = none := by
  induction is generalizing s with
  | nil => exact h
  | cons j is ih =>
    refine ih ?_
    by_cases hj : j = i
    · exact hj ▸ s.stageFilled_prep_self j
    · rw [s.stageFilled_prep_ne hj, h]

/-- Every entry of an add that is in preparation is staged, and no longer in preparation. -/
theorem State.stageAll_stages {s : State} {is : List Nat} {i p ppi : Nat} (hmem : i ∈ is) (hprep : mget s.bnd.prep i = some (p, ppi)) :
    mget (s.stageAll is).bnd.prep i = none ∧ Due.mk s.effFrame false false false none none (.ttSet i p ppi) ∈ (s.stageAll is).due := by
  induction is generalizing s with
  | nil => exact absurd hmem List.not_mem_nil
  | cons j is ih =>
    by_cases hj : j = i
    · subst hj
      refine ⟨State.stageAll_prep_none is (s.stageFilled_prep_self j), State.mem_stageAll_due is ?_⟩
      rw [State.stageFilled_of_prep hprep]
      exact List.mem_append_right _ (List.mem_singleton_self _)
    · have heff : (s.stageFilled j).effFrame = s.effFrame := by
        obtain ⟨d, m, h⟩ := s.stageFilled_eq j
        rw [h]
        rfl
      rw [← heff]
      exact ih ((List.mem_cons.1 hmem).resolve_left (Ne.symm hj)) ((s.stageFilled_prep_ne hj).trans hprep)

/-- Passing a commit point changes a long command. -/
theorem State.lcPast_eq (s : State) (h : Nat) : ∃ l, s.lcPast h = { s with mbx.lc := l } := by
  unfold State.lcPast
  split
  · split
    · exact ⟨_, rfl⟩
    · exact ⟨s.mbx.lc, rfl⟩
  · exact ⟨s.mbx.lc, rfl⟩

theorem State.lcPast_of_running {s : State} {h k : Nat} {l : Lc} (hlc : s.lcOf h = some (k, l)) (hrun : l.st = .running) :
    mget (s.lcPast h).mbx.lc k = some { l with st := .past } := by
  unfold State.lcPast
  simp only [hlc, if_pos hrun]
  exact mget_mput_same _ _ _

/-- What an offer leaves: the extent offered, the event to the host, and the add's long command past its commit point. -/
def State.offered (s : State) (b : Nat) (e : Extent) : State :=
  let s1 := (s.putExtent b { e with st := .offered }).emit (.capacity b e.dpa true)
  match e.add with
  | some h => s1.lcPast h
  | none => s1

theorem State.offer_of_backed {s : State} {b : Nat} {e : Extent} (hst : e.st = .preparing) (hfilled : e.filled = true) (hbacked : s.backed b e = true) :
    s.offer b e = s.offered b e :=
  (if_neg (by simp [hst, hfilled, hbacked])).trans rfl

theorem State.offer_of_not_backed {s : State} {b : Nat} {e : Extent} (hbacked : s.backed b e = false) : s.offer b e = s :=
  if_pos (.inr (.inr (by simp [hbacked])))

theorem State.offered_eq (s : State) (b : Nat) (e : Extent) :
    ∃ l, s.offered b e = { (s.putExtent b { e with st := .offered }) with out := .capacity b e.dpa true :: s.out, mbx.lc := l } := by
  unfold State.offered
  split
  next h _ =>
    obtain ⟨l, hl⟩ := State.lcPast_eq ((s.putExtent b { e with st := .offered }).emit (.capacity b e.dpa true)) h
    exact ⟨l, hl⟩
  next => exact ⟨s.mbx.lc, rfl⟩

theorem State.extentOf_offered {s : State} {b d : Nat} {x e : Extent} (h : s.extentOf b d = some x) (he : e.dpa = d) :
    (s.offered b e).extentOf b d = some { e with st := .offered } := by
  obtain ⟨l, hl⟩ := s.offered_eq b e
  rw [hl]
  exact State.extentOf_putExtent h he

/-- An add whose fills are finished: its entries staged, and the extent marked. -/
def State.filled (s : State) (b : Nat) (e : Extent) : State :=
  (s.putExtent b { e with filled := true }).stageAll (e.made.map (s.idxOf b))

theorem exec_extentPreparationDone_of_preparing {s : State} {b dpa : Nat} {e : Extent} (he : s.extentOf b dpa = some e) (hst : e.st = .preparing)
    (hfilled : e.filled = false) :
    exec (.extentPreparationDone b dpa) s = s.done ((s.filled b e).offer b { e with filled := true }) := by
  refine congrArg s.done ?_
  unfold State.prepDone
  simp only [he]
  exact if_neg (by simp [hst, hfilled])

theorem exec_extentPreparationDone_idle {s : State} {b dpa : Nat} {e : Extent} (he : s.extentOf b dpa = some e)
    (hidle : e.st ≠ .preparing ∨ e.filled = true) : exec (.extentPreparationDone b dpa) s = .next s := by
  have hsame : s.prepDone b dpa = s := by
    unfold State.prepDone
    simp only [he]
    exact if_pos hidle
  exact (congrArg s.done hsame).trans (State.done_eq_next rfl rfl)

theorem State.extentOf_filled {s : State} {b dpa : Nat} {e : Extent} (he : s.extentOf b dpa = some e) :
    (s.filled b e).extentOf b dpa = some { e with filled := true } := by
  obtain ⟨d, m, hframe⟩ := (s.putExtent b { e with filled := true }).stageAll_eq (e.made.map (s.idxOf b))
  have hdpa := State.extentOf_dpa he
  refine (State.extentOf_congr ?_ b dpa).trans (State.extentOf_putExtent (x := { e with filled := true }) he hdpa)
  exact congrArg (fun x => x.bnd.ext) hframe

/-- A finished preparation marks the extent, and has every entry that the add still prepared due. -/
theorem exec_extentPreparationDone_stages {s : State} {b dpa : Nat} {e : Extent} (he : s.extentOf b dpa = some e) (hst : e.st = .preparing)
    (hfilled : e.filled = false) :
    ∃ t x, exec (.extentPreparationDone b dpa) s = .next t ∧ t.extentOf b dpa = some x ∧ x.filled = true ∧
      (∀ r ∈ e.made, ∀ p ppi, mget s.bnd.prep (s.idxOf b r) = some (p, ppi) → mget t.bnd.prep (s.idxOf b r) = none ∧
        Due.mk s.effFrame false false false none none (.ttSet (s.idxOf b r) p ppi) ∈ t.due) := by
  have hstages : ∀ r ∈ e.made, ∀ p ppi, mget s.bnd.prep (s.idxOf b r) = some (p, ppi) → mget (s.filled b e).bnd.prep (s.idxOf b r) = none ∧
      Due.mk s.effFrame false false false none none (.ttSet (s.idxOf b r) p ppi) ∈ (s.filled b e).due :=
    fun r hr p ppi hprep => State.stageAll_stages (s := s.putExtent b { e with filled := true }) (List.mem_map_of_mem hr) hprep
  have hdpa := State.extentOf_dpa he
  rw [exec_extentPreparationDone_of_preparing he hst hfilled]
  cases hbacked : (s.filled b e).backed b { e with filled := true } with
  | false =>
    rw [State.offer_of_not_backed hbacked]
    exact ⟨_, { e with filled := true }, rfl, State.extentOf_filled he, rfl, hstages⟩
  | true =>
    rw [State.offer_of_backed (e := { e with filled := true }) hst rfl hbacked]
    refine ⟨_, _, rfl, State.extentOf_offered (e := { e with filled := true }) (State.extentOf_filled he) hdpa, rfl, ?_⟩
    obtain ⟨l, hl⟩ := (s.filled b e).offered_eq b { e with filled := true }
    rw [hl]
    exact hstages

/-- An add that made no entry, and whose range is backed, is offered at once. -/
theorem exec_extentPreparationDone_offers {s : State} {b dpa : Nat} {e : Extent} (he : s.extentOf b dpa = some e) (hst : e.st = .preparing)
    (hfilled : e.filled = false) (hmade : e.made = []) (hbacked : s.backed b { e with filled := true } = true) :
    ∃ t, exec (.extentPreparationDone b dpa) s = .next t ∧ t.extentOf b dpa = some { e with st := .offered, filled := true } ∧
      t.out = .capacity b dpa true :: s.out ∧
      (∀ h k l, e.add = some h → s.lcOf h = some (k, l) → l.st = .running → mget t.mbx.lc k = some { l with st := .past }) ∧
      t = { s with out := t.out, mbx.lc := t.mbx.lc, bnd.ext := t.bnd.ext } := by
  have hsame : s.filled b e = s.putExtent b { e with filled := true } := by
    unfold State.filled
    rw [hmade]
    rfl
  have hdpa := State.extentOf_dpa he
  have hready : (s.putExtent b { e with filled := true }).backed b { e with filled := true } = true := hbacked
  obtain ⟨l, hl⟩ := (s.putExtent b { e with filled := true }).offered_eq b { e with filled := true }
  have hnext : exec (.extentPreparationDone b dpa) s = .next ((s.putExtent b { e with filled := true }).offered b { e with filled := true }) := by
    rw [exec_extentPreparationDone_of_preparing he hst hfilled, hsame, State.offer_of_backed (e := { e with filled := true }) hst rfl hready, hl]
    exact State.done_eq_next rfl rfl
  refine ⟨_, hnext, ?_, ?_, fun h k l hadd hlc hrun => ?_, ?_⟩
  · exact State.extentOf_offered (e := { e with filled := true })
      (State.extentOf_putExtent (x := { e with filled := true }) he hdpa) hdpa
  · rw [hl]
    exact congrArg (fun d => Out.capacity b d true :: s.out) hdpa
  · unfold State.offered
    simp only [hadd]
    exact State.lcPast_of_running hlc hrun
  · rw [hl]
    rfl

/-! ### The host's response to an offer (R146) -/

/-- The abort of the moves of a range changes nothing but the moves. -/
theorem State.abortRange_eq (s : State) (b : Nat) (e : Extent) : ∃ m, s.abortRange b e = { s with oxb.moves := m } := ⟨_, rfl⟩

/-- The extent of an offer that the host has rejected. -/
def Extent.turnedDown (e : Extent) : Extent := { e with rejected := true, st := .releasing }

/-- What the rejection of an offer leaves: the extent released, its moves on their way to an abort, its removal due, and the host's answer. -/
def State.offerRejected (s : State) (b dpa : Nat) (e : Extent) : State :=
  (((s.putExtent b e.turnedDown).abortRange b e).submit none (.extOut b dpa)).emit (.dcReply b dpa true)

theorem exec_addDcResponse_accepts {s : State} {b dpa : Nat} {e : Extent} (he : s.extentOf b dpa = some e) (hst : e.st = .offered)
    (hacc : e.accepting = false) (hrej : e.rejected = false) :
    exec (.addDcResponse b dpa true) s = .next ((s.putExtent b { e with accepting := true }).submit none (.extIn b dpa)) := by
  have hopen : ¬ (e.st ≠ .offered ∨ e.accepting ∨ e.rejected) := by simp [hst, hacc, hrej]
  refine Eq.trans (congrArg s.done ?_) (State.done_eq_next (u := (s.putExtent b { e with accepting := true }).submit none (.extIn b dpa)) rfl rfl)
  simp only [he]
  exact if_neg hopen

theorem State.done_offerRejected (s : State) (b dpa : Nat) (e : Extent) : s.done (s.offerRejected b dpa e) = .next (s.offerRejected b dpa e) := by
  obtain ⟨m, hm⟩ := (s.putExtent b e.turnedDown).abortRange_eq b e
  unfold State.offerRejected
  rw [hm]
  exact State.done_eq_next rfl rfl

theorem exec_addDcResponse_rejects {s : State} {b dpa : Nat} {e : Extent} (he : s.extentOf b dpa = some e) (hst : e.st = .offered)
    (hacc : e.accepting = false) (hrej : e.rejected = false) :
    exec (.addDcResponse b dpa false) s = .next (s.offerRejected b dpa e) := by
  have hopen : ¬ (e.st ≠ .offered ∨ e.accepting ∨ e.rejected) := by simp [hst, hacc, hrej]
  refine Eq.trans (congrArg s.done ?_) (s.done_offerRejected b dpa e)
  simp only [he, if_neg hopen, Bool.false_eq_true, if_false]
  rfl

theorem State.extentOf_offerRejected {s : State} {b dpa : Nat} {e : Extent} (he : s.extentOf b dpa = some e) :
    (s.offerRejected b dpa e).extentOf b dpa = some e.turnedDown :=
  State.extentOf_putExtent he (x := e.turnedDown) (State.extentOf_dpa he : e.dpa = dpa)

/-- With no moves under way there is none to abort. -/
theorem State.abortRange_of_no_moves {s : State} (h : s.oxb.moves = []) (b : Nat) (e : Extent) : s.abortRange b e = s := by
  refine Eq.trans (b := { s with oxb.moves := [] }) ?_ ?_
  · unfold State.abortRange State.abortMoves
    simp only [h, List.map_nil]
  · rw [← h]

/-- A response to an extent that awaits none is answered so. -/
theorem exec_addDcResponse_refuses {s : State} {b dpa : Nat} (a : Bool)
    (h : ∀ e, s.extentOf b dpa = some e → e.st ≠ .offered ∨ e.accepting = true ∨ e.rejected = true) :
    exec (.addDcResponse b dpa a) s = .next { s with out := .dcReply b dpa false :: s.out } := by
  refine Eq.trans (congrArg s.done ?_) (State.done_eq_next (u := s.emit (.dcReply b dpa false)) rfl rfl)
  cases he : s.extentOf b dpa with
  | none => rfl
  | some e => exact if_pos (h e he)

/-- Settles O23: an add that agrees begins as a long command with its extent in preparation, the end of the preparation stages its entries and offers the
extent once its range is backed, and the host's response to an offer is due. -/
theorem extentAdd : Obligations.ExtentAdd := by
  unfold Obligations.ExtentAdd
  refine ⟨?here, ?remote, fun _ _ _ _ _ _ _ _ hs hmode _ _ => exec_extentAdd_refuses_overlap hs hmode, fun _ _ _ _ => exec_extentPreparationDone_stages,
    fun _ _ _ _ => exec_extentPreparationDone_offers, fun _ _ _ _ => exec_extentPreparationDone_idle, ?accepts, ?rejects, ?rejectsAlone,
    fun _ _ _ a => exec_addDcResponse_refuses a⟩
  case here =>
    intro s u rq p b dpa len rofs tag r l hs hmode hb hvalid hbound hregion hclear hlen hsize hend hroom hapart hslots hmade
    have hfits : s.ExtentFits b dpa len rofs :=
      ⟨hmode, hb, hvalid, hbound, hclear, hlen, (State.boundSize_of_region hregion).symm ▸ hsize, hend, hroom, hapart, hslots⟩
    obtain ⟨t, m, h, ht, hreply, hnew, hold, hframe⟩ := exec_extentAdd_begins (tag := tag) hs hfits (by
      rw [State.extentMade_of_region (r := r) (by simpa using hregion), State.entered_bndRegion]
      exact hmade)
    refine ⟨t, h, ht, hreply, ⟨_, hnew, rfl, rfl, rfl, rfl, rfl, rfl, rfl⟩, hold, ?_⟩
    obtain ⟨m', n, x, hbegun⟩ := u.addBegun_eq rq p b dpa len rofs tag l
    rw [hbegun] at hframe
    rw [hframe]
    exact ⟨rfl, rfl, rfl, rfl⟩
  case remote =>
    intro s rq p b dpa len rofs tag m x hs hmode hb hvalid hbound hregion hremote hclear hlen hsize hend hroom hapart hslots
    have hfits : s.ExtentFits b dpa len rofs :=
      ⟨hmode, hb, hvalid, hbound, hclear, hlen, (State.boundSize_of_remote hregion hremote).symm ▸ hsize, hend, hroom, hapart, hslots⟩
    obtain ⟨t, m', h, ht, hreply, hnew, hold, hframe⟩ := exec_extentAdd_begins (tag := tag) hs hfits
      (State.extentMade_of_remote (by simpa using hregion))
    refine ⟨t, h, ht, hreply, ⟨_, hnew, rfl, rfl, rfl, rfl, rfl, rfl, rfl⟩, fun e he => hold e (by simpa using he), ?_⟩
    obtain ⟨m'', n, y, hbegun⟩ := (s.entered rq).addBegun_eq rq p b dpa len rofs tag []
    rw [hbegun, State.entered_eq] at hframe
    rw [hframe]
    rfl
  case accepts =>
    intro s b dpa e he hst hacc hrej
    have hdpa := State.extentOf_dpa he
    exact ⟨_, exec_addDcResponse_accepts he hst hacc hrej, State.extentOf_putExtent (x := { e with accepting := true }) he hdpa, rfl⟩
  case rejects =>
    intro s b dpa e he hst hacc hrej
    exact ⟨_, exec_addDcResponse_rejects he hst hacc hrej, State.extentOf_offerRejected he, List.mem_cons_self,
      List.mem_append_right _ (List.mem_singleton_self _)⟩
  case rejectsAlone =>
    intro s b dpa e he hst hacc hrej hmoves
    refine ⟨_, exec_addDcResponse_rejects he hst hacc hrej, State.extentOf_offerRejected he, ?_⟩
    unfold State.offerRejected
    rw [State.abortRange_of_no_moves (s := s.putExtent b e.turnedDown) hmoves]
    rfl

end Sys2Proof.Machine
end

section
/-! Proofs of the family 07_bindings, fourth part: what the home agent leaves alone of the extents and of the effects due. -/
namespace Sys2Proof.Machine
open Sys2Proof

/-- The extents of the bindings and the effects due, which the home agent has no part in. -/
def State.extDue (s : State) : NMap (List Extent) × List Due := (s.bnd.ext, s.due)

/-! ### The rules for records, folds and optional states -/

@[simp] theorem State.extDue_mk (regs force dirty latch refused time flt evt mbx ident md prt isl grp lan sec bnd xbr brg home cnt twl slt oxb rsv due out
    fresh pending) :
    State.extDue ⟨regs, force, dirty, latch, refused, time, flt, evt, mbx, ident, md, prt, isl, grp, lan, sec, bnd, xbr, brg, home, cnt, twl, slt, oxb,
      rsv, due, out, fresh, pending⟩ = (bnd.ext, due) := rfl

@[simp] theorem State.extDue_fold (s : State) : (s.bnd.ext, s.due) = s.extDue := rfl

theorem State.extDue_of_eq {s t : State} (hbnd : t.bnd = s.bnd) (hdue : t.due = s.due) : t.extDue = s.extDue := by
  unfold State.extDue
  rw [hbnd, hdue]

theorem foldl_extDue {α : Type} {f : State → α → State} (hf : ∀ s a, (f s a).extDue = s.extDue) (l : List α) (s : State) :
    (l.foldl f s).extDue = s.extDue := by
  induction l generalizing s with
  | nil => rfl
  | cons a l ih => rw [List.foldl_cons, ih, hf]

theorem foldl_snd_extDue {α β : Type} {f : β × State → α → β × State} (hf : ∀ x a, (f x a).2.extDue = x.2.extDue) (l : List α) (x : β × State) :
    (l.foldl f x).2.extDue = x.2.extDue := by
  induction l generalizing x with
  | nil => rfl
  | cons a l ih => rw [List.foldl_cons, ih, hf]

/-! ### Registers, events and faults -/

@[simp] theorem State.setFld_extDue (s : State) (f : Fld) (v : Nat) : (s.setFld f v).extDue = s.extDue := State.extDue_of_eq (by simp) (by simp)
@[simp] theorem State.setBit_extDue (s : State) (f : Fld) (v : Bool) : (s.setBit f v).extDue = s.extDue := State.extDue_of_eq (by simp) (by simp)
@[simp] theorem State.inc_extDue (s : State) (f : Fld) : (s.inc f).extDue = s.extDue := State.extDue_of_eq (by simp) (by simp)
@[simp] theorem State.setFld64_extDue (s : State) (lo hi : Fld) (v : Nat) : (s.setFld64 lo hi v).extDue = s.extDue :=
  State.extDue_of_eq (by simp) (by simp)
@[simp] theorem State.draw_extDue (s : State) : s.draw.2.extDue = s.extDue := rfl
@[simp] theorem State.raiseShared_extDue (s : State) (n : Nat) : (s.raiseShared n).extDue = s.extDue := State.extDue_of_eq (by simp) (by simp)
@[simp] theorem State.raisePrivate_extDue (s : State) (t n : Nat) : (s.raisePrivate t n).extDue = s.extDue := State.extDue_of_eq (by simp) (by simp)
@[simp] theorem State.reportCode_extDue (s : State) (code id : Nat) (addr : Option Nat) (detail : Nat) :
    (s.reportCode code id addr detail).extDue = s.extDue := State.extDue_of_eq (by simp) (by simp)

@[simp] theorem State.bndCount_extDue (s : State) (b : Nat) (c : BCnt) : (s.bndCount b c).extDue = s.extDue := by
  cases c <;> simp [State.bndCount]

@[simp] theorem State.bindFault_extDue (s : State) (b code parcel dpa detail : Nat) (c : BCnt) :
    (s.bindFault b code parcel dpa detail c).extDue = s.extDue := by
  simp [State.bindFault, apply_ite State.extDue]

@[simp] theorem State.recordVio_extDue (s : State) (g i : Nat) (k : GKind) (start len ofs : Nat) (l : Bool) :
    (s.recordVio g i k start len ofs l).extDue = s.extDue := by
  simp [State.recordVio, apply_ite State.extDue]

@[simp] theorem State.gateCheck_extDue (s : State) (g i : Nat) (k : GKind) (start len : Nat) : (s.gateCheck g i k start len).2.extDue = s.extDue := by
  unfold State.gateCheck
  split <;> simp

@[simp] theorem State.page_extDue (s : State) (b : Nat) (f : BndPage → BndPage) : (s.page b f).extDue = s.extDue := rfl
@[simp] theorem State.tally_extDue (s : State) (u ev n : Nat) : (s.tally u ev n).extDue = s.extDue := rfl

/-! ### The crossbar -/

@[simp] theorem State.discarded_extDue (s : State) (p : Nat) : (s.discarded p).extDue = s.extDue := s.inc_extDue _
@[simp] theorem State.answered_extDue (s : State) (p : Nat) : (s.answered p).extDue = s.extDue := s.inc_extDue _
@[simp] theorem State.push_extDue (s : State) (m : Msg) : (s.push m).extDue = s.extDue := rfl

@[simp] theorem State.sendQuiet_extDue (s : State) (m : Msg) : (s.sendQuiet m).extDue = s.extDue := by
  simp [State.sendQuiet, apply_ite State.extDue]

@[simp] theorem State.lossCounted_extDue (s : State) (m : Msg) : (s.lossCounted m).extDue = s.extDue := by
  unfold State.lossCounted
  split
  · cases m.bnd <;> simp
  · rfl

@[simp] theorem State.bounce_extDue (s : State) (m : Msg) : (s.bounce m).extDue = s.extDue := by
  unfold State.bounce
  cases answerTo m with
  | some a => simp
  | none => cases m.kind <;> simp

@[simp] theorem State.send_extDue (s : State) (m : Msg) : (s.send m).extDue = s.extDue := by
  simp [State.send, apply_ite State.extDue]

/-! ### The directory and the cache of a home slice -/

@[simp] theorem State.moveWrite_extDue (s : State) (line : Nat) : (s.moveWrite line).extDue = s.extDue := by
  unfold State.moveWrite
  cases s.moveOfLine line <;> rfl

@[simp] theorem State.setDir_extDue (s : State) (line : Nat) (e : Option DirEnt) : (s.setDir line e).extDue = s.extDue := by
  cases e <;> rfl

@[simp] theorem State.poisonLine_extDue (s : State) (line : Nat) : (s.poisonLine line).extDue = s.extDue := by
  unfold State.poisonLine
  split <;> simp

@[simp] theorem State.rename_extDue (s : State) (line sharers : Nat) (excl : Bool) : (s.rename line sharers excl).extDue = s.extDue := by
  unfold State.rename
  cases s.dirOf line <;> simp

@[simp] theorem State.dropBit_extDue (s : State) (line k : Nat) : (s.dropBit line k).extDue = s.extDue := by
  unfold State.dropBit
  cases s.dirOf line <;> simp

@[simp] theorem State.freeEmpty_extDue (s : State) (line : Nat) : (s.freeEmpty line).extDue = s.extDue := by
  unfold State.freeEmpty
  cases s.dirOf line <;> simp [apply_ite State.extDue]

@[simp] theorem State.purge_extDue (s : State) (line k : Nat) : (s.purge line k).extDue = s.extDue := by
  unfold State.purge
  cases s.dirOf line <;> simp [apply_ite State.extDue]

@[simp] theorem State.purgeDead_extDue (s : State) (line : Nat) : (s.purgeDead line).extDue = s.extDue := by
  unfold State.purgeDead
  cases s.dirOf line with
  | none => rfl
  | some e => exact foldl_extDue (fun s k => s.purge_extDue line k) _ s

@[simp] theorem State.touchWay_extDue (s : State) (line way : Nat) : (s.touchWay line way).extDue = s.extDue := rfl

@[simp] theorem State.takeWay_extDue (s : State) (line way : Nat) : (s.takeWay line way).extDue = s.extDue := by
  unfold State.takeWay
  cases s.dirOf line <;> simp

@[simp] theorem State.cacheIn_extDue (s : State) (line : Nat) : (s.cacheIn line).extDue = s.extDue := by
  unfold State.cacheIn
  cases s.dirOf line with
  | none => rfl
  | some e =>
    simp only
    split
    · simp
    · split
      · simp
      · split
        · split <;> simp
        · rfl

theorem State.writeDir_extDue {s t : State} {line sharers : Nat} {excl : Bool} {w : Option Nat} (h : s.writeDir line sharers excl w = some t) :
    t.extDue = s.extDue := by
  unfold State.writeDir at h
  split at h
  · obtain rfl := Option.some.inj h
    simp [apply_ite State.extDue]
  · split at h
    · rw [Option.some.inj h]
    · split at h
      · obtain rfl := Option.some.inj h
        simp
      · exact absurd h (by simp)

@[simp] theorem State.dirtyMask_extDue (s : State) (line : Nat) : (s.dirtyMask line).extDue = s.extDue := rfl

@[simp] theorem State.maskError_extDue (s : State) (line : Nat) : (s.maskError line).extDue = s.extDue := by
  simp [State.maskError]

@[simp] theorem State.malformed_extDue (s : State) (b : Bool) : (s.malformed b).extDue = s.extDue := by
  simp [State.malformed, apply_ite State.extDue]

@[simp] theorem State.dirMiss_extDue (s : State) (sl : Nat) : (s.dirMiss sl).extDue = s.extDue := by
  simp [State.dirMiss]

@[simp] theorem State.dirError_extDue (s : State) (line : Nat) (err : DirErr) : (s.dirError line err).2.extDue = s.extDue := by
  unfold State.dirError
  cases s.dirOf line with
  | none => simp [apply_ite State.extDue]
  | some e =>
    simp only
    split
    · simp [apply_ite State.extDue]
    · cases err <;> simp [apply_ite Prod.snd, apply_ite State.extDue]

/-! ### The transaction entries of a home slice -/

@[simp] theorem State.putTt_extDue (s : State) (sl : Nat) (t : Tt) : (s.putTt sl t).extDue = s.extDue := rfl
@[simp] theorem State.delTt_extDue (s : State) (sl id : Nat) : (s.delTt sl id).extDue = s.extDue := rfl
@[simp] theorem State.addTt_extDue (s : State) (sl line : Nat) (w : TtWork) : (s.addTt sl line w).2.extDue = s.extDue := rfl

@[simp] theorem State.drainTt_extDue (k : Nat) (s : State) (x : Nat × Tt) : (State.drainTt k s x).extDue = s.extDue := by
  simp [State.drainTt, apply_ite State.extDue]

@[simp] theorem State.drainSlot_extDue (s : State) (k : Nat) (tmo : Bool) : (s.drainSlot k tmo).extDue = s.extDue := by
  unfold State.drainSlot
  split
  · rfl
  · rw [foldl_extDue (State.drainTt_extDue k)]
    simp [apply_ite State.extDue]

@[simp] theorem State.countSnoop_extDue (s : State) (sl line port : Nat) : (s.countSnoop sl line port).extDue = s.extDue := by
  unfold State.countSnoop
  dsimp only
  split <;> simp

@[simp] theorem State.snoop_extDue (s : State) (sl line k kind : Nat) : (s.snoop sl line k kind).2.extDue = s.extDue := by
  unfold State.snoop
  split
  · simp
  · dsimp only
    split <;> simp [apply_ite State.extDue]

@[simp] theorem State.snoopAll_extDue (s : State) (sl line kind : Nat) (l : List Nat) : (s.snoopAll sl line kind l).2.extDue = s.extDue := by
  unfold State.snoopAll
  refine foldl_snd_extDue ?_ l _
  intro a k
  exact a.2.snoop_extDue sl line k kind

@[simp] theorem State.snoopFor_extDue (s : State) (sl id line kind : Nat) (l : List Nat) : (s.snoopFor sl id line kind l).extDue = s.extDue := by
  unfold State.snoopFor
  dsimp only
  split <;> simp

@[simp] theorem State.backInvalidate_extDue (s : State) (sl : Nat) (t : Tt) : (s.backInvalidate sl t).extDue = s.extDue := by
  simp [State.backInvalidate]

theorem State.openEviction_extDue {s t : State} {sl line : Nat} (h : s.openEviction sl line = some t) : t.extDue = s.extDue := by
  unfold State.openEviction at h
  split at h
  · exact absurd h (by simp)
  · split at h
    · exact absurd h (by simp)
    · obtain ⟨u, -, rfl⟩ := Option.map_eq_some_iff.1 h
      simp

@[simp] theorem State.awaitWay_extDue (s : State) (sl : Nat) (t : Tt) : (s.awaitWay sl t).extDue = s.extDue := by
  unfold State.awaitWay
  dsimp only
  split
  · cases h : State.openEviction _ _ _ with
    | none => simp
    | some u => simpa using State.openEviction_extDue h
  · simp

@[simp] theorem State.respond_extDue (s : State) (r : HReq) (k : MsgKind) (d : Nat) (p : Bool) : (s.respond r k d p).2.extDue = s.extDue := by
  simp [State.respond]

@[simp] theorem State.unserved_extDue (s : State) (r : HReq) : (s.unserved r).extDue = s.extDue := by
  unfold State.unserved
  cases answerTo (hreqMsg r) <;> simp

@[simp] theorem State.process_extDue (s : State) (sl id : Nat) : (s.process sl id).extDue = s.extDue := by
  unfold State.process
  split
  · rfl
  · dsimp only
    split
    · split
      · simp
      · split
        · simp
        · split
          · simp [apply_ite State.extDue]
          · simp
    · simp
    · simp
    · rfl

@[simp] theorem State.complete_extDue (s : State) (t : Tt) (r : HReq) : (s.complete t r).2.extDue = s.extDue := by
  unfold State.complete
  dsimp only
  split <;> simp

theorem State.finishReq_extDue {s u : State} {sl : Nat} {t : Tt} {r : HReq} (h : s.finishReq sl t r = some u) : u.extDue = s.extDue := by
  unfold State.finishReq at h
  split at h
  · obtain rfl := Option.some.inj h
    simp
  · dsimp only at h
    split at h
    · exact absurd h (by simp)
    next s1 hdir =>
      have hs1 := State.writeDir_extDue hdir
      obtain rfl := Option.some.inj h
      cases t.biAck <;> simp [hs1]

theorem State.finishOrWait_extDue {s u : State} {sl : Nat} {t : Tt} {r : HReq} (h : s.finishOrWait sl t r = some u) : u.extDue = s.extDue := by
  unfold State.finishOrWait at h
  split at h
  next s1 hdone =>
    obtain rfl := Option.some.inj h
    exact State.finishReq_extDue hdone
  next =>
    split at h
    · exact absurd h (by simp)
    · obtain rfl := Option.some.inj h
      simp

@[simp] theorem State.activate_extDue (s : State) (sl id : Nat) : (s.activate sl id).extDue = s.extDue := by
  unfold State.activate
  split
  · rfl
  · simp [apply_ite State.extDue]

/-! ### The metadata of Sealed lines -/

@[simp] theorem State.metaAccess_extDue (s : State) (k : GKind) (r : Region) (level i : Nat) : (s.metaAccess k r level i).2.extDue = s.extDue := by
  unfold State.metaAccess
  split
  · rfl
  · simp [apply_ite Prod.snd, apply_ite State.extDue]

@[simp] theorem State.fetchMacs_extDue (s : State) (km : Nat) (a : LineAt) (f : Fetched) : (s.fetchMacs km a f).2.extDue = s.extDue := by
  refine foldl_snd_extDue ?_ _ _
  intro x b
  dsimp only
  split
  · rfl
  · simp [apply_ite Prod.snd, apply_ite State.extDue]

@[simp] theorem State.setMacRun_extDue (s : State) (g i : Nat) (m : MacRun) : (s.setMacRun g i m).extDue = s.extDue := rfl
@[simp] theorem State.setLeaf_extDue (s : State) (a : LineAt) (l : Leaf) : (s.setLeaf a l).extDue = s.extDue := rfl

@[simp] theorem State.putMac_extDue (s : State) (km : Nat) (a : LineAt) (v : Nat) (f : Fetched) : (s.putMac km a v f).extDue = s.extDue := by
  simp [State.putMac]

@[simp] theorem State.tellRegion_extDue (s : State) (g : Nat) : (s.tellRegion g).extDue = s.extDue :=
  foldl_extDue (fun s _ => s.raisePrivate_extDue _ 9) _ s

@[simp] theorem State.integFail_extDue (s : State) (a : LineAt) (level : Nat) : (s.integFail a level).extDue = s.extDue := by
  simp [State.integFail, apply_ite State.extDue]

@[simp] theorem State.modEntry_extDue (s : State) (level g i : Nat) (f : Leaf → Leaf) (h : TNode → TNode) :
    (s.modEntry level g i f h).extDue = s.extDue := by
  unfold State.modEntry
  split <;> rfl

@[simp] theorem State.fillEntry_extDue (s : State) (level g i b : Nat) : (s.fillEntry level g i b).extDue = s.extDue :=
  s.modEntry_extDue _ _ _ _ _

@[simp] theorem State.verifyEntry_extDue (s : State) (km g : Nat) (r : Region) (level i : Nat) (f : Fetched) :
    (s.verifyEntry km g r level i f).2.extDue = s.extDue := by
  simp [State.verifyEntry, apply_ite Prod.snd, apply_ite State.extDue]

@[simp] theorem State.checkLevels_extDue (s : State) (km g : Nat) (r : Region) (level i : Nat) (f : Fetched) (l : List Nat) :
    (s.checkLevels km g r level i f l).2.extDue = s.extDue := by
  induction l generalizing s with
  | nil => rfl
  | cons k l ih => simp [State.checkLevels, apply_ite Prod.snd, apply_ite State.extDue, ih]

@[simp] theorem State.checkPath_extDue (s : State) (km g : Nat) (r : Region) (level i : Nat) (f : Fetched) (above : Bool) :
    (s.checkPath km g r level i f above).2.extDue = s.extDue := State.checkLevels_extDue _ _ _ _ _ _ _ _

/-- The state that the sealing of a line leaves, where it comes to one. -/
def LineOut.left : LineOut → Option State
  | .noKey => none
  | .failed t => some t
  | .overflow t => some t
  | .write _ t => some t

theorem State.sealLine_extDue {s t : State} {a : LineAt} {data : Nat} {f : Fetched} (h : (s.sealLine a data f).left = some t) : t.extDue = s.extDue := by
  unfold State.sealLine at h
  split at h
  · exact absurd h (by simp [LineOut.left])
  · split at h
    · rw [Option.some.inj h]
    · exact absurd h (by simp [LineOut.left])
  · split at h
    · rw [Option.some.inj h]
    · dsimp only at h
      split at h
      · obtain rfl := Option.some.inj h
        simp
      · split at h
        · split at h
          · obtain rfl := Option.some.inj h
            simp
          · obtain rfl := Option.some.inj h
            simp
        · obtain rfl := Option.some.inj h
          simp

theorem State.openRemac_extDue {s t : State} {sl bnd line pool ad : Nat} (h : s.openRemac sl bnd line pool ad = some t) : t.extDue = s.extDue := by
  unfold State.openRemac at h
  split at h
  · exact absurd h (by simp)
  · obtain ⟨u, -, rfl⟩ := Option.map_eq_some_iff.1 h
    dsimp only
    rw [foldl_extDue fun s i => s.send_extDue _]
    simp

/-! ### Lines written to and read from a pool -/

@[simp] theorem State.logWrite_extDue (s : State) (b dpa : Nat) : (s.logWrite b dpa).extDue = s.extDue := by
  simp [State.logWrite, apply_ite State.extDue]

@[simp] theorem State.addHeat_extDue (s : State) (pool ppi n : Nat) : (s.addHeat pool ppi n).extDue = s.extDue := rfl

@[simp] theorem State.sample_extDue (s : State) (sl pool ppi : Nat) : (s.sample sl pool ppi).extDue = s.extDue := by
  simp [State.sample, apply_ite State.extDue]

@[simp] theorem State.writeLine_extDue (s : State) (sl tag bnd dpa line data : Nat) (poison host : Bool) (ent : TtEntry) (f : Fetched) :
    (s.writeLine sl tag bnd dpa line data poison host ent f).2.extDue = s.extDue := by
  unfold State.writeLine
  split
  · simp
  · split
    · simp
    · split
      · simp
      next hseal => simpa using State.sealLine_extDue (congrArg LineOut.left hseal)
      next t hseal =>
        have ht := State.sealLine_extDue (congrArg LineOut.left hseal)
        cases hopen : t.openRemac sl bnd line _ _ with
        | none => exact ht
        | some u => exact (State.openRemac_extDue hopen).trans ht
      next hseal => simpa [apply_ite State.extDue] using State.sealLine_extDue (congrArg LineOut.left hseal)

@[simp] theorem State.issueWrite_extDue (s : State) (sl : Nat) (t : Tt) (r : HReq) : (s.issueWrite sl t r).extDue = s.extDue := by
  unfold State.issueWrite
  split
  · simp
  · dsimp only
    split <;> simp

@[simp] theorem State.issueRead_extDue (s : State) (sl : Nat) (t : Tt) (r : HReq) : (s.issueRead sl t r).extDue = s.extDue := by
  unfold State.issueRead
  split
  · simp
  · split
    · simp
    · split <;> simp [apply_ite State.extDue]

/-! ### The work of a home slice -/

/-- What an entry of a request does next: it reads or writes its line, or it ends. -/
def State.tryReq (s : State) (sl : Nat) (t : Tt) (r : HReq) : Option State :=
  if hkReads r.kind then
    if t.stage = 0 ∧ ! t.hold then some (s.issueRead sl t r)
    else if t.quiet && t.data.isSome then s.finishOrWait sl t r
    else none
  else if r.kind = .own then (if t.quiet then s.finishOrWait sl t r else none)
  else if t.waitSnp.isEmpty && t.stage == 0 && ! t.hold then some (s.issueWrite sl t r)
  else if t.quiet && t.stage == 2 then s.finishReq sl t r
  else none

theorem State.tryReq_extDue {s u : State} {sl : Nat} {t : Tt} {r : HReq} (h : s.tryReq sl t r = some u) : u.extDue = s.extDue := by
  unfold State.tryReq at h
  split at h
  · split at h
    · obtain rfl := Option.some.inj h
      simp
    · exact State.finishOrWait_extDue (Option.ite_none_right_eq_some.1 h).2
  · split at h
    · exact State.finishOrWait_extDue (Option.ite_none_right_eq_some.1 h).2
    · split at h
      · obtain rfl := Option.some.inj h
        simp
      · exact State.finishReq_extDue (Option.ite_none_right_eq_some.1 h).2

theorem State.tryTt_extDue {s u : State} {sl : Nat} {t : Tt} (h : s.tryTt sl t = some u) : u.extDue = s.extDue := by
  unfold State.tryTt at h
  split at h
  case h_1 =>
    split at h
    · obtain ⟨-, hu⟩ := Option.ite_none_right_eq_some.1 h
      obtain rfl := Option.some.inj hu
      simp
    · exact absurd h (by simp)
  case h_2 => exact absurd h (by simp)
  case h_3 =>
    split at h
    case h_1 =>
      obtain ⟨-, hu⟩ := Option.ite_none_left_eq_some.1 h
      obtain rfl := Option.some.inj hu
      simp
    case h_2 =>
      obtain ⟨-, hu⟩ := Option.ite_none_right_eq_some.1 h
      obtain rfl := Option.some.inj hu
      simp
    case h_3 =>
      obtain ⟨-, hu⟩ := Option.ite_none_right_eq_some.1 h
      obtain rfl := Option.some.inj hu
      simp
    case h_4 => exact State.tryReq_extDue h

theorem State.tryEvict_extDue {s u : State} {sl : Nat} (h : s.tryEvict sl = some u) : u.extDue = s.extDue := by
  obtain ⟨t, -, ht⟩ := List.exists_of_findSome?_eq_some h
  split at ht
  · exact State.openEviction_extDue ht
  · exact absurd ht (by simp)

@[simp] theorem State.takeEntry_extDue (s : State) (sl : Nat) (q : Retry) : (s.takeEntry sl q).2.extDue = s.extDue := by
  unfold State.takeEntry
  dsimp only
  split <;> simp [apply_ite State.extDue]

theorem State.tryRetry_extDue {s u : State} {sl : Nat} (h : s.tryRetry sl = some u) : u.extDue = s.extDue := by
  unfold State.tryRetry at h
  split at h
  · exact absurd h (by simp)
  · split at h
    · exact absurd h (by simp)
    · obtain rfl := Option.some.inj h
      simp

@[simp] theorem State.settle_extDue (s : State) (sl fuel : Nat) : (s.settle sl fuel).extDue = s.extDue := by
  induction fuel generalizing s with
  | zero => rfl
  | succ fuel ih =>
    unfold State.settle
    dsimp only
    split
    next u hu =>
      obtain ⟨t, -, ht⟩ := List.exists_of_findSome?_eq_some hu
      rw [ih, State.tryTt_extDue ht]
    next =>
      split
      next u hu =>
        rw [ih]
        cases hevict : s.tryEvict sl with
        | some v =>
          rw [hevict] at hu
          rw [← Option.some.inj hu, State.tryEvict_extDue hevict]
        | none =>
          rw [hevict] at hu
          exact State.tryRetry_extDue hu
      next => rfl

@[simp] theorem State.run_extDue (s : State) (sl : Nat) : (s.run sl).extDue = s.extDue := by
  simp [State.run, apply_ite State.extDue]

@[simp] theorem State.runAll_extDue (s : State) : s.runAll.extDue = s.extDue := foldl_extDue State.run_extDue _ s

@[simp] theorem State.sweepRange_extDue (s : State) (b : Nat) (e : Extent) : (s.sweepRange b e).extDue = s.extDue := by
  unfold State.sweepRange
  split
  · rfl
  · rw [State.runAll_extDue, foldl_extDue]
    intro s line
    dsimp only
    split
    · rfl
    · split
      · simp
      · split <;> simp

end Sys2Proof.Machine
end

section
/-! Proofs of the family 07_bindings, fifth part: releasing extents (O24). -/
namespace Sys2Proof.Machine
open Sys2Proof

@[simp] theorem State.entered_extentOf (s : State) (rq : Rq) (b dpa : Nat) : (s.entered rq).extentOf b dpa = s.extentOf b dpa := by
  rw [State.entered_eq]
  rfl

theorem Extent.withRel_dpa (e : Extent) (h : Nat) : (e.withRel h).dpa = e.dpa := by
  unfold Extent.withRel
  split <;> rfl

theorem Extent.withRel_of_none {e : Extent} (hrel : e.rel = none) (h : Nat) : e.withRel h = { e with rel := some h } := by
  unfold Extent.withRel
  rw [hrel]

/-! ### A release (R148) -/

/-- The removal of an extent, due at the Daybreak of R36. -/
def State.removalDue (s : State) (b dpa : Nat) (h : Option Nat) : Due := Due.mk s.effFrame false false false h none (.extOut b dpa)

/-- The extent of a release whose range needs no sweep. -/
def Extent.released (e : Extent) (h : Option Nat) : Extent := { e with st := .releasing, rel := h, swept := true }

/-- A release of an HDM-H binding's extent has its removal due at once. -/
theorem State.startRelease_of_hdmH {s : State} {b : Nat} (hh : s.hdmH b = true) (e : Extent) (h : Option Nat) :
    ∃ m, s.startRelease b e h = { ((s.putExtent b { e with st := .releasing, rel := h, swept := false }).putExtent b (e.released h)) with
      oxb.moves := m, due := s.due ++ [s.removalDue b e.dpa h] } := by
  obtain ⟨m, hm⟩ := (s.putExtent b { e with st := .releasing, rel := h, swept := false }).abortRange_eq b e
  refine ⟨m, ?_⟩
  unfold State.startRelease
  simp only [hh, Bool.true_or, if_true, hm]
  rfl

theorem State.extentOf_startRelease {s : State} {b dpa : Nat} {e x : Extent} (hh : s.hdmH b = true) (he : s.extentOf b dpa = some x) (hdpa : e.dpa = dpa)
    (h : Option Nat) : (s.startRelease b e h).extentOf b dpa = some (e.released h) ∧ (s.startRelease b e h).due = s.due ++ [s.removalDue b dpa h] ∧
      (s.startRelease b e h).bnd.tt = s.bnd.tt := by
  obtain ⟨m, hm⟩ := State.startRelease_of_hdmH hh e h
  rw [hm]
  refine ⟨?_, by rw [hdpa], rfl⟩
  exact State.extentOf_putExtent (x := e.released h) (State.extentOf_putExtent (x := { e with st := .releasing, rel := h, swept := false }) he hdpa) hdpa

theorem State.forceRelease_of_accepted (s : State) (b : Nat) {e : Extent} (hst : e.st = .accepted) :
    s.forceRelease b e = (s.startRelease b e e.rel).emit (.forcedRemoval b e.dpa) := if_pos hst

/-! ### EXTENT_RELEASE -/

/-- The handle of the long command that a served EXTENT_RELEASE begins, and the state in which it has begun. -/
def State.releaseLc (s : State) (rq : Rq) (p : Principal) : Nat × State :=
  (s.entered rq).lcStart 0x0404 (rqRef rq 0x0404) p (routeTargetOf rq.route rq.carrier)

/-- What an accepted EXTENT_RELEASE leaves, before it is answered. -/
def State.releaseBegun (s : State) (rq : Rq) (p : Principal) (b dpa f : Nat) (e : Extent) : State :=
  let c := s.releaseLc rq p
  if f = 1 ∨ e.st = .offered then c.2.forceRelease b (e.withRel c.1) else (c.2.putExtent b (e.withRel c.1)).emit (.capacity b dpa false)

theorem exec_extentRelease_begins {s : State} {rq : Rq} {p : Principal} {b dpa f : Nat} {e : Extent} (hs : s.serves rq 0x0404 p = true) (hb : b < 4096)
    (hf : f ≤ 1) (he : s.extentOf b dpa = some e) (hst : e.st = .accepted ∨ e.st = .offered) (hslots : s.lcSlots ≠ []) :
    ∃ m, exec (.extentRelease rq b dpa f) s = .next { s.keepClock (s.releaseBegun rq p b dpa f e) with
      out := s.sentReply rq 0x0404 { status := .inProgress, frame := s.effFrame, data := [(2, (s.releaseLc rq p).1)] } (s.releaseBegun rq p b dpa f e).out,
      mbx.sess := m, pending := s.pending } := by
  refine done_entered hs _ _ (a := (s.releaseBegun rq p b dpa f e).long s.effFrame (s.releaseLc rq p).1) ?_ rfl
  have hrange : ¬ (4096 ≤ b ∨ 1 < f) := by omega
  have hopen : relRefusal (some e) = none := if_neg (by rcases hst with h | h <;> simp [h])
  simp only [State.entered_extentOf, State.entered_lcSlots, State.entered_effFrame, he, hopen, if_neg hrange, if_neg hslots]
  unfold State.releaseBegun
  split
  · rfl
  · rfl

theorem exec_extentRelease_busy {s : State} {rq : Rq} {p : Principal} {b dpa f : Nat} {e : Extent} (hs : s.serves rq 0x0404 p = true) (hb : b < 4096)
    (he : s.extentOf b dpa = some e) (hst : e.st = .preparing ∨ e.st = .releasing) (hf : f ≤ 1) :
    ∃ t, exec (.extentRelease rq b dpa f) s = .next t ∧ s.turnsAway t rq 0x0404 .busy := by
  refine done_refuses hs _ _ ?_
  have hrange : ¬ (4096 ≤ b ∨ 1 < f) := by omega
  have hbusy : relRefusal (some e) = some .busy := if_pos hst
  simp only [State.entered_extentOf, he, hbusy, if_neg hrange]

/-- An unforced release of an accepted extent asks the host, and changes nothing but its long command and its mark on the extent. -/
theorem exec_extentRelease_asks {s : State} {rq : Rq} {p : Principal} {b dpa : Nat} {e : Extent} (hs : s.serves rq 0x0404 p = true) (hb : b < 4096)
    (he : s.extentOf b dpa = some e) (hst : e.st = .accepted) (hslots : s.lcSlots ≠ []) :
    ∃ t h, exec (.extentRelease rq b dpa 0) s = .next t ∧ t.replied rq 0x0404 .inProgress s.effFrame [(2, h)] ∧ .capacity b dpa false ∈ t.out ∧
      t.extentOf b dpa = some (e.withRel h) ∧ t = { s with out := t.out, mbx := t.mbx, fresh := t.fresh, bnd.ext := t.bnd.ext } := by
  obtain ⟨m, hm⟩ := exec_extentRelease_begins hs hb (f := 0) (by omega) he (.inl hst) hslots
  have hbegun : s.releaseBegun rq p b dpa 0 e = ((s.releaseLc rq p).2.putExtent b (e.withRel (s.releaseLc rq p).1)).emit (.capacity b dpa false) :=
    if_neg (by simp [hst])
  rw [hbegun] at hm
  refine ⟨_, (s.releaseLc rq p).1, hm, rfl, List.mem_cons_of_mem _ (List.mem_append_right _ List.mem_cons_self), ?_, ?_⟩
  · refine State.extentOf_putExtent (s := (s.releaseLc rq p).2) (e := e) ?_ ((e.withRel_dpa _).trans (State.extentOf_dpa he))
    exact (State.extentOf_congr (by simp [State.releaseLc]) b dpa).trans he
  · unfold State.releaseLc
    rw [State.entered_eq]
    rfl

/-- A forced release on an HDM-H binding has the removal due at once, and tells the host. -/
theorem exec_extentRelease_forces {s : State} {rq : Rq} {p : Principal} {b dpa : Nat} {e : Extent} (hs : s.serves rq 0x0404 p = true) (hb : b < 4096)
    (he : s.extentOf b dpa = some e) (hst : e.st = .accepted) (hrel : e.rel = none) (hslots : s.lcSlots ≠ []) (hh : s.hdmH b = true) :
    ∃ t h, exec (.extentRelease rq b dpa 1) s = .next t ∧ t.replied rq 0x0404 .inProgress s.effFrame [(2, h)] ∧
      t.extentOf b dpa = some { e with st := .releasing, rel := some h, swept := true } ∧ .forcedRemoval b dpa ∈ t.out ∧
      t.due = s.due ++ [Due.mk s.effFrame false false false (some h) none (.extOut b dpa)] ∧ t.bnd.tt = s.bnd.tt := by
  obtain ⟨m, hm⟩ := exec_extentRelease_begins hs hb (f := 1) (by omega) he (.inl hst) hslots
  obtain ⟨h, hh'⟩ : ∃ h, (s.releaseLc rq p).1 = h := ⟨_, rfl⟩
  obtain rfl := State.extentOf_dpa he
  have hbegun : s.releaseBegun rq p b e.dpa 1 e =
      ((s.releaseLc rq p).2.startRelease b { e with rel := some h } (some h)).emit (.forcedRemoval b e.dpa) := by
    unfold State.releaseBegun
    dsimp only
    rw [if_pos (Or.inl rfl), hh', Extent.withRel_of_none hrel]
    exact State.forceRelease_of_accepted _ b hst
  have hhdm : (s.releaseLc rq p).2.hdmH b = true := by
    unfold State.releaseLc
    rw [State.entered_eq]
    exact hh
  have hold : (s.releaseLc rq p).2.extentOf b e.dpa = some e := (State.extentOf_congr (by simp [State.releaseLc]) b e.dpa).trans he
  obtain ⟨hext, hdue, htt⟩ := State.extentOf_startRelease hhdm hold (e := { e with rel := some h }) rfl (some h)
  rw [hbegun, hh'] at hm
  refine ⟨_, h, hm, rfl, hext, List.mem_cons_of_mem _ (List.mem_append_right _ List.mem_cons_self), hdue.trans ?_, htt.trans ?_⟩
  · unfold State.releaseLc
    rw [State.entered_eq]
    rfl
  · exact congrArg BndSt.tt (by simp [State.releaseLc])

/-! ### The host's release, and the sweep (R148) -/

theorem exec_releaseDynamicCapacity_begins {s : State} {b dpa : Nat} {e : Extent} (he : s.extentOf b dpa = some e) (hst : e.st = .accepted) :
    exec (.releaseDynamicCapacity b dpa) s = s.done ((s.startRelease b e e.rel).emit (.dcReply b dpa true)) := by
  refine congrArg s.done ?_
  simp only [he]
  exact if_pos hst

theorem exec_releaseDynamicCapacity_refuses {s : State} {b dpa : Nat} (h : ∀ e, s.extentOf b dpa = some e → e.st ≠ .accepted) :
    exec (.releaseDynamicCapacity b dpa) s = .next { s with out := .dcReply b dpa false :: s.out } := by
  refine Eq.trans (congrArg s.done ?_) (State.done_eq_next (u := s.emit (.dcReply b dpa false)) rfl rfl)
  cases he : s.extentOf b dpa with
  | none => rfl
  | some e => exact if_neg (h e he)

theorem State.sweepDone_idle {s : State} {b dpa : Nat} {e : Extent} (he : s.extentOf b dpa = some e) (hidle : e.st ≠ .releasing ∨ e.swept = true) :
    s.sweepDone b dpa = s := by
  unfold State.sweepDone
  simp only [he]
  exact if_pos hidle

theorem State.sweepDone_goes_on {s : State} {b dpa : Nat} {e : Extent} (he : s.extentOf b dpa = some e) (hst : e.st = .releasing) (hswept : e.swept = false)
    (hheld : s.heldLines b e ≠ []) : s.sweepDone b dpa = s.sweepRange b e := by
  have hopen : ¬ (e.st ≠ .releasing ∨ e.swept) := by simp [hst, hswept]
  unfold State.sweepDone
  simp only [he, if_neg hopen]
  exact if_pos (by simpa using hheld)

theorem State.sweepDone_ends {s : State} {b dpa : Nat} {e : Extent} (he : s.extentOf b dpa = some e) (hst : e.st = .releasing) (hswept : e.swept = false)
    (hheld : s.heldLines b e = []) :
    s.sweepDone b dpa = { s.putExtent b { e with swept := true } with due := s.due ++ [s.removalDue b dpa e.rel] } := by
  have hopen : ¬ (e.st ≠ .releasing ∨ e.swept) := by simp [hst, hswept]
  unfold State.sweepDone
  simp only [he, if_neg hopen, hheld]
  rfl

/-- Settles O24: a release is a long command that asks the host or, forced, takes the extent at the Daybreak; one in preparation or release is busy; and
a finished sweep has the removal due where no line is held, and else goes on. The home agent's part in it leaves the extents and the effects due alone. -/
theorem extentRelease : Obligations.ExtentRelease := by
  unfold Obligations.ExtentRelease
  refine ⟨fun _ _ _ _ _ _ => exec_extentRelease_asks, ?begins, fun _ _ _ _ _ _ => exec_extentRelease_forces,
    fun _ _ _ _ _ _ _ => exec_extentRelease_busy, ?host, fun _ _ _ => exec_releaseDynamicCapacity_refuses, ?swept, ?sweeping, ?idle⟩
  case begins =>
    intro s rq p b dpa f e hs hb he hst hslots hf
    obtain ⟨m, hm⟩ := exec_extentRelease_begins hs hb hf he hst hslots
    exact ⟨_, _, hm, rfl⟩
  case host =>
    intro s b dpa e he hst
    rw [exec_releaseDynamicCapacity_begins he hst]
    exact ⟨_, rfl, rfl, fun hh => State.extentOf_startRelease hh he (State.extentOf_dpa he) e.rel⟩
  case swept =>
    intro s b dpa e he hst hswept hheld
    have hdpa := State.extentOf_dpa he
    refine ⟨_, (congrArg s.done (State.sweepDone_ends he hst hswept hheld)).trans (State.done_eq_next rfl rfl), ?_, rfl⟩
    exact State.extentOf_putExtent (x := { e with swept := true }) he hdpa
  case sweeping =>
    intro s b dpa e he hst hswept hheld
    have hsweep : (s.sweepRange b e).extDue = s.extDue := s.sweepRange_extDue b e
    refine ⟨_, congrArg s.done (State.sweepDone_goes_on he hst hswept hheld), ?_, ?_⟩
    · exact congrArg Prod.fst hsweep
    · exact congrArg Prod.snd hsweep
  case idle =>
    intro s b dpa e he hidle
    exact (congrArg s.done (State.sweepDone_idle he hidle)).trans (State.done_eq_next rfl rfl)

end Sys2Proof.Machine
end

section
/-! Proofs of the family 07_bindings, sixth part: what events and faults leave alone of the registers of ports and bindings. -/
namespace Sys2Proof.Machine
open Sys2Proof

/-- Whether a field lies in the blocks of ports and bindings, apart from what a port counts of its dropped interrupts (R73). -/
structure Fld.OffEvents (f : Fld) : Prop where
  high : 0x1000000 ≤ f.addr
  count : ∀ t, (PRT_MF_DROP_MSI_DROP t).Apart f
  seen : ∀ t, (PRT_MF_STAT_DROP_SEEN t).Apart f

/-- A field of a word that is not one of those a port counts its dropped interrupts in, by its place in its block. -/
theorem Fld.OffEvents.of_addr {f : Fld} {a : Nat} (haddr : f.addr % 0x100 = a) (ha : a ≠ 0x24 ∧ a ≠ 0x28) (hhigh : 0x1000000 ≤ f.addr) :
    f.OffEvents where
  high := hhigh
  count t := .inl (by
    simp only [PRT_MF_DROP_MSI_DROP, PRT_MF_DROP]
    omega)
  seen t := .inl (by
    simp only [PRT_MF_STAT_DROP_SEEN, PRT_MF_STAT]
    omega)

/-- A state comes of another by events and faults: they leave the fields of ports and bindings, what is in force, Bus Master Enable and what has been sent
as they are. -/
structure State.Noted (s t : State) : Prop where
  fld : ∀ f : Fld, f.OffEvents → t.fld f = s.fld f
  force : t.force = s.force
  bme : ∀ p, (t.mf p).bme = (s.mf p).bme
  out : ∀ o ∈ s.out, o ∈ t.out

theorem State.Noted.of_eq {s t : State} (hregs : t.regs = s.regs) (hforce : t.force = s.force) (hmf : t.evt.mf = s.evt.mf) (hout : ∀ o ∈ s.out, o ∈ t.out) :
    s.Noted t where
  fld f _ := State.fld_congr hregs f
  force := hforce
  bme p := by
    unfold State.mf
    rw [hmf]
  out := hout

theorem State.Noted.refl (s : State) : s.Noted s := .of_eq rfl rfl rfl fun _ h => h

theorem State.Noted.trans {s t u : State} (h : s.Noted t) (g : t.Noted u) : s.Noted u where
  fld f hf := (g.fld f hf).trans (h.fld f hf)
  force := g.force.trans h.force
  bme p := (g.bme p).trans (h.bme p)
  out o ho := g.out o (h.out o ho)

theorem State.Noted.bit {s t : State} (h : s.Noted t) {f : Fld} (hf : f.OffEvents) : t.bit f = s.bit f := by
  unfold State.bit
  rw [h.fld f hf]

theorem State.noted_setFld (s : State) {f : Fld} (v : Nat) (h : ∀ g : Fld, g.OffEvents → f.Apart g) : s.Noted (s.setFld f v) where
  fld g hg := s.fld_setFld_of_apart v (h g hg)
  force := rfl
  bme _ := rfl
  out _ ho := ho

theorem State.noted_setFld_low (s : State) {f : Fld} (v : Nat) (h : f.addr < 0x1000000) : s.Noted (s.setFld f v) :=
  s.noted_setFld v fun _ hg => .inl (Nat.ne_of_lt (h.trans_le hg.high))

theorem State.noted_msiDropped (s : State) (t : Nat) : s.Noted (s.msiDropped t) := by
  unfold State.msiDropped
  split
  · exact (s.noted_setFld _ fun g hg => hg.count t).trans (State.noted_setFld _ _ fun g hg => hg.seen t)
  · exact .refl s

theorem State.noted_emit (s : State) (o : Out) : s.Noted (s.emit o) := .of_eq rfl rfl rfl fun _ h => List.mem_cons_of_mem _ h

theorem State.noted_setMf (s : State) (t : Nat) {m : Mf} (h : m.bme = (s.mf t).bme) : s.Noted (s.setMf t m) where
  fld _ _ := rfl
  force := rfl
  bme p := by
    unfold State.setMf State.mf
    by_cases hp : t = p
    · subst hp
      exact (congrArg Mf.bme (mgetD_mputD_same _ _ _ _)).trans h
    · exact congrArg Mf.bme (mgetD_mputD_ne _ _ _ hp)
  out _ ho := ho

theorem State.noted_refreshLevel (s : State) (t : Nat) : s.Noted (s.refreshLevel t) := by
  unfold State.refreshLevel
  split
  · dsimp only
    split
    · exact .refl s
    · refine State.Noted.trans ?_ (State.noted_emit _ _)
      exact s.noted_setMf t rfl
  · split
    · dsimp only
      split
      · exact .refl s
      · exact .of_eq rfl rfl rfl fun _ h => List.mem_cons_of_mem _ h
    · exact .refl s

theorem State.noted_signal (s : State) (t code : Nat) : s.Noted (s.signal t code) := by
  unfold State.signal
  split
  · dsimp only
    split
    · split
      · split
        · exact .refl s
        · split
          · exact s.noted_emit _
          · exact s.noted_msiDropped t
      · exact .refl s
    · exact s.noted_refreshLevel t
  · split
    · exact s.noted_refreshLevel 129
    · split
      · split
        · exact s.noted_emit _
        · exact .refl s
      · exact .refl s

theorem State.noted_raiseAt (s : State) {t code : Nat} (ht : t ≤ 131 ∨ 512 ≤ code) (hc : code < 64 ∨ (512 ≤ code ∧ code < 1024)) :
    s.Noted (s.raiseAt t code) := by
  have hset : s.Noted (s.setBit (pendFld t code) true) := s.noted_setFld_low _ (pendFld_low t code ht hc)
  simp only [State.raiseAt]
  split
  · exact hset.trans (State.noted_signal _ _ _)
  · exact hset

theorem State.noted_raisePrivate (s : State) (t : Nat) {n : Nat} (hn : n < 64) : s.Noted (s.raisePrivate t n) := by
  unfold State.raisePrivate
  split
  next hexists => exact s.noted_raiseAt (.inl (s.targetExists_le t hexists)) (.inl hn)
  next => exact .refl s

theorem State.noted_raiseShared (s : State) {n : Nat} (hn : n < 512) : s.Noted (s.raiseShared n) :=
  s.noted_raiseAt (.inr (Nat.le_add_right _ _)) (.inr ⟨Nat.le_add_right _ _, by unfold sharedCode; omega⟩)

/-! ### Faults (R375 to R377) -/

theorem State.noted_countFault (s : State) (c : FaultClass) : s.Noted (s.countFault c) := by
  cases c with
  | correctable => exact s.noted_setFld_low _ (by decide)
  | contained => exact s.noted_setFld_low _ (by decide)
  | uncontained => exact s.noted_setFld_low _ (by decide)

theorem State.noted_uncontain (s : State) (k : Nat) : s.Noted (s.uncontain k) := by
  refine .of_eq (by simp) (by simp) (by simp) fun o ho => ?_
  unfold State.uncontain
  split
  · exact ho
  · simpa using .inr ho

theorem State.noted_quarantineFor (s : State) (n : Nat) : s.Noted (s.quarantineFor n) := .of_eq (by simp) (by simp) (by simp) (by simp)

theorem State.noted_mergeFault (s : State) (k : Nat) (f : FltIn) : s.Noted (s.mergeFault k f) := by
  unfold State.mergeFault
  split
  · exact .refl s
  · dsimp only
    split
    · exact .of_eq rfl rfl rfl fun _ h => h
    · split
      · refine State.Noted.trans ?_ (State.noted_quarantineFor _ _)
        exact .of_eq rfl rfl rfl fun _ h => h
      · refine State.Noted.trans ?_ (State.noted_uncontain _ _)
        exact .of_eq rfl rfl rfl fun _ h => h

theorem State.noted_openFault (s : State) (k : Nat) (f : FltIn) : s.Noted (s.openFault k f) := by
  have hopen : ∀ u : State, s.Noted u → ∀ n, s.Noted ((u.setFld FLT_NEXT_NEXT n).raiseShared 297) := fun u hu n =>
    hu.trans ((u.noted_setFld_low n (by decide)).trans (State.noted_raiseShared _ (by decide)))
  unfold State.openFault
  dsimp only
  split
  · refine State.Noted.trans ?_ (State.noted_uncontain _ k)
    refine hopen _ ?_ _
    exact .of_eq rfl rfl rfl fun _ h => h
  · refine hopen _ ?_ _
    exact .of_eq rfl rfl rfl fun _ h => h

theorem State.noted_overflowFault (s : State) (f : FltIn) : s.Noted (s.overflowFault f) := by
  unfold State.overflowFault
  split
  · dsimp only
    split
    · exact s.noted_mergeFault 511 f
    · exact (s.noted_mergeFault 511 f).trans (State.noted_raiseShared _ (by decide))
  · exact s.noted_openFault _ _

theorem State.noted_report (s : State) (f : FltIn) : s.Noted (s.report f) := by
  have hcount := s.noted_countFault f.cls
  unfold State.report
  dsimp only
  split
  · exact hcount.trans (State.noted_mergeFault _ _ _)
  · split
    · exact hcount.trans (State.noted_overflowFault _ _)
    · split
      · exact hcount.trans (State.noted_openFault _ _ _)
      · exact hcount.trans ((State.noted_setFld_low _ _ (by decide)).trans (State.noted_overflowFault _ _))

theorem State.noted_reportCode (s : State) (code id : Nat) (addr : Option Nat) (detail : Nat) : s.Noted (s.reportCode code id addr detail) := by
  unfold State.reportCode
  split
  · exact s.noted_report _
  · exact .refl s

end Sys2Proof.Machine
end

section
/-! Proofs of the family 07_bindings, seventh part: binding resets and harvests as they are requested (O26). -/
namespace Sys2Proof.Machine
open Sys2Proof

/-! ### Writes of BND_RST and BND_HARV_CTL (R154, R156) -/

/-- A write of BND_RST stores its word and requests the reset. -/
theorem State.writeWord_BND_RST (s : State) {x : RegAcc} {n : Nat} (hwho : x.prin.isIn 11 = true) (hn : n < 4096) :
    ∃ r, s.writeWord x (BND_RST n) 1 = State.resetWrite { s with regs := r, latch := mdel s.latch (BND_RST n) } n := by
  obtain ⟨r, hr, -, -⟩ := writeWord_acts (s := s) (x := x) (w := 1) (lookupReg_BND_RST n hn) (fun _ => rfl) rfl (by decide) rfl (by simp)
  refine ⟨r, hr.trans ?_⟩
  have hact : getBit (s.mineMask ⟨.BND_RST, 0x2000098, [(4096, 0x100)], 0, [⟨0, 1, .w1s, false, false, false, 11⟩, ⟨16, 16, .ro, false, false, true, 43⟩],
      0x0, [], 0⟩ n x.prin (fun f => f.acc == .w1s || f.acc == .w1c) &&& 1) 0 = true := by
    simp [State.mineMask, RegDef.maskOf, fieldFor, fieldWho, hwho, fieldMask]
    rfl
  exact if_pos hact

/-- The definition of BND_HARV_CTL, as the register table has it. -/
def harvCtlDef : RegDef :=
  ⟨.BND_HARV_CTL, 0x2000060, [(4096, 0x100)], 0, [⟨0, 7, .rw, false, false, false, 3⟩, ⟨8, 1, .w1s, false, false, false, 3⟩], 0x0, [], 0⟩

theorem State.mineMask_harvCtlDef (s : State) {p : Principal} (hwho : p.isOF = true) (n : Nat) :
    s.mineMask harvCtlDef n p (fun f => f.acc == .rw && ! f.sh) = 0x7F#32 ∧ s.mineMask harvCtlDef n p (fun f => f.acc == .w1s || f.acc == .w1c) = 0x100#32 ∧
      s.mineMask harvCtlDef n p (fun f => f.acc == .w1c) = 0#32 := by
  have hlists : p.isIn 3 = true := hwho
  unfold State.mineMask
  simp [harvCtlDef, RegDef.maskOf, fieldFor, fieldWho, hlists, fieldMask]

/-- A write of BND_HARV_CTL with START stores the port, leaves every other register as it is, and starts the harvest. -/
theorem State.writeWord_BND_HARV_CTL (s : State) {x : RegAcc} {n : Nat} (hwho : x.prin.isOF = true) (hn : n < 4096) (w : Word) :
    ∃ r, s.writeWord x (BND_HARV_CTL n) (w ||| 0x100#32) = State.harvestStart { s with regs := r, latch := mdel s.latch (BND_HARV_CTL n) } n ∧
      (∀ a q, a ≠ BND_HARV_CTL n → rget r a q = rget s.regs a q) ∧ getBits (rget r (BND_HARV_CTL n) 0) 0 7 = getBits w 0 7 := by
  obtain ⟨r, hr, hother, hsame⟩ := writeWord_acts (s := s) (x := x) (w := w ||| 0x100#32) (d := harvCtlDef) (lookupReg_BND_HARV_CTL n hn) (fun _ => rfl) rfl
    (by decide) rfl (by simp [harvCtlDef])
  obtain ⟨hplain, hact, hclear⟩ := s.mineMask_harvCtlDef hwho n
  have hindex : [n].getD 0 0 = n := rfl
  have hreset : resetWord (BND_HARV_CTL n) = 0 := by
    unfold resetWord
    rw [lookupReg_BND_HARV_CTL n hn]
    rfl
  rw [hindex, hact] at hr
  rw [hindex, hplain, hclear, hreset] at hsame
  refine ⟨r, hr.trans ?_, hother, ?_⟩
  · have hstart : 0x100#32 &&& (w ||| 0x100#32) = 0x100#32 := by
      ext i
      simp only [BitVec.getElem_and, BitVec.getElem_or]
      cases (0x100#32)[i] <;> simp
    exact if_pos (by rw [hstart]; rfl)
  · have hlow : ∀ i < 7, (0x7F#32).getLsbD (0 + i) = true := by decide
    have hhigh : ∀ i < 7, (0x100#32).getLsbD (0 + i) = false := by decide
    have hstored : rget r (BND_HARV_CTL n) 0 =
        mix 0x7F#32 (s.word (BND_HARV_CTL n)) (mix 0x7F#32 (s.word (BND_HARV_CTL n)) (w ||| 0x100#32)) := by
      refine hsame.trans ?_
      rw [BitVec.zero_and, BitVec.not_zero, BitVec.and_allOnes]
      rfl
    rw [hstored, getBits_mix _ _ hlow, getBits_mix _ _ hlow, getBits_or _ hhigh]

theorem exec_bindingResetRequest {s : State} {b : Bus} {n : Nat} (ht : s.takesWrite b (BND_RST n) = true) (hwho : (s.busP b).isIn 11 = true)
    (hn : n < 4096) : ∃ r, exec (.bindingResetRequest b n) s = s.done (State.resetWrite { s with regs := r, latch := mdel s.latch (BND_RST n) } n) := by
  obtain ⟨r, hr⟩ := s.writeWord_BND_RST (x := s.busAcc b) hwho hn
  exact ⟨r, congrArg s.done ((busWrite_takes ht _ _).trans hr)⟩

theorem exec_bindingResetRequest_accepts {s : State} {b : Bus} {n : Nat} (ht : s.takesWrite b (BND_RST n) = true) (hwho : (s.busP b).isIn 11 = true)
    (hn : n < 4096) (hvalid : s.bndValid n = true) (hrst : mget s.bnd.rst n = none) :
    ∃ t, exec (.bindingResetRequest b n) s = .next t ∧ t.bnd = { s.bnd with rst := mput s.bnd.rst n false } ∧ t.refused = s.refused ∧ t.md = s.md ∧
      t.due = s.due := by
  obtain ⟨r, hr⟩ := exec_bindingResetRequest ht hwho hn
  have hreset : State.resetBinding { s with regs := r, latch := mdel s.latch (BND_RST n) } n =
      some { s with regs := r, latch := mdel s.latch (BND_RST n), bnd.rst := mput s.bnd.rst n false } := by
    have hplace : ¬ (4096 ≤ n ∨ ! s.bndValid n) := by simp [hn, hvalid]
    have hnone : ¬ (mget s.bnd.rst n).isSome = true := by simp [hrst]
    exact (if_neg hplace).trans (if_neg hnone)
  unfold State.resetWrite at hr
  rw [hreset] at hr
  exact ⟨_, hr, rfl, rfl, rfl, rfl⟩

theorem exec_bindingResetRequest_refuses {s : State} {b : Bus} {n : Nat} (ht : s.takesWrite b (BND_RST n) = true) (hwho : (s.busP b).isIn 11 = true)
    (hn : n < 4096) (hvalid : s.bndValid n = false) :
    ∃ t, exec (.bindingResetRequest b n) s = .next t ∧ t.bnd = s.bnd ∧ t.refused = s.refused + 1 := by
  obtain ⟨r, hr⟩ := exec_bindingResetRequest ht hwho hn
  have hreset : State.resetBinding { s with regs := r, latch := mdel s.latch (BND_RST n) } n = none := by
    have hplace : 4096 ≤ n ∨ (! s.bndValid n) = true := .inr (by simp [hvalid])
    exact if_pos hplace
  unfold State.resetWrite at hr
  rw [hreset] at hr
  exact ⟨_, hr, rfl, rfl⟩

/-! ### Opcode 0x0206, scope 0 -/

theorem State.resetBinding_of_valid {s : State} {n : Nat} (hn : n < 4096) (hvalid : s.bndValid n = true) (hrst : mget s.bnd.rst n = none) :
    s.resetBinding n = some { s with bnd.rst := mput s.bnd.rst n false } := by
  have hplace : ¬ (4096 ≤ n ∨ ! s.bndValid n) := by simp [hn, hvalid]
  have hnone : ¬ (mget s.bnd.rst n).isSome = true := by simp [hrst]
  exact (if_neg hplace).trans (if_neg hnone)

@[simp] theorem State.entered_dataOff (s : State) (rq : Rq) : (s.entered rq).dataOff = s.dataOff := by
  rw [State.entered_eq]
  rfl

@[simp] theorem State.entered_bndPort (s : State) (rq : Rq) (n : Nat) : (s.entered rq).bndPort n = s.bndPort n := by
  rw [State.entered_eq]
  rfl

@[simp] theorem State.entered_nextFrame (s : State) (rq : Rq) : (s.entered rq).nextFrame = s.nextFrame := by
  rw [State.entered_eq]
  rfl

theorem exec_resetBinding_accepts {s : State} {rq : Rq} {p : Principal} {n : Nat} (hs : s.serves rq 0x0206 p = true) (hdata : s.dataOff = false)
    (hn : n < 4096) (hvalid : s.bndValid n = true) (hport : ∀ h, p = .host h → s.bndPort n = h) (hrst : mget s.bnd.rst n = none) :
    ∃ t, exec (.resetBinding rq n) s = .next t ∧ t.replied rq 0x0206 .success s.nextFrame [] ∧
      t = { s with out := t.out, mbx.sess := t.mbx.sess, bnd.rst := mput s.bnd.rst n false } := by
  have hreset : (s.entered rq).resetBinding n = some { s.entered rq with bnd.rst := mput s.bnd.rst n false } := by
    simpa using State.resetBinding_of_valid (s := s.entered rq) hn (by simpa using hvalid) (by simpa using hrst)
  obtain ⟨u, hu⟩ : ∃ u : State, { s.entered rq with bnd.rst := mput s.bnd.rst n false } = u := ⟨_, rfl⟩
  obtain ⟨m, hm⟩ : ∃ m, exec (.resetBinding rq n) s = .next { s.keepClock u with
      out := s.sentReply rq 0x0206 { status := .success, frame := s.nextFrame, data := [] } u.out, mbx.sess := m, pending := s.pending } := by
    refine done_entered hs _ _ (a := u.okAt s.nextFrame) ?_ rfl
    simp only [State.entered_dataOff, State.entered_bndValid, State.entered_bndPort, State.entered_nextFrame, hdata, hreset, Bool.false_eq_true, if_false, hu]
    refine if_neg ?_
    cases p with
    | host h => simp [hport h rfl]
    | _ => exact Bool.false_ne_true
  refine ⟨_, hm, rfl, ?_⟩
  rw [← hu, State.entered_eq]
  rfl

/-! ### The start of a harvest (R156) -/

/-- Whether BND_HARV_CTL.START is refused for a port written: a harvest or a clearing is under way, logging is off, the port is not the binding's, or a
harvest is due. -/
def State.harvestBarred (s : State) (n port : Nat) : Prop :=
  s.bit (BND_HARV_STAT_BUSY n) = true ∨ s.bit (BND_HARV_STAT_CLEARING n) = true ∨ s.curBit (BND_LOG_CTL_EN n) = false ∨ port ≠ s.bndPort n ∨
    s.bnd.harvDue.contains n = true

/-- A write of START stores the port, reads every other register as it was, and is refused or has the harvest due. -/
theorem exec_harvestStart_writes {s : State} {b : Bus} {n : Nat} {w : Word} (ht : s.takesWrite b (BND_HARV_CTL n) = true) (hwho : (s.busP b).isOF = true)
    (hn : n < 4096) : ∃ u : State, exec (.harvestStart b n w) s = s.done (u.harvestStart n) ∧ u.bnd = s.bnd ∧ u.md = s.md ∧ u.due = s.due ∧
      u.fld (BND_HARV_CTL_PORT n) = getBits w 0 7 ∧ u.fld (BND_HARV_ADDR_LO_ADDR n) = s.fld (BND_HARV_ADDR_LO_ADDR n) ∧
      u.fld (BND_HARV_ADDR_HI_ADDR n) = s.fld (BND_HARV_ADDR_HI_ADDR n) ∧ (u.harvestBarred n (getBits w 0 7) ↔ s.harvestBarred n (getBits w 0 7)) := by
  obtain ⟨r, hr, hother, hport⟩ := s.writeWord_BND_HARV_CTL (x := s.busAcc b) hwho hn w
  have hkept : ∀ f : Fld, f.addr ≠ BND_HARV_CTL n → State.fld { s with regs := r, latch := mdel s.latch (BND_HARV_CTL n) } f = s.fld f :=
    fun f hf => congrArg (getBits · f.lsb f.width) (hother f.addr f.rst hf)
  have hbit : ∀ f : Fld, f.addr ≠ BND_HARV_CTL n → State.bit { s with regs := r, latch := mdel s.latch (BND_HARV_CTL n) } f = s.bit f :=
    fun f hf => congrArg (· == 1) (hkept f hf)
  refine ⟨_, congrArg s.done ((busWrite_takes ht _ _).trans hr), rfl, rfl, rfl, hport, hkept _ ?_, hkept _ ?_, ?_⟩
  · simp only [BND_HARV_ADDR_LO_ADDR, BND_HARV_ADDR_LO, BND_HARV_CTL]
    omega
  · simp only [BND_HARV_ADDR_HI_ADDR, BND_HARV_ADDR_HI, BND_HARV_CTL]
    omega
  · have hne : BND_HARV_STAT n ≠ BND_HARV_CTL n := by
      simp only [BND_HARV_STAT, BND_HARV_CTL]
      omega
    unfold State.harvestBarred
    rw [hbit (BND_HARV_STAT_BUSY n) hne, hbit (BND_HARV_STAT_CLEARING n) hne]
    exact Iff.rfl

theorem State.harvestStart_of_barred {s : State} {n : Nat} (h : s.harvestBarred n (s.fld (BND_HARV_CTL_PORT n))) :
    s.harvestStart n = s.setBit (BND_HARV_STAT_REFUSED n) true :=
  if_pos (by simpa [State.harvestBarred] using h)

theorem State.harvestStart_of_free {s : State} {n : Nat} (h : ¬ s.harvestBarred n (s.fld (BND_HARV_CTL_PORT n))) :
    s.harvestStart n = { s with
      bnd.harvDue := sadd s.bnd.harvDue n
      bnd.harvAt := mput s.bnd.harvAt n
        (s.fld (BND_HARV_CTL_PORT n), s.fld (BND_HARV_ADDR_LO_ADDR n) * 4096 + s.fld (BND_HARV_ADDR_HI_ADDR n) * 2 ^ 32) } :=
  if_neg (by simpa [State.harvestBarred] using h)

theorem exec_harvestStart_accepts {s : State} {b : Bus} {n : Nat} {w : Word} (ht : s.takesWrite b (BND_HARV_CTL n) = true)
    (hwho : (s.busP b).isOF = true) (hn : n < 4096) (hfree : ¬ s.harvestBarred n (getBits w 0 7)) :
    ∃ t, exec (.harvestStart b n w) s = .next t ∧ t.bnd = { s.bnd with
        harvDue := sadd s.bnd.harvDue n, harvAt := mput s.bnd.harvAt n
          (getBits w 0 7, s.fld (BND_HARV_ADDR_LO_ADDR n) * 4096 + s.fld (BND_HARV_ADDR_HI_ADDR n) * 2 ^ 32) } ∧ t.md = s.md ∧ t.due = s.due := by
  obtain ⟨u, hu, hbnd, hmd, hdue, hport, hlo, hhi, hbarred⟩ := exec_harvestStart_writes ht hwho hn
  rw [← hbarred, ← hport] at hfree
  refine ⟨_, hu, ?_, ?_, ?_⟩
  · refine (congrArg State.bnd (State.harvestStart_of_free hfree)).trans ?_
    rw [hport, hlo, hhi, hbnd]
  · exact (congrArg State.md (State.harvestStart_of_free hfree)).trans hmd
  · exact (congrArg State.due (State.harvestStart_of_free hfree)).trans hdue

theorem exec_harvestStart_refuses {s : State} {b : Bus} {n : Nat} {w : Word} (ht : s.takesWrite b (BND_HARV_CTL n) = true)
    (hwho : (s.busP b).isOF = true) (hn : n < 4096) (hbarred : s.harvestBarred n (getBits w 0 7)) :
    ∃ t, exec (.harvestStart b n w) s = .next t ∧ t.bit (BND_HARV_STAT_REFUSED n) = true ∧ t.bnd = s.bnd := by
  obtain ⟨u, hu, hbnd, -, -, hport, -, -, hiff⟩ := exec_harvestStart_writes ht hwho hn
  rw [← hiff, ← hport] at hbarred
  rw [State.harvestStart_of_barred hbarred] at hu
  exact ⟨_, hu, State.bit_setBit_same u (BND_HARV_STAT_REFUSED n) true (by decide : 3 + 1 ≤ 32) rfl, hbnd⟩

end Sys2Proof.Machine
end

section
/-! Proofs of the family 07_bindings, eighth part: the ends of binding resets, of harvests and of the clearing of the dirty-page log (O26). -/
namespace Sys2Proof.Machine
open Sys2Proof

/-! ### Fields that events and faults leave alone -/

theorem Fld.OffEvents.of_bnd {f : Fld} {o n : Nat} (haddr : f.addr = 0x2000000 + o + n * 0x100) (ho : o < 0x100) (hne : o ≠ 0x24 ∧ o ≠ 0x28) : f.OffEvents :=
  .of_addr (a := o) (by omega) hne (by omega)

theorem Fld.OffEvents.of_port {f : Fld} {o p : Nat} (haddr : f.addr = 0x1000000 + o + p * 0x10000) (ho : o < 0x100) (hne : o ≠ 0x24 ∧ o ≠ 0x28) :
    f.OffEvents :=
  .of_addr (a := o) (by omega) hne (by omega)

/-- The count of dropped writes stands beside that of dropped interrupts, in other bits. -/
theorem PRT_MF_DROP_WR_DROP_offEvents (p : Nat) : (PRT_MF_DROP_WR_DROP p).OffEvents where
  high := Nat.le_add_right_of_le (by decide)
  count _ := .inr rfl
  seen t := .inl (by
    simp only [PRT_MF_STAT_DROP_SEEN, PRT_MF_STAT, PRT_MF_DROP_WR_DROP, PRT_MF_DROP]
    omega)

/-! ### What the error record of a binding leaves alone (R153) -/

/-- A state comes of another by events, faults and error records of bindings: they leave the fields below the error record in their blocks, what is in
force and Bus Master Enable as they are. -/
structure State.Recorded (s t : State) : Prop where
  fld : ∀ f : Fld, f.OffEvents → f.addr % 0x100 < 0x80 → t.fld f = s.fld f
  force : t.force = s.force
  bme : ∀ p, (t.mf p).bme = (s.mf p).bme

theorem State.Noted.recorded {s t : State} (h : s.Noted t) : s.Recorded t := ⟨fun f hf _ => h.fld f hf, h.force, h.bme⟩

theorem State.Recorded.refl (s : State) : s.Recorded s := (State.Noted.refl s).recorded

theorem State.Recorded.trans {s t u : State} (h : s.Recorded t) (g : t.Recorded u) : s.Recorded u where
  fld f hf hlow := (g.fld f hf hlow).trans (h.fld f hf hlow)
  force := g.force.trans h.force
  bme p := (g.bme p).trans (h.bme p)

theorem State.recorded_setFld (s : State) {f : Fld} (v : Nat) (h : 0x80 ≤ f.addr % 0x100) : s.Recorded (s.setFld f v) where
  fld g _ hlow := s.fld_setFld_addr f g v (fun haddr => absurd (haddr ▸ h) (Nat.not_le.2 hlow))
  force := rfl
  bme _ := rfl

/-- The fields of a binding's error record lie in the upper half of its block. -/
theorem bnd_upper {o n : Nat} (hlow : 0x80 ≤ o) (hhigh : o < 0x100) : 0x80 ≤ (0x2000000 + o + n * 0x100) % 0x100 := by omega

/-- Whether a port can be written through stays as it was. -/
theorem State.Recorded.canWrite {s t : State} (h : s.Recorded t) (p : Nat) : t.canWrite p = s.canWrite p := by
  have hbit : ∀ (f : Fld) {o : Nat}, f.addr = 0x1000000 + o + p * 0x10000 → o < 0x24 → t.bit f = s.bit f := by
    intro f o haddr ho
    unfold State.bit
    rw [h.fld f (Fld.OffEvents.of_port haddr (by omega) (by omega)) (by omega)]
  have hup : t.linkUp p = s.linkUp p := hbit (PRT_LINK_STAT_UP p) (o := 0x0c) rfl (by decide)
  have hsecure : t.bit (PRT_IDE_STAT_IO_SECURE p) = s.bit (PRT_IDE_STAT_IO_SECURE p) := hbit _ (o := 0x14) rfl (by decide)
  have hreq : t.curBit (PRT_IDE_CTL_REQ_IO p) = s.curBit (PRT_IDE_CTL_REQ_IO p) := by
    unfold State.curBit State.cur
    rw [h.force]
  unfold State.canWrite State.ioBlocked
  rw [hup, hsecure, hreq, h.bme]

/-! ### The error record (R153) -/

/-- The words of an error record: VALID, the code, the parcel and the address. -/
def State.recordWritten (s : State) (b : Nat) (valid : Bool) (code parcel dpa : Nat) : State :=
  (((s.setBit (BND_ERR_STAT_VALID b) valid).setFld (BND_ERR_STAT_CODE b) code).setFld (BND_ERR_PARCEL_PARCEL b) parcel).setFld64
    (BND_ERR_DPA_LO_DPA b) (BND_ERR_DPA_HI_DPA b) dpa

theorem State.recorded_recordWritten (s : State) (b : Nat) (valid : Bool) (code parcel dpa : Nat) :
    s.Recorded (s.recordWritten b valid code parcel dpa) :=
  (s.recorded_setFld (f := BND_ERR_STAT_VALID b) _ (bnd_upper (o := 0x80) (by decide) (by decide))).trans
    ((State.recorded_setFld _ (f := BND_ERR_STAT_CODE b) _ (bnd_upper (o := 0x80) (by decide) (by decide))).trans
      ((State.recorded_setFld _ (f := BND_ERR_PARCEL_PARCEL b) _ (bnd_upper (o := 0x84) (by decide) (by decide))).trans
        ((State.recorded_setFld _ (f := BND_ERR_DPA_LO_DPA b) _ (bnd_upper (o := 0x88) (by decide) (by decide))).trans
          (State.recorded_setFld _ (f := BND_ERR_DPA_HI_DPA b) _ (bnd_upper (o := 0x8c) (by decide) (by decide))))))

/-- The parcel and the address of a record stand in words of their own. -/
theorem State.recordWritten_fld_of_stat (s : State) {b : Nat} (valid : Bool) (code parcel dpa : Nat) {f : Fld} (hparcel : f.addr ≠ BND_ERR_PARCEL b)
    (hlo : f.addr ≠ BND_ERR_DPA_LO b) (hhi : f.addr ≠ BND_ERR_DPA_HI b) :
    (s.recordWritten b valid code parcel dpa).fld f = ((s.setBit (BND_ERR_STAT_VALID b) valid).setFld (BND_ERR_STAT_CODE b) code).fld f := by
  unfold State.recordWritten State.setFld64
  rw [State.fld_setFld_addr _ _ _ _ hhi.symm, State.fld_setFld_addr _ _ _ _ hlo.symm, State.fld_setFld_addr _ _ _ _ hparcel.symm]

theorem BND_ERR_STAT_offEvents (b : Nat) : (BND_ERR_STAT_VALID b).OffEvents ∧ (BND_ERR_STAT_CODE b).OffEvents :=
  ⟨.of_bnd (o := 0x80) rfl (by decide) (by decide), .of_bnd (o := 0x80) rfl (by decide) (by decide)⟩

theorem State.recordWritten_stat (s : State) {b code : Nat} (valid : Bool) (parcel dpa : Nat) (hcode : code < 0x100) :
    (s.recordWritten b valid code parcel dpa).bit (BND_ERR_STAT_VALID b) = valid ∧
      (s.recordWritten b valid code parcel dpa).fld (BND_ERR_STAT_CODE b) = code := by
  have hstat : ∀ f : Fld, f.addr = BND_ERR_STAT b → (s.recordWritten b valid code parcel dpa).fld f =
      ((s.setBit (BND_ERR_STAT_VALID b) valid).setFld (BND_ERR_STAT_CODE b) code).fld f := by
    intro f hf
    refine s.recordWritten_fld_of_stat valid code parcel dpa ?_ ?_ ?_
    all_goals
      rw [hf]
      simp only [BND_ERR_PARCEL, BND_ERR_DPA_LO, BND_ERR_DPA_HI, BND_ERR_STAT]
      omega
  constructor
  · refine (congrArg (· == 1) (hstat (BND_ERR_STAT_VALID b) rfl)).trans ?_
    exact (State.bit_setFld_apart _ (f := BND_ERR_STAT_CODE b) (g := BND_ERR_STAT_VALID b) _ rfl).trans
      (State.bit_setBit_same s (BND_ERR_STAT_VALID b) valid (by decide : 8 + 1 ≤ 32) rfl)
  · refine (hstat (BND_ERR_STAT_CODE b) rfl).trans ?_
    exact (State.fld_setFld_same _ (BND_ERR_STAT_CODE b) _ (by decide : 0 + 8 ≤ 32)).trans (Nat.mod_eq_of_lt hcode)

theorem State.bindFault_of_valid {s : State} {b : Nat} (h : s.bit (BND_ERR_STAT_VALID b) = true) (code parcel dpa detail : Nat) :
    s.bindFault b code parcel dpa detail .no = s.reportCode 0x0301 b (some parcel) detail := by
  unfold State.bindFault State.bndCount
  simp only [h, if_true]

theorem State.bindFault_of_not_valid {s : State} {b : Nat} (h : s.bit (BND_ERR_STAT_VALID b) = false) (code parcel dpa detail : Nat) :
    s.bindFault b code parcel dpa detail .no =
      ((s.recordWritten b true code parcel dpa).raisePrivate (s.bndPort b) 4).reportCode 0x0301 b (some parcel) detail := by
  unfold State.bindFault State.bndCount
  simp only [h, Bool.false_eq_true, if_false]
  rfl

/-- The events and the fault that follow the record. -/
theorem State.noted_recordTold (s u : State) (b parcel detail : Nat) :
    u.Noted ((u.raisePrivate (s.bndPort b) 4).reportCode 0x0301 b (some parcel) detail) :=
  (u.noted_raisePrivate _ (by decide)).trans (State.noted_reportCode _ _ _ _ _)

/-- After a fault of a binding its record is valid, and holds the code of the first fault. -/
theorem State.bindFault_stat (s : State) {b code : Nat} (parcel dpa detail : Nat) (hcode : code < 0x100) :
    (s.bindFault b code parcel dpa detail .no).bit (BND_ERR_STAT_VALID b) = true ∧
      (s.bindFault b code parcel dpa detail .no).fld (BND_ERR_STAT_CODE b) =
        if s.bit (BND_ERR_STAT_VALID b) = true then s.fld (BND_ERR_STAT_CODE b) else code := by
  obtain ⟨hoff, hoffCode⟩ := BND_ERR_STAT_offEvents b
  cases hvalid : s.bit (BND_ERR_STAT_VALID b) with
  | true =>
    rw [State.bindFault_of_valid hvalid]
    have hnoted := s.noted_reportCode 0x0301 b (some parcel) detail
    exact ⟨(hnoted.bit hoff).trans hvalid, hnoted.fld _ hoffCode⟩
  | false =>
    rw [State.bindFault_of_not_valid hvalid]
    have hnoted := s.noted_recordTold (s.recordWritten b true code parcel dpa) b parcel detail
    obtain ⟨hset, hfirst⟩ := s.recordWritten_stat (b := b) true parcel dpa hcode
    exact ⟨(hnoted.bit hoff).trans hset, (hnoted.fld _ hoffCode).trans hfirst⟩

theorem State.recorded_bindFault (s : State) (b code parcel dpa detail : Nat) : s.Recorded (s.bindFault b code parcel dpa detail .no) := by
  cases hvalid : s.bit (BND_ERR_STAT_VALID b) with
  | true =>
    rw [State.bindFault_of_valid hvalid]
    exact (s.noted_reportCode _ _ _ _).recorded
  | false =>
    rw [State.bindFault_of_not_valid hvalid]
    exact (s.recorded_recordWritten b true code parcel dpa).trans (State.noted_recordTold _ _ _ _ _).recorded

/-! ### Words of the log that the Reservoir lost (R25, R155) -/

/-- Every page of a lost word taken as written, and the correctable fault of the loss. -/
def State.wordTaken (s : State) (w : Nat) : State :=
  State.reportCode { s with bnd.log := (List.range 128).foldl (fun l k => sadd l (w / 128 * 128 + k)) s.bnd.log } 0x0403 1 none 0

theorem State.noted_wordTaken (s : State) (w : Nat) : s.Noted (s.wordTaken w) := by
  unfold State.wordTaken
  refine State.Noted.trans ?_ (State.noted_reportCode _ _ _ _ _)
  exact .of_eq rfl rfl rfl fun _ h => h

theorem State.loseLogWord_eq (s : State) (b w : Nat) : ∃ parcel dpa, s.loseLogWord b w = (s.wordTaken w).bindFault b 8 parcel dpa 8 .no := ⟨_, _, rfl⟩

theorem State.recorded_loseLogWord (s : State) (b w : Nat) : s.Recorded (s.loseLogWord b w) := by
  obtain ⟨parcel, dpa, hw⟩ := s.loseLogWord_eq b w
  rw [hw]
  exact (s.noted_wordTaken w).recorded.trans (State.recorded_bindFault _ _ _ _ _ _)

theorem State.loseLogWord_stat (s : State) (b w : Nat) : (s.loseLogWord b w).bit (BND_ERR_STAT_VALID b) = true ∧
    (s.loseLogWord b w).fld (BND_ERR_STAT_CODE b) = if s.bit (BND_ERR_STAT_VALID b) = true then s.fld (BND_ERR_STAT_CODE b) else 8 := by
  obtain ⟨hoff, hoffCode⟩ := BND_ERR_STAT_offEvents b
  obtain ⟨parcel, dpa, hw⟩ := s.loseLogWord_eq b w
  obtain ⟨hset, hfirst⟩ := (s.wordTaken w).bindFault_stat (b := b) (code := 8) parcel dpa 8 (by decide)
  rw [(s.noted_wordTaken w).bit hoff, (s.noted_wordTaken w).fld _ hoffCode] at hfirst
  rw [hw]
  exact ⟨hset, hfirst⟩

/-- The words of a harvest's area that the Reservoir lost. -/
def State.loseLogWords (s : State) (b : Nat) (ws : List Nat) : State := ws.foldl (fun s w => s.loseLogWord b w) s

theorem State.recorded_loseLogWords (s : State) (b : Nat) (ws : List Nat) : s.Recorded (s.loseLogWords b ws) := by
  induction ws generalizing s with
  | nil => exact .refl s
  | cons w ws ih => exact (s.recorded_loseLogWord b w).trans (ih _)

theorem State.loseLogWords_of_valid {s : State} {b : Nat} (h : s.bit (BND_ERR_STAT_VALID b) = true) (ws : List Nat) :
    (s.loseLogWords b ws).bit (BND_ERR_STAT_VALID b) = true ∧ (s.loseLogWords b ws).fld (BND_ERR_STAT_CODE b) = s.fld (BND_ERR_STAT_CODE b) := by
  induction ws generalizing s with
  | nil => exact ⟨h, rfl⟩
  | cons w ws ih =>
    obtain ⟨hset, hfirst⟩ := s.loseLogWord_stat b w
    obtain ⟨hsets, hfirsts⟩ := ih hset
    exact ⟨hsets, hfirsts.trans (hfirst.trans (if_pos h))⟩

/-- One lost word is enough for the binding's record: code 0x08, where it was not valid before. -/
theorem State.loseLogWords_stat (s : State) (b : Nat) {ws : List Nat} (hne : ws ≠ []) : (s.loseLogWords b ws).bit (BND_ERR_STAT_VALID b) = true ∧
    (s.bit (BND_ERR_STAT_VALID b) = false → (s.loseLogWords b ws).fld (BND_ERR_STAT_CODE b) = 8) := by
  cases ws with
  | nil => exact absurd rfl hne
  | cons w ws =>
    obtain ⟨hset, hfirst⟩ := s.loseLogWord_stat b w
    obtain ⟨hsets, hfirsts⟩ := State.loseLogWords_of_valid hset ws
    exact ⟨hsets, fun h => hfirsts.trans (hfirst.trans (if_neg (by simp [h])))⟩

end Sys2Proof.Machine
end

section
/-! Proofs of the family 07_bindings, ninth part: what the ends of harvests and binding resets leave, and the statement (O26). -/
namespace Sys2Proof.Machine
open Sys2Proof

/-! ### The end of a harvest (R156, R158) -/

/-- BND_HARV_STAT as a harvest ends. -/
def State.harvestClosed (s : State) (b : Nat) (bad : Bool) : State :=
  (((State.setBit { s with bnd.harv := mdel s.bnd.harv b } (BND_HARV_STAT_BUSY b) false).setFld (BND_HARV_STAT_SEQ b)
    ((s.fld (BND_HARV_STAT_SEQ b) + 1) % 65536)).setBit (BND_HARV_STAT_LOST b) bad)

theorem State.endHarvest_of_canWrite {s : State} {h : Harvest} (hw : s.canWrite h.port = true) (b : Nat) (lost rsv : Bool) (count : Nat) :
    s.endHarvest b h lost rsv count = ((s.harvestClosed b (lost || h.lost)).emit (.harvest b h.frame ((s.fld (BND_HARV_STAT_SEQ b) + 1) % 65536)
      ((if lost || h.lost then 1 else 0) + (if rsv then 2 else 0)) count)).raisePrivate h.port 5 := by
  unfold State.endHarvest
  simp only [hw, Bool.not_true, Bool.or_false, if_true]
  rfl

theorem State.endHarvest_of_not_canWrite {s : State} {h : Harvest} (hw : s.canWrite h.port = false) (b : Nat) (lost rsv : Bool) (count : Nat) :
    s.endHarvest b h lost rsv count = ((s.harvestClosed b true).dropWrite h.port).raisePrivate h.port 5 := by
  unfold State.endHarvest
  simp only [hw, Bool.not_false, Bool.or_true, Bool.false_eq_true, if_false]
  rfl

theorem BND_HARV_STAT_offEvents (b : Nat) : (BND_HARV_STAT_BUSY b).OffEvents ∧ (BND_HARV_STAT_LOST b).OffEvents :=
  ⟨.of_bnd (o := 0x64) rfl (by decide) (by decide), .of_bnd (o := 0x64) rfl (by decide) (by decide)⟩

theorem State.harvestClosed_stat (s : State) (b : Nat) (bad : Bool) :
    (s.harvestClosed b bad).bit (BND_HARV_STAT_BUSY b) = false ∧ (s.harvestClosed b bad).bit (BND_HARV_STAT_LOST b) = bad := by
  constructor
  · refine (State.bit_setBit_apart _ (f := BND_HARV_STAT_LOST b) (g := BND_HARV_STAT_BUSY b) bad rfl).trans ?_
    refine (State.bit_setFld_apart _ (f := BND_HARV_STAT_SEQ b) (g := BND_HARV_STAT_BUSY b) _ rfl).trans ?_
    exact State.bit_setBit_same _ (BND_HARV_STAT_BUSY b) false (by decide : 0 + 1 ≤ 32) rfl
  · exact State.bit_setBit_same _ (BND_HARV_STAT_LOST b) bad (by decide : 1 + 1 ≤ 32) rfl

theorem State.harvestClosed_fld (s : State) (b : Nat) (bad : Bool) {f : Fld} (hf : f.addr ≠ BND_HARV_STAT b) : (s.harvestClosed b bad).fld f = s.fld f := by
  unfold State.harvestClosed
  rw [State.fld_setBit_addr _ _ _ _ hf.symm, State.fld_setFld_addr _ _ _ _ hf.symm, State.fld_setBit_addr _ _ _ _ hf.symm]
  rfl

theorem State.dropWrite_fld (s : State) (p : Nat) {f : Fld} (hcount : f.addr ≠ PRT_MF_DROP p) (hseen : f.addr ≠ PRT_MF_STAT p) :
    (s.dropWrite p).fld f = s.fld f := by
  unfold State.dropWrite
  rw [State.fld_setBit_addr _ _ _ _ hseen.symm, State.fld_inc_addr _ _ _ hcount.symm]

theorem PRT_MF_ne_bnd {o p n : Nat} (ho : o < 0x100) (hne : o ≠ 0x24 ∧ o ≠ 0x28) :
    0x2000000 + o + n * 0x100 ≠ PRT_MF_DROP p ∧ 0x2000000 + o + n * 0x100 ≠ PRT_MF_STAT p := by
  unfold PRT_MF_DROP PRT_MF_STAT
  omega

/-- A harvest that ends is no longer under way, shows whether it is lost, and leaves the other words of the bindings alone. -/
structure State.HarvestEnded (s t : State) (b : Nat) (bad : Bool) : Prop where
  bnd : t.bnd = { s.bnd with harv := mdel s.bnd.harv b }
  busy : t.bit (BND_HARV_STAT_BUSY b) = false
  lost : t.bit (BND_HARV_STAT_LOST b) = bad
  fld : ∀ (f : Fld) (o n : Nat), f.addr = 0x2000000 + o + n * 0x100 → o < 0x100 → o ≠ 0x24 ∧ o ≠ 0x28 → o ≠ 0x64 → t.fld f = s.fld f
  force : t.force = s.force

/-- Whatever else is noted as a harvest closes, it has ended. -/
theorem State.HarvestEnded.of_closed {s u t : State} {b : Nat} {bad : Bool} (hnoted : u.Noted t) (hbnd : t.bnd = (s.harvestClosed b bad).bnd)
    (hforce : u.force = s.force)
    (hfld : ∀ (f : Fld) (o n : Nat), f.addr = 0x2000000 + o + n * 0x100 → o < 0x100 → o ≠ 0x24 ∧ o ≠ 0x28 → u.fld f = (s.harvestClosed b bad).fld f) :
    s.HarvestEnded t b bad := by
  obtain ⟨hbusy, hlost⟩ := s.harvestClosed_stat b bad
  obtain ⟨hoffBusy, hoffLost⟩ := BND_HARV_STAT_offEvents b
  refine ⟨hbnd, ?_, ?_, fun f o n haddr ho hne hstat => ?_, hnoted.force.trans hforce⟩
  · exact (hnoted.bit hoffBusy).trans ((congrArg (· == 1) (hfld (BND_HARV_STAT_BUSY b) 0x64 b rfl (by decide) (by decide))).trans hbusy)
  · exact (hnoted.bit hoffLost).trans ((congrArg (· == 1) (hfld (BND_HARV_STAT_LOST b) 0x64 b rfl (by decide) (by decide))).trans hlost)
  · refine (hnoted.fld f (.of_bnd haddr ho hne)).trans ((hfld f o n haddr ho hne).trans (s.harvestClosed_fld b bad ?_))
    rw [haddr]
    unfold BND_HARV_STAT
    omega

theorem State.endHarvest_ended (s : State) (b : Nat) (h : Harvest) (lost rsv : Bool) (count : Nat) :
    s.HarvestEnded (s.endHarvest b h lost rsv count) b (lost || h.lost || ! s.canWrite h.port) := by
  cases hw : s.canWrite h.port with
  | true =>
    rw [State.endHarvest_of_canWrite hw]
    simp only [Bool.not_true, Bool.or_false]
    exact .of_closed (State.noted_raisePrivate _ _ (by decide)) (by simp) rfl fun _ _ _ _ _ _ => rfl
  | false =>
    rw [State.endHarvest_of_not_canWrite hw]
    simp only [Bool.not_false, Bool.or_true]
    refine .of_closed (State.noted_raisePrivate _ _ (by decide)) (by simp [State.dropWrite]) rfl fun f o n haddr ho hne => ?_
    obtain ⟨hdrop, hseen⟩ := PRT_MF_ne_bnd (p := h.port) (n := n) ho hne
    exact State.dropWrite_fld _ _ (haddr ▸ hdrop) (haddr ▸ hseen)

/-- A harvest whose port cannot be written through counts the write it drops. -/
theorem State.endHarvest_drops {s : State} {h : Harvest} (hw : s.canWrite h.port = false) (b : Nat) (lost rsv : Bool) (count : Nat) :
    (s.endHarvest b h lost rsv count).fld (PRT_MF_DROP_WR_DROP h.port) =
      min (s.fld (PRT_MF_DROP_WR_DROP h.port) + 1) (2 ^ (PRT_MF_DROP_WR_DROP h.port).width - 1) := by
  have hne : (PRT_MF_DROP_WR_DROP h.port).addr ≠ BND_HARV_STAT b := by
    simp only [PRT_MF_DROP_WR_DROP, PRT_MF_DROP, BND_HARV_STAT]
    omega
  have hseen : PRT_MF_STAT h.port ≠ PRT_MF_DROP h.port := by
    unfold PRT_MF_STAT PRT_MF_DROP
    omega
  rw [State.endHarvest_of_not_canWrite hw, (State.noted_raisePrivate _ _ (by decide)).fld _ (PRT_MF_DROP_WR_DROP_offEvents h.port)]
  unfold State.dropWrite
  rw [State.fld_setBit_addr _ _ (PRT_MF_DROP_WR_DROP h.port) _ hseen, State.fld_inc_same _ (PRT_MF_DROP_WR_DROP h.port) (by decide : 12 + 12 ≤ 32),
    s.harvestClosed_fld b true hne]

/-! ### The sweep of a harvest (R156, R25) -/

/-- The words of a harvest's area that the Reservoir lost: of an area whose stack failed, every one (R418). -/
def State.harvestLosses (s : State) (b : Nat) (h : Harvest) (words : List Nat) : List Nat :=
  let base := s.cur (BND_LOG_CTL_BASE b) * 32768
  if s.bnd.logGone.contains b || s.stackGone 1 then (List.range (h.len * 256)).map (fun k => base + 128 * k)
  else words.filter (fun w => decide (base ≤ w) && decide (w < base + h.len * 32768))

/-- The log as a harvest has read it, with what was lost of it taken as written. -/
def State.harvestRead (s : State) (b : Nat) (h : Harvest) (words : List Nat) : State :=
  State.loseLogWords { s with bnd.logGone := sdel s.bnd.logGone b } b (s.harvestLosses b h words)

/-- The area of a harvest swept, and sent where its port takes it. -/
def State.harvestSwept (s : State) (b : Nat) (h : Harvest) : State :=
  if (s.sweepLog b h).canWrite h.port then (s.sweepLog b h).emit (.bitmap h.port h.addr (h.len * 4096) (s.loggedPages b h)) else s.sweepLog b h

theorem State.harvestDone_eq {s : State} {b : Nat} {h : Harvest} (hh : mget s.bnd.harv b = some h) (words : List Nat) :
    s.harvestDone b words = ((s.harvestRead b h words).harvestSwept b h).endHarvest b h false (! (s.harvestLosses b h words).isEmpty)
      ((s.harvestRead b h words).loggedPages b h).length := by
  unfold State.harvestDone
  simp only [hh]
  rfl

theorem State.harvestDone_none {s : State} {b : Nat} (hh : mget s.bnd.harv b = none) (words : List Nat) : s.harvestDone b words = s := by
  unfold State.harvestDone
  simp only [hh]

/-- The sweep changes the log and what is sent. -/
theorem State.harvestSwept_eq (s : State) (b : Nat) (h : Harvest) : ∃ o, s.harvestSwept b h = { s.sweepLog b h with out := o } := by
  unfold State.harvestSwept
  split
  · exact ⟨_, rfl⟩
  · exact ⟨s.out, rfl⟩

theorem State.harvestSwept_recorded (s : State) (b : Nat) (h : Harvest) : s.Recorded (s.harvestSwept b h) := by
  obtain ⟨o, ho⟩ := s.harvestSwept_eq b h
  rw [ho]
  exact ⟨fun _ _ _ => rfl, rfl, fun _ => rfl⟩

theorem State.harvestRead_recorded (s : State) (b : Nat) (h : Harvest) (words : List Nat) : s.Recorded (s.harvestRead b h words) := by
  unfold State.harvestRead
  refine State.Recorded.trans ?_ (State.recorded_loseLogWords _ _ _)
  exact ⟨fun _ _ _ => rfl, rfl, fun _ => rfl⟩

/-- A harvest that the Reservoir lost nothing of reads the log as it stands. -/
theorem State.harvestLosses_nil {s : State} {b : Nat} (hstack : s.stackGone 1 = false) (hgone : b ∉ s.bnd.logGone) (h : Harvest) :
    s.harvestLosses b h [] = [] := by
  unfold State.harvestLosses
  simp [hstack, hgone]

theorem exec_harvestDone_sends {s : State} {n : Nat} {h : Harvest} (hh : mget s.bnd.harv n = some h) (hw : s.canWrite h.port = true)
    (hstack : s.stackGone 1 = false) (hgone : n ∉ s.bnd.logGone) :
    ∃ t, exec (.harvestDone n []) s = .next t ∧ mget t.bnd.harv n = none ∧ t.bit (BND_HARV_STAT_BUSY n) = false ∧
      t.bit (BND_HARV_STAT_LOST n) = h.lost ∧ .bitmap h.port h.addr (h.len * 4096) (s.loggedPages n h) ∈ t.out ∧
      .harvest n h.frame ((s.fld (BND_HARV_STAT_SEQ n) + 1) % 65536) (if h.lost then 1 else 0) (s.loggedPages n h).length ∈ t.out ∧
      (∀ x, x ∈ t.bnd.log ↔ x ∈ s.bnd.log ∧
        (x < s.cur (BND_LOG_CTL_BASE n) * 32768 ∨ s.cur (BND_LOG_CTL_BASE n) * 32768 + h.len * 32768 ≤ x)) := by
  have hread : s.harvestRead n h [] = { s with bnd.logGone := sdel s.bnd.logGone n } := by
    unfold State.harvestRead
    rw [State.harvestLosses_nil hstack hgone]
    rfl
  obtain ⟨u, hu⟩ : ∃ u, (s.harvestRead n h []).harvestSwept n h = u := ⟨_, rfl⟩
  have hswept : u = (State.sweepLog { s with bnd.logGone := sdel s.bnd.logGone n } n h).emit (.bitmap h.port h.addr (h.len * 4096) (s.loggedPages n h)) := by
    rw [← hu, hread]
    exact if_pos hw
  have hwrite : u.canWrite h.port = true := by
    rw [hswept]
    exact hw
  have hended := u.endHarvest_ended n h false false (s.loggedPages n h).length
  have hdone : s.harvestDone n [] = u.endHarvest n h false false (s.loggedPages n h).length := by
    rw [State.harvestDone_eq hh, hu, hread, State.harvestLosses_nil hstack hgone]
    rfl
  have hout := State.endHarvest_of_canWrite hwrite n false false (s.loggedPages n h).length
  refine ⟨_, congrArg s.done hdone, ?_, hended.busy, ?_, ?_, ?_, fun x => ?_⟩
  · exact (congrArg (fun x => mget x.harv n) hended.bnd).trans (mget_mdel_same _ _)
  · refine hended.lost.trans ?_
    rw [hwrite]
    simp
  · show _ ∈ (u.endHarvest n h false false (s.loggedPages n h).length).out
    rw [hout]
    refine (State.noted_raisePrivate _ _ (by decide)).out _ (List.mem_cons_of_mem _ ?_)
    rw [hswept]
    exact List.mem_cons_self
  · show _ ∈ (u.endHarvest n h false false (s.loggedPages n h).length).out
    rw [hout]
    refine (State.noted_raisePrivate _ _ (by decide)).out _ ?_
    rw [hswept]
    exact List.mem_cons_self
  · have hlog : (u.endHarvest n h false false (s.loggedPages n h).length).bnd.log = u.bnd.log := (congrArg (fun x => x.log) hended.bnd :)
    refine (Iff.of_eq (congrArg (x ∈ ·) hlog)).trans ?_
    rw [hswept]
    refine List.mem_filter.trans ?_
    simp only [Bool.or_eq_true, decide_eq_true_eq]
    exact Iff.rfl

theorem exec_harvestDone_drops {s : State} {n : Nat} {h : Harvest} (hh : mget s.bnd.harv n = some h) (hw : s.canWrite h.port = false) :
    ∃ t, exec (.harvestDone n []) s = .next t ∧ mget t.bnd.harv n = none ∧ t.bit (BND_HARV_STAT_LOST n) = true ∧
      t.fld (PRT_MF_DROP_WR_DROP h.port) = min (s.fld (PRT_MF_DROP_WR_DROP h.port) + 1) (2 ^ (PRT_MF_DROP_WR_DROP h.port).width - 1) := by
  have hrec : s.Recorded ((s.harvestRead n h []).harvestSwept n h) := (s.harvestRead_recorded n h []).trans (State.harvestSwept_recorded _ n h)
  have hdone := State.harvestDone_eq hh []
  generalize (s.harvestRead n h []).harvestSwept n h = u at hrec hdone
  have hwrite : u.canWrite h.port = false := (hrec.canWrite h.port).trans hw
  have hended := u.endHarvest_ended n h false (! (s.harvestLosses n h []).isEmpty) ((s.harvestRead n h []).loggedPages n h).length
  refine ⟨_, congrArg s.done hdone, ?_, ?_, ?_⟩
  · exact (congrArg (fun x => mget x.harv n) hended.bnd).trans (mget_mdel_same _ _)
  · refine hended.lost.trans ?_
    rw [hwrite]
    simp
  · refine (State.endHarvest_drops hwrite n false _ _).trans ?_
    rw [hrec.fld _ (PRT_MF_DROP_WR_DROP_offEvents h.port) ?_]
    simp only [PRT_MF_DROP_WR_DROP, PRT_MF_DROP]
    omega

theorem exec_harvestDone_records {s : State} {n w : Nat} {ws : List Nat} {h : Harvest} (hh : mget s.bnd.harv n = some h) (hmem : w ∈ ws)
    (hlo : s.cur (BND_LOG_CTL_BASE n) * 32768 ≤ w) (hhi : w < s.cur (BND_LOG_CTL_BASE n) * 32768 + h.len * 32768) :
    ∃ t, exec (.harvestDone n ws) s = .next t ∧ mget t.bnd.harv n = none ∧ t.bit (BND_HARV_STAT_BUSY n) = false ∧ t.bit (BND_ERR_STAT_VALID n) = true ∧
      (s.bit (BND_ERR_STAT_VALID n) = false → t.fld (BND_ERR_STAT_CODE n) = 8) := by
  have hlosses : s.harvestLosses n h ws ≠ [] := by
    unfold State.harvestLosses
    dsimp only
    split
    · have hlen : h.len * 256 ≠ 0 := by omega
      simpa using hlen
    · exact List.ne_nil_of_mem (List.mem_filter.2 ⟨hmem, by simp [hlo, hhi]⟩)
  obtain ⟨hset, hfirst⟩ := State.loseLogWords_stat { s with bnd.logGone := sdel s.bnd.logGone n } n hlosses
  have hsame : ∀ f : Fld, ((s.harvestRead n h ws).harvestSwept n h).fld f = (s.harvestRead n h ws).fld f := by
    intro f
    obtain ⟨o, ho⟩ := (s.harvestRead n h ws).harvestSwept_eq n h
    rw [ho]
    rfl
  have hended := ((s.harvestRead n h ws).harvestSwept n h).endHarvest_ended n h false (! (s.harvestLosses n h ws).isEmpty)
    ((s.harvestRead n h ws).loggedPages n h).length
  have hkept : ∀ f : Fld, f.addr = BND_ERR_STAT n → (((s.harvestRead n h ws).harvestSwept n h).endHarvest n h false (! (s.harvestLosses n h ws).isEmpty)
      ((s.harvestRead n h ws).loggedPages n h).length).fld f = (s.harvestRead n h ws).fld f :=
    fun f hf => (hended.fld f 0x80 n hf (by decide) (by decide) (by decide)).trans (hsame f)
  refine ⟨_, congrArg s.done (State.harvestDone_eq hh ws), ?_, hended.busy, ?_, fun hnot => ?_⟩
  · exact (congrArg (fun x => mget x.harv n) hended.bnd).trans (mget_mdel_same _ _)
  · exact (congrArg (· == 1) (hkept (BND_ERR_STAT_VALID n) rfl)).trans hset
  · exact (hkept (BND_ERR_STAT_CODE n) rfl).trans (hfirst hnot)

/-! ### The clearing of a log area (R155) -/

theorem State.logCleared_of_none {s : State} {n : Nat} (h : mget s.bnd.clr n = none) : s.logCleared n = s := by
  unfold State.logCleared
  simp only [h]

theorem State.logCleared_of_clearing {s : State} {n base len : Nat} (h : mget s.bnd.clr n = some (base, len)) :
    s.logCleared n = State.setBit { s with
      bnd.clr := mdel s.bnd.clr n, bnd.logGone := sdel s.bnd.logGone n
      bnd.log := s.bnd.log.filter (fun x => decide (x < base * 32768) || decide ((base + len) * 32768 ≤ x)) } (BND_HARV_STAT_CLEARING n) false := by
  unfold State.logCleared
  simp only [h]

theorem exec_logClearDone_clears {s : State} {n base len : Nat} (h : mget s.bnd.clr n = some (base, len)) :
    ∃ t, exec (.logClearDone n) s = .next t ∧ mget t.bnd.clr n = none ∧ t.bit (BND_HARV_STAT_CLEARING n) = false ∧
      (∀ x, x ∈ t.bnd.log ↔ x ∈ s.bnd.log ∧ (x < base * 32768 ∨ (base + len) * 32768 ≤ x)) ∧
      t = { s with regs := t.regs, bnd.clr := t.bnd.clr, bnd.log := t.bnd.log, bnd.logGone := t.bnd.logGone } := by
  refine ⟨_, (congrArg s.done (State.logCleared_of_clearing h)).trans (State.done_eq_next rfl rfl), mget_mdel_same _ _, ?_, fun x => ?_, rfl⟩
  · exact State.bit_setBit_same _ (BND_HARV_STAT_CLEARING n) false (by decide : 2 + 1 ≤ 32) rfl
  · refine List.mem_filter.trans ?_
    simp only [Bool.or_eq_true, decide_eq_true_eq]

/-! ### The end of a binding reset (R154) -/

/-- The fields of a binding from its error record on: the record, the counts and the resets. -/
def Fld.InRecord (f : Fld) (n : Nat) : Prop := ∃ o, 0x80 ≤ o ∧ o < 0x100 ∧ f.addr = 0x2000000 + o + n * 0x100

/-- What the end of a binding reset does to the harvest and to the log leaves its record, counts and translations alone. -/
structure State.RecordKept (s t : State) (n : Nat) : Prop where
  fld : ∀ f : Fld, f.InRecord n → t.fld f = s.fld f
  ext : t.bnd.ext = s.bnd.ext
  tt : t.bnd.tt = s.bnd.tt

theorem State.RecordKept.trans {s t u : State} {n : Nat} (h : s.RecordKept t n) (g : t.RecordKept u n) : s.RecordKept u n where
  fld f hf := (g.fld f hf).trans (h.fld f hf)
  ext := g.ext.trans h.ext
  tt := g.tt.trans h.tt

theorem State.recordKept_abortHarvest (s : State) (n b : Nat) : s.RecordKept (s.abortHarvest b) n := by
  unfold State.abortHarvest
  split
  · exact ⟨fun _ _ => rfl, rfl, rfl⟩
  next h _ =>
    have hended := s.draw.2.endHarvest_ended b h true false (s.draw.1 % ((s.loggedPages b h).length + 1))
    refine ⟨fun f hf => ?_, (congrArg (fun x => x.ext) hended.bnd :), (congrArg (fun x => x.tt) hended.bnd :)⟩
    obtain ⟨o, hlo, hhi, haddr⟩ := hf
    exact hended.fld f o n haddr hhi (by omega) (by omega)

theorem State.recordKept_setFld (s : State) {f : Fld} (v : Nat) {n : Nat} (h : f.addr % 0x100 < 0x80) : s.RecordKept (s.setFld f v) n := by
  refine ⟨fun g hg => s.fld_setFld_addr f g v ?_, rfl, rfl⟩
  obtain ⟨o, hlo, hhi, haddr⟩ := hg
  omega

theorem State.recordKept_clearLog (s : State) (b base len n : Nat) : s.RecordKept (s.clearLog b base len) n := by
  have hlow : (BND_HARV_STAT_CLEARING b).addr % 0x100 < 0x80 := by
    simp only [BND_HARV_STAT_CLEARING, BND_HARV_STAT]
    omega
  unfold State.clearLog
  split
  · exact ⟨fun _ _ => rfl, rfl, rfl⟩
  · refine State.RecordKept.trans ?_ (State.recordKept_setFld _ _ hlow)
    exact ⟨fun _ _ => rfl, rfl, rfl⟩

theorem State.recordKept_logOff (s : State) (b n : Nat) : s.RecordKept (s.setCur (BND_LOG_CTL_EN b) 0) n := by
  have hlow : (BND_LOG_CTL_EN b).addr % 0x100 < 0x80 := by
    simp only [BND_LOG_CTL_EN, BND_LOG_CTL]
    omega
  unfold State.setCur
  dsimp only
  split
  · exact ⟨fun _ _ => rfl, rfl, rfl⟩
  · refine State.RecordKept.trans ?_ (State.recordKept_setFld _ _ hlow)
    exact ⟨fun _ _ => rfl, rfl, rfl⟩

/-- The error record and the counts of a binding as its reset completes. -/
def State.recordCleared (s : State) (n : Nat) : State := (((s.clearBindRec n).clearPage n).setWord (BND_ERR_CNT0 n) 0).setWord (BND_ERR_CNT1 n) 0

/-- The harvest and the log of a binding as its reset completes. -/
def State.logDropped (s : State) (n : Nat) : State :=
  let s1 := s.abortHarvest n
  if s1.curBit (BND_LOG_CTL_EN n) then (s1.setCur (BND_LOG_CTL_EN n) 0).clearLog n (s1.cur (BND_LOG_CTL_BASE n)) (s1.cur (BND_LOG_LEN_LEN n)) else s1

theorem State.recordKept_logDropped (s : State) (n : Nat) : s.RecordKept (s.logDropped n) n := by
  have habort := s.recordKept_abortHarvest n n
  unfold State.logDropped
  dsimp only
  split
  · exact habort.trans ((State.recordKept_logOff _ n n).trans (State.recordKept_clearLog _ n _ _ n))
  · exact habort

/-- Equal fields make equal words. -/
theorem State.word_of_fld {s t : State} {a : Nat} (h : t.fld ⟨a, 0, 32, resetWord a⟩ = s.fld ⟨a, 0, 32, resetWord a⟩) : t.word a = s.word a := by
  have hall : ∀ x : Word, getBits x 0 32 = x.toNat := fun x => by
    unfold getBits
    rw [pow_zero, Nat.div_one, Nat.mod_eq_of_lt x.isLt]
  refine BitVec.eq_of_toNat_eq ?_
  rw [← hall, ← hall]
  exact h

theorem State.clearBindRec_eq (s : State) (n : Nat) : s.clearBindRec n = s.recordWritten n false 0 0 0 := rfl

/-- The error record and the counts lie in words of their own. -/
theorem State.recordCleared_fld (s : State) (n : Nat) {f : Fld} (h0 : f.addr ≠ BND_ERR_CNT0 n) (h1 : f.addr ≠ BND_ERR_CNT1 n) :
    (s.recordCleared n).fld f = (s.clearBindRec n).fld f := by
  unfold State.recordCleared
  rw [State.fld_setWord_addr _ _ h1, State.fld_setWord_addr _ _ h0]
  rfl

theorem State.recordCleared_valid (s : State) (n : Nat) : (s.recordCleared n).bit (BND_ERR_STAT_VALID n) = false := by
  refine (congrArg (· == 1) (s.recordCleared_fld n (f := BND_ERR_STAT_VALID n) ?_ ?_)).trans ?_
  · simp only [BND_ERR_STAT_VALID, BND_ERR_STAT, BND_ERR_CNT0]
    omega
  · simp only [BND_ERR_STAT_VALID, BND_ERR_STAT, BND_ERR_CNT1]
    omega
  · rw [s.clearBindRec_eq]
    exact (s.recordWritten_stat (b := n) (code := 0) false 0 0 (by decide)).1

theorem State.word_setWord_same (s : State) (a : Nat) (w : Word) : (s.setWord a w).word a = w := by
  unfold State.setWord State.word
  rw [rget_rput, if_pos rfl]

theorem State.recordCleared_counts (s : State) (n : Nat) :
    (s.recordCleared n).word (BND_ERR_CNT0 n) = 0 ∧ (s.recordCleared n).word (BND_ERR_CNT1 n) = 0 := by
  refine ⟨?_, State.word_setWord_same _ _ _⟩
  refine (rget_rput_ne _ _ _ _ ?_).trans (State.word_setWord_same _ _ _)
  unfold BND_ERR_CNT1 BND_ERR_CNT0
  omega

theorem State.recordCleared_resets (s : State) (n : Nat) : (s.recordCleared n).fld (BND_RST_RST_CNT n) = s.fld (BND_RST_RST_CNT n) := by
  have haddr : (BND_RST_RST_CNT n).addr = 0x2000098 + n * 0x100 := rfl
  rw [s.recordCleared_fld n (f := BND_RST_RST_CNT n) (by rw [haddr, BND_ERR_CNT0]; omega) (by rw [haddr, BND_ERR_CNT1]; omega), s.clearBindRec_eq,
    s.recordWritten_fld_of_stat (f := BND_RST_RST_CNT n) false 0 0 0 (by rw [haddr, BND_ERR_PARCEL]; omega) (by rw [haddr, BND_ERR_DPA_LO]; omega)
      (by rw [haddr, BND_ERR_DPA_HI]; omega)]
  have hstat : BND_ERR_STAT n ≠ (BND_RST_RST_CNT n).addr := by
    rw [haddr, BND_ERR_STAT]
    omega
  exact (State.fld_setFld_addr _ (BND_ERR_STAT_CODE n) _ _ hstat).trans (State.fld_setBit_addr _ (BND_ERR_STAT_VALID n) _ _ hstat)

/-- The completion of a reset, with its record, its counts and its log behind it. -/
theorem State.resetDone_eq (s : State) (n : Nat) : ∃ u : State, s.resetDone n = u.inc (BND_RST_RST_CNT n) ∧
    u.regs = ((s.recordCleared n).logDropped n).regs ∧ mget u.bnd.rst n = none ∧ u.bnd.ext = ((s.recordCleared n).logDropped n).bnd.ext ∧
    u.bnd.tt = ((s.recordCleared n).logDropped n).bnd.tt := ⟨_, rfl, rfl, mget_mdel_same _ _, rfl, rfl⟩

theorem exec_bindingResetComplete_resets {s : State} {n : Nat} (hrst : mget s.bnd.rst n = some true) (hopen : s.bndOpen n = false) (htick : s.time.tick = 0)
    (hfrom : mgetD s.bnd.rstFrom n 0 < s.time.frame) :
    ∃ t, exec (.bindingResetComplete n) s = .next t ∧ mget t.bnd.rst n = none ∧ t.fld (BND_RST_RST_CNT n) = min (s.fld (BND_RST_RST_CNT n) + 1) 65535 ∧
      t.bit (BND_ERR_STAT_VALID n) = false ∧ t.word (BND_ERR_CNT0 n) = 0 ∧ t.word (BND_ERR_CNT1 n) = 0 ∧ t.bnd.ext = s.bnd.ext ∧ t.bnd.tt = s.bnd.tt := by
  have hready : (s.resetQuiet n && s.time.tick == 0 && decide (mgetD s.bnd.rstFrom n 0 < s.time.frame)) = true := by
    simp [State.resetQuiet, hrst, hopen, htick, hfrom]
  have hkept := (s.recordCleared n).recordKept_logDropped n
  obtain ⟨u, hu, hregs, hnone, hext, htt⟩ := s.resetDone_eq n
  have hcleared : ∀ (f : Fld) (o : Nat), 0x80 ≤ o → o < 0x100 → f.addr = 0x2000000 + o + n * 0x100 → u.fld f = (s.recordCleared n).fld f :=
    fun f o hlo hhi haddr => (State.fld_congr hregs f).trans (hkept.fld f ⟨o, hlo, hhi, haddr⟩)
  have hfield : ∀ (f : Fld) (o : Nat), 0x80 ≤ o → o < 0x98 → f.addr = 0x2000000 + o + n * 0x100 →
      (u.inc (BND_RST_RST_CNT n)).fld f = (s.recordCleared n).fld f := by
    intro f o hlo hhi haddr
    refine (u.fld_inc_addr (BND_RST_RST_CNT n) f ?_).trans (hcleared f o hlo (by omega) haddr)
    rw [haddr]
    simp only [BND_RST_RST_CNT, BND_RST]
    omega
  refine ⟨_, congrArg s.done ((if_pos hready).trans hu), hnone, ?_, ?_, ?_, ?_, hext.trans hkept.ext, htt.trans hkept.tt⟩
  · refine (u.fld_inc_same (BND_RST_RST_CNT n) (by decide : 16 + 16 ≤ 32)).trans ?_
    rw [hcleared (BND_RST_RST_CNT n) 0x98 (by decide) (by decide) rfl, s.recordCleared_resets]
    rfl
  · exact (congrArg (· == 1) (hfield (BND_ERR_STAT_VALID n) 0x80 (by decide) (by decide) rfl)).trans (s.recordCleared_valid n)
  · exact (State.word_of_fld (hfield ⟨BND_ERR_CNT0 n, 0, 32, _⟩ 0x90 (by decide) (by decide) rfl)).trans (s.recordCleared_counts n).1
  · exact (State.word_of_fld (hfield ⟨BND_ERR_CNT1 n, 0, 32, _⟩ 0x94 (by decide) (by decide) rfl)).trans (s.recordCleared_counts n).2

theorem exec_bindingResetComplete_idle {s : State} {n : Nat}
    (h : mget s.bnd.rst n ≠ some true ∨ s.bndOpen n = true ∨ s.time.tick ≠ 0 ∨ s.time.frame ≤ mgetD s.bnd.rstFrom n 0) :
    exec (.bindingResetComplete n) s = .next s := by
  have hidle : ¬ (s.resetQuiet n && s.time.tick == 0 && decide (mgetD s.bnd.rstFrom n 0 < s.time.frame)) = true := by
    simp only [State.resetQuiet, Bool.and_eq_true, beq_iff_eq, Bool.not_eq_true', decide_eq_true_eq]
    rintro ⟨⟨⟨hrst, hopen⟩, htick⟩, hfrom⟩
    rcases h with h | h | h | h
    · exact h hrst
    · exact Bool.false_ne_true (hopen.symm.trans h)
    · exact h htick
    · omega
  exact (congrArg s.done (if_neg hidle)).trans (State.done_eq_next rfl rfl)

/-- Settles O26: binding resets and harvests are requested by register and opcode, or refused, and end as their clauses say. What a harvest or a reset
raises and records on its way leaves the other fields of the bindings alone. -/
theorem bindingResetAndHarvest : Obligations.BindingResetAndHarvest := by
  unfold Obligations.BindingResetAndHarvest
  refine ⟨fun _ _ _ => exec_bindingResetRequest_accepts, fun _ _ _ => exec_bindingResetRequest_refuses, fun _ _ _ _ => exec_resetBinding_accepts,
    fun _ _ => exec_bindingResetComplete_resets, fun _ _ => exec_bindingResetComplete_idle, ?starts, fun _ _ _ _ => exec_harvestStart_refuses,
    fun _ _ _ => exec_harvestDone_sends, fun _ _ _ => exec_harvestDone_drops, fun _ _ _ _ _ => exec_harvestDone_records, ?noHarvest,
    fun _ _ _ _ => exec_logClearDone_clears, ?noClearing⟩
  case starts =>
    intro s b n w ht hwho hn hbusy hclearing hlog hport hdue
    refine exec_harvestStart_accepts ht hwho hn ?_
    simpa [State.harvestBarred, hbusy, hclearing, hlog, hport] using hdue
  case noHarvest =>
    intro s n ws hnone
    exact (congrArg s.done (State.harvestDone_none hnone ws)).trans (State.done_eq_next rfl rfl)
  case noClearing =>
    intro s n hnone
    exact (congrArg s.done (State.logCleared_of_none hnone)).trans (State.done_eq_next rfl rfl)

end Sys2Proof.Machine
end

section
/-! Proofs of the family 08_home_agent: a read that the drain of the slot it snoops completes in the same step as its data, on which O37 fails. -/
namespace Sys2Proof.Machine
open Sys2Proof

/-! ### The pool's data of an entry that awaits snoops (R172, R178) -/

theorem State.response_data {s : State} {sl id d : Nat} {p : Bool} {e : Tt} {r : HReq} {f : Fetched} (hent : s.ttOf sl id = some e)
    (hwork : e.work = .req r) (hrd : e.rd = true) : s.response sl id (.data d p) f = (s.poolData sl e r d p f).run sl := by
  simp [State.response, hent, hwork, hrd]

theorem ttOf_of_done {s u t : State} (h : s.done u = .next t) (sl id : Nat) : t.ttOf sl id = u.ttOf sl id := by
  obtain rfl := Host.Outcome.next.inj h
  rfl

/-- An Open region of 16 parcels. -/
def openRegion : Region :=
  { tenant := 0, cls := 0, size := 16, ttBase := 0, treePool := 0, treeUnit := 0, treeUnits := 0, releaseFree := false, deleting := false,
    delHandle := none }

/-- Host port 0 holds slot 2, and binding 1 reaches that region as region 3, whose first parcel is on pool port 8. -/
def homeOfRegion : State :=
  let s := (((hostBinding.setCur (BND_REGION_REGION 1) 3).setCur (PRT_CFG_ROLE 8) 2).setCur (PRT_CFG_POOL 8) 1).setBit (PRT_LINK_STAT_UP 8) true
  { ((s.setBit (PRT_LINK_STAT_CXL 8) true).setCur (HOM_HOST_MAP_VALID 2) 1).setFld (HOM_HOST_STAT_STATE 2) 1 with
    bnd.regions := [(3, openRegion)], bnd.tt := [(0, { valid := true, moving := false, pool := 8, ppi := 0, gen := 0 })] }

/-- A request of bulk engine 0 for a line of that region. -/
def bulkRequest (k : HKind) (line : Nat) : HReq :=
  { src := 146, member := 0, port := 0, bnd := 1, op := HKind.op k, dpa := 64 * line, line := line, tag := line, data := 0, poison := false }

/-- A read of line 0, which slot 2 may own: the snoop and the pool read have been sent. -/
def snoopingRead : Tt :=
  { id := 0, line := 0, work := .req (bulkRequest .rdCur 0), phase := .active, snp := 1, waitSnp := [2], wasE := true, rd := true, stage := 1 }

/-- Beside that read, a release sweep of slot 3 on line 16 has all it waited for, as a drain of slot 3 in the lookup of another slice leaves it, and a
write waits behind it. Slot 2 shares line 16, and its port now blocks CXL.cachemem for want of a secure stream (R62), so it takes no snoop. -/
def readBesideWrite : State :=
  { homeOfRegion.setCur (PRT_IDE_CTL_REQ_CM 0) 1 with
    home.serial := 3,
    home.tt := [(0, [snoopingRead, { id := 1, line := 16, work := .sweep 3, phase := .active, snp := 2 },
      { id := 2, line := 16, work := .req (bulkRequest .wr 16), phase := .waiting }])],
    home.dir := [(0, { sharers := 4, excl := true, way := 0, cached := true }), (16, { sharers := 4, excl := false, way := 0, cached := true })] }

theorem readBesideWrite_awaits_data :
    readBesideWrite.ttOf 0 0 = some snoopingRead ∧
      readBesideWrite.lineAt 0 = some { region := 3, rec_ := openRegion, parcel := 0, ln := 0 } ∧ 0 < readBesideWrite.home.serial ∧
      ∀ y ∈ readBesideWrite.tts 0, y.id = 0 → y = snoopingRead := by decide +kernel

/-- The pool's data is in hand; the entry stays open for its snoop. -/
def dataInHand : State := readBesideWrite.poolData 0 snoopingRead (bulkRequest .rdCur 0) 5 false {}

/-- The slice goes on: the sweep ends, the write cannot reach slot 2 with its snoop, so the slot drains, and the drain answers the read's snoop
too: the read completes with poison. -/
theorem dataInHand_run : dataInHand.slotSt 2 = 1 ∧ (dataInHand.run 0).slotSt 2 = 2 ∧ (dataInHand.run 0).ttOf 0 0 = none ∧
    ((dataInHand.run 0).voq 128 146 MsgKind.bulkCpl.cls).any (fun m => m.kind == .bulkCpl && m.line == 0 && m.poison) = true := by decide +kernel

/-- Refutes O37, by its tenth clause: it has an entry that awaits snoops stay open, with the pool's data in hand, when that data comes. The slice goes on
with its other entries in the same step, and no premise keeps one of them from making the snooped slot drain: a snoop that cannot be delivered does so
(R178). The drain answers the read's own snoop, and the read closes. -/
theorem not_homeReadPath : ¬ Obligations.HomeReadPath := by
  unfold Obligations.HomeReadPath
  rintro ⟨-, -, -, -, -, -, -, -, -, hdata, -⟩
  obtain ⟨hent, hline, hserial, hone⟩ := readBesideWrite_awaits_data
  obtain ⟨t, ht, hkept⟩ := hdata readBesideWrite 0 0 5 5 false snoopingRead (bulkRequest .rdCur 0) _ {} hent rfl rfl rfl rfl (by decide) hline
    (if_pos rfl) (by decide) hserial hone
  have hexec : exec (.homeResponseArrival 0 0 (.data 5 false) {}) readBesideWrite = readBesideWrite.done (dataInHand.run 0) :=
    congrArg readBesideWrite.done (State.response_data hent rfl rfl)
  obtain ⟨-, -, hclosed, -⟩ := dataInHand_run
  rw [ttOf_of_done (hexec.symm.trans ht), hclosed] at hkept
  exact Bool.false_ne_true hkept

end Sys2Proof.Machine
end

section
/-! Proofs of the family 09_tenant_protection, first part: tenant key slots, CKIDs, TSP keys and integrity queries (O43). -/
namespace Sys2Proof.Machine
open Sys2Proof

/-! ### What entering a session leaves alone (R309) -/

@[simp] theorem State.entered_ident (s : State) (rq : Rq) : (s.entered rq).ident = s.ident := by rw [State.entered_eq]
@[simp] theorem State.entered_sec (s : State) (rq : Rq) : (s.entered rq).sec = s.sec := by rw [State.entered_eq]
@[simp] theorem State.entered_regs (s : State) (rq : Rq) : (s.entered rq).regs = s.regs := by rw [State.entered_eq]

@[simp] theorem State.entered_bit (s : State) (rq : Rq) (f : Fld) : (s.entered rq).bit f = s.bit f := State.bit_congr (s.entered_regs rq) f

@[simp] theorem State.entered_admitsTenants (s : State) (rq : Rq) : (s.entered rq).admitsTenants = s.admitsTenants := by
  unfold State.admitsTenants
  rw [State.entered_md]

@[simp] theorem State.entered_establishing (s : State) (rq : Rq) (n : Nat) : (s.entered rq).establishing n = s.establishing n := by
  unfold State.establishing
  rw [State.entered_due]

@[simp] theorem State.entered_tenantRegions (s : State) (rq : Rq) (n : Nat) : (s.entered rq).tenantRegions n = s.tenantRegions n := by
  unfold State.tenantRegions
  rw [State.entered_bnd]

@[simp] theorem State.entered_bndRec (s : State) (rq : Rq) (b : Nat) : (s.entered rq).bndRec b = s.bndRec b := by
  unfold State.bndRec
  rw [State.entered_bnd, State.entered_bndRegion]

@[simp] theorem State.entered_lkLocked (s : State) (rq : Rq) : (s.entered rq).lkLocked = s.lkLocked := by
  unfold State.lkLocked
  rw [State.entered_ident]

@[simp] theorem State.entered_derive (s : State) (rq : Rq) (secret : Nat) : (s.entered rq).derive secret = s.derive secret := by
  unfold State.derive
  rw [State.entered_ident]

/-! ### TENANT_ESTABLISH, ENABLE_TENANT and MAP_CKID (R193, R195) -/

/-- Whether a principal is a tenant other than tenant n, whose slot that tenant may not touch. -/
def Principal.foreignTenant (p : Principal) (n : Nat) : Bool :=
  match p with
  | .tenant t => decide (t ≠ n)
  | _ => false

theorem Principal.foreignTenant_eq_false {p : Principal} {n : Nat} (h : ∀ m, p = .tenant m → m = n) : p.foreignTenant n = false := by
  cases p with
  | tenant t => exact decide_eq_false (not_not_intro (h t rfl))
  | _ => rfl

/-- What the establishment of a slot puts in it at its Daybreak: the keys of the secret (R194). -/
def State.establishAct (s : State) (n secret verifier : Nat) : Act :=
  let k := s.derive secret
  .establish n verifier k.1 k.2.1 k.2.2.1 k.2.2.2

theorem exec_tenantEstablish_accepts {s : State} {rq : Rq} {p : Principal} {n secret verifier : Nat} (hs : s.serves rq 0x0500 p = true)
    (hmode : s.admitsTenants = true) (hlife : s.ident.life = .owned) (hn : 1 ≤ n) (hmax : n ≤ 1023) (hen : s.bit (SEC_SLOT_ENABLED n) = true)
    (hown : ∀ m, p = .tenant m → m = n) (hempty : s.slotState n = .empty) (hidle : s.establishing n = false) :
    ∃ t, exec (.tenantEstablish rq n secret verifier) s = .next t ∧ t.replied rq 0x0500 .success s.effFrame [] ∧
      t = { s with
        out := t.out, mbx.sess := t.mbx.sess,
        due := s.due ++ [Due.mk s.effFrame false false false none (some (rqRef rq 0x0500)) (s.establishAct n secret verifier)] } := by
  refine done_submits hs _ _ ?_
  have hopen : ¬ ((! s.admitsTenants) = true ∨ s.ident.life ≠ .owned) := by simp [hmode, hlife]
  have hrange : ¬ (n = 0 ∨ 1023 < n) := by omega
  have hforeign : ¬ p.foreignTenant n = true := by simp [Principal.foreignTenant_eq_false hown]
  have hfree : ¬ (s.slotState n ≠ .empty ∨ s.establishing n = true) := by simp [hempty, hidle]
  simp only [State.entered_admitsTenants, State.entered_ident, State.entered_bit, State.entered_slotState, State.entered_establishing,
    State.entered_derive, State.entered_effFrame, if_neg hopen, if_neg hrange, hen, Bool.not_true, Bool.false_eq_true, if_false, if_neg hfree]
  exact if_neg hforeign

theorem exec_tenantEstablish_refuses {s : State} {rq : Rq} {p : Principal} {n secret verifier : Nat} (hs : s.serves rq 0x0500 p = true)
    (hclosed : s.admitsTenants = false ∨ s.ident.life ≠ .owned) :
    ∃ t, exec (.tenantEstablish rq n secret verifier) s = .next t ∧ s.turnsAway t rq 0x0500 .state := by
  refine done_refuses hs _ _ ?_
  simp only [State.entered_admitsTenants, State.entered_ident]
  exact if_pos (hclosed.imp_left (by simp))

theorem exec_enableTenant_accepts {s : State} {rq : Rq} {p : Principal} {n e : Nat} (hs : s.serves rq 0x0504 p = true) (hn : 1 ≤ n) (hmax : n ≤ 1023)
    (he : e ≤ 1) (hlock : s.lkLocked = false) :
    ∃ t, exec (.enableTenant rq n e) s = .next t ∧ t.replied rq 0x0504 .success s.effFrame [] ∧
      t = { s with
        out := t.out, mbx.sess := t.mbx.sess,
        due := s.due ++ [Due.mk s.effFrame false false false none (some (rqRef rq 0x0504)) (.enableTenant n (e == 1))] } := by
  refine done_submits hs _ _ ?_
  have hrange : ¬ (n = 0 ∨ 1023 < n ∨ 1 < e) := by omega
  simp only [State.entered_lkLocked, State.entered_effFrame, if_neg hrange, hlock, Bool.false_eq_true, if_false]
  rfl

theorem exec_mapCkid_accepts {s : State} {rq : Rq} {p : Principal} {b k n : Nat} {r : Region} (hs : s.serves rq 0x0502 p = true) (hb : b < 4096)
    (hvalid : s.bndValid b = true) (hrec : s.bndRec b = some r) (htenant : r.tenant = n) (hn : n ≠ 0) :
    ∃ t, exec (.mapCkid rq b k n) s = .next t ∧ t.replied rq 0x0502 .success s.effFrame [] ∧
      t = { s with
        out := t.out, mbx.sess := t.mbx.sess,
        due := s.due ++ [Due.mk s.effFrame false false false none (some (rqRef rq 0x0502)) (.mapCkid b k n)] } := by
  refine done_submits hs _ _ ?_
  have hplace : ¬ (4096 ≤ b ∨ (! s.bndValid b) = true) := by simp [hb, hvalid]
  have hagree : ¬ (r.tenant ≠ n ∨ n = 0) := by simp [htenant, hn]
  simp only [State.entered_bndValid, State.entered_bndRec, State.entered_effFrame, if_neg hplace, hrec, if_neg hagree]
  rfl

/-! ### ZEROISE (R196) -/

/-- What an accepted ZEROISE leaves, before it is answered: a long command, and the erasure due. -/
def State.zeroiseBegun (s : State) (rq : Rq) (p : Principal) (n : Nat) : Nat × State :=
  let c := s.lcStart 0x0501 (rqRef rq 0x0501) p (routeTargetOf rq.route rq.carrier)
  (c.1, c.2.addDue (Due.mk s.effFrame false false false (some c.1) none (.zeroise n)))

theorem exec_zeroise_begins {s : State} {rq : Rq} {p : Principal} {n : Nat} (hs : s.serves rq 0x0501 p = true) (hn : 1 ≤ n) (hmax : n ≤ 1023)
    (hown : ∀ m, p = .tenant m → m = n) (hfree : p = .owner → s.tenantRegions n = 0) (hst : s.slotState n ≠ .zeroising) (hslots : s.lcSlots ≠ []) :
    ∃ t h, exec (.zeroise rq n) s = .next t ∧ t.replied rq 0x0501 .inProgress s.effFrame [(2, h)] ∧
      t = { s with
        out := t.out, mbx.sess := t.mbx.sess, mbx.lc := t.mbx.lc, fresh := s.fresh + 1,
        due := s.due ++ [Due.mk s.effFrame false false false (some h) none (.zeroise n)] } := by
  obtain ⟨c, hc⟩ : ∃ c, (s.entered rq).zeroiseBegun rq p n = c := ⟨_, rfl⟩
  have hlong : ∃ t, exec (.zeroise rq n) s = .next t ∧ s.LongBegun t c.2 rq 0x0501 c.1 := by
    refine done_long hs _ _ ?_ ?_ ?_
    · have hrange : ¬ (n = 0 ∨ 1023 < n) := by omega
      have hforeign : ¬ p.foreignTenant n = true := by simp [Principal.foreignTenant_eq_false hown]
      have hbusy : ¬ (p = .owner ∧ s.tenantRegions n ≠ 0) := fun ⟨howner, hreg⟩ => hreg (hfree howner)
      have hfrozen : (s.slotState n == .zeroising) = false := beq_eq_false_iff_ne.2 hst
      subst hc
      simp only [State.entered_tenantRegions, State.entered_lcSlots, State.entered_slotState, State.entered_effFrame, if_neg hrange, if_neg hbusy,
        if_neg hslots, if_neg hst, hfrozen]
      refine (if_neg hforeign).trans ?_
      unfold State.zeroiseBegun
      rw [State.entered_effFrame]
    · rw [← hc, State.entered_eq]
      rfl
    · rw [← hc, State.entered_eq]
      rfl
  obtain ⟨t, ht, hreply, hframe⟩ := hlong
  refine ⟨t, c.1, ht, hreply, ?_⟩
  rw [hframe, ← hc, State.entered_eq]
  rfl

theorem exec_zeroise_busy {s : State} {rq : Rq} {p : Principal} {n : Nat} (hs : s.serves rq 0x0501 p = true) (hn : 1 ≤ n) (hmax : n ≤ 1023)
    (howner : p = .owner) (hreg : s.tenantRegions n ≠ 0) : ∃ t, exec (.zeroise rq n) s = .next t ∧ s.turnsAway t rq 0x0501 .busy := by
  subst howner
  refine done_refuses hs _ _ ?_
  have hrange : ¬ (n = 0 ∨ 1023 < n) := by omega
  simp only [State.entered_tenantRegions, if_neg hrange, Bool.false_eq_true, if_false]
  exact if_pos ⟨trivial, hreg⟩

/-! ### TSP key programming (R195) -/

/-- Whether a TSP secret may replace the keys of slot m: the slot is Established, the session proves its verifier key, and nothing of the tenant is backed. -/
def State.tspProves (s : State) (m : Nat) (x : Spdm) (k : KeySlot) : Prop :=
  k.st = .established ∧ x.mutualAuth = true ∧ x.key = k.verifier ∧ (! s.tenantBacked m) = true

section Tsp

variable {s : State} {n b c secret m : Nat} {x : Spdm} {k : KeySlot} (hx : mget s.mbx.spdm n = some x)
  (hm : mget s.bnd.ckid (b * 65536 + c) = some m) (hk : mget s.sec.slots m = some k)
include hx hm hk

theorem exec_tspKeyProgramming_accepts (h : s.tspProves m x k) :
    exec (.tspKeyProgramming n b c secret) s = .next { s with
      out := .spdm n true :: s.out,
      due := s.due ++ [Due.mk (s.time.frame + 1) false false true none none (.rekey m (Config.hkdf secret s.ident.digest "IASUM DATA" 32)
        (Config.hkdf secret s.ident.digest "IASUM TWEAK" 32) (Config.hkdf secret s.ident.digest "IASUM MAC" 32)
        (Config.hkdf secret s.ident.digest "IASUM CONSENT" 48))] } := by
  refine (congrArg s.done ?_).trans (State.done_eq_next rfl rfl)
  simp only [hx, hm, hk]
  exact if_pos h

theorem exec_tspKeyProgramming_refuses (h : ¬ s.tspProves m x k) :
    exec (.tspKeyProgramming n b c secret) s = .next { s with out := .spdm n false :: s.out } := by
  refine (congrArg s.done ?_).trans (State.done_eq_next rfl rfl)
  simp only [hx, hm, hk]
  exact if_neg h

end Tsp

/-! ### INTEGRITY_QUERY (R211) -/

theorem exec_integrityQuery_reads {s : State} {rq : Rq} {g : Nat} {r : Region} {i : Integ} (hs : s.serves rq 0x0503 (.tenant r.tenant) = true)
    (hregion : mget s.bnd.regions g = some r) (hinteg : mget s.sec.integ g = some i) :
    ∃ t, exec (.integrityQuery rq g) s = .next t ∧
      t.replied rq 0x0503 .success s.time.frame [(4, i.count), (5, i.ofs), (1, i.level), (8, i.frame)] ∧
      t = { s with out := t.out, mbx.sess := t.mbx.sess } := by
  refine done_reads hs _ _ ?_
  simp only [State.entered_bnd, hregion, State.entered_sec, mgetD, hinteg]
  exact if_neg (not_not_intro rfl)

theorem exec_integrityQuery_refuses {s : State} {rq : Rq} {p : Principal} {g : Nat} {r : Region} (hs : s.serves rq 0x0503 p = true)
    (hregion : mget s.bnd.regions g = some r) (hforeign : p ≠ .tenant r.tenant) :
    ∃ t, exec (.integrityQuery rq g) s = .next t ∧ s.turnsAway t rq 0x0503 .permission := by
  refine done_refuses hs _ _ ?_
  simp only [State.entered_bnd, hregion]
  exact if_pos hforeign

/-- Settles O43: a request of a tenant's slot meets its rules one after another, and what it asks for is due at the Daybreak of R36; TSP key programming
turns on whether the session proves the slot; an integrity query on whose region it is. -/
theorem tenantKeys : Obligations.TenantKeys := by
  unfold Obligations.TenantKeys
  refine ⟨fun _ _ _ _ _ _ => exec_tenantEstablish_accepts, fun _ _ _ _ _ _ => exec_tenantEstablish_refuses, fun _ _ _ _ => exec_zeroise_begins,
    fun _ _ _ _ => exec_zeroise_busy, fun _ _ _ _ _ _ _ => exec_mapCkid_accepts, ?programmed, ?turnedDown,
    fun _ _ _ _ _ => exec_integrityQuery_reads, fun _ _ _ _ _ => exec_integrityQuery_refuses, fun _ _ _ _ _ => exec_enableTenant_accepts⟩
  case programmed =>
    intro s n b c secret m x k hx hm hk hst hauth hkey hbacked
    exact exec_tspKeyProgramming_accepts hx hm hk ⟨hst, hauth, hkey, by simp [hbacked]⟩
  case turnedDown =>
    intro s n b c secret m x k hx hm hk hbad
    refine exec_tspKeyProgramming_refuses hx hm hk fun ⟨hst, hauth, hkey, hbacked⟩ => ?_
    rw [Bool.not_eq_true'] at hbacked
    simp [hst, hauth, hkey, hbacked] at hbad

end Sys2Proof.Machine
end

section
/-! Proofs of the family 09_tenant_protection, second part: staged gate rules, consents and bridge windows, and the recheck of a gate's rules (O28). -/
namespace Sys2Proof.Machine
open Sys2Proof

/-! ### Requests that stage (R313) -/

/-- A served request that its opcode accepts leaves what its body left, but for what has been sent and the sessions. -/
theorem done_changes {s : State} {rq : Rq} {op : Nat} {p : Principal} (hs : s.serves rq op p = true) (i : Instr) (body : Principal → State → Ans)
    {u : State} {frame : Nat} (hbody : body p (s.entered rq) = u.okAt frame) (htime : u.time = s.time) (hpending : u.pending = s.pending) :
    ∃ t, s.done (xib op rq i s body) = .next t ∧ t.replied rq op .success frame [] ∧ t = { u with out := t.out, mbx.sess := t.mbx.sess } := by
  obtain ⟨m, hm⟩ := done_entered hs i body hbody rfl
  refine ⟨{ u with out := s.sentReply rq op { status := .success, frame := frame, data := [] } u.out, mbx.sess := m }, hm.trans ?_, rfl, rfl⟩
  unfold State.keepClock
  rw [← htime, ← hpending]
  rfl

/-- The state in which a session holds the staging lock. -/
def State.lockTaken (s : State) (n : Nat) : State := { s with mbx.lock := some n }

/-- Whether a session may stage: the lock is free, or its own. -/
def State.mayStage (s : State) (n : Nat) : Prop := s.mbx.lock = none ∨ s.mbx.lock = some n

@[simp] theorem State.entered_lock (s : State) (rq : Rq) : (s.entered rq).mbx.lock = s.mbx.lock := by rw [State.entered_eq]

theorem State.takeLock_of_mayStage {s : State} {n : Nat} (h : s.mayStage n) : s.takeLock n = some (s.lockTaken n) := by
  unfold State.takeLock State.lockTaken
  rcases h with h | h
  · rw [h]
  · simp only [h, if_true]
    rw [← h]

theorem State.takeLock_of_held {s : State} {n h : Nat} (hlock : s.mbx.lock = some h) (hne : h ≠ n) : s.takeLock n = none := by
  unfold State.takeLock
  rw [hlock]
  exact if_neg hne

section Staging

variable {s : State} {rq : Rq} {op : Nat} {p : Principal} (hs : s.serves rq op p = true) (i : Instr) {body : Principal → State → Ans} {f : State → Ans}
  (hbody : body p (s.entered rq) = (s.entered rq).staging rq f)
include hs hbody

/-- A served request that stages leaves what its body left, but for what has been sent and the sessions. -/
theorem done_stages (hlock : s.mayStage rq.sess) {u : State} (hf : f ((s.entered rq).lockTaken rq.sess) = u.okNow) (htime : u.time = s.time)
    (hpending : u.pending = s.pending) :
    ∃ t, s.done (xib op rq i s body) = .next t ∧ t.replied rq op .success s.time.frame [] ∧ t = { u with out := t.out, mbx.sess := t.mbx.sess } := by
  have htaken := State.takeLock_of_mayStage (s := s.entered rq) (n := rq.sess) (by rwa [State.mayStage, State.entered_lock])
  refine done_changes hs i body ?_ htime hpending
  rw [hbody, State.staging, htaken, ← htime]
  simp only [hf]
  exact if_pos rfl

/-- A served request that its opcode refuses stages nothing, and does not take the lock (R312). -/
theorem done_staging_refuses (hlock : s.mayStage rq.sess) {c : Status}
    (hf : f ((s.entered rq).lockTaken rq.sess) = State.refuse ((s.entered rq).lockTaken rq.sess) c) (hc : c ≠ .success) :
    ∃ t, s.done (xib op rq i s body) = .next t ∧ s.turnsAway t rq op c := by
  have htaken := State.takeLock_of_mayStage (s := s.entered rq) (n := rq.sess) (by rwa [State.mayStage, State.entered_lock])
  refine done_refuses hs i body ?_
  rw [hbody, State.staging, htaken]
  simp only [hf]
  exact if_neg hc

/-- A served request that finds the lock held is counted in MBX_STAGE_REF, and stages nothing. -/
theorem done_staging_busy {n : Nat} (hlock : s.mbx.lock = some n) (hne : n ≠ rq.sess) :
    ∃ t, s.done (xib op rq i s body) = .next t ∧ s.losesLock t rq op := by
  have hans : body p (s.entered rq) = (s.entered rq).loseLock.refuse .busy := by
    rw [hbody, State.staging, State.takeLock_of_held ((s.entered_lock rq).trans hlock) hne]
  obtain ⟨m, hm⟩ := done_entered hs i body hans rfl
  rw [State.entered_eq] at hm
  exact ⟨_, hm, rfl, State.fld_inc_same s MBX_STAGE_REF_STAGE_REF (by decide), rfl⟩

end Staging

/-! ### Staged words (R14, R313) -/

theorem mem_sadd {l : List Nat} {k a : Nat} : a ∈ sadd l k ↔ a = k ∨ a ∈ l := by
  induction l with
  | nil => exact List.mem_cons
  | cons j t ih =>
    unfold sadd
    split_ifs with hlt heq
    · exact List.mem_cons
    · subst heq
      simp
    · rw [List.mem_cons, ih, List.mem_cons, or_left_comm]

theorem State.stageWord_word_same (s : State) (a : Nat) (w : Word) : (s.stageWord a w).word a = mix (shMaskAt a) (s.word a) w :=
  s.word_setWord_same a _

theorem State.stageWord_word_ne (s : State) {a b : Nat} (w : Word) (h : a ≠ b) : (s.stageWord a w).word b = s.word b := rget_rput_ne _ _ _ _ h

theorem State.mem_stageWord_dirty {s : State} {a b : Nat} {w : Word} : b ∈ (s.stageWord a w).dirty ↔ b = a ∨ b ∈ s.dirty := mem_sadd

/-- Stages a list of words, each at its address. -/
def State.stageWords (s : State) (l : List (Nat × Nat)) : State := l.foldl (fun s x => s.stageWord x.1 (BitVec.ofNat 32 x.2)) s

theorem State.stageWords_frame (s : State) (l : List (Nat × Nat)) :
    s.stageWords l = { s with regs := (s.stageWords l).regs, dirty := (s.stageWords l).dirty } := by
  induction l generalizing s with
  | nil => rfl
  | cons x l ih => exact ih (s.stageWord x.1 (BitVec.ofNat 32 x.2))

theorem State.stageWords_word_of_not_mem (s : State) {l : List (Nat × Nat)} {a : Nat} (h : a ∉ l.map Prod.fst) : (s.stageWords l).word a = s.word a := by
  induction l generalizing s with
  | nil => rfl
  | cons x l ih =>
    obtain ⟨hne, hrest⟩ := not_or.1 (mt List.mem_cons.2 h)
    exact (ih _ hrest).trans (s.stageWord_word_ne _ (Ne.symm hne))

theorem State.dirty_subset_stageWords (s : State) (l : List (Nat × Nat)) : s.dirty ⊆ (s.stageWords l).dirty := by
  induction l generalizing s with
  | nil => exact fun _ h => h
  | cons x l ih => exact fun a h => ih _ (State.mem_stageWord_dirty.2 (.inr h))

/-- Of words staged at different addresses, each has its new value in its staged bits, and its address joins the staging area. -/
theorem State.stageWords_at (s : State) {l : List (Nat × Nat)} (hl : (l.map Prod.fst).Nodup) {x : Nat × Nat} (hx : x ∈ l) :
    (s.stageWords l).word x.1 = mix (shMaskAt x.1) (s.word x.1) (BitVec.ofNat 32 x.2) ∧ x.1 ∈ (s.stageWords l).dirty := by
  induction l generalizing s with
  | nil => exact absurd hx List.not_mem_nil
  | cons y l ih =>
    obtain ⟨hy, hrest⟩ := List.nodup_cons.1 hl
    rcases List.mem_cons.1 hx with rfl | hx
    · exact ⟨(State.stageWords_word_of_not_mem _ hy).trans (s.stageWord_word_same _ _),
        State.dirty_subset_stageWords _ l (State.mem_stageWord_dirty.2 (.inl rfl))⟩
    · have hne : y.1 ≠ x.1 := fun h => hy (h ▸ List.mem_map_of_mem hx)
      obtain ⟨hword, hdirty⟩ := ih (s.stageWord y.1 (BitVec.ofNat 32 y.2)) hrest hx
      rw [s.stageWord_word_ne _ hne] at hword
      exact ⟨hword, hdirty⟩

/-! ### LOAD_GATE_RULES and CONSENT (R191, R472) -/

/-- What a piece of a gate's rules leaves: it is stored in what is staged, where that has the length asked for, else among rules that are all missing. -/
def State.rulesLoaded (s : State) (g total first : Nat) (l : List GRule) : State :=
  let base := if (s.stagedRules g).length = total then s.stagedRules g else List.replicate total none
  { s with sec.gstage := mput s.sec.gstage g (storeAt base first l) }

section LoadGateRules

variable {s : State} {rq : Rq} {p : Principal} {g total first n c : Nat} {l : List GRule} (hs : s.serves rq 0x0406 p = true)
include hs

theorem exec_loadGateRules_stages (hlock : s.mayStage rq.sess) (hg : g < 176) (hwho : gateOwnerOnly g = false ∨ p = .owner) (htotal : total ≤ 256)
    (hlen : l.length ≤ 170) (hfit : first + l.length ≤ total) (hsome : total = 0 ∨ l ≠ []) :
    ∃ t, exec (.loadGateRules rq g total first l.length l) s = .next t ∧ t.replied rq 0x0406 .success s.time.frame [] ∧
      t = { s.rulesLoaded g total first l with out := t.out, mbx.sess := t.mbx.sess, mbx.lock := some rq.sess } := by
  obtain ⟨t, ht, hreply, hframe⟩ : ∃ t, exec (.loadGateRules rq g total first l.length l) s = .next t ∧ t.replied rq 0x0406 .success s.time.frame [] ∧
      t = { ((s.entered rq).lockTaken rq.sess).rulesLoaded g total first l with out := t.out, mbx.sess := t.mbx.sess } := by
    refine done_stages hs _ rfl hlock ?_ ?_ ?_
    · have hgate : ¬ 176 ≤ g := by omega
      have howner : ¬ (gateOwnerOnly g = true ∧ p ≠ .owner) := fun ⟨honly, hp⟩ => hwho.elim (by simp [honly]) hp
      have hsize : ¬ (256 < total ∨ 170 < l.length) := by omega
      have hpiece : ¬ (l.length ≠ l.length ∨ total < first + l.length ∨ (total = 0 ∧ first ≠ 0) ∨ (total ≠ 0 ∧ l.length = 0)) := by
        rw [← List.length_pos_iff] at hsome
        omega
      simp only [if_neg hgate, if_neg howner, if_neg hsize, if_neg hpiece]
      rfl
    · exact s.entered_time rq
    · rw [State.entered_eq]
      rfl
  refine ⟨t, ht, hreply, hframe.trans ?_⟩
  rw [State.entered_eq]
  rfl

theorem exec_loadGateRules_busy (hlock : s.mbx.lock = some n) (hne : n ≠ rq.sess) :
    ∃ t, exec (.loadGateRules rq g total first c l) s = .next t ∧ s.losesLock t rq 0x0406 := done_staging_busy hs _ rfl hlock hne

end LoadGateRules

theorem exec_consent_stages {s : State} {rq : Rq} {p : Principal} {tok : Consent} (hs : s.serves rq 0x0407 p = true) (hlock : s.mayStage rq.sess)
    (hmode : s.md.mode ≠ .evacuate) :
    ∃ t, exec (.consent rq tok) s = .next t ∧ t.replied rq 0x0407 .success s.time.frame [] ∧
      t = { s with out := t.out, mbx.sess := t.mbx.sess, mbx.lock := some rq.sess, sec.consents := s.sec.consents ++ [tok] } := by
  obtain ⟨t, ht, hreply, hframe⟩ : ∃ t, exec (.consent rq tok) s = .next t ∧ t.replied rq 0x0407 .success s.time.frame [] ∧
      t = { (s.entered rq).lockTaken rq.sess with sec.consents := s.sec.consents ++ [tok], out := t.out, mbx.sess := t.mbx.sess } := by
    refine done_stages hs _ rfl hlock (u := { (s.entered rq).lockTaken rq.sess with sec.consents := s.sec.consents ++ [tok] }) ?_ ?_ ?_
    · have hopen : ¬ ((s.entered rq).lockTaken rq.sess).md.mode = .evacuate := by rwa [State.lockTaken, State.entered_md]
      rw [if_neg hopen, State.entered_eq]
      rfl
    · exact s.entered_time rq
    · rw [State.entered_eq]
      rfl
  refine ⟨t, ht, hreply, hframe.trans ?_⟩
  rw [State.entered_eq]
  rfl

theorem exec_consent_refuses {s : State} {rq : Rq} {p : Principal} {tok : Consent} (hs : s.serves rq 0x0407 p = true) (hlock : s.mayStage rq.sess)
    (hmode : s.md.mode = .evacuate) : ∃ t, exec (.consent rq tok) s = .next t ∧ s.turnsAway t rq 0x0407 .state := by
  have hclosed : ((s.entered rq).lockTaken rq.sess).md.mode = .evacuate := by rwa [State.lockTaken, State.entered_md]
  exact done_staging_refuses hs _ rfl hlock (if_pos hclosed) (by decide)

/-! ### WINDOW (R268) -/

/-- The words of a window's settings, by their addresses. -/
def windowWords (w cfg base size far irq : Nat) : List (Nat × Nat) :=
  [(LWB_WIN_CFG w, cfg), (LWB_WIN_BASE w, base), (LWB_WIN_SIZE w, size), (LWB_WIN_FAR_LO w, far), (LWB_WIN_FAR_HI w, far / 2 ^ 32), (LWB_WIN_IRQ w, irq)]

theorem windowWords_nodup (w cfg base size far irq : Nat) : ((windowWords w cfg base size far irq).map Prod.fst).Nodup := by
  simp [windowWords, LWB_WIN_CFG, LWB_WIN_BASE, LWB_WIN_SIZE, LWB_WIN_FAR_LO, LWB_WIN_FAR_HI, LWB_WIN_IRQ]

section Window

variable {s : State} {rq : Rq} {p : Principal} {w cfg base size far irq n : Nat} (hs : s.serves rq 0x0800 p = true)
include hs

theorem exec_window_stages (hlock : s.mayStage rq.sess) (hw : w < 64) :
    ∃ t, exec (.window rq w cfg base size far irq) s = .next t ∧ t.replied rq 0x0800 .success s.time.frame [] ∧
      (∀ x ∈ windowWords w cfg base size far irq, t.word x.1 = mix (shMaskAt x.1) (s.word x.1) (BitVec.ofNat 32 x.2) ∧ x.1 ∈ t.dirty) ∧
      t = { s with out := t.out, mbx.sess := t.mbx.sess, mbx.lock := some rq.sess, regs := t.regs, dirty := t.dirty } := by
  obtain ⟨u, hu⟩ : ∃ u, ((s.entered rq).lockTaken rq.sess).stageWords (windowWords w cfg base size far irq) = u := ⟨_, rfl⟩
  have hstaged : u = { (s.entered rq).lockTaken rq.sess with regs := u.regs, dirty := u.dirty } := hu ▸ State.stageWords_frame _ _
  obtain ⟨t, ht, hreply, hframe⟩ : ∃ t, exec (.window rq w cfg base size far irq) s = .next t ∧ t.replied rq 0x0800 .success s.time.frame [] ∧
      t = { u with out := t.out, mbx.sess := t.mbx.sess } := by
    refine done_stages hs _ rfl hlock ?_ ?_ ?_
    · rw [if_neg (by omega), ← hu]
      rfl
    · rw [hstaged, State.entered_eq]
      rfl
    · rw [hstaged, State.entered_eq]
      rfl
  have hregs : t.regs = u.regs := by rw [hframe]
  have hdirty : t.dirty = u.dirty := by rw [hframe]
  refine ⟨t, ht, hreply, fun x hx => ?_, ?_⟩
  · have hold : ((s.entered rq).lockTaken rq.sess).word x.1 = s.word x.1 := State.word_congr (s.entered_regs rq) _
    rw [State.word_congr hregs, hdirty, ← hold, ← hu]
    exact State.stageWords_at _ (windowWords_nodup ..) hx
  · rw [hregs, hdirty, hframe, hstaged, State.entered_eq]
    rfl

theorem exec_window_busy (hlock : s.mbx.lock = some n) (hne : n ≠ rq.sess) :
    ∃ t, exec (.window rq w cfg base size far irq) s = .next t ∧ s.losesLock t rq 0x0800 := done_staging_busy hs _ rfl hlock hne

theorem exec_window_refuses (hlock : s.mayStage rq.sess) (hw : 64 ≤ w) :
    ∃ t, exec (.window rq w cfg base size far irq) s = .next t ∧ s.turnsAway t rq 0x0800 .parameter :=
  done_staging_refuses hs _ rfl hlock (if_pos hw) (by decide)

end Window

/-! ### The recheck of a gate's rules (R213) -/

@[simp] theorem State.reportCode_sec (s : State) (code id : Nat) (addr : Option Nat) (detail : Nat) :
    (s.reportCode code id addr detail).sec = s.sec := by
  unfold State.reportCode
  split
  · exact s.report_sec _
  · rfl

/-- A gate's health word lies in the port blocks or in the SEC block, and no event or fault writes it. -/
theorem State.reportCode_overlap (s : State) {g : Nat} (hg : g < 176) (code id : Nat) (addr : Option Nat) (detail : Nat) :
    (s.reportCode code id addr detail).bit (GATE_HEALTH_OVERLAP g) = s.bit (GATE_HEALTH_OVERLAP g) := by
  by_cases hport : g < 128
  · have haddr : GATE_HEALTH g = 0x1000324 + g * 0x10000 := by
      unfold GATE_HEALTH gateBase
      rw [if_pos hport]
      omega
    refine (s.noted_reportCode code id addr detail).bit ⟨?high, fun t => .inl ?count, fun t => .inl ?seen⟩
    all_goals
      simp only [GATE_HEALTH_OVERLAP, PRT_MF_DROP_MSI_DROP, PRT_MF_DROP, PRT_MF_STAT_DROP_SEEN, PRT_MF_STAT, haddr]
      omega
  · refine s.reportCode_bit code id addr detail (.inr ?_)
    simp only [GATE_HEALTH_OVERLAP, GATE_HEALTH, gateBase, if_neg hport]
    omega

/-- A gate that has counted its recheck. -/
def State.checkCounted (s : State) (g : Nat) : State := s.setFld (GATE_HEALTH_CHECKS g) (s.fld (GATE_HEALTH_CHECKS g) + 1)

theorem exec_gateRuleRecheck_counts {s : State} {g : Nat} (hg : g < 176) (hapart : rulesOverlap (mgetD s.sec.rules g []) = false) :
    exec (.gateRuleRecheck g) s = .next (s.checkCounted g) := by
  refine (congrArg s.done ?_).trans (State.done_eq_next rfl rfl)
  rw [if_neg (by omega), hapart]
  rfl

theorem exec_gateRuleRecheck_reports {s : State} {g : Nat} (hg : g < 176) (hoverlap : rulesOverlap (mgetD s.sec.rules g []) = true) :
    exec (.gateRuleRecheck g) s = s.done (((s.checkCounted g).setBit (GATE_HEALTH_OVERLAP g) true).reportCode 0x0502 g none 0) := by
  refine congrArg s.done ?_
  rw [if_neg (by omega), hoverlap]
  rfl

/-- Settles O28: a request that stages takes the lock and stages what it names, or is turned away, by the lock or by its own rule; a recheck counts, and an
overlap is marked in the gate's health word, which the fault report leaves alone. -/
theorem stagedGatesAndWindows : Obligations.StagedGatesAndWindows := by
  unfold Obligations.StagedGatesAndWindows
  refine ⟨fun _ _ _ _ _ _ _ => exec_loadGateRules_stages, fun _ _ _ _ _ _ _ _ _ => exec_loadGateRules_busy, fun _ _ _ _ => exec_consent_stages,
    fun _ _ _ _ => exec_consent_refuses, fun _ _ _ _ _ _ _ _ _ => exec_window_stages, fun _ _ _ _ _ _ _ _ _ _ => exec_window_busy,
    fun _ _ _ _ _ _ _ _ _ => exec_window_refuses, ?counts, ?reports⟩
  case counts =>
    intro s g hg hapart
    exact ⟨_, exec_gateRuleRecheck_counts hg hapart, State.fld_setFld_same s _ _ (by simp [GATE_HEALTH_CHECKS]), rfl⟩
  case reports =>
    intro s g hg hoverlap
    refine ⟨_, exec_gateRuleRecheck_reports hg hoverlap, ?_, ?_, ?_⟩
    · exact (State.reportCode_overlap _ hg _ _ _ _).trans (State.bit_setBit_same _ _ _ (by simp [GATE_HEALTH_OVERLAP]) rfl)
    · exact State.reportCode_sec _ _ _ _ _
    · exact State.reportCode_bnd _ _ _ _ _

end Sys2Proof.Machine
end

section
/-! Proofs of the family 09_tenant_protection, third part: fabric-manager keys, certificates, measurements, and Sealed metadata that leaves its cache (O16). -/
namespace Sys2Proof.Machine
open Sys2Proof

/-! ### FABRIC_MANAGER_KEY (R295) -/

section FabricManagerKey

variable {s : State} {rq : Rq} {p : Principal} {index digest : Nat} (hs : s.serves rq 0x0108 p = true) (hindex : index ≤ 3)
  (hlife : s.ident.life = .ownerOpen ∨ s.ident.life = .owned)
include hs hindex hlife

theorem exec_fabricManagerKey_installs (hempty : s.ident.fmKeys.getD index 0 = 0) :
    ∃ t, exec (.fabricManagerKey rq index digest) s = .next t ∧ t.replied rq 0x0108 .success s.time.frame [] ∧
      t = { s with out := t.out, mbx.sess := t.mbx.sess, ident.fmKeys := s.ident.fmKeys.set index digest } := by
  obtain ⟨t, ht, hreply, hframe⟩ : ∃ t, exec (.fabricManagerKey rq index digest) s = .next t ∧ t.replied rq 0x0108 .success s.time.frame [] ∧
      t = { s.entered rq with ident.fmKeys := s.ident.fmKeys.set index digest, out := t.out, mbx.sess := t.mbx.sess } := by
    refine done_changes hs _ _ (u := { s.entered rq with ident.fmKeys := s.ident.fmKeys.set index digest }) ?_ (s.entered_time rq) ?_
    · have hrange : ¬ 3 < index := by omega
      have hopen : ¬ (s.ident.life ≠ .ownerOpen ∧ s.ident.life ≠ .owned) := fun ⟨h, h'⟩ => hlife.elim h h'
      simp only [State.entered_ident, if_neg hrange, if_neg hopen, if_pos hempty]
      rw [State.okNow, State.entered_time]
    · rw [State.entered_eq]
  refine ⟨t, ht, hreply, hframe.trans ?_⟩
  rw [State.entered_eq]

theorem exec_fabricManagerKey_replaces (hfull : s.ident.fmKeys.getD index 0 ≠ 0) :
    ∃ t, exec (.fabricManagerKey rq index digest) s = .next t ∧ t.replied rq 0x0108 .success (s.time.frame + 1) [] ∧
      t = { s with
        out := t.out, mbx.sess := t.mbx.sess,
        due := s.due ++ [Due.mk (s.time.frame + 1) false false true none none (.fmKey index digest)] } := by
  obtain ⟨t, ht, hreply, hframe⟩ : ∃ t, exec (.fabricManagerKey rq index digest) s = .next t ∧ t.replied rq 0x0108 .success s.nextFrame [] ∧
      t = { (s.entered rq).submitNext (.fmKey index digest) with out := t.out, mbx.sess := t.mbx.sess } := by
    refine done_changes hs _ _ ?_ (s.entered_time rq) ?_
    · have hrange : ¬ 3 < index := by omega
      have hopen : ¬ (s.ident.life ≠ .ownerOpen ∧ s.ident.life ≠ .owned) := fun ⟨h, h'⟩ => hlife.elim h h'
      simp only [State.entered_ident, State.entered_nextFrame, if_neg hrange, if_neg hopen, if_neg hfull]
    · rw [State.entered_eq]
      rfl
  refine ⟨t, ht, hreply, hframe.trans ?_⟩
  rw [State.entered_eq]
  rfl

end FabricManagerKey

/-! ### SET_CERTIFICATE and GET_MEASUREMENTS (R290, R292) -/

theorem exec_setCertificate_stores {s : State} {spdm chain : Nat} {x : Spdm} (hx : mget s.mbx.spdm spdm = some x) (hauth : x.mutualAuth = true)
    (howner : s.ident.owner ≠ 0) (hkey : x.key = s.ident.owner) :
    exec (.setCertificate spdm 1 chain true) s = .next { s with ident.slot1 := chain, out := .spdm spdm true :: s.out } := by
  refine (congrArg s.done ?_).trans (State.done_eq_next rfl rfl)
  rw [hx]
  exact if_pos ⟨rfl, rfl, hauth, howner, hkey⟩

theorem exec_setCertificate_refuses {s : State} {spdm slot chain : Nat} (hslot : slot ≠ 1) :
    exec (.setCertificate spdm slot chain true) s = .next { s with out := .spdm spdm false :: s.out } := by
  refine (congrArg s.done ?_).trans (State.done_eq_next rfl rfl)
  cases mget s.mbx.spdm spdm with
  | none => rfl
  | some x => exact if_neg fun h => hslot h.1

theorem exec_getMeasurements_reports {s : State} {spdm i : Nat} (hboot : s.md.boot = .up) (hready : s.sec.wsReady = true) (hi : 1 ≤ i) (hmax : i ≤ 6) :
    exec (.getMeasurements spdm i) s = .next { s with out := .measurements spdm s.time.frame [(i, s.measurement i)] :: s.out } := by
  refine (congrArg s.done ?_).trans (State.done_eq_next rfl rfl)
  have hone : i ≠ 0xFF := by omega
  rw [if_pos ⟨hboot, hready⟩, if_neg hone, if_pos ⟨hi, hmax⟩]
  rfl

/-! ### Leaves, nodes and MAC blocks (R201, R203) -/

/-- Stores a leaf. -/
def State.putLeafAt (s : State) (g i : Nat) (l : Leaf) : State := { s with sec.leaves := mputD s.sec.leaves (leafKey g (i / 64) (i % 64)) {} l }

@[simp] theorem State.leafAt_putLeafAt (s : State) (g i : Nat) (l : Leaf) : (s.putLeafAt g i l).leafAt g i = l := mgetD_mputD_same _ _ _ _

@[simp] theorem State.tnode_setTnode (s : State) (level g i : Nat) (n : TNode) : (s.setTnode level g i n).tnode level g i = n := mgetD_mputD_same _ _ _ _

@[simp] theorem State.macRun_setMacRun (s : State) (g i : Nat) (m : MacRun) : (s.setMacRun g i m).macRun g i = m := mgetD_mputD_same _ _ _ _

theorem State.modEntry_leaf (s : State) (g i : Nat) (f : Leaf → Leaf) (h : TNode → TNode) :
    s.modEntry 1 g i f h = s.putLeafAt g i (f (s.leafAt g i)) := rfl

theorem State.dropEntry_leaf (s : State) (g i : Nat) :
    s.dropEntry 1 g i = s.putLeafAt g i { s.leafAt g i with cached := false, dirty := false, waiting := false } := s.modEntry_leaf ..

theorem State.awaitVictim_leaf (s : State) (g i : Nat) : s.awaitVictim 1 g i = s.putLeafAt g i { s.leafAt g i with waiting := true } := s.modEntry_leaf ..

theorem State.leafAt_congr {s t : State} (h : t.sec.leaves = s.sec.leaves) (g i : Nat) : t.leafAt g i = s.leafAt g i := by
  unfold State.leafAt
  rw [h]

theorem State.macRun_congr {s t : State} (h : t.sec = s.sec) (g i : Nat) : t.macRun g i = s.macRun g i := by
  unfold State.macRun
  rw [h]

theorem State.parentCounter_congr {s t : State} (hroots : t.sec.roots = s.sec.roots) (hnodes : t.sec.nodes = s.sec.nodes) (size level g i : Nat) :
    t.parentCounter size level g i = s.parentCounter size level g i := by
  unfold State.parentCounter State.tnode
  rw [hroots, hnodes]

/-- The block of an entry that has been written concerns nothing but an open move of its parcel (R241). -/
theorem State.metaWritten_frame (s : State) (size level g i : Nat) :
    s.metaWritten size level g i = { s with oxb.moves := (s.metaWritten size level g i).oxb.moves } := by
  unfold State.metaWritten
  split
  · rfl
  · rfl

@[simp] theorem State.metaWritten_sec (s : State) (size level g i : Nat) : (s.metaWritten size level g i).sec = s.sec := by rw [State.metaWritten_frame]
@[simp] theorem State.metaWritten_out (s : State) (size level g i : Nat) : (s.metaWritten size level g i).out = s.out := by rw [State.metaWritten_frame]

/-- Below its limit the counter of an entry in its parent rises by one, and no leaf changes (R203, R207). -/
theorem State.bumpParent_below {s : State} {size level g i : Nat} (h : s.parentCounter size level g i + 1 < 2 ^ 56) :
    ∃ t, s.bumpParent size level g i = some t ∧ t.parentCounter size level g i = s.parentCounter size level g i + 1 ∧ t.sec.leaves = s.sec.leaves ∧
      t.out = s.out := by
  have hlimit : ¬ 2 ^ 56 ≤ s.parentCounter size level g i + 1 := by omega
  unfold State.bumpParent
  simp only [if_neg hlimit]
  by_cases htop : level = treeLevels size
  · refine ⟨_, if_pos htop, ?_, rfl, rfl⟩
    generalize s.parentCounter size level g i + 1 = c
    unfold State.parentCounter
    simp only [if_pos htop, mgetD, mget_mput_same, Option.getD_some]
  · refine ⟨_, if_neg htop, ?_, rfl, rfl⟩
    generalize s.parentCounter size level g i + 1 = c
    unfold State.parentCounter
    simp only [if_neg htop, State.tnode_setTnode, mgetD, mget_mput_same, Option.getD_some]

/-! ### Metadata leaves the cache (R207) -/

theorem exec_metadataWriteback_above {s : State} {g level i : Nat} {lost : Bool} {f : Fetched} (h : 12 < level) :
    exec (.metadataWriteback g level i lost f) s = .next s :=
  (congrArg s.done (if_pos h)).trans (State.done_eq_next rfl rfl)

/-- Metadata whose two copies are lost is marked, and stops no overflow where none holds it (Table 9-12). -/
theorem State.metaLeaves_lost {s : State} {g level i : Nat} (f : Fetched) (hlevel : level ≤ 12)
    (hfree : ∀ r, mget s.bnd.regions g = some r → ¬ (level = 1 ∧ (s.loseEntry g level i).remacHolds r 1 i = true)) :
    s.metaLeaves g level i true f = s.loseEntry g level i := by
  unfold State.metaLeaves
  rw [if_neg (by omega), if_neg (by decide)]
  dsimp only
  split
  next r hregion => exact if_neg (hfree r hregion)
  next => rfl

theorem exec_metadataWriteback_losesLeaf {s : State} {g i : Nat} {f : Fetched}
    (hfree : ∀ r, mget s.bnd.regions g = some r → s.remacHolds r 1 i = false) :
    exec (.metadataWriteback g 1 i true f) s = .next (s.putLeafAt g i
      { s.leafAt g i with bothLost := (s.leafAt g i).bothLost || (s.leafAt g i).dirty, dirty := false, cached := false, waiting := false }) := by
  have hlost := State.metaLeaves_lost (g := g) (level := 1) (i := i) f (by decide) fun r hregion ⟨_, hholds⟩ =>
    Bool.false_ne_true ((hfree r hregion).symm.trans hholds)
  exact (congrArg s.done hlost).trans (State.done_eq_next rfl rfl)

theorem exec_metadataWriteback_losesMacs {s : State} {g i : Nat} {f : Fetched} :
    exec (.metadataWriteback g 0 i true f) s = .next (s.setMacRun g (i / 7) { s.macRun g (i / 7) with
      cached := sdel (s.macRun g (i / 7)).cached (i % 7), dirty := sdel (s.macRun g (i / 7)).dirty (i % 7),
      waiting := sdel (s.macRun g (i / 7)).waiting (i % 7),
      lost := if (s.macRun g (i / 7)).dirty.contains (i % 7) then sadd (s.macRun g (i / 7)).lost (i % 7) else (s.macRun g (i / 7)).lost }) :=
  (congrArg s.done (State.metaLeaves_lost f (by decide) fun _ _ h => zero_ne_one h.1)).trans (State.done_eq_next rfl rfl)

/-- Metadata whose copies are good leaves the cache by its write-back. -/
theorem exec_metadataWriteback_kept {s : State} {g level i : Nat} {f : Fetched} (h : level ≤ 12) :
    exec (.metadataWriteback g level i false f) s = s.done (s.writeBack g level i f) := by
  refine congrArg s.done ?_
  unfold State.metaLeaves
  rw [if_neg (by omega)]
  rfl

theorem State.writeBack_uncached {s : State} {g i : Nat} (f : Fetched) (hcached : (s.leafAt g i).cached = false) : s.writeBack g 1 i f = s := by
  unfold State.writeBack State.entryCached
  cases mget s.bnd.regions g with
  | none => rfl
  | some r => simp [hcached]

section LeafLeaves

variable {s : State} {g i : Nat} {r : Region} (f : Fetched) (hregion : mget s.bnd.regions g = some r) (hcached : (s.leafAt g i).cached = true)
include hregion hcached

theorem State.writeBack_clean (hclean : (s.leafAt g i).dirty = false) :
    s.writeBack g 1 i f = s.putLeafAt g i { s.leafAt g i with cached := false, dirty := false, waiting := false } := by
  rw [← State.dropEntry_leaf]
  unfold State.writeBack State.entryCached
  simp only [hregion, hcached, hclean, if_true, one_ne_zero, if_false, Bool.not_true, Bool.not_false, Bool.false_eq_true]

theorem State.writeBack_waits (hdirty : (s.leafAt g i).dirty = true) (hmay : s.mayWriteBack r 1 g i (s.leafAt g i).wbFrame = false) :
    s.writeBack g 1 i f = s.putLeafAt g i { s.leafAt g i with waiting := true } := by
  rw [← State.awaitVictim_leaf]
  unfold State.writeBack State.entryCached
  simp only [hregion, hcached, hdirty, hmay, if_true, one_ne_zero, if_false, Bool.not_true, Bool.not_false, Bool.false_eq_true]

theorem State.writeBack_writes {s1 : State} {km : Nat} (hdirty : (s.leafAt g i).dirty = true)
    (hmay : s.mayWriteBack r 1 g i (s.leafAt g i).wbFrame = true) (hkey : s.macKey r.tenant = some km)
    (hpath : s.checkPath km g r 1 i f true = (none, s1)) : s.writeBack g 1 i f = s1.writeEntry km g r 1 i := by
  unfold State.writeBack State.entryCached
  simp only [hregion, hcached, hdirty, hmay, hkey, hpath, if_true, one_ne_zero, if_false, Bool.not_true, Bool.false_eq_true]

end LeafLeaves

/-- What a dirty leaf leaves whose counter has risen: its block is sent, under a new MAC, and it is clean and out of the cache. -/
def State.leafSent (s : State) (km g i size frame pool a : Nat) : State :=
  let b := s.entryBody 1 g i
  let m := entryMac km 1 i g (s.parentCounter size 1 g i) b
  (s.emit (.poolBlocks pool a [b + m * 2 ^ macBit 1])).putLeafAt g i
    { s.leafAt g i with cached := false, dirty := false, waiting := false, wbFrame := some frame, mac := some m }

theorem State.writeEntry_leaf {s s2 s3 : State} {km g i pool a : Nat} {r : Region} (haccess : s.metaAccess .write r 1 i = (some (pool, a), s2))
    (hbump : s2.bumpParent r.size 1 g i = some s3) :
    s.writeEntry km g r 1 i = (s3.leafSent km g i r.size s.time.frame pool a).metaWritten r.size 1 g i := by
  unfold State.writeEntry
  simp only [haccess, hbump]
  rfl

/-- A leaf that has been written to its place (R207). -/
structure State.LeafWritten (s t : State) (km g i size frame pool a : Nat) : Prop where
  cached : (t.leafAt g i).cached = false
  dirty : (t.leafAt g i).dirty = false
  wbFrame : (t.leafAt g i).wbFrame = some frame
  counter : t.parentCounter size 1 g i = s.parentCounter size 1 g i + 1
  mac : (t.leafAt g i).mac = some (entryMac km 1 i g (s.parentCounter size 1 g i + 1) (s.entryBody 1 g i))
  out : t.out = .poolBlocks pool a
    [s.entryBody 1 g i + entryMac km 1 i g (s.parentCounter size 1 g i + 1) (s.entryBody 1 g i) * 2 ^ macBit 1] :: s.out

theorem State.leafSent_written {s s3 : State} {g i size : Nat} (km frame pool a : Nat)
    (hcounter : s3.parentCounter size 1 g i = s.parentCounter size 1 g i + 1) (hleaves : s3.sec.leaves = s.sec.leaves) (hout : s3.out = s.out) :
    s.LeafWritten ((s3.leafSent km g i size frame pool a).metaWritten size 1 g i) km g i size frame pool a := by
  have hsec := (s3.leafSent km g i size frame pool a).metaWritten_sec size 1 g i
  have hbody : s3.entryBody 1 g i = s.entryBody 1 g i := congrArg Leaf.body (State.leafAt_congr hleaves g i)
  have hleaf : ((s3.leafSent km g i size frame pool a).metaWritten size 1 g i).leafAt g i = { s3.leafAt g i with
      cached := false, dirty := false, waiting := false, wbFrame := some frame,
      mac := some (entryMac km 1 i g (s.parentCounter size 1 g i + 1) (s.entryBody 1 g i)) } := by
    rw [State.leafAt_congr (congrArg SecSt.leaves hsec), ← hcounter, ← hbody]
    exact State.leafAt_putLeafAt ..
  constructor
  case cached => rw [hleaf]
  case dirty => rw [hleaf]
  case wbFrame => rw [hleaf]
  case mac => rw [hleaf]
  case counter => exact (State.parentCounter_congr (congrArg SecSt.roots hsec) (congrArg SecSt.nodes hsec) ..).trans hcounter
  case out =>
    rw [State.metaWritten_out, ← hcounter, ← hbody, ← hout]
    rfl

theorem exec_metadataWriteback_writesLeaf {s s1 s2 : State} {g i km pool a : Nat} {f : Fetched} {r : Region} (hregion : mget s.bnd.regions g = some r)
    (hcached : (s.leafAt g i).cached = true) (hdirty : (s.leafAt g i).dirty = true) (hmay : s.mayWriteBack r 1 g i (s.leafAt g i).wbFrame = true)
    (hkey : s.macKey r.tenant = some km) (hpath : s.checkPath km g r 1 i f true = (none, s1))
    (haccess : s1.metaAccess .write r 1 i = (some (pool, a), s2)) (hlimit : s2.parentCounter r.size 1 g i + 1 < 2 ^ 56) :
    ∃ t, exec (.metadataWriteback g 1 i false f) s = s.done t ∧ s2.LeafWritten t km g i r.size s1.time.frame pool a := by
  obtain ⟨s3, hbump, hcounter, hleaves, hout⟩ := State.bumpParent_below hlimit
  refine ⟨_, ?_, State.leafSent_written km s1.time.frame pool a hcounter hleaves hout⟩
  rw [exec_metadataWriteback_kept (by decide), State.writeBack_writes f hregion hcached hdirty hmay hkey hpath, State.writeEntry_leaf haccess hbump]

/-- The MAC blocks of a leaf, one of them having left the cache for its slot. -/
def MacRun.without (m : MacRun) (b frame : Nat) : MacRun :=
  { m with cached := sdel m.cached b, dirty := sdel m.dirty b, waiting := sdel m.waiting b, wb := mput m.wb b frame }

/-- What a dirty MAC block leaves that is written to its slot, without any change of a leaf or node. -/
def State.macsSent (s : State) (m : MacRun) (g i frame pool a : Nat) : State :=
  (s.emit (.poolBlocks pool a [m.run.getD 0 / 2 ^ (512 * (i % 7)) % 2 ^ 512])).setMacRun g (i / 7) (m.without (i % 7) frame)

theorem State.writeBack_macs {s s1 : State} {g i pool a : Nat} {r : Region} (f : Fetched) (hregion : mget s.bnd.regions g = some r)
    (hcached : (s.macRun g (i / 7)).cached.contains (i % 7) = true) (hdirty : (s.macRun g (i / 7)).dirty.contains (i % 7) = true)
    (hmay : s.mayWriteBack r 0 g i (mget (s.macRun g (i / 7)).wb (i % 7)) = true) (haccess : s.metaAccess .write r 0 i = (some (pool, a), s1)) :
    s.writeBack g 0 i f = (s1.macsSent (s.macRun g (i / 7)) g i s.time.frame pool a).metaWritten r.size 0 g i := by
  unfold State.writeBack State.writeMacBlock
  simp only [hregion, if_true, hcached, hdirty, hmay, Bool.not_true, Bool.false_eq_true, if_false, haccess]
  rfl

theorem exec_metadataWriteback_writesMacs {s s1 : State} {g i pool a : Nat} {f : Fetched} {r : Region} (hregion : mget s.bnd.regions g = some r)
    (hcached : (s.macRun g (i / 7)).cached.contains (i % 7) = true) (hdirty : (s.macRun g (i / 7)).dirty.contains (i % 7) = true)
    (hmay : s.mayWriteBack r 0 g i (mget (s.macRun g (i / 7)).wb (i % 7)) = true) (haccess : s.metaAccess .write r 0 i = (some (pool, a), s1)) :
    ∃ t, exec (.metadataWriteback g 0 i false f) s = s.done t ∧ t.macRun g (i / 7) = (s.macRun g (i / 7)).without (i % 7) s.time.frame ∧
      t.out = .poolBlocks pool a [(s.macRun g (i / 7)).run.getD 0 / 2 ^ (512 * (i % 7)) % 2 ^ 512] :: s1.out ∧
      t.sec.leaves = s1.sec.leaves ∧ t.sec.nodes = s1.sec.nodes ∧ t.sec.roots = s1.sec.roots := by
  have hsec := (s1.macsSent (s.macRun g (i / 7)) g i s.time.frame pool a).metaWritten_sec r.size 0 g i
  refine ⟨_, (exec_metadataWriteback_kept (by decide)).trans (congrArg s.done (State.writeBack_macs f hregion hcached hdirty hmay haccess)), ?_⟩
  rw [State.macRun_congr hsec, State.metaWritten_out, hsec]
  exact ⟨State.macRun_setMacRun .., rfl, rfl, rfl, rfl⟩

/-- Settles O16: a key goes to an empty place at once and replaces another at the Daybreak, a certificate goes to slot 1 alone, a measurement is that of its
index; metadata that leaves the cache is dropped, waits, is written under a counter that has risen, or is marked as lost. -/
theorem keysAndMetadata : Obligations.KeysAndMetadata := by
  unfold Obligations.KeysAndMetadata
  refine ⟨fun _ _ _ _ _ => exec_fabricManagerKey_installs, fun _ _ _ _ _ => exec_fabricManagerKey_replaces, fun _ _ _ _ => exec_setCertificate_stores,
    fun _ _ _ _ => exec_setCertificate_refuses, fun _ _ _ => exec_getMeasurements_reports, fun _ _ _ _ => exec_metadataWriteback_losesLeaf,
    fun _ _ _ _ => exec_metadataWriteback_losesMacs, fun _ _ _ _ _ _ => exec_metadataWriteback_above, ?uncached, ?clean, ?written, ?waits, ?macs⟩
  case uncached =>
    intro s g i f hcached
    rw [exec_metadataWriteback_kept (by decide), State.writeBack_uncached f hcached]
    exact State.done_eq_next rfl rfl
  case clean =>
    intro s g i f r hregion hcached hclean
    rw [exec_metadataWriteback_kept (by decide), State.writeBack_clean f hregion hcached hclean]
    exact State.done_eq_next rfl rfl
  case written =>
    intro s s1 s2 g i km pool a f r hregion hcached hdirty hmay hkey hpath haccess hlimit
    obtain ⟨t, ht, h⟩ := exec_metadataWriteback_writesLeaf hregion hcached hdirty hmay hkey hpath haccess hlimit
    exact ⟨_, ht, h.cached, h.dirty, h.wbFrame, h.counter, h.mac, h.out⟩
  case waits =>
    intro s g i f r hregion hcached hdirty hmay
    rw [exec_metadataWriteback_kept (by decide), State.writeBack_waits f hregion hcached hdirty hmay]
    exact State.done_eq_next rfl rfl
  case macs =>
    intro s s1 g i pool a f r hregion hcached hdirty hmay haccess
    obtain ⟨t, ht, h⟩ := exec_metadataWriteback_writesMacs hregion hcached hdirty hmay haccess
    exact ⟨_, ht, h⟩

end Sys2Proof.Machine
end

section
/-! Proofs of the family 10_oxbow, first part: an acknowledged copy write with a write of its parcel in the retry queue, on which O29 fails, and a queue
whose descriptors carry numbers above the next one's, on which O32 fails. -/
namespace Sys2Proof.Machine
open Sys2Proof

theorem home_of_done {s u t : State} (h : s.done u = .next t) : t.home = u.home := by
  rw [← Host.Outcome.next.inj h]
  rfl

theorem oxb_of_done {s u t : State} (h : s.done u = .next t) : t.oxb = u.oxb := by
  rw [← Host.Outcome.next.inj h]
  rfl

/-! ### A copy write acknowledged after the flip (R237, R239) -/

/-- The entry that line 0 had before its parcel was moved, on pool port 8. -/
def entryBeforeFlip : TtEntry := { valid := true, moving := false, pool := 8, ppi := 0, gen := 0 }

/-- The entry that the flip has put in force, on pool port 9. -/
def entryAfterFlip : TtEntry := { entryBeforeFlip with pool := 9, gen := 1 }

/-- A write of line 0 that was accepted before the flip and waits in its slice's retry queue. -/
def retriedWrite : Retry := { r := bulkRequest .wr 0, err := .none_, ent := entryBeforeFlip }

/-- The flip is over; line 0's copy write is not acknowledged, and the write waits. No writeback and no transaction entry is there. -/
def flippedParcel : State :=
  { State.reset with bnd.tt := [(0, entryAfterFlip)], oxb.unacked := [0], home.retry := [(0, [retriedWrite])] }

/-- The acknowledgement has the waiting write take the entry now in force (R239). -/
theorem flippedParcel_copyAck : (flippedParcel.copyAck 0 0 0).home.retry = [(0, [{ retriedWrite with ent := entryAfterFlip }])] := by decide +kernel

theorem entryBeforeFlip_ne_after : [(0, [retriedWrite])] ≠ [(0, [{ retriedWrite with ent := entryAfterFlip }])] := by decide

/-- Refutes O29, by its fifth clause: it has the acknowledgement of a line that waits after a flip change nothing but the list of such lines where the home
agent holds no writeback and no transaction entry. No premise speaks of the retry queues, and a write of the parcel that waits in one takes the entry in
force (R237, R239). -/
theorem not_moveCopying : ¬ Obligations.MoveCopying := by
  unfold Obligations.MoveCopying
  rintro ⟨-, -, -, -, hack, -⟩
  have hnext := hack flippedParcel 0 0 0 rfl (by decide) rfl rfl
  have hexec : exec (.copyWriteAck 0 0 0) flippedParcel = flippedParcel.done (flippedParcel.copyAck 0 0 0) := rfl
  have hhome := home_of_done (hexec.symm.trans hnext)
  exact entryBeforeFlip_ne_after ((congrArg HomeSt.retry hhome).trans flippedParcel_copyAck)

/-! ### The numbers of a queue's descriptors (R246) -/

/-- A descriptor that breaks Table 10-5: operation 0 is none of the five. -/
def badDesc : BulkDesc :=
  { op := 0, flags := 0, srcBind := 0, dstBind := 0, srcDpa := 0, dstDpa := 0, len := 64, pattern := 0, cpl := 0, tag := 0, resv := 0 }

/-- A descriptor of queue 0 that runs, numbered 5. -/
def runningCopy : BulkRun := { queue := 0, num := 5, desc := { badDesc with op := 1 }, started := true }

/-- The next of the queue, with FENCE: it waits for the first. -/
def fencedCopy : BulkRun := { queue := 0, num := 6, desc := { badDesc with op := 1, flags := 2 } }

/-- Queue 0 is enabled for host port 0, which is up with Bus Master Enable set. Its two descriptors are numbered above the number that the next one
takes, and its ring holds a further one. -/
def numbersBehind : State :=
  let s := (hostPortUp.setBit (OXB_BQ_CFG_EN 0) true).setFld (OXB_BQ_TAIL_TAIL 0) 1
  { s with evt.mf := [(0, { bme := true })], oxb.runs := [runningCopy, fencedCopy], oxb.serial := 0 }

theorem numbersBehind_fetches : numbersBehind.queueTurn 0 = true ∧ numbersBehind.inHold = false ∧ numbersBehind.md.mode ≠ .quarantine ∧
    numbersBehind.canWrite (numbersBehind.queuePort 0) = true := by decide +kernel

theorem numbersBehind_waits : (∃ y ∈ numbersBehind.oxb.runs, y.queue = 0 ∧ y.started = false) ∧
    ∀ y ∈ numbersBehind.oxb.runs, y.queue = 0 → numbersBehind.runMayStart y = false := by decide +kernel

/-- The fetched descriptor counts as the first of its queue: it starts at once, and is completed with its error. -/
theorem numbersBehind_bulkFetched : (numbersBehind.bulkFetched 0 badDesc true).oxb.runs = [runningCopy, fencedCopy] := by decide +kernel

/-- Refutes O32, by its twelfth clause: it has a descriptor wait that is fetched behind one that may not start. A descriptor stands behind those of its
queue with lower numbers (R246), and no premise keeps the numbers of those already fetched below the one it takes. -/
theorem not_bulkEngines : ¬ Obligations.BulkEngines := by
  unfold Obligations.BulkEngines
  rintro ⟨-, -, -, -, -, -, -, -, -, -, -, hwaits, -⟩
  obtain ⟨hturn, hhold, hmode, hwrite⟩ := numbersBehind_fetches
  obtain ⟨hunstarted, hnone⟩ := numbersBehind_waits
  obtain ⟨t, ht, -, -, hruns⟩ := hwaits numbersBehind 0 badDesc (by decide) hturn hhold hmode hwrite hunstarted hnone
  have hfetched : t.oxb.runs = [runningCopy, fencedCopy] := (congrArg OxbSt.runs (oxb_of_done ht)).trans numbersBehind_bulkFetched
  have hlengths := congrArg List.length (hfetched.symm.trans hruns)
  exact absurd hlengths (by decide)

end Sys2Proof.Machine
end

section
/-! Proofs of the family 10_oxbow, second part: placement directives, move aborts and heat queries (O30). -/
namespace Sys2Proof.Machine
open Sys2Proof

/-! ### What entering a session leaves alone (R309) -/

@[simp] theorem State.entered_oxb (s : State) (rq : Rq) : (s.entered rq).oxb = s.oxb := by rw [State.entered_eq]

@[simp] theorem State.entered_policyOf (s : State) (rq : Rq) (g : Nat) : (s.entered rq).policyOf g = s.policyOf g := by
  rw [State.entered_eq]
  rfl

@[simp] theorem State.entered_directiveTarget (s : State) (rq : Rq) (g p : Nat) : (s.entered rq).directiveTarget g p = s.directiveTarget g p := by
  rw [State.entered_eq]
  rfl

@[simp] theorem State.entered_moveOf (s : State) (rq : Rq) (g r : Nat) : (s.entered rq).moveOf g r = s.moveOf g r := by
  rw [State.entered_eq]
  rfl

@[simp] theorem State.entered_bindingsOf (s : State) (rq : Rq) (g : Nat) : (s.entered rq).bindingsOf g = s.bindingsOf g := by
  rw [State.entered_eq]
  rfl

@[simp] theorem State.entered_curBit (s : State) (rq : Rq) (f : Fld) : (s.entered rq).curBit f = s.curBit f := by
  rw [State.entered_eq]
  rfl

@[simp] theorem State.entered_ttEntry (s : State) (rq : Rq) (i : Nat) : (s.entered rq).ttEntry i = s.ttEntry i := by
  rw [State.entered_eq]
  rfl

@[simp] theorem State.entered_listed (s : State) (rq : Rq) (i : Nat) : (s.entered rq).listed i = s.listed i := by
  rw [State.entered_eq]
  rfl

/-! ### PLACEMENT_DIRECTIVE (R229) -/

/-- The long command that an accepted directive begins, and the state with the directive at the end of the list. -/
def State.directiveBegun (s : State) (rq : Rq) (p : Principal) (g first count pool : Nat) : Nat × State :=
  let c := (s.entered rq).lcStart 0x0600 (rqRef rq 0x0600) p (routeTargetOf rq.route rq.carrier)
  (c.1, { c.2 with
    oxb.directives := c.2.oxb.directives ++ [{ region := g, firstP := first, count := count, pool := pool, next := 0, handle := c.1 }] })

theorem State.directiveBegun_eq (s : State) (rq : Rq) (p : Principal) (g first count pool : Nat) :
    (s.directiveBegun rq p g first count pool).2 = { s with
      mbx := (s.directiveBegun rq p g first count pool).2.mbx, fresh := (s.directiveBegun rq p g first count pool).2.fresh,
      oxb.directives := s.oxb.directives ++ [{
        region := g, firstP := first, count := count, pool := pool, next := 0, handle := (s.directiveBegun rq p g first count pool).1 }] } := by
  unfold State.directiveBegun
  rw [State.entered_eq]
  rfl

theorem exec_placementDirective_begins {s : State} {rq : Rq} {p : Principal} {g first count pool : Nat} {r : Region} (hs : s.serves rq 0x0600 p = true)
    (hreg : mget s.bnd.regions g = some r) (hlives : r.deleting = false) (hcount : 1 ≤ count) (hend : first + count ≤ r.size)
    (hpolicy : s.policyOf g ≠ 0) (hpool : pool ≤ 127) (htarget : s.directiveTarget g pool = true)
    (hidle : ∀ k, k < count → s.moveOf g (first + k) = none) (hslots : s.lcSlots ≠ []) :
    ∃ t, exec (.placementDirective rq g first count pool) s = .next t ∧
      s.LongBegun t (s.directiveBegun rq p g first count pool).2 rq 0x0600 (s.directiveBegun rq p g first count pool).1 := by
  refine done_long hs _ _ ?_ ?_ ?_
  · have hrange : ¬ (r.deleting = true ∨ count = 0 ∨ r.size < first + count) := by
      rw [hlives]
      simp only [Bool.false_eq_true, false_or]
      omega
    have hmay : ¬ (s.policyOf g = 0 ∨ 127 < pool ∨ (! s.directiveTarget g pool) = true) := by
      simp only [htarget, Bool.not_true, Bool.false_eq_true, or_false]
      omega
    have hopen : ¬ (List.range count).any (fun k => (s.moveOf g (first + k)).isSome) = true := by
      simpa using hidle
    simp only [State.entered_bnd, hreg, if_neg hrange, State.entered_policyOf, State.entered_directiveTarget, if_neg hmay, State.entered_moveOf,
      if_neg hopen, State.entered_lcSlots, if_neg hslots, State.entered_effFrame]
    rfl
  · rw [State.directiveBegun_eq]
  · rw [State.directiveBegun_eq]

theorem exec_placementDirective_refuses {s : State} {rq : Rq} {p : Principal} {g first count pool : Nat} {r : Region} (hs : s.serves rq 0x0600 p = true)
    (hreg : mget s.bnd.regions g = some r)
    (hbad : count = 0 ∨ r.size < first + count ∨ s.policyOf g = 0 ∨ 127 < pool ∨ s.directiveTarget g pool = false) :
    ∃ t, exec (.placementDirective rq g first count pool) s = .next t ∧ s.turnsAway t rq 0x0600 .parameter := by
  refine done_refuses hs _ _ ?_
  simp only [State.entered_bnd, hreg, State.entered_policyOf, State.entered_directiveTarget]
  by_cases hrange : r.deleting = true ∨ count = 0 ∨ r.size < first + count
  · exact if_pos hrange
  · have hmay : s.policyOf g = 0 ∨ 127 < pool ∨ (! s.directiveTarget g pool) = true := by
      rw [Bool.not_eq_true']
      tauto
    exact (if_neg hrange).trans (if_pos hmay)

/-! ### The abort of one move (R240) -/

theorem mem_of_mget {α : Type} {m : NMap α} {k : Nat} {v : α} (h : mget m k = some v) : (k, v) ∈ m := by
  induction m with
  | nil => exact absurd h (by simp [mget])
  | cons e t ih =>
    obtain ⟨j, u⟩ := e
    unfold mget at h
    split_ifs at h with hkey
    · obtain rfl := hkey
      obtain rfl := Option.some.inj h
      exact List.mem_cons_self
    · exact List.mem_cons_of_mem _ (ih h)

/-- Every open move of `s` is open in `t`, on the same side of its commit point, and an abort that was accepted stays accepted. -/
def State.MovesKept (s t : State) : Prop :=
  ∀ k x, mget s.oxb.moves k = some x → ∃ y, mget t.oxb.moves k = some y ∧ y.past = x.past ∧ (x.abort.isSome = true → y.abort.isSome = true)

theorem State.MovesKept.refl (s : State) : s.MovesKept s := fun _ x hx => ⟨x, hx, rfl, id⟩

theorem State.MovesKept.trans {s t u : State} (h : s.MovesKept t) (g : t.MovesKept u) : s.MovesKept u := by
  intro k x hx
  obtain ⟨y, hy, hpast, habort⟩ := h k x hx
  obtain ⟨z, hz, hpast', habort'⟩ := g k y hy
  exact ⟨z, hz, hpast'.trans hpast, habort' ∘ habort⟩

/-- An abort changes registers and the open moves alone. -/
theorem State.abortMove_frame (s : State) (m : Nat) (st : Status) :
    (s.abortMove m st).2 = { s with regs := (s.abortMove m st).2.regs, oxb.moves := (s.abortMove m st).2.oxb.moves } := by
  unfold State.abortMove
  split
  · rfl
  · split_ifs <;> rfl

theorem State.abortMove_kept (s : State) (m : Nat) (st : Status) : s.MovesKept (s.abortMove m st).2 := by
  unfold State.abortMove
  split
  next => exact .refl s
  next x hx =>
    split
    next => exact .refl s
    next =>
      split
      next => exact .refl s
      next =>
        intro k y hy
        by_cases hk : m = k
        · subst hk
          obtain rfl := Option.some.inj (hx.symm.trans hy)
          exact ⟨_, mget_mput_same _ _ _, rfl, fun _ => rfl⟩
        · exact ⟨y, (mget_mput_ne _ _ hk).trans hy, rfl, id⟩

/-- The abort of a move that is not past its commit point is accepted. -/
theorem State.abortMove_aborts {s : State} {m : Nat} {x : Move} (hx : mget s.oxb.moves m = some x) (hpast : x.past = false) (st : Status) :
    ∃ y, mget (s.abortMove m st).2.oxb.moves m = some y ∧ y.abort.isSome = true := by
  unfold State.abortMove
  simp only [hx, hpast, Bool.false_eq_true, if_false]
  split
  next hsome => exact ⟨x, hx, hsome⟩
  next => exact ⟨_, mget_mput_same _ _ _, rfl⟩

/-! ### MOVE_ABORT (R240) -/

/-- The abort of one of the moves that MOVE_ABORT names, counted among those accepted or among those too late. -/
def abortCounted (a : Nat × Nat × State) (e : Nat × Move) : Nat × Nat × State :=
  let t := a.2.2.abortMove e.1 .aborted
  if t.1 then (a.1 + 1, a.2.1, t.2) else (a.1, a.2.1 + 1, t.2)

theorem abortCounted_state (a : Nat × Nat × State) (e : Nat × Move) : (abortCounted a e).2.2 = (a.2.2.abortMove e.1 .aborted).2 := by
  unfold abortCounted
  dsimp only
  split_ifs <;> rfl

theorem abortCounted_sum (a : Nat × Nat × State) (e : Nat × Move) : (abortCounted a e).1 + (abortCounted a e).2.1 = a.1 + a.2.1 + 1 := by
  unfold abortCounted
  dsimp only
  split_ifs <;> dsimp only <;> omega

theorem foldl_abortCounted_sum (l : List (Nat × Move)) (a : Nat × Nat × State) :
    (l.foldl abortCounted a).1 + (l.foldl abortCounted a).2.1 = a.1 + a.2.1 + l.length := by
  induction l generalizing a with
  | nil => rfl
  | cons e l ih =>
    rw [List.foldl_cons, ih, abortCounted_sum, List.length_cons]
    omega

theorem foldl_abortCounted_frame (l : List (Nat × Move)) (a : Nat × Nat × State) :
    (l.foldl abortCounted a).2.2 =
      { a.2.2 with regs := (l.foldl abortCounted a).2.2.regs, oxb.moves := (l.foldl abortCounted a).2.2.oxb.moves } := by
  induction l generalizing a with
  | nil => rfl
  | cons e l ih =>
    rw [List.foldl_cons, ih, abortCounted_state, State.abortMove_frame]

theorem foldl_abortCounted_kept (l : List (Nat × Move)) (a : Nat × Nat × State) : a.2.2.MovesKept (l.foldl abortCounted a).2.2 := by
  induction l generalizing a with
  | nil => exact .refl _
  | cons e l ih => exact (abortCounted_state a e ▸ a.2.2.abortMove_kept e.1 .aborted).trans (ih _)

/-- Each of the moves that is not past its commit point has an abort accepted in the end. -/
theorem foldl_abortCounted_aborts {l : List (Nat × Move)} {a : Nat × Nat × State} {k : Nat} {x z : Move} (hmem : (k, z) ∈ l)
    (hx : mget a.2.2.oxb.moves k = some x) (hpast : x.past = false) :
    ∃ y, mget (l.foldl abortCounted a).2.2.oxb.moves k = some y ∧ y.abort.isSome = true := by
  induction l generalizing a x with
  | nil => exact absurd hmem List.not_mem_nil
  | cons e l ih =>
    have hstate := abortCounted_state a e
    rcases List.mem_cons.1 hmem with rfl | hlater
    · obtain ⟨y, hy, habort⟩ := State.abortMove_aborts hx hpast .aborted
      rw [← hstate] at hy
      obtain ⟨w, hw, -, hkept⟩ := foldl_abortCounted_kept l _ k y hy
      exact ⟨w, hw, hkept habort⟩
    · obtain ⟨y, hy, hside, -⟩ := a.2.2.abortMove_kept e.1 .aborted k x hx
      rw [← hstate] at hy
      exact ih hlater hy (hside.trans hpast)

/-- The open moves of a range of a region's parcels. -/
def State.movesIn (s : State) (g first count : Nat) : NMap Move :=
  s.oxb.moves.filter (fun e => ! e.2.tree && e.2.region == g && decide (first ≤ e.2.parcel) && decide (e.2.parcel < first + count))

theorem State.mem_movesIn {s : State} {g first count k : Nat} {x : Move} (hx : mget s.oxb.moves k = some x) (htree : x.tree = false)
    (hregion : x.region = g) (hlow : first ≤ x.parcel) (hhigh : x.parcel < first + count) : (k, x) ∈ s.movesIn g first count :=
  List.mem_filter.2 ⟨mem_of_mget hx, by simp [htree, hregion, hlow, hhigh]⟩

/-- How many aborts MOVE_ABORT has accepted, how many came too late, and the state it leaves, before it is answered. -/
def State.movesAborted (s : State) (rq : Rq) (g first count : Nat) : Nat × Nat × State :=
  (s.movesIn g first count).foldl abortCounted (0, 0, s.entered rq)

theorem State.movesAborted_frame (s : State) (rq : Rq) (g first count : Nat) :
    (s.movesAborted rq g first count).2.2 = { s with
      mbx.sess := (s.entered rq).mbx.sess, regs := (s.movesAborted rq g first count).2.2.regs,
      oxb.moves := (s.movesAborted rq g first count).2.2.oxb.moves } := by
  obtain ⟨c, hc⟩ : ∃ c, s.movesAborted rq g first count = c := ⟨_, rfl⟩
  have hframe : c.2.2 = { s.entered rq with regs := c.2.2.regs, oxb.moves := c.2.2.oxb.moves } := hc ▸ foldl_abortCounted_frame _ _
  rw [hc]
  refine hframe.trans ?_
  rw [State.entered_eq]

/-- The answer of a MOVE_ABORT whose range agrees. -/
def State.abortAnswer (s : State) (rq : Rq) (g first count : Nat) : Ans :=
  { st := (s.movesAborted rq g first count).2.2, status := .success, frame := s.effFrame,
    data := [(4, (s.movesAborted rq g first count).1), (4, (s.movesAborted rq g first count).2.1)] }

theorem exec_moveAbort_aborts {s : State} {rq : Rq} {p : Principal} {g first count : Nat} {r : Region} (hs : s.serves rq 0x0601 p = true)
    (hreg : mget s.bnd.regions g = some r) (hcount : 1 ≤ count) (hend : first + count ≤ r.size) :
    ∃ t, exec (.moveAbort rq g first count) s = .next t ∧
      t.replied rq 0x0601 .success s.effFrame [(4, (s.movesAborted rq g first count).1), (4, (s.movesAborted rq g first count).2.1)] ∧
      t = { s with out := t.out, mbx.sess := t.mbx.sess, regs := t.regs, oxb.moves := (s.movesAborted rq g first count).2.2.oxb.moves } := by
  have hdone : ∃ m, exec (.moveAbort rq g first count) s = .next { s.keepClock (s.movesAborted rq g first count).2.2 with
      out := s.sentReply rq 0x0601 { status := .success, frame := s.effFrame, data := (s.abortAnswer rq g first count).data }
        (s.movesAborted rq g first count).2.2.out,
      mbx.sess := m, pending := s.pending } := by
    refine done_entered hs _ _ (a := s.abortAnswer rq g first count) ?_ rfl
    have hrange : ¬ (count = 0 ∨ r.size < first + count) := by omega
    simp only [State.entered_bnd, hreg, if_neg hrange, State.entered_oxb, State.entered_effFrame]
    rfl
  obtain ⟨m, hm⟩ := hdone
  refine ⟨_, hm, rfl, ?_⟩
  rw [State.movesAborted_frame]
  rfl

/-! ### HEAT_QUERY (R226) -/

theorem exec_heatQuery_reads {s : State} {rq : Rq} {g first count : Nat} {r : Region} (hs : s.serves rq 0x0602 (.tenant r.tenant) = true)
    (hreg : mget s.bnd.regions g = some r) (hview : ∃ b ∈ s.bindingsOf g, s.curBit (BND_CFG_TEN_VIEW b) = true) (hcount : 1 ≤ count)
    (hmax : count ≤ 4000) (hend : first + count ≤ r.size) :
    ∃ t, exec (.heatQuery rq g first count) s = .next t ∧ t.replied rq 0x0602 .success s.time.frame ((List.range count).map (fun k =>
        (1, if (s.ttEntry (r.ttBase + first + k)).valid then (s.listed (r.ttBase + first + k)).heat else 0))) ∧
      t = { s with out := t.out, mbx.sess := t.mbx.sess } := by
  refine done_reads hs _ _ ?_
  have hmay : ¬ (Principal.tenant r.tenant ≠ .tenant r.tenant ∨ (! (s.bindingsOf g).any (fun b => s.curBit (BND_CFG_TEN_VIEW b))) = true) := by
    simpa using hview
  have hrange : ¬ (count = 0 ∨ r.size < first + count) := by omega
  simp only [State.entered_bnd, hreg, State.entered_bindingsOf, State.entered_curBit, if_neg hmay, if_neg (Nat.not_lt.2 hmax), if_neg hrange,
    State.entered_ttEntry, State.entered_listed]

theorem exec_heatQuery_refuses {s : State} {rq : Rq} {p : Principal} {g first count : Nat} {r : Region} (hs : s.serves rq 0x0602 p = true)
    (hreg : mget s.bnd.regions g = some r)
    (hbarred : p ≠ .tenant r.tenant ∨ ∀ b ∈ s.bindingsOf g, s.curBit (BND_CFG_TEN_VIEW b) = false) :
    ∃ t, exec (.heatQuery rq g first count) s = .next t ∧ s.turnsAway t rq 0x0602 .permission := by
  refine done_refuses hs _ _ ?_
  have hno : p ≠ .tenant r.tenant ∨ (! (s.bindingsOf g).any (fun b => s.curBit (BND_CFG_TEN_VIEW b))) = true :=
    hbarred.imp_right (by simp)
  simp only [State.entered_bnd, hreg, State.entered_bindingsOf, State.entered_curBit]
  exact if_pos hno

/-- Settles O30: a directive that its parameters allow joins the list with its long command, MOVE_ABORT reaches every move of the range and counts each
once, and the heat of a region's parcels is read by its own tenant alone. -/
theorem moveOpcodes : Obligations.MoveOpcodes := by
  unfold Obligations.MoveOpcodes
  refine ⟨?begins, fun _ _ _ _ _ _ _ _ => exec_placementDirective_refuses, ?aborts, fun _ _ _ _ _ _ => exec_heatQuery_reads,
    fun _ _ _ _ _ _ _ => exec_heatQuery_refuses⟩
  case begins =>
    intro s rq p g first count pool r hs hreg hlives hcount hend hpolicy hpool htarget hidle hslots
    obtain ⟨t, ht, hreply, hframe⟩ := exec_placementDirective_begins hs hreg hlives hcount hend hpolicy hpool htarget hidle hslots
    refine ⟨t, (s.directiveBegun rq p g first count pool).1,
      { region := g, firstP := first, count := count, pool := pool, next := 0, handle := (s.directiveBegun rq p g first count pool).1 },
      ht, hreply, rfl, rfl, rfl, rfl, rfl, rfl, ?_⟩
    rw [hframe, State.directiveBegun_eq]
  case aborts =>
    intro s rq p g first count r hs hreg hcount hend
    obtain ⟨t, ht, hreply, hframe⟩ := exec_moveAbort_aborts hs hreg hcount hend
    have hmoves : t.oxb.moves = (s.movesAborted rq g first count).2.2.oxb.moves := by rw [hframe]
    refine ⟨t, _, _, ht, hreply, ?_, ?_, ?_⟩
    · exact (foldl_abortCounted_sum _ _).trans (Nat.zero_add _)
    · intro k x hx htree hregion hlow hhigh hpast
      rw [hmoves]
      exact foldl_abortCounted_aborts (State.mem_movesIn hx htree hregion hlow hhigh) ((s.entered_oxb rq).symm ▸ hx) hpast
    · rw [hmoves]
      exact hframe

end Sys2Proof.Machine
end

section
/-! Proofs of the family 10_oxbow, third part: evacuations, and the records of a pool whose link comes up (R227, R243, R368). -/
namespace Sys2Proof.Machine
open Sys2Proof

/-! ### EVACUATE_POOL (R243) -/

@[simp] theorem State.entered_evacRefusal (s : State) (rq : Rq) (p : Nat) : (s.entered rq).evacRefusal p = s.evacRefusal p := by
  rw [State.entered_eq]
  rfl

theorem OXB_EVAC_DISCARD_fits (p : Nat) : (OXB_EVAC_DISCARD p).lsb + (OXB_EVAC_DISCARD p).width ≤ 32 := by
  simp [OXB_EVAC_DISCARD]

/-- The long command that an accepted EVACUATE_POOL begins, and the state with the evacuation. -/
def State.evacuationBegun (s : State) (rq : Rq) (p : Principal) (pool disc : Nat) : Nat × State :=
  let c := (s.entered rq).lcStart 0x0603 (rqRef rq 0x0603) p (routeTargetOf rq.route rq.carrier)
  let u := c.2.setBit (OXB_EVAC_DISCARD pool) (disc == 1)
  (c.1, { u with oxb.evac := mput u.oxb.evac pool { discard := disc == 1, handle := some c.1, cancel := false, begun := false } })

theorem State.evacuationBegun_frame (s : State) (rq : Rq) (p : Principal) (pool disc : Nat) :
    (s.evacuationBegun rq p pool disc).2 = { s with
      mbx := (s.evacuationBegun rq p pool disc).2.mbx, fresh := (s.evacuationBegun rq p pool disc).2.fresh,
      regs := (s.evacuationBegun rq p pool disc).2.regs, oxb.evac := (s.evacuationBegun rq p pool disc).2.oxb.evac } := by
  unfold State.evacuationBegun
  rw [State.entered_eq]
  rfl

theorem exec_evacuatePool_begins {s : State} {rq : Rq} {p : Principal} {pool disc : Nat} (hs : s.serves rq 0x0603 p = true) (hdisc : disc ≤ 1)
    (hfree : s.evacRefusal pool = none) (hslots : s.lcSlots ≠ []) :
    ∃ t h, exec (.evacuatePool rq pool disc) s = .next t ∧ t.replied rq 0x0603 .inProgress s.nextFrame [(2, h)] ∧
      mget t.oxb.evac pool = some { discard := disc == 1, handle := some h, cancel := false, begun := false } ∧
      t.bit (OXB_EVAC_DISCARD pool) = (disc == 1) ∧
      t = { s with out := t.out, mbx := t.mbx, fresh := t.fresh, regs := t.regs, oxb.evac := t.oxb.evac } := by
  have hdone : ∃ m, exec (.evacuatePool rq pool disc) s = .next { s.keepClock (s.evacuationBegun rq p pool disc).2 with
      out := s.sentReply rq 0x0603 { status := .inProgress, frame := s.nextFrame, data := [(2, (s.evacuationBegun rq p pool disc).1)] }
        (s.evacuationBegun rq p pool disc).2.out,
      mbx.sess := m, pending := s.pending } := by
    refine done_entered hs _ _ (a := (s.evacuationBegun rq p pool disc).2.long s.nextFrame (s.evacuationBegun rq p pool disc).1) ?_ rfl
    simp only [if_neg (Nat.not_lt.2 hdisc), State.entered_evacRefusal, hfree, State.entered_lcSlots, if_neg hslots, State.entered_nextFrame]
    rfl
  obtain ⟨m, hm⟩ := hdone
  refine ⟨_, (s.evacuationBegun rq p pool disc).1, hm, rfl, mget_mput_same _ _ _, ?_, ?_⟩
  · exact State.bit_setBit_same _ _ _ (OXB_EVAC_DISCARD_fits pool) rfl
  · rw [State.evacuationBegun_frame]
    rfl

theorem exec_evacuatePool_refuses {s : State} {rq : Rq} {p : Principal} {pool disc : Nat} {c : Status} (hs : s.serves rq 0x0603 p = true)
    (hdisc : disc ≤ 1) (hbarred : s.evacRefusal pool = some c) :
    ∃ t, exec (.evacuatePool rq pool disc) s = .next t ∧ s.turnsAway t rq 0x0603 c := by
  refine done_refuses hs _ _ ?_
  simp only [if_neg (Nat.not_lt.2 hdisc), State.entered_evacRefusal, hbarred]

/-! ### Bits of written words -/

theorem getBit_eq_getLsbD (x : Word) (i : Nat) : getBit x i = x.getLsbD i := by
  unfold getBit getBits BitVec.getLsbD
  rw [Nat.testBit_eq_decide_div_mod_eq, pow_one]
  rfl

theorem getBit_and_of_set {m : Word} {i : Nat} (hm : m.getLsbD i = true) (x : Word) : getBit (m &&& x) i = getBit x i := by
  rw [getBit_eq_getLsbD, getBit_eq_getLsbD, BitVec.getLsbD_and, hm, Bool.true_and]

theorem getBit_or_of_set {m : Word} {i : Nat} (hm : m.getLsbD i = true) (x : Word) : getBit (x ||| m) i = true := by
  rw [getBit_eq_getLsbD, BitVec.getLsbD_or, hm, Bool.or_true]

theorem getBit_or_of_clear {m : Word} {i : Nat} (hm : m.getLsbD i = false) (x : Word) : getBit (x ||| m) i = getBit x i := by
  rw [getBit_eq_getLsbD, getBit_eq_getLsbD, BitVec.getLsbD_or, hm, Bool.or_false]

/-! ### Writes of OXB_EVAC (R243) -/

/-- The definition of OXB_EVAC, as the register table has it. -/
def evacDef : RegDef :=
  ⟨.OXB_EVAC, 0x301014, [(128, 0x20)], 0,
    [⟨0, 1, .w1s, false, false, false, 3⟩, ⟨1, 1, .rw, false, false, false, 3⟩, ⟨2, 1, .w1s, false, false, false, 3⟩, ⟨4, 2, .ro, false, false, false, 35⟩],
    0x0, [], 0⟩

theorem State.mineMask_evacDef (s : State) {p : Principal} (hwho : p.isOF = true) (n : Nat) :
    s.mineMask evacDef n p (fun f => f.acc == .rw && ! f.sh) = 0x2#32 ∧ s.mineMask evacDef n p (fun f => f.acc == .w1s || f.acc == .w1c) = 0x5#32 ∧
      s.mineMask evacDef n p (fun f => f.acc == .w1c) = 0#32 := by
  have hlists : p.isIn 3 = true := hwho
  unfold State.mineMask
  simp [evacDef, RegDef.maskOf, fieldFor, fieldWho, hlists, fieldMask]

theorem resetWord_OXB_EVAC {p : Nat} (hp : p < 128) : resetWord (OXB_EVAC p) = 0 := by
  unfold resetWord
  rw [lookupReg_OXB_EVAC p hp]
  rfl

/-- What a write of OXB_EVAC stores: DISCARD is as written, and every other register as it was. -/
structure State.EvacStored (s u : State) (p : Nat) (w : Word) : Prop where
  frame : u = { s with regs := u.regs, latch := u.latch }
  other : ∀ f : Fld, f.addr ≠ OXB_EVAC p → u.bit f = s.bit f
  discard : u.bit (OXB_EVAC_DISCARD p) = getBit w 1

theorem State.writeWord_OXB_EVAC (s : State) {x : RegAcc} {p : Nat} (hwho : x.prin.isOF = true) (hp : p < 128) (w : Word) :
    ∃ u, s.writeWord x (OXB_EVAC p) w = (u.onBit w 0 (fun s => s.evacStart p)).onBit w 2 (fun s => s.evacCancel p) ∧ s.EvacStored u p w := by
  obtain ⟨r, hr, hother, hsame⟩ := writeWord_acts (s := s) (x := x) (w := w) (d := evacDef) (lookupReg_OXB_EVAC p hp) (fun _ => rfl) rfl (by decide) rfl
    (by simp [evacDef])
  obtain ⟨hplain, hact, hclear⟩ := s.mineMask_evacDef hwho p
  have hindex : [p].getD 0 0 = p := rfl
  rw [hindex, hact] at hr
  rw [hindex, hplain, hclear, resetWord_OXB_EVAC hp] at hsame
  refine ⟨{ s with regs := r, latch := mdel s.latch (OXB_EVAC p) }, hr.trans ?_, rfl, fun f hf => ?_, ?_⟩
  · unfold State.onBit
    rw [← getBit_and_of_set (m := 0x5#32) (i := 0) (by decide), ← getBit_and_of_set (m := 0x5#32) (i := 2) (by decide)]
    rfl
  · exact congrArg (· == 1) (congrArg (getBits · f.lsb f.width) (hother f.addr f.rst hf))
  · have hstored : rget r (OXB_EVAC p) 0 = mix 0x2#32 (s.word (OXB_EVAC p)) (mix 0x2#32 (s.word (OXB_EVAC p)) w) := by
      refine hsame.trans ?_
      rw [BitVec.zero_and, BitVec.not_zero, BitVec.and_allOnes]
      rfl
    have hone : ∀ i < 1, (0x2#32).getLsbD (1 + i) = true := by decide
    refine congrArg (· == 1) ((congrArg (getBits · 1 1) hstored).trans ?_)
    rw [getBits_mix _ _ hone, getBits_mix _ _ hone]

theorem OXB_POOL_FREE_ne_EVAC (p : Nat) : OXB_POOL_FREE p ≠ OXB_EVAC p := by
  unfold OXB_POOL_FREE OXB_EVAC
  omega

theorem State.EvacStored.refusal {s u : State} {p : Nat} {w : Word} (h : s.EvacStored u p w) : u.evacRefusal p = s.evacRefusal p := by
  have hready : u.poolReady p = s.poolReady p := h.other (OXB_POOL_FREE_VALID p) (OXB_POOL_FREE_ne_EVAC p)
  have hpool : u.isPool p = s.isPool p := by
    rw [h.frame]
    rfl
  have hevac : u.oxb.evac = s.oxb.evac := by rw [h.frame]
  unfold State.evacRefusal
  rw [hready, hpool, hevac]

theorem exec_evacuationStartWrite_eq {s : State} {b : Bus} {p : Nat} (w : Word) (ht : s.takesWrite b (OXB_EVAC p) = true)
    (hwho : (s.busP b).isOF = true) (hp : p < 128) :
    ∃ u, exec (.evacuationStartWrite b p w) s = s.done ((u.evacStart p).onBit w 2 (fun s => s.evacCancel p)) ∧ s.EvacStored u p w := by
  obtain ⟨u, hu, hstored⟩ := s.writeWord_OXB_EVAC (x := s.busAcc b) hwho hp (w ||| 1#32)
  have hstart : u.onBit (w ||| 1#32) 0 (fun s => s.evacStart p) = u.evacStart p := if_pos (getBit_or_of_set (by decide) w)
  refine ⟨u, congrArg s.done ((busWrite_takes ht _ _).trans (hu.trans ?_)), hstored.frame, hstored.other, ?_⟩
  · rw [hstart]
    unfold State.onBit
    rw [getBit_or_of_clear (by decide)]
  · rw [hstored.discard, getBit_or_of_clear (by decide)]

theorem exec_evacuationStartWrite_starts {s : State} {b : Bus} {p : Nat} {w : Word} (ht : s.takesWrite b (OXB_EVAC p) = true)
    (hwho : (s.busP b).isOF = true) (hp : p < 128) (hfree : s.evacRefusal p = none) :
    ∃ t, exec (.evacuationStartWrite b p w) s = .next t ∧
      mget t.oxb.evac p = some { discard := getBit w 1, handle := none, cancel := getBit w 2, begun := false } ∧ t.bnd = s.bnd ∧ t.refused = s.refused := by
  obtain ⟨u, hexec, hstored⟩ := exec_evacuationStartWrite_eq w ht hwho hp
  have hstart : u.evacStart p =
      { u with oxb.evac := mput u.oxb.evac p { discard := getBit w 1, handle := none, cancel := false, begun := false } } := by
    unfold State.evacStart
    rw [hstored.refusal, hfree, hstored.discard]
  have hbnd : u.bnd = s.bnd := by rw [hstored.frame]
  have hrefused : u.refused = s.refused := by rw [hstored.frame]
  rw [hstart] at hexec
  unfold State.onBit at hexec
  split at hexec
  next hcancel =>
    refine ⟨_, hexec, ?_, hbnd, hrefused⟩
    refine (mget_mmod_same _ _ _).trans ?_
    rw [mget_mput_same, hcancel]
    rfl
  next hcancel =>
    refine ⟨_, hexec, ?_, hbnd, hrefused⟩
    refine (mget_mput_same _ _ _).trans ?_
    rw [Bool.eq_false_of_not_eq_true hcancel]

theorem State.evacStart_refused {s : State} {p : Nat} {c : Status} (h : s.evacRefusal p = some c) : s.evacStart p = s.countRefused := by
  unfold State.evacStart
  rw [h]

theorem exec_evacuationStartWrite_refuses {s : State} {b : Bus} {p : Nat} {w : Word} {c : Status} (ht : s.takesWrite b (OXB_EVAC p) = true)
    (hwho : (s.busP b).isOF = true) (hp : p < 128) (hbarred : s.evacRefusal p = some c) (hcancel : getBit w 2 = false) :
    ∃ t, exec (.evacuationStartWrite b p w) s = .next t ∧ t.oxb = s.oxb ∧ t.bnd = s.bnd ∧ t.refused = s.refused + 1 := by
  obtain ⟨u, hexec, hstored⟩ := exec_evacuationStartWrite_eq w ht hwho hp
  rw [State.evacStart_refused (hstored.refusal.trans hbarred), hstored.frame] at hexec
  unfold State.onBit at hexec
  rw [if_neg (by simp [hcancel])] at hexec
  exact ⟨_, hexec, rfl, rfl, rfl⟩

/-- A START while an evacuation of the pool is under way is refused. -/
theorem State.evacRefusal_of_evac {s : State} {p : Nat} {e : Evac} (he : mget s.oxb.evac p = some e) : ∃ c, s.evacRefusal p = some c := by
  unfold State.evacRefusal
  rw [he]
  split
  · exact ⟨_, rfl⟩
  · exact ⟨_, rfl⟩

theorem exec_evacuationCancel_marks {s : State} {b : Bus} {p : Nat} {w : Word} {e : Evac} (ht : s.takesWrite b (OXB_EVAC p) = true)
    (hwho : (s.busP b).isOF = true) (hp : p < 128) (he : mget s.oxb.evac p = some e) :
    ∃ t, exec (.evacuationCancel b p w) s = .next t ∧ mget t.oxb.evac p = some { e with cancel := true } ∧ t.oxb.moves = s.oxb.moves ∧ t.bnd = s.bnd := by
  obtain ⟨u, hu, hstored⟩ := s.writeWord_OXB_EVAC (x := s.busAcc b) hwho hp (w ||| 4#32)
  obtain ⟨c, hc⟩ := State.evacRefusal_of_evac he
  obtain ⟨v, hv, hoxb, hbnd⟩ : ∃ v, u.onBit (w ||| 4#32) 0 (fun s => s.evacStart p) = v ∧ v.oxb = s.oxb ∧ v.bnd = s.bnd := by
    refine ⟨_, rfl, ?_⟩
    have hstart : u.evacStart p = u.countRefused := State.evacStart_refused (hstored.refusal.trans hc)
    unfold State.onBit
    dsimp only
    rw [hstart, hstored.frame]
    split <;> exact ⟨rfl, rfl⟩
  have hcancel : v.onBit (w ||| 4#32) 2 (fun s => s.evacCancel p) = v.evacCancel p := if_pos (getBit_or_of_set (by decide) w)
  rw [hv, hcancel] at hu
  have hmoves : v.oxb.moves = s.oxb.moves := congrArg OxbSt.moves hoxb
  refine ⟨_, congrArg s.done ((busWrite_takes ht _ _).trans hu), ?_, hmoves, hbnd⟩
  refine (mget_mmod_same _ _ _).trans ?_
  rw [hoxb, he]
  rfl

end Sys2Proof.Machine
end

section
/-! Proofs of the family 10_oxbow, fourth part: the records of a pool whose link comes up, heat records, and the ranker's pass (O31). -/
namespace Sys2Proof.Machine
open Sys2Proof

/-! ### What changes registers and heat records alone -/

/-- `t` is `s` but for registers and heat records, and the ranker's count of passes stands. -/
structure State.HeatsChange (s t : State) : Prop where
  frame : t = { s with regs := t.regs, oxb.heat := t.oxb.heat }
  passes : t.fld OXB_STAT_PASS_CNT = s.fld OXB_STAT_PASS_CNT

theorem State.HeatsChange.refl (s : State) : s.HeatsChange s := ⟨rfl, rfl⟩

theorem State.HeatsChange.trans {s t u : State} (h : s.HeatsChange t) (g : t.HeatsChange u) : s.HeatsChange u where
  frame := by rw [g.frame, h.frame]
  passes := g.passes.trans h.passes

theorem State.HeatsChange.bnd_eq {s t : State} (h : s.HeatsChange t) : t.bnd = s.bnd := by rw [h.frame]

theorem State.HeatsChange.moves_eq {s t : State} (h : s.HeatsChange t) : t.oxb.moves = s.oxb.moves := by rw [h.frame]

theorem State.HeatsChange.time_eq {s t : State} (h : s.HeatsChange t) : t.time = s.time := by rw [h.frame]

theorem State.HeatsChange.pending_eq {s t : State} (h : s.HeatsChange t) : t.pending = s.pending := by rw [h.frame]

theorem foldl_heatsChange {α : Type} {f : State → α → State} (hf : ∀ (s : State) (a : α), s.HeatsChange (f s a)) (l : List α) (s : State) :
    s.HeatsChange (l.foldl f s) := by
  induction l generalizing s with
  | nil => exact .refl s
  | cons a l ih => exact (hf s a).trans (ih _)

theorem State.ite_heatsChange {s t u : State} {c : Prop} [Decidable c] (ht : s.HeatsChange t) (hu : s.HeatsChange u) :
    s.HeatsChange (if c then t else u) := by
  split
  · exact ht
  · exact hu

theorem State.setAlloc_heatsChange (s : State) (p ppi : Nat) (v : Bool) : s.HeatsChange (s.setAlloc p ppi v) := ⟨rfl, rfl⟩

theorem OXB_POOL_HEAT_ne_STAT (p : Nat) : OXB_POOL_HEAT p ≠ OXB_STAT := by
  unfold OXB_POOL_HEAT OXB_STAT
  omega

/-- A register of a pool's heat figures is none of the ranker's status. -/
theorem State.setFld_heatsChange (s : State) {f : Fld} {p : Nat} (v : Nat) (hf : f.addr = OXB_POOL_HEAT p) : s.HeatsChange (s.setFld f v) :=
  ⟨rfl, State.fld_setFld_addr _ _ _ _ (hf ▸ OXB_POOL_HEAT_ne_STAT p)⟩

theorem State.poolHeat_heatsChange (s : State) (p : Nat) : s.HeatsChange (s.poolHeat p) := by
  unfold State.poolHeat
  exact State.ite_heatsChange ((s.setFld_heatsChange _ rfl).trans (State.setFld_heatsChange _ (p := p) _ rfl))
    ((s.setFld_heatsChange _ rfl).trans (State.setFld_heatsChange _ (p := p) _ rfl))

/-! ### The records of a pool (R227, R368) -/

theorem OXB_POOL_SIZE_SIZE_fits (p : Nat) : (OXB_POOL_SIZE_SIZE p).lsb + (OXB_POOL_SIZE_SIZE p).width ≤ 32 := by
  simp [OXB_POOL_SIZE_SIZE]

theorem OXB_POOL_FREE_VALID_fits (p : Nat) : (OXB_POOL_FREE_VALID p).lsb + (OXB_POOL_FREE_VALID p).width ≤ 32 := by
  simp [OXB_POOL_FREE_VALID]

theorem OXB_POOL_FREE_ne_SIZE (p : Nat) : OXB_POOL_FREE p ≠ OXB_POOL_SIZE p := by
  unfold OXB_POOL_FREE OXB_POOL_SIZE
  omega

theorem OXB_EVAC_ne_SIZE (p : Nat) : OXB_EVAC p ≠ OXB_POOL_SIZE p := by
  unfold OXB_EVAC OXB_POOL_SIZE
  omega

/-- The end of a pool's initialisation: its size is taken over, and its records are valid or not. -/
def State.poolMarked (s : State) (p : Nat) (x : PortX) (valid : Bool) : State :=
  ((s.setPx p { x with inited := true }).setFld (OXB_POOL_SIZE_SIZE p) x.cap).setBit (OXB_POOL_FREE_VALID p) valid

theorem State.px_setPx_same (s : State) (p : Nat) (x : PortX) : (s.setPx p x).px p = x := mgetD_mputD_same _ _ _ _

theorem State.poolMarked_px (s : State) (p : Nat) (x : PortX) (valid : Bool) : ((s.poolMarked p x valid).px p).inited = true :=
  congrArg PortX.inited (s.px_setPx_same p { x with inited := true })

theorem State.poolMarked_valid (s : State) (p : Nat) (x : PortX) (valid : Bool) : (s.poolMarked p x valid).bit (OXB_POOL_FREE_VALID p) = valid :=
  State.bit_setBit_same _ _ _ (OXB_POOL_FREE_VALID_fits p) rfl

theorem State.poolMarked_size (s : State) (p : Nat) (x : PortX) (valid : Bool) :
    (s.poolMarked p x valid).fld (OXB_POOL_SIZE_SIZE p) = x.cap % 2 ^ (OXB_POOL_SIZE_SIZE p).width :=
  (State.fld_setBit_addr _ _ _ _ (OXB_POOL_FREE_ne_SIZE p)).trans (State.fld_setFld_same _ _ _ (OXB_POOL_SIZE_SIZE_fits p))

/-- `t` is `s` with the records of pool `p` built and valid, and its size taken over. -/
structure State.PoolBuilt (s : State) (p : Nat) (t : State) : Prop where
  inited : (t.px p).inited = true
  valid : t.bit (OXB_POOL_FREE_VALID p) = true
  size : t.fld (OXB_POOL_SIZE_SIZE p) = (s.px p).cap % 2 ^ (OXB_POOL_SIZE_SIZE p).width
  bnd : t.bnd = s.bnd
  moves : t.oxb.moves = s.oxb.moves
  time : t.time = s.time
  pending : t.pending = s.pending

theorem State.HeatsChange.poolBuilt {s u : State} (h : s.HeatsChange u) (p : Nat) : s.PoolBuilt p (u.poolMarked p (s.px p) true) where
  inited := u.poolMarked_px p (s.px p) true
  valid := u.poolMarked_valid p (s.px p) true
  size := u.poolMarked_size p (s.px p) true
  bnd := h.bnd_eq
  moves := h.moves_eq
  time := h.time_eq
  pending := h.pending_eq

/-- The end of an evacuation clears its record and its state, which are none of what the rebuild built. -/
theorem State.PoolBuilt.evacEnded {s t : State} {p : Nat} (h : s.PoolBuilt p t) (l : List (Nat × Evac)) (v : Nat) :
    s.PoolBuilt p (({ t with oxb.evac := l } : State).setFld (OXB_EVAC_STATE p) v) where
  inited := h.inited
  valid := (State.bit_setFld_addr _ _ _ _ (OXB_POOL_FREE_ne_EVAC p).symm).trans h.valid
  size := (State.fld_setFld_addr _ _ _ _ (OXB_EVAC_ne_SIZE p)).trans h.size
  bnd := h.bnd
  moves := h.moves
  time := h.time
  pending := h.pending

theorem State.initPool_valid {s : State} {p : Nat} (hrange : s.rangeOk p (s.px p).cap = true) : s.PoolBuilt p (s.initPool p) := by
  have hinit : ∃ u, s.initPool p = u.poolMarked p (s.px p) true ∧ s.HeatsChange u := by
    refine ⟨_, if_neg (by simp [hrange]), ?_⟩
    refine .trans ?_ (foldl_heatsChange (fun _ _ => State.setAlloc_heatsChange ..) _ _)
    refine .trans ?_ (foldl_heatsChange (fun s _ => State.ite_heatsChange (State.setAlloc_heatsChange ..) (.refl s)) _ _)
    refine .trans ?_ (foldl_heatsChange (fun s _ => State.ite_heatsChange (State.setAlloc_heatsChange ..) (.refl s)) _ _)
    exact ⟨rfl, rfl⟩
  obtain ⟨u, hu, hheats⟩ := hinit
  exact hu ▸ hheats.poolBuilt p

theorem State.poolRebuilt_valid {s : State} {p : Nat} (hrange : s.rangeOk p (s.px p).cap = true) : s.PoolBuilt p (s.poolRebuilt p) := by
  have hbuilt := State.initPool_valid hrange
  unfold State.poolRebuilt
  dsimp only
  split
  · exact hbuilt.evacEnded _ 0
  · exact hbuilt

theorem State.initPool_invalid {s : State} {p : Nat} (hrange : s.rangeOk p (s.px p).cap = false) :
    s.initPool p = (s.poolMarked p (s.px p) false).raiseShared 301 :=
  if_pos (by simp [hrange])

theorem exec_poolRebuild_eq {s : State} {p : Nat} (hp : p < 128) (hpool : s.isPool p = true) (hup : s.linkUp p = true)
    (hfirst : (s.px p).inited = false) : exec (.poolRebuild p) s = s.done (s.poolRebuilt p) :=
  congrArg s.done (if_pos ⟨hp, hpool, hup, by simp [hfirst]⟩)

theorem exec_poolRebuild_valid {s : State} {p : Nat} (hp : p < 128) (hpool : s.isPool p = true) (hup : s.linkUp p = true)
    (hfirst : (s.px p).inited = false) (hrange : s.rangeOk p (s.px p).cap = true) :
    ∃ t, exec (.poolRebuild p) s = .next t ∧ (t.px p).inited = true ∧ t.bit (OXB_POOL_FREE_VALID p) = true ∧
      t.fld (OXB_POOL_SIZE_SIZE p) = (s.px p).cap % 2 ^ (OXB_POOL_SIZE_SIZE p).width ∧ t.bnd = s.bnd ∧ t.oxb.moves = s.oxb.moves := by
  have hbuilt := State.poolRebuilt_valid hrange
  have hexec := (exec_poolRebuild_eq hp hpool hup hfirst).trans (State.done_eq_next hbuilt.time hbuilt.pending)
  exact ⟨_, hexec, hbuilt.inited, hbuilt.valid, hbuilt.size, hbuilt.bnd, hbuilt.moves⟩

theorem exec_poolRebuild_invalid {s : State} {p : Nat} (hp : p < 128) (hpool : s.isPool p = true) (hup : s.linkUp p = true)
    (hfirst : (s.px p).inited = false) (hrange : s.rangeOk p (s.px p).cap = false) :
    ∃ t, exec (.poolRebuild p) s = .next t ∧ (t.px p).inited = true ∧ t.bit (OXB_POOL_FREE_VALID p) = false ∧
      t.bit (pendFld (s.routeTarget 301) (sharedCode 301)) = true ∧ t.bnd = s.bnd := by
  obtain ⟨u, hu⟩ : ∃ u, s.poolMarked p (s.px p) false = u := ⟨_, rfl⟩
  have hplace : (OXB_POOL_FREE_VALID p).addr < 0x20000 ∨ (0x30000 ≤ (OXB_POOL_FREE_VALID p).addr ∧ (OXB_POOL_FREE_VALID p).addr < 0x1000000) := by
    simp only [OXB_POOL_FREE_VALID, OXB_POOL_FREE]
    omega
  have hvalid : (u.raiseShared 301).bit (OXB_POOL_FREE_VALID p) = false :=
    (State.bit_raiseShared _ _ _ (by decide) hplace).trans (hu ▸ s.poolMarked_valid p (s.px p) false)
  have hinit : s.initPool p = u.raiseShared 301 := hu ▸ State.initPool_invalid hrange
  have hexec := exec_poolRebuild_eq hp hpool hup hfirst
  have hready : ¬ ((u.raiseShared 301).poolReady p = true ∧ (u.raiseShared 301).fld (OXB_EVAC_STATE p) = 2) := fun h =>
    Bool.noConfusion (hvalid.symm.trans h.1)
  unfold State.poolRebuilt at hexec
  rw [hinit] at hexec
  dsimp only at hexec
  rw [if_neg hready] at hexec
  have hprt : (u.raiseShared 301).px p = u.px p := congrArg (fun x : PrtSt => mgetD x.px p {}) (u.raiseShared_prt 301)
  refine ⟨_, hexec, ?_, hvalid, u.bit_raiseShared_pend 301 _ (by decide), (u.raiseShared_bnd 301).trans (hu ▸ rfl)⟩
  exact (congrArg PortX.inited hprt).trans (hu ▸ s.poolMarked_px p (s.px p) false)

theorem exec_poolRebuild_idle {s : State} {p : Nat} (h : s.linkUp p = false ∨ (s.px p).inited = true) : exec (.poolRebuild p) s = .next s := by
  have hno : ¬ (p < 128 ∧ s.isPool p = true ∧ s.linkUp p = true ∧ (! (s.px p).inited) = true) := by
    rintro ⟨-, -, hup, hfirst⟩
    rcases h with h | h
    · exact Bool.noConfusion (h.symm.trans hup)
    · rw [h] at hfirst
      exact Bool.noConfusion hfirst
  exact (congrArg s.done (if_neg hno)).trans (State.done_eq_next rfl rfl)

/-! ### Heat records (R224, R225) -/

theorem State.heatRec_setHeat (s : State) (g k : Nat) (h : HeatRec) : (s.setHeat g h).heatRec k = if g = k then h else s.heatRec k :=
  mgetD_mputD _ _ _ _ _

theorem exec_heatSweep_kept {s : State} (g : Nat) (hstack : s.stackGone 1 = false) : exec (.heatSweep g false) s = s.done (s.heatSweep g) :=
  congrArg s.done (if_neg (by simp [hstack]))

theorem exec_heatSweep_ages {s : State} {g : Nat} (hstack : s.stackGone 1 = false) (hold : 8 ≤ (s.epoch % 128 + 128 - (s.heatRec g).stamp) % 128) :
    ∃ t, exec (.heatSweep g false) s = .next t ∧ t.heatRec g = { s.heatRec g with heat := 0, stamp := s.epoch % 128 } ∧
      (∀ k, k ≠ g → t.heatRec k = s.heatRec k) ∧ t = { s with oxb.heat := t.oxb.heat } := by
  have hsweep : s.heatSweep g = s.setHeat g { s.heatRec g with heat := 0, stamp := s.epoch % 128 } := if_pos hold
  have hexec : exec (.heatSweep g false) s = .next (s.setHeat g { s.heatRec g with heat := 0, stamp := s.epoch % 128 }) := by
    rw [exec_heatSweep_kept g hstack, hsweep]
    exact State.done_eq_next rfl rfl
  refine ⟨_, hexec, ?_, fun k hk => ?_, rfl⟩
  · rw [State.heatRec_setHeat, if_pos rfl]
  · rw [State.heatRec_setHeat, if_neg (Ne.symm hk)]

theorem exec_heatSweep_idle {s : State} {g : Nat} (hstack : s.stackGone 1 = false) (hyoung : (s.epoch % 128 + 128 - (s.heatRec g).stamp) % 128 < 8) :
    exec (.heatSweep g false) s = .next s := by
  have hsweep : s.heatSweep g = s := if_neg (Nat.not_le.2 hyoung)
  rw [exec_heatSweep_kept g hstack, hsweep]
  exact State.done_eq_next rfl rfl

/-! ### Lost heat words (R25) -/

/-- What a record of a lost word reads: no heat, and in use until the ranker's next pass. -/
def State.lostHeat (s : State) : HeatRec := { heat := 0, stamp := s.epoch % 128, alloc := true }

/-- The records of `n` parcels from `b` on are lost. -/
def State.heatsLost (s : State) (b n : Nat) : State := (List.range n).foldl (fun s k => s.setHeat (b + k) s.lostHeat) s

theorem State.heatsLost_succ (s : State) (b n : Nat) :
    s.heatsLost b (n + 1) = (s.heatsLost b n).setHeat (b + n) (s.heatsLost b n).lostHeat := by
  unfold State.heatsLost
  rw [List.range_succ, List.foldl_append]
  rfl

theorem State.heatsLost_frame (s : State) (b n : Nat) : s.heatsLost b n = { s with oxb.heat := (s.heatsLost b n).oxb.heat } := by
  induction n with
  | zero => rfl
  | succ n ih =>
    rw [State.heatsLost_succ, ih]
    rfl

theorem State.heatsLost_heatRec (s : State) (b n k : Nat) : (s.heatsLost b n).heatRec k = if b ≤ k ∧ k < b + n then s.lostHeat else s.heatRec k := by
  induction n with
  | zero => exact (if_neg (by omega)).symm
  | succ n ih =>
    have hlost : (s.heatsLost b n).lostHeat = s.lostHeat := by
      rw [State.heatsLost_frame]
      rfl
    rw [State.heatsLost_succ, State.heatRec_setHeat, ih, hlost]
    by_cases hk : b + n = k
    · rw [if_pos hk, if_pos (by omega)]
    · rw [if_neg hk]
      exact if_congr (by omega) rfl rfl

@[simp] theorem State.reportCode_oxb (s : State) (code id : Nat) (addr : Option Nat) (detail : Nat) :
    (s.reportCode code id addr detail).oxb = s.oxb := by
  unfold State.reportCode
  split <;> simp

@[simp] theorem State.reportCode_rsv (s : State) (code id : Nat) (addr : Option Nat) (detail : Nat) :
    (s.reportCode code id addr detail).rsv = s.rsv := by
  unfold State.reportCode
  split <;> simp

/-- The state with a word of heat records lost, before the fault is recorded. -/
def State.wordLost (s : State) (g : Nat) : State :=
  { s.heatsLost (g / 8 * 8) 8 with oxb.lostWords := sadd (s.heatsLost (g / 8 * 8) 8).oxb.lostWords (g / 8 * 8) }

theorem State.loseHeat_eq (s : State) (g : Nat) : s.loseHeat g = (s.wordLost g).reportCode 0x0403 1 none 3 := rfl

theorem State.loseHeat_oxb (s : State) (g : Nat) : (s.loseHeat g).oxb = (s.wordLost g).oxb := by
  rw [State.loseHeat_eq, State.reportCode_oxb]

theorem State.wordLost_heat (s : State) (g : Nat) : (s.wordLost g).oxb.heat = (s.heatsLost (g / 8 * 8) 8).oxb.heat := rfl

theorem State.mem_wordLost_lostWords (s : State) (g : Nat) : g / 8 * 8 ∈ (s.wordLost g).oxb.lostWords := mem_sadd_self _ _

theorem State.wordLost_frame (s : State) (g : Nat) :
    s.wordLost g = { s with oxb.heat := (s.wordLost g).oxb.heat, oxb.lostWords := (s.wordLost g).oxb.lostWords } := by
  unfold State.wordLost
  rw [State.heatsLost_frame]

/-- What the loss of heat words leaves alone. -/
structure State.WordsLost (s t : State) : Prop where
  bnd : t.bnd = s.bnd
  rsv : t.rsv = s.rsv
  moves : t.oxb.moves = s.oxb.moves

theorem State.loseHeat_wordsLost (s : State) (g : Nat) : s.WordsLost (s.loseHeat g) := by
  rw [State.loseHeat_eq]
  refine ⟨?_, ?_, ?_⟩
  · rw [State.reportCode_bnd, State.wordLost_frame]
  · rw [State.reportCode_rsv, State.wordLost_frame]
  · rw [State.reportCode_oxb, State.wordLost_frame]

theorem State.foldl_loseHeat_wordsLost (l : List Nat) (s : State) : s.WordsLost (l.foldl State.loseHeat s) := by
  induction l generalizing s with
  | nil => exact ⟨rfl, rfl, rfl⟩
  | cons g l ih =>
    obtain ⟨hbnd, hrsv, hmoves⟩ := s.loseHeat_wordsLost g
    obtain ⟨hbnd', hrsv', hmoves'⟩ := ih (s.loseHeat g)
    exact ⟨hbnd'.trans hbnd, hrsv'.trans hrsv, hmoves'.trans hmoves⟩

theorem State.loseHeat_heatRec (s : State) (g k : Nat) : (s.loseHeat g).heatRec k = if k / 8 = g / 8 then s.lostHeat else s.heatRec k := by
  have hrec : (s.loseHeat g).heatRec k = (s.heatsLost (g / 8 * 8) 8).heatRec k := by
    unfold State.heatRec
    rw [State.loseHeat_oxb, State.wordLost_heat]
  rw [hrec, State.heatsLost_heatRec]
  exact if_congr (by omega) rfl rfl

theorem exec_heatSweep_loses {s : State} {g : Nat} {lost : Bool} (hlost : lost = true ∨ s.stackGone 1 = true) :
    ∃ t, exec (.heatSweep g lost) s = .next t ∧ g / 8 * 8 ∈ t.oxb.lostWords ∧
      (∀ k, k / 8 = g / 8 → t.heatRec k = { heat := 0, stamp := s.epoch % 128, alloc := true }) ∧
      (∀ k, k / 8 ≠ g / 8 → t.heatRec k = s.heatRec k) ∧ t.bnd = s.bnd ∧ t.rsv = s.rsv := by
  have hexec : exec (.heatSweep g lost) s = s.done (s.loseHeat g) := congrArg s.done (if_pos (by simpa using hlost))
  obtain ⟨hbnd, hrsv, -⟩ := s.loseHeat_wordsLost g
  refine ⟨_, hexec, ?_, fun k hk => ?_, fun k hk => ?_, hbnd, hrsv⟩
  · show g / 8 * 8 ∈ (s.loseHeat g).oxb.lostWords
    rw [State.loseHeat_oxb]
    exact s.mem_wordLost_lostWords g
  · exact (s.loseHeat_heatRec g k).trans (if_pos hk)
  · exact (s.loseHeat_heatRec g k).trans (if_neg hk)

/-! ### A pass of the ranker (R225, R230) -/

/-- The ranker's two lists built anew; while it is disabled they are empty. -/
def State.listsBuilt (s : State) : State :=
  let idx := s.bnd.tt.filterMap (fun e => if e.2.valid then some e.1 else none)
  { s with
    oxb.promo := if s.curBit OXB_CFG_EN then (sortBy (fun (x : Listed) => 255 - x.heat) ((idx.filter s.promotable).map s.listed)).take 256 else [],
    oxb.demo := if s.curBit OXB_CFG_EN then (sortBy (fun (x : Listed) => x.heat) ((idx.filter s.demotable).map s.listed)).take 256 else [] }

theorem ite_take_length_le {α : Type} (c : Bool) (n : Nat) (l : List α) : (if c then l.take n else []).length ≤ n := by
  split
  · exact List.length_take_le n l
  · exact Nat.zero_le n

theorem State.listsBuilt_lengths (s : State) : s.listsBuilt.oxb.promo.length ≤ 256 ∧ s.listsBuilt.oxb.demo.length ≤ 256 :=
  ⟨ite_take_length_le _ _ _, ite_take_length_le _ _ _⟩

theorem State.listsBuilt_disabled {s : State} (h : s.curBit OXB_CFG_EN = false) : s.listsBuilt.oxb.promo = [] ∧ s.listsBuilt.oxb.demo = [] :=
  ⟨if_neg (by simp [h]), if_neg (by simp [h])⟩

/-- The heat words that a pass has found lost, by their first record. -/
def lostWordsOf (l : List Nat) : List Nat := l.foldl (fun l g => sadd l (g / 8 * 8)) []

theorem mem_lostWordsOf {l : List Nat} {w : Nat} : w ∈ lostWordsOf l ↔ ∃ g ∈ l, w = g / 8 * 8 := by
  have hfold : ∀ (l m : List Nat), w ∈ l.foldl (fun l g => sadd l (g / 8 * 8)) m ↔ w ∈ m ∨ ∃ g ∈ l, w = g / 8 * 8 := by
    intro l
    induction l with
    | nil => simp
    | cons g l ih =>
      intro m
      rw [List.foldl_cons, ih, mem_sadd]
      simp only [List.mem_cons, exists_eq_or_imp]
      tauto
  exact (hfold l []).trans (by simp)

/-- A pass loses the words, builds the lists, brings the pools' figures and the records of lost words up to date, and is counted. -/
theorem State.rankerPass_eq {s : State} (hstack : s.stackGone 1 = false) (l : List Nat) :
    ∃ u, s.rankerPass l = State.setFld { u with oxb.lostWords := lostWordsOf l } OXB_STAT_PASS_CNT (u.fld OXB_STAT_PASS_CNT + 1) ∧
      (l.foldl State.loseHeat s).listsBuilt.HeatsChange u := by
  have hlost : (if s.stackGone 1 then (s.oxb.heat.map (fun e => e.1 / 8 * 8)).eraseDups else l) = l := if_neg (by simp [hstack])
  unfold State.rankerPass
  rw [hlost]
  refine ⟨_, rfl, ?_⟩
  refine .trans ?_ (foldl_heatsChange (fun s _ => State.ite_heatsChange
    (foldl_heatsChange (fun s _ => State.ite_heatsChange (.refl s) (State.setAlloc_heatsChange ..)) _ s) (.refl s)) _ _)
  refine .trans ?_ (foldl_heatsChange (fun s p => State.ite_heatsChange (s.poolHeat_heatsChange p) (.refl s)) _ _)
  exact .refl _

theorem State.HeatsChange.lists_eq {s t : State} (h : s.HeatsChange t) : t.oxb.promo = s.oxb.promo ∧ t.oxb.demo = s.oxb.demo := by
  rw [h.frame]
  exact ⟨rfl, rfl⟩

theorem exec_rankerPass_lists {s : State} (hstack : s.stackGone 1 = false) :
    ∃ t, exec (.rankerPass []) s = .next t ∧ t.oxb.lostWords = [] ∧ t.oxb.promo.length ≤ 256 ∧ t.oxb.demo.length ≤ 256 ∧
      (s.curBit OXB_CFG_EN = false → t.oxb.promo = [] ∧ t.oxb.demo = []) ∧
      t.fld OXB_STAT_PASS_CNT = (s.fld OXB_STAT_PASS_CNT + 1) % 2 ^ OXB_STAT_PASS_CNT.width ∧
      t = { s with regs := t.regs, oxb.heat := t.oxb.heat, oxb.lostWords := [], oxb.promo := t.oxb.promo, oxb.demo := t.oxb.demo } := by
  obtain ⟨u, hpass, hheats⟩ := State.rankerPass_eq hstack []
  obtain ⟨hpromo, hdemo⟩ := hheats.lists_eq
  obtain ⟨hpromoLen, hdemoLen⟩ := s.listsBuilt_lengths
  have hexec : exec (.rankerPass []) s = .next (s.rankerPass []) :=
    State.done_eq_next (by rw [hpass]; exact hheats.time_eq) (by rw [hpass]; exact hheats.pending_eq)
  rw [hpass] at hexec
  refine ⟨_, hexec, rfl, hpromo ▸ hpromoLen, hdemo ▸ hdemoLen, fun hoff => ?_, ?_, ?_⟩
  · obtain ⟨hnoPromo, hnoDemo⟩ := State.listsBuilt_disabled hoff
    exact ⟨hpromo.trans hnoPromo, hdemo.trans hnoDemo⟩
  · refine (State.fld_setFld_same _ _ _ (by decide)).trans ?_
    rw [hheats.passes]
    rfl
  · rw [hheats.frame]
    rfl

theorem exec_rankerPass_loses {s : State} (l : List Nat) (hstack : s.stackGone 1 = false) :
    ∃ t, exec (.rankerPass l) s = .next t ∧ (∀ g ∈ l, g / 8 * 8 ∈ t.oxb.lostWords) ∧ (∀ w ∈ t.oxb.lostWords, ∃ g ∈ l, w = g / 8 * 8) ∧
      t.oxb.promo.length ≤ 256 ∧ t.oxb.demo.length ≤ 256 ∧ t.bnd = s.bnd ∧ t.rsv = s.rsv ∧ t.oxb.moves = s.oxb.moves := by
  obtain ⟨u, hpass, hheats⟩ := State.rankerPass_eq hstack l
  obtain ⟨hbnd, hrsv, hmoves⟩ := s.foldl_loseHeat_wordsLost l
  obtain ⟨hpromo, hdemo⟩ := hheats.lists_eq
  obtain ⟨hpromoLen, hdemoLen⟩ := (l.foldl State.loseHeat s).listsBuilt_lengths
  have hexec : exec (.rankerPass l) s = s.done (s.rankerPass l) := rfl
  have hrsv' : u.rsv = s.rsv := by
    rw [hheats.frame]
    exact hrsv
  rw [hpass] at hexec
  exact ⟨_, hexec, fun g hg => mem_lostWordsOf.2 ⟨g, hg, rfl⟩, fun _ hw => mem_lostWordsOf.1 hw, hpromo ▸ hpromoLen, hdemo ▸ hdemoLen,
    hheats.bnd_eq.trans hbnd, hrsv', hheats.moves_eq.trans hmoves⟩

/-- Settles O31: a START and EVACUATE_POOL meet one check, a rebuild builds the records from what names a parcel, a lost heat word is eight records, and a
pass of the ranker keeps 256 of each list. -/
theorem evacuationAndRanker : Obligations.EvacuationAndRanker := by
  unfold Obligations.EvacuationAndRanker
  exact ⟨fun _ _ _ _ _ => exec_evacuatePool_begins, fun _ _ _ _ _ _ => exec_evacuatePool_refuses, fun _ _ _ _ => exec_evacuationStartWrite_starts,
    fun _ _ _ _ _ => exec_evacuationStartWrite_refuses, fun _ _ _ _ _ => exec_evacuationCancel_marks, fun _ _ => exec_poolRebuild_valid,
    fun _ _ => exec_poolRebuild_invalid, fun _ _ => exec_poolRebuild_idle, fun _ _ => exec_heatSweep_ages, fun _ _ => exec_heatSweep_idle,
    fun _ _ _ => exec_heatSweep_loses, fun _ => exec_rankerPass_lists, fun _ => exec_rankerPass_loses⟩

end Sys2Proof.Machine
end

section
/-! Proofs of the families 13_identity_lifecycle, 14_command_protocol and 15_modes_power_debug, first part: requests that are answered at once, the
queue's front, sessions, tokens, mode and power requests, and resets (O1, O8, O10, O14, O15). -/
set_option Elab.async false
namespace Sys2Proof.Machine
open Sys2Proof

/-! ### The queue's front -/

theorem State.tickOn_eq (s : State) : s.tickOn = { s with time.tick := s.tickOn.time.tick } := by
  simp only [State.tickOn]
  split_ifs <;> rfl

theorem State.tickOn_tick (s : State) : s.tickOn.time.tick = s.time.tick ∨ s.tickOn.time.tick = s.time.tick + 1 := by
  simp only [State.tickOn]
  split_ifs
  exacts [.inr rfl, .inl rfl, .inr rfl, .inl rfl]

theorem State.nextHeld_of_empty {s : State} (h : s.mbx.held = []) : s.nextHeld = none := by
  unfold State.nextHeld
  simp only [h]
  exact ite_self _

theorem State.nextWaiting_of_empty {s : State} (h : s.md.waiting = []) : s.nextWaiting = none := by
  unfold State.nextWaiting
  simp only [h]
  exact ite_self _

theorem step_of_pending {s : State} {c : Instr} {rest : List Instr} (h : s.pending = c :: rest) : step s = exec c { s with pending := rest } := by
  unfold step
  rw [h]

theorem step_of_idle {s : State} (hp : s.pending = []) (hh : s.mbx.held = []) (hw : s.md.waiting = []) : step s = .next s.tickOn := by
  unfold step idle
  simp only [hp, State.nextHeld_of_empty hh, State.nextWaiting_of_empty hw]

/-- Settles O1: the step takes the front of the queue; with nothing to do it lets at most a tick pass. -/
theorem queueFront : Obligations.QueueFront :=
  ⟨fun _ _ => step_of_pending rfl, fun _ _ _ h => step_of_pending h, fun _ hp hh hw => step_of_idle hp hh hw, fun s => ⟨s.tickOn_eq, s.tickOn_tick⟩⟩

/-! ### Served requests, whatever their session's entry wrote (R309, R312) -/

section Served

variable {s : State} {rq : Rq} {op : Nat} {p : Principal} (hs : s.serves rq op p = true) (i : Instr) (body : Principal → State → Ans)
include hs

/-- A served request leaves what its body left, but for what has been sent and the sessions; its body does not depend on the sessions. -/
theorem done_answers {u : State} {c : Status} {frame : Nat} {data : List (Nat × Nat)}
    (hbody : ∀ m, body p { s with mbx.sess := m } = { st := { u with mbx.sess := m }, status := c, frame := frame, data := data })
    (htime : u.time = s.time) (hpending : u.pending = s.pending) :
    ∃ t, s.done (xib op rq i s body) = .next t ∧ t.replied rq op c frame data ∧ t = { u with out := t.out, mbx.sess := t.mbx.sess } := by
  obtain ⟨n, hn⟩ := done_entered hs i body ((congrArg (body p) (State.entered_eq s rq)).trans (hbody _)) rfl
  refine ⟨{ u with out := s.sentReply rq op { status := c, frame := frame, data := data } u.out, mbx.sess := n }, hn.trans ?_, rfl, rfl⟩
  unfold State.keepClock
  rw [← htime, ← hpending]

/-- A served request that is answered with a status and has no effect. -/
theorem done_turned {c : Status} {data : List (Nat × Nat)}
    (hbody : ∀ m, body p { s with mbx.sess := m } = { st := { s with mbx.sess := m }, status := c, frame := s.time.frame, data := data }) :
    ∃ t, s.done (xib op rq i s body) = .next t ∧ t.replied rq op c s.time.frame data ∧ t = { s with out := t.out, mbx.sess := t.mbx.sess } :=
  done_answers hs i body hbody rfl rfl

end Served

/-! ### Mode and power-state requests (R323, R324, R331, R334) -/

section ModeRequests

variable {s : State} {rq : Rq} {p : Principal}

theorem exec_getMode (hs : s.serves rq 0x0200 p = true) :
    ∃ t, exec (.getMode rq) s = .next t ∧
      t.replied rq 0x0200 .success s.time.frame [(1, s.md.mode.code), (1, s.md.power.code), (1, s.ident.life.code)] ∧
      t = { s with out := t.out, mbx.sess := t.mbx.sess } := done_turned hs _ _ fun _ => rfl

theorem exec_setMode_accepted {byte : Nat} {m : Mode} (hs : s.serves rq 0x0201 p = true)
    (hok : s.modeCheck p (byte % 16) (byte / 128 % 2 == 1) = .ok m) :
    ∃ t, exec (.setMode rq byte) s = .next t ∧ t.replied rq 0x0201 .success s.effFrame [] ∧
      t = { s with
        out := t.out, mbx.sess := t.mbx.sess,
        md.modeReq := some { target := m, eff := s.effFrame, ref := some (rqRef rq 0x0201), forced := byte / 128 % 2 == 1 } } := by
  refine done_answers hs _ _ (u := s.acceptMode m (byte / 128 % 2 == 1) (some (rqRef rq 0x0201))) (fun n => ?_) rfl rfl
  have hok' : State.modeCheck { s with mbx.sess := n } p (byte % 16) (byte / 128 % 2 == 1) = .ok m := hok
  simp only [hok']
  rfl

theorem exec_setMode_refused {byte : Nat} {c : Status} (hs : s.serves rq 0x0201 p = true)
    (hbad : s.modeCheck p (byte % 16) (byte / 128 % 2 == 1) = .error c) :
    ∃ t, exec (.setMode rq byte) s = .next t ∧ t.replied rq 0x0201 c s.time.frame [] ∧ t = { s with out := t.out, mbx.sess := t.mbx.sess } :=
  done_turned hs _ _ fun n => by
    have hbad' : State.modeCheck { s with mbx.sess := n } p (byte % 16) (byte / 128 % 2 == 1) = .error c := hbad
    simp only [hbad']
    rfl

theorem exec_setPowerState_accepted {code : Nat} {w : Power} (hs : s.serves rq 0x0202 p = true) (hok : s.powerCheck p code = .ok w)
    (hhold : s.inHold = false) :
    ∃ t, exec (.setPowerState rq code) s = .next t ∧ t.replied rq 0x0202 .success s.effFrame [] ∧
      t = { s with
        out := t.out, mbx.sess := t.mbx.sess, md.pwrReq := some { target := w, eff := s.effFrame, ref := some (rqRef rq 0x0202) } } := by
  refine done_answers hs _ _ (u := { s with md.pwrReq := some { target := w, eff := s.effFrame, ref := some (rqRef rq 0x0202) } }) (fun n => ?_) rfl rfl
  have hok' : State.powerCheck { s with mbx.sess := n } p code = .ok w := hok
  have hout : State.inHold { s with mbx.sess := n } = false := hhold
  simp only [hok', State.acceptPower, hout, Bool.false_eq_true, false_and, if_false]
  rfl

theorem exec_setPowerState_refused {code : Nat} {c : Status} (hs : s.serves rq 0x0202 p = true) (hbad : s.powerCheck p code = .error c) :
    ∃ t, exec (.setPowerState rq code) s = .next t ∧ t.replied rq 0x0202 c s.time.frame [] ∧ t = { s with out := t.out, mbx.sess := t.mbx.sess } :=
  done_turned hs _ _ fun n => by
    have hbad' : State.powerCheck { s with mbx.sess := n } p code = .error c := hbad
    simp only [hbad']
    rfl

theorem exec_holdWake_held (h : s.md.hold = .held) : exec .holdWake s = .next { s with md.hold := .waking s.md.preHold s.now } := by
  refine (congrArg s.done (?_ : s.wake none = _)).trans (State.done_eq_next rfl rfl)
  unfold State.wake
  simp only [h, Option.getD_none]

theorem exec_holdWake_entering (h : s.md.hold = .entering) :
    exec .holdWake s = .next { s with md.hold := .out, md.power := s.md.preHold } := by
  refine (congrArg s.done (?_ : s.wake none = _)).trans (State.done_eq_next rfl rfl)
  unfold State.wake
  simp only [h, Option.getD_none]

theorem exec_holdResumeReady_waking {w : Power} {a : Nat} (h : s.md.hold = .waking w a) :
    exec .holdResumeReady s = .next { s with md.hold := .ready w a } := by
  show execHoldResumeReady s = _
  unfold execHoldResumeReady
  simp only [h]
  exact State.done_eq_next rfl rfl

end ModeRequests

/-- Settles O8: a request that its check accepts is recorded, one that it refuses has no effect, and a wake event starts the resume. -/
theorem modeAndPowerRequests : Obligations.ModeAndPowerRequests :=
  ⟨fun _ _ _ => exec_getMode, fun _ _ _ _ _ => exec_setMode_accepted, fun _ _ _ _ _ => exec_setMode_refused,
    fun _ _ _ _ _ => exec_setPowerState_accepted, fun _ _ _ _ _ => exec_setPowerState_refused, fun _ => exec_holdWake_held,
    fun _ => exec_holdWake_entering, fun _ _ _ => exec_holdResumeReady_waking⟩

/-! ### Resets (R320, R343, R344, R346, R454) -/

section Resets

variable {s : State} {rq : Rq} {p : Principal}

theorem exec_resetPort_accepted {port : Nat} (hs : s.serves rq 0x0206 p = true) (hof : p.isOF = true) (hport : port < 128) (hformed : s.formed port = true)
    (hmode : s.md.mode ≠ .quarantine) (hdata : s.dataOff = false) :
    ∃ t, exec (.resetPort rq port) s = .next t ∧ t.replied rq 0x0206 .success (s.time.frame + 1) [] ∧
      t = { s with out := t.out, mbx.sess := t.mbx.sess, md.portRst := sadd s.md.portRst port } := by
  have hexists : ¬ (128 ≤ port ∨ (! s.formed port) = true) := by simp [hformed, hport]
  exact done_answers hs _ _ (u := s.requestPortRst port)
    (fun _ => (if_neg (by simp [hof])).trans <| (if_neg hexists).trans <| (if_neg hmode).trans <| if_neg (by rw [Bool.not_eq_true]; exact hdata)) rfl rfl

theorem State.requestMrst_of_none {s : State} {cause : Nat} (h : s.md.mrst = none) :
    s.requestMrst cause = { s with md.mrst := some cause, md.mrstAt := s.time.frame + 1 } := by
  unfold State.requestMrst
  rw [h]
  rfl

theorem exec_resetManagement_accepted (hs : s.serves rq 0x0206 p = true) (hof : p.isOF = true) (hmode : s.md.mode ≠ .quarantine)
    (hnone : s.md.mrst = none) :
    ∃ t, exec (.resetManagement rq) s = .next t ∧ t.replied rq 0x0206 .success (s.time.frame + 1) [] ∧
      t = { s with out := t.out, mbx.sess := t.mbx.sess, md.mrst := some 2, md.mrstAt := s.time.frame + 1 } := by
  exact done_answers hs _ _ (u := { s with md.mrst := some 2, md.mrstAt := s.time.frame + 1 })
    (fun n => (if_neg (by simp [hof])).trans <| (if_neg hmode).trans <|
      congrArg (fun u : State => u.okAt (s.time.frame + 1)) (State.requestMrst_of_none (s := { s with mbx.sess := n }) hnone)) rfl rfl

theorem exec_resetWarm_owner (hs : s.serves rq 0x0206 .owner = true) :
    ∃ t, exec (.resetWarm rq) s = .next t ∧ t.replied rq 0x0206 .success (s.time.frame + 1) [] ∧
      t = { s with out := t.out, mbx.sess := t.mbx.sess, md.warmDue := true } :=
  done_answers hs _ _ (u := { s with md.warmDue := true }) (fun _ => if_neg (not_not.2 rfl)) rfl rfl

theorem exec_resetCold_owner (hs : s.serves rq 0x0206 .owner = true) :
    ∃ t, exec (.resetCold rq) s = .next t ∧ t.replied rq 0x0206 .success (s.time.frame + 1) [] ∧
      t = { s with out := t.out, mbx.sess := t.mbx.sess, md.coldDue := true } :=
  done_answers hs _ _ (u := { s with md.coldDue := true }) (fun _ => if_neg (not_not.2 rfl)) rfl rfl

theorem exec_mgmtRstNLow_requests {n : Nat} (hn : 25 ≤ n) (hlow : s.md.resetLow = false) (hboot : s.md.boot = .up) (hnone : s.md.mrst = none) :
    exec (.mgmtRstNLow n) s = .next { s with md.mrst := some 3, md.mrstAt := s.time.frame + 1 } := by
  refine (congrArg s.done ((if_pos ⟨hn, ?_, hboot⟩).trans (State.requestMrst_of_none hnone))).trans (State.done_eq_next rfl rfl)
  simp [hlow]

/-- Raising a source leaves every other pending bit, and every field outside the ports' blocks, as it is. -/
theorem State.bit_raiseAt_addr (s : State) (t code : Nat) (f : Fld) (hne : (pendFld t code).addr ≠ f.addr) (hlow : f.addr < 0x1000000) :
    (s.raiseAt t code).bit f = s.bit f := by
  have hset : (s.setBit (pendFld t code) true).bit f = s.bit f := State.bit_setBit_addr s _ f _ hne
  simp only [State.raiseAt]
  split_ifs
  · unfold State.bit State.fld at hset ⊢
    rw [State.rget_signal _ _ _ _ _ hlow]
    exact hset
  · exact hset

/-- The low own sources of two targets lie in different words. -/
theorem pendFld_private_addr_ne {t u n : Nat} (hn : n < 32) (hne : t ≠ u) : (pendFld t n).addr ≠ (pendFld u n).addr := by
  unfold pendFld
  simp only [if_pos hn, EVT_T_PEND_LO_PEND, EVT_T_PEND_LO]
  omega

theorem State.bit_raisePrivate_other (s : State) (t u n : Nat) (hn : n < 32) (hne : t ≠ u) (hu : u ≤ 131) :
    (s.raisePrivate t n).bit (pendFld u n) = s.bit (pendFld u n) := by
  have hlow := pendFld_low u n (.inl hu) (.inl (by omega))
  unfold State.raisePrivate
  split_ifs
  · exact State.bit_raiseAt_addr s t n _ (pendFld_private_addr_ne hn hne) hlow
  · rfl

/-- An own source raised in every bank is pending in the management function's. -/
theorem State.bit_raiseAll_targets (s : State) (l : List Nat) (n : Nat) (hn : n < 32) :
    (s.raiseAll (l ++ [128, 129, 130, 131]) n).bit (pendFld 128 n) = true := by
  unfold State.raiseAll
  simp only [List.foldl_append, List.foldl_cons, List.foldl_nil]
  rw [State.bit_raisePrivate_other _ 131 128 n hn (by decide) (by decide), State.bit_raisePrivate_other _ 130 128 n hn (by decide) (by decide),
    State.bit_raisePrivate_other _ 129 128 n hn (by decide) (by decide)]
  exact State.bit_raisePrivate_pend _ 128 n (by omega) rfl

/-- The state in which the restarted interpreter accepts commands (R320, R380). -/
def State.ready (s : State) : State := { (s.setBit MBX_STAT_READY true).setBit FLT_STAT_WD_EXP false with md.restart := 0 }

theorem State.ready_bit_READY (s : State) : s.ready.bit MBX_STAT_READY = true :=
  (State.bit_setBit_addr _ FLT_STAT_WD_EXP _ _ (by decide)).trans (State.bit_setBit_same s MBX_STAT_READY true (by decide) rfl)

theorem State.ready_bit_WD_EXP (s : State) : s.ready.bit FLT_STAT_WD_EXP = false := State.bit_setBit_same _ FLT_STAT_WD_EXP false (by decide) rfl

theorem exec_interpreterReady (h : s.md.restart ≠ 0) :
    ∃ t, exec .interpreterReady s = .next t ∧ t.bit MBX_STAT_READY = true ∧ t.bit FLT_STAT_WD_EXP = false ∧ t.md = { s.md with restart := 0 } ∧
      (s.md.restart = 1 → t.bit (pendFld 128 8) = true) ∧ t.mbx = s.mbx ∧ t.due = s.due := by
  have hexec : exec .interpreterReady s = s.done (if s.md.restart = 1 then s.ready.raiseAll s.ready.targets 8 else s.ready) :=
    congrArg s.done (if_neg h)
  rw [hexec]
  by_cases hone : s.md.restart = 1
  · rw [if_pos hone]
    refine ⟨_, State.done_eq_next (State.raiseAll_time _ _ _) (State.raiseAll_pending _ _ _), ?_, ?_, State.raiseAll_md _ _ _, fun _ => State.bit_raiseAll_targets _ _ 8 (by decide), State.raiseAll_mbx _ _ _,
      State.raiseAll_due _ _ _⟩
    · exact (State.bit_raiseAll _ _ _ _ (by decide) (.inr (by decide))).trans s.ready_bit_READY
    · exact (State.bit_raiseAll _ _ _ _ (by decide) (.inr (by decide))).trans s.ready_bit_WD_EXP
  · rw [if_neg hone]
    exact ⟨_, State.done_eq_next rfl rfl, s.ready_bit_READY, s.ready_bit_WD_EXP, rfl, fun h => absurd h hone, rfl, rfl⟩

end Resets

/-- Settles O10: each request for a reset is recorded for the next Daybreak, and the interpreter is ready after its restart. -/
theorem resetRequests : Obligations.ResetRequests :=
  ⟨fun _ _ _ _ => exec_resetPort_accepted, fun _ _ _ => exec_resetManagement_accepted, fun _ _ => exec_resetWarm_owner, fun _ _ => exec_resetCold_owner,
    fun _ _ _ hs hne => ⟨done_turned hs _ _ fun _ => if_pos hne, done_turned hs _ _ fun _ => if_pos hne⟩, fun _ _ => exec_mgmtRstNLow_requests,
    fun _ => exec_interpreterReady⟩

end Sys2Proof.Machine
end

section
/-! Proofs of the family 13_identity_lifecycle: sessions and SPDM sessions, nonces, tokens and lifecycle transitions (O14, O15). -/
set_option Elab.async false
namespace Sys2Proof.Machine
open Sys2Proof

/-! ### What the end of a session changes (R307, R313) -/

/-- Discarding the staging area and freeing its lock change the staged words, the lists of what is staged and the lock alone. -/
theorem State.releaseLock_eq (s : State) (n : Nat) : s.releaseLock n =
    { s with
      regs := (s.releaseLock n).regs, dirty := (s.releaseLock n).dirty, sec := (s.releaseLock n).sec, mbx.lock := (s.releaseLock n).mbx.lock } := by
  unfold State.releaseLock
  split_ifs
  · unfold State.clearStaging
    rw [State.revertStaged_eq]
  · rfl

theorem State.releaseLock_lock (s : State) (n : Nat) : (s.releaseLock n).mbx.lock ≠ some n := by
  unfold State.releaseLock
  split_ifs with h
  · exact nofun
  · exact h

/-- The end of a session changes what is staged, the lock, the sessions, the attachments and the debug session alone. -/
theorem State.closeSession_eq (s : State) (n : Nat) : s.closeSession n =
    { s with
      regs := (s.closeSession n).regs, dirty := (s.closeSession n).dirty, sec := (s.closeSession n).sec, md.dbg := (s.closeSession n).md.dbg,
      mbx.sess := (s.closeSession n).mbx.sess, mbx.lock := (s.closeSession n).mbx.lock, mbx.attach := (s.closeSession n).mbx.attach } := by
  unfold State.closeSession
  split
  · rfl
  · rw [State.releaseLock_eq]

@[simp] theorem State.closeSession_force (s : State) (n : Nat) : (s.closeSession n).force = s.force := by rw [State.closeSession_eq]
@[simp] theorem State.closeSession_time (s : State) (n : Nat) : (s.closeSession n).time = s.time := by rw [State.closeSession_eq]
@[simp] theorem State.closeSession_ident (s : State) (n : Nat) : (s.closeSession n).ident = s.ident := by rw [State.closeSession_eq]
@[simp] theorem State.closeSession_bnd (s : State) (n : Nat) : (s.closeSession n).bnd = s.bnd := by rw [State.closeSession_eq]
@[simp] theorem State.closeSession_rsv (s : State) (n : Nat) : (s.closeSession n).rsv = s.rsv := by rw [State.closeSession_eq]
@[simp] theorem State.closeSession_due (s : State) (n : Nat) : (s.closeSession n).due = s.due := by rw [State.closeSession_eq]
@[simp] theorem State.closeSession_pending (s : State) (n : Nat) : (s.closeSession n).pending = s.pending := by rw [State.closeSession_eq]

theorem State.closeSession_sess (s : State) (n : Nat) : mget (s.closeSession n).mbx.sess n = none := by
  unfold State.closeSession
  split
  · assumption
  · exact mget_mdel_same _ _

/-- An open session that ends leaves neither its lock nor an attachment. -/
theorem State.closeSession_frees {s : State} {n : Nat} {x : Session} (h : mget s.mbx.sess n = some x) :
    (s.closeSession n).mbx.lock ≠ some n ∧ ∀ a ∈ (s.closeSession n).mbx.attach, a.sess ≠ n := by
  unfold State.closeSession
  rw [h]
  refine ⟨s.releaseLock_lock n, fun a ha => ?_⟩
  simpa using (List.mem_filter.1 ha).2

/-- Ending sessions one after another changes what the end of one may change. -/
theorem foldl_closeSession_eq (l : List Nat) (s : State) : l.foldl State.closeSession s =
    { s with
      regs := (l.foldl State.closeSession s).regs, dirty := (l.foldl State.closeSession s).dirty, sec := (l.foldl State.closeSession s).sec,
      md.dbg := (l.foldl State.closeSession s).md.dbg, mbx.sess := (l.foldl State.closeSession s).mbx.sess,
      mbx.lock := (l.foldl State.closeSession s).mbx.lock, mbx.attach := (l.foldl State.closeSession s).mbx.attach } := by
  induction l generalizing s with
  | nil => rfl
  | cons n l ih =>
    simp only [List.foldl_cons]
    rw [ih, State.closeSession_eq]

theorem State.closeSessions_eq (s : State) (f : Nat → Session → Bool) : s.closeSessions f =
    { s with
      regs := (s.closeSessions f).regs, dirty := (s.closeSessions f).dirty, sec := (s.closeSessions f).sec, md.dbg := (s.closeSessions f).md.dbg,
      mbx.sess := (s.closeSessions f).mbx.sess, mbx.lock := (s.closeSessions f).mbx.lock, mbx.attach := (s.closeSessions f).mbx.attach } :=
  foldl_closeSession_eq _ s

@[simp] theorem State.closeSessions_force (s : State) (f : Nat → Session → Bool) : (s.closeSessions f).force = s.force := by rw [State.closeSessions_eq]
@[simp] theorem State.closeSessions_time (s : State) (f : Nat → Session → Bool) : (s.closeSessions f).time = s.time := by rw [State.closeSessions_eq]
@[simp] theorem State.closeSessions_ident (s : State) (f : Nat → Session → Bool) : (s.closeSessions f).ident = s.ident := by rw [State.closeSessions_eq]
@[simp] theorem State.closeSessions_bnd (s : State) (f : Nat → Session → Bool) : (s.closeSessions f).bnd = s.bnd := by rw [State.closeSessions_eq]
@[simp] theorem State.closeSessions_rsv (s : State) (f : Nat → Session → Bool) : (s.closeSessions f).rsv = s.rsv := by rw [State.closeSessions_eq]
@[simp] theorem State.closeSessions_due (s : State) (f : Nat → Session → Bool) : (s.closeSessions f).due = s.due := by rw [State.closeSessions_eq]
@[simp] theorem State.closeSessions_pending (s : State) (f : Nat → Session → Bool) : (s.closeSessions f).pending = s.pending := by rw [State.closeSessions_eq]

/-- The session of a served request is open in the state it has entered. -/
theorem State.entered_open {s : State} {rq : Rq} {op : Nat} {p : Principal} (hs : s.serves rq op p = true) (hne : rq.sess ≠ 0) :
    ∃ x, mget (s.entered rq).mbx.sess rq.sess = some x := by
  obtain ⟨hadmits, -⟩ := State.serves_admits hs
  unfold State.entered
  rw [if_neg hne]
  unfold State.admits at hadmits
  rw [if_neg hne] at hadmits
  cases hx : s.sessionOf rq with
  | none => simp [hx] at hadmits
  | some x => exact ⟨_, mget_mput_same _ _ _⟩

/-! ### A session number that is free (R307) -/

theorem mem_keys_of_mget {α : Type} {m : NMap α} {k : Nat} {v : α} (h : mget m k = some v) : k ∈ m.map Prod.fst := by
  induction m with
  | nil => exact absurd h nofun
  | cons e m ih =>
    obtain ⟨j, u⟩ := e
    unfold mget at h
    split_ifs at h with hj
    · exact List.mem_cons.2 (.inl hj.symm)
    · exact List.mem_cons_of_mem _ (ih h)

/-- The session numbers tried, from a free value on. -/
def sessionTries (v : Nat) : List Nat := (List.range 300).map (fun i => (v + i) % 65535 + 1)

theorem sessionTries_nodup (v : Nat) : (sessionTries v).Nodup := by
  refine List.Nodup.map_on (fun i hi j hj hij => ?_) List.nodup_range
  rw [List.mem_range] at hi hj
  omega

theorem sessionTries_range {v n : Nat} (h : n ∈ sessionTries v) : 1 ≤ n ∧ n ≤ 65535 := by
  obtain ⟨i, -, rfl⟩ := List.mem_map.1 h
  omega

/-- Fewer than 300 open sessions leave one of the numbers tried free. -/
theorem exists_free_try {m : NMap Session} (v : Nat) (h : m.length < 300) : ∃ n ∈ sessionTries v, (mget m n).isNone = true := by
  by_contra hnone
  push Not at hnone
  have hsub : sessionTries v ⊆ m.map Prod.fst := fun n hn => by
    obtain ⟨x, hx⟩ := Option.ne_none_iff_exists'.1 (mt Option.isNone_iff_eq_none.2 (hnone n hn))
    exact mem_keys_of_mget hx
  have hlen := ((sessionTries_nodup v).subperm hsub).length_le
  simp only [sessionTries, List.length_map, List.length_range] at hlen
  omega

/-- The number a new session gets. -/
def State.sessionNumber (s : State) : Nat := ((sessionTries (Config.freeValue s.fresh)).find? (fun n => (mget s.mbx.sess n).isNone)).getD 0

theorem State.pickSession_eq (s : State) : s.pickSession = (s.sessionNumber, { s with fresh := s.fresh + 1 }) := rfl

theorem State.sessionNumber_free {s : State} (h : s.mbx.sess.length < 300) :
    1 ≤ s.sessionNumber ∧ s.sessionNumber ≤ 65535 ∧ mget s.mbx.sess s.sessionNumber = none := by
  unfold State.sessionNumber
  cases hfind : (sessionTries (Config.freeValue s.fresh)).find? (fun n => (mget s.mbx.sess n).isNone) with
  | none =>
    obtain ⟨n, hn, hfree⟩ := exists_free_try (Config.freeValue s.fresh) h
    exact absurd hfree (List.find?_eq_none.1 hfind n hn)
  | some n =>
    obtain ⟨hlow, hhigh⟩ := sessionTries_range (List.mem_of_find?_eq_some hfind)
    have hfree : (mget s.mbx.sess n).isNone = true := List.find?_some (p := fun n => (mget s.mbx.sess n).isNone) hfind
    exact ⟨hlow, hhigh, Option.isNone_iff_eq_none.1 hfree⟩

/-! ### GET_IDENTITY, OPEN_SESSION, CLOSE_SESSION and ATTACH (R289, R307, R319) -/

section Sessions

variable {s : State} {rq : Rq} {p : Principal}

theorem exec_getIdentity (hs : s.serves rq 0x0100 p = true) :
    ∃ t, exec (.getIdentity rq) s = .next t ∧
      t.replied rq 0x0100 .success s.time.frame
        [(4, s.idWord), (4, s.stepWord), (48, s.ident.digest), (4, s.lcStat), (1, s.fld TWL_PERS_LEVEL), (1, s.ident.runSvn)] ∧
      t = { s with out := t.out, mbx.sess := t.mbx.sess } := done_turned hs _ _ fun _ => rfl

/-- The session that a privileged OPEN_SESSION opens over an SPDM session (Table 14-3, R308). -/
def State.privilegedSession (s : State) (rq : Rq) (spdm : Nat) (x : Spdm) : Session :=
  Session.mk .privileged rq.route rq.eid (s.keyPrincipal x) spdm x.key (Config.freeValue (s.fresh + 1) % 2 ^ 32) none none 0
    (packetKey x.secret s.sessionNumber)

/-- The answer to a privileged OPEN_SESSION that is accepted. -/
def State.privilegedOpened (s : State) (rq : Rq) (spdm : Nat) (x : Spdm) : Ans :=
  { st := { s with fresh := s.fresh + 2, mbx.sess := mput s.mbx.sess s.sessionNumber (s.privilegedSession rq spdm x) }, status := .success,
    frame := s.time.frame,
    data := [(2, s.sessionNumber), (4, Config.freeValue (s.fresh + 1) % 2 ^ 32), (1, (s.keyPrincipal x).mask), (8, 0)] }

theorem State.openSession_privileged {s : State} {rq : Rq} {spdm : Nat} {x : Spdm} (hx : mget s.mbx.spdm spdm = some x) :
    s.openSession .privileged rq (s.keyPrincipal x) spdm x.key 0 none = s.privilegedOpened rq spdm x := by
  unfold State.openSession State.privilegedOpened State.privilegedSession
  rw [State.pickSession_eq, hx]
  rfl

theorem exec_openSession_privileged {spdm : Nat} {x : Spdm} {tok : Token} (hs : s.serves rq 0x0101 p = true) (hsess : rq.sess = 0)
    (hload : s.sessionLoad < 256) (hx : mget s.mbx.spdm spdm = some x) (hroute : x.route = rq.route) (hauth : x.mutualAuth = true) :
    ∃ t n, exec (.openSession rq 1 spdm tok) s = .next t ∧ 1 ≤ n ∧ n ≤ 65535 ∧ mget s.mbx.sess n = none ∧
      mget t.mbx.sess n = some (Session.mk .privileged rq.route rq.eid (s.keyPrincipal x) spdm x.key (Config.freeValue (s.fresh + 1) % 2 ^ 32) none none 0
        (packetKey x.secret n)) ∧
      t.replied rq 0x0101 .success s.time.frame
        [(2, n), (4, Config.freeValue (s.fresh + 1) % 2 ^ 32), (1, (s.keyPrincipal x).mask), (8, 0)] ∧
      t = { s with out := t.out, mbx.sess := t.mbx.sess, fresh := s.fresh + 2 } := by
  obtain ⟨hlow, hhigh, hfree⟩ := State.sessionNumber_free (s := s) (by unfold State.sessionLoad at hload; omega)
  have hentered : { s with mbx.sess := (s.entered rq).mbx.sess } = s := by
    rw [← State.entered_eq]
    exact if_pos hsess
  refine ⟨_, s.sessionNumber, done_serves hs _ _ (s.privilegedOpened rq spdm x) ?body rfl, hlow, hhigh, hfree, ?_, rfl, rfl⟩
  case body =>
    rw [hentered]
    refine (if_neg (by omega)).trans ?_
    simp only [hx, hroute, hauth, and_self, if_true]
    exact State.openSession_privileged hx
  refine (mget_mmod_ne _ _ (by omega)).trans ?_
  exact mget_mput_same _ _ _

theorem mput_length (m : NMap Session) (k : Nat) (x : Session) : m.length ≤ (mput m k x).length := by
  induction m with
  | nil => exact Nat.zero_le _
  | cons e m ih =>
    unfold mput
    split_ifs
    · exact Nat.le_succ _
    · exact le_rfl
    · exact Nat.succ_le_succ ih

/-- Entering a session closes none. -/
theorem State.entered_load (s : State) (rq : Rq) : s.sessionLoad ≤ (s.entered rq).sessionLoad := by
  unfold State.entered
  split_ifs
  · exact le_rfl
  · split
    · exact Nat.add_le_add_right (mput_length _ _ _) _
    · exact le_rfl

theorem exec_openSession_busy {kind spdm : Nat} {tok : Token} (hs : s.serves rq 0x0101 p = true) (hload : 256 ≤ s.sessionLoad) :
    ∃ t, exec (.openSession rq kind spdm tok) s = .next t ∧ t.replied rq 0x0101 .busy s.time.frame [] ∧
      t = { s with out := t.out, mbx.sess := t.mbx.sess } :=
  done_refuses hs _ _ (if_pos (hload.trans (s.entered_load rq)))

theorem exec_closeSession (hs : s.serves rq 0x0102 p = true) (hne : rq.sess ≠ 0) :
    ∃ t, exec (.closeSession rq) s = .next t ∧ t.replied rq 0x0102 .success s.time.frame [] ∧ mget t.mbx.sess rq.sess = none ∧
      t.mbx.lock ≠ some rq.sess ∧ (∀ a ∈ t.mbx.attach, a.sess ≠ rq.sess) ∧ t.force = s.force ∧ t.due = s.due ∧ t.ident = s.ident := by
  obtain ⟨x, hx⟩ := State.entered_open hs hne
  obtain ⟨hlock, hattach⟩ := State.closeSession_frees hx
  have hdone := done_serves hs (.closeSession rq) (fun _ s => (s.closeSession rq.sess).okNow) ((s.entered rq).closeSession rq.sess).okNow
    (by rw [← State.entered_eq]) rfl
  refine ⟨_, hdone, ?replied, ?closed, hlock, hattach, (State.closeSession_force _ _).trans (s.entered_force rq),
    (State.closeSession_due _ _).trans (s.entered_due rq), ?ident⟩
  case replied =>
    have hframe : ((s.entered rq).closeSession rq.sess).time.frame = s.time.frame := by simp
    rw [← hframe]
    rfl
  case closed =>
    refine (mget_mmod_same _ _ _).trans ?_
    rw [show mget ((s.entered rq).closeSession rq.sess).okNow.st.mbx.sess rq.sess = none from State.closeSession_sess _ _]
    rfl
  case ident =>
    refine (State.closeSession_ident _ _).trans ?_
    rw [State.entered_eq]

/-- The state in which a session has attached the BAR of its route (R319). -/
def State.barAttached (s : State) (rq : Rq) : State :=
  { s with mbx.attach := (s.mbx.attach.filter fun a => ! (a.source == 0 && a.route == rq.route && (0 != 1 || a.eid == 0))) ++
      [{ source := 0, route := rq.route, eid := 0, sess := rq.sess }] }

theorem exec_attach_bar (hs : s.serves rq 0x0103 p = true) (hroute : rq.route ≤ 128)
    (hown : ∀ a ∈ s.mbx.attach, a.source = 0 → a.route = rq.route → a.sess = rq.sess) :
    ∃ t, exec (.attach rq 0 0) s = .next t ∧ t.replied rq 0x0103 .success s.time.frame [] ∧
      { source := 0, route := rq.route, eid := 0, sess := rq.sess } ∈ t.mbx.attach ∧
      t = { s with out := t.out, mbx.sess := t.mbx.sess, mbx.attach := t.mbx.attach } := by
  have hfree : ¬ (s.mbx.attach.any fun a => (a.source == 0 && a.route == rq.route && (0 != 1 || a.eid == 0)) && a.sess != rq.sess) = true := by
    simp only [List.any_eq_true, not_exists, not_and, Bool.and_eq_true, beq_iff_eq, bne_iff_ne, not_not]
    rintro a ha ⟨⟨hsource, hroute⟩, -⟩
    exact hown a ha hsource hroute
  have hdone : ∃ t, exec (.attach rq 0 0) s = .next t ∧ t.replied rq 0x0103 .success s.time.frame [] ∧
      t = { s.barAttached rq with out := t.out, mbx.sess := t.mbx.sess } :=
    done_answers hs _ _ (u := s.barAttached rq) (fun _ => (if_neg (by omega)).trans (if_neg hfree)) rfl rfl
  obtain ⟨t, hexec, hreplied, ht⟩ := hdone
  refine ⟨t, hexec, hreplied, ?_, ?_⟩
  · rw [ht]
    exact List.mem_append_right _ (List.mem_singleton_self _)
  · rw [ht]
    rfl

/-! ### SPDM sessions (R291, R308) -/

theorem exec_spdmKeyExchange_opens {n route eid key secret : Nat} {mutualAuth briral : Bool} (hboot : s.md.boot = .up) (hws : s.sec.wsReady = true)
    (hroute : s.spdmRoute route = true) (hload : s.sessionLoad < 256) (hfree : mget s.mbx.spdm n = none) :
    exec (.spdmKeyExchange n route eid mutualAuth key secret briral) s = .next { s with
      mbx.spdm := mput s.mbx.spdm n { route := route, eid := eid, mutualAuth := mutualAuth, key := key, secret := secret, briral := briral },
      out := .spdm n true :: s.out } :=
  (congrArg s.done (if_pos ⟨hboot, hws, hroute, hload, by rw [hfree]; rfl⟩)).trans (State.done_eq_next rfl rfl)

theorem exec_spdmKeyExchange_noRoute {n route eid key secret : Nat} {mutualAuth briral : Bool} (hroute : s.spdmRoute route = false) :
    exec (.spdmKeyExchange n route eid mutualAuth key secret briral) s = .next { s with out := .spdm n false :: s.out } :=
  (congrArg s.done (if_neg (by simp [hroute]))).trans (State.done_eq_next rfl rfl)

theorem exec_spdmEndSession (s : State) (n : Nat) :
    ∃ t, exec (.spdmEndSession n) s = .next t ∧ mget t.mbx.spdm n = none ∧ t.force = s.force ∧ t.due = s.due ∧ t.ident = s.ident :=
  ⟨_, rfl, mget_mdel_same _ _, s.closeSessions_force _, s.closeSessions_due _, s.closeSessions_ident _⟩

end Sessions

/-- Settles O14: a session gets a number that is free, is closed with all that it holds, and its SPDM session with it. -/
theorem sessionsOpenAndClose : Obligations.SessionsOpenAndClose :=
  ⟨fun _ _ _ => exec_getIdentity, fun _ _ _ _ _ _ => exec_openSession_privileged, fun _ _ _ _ _ _ => exec_openSession_busy,
    fun _ _ _ => exec_closeSession, fun _ _ _ => exec_attach_bar, fun _ _ _ _ _ _ _ _ => exec_spdmKeyExchange_opens,
    fun _ _ _ _ _ _ _ _ => exec_spdmKeyExchange_noRoute, exec_spdmEndSession⟩

/-! ### Tokens and lifecycle transitions (R296, R297, R299, R300, R466) -/

section Lifecycle

variable {s : State} {rq : Rq} {p : Principal}

theorem exec_tokenNonce {type : Nat} (hs : s.serves rq 0x0104 p = true) (htype : type = 0x20 ∨ (1 ≤ type ∧ type ≤ 6)) :
    ∃ t, exec (.tokenNonce rq type) s = .next t ∧ t.replied rq 0x0104 .success s.time.frame [(32, Config.freeValue s.fresh % 2 ^ 256)] ∧
      t = { s with
        out := t.out, mbx.sess := t.mbx.sess, fresh := s.fresh + 1, ident.nonces := mput s.ident.nonces type (Config.freeValue s.fresh % 2 ^ 256) } :=
  done_answers hs _ _ (u := { s with fresh := s.fresh + 1, ident.nonces := mput s.ident.nonces type (Config.freeValue s.fresh % 2 ^ 256) })
    (fun _ => if_neg (by omega)) rfl rfl

theorem exec_presentToken_rejected {tok : Token} (hs : s.serves rq 0x0105 p = true) (hbad : s.tokenOk tok = false) :
    ∃ t, exec (.presentToken rq tok) s = .next t ∧ t.replied rq 0x0105 .token s.time.frame [] ∧
      t.fld GLB_TOK_STAT_TOK_REJ = min (s.fld GLB_TOK_STAT_TOK_REJ + 1) (2 ^ 16 - 1) ∧
      t = { s with out := t.out, mbx.sess := t.mbx.sess, regs := t.regs, ident.nonces := mdel s.ident.nonces tok.type } := by
  have hdone : ∃ t, exec (.presentToken rq tok) s = .next t ∧ t.replied rq 0x0105 .token s.time.frame [] ∧
      t = { s.rejectToken tok with out := t.out, mbx.sess := t.mbx.sess } :=
    done_answers hs _ _ (u := s.rejectToken tok) (fun _ => if_pos (by rw [Bool.not_eq_true']; exact hbad)) rfl rfl
  obtain ⟨t, hexec, hreplied, ht⟩ := hdone
  refine ⟨t, hexec, hreplied, ?_, ?_⟩
  · rw [ht]
    exact State.fld_inc_same s GLB_TOK_STAT_TOK_REJ (by decide)
  · rw [ht]
    rfl

/-- A transition that is free to start takes effect at the next Daybreak (R297). -/
theorem State.transition_starts {s : State} {target : Lifecycle} {owner : Nat} (hdue : s.ident.due = none) (hfuses : s.ident.fuses < 255) :
    s.transition target owner = (s.startTransition target owner).okAt s.nextFrame := by
  unfold State.transition
  rw [if_neg (by rw [hdue]; exact Bool.false_ne_true), if_neg (by omega)]

theorem State.tokenPrecondition_vendorTest {s : State} {tok : Token} (h : tok.type = 1) : s.tokenPrecondition tok = none := by
  unfold State.tokenPrecondition
  simp only [h]

theorem exec_presentToken_vendorTest {tok : Token} (hs : s.serves rq 0x0105 p = true) (hok : s.tokenOk tok = true) (htype : tok.type = 1)
    (hdue : s.ident.due = none) (hfuses : s.ident.fuses < 255) :
    ∃ t, exec (.presentToken rq tok) s = .next t ∧ t.replied rq 0x0105 .success (s.time.frame + 1) [] ∧
      t.fld GLB_TOK_STAT_TOK_OK = min (s.fld GLB_TOK_STAT_TOK_OK + 1) (2 ^ 16 - 1) ∧
      t = { s with
        out := t.out, mbx.sess := t.mbx.sess, regs := t.regs, ident.nonces := mdel s.ident.nonces 1, ident.fuses := s.ident.fuses + 1,
        ident.record := { target := .vendorTest, count := s.ident.fuses + 1, pend := true, ok := true, prev := s.ident.life },
        ident.retiredFuse := s.ident.retiredFuse || false, ident.due := some { target := .vendorTest, eff := s.time.frame + 1, owner := 0 },
        twl.jq := (s.journalIn 1 (s.ident.fuses + 1)).twl.jq } := by
  have hdone : ∃ t, exec (.presentToken rq tok) s = .next t ∧ t.replied rq 0x0105 .success (s.time.frame + 1) [] ∧
      t = { (s.startTransition .vendorTest 0).acceptToken tok with out := t.out, mbx.sess := t.mbx.sess } := by
    refine done_answers hs _ _ (u := (s.startTransition .vendorTest 0).acceptToken tok) (fun m => ?_) rfl rfl
    refine (if_neg (by rw [Bool.not_eq_true', Bool.not_eq_false]; exact hok)).trans ?_
    have hpre := State.tokenPrecondition_vendorTest (s := { s with mbx.sess := m }) htype
    have hstarts := State.transition_starts (s := { s with mbx.sess := m }) (target := .vendorTest) (owner := 0) hdue hfuses
    have harg : (if tok.type = 6 then tok.arg else 0) = 0 := if_neg (by omega)
    have htarget : tokenTarget tok.type = some .vendorTest := by rw [htype]; rfl
    simp only [hpre, htarget, harg, hstarts]
    rfl
  obtain ⟨t, hexec, hreplied, ht⟩ := hdone
  refine ⟨t, hexec, hreplied, ?_, ?_⟩
  · rw [ht]
    exact State.fld_inc_same s GLB_TOK_STAT_TOK_OK (by decide)
  · rw [ht]
    unfold State.acceptToken
    rw [htype]
    rfl

/-- A served lifecycle request whose body starts a transition: the fuse burns, the record is queued for the journal, and the rest of the state stays. -/
theorem done_transition {op : Nat} (hs : s.serves rq op p = true) (i : Instr) (body : Principal → State → Ans) {target : Lifecycle} {owner : Nat}
    (hbody : ∀ m, body p { s with mbx.sess := m } = State.transition { s with mbx.sess := m } target owner) (hdue : s.ident.due = none)
    (hfuses : s.ident.fuses < 255) :
    ∃ t, s.done (xib op rq i s body) = .next t ∧ t.replied rq op .success (s.time.frame + 1) [] ∧
      t = { s.startTransition target owner with out := t.out, mbx.sess := t.mbx.sess } :=
  done_answers hs i body (u := s.startTransition target owner) (fun m => (hbody m).trans (State.transition_starts hdue hfuses)) rfl rfl

theorem exec_ownerClaim {key : Nat} (hs : s.serves rq 0x0106 p = true) (hroute : rq.route = 128 ∨ rq.route = 130 ∨ rq.route = 131)
    (hlife : s.ident.life = .blank) (hmode : s.md.mode = .standby ∨ s.md.mode = .bringUp ∨ s.md.mode = .provisioning) (hdue : s.ident.due = none)
    (hfuses : s.ident.fuses < 255) :
    ∃ t, exec (.ownerClaim rq key) s = .next t ∧ t.replied rq 0x0106 .success (s.time.frame + 1) [] ∧ t.ident.fuses = s.ident.fuses + 1 ∧
      t.ident.due = some { target := .ownerOpen, eff := s.time.frame + 1, owner := Config.digest [key] } ∧
      t = { s with out := t.out, mbx.sess := t.mbx.sess, ident := t.ident, twl.jq := (s.journalIn 1 (s.ident.fuses + 1)).twl.jq } := by
  have hdone : ∃ t, exec (.ownerClaim rq key) s = .next t ∧ t.replied rq 0x0106 .success (s.time.frame + 1) [] ∧
      t = { s.startTransition .ownerOpen (Config.digest [key]) with out := t.out, mbx.sess := t.mbx.sess } :=
    done_transition hs _ _ (fun _ => (if_neg (by omega)).trans (if_neg (by simp [hlife, hmode]))) hdue hfuses
  obtain ⟨t, hexec, hreplied, ht⟩ := hdone
  exact ⟨t, hexec, hreplied, by rw [ht]; rfl, by rw [ht]; rfl, by rw [ht]; rfl⟩

theorem exec_ownerSetting_owned (hs : s.serves rq 0x0107 p = true) (hlife : s.ident.life = .ownerOpen) (hdue : s.ident.due = none)
    (hfuses : s.ident.fuses < 255) :
    ∃ t, exec (.ownerSetting rq 0) s = .next t ∧ t.replied rq 0x0107 .success (s.time.frame + 1) [] ∧
      t.ident.due = some { target := .owned, eff := s.time.frame + 1, owner := s.ident.owner } ∧
      t = { s with out := t.out, mbx.sess := t.mbx.sess, ident := t.ident, twl.jq := (s.journalIn 1 (s.ident.fuses + 1)).twl.jq } := by
  have hdone : ∃ t, exec (.ownerSetting rq 0) s = .next t ∧ t.replied rq 0x0107 .success (s.time.frame + 1) [] ∧
      t = { s.startTransition .owned s.ident.owner with out := t.out, mbx.sess := t.mbx.sess } :=
    done_transition hs _ _ (fun _ => if_pos hlife) hdue hfuses
  obtain ⟨t, hexec, hreplied, ht⟩ := hdone
  exact ⟨t, hexec, hreplied, by rw [ht]; rfl, by rw [ht]; rfl⟩

theorem exec_ownerSetting_lock (hs : s.serves rq 0x0107 p = true) (hlife : s.ident.life = .owned) :
    ∃ t, exec (.ownerSetting rq 2) s = .next t ∧ t.replied rq 0x0107 .success (s.time.frame + 1) [] ∧
      t = { s with out := t.out, mbx.sess := t.mbx.sess, ident.lockDue := some (true, s.time.frame + 1) } :=
  done_answers hs _ _ (u := { s with ident.lockDue := some (true, s.time.frame + 1) }) (fun _ => if_pos hlife) rfl rfl

theorem exec_vendorLifecycleCommand_blank (hs : s.serves rq 0x10000 p = true) (hlife : s.ident.life = .vendorTest) (hdue : s.ident.due = none)
    (hfuses : s.ident.fuses < 255) :
    ∃ t, exec (.vendorLifecycleCommand rq false) s = .next t ∧ t.replied rq 0x10000 .success (s.time.frame + 1) [] ∧
      t.ident.due = some { target := .blank, eff := s.time.frame + 1, owner := 0 } ∧
      t = { s with out := t.out, mbx.sess := t.mbx.sess, ident := t.ident, twl.jq := (s.journalIn 1 (s.ident.fuses + 1)).twl.jq } := by
  have hdone : ∃ t, exec (.vendorLifecycleCommand rq false) s = .next t ∧ t.replied rq 0x10000 .success (s.time.frame + 1) [] ∧
      t = { s.startTransition .blank 0 with out := t.out, mbx.sess := t.mbx.sess } :=
    done_transition hs _ _ (fun _ => if_pos hlife) hdue hfuses
  obtain ⟨t, hexec, hreplied, ht⟩ := hdone
  exact ⟨t, hexec, hreplied, by rw [ht]; rfl, by rw [ht]; rfl⟩

end Lifecycle

/-- Settles O15: a token that passes and a setting that is allowed start their transition; a token that fails is counted, its nonce spent. -/
theorem tokensAndLifecycle : Obligations.TokensAndLifecycle :=
  ⟨fun _ _ _ _ => exec_tokenNonce, fun _ _ _ _ => exec_presentToken_rejected, fun _ _ _ _ => exec_presentToken_vendorTest, fun _ _ _ _ => exec_ownerClaim,
    fun _ _ _ => exec_ownerSetting_owned, fun _ _ _ => exec_ownerSetting_lock, fun _ _ _ => exec_vendorLifecycleCommand_blank⟩

end Sys2Proof.Machine
end

section
/-! Proofs of the families 14_command_protocol and 15_modes_power_debug: the sequence of a session, the staging lock and commits, and debug access
(O7, O9, O13). -/
set_option Elab.async false
namespace Sys2Proof.Machine
open Sys2Proof

/-! ### The sequence of a session (R304 to R309) -/

section Sequence

variable {s : State} {op : Nat} {rq : Rq} {i : Instr} {body : Principal → State → Ans} {x : Session}

theorem mget_of_sessionOf (h : s.sessionOf rq = some x) : mget s.mbx.sess rq.sess = some x := by
  unfold State.sessionOf at h
  split at h
  next y hy =>
    split_ifs at h
    rw [hy]
    exact h
  next => exact absurd h nofun

/-- A request of the right form, while the interpreter is ready, is one of its session. -/
theorem xib_of_form (hboot : s.md.boot = .up) (hready : s.bit MBX_STAT_READY = true) (hversion : rq.version = 1) (hlen : rq.plen ≤ 4096)
    (hsess : rq.sess ≠ 0) :
    xib op rq i s body = match s.sessionOf rq with
      | none => s.reply0 rq op .session
      | some x =>
        if x.kind = .host then
          if rq.auth then s.reply0 rq op .parameter else s.runSession rq op x body
        else if rq.auth && x.tagOk op rq then s.runSession rq op x body
        else s.authFail rq op x := by
  exact (if_neg (not_not.2 hboot)).trans <| (if_neg (by rw [hready]; exact Bool.false_ne_true)).trans <| (if_neg (not_not.2 hversion)).trans <|
    (if_neg (by omega)).trans <| if_neg hsess

/-- While the interpreter is not ready, a request waits on its route. -/
theorem xib_of_notReady (hboot : s.md.boot = .up) (hready : s.bit MBX_STAT_READY = false) : xib op rq i s body = s.hold rq.route i := by
  unfold xib
  rw [if_neg (not_not.2 hboot), if_pos (by rw [hready]; rfl)]

section Open

variable (hboot : s.md.boot = .up) (hready : s.bit MBX_STAT_READY = true) (hversion : rq.version = 1) (hlen : rq.plen ≤ 4096) (hsess : rq.sess ≠ 0)
  (hx : s.sessionOf rq = some x) (hkind : x.kind ≠ .host)
include hboot hready hversion hlen hsess hx hkind

theorem xib_of_verified (hauth : rq.auth = true) (htag : x.tagOk op rq = true) : xib op rq i s body = s.runSession rq op x body := by
  rw [xib_of_form hboot hready hversion hlen hsess, hx]
  simp only [if_neg hkind, hauth, htag, Bool.and_self, if_true]

theorem xib_of_unverified (hbad : rq.auth = false ∨ x.tagOk op rq = false) : xib op rq i s body = s.authFail rq op x := by
  have htag : (rq.auth && x.tagOk op rq) = false := by rcases hbad with h | h <;> simp [h]
  rw [xib_of_form hboot hready hversion hlen hsess, hx]
  simp only [if_neg hkind, htag, Bool.false_eq_true, if_false]

end Open

theorem State.runSession_repeat {rp : Reply} (hlast : x.last = some (rq.seq, rq.tag)) (hstored : x.stored = some rp) :
    s.runSession rq op x body = s.sendReply x.wireKey (rqRef rq op) rp := by
  unfold State.runSession
  rw [if_pos hlast, hstored]

theorem State.runSession_outOfSequence (hlast : x.last ≠ some (rq.seq, rq.tag)) (hseq : rq.seq ≠ x.expected) :
    s.runSession rq op x body = (s.inc MBX_ERR_SEQ_ERR).reply0 rq op .sequence := by
  unfold State.runSession
  rw [if_neg hlast, if_pos hseq]

theorem deliver_last_closes {a : Ans} {key : Option Nat} (hlater : a.later = false) (hseq : rq.seq = 0xFFFFFFFF) (hsess : rq.sess ≠ 0) :
    mget (State.deliver a rq op key).mbx.sess rq.sess = none := by
  unfold State.deliver
  rw [if_neg (by rw [hlater]; exact Bool.false_ne_true), if_pos ⟨hseq, hsess⟩]
  exact State.closeSession_sess _ _

theorem State.runSession_last_closes (hseq : rq.seq = 0xFFFFFFFF) (hexp : x.expected = 0xFFFFFFFF) (hlast : x.last ≠ some (rq.seq, rq.tag))
    (hsess : rq.sess ≠ 0) (hlater : (body x.prin (s.enter rq x)).later = false) :
    mget (s.runSession rq op x body).mbx.sess rq.sess = none := by
  unfold State.runSession
  rw [if_neg hlast, if_neg (by rw [hseq, hexp]; exact not_not.2 rfl)]
  cases hgate : (s.enter rq x).opGate x.prin op with
  | none =>
    simp only [hgate]
    exact deliver_last_closes hlater hseq hsess
  | some c =>
    simp only [hgate]
    exact deliver_last_closes rfl hseq hsess

theorem State.authFail_few (hfails : x.fails < 15) : s.authFail rq op x =
    { s.inc MBX_ERR_AUTH_FAIL with
      out := .discarded (rqRef rq op) :: s.out, mbx.sess := mput s.mbx.sess rq.sess { x with fails := x.fails + 1 } } :=
  if_neg (by omega)

theorem State.authFail_many (hfails : 15 ≤ x.fails) :
    s.authFail rq op x = ((s.inc MBX_ERR_AUTH_FAIL).emit (.discarded (rqRef rq op))).closeSession rq.sess :=
  if_pos (by omega)

end Sequence

/-- Settles O7, by the outcome of each check of R304 to R309 in turn. -/
theorem sessionSequence : Obligations.SessionSequence := by
  refine ⟨?setMode, ?repeated, ?sequence, ?discarded, ?sixteenth, ?last, ?noSession, ?held, ?full⟩
  case setMode =>
    intro s rq byte x rp hboot hready hversion hlen hsess hx hkind hauth htag hlast hstored
    exact (congrArg s.done ((xib_of_verified hboot hready hversion hlen hsess hx hkind hauth htag).trans
      (State.runSession_repeat hlast hstored))).trans (State.done_eq_next rfl rfl)
  case repeated =>
    intro s op rq i body x rp hboot hready hversion hlen hsess hx hkind hauth htag hlast hstored
    exact (xib_of_verified hboot hready hversion hlen hsess hx hkind hauth htag).trans (State.runSession_repeat hlast hstored)
  case sequence =>
    intro s op rq i body x hboot hready hversion hlen hsess hx hkind hauth htag hlast hseq
    refine ⟨_, (xib_of_verified hboot hready hversion hlen hsess hx hkind hauth htag).trans (State.runSession_outOfSequence hlast hseq), rfl, ?_, rfl⟩
    exact State.fld_inc_same s MBX_ERR_SEQ_ERR (by decide)
  case discarded =>
    intro s op rq i body x hboot hready hversion hlen hsess hx hkind hbad hfails
    refine ⟨_, (xib_of_unverified hboot hready hversion hlen hsess hx hkind hbad).trans (State.authFail_few hfails), ?_, mget_mput_same _ _ _, rfl⟩
    exact State.fld_inc_same s MBX_ERR_AUTH_FAIL (by decide)
  case sixteenth =>
    intro s op rq i body x hboot hready hversion hlen hsess hx hkind hbad hfails
    rw [xib_of_unverified hboot hready hversion hlen hsess hx hkind hbad, State.authFail_many hfails]
    have hopen : mget ((s.inc MBX_ERR_AUTH_FAIL).emit (.discarded (rqRef rq op))).mbx.sess rq.sess = some x := mget_of_sessionOf hx
    exact ⟨State.closeSession_sess _ _, (State.closeSession_frees hopen).1⟩
  case last =>
    intro s op rq i body x hboot hready hversion hlen hsess hx hkind hauth htag hseq hexp hlast hlater
    rw [xib_of_verified hboot hready hversion hlen hsess hx hkind hauth htag]
    exact State.runSession_last_closes hseq hexp hlast hsess hlater
  case noSession =>
    intro s op rq i body hboot hready hversion hlen hsess hx
    refine ⟨s.reply0 rq op .session, (xib_of_form hboot hready hversion hlen hsess).trans ?_, rfl, rfl⟩
    rw [hx]
  case held =>
    intro s op rq i body hboot hready hqueue
    exact (xib_of_notReady hboot hready).trans (if_pos hqueue)
  case full =>
    intro s op rq i body hboot hready hqueue
    exact ⟨_, (xib_of_notReady hboot hready).trans (if_neg (by omega)), State.fld_inc_same s (MBX_RT_DROP rq.route) le_rfl, rfl⟩

/-! ### The staging lock and commits (R36, R39, R313, R314) -/

section Staging

variable {s : State} {rq : Rq} {p : Principal}

theorem exec_stageBegin_takes (hs : s.serves rq 0x0203 p = true) (hlock : s.mbx.lock = none ∨ s.mbx.lock = some rq.sess) :
    ∃ t, exec (.stageBegin rq) s = .next t ∧ t.replied rq 0x0203 .success s.time.frame [] ∧
      t = { s with out := t.out, mbx.sess := t.mbx.sess, mbx.lock := some rq.sess } := by
  have hdone : ∃ t, exec (.stageBegin rq) s = .next t ∧ t.replied rq 0x0203 .success s.time.frame [] ∧
      t = { (s.entered rq).lockTaken rq.sess with out := t.out, mbx.sess := t.mbx.sess } :=
    done_stages hs _ rfl hlock rfl (s.entered_time rq) (by rw [State.entered_eq]; rfl)
  obtain ⟨t, hexec, hreplied, ht⟩ := hdone
  refine ⟨t, hexec, hreplied, ht.trans ?_⟩
  rw [State.entered_eq]
  rfl

theorem exec_stageBegin_busy {n : Nat} (hs : s.serves rq 0x0203 p = true) (hlock : s.mbx.lock = some n) (hne : n ≠ rq.sess) :
    ∃ t, exec (.stageBegin rq) s = .next t ∧ t.replied rq 0x0203 .busy s.time.frame [] ∧
      t.fld MBX_STAGE_REF_STAGE_REF = min (s.fld MBX_STAGE_REF_STAGE_REF + 1) (2 ^ 16 - 1) ∧
      t = { s with out := t.out, mbx.sess := t.mbx.sess, regs := t.regs } :=
  done_staging_busy hs _ rfl hlock hne

/-- What is left when the lock's holder discards all that it has staged. -/
def State.stagingFreed (s : State) : State := { s.clearStaging with mbx.lock := none }

theorem State.stagingFreed_eq (s : State) : s.stagingFreed =
    { s with
      regs := s.revertStaged.regs, dirty := s.staged.foldl sdel s.dirty, sec.gstage := [], sec.consents := [], mbx.lock := none } := by
  unfold State.stagingFreed State.clearStaging
  rw [State.revertStaged_eq]

theorem exec_discard_holder (hs : s.serves rq 0x0205 p = true) (hlock : s.mbx.lock = some rq.sess) :
    ∃ t, exec (.discard rq) s = .next t ∧ t.replied rq 0x0205 .success s.time.frame [] ∧ t.mbx.lock = none ∧
      (∀ a ∈ s.staged, t.word a = mix (shMaskAt a) (s.word a) (s.curWord a)) ∧ (∀ a, a ∉ s.staged → t.word a = s.word a) ∧
      t.staged = [] ∧ t.sec = { s.sec with gstage := [], consents := [] } ∧ t.force = s.force ∧ t.due = s.due ∧ t.bnd = s.bnd ∧ t.rsv = s.rsv := by
  have hheld : (s.entered rq).mbx.lock = some rq.sess := (s.entered_lock rq).trans hlock
  have hu := (s.entered rq).stagingFreed_eq
  have htime : (s.entered rq).stagingFreed.time = s.time := by rw [hu]; exact s.entered_time rq
  have hpending : (s.entered rq).stagingFreed.pending = s.pending := by rw [hu, State.entered_eq]
  have hdone : ∃ t, exec (.discard rq) s = .next t ∧ t.replied rq 0x0205 .success s.time.frame [] ∧
      t = { (s.entered rq).stagingFreed with out := t.out, mbx.sess := t.mbx.sess } := by
    refine done_changes hs _ _ ((if_pos hheld).trans ?_) htime hpending
    rw [← htime]
    exact congrArg State.okNow (if_pos hheld)
  obtain ⟨t, hexec, hreplied, ht⟩ := hdone
  have hword : ∀ a, t.word a = if a ∈ s.staged then mix (shMaskAt a) (s.word a) (s.curWord a) else s.word a := fun a => by
    rw [ht]
    refine ((s.entered rq).revertStaged_word a).trans ?_
    rw [State.entered_eq]
    rfl
  have hstaged : t.staged = [] := by rw [ht]; exact (s.entered rq).revertStaged_staged
  rw [hu, State.entered_eq] at ht
  exact ⟨t, hexec, hreplied, by rw [ht], fun a ha => (hword a).trans (if_pos ha), fun a ha => (hword a).trans (if_neg ha), hstaged, by rw [ht],
    by rw [ht], by rw [ht], by rw [ht], by rw [ht]⟩

theorem exec_discard_other (hs : s.serves rq 0x0205 p = true) (hlock : s.mbx.lock ≠ some rq.sess) :
    ∃ t, exec (.discard rq) s = .next t ∧ t.replied rq 0x0205 .permission s.time.frame [] ∧ t = { s with out := t.out, mbx.sess := t.mbx.sess } :=
  done_turned hs _ _ fun _ => if_neg hlock

/-- Entering a session changes nothing that the checks before a commit's read. -/
theorem State.entered_commitRefusal (s : State) (rq : Rq) (f : Nat) : (s.entered rq).commitRefusal rq f = s.commitRefusal rq f := by
  rw [State.entered_eq]
  rfl

theorem State.entered_cargo (s : State) (rq : Rq) : (s.entered rq).cargo = s.cargo := by
  rw [State.entered_eq]
  rfl

theorem State.entered_consentTwice (s : State) (rq : Rq) : (s.entered rq).consentTwice = s.consentTwice := by
  rw [State.entered_eq]
  rfl

/-- A commit that passes every check is accepted. -/
theorem State.commitBody_accepts {f : Nat} (hquar : s.md.quarDue = none) (hpass : s.commitRefusal rq f = none)
    (hbars : lowestBar (s.bars (if f = 0 then s.effFrame else f)) = none) (htwice : s.consentTwice = false) :
    s.commitBody rq f p = s.acceptCommit rq p f := by
  unfold State.commitBody
  rw [if_neg (by rw [hquar]; exact fun h => Bool.false_ne_true h.1)]
  simp only [hpass, hbars, htwice, Bool.false_eq_true, if_false]

theorem State.entered_commitBody {f : Nat} (hquar : s.md.quarDue = none) (hpass : s.commitRefusal rq f = none)
    (hbars : lowestBar ((s.entered rq).bars (if f = 0 then s.effFrame else f)) = none) (htwice : s.consentTwice = false) :
    (s.entered rq).commitBody rq f p = (s.entered rq).acceptCommit rq p f := by
  refine State.commitBody_accepts ?_ ((s.entered_commitRefusal rq f).trans hpass) ?_ ((s.entered_consentTwice rq).trans htwice)
  · rw [State.entered_eq]
    exact hquar
  · rw [State.entered_effFrame]
    exact hbars

theorem exec_commit_unnamed (hs : s.serves rq 0x0204 p = true) (hquar : s.md.quarDue = none) (hpass : s.commitRefusal rq 0 = none)
    (hbars : lowestBar ((s.entered rq).bars s.effFrame) = none) (htwice : s.consentTwice = false) :
    ∃ t, exec (.commit rq 0) s = .next t ∧ t.replied rq 0x0204 .success s.effFrame [] ∧
      t = { s with
        out := t.out, mbx.sess := t.mbx.sess, mbx.lock := none, dirty := s.dirty.filter isSltAddr, sec.gstage := [], sec.consents := [],
        due := s.due ++ [Due.mk s.effFrame false rq.group false none (some (rqRef rq 0x0204)) s.cargo] } := by
  have hdone : ∃ t, exec (.commit rq 0) s = .next t ∧ t.replied rq 0x0204 .success s.effFrame [] ∧
      t = { (s.entered rq).handOver.addDue (Due.mk s.effFrame false rq.group false none (some (rqRef rq 0x0204)) s.cargo) with
        out := t.out, mbx.sess := t.mbx.sess } := by
    refine done_changes hs _ _ ((State.entered_commitBody hquar hpass hbars htwice).trans ?_) (s.entered_time rq) ?_
    · refine (if_pos rfl).trans ?_
      rw [State.entered_effFrame, State.entered_cargo]
    · rw [State.entered_eq]
      rfl
  obtain ⟨t, hexec, hreplied, ht⟩ := hdone
  refine ⟨t, hexec, hreplied, ht.trans ?_⟩
  rw [State.entered_eq]
  rfl

theorem exec_commit_named {f : Nat} (hs : s.serves rq 0x0204 p = true) (hquar : s.md.quarDue = none) (hf : f ≠ 0) (hpass : s.commitRefusal rq f = none)
    (hbars : lowestBar ((s.entered rq).bars f) = none) (htwice : s.consentTwice = false) :
    ∃ t h, exec (.commit rq f) s = .next t ∧ t.replied rq 0x0204 .inProgress f [(2, h)] ∧ t.mbx.lock = none ∧
      t.due = s.due ++ [Due.mk f true rq.group false (some h) none s.cargo] ∧ t.force = s.force ∧ t.regs = s.regs ∧ t.bnd = s.bnd := by
  have hbody := (State.entered_commitBody (p := p) hquar hpass (by rw [if_neg hf]; exact hbars) htwice).trans (if_neg hf)
  rw [State.entered_cargo] at hbody
  rw [State.entered_eq] at hbody
  exact ⟨_, _, done_serves hs _ _ _ hbody rfl, rfl, rfl, rfl, rfl, rfl, rfl⟩

theorem exec_commit_refused {f : Nat} {c : Status} (hs : s.serves rq 0x0204 p = true) (hquar : s.md.quarDue = none)
    (hrefuse : s.commitRefusal rq f = some c) :
    ∃ t, exec (.commit rq f) s = .next t ∧ t.replied rq 0x0204 c s.time.frame [] ∧ t = { s with out := t.out, mbx.sess := t.mbx.sess } := by
  refine done_turned hs _ _ fun m => ?_
  refine (if_neg (by rw [hquar]; exact fun h => Bool.false_ne_true h.1)).trans ?_
  have hrefuse' : State.commitRefusal { s with mbx.sess := m } rq f = some c := hrefuse
  rw [hrefuse']
  rfl

theorem State.commitRefusal_none {f : Nat} (h : s.commitRefusal rq f = none) :
    s.mbx.lock = some rq.sess ∧ s.inHold = false ∧ s.md.mode ≠ .bringUp := by
  unfold State.commitRefusal at h
  split_ifs at h with h1 h2
  all_goals
    simp only [not_or, Bool.not_eq_true] at h1
    exact ⟨not_not.1 h2, h1.2.1, h1.2.2⟩

end Staging

/-- Settles O9: the lock is taken, refused or freed as R313 says, and a commit is accepted with all that is staged or has no effect. -/
theorem stagingAndCommit : Obligations.StagingAndCommit :=
  ⟨fun _ _ _ => exec_stageBegin_takes, fun _ _ _ _ => exec_stageBegin_busy, fun _ _ _ => exec_discard_holder, fun _ _ _ => exec_discard_other,
    fun _ _ _ => exec_commit_unnamed, fun _ _ _ _ => exec_commit_named, fun _ _ _ _ _ => exec_commit_refused, fun _ _ _ => State.commitRefusal_none⟩

/-! ### The debug session and the TAP (R337, R339, R341, R462) -/

section Debug

variable {s : State} {rq : Rq} {p : Principal}

theorem exec_debugLifetimeExpiry {d : Dbg} {x : Session} (hdbg : s.md.dbg = some d) (hlast : d.last ≠ 0) (hpast : d.last < s.time.frame)
    (hx : mget s.mbx.sess d.sess = some x) :
    ∃ t, exec .debugLifetimeExpiry s = .next t ∧ t.md.dbg = none ∧ mget t.mbx.sess d.sess = none ∧ t.bnd = s.bnd ∧ t.force = s.force := by
  have hexpire : s.debugExpire = s.closeSession d.sess := by
    unfold State.debugExpire
    rw [hdbg]
    exact if_pos ⟨hlast, hpast⟩
  have hclosed : (s.closeSession d.sess).md.dbg = none := by
    unfold State.closeSession
    rw [hx]
    have hdbg' : (s.releaseLock d.sess).md.dbg = some d := by rw [State.releaseLock_eq]; exact hdbg
    simp only [hdbg', if_true]
  refine ⟨_, congrArg s.done hexpire, hclosed, State.closeSession_sess _ _, ?_, ?_⟩
  · exact State.closeSession_bnd _ _
  · exact State.closeSession_force _ _

theorem exec_tapInstruction_accepted {i : TapInstr} (h : s.tapAccepts i = true) : exec (.tapInstruction i) s = .next { s with md.tap := i } :=
  (congrArg (fun n => s.done { s with md.tap := n }) (if_pos h)).trans (State.done_eq_next rfl rfl)

theorem exec_tapInstruction_bypass {i : TapInstr} (h : s.tapAccepts i = false) :
    exec (.tapInstruction i) s = .next { s with md.tap := .bypass } :=
  (congrArg (fun n => s.done { s with md.tap := n }) (if_neg (by simp [h]))).trans (State.done_eq_next rfl rfl)

theorem exec_thermtrip_hot {c : Nat} (h : 115 ≤ c) :
    exec (.thermtrip c) s = .next { s with md.clkGated := true, md.thermtrip := true, out := .thermtrip true :: s.out } :=
  (congrArg s.done (if_neg (by omega))).trans (State.done_eq_next rfl rfl)

/-! ### Debug reads and writes (R219, R340) -/

/-- A gate that lets an access through records nothing. -/
theorem State.gateCheck_of_allow {g i start len : Nat} {k : GKind} (h : (s.gateCheck g i k start len).1 = .allow) :
    s.gateCheck g i k start len = (.allow, s) := by
  unfold State.gateCheck at h ⊢
  split at h
  · rfl
  · exact absurd h nofun
  · exact absurd h nofun

/-- An address of space 1 names a partition and an offset in it. -/
theorem State.dbgSpace_part {n ofs len : Nat} (hn : n = 5 ∨ n = 6) (hlen : ofs + len ≤ 0x8000000) :
    s.dbgSpace (2 ^ 60 + n * 2 ^ 56 + ofs) len = some (.part n ofs) := by
  have hspace : (2 ^ 60 + n * 2 ^ 56 + ofs) / 2 ^ 60 = 1 := by omega
  have hpart : (2 ^ 60 + n * 2 ^ 56 + ofs) / 2 ^ 56 % 16 = n := by omega
  have hofs : (2 ^ 60 + n * 2 ^ 56 + ofs) % 2 ^ 56 = ofs := by omega
  have hsize : ofs + len ≤ partitionSize n := by rcases hn with rfl | rfl <;> exact hlen
  unfold State.dbgSpace
  simp only [hspace, hpart, hofs, if_pos hsize]

theorem length_bytesOf (data len : Nat) : (bytesOf data len).length = len := by
  induction len generalizing data with
  | zero => rfl
  | succ k ih => exact congrArg (· + 1) (ih _)

theorem getElem_bytesOf {data len k : Nat} (h : k < (bytesOf data len).length) : (bytesOf data len)[k] = data / 256 ^ k % 256 := by
  induction len generalizing data k with
  | zero => exact absurd h (Nat.not_lt_zero k)
  | succ n ih =>
    cases k with
    | zero => simp [bytesOf]
    | succ k =>
      refine (ih (data := data / 256) (Nat.lt_of_succ_lt_succ h)).trans ?_
      rw [Nat.div_div_eq_div_mul, pow_succ']

/-- A run of bytes in the Reservoir reads back what a number's bytes are. -/
theorem Memory.read_writeAll_bytesOf (m : Memory) (a data : Nat) {len k : Nat} (h : k < len) :
    (m.writeAll a ((bytesOf data len).map (BitVec.ofNat 8))).read (a + k) = BitVec.ofNat 8 (data / 256 ^ k) := by
  have hlen : k < ((bytesOf data len).map (BitVec.ofNat 8)).length := by rw [List.length_map, length_bytesOf]; exact h
  rw [Memory.read_writeAll_in _ _ _ _ hlen, List.getElem_map, getElem_bytesOf]
  exact BitVec.eq_of_toNat_eq (by simp)

/-- What a debug write to partition 6 leaves. -/
def State.debugWritten (s : State) (ofs len data : Nat) : State :=
  { s with rsv := Memory.writeAll s.rsv (6 * 2 ^ 36 + ofs) ((bytesOf data len).map (BitVec.ofNat 8)) }

/-- A request that reaches its block at once does not wait for the end of Hold. -/
theorem State.entered_inHold (s : State) (rq : Rq) : (s.entered rq).inHold = s.inHold := by
  rw [State.entered_eq]
  rfl

theorem State.entered_scopeBit (s : State) (rq : Rq) (k : Nat) : (s.entered rq).scopeBit k = s.scopeBit k := by
  rw [State.entered_eq]
  rfl

theorem State.debugWriteBody_allowed {ofs len data : Nat} (hdata : s.dataOff = false) (hform : dbgForm (2 ^ 60 + 6 * 2 ^ 56 + ofs) len = true)
    (hsize : ofs + len ≤ 0x8000000) (hscope : s.scopeBit 3 = true) (hgate : (s.gateCheck 174 initDebug .write ofs len).1 = .allow) :
    s.debugWriteBody rq (2 ^ 60 + 6 * 2 ^ 56 + ofs) len data p = (s.debugWritten ofs len data).okNow := by
  unfold State.debugWriteBody
  rw [if_neg (by rw [hform]; decide), State.dbgSpace_part (.inr rfl) hsize]
  simp only [hdata, hscope, Bool.false_eq_true, if_false, ne_eq, not_true_eq_false, Bool.not_true, or_self, State.gateCheck_of_allow hgate]
  rfl

theorem exec_debugWrite {ofs len data : Nat} (hs : s.serves rq 0x0F01 p = true) (hhold : s.inHold = false) (hdata : s.dataOff = false)
    (hform : dbgForm (2 ^ 60 + 6 * 2 ^ 56 + ofs) len = true) (hsize : ofs + len ≤ 0x8000000) (hscope : s.scopeBit 3 = true)
    (hgate : ((s.entered rq).gateCheck 174 initDebug .write ofs len).1 = .allow) :
    ∃ t, exec (.debugWrite rq (2 ^ 60 + 6 * 2 ^ 56 + ofs) len data) s = .next t ∧ t.replied rq 0x0F01 .success s.time.frame [] ∧
      (∀ k, k < len → Memory.read t.rsv (6 * 2 ^ 36 + ofs + k) = BitVec.ofNat 8 (data / 256 ^ k)) ∧
      (∀ a, (a < 6 * 2 ^ 36 + ofs ∨ 6 * 2 ^ 36 + ofs + len ≤ a) → Memory.read t.rsv a = Memory.read s.rsv a) ∧
      t = { s with out := t.out, mbx.sess := t.mbx.sess, rsv := t.rsv } := by
  have hbody : (s.entered rq).debugWriteBody rq (2 ^ 60 + 6 * 2 ^ 56 + ofs) len data p = ((s.entered rq).debugWritten ofs len data).okAt s.time.frame := by
    rw [State.debugWriteBody_allowed ((s.entered_dataOff rq).trans hdata) hform hsize ((s.entered_scopeBit rq 3).trans hscope) hgate]
    exact congrArg _ (congrArg TimeSt.frame (s.entered_time rq))
  have hdone : ∃ t, exec (.debugWrite rq (2 ^ 60 + 6 * 2 ^ 56 + ofs) len data) s = .next t ∧ t.replied rq 0x0F01 .success s.time.frame [] ∧
      t = { (s.entered rq).debugWritten ofs len data with out := t.out, mbx.sess := t.mbx.sess } := by
    refine done_changes hs _ _ ((if_neg ?_).trans hbody) (s.entered_time rq) (by rw [State.entered_eq]; rfl)
    rw [State.entered_inHold, hhold]
    exact fun h => Bool.false_ne_true h.1
  obtain ⟨t, hexec, hreplied, ht⟩ := hdone
  have hrsv : t.rsv = Memory.writeAll s.rsv (6 * 2 ^ 36 + ofs) ((bytesOf data len).map (BitVec.ofNat 8)) := by
    rw [ht, State.entered_eq]
    rfl
  refine ⟨t, hexec, hreplied, fun k hk => ?_, fun a ha => ?_, ?_⟩
  · rw [hrsv]
    exact Memory.read_writeAll_bytesOf _ _ _ hk
  · rw [hrsv]
    exact Memory.read_writeAll_out _ _ _ _ (by rw [List.length_map, length_bytesOf]; exact ha)
  · rw [ht, State.entered_eq]
    rfl

theorem State.debugReadBody_allowed {n ofs data : Nat} (hn : n = 5 ∨ n = 6) (hdata : s.dataOff = false) (hofs : ofs % 4 = 0)
    (hsize : ofs + 4 ≤ 0x8000000) (hscope : s.scopeBit 2 = true) (hgate : (s.gateCheck (168 + n) initDebug .read ofs 4).1 = .allow) :
    s.debugReadBody rq (2 ^ 60 + n * 2 ^ 56 + ofs) 4 data p = s.readAns [(4, Memory.number s.rsv (n * 2 ^ 36 + ofs) 4)] := by
  have hform : dbgForm (2 ^ 60 + n * 2 ^ 56 + ofs) 4 = true := by
    have haligned : (2 ^ 60 + n * 2 ^ 56 + ofs) % 4 = 0 := by omega
    unfold dbgForm
    rw [haligned]
    rfl
  unfold State.debugReadBody
  rw [if_neg (by rw [hform]; decide), State.dbgSpace_part hn hsize]
  simp only [hdata, hscope, Bool.false_eq_true, if_false, Bool.not_true, State.gateCheck_of_allow hgate]
  rcases hn with rfl | rfl <;> rfl

theorem exec_debugRead {n ofs data : Nat} (hs : s.serves rq 0x0F00 p = true) (hhold : s.inHold = false) (hdata : s.dataOff = false) (hn : n = 5 ∨ n = 6)
    (hofs : ofs % 4 = 0) (hsize : ofs + 4 ≤ 0x8000000) (hscope : s.scopeBit 2 = true)
    (hgate : ((s.entered rq).gateCheck (168 + n) initDebug .read ofs 4).1 = .allow) :
    ∃ t, exec (.debugRead rq (2 ^ 60 + n * 2 ^ 56 + ofs) 4 data) s = .next t ∧
      t.replied rq 0x0F00 .success s.time.frame [(4, Memory.number s.rsv (n * 2 ^ 36 + ofs) 4)] ∧ t = { s with out := t.out, mbx.sess := t.mbx.sess } := by
  have hrsv : (s.entered rq).rsv = s.rsv := by rw [State.entered_eq]
  refine done_reads hs _ _ ((if_neg ?_).trans ?_)
  · rw [State.entered_inHold, hhold]
    exact fun h => Bool.false_ne_true h.1
  · rw [← hrsv]
    exact State.debugReadBody_allowed hn ((s.entered_dataOff rq).trans hdata) hofs hsize ((s.entered_scopeBit rq 2).trans hscope) hgate

/-! ### The FM API (R319) -/

theorem exec_fmApiCommand_ready {source route eid carrier : Nat} {c : FmCmd} (hboot : s.md.boot = .up) (hready : s.bit MBX_STAT_READY = true) :
    exec (.fmApiCommand source route eid carrier c) s = s.done (s.fmApi source route eid c) :=
  congrArg s.done ((if_neg (not_not.2 hboot)).trans (if_neg (by rw [hready]; exact Bool.false_ne_true)))

theorem State.fmApi_attached {source route eid n : Nat} {c : FmCmd} (hn : s.attached source route eid = some n)
    (hgate : s.opGate (s.prinOf n) (fmOp c) = none) :
    s.fmApi source route eid c =
      (fmBody c (s.prinOf n) s).st.emit (.fmApi route eid (fmCode (fmBody c (s.prinOf n) s).status (fmChanges c)) (fmBody c (s.prinOf n) s).data) := by
  unfold State.fmApi
  simp only [hn, hgate]

theorem exec_fmApiCommand_attached {source route eid carrier n : Nat} {c : FmCmd} (hboot : s.md.boot = .up) (hready : s.bit MBX_STAT_READY = true)
    (hn : s.attached source route eid = some n) (hgate : s.opGate (s.prinOf n) (fmOp c) = none) :
    ∃ t, exec (.fmApiCommand source route eid carrier c) s = .next t ∧
      t.out.head? = some (.fmApi route eid (fmCode (fmBody c (s.prinOf n) s).status (fmChanges c)) (fmBody c (s.prinOf n) s).data) ∧
      t.bnd = (fmBody c (s.prinOf n) s).st.bnd ∧ t.prt = (fmBody c (s.prinOf n) s).st.prt ∧ t.due = (fmBody c (s.prinOf n) s).st.due :=
  ⟨_, (exec_fmApiCommand_ready hboot hready).trans (congrArg s.done (State.fmApi_attached hn hgate)), rfl, rfl, rfl, rfl⟩

theorem exec_fmApiCommand_unattached {source route eid carrier : Nat} {c : FmCmd} (hboot : s.md.boot = .up) (hready : s.bit MBX_STAT_READY = true)
    (hn : s.attached source route eid = none) :
    exec (.fmApiCommand source route eid carrier c) s = .next { s with out := .fmApi route eid .securityState [] :: s.out } := by
  rw [exec_fmApiCommand_ready hboot hready]
  unfold State.fmApi
  rw [hn]
  exact State.done_eq_next rfl rfl

end Debug

/-- Settles O13: the debug session ends after its last frame, debug access moves exactly its bytes, and an FM API command acts for its session. -/
theorem debugAndFmApi : Obligations.DebugAndFmApi :=
  ⟨fun _ _ _ => exec_debugLifetimeExpiry, fun _ _ => exec_tapInstruction_accepted, fun _ _ => exec_tapInstruction_bypass,
    fun _ => State.done_eq_next rfl rfl, fun _ _ => exec_thermtrip_hot, fun _ _ _ _ _ _ => exec_debugWrite, fun _ _ _ _ _ _ => exec_debugRead,
    fun _ _ _ _ _ _ _ => exec_fmApiCommand_attached, fun _ _ _ _ _ _ => exec_fmApiCommand_unattached⟩

end Sys2Proof.Machine
end

section
/-! Proofs of the family 15_modes_power_debug and its neighbours, second part: the two statements that a frame refutes (O59, O60). -/
set_option Elab.async false
namespace Sys2Proof.Machine
open Sys2Proof

/-! ### A stack of the mirror that is lost, on which O59 fails -/

/-- The reset state with the log of binding 0 marked as gone, although no log is set up there. -/
def logMarkedGone : State := { State.reset with bnd.logGone := [0] }

/-- Losing the data stack marks anew the bindings whose log is gone (R418): here there is none. -/
theorem logMarkedGone_mirrorSingle : (logMarkedGone.mirrorSingle 1 0).bnd.logGone = [] := by decide +kernel

/-- Refutes O59, by its fifth clause: it keeps the bindings' state as it is when either stack becomes single, and losing stack 1 computes anew
which bindings' logs are gone. -/
theorem not_twilightAndRepair : ¬ Obligations.TwilightAndRepair := by
  unfold Obligations.TwilightAndRepair
  rintro ⟨-, -, -, -, hsingle, -⟩
  obtain ⟨t, hexec, -, -, -, -, hbnd, -⟩ := hsingle logMarkedGone 1 0 (by decide) (by decide +kernel) (by decide +kernel)
  have hnext : exec (.mirrorSingle 1 0) logMarkedGone = .next (logMarkedGone.mirrorSingle 1 0) :=
    State.done_eq_next (by decide +kernel) (by decide +kernel)
  have ht : t = logMarkedGone.mirrorSingle 1 0 := Host.Outcome.next.inj (hexec.symm.trans hnext)
  have hgone : [] = [0] := logMarkedGone_mirrorSingle.symm.trans ((congrArg (fun u : State => u.bnd.logGone) ht).symm.trans (congrArg BndSt.logGone hbnd))
  exact absurd hgone (by decide)

/-! ### A personality stored in Provisioning, on which O60 fails -/

/-- The owner's session is open in Provisioning, on a part whose native level is 4. -/
def ownerProvisioning : State := { ownerAtBoot with md.mode := .provisioning, twl.native := 4 }

/-- A configuration of level 1 that the owner signed. -/
def levelOneConfig : PersCfg := { type := 0x0010, version := 1, zero := true, level := 1, serial := 1, owner := ownerProvisioning.ident.owner, sigOk := true }

theorem ownerProvisioning_serves : ownerProvisioning.serves ownerFirstRq 0x0D03 .owner = true := by decide +kernel

theorem ownerProvisioning_accepts : ownerProvisioning.persRefusal levelOneConfig = none := by decide +kernel

/-- What an accepted configuration leaves in Provisioning: its long command, its journal entry, and the level for the Daybreak (R422). -/
def State.levelDue (s : State) (rq : Rq) (p : Principal) (c : PersCfg) : Nat × State :=
  let (h, s1) := s.lcStart 0x0D03 (rqRef rq 0x0D03) p (routeTargetOf rq.route rq.carrier)
  (h, ((s1.journalIn 2 c.serial).emit (.journal 0x0010)).addDue
    { eff := s.effFrame, named := false, group := false, frozen := false, handle := some h, ref := none, act := .persLevel c.level c.serial })

theorem exec_personality_provisioning {s : State} {rq : Rq} {p : Principal} {c : PersCfg} (hs : s.serves rq 0x0D03 p = true)
    (hok : s.persRefusal c = none) (hslot : s.lcSlots ≠ []) (hmode : s.md.mode = .provisioning) :
    ∃ t, exec (.personality rq c) s = .next t ∧ t.twl.jq = (s.journalIn 2 c.serial).twl.jq := by
  have hbegun : ∃ t, exec (.personality rq c) s = .next t ∧
      s.LongBegun t ((s.entered rq).levelDue rq p c).2 rq 0x0D03 ((s.entered rq).levelDue rq p c).1 := by
    refine done_long hs _ _ ?_ (s.entered_time rq) (by rw [State.entered_eq]; rfl)
    rw [State.entered_eq]
    have hok' : State.persRefusal { s with mbx.sess := (s.entered rq).mbx.sess } c = none := hok
    simp only [hok']
    exact (if_neg hslot).trans (if_pos (.inl hmode))
  obtain ⟨t, hexec, hlong⟩ := hbegun
  refine ⟨t, hexec, ?_⟩
  rw [hlong.frame, State.entered_eq]
  rfl

/-- Refutes O60, by its twelfth clause: it has an accepted configuration leave Twilight's journal queue as it is, and R422 has it journaled. -/
theorem not_firmwareAndPersonality : ¬ Obligations.FirmwareAndPersonality := by
  unfold Obligations.FirmwareAndPersonality
  rintro ⟨-, -, -, -, -, -, -, -, -, -, -, hdue, -⟩
  obtain ⟨t, h, hexec, -, -, hframe⟩ := hdue ownerProvisioning ownerFirstRq .owner levelOneConfig ownerProvisioning_serves ownerProvisioning_accepts
    (by decide +kernel) rfl
  obtain ⟨u, hexec', hqueued⟩ := exec_personality_provisioning ownerProvisioning_serves ownerProvisioning_accepts (by decide +kernel) rfl
  have heq : t = u := Host.Outcome.next.inj (hexec.symm.trans hexec')
  have hkept : t.twl.jq = ownerProvisioning.twl.jq := by rw [hframe]
  exact absurd (hkept.symm.trans (heq ▸ hqueued)) (by decide +kernel)

end Sys2Proof.Machine
end

section
/-! Proofs of the families beside 15_modes_power_debug, third part: home transfers and fence tokens (O45). -/
set_option Elab.async false
namespace Sys2Proof.Machine
open Sys2Proof

/-! ### Home transfers (R439, R440) -/

section Transfers

variable {s : State} {rq : Rq} {p : Principal} {g m f : Nat}

/-- What an accepted TRANSFER_HOME leaves: its long command, the transfer, and the message to the peer. -/
def State.xferBegun (s : State) (rq : Rq) (p : Principal) (g m f : Nat) (r : Region) : State :=
  let h := s.lcStart 0x0E02 (rqRef rq 0x0E02) p (routeTargetOf rq.route rq.carrier)
  ({ h.2 with grp.xfers := h.2.grp.xfers ++ [Xfer.mk g m f h.1 false false .copy r] } : State).emit (.peer 1 m [g, f])

theorem exec_transferHome_begins {r : Region} {ok : Bool} (hs : s.serves rq 0x0E02 p = true) (hyield : s.bit GRP_STAT_YIELD = false)
    (hregion : mget s.bnd.regions g = some r) (hm : m < 8) (hvalid : s.curBit (GRP_PEER_VALID m) = true) (hnamed : s.namedRefusal f = none)
    (hkey : r.cls = 0 ∨ ok = true) (hdeleting : r.deleting = false) (hslot : s.lcSlots ≠ []) (hnone : ∀ x ∈ s.grp.xfers, x.region ≠ g) :
    ∃ t h, exec (.transferHome rq g m f ok) s = .next t ∧ t.replied rq 0x0E02 .inProgress f [(2, h)] ∧
      t = { s with
        out := t.out, mbx.sess := t.mbx.sess, mbx.lc := t.mbx.lc, fresh := s.fresh + 1,
        grp.xfers := s.grp.xfers ++ [Xfer.mk g m f h false false .copy r] } := by
  have hany : ¬ s.grp.xfers.any (fun x => x.region == g) = true := by simpa using hnone
  have hkey' : ¬ (r.cls ≠ 0 ∧ (! ok) = true) := by rcases hkey with h | h <;> simp [h]
  have hdone : ∃ t, exec (.transferHome rq g m f ok) s = .next t ∧
      t.replied rq 0x0E02 .inProgress f [(2, (s.lcStart 0x0E02 (rqRef rq 0x0E02) p (routeTargetOf rq.route rq.carrier)).1)] ∧
      t = { s.xferBegun rq p g m f r with out := t.out, mbx.sess := t.mbx.sess } := by
    refine done_answers hs _ _ (fun n => ?_) rfl rfl
    have hregion' : mget ({ s with mbx.sess := n } : State).bnd.regions g = some r := hregion
    refine (if_neg (by rw [Bool.not_eq_true]; exact hyield)).trans ?_
    simp only [hregion']
    refine (if_neg ?_).trans <| (if_neg (by rw [hdeleting]; exact Bool.false_ne_true)).trans <| if_neg (not_or.2 ⟨hslot, hany⟩)
    refine not_or.2 ⟨Nat.not_le.2 hm, not_or.2 ⟨?_, not_or.2 ⟨?_, hkey'⟩⟩⟩
    · exact fun h => Bool.noConfusion ((congrArg (! ·) hvalid).symm.trans h)
    · exact fun h => Bool.noConfusion ((congrArg Option.isSome hnamed).symm.trans h)
  obtain ⟨t, hexec, hreplied, ht⟩ := hdone
  have hlc : t.mbx.lc = (s.xferBegun rq p g m f r).mbx.lc := by rw [ht]
  refine ⟨t, _, hexec, hreplied, ht.trans ?_⟩
  rw [hlc]
  rfl

theorem exec_transferHome_yielding {ok : Bool} (hs : s.serves rq 0x0E02 p = true) (hyield : s.bit GRP_STAT_YIELD = true) :
    ∃ t, exec (.transferHome rq g m f ok) s = .next t ∧ s.turnsAway t rq 0x0E02 .state :=
  done_turned hs _ _ fun _ => if_pos hyield

theorem exec_transferReadyReceived (s : State) (g m : Nat) :
    ∃ t, exec (.transferReadyReceived g m) s = .next t ∧ (∀ x ∈ t.grp.xfers, x.region = g → x.peer = m → x.ready = true) ∧
      (∀ x ∈ s.grp.xfers, (x.region ≠ g ∨ x.peer ≠ m) → x ∈ t.grp.xfers) ∧ t = { s with grp.xfers := t.grp.xfers } := by
  refine ⟨s.xferReady g m, State.done_eq_next rfl rfl, fun x hx hregion hpeer => ?_, fun x hx hother => ?_, rfl⟩
  · obtain ⟨y, -, rfl⟩ := List.mem_map.1 hx
    split_ifs at hregion hpeer ⊢ with hmine
    · rfl
    · exact absurd ⟨hregion, hpeer⟩ hmine
  · exact List.mem_map.2 ⟨x, hx, if_neg (by tauto)⟩

theorem exec_transferConfirmReceived (s : State) (g m : Nat) :
    ∃ t, exec (.transferConfirmReceived g m) s = .next t ∧ (∀ x ∈ t.grp.xfers, x.region = g → x.peer = m → x.phase ≠ .committed) ∧
      (∀ x ∈ s.grp.xfers, x.phase ≠ .committed → x ∈ t.grp.xfers) ∧ t = { s with grp.xfers := t.grp.xfers } := by
  refine ⟨s.xferConfirm g m, State.done_eq_next rfl rfl, fun x hx hregion hpeer => ?_, fun x hx hother => ?_, rfl⟩
  · obtain ⟨y, -, rfl⟩ := List.mem_map.1 hx
    split_ifs at hregion hpeer ⊢ with hmine
    · exact nofun
    · exact fun hphase => hmine ⟨hregion, hpeer, hphase⟩
  · exact List.mem_map.2 ⟨x, hx, if_neg (by tauto)⟩

theorem exec_commitMessageReceived_taken {q u : Nat} {r : RemRegion} {fr : Bool} {root : List (Nat × Nat)} {en : List (Nat × Nat × Nat)}
    {lv : List (Nat × Nat × List (Nat × Nat))} {nd : List (Nat × List (Nat × Nat))} {mc : List (Nat × Nat)} (hm : m < 8)
    (hexpel : bitOn (s.fld GRP_STAT_EXPEL) m = false) (hregion : mget s.bnd.regions r.id = none) (hnone : ∀ x ∈ s.grp.incoming, x.id ≠ r.id) :
    ∃ t x, exec (.commitMessageReceived m r q u fr root en lv nd mc) s = .next t ∧ x.id = r.id ∧ x.peer = m ∧ x.root = root ∧ x.entries = en ∧
      x.leaves = lv ∧ x.nodes = nd ∧ x.macs = mc ∧ x.rec_.tenant = r.tenant ∧ x.rec_.cls = r.cls ∧ x.rec_.size = r.size ∧ x.rec_.ttBase = r.ttBase ∧
      t = { s with out := .peer 4 m [r.id] :: s.out, grp.incoming := s.grp.incoming ++ [x] } := by
  have hany : ¬ s.grp.incoming.any (fun x => x.id == r.id) = true := by simpa using hnone
  have hnew : ¬ ((mget s.bnd.regions r.id).isSome = true ∨ s.grp.incoming.any (fun x => x.id == r.id) = true) :=
    not_or.2 ⟨by rw [hregion]; exact Bool.false_ne_true, hany⟩
  have hfree : ¬ (8 ≤ m ∨ bitOn (s.fld GRP_STAT_EXPEL) m = true) := not_or.2 ⟨Nat.not_le.2 hm, by rw [hexpel]; exact Bool.false_ne_true⟩
  exact ⟨_, _, (congrArg s.done ((if_neg hfree).trans (if_neg hnew))).trans (State.done_eq_next rfl rfl), rfl, rfl, rfl, rfl, rfl, rfl, rfl, rfl, rfl,
    rfl, rfl, rfl⟩

theorem exec_commitMessageReceived_ignored {q u : Nat} {r : RemRegion} {fr : Bool} {root : List (Nat × Nat)} {en : List (Nat × Nat × Nat)}
    {lv : List (Nat × Nat × List (Nat × Nat))} {nd : List (Nat × List (Nat × Nat))} {mc : List (Nat × Nat)}
    (h : 8 ≤ m ∨ bitOn (s.fld GRP_STAT_EXPEL) m = true) : exec (.commitMessageReceived m r q u fr root en lv nd mc) s = .next s :=
  (congrArg s.done (if_pos h)).trans (State.done_eq_next rfl rfl)

/-! ### Fence tokens (R435) -/

theorem exec_fenceToken_accepted {k : FenceTok} (hs : s.serves rq 0x0E01 p = true) (hok : s.fenceOk k = true) :
    ∃ t, exec (.fenceToken rq k) s = .next t ∧ t.replied rq 0x0E01 .success s.effFrame [] ∧
      t.fld GLB_TOK_STAT_TOK_OK = s.oneMore GLB_TOK_STAT_TOK_OK ∧
      t = { s with
        out := t.out, mbx.sess := t.mbx.sess, regs := t.regs, ident.nonces := mdel s.ident.nonces 0x20,
        due := s.due ++ [Due.mk s.effFrame false false false none (some (rqRef rq 0x0E01)) (.fence k.epoch k.expel)] } := by
  have hdone : ∃ t, exec (.fenceToken rq k) s = .next t ∧ t.replied rq 0x0E01 .success s.effFrame [] ∧
      t = { (({ s with ident.nonces := mdel s.ident.nonces 0x20 } : State).inc GLB_TOK_STAT_TOK_OK).submit (some (rqRef rq 0x0E01)) (.fence k.epoch k.expel)
        with out := t.out, mbx.sess := t.mbx.sess } := done_answers hs _ _ (fun _ => if_pos hok) rfl rfl
  obtain ⟨t, hexec, hreplied, ht⟩ := hdone
  have hregs : t.regs = (s.inc GLB_TOK_STAT_TOK_OK).regs := by rw [ht]; rfl
  refine ⟨t, hexec, hreplied, ?_, ht.trans ?_⟩
  · exact (State.fld_congr hregs _).trans (State.fld_inc_same s _ (by decide))
  · rw [hregs]
    rfl

theorem exec_fenceToken_rejected {k : FenceTok} (hs : s.serves rq 0x0E01 p = true) (hbad : s.fenceOk k = false) :
    ∃ t, exec (.fenceToken rq k) s = .next t ∧ t.replied rq 0x0E01 .token s.time.frame [] ∧
      t.fld GLB_TOK_STAT_TOK_REJ = s.oneMore GLB_TOK_STAT_TOK_REJ ∧
      t = { s with out := t.out, mbx.sess := t.mbx.sess, regs := t.regs, ident.nonces := mdel s.ident.nonces 0x20 } := by
  have hdone : ∃ t, exec (.fenceToken rq k) s = .next t ∧ t.replied rq 0x0E01 .token s.time.frame [] ∧
      t = { ({ s with ident.nonces := mdel s.ident.nonces 0x20 } : State).inc GLB_TOK_STAT_TOK_REJ with out := t.out, mbx.sess := t.mbx.sess } :=
    done_answers hs _ _ (fun _ => if_neg (by rw [Bool.not_eq_true]; exact hbad)) rfl rfl
  obtain ⟨t, hexec, hreplied, ht⟩ := hdone
  have hregs : t.regs = (s.inc GLB_TOK_STAT_TOK_REJ).regs := by rw [ht]; rfl
  refine ⟨t, hexec, hreplied, (State.fld_congr hregs _).trans (State.fld_inc_same s _ (by decide)), ht.trans ?_⟩
  rw [hregs]
  rfl

theorem State.fenceOk_checks {k : FenceTok} (h : s.fenceOk k = true) :
    s.epochAhead < k.epoch ∧ k.group = s.cur GRP_CFG_GROUP ∧ k.member = s.cur GRP_CFG_MEMBER ∧ bitOn k.expel (s.cur GRP_CFG_MEMBER) = false ∧
      k.signer ∈ s.ident.fmKeys ∧ k.signer ≠ 0 ∧ k.sigOk = true := by
  unfold State.fenceOk at h
  simp only [Bool.and_eq_true, beq_iff_eq, bne_iff_ne, decide_eq_true_eq, Bool.not_eq_true', List.contains_eq_mem] at h
  obtain ⟨⟨⟨⟨⟨⟨⟨⟨⟨⟨⟨⟨-, -⟩, -⟩, hgroup⟩, hmember⟩, -⟩, -⟩, hsig⟩, hsigner⟩, hkey⟩, hepoch⟩, hexpel⟩, -⟩ := h
  exact ⟨hepoch, hgroup, hmember, hexpel, hkey, hsigner, hsig⟩

end Transfers

/-- Settles O45: a transfer is begun or refused, the peer's messages move its transfers alone, and a fence token is due or counted. -/
theorem transfersAndFences : Obligations.TransfersAndFences :=
  ⟨fun _ _ _ _ _ _ _ _ => exec_transferHome_begins, fun _ _ _ _ _ _ _ => exec_transferHome_yielding, exec_transferReadyReceived,
    exec_transferConfirmReceived, fun _ _ _ _ _ _ _ _ _ _ _ => exec_commitMessageReceived_taken,
    fun _ _ _ _ _ _ _ _ _ _ _ => exec_commitMessageReceived_ignored, fun _ _ _ _ => exec_fenceToken_accepted,
    fun _ _ _ _ => exec_fenceToken_rejected, fun _ _ => State.fenceOk_checks⟩

end Sys2Proof.Machine
end

section
/-! Proofs of the families beside 15_modes_power_debug, fourth part: counter dumps (O33). -/
set_option Elab.async false
namespace Sys2Proof.Machine
open Sys2Proof

/-! ### What has been sent stays sent while an event is raised -/

theorem State.mem_out_refreshLevel {s : State} {o : Out} (h : o ∈ s.out) (t : Nat) : o ∈ (s.refreshLevel t).out := by
  simp only [State.refreshLevel]
  split_ifs
  exacts [h, List.mem_cons_of_mem _ h, h, List.mem_cons_of_mem _ h, h]

theorem State.mem_out_signal {s : State} {o : Out} (h : o ∈ s.out) (t code : Nat) : o ∈ (s.signal t code).out := by
  unfold State.signal
  dsimp only
  split
  · split
    · cases s.vectorOf t code with
      | none => exact h
      | some v =>
        simp only [State.msiDropped]
        split_ifs
        exacts [h, List.mem_cons_of_mem _ h, h, h]
    · exact State.mem_out_refreshLevel h t
  · split
    · exact State.mem_out_refreshLevel h 129
    · split
      · cases s.lowestSource t with
        | none => exact h
        | some c => exact List.mem_cons_of_mem _ h
      · exact h

theorem State.mem_out_raisePrivate {s : State} {o : Out} (h : o ∈ s.out) (t n : Nat) : o ∈ (s.raisePrivate t n).out := by
  simp only [State.raisePrivate, State.raiseAt]
  split_ifs
  exacts [State.mem_out_signal (s := s.setBit (pendFld t n) true) h t n, h, h]

/-! ### The end of a dump (R404, R405) -/

section Dumps

variable {s : State} {d : DumpRun}

/-- The state in which the dump has ended: WR has passed its records, and BUSY is 0. -/
def State.dumpEnded (s : State) : State :=
  (({ s with cnt.run := none } : State).setFld CNT_RING_WR_WR (s.fld CNT_RING_WR_WR + 352)).setBit CNT_DROP_BUSY false

theorem State.dumpEnded_WR (s : State) : s.dumpEnded.fld CNT_RING_WR_WR = (s.fld CNT_RING_WR_WR + 352) % 2 ^ 32 :=
  (State.fld_setBit_addr _ _ _ _ (by decide)).trans (State.fld_setFld_same _ CNT_RING_WR_WR _ (by decide))

theorem State.dumpEnded_BUSY (s : State) : s.dumpEnded.bit CNT_DROP_BUSY = false := State.bit_setBit_same _ CNT_DROP_BUSY false (by decide) rfl

theorem exec_counterDumpDone_written (hrun : s.cnt.run = some d) (hwrite : s.canWrite d.port = true) :
    ∃ t, exec .counterDumpDone s = .next t ∧ .dump d.port d.records ∈ t.out ∧ t.cnt = { s.cnt with run := none } ∧
      t.fld CNT_RING_WR_WR = (s.fld CNT_RING_WR_WR + 352) % 2 ^ 32 ∧ t.bit CNT_DROP_BUSY = false ∧
      (s.targetExists d.port = true → t.bit (pendFld d.port 3) = true) := by
  have hdone : s.dumpDone = (s.dumpEnded.emit (.dump d.port d.records)).raisePrivate d.port 3 := by
    unfold State.dumpDone
    simp only [hrun, hwrite, Bool.not_true, Bool.false_eq_true, if_false]
    rfl
  refine ⟨_, (congrArg s.done hdone).trans (State.done_eq_next (State.raisePrivate_time _ _ _) (State.raisePrivate_pending _ _ _)), ?_,
    State.raisePrivate_cnt _ _ _, ?_, ?_, fun hexists => ?_⟩
  · exact State.mem_out_raisePrivate List.mem_cons_self _ _
  · exact (State.fld_raisePrivate _ _ _ _ (by decide) (.inr (by decide))).trans s.dumpEnded_WR
  · exact (congrArg (· == 1) (State.fld_raisePrivate _ _ _ _ (by decide) (.inr (by decide)))).trans s.dumpEnded_BUSY
  · exact State.bit_raisePrivate_pend _ _ _ (by decide) hexists

/-- The state in which a dump has been abandoned, its drop counted. -/
def State.dumpAbandoned (s : State) : State :=
  ((({ s with cnt.run := none } : State).setFld CNT_RING_WR_WR (s.fld CNT_RING_WR_WR + 352)).inc CNT_DROP_DROP).setBit CNT_DROP_BUSY false

theorem State.abandonDump_of_run {s : State} (hrun : s.cnt.run = some d) : s.abandonDump d.port = s.dumpAbandoned := by
  unfold State.abandonDump
  simp only [hrun, if_true]
  rfl

theorem State.dumpAbandoned_WR (s : State) : s.dumpAbandoned.fld CNT_RING_WR_WR = (s.fld CNT_RING_WR_WR + 352) % 2 ^ 32 :=
  (State.fld_setBit_addr _ _ _ _ (by decide)).trans <| (State.fld_inc_addr _ _ _ (by decide)).trans <|
    State.fld_setFld_same _ CNT_RING_WR_WR _ (by decide)

theorem State.dumpAbandoned_DROP (s : State) : s.dumpAbandoned.fld CNT_DROP_DROP = min (s.fld CNT_DROP_DROP + 1) (2 ^ 16 - 1) := by
  refine (State.fld_setBit_apart _ false (by decide)).trans <| (State.fld_inc_same _ CNT_DROP_DROP (by decide)).trans ?_
  rw [State.fld_setFld_addr _ _ _ _ (by decide)]
  rfl

theorem State.dumpAbandoned_BUSY (s : State) : s.dumpAbandoned.bit CNT_DROP_BUSY = false := State.bit_setBit_same _ CNT_DROP_BUSY false (by decide) rfl

theorem State.dumpAbandoned_fld (s : State) {f : Fld} (hwr : CNT_RING_WR ≠ f.addr) (hdrop : CNT_DROP ≠ f.addr) :
    s.dumpAbandoned.fld f = s.fld f :=
  (State.fld_setBit_addr _ _ _ _ hdrop).trans <| (State.fld_inc_addr _ _ _ hdrop).trans <| State.fld_setFld_addr _ _ _ _ hwr

theorem State.dropWrite_fld_low (s : State) (p : Nat) {f : Fld} (hf : f.addr < 0x1000000) : (s.dropWrite p).fld f = s.fld f :=
  s.dropWrite_fld p (by unfold PRT_MF_DROP; omega) (by unfold PRT_MF_STAT; omega)

theorem State.dropWrite_WR_DROP (s : State) (p : Nat) : (s.dropWrite p).fld (PRT_MF_DROP_WR_DROP p) =
    min (s.fld (PRT_MF_DROP_WR_DROP p) + 1) (2 ^ (PRT_MF_DROP_WR_DROP p).width - 1) := by
  refine (State.fld_setBit_addr _ _ _ _ ?_).trans (State.fld_inc_same s (PRT_MF_DROP_WR_DROP p) (by simp [PRT_MF_DROP_WR_DROP]))
  simp [PRT_MF_STAT_DROP_SEEN, PRT_MF_STAT, PRT_MF_DROP_WR_DROP, PRT_MF_DROP]

theorem exec_counterDumpDone_dropped (hrun : s.cnt.run = some d) (hwrite : s.canWrite d.port = false) :
    ∃ t, exec .counterDumpDone s = .next t ∧ t.cnt = { s.cnt with run := none } ∧ t.fld CNT_RING_WR_WR = (s.fld CNT_RING_WR_WR + 352) % 2 ^ 32 ∧
      t.fld CNT_DROP_DROP = min (s.fld CNT_DROP_DROP + 1) (2 ^ 16 - 1) ∧ t.bit CNT_DROP_BUSY = false ∧
      (s.linkUp d.port = true → t.fld (PRT_MF_DROP_WR_DROP d.port) = min (s.fld (PRT_MF_DROP_WR_DROP d.port) + 1) (2 ^ (PRT_MF_DROP_WR_DROP d.port).width - 1)) ∧
      t = { s with cnt.run := none, regs := t.regs } := by
  have hdone : s.dumpDone = (if s.linkUp d.port then s.dropWrite d.port else s).dumpAbandoned := by
    unfold State.dumpDone
    simp only [hrun, hwrite, Bool.not_false, if_true]
    exact State.abandonDump_of_run (by split_ifs <;> exact hrun)
  have hkept : ∀ f : Fld, f.addr < 0x1000000 → (if s.linkUp d.port then s.dropWrite d.port else s).fld f = s.fld f := fun f hf => by
    split_ifs
    exacts [s.dropWrite_fld_low _ hf, rfl]
  have hframe : (if s.linkUp d.port then s.dropWrite d.port else s).dumpAbandoned =
      { s with cnt.run := none, regs := ((if s.linkUp d.port then s.dropWrite d.port else s).dumpAbandoned).regs } := by
    split_ifs <;> rfl
  refine ⟨_, (congrArg s.done hdone).trans (State.done_eq_next (by rw [hframe]) (by rw [hframe])), by rw [hframe], ?_, ?_,
    State.dumpAbandoned_BUSY _, fun hup => ?_, hframe⟩
  · rw [State.dumpAbandoned_WR, hkept _ (by decide)]
  · rw [State.dumpAbandoned_DROP, hkept _ (by decide)]
  · rw [if_pos hup, State.dumpAbandoned_fld, State.dropWrite_WR_DROP]
    all_goals
      simp only [PRT_MF_DROP_WR_DROP, PRT_MF_DROP, CNT_RING_WR, CNT_DROP]
      omega

theorem exec_counterDumpDone_none (hrun : s.cnt.run = none) : exec .counterDumpDone s = .next s := by
  have hdone : s.dumpDone = s := by
    unfold State.dumpDone
    rw [hrun]
  exact (congrArg s.done hdone).trans (State.done_eq_next rfl rfl)

end Dumps

/-! ### The ring by opcode, and the pages of bindings (R402, R406) -/

section DumpCommands

variable {s : State} {rq : Rq} {p : Principal} {port base size every b : Nat}

theorem exec_dumpRing_accepted (hs : s.serves rq 0x0B01 p = true) (hok : size = 0 ∨ s.ringOk port base size every = true) :
    ∃ t, exec (.dumpRing rq port base size every) s = .next t ∧ t.replied rq 0x0B01 .success s.effFrame [] ∧
      t = { s with
        out := t.out, mbx.sess := t.mbx.sess,
        due := s.due ++ [Due.mk s.effFrame false false false none none (.dumpRing port base size every)] } :=
  done_answers hs _ _ (u := s.submit none (.dumpRing port base size every)) (fun _ => if_pos hok) rfl rfl

theorem exec_dumpRing_refused (hs : s.serves rq 0x0B01 p = true) (hsize : size ≠ 0) (hbad : s.ringOk port base size every = false) :
    ∃ t, exec (.dumpRing rq port base size every) s = .next t ∧ s.turnsAway t rq 0x0B01 .parameter :=
  done_turned hs _ _ fun _ => if_neg (not_or.2 ⟨hsize, by rw [Bool.not_eq_true]; exact hbad⟩)

theorem exec_readBindingCounters (hs : s.serves rq 0x0B02 p = true) (hb : b < 4096)
    (hmay : ∀ k, p = .tenant k → s.bndValid b = true ∧ s.bndTenant b = k ∧ s.curBit (BND_CFG_TEN_VIEW b) = true) :
    ∃ t, exec (.readBindingCounters rq b) s = .next t ∧ t.replied rq 0x0B02 .success s.time.frame
        [(8, s.cnt.pageFrame), (8, (mgetD s.cnt.pageSnap b {}).rd), (8, (mgetD s.cnt.pageSnap b {}).wr), (8, (mgetD s.cnt.pageSnap b {}).bisnp),
          (8, (mgetD s.cnt.pageSnap b {}).lat), (8, (mgetD s.cnt.pageSnap b {}).heldCyc), (16, 0)] ∧
      t = { s with out := t.out, mbx.sess := t.mbx.sess } := by
  refine done_turned hs _ _ fun n => (if_neg (Nat.not_le.2 hb)).trans (if_neg ?_)
  cases p with
  | tenant k =>
    obtain ⟨hvalid, htenant, hview⟩ := hmay k rfl
    have hall : (s.bndValid b && s.bndTenant b == k && s.curBit (BND_CFG_TEN_VIEW b)) = true := by simp [hvalid, htenant, hview]
    exact fun h => Bool.noConfusion ((congrArg (! ·) hall).symm.trans h)
  | _ => exact Bool.false_ne_true

theorem exec_readBindingCounters_hidden {k : Nat} (hs : s.serves rq 0x0B02 (.tenant k) = true) (hb : b < 4096)
    (hview : s.curBit (BND_CFG_TEN_VIEW b) = false) : ∃ t, exec (.readBindingCounters rq b) s = .next t ∧ s.turnsAway t rq 0x0B02 .permission := by
  refine done_turned hs _ _ fun n => (if_neg (Nat.not_le.2 hb)).trans (if_pos ?_)
  have hall : (s.bndValid b && s.bndTenant b == k && s.curBit (BND_CFG_TEN_VIEW b)) = false := by simp [hview]
  exact congrArg (! ·) hall

end DumpCommands

/-! ### Writes of CNT_RING_CTL (R403, R408) -/

section RingWrites

variable {s : State} {b : Bus} {w : Word}

/-- Every bit of the register is the owner's. -/
theorem State.writeWord_CNT_RING_CTL (s : State) {x : RegAcc} (hwho : x.prin = .owner) (w : Word) :
    s.writeWord x CNT_RING_CTL w = s.ringWrite (w &&& 0x1FFFFFF#32) := by
  unfold State.writeWord
  rw [lookupReg_CNT_RING_CTL]
  have howner : Principal.owner.isIn 1 = true := by decide
  have hmask : (fieldMask 0 16 ||| fieldMask 16 7 ||| fieldMask 23 1 ||| fieldMask 24 1) = 0x1FFFFFF#32 := by decide
  simp [State.wholeWrite, RegDef.maskOf, fieldFor, fieldWho, hwho, howner, hmask]

theorem getBits_ringMask (w : Word) {lsb n : Nat} (h : lsb + n ≤ 25) : getBits (w &&& 0x1FFFFFF#32) lsb n = getBits w lsb n := by
  refine getBits_and w fun i hi => ?_
  have hlow : lsb + i < 25 := by omega
  generalize lsb + i = k at hlow
  interval_cases k <;> rfl

/-- What a write of CNT_RING_CTL does before the ring is enabled or disabled: a 1 in REFUSED clears it. -/
def State.refusedCleared (s : State) (w : Word) : State := if getBit w 24 then s.setBit CNT_RING_CTL_REFUSED false else s

theorem State.refusedCleared_fld (s : State) (w : Word) {f : Fld} (h : CNT_RING_CTL_REFUSED.bitsApart f = true) :
    (s.refusedCleared w).fld f = s.fld f := by
  unfold State.refusedCleared
  split_ifs
  exacts [State.fld_setBit_apart s _ h, rfl]

theorem State.refusedCleared_eq (s : State) (w : Word) : s.refusedCleared w = { s with regs := (s.refusedCleared w).regs } := by
  unfold State.refusedCleared
  split_ifs <;> rfl

/-- The state with EVERY and PORT as a write gives them. -/
def State.ringSet (s : State) (w : Word) : State :=
  ((s.refusedCleared w).setFld CNT_RING_CTL_EVERY (getBits w 0 16)).setFld CNT_RING_CTL_PORT (getBits w 16 7)

theorem State.ringSet_EVERY (s : State) (w : Word) : (s.ringSet w).fld CNT_RING_CTL_EVERY = getBits w 0 16 :=
  (State.fld_setFld_apart _ _ (by decide)).trans <| (State.fld_setFld_same _ CNT_RING_CTL_EVERY _ (by decide)).trans <|
    Nat.mod_eq_of_lt (getBits_lt w 0 16)

theorem State.ringSet_PORT (s : State) (w : Word) : (s.ringSet w).fld CNT_RING_CTL_PORT = getBits w 16 7 :=
  (State.fld_setFld_same _ CNT_RING_CTL_PORT _ (by decide)).trans (Nat.mod_eq_of_lt (getBits_lt w 16 7))

theorem State.ringSet_fld (s : State) (w : Word) {f : Fld} (hevery : CNT_RING_CTL_EVERY.bitsApart f = true)
    (hport : CNT_RING_CTL_PORT.bitsApart f = true) (hrefused : CNT_RING_CTL_REFUSED.bitsApart f = true) : (s.ringSet w).fld f = s.fld f :=
  (State.fld_setFld_apart _ _ hport).trans <| (State.fld_setFld_apart _ _ hevery).trans (s.refusedCleared_fld w hrefused)

theorem State.ringSet_other (s : State) (w : Word) {f : Fld} (hf : CNT_RING_CTL ≠ f.addr) : (s.ringSet w).fld f = s.fld f := by
  refine (State.fld_setFld_addr _ _ _ _ hf).trans <| (State.fld_setFld_addr _ _ _ _ hf).trans ?_
  unfold State.refusedCleared
  split_ifs
  exacts [State.fld_setBit_addr s _ _ _ hf, rfl]

theorem State.ringSet_eq (s : State) (w : Word) : s.ringSet w = { s with regs := (s.ringSet w).regs } := by
  unfold State.ringSet
  rw [State.refusedCleared_eq]
  rfl

theorem State.ringSet_ringBase (s : State) (w : Word) : (s.ringSet w).ringBase = s.ringBase := by
  unfold State.ringBase
  rw [s.ringSet_other w (by decide), s.ringSet_other w (by decide)]

/-- Whether a ring is acceptable does not depend on registers that are not in force. -/
theorem State.ringSet_ringOk (s : State) (w : Word) (port base size every : Nat) :
    (s.ringSet w).ringOk port base size every = s.ringOk port base size every := by
  rw [s.ringSet_eq w]
  rfl

/-- A write that enables a disabled ring stores EVERY and PORT, and enables the ring if it is acceptable. -/
theorem State.ringWrite_enables {s : State} {w : Word} (hoff : s.bit CNT_RING_CTL_EN = false) (hon : getBit w 23 = true) (hevery : 4 ≤ getBits w 0 16) :
    s.ringWrite w = if s.ringOk (getBits w 16 7) s.ringBase (s.fld CNT_RING_SIZE_SIZE) (getBits w 0 16)
      then (s.ringSet w).setBit CNT_RING_CTL_EN true else (s.ringSet w).setBit CNT_RING_CTL_REFUSED true := by
  have hset : ((s.refusedCleared w).setFld CNT_RING_CTL_EVERY (if getBits w 0 16 < 4 then s.fld CNT_RING_CTL_EVERY else getBits w 0 16)).setFld
      CNT_RING_CTL_PORT (getBits w 16 7) = s.ringSet w := by
    rw [if_neg (Nat.not_lt.2 hevery)]
    rfl
  have hok : (s.ringSet w).ringOk ((s.ringSet w).fld CNT_RING_CTL_PORT) (s.ringSet w).ringBase ((s.ringSet w).fld CNT_RING_SIZE_SIZE)
      (if getBits w 0 16 < 4 then s.fld CNT_RING_CTL_EVERY else getBits w 0 16) =
      s.ringOk (getBits w 16 7) s.ringBase (s.fld CNT_RING_SIZE_SIZE) (getBits w 0 16) := by
    rw [if_neg (Nat.not_lt.2 hevery), State.ringSet_PORT, State.ringSet_ringBase, s.ringSet_other w (by decide), State.ringSet_ringOk]
  unfold State.refusedCleared at hset
  unfold State.ringWrite
  simp only [hoff, hon, Bool.false_eq_true, if_false, Bool.not_true, hset, hok]

/-- A write that disables the ring leaves EVERY and PORT as they are. -/
theorem State.ringWrite_disables {s : State} {w : Word} (hen : s.bit CNT_RING_CTL_EN = true) :
    s.ringWrite w = (s.refusedCleared w).setBit CNT_RING_CTL_EN (getBit w 23) := by
  unfold State.ringWrite State.refusedCleared
  simp only [hen, if_true]

theorem busWrite_CNT_RING_CTL (ht : s.takesWrite b CNT_RING_CTL = true) (hp : s.busP b = .owner) :
    exec (.ringEnableWrite b w) s = s.done (s.ringWrite (w &&& 0x1FFFFFF#32)) :=
  congrArg s.done ((busWrite_takes ht (.ringEnableWrite b w) w).trans (s.writeWord_CNT_RING_CTL hp w))

theorem getBit_ringMask (w : Word) {i : Nat} (h : i < 25) : getBit (w &&& 0x1FFFFFF#32) i = getBit w i :=
  congrArg (· == 1) (getBits_ringMask w (by omega))

theorem exec_ringEnableWrite_accepted (ht : s.takesWrite b CNT_RING_CTL = true) (hp : s.busP b = .owner) (hoff : s.bit CNT_RING_CTL_EN = false)
    (hon : getBit w 23 = true) (hevery : 4 ≤ getBits w 0 16)
    (hok : s.ringOk (getBits w 16 7) s.ringBase (s.fld CNT_RING_SIZE_SIZE) (getBits w 0 16) = true) :
    ∃ t, exec (.ringEnableWrite b w) s = .next t ∧ t.bit CNT_RING_CTL_EN = true ∧ t.fld CNT_RING_CTL_EVERY = getBits w 0 16 ∧
      t.fld CNT_RING_CTL_PORT = getBits w 16 7 ∧ t = { s with regs := t.regs } := by
  have hwrite : s.ringWrite (w &&& 0x1FFFFFF#32) = (s.ringSet (w &&& 0x1FFFFFF#32)).setBit CNT_RING_CTL_EN true := by
    rw [State.ringWrite_enables hoff (by rw [getBit_ringMask w (by decide), hon]) (by rw [getBits_ringMask w (by decide)]; exact hevery),
      getBits_ringMask w (by decide), getBits_ringMask w (by decide), if_pos hok]
  have hframe := s.ringSet_eq (w &&& 0x1FFFFFF#32)
  refine ⟨_, (busWrite_CNT_RING_CTL ht hp).trans ((congrArg s.done hwrite).trans (State.done_eq_next (by rw [hframe]; rfl) (by rw [hframe]; rfl))),
    State.bit_setBit_same _ CNT_RING_CTL_EN true (by decide) rfl, ?_, ?_, ?_⟩
  · rw [State.fld_setBit_apart _ _ (by decide), State.ringSet_EVERY, getBits_ringMask w (by decide)]
  · rw [State.fld_setBit_apart _ _ (by decide), State.ringSet_PORT, getBits_ringMask w (by decide)]
  · rw [hframe]
    rfl

theorem exec_ringEnableWrite_refused (ht : s.takesWrite b CNT_RING_CTL = true) (hp : s.busP b = .owner) (hoff : s.bit CNT_RING_CTL_EN = false)
    (hon : getBit w 23 = true) (hevery : 4 ≤ getBits w 0 16)
    (hbad : s.ringOk (getBits w 16 7) s.ringBase (s.fld CNT_RING_SIZE_SIZE) (getBits w 0 16) = false) :
    ∃ t, exec (.ringEnableWrite b w) s = .next t ∧ t.bit CNT_RING_CTL_EN = false ∧ t.bit CNT_RING_CTL_REFUSED = true ∧ t = { s with regs := t.regs } := by
  have hwrite : s.ringWrite (w &&& 0x1FFFFFF#32) = (s.ringSet (w &&& 0x1FFFFFF#32)).setBit CNT_RING_CTL_REFUSED true := by
    rw [State.ringWrite_enables hoff (by rw [getBit_ringMask w (by decide), hon]) (by rw [getBits_ringMask w (by decide)]; exact hevery),
      getBits_ringMask w (by decide), getBits_ringMask w (by decide), if_neg (by rw [hbad]; exact Bool.false_ne_true)]
  have hframe := s.ringSet_eq (w &&& 0x1FFFFFF#32)
  refine ⟨_, (busWrite_CNT_RING_CTL ht hp).trans ((congrArg s.done hwrite).trans (State.done_eq_next (by rw [hframe]; rfl) (by rw [hframe]; rfl))),
    ?_, State.bit_setBit_same _ CNT_RING_CTL_REFUSED true (by decide) rfl, ?_⟩
  · rw [State.bit_setBit_apart _ _ (by decide)]
    exact (congrArg (· == 1) (s.ringSet_fld _ (by decide) (by decide) (by decide))).trans hoff
  · rw [hframe]
    rfl

theorem exec_ringEnableWrite_disables (ht : s.takesWrite b CNT_RING_CTL = true) (hp : s.busP b = .owner) (hen : s.bit CNT_RING_CTL_EN = true)
    (hoff : getBit w 23 = false) :
    ∃ t, exec (.ringEnableWrite b w) s = .next t ∧ t.bit CNT_RING_CTL_EN = false ∧ t.fld CNT_RING_CTL_EVERY = s.fld CNT_RING_CTL_EVERY ∧
      t.fld CNT_RING_CTL_PORT = s.fld CNT_RING_CTL_PORT ∧ t = { s with regs := t.regs } := by
  have hwrite : s.ringWrite (w &&& 0x1FFFFFF#32) = (s.refusedCleared (w &&& 0x1FFFFFF#32)).setBit CNT_RING_CTL_EN false := by
    rw [State.ringWrite_disables hen, getBit_ringMask w (by decide), hoff]
  have hframe := s.refusedCleared_eq (w &&& 0x1FFFFFF#32)
  refine ⟨_, (busWrite_CNT_RING_CTL ht hp).trans ((congrArg s.done hwrite).trans (State.done_eq_next (by rw [hframe]; rfl) (by rw [hframe]; rfl))),
    State.bit_setBit_same _ CNT_RING_CTL_EN false (by decide) rfl, ?_, ?_, ?_⟩
  · rw [State.fld_setBit_apart _ _ (by decide), s.refusedCleared_fld _ (by decide)]
  · rw [State.fld_setBit_apart _ _ (by decide), s.refusedCleared_fld _ (by decide)]
  · rw [hframe]
    rfl

end RingWrites

/-- Settles O33: a dump ends written or dropped, a ring is set or refused by its conditions, and a page is read by whom it may be. -/
theorem counterDumps : Obligations.CounterDumps :=
  ⟨fun _ _ => exec_counterDumpDone_written, fun _ _ => exec_counterDumpDone_dropped, fun _ => exec_counterDumpDone_none,
    fun _ _ _ _ _ _ _ => exec_dumpRing_accepted, fun _ _ _ _ _ _ _ => exec_dumpRing_refused, fun _ _ _ _ => exec_readBindingCounters,
    fun _ _ _ _ => exec_readBindingCounters_hidden, fun _ _ _ => exec_ringEnableWrite_accepted, fun _ _ _ => exec_ringEnableWrite_refused,
    fun _ _ _ => exec_ringEnableWrite_disables⟩

end Sys2Proof.Machine
end

section
/-! Proofs of the families beside 15_modes_power_debug, fifth part: register accesses of the event controller and of the fault collector (O20). -/
set_option Elab.async false
namespace Sys2Proof.Machine
open Sys2Proof

/-! ### What a signal changes (R394 to R396) -/

/-- What a step that only signals leaves: the registers outside the ports' blocks, the active marks, and the state of the other units named here. -/
structure State.SignalsOnly (s t : State) : Prop where
  low : ∀ a r, a < 0x1000000 → rget t.regs a r = rget s.regs a r
  active : t.evt.active = s.evt.active
  md : t.md = s.md
  flt : t.flt = s.flt
  refused : t.refused = s.refused
  time : t.time = s.time
  pending : t.pending = s.pending

theorem State.SignalsOnly.refl (s : State) : s.SignalsOnly s := ⟨fun _ _ _ => rfl, rfl, rfl, rfl, rfl, rfl, rfl⟩

theorem State.refreshLevel_active (s : State) (t : Nat) : (s.refreshLevel t).evt.active = s.evt.active := by
  simp only [State.refreshLevel]
  split_ifs <;> rfl

theorem State.signal_active (s : State) (t code : Nat) : (s.signal t code).evt.active = s.evt.active := by
  unfold State.signal
  dsimp only
  split
  · split
    · cases s.vectorOf t code with
      | none => rfl
      | some v =>
        simp only [State.msiDropped]
        split_ifs <;> rfl
    · exact s.refreshLevel_active t
  · split
    · exact s.refreshLevel_active 129
    · split
      · cases s.lowestSource t <;> rfl
      · rfl

theorem State.refreshLevel_signalsOnly (s : State) (t : Nat) : s.SignalsOnly (s.refreshLevel t) :=
  ⟨fun _ _ _ => by rw [State.refreshLevel_regs], s.refreshLevel_active t, by simp, by simp, by simp, by simp, by simp⟩

theorem State.signal_signalsOnly (s : State) (t code : Nat) : s.SignalsOnly (s.signal t code) :=
  ⟨fun a r ha => s.rget_signal t code a r ha, s.signal_active t code, by simp, by simp, by simp, by simp, by simp⟩

theorem State.signalAgain_signalsOnly (s : State) (t code : Nat) : s.SignalsOnly (s.signalAgain t code) := by
  unfold State.signalAgain
  split
  · split
    · split
      exacts [s.signal_signalsOnly t _, .refl s]
    · exact s.refreshLevel_signalsOnly t
  · split
    · exact s.refreshLevel_signalsOnly 129
    · split
      exacts [s.signal_signalsOnly t _, .refl s]

/-- A pending bit reads alike where only signals lie between. -/
theorem State.SignalsOnly.bit {s t : State} (h : s.SignalsOnly t) {f : Fld} (hf : f.addr < 0x1000000) : t.bit f = s.bit f := by
  unfold State.bit State.fld
  rw [h.low _ _ hf]

/-! ### Completing a source (R391, R393) -/

/-- An active source is completed: its mark goes, it is sampled again, and what still pends is signalled. -/
def State.completed (s : State) (t c : Nat) : State := ((s.dropActive t c).resample t c).signalAgain t c

theorem State.resample_evt (s : State) (t code : Nat) : (s.resample t code).evt = s.evt := by
  unfold State.resample
  split_ifs <;> rfl

/-- What completing sources leaves alone. -/
structure State.CompletesOnly (s t : State) : Prop where
  md : t.md = s.md
  flt : t.flt = s.flt
  refused : t.refused = s.refused
  time : t.time = s.time
  pending : t.pending = s.pending

theorem State.resample_completesOnly (s : State) (t code : Nat) : s.CompletesOnly (s.resample t code) := by
  unfold State.resample
  split_ifs <;> exact ⟨rfl, rfl, rfl, rfl, rfl⟩

theorem State.completed_completesOnly (s : State) (t c : Nat) : s.CompletesOnly (s.completed t c) := by
  have hsample := (s.dropActive t c).resample_completesOnly t c
  have h := ((s.dropActive t c).resample t c).signalAgain_signalsOnly t c
  exact ⟨h.md.trans hsample.md, h.flt.trans hsample.flt, h.refused.trans hsample.refused, h.time.trans hsample.time, h.pending.trans hsample.pending⟩

theorem State.completed_active (s : State) (t c : Nat) : mgetD (s.completed t c).evt.active t [] = sdel (mgetD s.evt.active t []) c := by
  have hactive := (((s.dropActive t c).resample t c).signalAgain_signalsOnly t c).active.trans
    (congrArg EvtSt.active ((s.dropActive t c).resample_evt t c))
  exact (congrArg (fun m => mgetD m t []) hactive).trans (mgetD_mputD_same _ _ _ _)

theorem State.eventDone_active {s : State} {t : Nat} {w : Word} (h : s.srcActive t (getBits w 0 10) = true) :
    s.eventDone t w = s.completed t (getBits w 0 10) := if_pos h

theorem State.eventDone_other {s : State} {t : Nat} {w : Word} (h : s.srcActive t (getBits w 0 10) = false) : s.eventDone t w = s.countRefused :=
  if_neg (by rw [h]; exact Bool.false_ne_true)

theorem State.foldl_completed_completesOnly (t : Nat) (l : List Nat) (s : State) : s.CompletesOnly (l.foldl (fun s c => s.completed t c) s) := by
  induction l generalizing s with
  | nil => exact ⟨rfl, rfl, rfl, rfl, rfl⟩
  | cons c l ih =>
    have h := s.completed_completesOnly t c
    have h' := ih (s.completed t c)
    exact ⟨h'.md.trans h.md, h'.flt.trans h.flt, h'.refused.trans h.refused, h'.time.trans h.time, h'.pending.trans h.pending⟩

theorem State.foldl_completed_active (t : Nat) (l : List Nat) (s : State) :
    mgetD (l.foldl (fun s c => s.completed t c) s).evt.active t [] = l.foldl sdel (mgetD s.evt.active t []) := by
  induction l generalizing s with
  | nil => rfl
  | cons c l ih => rw [List.foldl_cons, ih, s.completed_active, List.foldl_cons]

/-- A target that leaves claim mode has no active source left. -/
theorem State.leaveClaim_active (s : State) (t : Nat) : mgetD (s.leaveClaim t).evt.active t [] = [] := by
  refine (s.foldl_completed_active t _).trans (List.eq_nil_iff_forall_not_mem.2 fun a ha => ?_)
  rw [mem_foldl_sdel] at ha
  exact ha.2 ha.1

/-! ### Clearing pending bits (R390, R393) -/

theorem State.clearSource_signalsOnly {s : State} {t code : Nat} (hlevel : s.levelOn t code = false) :
    (if s.bit (pendFld t code) then s.setBit (pendFld t code) false else s).SignalsOnly (s.clearSource t code) := by
  unfold State.clearSource
  split_ifs
  · have hsample : (s.setBit (pendFld t code) false).resample t code = s.setBit (pendFld t code) false := if_neg (by
      rw [Bool.not_eq_true]
      exact hlevel)
    rw [hsample]
    exact State.signalAgain_signalsOnly _ t code
  · exact .refl s

/-- A fold that acts at one index of a range acts once. -/
theorem foldl_range_only {α : Type} (f : α → Nat → α) {test : Nat → Bool} {k : Nat} (htest : ∀ j, test j = true ↔ j = k) (a : α) (n : Nat) :
    (List.range n).foldl (fun a j => if test j then f a j else a) a = if k < n then f a k else a := by
  induction n with
  | zero => rfl
  | succ n ih =>
    rw [List.range_succ, List.foldl_append, ih, List.foldl_cons, List.foldl_nil]
    by_cases hn : n = k
    · subst hn
      rw [if_pos ((htest n).2 rfl), if_neg (Nat.lt_irrefl n), if_pos (Nat.lt_succ_self n)]
    · rw [if_neg fun h => hn ((htest n).1 h)]
      exact if_congr (by omega) rfl rfl

/-- A word with one bit set clears one source. -/
theorem State.clearPending_single (s : State) (t : Nat) {k : Nat} (hk : k < 32) : s.clearPending t (BitVec.ofNat 32 (2 ^ k)) 0 = s.clearSource t k := by
  have htest : ∀ j, getBit (BitVec.ofNat 32 (2 ^ k)) j = true ↔ j = k := fun j => by
    rw [getBit_eq_getLsbD, BitVec.getLsbD_ofNat, Nat.testBit_two_pow]
    simp
    omega
  refine (foldl_range_only (fun (s : State) j => s.clearSource t (0 + j)) htest s 32).trans ((if_pos hk).trans ?_)
  rw [Nat.zero_add]

/-- Two low own sources of a target differ in their bit. -/
theorem pendFld_bitsApart (t : Nat) {j k : Nat} (hj : j < 32) (hk : k < 32) (hne : j ≠ k) : (pendFld t k).bitsApart (pendFld t j) = true := by
  simp only [pendFld, if_pos hj, if_pos hk, Fld.bitsApart, EVT_T_PEND_LO_PEND]
  simp
  omega

/-! ### The writes and reads themselves -/

section Accesses

variable {s : State} {b : Bus} {w : Word} {g : Nat}

theorem exec_eventDone_eq (ht : s.takesWrite b (EVT_T_DONE g) = true) (hwho : (s.busP b).isIn 11 = true) (hg : g < 132) :
    exec (.eventDone b g w) s = s.done (s.eventDone g (w &&& 0x3FF#32)) := by
  refine congrArg s.done ((busWrite_takes ht (.eventDone b g w) w).trans ?_)
  have hwho' : (s.busAcc b).prin.isIn 11 = true := hwho
  have hmask : fieldMask 0 9 ||| fieldMask 9 1 = 0x3FF#32 := by decide
  unfold State.writeWord
  rw [lookupReg_EVT_T_DONE g hg]
  simp [State.wholeWrite, RegDef.maskOf, fieldFor, fieldWho, hwho', hmask]

theorem getBits_doneMask (w : Word) : getBits (w &&& 0x3FF#32) 0 10 = getBits w 0 10 :=
  getBits_and w fun i hi => by interval_cases i <;> rfl

theorem exec_eventDone_active (ht : s.takesWrite b (EVT_T_DONE g) = true) (hwho : (s.busP b).isIn 11 = true) (hg : g < 132)
    (hactive : s.srcActive g (getBits w 0 10) = true) :
    ∃ t, exec (.eventDone b g w) s = .next t ∧ getBits w 0 10 ∉ mgetD t.evt.active g [] ∧ t.md = s.md ∧ t.flt = s.flt ∧ t.refused = s.refused := by
  have hdone := State.eventDone_active (w := w &&& 0x3FF#32) (by rw [getBits_doneMask]; exact hactive)
  rw [getBits_doneMask] at hdone
  have h := s.completed_completesOnly g (getBits w 0 10)
  refine ⟨_, (exec_eventDone_eq ht hwho hg).trans ((congrArg s.done hdone).trans (State.done_eq_next h.time h.pending)), ?_, h.md, h.flt, h.refused⟩
  rw [State.completed_active, mem_sdel]
  exact fun hmem => hmem.2 rfl

theorem exec_eventDone_other (ht : s.takesWrite b (EVT_T_DONE g) = true) (hwho : (s.busP b).isIn 11 = true) (hg : g < 132)
    (hother : s.srcActive g (getBits w 0 10) = false) : exec (.eventDone b g w) s = .next { s with refused := s.refused + 1 } := by
  have hdone := State.eventDone_other (w := w &&& 0x3FF#32) (by rw [getBits_doneMask]; exact hother)
  exact (exec_eventDone_eq ht hwho hg).trans ((congrArg s.done hdone).trans (State.done_eq_next rfl rfl))

theorem busRead_takes {a : Nat} (h : s.takesRead b a = true) (i : Instr) :
    s.busRead i b a = (s.readWord (s.busAcc b) a).2.emit (.busData b.fn a (s.readWord (s.busAcc b) a).1) := by
  simp only [State.takesRead, Bool.and_eq_true, beq_iff_eq, Bool.not_eq_true'] at h
  obtain ⟨⟨hup, hnow⟩, hcheck⟩ := h
  unfold State.busRead
  simp [hup, hnow, regCheck_none hcheck]

/-- The state in which a claimed source has its active mark, and pends no more. -/
def State.marked (s : State) (t c : Nat) : State :=
  { s.setBit (pendFld t c) false with evt.active := mput s.evt.active t (sadd (mgetD s.evt.active t []) c) }

theorem State.marked_active (s : State) (t c : Nat) : mgetD (s.marked t c).evt.active t [] = sadd (mgetD s.evt.active t []) c := by
  unfold State.marked mgetD
  rw [mget_mput_same]
  rfl

theorem State.readWord_EVT_T_CLAIM (s : State) (x : RegAcc) (hg : g < 132) :
    ∃ m : Word, s.readWord x (EVT_T_CLAIM g) = ((s.claim g).1 &&& m, (s.claim g).2) := by
  unfold State.readWord
  rw [lookupReg_EVT_T_CLAIM g hg]
  exact ⟨_, rfl⟩

theorem exec_eventClaim_claims {c : Nat} (ht : s.takesRead b (EVT_T_CLAIM g) = true) (hg : g < 132) (hmode : s.claimMode g = true)
    (hlow : s.lowestSource g = some c) :
    ∃ t, exec (.eventClaim b g) s = .next t ∧ c ∈ mgetD t.evt.active g [] ∧ t.bit (pendFld g c) = false ∧ t.md = s.md ∧ t.flt = s.flt := by
  obtain ⟨m, hread⟩ := s.readWord_EVT_T_CLAIM (s.busAcc b) hg
  have hclaim : (s.claim g).2 = (s.marked g c).refreshLevel g := by
    unfold State.claim
    rw [hlow, if_neg (by rw [hmode]; exact Bool.false_ne_true)]
    rfl
  have hbus := busRead_takes ht (.eventClaim b g)
  rw [hread, hclaim] at hbus
  obtain ⟨hwidth, hfits⟩ := pendFld_bit g c
  have h := (s.marked g c).refreshLevel_signalsOnly g
  refine ⟨_, (congrArg s.done hbus).trans (State.done_eq_next h.time h.pending), ?_, ?_, h.md, h.flt⟩
  · refine (congrArg (fun l => c ∈ mgetD l g []) h.active).mpr ?_
    rw [State.marked_active]
    exact mem_sadd_self _ c
  · exact (State.bit_congr (State.refreshLevel_regs (s.marked g c) g) _).trans (State.bit_setBit_same s _ false hfits hwidth)

theorem exec_eventClaim_nothing (ht : s.takesRead b (EVT_T_CLAIM g) = true) (hg : g < 132) (hnone : s.claimMode g = false ∨ s.lowestSource g = none) :
    exec (.eventClaim b g) s = .next { s with out := .busData b.fn (EVT_T_CLAIM g) 0 :: s.out } := by
  obtain ⟨m, hread⟩ := s.readWord_EVT_T_CLAIM (s.busAcc b) hg
  have hclaim : s.claim g = (0, s) := by
    unfold State.claim
    rcases hnone with hmode | hlow
    · exact if_pos (by rw [hmode]; rfl)
    · rw [hlow]
      exact ite_self _
  have hzero : s.readWord (s.busAcc b) (EVT_T_CLAIM g) = (0#32, s) := by
    rw [hread, hclaim]
    exact Prod.ext BitVec.zero_and rfl
  have hbus := busRead_takes ht (.eventClaim b g)
  rw [hzero] at hbus
  exact (congrArg s.done hbus).trans (State.done_eq_next rfl rfl)

theorem State.writeWord_EVT_T_PEND_LO (s : State) {x : RegAcc} (hwho : x.prin.isIn 11 = true) (hg : g < 132) (w : Word) :
    s.writeWord x (EVT_T_PEND_LO g) w = s.clearPending g w 0 := by
  have hall : ∀ v : Word, 4294967295#32 &&& v = v := fun _ => BitVec.allOnes_and
  unfold State.writeWord
  rw [lookupReg_EVT_T_PEND_LO g hg]
  simp [RegDef.maskOf, fieldFor, fieldWho, hwho, State.wholeWrite, State.writeRefused, State.stagePart, State.writeWord.isPendReg, State.afterWrite,
    fieldMask, hall]

theorem exec_eventPendingClear_single {k : Nat} (ht : s.takesWrite b (EVT_T_PEND_LO g) = true) (hwho : (s.busP b).isIn 11 = true) (hg : g < 132)
    (hk : k < 32) (hlevel : s.levelOn g k = false) :
    ∃ t, exec (.eventPendingClear b (EVT_T_PEND_LO g) (BitVec.ofNat 32 (2 ^ k))) s = .next t ∧ t.bit (pendFld g k) = false ∧
      (∀ j < 32, j ≠ k → t.bit (pendFld g j) = s.bit (pendFld g j)) ∧ t.md = s.md ∧ t.flt = s.flt := by
  have hwrite := (busWrite_takes ht (.eventPendingClear b (EVT_T_PEND_LO g) (BitVec.ofNat 32 (2 ^ k))) (BitVec.ofNat 32 (2 ^ k))).trans <|
    (s.writeWord_EVT_T_PEND_LO hwho hg _).trans (s.clearPending_single g hk)
  have hlow : ∀ j < 32, (pendFld g j).addr < 0x1000000 := fun j hj => pendFld_low g j (.inl (by omega)) (.inl (by omega))
  obtain ⟨hwidth, hfits⟩ := pendFld_bit g k
  have h := State.clearSource_signalsOnly (s := s) hlevel
  split_ifs at h with hset
  · refine ⟨_, (congrArg s.done hwrite).trans (State.done_eq_next h.time h.pending), ?_, fun j hj hne => ?_, h.md, h.flt⟩
    · exact (h.bit (hlow k hk)).trans (State.bit_setBit_same s _ false hfits hwidth)
    · exact (h.bit (hlow j hj)).trans (State.bit_setBit_apart s false (pendFld_bitsApart g hj hk hne))
  · refine ⟨_, (congrArg s.done hwrite).trans (State.done_eq_next h.time h.pending), ?_, fun j hj _ => h.bit (hlow j hj), h.md, h.flt⟩
    exact (h.bit (hlow k hk)).trans (Bool.not_eq_true _ ▸ hset)

theorem mix_mix_right (m x y : Word) : mix m x (mix m x y) = mix m x y := by
  unfold mix
  refine BitVec.eq_of_getLsbD_eq fun i _ => ?_
  simp only [BitVec.getLsbD_or, BitVec.getLsbD_and, BitVec.getLsbD_not]
  cases m.getLsbD i <;> simp

/-- The state in which a write of EVT_T_CTL has stored its bit. -/
def State.scanStored (s : State) (g : Nat) (w : Word) : State :=
  { s.setWord (EVT_T_CTL g) (mix 1#32 (s.word (EVT_T_CTL g)) w) with latch := mdel s.latch (EVT_T_CTL g) }

theorem State.writeWord_EVT_T_CTL (s : State) {x : RegAcc} (hwho : x.prin.isIn 11 = true) (hg : g < 132) (w : Word) :
    s.writeWord x (EVT_T_CTL g) w = (s.scanStored g w).scanWritten g (s.claimMode g) := by
  have hall : ∀ v : Word, v &&& 4294967295#32 = v := fun _ => BitVec.and_allOnes
  unfold State.writeWord State.scanStored
  rw [lookupReg_EVT_T_CTL g hg]
  simp [RegDef.maskOf, fieldFor, fieldWho, hwho, State.wholeWrite, State.writeRefused, State.stagePart, State.allowed, fieldMask, hall, mix_mix_right]

theorem State.scanStored_SCAN (s : State) (hg : g < 132) (w : Word) : (s.scanStored g w).bit (EVT_T_CTL_SCAN g) = getBit w 0 := by
  have hreset : resetWord (EVT_T_CTL g) = 2 := by
    unfold resetWord
    rw [lookupReg_EVT_T_CTL g hg]
    rfl
  have hfld : ∀ u : State, u.fld (EVT_T_CTL_SCAN g) = getBits (u.word (EVT_T_CTL g)) 0 1 := fun u => by
    unfold State.word
    rw [hreset]
    rfl
  have hword : (s.scanStored g w).word (EVT_T_CTL g) = mix 1#32 (s.word (EVT_T_CTL g)) w := State.word_setWord_same s _ _
  refine congrArg (· == 1) ((hfld _).trans ?_)
  rw [hword]
  exact getBits_mix _ w fun i hi => by interval_cases i; rfl

theorem exec_eventScanSelect_leaves (ht : s.takesWrite b (EVT_T_CTL g) = true) (hwho : (s.busP b).isIn 11 = true) (hg : g < 132)
    (hclaim : s.claimMode g = true) (hmode : s.md.mode = .service) (hscan : getBit w 0 = true) :
    ∃ t, exec (.eventScanSelect b g w) s = .next t ∧ mgetD t.evt.active g [] = [] ∧ t.md = s.md ∧ t.flt = s.flt := by
  have hleft : (s.scanStored g w).claimMode g = false := by
    have hmode' : (s.scanStored g w).md.mode = .service := hmode
    unfold State.claimMode
    rw [hmode', s.scanStored_SCAN hg, hscan]
    rfl
  have hwritten : (s.scanStored g w).scanWritten g (s.claimMode g) = (s.scanStored g w).leaveClaim g := by
    unfold State.scanWritten
    rw [hclaim, hleft]
    rfl
  have hwrite := (busWrite_takes ht (.eventScanSelect b g w) w).trans ((s.writeWord_EVT_T_CTL hwho hg w).trans hwritten)
  have h := State.foldl_completed_completesOnly g (mgetD (s.scanStored g w).evt.active g []) (s.scanStored g w)
  exact ⟨_, (congrArg s.done hwrite).trans (State.done_eq_next h.time h.pending), State.leaveClaim_active _ g, h.md, h.flt⟩

/-! ### Routes (R384) and cleared records (R379) -/

variable {n : Nat}

/-- The word that a write of a route gives, before the rule for FILT. -/
def State.routeMixed (s : State) (n : Nat) (w : Word) : Word := mix 0x1FFFFFF#32 (s.word (EVT_SH_ROUTE n)) w

/-- The word that a write of a route stores (R384, R389). -/
def State.routeNew (s : State) (n : Nat) (w : Word) : Word :=
  keepIf (getBits (s.routeMixed n w) 10 8 == 0) 10 8 (s.word (EVT_SH_ROUTE n)) (s.routeMixed n w)

/-- The state in which a write of a route has stored it. -/
def State.routeStored (s : State) (n : Nat) (w : Word) : State :=
  { s.setWord (EVT_SH_ROUTE n) (mix 0x1FFFFFF#32 (s.word (EVT_SH_ROUTE n)) (s.routeNew n w)) with latch := mdel s.latch (EVT_SH_ROUTE n) }

theorem State.writeWord_EVT_SH_ROUTE (s : State) {x : RegAcc} (hwho : x.prin.isIn 3 = true) (hn : n < 512) (w : Word) :
    s.writeWord x (EVT_SH_ROUTE n) w =
      if s.routeOk n (s.routeMixed n w) = false then s.countRefused
      else (s.routeStored n w).submitNext (.route n (insBits ((s.routeStored n w).word (EVT_SH_ROUTE n)) [(25, 7, 0)])) := by
  have hall : ∀ v : Word, v &&& 4294967295#32 = v := fun _ => BitVec.and_allOnes
  unfold State.writeWord State.routeStored State.routeNew State.routeMixed
  rw [lookupReg_EVT_SH_ROUTE n hn]
  simp [RegDef.maskOf, fieldFor, fieldWho, hwho, State.wholeWrite, State.writeRefused, State.stagePart, State.writeWord.isPendReg, State.afterWrite,
    State.allowed, fieldMask, hall]

theorem getBits_routeMask {lsb k : Nat} (x y : Word) (h : lsb + k ≤ 25) : getBits (mix 0x1FFFFFF#32 x y) lsb k = getBits y lsb k := by
  refine getBits_mix x y fun i hi => ?_
  have hlow : lsb + i < 25 := by omega
  generalize lsb + i = j at hlow
  interval_cases j <;> rfl

theorem State.getBits_routeNew_other (s : State) (n : Nat) (w : Word) {lsb k : Nat} (h : lsb + k ≤ 10) :
    getBits (s.routeNew n w) lsb k = getBits w lsb k :=
  (getBits_keepIf_other _ _ _ _ _ (.inl h)).trans (getBits_routeMask _ _ (by omega))

theorem State.getBits_routeNew_FILT (s : State) (n : Nat) {w : Word} (hfilt : getBits w 10 8 ≠ 0) : getBits (s.routeNew n w) 10 8 = getBits w 10 8 := by
  have hmixed : getBits (s.routeMixed n w) 10 8 = getBits w 10 8 := getBits_routeMask _ _ (by decide)
  refine (getBits_keepIf_same _ _ _ (by decide)).trans ((if_neg ?_).trans hmixed)
  rw [hmixed]
  simpa using hfilt

/-- The low fields of the word that is submitted are those of the word that was stored. -/
theorem State.getBits_routeStored (s : State) (n : Nat) (w : Word) {lsb k : Nat} (h : lsb + k ≤ 25) :
    getBits (insBits ((s.routeStored n w).word (EVT_SH_ROUTE n)) [(25, 7, 0)]) lsb k = getBits (s.routeNew n w) lsb k := by
  have hword : (s.routeStored n w).word (EVT_SH_ROUTE n) = mix 0x1FFFFFF#32 (s.word (EVT_SH_ROUTE n)) (s.routeNew n w) := State.word_setWord_same s _ _
  rw [hword]
  exact (getBits_setBits_ne _ _ _ _ _ _ (.inl h)).trans (getBits_routeMask _ _ h)

theorem State.routeOk_routeMixed (s : State) (n : Nat) (w : Word) : s.routeOk n (s.routeMixed n w) = s.routeOk n w := by
  unfold State.routeOk State.routeMixed
  rw [getBits_routeMask _ _ (by decide), getBits_routeMask _ _ (by decide)]

theorem exec_routeWrite_accepted (ht : s.takesWrite b (EVT_SH_ROUTE n) = true) (hwho : (s.busP b).isOF = true) (hn : n < 512)
    (htarget : s.targetExists (getBits w 0 8) = true) (hsense : n < 64 ∨ getBits w 8 2 = 0) (hfilt : getBits w 10 8 ≠ 0) :
    ∃ t v, exec (.routeWrite b n w) s = .next t ∧ getBits v 0 8 = getBits w 0 8 ∧ getBits v 10 8 = getBits w 10 8 ∧
      t.due = s.due ++ [Due.mk (s.time.frame + 1) false false true none none (.route n v)] ∧ t.evt = s.evt := by
  have hok : s.routeOk n (s.routeMixed n w) = true := by
    rw [State.routeOk_routeMixed]
    unfold State.routeOk isPinSource
    simpa [htarget] using hsense
  have hwrite := (busWrite_takes ht (.routeWrite b n w) w).trans (s.writeWord_EVT_SH_ROUTE hwho hn w)
  rw [if_neg (by simp [hok])] at hwrite
  refine ⟨_, _, (congrArg s.done hwrite).trans (State.done_eq_next rfl rfl), ?_, ?_, rfl, rfl⟩
  · rw [State.getBits_routeStored _ _ _ (by decide), State.getBits_routeNew_other _ _ _ (by decide)]
  · rw [State.getBits_routeStored _ _ _ (by decide), State.getBits_routeNew_FILT _ _ hfilt]

theorem exec_routeWrite_refused (ht : s.takesWrite b (EVT_SH_ROUTE n) = true) (hwho : (s.busP b).isOF = true) (hn : n < 512)
    (htarget : s.targetExists (getBits w 0 8) = false) : exec (.routeWrite b n w) s = .next { s with refused := s.refused + 1 } := by
  have hbad : s.routeOk n (s.routeMixed n w) = false := by
    rw [State.routeOk_routeMixed]
    unfold State.routeOk
    simp [htarget]
  have hwrite := (busWrite_takes ht (.routeWrite b n w) w).trans (s.writeWord_EVT_SH_ROUTE hwho hn w)
  rw [if_pos hbad] at hwrite
  exact (congrArg s.done hwrite).trans (State.done_eq_next rfl rfl)

/-- The state in which a write of FLT_CLR has stored its number. -/
def State.clrStored (s : State) (w : Word) : State :=
  { s.setWord FLT_CLR (mix 0xFFFF#32 (s.word FLT_CLR) w &&& ~~~ (0x20000#32 &&& w)) with latch := mdel s.latch FLT_CLR }

theorem State.writeWord_FLT_CLR (s : State) {x : RegAcc} (hwho : x.prin.isIn 3 = true) (w : Word) :
    s.writeWord x FLT_CLR w = (s.clrStored w).onBit (0x30000#32 &&& w) 16 State.fltClrGo := by
  have hacts : fieldMask 16 1 ||| 0x20000#32 = 0x30000#32 := by decide
  have hplain : fieldMask 0 16 = 0xFFFF#32 := by decide
  have hclear : fieldMask 17 1 = 0x20000#32 := by decide
  unfold State.writeWord State.clrStored
  rw [lookupReg_FLT_CLR]
  simp [RegDef.maskOf, fieldFor, fieldWho, hwho, State.wholeWrite, State.writeRefused, State.stagePart, State.writeWord.isPendReg, State.afterWrite,
    State.allowed, hacts, hplain, hclear, mix_mix_right]

theorem State.clrStored_NUMBER (s : State) (w : Word) : (s.clrStored w).fld FLT_CLR_NUMBER = getBits w 0 16 := by
  have hreset : resetWord FLT_CLR = 0 := by
    unfold resetWord
    rw [lookupReg_FLT_CLR]
    rfl
  have hfld : ∀ u : State, u.fld FLT_CLR_NUMBER = getBits (u.word FLT_CLR) 0 16 := fun u => by
    unfold State.word
    rw [hreset]
    rfl
  have hword : (s.clrStored w).word FLT_CLR = mix 0xFFFF#32 (s.word FLT_CLR) w &&& ~~~ (0x20000#32 &&& w) := State.word_setWord_same s _ _
  rw [hfld, hword, getBits_and _ fun i hi => ?_]
  · exact getBits_mix _ w fun i hi => by interval_cases i <;> rfl
  · interval_cases i <;> simp

/-- A write of FLT_CLR with GO stores the number and clears its record. -/
theorem exec_faultClearWrite_clears {k : Nat} (ht : s.takesWrite b FLT_CLR = true) (hwho : (s.busP b).isOF = true)
    (hslot : s.slotOfNumber (getBits w 0 16) = some k) :
    ∃ t, exec (.faultClearWrite b w) s = .next t ∧ t.flt = { s.flt with slots := mdel s.flt.slots k } ∧ t.md = s.md ∧ t.evt = s.evt := by
  have hnumber : (s.clrStored (w ||| 0x10000#32)).fld FLT_CLR_NUMBER = getBits w 0 16 :=
    (s.clrStored_NUMBER _).trans (getBits_or w fun i hi => by interval_cases i <;> rfl)
  have hgo : getBit (0x30000#32 &&& (w ||| 0x10000#32)) 16 = true := by
    rw [getBit_and_of_set rfl, getBit_or_of_set rfl]
  have hslot' : (s.clrStored (w ||| 0x10000#32)).slotOfNumber (getBits w 0 16) = some k := hslot
  have hclears : (s.clrStored (w ||| 0x10000#32)).fltClrGo =
      { s.clrStored (w ||| 0x10000#32) with flt.slots := mdel s.flt.slots k } := by
    unfold State.fltClrGo State.clearRecord
    rw [hnumber, hslot']
    rfl
  have hwrite := (busWrite_takes ht (.faultClearWrite b w) (w ||| 0x10000#32)).trans <|
    (s.writeWord_FLT_CLR hwho _).trans ((if_pos hgo).trans hclears)
  exact ⟨_, (congrArg s.done hwrite).trans (State.done_eq_next rfl rfl), rfl, rfl, rfl⟩

end Accesses

/-- Settles O20: the writes and reads of the event controller's registers act on the sources they name, and FLT_CLR on the record. -/
theorem eventWrites : Obligations.EventWrites :=
  ⟨fun _ _ _ _ => exec_faultClearWrite_clears, fun _ _ _ _ => exec_routeWrite_accepted, fun _ _ _ _ => exec_routeWrite_refused,
    fun _ _ _ _ => exec_eventClaim_claims, fun _ _ _ => exec_eventClaim_nothing, fun _ _ _ _ => exec_eventDone_active,
    fun _ _ _ _ => exec_eventDone_other, fun _ _ _ _ => exec_eventPendingClear_single, fun _ _ _ _ => exec_eventScanSelect_leaves⟩

end Sys2Proof.Machine
end

section
/-! Proofs of the family 11_bandwidth_windows: staged bandwidth settings, and what becomes of staged words (O27). -/
set_option Elab.async false
namespace Sys2Proof.Machine
open Sys2Proof

/-! ### Opcodes that stage a list of words (R257, R261, R400) -/

theorem State.lockTaken_eq (s : State) (rq : Rq) :
    (s.entered rq).lockTaken rq.sess = { s with mbx.sess := (s.entered rq).mbx.sess, mbx.lock := some rq.sess } := by
  rw [State.entered_eq]
  rfl

/-- A served request that stages a list of words, each at an address of its own. -/
theorem done_stages_words {s : State} {rq : Rq} {op : Nat} {p : Principal} (hs : s.serves rq op p = true) (i : Instr) {body : Principal → State → Ans}
    {f : State → Ans} {l : List (Nat × Nat)} (hbody : body p (s.entered rq) = (s.entered rq).staging rq f) (hlock : s.mayStage rq.sess)
    (hf : f ((s.entered rq).lockTaken rq.sess) = (((s.entered rq).lockTaken rq.sess).stageWords l).okNow) (hl : (l.map Prod.fst).Nodup) :
    ∃ t, s.done (xib op rq i s body) = .next t ∧ t.replied rq op .success s.time.frame [] ∧
      (∀ x ∈ l, t.word x.1 = mix (shMaskAt x.1) (s.word x.1) (BitVec.ofNat 32 x.2) ∧ x.1 ∈ t.dirty) ∧
      t = { s with out := t.out, mbx.sess := t.mbx.sess, mbx.lock := some rq.sess, regs := t.regs, dirty := t.dirty } := by
  rw [State.lockTaken_eq] at hf
  have hframe := State.stageWords_frame { s with mbx.sess := (s.entered rq).mbx.sess, mbx.lock := some rq.sess } l
  have hat := fun x (hx : x ∈ l) => State.stageWords_at { s with mbx.sess := (s.entered rq).mbx.sess, mbx.lock := some rq.sess } hl hx
  obtain ⟨t, hexec, hreplied, ht⟩ := done_stages hs i hbody hlock (by rw [State.lockTaken_eq]; exact hf) (by rw [hframe]) (by rw [hframe])
  refine ⟨t, hexec, hreplied, fun x hx => ?_, ?_⟩
  · rw [ht]
    exact hat x hx
  · rw [ht, hframe]

/-- The words of a port's quanta, by their addresses. -/
def quantaWords (port : Nat) (l : List Nat) : List (Nat × Nat) :=
  (List.range 4).map fun k => (PRT_DRR_Q port k, l.getD (2 * k) 0 % 2 ^ 16 + l.getD (2 * k + 1) 0 % 2 ^ 16 * 2 ^ 16)

/-- The words of a unit's selects, by their addresses. -/
def selectWords (u : Nat) (l : List Nat) : List (Nat × Nat) := (List.range 8).map fun k => (CNT_SEL u k, l.getD k 0)

/-- The words of a tenant's shaper, by their addresses. -/
def shaperWords (tenant rate burst en : Nat) : List (Nat × Nat) := [(SHP_RATE tenant, rate + en * 2 ^ 31), (SHP_BURST tenant, burst)]

section StagingOpcodes

variable {s : State} {rq : Rq} {p : Principal} {n : Nat}

theorem exec_quanta_stages {port : Nat} {l : List Nat} (hs : s.serves rq 0x0700 p = true) (hlock : s.mayStage rq.sess) (hport : s.portOk port = true)
    (hlen : l.length = 8) :
    ∃ t, exec (.quanta rq port l) s = .next t ∧ t.replied rq 0x0700 .success s.time.frame [] ∧
      (∀ k, k < 4 → t.word (PRT_DRR_Q port k) = mix (shMaskAt (PRT_DRR_Q port k)) (s.word (PRT_DRR_Q port k))
        (halves (l.getD (2 * k) 0) (l.getD (2 * k + 1) 0)) ∧ PRT_DRR_Q port k ∈ t.dirty) ∧
      t = { s with out := t.out, mbx.sess := t.mbx.sess, mbx.lock := some rq.sess, regs := t.regs, dirty := t.dirty } := by
  have hdone : ∃ t, exec (.quanta rq port l) s = .next t ∧ t.replied rq 0x0700 .success s.time.frame [] ∧
      (∀ x ∈ quantaWords port l, t.word x.1 = mix (shMaskAt x.1) (s.word x.1) (BitVec.ofNat 32 x.2) ∧ x.1 ∈ t.dirty) ∧
      t = { s with out := t.out, mbx.sess := t.mbx.sess, mbx.lock := some rq.sess, regs := t.regs, dirty := t.dirty } := by
    refine done_stages_words hs _ rfl hlock ?_ ?_
    · have hport' : ((s.entered rq).lockTaken rq.sess).portOk port = true := by
        rw [State.lockTaken_eq]
        exact hport
      simp only [hport', hlen, Bool.not_true, Bool.false_eq_true, ne_eq, not_true_eq_false, or_self, if_false]
      unfold State.stageWords quantaWords
      rw [List.foldl_map]
      rfl
    · unfold quantaWords
      simp [List.range_succ, PRT_DRR_Q]
  obtain ⟨t, hexec, hreplied, hwords, hframe⟩ := hdone
  exact ⟨t, hexec, hreplied, fun k hk => hwords (PRT_DRR_Q port k, _) (List.mem_map.2 ⟨k, List.mem_range.2 hk, rfl⟩), hframe⟩

theorem exec_quanta_busy {port : Nat} {l : List Nat} (hs : s.serves rq 0x0700 p = true) (hlock : s.mbx.lock = some n) (hne : n ≠ rq.sess) :
    ∃ t, exec (.quanta rq port l) s = .next t ∧ s.losesLock t rq 0x0700 := done_staging_busy hs _ rfl hlock hne

theorem exec_shaper_stages {tenant rate burst en : Nat} (hs : s.serves rq 0x0701 p = true) (hlock : s.mayStage rq.sess) (hfirst : 1 ≤ tenant)
    (hlast : tenant ≤ 1023) (hrate : rate < 2 ^ 24) (hburst : burst < 2 ^ 24) (hen : en ≤ 1) :
    ∃ t, exec (.shaper rq tenant rate burst en) s = .next t ∧ t.replied rq 0x0701 .success s.time.frame [] ∧
      t.word (SHP_RATE tenant) = mix (shMaskAt (SHP_RATE tenant)) (s.word (SHP_RATE tenant)) (BitVec.ofNat 32 (rate + en * 2 ^ 31)) ∧
      t.word (SHP_BURST tenant) = mix (shMaskAt (SHP_BURST tenant)) (s.word (SHP_BURST tenant)) (BitVec.ofNat 32 burst) ∧
      SHP_RATE tenant ∈ t.dirty ∧ SHP_BURST tenant ∈ t.dirty ∧
      t = { s with out := t.out, mbx.sess := t.mbx.sess, mbx.lock := some rq.sess, regs := t.regs, dirty := t.dirty } := by
  have hdone : ∃ t, exec (.shaper rq tenant rate burst en) s = .next t ∧ t.replied rq 0x0701 .success s.time.frame [] ∧
      (∀ x ∈ shaperWords tenant rate burst en, t.word x.1 = mix (shMaskAt x.1) (s.word x.1) (BitVec.ofNat 32 x.2) ∧ x.1 ∈ t.dirty) ∧
      t = { s with out := t.out, mbx.sess := t.mbx.sess, mbx.lock := some rq.sess, regs := t.regs, dirty := t.dirty } := by
    refine done_stages_words hs _ rfl hlock (if_neg (by omega)) ?_
    simp [shaperWords, SHP_RATE, SHP_BURST]
  obtain ⟨t, hexec, hreplied, hwords, hframe⟩ := hdone
  obtain ⟨hrateWord, hrateDirty⟩ := hwords (SHP_RATE tenant, _) List.mem_cons_self
  obtain ⟨hburstWord, hburstDirty⟩ := hwords (SHP_BURST tenant, _) (List.mem_cons_of_mem _ List.mem_cons_self)
  exact ⟨t, hexec, hreplied, hrateWord, hburstWord, hrateDirty, hburstDirty, hframe⟩

theorem exec_shaper_busy {tenant rate burst en : Nat} (hs : s.serves rq 0x0701 p = true) (hlock : s.mbx.lock = some n) (hne : n ≠ rq.sess) :
    ∃ t, exec (.shaper rq tenant rate burst en) s = .next t ∧ s.losesLock t rq 0x0701 := done_staging_busy hs _ rfl hlock hne

theorem exec_configureCounterUnit_stages {u : Nat} {l : List Nat} (hs : s.serves rq 0x0B00 p = true) (hlock : s.mayStage rq.sess) (hu : u ≤ 351)
    (hlen : l.length = 8) :
    ∃ t, exec (.configureCounterUnit rq u l) s = .next t ∧ t.replied rq 0x0B00 .success s.time.frame [] ∧
      (∀ k, k < 8 → t.word (CNT_SEL u k) = mix (shMaskAt (CNT_SEL u k)) (s.word (CNT_SEL u k)) (BitVec.ofNat 32 (l.getD k 0)) ∧ CNT_SEL u k ∈ t.dirty) ∧
      t = { s with out := t.out, mbx.sess := t.mbx.sess, mbx.lock := some rq.sess, regs := t.regs, dirty := t.dirty } := by
  have hdone : ∃ t, exec (.configureCounterUnit rq u l) s = .next t ∧ t.replied rq 0x0B00 .success s.time.frame [] ∧
      (∀ x ∈ selectWords u l, t.word x.1 = mix (shMaskAt x.1) (s.word x.1) (BitVec.ofNat 32 x.2) ∧ x.1 ∈ t.dirty) ∧
      t = { s with out := t.out, mbx.sess := t.mbx.sess, mbx.lock := some rq.sess, regs := t.regs, dirty := t.dirty } := by
    refine done_stages_words hs _ rfl hlock ?_ ?_
    · rw [if_neg (by omega)]
      unfold State.stageWords selectWords
      rw [List.foldl_map]
    · unfold selectWords
      simp [List.range_succ, CNT_SEL]
  obtain ⟨t, hexec, hreplied, hwords, hframe⟩ := hdone
  exact ⟨t, hexec, hreplied, fun k hk => hwords (CNT_SEL u k, _) (List.mem_map.2 ⟨k, List.mem_range.2 hk, rfl⟩), hframe⟩

theorem exec_configureCounterUnit_busy {u : Nat} {l : List Nat} (hs : s.serves rq 0x0B00 p = true) (hlock : s.mbx.lock = some n) (hne : n ≠ rq.sess) :
    ∃ t, exec (.configureCounterUnit rq u l) s = .next t ∧ s.losesLock t rq 0x0B00 := done_staging_busy hs _ rfl hlock hne

end StagingOpcodes

/-! ### The words of a commit take effect (R38) -/

theorem mix_mix_left (m x y z : Word) : mix m (mix m x y) z = mix m x z := by
  unfold mix
  refine BitVec.eq_of_getLsbD_eq fun i _ => ?_
  simp only [BitVec.getLsbD_or, BitVec.getLsbD_and, BitVec.getLsbD_not]
  cases m.getLsbD i <;> simp

/-- The state in which a word is in force. -/
def State.forced (s : State) (a : Nat) (w : Word) : State :=
  { s with force := rput s.force a (resetWord a) (mix (shMaskAt a) (s.curWord a) w) }

theorem State.applyWord_eq (s : State) (a : Nat) (w : Word) :
    s.applyWord a w = if a ∈ s.dirty then s.forced a w else (s.forced a w).revertWord a :=
  if_congr List.contains_iff_mem rfl rfl

theorem State.forced_curWord (s : State) (a b : Nat) (w : Word) :
    (s.forced a w).curWord b = if a = b then mix (shMaskAt b) (s.curWord b) w else s.curWord b := by
  by_cases h : a = b
  · subst h
    rw [if_pos rfl]
    exact (rget_rput _ _ _ _ _).trans (if_pos rfl)
  · rw [if_neg h]
    exact rget_rput_ne _ _ _ _ h

theorem State.applyWord_dirty (s : State) (a : Nat) (w : Word) : (s.applyWord a w).dirty = s.dirty := by
  rw [State.applyWord_eq]
  split_ifs <;> rfl

theorem State.applyWord_curWord (s : State) (a b : Nat) (w : Word) :
    (s.applyWord a w).curWord b = if a = b then mix (shMaskAt b) (s.curWord b) w else s.curWord b := by
  rw [State.applyWord_eq, ← s.forced_curWord a b w]
  split_ifs <;> rfl

/-- A word that takes effect shows in what a read returns where nothing newer is staged. -/
theorem State.applyWord_word_same {s : State} {a : Nat} (w : Word) (h : a ∉ s.dirty) :
    (s.applyWord a w).word a = mix (shMaskAt a) (s.word a) ((s.applyWord a w).curWord a) := by
  rw [State.applyWord_eq, if_neg h]
  exact State.word_setWord_same _ _ _

theorem State.applyWord_word_other {s : State} {a b : Nat} (w : Word) (h : a ≠ b ∨ b ∈ s.dirty) : (s.applyWord a w).word b = s.word b := by
  rw [State.applyWord_eq]
  split_ifs with ha
  · rfl
  · have hne : a ≠ b := fun heq => h.elim (· heq) (heq ▸ ha)
    exact rget_rput_ne _ _ _ _ hne

/-- The words of a commit take effect, in their order. -/
def State.applyWords (s : State) (l : List (Nat × Word)) : State := l.foldl (fun s e => s.applyWord e.1 e.2) s

theorem State.applyWords_dirty (s : State) (l : List (Nat × Word)) : (s.applyWords l).dirty = s.dirty := by
  induction l generalizing s with
  | nil => rfl
  | cons e l ih => exact (ih _).trans (s.applyWord_dirty _ _)

theorem State.applyWords_append (s : State) (l : List (Nat × Word)) (e : Nat × Word) :
    s.applyWords (l ++ [e]) = (s.applyWords l).applyWord e.1 e.2 := by
  unfold State.applyWords
  rw [List.foldl_append]
  rfl

/-- The last word of a list for an address. -/
def lastWord (l : List (Nat × Word)) (a : Nat) : Option (Nat × Word) := (l.filter (fun e => e.1 == a)).getLast?

/-- A word in force has the staged bits of the last word for its address, and its own elsewhere. -/
theorem State.applyWords_curWord (s : State) (l : List (Nat × Word)) (a : Nat) :
    (s.applyWords l).curWord a = (lastWord l a).elim (s.curWord a) (fun e => mix (shMaskAt a) (s.curWord a) e.2) := by
  induction l using List.reverseRecOn with
  | nil => rfl
  | append_singleton l e ih =>
    rw [State.applyWords_append, State.applyWord_curWord, ih]
    unfold lastWord
    rw [List.filter_append]
    by_cases ha : e.1 = a
    · have hkept : [e].filter (fun e => e.1 == a) = [e] := by simp [ha]
      rw [if_pos ha, hkept, List.getLast?_concat]
      cases ((l.filter (fun e => e.1 == a)).getLast?) with
      | none => rfl
      | some x => exact mix_mix_left _ _ _ _
    · have hgone : [e].filter (fun e => e.1 == a) = [] := by simp [ha]
      rw [if_neg ha, hgone, List.append_nil]

theorem State.applyWords_word_other (s : State) {l : List (Nat × Word)} {a : Nat} (h : a ∉ l.map Prod.fst ∨ a ∈ s.dirty) :
    (s.applyWords l).word a = s.word a := by
  induction l generalizing s with
  | nil => rfl
  | cons e l ih =>
    have hhead : e.1 ≠ a ∨ a ∈ s.dirty := h.imp_left fun hmem heq => hmem (heq ▸ List.mem_cons_self)
    have hrest : a ∉ l.map Prod.fst ∨ a ∈ (s.applyWord e.1 e.2).dirty := by
      rw [State.applyWord_dirty]
      exact h.imp_left fun hmem hl => hmem (List.mem_cons_of_mem _ hl)
    exact (ih _ hrest).trans (State.applyWord_word_other _ hhead)

/-- Where nothing newer is staged, a read returns the staged bits in force. -/
theorem State.applyWords_word_same (s : State) {l : List (Nat × Word)} {a : Nat} (hmem : a ∈ l.map Prod.fst) (hclean : a ∉ s.dirty) :
    (s.applyWords l).word a = mix (shMaskAt a) (s.word a) ((s.applyWords l).curWord a) := by
  induction l using List.reverseRecOn with
  | nil => exact absurd hmem List.not_mem_nil
  | append_singleton l e ih =>
    have hclean' : a ∉ (s.applyWords l).dirty := by rwa [State.applyWords_dirty]
    rw [State.applyWords_append]
    by_cases ha : e.1 = a
    · subst ha
      rw [State.applyWord_word_same _ hclean']
      by_cases hl : e.1 ∈ l.map Prod.fst
      · rw [ih hl, mix_mix_left]
      · rw [State.applyWords_word_other s (.inl hl)]
    · have hl : a ∈ l.map Prod.fst := by
        rw [List.map_append, List.mem_append] at hmem
        exact hmem.resolve_right fun hsame => ha (List.mem_singleton.1 hsame).symm
      rw [State.applyWord_word_other _ (.inl ha), State.applyWord_curWord, if_neg ha, ih hl]

/-- Settles O27: the opcodes stage the words they name, a commit's words take effect in order, and a discard returns to what is in force. -/
theorem stagedQuanta : Obligations.StagedQuanta := by
  refine ⟨fun _ _ _ _ _ => exec_quanta_stages, fun _ _ _ _ _ _ => exec_quanta_busy, fun _ _ _ _ _ _ _ => exec_shaper_stages,
    fun _ _ _ _ _ _ _ _ => exec_shaper_busy, fun _ _ _ _ _ => exec_configureCounterUnit_stages, fun _ _ _ _ _ _ => exec_configureCounterUnit_busy,
    fun l s a => ?inForce, fun _ s _ => s.applyWords_word_same, fun _ s _ => s.applyWords_word_other, fun _ _ _ _ => rfl, fun s a ha => ⟨?reverted, ?gone⟩⟩
  case inForce =>
    refine (s.applyWords_curWord l a).trans ?_
    unfold lastWord
    cases (l.filter (fun e => e.1 == a)).getLast? <;> rfl
  case reverted => exact (s.revertStaged_word a).trans (if_pos ha)
  case gone =>
    rw [State.revertStaged_staged]
    exact List.not_mem_nil

end Sys2Proof.Machine
end

section
/-! Proofs of the family 11_bandwidth_windows: the egress scheduler, tenant shapers and gate lists (O35). -/
set_option Elab.async false
namespace Sys2Proof.Machine
open Sys2Proof

/-! ### A message leaves a port (R118, R119) -/

/-- A sent message leaves its queue; a TLP whose tail has not arrived stays open. -/
theorem State.egressSend_queues (s : State) (p tc : Nat) (m : Msg) :
    (s.egressSend p tc m).out = .sent p m :: s.out ∧ (s.egressSend p tc m).xbr.deficit = s.xbr.deficit ∧
      (s.egressSend p tc m).xbr.turn = s.xbr.turn ∧
      (s.egressSend p tc m).xbr.egress = mputD s.xbr.egress (egKey p tc m.kind.cls) [] ((mgetD s.xbr.egress (egKey p tc m.kind.cls) []).drop 1) ∧
      (s.egressSend p tc m).xbr.voq = s.xbr.voq ∧ (s.egressSend p tc m).xbr.paused = s.xbr.paused := by
  unfold State.egressSend
  dsimp only
  split_ifs <;> exact ⟨rfl, rfl, rfl, rfl, rfl, rfl⟩

theorem State.egressSend_inflight (s : State) (p tc : Nat) {m : Msg} (h : m.whole = false) : mget (s.egressSend p tc m).xbr.inflight p = some m := by
  have hput : (s.egressSend p tc m).xbr.inflight = mput s.xbr.inflight p m := by
    unfold State.egressSend
    simp only [h, Bool.false_eq_true, if_false]
    split_ifs <;> rfl
  rw [hput, mget_mput_same]

theorem State.egressSend_regs (s : State) (p tc : Nat) (m : Msg) :
    (s.egressSend p tc m).regs = if m.poison then (s.inc (XBR_PSTAT_POISON_CNT p)).regs else s.regs := by
  unfold State.egressSend
  dsimp only
  split_ifs <;> rfl

theorem State.egressSend_clock (s : State) (p tc : Nat) (m : Msg) :
    (s.egressSend p tc m).time = s.time ∧ (s.egressSend p tc m).pending = s.pending := by
  unfold State.egressSend State.tallyMsg State.tallyIf
  dsimp only
  split_ifs <;> exact ⟨rfl, rfl⟩

/-! ### The scheduler of a port (R254, R255) -/

section Schedule

variable {s : State} {p cr c u : Nat} {m : Msg} {d : NMap Nat}

/-- The state in which deficit round robin has chosen. -/
def State.drrDone (s : State) (p : Nat) (d : NMap Nat) (u : Nat) : State := { s with xbr.deficit := d, xbr.turn := mputD s.xbr.turn p 0 u }

theorem exec_egressSchedule_port (hrole : s.role p ≠ 3) : exec (.egressSchedule p cr) s = s.done (s.schedule p cr) :=
  congrArg s.done (if_neg hrole)

theorem State.schedule_sends (hp : p < 128) (hup : s.linkUp p = true) (hidle : mget s.xbr.inflight p = none) (helig : s.anyEligible p cr = true)
    (hdrr : s.drr p cr s.xbr.deficit (mgetD s.xbr.turn p 0) 4800 = (some (m, c), d, u)) :
    s.schedule p cr = ((s.drrDone p d u).l1Leave p).egressSend p c m := by
  have hopen : ¬ (128 ≤ p ∨ (! s.linkUp p) = true ∨ (mget s.xbr.inflight p).isSome = true ∨ (! s.anyEligible p cr) = true) := by
    simp [hup, hidle, helig, hp]
  unfold State.schedule
  simp only [hdrr]
  exact if_neg hopen

theorem State.schedule_waits (h : s.linkUp p = false ∨ (mget s.xbr.inflight p).isSome = true ∨ s.anyEligible p cr = false) : s.schedule p cr = s := by
  refine if_pos (.inr ?_)
  simpa using h

theorem exec_egressSchedule_sends (hrole : s.role p ≠ 3) (hp : p < 128) (hup : s.linkUp p = true) (hidle : mget s.xbr.inflight p = none)
    (hawake : s.fld (PRT_PM_STAT_STATE p) ≠ 2) (helig : s.anyEligible p cr = true)
    (hdrr : s.drr p cr s.xbr.deficit (mgetD s.xbr.turn p 0) 4800 = (some (m, c), d, u)) :
    ∃ t, exec (.egressSchedule p cr) s = .next t ∧ t.out = .sent p m :: s.out ∧ t.xbr.deficit = d ∧ mgetD t.xbr.turn p 0 = u ∧
      mgetD t.xbr.egress (egKey p c m.kind.cls) [] = (mgetD s.xbr.egress (egKey p c m.kind.cls) []).drop 1 ∧ t.xbr.voq = s.xbr.voq ∧
      (m.whole = false → mget t.xbr.inflight p = some m) ∧
      (m.poison = true → t.fld (XBR_PSTAT_POISON_CNT p) = min (s.fld (XBR_PSTAT_POISON_CNT p) + 1) (2 ^ (XBR_PSTAT_POISON_CNT p).width - 1)) ∧
      (m.poison = false → t.regs = s.regs) := by
  have hleave : (s.drrDone p d u).l1Leave p = s.drrDone p d u := if_pos (.inr hawake)
  have hsched := State.schedule_sends hp hup hidle helig hdrr
  rw [hleave] at hsched
  obtain ⟨hout, hdeficit, hturn, hegress, hvoq, -⟩ := (s.drrDone p d u).egressSend_queues p c m
  obtain ⟨htime, hpending⟩ := (s.drrDone p d u).egressSend_clock p c m
  have hregs := (s.drrDone p d u).egressSend_regs p c m
  refine ⟨_, (exec_egressSchedule_port hrole).trans ((congrArg s.done hsched).trans (State.done_eq_next htime hpending)), hout, hdeficit, ?_, ?_, hvoq,
    fun hpart => State.egressSend_inflight _ p c hpart, fun hpoison => ?_, fun hclean => ?_⟩
  · exact (congrArg (fun l => mgetD l p 0) hturn).trans (mgetD_mputD_same _ _ _ _)
  · exact (congrArg (fun l => mgetD l (egKey p c m.kind.cls) []) hegress).trans (mgetD_mputD_same _ _ _ _)
  · rw [hpoison, if_pos rfl] at hregs
    exact (State.fld_congr hregs _).trans (State.fld_inc_same s (XBR_PSTAT_POISON_CNT p) (show 16 + 16 ≤ 32 by decide))
  · rw [hclean, if_neg Bool.false_ne_true] at hregs
    exact hregs

theorem exec_egressSchedule_wakes (hrole : s.role p ≠ 3) (hp : p < 128) (hup : s.linkUp p = true) (hidle : mget s.xbr.inflight p = none)
    (hasleep : s.fld (PRT_PM_STAT_STATE p) = 2) (helig : s.anyEligible p cr = true)
    (hdrr : s.drr p cr s.xbr.deficit (mgetD s.xbr.turn p 0) 4800 = (some (m, c), d, u)) :
    ∃ t, exec (.egressSchedule p cr) s = .next t ∧ t.out = .sent p m :: s.out ∧ t.fld (PRT_PM_STAT_STATE p) = s.upState p ∧ p ∈ t.xbr.paused := by
  have hleave : (s.drrDone p d u).l1Leave p = ((s.drrDone p d u).l1Left p).wake none := if_neg (not_or.2 ⟨Nat.not_le.2 hp, not_not.2 hasleep⟩)
  have hsched := State.schedule_sends hp hup hidle helig hdrr
  rw [hleave] at hsched
  obtain ⟨hout, -, -, -, -, hpaused⟩ := (((s.drrDone p d u).l1Left p).wake none).egressSend_queues p c m
  obtain ⟨htime, hpending⟩ := (((s.drrDone p d u).l1Left p).wake none).egressSend_clock p c m
  have hregs := (((s.drrDone p d u).l1Left p).wake none).egressSend_regs p c m
  have hup' := (s.drrDone p d u).l1Left_pmState p
  have hnext := State.done_eq_next (s := s) (htime.trans (State.wake_time ((s.drrDone p d u).l1Left p) none))
    (hpending.trans (State.wake_pending ((s.drrDone p d u).l1Left p) none))
  refine ⟨_, (exec_egressSchedule_port hrole).trans ((congrArg s.done hsched).trans hnext), ?_, ?_, ?_⟩
  · exact hout.trans (congrArg (Out.sent p m :: ·) (State.wake_out ((s.drrDone p d u).l1Left p) none))
  · split_ifs at hregs
    · refine (State.fld_congr hregs _).trans ((State.fld_inc_addr _ _ _ ?_).trans hup')
      simp only [XBR_PSTAT_POISON_CNT, XBR_PSTAT, PRT_PM_STAT_STATE, PRT_PM_STAT]
      omega
    · exact (State.fld_congr hregs _).trans hup'
  · rw [hpaused, State.wake_xbr]
    exact mem_sadd_self _ p

theorem exec_egressSchedule_waits (hrole : s.role p ≠ 3) (h : s.linkUp p = false ∨ (mget s.xbr.inflight p).isSome = true ∨ s.anyEligible p cr = false) :
    exec (.egressSchedule p cr) s = .next s :=
  (exec_egressSchedule_port hrole).trans ((congrArg s.done (State.schedule_waits h)).trans (State.done_eq_next rfl rfl))

end Schedule

/-! ### The scheduler of an inter-switch link (R105, R428) -/

section ScheduleIsl

variable {s : State} {p i cr c u k : Nat} {m : Msg} {d : NMap Nat}

/-- The classes an inter-switch link may send: those with credits that the partner has not turned off. -/
def State.islCredits (s : State) (i cr : Nat) : Nat :=
  [0, 1, 2, 3].foldl (fun n c => n + (if cr / 2 ^ c % 2 = 1 ∧ s.fld (ISL_FC_STAT_TX_OFF i) / 2 ^ c % 2 = 0 then 2 ^ c else 0)) 0

/-- The state in which the scheduler of an inter-switch link has taken a message out of its queue. -/
def State.islTaken (s : State) (p c u : Nat) (m : Msg) (d : NMap Nat) : State :=
  { s.drrDone p d u with
    xbr.egress := mputD s.xbr.egress (egKey p c m.kind.cls) [] ((mgetD s.xbr.egress (egKey p c m.kind.cls) []).drop 1),
    xbr.moved := sadd s.xbr.moved p }

/-- The message taken is counted. -/
def State.islCounted (s : State) (p c : Nat) (m : Msg) : State :=
  ((if m.poison then s.inc (XBR_PSTAT_POISON_CNT p) else s).tallyMsg (128 + p) 0x020 1 m.kind.cls c).tallyMsg (128 + p) 0x021 (msgSlots m) m.kind.cls c

theorem State.islCounted_keeps (s : State) (p c : Nat) (m : Msg) : (s.islCounted p c m).xbr = s.xbr ∧ (s.islCounted p c m).out = s.out ∧
    (s.islCounted p c m).time = s.time ∧ (s.islCounted p c m).pending = s.pending := by
  unfold State.islCounted
  split_ifs <;> exact ⟨rfl, rfl, rfl, rfl⟩

theorem State.scheduleIsl_takes
    (hopen : (s.islSt i = 4 ∧ s.carries i = true) ∨ ((s.islSt i = 3 ∨ s.islSt i = 4) ∧ m.kind = .mgmt)) (hsilent : (s.islAt i).silent = false)
    (hroom : (s.islAt i).tx.foldl (fun n e => n + e.2) 0 < s.islSlots i) (helig : s.anyEligible p (s.islCredits i cr) = true)
    (hdrr : s.drr p (s.islCredits i cr) s.xbr.deficit (mgetD s.xbr.turn p 0) 4800 = (some (m, c), d, u)) :
    s.scheduleIsl p i cr = ((s.islTaken p c u m d).islCounted p c m).setIsl i
      { ((s.islTaken p c u m d).islCounted p c m).islAt i with tx := (s.islAt i).tx ++ [(m, msgSlots m)] } := by
  have hstart : ¬ ((s.islSt i ≠ 3 ∧ s.islSt i ≠ 4) ∨ s.islSlots i ≤ (s.islAt i).tx.foldl (fun n e => n + e.2) 0 ∨
      (! s.anyEligible p (s.islCredits i cr)) = true) := by
    have hstate : ¬ (s.islSt i ≠ 3 ∧ s.islSt i ≠ 4) := by rcases hopen with ⟨h, -⟩ | ⟨h, -⟩ <;> omega
    simp [helig, Nat.not_le.2 hroom]
    omega
  have hcarried : ¬ (m.kind ≠ .mgmt ∧ (s.islSt i = 3 ∨ (! s.carries i) = true)) := by
    rcases hopen with ⟨hst, hcarries⟩ | ⟨-, hkind⟩
    · simp [hst, hcarries]
    · simp [hkind]
  unfold State.islCredits at hstart hdrr
  unfold State.scheduleIsl
  simp only [hsilent, Bool.false_eq_true, if_false, hdrr]
  exact (if_neg hstart).trans (if_neg hcarried)

theorem exec_egressSchedule_isl (hrole : s.role p = 3) (hisl : s.islOf p = some i)
    (hopen : (s.islSt i = 4 ∧ s.carries i = true) ∨ ((s.islSt i = 3 ∨ s.islSt i = 4) ∧ m.kind = .mgmt)) (hsilent : (s.islAt i).silent = false)
    (hroom : (s.islAt i).tx.foldl (fun n e => n + e.2) 0 < s.islSlots i) (hk : k = s.islCredits i cr) (helig : s.anyEligible p k = true)
    (hdrr : s.drr p k s.xbr.deficit (mgetD s.xbr.turn p 0) 4800 = (some (m, c), d, u)) :
    ∃ t, exec (.egressSchedule p cr) s = .next t ∧ (t.islAt i).tx = (s.islAt i).tx ++ [(m, msgSlots m)] ∧ t.xbr.deficit = d ∧
      mgetD t.xbr.egress (egKey p c m.kind.cls) [] = (mgetD s.xbr.egress (egKey p c m.kind.cls) []).drop 1 ∧ t.out = s.out ∧ t.xbr.voq = s.xbr.voq := by
  subst hk
  have hexec : exec (.egressSchedule p cr) s = s.done (s.scheduleIsl p i cr) := by
    refine (congrArg s.done (if_pos hrole)).trans ?_
    rw [hisl]
  obtain ⟨hxbr, hout, htime, hpending⟩ := (s.islTaken p c u m d).islCounted_keeps p c m
  refine ⟨_, hexec.trans ((congrArg s.done (State.scheduleIsl_takes hopen hsilent hroom helig hdrr)).trans (State.done_eq_next htime hpending)), ?_,
    ?_, ?_, hout, ?_⟩
  · exact congrArg Isl.tx (mgetD_mputD_same _ _ _ _)
  · exact congrArg XbrSt.deficit hxbr
  · exact (congrArg (fun x : XbrSt => mgetD x.egress (egKey p c m.kind.cls) []) hxbr).trans (mgetD_mputD_same _ _ _ _)
  · have hvoq : ((s.islTaken p c u m d).islCounted p c m).xbr.voq = s.xbr.voq := by
      rw [hxbr]
      rfl
    exact hvoq

end ScheduleIsl

/-! ### Shapers (R258 to R260) -/

section Shapers

variable {s : State} {src dst k b : Nat} {m : Msg} {l : List Msg}

theorem State.refill_tokens_same (s : State) (k : Nat) : mgetD (s.refill k).xbr.tokens k 0 =
    min (mgetD s.xbr.tokens k 0 + (s.cur (SHP_RATE_RATE k) : Int)) ((s.cur (SHP_BURST_BURST k) * 16 : Nat) : Int) := mgetD_mputD_same _ _ _ _

theorem State.refill_tokens_ne (s : State) {j k : Nat} (h : j ≠ k) : mgetD (s.refill j).xbr.tokens k 0 = mgetD s.xbr.tokens k 0 :=
  mgetD_mputD_ne _ _ _ h

theorem State.foldl_refill_frame (l : List Nat) (s : State) : l.foldl State.refill s = { s with xbr.tokens := (l.foldl State.refill s).xbr.tokens } := by
  induction l generalizing s with
  | nil => rfl
  | cons j l ih => exact ih (s.refill j)

theorem State.foldl_refill_other {l : List Nat} {k : Nat} (s : State) (h : k ∉ l) :
    mgetD (l.foldl State.refill s).xbr.tokens k 0 = mgetD s.xbr.tokens k 0 := by
  induction l generalizing s with
  | nil => rfl
  | cons j l ih =>
    obtain ⟨hne, hrest⟩ := not_or.1 (mt List.mem_cons.2 h)
    exact (ih _ hrest).trans (s.refill_tokens_ne (Ne.symm hne))

theorem State.foldl_refill_same {l : List Nat} (hl : l.Nodup) {k : Nat} (s : State) (h : k ∈ l) : mgetD (l.foldl State.refill s).xbr.tokens k 0 =
    min (mgetD s.xbr.tokens k 0 + (s.cur (SHP_RATE_RATE k) : Int)) ((s.cur (SHP_BURST_BURST k) * 16 : Nat) : Int) := by
  induction l generalizing s with
  | nil => exact absurd h List.not_mem_nil
  | cons j l ih =>
    obtain ⟨hj, hrest⟩ := List.nodup_cons.1 hl
    rcases List.mem_cons.1 h with rfl | hmem
    · exact (State.foldl_refill_other _ hj).trans (s.refill_tokens_same k)
    · have hne : j ≠ k := fun heq => hj (heq ▸ hmem)
      have hrefilled := ih hrest (s.refill j) hmem
      rw [s.refill_tokens_ne hne] at hrefilled
      exact hrefilled

theorem exec_shaperTokenRefill (hl : s.shapersOn.Nodup) :
    ∃ t, exec .shaperTokenRefill s = .next t ∧
      (∀ k, k ∈ s.shapersOn → mgetD t.xbr.tokens k 0 =
        min (mgetD s.xbr.tokens k 0 + (s.cur (SHP_RATE_RATE k) : Int)) ((s.cur (SHP_BURST_BURST k) * 16 : Nat) : Int)) ∧
      (∀ k, k ∉ s.shapersOn → mgetD t.xbr.tokens k 0 = mgetD s.xbr.tokens k 0) ∧ t = { s with xbr.tokens := t.xbr.tokens } := by
  have hframe := State.foldl_refill_frame s.shapersOn s
  exact ⟨_, State.done_eq_next (by rw [hframe]) (by rw [hframe]), fun k hk => State.foldl_refill_same hl s hk,
    fun k hk => State.foldl_refill_other s hk, hframe⟩

theorem exec_shaperAdmit_admits (hq : s.voq src dst 3 = m :: l) (hshaper : s.shaperOf m = some k) (hb : m.bnd = some b) (hnew : m.adm = false)
    (htokens : 0 < s.tokens k) :
    ∃ t, exec (.shaperAdmit src dst) s = .next t ∧ t.voq src dst 3 = { m with adm := true } :: l ∧
      mgetD t.xbr.tokens k 0 = mgetD s.xbr.tokens k 0 - ((s.charge b * 16 : Nat) : Int) ∧ k ∉ t.xbr.held ∧
      t = { s with xbr.voq := t.xbr.voq, xbr.tokens := t.xbr.tokens, xbr.held := t.xbr.held } := by
  have hpass : s.letPass src dst = { s.setVoq (voqKey src dst 3) ({ m with adm := true } :: l) with
      xbr.tokens := mputD s.xbr.tokens k 0 (mgetD s.xbr.tokens k 0 - ((s.charge b * 16 : Nat) : Int)), xbr.held := sdel s.xbr.held k } := by
    unfold State.letPass
    simp only [hq, hshaper, hb, hnew, Bool.false_eq_true, if_false, gt_iff_lt, htokens, if_true]
    rfl
  refine ⟨_, (congrArg s.done hpass).trans (State.done_eq_next rfl rfl), ?_, mgetD_mputD_same _ _ _ _, ?_, rfl⟩
  · exact mgetD_mputD_same s.xbr.voq (voqKey src dst 3) [] ({ m with adm := true } :: l)
  · exact fun h => ((mem_sdel _ _ _).1 h).2 rfl

theorem exec_shaperAdmit_holds (hq : s.voq src dst 3 = m :: l) (hshaper : s.shaperOf m = some k) (hb : m.bnd = some b) (hnew : m.adm = false)
    (htokens : s.tokens k ≤ 0) : exec (.shaperAdmit src dst) s = .next { s with xbr.held := sadd s.xbr.held k } := by
  have hpass : s.letPass src dst = { s with xbr.held := sadd s.xbr.held k } := by
    unfold State.letPass
    simp only [hq, hshaper, hb, hnew, Bool.false_eq_true, if_false, gt_iff_lt, Int.not_lt.2 htokens]
  exact (congrArg s.done hpass).trans (State.done_eq_next rfl rfl)

theorem exec_shaperAdmit_nothing (h : ∀ m, (s.voq src dst 3).head? = some m → s.shaperOf m = none ∨ m.adm = true) :
    exec (.shaperAdmit src dst) s = .next s := by
  have hpass : s.letPass src dst = s := by
    unfold State.letPass
    cases hq : s.voq src dst 3 with
    | nil => rfl
    | cons m l =>
      rw [hq] at h
      dsimp only
      rcases h m rfl with hnone | hadm
      · simp only [hnone]
      · cases hshaper : s.shaperOf m with
        | none => rfl
        | some k =>
          cases hb : m.bnd with
          | none => rfl
          | some b => exact if_pos hadm
  exact (congrArg s.done hpass).trans (State.done_eq_next rfl rfl)

end Shapers

/-! ### Gate lists by opcode (R264) -/

section GateLists

variable {s : State} {rq : Rq} {p : Principal} {port en f : Nat} {l : List Nat} {c : Status}

theorem State.foldl_setWord_eq {α : Type} (a : α → Nat) (v : α → Word) (l : List α) (s : State) :
    l.foldl (fun s k => s.setWord (a k) (v k)) s = { s with regs := l.foldl (fun r k => rput r (a k) (resetWord (a k)) (v k)) s.regs } := by
  induction l generalizing s with
  | nil => rfl
  | cons k l ih => exact ih _

/-- A field is set in the registers alone. -/
theorem State.setFlds_eq (s : State) (m : NMap Session) (r : RegFile) (f lo hi : Fld) (e : Bool) (v : Nat) :
    (State.setBit { s with mbx.sess := m, regs := r } f e).setFld64 lo hi v =
      { s with mbx.sess := m, regs := ((State.setBit { s with regs := r } f e).setFld64 lo hi v).regs } := rfl

/-- The registers in which a staged list, its enable and its frame are set. -/
def State.listRegs (s : State) (port : Nat) (e : Bool) (l : List Nat) (f : Nat) : RegFile :=
  ((State.setBit { s with regs := (List.range 4).foldl (fun r k => rput r (PRT_GL_NEW port k) (resetWord (PRT_GL_NEW port k))
      (halves (l.getD (4 * k) 0 + l.getD (4 * k + 1) 0 * 256) (l.getD (4 * k + 2) 0 + l.getD (4 * k + 3) 0 * 256))) s.regs }
    (PRT_GL_CTL_EN_NEW port) e).setFld64 (PRT_GL_AT_LO_AT port) (PRT_GL_AT_HI_AT port) f).regs

/-- Setting a staged list writes registers alone, whatever sessions are open. -/
theorem State.setStagedList_eq (s : State) (port : Nat) (e : Bool) (l : List Nat) (f : Nat) :
    ∃ r, ∀ m, State.setStagedList { s with mbx.sess := m } port e l f = { s with mbx.sess := m, regs := r } :=
  ⟨s.listRegs port e l f, fun m => (congrArg (fun u : State => (u.setBit (PRT_GL_CTL_EN_NEW port) e).setFld64 (PRT_GL_AT_LO_AT port) (PRT_GL_AT_HI_AT port) f)
    (State.foldl_setWord_eq (PRT_GL_NEW port) _ (List.range 4) { s with mbx.sess := m })).trans (State.setFlds_eq s m _ _ _ _ e f)⟩

/-- What an accepted GATE_LIST leaves once its list is staged, and its handle. -/
def State.listBegun (s : State) (rq : Rq) (p : Principal) (port en f : Nat) (l : List Nat) : Nat × State :=
  let x := s.lcStart 0x0702 (rqRef rq 0x0702) p (routeTargetOf rq.route rq.carrier)
  (x.1, x.2.glSubmit port (en == 1) l f rq.group (some x.1))

theorem gateList_wellFormed (hport : s.portOk port = true) (hlen : l.length = 16) (hbytes : ∀ b ∈ l, b ≤ 255) (hen : en ≤ 1) :
    ¬ ((! s.portOk port) = true ∨ l.length ≠ 16 ∨ l.any (fun b => decide (255 < b)) = true ∨ 1 < en) := by
  have hany : l.any (fun b => decide (255 < b)) = false := by simpa using hbytes
  simp only [hport, hlen, hany]
  simp [Nat.not_lt.2 hen]

theorem exec_gateList_begins (hs : s.serves rq 0x0702 p = true) (hport : s.portOk port = true) (hlen : l.length = 16) (hbytes : ∀ b ∈ l, b ≤ 255)
    (hen : en ≤ 1) (hok : s.glRefusal port (en == 1) l f rq.group = none) (hslot : s.lcSlots ≠ []) :
    ∃ t h, exec (.gateList rq port l en f) s = .next t ∧ t.replied rq 0x0702 .inProgress f [(2, h)] ∧
      t = { s with
        out := t.out, mbx := t.mbx, fresh := t.fresh, regs := t.regs,
        due := s.due ++ [Due.mk f true rq.group false (some h) none (.gateList port (en == 1) l)] } := by
  obtain ⟨r, hstaged⟩ := s.setStagedList_eq port (en == 1) l f
  have hdone : ∃ t, exec (.gateList rq port l en f) s = .next t ∧ t.replied rq 0x0702 .inProgress f [(2, (State.listBegun { s with regs := r } rq p port en f l).1)] ∧
      t = { (State.listBegun { s with regs := r } rq p port en f l).2 with out := t.out, mbx.sess := t.mbx.sess } := by
    refine done_answers hs _ _ (fun n => (if_neg (gateList_wellFormed hport hlen hbytes hen)).trans ?_) rfl rfl
    have hok' : State.glRefusal { s with mbx.sess := n } port (en == 1) l f rq.group = none := hok
    simp only [hok']
    exact (if_neg hslot).trans (congrArg (fun u : State => (u.listBegun rq p port en f l).2.long f (u.listBegun rq p port en f l).1) (hstaged n))
  obtain ⟨t, hexec, hreplied, ht⟩ := hdone
  refine ⟨t, _, hexec, hreplied, ?_⟩
  rw [ht]
  rfl

theorem exec_gateList_refused (hs : s.serves rq 0x0702 p = true) (hport : s.portOk port = true) (hlen : l.length = 16) (hbytes : ∀ b ∈ l, b ≤ 255)
    (hen : en ≤ 1) (hbad : s.glRefusal port (en == 1) l f rq.group = some c) :
    ∃ t, exec (.gateList rq port l en f) s = .next t ∧ s.turnsAway t rq 0x0702 c := by
  refine done_turned hs _ _ fun n => (if_neg (gateList_wellFormed hport hlen hbytes hen)).trans ?_
  have hbad' : State.glRefusal { s with mbx.sess := n } port (en == 1) l f rq.group = some c := hbad
  simp only [hbad']
  rfl

theorem exec_getQos_reads (hs : s.serves rq 0x0703 p = true) (hport : s.portOk port = true) :
    ∃ t, exec (.getQos rq port) s = .next t ∧ t.replied rq 0x0703 .success s.time.frame
        ((List.range 8).map (fun c => (2, s.quantum port c / 16)) ++ (s.slotsInForce port).map (fun b => (1, b)) ++
          [(1, if (mget s.xbr.lists port).isSome then 1 else 0)]) ∧
      t = { s with out := t.out, mbx.sess := t.mbx.sess } :=
  done_turned hs _ _ fun _ => if_neg fun h => Bool.noConfusion ((congrArg (! ·) hport).symm.trans h)

theorem exec_getQos_refused (hs : s.serves rq 0x0703 p = true) (hport : s.portOk port = false) :
    ∃ t, exec (.getQos rq port) s = .next t ∧ s.turnsAway t rq 0x0703 .parameter :=
  done_turned hs _ _ fun _ => if_pos (congrArg (! ·) hport)

end GateLists

/-! ### Gate lists by register (R264) -/

theorem resetWord_of_lookup {a : Nat} {d : RegDef} {ix : List Nat} (h : lookupReg a = some (d, ix)) : resetWord a = d.reset ix := by
  unfold resetWord
  rw [h]

theorem State.withBits_of_lookup {s : State} {a : Nat} {d : RegDef} {ix : List Nat} (h : lookupReg a = some (d, ix)) (bits : Word) :
    s.withBits a bits = (s.word a &&& d.maskOf (fun f => f.acc == .rw)) ||| bits := by
  unfold State.withBits
  rw [h]

section GateListWrites

variable {s : State} {b : Bus} {p : Nat} {w : Word}

/-- The state in which a write of PRT_GL_CTL has stored its bits. -/
def State.glStored (s : State) (p : Nat) (w : Word) : State :=
  { s.setWord (PRT_GL_CTL p) (mix 1#32 (s.word (PRT_GL_CTL p)) w &&& ~~~ (32#32 &&& w)) with latch := mdel s.latch (PRT_GL_CTL p) }

/-- A write at the address `a` of PRT_GL_CTL stores its bits and acts on those that are set. -/
theorem State.writeWord_of_glCtl (s : State) {x : RegAcc} {a : Nat} (hlookup : lookupReg a = some (
    ⟨.PRT_GL_CTL, 0x1000258, [(128, 0x10000)], 0,
      [⟨0, 1, .rw, false, false, false, 3⟩, ⟨1, 1, .w1s, false, false, false, 3⟩, ⟨2, 1, .w1s, false, false, false, 3⟩, ⟨3, 1, .ro, false, false, false, 35⟩,
        ⟨4, 1, .ro, false, false, false, 35⟩, ⟨5, 1, .w1c, false, false, false, 3⟩, ⟨16, 16, .ro, false, false, true, 35⟩],
      0x0, [], 0⟩, [p])) (hwho : x.prin.isIn 3 = true) (w : Word) :
    s.writeWord x a w =
      (({ s.setWord a (mix 1#32 (s.word a) w &&& ~~~ (32#32 &&& w)) with latch := mdel s.latch a } : State).onBit (38#32 &&& w) 2 (fun s => s.glCancel p)).onBit
        (38#32 &&& w) 1 (fun s => s.glArm p) := by
  unfold State.writeWord
  rw [hlookup]
  simp [RegDef.maskOf, fieldFor, fieldWho, hwho, State.wholeWrite, State.writeRefused, State.stagePart, State.writeWord.isPendReg, State.afterWrite,
    State.allowed, fieldMask, mix_mix_right]

theorem State.writeWord_PRT_GL_CTL (s : State) {x : RegAcc} (hwho : x.prin.isIn 3 = true) (hp : p < 128) (w : Word) :
    s.writeWord x (PRT_GL_CTL p) w =
      ((s.glStored p w).onBit (38#32 &&& w) 2 (fun s => s.glCancel p)).onBit (38#32 &&& w) 1 (fun s => s.glArm p) :=
  s.writeWord_of_glCtl (lookupReg_PRT_GL_CTL p hp) hwho w

theorem State.glStored_other (s : State) (p : Nat) (w : Word) {a : Nat} (ha : a ≠ PRT_GL_CTL p) (r : Nat) :
    rget (s.glStored p w).regs a r = rget s.regs a r := rget_rput_ne _ _ _ _ ha.symm

theorem State.glStored_EN_NEW (s : State) (hp : p < 128) (w : Word) : (s.glStored p w).bit (PRT_GL_CTL_EN_NEW p) = getBit w 0 := by
  have hreset : resetWord (PRT_GL_CTL p) = 0 := resetWord_of_lookup (lookupReg_PRT_GL_CTL p hp)
  have hfld : ∀ u : State, u.fld (PRT_GL_CTL_EN_NEW p) = getBits (u.word (PRT_GL_CTL p)) 0 1 := fun u => by
    unfold State.word
    rw [hreset]
    rfl
  have hword : (s.glStored p w).word (PRT_GL_CTL p) = mix 1#32 (s.word (PRT_GL_CTL p)) w &&& ~~~ (32#32 &&& w) := State.word_setWord_same s _ _
  refine congrArg (· == 1) ((hfld _).trans ?_)
  rw [hword, getBits_and _ fun i hi => ?_]
  · exact getBits_mix _ w fun i hi => by interval_cases i; rfl
  · interval_cases i
    simp

theorem State.glStored_stagedSlots (s : State) (p : Nat) (w : Word) : (s.glStored p w).stagedSlots p = s.stagedSlots p := by
  unfold State.stagedSlots State.word
  refine List.map_congr_left fun n hn => ?_
  have hn : n < 16 := List.mem_range.1 hn
  rw [s.glStored_other p w (by unfold PRT_GL_NEW PRT_GL_CTL; omega)]

theorem State.glStored_glAt (s : State) (p : Nat) (w : Word) : (s.glStored p w).glAt p = s.glAt p := by
  unfold State.glAt State.fld64 State.fld
  rw [s.glStored_other p w (by simp [PRT_GL_AT_LO_AT, PRT_GL_AT_LO, PRT_GL_CTL]), s.glStored_other p w (by simp [PRT_GL_AT_HI_AT, PRT_GL_AT_HI, PRT_GL_CTL])]

theorem State.glStored_glRefusal (s : State) (p : Nat) (w : Word) (en : Bool) (slots : List Nat) (f : Nat) :
    (s.glStored p w).glRefusal p en slots f false = s.glRefusal p en slots f false := by
  unfold State.glRefusal State.namedGroupRefusal
  rw [Bool.false_and, Bool.false_and]
  rfl

/-- A write of ARM without CANCEL arms the list with the enable it carries. -/
theorem exec_gateListArm_eq (ht : s.takesWrite b (PRT_GL_CTL p) = true) (hwho : (s.busP b).isOF = true) (hp : p < 128) (hkeep : getBit w 2 = false) :
    exec (.gateListArm b p w) s = s.done ((s.glStored p (w ||| 2#32)).glArm p) := by
  have hcancel : ¬ getBit (38#32 &&& (w ||| 2#32)) 2 = true := by
    rw [getBit_and_of_set rfl, getBit_or_of_clear rfl, hkeep]
    exact Bool.false_ne_true
  have harm : getBit (38#32 &&& (w ||| 2#32)) 1 = true := by rw [getBit_and_of_set rfl, getBit_or_of_set rfl]
  refine congrArg s.done ((busWrite_takes ht (.gateListArm b p w) (w ||| 2#32)).trans ((s.writeWord_PRT_GL_CTL hwho hp _).trans ?_))
  unfold State.onBit
  rw [if_pos harm, if_neg hcancel]

theorem exec_gateListArm_arms (ht : s.takesWrite b (PRT_GL_CTL p) = true) (hwho : (s.busP b).isOF = true) (hp : p < 128) (hkeep : getBit w 2 = false)
    (hok : s.glRefusal p (getBit w 0) (s.stagedSlots p) (s.glAt p) false = none) :
    ∃ t, exec (.gateListArm b p w) s = .next t ∧ t.bit (PRT_GL_CTL_EN_NEW p) = getBit w 0 ∧
      t = { s with
        regs := t.regs, latch := t.latch,
        due := s.due ++ [Due.mk (s.glAt p) true false false none none (.gateList p (getBit w 0) (s.stagedSlots p))] } := by
  have hen : (s.glStored p (w ||| 2#32)).bit (PRT_GL_CTL_EN_NEW p) = getBit w 0 := (s.glStored_EN_NEW hp _).trans (getBit_or_of_clear rfl w)
  have harmed : (s.glStored p (w ||| 2#32)).glArm p =
      (s.glStored p (w ||| 2#32)).glSubmit p (getBit w 0) (s.stagedSlots p) (s.glAt p) false none := by
    unfold State.glArm
    simp only [hen, State.glStored_stagedSlots, State.glStored_glAt, State.glStored_glRefusal, hok]
  exact ⟨_, (exec_gateListArm_eq ht hwho hp hkeep).trans ((congrArg s.done harmed).trans (State.done_eq_next rfl rfl)), hen, rfl⟩

theorem exec_gateListArm_refused {c : Status} (ht : s.takesWrite b (PRT_GL_CTL p) = true) (hwho : (s.busP b).isOF = true) (hp : p < 128)
    (hkeep : getBit w 2 = false) (hbad : s.glRefusal p (getBit w 0) (s.stagedSlots p) (s.glAt p) false = some c) :
    ∃ t, exec (.gateListArm b p w) s = .next t ∧ t.bit (PRT_GL_CTL_REFUSED p) = true ∧ t.due = s.due ∧ t.xbr = s.xbr := by
  have hen : (s.glStored p (w ||| 2#32)).bit (PRT_GL_CTL_EN_NEW p) = getBit w 0 := (s.glStored_EN_NEW hp _).trans (getBit_or_of_clear rfl w)
  have hrefused : (s.glStored p (w ||| 2#32)).glArm p = (s.glStored p (w ||| 2#32)).setBit (PRT_GL_CTL_REFUSED p) true := by
    unfold State.glArm
    simp only [hen, State.glStored_stagedSlots, State.glStored_glAt, State.glStored_glRefusal, hbad]
  exact ⟨_, (exec_gateListArm_eq ht hwho hp hkeep).trans ((congrArg s.done hrefused).trans (State.done_eq_next rfl rfl)),
    State.bit_setBit_same _ (PRT_GL_CTL_REFUSED p) true (show 5 + 1 ≤ 32 by decide) rfl, rfl, rfl⟩

/-- Whether an effect due is a takeover of a port that the Dusk window has not frozen. -/
def takeoverOf (p : Nat) (d : Due) : Bool :=
  (match d.act with
    | .gateList q _ _ => q == p
    | _ => false) && ! d.frozen

theorem takeoverOf_eq_true {p : Nat} {d : Due} : takeoverOf p d = true ↔ d.frozen = false ∧ ∃ e l, d.act = .gateList p e l := by
  unfold takeoverOf
  cases hact : d.act <;> simp
  tauto

/-- What cancelling accepted effects leaves alone. -/
theorem State.foldl_cancelDue_keeps (st : Status) (l : List Due) (s : State) :
    (l.foldl (fun s d => s.cancelDue d st) s).due = s.due ∧ (l.foldl (fun s d => s.cancelDue d st) s).xbr = s.xbr ∧
      (l.foldl (fun s d => s.cancelDue d st) s).time = s.time ∧ (l.foldl (fun s d => s.cancelDue d st) s).pending = s.pending := by
  induction l generalizing s with
  | nil => exact ⟨rfl, rfl, rfl, rfl⟩
  | cons d l ih =>
    obtain ⟨r, hr⟩ := s.dropCargo_eq d
    obtain ⟨hdue, hxbr, htime, hpending⟩ := ih (s.cancelDue d st)
    refine ⟨hdue.trans ?_, hxbr.trans ?_, htime.trans ?_, hpending.trans ?_⟩
    all_goals
      unfold State.cancelDue
      rw [hr]
      simp

/-- Cancelling takes the effects picked out of those due. -/
theorem State.cancelAll_keeps (s : State) (pick : Due → Bool) (st : Status) :
    (s.cancelAll pick st).due = s.due.filter (fun d => ! pick d) ∧ (s.cancelAll pick st).xbr = s.xbr ∧ (s.cancelAll pick st).time = s.time ∧
      (s.cancelAll pick st).pending = s.pending :=
  State.foldl_cancelDue_keeps st _ _

theorem exec_gateListCancel_cancels (ht : s.takesWrite b (PRT_GL_CTL p) = true) (hwho : (s.busP b).isOF = true) (hp : p < 128) :
    ∃ t, exec (.gateListCancel b p) s = .next t ∧ (∀ d ∈ t.due, d.frozen = false → ∀ e l, d.act ≠ .gateList p e l) ∧
      (∀ d ∈ s.due, (d.frozen = true ∨ ∀ e l, d.act ≠ .gateList p e l) → d ∈ t.due) ∧ t.xbr = s.xbr := by
  have hword : s.withBits (PRT_GL_CTL p) 4 = (s.word (PRT_GL_CTL p) &&& 1#32) ||| 4#32 := by
    rw [State.withBits_of_lookup (lookupReg_PRT_GL_CTL p hp)]
    simp [RegDef.maskOf, fieldMask]
  have hcancel : getBit (38#32 &&& s.withBits (PRT_GL_CTL p) 4) 2 = true := by
    rw [hword, getBit_and_of_set rfl, getBit_or_of_set rfl]
  have harm : ¬ getBit (38#32 &&& s.withBits (PRT_GL_CTL p) 4) 1 = true := by
    rw [hword, getBit_and_of_set rfl, getBit_or_of_clear rfl, getBit_eq_getLsbD, BitVec.getLsbD_and]
    simp
  have hwrite : s.busWrite (.gateListCancel b p) b (PRT_GL_CTL p) (s.withBits (PRT_GL_CTL p) 4) =
      (s.glStored p (s.withBits (PRT_GL_CTL p) 4)).cancelAll (takeoverOf p) .aborted := by
    refine (busWrite_takes ht _ _).trans ((s.writeWord_PRT_GL_CTL hwho hp _).trans ?_)
    unfold State.onBit
    rw [if_neg harm, if_pos hcancel]
    rfl
  obtain ⟨hdue, hxbr, htime, hpending⟩ := (s.glStored p (s.withBits (PRT_GL_CTL p) 4)).cancelAll_keeps (takeoverOf p) .aborted
  refine ⟨_, (congrArg s.done hwrite).trans (State.done_eq_next htime hpending), fun d hd hthawed e l hact => ?_, fun d hd hkeep => ?_, hxbr⟩
  · rw [hdue, List.mem_filter] at hd
    simp [takeoverOf_eq_true.2 ⟨hthawed, e, l, hact⟩] at hd
  · rw [hdue, List.mem_filter]
    refine ⟨hd, ?_⟩
    rw [Bool.not_eq_true', ← Bool.not_eq_true, takeoverOf_eq_true]
    rintro ⟨hthawed, e, l, hact⟩
    rcases hkeep with hfrozen | hother
    · exact Bool.noConfusion (hthawed.symm.trans hfrozen)
    · exact hother e l hact

end GateListWrites

/-- Settles O35: ports and links send what the round robin picks, shapers fill and charge, and gate lists are armed, refused and cancelled. -/
theorem egressAndShapers : Obligations.EgressAndShapers :=
  ⟨fun _ _ _ _ _ _ _ => exec_egressSchedule_sends, fun _ _ _ _ _ _ _ => exec_egressSchedule_wakes, fun _ _ _ => exec_egressSchedule_waits,
    fun _ _ _ _ _ _ _ _ _ => exec_egressSchedule_isl, fun _ => exec_shaperTokenRefill, fun _ _ _ _ _ _ _ => exec_shaperAdmit_admits,
    fun _ _ _ _ _ _ _ => exec_shaperAdmit_holds, fun _ _ _ => exec_shaperAdmit_nothing, fun _ _ _ _ _ _ _ => exec_gateList_begins,
    fun _ _ _ _ _ _ _ _ => exec_gateList_refused, fun _ _ _ _ => exec_gateListArm_arms, fun _ _ _ _ _ => exec_gateListArm_refused,
    fun _ _ _ => exec_gateListCancel_cancels, fun _ _ _ _ => exec_getQos_reads, fun _ _ _ _ => exec_getQos_refused⟩

end Sys2Proof.Machine
end

section
/-! Proofs of the family 12_legacy_window_bridge: what faults, events and messages leave of the bridge, and its far-bus locks (O41). -/
set_option Elab.async false
namespace Sys2Proof.Machine
open Sys2Proof

/-! ### What faults, events and messages leave of the bridge -/

/-- Whether a field lies in the register block of the bridge. -/
def inBridge (f : Fld) : Prop := 0x400000 ≤ f.addr ∧ f.addr < 0x500000

/-- What faults, events and messages leave alone: the settings in force, the clock, the bridge's own records, and the registers of its block. -/
structure State.BridgeKept (s t : State) : Prop where
  force : t.force = s.force
  time : t.time = s.time
  refused : t.refused = s.refused
  brg : t.brg = s.brg
  fld : ∀ f, inBridge f → t.fld f = s.fld f

theorem State.BridgeKept.refl (s : State) : s.BridgeKept s := ⟨rfl, rfl, rfl, rfl, fun _ _ => rfl⟩

theorem State.BridgeKept.trans {s t u : State} (h : s.BridgeKept t) (k : t.BridgeKept u) : s.BridgeKept u :=
  ⟨k.force.trans h.force, k.time.trans h.time, k.refused.trans h.refused, k.brg.trans h.brg, fun f hf => (k.fld f hf).trans (h.fld f hf)⟩

theorem State.BridgeKept.bit {s t : State} (h : s.BridgeKept t) {f : Fld} (hf : inBridge f) : t.bit f = s.bit f :=
  congrArg (· == 1) (h.fld f hf)

theorem State.BridgeKept.of_regs {s t : State} (hregs : t.regs = s.regs) (hforce : t.force = s.force) (htime : t.time = s.time)
    (hrefused : t.refused = s.refused) (hbrg : t.brg = s.brg) : s.BridgeKept t :=
  ⟨hforce, htime, hrefused, hbrg, fun f _ => State.fld_congr hregs f⟩

theorem State.bridgeKept_setFld (s : State) {g : Fld} (v : Nat) (hg : g.addr < 0x400000 ∨ 0x500000 ≤ g.addr) : s.BridgeKept (s.setFld g v) := by
  refine ⟨rfl, rfl, rfl, rfl, fun f hf => State.fld_setFld_addr s g f v ?_⟩
  unfold inBridge at hf
  omega

theorem State.bridgeKept_draw (s : State) : s.BridgeKept s.draw.2 := .of_regs rfl rfl rfl rfl rfl

theorem State.bridgeKept_raiseShared (s : State) {n : Nat} (hn : n < 512) : s.BridgeKept (s.raiseShared n) :=
  ⟨s.raiseShared_force n, s.raiseShared_time n, s.raiseShared_refused n, s.raiseShared_brg n,
    fun f hf => s.fld_raiseShared n f hn (by unfold inBridge at hf; omega)⟩

theorem State.bridgeKept_raisePrivate (s : State) (t : Nat) {n : Nat} (hn : n < 64) : s.BridgeKept (s.raisePrivate t n) :=
  ⟨s.raisePrivate_force t n, s.raisePrivate_time t n, s.raisePrivate_refused t n, s.raisePrivate_brg t n,
    fun f hf => s.fld_raisePrivate t n f hn (by unfold inBridge at hf; omega)⟩

theorem State.bridgeKept_report (s : State) (i : FltIn) : s.BridgeKept (s.report i) :=
  ⟨s.report_force i, s.report_time i, s.report_refused i, s.report_brg i,
    fun f hf => s.fld_report i (by unfold inBridge at hf; unfold outsideFaults; omega)⟩

theorem State.bridgeKept_reportCode (s : State) (code id : Nat) (addr : Option Nat) (detail : Nat) :
    s.BridgeKept (s.reportCode code id addr detail) := by
  unfold State.reportCode
  split
  · exact s.bridgeKept_report _
  · exact .refl s

theorem State.bridgeKept_bndCount (s : State) (b : Nat) (c : BCnt) : s.BridgeKept (s.bndCount b c) := by
  cases c with
  | no => exact .refl s
  | unmapped => exact s.bridgeKept_setFld _ (.inr (by simp only [BND_ERR_CNT0_UNMAPPED, BND_ERR_CNT0]; omega))
  | poisoned => exact s.bridgeKept_setFld _ (.inr (by simp only [BND_ERR_CNT0_POISONED, BND_ERR_CNT0]; omega))
  | wrDisc => exact s.bridgeKept_setFld _ (.inr (by simp only [BND_ERR_CNT1_WR_DISC, BND_ERR_CNT1]; omega))
  | roWr => exact s.bridgeKept_setFld _ (.inr (by simp only [BND_ERR_CNT1_RO_WR, BND_ERR_CNT1]; omega))

theorem State.bridgeKept_recordWritten (s : State) (b : Nat) (valid : Bool) (code parcel dpa : Nat) :
    s.BridgeKept (s.recordWritten b valid code parcel dpa) := by
  have hrecord : ∀ {g : Fld} (u : State) (v : Nat), 0x2000000 ≤ g.addr → u.BridgeKept (u.setFld g v) := fun u v hg => u.bridgeKept_setFld v (.inr (by omega))
  exact ((((hrecord s _ (by simp only [BND_ERR_STAT_VALID, BND_ERR_STAT]; omega)).trans
    (hrecord _ _ (by simp only [BND_ERR_STAT_CODE, BND_ERR_STAT]; omega))).trans
    (hrecord _ _ (by simp only [BND_ERR_PARCEL_PARCEL, BND_ERR_PARCEL]; omega))).trans
    (hrecord _ _ (by simp only [BND_ERR_DPA_LO_DPA, BND_ERR_DPA_LO]; omega))).trans
    (hrecord _ _ (by simp only [BND_ERR_DPA_HI_DPA, BND_ERR_DPA_HI]; omega))

theorem State.bridgeKept_bindFault (s : State) (b code parcel dpa detail : Nat) : s.BridgeKept (s.bindFault b code parcel dpa detail .no) := by
  cases hvalid : s.bit (BND_ERR_STAT_VALID b) with
  | true =>
    rw [State.bindFault_of_valid hvalid]
    exact s.bridgeKept_reportCode _ _ _ _
  | false =>
    rw [State.bindFault_of_not_valid hvalid]
    exact ((s.bridgeKept_recordWritten b true code parcel dpa).trans (State.bridgeKept_raisePrivate _ _ (by decide))).trans
      (State.bridgeKept_reportCode _ _ _ _ _)

theorem State.bridgeKept_bridgeFault (s : State) (w : Nat) (dpa : Option Nat) : s.BridgeKept (s.bridgeFault w dpa) := by
  cases dpa with
  | some a => exact s.bridgeKept_draw.trans (State.bridgeKept_bindFault _ _ _ _ _ _)
  | none => exact (s.bridgeKept_draw.trans (State.bridgeKept_draw _)).trans (State.bridgeKept_bindFault _ _ _ _ _ _)

theorem State.bridgeKept_push (s : State) (m : Msg) : s.BridgeKept (s.push m) := .of_regs rfl rfl rfl rfl rfl

theorem State.bridgeKept_flushCount (s : State) {p : Nat} (hp : p < 128) {g : Fld} (hg : g.addr = XBR_PFLUSH p) : s.BridgeKept (s.inc g) :=
  s.bridgeKept_setFld _ (.inl (by rw [hg, XBR_PFLUSH]; omega))

theorem State.bridgeKept_sendQuiet (s : State) (m : Msg) : s.BridgeKept (s.sendQuiet m) := by
  unfold State.sendQuiet
  split_ifs with h
  · exact s.bridgeKept_flushCount h.1 rfl
  · exact s.bridgeKept_push m

theorem State.bridgeKept_lossCounted (s : State) (m : Msg) : s.BridgeKept (s.lossCounted m) := by
  unfold State.lossCounted
  repeat' split
  · exact s.bridgeKept_bndCount _ _
  · exact .refl s
  · exact .refl s

theorem State.bridgeKept_send (s : State) (m : Msg) : s.BridgeKept (s.send m) := by
  unfold State.send
  split_ifs with h
  · have hanswered : s.BridgeKept (s.answered m.dst) := s.bridgeKept_flushCount h.1 rfl
    have hdiscarded : s.BridgeKept (s.discarded m.dst) := s.bridgeKept_flushCount h.1 rfl
    unfold State.bounce
    repeat' split
    · exact (hanswered.trans (State.bridgeKept_lossCounted _ _)).trans (State.bridgeKept_sendQuiet _ _)
    · exact hanswered.trans (State.bridgeKept_sendQuiet _ _)
    · exact hdiscarded.trans (State.bridgeKept_lossCounted _ _)
  · exact s.bridgeKept_push m

theorem State.bridgeKept_tally (s : State) (u ev n : Nat) : s.BridgeKept (s.tally u ev n) := .of_regs rfl rfl rfl rfl rfl

theorem State.bridgeKept_sendUnits (a : BAcc) (us : List Nat) (s : State) (lk : Bool) : s.BridgeKept (s.sendUnits a us lk) := by
  induction us generalizing s lk with
  | nil => exact .refl s
  | cons u us ih => exact ((s.bridgeKept_tally _ _ _).trans (State.bridgeKept_send _ _)).trans (ih _ _)

theorem gateBase_outside (g : Nat) : 0x500000 ≤ gateBase g := by
  unfold gateBase
  split_ifs <;> omega

theorem State.bridgeKept_recordVio (s : State) (g i : Nat) (k : GKind) (start len ofs : Nat) (lockd : Bool) :
    s.BridgeKept (s.recordVio g i k start len ofs lockd) := by
  have hbase := gateBase_outside g
  have hrecord : ∀ {f : Fld} (u : State) (v : Nat), gateBase g ≤ f.addr → u.BridgeKept (u.setFld f v) := fun u v hf => u.bridgeKept_setFld v (.inr (by omega))
  unfold State.recordVio
  split_ifs
  · exact hrecord s _ (Nat.le_add_right _ _)
  · refine State.BridgeKept.trans ?_ (State.bridgeKept_raiseShared _ (by decide))
    have hhead := (((hrecord (f := GATE_VIO_STAT_VALID g) s 1 (Nat.le_add_right _ _)).trans
      (hrecord (f := GATE_VIO_STAT_LOCKED g) _ (if lockd then 1 else 0) (Nat.le_add_right _ _))).trans
      (hrecord (f := GATE_VIO_STAT_KIND g) _ k.code (Nat.le_add_right _ _))).trans (hrecord (f := GATE_VIO_INIT_INIT g) _ i (Nat.le_add_right _ _))
    have hplace := (((hhead.trans (hrecord (f := GATE_VIO_ADDR_LO_ADDR g) _ (start % 2 ^ 32) (Nat.le_add_right _ _))).trans
      (hrecord (f := GATE_VIO_ADDR_HI_ADDR g) _ (start / 2 ^ 32) (Nat.le_add_right _ _))).trans
      (hrecord (f := GATE_VIO_OFS_OFS g) _ ofs (Nat.le_add_right _ _))).trans (hrecord (f := GATE_VIO_LEN_LEN g) _ (satTo 32 len) (Nat.le_add_right _ _))
    exact (hplace.trans (hrecord (f := GATE_VIO_FRM_LO_FRAME g) _ _ (Nat.le_add_right _ _))).trans
      (hrecord (f := GATE_VIO_FRM_HI_FRAME g) _ _ (Nat.le_add_right _ _))

theorem State.bridgeKept_gateCheck (s : State) (g i : Nat) (k : GKind) (start len : Nat) : s.BridgeKept (s.gateCheck g i k start len).2 := by
  unfold State.gateCheck
  split
  · exact .refl s
  · exact s.bridgeKept_recordVio _ _ _ _ _ _ _
  · exact s.bridgeKept_recordVio _ _ _ _ _ _ _

theorem State.bridgeKept_unserved (s : State) (r : HReq) : s.BridgeKept (s.unserved r) := by
  unfold State.unserved
  split <;> exact s.bridgeKept_sendQuiet _

theorem State.bridgeKept_gatedAccess (s : State) (r : HReq) (parcel : Nat) : s.BridgeKept (s.gatedAccess r parcel) := by
  unfold State.gatedAccess
  refine State.BridgeKept.trans ?_ (State.bridgeKept_unserved _ r)
  split
  · exact .refl s
  · have hcount := s.bridgeKept_bndCount r.bnd (if hkReads r.kind then .poisoned else .wrDisc)
    dsimp only
    generalize s.bndCount r.bnd (if hkReads r.kind then .poisoned else .wrDisc) = u at hcount ⊢
    split
    · exact hcount
    · exact hcount.trans (((State.bridgeKept_draw _).trans (State.bridgeKept_recordWritten _ r.bnd true _ parcel r.dpa)).trans
        (State.bridgeKept_raisePrivate _ _ (by decide)))

/-! ### What issuing accesses leaves of the far-bus locks (R280) -/

/-- The terms of a lock: its holder, the window it was taken for, and the frame of its grant. -/
def BLock.terms (l : BLock) : Nat × Nat × Nat := (l.host, l.win, l.since)

/-- What issuing accesses leaves alone: the settings in force, the clock, the terms of every lock, the requests that wait, and the registers below the
windows'. -/
structure State.LockKept (s t : State) : Prop where
  force : t.force = s.force
  time : t.time = s.time
  refused : t.refused = s.refused
  wait : t.brg.wait = s.brg.wait
  locks : ∀ far, (mget t.brg.lock far).map BLock.terms = (mget s.brg.lock far).map BLock.terms
  fld : ∀ f, 0x400000 ≤ f.addr → f.addr < 0x401000 → t.fld f = s.fld f

theorem State.LockKept.refl (s : State) : s.LockKept s := ⟨rfl, rfl, rfl, rfl, fun _ => rfl, fun _ _ _ => rfl⟩

theorem State.LockKept.trans {s t u : State} (h : s.LockKept t) (k : t.LockKept u) : s.LockKept u :=
  ⟨k.force.trans h.force, k.time.trans h.time, k.refused.trans h.refused, k.wait.trans h.wait, fun far => (k.locks far).trans (h.locks far),
    fun f hlo hhi => (k.fld f hlo hhi).trans (h.fld f hlo hhi)⟩

theorem State.BridgeKept.lockKept {s t : State} (h : s.BridgeKept t) : s.LockKept t :=
  ⟨h.force, h.time, h.refused, by rw [h.brg], fun far => by rw [h.brg], fun f hlo hhi => h.fld f ⟨hlo, by omega⟩⟩

theorem State.LockKept.of_regs {s t : State} (hregs : t.regs = s.regs) (hforce : t.force = s.force) (htime : t.time = s.time)
    (hrefused : t.refused = s.refused) (hwait : t.brg.wait = s.brg.wait) (hlock : t.brg.lock = s.brg.lock) : s.LockKept t :=
  ⟨hforce, htime, hrefused, hwait, fun far => by rw [hlock], fun f _ _ => State.fld_congr hregs f⟩

theorem State.lockKept_setFld (s : State) {g : Fld} (v : Nat) (hg : 0x401000 ≤ g.addr) : s.LockKept (s.setFld g v) :=
  ⟨rfl, rfl, rfl, rfl, fun _ => rfl, fun f _ hhi => State.fld_setFld_addr s g f v (by omega)⟩

theorem State.lockKept_setBwin (s : State) (w : Nat) (x : BWin) : s.LockKept (s.setBwin w x) := .of_regs rfl rfl rfl rfl rfl rfl

theorem State.lockKept_dropAcc (s : State) (id : Nat) : s.LockKept (s.dropAcc id) := .of_regs rfl rfl rfl rfl rfl rfl

theorem State.lockKept_putAcc (s : State) (a : BAcc) : s.LockKept (s.putAcc a) := .of_regs rfl rfl rfl rfl rfl rfl

theorem State.lockKept_markLk (s : State) (port : Nat) : s.LockKept (s.markLk port) := by
  refine ⟨rfl, rfl, rfl, rfl, fun far => ?_, fun _ _ _ => rfl⟩
  show (mget (mmod s.brg.lock port fun l => { l with sent := true }) far).map BLock.terms = _
  by_cases hfar : port = far
  · rw [hfar, mget_mmod_same]
    cases mget s.brg.lock far <;> rfl
  · rw [mget_mmod_ne _ _ hfar]

theorem State.lockKept_fillWfail (s : State) (w : Nat) (dpa : Option Nat) (posted : Bool) : s.LockKept (s.fillWfail w dpa posted) := by
  unfold State.fillWfail
  split_ifs
  · exact .refl s
  · exact ((((s.lockKept_setFld _ (by simp only [LWB_WIN_WFAIL_VALID, LWB_WIN_WFAIL]; omega)).trans
      (State.lockKept_setFld _ _ (by simp only [LWB_WIN_WFAIL_ADDR_VALID, LWB_WIN_WFAIL]; omega))).trans
      (State.lockKept_setFld _ _ (by simp only [LWB_WIN_WFAIL_POSTED, LWB_WIN_WFAIL]; omega))).trans
      (State.lockKept_setFld _ _ (by simp only [LWB_WIN_WADDR_LO_DPA, LWB_WIN_WADDR_LO]; omega))).trans
      (State.lockKept_setFld _ _ (by simp only [LWB_WIN_WADDR_HI_DPA, LWB_WIN_WADDR_HI]; omega))

theorem State.lockKept_failFence (s : State) (w : Nat) (id : Option Nat) : s.LockKept (s.failFence w id) := s.lockKept_setBwin w _

theorem State.lockKept_postedFail (s : State) (w : Nat) (id dpa : Option Nat) : s.LockKept (s.postedFail w id dpa) :=
  ((((s.lockKept_failFence w id).trans (State.lockKept_setFld _ _ (by simp only [LWB_WIN_WFAIL_PWF_CNT, LWB_WIN_WFAIL]; omega))).trans
    (State.lockKept_fillWfail _ w dpa true)).trans (State.bridgeKept_bridgeFault _ w dpa).lockKept).trans
    (State.bridgeKept_raisePrivate _ _ (by decide)).lockKept

theorem State.lockKept_farRefused (s : State) (a : BAcc) : s.LockKept (s.farRefused a) := by
  unfold State.farRefused
  dsimp only
  split_ifs
  · exact s.lockKept_dropAcc _
  · exact (s.lockKept_dropAcc _).trans (State.lockKept_postedFail _ _ _ _)
  · exact ((s.lockKept_dropAcc _).trans (State.bridgeKept_draw _).lockKept).trans (State.bridgeKept_gatedAccess _ _ _).lockKept

theorem State.lockKept_flushRead (s : State) (w b port addr : Nat) (accs : List Nat) (fence : Option Nat) (alerts : List Nat) :
    s.LockKept (s.flushRead w b port addr accs fence alerts) := by
  unfold State.flushRead
  refine State.LockKept.trans ?_ (State.bridgeKept_send _ _).lockKept
  exact .of_regs rfl rfl rfl rfl rfl rfl

theorem State.lockKept_tryFence (s : State) (w : Nat) : s.LockKept (s.tryFence w) := by
  unfold State.tryFence
  split
  · exact .refl s
  · split_ifs
    · exact .refl s
    · exact (s.lockKept_setBwin _ _).trans (State.lockKept_flushRead _ _ _ _ _ _ _ _)

theorem State.lockKept_prefetch (s : State) (w o : Nat) : s.LockKept (s.prefetch w o) := by
  unfold State.prefetch
  extract_lets
  split
  · exact .refl s
  · split
    · exact s.lockKept_setFld _ (by simp only [LWB_WIN_PF_PF_DISC, LWB_WIN_PF]; omega)
    · refine State.LockKept.trans ?_ (State.bridgeKept_send _ _).lockKept
      exact .of_regs rfl rfl rfl rfl rfl rfl

theorem State.lockKept_issueAcc (s : State) (a : BAcc) : s.LockKept (s.issueAcc a) := by
  unfold State.issueAcc
  dsimp only
  have hgate := (s.bridgeKept_gateCheck a.port (0x3000 + a.win) (if a.write then .write else .read) a.far (if a.one then a.wd else 64)).lockKept
  generalize s.gateCheck a.port (0x3000 + a.win) (if a.write then .write else .read) a.far (if a.one then a.wd else 64) = g at hgate ⊢
  obtain ⟨res, u⟩ := g
  refine hgate.trans ?_
  dsimp only
  have hissued : ∀ lk, u.LockKept ((u.putAcc { a with issued := true, since := u.time.frame }).sendUnits a a.units lk) := fun lk =>
    (u.lockKept_putAcc _).trans (State.bridgeKept_sendUnits a _ _ lk).lockKept
  split
  · exact u.lockKept_farRefused a
  · split
    · split
      · exact (u.lockKept_dropAcc _).trans (State.lockKept_postedFail _ _ _ _)
      · exact ((u.lockKept_dropAcc _).trans (State.bridgeKept_sendUnits a _ _ _).lockKept).trans (State.lockKept_setBwin _ _ _)
    · split
      · exact (hissued false).trans (State.lockKept_flushRead _ _ _ _ _ _ _ _)
      · generalize (a.mir == 0 && u.curBit (LWB_WIN_CFG_LK_TLP a.win) && _) = lk
        have hmarked : u.LockKept (if lk then ((u.putAcc { a with issued := true, since := u.time.frame }).sendUnits a a.units lk).markLk a.port
            else (u.putAcc { a with issued := true, since := u.time.frame }).sendUnits a a.units lk) := by
          split
          · exact (hissued lk).trans (State.lockKept_markLk _ _)
          · exact hissued lk
        split
        · exact hmarked
        · exact hmarked.trans (State.lockKept_prefetch _ _ _)

theorem State.lockKept_foldl {α : Type} {f : State → α → State} (hf : ∀ (s : State) x, s.LockKept (f s x)) (l : List α) (s : State) : s.LockKept (l.foldl f s) := by
  induction l generalizing s with
  | nil => exact .refl s
  | cons x l ih => exact (hf s x).trans (ih _)

/-- Issuing what a lock lets through changes no lock's terms. -/
theorem State.lockKept_bridgeRun (s : State) (port : Nat) : s.LockKept (s.bridgeRun port) :=
  (State.lockKept_foldl State.lockKept_issueAcc _ s).trans (State.lockKept_foldl State.lockKept_tryFence _ _)

/-- With no access accepted and no fence in progress there is nothing to issue. -/
theorem State.bridgeRun_idle {s : State} {port : Nat} (hacc : s.brg.acc = []) (hfence : ∀ n ∈ s.windowsOf port, (s.bwin n).fence = none) :
    s.bridgeRun port = s := by
  have htry : ∀ n ∈ s.windowsOf port, s.tryFence n = s := fun n hn => by
    unfold State.tryFence
    rw [hfence n hn]
  have hall : ∀ l : List Nat, (∀ n ∈ l, s.tryFence n = s) → l.foldl State.tryFence s = s := by
    intro l
    induction l with
    | nil => intro _; rfl
    | cons n l ih =>
      intro hl
      rw [List.foldl_cons, hl n (.head l)]
      exact ih fun k hk => hl k (.tail n hk)
  unfold State.bridgeRun
  rw [hacc]
  exact hall _ htry

/-! ### Writes of LWB_LOCK (R280) -/

/-- The state in which a write of LWB_LOCK has stored its bits. -/
def State.lockStored (s : State) (p : Nat) (w : Word) : State :=
  { s.setWord (LWB_LOCK p) (mix 0x3F#32 (s.word (LWB_LOCK p)) w &&& ~~~ (0xC00#32 &&& w)) with latch := mdel s.latch (LWB_LOCK p) }

theorem State.writeWord_LWB_LOCK (s : State) {x : RegAcc} (hwho : x.prin.isIn 11 = true) {p : Nat} (hp : p < 128) (w : Word) :
    s.writeWord x (LWB_LOCK p) w =
      ((s.lockStored p w).onBit (0xCC0#32 &&& w) 7 (fun s => s.lockRelease p)).onBit (0xCC0#32 &&& w) 6 (fun s => s.lockAcquire p) := by
  unfold State.writeWord State.lockStored
  rw [lookupReg_LWB_LOCK p hp]
  simp [RegDef.maskOf, fieldFor, fieldWho, hwho, State.wholeWrite, State.writeRefused, State.stagePart, State.writeWord.isPendReg, State.afterWrite,
    State.allowed, fieldMask, mix_mix_right]

theorem State.lockStored_WIN (s : State) {p : Nat} (hp : p < 128) (w : Word) : (s.lockStored p w).fld (LWB_LOCK_WIN p) = getBits w 0 6 := by
  have hreset : resetWord (LWB_LOCK p) = 0 := resetWord_of_lookup (lookupReg_LWB_LOCK p hp)
  have hfld : ∀ u : State, u.fld (LWB_LOCK_WIN p) = getBits (u.word (LWB_LOCK p)) 0 6 := fun u => by
    unfold State.word
    rw [hreset]
    rfl
  have hword : (s.lockStored p w).word (LWB_LOCK p) = mix 0x3F#32 (s.word (LWB_LOCK p)) w &&& ~~~ (0xC00#32 &&& w) := State.word_setWord_same s _ _
  rw [hfld, hword, getBits_and _ fun i hi => ?_]
  · exact getBits_mix _ w fun i hi => by interval_cases i <;> rfl
  · interval_cases i <;> simp

section LockWrites

variable {s : State} {b : Bus} {p : Nat} {w : Word}

theorem exec_lockAcquire_eq (ht : s.takesWrite b (LWB_LOCK p) = true) (hwho : (s.busP b).isIn 11 = true) (hp : p < 128) (hrel : getBit w 7 = false) :
    exec (.lockAcquire b p w) s = s.done ((s.lockStored p (w ||| 0x40#32)).lockAcquire p) := by
  have hno : ¬ getBit (0xCC0#32 &&& (w ||| 0x40#32)) 7 = true := by
    rw [getBit_and_of_set rfl, getBit_or_of_clear rfl, hrel]
    exact Bool.false_ne_true
  have hacq : getBit (0xCC0#32 &&& (w ||| 0x40#32)) 6 = true := by rw [getBit_and_of_set rfl, getBit_or_of_set rfl]
  refine congrArg s.done ((busWrite_takes ht (.lockAcquire b p w) (w ||| 0x40#32)).trans ((s.writeWord_LWB_LOCK hwho hp _).trans ?_))
  unfold State.onBit
  rw [if_pos hacq, if_neg hno]

theorem exec_lockRelease_eq (ht : s.takesWrite b (LWB_LOCK p) = true) (hwho : (s.busP b).isIn 11 = true) (hp : p < 128) (hacq : getBit w 6 = false) :
    exec (.lockRelease b p w) s = s.done ((s.lockStored p (w ||| 0x80#32)).lockRelease p) := by
  have hno : ¬ getBit (0xCC0#32 &&& (w ||| 0x80#32)) 6 = true := by
    rw [getBit_and_of_set rfl, getBit_or_of_clear rfl, hacq]
    exact Bool.false_ne_true
  have hrel : getBit (0xCC0#32 &&& (w ||| 0x80#32)) 7 = true := by rw [getBit_and_of_set rfl, getBit_or_of_set rfl]
  refine congrArg s.done ((busWrite_takes ht (.lockRelease b p w) (w ||| 0x80#32)).trans ((s.writeWord_LWB_LOCK hwho hp _).trans ?_))
  unfold State.onBit
  rw [if_pos hrel, if_neg hno]

end LockWrites

/-! ### Acquiring a lock (R280) -/

theorem State.lockStored_asked (s : State) {p : Nat} (hp : p < 128) (w : Word) :
    (s.lockStored p (w ||| 0x40#32)).fld (LWB_LOCK_WIN p) = getBits w 0 6 := by
  exact (s.lockStored_WIN hp _).trans (getBits_or w fun i hi => by interval_cases i <;> rfl)

theorem State.grantLock_bits (s : State) (far host w : Nat) :
    (s.grantLock far host w).bit (LWB_LOCK_HELD host) = true ∧ (s.grantLock far host w).bit (LWB_LOCK_WAIT host) = false :=
  ⟨(State.bit_setBit_apart _ (f := LWB_LOCK_WAIT host) (g := LWB_LOCK_HELD host) false rfl).trans
      (State.bit_setBit_same _ (LWB_LOCK_HELD host) true (show 8 + 1 ≤ 32 by decide) rfl),
    State.bit_setBit_same _ (LWB_LOCK_WAIT host) false (show 9 + 1 ≤ 32 by decide) rfl⟩

section Acquire

variable {s : State} {p : Nat}

theorem State.lockAcquire_refused (hno : s.winOn (s.fld (LWB_LOCK_WIN p)) = false ∨ s.bndPort (s.winBnd (s.fld (LWB_LOCK_WIN p))) ≠ p ∨ s.lockUser p = true) :
    s.lockAcquire p = s.setBit (LWB_LOCK_REFUSED p) true :=
  if_pos (by simpa using hno)

theorem State.lockAcquire_grants (hon : s.winOn (s.fld (LWB_LOCK_WIN p)) = true) (hport : s.bndPort (s.winBnd (s.fld (LWB_LOCK_WIN p))) = p)
    (huser : s.lockUser p = false) (hfree : mget s.brg.lock (s.winPort (s.fld (LWB_LOCK_WIN p))) = none) :
    s.lockAcquire p = s.grantLock (s.winPort (s.fld (LWB_LOCK_WIN p))) p (s.fld (LWB_LOCK_WIN p)) :=
  (if_neg (by simp [hon, hport, huser])).trans (if_pos (by rw [hfree]; rfl))

theorem State.lockAcquire_waits (hon : s.winOn (s.fld (LWB_LOCK_WIN p)) = true) (hport : s.bndPort (s.winBnd (s.fld (LWB_LOCK_WIN p))) = p)
    (huser : s.lockUser p = false) (hheld : (mget s.brg.lock (s.winPort (s.fld (LWB_LOCK_WIN p)))).isSome = true) :
    s.lockAcquire p = ({ s with brg.wait := s.brg.wait ++ [(s.winPort (s.fld (LWB_LOCK_WIN p)), p, s.fld (LWB_LOCK_WIN p))] } : State).setBit (LWB_LOCK_WAIT p) true :=
  (if_neg (by simp [hon, hport, huser])).trans (if_neg (by simpa using Option.isSome_iff_ne_none.1 hheld))

end Acquire

/-! ### The next request takes a lock (R281) -/

/-- The requests of a far port whose window is disabled by now. -/
def State.lapsed (s : State) (far : Nat) : List (Nat × Nat × Nat) := s.brg.wait.filter (fun x => x.1 == far && ! s.winOn x.2.2)

/-- The state in which the lapsed requests of a far port are gone. -/
def State.lapsedGone (s : State) (far : Nat) : State :=
  (s.lapsed far).foldl (fun s x => s.setBit (LWB_LOCK_WAIT x.2.1) false) { s with brg.wait := s.brg.wait.filter (fun x => ! (s.lapsed far).contains x) }

theorem State.foldl_waitCleared (l : List (Nat × Nat × Nat)) (s : State) :
    let t := l.foldl (fun s x => s.setBit (LWB_LOCK_WAIT x.2.1) false) s
    t.brg = s.brg ∧ t.force = s.force ∧ t.time = s.time ∧ t.refused = s.refused := by
  induction l generalizing s with
  | nil => exact ⟨rfl, rfl, rfl, rfl⟩
  | cons x l ih => exact ih _

theorem State.lapsedGone_time (s : State) (far : Nat) : (s.lapsedGone far).time = s.time := (State.foldl_waitCleared _ _).2.2.1

theorem State.foldl_waitCleared_fld {p : Nat} {f : Fld} (hf : f.addr = LWB_LOCK p) (l : List (Nat × Nat × Nat)) (s : State) (hl : ∀ x ∈ l, x.2.1 ≠ p) :
    (l.foldl (fun s x => s.setBit (LWB_LOCK_WAIT x.2.1) false) s).fld f = s.fld f := by
  induction l generalizing s with
  | nil => rfl
  | cons x l ih =>
    refine (ih _ fun y hy => hl y (.tail x hy)).trans (State.fld_setBit_addr _ _ _ _ ?_)
    have hx := hl x (.head l)
    rw [hf]
    simp only [LWB_LOCK_WAIT, LWB_LOCK]
    omega

theorem State.nextLock_eq (s : State) (far : Nat) :
    s.nextLock far = match (s.brg.wait.filter (fun x => ! (s.lapsed far).contains x)).find? (fun x => x.1 == far) with
      | some x => (s.lapsedGone far).grantLock far x.2.1 x.2.2
      | none => s.lapsedGone far := by
  obtain ⟨hbrg, -, -, -⟩ := State.foldl_waitCleared (s.lapsed far) { s with brg.wait := s.brg.wait.filter (fun x => ! (s.lapsed far).contains x) }
  have hwait : (s.lapsedGone far).brg.wait = s.brg.wait.filter (fun x => ! (s.lapsed far).contains x) := congrArg BrgSt.wait hbrg
  rw [← hwait]
  rfl

theorem State.nextLock_idle {s : State} (h : s.brg.wait = []) (far : Nat) : s.nextLock far = s := by
  have hlapsed : s.lapsed far = [] := by
    unfold State.lapsed
    rw [h]
    rfl
  have hsame : ({ s with brg.wait := [] } : State) = s := by rw [← h]
  rw [State.nextLock_eq]
  unfold State.lapsedGone
  rw [hlapsed, h]
  exact hsame

/-- What becomes of a port's lock word and of a far port's free lock as the next request takes it, where the port itself waits for none. -/
theorem State.nextLock_apart {s : State} {far p : Nat} (hfree : mget s.brg.lock far = none) (hwait : ∀ x ∈ s.brg.wait, x.2.1 ≠ p) :
    (∀ f, f.addr = LWB_LOCK p → (s.nextLock far).fld f = s.fld f) ∧ (∀ k, mget (s.nextLock far).brg.lock far = some k → k.host ≠ p) ∧
      ((∀ x ∈ s.brg.wait, x.1 ≠ far) → mget (s.nextLock far).brg.lock far = none) ∧
      (s.nextLock far).time = s.time ∧ (s.nextLock far).refused = s.refused := by
  obtain ⟨hbrg, -, htime, hrefused⟩ := State.foldl_waitCleared (s.lapsed far) { s with brg.wait := s.brg.wait.filter (fun x => ! (s.lapsed far).contains x) }
  have hlock : mget (s.lapsedGone far).brg.lock far = none := (congrArg (fun b : BrgSt => mget b.lock far) hbrg).trans hfree
  have hword : ∀ f, f.addr = LWB_LOCK p → (s.lapsedGone far).fld f = s.fld f := fun f hf =>
    State.foldl_waitCleared_fld hf _ _ fun x hx => hwait x (List.mem_of_mem_filter hx)
  rw [State.nextLock_eq]
  split
  next x hx =>
    have hmem : x ∈ s.brg.wait := List.mem_of_mem_filter (List.mem_of_find?_eq_some hx)
    have hne : x.2.1 ≠ p := hwait x hmem
    have hfar : x.1 = far := by simpa using List.find?_some hx
    refine ⟨fun f hf => ?_, fun k hk => ?_, fun hnone => absurd hfar (hnone x hmem), htime, hrefused⟩
    · have hother : ∀ g : Fld, g.addr = LWB_LOCK x.2.1 → g.addr ≠ f.addr := fun g hg => by
        rw [hg, hf]
        unfold LWB_LOCK
        omega
      exact (State.fld_setBit_addr _ _ _ _ (hother (LWB_LOCK_WAIT x.2.1) rfl)).trans
        ((State.fld_setBit_addr _ _ _ _ (hother (LWB_LOCK_HELD x.2.1) rfl)).trans (hword f hf))
    · have hk' : mget (mput (s.lapsedGone far).brg.lock far
          { host := x.2.1, win := x.2.2, since := (s.lapsedGone far).time.frame, sent := false }) far = some k := hk
      rw [mget_mput_same] at hk'
      exact (Option.some.inj hk') ▸ hne
  next => exact ⟨hword, fun k hk => absurd (hlock.symm.trans hk) (by simp), fun _ => hlock, htime, hrefused⟩

/-- The first request that waits takes the lock, where its window is still enabled. -/
theorem State.nextLock_first {s : State} {far h n : Nat} (hfirst : s.brg.wait.head? = some (far, h, n)) (hon : s.winOn n = true) :
    s.nextLock far = (s.lapsedGone far).grantLock far h n := by
  have hstays : (s.lapsed far).contains (far, h, n) = false := by
    unfold State.lapsed
    simp [hon]
  obtain ⟨l, hl⟩ := List.head?_eq_some_iff.1 hfirst
  have hfound : (s.brg.wait.filter (fun x => ! (s.lapsed far).contains x)).find? (fun x => x.1 == far) = some (far, h, n) := by
    rw [hl, List.filter_cons_of_pos (by rw [hstays]; rfl), List.find?_cons_of_pos (by simp)]
  rw [State.nextLock_eq, hfound]

/-! ### Releasing a lock (R281) -/

/-- The state in which the lock of a far port is free and its holder's HELD is clear. -/
def State.lockFreed (s : State) (far : Nat) (l : BLock) : State :=
  ({ s with brg.lock := mdel s.brg.lock far } : State).setBit (LWB_LOCK_HELD l.host) false

theorem State.releaseFar_unsent {s : State} {far : Nat} {l : BLock} (hl : mget s.brg.lock far = some l) (hsent : l.sent = false) :
    s.releaseFar far = ((s.lockFreed far l).nextLock far).bridgeRun far := by
  unfold State.releaseFar
  simp only [hl, hsent, Bool.false_eq_true, if_false]
  rfl

theorem State.releaseFar_eq {s : State} {far : Nat} {l : BLock} (hl : mget s.brg.lock far = some l) :
    ∃ u, (s.lockFreed far l).BridgeKept u ∧ s.releaseFar far = (u.nextLock far).bridgeRun far := by
  unfold State.releaseFar
  simp only [hl]
  split
  · exact ⟨_, State.bridgeKept_send _ _, rfl⟩
  · exact ⟨_, .refl _, rfl⟩

theorem State.lockFreed_free (s : State) (far : Nat) (l : BLock) : mget (s.lockFreed far l).brg.lock far = none := mget_mdel_same s.brg.lock far

/-- A released lock: its holder's HELD is clear and nothing else of the holder's lock word changes; the lock is with a request that waited, or free. -/
theorem State.releaseFar_frees {s : State} {far : Nat} {l : BLock} (hl : mget s.brg.lock far = some l) (hhost : l.host < 128)
    (hwait : ∀ x ∈ s.brg.wait, x.2.1 ≠ l.host) :
    (s.releaseFar far).bit (LWB_LOCK_HELD l.host) = false ∧
      (∀ f, f.addr = LWB_LOCK l.host → (LWB_LOCK_HELD l.host).bitsApart f = true → (s.releaseFar far).fld f = s.fld f) ∧
      (∀ k, mget (s.releaseFar far).brg.lock far = some k → k.host ≠ l.host) ∧
      ((∀ x ∈ s.brg.wait, x.1 ≠ far) → mget (s.releaseFar far).brg.lock far = none) ∧ (s.releaseFar far).refused = s.refused := by
  obtain ⟨u, hu, hrun⟩ := State.releaseFar_eq hl
  have hfree : mget u.brg.lock far = none := by rw [hu.brg, s.lockFreed_free]
  have huwait : u.brg.wait = s.brg.wait := by rw [hu.brg]; rfl
  obtain ⟨hword, hholder, hnone, -, hrefused⟩ := State.nextLock_apart (p := l.host) hfree (by rw [huwait]; exact hwait)
  have hran := (u.nextLock far).lockKept_bridgeRun far
  have hlock : ∀ f, f.addr = LWB_LOCK l.host → (s.releaseFar far).fld f = (s.lockFreed far l).fld f := fun f hf => by
    have hlo : 0x400000 ≤ f.addr := by rw [hf]; unfold LWB_LOCK; omega
    have hhi : f.addr < 0x401000 := by rw [hf]; unfold LWB_LOCK; omega
    rw [hrun, hran.fld f hlo hhi, hword f hf, hu.fld f ⟨hlo, by omega⟩]
  refine ⟨(congrArg (· == 1) (hlock (LWB_LOCK_HELD l.host) rfl)).trans (State.bit_setBit_same _ _ false (show 8 + 1 ≤ 32 by decide) rfl),
    fun f hf hapart => (hlock f hf).trans (State.fld_setBit_apart _ _ hapart), fun k hk => ?_, fun hno => ?_, ?_⟩
  · have hterms := hran.locks far
    rw [← hrun, hk] at hterms
    obtain ⟨k', hk', heq⟩ := Option.map_eq_some_iff.1 hterms.symm
    have hhosts : k'.host = k.host := congrArg Prod.fst heq
    exact hhosts ▸ hholder k' hk'
  · have hterms := hran.locks far
    rw [hnone (by rw [huwait]; exact hno), ← hrun] at hterms
    exact Option.map_eq_none_iff.1 hterms
  · rw [hrun, hran.refused, hrefused, hu.refused]
    rfl

/-! ### A lock held too long (R282) -/

theorem State.lockKept_bridgeAnswer (s : State) (a : BAcc) (d : Nat) (poison : Bool) : s.LockKept (s.bridgeAnswer a d poison) := by
  unfold State.bridgeAnswer
  split
  · exact .refl s
  · exact (s.bridgeKept_sendQuiet _).lockKept

theorem State.lockKept_breakAcc (s : State) (a : BAcc) : s.LockKept (s.breakAcc a) := by
  have hcount : s.LockKept ((s.dropAcc a.id).inc (LWB_WIN_ERR_WR_FAIL a.win)) :=
    (s.lockKept_dropAcc _).trans (State.lockKept_setFld _ _ (by simp only [LWB_WIN_ERR_WR_FAIL, LWB_WIN_ERR]; omega))
  unfold State.breakAcc
  dsimp only
  split_ifs
  · exact hcount.trans (State.lockKept_failFence _ _ _)
  · exact hcount.trans (State.lockKept_bridgeAnswer _ _ _ _)
  · exact (s.lockKept_dropAcc _).trans (State.lockKept_bridgeAnswer _ _ _ _)

/-- The state in which a lock has been found held too long: its holder's accesses are broken off, and the loss is recorded, counted and told. -/
def State.lockBroken (s : State) (far : Nat) (l : BLock) : State :=
  let s1 := (s.brg.acc.filter (fun a => a.port == far && a.host == l.host && a.mir == 0)).foldl State.breakAcc s
  let s2 := ((s1.setBit (LWB_LOCK_TMO l.host) true).inc (LWB_LOCK_TMO_CNT l.host)).raisePrivate l.host 7
  let v := s2.draw
  let u := v.2.draw
  u.2.bindFault (s.winBnd l.win) 10 (v.1 % 2 ^ 28) (u.1 % 2 ^ 64) l.win .no

theorem State.lockTimeout_breaks {s : State} {far : Nat} {l : BLock} (hl : mget s.brg.lock far = some l)
    (hdue : l.since + s.cur LWB_CFG_LOCK_TMO ≤ s.time.frame) : s.lockTimeout far = (s.lockBroken far l).releaseFar far := by
  unfold State.lockTimeout
  simp only [hl]
  exact if_neg (Nat.not_lt.2 hdue)

theorem State.lockTimeout_waits {s : State} {far : Nat} (h : ∀ l, mget s.brg.lock far = some l → s.time.frame < l.since + s.cur LWB_CFG_LOCK_TMO) :
    s.lockTimeout far = s := by
  unfold State.lockTimeout
  split
  · rfl
  next l hl => exact if_pos (h l hl)

/-- The accesses that the holder of a broken lock has on the far port. -/
def State.heldAcc (s : State) (far : Nat) (l : BLock) : List BAcc := s.brg.acc.filter (fun a => a.port == far && a.host == l.host && a.mir == 0)

theorem State.lockBroken_told (s : State) (far : Nat) (l : BLock) :
    ((((s.heldAcc far l).foldl State.breakAcc s).setBit (LWB_LOCK_TMO l.host) true).inc (LWB_LOCK_TMO_CNT l.host)).BridgeKept (s.lockBroken far l) := by
  unfold State.lockBroken
  exact (((State.bridgeKept_raisePrivate _ l.host (by decide)).trans (State.bridgeKept_draw _)).trans (State.bridgeKept_draw _)).trans
    (State.bridgeKept_bindFault _ _ _ _ _ _)

/-- Breaking a lock sets TMO and counts it in the holder's lock word; what waits and the locks' terms stay. -/
theorem State.lockBroken_word (s : State) (far : Nat) {l : BLock} (hhost : l.host < 128) :
    (s.lockBroken far l).bit (LWB_LOCK_TMO l.host) = true ∧
      (s.lockBroken far l).fld (LWB_LOCK_TMO_CNT l.host) = min (s.fld (LWB_LOCK_TMO_CNT l.host) + 1) (2 ^ (LWB_LOCK_TMO_CNT l.host).width - 1) ∧
      (s.lockBroken far l).brg.wait = s.brg.wait ∧
      (mget (s.lockBroken far l).brg.lock far).map BLock.terms = (mget s.brg.lock far).map BLock.terms := by
  have hbroken := State.lockKept_foldl State.lockKept_breakAcc (s.heldAcc far l) s
  have htold := s.lockBroken_told far l
  generalize (s.heldAcc far l).foldl State.breakAcc s = s1 at hbroken htold
  have hin : ∀ f : Fld, f.addr = LWB_LOCK l.host → inBridge f := fun f hf => by
    unfold inBridge
    rw [hf]
    unfold LWB_LOCK
    omega
  refine ⟨?_, ?_, (congrArg BrgSt.wait htold.brg).trans hbroken.wait, ?_⟩
  · exact (htold.bit (hin (LWB_LOCK_TMO l.host) rfl)).trans ((State.bit_setFld_apart _ _ rfl).trans
      (State.bit_setBit_same _ _ true (show 11 + 1 ≤ 32 by decide) rfl))
  · rw [htold.fld _ (hin (LWB_LOCK_TMO_CNT l.host) rfl), State.fld_inc_same _ _ (show 16 + 16 ≤ 32 by decide), State.fld_setBit_apart _ _ rfl,
      hbroken.fld _ (by simp only [LWB_LOCK_TMO_CNT, LWB_LOCK]; omega) (by simp only [LWB_LOCK_TMO_CNT, LWB_LOCK]; omega)]
  · exact (congrArg (fun b : BrgSt => (mget b.lock far).map BLock.terms) htold.brg).trans (hbroken.locks far)

theorem exec_lockTimeout_breaks {s : State} {far : Nat} {l : BLock} (hl : mget s.brg.lock far = some l)
    (hdue : l.since + s.cur LWB_CFG_LOCK_TMO ≤ s.time.frame) (hhost : l.host < 128) (hwait : ∀ x ∈ s.brg.wait, x.2.1 ≠ l.host) :
    ∃ t, exec (.lockTimeout far) s = .next t ∧ t.bit (LWB_LOCK_HELD l.host) = false ∧ t.bit (LWB_LOCK_TMO l.host) = true ∧
      t.fld (LWB_LOCK_TMO_CNT l.host) = min (s.fld (LWB_LOCK_TMO_CNT l.host) + 1) (2 ^ (LWB_LOCK_TMO_CNT l.host).width - 1) ∧
      ((∀ x ∈ s.brg.wait, x.1 ≠ far) → mget t.brg.lock far = none) := by
  obtain ⟨htmo, hcount, hwaits, hterms⟩ := s.lockBroken_word far hhost
  rw [hl] at hterms
  obtain ⟨l', hl', heq⟩ := Option.map_eq_some_iff.1 hterms
  have hsame : l'.host = l.host := congrArg Prod.fst heq
  obtain ⟨hheld, hword, -, hnone, -⟩ := State.releaseFar_frees hl' (hsame ▸ hhost) (by rw [hwaits, hsame]; exact hwait)
  rw [hsame] at hheld hword
  rw [hwaits] at hnone
  refine ⟨_, congrArg s.done (State.lockTimeout_breaks hl hdue), hheld, ?_, (hword (LWB_LOCK_TMO_CNT l.host) rfl rfl).trans hcount, hnone⟩
  exact (congrArg (· == 1) (hword (LWB_LOCK_TMO l.host) rfl rfl)).trans htmo

/-! ### Acquiring and releasing by LWB_LOCK -/

section LockCommands

variable {s : State} {b : Bus} {p far n : Nat} {w : Word} {l : BLock}

theorem exec_lockAcquire_grants (ht : s.takesWrite b (LWB_LOCK p) = true) (hwho : (s.busP b).isIn 11 = true) (hp : p < 128) (hrel : getBit w 7 = false)
    (hon : s.winOn (getBits w 0 6) = true) (hport : s.bndPort (s.winBnd (getBits w 0 6)) = p) (huser : s.lockUser p = false)
    (hfree : mget s.brg.lock (s.winPort (getBits w 0 6)) = none) :
    ∃ t, exec (.lockAcquire b p w) s = .next t ∧ t.bit (LWB_LOCK_HELD p) = true ∧ t.bit (LWB_LOCK_WAIT p) = false ∧
      mget t.brg.lock (s.winPort (getBits w 0 6)) = some { host := p, win := getBits w 0 6, since := s.time.frame, sent := false } ∧
      t.brg.acc = s.brg.acc := by
  have hwin := s.lockStored_asked hp w
  have hgrants : (s.lockStored p (w ||| 0x40#32)).lockAcquire p =
      (s.lockStored p (w ||| 0x40#32)).grantLock (s.winPort (getBits w 0 6)) p (getBits w 0 6) := by
    rw [State.lockAcquire_grants (s := s.lockStored p _) (by rw [hwin]; exact hon) (by rw [hwin]; exact hport) huser (by rw [hwin]; exact hfree), hwin]
    rfl
  obtain ⟨hheld, hwait⟩ := (s.lockStored p (w ||| 0x40#32)).grantLock_bits (s.winPort (getBits w 0 6)) p (getBits w 0 6)
  exact ⟨_, (exec_lockAcquire_eq ht hwho hp hrel).trans (congrArg s.done hgrants), hheld, hwait, mget_mput_same _ _ _, rfl⟩

theorem exec_lockAcquire_waits (ht : s.takesWrite b (LWB_LOCK p) = true) (hwho : (s.busP b).isIn 11 = true) (hp : p < 128) (hrel : getBit w 7 = false)
    (hon : s.winOn (getBits w 0 6) = true) (hport : s.bndPort (s.winBnd (getBits w 0 6)) = p) (huser : s.lockUser p = false)
    (hheld : (mget s.brg.lock (s.winPort (getBits w 0 6))).isSome = true) :
    ∃ t, exec (.lockAcquire b p w) s = .next t ∧ t.bit (LWB_LOCK_WAIT p) = true ∧
      t.brg = { s.brg with wait := s.brg.wait ++ [(s.winPort (getBits w 0 6), p, getBits w 0 6)] } := by
  have hwin := s.lockStored_asked hp w
  have hwaits := State.lockAcquire_waits (s := s.lockStored p (w ||| 0x40#32)) (p := p) (by rw [hwin]; exact hon) (by rw [hwin]; exact hport) huser
    (by rw [hwin]; exact hheld)
  rw [hwin] at hwaits
  exact ⟨_, (exec_lockAcquire_eq ht hwho hp hrel).trans (congrArg s.done hwaits),
    State.bit_setBit_same _ (LWB_LOCK_WAIT p) true (show 9 + 1 ≤ 32 by decide) rfl, rfl⟩

theorem exec_lockAcquire_refuses (ht : s.takesWrite b (LWB_LOCK p) = true) (hwho : (s.busP b).isIn 11 = true) (hp : p < 128) (hrel : getBit w 7 = false)
    (hno : s.winOn (getBits w 0 6) = false ∨ s.bndPort (s.winBnd (getBits w 0 6)) ≠ p ∨ s.lockUser p = true) :
    ∃ t, exec (.lockAcquire b p w) s = .next t ∧ t.bit (LWB_LOCK_REFUSED p) = true ∧ t.brg = s.brg := by
  have hwin := s.lockStored_asked hp w
  have hrefused := State.lockAcquire_refused (s := s.lockStored p (w ||| 0x40#32)) (p := p) (by rw [hwin]; exact hno)
  exact ⟨_, (exec_lockAcquire_eq ht hwho hp hrel).trans (congrArg s.done hrefused),
    State.bit_setBit_same _ (LWB_LOCK_REFUSED p) true (show 10 + 1 ≤ 32 by decide) rfl, rfl⟩

theorem State.lockRelease_of_held (h : s.lockHeld p = some far) : s.lockRelease p = s.releaseFar far := by
  unfold State.lockRelease
  rw [h]

/-- A release that no access, fence or request waits for frees the lock and does nothing else. -/
theorem exec_lockRelease_idle (ht : s.takesWrite b (LWB_LOCK p) = true) (hwho : (s.busP b).isIn 11 = true) (hp : p < 128) (hacq : getBit w 6 = false)
    (hheld : s.lockHeld p = some far) (hl : mget s.brg.lock far = some l) (hhost : l.host = p) (hsent : l.sent = false) (hwait : s.brg.wait = [])
    (hacc : s.brg.acc = []) (hfence : ∀ n ∈ s.windowsOf far, (s.bwin n).fence = none) :
    ∃ t, exec (.lockRelease b p w) s = .next t ∧ t.bit (LWB_LOCK_HELD p) = false ∧ t.brg = { s.brg with lock := mdel s.brg.lock far } ∧ t.xbr = s.xbr := by
  subst hhost
  have hrelease : (s.lockStored l.host (w ||| 0x80#32)).lockRelease l.host = (s.lockStored l.host (w ||| 0x80#32)).lockFreed far l := by
    rw [State.lockRelease_of_held (s := s.lockStored l.host _) hheld, State.releaseFar_unsent (s := s.lockStored l.host _) hl hsent, State.nextLock_idle (s := (s.lockStored l.host _).lockFreed far l) hwait]
    exact State.bridgeRun_idle (s := (s.lockStored l.host _).lockFreed far l) hacc hfence
  exact ⟨_, (exec_lockRelease_eq ht hwho hp hacq).trans (congrArg s.done hrelease),
    State.bit_setBit_same _ (LWB_LOCK_HELD l.host) false (show 8 + 1 ≤ 32 by decide) rfl, rfl, rfl⟩

theorem exec_lockRelease_none (ht : s.takesWrite b (LWB_LOCK p) = true) (hwho : (s.busP b).isIn 11 = true) (hp : p < 128) (hacq : getBit w 6 = false)
    (hheld : s.lockHeld p = none) : ∃ t, exec (.lockRelease b p w) s = .next t ∧ t.brg = s.brg ∧ t.xbr = s.xbr ∧ t.refused = s.refused := by
  have hrelease : (s.lockStored p (w ||| 0x80#32)).lockRelease p = s.lockStored p (w ||| 0x80#32) := by
    unfold State.lockRelease
    rw [show (s.lockStored p (w ||| 0x80#32)).lockHeld p = none from hheld]
  exact ⟨_, (exec_lockRelease_eq ht hwho hp hacq).trans (congrArg s.done hrelease), rfl, rfl, rfl⟩

theorem exec_lockRelease_frees (ht : s.takesWrite b (LWB_LOCK p) = true) (hwho : (s.busP b).isIn 11 = true) (hp : p < 128) (hacq : getBit w 6 = false)
    (hheld : s.lockHeld p = some far) (hl : mget s.brg.lock far = some l) (hhost : l.host = p) (hwait : ∀ x ∈ s.brg.wait, x.2.1 ≠ p) :
    ∃ t, exec (.lockRelease b p w) s = .next t ∧ t.bit (LWB_LOCK_HELD p) = false ∧ (∀ k, mget t.brg.lock far = some k → k.host ≠ p) ∧
      ((∀ x ∈ s.brg.wait, x.1 ≠ far) → mget t.brg.lock far = none) ∧ t.refused = s.refused := by
  subst hhost
  obtain ⟨hclear, -, hholder, hnone, hrefused⟩ := State.releaseFar_frees (s := s.lockStored l.host (w ||| 0x80#32)) hl hp hwait
  exact ⟨_, (exec_lockRelease_eq ht hwho hp hacq).trans (congrArg s.done (State.lockRelease_of_held (s := s.lockStored l.host _) hheld)),
    hclear, hholder, hnone, hrefused⟩

/-- A released lock passes to the first request that waits. -/
theorem exec_lockRelease_passes (ht : s.takesWrite b (LWB_LOCK p) = true) (hwho : (s.busP b).isIn 11 = true) (hp : p < 128) (hacq : getBit w 6 = false)
    (hheld : s.lockHeld p = some far) (hl : mget s.brg.lock far = some l) (hhost : l.host = p) (hsent : l.sent = false) (hon : s.winOn n = true)
    (hfirst : s.brg.wait.head? = some (far, p + 1, n)) (hwait : ∀ x ∈ s.brg.wait, x.2.1 ≠ p) (hnext : p + 1 < 128) :
    ∃ t, exec (.lockRelease b p w) s = .next t ∧ t.bit (LWB_LOCK_HELD p) = false ∧ t.bit (LWB_LOCK_HELD (p + 1)) = true ∧
      t.bit (LWB_LOCK_WAIT (p + 1)) = false ∧ (mget t.brg.lock far).any (fun k => k.host == p + 1 && k.win == n && k.since == s.time.frame) = true := by
  subst hhost
  have hclear := (State.releaseFar_frees (s := s.lockStored l.host (w ||| 0x80#32)) hl hp hwait).1
  have hrelease : (s.lockStored l.host (w ||| 0x80#32)).releaseFar far =
      ((((s.lockStored l.host (w ||| 0x80#32)).lockFreed far l).lapsedGone far).grantLock far (l.host + 1) n).bridgeRun far := by
    rw [State.releaseFar_unsent (s := s.lockStored l.host _) hl hsent]
    exact congrArg (fun u : State => u.bridgeRun far) (State.nextLock_first hfirst hon)
  have hframe : (((s.lockStored l.host (w ||| 0x80#32)).lockFreed far l).lapsedGone far).time.frame = s.time.frame :=
    congrArg TimeSt.frame (State.lapsedGone_time _ far)
  generalize ((s.lockStored l.host (w ||| 0x80#32)).lockFreed far l).lapsedGone far = u at hrelease hframe
  obtain ⟨hgranted, hdone⟩ := u.grantLock_bits far (l.host + 1) n
  have hran := (u.grantLock far (l.host + 1) n).lockKept_bridgeRun far
  rw [← hrelease] at hran
  have hbits : ∀ f : Fld, f.addr = LWB_LOCK (l.host + 1) → ((s.lockStored l.host (w ||| 0x80#32)).releaseFar far).bit f = (u.grantLock far (l.host + 1) n).bit f :=
    fun f hf => congrArg (· == 1) (hran.fld f (by rw [hf]; unfold LWB_LOCK; omega) (by rw [hf]; unfold LWB_LOCK; omega))
  have hterms : (mget ((s.lockStored l.host (w ||| 0x80#32)).releaseFar far).brg.lock far).map BLock.terms = some (l.host + 1, n, s.time.frame) := by
    rw [hran.locks far, ← hframe]
    exact congrArg (Option.map BLock.terms) (mget_mput_same _ _ _)
  refine ⟨_, (exec_lockRelease_eq ht hwho hp hacq).trans (congrArg s.done (State.lockRelease_of_held (s := s.lockStored l.host _) hheld)),
    hclear, (hbits _ rfl).trans hgranted, (hbits _ rfl).trans hdone, ?_⟩
  obtain ⟨k, hk, hkterms⟩ := Option.map_eq_some_iff.1 hterms
  refine (congrArg (fun o : Option BLock => o.any fun k => k.host == l.host + 1 && k.win == n && k.since == s.time.frame) hk).trans ?_
  obtain ⟨hholder, hrest⟩ := Prod.mk.injEq .. ▸ hkterms
  obtain ⟨hwin, hsince⟩ := Prod.mk.injEq .. ▸ hrest
  simp [hholder, hwin, hsince]

end LockCommands

/-- Settles O41: a free lock is granted, a held one waited for and an improper request refused; what breaks a lock or releases it leaves its holder's word
with HELD clear, and issuing the accesses it held back changes no lock's terms. -/
theorem bridgeLocks : Obligations.BridgeLocks := by
  unfold Obligations.BridgeLocks
  refine ⟨fun _ _ _ _ => exec_lockAcquire_grants, fun _ _ _ _ => exec_lockAcquire_waits, fun _ _ _ _ => exec_lockAcquire_refuses,
    fun _ _ _ _ _ _ => exec_lockRelease_idle, fun _ _ _ _ => exec_lockRelease_none, ?idleTimeout, fun s far h => ?early,
    fun _ _ _ _ _ _ => exec_lockRelease_frees, fun _ _ _ => exec_lockTimeout_breaks, fun _ _ _ _ _ _ _ => exec_lockRelease_passes⟩
  case idleTimeout =>
    intro s far l hl hdue _ hhost hwait _ _
    obtain ⟨t, hexec, hheld, htmo, hcount, hnone⟩ := exec_lockTimeout_breaks hl hdue hhost (by rw [hwait]; intro x hx; cases hx)
    exact ⟨t, hexec, hnone (by rw [hwait]; intro x hx; cases hx), hheld, htmo, hcount⟩
  case early =>
    exact (congrArg s.done (State.lockTimeout_waits h)).trans (State.done_eq_next rfl rfl)

end Sys2Proof.Machine
end

section
/-! Proofs of the family 12_legacy_window_bridge: failed posted writes, fences of legacy windows, and what is read of them (O40). -/
set_option Elab.async false
namespace Sys2Proof.Machine
open Sys2Proof

/-! ### A failed posted write (R276) -/

theorem State.bwin_setBwin_same (s : State) (w : Nat) (x : BWin) : (s.setBwin w x).bwin w = x := mgetD_mputD_same s.brg.win w {} x

theorem State.bwin_congr {s t : State} (h : t.brg.win = s.brg.win) (w : Nat) : t.bwin w = s.bwin w := congrArg (fun m => mgetD m w ({} : BWin)) h

theorem State.fillWfail_valid (s : State) (w : Nat) (dpa : Option Nat) (posted : Bool) : (s.fillWfail w dpa posted).bit (LWB_WIN_WFAIL_VALID w) = true := by
  unfold State.fillWfail
  split_ifs with h
  · exact h
  · have haddr : ∀ g : Fld, g.addr = LWB_WIN_WADDR_LO w ∨ g.addr = LWB_WIN_WADDR_HI w → g.addr ≠ (LWB_WIN_WFAIL_VALID w).addr := by
      intro g hg
      simp only [LWB_WIN_WFAIL_VALID, LWB_WIN_WADDR_LO, LWB_WIN_WADDR_HI, LWB_WIN_WFAIL] at hg ⊢
      omega
    exact (congrArg (· == 1) ((State.fld_setFld_addr _ _ _ _ (haddr (LWB_WIN_WADDR_HI_DPA w) (.inr rfl))).trans
        (State.fld_setFld_addr _ _ _ _ (haddr (LWB_WIN_WADDR_LO_DPA w) (.inl rfl))))).trans
      ((State.bit_setBit_apart _ _ rfl).trans ((State.bit_setBit_apart _ _ rfl).trans
        (State.bit_setBit_same _ (LWB_WIN_WFAIL_VALID w) true (show 0 + 1 ≤ 32 by decide) rfl)))

theorem State.fillWfail_brg (s : State) (w : Nat) (dpa : Option Nat) (posted : Bool) : (s.fillWfail w dpa posted).brg = s.brg := by
  unfold State.fillWfail
  split_ifs <;> rfl

/-- The record of a failure shares its registers with no count. -/
theorem State.fillWfail_fld (s : State) (w : Nat) (dpa : Option Nat) (posted : Bool) {f : Fld} (hvalid : (LWB_WIN_WFAIL_VALID w).bitsApart f = true)
    (haddr : (LWB_WIN_WFAIL_ADDR_VALID w).bitsApart f = true) (hposted : (LWB_WIN_WFAIL_POSTED w).bitsApart f = true)
    (hlo : LWB_WIN_WADDR_LO w ≠ f.addr) (hhi : LWB_WIN_WADDR_HI w ≠ f.addr) : (s.fillWfail w dpa posted).fld f = s.fld f := by
  unfold State.fillWfail
  split_ifs
  · rfl
  · exact (State.fld_setFld_addr _ (LWB_WIN_WADDR_HI_DPA w) _ _ hhi).trans ((State.fld_setFld_addr _ (LWB_WIN_WADDR_LO_DPA w) _ _ hlo).trans
      ((State.fld_setBit_apart _ _ hposted).trans ((State.fld_setBit_apart _ _ haddr).trans (State.fld_setBit_apart _ _ hvalid))))

theorem State.fillWfail_PWF_CNT (s : State) (w : Nat) (dpa : Option Nat) (posted : Bool) :
    (s.fillWfail w dpa posted).fld (LWB_WIN_WFAIL_PWF_CNT w) = s.fld (LWB_WIN_WFAIL_PWF_CNT w) :=
  s.fillWfail_fld w dpa posted rfl rfl rfl (by simp only [LWB_WIN_WFAIL_PWF_CNT, LWB_WIN_WADDR_LO, LWB_WIN_WFAIL]; omega)
    (by simp only [LWB_WIN_WFAIL_PWF_CNT, LWB_WIN_WADDR_HI, LWB_WIN_WFAIL]; omega)

/-- A failed posted write has its record filled, is counted, and touches of the bridge's records its window's alone. -/
theorem State.postedFail_counts (s : State) {w : Nat} (hw : w < 64) (id dpa : Option Nat) :
    (s.postedFail w id dpa).bit (LWB_WIN_WFAIL_VALID w) = true ∧
      (s.postedFail w id dpa).fld (LWB_WIN_WFAIL_PWF_CNT w) = min (s.fld (LWB_WIN_WFAIL_PWF_CNT w) + 1) (2 ^ (LWB_WIN_WFAIL_PWF_CNT w).width - 1) ∧
      (s.postedFail w id dpa).brg = (s.failFence w id).brg := by
  have htold : (((s.failFence w id).inc (LWB_WIN_WFAIL_PWF_CNT w)).fillWfail w dpa true).BridgeKept (s.postedFail w id dpa) :=
    (State.bridgeKept_bridgeFault _ w dpa).trans (State.bridgeKept_raisePrivate _ _ (by decide))
  have hin : ∀ f : Fld, f.addr = LWB_WIN_WFAIL w → inBridge f := fun f hf => by
    unfold inBridge
    rw [hf]
    unfold LWB_WIN_WFAIL
    omega
  refine ⟨(htold.bit (hin _ rfl)).trans (State.fillWfail_valid _ _ _ _), ?_, htold.brg.trans (State.fillWfail_brg _ _ _ _)⟩
  rw [htold.fld _ (hin _ rfl), State.fillWfail_PWF_CNT]
  exact State.fld_inc_same (s.failFence w id) _ (show 16 + 16 ≤ 32 by decide)

/-- A failed posted write of unknown number fails the window's fence, or where there is none the next one. -/
theorem State.failFence_none (s : State) (w : Nat) :
    (∀ f, (s.bwin w).fence = some f → ((s.failFence w none).bwin w).fence = some { f with failed := true }) ∧
      ((s.bwin w).fence = none → ((s.failFence w none).bwin w).failed = true) := by
  unfold State.failFence
  constructor
  · intro f hf
    simp only [State.bwin_setBwin_same, hf]
    rfl
  · intro hnone
    simp only [State.bwin_setBwin_same, hnone]

theorem exec_postedWriteFailure_fails (s : State) {w : Nat} (far : Option Nat) (hw : w < 64) :
    ∃ t, exec (.postedWriteFailure w far) s = .next t ∧ t.bit (LWB_WIN_WFAIL_VALID w) = true ∧
      t.fld (LWB_WIN_WFAIL_PWF_CNT w) = min (s.fld (LWB_WIN_WFAIL_PWF_CNT w) + 1) (2 ^ (LWB_WIN_WFAIL_PWF_CNT w).width - 1) ∧
      (∀ f, (s.bwin w).fence = some f → (t.bwin w).fence = some { f with failed := true }) ∧
      ((s.bwin w).fence = none → (t.bwin w).failed = true) ∧ t.brg.acc = s.brg.acc := by
  obtain ⟨hvalid, hcount, hbrg⟩ := s.postedFail_counts hw none (match far with
    | some x => s.winDpa w x
    | none => none)
  obtain ⟨hfence, hnext⟩ := s.failFence_none w
  have hwin := State.bwin_congr (congrArg BrgSt.win hbrg) w
  refine ⟨_, congrArg s.done (if_neg (Nat.not_le.2 hw)), hvalid, hcount, fun f hf => ?_, fun hf => ?_, (congrArg BrgSt.acc hbrg :)⟩
  · exact (congrArg BWin.fence hwin).trans (hfence f hf)
  · exact (congrArg BWin.failed hwin).trans (hnext hf)

/-! ### A device's error message (R275, R276) -/

/-- The state in which the far port's issued writes have failed. -/
def State.writesFailed (s : State) (p : Nat) : State :=
  { s with brg.acc := s.brg.acc.map (fun a => if a.port = p ∧ a.write ∧ ! a.posted ∧ a.issued then { a with bad := true } else a) }

theorem State.deviceError_unposted {s : State} {p : Nat} (far : Option Nat) (h : ∀ w ∈ s.windowsOf p, (s.bwin w).posted = false) :
    s.deviceError p far = s.writesFailed p := by
  have hnone : (s.windowsOf p).filter (fun w => (s.bwin w).posted) = [] := List.filter_eq_nil_iff.2 fun w hw => by simp [h w hw]
  unfold State.deviceError
  simp only [hnone]
  cases far <;> rfl

theorem State.deviceError_posted {s : State} {p w : Nat} (h : (s.windowsOf p).filter (fun w => (s.bwin w).posted) = [w]) :
    s.deviceError p none = (s.writesFailed p).postedFail w none none := by
  unfold State.deviceError
  simp only [h]
  rfl

theorem State.windowsOf_lt {s : State} {p w : Nat} (h : w ∈ s.windowsOf p) : w < 64 :=
  List.mem_range.1 (List.mem_of_mem_filter (List.mem_of_mem_filter h))

theorem exec_deviceErrorMessage_posted {s : State} {p w : Nat} (h : (s.windowsOf p).filter (fun w => (s.bwin w).posted) = [w]) :
    ∃ t, exec (.deviceErrorMessage p none) s = .next t ∧ t.bit (LWB_WIN_WFAIL_VALID w) = true ∧
      t.fld (LWB_WIN_WFAIL_PWF_CNT w) = min (s.fld (LWB_WIN_WFAIL_PWF_CNT w) + 1) (2 ^ (LWB_WIN_WFAIL_PWF_CNT w).width - 1) := by
  have hmem : w ∈ (s.windowsOf p).filter (fun w => (s.bwin w).posted) := by rw [h]; exact .head _
  have hw : w < 64 := State.windowsOf_lt (List.mem_of_mem_filter hmem)
  obtain ⟨hvalid, hcount, -⟩ := (s.writesFailed p).postedFail_counts hw none none
  exact ⟨_, congrArg s.done (State.deviceError_posted h), hvalid, hcount⟩

/-! ### Fences (R277) -/

/-- A flush read is noted in the bridge and goes out. -/
theorem State.bridgeKept_flushRead (s : State) (w b port addr : Nat) (accs : List Nat) (fence : Option Nat) (alerts : List Nat) :
    ({ s with
      brg.serial := s.brg.serial + 1,
      brg.flush := s.brg.flush ++ [{ num := s.brg.serial, port := port, since := s.time.frame, accs := accs, fence := fence, alerts := alerts }] } : State).BridgeKept
      (s.flushRead w b port addr accs fence alerts) := State.bridgeKept_send _ _

/-- A fence that can go out goes out: nothing of it changes but that it has been sent. -/
theorem State.tryFence_fence {s : State} {w : Nat} {f : BFence} (h : (s.bwin w).fence = some f) :
    ∃ b, ((s.tryFence w).bwin w).fence = some { f with sent := b } ∧ (s.tryFence w).refused = s.refused ∧
      ∀ g, inBridge g → (s.tryFence w).fld g = s.fld g := by
  unfold State.tryFence
  simp only [h]
  split
  · exact ⟨f.sent, h, rfl, fun _ _ => rfl⟩
  · have hsent := State.bridgeKept_flushRead (s.setBwin w { s.bwin w with fence := some { f with sent := true } }) w (s.winBnd w) (s.winPort w) (s.winFar w) []
      (some w) []
    have hwin := State.bwin_congr (congrArg BrgSt.win hsent.brg) w
    exact ⟨true, (congrArg BWin.fence hwin).trans (congrArg BWin.fence (s.bwin_setBwin_same w _)), hsent.refused, fun g hg => hsent.fld g hg⟩

/-- The state in which a fence has begun and has not been tried. -/
def State.fenceBegun (s : State) (w : Nat) (hd : Option Nat) : State :=
  (s.setBwin w { s.bwin w with fence := some { mark := s.brg.serial, failed := (s.bwin w).failed, handle := hd, sent := false }, failed := false }).setBit
    (LWB_WIN_FENCE_DONE w) false

theorem State.startFence_eq {s : State} {w : Nat} (h : (s.bwin w).fence = none) (hd : Option Nat) :
    s.startFence w hd = some ((s.fenceBegun w hd).tryFence w) := by
  unfold State.startFence
  exact if_neg (by rw [h]; exact Bool.false_ne_true)

/-- A fence starts with the mark of the accesses before it and the failures since the last one, and clears DONE. -/
theorem State.fenceBegun_tried (s : State) {w : Nat} (hw : w < 64) (hd : Option Nat) :
    ∃ f, (((s.fenceBegun w hd).tryFence w).bwin w).fence = some f ∧ f.mark = s.brg.serial ∧ f.failed = (s.bwin w).failed ∧ f.handle = hd ∧
      ((s.fenceBegun w hd).tryFence w).bit (LWB_WIN_FENCE_DONE w) = false ∧ ((s.fenceBegun w hd).tryFence w).refused = s.refused := by
  have hfence : ((s.fenceBegun w hd).bwin w).fence = some { mark := s.brg.serial, failed := (s.bwin w).failed, handle := hd, sent := false } :=
    congrArg BWin.fence (s.bwin_setBwin_same w _)
  obtain ⟨b, hf, hrefused, hfld⟩ := State.tryFence_fence hfence
  have hin : inBridge (LWB_WIN_FENCE_DONE w) := by
    simp only [inBridge, LWB_WIN_FENCE_DONE, LWB_WIN_FENCE]
    omega
  exact ⟨_, hf, rfl, rfl, rfl, (congrArg (· == 1) (hfld _ hin)).trans
    (State.bit_setBit_same _ (LWB_WIN_FENCE_DONE w) false (show 1 + 1 ≤ 32 by decide) rfl), hrefused⟩

theorem State.startFence_busy {s : State} {w : Nat} (h : (s.bwin w).fence.isSome = true) (hd : Option Nat) : s.startFence w hd = none := by
  unfold State.startFence
  exact if_pos h

/-! ### BRIDGE_FENCE, LWB_WIN_FENCE and GET_WINDOW -/

section WindowCommands

variable {s : State} {rq : Rq} {p : Principal} {w : Nat}

theorem exec_bridgeFence_starts (hs : s.serves rq 0x0801 p = true) (hw : w < 64) (hsee : s.maySeeWindow p w = true) (hslot : s.lcSlots ≠ [])
    (hnone : (s.bwin w).fence = none) :
    ∃ t h f, exec (.bridgeFence rq w) s = .next t ∧ t.replied rq 0x0801 .inProgress s.time.frame [(2, h)] ∧ (t.bwin w).fence = some f ∧
      f.mark = s.brg.serial ∧ f.failed = (s.bwin w).failed ∧ f.handle = some h ∧ t.bit (LWB_WIN_FENCE_DONE w) = false := by
  have hbody : ∃ x : Nat × State, x = (s.entered rq).lcStart 0x0801 (rqRef rq 0x0801) p (routeTargetOf rq.route rq.carrier) := ⟨_, rfl⟩
  obtain ⟨x, hx⟩ := hbody
  have hseen : ¬ (! s.maySeeWindow p w) = true := by simp [hsee]
  have hbrg : x.2.brg = s.brg := by
    rw [hx, State.entered_eq]
    rfl
  have hbwin : x.2.bwin w = s.bwin w := State.bwin_congr (congrArg BrgSt.win hbrg) w
  obtain ⟨f, hf, hmark, hfailed, hhandle, hdone, -⟩ := x.2.fenceBegun_tried hw (some x.1)
  have hrun : ∃ m, exec (.bridgeFence rq w) s = .next { s.keepClock ((x.2.fenceBegun w (some x.1)).tryFence w) with
      out := s.sentReply rq 0x0801 { status := .inProgress, frame := s.time.frame, data := [(2, x.1)] } ((x.2.fenceBegun w (some x.1)).tryFence w).out,
      mbx.sess := m, pending := s.pending } := by
    refine done_entered hs _ _ (a := ((x.2.fenceBegun w (some x.1)).tryFence w).long s.time.frame x.1) ?_ rfl
    have hstart := State.startFence_eq (s := x.2) (w := w) (by rw [hbwin]; exact hnone) (some x.1)
    rw [hx, State.entered_eq] at hstart ⊢
    exact (if_neg (Nat.not_le.2 hw)).trans ((if_neg hseen).trans ((if_neg hslot).trans (by simp only [hstart])))
  obtain ⟨m, hrun⟩ := hrun
  refine ⟨_, x.1, f, hrun, rfl, hf, hmark.trans (congrArg BrgSt.serial hbrg), hfailed.trans (congrArg BWin.failed hbwin), hhandle, hdone⟩

theorem exec_bridgeFence_busy (hs : s.serves rq 0x0801 p = true) (hw : w < 64) (hsee : s.maySeeWindow p w = true) (hsome : (s.bwin w).fence.isSome = true) :
    ∃ t, exec (.bridgeFence rq w) s = .next t ∧ s.turnsAway t rq 0x0801 .busy := by
  have hseen : ¬ (! s.maySeeWindow p w) = true := by simp [hsee]
  refine done_turned hs _ _ fun m => (if_neg (Nat.not_le.2 hw)).trans ((if_neg hseen).trans ?_)
  dsimp only
  split
  · rfl
  · have hbusy : ∀ u : State, u.brg = s.brg → ∀ h, u.startFence w h = none := fun u hu _ => State.startFence_busy (by unfold State.bwin; rw [hu]; exact hsome) _
    rw [hbusy (State.lcStart { s with mbx.sess := m } 0x0801 (rqRef rq 0x0801) p (routeTargetOf rq.route rq.carrier)).2 rfl]
    rfl

theorem exec_getWindow_reads (hs : s.serves rq 0x0802 p = true) (hw : w < 64) (hsee : s.maySeeWindow p w = true) :
    ∃ t, exec (.getWindow rq w) s = .next t ∧ t.replied rq 0x0802 .success s.time.frame [(4, (s.curWord (LWB_WIN_CFG w)).toNat % 2 ^ 30),
        (4, (s.word (LWB_WIN_WFAIL w)).toNat), (4, (s.word (LWB_WIN_ERR w)).toNat)] ∧ t = { s with out := t.out, mbx.sess := t.mbx.sess } := by
  have hseen : ¬ (! s.maySeeWindow p w) = true := by simp [hsee]
  exact done_turned hs _ _ fun _ => (if_neg (Nat.not_le.2 hw)).trans (if_neg hseen)

theorem exec_getWindow_refuses (hs : s.serves rq 0x0802 p = true) (hw : w < 64) (hsee : s.maySeeWindow p w = false) :
    ∃ t, exec (.getWindow rq w) s = .next t ∧ s.turnsAway t rq 0x0802 .permission := by
  have hunseen : (! s.maySeeWindow p w) = true := by simp [hsee]
  exact done_turned hs _ _ fun _ => (if_neg (Nat.not_le.2 hw)).trans (if_pos hunseen)

end WindowCommands

theorem State.fenceWrite_starts {s : State} {w : Nat} (h : (s.bwin w).fence = none) : s.fenceWrite w = (s.fenceBegun w none).tryFence w := by
  unfold State.fenceWrite
  rw [State.startFence_eq h]
  rfl

theorem State.fenceWrite_busy {s : State} {w : Nat} (h : (s.bwin w).fence.isSome = true) : s.fenceWrite w = s.countRefused := by
  unfold State.fenceWrite
  rw [State.startFence_busy h]
  rfl

section FenceWrites

variable {s : State} {b : Bus} {n : Nat} {w : Word}

/-- A write of FENCE starts a fence, or counts a refused access (R277). -/
theorem exec_bridgeFenceWrite_eq (ht : s.takesWrite b (LWB_WIN_FENCE n) = true) (hwho : (s.busP b).isIn 11 = true) (hn : n < 64) :
    ∃ r, exec (.bridgeFenceWrite b n w) s = s.done (({ s with regs := r, latch := mdel s.latch (LWB_WIN_FENCE n) } : State).fenceWrite n) := by
  have hwho' : (s.busAcc b).prin.isIn 11 = true := hwho
  have hwrites : ∃ r, s.writeWord (s.busAcc b) (LWB_WIN_FENCE n) (w ||| 1#32) =
      ({ s with regs := r, latch := mdel s.latch (LWB_WIN_FENCE n) } : State).onBit (1#32 &&& (w ||| 1#32)) 0 (fun s => s.fenceWrite n) := by
    obtain ⟨r, hr, -, -⟩ := writeWord_acts (s := s) (x := s.busAcc b) (w := w ||| 1#32) (lookupReg_LWB_WIN_FENCE n hn) (fun _ => rfl) rfl (by decide) rfl
      (by simp)
    refine ⟨r, hr.trans ?_⟩
    simp [State.mineMask, RegDef.maskOf, fieldFor, fieldWho, hwho', State.afterWrite, fieldMask]
  obtain ⟨r, hr⟩ := hwrites
  have hact : getBit (1#32 &&& (w ||| 1#32)) 0 = true := by rw [getBit_and_of_set rfl, getBit_or_of_set rfl]
  exact ⟨r, congrArg s.done ((busWrite_takes ht (.bridgeFenceWrite b n w) (w ||| 1#32)).trans (hr.trans (if_pos hact)))⟩

theorem exec_bridgeFenceWrite_starts (ht : s.takesWrite b (LWB_WIN_FENCE n) = true) (hwho : (s.busP b).isIn 11 = true) (hn : n < 64)
    (hnone : (s.bwin n).fence = none) :
    ∃ t f, exec (.bridgeFenceWrite b n w) s = .next t ∧ (t.bwin n).fence = some f ∧ f.mark = s.brg.serial ∧ f.handle = none ∧
      t.bit (LWB_WIN_FENCE_DONE n) = false ∧ t.refused = s.refused := by
  obtain ⟨r, hexec⟩ := exec_bridgeFenceWrite_eq (w := w) ht hwho hn
  obtain ⟨f, hf, hmark, -, hhandle, hdone, hrefused⟩ :=
    State.fenceBegun_tried { s with regs := r, latch := mdel s.latch (LWB_WIN_FENCE n) } hn none
  exact ⟨_, f, hexec.trans (congrArg s.done (State.fenceWrite_starts (s := { s with regs := r, latch := mdel s.latch (LWB_WIN_FENCE n) }) hnone)),
    hf, hmark, hhandle, hdone, hrefused⟩

theorem exec_bridgeFenceWrite_busy (ht : s.takesWrite b (LWB_WIN_FENCE n) = true) (hwho : (s.busP b).isIn 11 = true) (hn : n < 64)
    (hsome : (s.bwin n).fence.isSome = true) : ∃ t, exec (.bridgeFenceWrite b n w) s = .next t ∧ t.brg = s.brg ∧ t.refused = s.refused + 1 := by
  obtain ⟨r, hexec⟩ := exec_bridgeFenceWrite_eq (w := w) ht hwho hn
  exact ⟨_, hexec.trans (congrArg s.done (State.fenceWrite_busy (s := { s with regs := r, latch := mdel s.latch (LWB_WIN_FENCE n) }) hsome)), rfl, rfl⟩

end FenceWrites

/-- Settles O40: a failed posted write fills its record, is counted and fails the fence; a fence starts with the mark of the accesses before it, is busy
while one is in progress, and a window is read by whom it may be. -/
theorem bridgeFailuresAndFences : Obligations.BridgeFailuresAndFences := by
  unfold Obligations.BridgeFailuresAndFences
  exact ⟨fun s _ far hw => exec_postedWriteFailure_fails s far hw,
    fun s _ _ hw => (congrArg s.done (if_pos hw)).trans (State.done_eq_next rfl rfl),
    fun s _ far h => ⟨_, (congrArg s.done (State.deviceError_unposted far h)).trans (State.done_eq_next rfl rfl), rfl⟩,
    fun _ _ _ => exec_deviceErrorMessage_posted, fun _ _ _ _ => exec_bridgeFence_starts, fun _ _ _ _ => exec_bridgeFence_busy,
    fun _ _ _ _ => exec_bridgeFenceWrite_starts, fun _ _ _ _ => exec_bridgeFenceWrite_busy, fun _ _ _ _ => exec_getWindow_reads,
    fun _ _ _ _ => exec_getWindow_refuses⟩

end Sys2Proof.Machine
end

section
/-! Proofs of the family 12_legacy_window_bridge: completions, flush reads and time-outs of far traffic (O39). -/
set_option Elab.async false
namespace Sys2Proof.Machine
open Sys2Proof

/-! ### Answers to the host (R272, R275) -/

/-- Whether a port takes a message turns on the protocol of its kind alone. -/
theorem State.takes_congr (s : State) (p : Nat) {m n : Msg} (hio : n.kind.isIo = m.kind.isIo) (hcm : n.kind.isCm = m.kind.isCm) (hkey : n.key = m.key) :
    s.takes p n = s.takes p m := by
  unfold State.takes State.carriesKind State.ideBlocked State.ioOnly
  rw [hio, hcm, hkey]

/-- Events, faults and error records change nothing of what a port takes. -/
theorem State.Recorded.takes {s t : State} (h : s.Recorded t) (p : Nat) (m : Msg) : t.takes p m = s.takes p m := by
  have hbit : ∀ (f : Fld) {o : Nat}, f.addr = 0x1000000 + o + p * 0x10000 → o < 0x24 → t.bit f = s.bit f := by
    intro f o haddr ho
    unfold State.bit
    rw [h.fld f (Fld.OffEvents.of_port haddr (by omega) (by omega)) (by omega)]
  have hcur : ∀ f, t.cur f = s.cur f := fun f => by unfold State.cur; rw [h.force]
  have hup : t.bit (PRT_LINK_STAT_UP p) = s.bit (PRT_LINK_STAT_UP p) := hbit _ (o := 0x0c) rfl (by decide)
  have hcxl : t.bit (PRT_LINK_STAT_CXL p) = s.bit (PRT_LINK_STAT_CXL p) := hbit _ (o := 0x0c) rfl (by decide)
  have hio : t.bit (PRT_IDE_STAT_IO_SECURE p) = s.bit (PRT_IDE_STAT_IO_SECURE p) := hbit _ (o := 0x14) rfl (by decide)
  have hcm : t.bit (PRT_IDE_STAT_CM_SECURE p) = s.bit (PRT_IDE_STAT_CM_SECURE p) := hbit _ (o := 0x14) rfl (by decide)
  unfold State.takes State.linkUp State.carriesKind State.ideBlocked State.ioOnly State.ioBlocked State.cmBlocked State.role State.curBit
  rw [hup, hcxl, hio, hcm, hcur, hcur, hcur]

theorem State.takes_putAcc (s : State) (a : BAcc) (p : Nat) (m : Msg) : (s.putAcc a).takes p m = s.takes p m := rfl

theorem State.sendQuiet_of_takes {s : State} {m : Msg} (h : s.takes m.dst m = true) : s.sendQuiet m = s.push m :=
  if_neg (by simp [h])

theorem State.voq_push_same (s : State) (m : Msg) : (s.push m).voq m.src m.dst m.kind.cls = s.voq m.src m.dst m.kind.cls ++ [{ m with ord := s.xbr.serial }] :=
  mgetD_mputD_same _ _ _ _

/-- The kind of the answer to an access. -/
def BAcc.answerKind (a : BAcc) : MsgKind :=
  if a.write then .ndr 0 else match a.kind with
    | .rdShared => .drs 1
    | .rdOwn => .drs 2
    | _ => .drs 0

theorem BAcc.answerKind_class (a : BAcc) : a.answerKind.isIo = false ∧ a.answerKind.isCm = true ∧ a.answerKind.cls = 0 := by
  unfold BAcc.answerKind
  repeat' split
  all_goals exact ⟨rfl, rfl, rfl⟩

/-- The answer to an access. -/
def State.answerMsg (s : State) (a : BAcc) (d : Nat) (poison : Bool) : Msg :=
  { src := 144, dst := a.host, kind := a.answerKind, bnd := some a.bnd, tag := a.tag, data := d, poison := poison, len := if a.write then 0 else 64,
    tc := some (s.bndTc a.bnd) }

/-- The bridge answers a host that can be reached: with the data of a read, or a write's completion. -/
theorem State.bridgeAnswer_sends {s : State} {a : BAcc} (hmir : a.mir = 0) (htakes : s.takes a.host { src := 144, dst := a.host, kind := .ndr 0 } = true)
    (d : Nat) (poison : Bool) :
    ∃ m, m ∈ (s.bridgeAnswer a d poison).voq 144 a.host 0 ∧ m.data = d ∧ m.poison = poison ∧ m.tag = a.tag ∧ (a.write = true → m.kind = .ndr 0) ∧
      (s.bridgeAnswer a d poison).regs = s.regs := by
  obtain ⟨hio, hcm, hcls⟩ := a.answerKind_class
  have hpush : s.bridgeAnswer a d poison = s.push (s.answerMsg a d poison) :=
    (if_neg (not_not.2 hmir)).trans (State.sendQuiet_of_takes ((s.takes_congr a.host (m := { src := 144, dst := a.host, kind := .ndr 0 })
      (n := s.answerMsg a d poison) hio hcm rfl).trans htakes))
  have hvoq := s.voq_push_same (s.answerMsg a d poison)
  rw [show (s.answerMsg a d poison).kind.cls = 0 from hcls] at hvoq
  refine ⟨{ s.answerMsg a d poison with ord := s.xbr.serial }, ?_, rfl, rfl, rfl, fun hwrite => if_pos hwrite, (congrArg State.regs hpush).trans rfl⟩
  rw [hpush]
  exact hvoq ▸ List.mem_append_right _ (.head _)

theorem State.bridgeKept_bridgeAnswer (s : State) (a : BAcc) (d : Nat) (poison : Bool) : s.BridgeKept (s.bridgeAnswer a d poison) := by
  unfold State.bridgeAnswer
  split
  · exact .refl s
  · exact s.bridgeKept_sendQuiet _

/-! ### Units of a far read (R271, R272) -/

/-- An access with a unit taken: its data where the unit came, and its failure where it did not. -/
def BAcc.unitTaken (a : BAcc) (u : Nat) (ok : Bool) (v : Nat) : BAcc :=
  { a with units := sdel a.units u, bad := a.bad || ! ok, data := if ok then a.takeUnit u v else a.data }

theorem BAcc.unitTaken_same (a : BAcc) (u : Nat) (ok : Bool) (v : Nat) :
    (a.unitTaken u ok v).id = a.id ∧ (a.unitTaken u ok v).mir = a.mir ∧ (a.unitTaken u ok v).host = a.host ∧ (a.unitTaken u ok v).tag = a.tag :=
  ⟨rfl, rfl, rfl, rfl⟩

section Units

variable {s : State} {id u v : Nat} {ok : Bool} {a : BAcc}

theorem State.unitDone_idle (h : ∀ a, s.brg.acc.find? (fun a => a.id == id) = some a → a.issued = false ∨ u ∉ a.units) : s.unitDone id u ok v = s := by
  unfold State.unitDone
  split
  · rfl
  next a ha =>
    refine if_pos ?_
    rcases h a ha with hissued | hunit
    · exact .inl (by simp [hissued])
    · exact .inr (by simp [hunit])

theorem State.unitDone_write (ha : s.brg.acc.find? (fun a => a.id == id) = some a) (hissued : a.issued = true) (hu : u ∈ a.units) (hwrite : a.write = true) :
    s.unitDone id u ok v = if ok then s else s.putAcc { a with bad := true } := by
  unfold State.unitDone
  simp only [ha]
  exact (if_neg (by simp [hissued, hu])).trans (if_pos hwrite)

theorem State.unitDone_read (ha : s.brg.acc.find? (fun a => a.id == id) = some a) (hissued : a.issued = true) (hu : u ∈ a.units) (hread : a.write = false) :
    s.unitDone id u ok v =
      if (sdel a.units u).isEmpty then (s.putAcc (a.unitTaken u ok v)).readDone (a.unitTaken u ok v) else s.putAcc (a.unitTaken u ok v) := by
  unfold State.unitDone
  simp only [ha]
  exact (if_neg (by simp [hissued, hu])).trans (if_neg (by simp [hread]))

theorem State.unitTimeout_due (ha : s.brg.acc.find? (fun a => a.id == id) = some a) (hissued : a.issued = true) (hread : a.write = false)
    (hdue : a.since + s.cur LWB_CFG_COMP_TMO ≤ s.time.frame) : s.unitTimeout false id u = s.unitDone id u false 0 := by
  unfold State.unitTimeout
  simp only [ha, Bool.false_eq_true, if_false]
  exact if_pos ⟨hissued, by simp [hread], hdue⟩

theorem State.unitTimeout_early (h : ∀ a, s.brg.acc.find? (fun a => a.id == id) = some a → s.time.frame < a.since + s.cur LWB_CFG_COMP_TMO) :
    s.unitTimeout false id u = s := by
  unfold State.unitTimeout
  simp only [Bool.false_eq_true, if_false]
  split
  next a ha => exact if_neg fun hdue => Nat.not_le.2 (h a ha) hdue.2.2
  · rfl

theorem id_of_find {l : List BAcc} (ha : l.find? (fun a => a.id == id) = some a) : a.id = id := by simpa using List.find?_some ha

theorem not_mem_dropAcc (s : State) (id : Nat) : ∀ x ∈ (s.dropAcc id).brg.acc, x.id ≠ id := fun x hx => by
  simpa using (List.mem_filter.1 hx).2

/-- A far read whose last unit came is answered with its data. -/
theorem State.readDone_good (hmir : a.mir = 0) (hgood : a.bad = false) : s.readDone a = (s.dropAcc a.id).bridgeAnswer a a.data false :=
  (if_neg (by omega)).trans (if_neg (by simp [hgood]))

/-- The state in which a failed far read has been counted and recorded. -/
def State.readFailed (s : State) (a : BAcc) : State := ((s.dropAcc a.id).inc (LWB_WIN_ERR_RD_FAIL a.win)).bridgeFault a.win (some a.dpa)

theorem State.readDone_bad (hmir : a.mir = 0) (hbad : a.bad = true) : s.readDone a = (s.readFailed a).bridgeAnswer a allOnes true :=
  (if_neg (by omega)).trans (if_pos hbad)

theorem State.recorded_bridgeFault (s : State) (w : Nat) (dpa : Option Nat) : s.Recorded (s.bridgeFault w dpa) := by
  cases dpa with
  | some a => exact (State.Noted.of_eq rfl rfl rfl fun _ h => h : s.Noted s.draw.2).recorded.trans (State.recorded_bindFault _ _ _ _ _ _)
  | none =>
    exact (State.Noted.of_eq rfl rfl rfl fun _ h => h : s.Noted s.draw.2.draw.2).recorded.trans (State.recorded_bindFault _ _ _ _ _ _)

theorem State.recorded_readFailed (s : State) {a : BAcc} (hw : a.win < 64) : s.Recorded (s.readFailed a) := by
  have hdrop : s.Noted (s.dropAcc a.id) := .of_eq rfl rfl rfl fun _ h => h
  have hcount : (s.dropAcc a.id).Noted ((s.dropAcc a.id).inc (LWB_WIN_ERR_RD_FAIL a.win)) :=
    State.noted_setFld_low _ _ (by simp only [LWB_WIN_ERR_RD_FAIL, LWB_WIN_ERR]; omega)
  exact (hdrop.trans hcount).recorded.trans (State.recorded_bridgeFault _ _ _)

theorem State.readFailed_counts (s : State) {a : BAcc} (hw : a.win < 64) :
    (s.readFailed a).fld (LWB_WIN_ERR_RD_FAIL a.win) = min (s.fld (LWB_WIN_ERR_RD_FAIL a.win) + 1) (2 ^ (LWB_WIN_ERR_RD_FAIL a.win).width - 1) ∧
      (s.readFailed a).brg = (s.dropAcc a.id).brg := by
  have htold := ((s.dropAcc a.id).inc (LWB_WIN_ERR_RD_FAIL a.win)).bridgeKept_bridgeFault a.win (some a.dpa)
  refine ⟨(htold.fld _ ?_).trans (State.fld_inc_same (s.dropAcc a.id) _ (show 0 + 16 ≤ 32 by decide)), htold.brg⟩
  simp only [inBridge, LWB_WIN_ERR_RD_FAIL, LWB_WIN_ERR]
  omega

/-- A far read that came whole is answered with its data, and no register changes. -/
theorem State.readDone_answers (hmir : a.mir = 0) (hgood : a.bad = false) (htakes : s.takes a.host { src := 144, dst := a.host, kind := .ndr 0 } = true) :
    (∀ x ∈ (s.readDone a).brg.acc, x.id ≠ a.id) ∧ (s.readDone a).regs = s.regs ∧
      ∃ m, m ∈ (s.readDone a).voq 144 a.host 0 ∧ m.data = a.data ∧ m.poison = false ∧ m.tag = a.tag := by
  obtain ⟨m, hm, hdata, hpoison, htag, -, hregs⟩ := State.bridgeAnswer_sends (s := s.dropAcc a.id) hmir htakes a.data false
  have hkept := (s.dropAcc a.id).bridgeKept_bridgeAnswer a a.data false
  rw [State.readDone_good hmir hgood]
  refine ⟨fun x hx => ?_, hregs, m, hm, hdata, hpoison, htag⟩
  rw [hkept.brg] at hx
  exact not_mem_dropAcc _ a.id x hx

theorem exec_farUnitCompletion_answers (ha : s.brg.acc.find? (fun a => a.id == id) = some a) (hissued : a.issued = true) (hunits : a.units = [u])
    (hread : a.write = false) (hmir : a.mir = 0) (hgood : a.bad = false)
    (htakes : s.takes a.host { src := 144, dst := a.host, kind := .ndr 0 } = true) :
    ∃ t m, exec (.farUnitCompletion id u true v) s = .next t ∧ (∀ x ∈ t.brg.acc, x.id ≠ id) ∧ m ∈ t.voq 144 a.host 0 ∧ m.data = a.takeUnit u v ∧
      m.poison = false ∧ m.tag = a.tag ∧ t.regs = s.regs := by
  have hdone : s.unitDone id u true v = (s.putAcc (a.unitTaken u true v)).readDone (a.unitTaken u true v) := by
    rw [State.unitDone_read ha hissued (by simp [hunits]) hread, hunits]
    exact if_pos (by simp [sdel])
  have hdata : (a.unitTaken u true v).data = a.takeUnit u v := by simp only [BAcc.unitTaken, if_true]
  have hbad : (a.unitTaken u true v).bad = false := by simp [BAcc.unitTaken, hgood]
  obtain ⟨hid, hmir', hhost, htag'⟩ := a.unitTaken_same u true v
  generalize a.unitTaken u true v = b at hdone hdata hbad hid hmir' hhost htag'
  obtain ⟨hgone, hregs, m, hm, hmdata, hpoison, htag⟩ := State.readDone_answers (s := s.putAcc b) (a := b) (hmir'.trans hmir) hbad
    (by rw [hhost]; exact (s.takes_putAcc b _ _).trans htakes)
  rw [hid, id_of_find ha] at hgone
  rw [hhost] at hm
  exact ⟨_, m, congrArg s.done hdone, hgone, hm, hmdata.trans hdata, hpoison, htag.trans htag', hregs⟩

theorem State.unitDone_fails (ha : s.brg.acc.find? (fun a => a.id == id) = some a) (hissued : a.issued = true) (hunits : a.units = [u])
    (hread : a.write = false) (hmir : a.mir = 0) :
    s.unitDone id u false v =
      ((s.putAcc (a.unitTaken u false v)).readFailed (a.unitTaken u false v)).bridgeAnswer (a.unitTaken u false v) allOnes true := by
  rw [State.unitDone_read ha hissued (by simp [hunits]) hread, hunits]
  exact (if_pos (by simp [sdel])).trans (State.readDone_bad (a := a.unitTaken u false v) hmir (by simp [BAcc.unitTaken]))

/-- The last unit of a far read that did not come: the access is gone and the failure counted. -/
theorem State.unitDone_fails_counts (ha : s.brg.acc.find? (fun a => a.id == id) = some a) (hissued : a.issued = true) (hunits : a.units = [u])
    (hread : a.write = false) (hmir : a.mir = 0) (hw : a.win < 64) :
    (∀ x ∈ (s.unitDone id u false v).brg.acc, x.id ≠ id) ∧ (s.unitDone id u false v).fld (LWB_WIN_ERR_RD_FAIL a.win) =
      min (s.fld (LWB_WIN_ERR_RD_FAIL a.win) + 1) (2 ^ (LWB_WIN_ERR_RD_FAIL a.win).width - 1) := by
  obtain ⟨hcount, hbrg⟩ := (s.putAcc (a.unitTaken u false v)).readFailed_counts (a := a.unitTaken u false v) hw
  rw [State.unitDone_fails ha hissued hunits hread hmir]
  have hkept := ((s.putAcc (a.unitTaken u false v)).readFailed (a.unitTaken u false v)).bridgeKept_bridgeAnswer (a.unitTaken u false v) allOnes true
  refine ⟨fun x hx => ?_, (hkept.fld _ ?_).trans hcount⟩
  · rw [hkept.brg, hbrg] at hx
    exact id_of_find ha ▸ not_mem_dropAcc _ a.id x hx
  · simp only [inBridge, LWB_WIN_ERR_RD_FAIL, LWB_WIN_ERR]
    omega

theorem exec_farUnitCompletion_fails (ha : s.brg.acc.find? (fun a => a.id == id) = some a) (hissued : a.issued = true) (hunits : a.units = [u])
    (hread : a.write = false) (hmir : a.mir = 0) (hw : a.win < 64)
    (htakes : s.takes a.host { src := 144, dst := a.host, kind := .ndr 0 } = true) :
    ∃ t m, exec (.farUnitCompletion id u false v) s = .next t ∧ (∀ x ∈ t.brg.acc, x.id ≠ id) ∧ m ∈ t.voq 144 a.host 0 ∧ m.data = allOnes ∧
      m.poison = true ∧ m.tag = a.tag ∧
      t.fld (LWB_WIN_ERR_RD_FAIL a.win) = min (s.fld (LWB_WIN_ERR_RD_FAIL a.win) + 1) (2 ^ (LWB_WIN_ERR_RD_FAIL a.win).width - 1) := by
  obtain ⟨hgone, hcount⟩ := State.unitDone_fails_counts (v := v) ha hissued hunits hread hmir hw
  have hrecorded := (s.putAcc (a.unitTaken u false v)).recorded_readFailed (a := a.unitTaken u false v) hw
  obtain ⟨m, hm, hdata, hpoison, htag, -, -⟩ := State.bridgeAnswer_sends (s := (s.putAcc (a.unitTaken u false v)).readFailed (a.unitTaken u false v))
    (a := a.unitTaken u false v) hmir ((hrecorded.takes _ _).trans htakes) allOnes true
  rw [← State.unitDone_fails ha hissued hunits hread hmir] at hm
  exact ⟨_, m, rfl, hgone, hm, hdata, hpoison, htag, hcount⟩

theorem exec_farUnitTimeout_fails (ha : s.brg.acc.find? (fun a => a.id == id) = some a) (hissued : a.issued = true) (hunits : a.units = [u])
    (hread : a.write = false) (hmir : a.mir = 0) (hw : a.win < 64) (hdue : a.since + s.cur LWB_CFG_COMP_TMO ≤ s.time.frame) :
    ∃ t, exec (.farUnitTimeout false id u) s = .next t ∧ (∀ x ∈ t.brg.acc, x.id ≠ id) ∧
      t.fld (LWB_WIN_ERR_RD_FAIL a.win) = min (s.fld (LWB_WIN_ERR_RD_FAIL a.win) + 1) (2 ^ (LWB_WIN_ERR_RD_FAIL a.win).width - 1) := by
  obtain ⟨hgone, hcount⟩ := State.unitDone_fails_counts (v := 0) ha hissued hunits hread hmir hw
  exact ⟨_, congrArg s.done (State.unitTimeout_due ha hissued hread hdue), hgone, hcount⟩

theorem State.unitDone_more (ha : s.brg.acc.find? (fun a => a.id == id) = some a) (hissued : a.issued = true) (hu : u ∈ a.units) (hread : a.write = false)
    (hmore : sdel a.units u ≠ []) :
    s.unitDone id u ok v = { s with brg.acc := s.brg.acc.map (fun b => if b.id = id then a.unitTaken u ok v else b) } := by
  rw [State.unitDone_read ha hissued hu hread, ← id_of_find ha]
  exact if_neg (by simpa using hmore)

end Units

/-! ### Writes and their flush (R275) -/

section Writes

variable {s : State} {id n w : Nat} {bad ok : Bool} {a : BAcc} {f : BFlush}

/-- A failed write fills the window's failure record, is counted, and changes nothing of the bridge's own records. -/
theorem State.writeFail_counts (s : State) {w : Nat} (hw : w < 64) (dpa : Nat) :
    (s.writeFail w dpa).bit (LWB_WIN_WFAIL_VALID w) = true ∧
      (s.writeFail w dpa).fld (LWB_WIN_ERR_WR_FAIL w) = min (s.fld (LWB_WIN_ERR_WR_FAIL w) + 1) (2 ^ (LWB_WIN_ERR_WR_FAIL w).width - 1) := by
  have htold : ((s.fillWfail w (some dpa) false).inc (LWB_WIN_ERR_WR_FAIL w)).BridgeKept (s.writeFail w dpa) :=
    (State.bridgeKept_bridgeFault _ w _).trans (State.bridgeKept_raisePrivate _ _ (by decide))
  have hvalid : inBridge (LWB_WIN_WFAIL_VALID w) := by
    simp only [inBridge, LWB_WIN_WFAIL_VALID, LWB_WIN_WFAIL]
    omega
  have hcount : inBridge (LWB_WIN_ERR_WR_FAIL w) := by
    simp only [inBridge, LWB_WIN_ERR_WR_FAIL, LWB_WIN_ERR]
    omega
  constructor
  · refine (htold.bit hvalid).trans ((State.bit_inc_addr _ _ _ ?_).trans (State.fillWfail_valid _ _ _ _))
    simp only [LWB_WIN_WFAIL_VALID, LWB_WIN_WFAIL, LWB_WIN_ERR_WR_FAIL, LWB_WIN_ERR]
    omega
  · rw [htold.fld _ hcount, State.fld_inc_same _ _ (show 16 + 16 ≤ 32 by decide), State.fillWfail_fld _ _ _ _ rfl rfl rfl]
    · simp only [LWB_WIN_WADDR_LO, LWB_WIN_ERR_WR_FAIL, LWB_WIN_ERR]
      omega
    · simp only [LWB_WIN_WADDR_HI, LWB_WIN_ERR_WR_FAIL, LWB_WIN_ERR]
      omega

theorem State.writeFail_brg (s : State) (w dpa : Nat) : (s.writeFail w dpa).brg = s.brg :=
  (((State.bridgeKept_bridgeFault _ w _).trans (State.bridgeKept_raisePrivate _ _ (by decide))).brg.trans rfl).trans
    (s.fillWfail_brg w (some dpa) false)

/-- A write that is complete with its flush leaves the bridge; nothing else of the bridge's own records changes. -/
theorem State.writeDone_brg (s : State) (bad : Bool) (id : Nat) :
    (s.writeDone bad id).brg = { s.brg with acc := s.brg.acc.filter (fun a => a.id != id) } := by
  unfold State.writeDone
  split
  next hnone =>
    have hall : s.brg.acc.filter (fun a => a.id != id) = s.brg.acc := List.filter_eq_self.2 fun a ha => by
      simpa using List.find?_eq_none.1 hnone a ha
    rw [hall]
  next a ha =>
    have hfail := State.writeFail_brg (s.dropAcc id) a.win a.dpa
    dsimp only
    split_ifs
    · exact hfail
    · rfl
    · exact (State.bridgeKept_bridgeAnswer _ _ _ _).brg.trans hfail
    · exact (State.bridgeKept_bridgeAnswer _ _ _ _).brg

theorem State.foldl_writeDone_brg (bad : Bool) (l : List Nat) (s : State) :
    ∃ acc, (l.foldl (fun s id => s.writeDone bad id) s).brg = { s.brg with acc := acc } ∧ (∀ x ∈ acc, x ∈ s.brg.acc ∧ x.id ∉ l) := by
  induction l generalizing s with
  | nil => exact ⟨s.brg.acc, rfl, fun x hx => ⟨hx, List.not_mem_nil⟩⟩
  | cons id l ih =>
    obtain ⟨acc, hbrg, hacc⟩ := ih (s.writeDone bad id)
    rw [s.writeDone_brg bad id] at hbrg hacc
    refine ⟨acc, hbrg, fun x hx => ?_⟩
    obtain ⟨hmem, hnot⟩ := hacc x hx
    obtain ⟨hin, hne⟩ := List.mem_filter.1 hmem
    exact ⟨hin, by simpa [hnot] using hne⟩

theorem State.writeDone_good (ha : s.brg.acc.find? (fun a => a.id == id) = some a) (hgood : a.bad = false) (hmir : a.mir = 0) :
    s.writeDone false id = (s.dropAcc id).bridgeAnswer a 0 false := by
  unfold State.writeDone
  simp only [ha, hgood, hmir, Bool.or_self, Bool.false_eq_true, if_false]
  rfl

theorem State.writeDone_bad (ha : s.brg.acc.find? (fun a => a.id == id) = some a) (hmir : a.mir = 0) :
    s.writeDone true id = ((s.dropAcc id).writeFail a.win a.dpa).bridgeAnswer a 0 false := by
  unfold State.writeDone
  simp only [ha, hmir, Bool.or_true, if_true]
  rfl

/-! ### Flush reads (R275, R277, R284) -/

/-- The state in which a flush read is no longer outstanding. -/
def State.flushTaken (s : State) (n : Nat) : State := { s with brg.flush := s.brg.flush.filter (fun x => x.num != n) }

/-- The state in which the fence of a flush read has ended. -/
def State.fenceTold (s : State) (f : BFlush) (bad : Bool) : State :=
  match f.fence with
  | some w => s.fenceEnd w bad
  | none => s

theorem State.flushDone_eq (hf : s.brg.flush.find? (fun f => f.num == n) = some f) (ok : Bool) :
    s.flushDone n ok = f.alerts.foldl (fun s w => s.windowIrq w false) ((f.accs.foldl (fun s id => s.writeDone (! ok) id) (s.flushTaken n)).fenceTold f (! ok)) := by
  unfold State.flushDone
  simp only [hf]
  rfl

theorem State.flushDone_none (hf : s.brg.flush.find? (fun f => f.num == n) = none) (ok : Bool) : s.flushDone n ok = s := by
  unfold State.flushDone
  simp only [hf]

theorem State.flushDone_write (hf : s.brg.flush.find? (fun f => f.num == n) = some f) (hacc : f.accs = [id]) (hfence : f.fence = none) (halert : f.alerts = [])
    (ok : Bool) : s.flushDone n ok = (s.flushTaken n).writeDone (! ok) id := by
  rw [State.flushDone_eq hf, halert, hacc]
  unfold State.fenceTold
  rw [hfence]
  rfl

theorem not_mem_flushTaken (s : State) (n : Nat) : ∀ x ∈ (s.flushTaken n).brg.flush, x.num ≠ n := fun x hx => by
  simpa using (List.mem_filter.1 hx).2

/-- A flush read that returns completes the write it covers. -/
theorem exec_flushReadComplete_answers (hf : s.brg.flush.find? (fun f => f.num == n) = some f) (hacc : f.accs = [id]) (hfence : f.fence = none)
    (halert : f.alerts = []) (ha : s.brg.acc.find? (fun a => a.id == id) = some a) (hgood : a.bad = false) (hmir : a.mir = 0) (hwrite : a.write = true)
    (htakes : s.takes a.host { src := 144, dst := a.host, kind := .ndr 0 } = true) :
    ∃ t m, exec (.flushReadComplete n true) s = .next t ∧ (∀ x ∈ t.brg.flush, x.num ≠ n) ∧ (∀ x ∈ t.brg.acc, x.id ≠ id) ∧ m ∈ t.voq 144 a.host 0 ∧
      m.kind = .ndr 0 ∧ m.tag = a.tag ∧ t.regs = s.regs := by
  have hdone : s.flushDone n true = ((s.flushTaken n).dropAcc id).bridgeAnswer a 0 false :=
    (State.flushDone_write hf hacc hfence halert true).trans (State.writeDone_good (s := s.flushTaken n) ha hgood hmir)
  obtain ⟨m, hm, -, -, htag, hkind, hregs⟩ := State.bridgeAnswer_sends (s := (s.flushTaken n).dropAcc id) hmir htakes 0 false
  have hkept := ((s.flushTaken n).dropAcc id).bridgeKept_bridgeAnswer a 0 false
  refine ⟨_, m, congrArg s.done hdone, fun x hx => ?_, fun x hx => ?_, hm, hkind hwrite, htag, hregs⟩
  · exact not_mem_flushTaken s n x ((congrArg (fun b : BrgSt => x ∈ b.flush) hkept.brg).mp hx)
  · exact not_mem_dropAcc _ id x ((congrArg (fun b : BrgSt => x ∈ b.acc) hkept.brg).mp hx)

/-- A flush read that fails fails the write it covers. -/
theorem exec_flushReadComplete_fails (hf : s.brg.flush.find? (fun f => f.num == n) = some f) (hacc : f.accs = [id]) (hfence : f.fence = none)
    (halert : f.alerts = []) (ha : s.brg.acc.find? (fun a => a.id == id) = some a) (hmir : a.mir = 0) (hw : a.win < 64) :
    ∃ t, exec (.flushReadComplete n false) s = .next t ∧ (∀ x ∈ t.brg.acc, x.id ≠ id) ∧ t.bit (LWB_WIN_WFAIL_VALID a.win) = true ∧
      t.fld (LWB_WIN_ERR_WR_FAIL a.win) = min (s.fld (LWB_WIN_ERR_WR_FAIL a.win) + 1) (2 ^ (LWB_WIN_ERR_WR_FAIL a.win).width - 1) := by
  have hdone : s.flushDone n false = (((s.flushTaken n).dropAcc id).writeFail a.win a.dpa).bridgeAnswer a 0 false :=
    (State.flushDone_write hf hacc hfence halert false).trans (State.writeDone_bad (s := s.flushTaken n) ha hmir)
  obtain ⟨hvalid, hcount⟩ := ((s.flushTaken n).dropAcc id).writeFail_counts hw a.dpa
  have hkept := (((s.flushTaken n).dropAcc id).writeFail a.win a.dpa).bridgeKept_bridgeAnswer a 0 false
  refine ⟨_, congrArg s.done hdone, fun x hx => ?_, (hkept.bit ?_).trans hvalid, (hkept.fld _ ?_).trans hcount⟩
  · exact not_mem_dropAcc _ id x ((congrArg (fun b : BrgSt => x ∈ b.acc) (hkept.brg.trans (State.writeFail_brg _ _ _))).mp hx)
  · simp only [inBridge, LWB_WIN_WFAIL_VALID, LWB_WIN_WFAIL]
    omega
  · simp only [inBridge, LWB_WIN_ERR_WR_FAIL, LWB_WIN_ERR]
    omega

end Writes

/-! ### The fence of a flush read (R277) -/

/-- The events at the end of a long command touch no word of a window's fence. -/
theorem State.fld_raisePrivate_fence (s : State) (t w : Nat) {f : Fld} (hf : f.addr = LWB_WIN_FENCE w) : (s.raisePrivate t 0).fld f = s.fld f := by
  unfold LWB_WIN_FENCE at hf
  by_cases hlow : f.addr < 0x1000000
  · exact State.fld_raisePrivate _ _ _ _ (by decide) (by omega)
  · exact (s.noted_raisePrivate t (by decide)).fld f (.of_addr (a := f.addr % 0x100) rfl (by omega) (by omega))

theorem State.fld_lcEndOpt_fence (s : State) (h : Option Nat) (c : Status) {w : Nat} {f : Fld} (hf : f.addr = LWB_WIN_FENCE w) :
    (s.lcEndOpt h c).fld f = s.fld f := by
  cases h with
  | none => rfl
  | some h =>
    have hraised : ∀ (u : State) t, u.regs = s.regs → (u.raisePrivate t 0).fld f = s.fld f := fun u t hu =>
      (u.fld_raisePrivate_fence t w hf).trans (State.fld_congr hu f)
    unfold State.lcEndOpt State.lcEnd
    dsimp only
    repeat' split
    · exact hraised _ _ rfl
    · exact hraised _ _ rfl
    · rfl
    · rfl

/-- The end of a fence: DONE, and OK where nothing failed. -/
theorem State.fenceEnd_ends {s : State} {w : Nat} {x : BFence} (hx : (s.bwin w).fence = some x) (bad : Bool) :
    ((s.fenceEnd w bad).bwin w).fence = none ∧ (s.fenceEnd w bad).bit (LWB_WIN_FENCE_DONE w) = true ∧
      (s.fenceEnd w bad).bit (LWB_WIN_FENCE_OK w) = ! (bad || x.failed) := by
  have hend : s.fenceEnd w bad = State.lcEndOpt
      (((s.setBwin w { s.bwin w with fence := none, posted := s.brg.acc.any (fun a => a.win == w && a.posted) }).setBit (LWB_WIN_FENCE_DONE w) true).setBit
        (LWB_WIN_FENCE_OK w) (! (bad || x.failed))) x.handle (if ! (bad || x.failed) then .success else .failed) := by
    unfold State.fenceEnd
    simp only [hx]
  rw [hend]
  generalize (if ! (bad || x.failed) then Status.success else Status.failed) = c
  have hbit : ∀ (u : State) f, f.addr = LWB_WIN_FENCE w → (u.lcEndOpt x.handle c).bit f = u.bit f := fun u f hf =>
    congrArg (· == 1) (u.fld_lcEndOpt_fence x.handle c hf)
  refine ⟨?_, ?_, ?_⟩
  · exact (congrArg BWin.fence (State.bwin_congr (congrArg BrgSt.win (State.lcEndOpt_brg _ _ _)) w)).trans (congrArg BWin.fence (s.bwin_setBwin_same w _))
  · exact (hbit _ _ rfl).trans ((State.bit_setBit_apart _ _ rfl).trans (State.bit_setBit_same _ (LWB_WIN_FENCE_DONE w) true (show 1 + 1 ≤ 32 by decide) rfl))
  · exact (hbit _ (LWB_WIN_FENCE_OK w) rfl).trans (State.bit_setBit_same _ (LWB_WIN_FENCE_OK w) _ (show 2 + 1 ≤ 32 by decide) rfl)

/-! ### What an interrupt leaves of flush reads and locks -/

/-- The bridge's flush reads and locks stay as they are. -/
structure State.FlushKept (s t : State) : Prop where
  flush : t.brg.flush = s.brg.flush
  lock : t.brg.lock = s.brg.lock

theorem State.FlushKept.refl (s : State) : s.FlushKept s := ⟨rfl, rfl⟩

theorem State.FlushKept.trans {s t u : State} (h : s.FlushKept t) (k : t.FlushKept u) : s.FlushKept u := ⟨k.flush.trans h.flush, k.lock.trans h.lock⟩

theorem State.FlushKept.of_brg {s t : State} (h : t.brg = s.brg) : s.FlushKept t := ⟨by rw [h], by rw [h]⟩

theorem State.flushKept_foldl {α : Type} {f : State → α → State} (hf : ∀ (s : State) x, s.FlushKept (f s x)) (l : List α) (s : State) :
    s.FlushKept (l.foldl f s) := by
  induction l generalizing s with
  | nil => exact .refl s
  | cons x l ih => exact (hf s x).trans (ih _)

theorem State.flushKept_dropLines (s : State) (pick : Nat → Bool) : s.FlushKept (s.dropLines pick) := by
  have hcount : ∀ (u : State) (l : BLine), u.FlushKept (if l.used then u else u.inc (LWB_WIN_PF_PF_DISC l.win)) := fun u l => by
    split
    · exact .refl u
    · exact .of_brg rfl
  unfold State.dropLines
  dsimp only
  refine State.FlushKept.trans ?_ (State.flushKept_foldl hcount _ _)
  exact ⟨rfl, rfl⟩

theorem State.fireIrq_brg (s : State) (w : Nat) (level : Bool) : (s.fireIrq w level).brg = s.brg := by
  unfold State.fireIrq
  dsimp only
  split <;> exact State.raisePrivate_brg _ _ _

theorem State.flushKept_fireWaiting (s : State) (w : Nat) : s.FlushKept (s.fireWaiting w) := by
  unfold State.fireWaiting
  refine State.FlushKept.trans ?_ (State.flushKept_foldl (f := fun u l => State.fireIrq u w l) (fun u l => .of_brg (u.fireIrq_brg w l)) _ _)
  exact ⟨rfl, rfl⟩

/-- An access of a mirror that is refused is dropped. -/
theorem State.farRefused_mirror {s : State} {a : BAcc} (h : a.mir ≠ 0) : s.farRefused a = s.dropAcc a.id := if_pos h

/-- A mirror's read that is issued sends its units, and neither takes part in a lock nor brings further lines. -/
theorem State.issueAcc_mirrorRead {s : State} {a : BAcc} (hmir : a.mir ≠ 0) (hposted : a.posted = false) (hread : a.write = false) :
    ∃ u, s.BridgeKept u ∧ (s.issueAcc a = u.dropAcc a.id ∨
      s.issueAcc a = (u.putAcc { a with issued := true, since := u.time.frame }).sendUnits a a.units false) := by
  refine ⟨_, s.bridgeKept_gateCheck a.port (0x3000 + a.win) (if a.write then .write else .read) a.far (if a.one then a.wd else 64), ?_⟩
  unfold State.issueAcc
  dsimp only
  generalize s.gateCheck a.port (0x3000 + a.win) (if a.write then .write else .read) a.far (if a.one then a.wd else 64) = g
  split
  · exact .inl (State.farRefused_mirror hmir)
  · right
    rw [hposted, hread, beq_false_of_ne hmir]
    simp only [Bool.false_eq_true, if_false, Bool.false_and]

theorem State.flushKept_issueMirrorRead {s : State} {a : BAcc} (hmir : a.mir ≠ 0) (hposted : a.posted = false) (hread : a.write = false) :
    s.FlushKept (s.issueAcc a) := by
  obtain ⟨u, hu, hdrop | hsend⟩ := State.issueAcc_mirrorRead (s := s) hmir hposted hread
  · rw [hdrop]
    exact (State.FlushKept.of_brg hu.brg).trans ⟨rfl, rfl⟩
  · rw [hsend]
    refine (State.FlushKept.of_brg hu.brg).trans (State.FlushKept.trans ?_ (.of_brg (State.bridgeKept_sendUnits a a.units _ false).brg))
    exact ⟨rfl, rfl⟩

/-- An unposted read is accepted in its turn, and issued unless a lock holds it back. -/
theorem State.acceptAcc_read {s : State} {a : BAcc} (hunits : a.units = [0]) (hposted : a.posted = false) :
    s.acceptAcc a =
      if s.lockedOut a.port a.host then { s with brg.acc := s.brg.acc ++ [a] } else State.issueAcc { s with brg.acc := s.brg.acc ++ [a] } a := by
  unfold State.acceptAcc
  simp only [hunits, hposted, List.isEmpty_cons, Bool.false_eq_true, if_false]
  rfl

/-- An inbound mirror is refused by its window's gate, or accepted as a read. -/
theorem State.startMirror_in (s : State) (w : Nat) :
    ∃ u, s.BridgeKept u ∧ (s.startMirror w 1 = u ∨ ∃ a : BAcc, a.mir ≠ 0 ∧ a.posted = false ∧ a.write = false ∧ a.units = [0] ∧
      s.startMirror w 1 = State.acceptAcc { u with brg.serial := u.brg.serial + 1 } a) := by
  unfold State.startMirror
  extract_lets o b wd wr g
  have hg : s.BridgeKept g.2 := by
    unfold g
    split
    · exact s.bridgeKept_gateCheck _ _ _ _ _
    · exact .refl s
  refine ⟨g.2, hg, ?_⟩
  split
  · exact .inl rfl
  · exact .inr ⟨_, Nat.one_ne_zero, rfl, rfl, rfl, rfl⟩

theorem State.flushKept_startMirrorIn (s : State) (w : Nat) : s.FlushKept (s.startMirror w 1) := by
  obtain ⟨u, hu, hrefused | ⟨a, hmir, hposted, hread, hunits, haccepted⟩⟩ := s.startMirror_in w
  · exact hrefused ▸ .of_brg hu.brg
  · rw [haccepted, State.acceptAcc_read hunits hposted]
    refine (State.FlushKept.of_brg hu.brg).trans ?_
    split
    · exact ⟨rfl, rfl⟩
    · refine State.FlushKept.trans ?_ (State.flushKept_issueMirrorRead hmir hposted hread)
      exact ⟨rfl, rfl⟩

theorem State.flushKept_windowIrq (s : State) (w : Nat) (level : Bool) : s.FlushKept (s.windowIrq w level) := by
  unfold State.windowIrq
  refine (s.flushKept_dropLines (fun x => s.winPort x == s.winPort w)).trans ?_
  generalize s.dropLines (fun x => s.winPort x == s.winPort w) = u
  have hwaits : ∀ x : BWin, u.FlushKept (u.setBwin w x) := fun _ => ⟨rfl, rfl⟩
  dsimp only
  split
  · exact .of_brg (u.fireIrq_brg w level)
  · split
    · exact hwaits _
    · split
      · exact (hwaits _).trans (State.flushKept_startMirrorIn _ w)
      · exact ((hwaits _).trans (State.flushKept_startMirrorIn _ w)).trans (State.flushKept_fireWaiting _ w)

/-! ### Every flush read that returns -/

theorem State.fenceEnd_acc (s : State) (w : Nat) (bad : Bool) :
    (s.fenceEnd w bad).brg.acc = s.brg.acc ∧ (s.fenceEnd w bad).brg.flush = s.brg.flush ∧ (s.fenceEnd w bad).brg.lock = s.brg.lock := by
  unfold State.fenceEnd
  split
  · exact ⟨rfl, rfl, rfl⟩
  · dsimp only
    rw [State.lcEndOpt_brg]
    exact ⟨rfl, rfl, rfl⟩

theorem State.fenceTold_acc (s : State) (f : BFlush) (bad : Bool) :
    (s.fenceTold f bad).brg.acc = s.brg.acc ∧ (s.fenceTold f bad).brg.flush = s.brg.flush ∧ (s.fenceTold f bad).brg.lock = s.brg.lock := by
  unfold State.fenceTold
  split
  · exact s.fenceEnd_acc _ _
  · exact ⟨rfl, rfl, rfl⟩

section Flushes

variable {s : State} {n w : Nat} {ok : Bool} {f : BFlush}

/-- A flush read that returns is no longer outstanding, and the writes it covers have left the bridge. -/
theorem exec_flushReadComplete_leaves (hf : s.brg.flush.find? (fun f => f.num == n) = some f) :
    ∃ t, exec (.flushReadComplete n ok) s = .next t ∧ (∀ x ∈ t.brg.flush, x.num ≠ n) ∧
      (f.alerts = [] → ∀ i ∈ f.accs, ∀ x ∈ t.brg.acc, x.id ≠ i) ∧ t.brg.lock = s.brg.lock := by
  obtain ⟨acc, hbrg, hacc⟩ := State.foldl_writeDone_brg (! ok) f.accs (s.flushTaken n)
  obtain ⟨htold, hflush, hlock⟩ := State.fenceTold_acc (f.accs.foldl (fun s id => s.writeDone (! ok) id) (s.flushTaken n)) f (! ok)
  have halerted := State.flushKept_foldl (f := fun s w => State.windowIrq s w false) (fun s w => s.flushKept_windowIrq w false) f.alerts
    ((f.accs.foldl (fun s id => s.writeDone (! ok) id) (s.flushTaken n)).fenceTold f (! ok))
  rw [hbrg] at htold hflush hlock
  refine ⟨_, congrArg s.done (State.flushDone_eq hf ok), fun x hx => ?_, fun hnone i hi x hx => ?_, halerted.lock.trans hlock⟩
  · exact not_mem_flushTaken s n x ((congrArg (x ∈ ·) (halerted.flush.trans hflush)).mp hx)
  · rw [hnone] at hx
    have hx' : x ∈ acc := (congrArg (x ∈ ·) htold).mp hx
    exact fun heq => (hacc x hx').2 (heq ▸ hi)

/-- A flush read of a fence ends it. -/
theorem exec_flushReadComplete_fence {x : BFence} (hf : s.brg.flush.find? (fun f => f.num == n) = some f) (hacc : f.accs = []) (hfence : f.fence = some w)
    (halert : f.alerts = []) (hx : (s.bwin w).fence = some x) :
    ∃ t, exec (.flushReadComplete n ok) s = .next t ∧ (t.bwin w).fence = none ∧ t.bit (LWB_WIN_FENCE_DONE w) = true ∧
      t.bit (LWB_WIN_FENCE_OK w) = (ok && ! x.failed) := by
  have hdone : s.flushDone n ok = (s.flushTaken n).fenceEnd w (! ok) := by
    rw [State.flushDone_eq hf, hacc, halert]
    unfold State.fenceTold
    rw [hfence]
    rfl
  obtain ⟨hended, hdonebit, hok⟩ := State.fenceEnd_ends (s := s.flushTaken n) hx (! ok)
  refine ⟨_, congrArg s.done hdone, hended, hdonebit, hok.trans ?_⟩
  cases ok <;> simp

/-- A flush read out of time fails as one that returns a failure. -/
theorem exec_farUnitTimeout_flush {u : Nat} (hf : s.brg.flush.find? (fun f => f.num == n) = some f) (hdue : f.since + s.cur LWB_CFG_COMP_TMO ≤ s.time.frame) :
    ∃ t, exec (.farUnitTimeout true n u) s = .next t ∧ (∀ x ∈ t.brg.flush, x.num ≠ n) ∧ exec (.flushReadComplete n false) s = .next t := by
  obtain ⟨t, hexec, hgone, -, -⟩ := exec_flushReadComplete_leaves (ok := false) hf
  refine ⟨t, Eq.trans (congrArg s.done ?_) hexec, hgone, hexec⟩
  unfold State.unitTimeout
  simp only [hf, if_true]
  exact if_pos hdue

end Flushes

/-- Settles O39: the last unit of a read answers or fails it, a flush read completes the writes it covers and the fence it is for, and a unit or flush read out
of time fails. -/
theorem farTraffic : Obligations.FarTraffic := by
  unfold Obligations.FarTraffic
  refine ⟨fun _ _ _ _ _ ha hi hu hr hm hb _ ht => exec_farUnitCompletion_answers ha hi hu hr hm hb ht,
    fun _ _ _ _ _ ha hi hu hr hm hw _ ht => exec_farUnitCompletion_fails ha hi hu hr hm hw ht, ?idle,
    fun _ _ _ _ _ hf hacc hfence halert ha hg hm hw _ ht => exec_flushReadComplete_answers hf hacc hfence halert ha hg hm hw ht,
    fun _ _ _ _ _ hf hacc hfence halert ha hm _ hw => exec_flushReadComplete_fails hf hacc hfence halert ha hm hw,
    fun _ _ _ _ _ _ => exec_flushReadComplete_fence,
    fun s _ ok hf => (congrArg s.done (State.flushDone_none hf ok)).trans (State.done_eq_next rfl rfl),
    fun _ _ _ _ => exec_farUnitTimeout_fails, ?early, ?more, ?write, fun _ _ _ _ => exec_flushReadComplete_leaves,
    fun _ _ _ _ => exec_farUnitTimeout_flush, ?late⟩
  case idle =>
    intro s id u v ok h
    exact (congrArg s.done (State.unitDone_idle h)).trans (State.done_eq_next rfl rfl)
  case early =>
    intro s id u h
    exact (congrArg s.done (State.unitTimeout_early h)).trans (State.done_eq_next rfl rfl)
  case more =>
    intro s id u v ok a ha hissued hu hread hmore
    exact (congrArg s.done (State.unitDone_more ha hissued hu hread hmore)).trans (State.done_eq_next rfl rfl)
  case write =>
    intro s id u v ok a ha hissued hu hwrite
    have hput : s.putAcc { a with bad := true } = { s with brg.acc := s.brg.acc.map (fun b => if b.id = id then { a with bad := true } else b) } := by
      rw [← id_of_find ha]
      rfl
    refine (congrArg s.done ((State.unitDone_write ha hissued hu hwrite).trans ?_)).trans (State.done_eq_next (u := if ok then s else _) ?_ ?_)
    · rw [hput]
    · cases ok <;> rfl
    · cases ok <;> rfl
  case late =>
    intro s id u a ha hissued hu hread hdue hmore
    have hfail : a.unitTaken u false 0 = { a with units := sdel a.units u, bad := true } := by simp [BAcc.unitTaken]
    refine (congrArg s.done ((State.unitTimeout_due ha hissued hread hdue).trans (State.unitDone_more ha hissued hu hread hmore))).trans ?_
    rw [hfail]
    exact State.done_eq_next rfl rfl

end Sys2Proof.Machine
end

section
/-! Proofs of the family 12_legacy_window_bridge: doorbells, INTx, side-band alerts, prefetch and mirrors of legacy windows (O42). -/
set_option Elab.async false
namespace Sys2Proof.Machine
open Sys2Proof

/-! ### Interrupts of a window (R284) -/

theorem State.refreshLevel_level (s : State) (t : Nat) : (s.refreshLevel t).evt.level = s.evt.level := by
  simp only [State.refreshLevel]
  split_ifs <;> rfl

theorem State.signal_level (s : State) (t code : Nat) : (s.signal t code).evt.level = s.evt.level := by
  unfold State.signal
  dsimp only
  split
  · split
    · cases s.vectorOf t code with
      | none => rfl
      | some v =>
        simp only [State.msiDropped]
        split_ifs <;> rfl
    · exact s.refreshLevel_level t
  · split
    · exact s.refreshLevel_level 129
    · split
      · cases s.lowestSource t <;> rfl
      · rfl

/-- Raising a source changes no level input. -/
theorem State.raisePrivate_level (s : State) (t src : Nat) : (s.raisePrivate t src).evt.level = s.evt.level := by
  unfold State.raisePrivate State.raiseAt
  dsimp only
  split
  · split
    · exact State.signal_level _ _ _
    · rfl
  · rfl

/-- Discarding prefetched lines changes the lines, the runs, and the windows' counts of discarded lines. -/
theorem State.dropLines_eq (s : State) (pick : Nat → Bool) :
    ∃ r, s.dropLines pick = { s with
        regs := r, brg.lines := s.brg.lines.filter (fun l => ! pick l.win),
        brg.runs := s.brg.runs.map (fun r => if pick r.win then { r with bad := true } else r) } ∧
      ∀ f, f.addr % 0x80 ≠ 0x2c → ({ s with regs := r } : State).fld f = s.fld f := by
  have hcounts : ∀ (l : List BLine) (u : State), ∃ r,
      l.foldl (fun (s : State) (l : BLine) => if l.used then s else s.inc (LWB_WIN_PF_PF_DISC l.win)) u = { u with regs := r } ∧
        ∀ f, f.addr % 0x80 ≠ 0x2c → ({ u with regs := r } : State).fld f = u.fld f := by
    intro l
    induction l with
    | nil => exact fun u => ⟨u.regs, rfl, fun _ _ => rfl⟩
    | cons x l ih =>
      intro u
      rw [List.foldl_cons]
      split
      · exact ih u
      · obtain ⟨r, heq, hfld⟩ := ih (u.inc (LWB_WIN_PF_PF_DISC x.win))
        refine ⟨r, heq, fun f hf => (hfld f hf).trans (u.fld_inc_addr _ f fun haddr => hf ?_)⟩
        rw [← haddr]
        simp only [LWB_WIN_PF_PF_DISC, LWB_WIN_PF]
        omega
  obtain ⟨r, heq, hfld⟩ := hcounts (s.brg.lines.filter (fun l => pick l.win)) { s with
    brg.lines := s.brg.lines.filter (fun l => ! pick l.win),
    brg.runs := s.brg.runs.map (fun r => if pick r.win then { r with bad := true } else r) }
  exact ⟨r, heq, hfld⟩

theorem inBridge_irqCnt {w : Nat} (hw : w < 64) : inBridge (LWB_WIN_IRQ_IRQ_CNT w) := by
  simp only [inBridge, LWB_WIN_IRQ_IRQ_CNT, LWB_WIN_IRQ]
  omega

theorem State.src_lt (s : State) (w : Nat) : s.cur (LWB_WIN_IRQ_SRC w) < 64 := getBits_lt _ _ _

theorem State.targetExists_congr {s t : State} (h : t.force = s.force) (n : Nat) : t.targetExists n = s.targetExists n := by
  unfold State.targetExists State.isHost State.role
  rw [State.cur_congr h]

/-- A window's interrupt is counted, and its source raised at the host of its binding, with the level input asserted where the line is. -/
theorem State.fireIrq_eq (s : State) (w : Nat) (level : Bool) :
    ∃ u : State, s.fireIrq w level = u.raisePrivate (s.bndPort (s.winBnd w)) (s.cur (LWB_WIN_IRQ_SRC w)) ∧ u.force = s.force ∧
      u.regs = (s.setFld (LWB_WIN_IRQ_IRQ_CNT w) (s.fld (LWB_WIN_IRQ_IRQ_CNT w) + 1)).regs ∧
      ((level && s.intxOn (s.winPort w)) = true → s.bndPort (s.winBnd w) * 64 + s.cur (LWB_WIN_IRQ_SRC w) ∈ u.evt.level) := by
  by_cases hon : (level && s.intxOn (s.winPort w)) = true
  · refine ⟨{ s.setFld (LWB_WIN_IRQ_IRQ_CNT w) (s.fld (LWB_WIN_IRQ_IRQ_CNT w) + 1) with
      evt.level := sadd s.evt.level (s.bndPort (s.winBnd w) * 64 + s.cur (LWB_WIN_IRQ_SRC w)) }, ?_, rfl, rfl, fun _ => mem_sadd_self _ _⟩
    exact congrArg (fun u : State => u.raisePrivate (s.bndPort (s.winBnd w)) (s.cur (LWB_WIN_IRQ_SRC w))) (if_pos hon)
  · refine ⟨s.setFld (LWB_WIN_IRQ_IRQ_CNT w) (s.fld (LWB_WIN_IRQ_IRQ_CNT w) + 1), ?_, rfl, rfl, fun h => absurd h hon⟩
    exact congrArg (fun u : State => u.raisePrivate (s.bndPort (s.winBnd w)) (s.cur (LWB_WIN_IRQ_SRC w))) (if_neg hon)

/-- Raising a window's interrupt counts it, and makes the source pending where the host's target exists. -/
theorem State.fireIrq_raises (s : State) {w : Nat} (hw : w < 64) (level : Bool) :
    (s.fireIrq w level).fld (LWB_WIN_IRQ_IRQ_CNT w) = (s.fld (LWB_WIN_IRQ_IRQ_CNT w) + 1) % 2 ^ (LWB_WIN_IRQ_IRQ_CNT w).width ∧
      (s.targetExists (s.bndPort (s.winBnd w)) = true →
        (s.fireIrq w level).bit (pendFld (s.bndPort (s.winBnd w)) (s.cur (LWB_WIN_IRQ_SRC w))) = true) := by
  obtain ⟨u, hfire, hforce, hregs, -⟩ := s.fireIrq_eq w level
  rw [hfire]
  refine ⟨?_, fun htarget => State.bit_raisePrivate_pend _ _ _ (s.src_lt w) ((State.targetExists_congr hforce _).trans htarget)⟩
  exact ((u.bridgeKept_raisePrivate _ (s.src_lt w)).fld _ (inBridge_irqCnt hw)).trans
    ((State.fld_congr hregs _).trans (s.fld_setFld_same _ _ (show 16 + 16 ≤ 32 by decide)))

/-- A level interrupt asserts its level input. -/
theorem State.fireIrq_level {s : State} {w : Nat} (hon : s.intxOn (s.winPort w) = true) :
    s.bndPort (s.winBnd w) * 64 + s.cur (LWB_WIN_IRQ_SRC w) ∈ (s.fireIrq w true).evt.level := by
  obtain ⟨u, hfire, -, -, hlevel⟩ := s.fireIrq_eq w true
  rw [hfire, State.raisePrivate_level]
  exact hlevel hon

/-- The interrupt of a window without an inbound mirror drops the prefetched lines of its far port, and is raised. -/
theorem State.windowIrq_unmirrored {s : State} {w : Nat} (hin : s.bit (LWB_WIN_MIR_CTL_IN_EN w) = false) (level : Bool) :
    ∃ u : State, s.windowIrq w level = u.fireIrq w level ∧ u.force = s.force ∧ u.fld (LWB_WIN_IRQ_IRQ_CNT w) = s.fld (LWB_WIN_IRQ_IRQ_CNT w) ∧
      u.brg.acc = s.brg.acc ∧ u.brg.intx = s.brg.intx ∧ (∀ l ∈ u.brg.lines, s.winPort l.win ≠ s.winPort w) := by
  obtain ⟨r, hdrop, hfld⟩ := s.dropLines_eq (fun x => s.winPort x == s.winPort w)
  refine ⟨s.dropLines (fun x => s.winPort x == s.winPort w), if_pos ?_, ?_⟩
  · rw [hdrop]
    have hbit : ({ s with regs := r } : State).bit (LWB_WIN_MIR_CTL_IN_EN w) = s.bit (LWB_WIN_MIR_CTL_IN_EN w) :=
      congrArg (· == 1) (hfld _ (by simp only [LWB_WIN_MIR_CTL_IN_EN, LWB_WIN_MIR_CTL]; omega))
    exact congrArg Bool.not (hbit.trans hin)
  · rw [hdrop]
    refine ⟨rfl, hfld _ ?_, rfl, rfl, fun l hl => ?_⟩
    · simp only [LWB_WIN_IRQ_IRQ_CNT, LWB_WIN_IRQ]
      omega
    · simpa using (List.mem_filter.1 hl).2

/-! ### Upstream traffic and INTx (R283) -/

section Upstream

variable {s : State} {p a w l tag : Nat}

theorem exec_upstreamWrite_unbridged (h : s.windowsOf p = []) : exec (.upstreamWrite p a) s = .next s := by
  refine (congrArg s.done (if_pos ?_ : s.upWrite p a = s)).trans (State.done_eq_next rfl rfl)
  simp [h]

/-- The address of the first doorbell. -/
def State.doorbells (s : State) : Nat := s.fld LWB_DB_LO_ADDR * 4096 + s.fld LWB_DB_HI_ADDR * 2 ^ 32

theorem State.upWrite_eq (hp : s.windowsOf p ≠ []) :
    s.upWrite p a = if s.doorbells ≤ a ∧ (a - s.doorbells) % 4 = 0 ∧ (a - s.doorbells) / 4 < 64 ∧ s.winOn ((a - s.doorbells) / 4) ∧
        s.curBit (LWB_WIN_IRQ_MSI_EN ((a - s.doorbells) / 4)) then s.windowIrq ((a - s.doorbells) / 4) false else s.inc LWB_STAT_UP_DROP :=
  if_neg (by simpa using hp)

theorem State.upWrite_doorbell (hp : s.windowsOf p ≠ []) (ha : a = s.doorbells + 4 * w) (hw : w < 64)
    (hon : s.winOn w = true) (hmsi : s.curBit (LWB_WIN_IRQ_MSI_EN w) = true) : s.upWrite p a = s.windowIrq w false := by
  have hdb : (a - s.doorbells) / 4 = w := by omega
  rw [State.upWrite_eq hp, hdb]
  exact if_pos ⟨by omega, by omega, hw, hon, hmsi⟩

/-- A doorbell write raises its window's interrupt and drops the prefetched lines of its far port. -/
theorem exec_upstreamWrite_doorbell (hp : s.windowsOf p ≠ []) (ha : a = s.fld LWB_DB_LO_ADDR * 4096 + s.fld LWB_DB_HI_ADDR * 2 ^ 32 + 4 * w) (hw : w < 64)
    (hon : s.winOn w = true) (hmsi : s.curBit (LWB_WIN_IRQ_MSI_EN w) = true) (hin : s.bit (LWB_WIN_MIR_CTL_IN_EN w) = false) :
    ∃ t, exec (.upstreamWrite p a) s = .next t ∧ t.fld (LWB_WIN_IRQ_IRQ_CNT w) = (s.fld (LWB_WIN_IRQ_IRQ_CNT w) + 1) % 2 ^ (LWB_WIN_IRQ_IRQ_CNT w).width ∧
      (s.targetExists (s.bndPort (s.winBnd w)) = true → t.bit (pendFld (s.bndPort (s.winBnd w)) (s.cur (LWB_WIN_IRQ_SRC w))) = true) ∧
      (∀ l ∈ t.brg.lines, s.winPort l.win ≠ s.winPort w) ∧ t.brg.acc = s.brg.acc := by
  obtain ⟨u, hirq, hforce, hfld, hacc, -, hlines⟩ := State.windowIrq_unmirrored hin false
  obtain ⟨hcount, hpend⟩ := u.fireIrq_raises hw false
  have hcur : ∀ f, u.cur f = s.cur f := State.cur_congr hforce
  have hhost : u.bndPort (u.winBnd w) = s.bndPort (s.winBnd w) := by unfold State.bndPort State.winBnd; rw [hcur, hcur]
  rw [hhost, hcur, State.targetExists_congr hforce] at hpend
  refine ⟨_, congrArg s.done ((State.upWrite_doorbell hp ha hw hon hmsi).trans hirq), hcount.trans (by rw [hfld]), hpend,
    fun l hl => hlines l ((congrArg (fun b : BrgSt => l ∈ b.lines) (u.fireIrq_brg w false)).mp hl),
    (congrArg BrgSt.acc (u.fireIrq_brg w false)).trans hacc⟩

theorem exec_upstreamWrite_drops (hp : s.windowsOf p ≠ []) (ha : a < s.fld LWB_DB_LO_ADDR * 4096 + s.fld LWB_DB_HI_ADDR * 2 ^ 32) :
    ∃ t, exec (.upstreamWrite p a) s = .next t ∧ t.fld LWB_STAT_UP_DROP = min (s.fld LWB_STAT_UP_DROP + 1) (2 ^ LWB_STAT_UP_DROP.width - 1) ∧
      t = { s with regs := t.regs } := by
  have hdrop : s.upWrite p a = s.inc LWB_STAT_UP_DROP :=
    (State.upWrite_eq hp).trans (if_neg fun h => Nat.not_le.2 ha h.1)
  exact ⟨_, congrArg s.done hdrop, s.fld_inc_same _ (show 16 + 16 ≤ 32 by decide), rfl⟩

theorem exec_upstreamRead_answers (hp : s.windowsOf p ≠ []) (htakes : s.takes p { src := 144, dst := p, kind := .ioCpl } = true) :
    ∃ t, exec (.upstreamRead p tag) s = .next t ∧
      t.voq 144 p 1 = s.voq 144 p 1 ++ [{ src := 144, dst := p, kind := .ioCpl, tag := tag, data := allOnes, len := 64, ord := s.xbr.serial }] ∧
      t = { s with xbr.voq := t.xbr.voq, xbr.serial := s.xbr.serial + 1 } := by
  have hsend := State.sendQuiet_of_takes (s := s) (m := { src := 144, dst := p, kind := .ioCpl, tag := tag, data := allOnes, len := 64 })
    ((s.takes_congr p rfl rfl rfl).trans htakes)
  exact ⟨_, congrArg s.done ((if_neg (by simpa using hp)).trans hsend), s.voq_push_same _, rfl⟩

/-- An INTx line of a port with one window that takes it raises that window's interrupt, and asserts its level input. -/
theorem exec_intxMessage_asserts (hp : s.windowsOf p ≠ []) (hl : l < 4)
    (honly : (s.windowsOf p).filter (fun w => s.curBit (LWB_WIN_IRQ_INTX_EN w)) = [w]) (hin : s.bit (LWB_WIN_MIR_CTL_IN_EN w) = false) :
    ∃ t, exec (.intxMessage p l true) s = .next t ∧ t.brg.intx = sadd s.brg.intx (4 * p + l) ∧
      s.bndPort (s.winBnd w) * 64 + s.cur (LWB_WIN_IRQ_SRC w) ∈ t.evt.level ∧
      t.fld (LWB_WIN_IRQ_IRQ_CNT w) = (s.fld (LWB_WIN_IRQ_IRQ_CNT w) + 1) % 2 ^ (LWB_WIN_IRQ_IRQ_CNT w).width := by
  have hmem : w ∈ s.windowsOf p := List.mem_of_mem_filter (honly ▸ List.mem_singleton_self w)
  have hport : s.winPort w = p := by simpa using (List.mem_filter.1 hmem).2
  obtain ⟨u, hirq, hforce, hfld, -, hintx, -⟩ :=
    State.windowIrq_unmirrored (s := { s with brg.intx := sadd s.brg.intx (4 * p + l) }) (w := w) hin true
  have hcur : ∀ f, u.cur f = s.cur f := State.cur_congr hforce
  have hon : u.intxOn (u.winPort w) = true := by
    unfold State.intxOn State.winPort
    rw [hintx, hcur, List.any_eq_true]
    exact ⟨4 * p + l, mem_sadd_self _ _, by rw [beq_iff_eq]; exact (show (4 * p + l) / 4 = p by omega).trans hport.symm⟩
  have hlevel := u.fireIrq_level hon
  have hhost : u.bndPort (u.winBnd w) = s.bndPort (s.winBnd w) := by unfold State.bndPort State.winBnd; rw [hcur, hcur]
  rw [hhost, hcur] at hlevel
  have hexec : s.intx p l true = u.fireIrq w true := by
    unfold State.intx
    dsimp only
    rw [honly, if_neg (by simpa [hp] using hl), if_pos rfl]
    exact hirq
  refine ⟨_, congrArg s.done hexec, (congrArg BrgSt.intx (u.fireIrq_brg w true)).trans hintx, hlevel, ((u.fireIrq_raises (State.windowsOf_lt hmem) true).1).trans (by rw [hfld]; rfl)⟩

theorem exec_intxMessage_deasserts (hp : s.windowsOf p ≠ []) (hl : l < 4) :
    ∃ t, exec (.intxMessage p l false) s = .next t ∧ t.brg.intx = sdel s.brg.intx (4 * p + l) ∧ (∀ k ∈ t.evt.level, k ∈ s.evt.level) ∧
      t = { s with brg.intx := t.brg.intx, evt.level := t.evt.level } := by
  have hlower : s.intx p l false = ({ s with brg.intx := sdel s.brg.intx (4 * p + l) } : State).lowerLevels p :=
    (if_neg (by simpa [hp] using hl)).trans (if_neg Bool.false_ne_true)
  refine ⟨_, congrArg s.done hlower, ?_⟩
  unfold State.lowerLevels
  dsimp only
  split
  · exact ⟨rfl, fun _ hk => hk, rfl⟩
  · exact ⟨rfl, fun _ hk => List.mem_of_mem_filter hk, rfl⟩

end Upstream

/-! ### Side-band alerts (R284) -/

/-- The windows of a port that take side-band alerts. -/
def State.alertWindows (s : State) (p : Nat) : List Nat := (s.windowsOf p).filter (fun w => s.curBit (LWB_WIN_IRQ_SB_EN w))

/-- What a side-band alert does for one port. -/
def State.alertPort (s : State) (p : Nat) : State :=
  match s.alertWindows p with
  | [] => s
  | w :: _ => (s.dropLines (fun x => s.winPort x == p)).flushRead w (s.winBnd w) p (s.winFar w) [] none (s.alertWindows p)

theorem State.alertWindows_congr {s t : State} (h : t.force = s.force) (p : Nat) : t.alertWindows p = s.alertWindows p := by
  unfold State.alertWindows State.windowsOf State.windows State.winOn State.winPort State.curBit
  simp only [State.cur_congr h]

/-- A port's alert sends the flush read of its windows, and removes no other. -/
theorem State.alertPort_flush (s : State) (p : Nat) :
    (s.alertPort p).force = s.force ∧ (∀ f ∈ s.brg.flush, f ∈ (s.alertPort p).brg.flush) ∧
      (s.alertWindows p ≠ [] → ∃ f ∈ (s.alertPort p).brg.flush, f.port = p ∧ f.alerts = s.alertWindows p ∧ f.fence = none) := by
  unfold State.alertPort
  cases hws : s.alertWindows p with
  | nil => exact ⟨rfl, fun _ hf => hf, fun h => absurd rfl h⟩
  | cons w ws =>
    obtain ⟨r, hdrop, -⟩ := s.dropLines_eq (fun x => s.winPort x == p)
    have hsent := State.bridgeKept_flushRead (s.dropLines (fun x => s.winPort x == p)) w (s.winBnd w) p (s.winFar w) [] none (s.alertWindows p)
    have hflush := congrArg BrgSt.flush hsent.brg
    rw [hdrop] at hflush hsent
    dsimp only
    rw [hdrop, ← hws]
    refine ⟨hsent.force, fun f hf => ?_, fun _ => ⟨⟨s.brg.serial, p, s.time.frame, [], none, s.alertWindows p⟩, ?_, rfl, rfl, rfl⟩⟩
    · rw [hflush]
      exact List.mem_append_left _ hf
    · rw [hflush]
      exact List.mem_append_right _ (List.mem_singleton_self _)

/-- The alerts of several ports send the flush read of each that has windows to alert. -/
theorem State.foldl_alertPort_flush {p : Nat} {l : List Nat} (hp : p ∈ l) {s : State} (hws : s.alertWindows p ≠ []) :
    ∃ f ∈ (l.foldl State.alertPort s).brg.flush, f.port = p ∧ f.alerts = s.alertWindows p ∧ f.fence = none := by
  have hkept : ∀ (l : List Nat) (u : State), ∀ f ∈ u.brg.flush, f ∈ (l.foldl State.alertPort u).brg.flush := by
    intro l
    induction l with
    | nil => exact fun u f hf => hf
    | cons q l ih => exact fun u f hf => ih _ _ ((u.alertPort_flush q).2.1 f hf)
  induction l generalizing s with
  | nil => exact absurd hp List.not_mem_nil
  | cons q l ih =>
    obtain ⟨hforce, -, hsent⟩ := s.alertPort_flush q
    rcases List.mem_cons.1 hp with rfl | hp
    · obtain ⟨f, hf, hport, halerts, hfence⟩ := hsent hws
      exact ⟨f, hkept l _ f hf, hport, halerts, hfence⟩
    · rw [← State.alertWindows_congr hforce] at hws ⊢
      exact ih hp hws

theorem exec_sidebandAlert_flush {s : State} {g k : Nat} (hk : k < 4) (hws : s.alertWindows (4 * g + k) ≠ []) :
    ∃ t f, exec (.sidebandAlert g) s = .next t ∧ f ∈ t.brg.flush ∧ f.port = 4 * g + k ∧ f.alerts = s.alertWindows (4 * g + k) ∧ f.fence = none := by
  have hports : s.sideband g = [4 * g + 0, 4 * g + 1, 4 * g + 2, 4 * g + 3].foldl State.alertPort s := rfl
  have hmem : 4 * g + k ∈ [4 * g + 0, 4 * g + 1, 4 * g + 2, 4 * g + 3] := by
    simp only [List.mem_cons, List.not_mem_nil, or_false]
    omega
  obtain ⟨f, hf, hrest⟩ := State.foldl_alertPort_flush hmem hws
  exact ⟨_, f, congrArg s.done hports, hf, hrest⟩

/-! ### Prefetched lines (R278) -/

section Prefetch

variable {s : State} {n : Nat} {d : List Nat} {r : BRun}

/-- The line a run brings at a place. -/
def BRun.lineAt (r : BRun) (frame : Nat) (d : List Nat) (i : Nat) : BLine :=
  { win := r.win, line := r.line + i, data := r.toLine (d.getD i 0), frame := frame, used := false }

/-- While the buffer has room, each line of a run is held. -/
theorem State.foldl_holdLine_holds (hroom : s.brg.lines.length + r.count ≤ 1024) (count : Nat) (hcount : count ≤ r.count) (frame : Nat) :
    ∃ lines, (List.range count).foldl (fun (s : State) i => s.holdLine (r.lineAt frame d i)) s = { s with brg.lines := lines } ∧
      lines.length ≤ s.brg.lines.length + count ∧ ∀ i < count, r.lineAt frame d i ∈ lines := by
  induction count with
  | zero => exact ⟨s.brg.lines, rfl, le_rfl, fun i hi => absurd hi (Nat.not_lt_zero i)⟩
  | succ k ih =>
    obtain ⟨lines, heq, hlen, hmem⟩ := ih (by omega)
    rw [List.range_succ, List.foldl_append, heq]
    have hfilter := List.length_filter_le (fun x : BLine => ! (x.win == r.win && x.line == r.line + k)) lines
    have hnew : (lines.filter (fun x => ! (x.win == r.win && x.line == r.line + k)) ++ [r.lineAt frame d k]).length ≤ s.brg.lines.length + (k + 1) := by
      rw [List.length_append, List.length_singleton]
      omega
    refine ⟨_, if_pos (le_trans hnew (by omega)), hnew, fun i hi => ?_⟩
    rcases Nat.lt_succ_iff_lt_or_eq.1 hi with hlt | rfl
    · refine List.mem_append_left _ (List.mem_filter.2 ⟨hmem i hlt, ?_⟩)
      simp only [BRun.lineAt, beq_self_eq_true, Bool.true_and, Bool.not_eq_true', beq_eq_false_iff_ne]
      omega
    · exact List.mem_append_right _ (List.mem_singleton_self _)

theorem exec_prefetchFill_holds (hr : s.brg.runs.find? (fun r => r.num == n) = some r) (hgood : r.bad = false)
    (hroom : s.brg.lines.length + r.count ≤ 1024) :
    ∃ t, exec (.prefetchFill n d true) s = .next t ∧ (∀ x ∈ t.brg.runs, x.num ≠ n) ∧
      (∀ i, i < r.count → ∃ l ∈ t.brg.lines, l.win = r.win ∧ l.line = r.line + i ∧ l.data = r.toLine (d.getD i 0) ∧ l.used = false) := by
  have hfill : s.prefetchFill n d true = (List.range r.count).foldl (fun (u : State) i => u.holdLine (r.lineAt u.time.frame d i))
      ({ s with brg.runs := s.brg.runs.filter (fun x => x.num != n) } : State) := by
    unfold State.prefetchFill
    simp only [hr, hgood, Bool.not_true, Bool.false_eq_true, if_false]
    rfl
  have htime : ∀ (l : List Nat) (u : State), l.foldl (fun (u : State) i => u.holdLine (r.lineAt u.time.frame d i)) u =
      l.foldl (fun (v : State) i => v.holdLine (r.lineAt u.time.frame d i)) u := by
    intro l
    induction l with
    | nil => exact fun _ => rfl
    | cons i l ih =>
      intro u
      have hsame : (u.holdLine (r.lineAt u.time.frame d i)).time = u.time := by
        unfold State.holdLine
        dsimp only
        split_ifs
        · rfl
        · split
          · split_ifs <;> rfl
          · rfl
      rw [List.foldl_cons, List.foldl_cons, ih, hsame]
  obtain ⟨lines, heq, -, hmem⟩ := State.foldl_holdLine_holds (s := { s with brg.runs := s.brg.runs.filter (fun x => x.num != n) }) (d := d) hroom r.count
    le_rfl s.time.frame
  refine ⟨_, congrArg s.done (hfill.trans ((htime _ _).trans heq)), fun x hx => ?_, fun i hi => ⟨_, hmem i hi, rfl, rfl, rfl, rfl⟩⟩
  simpa using (List.mem_filter.1 hx).2

theorem exec_prefetchFill_discards (hr : s.brg.runs.find? (fun r => r.num == n) = some r) (hbad : r.bad = true) :
    ∃ t, exec (.prefetchFill n d true) s = .next t ∧ t.brg.lines = s.brg.lines ∧
      t.fld (LWB_WIN_PF_PF_DISC r.win) = min (s.fld (LWB_WIN_PF_PF_DISC r.win) + r.count) (2 ^ (LWB_WIN_PF_PF_DISC r.win).width - 1) := by
  have hfill : s.prefetchFill n d true =
      ({ s with brg.runs := s.brg.runs.filter (fun x => x.num != n) } : State).addSat (LWB_WIN_PF_PF_DISC r.win) r.count := by
    unfold State.prefetchFill
    simp only [hr, hbad, Bool.not_true, Bool.false_eq_true, if_false, if_true]
  refine ⟨_, congrArg s.done hfill, rfl, (State.fld_setFld_same _ _ _ (show 16 + 16 ≤ 32 by decide)).trans (Nat.mod_eq_of_lt ?_)⟩
  exact Nat.lt_of_le_of_lt (Nat.min_le_right _ _) (show 2 ^ 16 - 1 < 2 ^ 16 by decide)

end Prefetch

/-! ### Mirrors (R285) -/

section Mirrors

variable {s : State} {w dir : Nat}

theorem exec_mirrorPeriod_off (h : 64 ≤ w ∨ s.winOn w = false) : exec (.mirrorPeriod w) s = .next s := by
  refine (congrArg s.done (if_pos ?_ : s.mirrorPeriod w = s)).trans (State.done_eq_next rfl rfl)
  rcases h with hw | hoff
  · exact .inl hw
  · exact .inr (.inl (by simp [hoff]))

/-- The state in which a period of a window's mirror has been noted. -/
def State.periodNoted (s : State) (w : Nat) : State := s.setBwin w { s.bwin w with mirLast := some s.time.frame }

/-- Whether the period of a window's mirror has passed. -/
def State.PeriodPassed (s : State) (w : Nat) : Prop := ∀ f, (s.bwin w).mirLast = some f → f + s.cur LWB_CFG_MIR_PER ≤ s.time.frame

/-- What a mirror period does in the outbound direction. -/
def State.mirrorOutbound (s : State) (w : Nat) : State :=
  if s.bit (LWB_WIN_MIR_CTL_OUT_EN w) ∧ (s.bwin w).outPend ∧ ! s.mirBusy w 2 then (s.setBwin w { s.bwin w with outPend := false }).startMirror w 2 else s

theorem State.mirrorPeriod_due (hw : w < 64) (hon : s.winOn w = true) (hdue : s.PeriodPassed w) :
    s.mirrorPeriod w = State.mirrorOutbound
      (if (s.periodNoted w).bit (LWB_WIN_MIR_CTL_IN_EN w) ∧ ! (s.periodNoted w).mirBusy w 1 then (s.periodNoted w).startMirror w 1 else s.periodNoted w) w := by
  refine if_neg ?_
  rintro (hw' | hoff | hearly)
  · omega
  · simp [hon] at hoff
  · revert hearly
    cases hlast : (s.bwin w).mirLast with
    | none => exact Bool.false_ne_true
    | some f => simpa using hdue f hlast

theorem State.mirrorPeriod_outbound (hw : w < 64) (hon : s.winOn w = true) (hdue : s.PeriodPassed w) (hin : s.bit (LWB_WIN_MIR_CTL_IN_EN w) = false) :
    s.mirrorPeriod w = (s.periodNoted w).mirrorOutbound w :=
  (State.mirrorPeriod_due hw hon hdue).trans (congrArg (fun u : State => u.mirrorOutbound w) (if_neg fun h => Bool.false_ne_true (hin.symm.trans h.1)))

theorem State.mirrorOutbound_off (hout : s.bit (LWB_WIN_MIR_CTL_OUT_EN w) = false) : s.mirrorOutbound w = s :=
  if_neg fun h => Bool.false_ne_true (hout.symm.trans h.1)

/-- A period of a window without mirrors is noted, and nothing else changes. -/
theorem exec_mirrorPeriod_disabled (hw : w < 64) (hon : s.winOn w = true) (hfirst : (s.bwin w).mirLast = none)
    (hin : s.bit (LWB_WIN_MIR_CTL_IN_EN w) = false) (hout : s.bit (LWB_WIN_MIR_CTL_OUT_EN w) = false) :
    ∃ t, exec (.mirrorPeriod w) s = .next t ∧ t.bwin w = { s.bwin w with mirLast := some s.time.frame } ∧ t = { s with brg.win := t.brg.win } := by
  have hdue : s.PeriodPassed w := fun f hf => absurd (hfirst.symm.trans hf) (by simp)
  exact ⟨_, congrArg s.done ((State.mirrorPeriod_outbound hw hon hdue hin).trans (State.mirrorOutbound_off (s := s.periodNoted w) hout)),
    s.bwin_setBwin_same w _, rfl⟩

/-- The access of a window's mirror transfer: an inbound read (1) or an outbound write (2) of one unit. -/
def State.mirrorAcc (s : State) (w dir : Nat) : BAcc :=
  { id := s.brg.serial, win := w, bnd := s.winBnd w, host := s.bndPort (s.winBnd w), tag := 0,
    dpa := (s.winRange w).1 + 8 * s.fld (if dir = 1 then LWB_WIN_MIR_CTL_IN_OFS w else LWB_WIN_MIR_CTL_OUT_OFS w),
    kind := if dir == 2 then .wr else .rdCur, write := dir == 2, posted := false, port := s.winPort w,
    far := s.winAddr w (8 * s.fld (if dir = 1 then LWB_WIN_MIR_CTL_IN_OFS w else LWB_WIN_MIR_CTL_OUT_OFS w)), wd := s.winWidth w,
    big := s.curBit (LWB_WIN_CFG_BIGEND w), one := true, mask := 2 ^ 64 - 1,
    data := if dir == 2 then s.fld64 (LWB_WIN_MIR_OUT_LO_VALUE w) (LWB_WIN_MIR_OUT_HI_VALUE w) else 0, poison := false, units := [0], mir := dir }

/-- The state in which a mirror transfer waits in its turn. -/
def State.mirrorQueued (s : State) (w dir : Nat) : State :=
  { s with brg.serial := s.brg.serial + 1, brg.acc := s.brg.acc ++ [s.mirrorAcc w dir] }

/-- A mirror transfer of a window that no gate of the window's own guards is accepted in its turn, and issued unless a lock holds it back. -/
theorem State.startMirror_ungated (hw : 16 ≤ w) :
    s.startMirror w dir = if s.lockedOut (s.winPort w) (s.bndPort (s.winBnd w)) then s.mirrorQueued w dir
      else (s.mirrorQueued w dir).issueAcc (s.mirrorAcc w dir) := by
  have haccept : s.startMirror w dir = ({ s with brg.serial := s.brg.serial + 1 } : State).acceptAcc (s.mirrorAcc w dir) := by
    unfold State.startMirror
    simp only [if_neg (Nat.not_lt.2 hw), ne_eq, not_true_eq_false, if_false]
    rfl
  rw [haccept, State.acceptAcc_read rfl rfl]
  rfl

theorem State.mirrorQueued_regs (s : State) (w dir : Nat) : (s.mirrorQueued w dir).regs = s.regs := rfl

/-- A transfer that a lock holds back waits. -/
theorem exec_mirrorPeriod_waits (hw : 16 ≤ w) (hw' : w < 64) (hon : s.winOn w = true) (hfirst : (s.bwin w).mirLast = none)
    (hin : s.bit (LWB_WIN_MIR_CTL_IN_EN w) = true) (hout : s.bit (LWB_WIN_MIR_CTL_OUT_EN w) = false) (hidle : s.mirBusy w 1 = false)
    (hlocked : s.lockedOut (s.winPort w) (s.bndPort (s.winBnd w)) = true) :
    ∃ t a, exec (.mirrorPeriod w) s = .next t ∧ t.brg.acc = s.brg.acc ++ [a] ∧ a.win = w ∧ a.mir = 1 ∧ a.write = false := by
  have hdue : s.PeriodPassed w := fun f hf => absurd (hfirst.symm.trans hf) (by simp)
  have hstart : (s.periodNoted w).startMirror w 1 = (s.periodNoted w).mirrorQueued w 1 := (State.startMirror_ungated hw).trans (if_pos hlocked)
  have hperiod := State.mirrorPeriod_due hw' hon hdue
  rw [if_pos ⟨hin, (congrArg Bool.not hidle :)⟩, hstart,
    State.mirrorOutbound_off ((State.bit_congr ((s.periodNoted w).mirrorQueued_regs w 1) _).trans hout)] at hperiod
  exact ⟨_, (s.periodNoted w).mirrorAcc w 1, congrArg s.done hperiod, rfl, rfl, rfl, rfl⟩

/-- The state in which an access has been marked as issued. -/
def State.issuedAs (s : State) (a : BAcc) : State := s.putAcc { a with issued := true, since := s.time.frame }

/-- The unit of a mirror transfer. -/
def BAcc.mirrorUnit (a : BAcc) : Msg :=
  { farMsg a.port (if a.write then .ioPosted else .ioReq) a.win a.bnd a.id with
    addr := a.unitAddr 0, len := a.wd, data := if a.write then a.unitData 0 else 0, be := if a.write then a.unitBe 0 else 2 ^ a.wd - 1, line := 0,
    poison := a.poison, ld := 2 * a.win + (if a.posted then 1 else 0) }

theorem State.sendUnits_one (s : State) {a : BAcc} (hunits : a.units = [0]) : s.sendUnits a a.units false = (s.tally 340 0x060 1).send a.mirrorUnit := by
  rw [hunits]
  rfl

/-- The state in which the unit of a mirror transfer has been sent. -/
def State.unitSent (s : State) (a : BAcc) : State := ((s.issuedAs a).tally 340 0x060 1).send a.mirrorUnit

/-- A transfer that the far port's gate allows sends its unit, and an outbound one its flush read. -/
theorem State.issueAcc_mirror {a : BAcc} (hmir : a.mir ≠ 0) (hposted : a.posted = false) (hunits : a.units = [0]) (hone : a.one = true)
    (hallow : s.gateEval a.port (0x3000 + a.win) (if a.write then .write else .read) a.far a.wd = .allow) :
    s.issueAcc a = if a.write then (s.unitSent a).flushRead a.win a.bnd a.port (a.unitAddr 0) [a.id] none [] else s.unitSent a := by
  have hgate : s.gateCheck a.port (0x3000 + a.win) (if a.write then .write else .read) a.far (if a.one then a.wd else 64) = (.allow, s) := by
    unfold State.gateCheck
    rw [if_pos hone, hallow]
  have hlast : a.units.getLast?.getD 0 = 0 := by
    rw [hunits]
    rfl
  have hsent : (s.issuedAs a).sendUnits a a.units false = s.unitSent a := State.sendUnits_one _ hunits
  unfold State.issueAcc
  dsimp only
  rw [hgate, beq_false_of_ne hmir, Bool.false_and, Bool.false_and, hlast]
  refine (if_neg (not_not.2 rfl)).trans ((if_neg (Bool.eq_false_iff.1 hposted)).trans ?_)
  rw [← hsent]
  by_cases hwrite : a.write = true
  · exact (if_pos hwrite).trans (if_pos hwrite).symm
  · exact (if_neg hwrite).trans ((if_pos hmir).trans (if_neg hwrite).symm)

/-- The issued access of a transfer is among the bridge's. -/
theorem State.mem_issuedAs {a : BAcc} (ha : a ∈ s.brg.acc) : { a with issued := true, since := s.time.frame } ∈ (s.issuedAs a).brg.acc :=
  List.mem_map.2 ⟨a, ha, if_pos rfl⟩

theorem State.mem_mirrorQueued (s : State) (w dir : Nat) : s.mirrorAcc w dir ∈ (s.mirrorQueued w dir).brg.acc :=
  List.mem_append_right _ (List.mem_singleton_self _)

/-- What a port takes turns on the registers and the settings in force. -/
theorem State.takes_of_regs {s t : State} (hregs : t.regs = s.regs) (hforce : t.force = s.force) (p : Nat) (m : Msg) : t.takes p m = s.takes p m := by
  unfold State.takes State.linkUp State.carriesKind State.ideBlocked State.ioOnly State.ioBlocked State.cmBlocked State.role State.curBit
  simp only [State.bit_congr hregs, State.cur_congr hforce]

/-- The state in which the read of an inbound transfer has been sent. -/
def State.mirrorRead (s : State) (w : Nat) : State :=
  (((s.mirrorQueued w 1).issuedAs (s.mirrorAcc w 1)).tally 340 0x060 1).push (s.mirrorAcc w 1).mirrorUnit

theorem State.push_same (s : State) (m : Msg) :
    (s.push m).regs = s.regs ∧ (s.push m).brg = s.brg ∧ (s.push m).time = s.time ∧ (s.push m).pending = s.pending := ⟨rfl, rfl, rfl, rfl⟩

theorem State.tally_same (s : State) (u ev n : Nat) :
    (s.tally u ev n).regs = s.regs ∧ (s.tally u ev n).brg = s.brg ∧ (s.tally u ev n).time = s.time ∧ (s.tally u ev n).pending = s.pending :=
  ⟨rfl, rfl, rfl, rfl⟩

theorem State.mirrorRead_same (s : State) (w : Nat) :
    (s.mirrorRead w).regs = s.regs ∧ (s.mirrorRead w).brg.win = s.brg.win ∧ (s.mirrorRead w).time = s.time ∧ (s.mirrorRead w).pending = s.pending := by
  obtain ⟨hregs, hbrg, htime, hpending⟩ := ((s.mirrorQueued w 1).issuedAs (s.mirrorAcc w 1)).tally_same 340 0x060 1
  obtain ⟨hregs', hbrg', htime', hpending'⟩ := (((s.mirrorQueued w 1).issuedAs (s.mirrorAcc w 1)).tally 340 0x060 1).push_same (s.mirrorAcc w 1).mirrorUnit
  exact ⟨hregs'.trans hregs, (congrArg BrgSt.win (hbrg'.trans hbrg) :), htime'.trans htime, hpending'.trans hpending⟩

/-- The read of an inbound transfer is among the bridge's accesses, and in the queue of the far port. -/
theorem State.mirrorRead_sent (s : State) (w : Nat) :
    (s.mirrorRead w).brg.acc.any (fun a => a.id == s.brg.serial && a.win == w && a.mir == 1 && ! a.write && a.issued) = true ∧
      ((s.mirrorRead w).voq 144 (s.winPort w) MsgKind.ioReq.cls).any (fun m => m.tag == s.brg.serial && m.len == s.winWidth w) = true := by
  have hvoq := State.voq_push_same (((s.mirrorQueued w 1).issuedAs (s.mirrorAcc w 1)).tally 340 0x060 1) (s.mirrorAcc w 1).mirrorUnit
  refine ⟨List.any_eq_true.2 ⟨_, State.mem_issuedAs (s.mem_mirrorQueued w 1), ?_⟩,
    List.any_eq_true.2 ⟨_, (congrArg (_ ∈ ·) hvoq).mpr (List.mem_append_right _ (List.mem_singleton_self _)), ?_⟩⟩
  · simp [State.mirrorAcc]
  · exact (Bool.and_eq_true _ _).symm.mp ⟨beq_self_eq_true s.brg.serial, beq_self_eq_true (s.winWidth w)⟩

/-- An inbound transfer that neither a lock nor a gate stops sends its read to the far port. -/
theorem State.startMirror_reads (hw : 16 ≤ w) (hfree : s.lockedOut (s.winPort w) (s.bndPort (s.winBnd w)) = false)
    (hallow : s.gateEval (s.winPort w) (0x3000 + w) .read (s.winAddr w (8 * s.fld (LWB_WIN_MIR_CTL_IN_OFS w))) (s.winWidth w) = .allow)
    (htakes : s.takes (s.winPort w) { src := 144, dst := s.winPort w, kind := .ioReq } = true) : s.startMirror w 1 = s.mirrorRead w := by
  have hissue : (s.mirrorQueued w 1).issueAcc (s.mirrorAcc w 1) = (s.mirrorQueued w 1).unitSent (s.mirrorAcc w 1) :=
    (State.issueAcc_mirror (s := s.mirrorQueued w 1) (a := s.mirrorAcc w 1) Nat.one_ne_zero rfl rfl rfl hallow).trans (if_neg Bool.false_ne_true)
  have hunit := (s.takes_congr (s.winPort w) (m := { src := 144, dst := s.winPort w, kind := .ioReq }) (n := (s.mirrorAcc w 1).mirrorUnit) rfl rfl rfl).trans htakes
  have hissued := (State.takes_of_regs (s := s) (t := ((s.mirrorQueued w 1).issuedAs (s.mirrorAcc w 1)).tally 340 0x060 1) rfl rfl (s.winPort w)
    (s.mirrorAcc w 1).mirrorUnit).trans hunit
  rw [State.startMirror_ungated hw, if_neg (fun h => Bool.false_ne_true (hfree.symm.trans h)), hissue]
  exact if_neg fun h => Bool.false_ne_true ((congrArg Bool.not hissued).symm.trans h.2)

/-- The inbound transfer of a period: its read is issued, and sent to the far port. -/
theorem exec_mirrorPeriod_reads (hw : 16 ≤ w) (hw' : w < 64) (hon : s.winOn w = true) (hdue : s.PeriodPassed w)
    (hin : s.bit (LWB_WIN_MIR_CTL_IN_EN w) = true) (hout : s.bit (LWB_WIN_MIR_CTL_OUT_EN w) = false) (hidle : s.mirBusy w 1 = false)
    (hfree : s.lockedOut (s.winPort w) (s.bndPort (s.winBnd w)) = false)
    (hallow : s.gateEval (s.winPort w) (0x3000 + w) .read (s.winAddr w (8 * s.fld (LWB_WIN_MIR_CTL_IN_OFS w))) (s.winWidth w) = .allow)
    (htakes : s.takes (s.winPort w) { src := 144, dst := s.winPort w, kind := .ioReq } = true) :
    ∃ t, exec (.mirrorPeriod w) s = .next t ∧ (t.bwin w).mirLast = some s.time.frame ∧
      t.brg.acc.any (fun a => a.id == s.brg.serial && a.win == w && a.mir == 1 && ! a.write && a.issued) = true ∧
      (t.voq 144 (s.winPort w) MsgKind.ioReq.cls).any (fun m => m.tag == s.brg.serial && m.len == s.winWidth w) = true := by
  obtain ⟨hregs, hwin, htime, hpending⟩ := (s.periodNoted w).mirrorRead_same w
  obtain ⟨hacc, hvoq⟩ := (s.periodNoted w).mirrorRead_sent w
  have hperiod := State.mirrorPeriod_due hw' hon hdue
  rw [if_pos ⟨hin, (congrArg Bool.not hidle :)⟩, State.startMirror_reads (s := s.periodNoted w) hw hfree hallow htakes,
    State.mirrorOutbound_off ((State.bit_congr hregs _).trans hout)] at hperiod
  exact ⟨_, (congrArg s.done hperiod).trans (State.done_eq_next htime hpending),
    congrArg BWin.mirLast ((State.bwin_congr hwin w).trans (s.bwin_setBwin_same w _)), hacc, hvoq⟩

/-- An outbound transfer that neither a lock nor a gate stops is issued, with its flush read. -/
theorem State.startMirror_writes (hw : 16 ≤ w) (hfree : s.lockedOut (s.winPort w) (s.bndPort (s.winBnd w)) = false)
    (hallow : s.gateEval (s.winPort w) (0x3000 + w) .write (s.winAddr w (8 * s.fld (LWB_WIN_MIR_CTL_OUT_OFS w))) (s.winWidth w) = .allow) :
    (s.startMirror w 2).brg.acc = ((s.mirrorQueued w 2).issuedAs (s.mirrorAcc w 2)).brg.acc ∧ (s.startMirror w 2).brg.win = s.brg.win := by
  have hissue : (s.mirrorQueued w 2).issueAcc (s.mirrorAcc w 2) = ((s.mirrorQueued w 2).unitSent (s.mirrorAcc w 2)).flushRead w (s.mirrorAcc w 2).bnd
      (s.mirrorAcc w 2).port ((s.mirrorAcc w 2).unitAddr 0) [s.brg.serial] none [] :=
    (State.issueAcc_mirror (s := s.mirrorQueued w 2) (a := s.mirrorAcc w 2) (Nat.succ_ne_zero 1) rfl rfl rfl hallow).trans (if_pos rfl)
  have hsent := (State.bridgeKept_tally ((s.mirrorQueued w 2).issuedAs (s.mirrorAcc w 2)) 340 0x060 1).trans
    (State.bridgeKept_send _ (s.mirrorAcc w 2).mirrorUnit)
  have hflush := State.bridgeKept_flushRead ((s.mirrorQueued w 2).unitSent (s.mirrorAcc w 2)) w (s.mirrorAcc w 2).bnd (s.mirrorAcc w 2).port
    ((s.mirrorAcc w 2).unitAddr 0) [s.brg.serial] none []
  rw [State.startMirror_ungated hw, if_neg (fun h => Bool.false_ne_true (hfree.symm.trans h)), hissue]
  exact ⟨(congrArg BrgSt.acc hflush.brg).trans (congrArg BrgSt.acc hsent.brg :), (congrArg BrgSt.win hflush.brg).trans (congrArg BrgSt.win hsent.brg :)⟩

/-- The outbound transfer of a period: its write carries the value of MIR_OUT, which is no longer pending. -/
theorem exec_mirrorPeriod_writes (hw : 16 ≤ w) (hw' : w < 64) (hon : s.winOn w = true) (hdue : s.PeriodPassed w)
    (hin : s.bit (LWB_WIN_MIR_CTL_IN_EN w) = false) (hout : s.bit (LWB_WIN_MIR_CTL_OUT_EN w) = true) (hpend : (s.bwin w).outPend = true)
    (hidle : s.mirBusy w 2 = false) (hfree : s.lockedOut (s.winPort w) (s.bndPort (s.winBnd w)) = false)
    (hallow : s.gateEval (s.winPort w) (0x3000 + w) .write (s.winAddr w (8 * s.fld (LWB_WIN_MIR_CTL_OUT_OFS w))) (s.winWidth w) = .allow) :
    ∃ t, exec (.mirrorPeriod w) s = .next t ∧ (t.bwin w).mirLast = some s.time.frame ∧ (t.bwin w).outPend = false ∧
      t.brg.acc.any (fun a => a.id == s.brg.serial && a.win == w && a.mir == 2 && a.write && a.issued &&
        a.data == s.fld64 (LWB_WIN_MIR_OUT_LO_VALUE w) (LWB_WIN_MIR_OUT_HI_VALUE w)) = true := by
  have hnoted : (s.periodNoted w).bwin w = { s.bwin w with mirLast := some s.time.frame } := s.bwin_setBwin_same w _
  obtain ⟨u, hu⟩ : ∃ u, (s.periodNoted w).setBwin w { (s.periodNoted w).bwin w with outPend := false } = u := ⟨_, rfl⟩
  have hwin : u.bwin w = { s.bwin w with mirLast := some s.time.frame, outPend := false } := by
    rw [← hu, State.bwin_setBwin_same, hnoted]
  have hperiod : s.mirrorPeriod w = u.startMirror w 2 := by
    rw [State.mirrorPeriod_outbound hw' hon hdue hin, ← hu]
    exact if_pos ⟨hout, (congrArg BWin.outPend hnoted).trans hpend, congrArg Bool.not hidle⟩
  have hsame : u = { s with brg.win := u.brg.win } := hu ▸ rfl
  have hserial : u.brg.serial = s.brg.serial := by rw [hsame]
  have hvalue : u.fld64 (LWB_WIN_MIR_OUT_LO_VALUE w) (LWB_WIN_MIR_OUT_HI_VALUE w) = s.fld64 (LWB_WIN_MIR_OUT_LO_VALUE w) (LWB_WIN_MIR_OUT_HI_VALUE w) := by
    rw [hsame]
    rfl
  have hfree' : u.lockedOut (u.winPort w) (u.bndPort (u.winBnd w)) = false := by
    rw [hsame]
    exact hfree
  have hallow' : u.gateEval (u.winPort w) (0x3000 + w) .write (u.winAddr w (8 * u.fld (LWB_WIN_MIR_CTL_OUT_OFS w))) (u.winWidth w) = .allow := by
    rw [hsame]
    exact hallow
  obtain ⟨hacc, hkept⟩ := State.startMirror_writes hw hfree' hallow'
  have hend := (State.bwin_congr hkept w).trans hwin
  refine ⟨_, congrArg s.done hperiod, congrArg BWin.mirLast hend, congrArg BWin.outPend hend, List.any_eq_true.2 ⟨_,
    (congrArg (_ ∈ ·) hacc).mpr (State.mem_issuedAs (u.mem_mirrorQueued w 2)), ?_⟩⟩
  rw [← hserial, ← hvalue]
  simp [State.mirrorAcc]

/-- A write through the mask of all bits is stored whole. -/
theorem mix_whole (x v : Word) : mix 4294967295#32 x v = v := by
  have hones : 4294967295#32 = BitVec.allOnes 32 := rfl
  unfold mix
  rw [hones, BitVec.not_allOnes, BitVec.and_zero, BitVec.zero_or, BitVec.and_allOnes]

theorem and_whole (v : Word) : v &&& 4294967295#32 = v := BitVec.and_allOnes

/-- A write of MIR_OUT_HI is stored, and the value is pending. -/
theorem exec_mirrorOutWrite_pends {b : Bus} {n : Nat} {v : Word} (htakes : s.takesWrite b (LWB_WIN_MIR_OUT_HI n) = true) (hwho : (s.busP b).isIn 11 = true)
    (hn : n < 64) :
    ∃ t, exec (.mirrorOutWrite b n v) s = .next t ∧ t.bwin n = { s.bwin n with outPend := true } ∧ t.word (LWB_WIN_MIR_OUT_HI n) = v ∧
      t = { s with regs := t.regs, latch := t.latch, brg.win := t.brg.win } := by
  have hwho' : (s.busAcc b).prin.isIn 11 = true := hwho
  have hwrites : s.writeWord (s.busAcc b) (LWB_WIN_MIR_OUT_HI n) v =
      ({ s.setWord (LWB_WIN_MIR_OUT_HI n) v with latch := mdel s.latch (LWB_WIN_MIR_OUT_HI n) } : State).mirrorOut n := by
    unfold State.writeWord
    rw [lookupReg_LWB_WIN_MIR_OUT_HI n hn]
    simp [RegDef.maskOf, fieldFor, fieldWho, hwho', State.wholeWrite, State.writeRefused, State.stagePart, State.writeWord.isPendReg, State.afterWrite,
      State.allowed, fieldMask, mix_whole, and_whole]
  exact ⟨_, congrArg s.done ((busWrite_takes htakes _ v).trans hwrites), State.bwin_setBwin_same _ n _, State.word_setWord_same s _ v, rfl⟩

end Mirrors

/-- Settles O42: an interrupt of a window is followed through its discarded lines to the source it raises, and a mirror period to the access it starts. -/
theorem bridgeInterruptsAndMirrors : Obligations.BridgeInterruptsAndMirrors := by
  unfold Obligations.BridgeInterruptsAndMirrors
  exact ⟨fun _ _ _ => exec_upstreamWrite_unbridged, fun _ _ _ _ => exec_upstreamWrite_doorbell, fun _ _ _ => exec_upstreamWrite_drops,
    fun _ _ _ hp _ => exec_upstreamRead_answers hp,
    fun s p tag hp => (congrArg s.done (if_pos (by simp [hp]))).trans (State.done_eq_next rfl rfl),
    fun _ _ _ _ => exec_intxMessage_asserts, fun _ _ _ => exec_intxMessage_deasserts, fun _ _ _ => exec_sidebandAlert_flush,
    fun _ _ _ _ => exec_prefetchFill_holds, fun _ _ _ _ => exec_prefetchFill_discards, fun _ _ => exec_mirrorPeriod_disabled,
    fun _ _ => exec_mirrorPeriod_waits, fun _ _ => exec_mirrorPeriod_off, fun _ _ _ _ => exec_mirrorOutWrite_pends,
    fun _ _ hw hw' hon hdue hin hout hidle hfree hallow _ htakes _ => exec_mirrorPeriod_reads hw hw' hon hdue hin hout hidle hfree hallow htakes,
    fun _ _ hw hw' hon hdue hin hout hpend hidle hfree hallow _ _ _ => exec_mirrorPeriod_writes hw hw' hon hdue hin hout hpend hidle hfree hallow⟩

end Sys2Proof.Machine
end

section
/-! Proofs of the slots of chapter 16: the supervision of their channels (O57). -/
set_option Elab.async false
namespace Sys2Proof.Machine
open Sys2Proof

/-! ### Registers and record of a channel -/

/-- The registers of every channel lie at the same places of its bank, so two fields of one channel are compared by their places. -/
theorem Fld.apart_slot {f g : Fld} {c a b : Nat} (hf : f.addr = a + c * 0x80) (hg : g.addr = b + c * 0x80)
    (h : (Nat.beq a b && ! f.bitsApart g) = false) : f.Apart g := by
  unfold Fld.Apart
  by_cases hab : a = b
  · exact .inr (by simpa [hab] using h)
  · exact .inl fun heq => hab (Nat.add_right_cancel ((hf.symm.trans heq).trans hg))

theorem State.slot_setSlot_same (s : State) (c : Nat) (x : Slt) : (s.setSlot c x).slot c = x := mgetD_mputD_same _ _ _ _

theorem State.slot_setFld (s : State) (f : Fld) (v c : Nat) : (s.setFld f v).slot c = s.slot c := rfl

theorem State.slot_setBit (s : State) (f : Fld) (v : Bool) (c : Nat) : (s.setBit f v).slot c = s.slot c := rfl

theorem State.slot_congr {s t : State} (h : t.slt = s.slt) (c : Nat) : t.slot c = s.slot c := congrArg (fun m => mgetD m c ({} : Slt)) h

/-- The block of the slots' registers. -/
def inSlots (f : Fld) : Prop := 0x80000 ≤ f.addr ∧ f.addr < 0x90000

/-- What events, faults and the ends of commands leave alone: the settings in force, the clock, the bindings, and the slots' records and registers. -/
structure State.SlotsKept (s t : State) : Prop where
  force : t.force = s.force
  time : t.time = s.time
  bnd : t.bnd = s.bnd
  slt : t.slt = s.slt
  fld : ∀ f, inSlots f → t.fld f = s.fld f

theorem State.SlotsKept.refl (s : State) : s.SlotsKept s := ⟨rfl, rfl, rfl, rfl, fun _ _ => rfl⟩

theorem State.SlotsKept.trans {s t u : State} (h : s.SlotsKept t) (k : t.SlotsKept u) : s.SlotsKept u :=
  ⟨k.force.trans h.force, k.time.trans h.time, k.bnd.trans h.bnd, k.slt.trans h.slt, fun f hf => (k.fld f hf).trans (h.fld f hf)⟩

theorem State.SlotsKept.bit {s t : State} (h : s.SlotsKept t) {f : Fld} (hf : inSlots f) : t.bit f = s.bit f := congrArg (· == 1) (h.fld f hf)

theorem State.slotsKept_raiseShared (s : State) {n : Nat} (hn : n < 512) : s.SlotsKept (s.raiseShared n) :=
  ⟨s.raiseShared_force n, s.raiseShared_time n, s.raiseShared_bnd n, s.raiseShared_slt n,
    fun f hf => s.fld_raiseShared n f hn (by unfold inSlots at hf; omega)⟩

theorem State.slotsKept_reportCode (s : State) (code id : Nat) (addr : Option Nat) (detail : Nat) : s.SlotsKept (s.reportCode code id addr detail) := by
  unfold State.reportCode
  split
  · exact ⟨s.report_force _, s.report_time _, s.report_bnd _, s.report_slt _,
      fun f hf => s.fld_report _ (by unfold inSlots at hf; unfold outsideFaults; omega)⟩
  · exact .refl s

theorem State.slotsKept_lcEndOpt (s : State) (h : Option Nat) (c : Status) : s.SlotsKept (s.lcEndOpt h c) := by
  refine ⟨s.lcEndOpt_force h c, s.lcEndOpt_time h c, s.lcEndOpt_bnd h c, s.lcEndOpt_slt h c, fun f hf => ?_⟩
  have hraised : ∀ (u : State) t, u.regs = s.regs → (u.raisePrivate t 0).fld f = s.fld f := fun u t hu =>
    (u.fld_raisePrivate t 0 f (by decide) (by unfold inSlots at hf; omega)).trans (State.fld_congr hu f)
  cases h with
  | none => rfl
  | some h =>
    unfold State.lcEndOpt State.lcEnd
    dsimp only
    repeat' split
    · exact hraised _ _ rfl
    · exact hraised _ _ rfl
    · rfl
    · rfl

theorem State.slotsKept_refreshPerst (s : State) (g : Nat) : s.SlotsKept (s.refreshPerst g) := by
  simp only [State.refreshPerst]
  split
  · exact .refl s
  · exact ⟨rfl, rfl, rfl, rfl, fun _ _ => rfl⟩

/-! ### The steps of a sample (R353) -/

section Steps

variable {s : State} {c : Nat} {m : Sample}

/-- Whether a field is one of a channel's status or counts. -/
def inStatus (c : Nat) (f : Fld) : Prop := f.addr = SLT_CH_STAT c ∨ f.addr = SLT_CH_CNT c

theorem inSlots_of_inStatus {f : Fld} (hc : c < 32) (hf : inStatus c f) : inSlots f := by
  unfold inStatus SLT_CH_STAT SLT_CH_CNT at hf
  unfold inSlots
  omega

/-- A sample's readings are stored. -/
theorem State.slotMeasure_reads (s : State) {c : Nat} (hc : c < 32) (m : Sample) :
    (s.slotMeasure c m).fld (SLT_CH_MEAS_VOUT c) = min m.vout 65535 ∧ (s.slotMeasure c m).fld (SLT_CH_MEAS_IOUT c) = min (s.slotMa c m.shunt) 65535 ∧
      (s.slotMeasure c m).fld (SLT_FEED_VA (c / 8)) = min m.va 65535 ∧ (s.slotMeasure c m).fld (SLT_FEED_VB (c / 8)) = min m.vb 65535 := by
  have hsat : ∀ n, satTo 16 n % 2 ^ 16 = min n 65535 := fun n => by
    unfold satTo
    omega
  have hstat : ∀ {f g : Fld}, f.addr = SLT_FEED_STAT → g.addr ≠ SLT_FEED_STAT → f.Apart g := fun hf hg => .inl (hf ▸ hg.symm)
  have hmeas : ∀ f : Fld, f.addr = SLT_CH_MEAS c → f.addr ≠ SLT_FEED_STAT ∧ (SLT_FEED_VA (c / 8)).Apart f ∧ (SLT_FEED_VB (c / 8)).Apart f := by
    intro f hf
    have hne : SLT_FEED (c / 8) ≠ f.addr ∧ f.addr ≠ SLT_FEED_STAT := by
      unfold SLT_CH_MEAS at hf
      unfold SLT_FEED SLT_FEED_STAT
      omega
    exact ⟨hne.2, .inl hne.1, .inl hne.1⟩
  have hfeed : ∀ f : Fld, f.addr = SLT_FEED (c / 8) → f.addr ≠ SLT_FEED_STAT := by
    intro f hf
    unfold SLT_FEED at hf
    unfold SLT_FEED_STAT
    omega
  have hbits : ∀ (u : State) {f : Fld}, f.addr ≠ SLT_FEED_STAT → ∀ (a b d e : Bool),
      ((((u.feedBit SLT_FEED_STAT_A_OK (c / 8) a).feedBit SLT_FEED_STAT_B_OK (c / 8) b).feedBit SLT_FEED_STAT_A_OV (c / 8) d).feedBit
        SLT_FEED_STAT_B_OV (c / 8) e).fld f = u.fld f := fun u f hf a b d e =>
    (State.fld_setBit_of_apart _ _ (hstat rfl hf)).trans ((State.fld_setBit_of_apart _ _ (hstat rfl hf)).trans
      ((State.fld_setBit_of_apart _ _ (hstat rfl hf)).trans (State.fld_setBit_of_apart _ _ (hstat rfl hf))))
  obtain ⟨hvout, hvoutA, hvoutB⟩ := hmeas (SLT_CH_MEAS_VOUT c) rfl
  obtain ⟨hiout, hioutA, hioutB⟩ := hmeas (SLT_CH_MEAS_IOUT c) rfl
  refine ⟨(hbits _ hvout _ _ _ _).trans ?_, (hbits _ hiout _ _ _ _).trans ?_, (hbits _ (hfeed (SLT_FEED_VA (c / 8)) rfl) _ _ _ _).trans ?_,
    (hbits _ (hfeed (SLT_FEED_VB (c / 8)) rfl) _ _ _ _).trans ?_⟩
  · rw [State.fld_setFld_of_apart _ _ hvoutB, State.fld_setFld_of_apart _ _ hvoutA, State.fld_setFld_apart _ _ rfl,
      State.fld_setFld_same _ _ _ (show 0 + 16 ≤ 32 by decide)]
    exact hsat _
  · rw [State.fld_setFld_of_apart _ _ hioutB, State.fld_setFld_of_apart _ _ hioutA, State.fld_setFld_same _ _ _ (show 16 + 16 ≤ 32 by decide)]
    exact hsat _
  · rw [State.fld_setFld_apart _ _ rfl, State.fld_setFld_same _ _ _ (show 0 + 16 ≤ 32 by decide)]
    exact hsat _
  · rw [State.fld_setFld_same _ _ _ (show 16 + 16 ≤ 32 by decide)]
    exact hsat _

/-- A channel's record after the readings of a sample have been taken. -/
def State.slotRead (s : State) (c : Nat) (m : Sample) : Slt :=
  let x := s.slot c
  { x with
    feedA := x.feedA.sample m.va, feedB := x.feedB.sample m.vb,
    low := if m.prsnt then min (x.low + 1) 1000 else 0, high := if m.prsnt then 0 else min (x.high + 1) 4,
    ins := countDown x.ins, off := countDown x.off, cool := if x.off.isSome then x.cool else x.cool + 1,
    ramp := x.ramp + 1, pgFor := if s.pg c then min (x.pgFor + 1) 100000 else 0, offWait := x.offWait.map (fun n => n - 1) }

/-- The readings of a sample change nothing of a channel's status, of its counts, of what is in force, of the clock or of the bindings. -/
theorem State.slotMeasure_keeps (s : State) (c : Nat) (m : Sample) :
    (∀ f, inStatus c f → (s.slotMeasure c m).fld f = s.fld f) ∧ (s.slotMeasure c m).slot c = s.slotRead c m ∧ (s.slotMeasure c m).force = s.force ∧
      (s.slotMeasure c m).time = s.time ∧ (s.slotMeasure c m).bnd = s.bnd := by
  refine ⟨fun f hf => ?_, State.slot_setSlot_same _ c _, rfl, rfl, rfl⟩
  have hne : SLT_CH_MEAS c ≠ f.addr ∧ SLT_FEED (c / 8) ≠ f.addr ∧ SLT_FEED_STAT ≠ f.addr := by
    unfold inStatus SLT_CH_STAT SLT_CH_CNT at hf
    unfold SLT_CH_MEAS SLT_FEED SLT_FEED_STAT
    omega
  obtain ⟨hmeas, hfeed, hstat⟩ := hne
  calc (s.slotMeasure c m).fld f
      = ((((s.setFld (SLT_CH_MEAS_VOUT c) (satTo 16 m.vout)).setFld (SLT_CH_MEAS_IOUT c) (satTo 16 (s.slotMa c m.shunt))).setFld (SLT_FEED_VA (c / 8))
          (satTo 16 m.va)).setFld (SLT_FEED_VB (c / 8)) (satTo 16 m.vb)).fld f :=
        (State.fld_setBit_addr _ _ _ _ hstat).trans ((State.fld_setBit_addr _ _ _ _ hstat).trans ((State.fld_setBit_addr _ _ _ _ hstat).trans
          (State.fld_setBit_addr _ _ _ _ hstat)))
    _ = s.fld f :=
        (State.fld_setFld_addr _ _ _ _ hfeed).trans ((State.fld_setFld_addr _ _ _ _ hfeed).trans ((State.fld_setFld_addr _ _ _ _ hmeas).trans
          (State.fld_setFld_addr _ _ _ _ hmeas)))

/-- What a sample does after its presence: the feeds, the breaker, the start timeout, damage and power-good (Table 16-2, orders 2 to 6). -/
def State.slotOrders (s : State) (c : Nat) (m : Sample) (ma : Nat) : State :=
  let b := s.slotFeeds c m
  if b.1 then b.2 else
    let d := b.2.slotBreaker c ma
    if d.1 then d.2 else
      let e := d.2.chStart c
      if e.1 then e.2 else (e.2.slotDamage c m).slotPower c m

theorem State.slotSample_eq (s : State) (c : Nat) (m : Sample) :
    s.slotSample c m = ((if (((s.slotMeasure c m).slotOff c m).slotPresence c).1 then (((s.slotMeasure c m).slotOff c m).slotPresence c).2
      else (((s.slotMeasure c m).slotOff c m).slotPresence c).2.slotOrders c m (s.slotMa c m.shunt)).coolingEnd c).refreshPerst c := rfl

theorem State.slotOff_idle (hwait : (s.slot c).offWait = none) (hcmd : (s.slot c).offCmd = none) : s.slotOff c m = s := by
  unfold State.slotOff
  simp only [hwait, hcmd]

theorem State.slotPower_off (hfeed : s.fld (SLT_CH_STAT_FEED_ACT c) = 0) (hsw : (s.slot c).sw = none) :
    ∃ g b, s.slotPower c m = s.setSlot c { s.slot c with good := g, bad := b } := by
  unfold State.slotPower
  simp only [hsw]
  exact ⟨_, _, if_pos hfeed⟩

/-- A channel that is off, with its output low and its gates off, stays as it is but for the counts of its samples. -/
theorem State.slotOrders_off (hfeed : s.fld (SLT_CH_STAT_FEED_ACT c) = 0) (hsw : (s.slot c).sw = none) (hst : s.chSt c = 1) (hvout : m.vout ≤ 1000)
    (ma : Nat) : ∃ l, s.slotOrders c m ma = { s with slt := l } ∧ (mgetD l c {}).ins = (s.slot c).ins := by
  have hfeeds : s.slotFeeds c m = (false, s) := by
    unfold State.slotFeeds
    simp only [hsw, hfeed, hst]
    rfl
  have hbreaker : s.slotBreaker c ma = (false, s) := if_pos hfeed
  have hstart : s.chStart c = (false, s) := if_neg fun h => absurd (hst.symm.trans h.1) (by decide)
  have hdamage : s.slotDamage c m = s.setSlot c { s.slot c with dmg := 0 } := if_neg fun h => Nat.not_lt.2 hvout h.2.2.2.2
  have hslot := s.slot_setSlot_same c { s.slot c with dmg := 0 }
  obtain ⟨g, b, hpower⟩ := State.slotPower_off (s := s.setSlot c { s.slot c with dmg := 0 }) (c := c) (m := m) hfeed (by rw [hslot]; exact hsw)
  rw [hslot] at hpower
  refine ⟨((s.setSlot c { s.slot c with dmg := 0 }).setSlot c { s.slot c with dmg := 0, good := g, bad := b }).slt, ?_,
    (congrArg Slt.ins (State.slot_setSlot_same (s.setSlot c { s.slot c with dmg := 0 }) c { s.slot c with dmg := 0, good := g, bad := b }) :)⟩
  unfold State.slotOrders
  simp only [hfeeds, hbreaker, hstart, hdamage, Bool.false_eq_true, if_false, hpower]
  rfl

/-- The end of a sample: the cooling clock may clear the fault count, and PERST_N follows. -/
theorem State.slotEnd_keeps (s : State) (c : Nat) :
    (∀ f, inSlots f → (SLT_CH_STAT_FAULT_CNT c).Apart f → ((s.coolingEnd c).refreshPerst c).fld f = s.fld f) ∧
      ((s.coolingEnd c).refreshPerst c).slt = s.slt ∧ ((s.coolingEnd c).refreshPerst c).time = s.time ∧
      ((s.coolingEnd c).refreshPerst c).bnd = s.bnd := by
  have hperst := (s.coolingEnd c).slotsKept_refreshPerst c
  have hcool : (∀ f, (SLT_CH_STAT_FAULT_CNT c).Apart f → (s.coolingEnd c).fld f = s.fld f) ∧ (s.coolingEnd c).slt = s.slt ∧
      (s.coolingEnd c).time = s.time ∧ (s.coolingEnd c).bnd = s.bnd := by
    unfold State.coolingEnd
    split
    · exact ⟨fun f hf => s.fld_setFld_of_apart 0 hf, rfl, rfl, rfl⟩
    · exact ⟨fun _ _ => rfl, rfl, rfl, rfl⟩
  obtain ⟨hfld, hslt, htime, hbnd⟩ := hcool
  exact ⟨fun f hin hf => (hperst.fld f hin).trans (hfld f hf), hperst.slt.trans hslt, hperst.time.trans htime, hperst.bnd.trans hbnd⟩

theorem State.setPg_idle (h : s.pg c = false) : s.setPg c false = s := if_pos (by rw [h]; rfl)

/-- The gates of a channel that is not power-good turn off. -/
theorem State.gatesOff_dark (h : s.pg c = false) :
    s.gatesOff c false =
      (s.setFld (SLT_CH_STAT_FEED_ACT c) 0).setSlot c { s.slot c with cnt := [], calm := [], sw := none, good := 0, bad := 0 } := by
  unfold State.gatesOff
  dsimp only
  rw [if_neg Bool.false_ne_true]
  refine State.setPg_idle ?_
  exact (State.bit_setFld_apart s (f := SLT_CH_STAT_FEED_ACT c) (g := SLT_CH_STAT_PG c) 0 rfl).trans h

theorem State.onEnds_idle (h : (s.slot c).onCmd = none) (st : Status) : s.onEnds c st = s := by
  unfold State.onEnds
  rw [h]

/-- The gates stay off in a channel that has a delay to wait for, or is not enabled. -/
theorem State.rest_waits (h : (s.slot c).off.isSome = true ∨ s.bit (SLT_CH_STAT_ENABLE c) = false) : ∃ k, s.rest c = s.setFld (SLT_CH_STAT_STATE c) k := by
  unfold State.rest
  split
  · exact ⟨0, rfl⟩
  · split
    · exact ⟨7, rfl⟩
    · split
      next henable =>
        rcases h with hoff | hdis
        · exact ⟨2, if_pos (.inr hoff)⟩
        · exact absurd henable (by simp [hdis])
      next => exact ⟨1, rfl⟩

end Steps

/-! ### Samples (R353, R354, R355) -/

section Samples

variable {s : State} {c : Nat} {m : Sample}

/-- A command that leaves the clock as it is answers the state it comes to. -/
theorem State.done_timed {u : State} (h : u.time = s.time) :
    ∃ t, s.done u = .next t ∧ (∀ f, t.fld f = u.fld f) ∧ t.slt = u.slt ∧ t.time = s.time ∧ t.bnd = u.bnd := by
  refine ⟨_, rfl, fun f => State.fld_congr rfl f, rfl, ?_, rfl⟩
  unfold State.keepClock
  rw [h]

theorem exec_slotSample_eq (hc : c < 32) (hrun : s.slotsRun = true) :
    exec (.slotSample c m.prsnt m.vout m.shunt m.gsA m.gsB m.va m.vb) s = s.done (s.slotSample c m) :=
  congrArg s.done (if_pos ⟨hc, hrun⟩)

/-- A sample that finds no power-off running, and the channel off after its presence, changes nothing more of the channel's registers but its fault
count. -/
theorem State.slotSample_off {a : State} (hwait : (s.slot c).offWait = none) (hcmd : (s.slot c).offCmd = none)
    (hpres : (s.slotMeasure c m).slotPresence c = (false, a)) (hfeed : a.fld (SLT_CH_STAT_FEED_ACT c) = 0) (hsw : (a.slot c).sw = none)
    (hst : a.chSt c = 1) (hvout : m.vout ≤ 1000) :
    (∀ f, inSlots f → (SLT_CH_STAT_FAULT_CNT c).Apart f → (s.slotSample c m).fld f = a.fld f) ∧ ((s.slotSample c m).slot c).ins = (a.slot c).ins ∧
      (s.slotSample c m).time = a.time ∧ (s.slotSample c m).bnd = a.bnd := by
  obtain ⟨-, hslot, -, -, -⟩ := s.slotMeasure_keeps c m
  have hoff : (s.slotMeasure c m).slotOff c m = s.slotMeasure c m :=
    State.slotOff_idle (by rw [hslot]; simp [State.slotRead, hwait]) (by rw [hslot]; exact hcmd)
  obtain ⟨l, horders, hins⟩ := State.slotOrders_off hfeed hsw hst hvout (s.slotMa c m.shunt)
  have heq := s.slotSample_eq c m
  rw [hoff, hpres] at heq
  dsimp only at heq
  rw [if_neg Bool.false_ne_true, horders] at heq
  obtain ⟨hfld, hslt, htime, hbnd⟩ := State.slotEnd_keeps { a with slt := l } c
  rw [← heq] at hfld hslt htime hbnd
  exact ⟨hfld, (congrArg Slt.ins (State.slot_congr hslt c)).trans hins, htime, hbnd⟩

theorem State.slotPresence_same {u : State} (hthere : u.bit (SLT_CH_STAT_PRESENT c) = true) (hhigh : (u.slot c).high ≠ 4) : u.slotPresence c = (false, u) := by
  refine (if_neg fun h => hhigh h.2).trans (if_neg fun h => ?_)
  rw [hthere] at h
  exact Bool.false_ne_true h.1

theorem SLT_CH_STAT_FAULT_CNT_apart {f : Fld} (hf : f.addr = SLT_CH_MEAS c ∨ f.addr = SLT_FEED (c / 8)) : (SLT_CH_STAT_FAULT_CNT c).Apart f := by
  refine .inl ?_
  unfold SLT_CH_MEAS SLT_FEED at hf
  simp only [SLT_CH_STAT_FAULT_CNT, SLT_CH_STAT]
  omega

theorem inSlots_of_reading {f : Fld} (hc : c < 32) (hf : f.addr = SLT_CH_MEAS c ∨ f.addr = SLT_FEED (c / 8)) : inSlots f := by
  unfold SLT_CH_MEAS SLT_FEED at hf
  unfold inSlots
  omega

/-- A sample of a channel that is off records its measurements, and the channel stays off. -/
theorem exec_slotSample_off (hc : c < 32) (hrun : s.slotsRun = true) (hst : s.chSt c = 1) (hpresent : s.bit (SLT_CH_STAT_PRESENT c) = true)
    (hhigh : m.prsnt = true ∨ (s.slot c).high < 3) (hfeed : s.fld (SLT_CH_STAT_FEED_ACT c) = 0) (hsw : (s.slot c).sw = none)
    (hwait : (s.slot c).offWait = none) (hcmd : (s.slot c).offCmd = none) (hpg : s.pg c = false) (hvout : m.vout ≤ 1000) :
    ∃ t, exec (.slotSample c m.prsnt m.vout m.shunt m.gsA m.gsB m.va m.vb) s = .next t ∧ t.fld (SLT_CH_MEAS_VOUT c) = min m.vout 65535 ∧
      t.fld (SLT_CH_MEAS_IOUT c) = min (s.slotMa c m.shunt) 65535 ∧ t.fld (SLT_FEED_VA (c / 8)) = min m.va 65535 ∧
      t.fld (SLT_FEED_VB (c / 8)) = min m.vb 65535 ∧ t.chSt c = 1 ∧ t.pg c = false ∧ t.time = s.time ∧ t.bnd = s.bnd := by
  obtain ⟨hvo, hio, hva, hvb⟩ := s.slotMeasure_reads hc m
  obtain ⟨hstat, hslot, -, htime, hbnd⟩ := s.slotMeasure_keeps c m
  have hstays : ((s.slotMeasure c m).slot c).high ≠ 4 := by
    rw [hslot]
    rcases hhigh with hlow | hhigh
    · simp [State.slotRead, hlow]
    · simp only [State.slotRead]
      split <;> omega
  obtain ⟨hfld, -, htime', hbnd'⟩ := State.slotSample_off hwait hcmd
    (State.slotPresence_same ((congrArg (· == 1) (hstat _ (.inl rfl))).trans hpresent) hstays)
    ((hstat _ (.inl rfl)).trans hfeed) (by rw [hslot]; exact hsw) ((hstat _ (.inl rfl)).trans hst) hvout
  obtain ⟨t, ht, hreg, -, hclock, hbinding⟩ := State.done_timed (htime'.trans htime)
  have hread : ∀ {f : Fld} {v : Nat}, f.addr = SLT_CH_MEAS c ∨ f.addr = SLT_FEED (c / 8) →
      (s.slotMeasure c m).fld f = v → t.fld f = v := fun hf hv =>
    ((hreg _).trans (hfld _ (inSlots_of_reading hc hf) (SLT_CH_STAT_FAULT_CNT_apart hf))).trans hv
  have hsame : ∀ {f : Fld}, f.addr = SLT_CH_STAT c → (SLT_CH_STAT_FAULT_CNT c).bitsApart f = true → t.fld f = s.fld f := fun hf happart =>
    ((hreg _).trans (hfld _ (inSlots_of_inStatus hc (.inl hf)) (.inr happart))).trans (hstat _ (.inl hf))
  exact ⟨t, (exec_slotSample_eq hc hrun).trans ht, hread (.inl rfl) hvo, hread (.inl rfl) hio, hread (.inr rfl) hva, hread (.inr rfl) hvb, (hsame rfl rfl).trans hst,
    (congrArg (· == 1) (hsame (f := SLT_CH_STAT_PG c) rfl rfl)).trans hpg, hclock, hbinding.trans (hbnd'.trans hbnd)⟩

/-- The state in which an insertion has been noted (R354). -/
def State.inserted (s : State) (c : Nat) : State :=
  (((s.setBit (SLT_CH_STAT_PRESENT c) true).inc (SLT_CH_CNT_INS_CNT c)).setSlot c
    { s.slot c with ins := some (s.cur (SLT_CH_CFG_INS_DELAY c) * 1000) }).setFld (SLT_CH_STAT_STATE c) 1

theorem State.slotPresence_inserts {u : State} (hempty : u.bit (SLT_CH_STAT_PRESENT c) = false) (hlow : (u.slot c).low = 1000)
    (hauto : u.curBit (SLT_CH_CFG_AUTO_ON c) = false) (hdis : u.bit (SLT_CH_STAT_ENABLE c) = false) (hlatch : u.bit (SLT_CH_STAT_LATCHED c) = false) :
    u.slotPresence c = (false, u.inserted c) := by
  obtain ⟨v, hv⟩ : ∃ v, ((u.setBit (SLT_CH_STAT_PRESENT c) true).inc (SLT_CH_CNT_INS_CNT c)).setSlot c
    { u.slot c with ins := some (u.cur (SLT_CH_CFG_INS_DELAY c) * 1000) } = v := ⟨_, rfl⟩
  have hcnt : (SLT_CH_CNT_INS_CNT c).addr ≠ SLT_CH_STAT c := by
    simp only [SLT_CH_CNT_INS_CNT, SLT_CH_CNT, SLT_CH_STAT]
    omega
  have hbit : ∀ {f : Fld}, f.addr = SLT_CH_STAT c → v.bit f = (u.setBit (SLT_CH_STAT_PRESENT c) true).bit f := fun {f} hf => by
    rw [← hv]
    exact State.bit_inc_addr _ (SLT_CH_CNT_INS_CNT c) f (hf ▸ hcnt)
  have hthere : v.bit (SLT_CH_STAT_PRESENT c) = true := (hbit rfl).trans (State.bit_setBit_same _ _ _ (show 3 + 1 ≤ 32 by decide) rfl)
  have hlatched : v.bit (SLT_CH_STAT_LATCHED c) = false := ((hbit rfl).trans (State.bit_setBit_apart _ _ rfl)).trans hlatch
  have henable : v.bit (SLT_CH_STAT_ENABLE c) = false := ((hbit rfl).trans (State.bit_setBit_apart _ _ rfl)).trans hdis
  have hrest : v.rest c = v.setFld (SLT_CH_STAT_STATE c) 1 := by
    unfold State.rest
    simp only [hthere, hlatched, henable, Bool.not_true, Bool.false_eq_true, if_false]
  unfold State.inserted
  rw [hv, ← hrest, ← hv]
  unfold State.slotPresence
  dsimp only
  rw [if_neg (by simp [hempty]), if_pos (by simp [hempty, hlow]), if_neg (by simp [hauto])]
  rfl

theorem State.inserted_slot (s : State) (c : Nat) :
    (s.inserted c).slot c = { s.slot c with ins := some (s.cur (SLT_CH_CFG_INS_DELAY c) * 1000) } :=
  (State.slot_setFld _ _ _ c).trans (State.slot_setSlot_same _ c _)

theorem State.inserted_time (s : State) (c : Nat) : (s.inserted c).time = s.time := rfl

theorem State.inserted_keeps (s : State) (c : Nat) :
    (s.inserted c).chSt c = 1 ∧ (s.inserted c).bit (SLT_CH_STAT_PRESENT c) = true ∧
      (s.inserted c).fld (SLT_CH_STAT_FEED_ACT c) = s.fld (SLT_CH_STAT_FEED_ACT c) ∧
      (s.inserted c).fld (SLT_CH_CNT_INS_CNT c) = s.oneMore (SLT_CH_CNT_INS_CNT c) := by
  have hstat : (SLT_CH_CNT_INS_CNT c).Apart (SLT_CH_STAT_PRESENT c) ∧ (SLT_CH_CNT_INS_CNT c).Apart (SLT_CH_STAT_FEED_ACT c) ∧
      (SLT_CH_STAT_STATE c).Apart (SLT_CH_CNT_INS_CNT c) ∧ (SLT_CH_STAT_PRESENT c).Apart (SLT_CH_CNT_INS_CNT c) :=
    ⟨Fld.apart_slot rfl rfl rfl, Fld.apart_slot rfl rfl rfl, Fld.apart_slot rfl rfl rfl, Fld.apart_slot rfl rfl rfl⟩
  obtain ⟨hpresent, hfeed, hstate, hthere⟩ := hstat
  refine ⟨State.fld_setFld_same _ _ _ (show 0 + 3 ≤ 32 by decide), ?_, ?_, ?_⟩
  · exact (State.bit_setFld_apart _ _ rfl).trans ((State.bit_inc_of_apart _ hpresent).trans (State.bit_setBit_same _ _ _ (show 3 + 1 ≤ 32 by decide) rfl))
  · exact (State.fld_setFld_apart _ _ rfl).trans ((State.fld_inc_of_apart _ hfeed).trans (State.fld_setBit_apart _ _ rfl))
  · refine (State.fld_setFld_of_apart _ _ hstate).trans ((State.fld_inc_same _ _ (show 16 + 16 ≤ 32 by decide)).trans ?_)
    rw [State.fld_setBit_of_apart _ _ hthere]
    rfl

/-- The thousandth low sample of the presence line is an insertion: it is counted, and its delay starts. -/
theorem exec_slotSample_inserts (hc : c < 32) (hrun : s.slotsRun = true) (hempty : s.bit (SLT_CH_STAT_PRESENT c) = false) (hprsnt : m.prsnt = true)
    (hlow : (s.slot c).low = 999) (hfeed : s.fld (SLT_CH_STAT_FEED_ACT c) = 0) (hsw : (s.slot c).sw = none) (hwait : (s.slot c).offWait = none)
    (hcmd : (s.slot c).offCmd = none) (hvout : m.vout ≤ 1000) (hauto : s.curBit (SLT_CH_CFG_AUTO_ON c) = false)
    (hdis : s.bit (SLT_CH_STAT_ENABLE c) = false) (hlatch : s.bit (SLT_CH_STAT_LATCHED c) = false) :
    ∃ t, exec (.slotSample c m.prsnt m.vout m.shunt m.gsA m.gsB m.va m.vb) s = .next t ∧ t.bit (SLT_CH_STAT_PRESENT c) = true ∧ t.chSt c = 1 ∧
      t.fld (SLT_CH_CNT_INS_CNT c) = s.oneMore (SLT_CH_CNT_INS_CNT c) ∧ (t.slot c).ins = some (s.cur (SLT_CH_CFG_INS_DELAY c) * 1000) := by
  obtain ⟨hstat, hslot, hforce, htime, -⟩ := s.slotMeasure_keeps c m
  have hbit : ∀ {f : Fld}, f.addr = SLT_CH_STAT c → (s.slotMeasure c m).bit f = s.bit f := fun hf => congrArg (· == 1) (hstat _ (.inl hf))
  have hcur : (s.slotMeasure c m).cur (SLT_CH_CFG_INS_DELAY c) = s.cur (SLT_CH_CFG_INS_DELAY c) := State.cur_congr hforce _
  have hpres := State.slotPresence_inserts (c := c) ((hbit rfl).trans hempty) (by rw [hslot]; simp [State.slotRead, hprsnt, hlow])
    ((congrArg (· == 1) (State.cur_congr hforce (SLT_CH_CFG_AUTO_ON c))).trans hauto) ((hbit rfl).trans hdis) ((hbit rfl).trans hlatch)
  obtain ⟨hst, hthere, hfeed', hcount⟩ := (s.slotMeasure c m).inserted_keeps c
  have hins := (s.slotMeasure c m).inserted_slot c
  obtain ⟨hfld, hslot', htime', -⟩ := State.slotSample_off hwait hcmd hpres (hfeed'.trans ((hstat _ (.inl rfl)).trans hfeed))
    (by rw [hins, hslot]; exact hsw) hst hvout
  obtain ⟨t, ht, hreg, hslt, -, -⟩ := State.done_timed ((htime'.trans (State.inserted_time _ c)).trans htime)
  have hsame : ∀ {f : Fld}, inStatus c f → (SLT_CH_STAT_FAULT_CNT c).Apart f → t.fld f = ((s.slotMeasure c m).inserted c).fld f := fun hf happart =>
    (hreg _).trans (hfld _ (inSlots_of_inStatus hc hf) happart)
  refine ⟨t, (exec_slotSample_eq hc hrun).trans ht, (congrArg (· == 1) (hsame (.inl rfl) (.inr rfl))).trans hthere, (hsame (.inl rfl) (.inr rfl)).trans hst,
    ((hsame (.inr rfl) (Fld.apart_slot rfl rfl rfl)).trans hcount).trans ?_, ?_⟩
  · unfold State.oneMore
    rw [hstat _ (.inr rfl)]
  · rw [State.slot_congr hslt, hslot', hins, hcur]

/-- The fourth high sample of the presence line is a removal: the gates turn off, and the delay of the insertion ends. -/
theorem State.slotPresence_removes {u : State} (hthere : u.bit (SLT_CH_STAT_PRESENT c) = true) (hhigh : (u.slot c).high = 4) (hon : (u.slot c).onCmd = none)
    (hpg : u.pg c = false) :
    ∃ v, u.slotPresence c = (true, v) ∧ v.bit (SLT_CH_STAT_PRESENT c) = false ∧ v.bit (SLT_CH_STAT_ENABLE c) = false ∧
      v.fld (SLT_CH_STAT_FEED_ACT c) = 0 ∧ v.chSt c = 0 ∧ (v.slot c).ins = none ∧ v.time = u.time := by
  have hdark := State.gatesOff_dark (s := u.setBit (SLT_CH_STAT_PRESENT c) false) ((State.bit_setBit_apart _ _ rfl).trans hpg)
  obtain ⟨g, hg⟩ : ∃ g, ((u.setBit (SLT_CH_STAT_PRESENT c) false).gatesOff c false).setBit (SLT_CH_STAT_ENABLE c) false = g := ⟨_, rfl⟩
  have hgone : g.bit (SLT_CH_STAT_PRESENT c) = false := by
    rw [← hg, hdark]
    exact (State.bit_setBit_apart _ _ rfl).trans ((State.bit_setFld_apart _ _ rfl).trans (State.bit_setBit_same _ _ _ (show 3 + 1 ≤ 32 by decide) rfl))
  have hfeed : g.fld (SLT_CH_STAT_FEED_ACT c) = 0 := by
    rw [← hg, hdark]
    exact (State.fld_setBit_apart _ _ rfl).trans (State.fld_setFld_same _ _ _ (show 5 + 2 ≤ 32 by decide))
  have hdis : g.bit (SLT_CH_STAT_ENABLE c) = false := hg ▸ State.bit_setBit_same _ _ _ (show 7 + 1 ≤ 32 by decide) rfl
  have htime : g.time = u.time := by
    rw [← hg, hdark]
    rfl
  have hcmd : (g.slot c).onCmd = none := by
    rw [← hg, hdark]
    exact (congrArg Slt.onCmd ((State.slot_setBit _ _ _ c).trans (State.slot_setSlot_same _ c _))).trans hon
  have hends : g.onEnds c .failed = g := State.onEnds_idle hcmd _
  have hrest : (g.setSlot c { g.slot c with ins := none, first := 0 }).rest c =
      (g.setSlot c { g.slot c with ins := none, first := 0 }).setFld (SLT_CH_STAT_STATE c) 0 := if_pos (congrArg Bool.not hgone)
  refine ⟨(g.setSlot c { g.slot c with ins := none, first := 0 }).setFld (SLT_CH_STAT_STATE c) 0, ?_, (State.bit_setFld_apart _ _ rfl).trans hgone,
    (State.bit_setFld_apart _ _ rfl).trans hdis, (State.fld_setFld_apart _ _ rfl).trans hfeed, State.fld_setFld_same _ _ _ (show 0 + 3 ≤ 32 by decide),
    congrArg Slt.ins ((State.slot_setFld _ _ _ c).trans (g.slot_setSlot_same c _)), htime⟩
  unfold State.slotPresence
  dsimp only
  rw [if_pos ⟨hthere, hhigh⟩, hg, hends, hrest]

/-- A sample that finds its slot empty turns the channel off. -/
theorem exec_slotSample_removes (hc : c < 32) (hrun : s.slotsRun = true) (hthere : s.bit (SLT_CH_STAT_PRESENT c) = true) (hprsnt : m.prsnt = false)
    (hhigh : 3 ≤ (s.slot c).high) (hwait : (s.slot c).offWait = none) (hcmd : (s.slot c).offCmd = none) (hon : (s.slot c).onCmd = none)
    (hpg : s.pg c = false) :
    ∃ t, exec (.slotSample c m.prsnt m.vout m.shunt m.gsA m.gsB m.va m.vb) s = .next t ∧ t.bit (SLT_CH_STAT_PRESENT c) = false ∧
      t.bit (SLT_CH_STAT_ENABLE c) = false ∧ t.fld (SLT_CH_STAT_FEED_ACT c) = 0 ∧ t.chSt c = 0 ∧ (t.slot c).ins = none := by
  obtain ⟨hstat, hslot, -, htime, -⟩ := s.slotMeasure_keeps c m
  have hbit : ∀ {f : Fld}, f.addr = SLT_CH_STAT c → (s.slotMeasure c m).bit f = s.bit f := fun hf => congrArg (· == 1) (hstat _ (.inl hf))
  have hoff : (s.slotMeasure c m).slotOff c m = s.slotMeasure c m :=
    State.slotOff_idle (by rw [hslot]; simp [State.slotRead, hwait]) (by rw [hslot]; exact hcmd)
  have hfour : ((s.slotMeasure c m).slot c).high = 4 := by
    rw [hslot]
    simp only [State.slotRead, hprsnt, Bool.false_eq_true, if_false]
    omega
  obtain ⟨v, hpres, hgone, hdis, hfeed, hst, hins, hclock⟩ := State.slotPresence_removes ((hbit rfl).trans hthere) hfour (by rw [hslot]; exact hon)
    ((hbit (f := SLT_CH_STAT_PG c) rfl).trans hpg)
  have heq := s.slotSample_eq c m
  rw [hoff, hpres] at heq
  dsimp only at heq
  rw [if_pos rfl] at heq
  obtain ⟨hfld, hslt, htime', -⟩ := v.slotEnd_keeps c
  rw [← heq] at hfld hslt htime'
  obtain ⟨t, ht, hreg, hslt', -, -⟩ := State.done_timed ((htime'.trans hclock).trans htime)
  have hsame : ∀ {f : Fld}, f.addr = SLT_CH_STAT c → (SLT_CH_STAT_FAULT_CNT c).bitsApart f = true → t.fld f = v.fld f := fun hf happart =>
    (hreg _).trans (hfld _ (inSlots_of_inStatus hc (.inl hf)) (.inr happart))
  exact ⟨t, (exec_slotSample_eq hc hrun).trans ht, (congrArg (· == 1) (hsame rfl rfl)).trans hgone, (congrArg (· == 1) (hsame rfl rfl)).trans hdis,
    (hsame rfl rfl).trans hfeed, (hsame rfl rfl).trans hst, (congrArg Slt.ins (State.slot_congr (hslt'.trans hslt) c)).trans hins⟩

end Samples

/-! ### Delays, cooling and the fast trip (R355, R357, R359, R360) -/

section Ends

variable {s : State} {c : Nat}

/-- A channel whose delays have ended ramps on its best feed. -/
theorem State.turnOn_ramps {f : Nat} (hins : (s.slot c).ins = none) (hoff : (s.slot c).off = none) (hbest : s.bestFeed c = some f) :
    s.turnOn c = s.startRamp c f 3 := by
  unfold State.turnOn
  simp only [hins, hoff, hbest]
  rfl

theorem State.turnOn_waits (hins : (s.slot c).ins = none) (hoff : (s.slot c).off = none) (hbest : s.bestFeed c = none) :
    s.turnOn c = s.setFld (SLT_CH_STAT_STATE c) 6 := by
  unfold State.turnOn
  simp only [hins, hoff, hbest]
  rfl

/-- Whether a feed may be used turns on the record of its samples, the feed a power-on named and the settings in force. -/
theorem State.bestFeed_congr {t : State} (hforce : t.force = s.force) (hfirst : (t.slot c).first = (s.slot c).first)
    (hfeed : ∀ f, (t.slot c).feed f = (s.slot c).feed f) : t.bestFeed c = s.bestFeed c := by
  unfold State.bestFeed State.prefFeed State.feedOk State.feedEn State.curBit
  simp only [State.cur_congr hforce, hfirst, hfeed]

/-- What the start of a ramp leaves in a channel's status and record. -/
theorem State.startRamp_starts (s : State) (c : Nat) {f : Nat} (hf : f ≤ 2) :
    (s.startRamp c f 3).chSt c = 3 ∧ (s.startRamp c f 3).fld (SLT_CH_STAT_FEED_ACT c) = f ∧
      (s.startRamp c f 3).slot c = { s.slot c with ramp := 0, good := 0, bad := 0, tripped := false } := by
  refine ⟨(State.fld_setFld_apart _ _ rfl).trans (State.fld_setFld_same _ _ _ (show 0 + 3 ≤ 32 by decide)),
    (State.fld_setFld_same _ _ _ (show 5 + 2 ≤ 32 by decide)).trans (Nat.mod_eq_of_lt ?_), State.slot_setSlot_same _ c _⟩
  exact Nat.lt_of_le_of_lt hf (show 2 < 2 ^ 2 by decide)

theorem exec_insertionDelayEnd_notes (hc : c < 32) (hins : (s.slot c).ins = some 0) (hst : s.chSt c ≠ 2) :
    ∃ t, exec (.insertionDelayEnd c) s = .next t ∧ t.slot c = { s.slot c with ins := none } ∧ t = { s with slt := t.slt } := by
  have hset : ∀ x : Slt, ∃ t, s.done (s.setSlot c x) = .next t ∧ t.slot c = x ∧ t = { s with slt := t.slt } := fun x =>
    ⟨_, State.done_eq_next rfl rfl, s.slot_setSlot_same c x, rfl⟩
  obtain ⟨t, ht, hrecord, hframe⟩ := hset { s.slot c with ins := none }
  have hend : s.insertionEnd c = s.setSlot c { s.slot c with ins := none } := (if_pos hins).trans (if_neg hst)
  exact ⟨t, (congrArg s.done ((if_pos hc).trans hend)).trans ht, hrecord, hframe⟩

/-- A channel whose record tells of no more delays ramps on its best feed. -/
theorem State.delayEnds_ramps {x : Slt} {f : Nat} (hins : x.ins = none) (hoff : x.off = none) (hfirst : x.first = (s.slot c).first)
    (hfeed : ∀ f, x.feed f = (s.slot c).feed f) (hbest : s.bestFeed c = some f) (hf : f ≤ 2) :
    ∃ t, s.done ((s.setSlot c x).turnOn c) = .next t ∧ t.chSt c = 3 ∧ t.fld (SLT_CH_STAT_FEED_ACT c) = f ∧
      t.slot c = { x with ramp := 0, good := 0, bad := 0, tripped := false } ∧ t = { s with slt := t.slt, regs := t.regs } := by
  have hslot := s.slot_setSlot_same c x
  have hsame : (s.setSlot c x).bestFeed c = s.bestFeed c :=
    State.bestFeed_congr (t := s.setSlot c x) rfl (by rw [hslot, hfirst]) (fun g => by rw [hslot, hfeed])
  have hturn := State.turnOn_ramps (s := s.setSlot c x) (by rw [hslot, hins]) (by rw [hslot, hoff])
    (hsame.trans hbest)
  obtain ⟨hstate, hact, hrecord⟩ := (s.setSlot c x).startRamp_starts c hf
  rw [hslot] at hrecord
  exact ⟨_, (congrArg s.done hturn).trans (State.done_eq_next rfl rfl), hstate, hact, hrecord, rfl⟩

theorem State.delayEnds_waits {x : Slt} (hins : x.ins = none) (hoff : x.off = none) (hfirst : x.first = (s.slot c).first)
    (hfeed : ∀ f, x.feed f = (s.slot c).feed f) (hbest : s.bestFeed c = none) :
    ∃ t, s.done ((s.setSlot c x).turnOn c) = .next t ∧ t.chSt c = 6 ∧ t.slot c = x ∧ t = { s with slt := t.slt, regs := t.regs } := by
  have hslot := s.slot_setSlot_same c x
  have hsame : (s.setSlot c x).bestFeed c = s.bestFeed c :=
    State.bestFeed_congr (t := s.setSlot c x) rfl (by rw [hslot, hfirst]) (fun g => by rw [hslot, hfeed])
  have hturn := State.turnOn_waits (s := s.setSlot c x) (by rw [hslot, hins]) (by rw [hslot, hoff])
    (hsame.trans hbest)
  exact ⟨_, (congrArg s.done hturn).trans (State.done_eq_next rfl rfl), State.fld_setFld_same _ _ _ (show 0 + 3 ≤ 32 by decide), (State.slot_setFld _ _ _ c).trans hslot, rfl⟩

/-- A delay that ends in a channel without another starts the ramp of its best feed. -/
theorem exec_insertionDelayEnd_ramps {f : Nat} (hc : c < 32) (hins : (s.slot c).ins = some 0) (hst : s.chSt c = 2) (hoff : (s.slot c).off = none)
    (hbest : s.bestFeed c = some f) (hf : f ≤ 2) :
    ∃ t, exec (.insertionDelayEnd c) s = .next t ∧ t.chSt c = 3 ∧ t.fld (SLT_CH_STAT_FEED_ACT c) = f ∧ (t.slot c).ins = none ∧ (t.slot c).ramp = 0 ∧
      t = { s with slt := t.slt, regs := t.regs } := by
  have hend : s.insertionEnd c = (s.setSlot c { s.slot c with ins := none }).turnOn c := (if_pos hins).trans (if_pos hst)
  obtain ⟨t, ht, hstate, hact, hrecord, hframe⟩ := State.delayEnds_ramps (s := s) (c := c) (x := { s.slot c with ins := none }) rfl hoff rfl
    (fun _ => rfl) hbest hf
  exact ⟨t, (congrArg s.done ((if_pos hc).trans hend)).trans ht, hstate, hact, congrArg Slt.ins hrecord, congrArg Slt.ramp hrecord, hframe⟩

theorem State.offTimeEnd_waiting (hoff : (s.slot c).off = some 0) (hst : s.chSt c = 2) :
    s.offTimeEnd c = (s.setSlot c { s.slot c with off := none }).turnOn c := (if_pos hoff).trans (if_pos hst)

theorem exec_offTimeEnd_ramps {f : Nat} (hc : c < 32) (hoff : (s.slot c).off = some 0) (hst : s.chSt c = 2) (hins : (s.slot c).ins = none)
    (hbest : s.bestFeed c = some f) (hf : f ≤ 2) :
    ∃ t, exec (.offTimeEnd c) s = .next t ∧ t.chSt c = 3 ∧ t.fld (SLT_CH_STAT_FEED_ACT c) = f ∧ (t.slot c).off = none ∧ (t.slot c).ramp = 0 ∧
      t = { s with slt := t.slt, regs := t.regs } := by
  obtain ⟨t, ht, hstate, hact, hrecord, hframe⟩ := State.delayEnds_ramps (s := s) (c := c) (x := { s.slot c with off := none }) hins rfl rfl
    (fun _ => rfl) hbest hf
  exact ⟨t, (congrArg s.done ((if_pos hc).trans (State.offTimeEnd_waiting hoff hst))).trans ht, hstate, hact, congrArg Slt.off hrecord,
    congrArg Slt.ramp hrecord, hframe⟩

theorem exec_offTimeEnd_waits (hc : c < 32) (hoff : (s.slot c).off = some 0) (hst : s.chSt c = 2) (hins : (s.slot c).ins = none)
    (hbest : s.bestFeed c = none) :
    ∃ t, exec (.offTimeEnd c) s = .next t ∧ t.chSt c = 6 ∧ (t.slot c).off = none ∧ t = { s with slt := t.slt, regs := t.regs } := by
  obtain ⟨t, ht, hstate, hrecord, hframe⟩ := State.delayEnds_waits (s := s) (c := c) (x := { s.slot c with off := none }) hins rfl rfl (fun _ => rfl) hbest
  exact ⟨t, (congrArg s.done ((if_pos hc).trans (State.offTimeEnd_waiting hoff hst))).trans ht, hstate, congrArg Slt.off hrecord, hframe⟩

theorem exec_coolingExpiry_clears (hc : c < 32) (hcool : s.cur (SLT_CH_TIME_COOL c) * 1000000 ≤ (s.slot c).cool) :
    ∃ t, exec (.coolingExpiry c) s = .next t ∧ t.fld (SLT_CH_STAT_FAULT_CNT c) = 0 ∧ t.bit (SLT_CH_STAT_LATCHED c) = s.bit (SLT_CH_STAT_LATCHED c) ∧
      t = { s with regs := t.regs } :=
  ⟨_, congrArg s.done ((if_pos hc).trans (if_pos hcool)), State.fld_setFld_same _ _ _ (show 16 + 4 ≤ 32 by decide), State.bit_setFld_apart _ _ rfl, rfl⟩

/-- A command whose condition on the channel does not hold changes nothing. -/
theorem State.done_ite_idle {p q : Prop} [Decidable p] [Decidable q] {u : State} (h : ¬ p ∨ ¬ q) :
    s.done (if p then (if q then u else s) else s) = .next s := by
  have hsame : (if p then (if q then u else s) else s) = s := by
    rcases h with hp | hq
    · exact if_neg hp
    · rw [if_neg hq, ite_self]
  rw [hsame]
  exact State.done_eq_next rfl rfl

/-! ### The fast trip (R357, R358) -/

/-- The state in which a fault's gates are off and its registers tell of it, before its report. -/
def State.faultNoted (s : State) (c cause : Nat) : State :=
  (((s.gatesOff c false).setFld (SLT_CH_STAT_FAULT_CNT c) (min (s.fld (SLT_CH_STAT_FAULT_CNT c) + 1) 8)).inc (SLT_CH_CNT_TRIP_CNT c)).setFld
    (SLT_CH_STAT_CAUSE c) cause

theorem State.faultNoted_reads (hpg : s.pg c = false) :
    (s.faultNoted c 2).fld (SLT_CH_STAT_FAULT_CNT c) = min (s.fld (SLT_CH_STAT_FAULT_CNT c) + 1) 8 ∧ (s.faultNoted c 2).fld (SLT_CH_STAT_CAUSE c) = 2 ∧
      (s.faultNoted c 2).fld (SLT_CH_STAT_FEED_ACT c) = 0 ∧ (s.faultNoted c 2).fld (SLT_CH_CNT_TRIP_CNT c) = s.oneMore (SLT_CH_CNT_TRIP_CNT c) ∧
      (s.faultNoted c 2).time = s.time := by
  have hcount : (SLT_CH_CNT_TRIP_CNT c).Apart (SLT_CH_STAT_FAULT_CNT c) ∧ (SLT_CH_CNT_TRIP_CNT c).Apart (SLT_CH_STAT_FEED_ACT c) :=
    ⟨Fld.apart_slot rfl rfl rfl, Fld.apart_slot rfl rfl rfl⟩
  have hstat : (SLT_CH_STAT_CAUSE c).Apart (SLT_CH_CNT_TRIP_CNT c) ∧ (SLT_CH_STAT_FAULT_CNT c).Apart (SLT_CH_CNT_TRIP_CNT c) ∧
      (SLT_CH_STAT_FEED_ACT c).Apart (SLT_CH_CNT_TRIP_CNT c) := ⟨Fld.apart_slot rfl rfl rfl, Fld.apart_slot rfl rfl rfl, Fld.apart_slot rfl rfl rfl⟩
  unfold State.faultNoted
  rw [State.gatesOff_dark hpg]
  refine ⟨?_, State.fld_setFld_same _ _ _ (show 10 + 3 ≤ 32 by decide), ?_, ?_, rfl⟩
  · rw [State.fld_setFld_apart _ _ rfl, State.fld_inc_of_apart _ hcount.1, State.fld_setFld_same _ _ _ (show 16 + 4 ≤ 32 by decide)]
    exact Nat.mod_eq_of_lt (Nat.lt_of_le_of_lt (Nat.min_le_right _ _) (show 8 < 2 ^ 4 by decide))
  · rw [State.fld_setFld_apart _ _ rfl, State.fld_inc_of_apart _ hcount.2, State.fld_setFld_apart _ _ rfl]
    exact State.fld_setFld_same _ _ _ (show 5 + 2 ≤ 32 by decide)
  · rw [State.fld_setFld_of_apart _ _ hstat.1, State.fld_inc_same _ _ (show 0 + 16 ≤ 32 by decide), State.fld_setFld_of_apart _ _ hstat.2.1]
    exact congrArg (fun n => min (n + 1) _) (State.fld_setFld_of_apart s (g := SLT_CH_CNT_TRIP_CNT c) 0 hstat.2.2)

/-- The end of a power-on changes no register of the slots. -/
theorem State.onEnds_keeps (s : State) (c : Nat) (st : Status) : (∀ f, inSlots f → (s.onEnds c st).fld f = s.fld f) ∧ (s.onEnds c st).time = s.time := by
  unfold State.onEnds
  split
  · have hend := (s.setSlot c { s.slot c with onCmd := none }).slotsKept_lcEndOpt ‹_› st
    exact ⟨fun f hf => hend.fld f hf, hend.time⟩
  · exact ⟨fun _ _ => rfl, rfl⟩

/-- The state in which a fast trip has been reported, and the off-time it costs is running. -/
def State.tripReported (s : State) (c off : Nat) : State :=
  let n := min (s.fld (SLT_CH_STAT_FAULT_CNT c) + 1) 8
  let u := (((s.faultNoted c 2).reportCode 0x0601 c none 2).raiseShared (256 + c)).onEnds c .failed
  u.setSlot c { u.slot c with cool := 0, tripped := true, off := if n = 8 then u.slot c |>.off else some off }

theorem State.slotFault_fast (s : State) (c : Nat) : ∃ off, s.slotFault c 2 0 =
    if min (s.fld (SLT_CH_STAT_FAULT_CNT c) + 1) 8 = 8 then
      (((s.tripReported c off).setBit (SLT_CH_STAT_LATCHED c) true).setBit (SLT_CH_STAT_ENABLE c) false).rest c
    else (s.tripReported c off).rest c := ⟨_, rfl⟩

/-- The report of a fast trip and the end of a power-on change no register of the slots. -/
theorem State.tripReported_keeps (s : State) (hc : c < 32) (off : Nat) :
    (∀ f, inSlots f → (s.tripReported c off).fld f = (s.faultNoted c 2).fld f) ∧ (s.tripReported c off).time = (s.faultNoted c 2).time ∧
      (min (s.fld (SLT_CH_STAT_FAULT_CNT c) + 1) 8 ≠ 8 → ((s.tripReported c off).slot c).off.isSome = true) := by
  have htold := ((s.faultNoted c 2).slotsKept_reportCode 0x0601 c none 2).trans (State.slotsKept_raiseShared _ (show 256 + c < 512 by omega))
  obtain ⟨hends, htime⟩ := (((s.faultNoted c 2).reportCode 0x0601 c none 2).raiseShared (256 + c)).onEnds_keeps c .failed
  refine ⟨fun f hf => (hends f hf).trans (htold.fld f hf), htime.trans htold.time, fun hn => ?_⟩
  unfold State.tripReported
  dsimp only
  rw [State.slot_setSlot_same, if_neg hn]
  rfl

/-- A fast trip turns the gates off at once and counts the fault; the eighth latches. -/
theorem exec_fastTrip_trips {shunt : Nat} (hc : c < 32) (hfeed : s.fld (SLT_CH_STAT_FEED_ACT c) ≠ 0)
    (hover : s.cur (SLT_CH_BRK_I c 7) * s.cur (SLT_CH_SHUNT_RSHUNT c) < 5 * shunt) (hpg : s.pg c = false) :
    ∃ t, exec (.fastTrip c shunt) s = .next t ∧ t.fld (SLT_CH_STAT_FAULT_CNT c) = min (s.fld (SLT_CH_STAT_FAULT_CNT c) + 1) 8 ∧
      t.fld (SLT_CH_STAT_CAUSE c) = 2 ∧ t.fld (SLT_CH_STAT_FEED_ACT c) = 0 ∧ t.fld (SLT_CH_CNT_TRIP_CNT c) = s.oneMore (SLT_CH_CNT_TRIP_CNT c) ∧
      (7 ≤ s.fld (SLT_CH_STAT_FAULT_CNT c) → t.bit (SLT_CH_STAT_LATCHED c) = true ∧ t.bit (SLT_CH_STAT_ENABLE c) = false) := by
  obtain ⟨hcount, hcause, hact, htrip, htime⟩ := State.faultNoted_reads hpg
  obtain ⟨off, hfault⟩ := s.slotFault_fast c
  obtain ⟨hkept, hclock, hoff⟩ := s.tripReported_keeps hc off
  have hexec : exec (.fastTrip c shunt) s = s.done (s.slotFault c 2 0) := congrArg s.done ((if_pos hc).trans (if_pos ⟨hfeed, hover⟩))
  have hin : ∀ {f : Fld}, inStatus c f → inSlots f := inSlots_of_inStatus hc
  have hstate : (SLT_CH_STAT_STATE c).Apart (SLT_CH_CNT_TRIP_CNT c) := Fld.apart_slot rfl rfl rfl
  rw [hfault] at hexec
  generalize s.tripReported c off = v at *
  by_cases hn : min (s.fld (SLT_CH_STAT_FAULT_CNT c) + 1) 8 = 8
  · obtain ⟨w, hw⟩ : ∃ w, (v.setBit (SLT_CH_STAT_LATCHED c) true).setBit (SLT_CH_STAT_ENABLE c) false = w := ⟨_, rfl⟩
    have hdis : w.bit (SLT_CH_STAT_ENABLE c) = false := hw ▸ State.bit_setBit_same _ _ _ (show 7 + 1 ≤ 32 by decide) rfl
    have hlatched : w.bit (SLT_CH_STAT_LATCHED c) = true :=
      hw ▸ (State.bit_setBit_apart _ _ rfl).trans (State.bit_setBit_same _ _ _ (show 8 + 1 ≤ 32 by decide) rfl)
    have hlatch : (SLT_CH_STAT_ENABLE c).Apart (SLT_CH_CNT_TRIP_CNT c) ∧ (SLT_CH_STAT_LATCHED c).Apart (SLT_CH_CNT_TRIP_CNT c) :=
      ⟨Fld.apart_slot rfl rfl rfl, Fld.apart_slot rfl rfl rfl⟩
    have hsame : ∀ {f : Fld}, (SLT_CH_STAT_ENABLE c).Apart f → (SLT_CH_STAT_LATCHED c).Apart f → w.fld f = v.fld f := fun henable hlatched =>
      hw ▸ (State.fld_setBit_of_apart _ _ henable).trans (State.fld_setBit_of_apart _ _ hlatched)
    obtain ⟨k, hrest⟩ := State.rest_waits (s := w) (c := c) (.inr hdis)
    rw [if_pos hn, hw, hrest] at hexec
    refine ⟨_, hexec, ?_, ?_, ?_, ?_, fun _ => ⟨(State.bit_setFld_apart _ _ rfl).trans hlatched, (State.bit_setFld_apart _ _ rfl).trans hdis⟩⟩
    · exact (State.fld_setFld_apart _ _ rfl).trans ((hsame (.inr rfl) (.inr rfl)).trans ((hkept _ (hin (.inl rfl))).trans hcount))
    · exact (State.fld_setFld_apart _ _ rfl).trans ((hsame (.inr rfl) (.inr rfl)).trans ((hkept _ (hin (.inl rfl))).trans hcause))
    · exact (State.fld_setFld_apart _ _ rfl).trans ((hsame (.inr rfl) (.inr rfl)).trans ((hkept _ (hin (.inl rfl))).trans hact))
    · exact (State.fld_setFld_of_apart _ _ hstate).trans ((hsame hlatch.1 hlatch.2).trans ((hkept _ (hin (.inr rfl))).trans htrip))
  · obtain ⟨k, hrest⟩ := State.rest_waits (.inl (hoff hn))
    rw [if_neg hn, hrest] at hexec
    refine ⟨_, hexec, ?_, ?_, ?_, ?_, fun h7 => absurd (by omega) hn⟩
    · exact (State.fld_setFld_apart _ _ rfl).trans ((hkept _ (hin (.inl rfl))).trans hcount)
    · exact (State.fld_setFld_apart _ _ rfl).trans ((hkept _ (hin (.inl rfl))).trans hcause)
    · exact (State.fld_setFld_apart _ _ rfl).trans ((hkept _ (hin (.inl rfl))).trans hact)
    · exact (State.fld_setFld_of_apart _ _ hstate).trans ((hkept _ (hin (.inr rfl))).trans htrip)

end Ends

/-- Settles O57: a sample is followed through the orders of Table 16-2, an ended delay to the ramp of the best feed, and a fast trip to the gates it turns
off. -/
theorem slotSupervision : Obligations.SlotSupervision := by
  unfold Obligations.SlotSupervision
  refine ⟨?idle, fun _ c vout shunt gsA gsB va vb l hc hrun hst hthere hhigh hfeed hsw hwait hcmd hpg hv =>
      exec_slotSample_off (m := ⟨l, vout, shunt, gsA, gsB, va, vb⟩) hc hrun hst hthere hhigh hfeed hsw hwait hcmd hpg hv,
    fun _ c vout shunt gsA gsB va vb hc hrun _ hempty hlow hfeed hsw hwait hcmd _ hv hauto hdis hlatch =>
      exec_slotSample_inserts (m := ⟨true, vout, shunt, gsA, gsB, va, vb⟩) hc hrun hempty rfl hlow hfeed hsw hwait hcmd hv hauto hdis hlatch,
    fun _ c vout shunt gsA gsB va vb hc hrun hthere hhigh hwait hcmd hon hpg =>
      exec_slotSample_removes (m := ⟨false, vout, shunt, gsA, gsB, va, vb⟩) hc hrun hthere rfl hhigh hwait hcmd hon hpg,
    fun _ _ => exec_insertionDelayEnd_notes, fun _ _ _ => exec_insertionDelayEnd_ramps, ?noDelay, fun _ _ _ => exec_offTimeEnd_ramps,
    fun _ _ => exec_offTimeEnd_waits, ?noOffTime, fun _ _ => exec_coolingExpiry_clears, ?warm, fun _ _ _ => exec_fastTrip_trips, ?untripped⟩
  case idle =>
    intro s c vout shunt gsA gsB va vb l h
    refine (congrArg s.done (if_neg fun hrun => ?_)).trans (State.done_eq_next rfl rfl)
    rcases h with hc | hoff
    · omega
    · exact Bool.false_ne_true (hoff.symm.trans hrun.2)
  case noDelay => exact fun s c h => State.done_ite_idle (h.imp (by omega) id)
  case noOffTime => exact fun s c h => State.done_ite_idle (h.imp (by omega) id)
  case warm => exact fun s c h => State.done_ite_idle (h.imp (by omega) (by omega))
  case untripped =>
    intro s c shunt h
    refine State.done_ite_idle ?_
    rcases h with hc | hfeed | hunder
    · exact .inl (by omega)
    · exact .inr fun htrip => htrip.1 hfeed
    · exact .inr fun htrip => Nat.not_lt.2 hunder htrip.2

end Sys2Proof.Machine
end

section
/-! Proofs of the slots of chapter 16: the commands of their channels, by opcode and by register (O58). -/
set_option Elab.async false
namespace Sys2Proof.Machine
open Sys2Proof

/-! ### Served requests, at the state their session's entry wrote -/

/-- A served request leaves what its body makes of the state that its session's entry wrote, and is answered with what the body answers. -/
theorem done_at_entry {s : State} {rq : Rq} {op : Nat} {p : Principal} (hs : s.serves rq op p = true) (i : Instr) (body : Principal → State → Ans) :
    ∃ m, ∀ {u : State} {c : Status} {frame : Nat} {data : List (Nat × Nat)},
      body p { s with mbx.sess := m } = { st := u, status := c, frame := frame, data := data } → u.time = s.time → u.pending = s.pending →
      ∃ t, s.done (xib op rq i s body) = .next t ∧ t.replied rq op c frame data ∧ t = { u with out := t.out, mbx.sess := t.mbx.sess } := by
  refine ⟨(s.entered rq).mbx.sess, fun {u c frame data} hbody htime hpending => ?_⟩
  obtain ⟨n, hn⟩ := done_entered hs i body ((congrArg (body p) (State.entered_eq s rq)).trans hbody) rfl
  refine ⟨{ u with out := s.sentReply rq op { status := c, frame := frame, data := data } u.out, mbx.sess := n }, hn.trans ?_, rfl, rfl⟩
  unfold State.keepClock
  rw [← htime, ← hpending]

/-! ### What the commands of a channel do (R365, R366, R367) -/

section Commands

variable {s : State} {c : Nat}

/-- A channel has gone to the state that its presence, latch and ENABLE give: nothing changes but its state, its active feed and the counts of its ramp. -/
structure State.RestsTo (s : State) (c : Nat) (t : State) : Prop where
  frame : t = { s with regs := t.regs, slt := t.slt }
  fld : ∀ f, (SLT_CH_STAT_STATE c).Apart f → (SLT_CH_STAT_FEED_ACT c).Apart f → t.fld f = s.fld f
  slot : t.slot c = s.slot c ∨ t.slot c = { s.slot c with ramp := 0, good := 0, bad := 0, tripped := false }

theorem State.RestsTo.refl (s : State) (c : Nat) : s.RestsTo c s := ⟨rfl, fun _ _ _ => rfl, .inl rfl⟩

theorem State.restsTo_state (s : State) (c k : Nat) : s.RestsTo c (s.setFld (SLT_CH_STAT_STATE c) k) :=
  ⟨rfl, fun _ hf _ => s.fld_setFld_of_apart k hf, .inl rfl⟩

theorem State.restsTo_startRamp (s : State) (c f : Nat) : s.RestsTo c (s.startRamp c f 3) :=
  ⟨rfl, fun _ hst hact => (State.fld_setFld_of_apart _ _ hact).trans (State.fld_setFld_of_apart _ _ hst), .inr (State.slot_setSlot_same _ c _)⟩

theorem State.restsTo_turnOn (s : State) (c : Nat) : s.RestsTo c (s.turnOn c) := by
  unfold State.turnOn
  dsimp only
  split
  · exact s.restsTo_state c 2
  · split
    · exact s.restsTo_startRamp c _
    · exact s.restsTo_state c 6

theorem State.restsTo_rest (s : State) (c : Nat) : s.RestsTo c (s.rest c) := by
  unfold State.rest
  split
  · exact s.restsTo_state c 0
  · split
    · exact s.restsTo_state c 7
    · split
      · exact s.restsTo_turnOn c
      · exact s.restsTo_state c 1

theorem State.RestsTo.bit {t : State} (h : s.RestsTo c t) {f : Fld} (hst : (SLT_CH_STAT_STATE c).Apart f) (hact : (SLT_CH_STAT_FEED_ACT c).Apart f) :
    t.bit f = s.bit f := congrArg (· == 1) (h.fld f hst hact)

/-- A power-on of a channel without power-good sets ENABLE, and remembers the feed and the command. -/
theorem State.powerOn_starts (s : State) {c : Nat} (hpg : s.pg c = false) (f : Nat) (h : Option Nat) :
    s.powerOn c f h = { s with regs := (s.powerOn c f h).regs, slt := (s.powerOn c f h).slt } ∧ (s.powerOn c f h).bit (SLT_CH_STAT_ENABLE c) = true ∧
      ((s.powerOn c f h).slot c).first = f ∧ ((s.powerOn c f h).slot c).onCmd = some h := by
  obtain ⟨v, hv⟩ : ∃ v, (s.setBit (SLT_CH_STAT_ENABLE c) true).setSlot c { s.slot c with first := f, onCmd := some h } = v := ⟨_, rfl⟩
  have hrests : v.RestsTo c (s.powerOn c f h) := by
    unfold State.powerOn
    dsimp only
    rw [hpg, hv, if_neg Bool.false_ne_true]
    split
    · exact v.restsTo_rest c
    · exact .refl v c
  have hframe : v = { s with regs := v.regs, slt := v.slt } := hv ▸ rfl
  have hslot : v.slot c = { s.slot c with first := f, onCmd := some h } := hv ▸ State.slot_setSlot_same _ c _
  have henable : v.bit (SLT_CH_STAT_ENABLE c) = true := hv ▸ State.bit_setBit_same s (SLT_CH_STAT_ENABLE c) true (show 7 + 1 ≤ 32 by decide) rfl
  generalize s.powerOn c f h = t at *
  refine ⟨hrests.frame.trans (by rw [hframe]), (hrests.bit (.inr rfl) (.inr rfl)).trans henable, ?_, ?_⟩
  · rcases hrests.slot with hx | hx <;> rw [hx, hslot]
  · rcases hrests.slot with hx | hx <;> rw [hx, hslot]

theorem State.declareAll_down {ps : List Nat} (h : ∀ q ∈ ps, s.linkUp q = false) : s.declareAll ps = s := by
  have hup : ps.filter s.linkUp = [] := List.filter_eq_nil_iff.2 fun q hq => by simp [h q hq]
  have hdrop : s.dropBetween (ps.filter s.linkUp) = s := by
    rw [hup]
    unfold State.dropBetween
    simp
  unfold State.declareAll
  rw [hdrop]
  clear hup hdrop
  induction ps with
  | nil => rfl
  | cons q ps ih =>
    rw [List.foldl_cons, State.declareDown_of_not_linkUp (h q List.mem_cons_self)]
    exact ih fun r hr => h r (List.mem_cons_of_mem q hr)

/-- A power-off of a channel whose links are down clears ENABLE, and its gates turn off a millisecond later. -/
theorem State.powerOff_starts (s : State) {c : Nat} (hc : c < 32) (hdown : ∀ q ∈ s.portsOf c, s.linkUp q = false) (hon : (s.slot c).onCmd = none)
    (h : Option Nat) :
    (s.powerOff c h).bit (SLT_CH_STAT_ENABLE c) = false ∧ ((s.powerOff c h).slot c).offCmd = some h ∧ ((s.powerOff c h).slot c).offWait = some 1000 ∧
      (s.powerOff c h).fld (SLT_CH_STAT_FEED_ACT c) = s.fld (SLT_CH_STAT_FEED_ACT c) ∧ (s.powerOff c h).time = s.time ∧
      (s.powerOff c h).pending = s.pending := by
  obtain ⟨v, hv⟩ : ∃ v, s.setBit (SLT_CH_STAT_ENABLE c) false = v := ⟨_, rfl⟩
  have hends : v.onEnds c .failed = v := State.onEnds_idle (hv ▸ hon) _
  have hlinks : ∀ q ∈ s.portsOf c, v.linkUp q = false := fun q hq => by
    rw [← hv]
    refine (State.bit_setBit_addr s _ (PRT_LINK_STAT_UP q) false ?_).trans (hdown q hq)
    simp only [SLT_CH_STAT_ENABLE, SLT_CH_STAT, PRT_LINK_STAT_UP, PRT_LINK_STAT]
    omega
  have hdeclared : v.declareAll (s.portsOf c) = v := State.declareAll_down hlinks
  obtain ⟨w, hw⟩ : ∃ w, v.setSlot c { v.slot c with offCmd := some h, offWait := some 1000 } = w := ⟨_, rfl⟩
  have hslot : w.slot c = { v.slot c with offCmd := some h, offWait := some 1000 } := hw ▸ v.slot_setSlot_same c _
  have hdis : w.bit (SLT_CH_STAT_ENABLE c) = false := by
    rw [← hw, ← hv]
    exact State.bit_setBit_same s (SLT_CH_STAT_ENABLE c) false (show 7 + 1 ≤ 32 by decide) rfl
  have hact : w.fld (SLT_CH_STAT_FEED_ACT c) = s.fld (SLT_CH_STAT_FEED_ACT c) := by
    rw [← hw, ← hv]
    exact State.fld_setBit_apart s (f := SLT_CH_STAT_ENABLE c) false rfl
  have hclock : w.time = s.time ∧ w.pending = s.pending := by
    rw [← hw, ← hv]
    exact ⟨rfl, rfl⟩
  have hoff : ∃ x : State, s.powerOff c h = x.refreshPerst c ∧ (x = w ∨ ∃ k, x = w.setFld (SLT_CH_STAT_STATE c) k) := by
    refine ⟨if w.chSt c = 2 ∨ w.chSt c = 6 then w.rest c else w, ?_, ?_⟩
    · unfold State.powerOff
      dsimp only
      rw [hv, hends, hdeclared, hw]
    · split
      · exact .inr (State.rest_waits (.inr hdis))
      · exact .inl rfl
  obtain ⟨x, hx, hstate⟩ := hoff
  have hperst := x.slotsKept_refreshPerst c
  have hpending : (x.refreshPerst c).pending = x.pending := by
    simp only [State.refreshPerst]
    split <;> rfl
  have hin : ∀ {f : Fld}, f.addr = SLT_CH_STAT c → inSlots f := fun hf => inSlots_of_inStatus hc (.inl hf)
  have hkeeps : (∀ {f : Fld}, (SLT_CH_STAT_STATE c).Apart f → x.fld f = w.fld f) ∧ x.slt = w.slt ∧ x.time = w.time ∧ x.pending = w.pending := by
    rcases hstate with rfl | ⟨k, rfl⟩
    · exact ⟨fun _ => rfl, rfl, rfl, rfl⟩
    · exact ⟨fun hf => w.fld_setFld_of_apart k hf, rfl, rfl, rfl⟩
  obtain ⟨hfld, hslt, htime, hpend⟩ := hkeeps
  have hrecord := (State.slot_congr (hperst.slt.trans hslt) c).trans hslot
  rw [hx]
  exact ⟨(congrArg (· == 1) ((hperst.fld _ (hin rfl)).trans (hfld (.inr rfl)))).trans hdis, congrArg Slt.offCmd hrecord, congrArg Slt.offWait hrecord,
    ((hperst.fld _ (hin rfl)).trans (hfld (.inr rfl))).trans hact, (hperst.time.trans htime).trans hclock.1, (hpending.trans hpend).trans hclock.2⟩

/-- A clear-latch of a channel whose output is low clears the fault count, damage, latch and off-time. -/
theorem State.clearLatch_clears (s : State) {c : Nat} (hvout : s.fld (SLT_CH_MEAS_VOUT c) < 1000) :
    s.clearLatch c = { s with regs := (s.clearLatch c).regs, slt := (s.clearLatch c).slt } ∧ (s.clearLatch c).fld (SLT_CH_STAT_FAULT_CNT c) = 0 ∧
      (s.clearLatch c).bit (SLT_CH_STAT_LATCHED c) = false ∧ (s.clearLatch c).bit (SLT_CH_STAT_DAMAGED c) = false ∧
      ((s.clearLatch c).slot c).off = none := by
  obtain ⟨v, hv⟩ : ∃ v, (((s.setFld (SLT_CH_STAT_FAULT_CNT c) 0).setSlot c { s.slot c with off := none, dmg := 0 }).setBit (SLT_CH_STAT_DAMAGED c)
    false).setBit (SLT_CH_STAT_LATCHED c) false = v := ⟨_, rfl⟩
  have hrests : v.RestsTo c (s.clearLatch c) := by
    unfold State.clearLatch
    dsimp only
    rw [if_pos (show s.fld (SLT_CH_MEAS_VOUT c) < 1000 ∨ _ from .inl hvout), hv]
    split
    · exact v.restsTo_rest c
    · exact .refl v c
  have hframe : v = { s with regs := v.regs, slt := v.slt } := hv ▸ rfl
  have hslot : (v.slot c).off = none := by
    rw [← hv, State.slot_setBit, State.slot_setBit, State.slot_setSlot_same]
  have hcount : v.fld (SLT_CH_STAT_FAULT_CNT c) = 0 := hv ▸ (State.fld_setBit_apart _ _ rfl).trans ((State.fld_setBit_apart _ _ rfl).trans
    (State.fld_setFld_same s (SLT_CH_STAT_FAULT_CNT c) 0 (show 16 + 4 ≤ 32 by decide)))
  have hlatched : v.bit (SLT_CH_STAT_LATCHED c) = false := hv ▸ State.bit_setBit_same _ _ _ (show 8 + 1 ≤ 32 by decide) rfl
  have hdamaged : v.bit (SLT_CH_STAT_DAMAGED c) = false :=
    hv ▸ (State.bit_setBit_apart _ _ rfl).trans (State.bit_setBit_same _ _ _ (show 9 + 1 ≤ 32 by decide) rfl)
  generalize s.clearLatch c = t at *
  refine ⟨hrests.frame.trans (by rw [hframe]), (hrests.fld _ (.inr rfl) (.inr rfl)).trans hcount, (hrests.bit (.inr rfl) (.inr rfl)).trans hlatched,
    (hrests.bit (.inr rfl) (.inr rfl)).trans hdamaged, ?_⟩
  rcases hrests.slot with hx | hx <;> rw [hx] <;> exact hslot

end Commands

/-! ### The opcodes of a channel (R366, R367, R369) -/

section Opcodes

variable {s : State} {rq : Rq} {p : Principal} {c f : Nat} {r : Status}

theorem exec_getChannel_reads (hs : s.serves rq 0x0900 p = true) (hc : c < 32) :
    ∃ t, exec (.getChannel rq c) s = .next t ∧ t.replied rq 0x0900 .success s.time.frame
        [(4, (s.word (SLT_CH_STAT c)).toNat), (4, (s.word (SLT_CH_MEAS c)).toNat), (4, s.slotOfft c), (4, (s.word (SLT_CH_CNT c)).toNat)] ∧
      t = { s with out := t.out, mbx.sess := t.mbx.sess } :=
  done_turned hs _ _ fun _ => if_neg (by omega)

/-- A request refused by a check that its body makes first is turned away. -/
theorem slotPowerOn_refuses (hs : s.serves rq 0x0901 p = true) (hr : s.onRefusal c f = some r) :
    ∃ t, exec (.slotPowerOn rq c f) s = .next t ∧ s.turnsAway t rq 0x0901 r :=
  done_turned hs _ _ fun m => by
    have hrefused : State.onRefusal { s with mbx.sess := m } c f = some r := hr
    simp only [hrefused]
    rfl

theorem slotPowerOff_refuses (hs : s.serves rq 0x0902 p = true) (hr : s.offRefusal p c = some r) :
    ∃ t, exec (.slotPowerOff rq c) s = .next t ∧ s.turnsAway t rq 0x0902 r :=
  done_turned hs _ _ fun m => by
    have hrefused : State.offRefusal { s with mbx.sess := m } p c = some r := hr
    simp only [hrefused]
    rfl

theorem clearLatch_refuses (hs : s.serves rq 0x0903 p = true) (hr : s.clrRefusal c = some r) :
    ∃ t, exec (.clearLatch rq c) s = .next t ∧ s.turnsAway t rq 0x0903 r :=
  done_turned hs _ _ fun m => by
    have hrefused : State.clrRefusal { s with mbx.sess := m } c = some r := hr
    simp only [hrefused]
    rfl

/-- What a long command's start changes. -/
theorem State.lcStart_frame (s : State) (op : Nat) (ref : Ref) (p : Principal) (target : Nat) :
    (s.lcStart op ref p target).2 = { s with mbx.lc := (s.lcStart op ref p target).2.mbx.lc, fresh := s.fresh + 1 } := rfl

/-- SLOT_POWER_ON begins a long command and sets ENABLE. -/
theorem slotPowerOn_begins (hs : s.serves rq 0x0901 p = true) (hr : s.onRefusal c f = none) (hfree : s.lcSlots ≠ []) (hpg : s.pg c = false) :
    ∃ t h, exec (.slotPowerOn rq c f) s = .next t ∧ t.replied rq 0x0901 .inProgress s.time.frame [(2, h)] ∧ t.bit (SLT_CH_STAT_ENABLE c) = true ∧
      (t.slot c).first = f ∧ (t.slot c).onCmd = some (some h) ∧
      t = { s with out := t.out, mbx.sess := t.mbx.sess, mbx.lc := t.mbx.lc, fresh := s.fresh + 1, regs := t.regs, slt := t.slt } := by
  obtain ⟨m, hrun⟩ := done_at_entry hs (.slotPowerOn rq c f) fun p s => match s.onRefusal c f with
    | some st => s.refuse st
    | none =>
      if s.lcSlots = [] then s.refuse .busy
      else
        let x := s.lcStart 0x0901 (rqRef rq 0x0901) p (routeTargetOf rq.route rq.carrier)
        (x.2.powerOn c f (some x.1)).long s.time.frame x.1
  obtain ⟨x, hx⟩ : ∃ x, State.lcStart { s with mbx.sess := m } 0x0901 (rqRef rq 0x0901) p (routeTargetOf rq.route rq.carrier) = x := ⟨_, rfl⟩
  have hframe : x.2 = { s with mbx.sess := m, mbx.lc := x.2.mbx.lc, fresh := s.fresh + 1 } := hx ▸ State.lcStart_frame { s with mbx.sess := m } _ _ _ _
  have hdark : x.2.pg c = false := by
    rw [hframe]
    exact hpg
  obtain ⟨hon, henable, hfirst, hcmd⟩ := x.2.powerOn_starts hdark f (some x.1)
  obtain ⟨t, ht, hreply, hrest⟩ := hrun (u := x.2.powerOn c f (some x.1)) (c := .inProgress) (frame := s.time.frame) (data := [(2, x.1)]) (by
      have hpass : State.onRefusal { s with mbx.sess := m } c f = none := hr
      have hslots : ¬ State.lcSlots { s with mbx.sess := m } = [] := hfree
      simp only [hpass, if_neg hslots, hx]
      rfl) (by rw [hon, hframe]) (by rw [hon, hframe])
  generalize x.2.powerOn c f (some x.1) = u at *
  refine ⟨t, x.1, ht, hreply, ?_, ?_, ?_, ?_⟩
  · rw [hrest]
    exact henable
  · rw [hrest]
    exact hfirst
  · rw [hrest]
    exact hcmd
  · rw [hrest, hon, hframe]

/-- SLOT_POWER_OFF begins a long command and clears ENABLE; the gates turn off a millisecond later. -/
theorem slotPowerOff_begins (hs : s.serves rq 0x0902 p = true) (hr : s.offRefusal p c = none) (hfree : s.lcSlots ≠ [])
    (hdown : ∀ q ∈ s.portsOf c, s.linkUp q = false) (hon : (s.slot c).onCmd = none) :
    ∃ t h, exec (.slotPowerOff rq c) s = .next t ∧ t.replied rq 0x0902 .inProgress s.time.frame [(2, h)] ∧ t.bit (SLT_CH_STAT_ENABLE c) = false ∧
      (t.slot c).offCmd = some (some h) ∧ (t.slot c).offWait = some 1000 ∧ t.fld (SLT_CH_STAT_FEED_ACT c) = s.fld (SLT_CH_STAT_FEED_ACT c) := by
  have hc : c < 32 := by
    by_contra h
    exact Option.some_ne_none _ ((if_pos (Nat.not_lt.1 h)).symm.trans hr)
  obtain ⟨m, hrun⟩ := done_at_entry hs (.slotPowerOff rq c) fun p s => match s.offRefusal p c with
    | some st => s.refuse st
    | none =>
      if s.lcSlots = [] then s.refuse .busy
      else
        let x := s.lcStart 0x0902 (rqRef rq 0x0902) p (routeTargetOf rq.route rq.carrier)
        (x.2.powerOff c (some x.1)).long s.time.frame x.1
  obtain ⟨x, hx⟩ : ∃ x, State.lcStart { s with mbx.sess := m } 0x0902 (rqRef rq 0x0902) p (routeTargetOf rq.route rq.carrier) = x := ⟨_, rfl⟩
  have hframe : x.2 = { s with mbx.sess := m, mbx.lc := x.2.mbx.lc, fresh := s.fresh + 1 } := hx ▸ State.lcStart_frame { s with mbx.sess := m } _ _ _ _
  have hdown' : ∀ q ∈ x.2.portsOf c, x.2.linkUp q = false := by
    rw [hframe]
    exact hdown
  obtain ⟨hdis, hcmd, hwait, hact, htime, hpending⟩ := x.2.powerOff_starts hc hdown' (by rw [hframe]; exact hon) (some x.1)
  obtain ⟨t, ht, hreply, hrest⟩ := hrun (u := x.2.powerOff c (some x.1)) (c := .inProgress) (frame := s.time.frame) (data := [(2, x.1)]) (by
      have hpass : State.offRefusal { s with mbx.sess := m } p c = none := hr
      have hslots : ¬ State.lcSlots { s with mbx.sess := m } = [] := hfree
      simp only [hpass, if_neg hslots, hx]
      rfl) (htime.trans (by rw [hframe])) (hpending.trans (by rw [hframe]))
  generalize x.2.powerOff c (some x.1) = u at *
  refine ⟨t, x.1, ht, hreply, ?_, ?_, ?_, ?_⟩
  · rw [hrest]
    exact hdis
  · rw [hrest]
    exact hcmd
  · rw [hrest]
    exact hwait
  · rw [hrest]
    refine hact.trans ?_
    rw [hframe]
    rfl

/-- CLEAR_LATCH of a channel whose output is low clears its faults at once. -/
theorem clearLatch_acts (hs : s.serves rq 0x0903 p = true) (hr : s.clrRefusal c = none) (hvout : s.fld (SLT_CH_MEAS_VOUT c) < 1000) :
    ∃ t, exec (.clearLatch rq c) s = .next t ∧ t.replied rq 0x0903 .success s.time.frame [] ∧ t.fld (SLT_CH_STAT_FAULT_CNT c) = 0 ∧
      t.bit (SLT_CH_STAT_LATCHED c) = false ∧ t.bit (SLT_CH_STAT_DAMAGED c) = false ∧ (t.slot c).off = none ∧
      t = { s with out := t.out, mbx.sess := t.mbx.sess, regs := t.regs, slt := t.slt } := by
  obtain ⟨m, hrun⟩ := done_at_entry hs (.clearLatch rq c) fun _ s => match s.clrRefusal c with
    | some st => s.refuse st
    | none => (s.clearLatch c).okNow
  obtain ⟨hframe, hcount, hlatched, hdamaged, hoff⟩ := State.clearLatch_clears { s with mbx.sess := m } (c := c) hvout
  have hpass : State.clrRefusal { s with mbx.sess := m } c = none := hr
  generalize State.clearLatch { s with mbx.sess := m } c = u at *
  obtain ⟨t, ht, hreply, hrest⟩ := hrun (u := u) (c := .success) (frame := s.time.frame) (data := []) (by
      simp only [hpass]
      rw [hframe]
      rfl) (by rw [hframe]) (by rw [hframe])
  refine ⟨t, ht, hreply, ?_, ?_, ?_, ?_, ?_⟩
  · rw [hrest]
    exact hcount
  · rw [hrest]
    exact hlatched
  · rw [hrest]
    exact hdamaged
  · rw [hrest]
    exact hoff
  · rw [hrest, hframe]

end Opcodes

/-! ### The bits of SLT_CH_CTL (R365, R366, R367, R370) -/

section Writes

variable {s : State} {b : Bus} {c : Nat} {r : Status}

/-- A state differs from another in the word of a channel's SLT_CH_CTL alone. -/
structure State.CtlWritten (s : State) (c : Nat) (v : State) : Prop where
  frame : v = { s with regs := v.regs, latch := v.latch }
  word : ∀ a q, a ≠ SLT_CH_CTL c → rget v.regs a q = rget s.regs a q

theorem State.CtlWritten.fld {v : State} (h : s.CtlWritten c v) {f : Fld} (hf : f.addr ≠ SLT_CH_CTL c) : v.fld f = s.fld f :=
  congrArg (fun w => getBits w f.lsb f.width) (h.word _ _ hf)

theorem State.CtlWritten.bit {v : State} (h : s.CtlWritten c v) {f : Fld} (hf : f.addr ≠ SLT_CH_CTL c) : v.bit f = s.bit f :=
  congrArg (· == 1) (h.fld hf)

theorem SLT_CH_STAT_ne (c : Nat) : SLT_CH_STAT c ≠ SLT_CH_CTL c := by
  unfold SLT_CH_STAT SLT_CH_CTL
  omega

theorem SLT_CH_MEAS_ne (c : Nat) : SLT_CH_MEAS c ≠ SLT_CH_CTL c := by
  unfold SLT_CH_MEAS SLT_CH_CTL
  omega

/-- A write of SLT_CH_CTL acts on the bits that are set, in the order of their registers' entry. -/
theorem busWrite_SLT_CH_CTL (ht : s.takesWrite b (SLT_CH_CTL c) = true) (hwho : (s.busP b).isOF = true) (hc : c < 32) (i : Instr) (w : Word) :
    ∃ v, s.CtlWritten c v ∧ s.busWrite i b (SLT_CH_CTL c) w =
      (((v.onBit (63#32 &&& w) 2 (fun s => s.slotClrWrite c)).onBit (63#32 &&& w) 3 (fun s => s.slotApply c)).onBit (63#32 &&& w) 0
        (fun s => s.slotOnWrite c)).onBit (63#32 &&& w) 1 (fun u => u.slotOffWrite (s.busP b) c) := by
  have hwho' : (s.busAcc b).prin.isIn 3 = true := hwho
  obtain ⟨r, hr, hother, -⟩ := writeWord_acts (s := s) (x := s.busAcc b) (w := w) (lookupReg_SLT_CH_CTL c hc) (fun _ => rfl) rfl (by decide) rfl (by simp)
  refine ⟨{ s with regs := r, latch := mdel s.latch (SLT_CH_CTL c) }, ⟨rfl, fun a q ha => hother a q ha⟩, (busWrite_takes ht i w).trans (hr.trans ?_)⟩
  simp [State.mineMask, RegDef.maskOf, fieldFor, fieldWho, hwho', State.afterWrite, fieldMask, State.busP]

theorem SLT_CH_STAT_addr (c : Nat) : ∀ {f : Fld}, f.addr = SLT_CH_STAT c → f.addr ≠ SLT_CH_CTL c := fun hf => hf ▸ SLT_CH_STAT_ne c

namespace State.CtlWritten

variable {v : State} (h : s.CtlWritten c v)
include h

theorem slot : v.slot c = s.slot c := State.slot_congr (by rw [h.frame]) c

theorem pg : v.pg c = s.pg c := h.bit (f := SLT_CH_STAT_PG c) (SLT_CH_STAT_ne c)

theorem onRefusal : v.onRefusal c 0 = s.onRefusal c 0 := by
  unfold State.onRefusal
  rw [h.bit (SLT_CH_STAT_addr c (f := SLT_CH_STAT_PRESENT c) rfl), h.bit (SLT_CH_STAT_addr c (f := SLT_CH_STAT_LATCHED c) rfl),
    h.bit (SLT_CH_STAT_addr c (f := SLT_CH_STAT_DAMAGED c) rfl), h.slot]
  rfl

theorem clrRefusal : v.clrRefusal c = s.clrRefusal c := by
  unfold State.clrRefusal
  rw [h.bit (SLT_CH_STAT_addr c (f := SLT_CH_STAT_DAMAGED c) rfl), h.bit (SLT_CH_STAT_addr c (f := SLT_CH_STAT_PRESENT c) rfl),
    h.fld (f := SLT_CH_MEAS_VOUT c) (SLT_CH_MEAS_ne c)]

theorem offRefusal (p : Principal) : v.offRefusal p c = s.offRefusal p c := by
  unfold State.offRefusal
  rw [h.slot, h.frame]
  rfl

theorem clock : v.time = s.time ∧ v.pending = s.pending := by
  rw [h.frame]
  exact ⟨rfl, rfl⟩

end State.CtlWritten

/-! #### Each bit of SLT_CH_CTL -/

theorem slotOnWrite_acts (ht : s.takesWrite b (SLT_CH_CTL c) = true) (hwho : (s.busP b).isOF = true) (hc : c < 32) :
    ∃ v, s.CtlWritten c v ∧ exec (.slotOnWrite b c) s = s.done (v.slotOnWrite c) := by
  obtain ⟨v, hv, hacts⟩ := busWrite_SLT_CH_CTL ht hwho hc (.slotOnWrite b c) 1
  exact ⟨v, hv, congrArg s.done hacts⟩

theorem slotOffWrite_acts (ht : s.takesWrite b (SLT_CH_CTL c) = true) (hwho : (s.busP b).isOF = true) (hc : c < 32) :
    ∃ v, s.CtlWritten c v ∧ exec (.slotOffWrite b c) s = s.done (v.slotOffWrite (s.busP b) c) := by
  obtain ⟨v, hv, hacts⟩ := busWrite_SLT_CH_CTL ht hwho hc (.slotOffWrite b c) 2
  exact ⟨v, hv, congrArg s.done hacts⟩

theorem slotClrWrite_acts (ht : s.takesWrite b (SLT_CH_CTL c) = true) (hwho : (s.busP b).isOF = true) (hc : c < 32) :
    ∃ v, s.CtlWritten c v ∧ exec (.slotClrWrite b c) s = s.done (v.slotClrWrite c) := by
  obtain ⟨v, hv, hacts⟩ := busWrite_SLT_CH_CTL ht hwho hc (.slotClrWrite b c) 4
  exact ⟨v, hv, congrArg s.done hacts⟩

theorem slotApply_acts (ht : s.takesWrite b (SLT_CH_CTL c) = true) (hwho : (s.busP b).isOF = true) (hc : c < 32) :
    ∃ v, s.CtlWritten c v ∧ exec (.slotApply b c) s = s.done (v.slotApply c) := by
  obtain ⟨v, hv, hacts⟩ := busWrite_SLT_CH_CTL ht hwho hc (.slotApply b c) 8
  exact ⟨v, hv, congrArg s.done hacts⟩

theorem exec_slotOnWrite_starts (ht : s.takesWrite b (SLT_CH_CTL c) = true) (hwho : (s.busP b).isOF = true) (hc : c < 32) (hr : s.onRefusal c 0 = none)
    (hpg : s.pg c = false) :
    ∃ t, exec (.slotOnWrite b c) s = .next t ∧ t.bit (SLT_CH_STAT_ENABLE c) = true ∧ (t.slot c).onCmd = some none ∧
      t = { s with regs := t.regs, latch := t.latch, slt := t.slt } := by
  obtain ⟨v, hv, hexec⟩ := slotOnWrite_acts ht hwho hc
  have hon : v.slotOnWrite c = v.powerOn c 0 none := if_neg (by rw [hv.onRefusal, hr]; exact Bool.false_ne_true)
  obtain ⟨hframe, henable, -, hcmd⟩ := v.powerOn_starts (hv.pg.trans hpg) 0 none
  rw [hon] at hexec
  generalize v.powerOn c 0 none = t at *
  refine ⟨t, hexec.trans (State.done_eq_next ?_ ?_), henable, hcmd, ?_⟩
  · rw [hframe]
    exact hv.clock.1
  · rw [hframe]
    exact hv.clock.2
  · rw [hframe, hv.frame]

theorem exec_slotOnWrite_refused (ht : s.takesWrite b (SLT_CH_CTL c) = true) (hwho : (s.busP b).isOF = true) (hc : c < 32) (hr : s.onRefusal c 0 = some r) :
    ∃ t, exec (.slotOnWrite b c) s = .next t ∧ t.bit (SLT_CH_CTL_CMD_REF c) = true ∧ t.bit (SLT_CH_STAT_ENABLE c) = s.bit (SLT_CH_STAT_ENABLE c) ∧
      t = { s with regs := t.regs, latch := t.latch } := by
  obtain ⟨v, hv, hexec⟩ := slotOnWrite_acts ht hwho hc
  have href : v.slotOnWrite c = v.setBit (SLT_CH_CTL_CMD_REF c) true := if_pos (by rw [hv.onRefusal, hr]; rfl)
  rw [href] at hexec
  refine ⟨v.setBit (SLT_CH_CTL_CMD_REF c) true, hexec.trans (State.done_eq_next hv.clock.1 hv.clock.2),
    State.bit_setBit_same _ _ _ (show 5 + 1 ≤ 32 by decide) rfl, ?_, ?_⟩
  · exact (State.bit_setBit_addr _ (SLT_CH_CTL_CMD_REF c) (SLT_CH_STAT_ENABLE c) true (SLT_CH_STAT_ne c).symm).trans (hv.bit (SLT_CH_STAT_ne c))
  · rw [hv.frame]
    rfl

theorem exec_slotOffWrite_starts (ht : s.takesWrite b (SLT_CH_CTL c) = true) (hwho : (s.busP b).isOF = true) (hc : c < 32)
    (hr : s.offRefusal (s.busP b) c = none) (hdown : ∀ q ∈ s.portsOf c, s.linkUp q = false) (hon : (s.slot c).onCmd = none) :
    ∃ t, exec (.slotOffWrite b c) s = .next t ∧ t.bit (SLT_CH_STAT_ENABLE c) = false ∧ (t.slot c).offCmd = some none ∧
      (t.slot c).offWait = some 1000 := by
  obtain ⟨v, hv, hexec⟩ := slotOffWrite_acts ht hwho hc
  have hoff : v.slotOffWrite (s.busP b) c = v.powerOff c none := if_neg (by rw [hv.offRefusal, hr]; exact Bool.false_ne_true)
  have hports : v.portsOf c = s.portsOf c := by
    rw [hv.frame]
    rfl
  have hdown' : ∀ q ∈ v.portsOf c, v.linkUp q = false := fun q hq => by
    rw [hports] at hq
    refine (hv.bit (f := PRT_LINK_STAT_UP q) ?_).trans (hdown q hq)
    simp only [SLT_CH_CTL, PRT_LINK_STAT_UP, PRT_LINK_STAT]
    omega
  obtain ⟨hdis, hcmd, hwait, -, htime, hpending⟩ := v.powerOff_starts hc hdown' ((congrArg Slt.onCmd hv.slot).trans hon) none
  rw [hoff] at hexec
  exact ⟨_, hexec.trans (State.done_eq_next (htime.trans hv.clock.1) (hpending.trans hv.clock.2)), hdis, hcmd, hwait⟩

theorem exec_slotOffWrite_refused (ht : s.takesWrite b (SLT_CH_CTL c) = true) (hwho : (s.busP b).isOF = true) (hc : c < 32)
    (hr : s.offRefusal (s.busP b) c = some r) :
    ∃ t, exec (.slotOffWrite b c) s = .next t ∧ t.bit (SLT_CH_CTL_CMD_REF c) = true ∧ t = { s with regs := t.regs, latch := t.latch } := by
  obtain ⟨v, hv, hexec⟩ := slotOffWrite_acts ht hwho hc
  have href : v.slotOffWrite (s.busP b) c = v.setBit (SLT_CH_CTL_CMD_REF c) true := if_pos (by rw [hv.offRefusal, hr]; rfl)
  rw [href] at hexec
  refine ⟨v.setBit (SLT_CH_CTL_CMD_REF c) true, hexec.trans (State.done_eq_next hv.clock.1 hv.clock.2),
    State.bit_setBit_same _ _ _ (show 5 + 1 ≤ 32 by decide) rfl, ?_⟩
  rw [hv.frame]
  rfl

theorem exec_slotClrWrite_clears (ht : s.takesWrite b (SLT_CH_CTL c) = true) (hwho : (s.busP b).isOF = true) (hc : c < 32) (hr : s.clrRefusal c = none)
    (hvout : s.fld (SLT_CH_MEAS_VOUT c) < 1000) :
    ∃ t, exec (.slotClrWrite b c) s = .next t ∧ t.fld (SLT_CH_STAT_FAULT_CNT c) = 0 ∧ t.bit (SLT_CH_STAT_LATCHED c) = false ∧
      t.bit (SLT_CH_STAT_DAMAGED c) = false ∧ t = { s with regs := t.regs, latch := t.latch, slt := t.slt } := by
  obtain ⟨v, hv, hexec⟩ := slotClrWrite_acts ht hwho hc
  have hclr : v.slotClrWrite c = v.clearLatch c := if_neg (by rw [hv.clrRefusal, hr]; exact Bool.false_ne_true)
  obtain ⟨hframe, hcount, hlatched, hdamaged, -⟩ := v.clearLatch_clears ((congrArg (· < 1000) (hv.fld (f := SLT_CH_MEAS_VOUT c) (SLT_CH_MEAS_ne c))).mpr hvout)
  rw [hclr] at hexec
  generalize v.clearLatch c = t at *
  refine ⟨t, hexec.trans (State.done_eq_next ?_ ?_), hcount, hlatched, hdamaged, ?_⟩
  · rw [hframe]
    exact hv.clock.1
  · rw [hframe]
    exact hv.clock.2
  · rw [hframe, hv.frame]

/-! #### APPLY (R370) -/

theorem slotWords_ne : ∀ a ∈ slotWords c, a ≠ SLT_CH_CTL c := by
  intro a ha
  unfold slotWords at ha
  rcases List.mem_append.1 ha with ha | ha
  · simp only [List.mem_cons, List.not_mem_nil, or_false] at ha
    unfold SLT_CH_CFG SLT_CH_TIME SLT_CH_SHUNT at ha
    unfold SLT_CH_CTL
    omega
  · obtain ⟨k, hk, rfl⟩ := List.mem_map.1 ha
    have hk : k < 8 := List.mem_range.1 hk
    unfold SLT_CH_BRK SLT_CH_CTL
    omega

theorem State.CtlWritten.slotBad {v : State} (h : s.CtlWritten c v) : v.slotBad c = s.slotBad c := by
  have hbrk : ∀ k, k < 8 → v.fld (SLT_CH_BRK_I c k) = s.fld (SLT_CH_BRK_I c k) ∧ v.fld (SLT_CH_BRK_T c k) = s.fld (SLT_CH_BRK_T c k) := fun k hk => by
    have hne : SLT_CH_BRK c k ≠ SLT_CH_CTL c := slotWords_ne _ (List.mem_append_right _ (List.mem_map_of_mem (List.mem_range.2 hk)))
    exact ⟨h.fld hne, h.fld hne⟩
  have hword : ∀ {f : Fld}, f.addr ∈ [SLT_CH_CFG c, SLT_CH_TIME c, SLT_CH_SHUNT c] → v.fld f = s.fld f := fun hf =>
    h.fld (slotWords_ne _ (List.mem_append_left _ hf))
  have hcfg : ∀ {f : Fld}, f.addr = SLT_CH_CFG c → v.fld f = s.fld f := fun hf => hword (hf ▸ .head _)
  have htime : ∀ {f : Fld}, f.addr = SLT_CH_TIME c → v.fld f = s.fld f := fun hf => hword (hf ▸ .tail _ (.head _))
  have hshunt : v.fld (SLT_CH_SHUNT_RSHUNT c) = s.fld (SLT_CH_SHUNT_RSHUNT c) := hword (.tail _ (.tail _ (.head _)))
  have hany : (List.range 7).any (fun k => decide (v.fld (SLT_CH_BRK_I c (k + 1)) ≤ v.fld (SLT_CH_BRK_I c k)) ||
      decide (v.fld (SLT_CH_BRK_T c k) ≤ v.fld (SLT_CH_BRK_T c (k + 1)))) = (List.range 7).any (fun k =>
      decide (s.fld (SLT_CH_BRK_I c (k + 1)) ≤ s.fld (SLT_CH_BRK_I c k)) || decide (s.fld (SLT_CH_BRK_T c k) ≤ s.fld (SLT_CH_BRK_T c (k + 1)))) := by
    rw [Bool.eq_iff_iff, List.any_eq_true, List.any_eq_true]
    refine exists_congr fun k => and_congr_right fun hk => ?_
    have hk : k < 7 := List.mem_range.1 hk
    rw [(hbrk k (by omega)).1, (hbrk k (by omega)).2, (hbrk (k + 1) (by omega)).1, (hbrk (k + 1) (by omega)).2]
  unfold State.slotBad State.bit
  dsimp only
  simp only [hany, hcfg (f := SLT_CH_CFG_INS_DELAY c) rfl, hcfg (f := SLT_CH_CFG_FEED_A_EN c) rfl, hcfg (f := SLT_CH_CFG_FEED_B_EN c) rfl,
    htime (f := SLT_CH_TIME_RETRY_OFF c) rfl, htime (f := SLT_CH_TIME_COOL c) rfl, htime (f := SLT_CH_TIME_START_TMO c) rfl, hshunt, (hbrk 7 (by decide)).1]

/-- The words of a channel that are staged, with their staged values. -/
def State.slotStaged (s : State) (c : Nat) : List Nat := (slotWords c).filter (fun a => s.dirty.contains a)

/-- APPLY of staged values that break no rule makes them due, and they are staged no longer. -/
theorem exec_slotApply_submits (ht : s.takesWrite b (SLT_CH_CTL c) = true) (hwho : (s.busP b).isOF = true) (hc : c < 32) (hgood : s.slotBad c = false) :
    ∃ t, exec (.slotApply b c) s = .next t ∧
      t.due = s.due ++ [Due.mk s.effFrame false false false none none (.slot c ((s.slotStaged c).map (fun a => (a, s.word a))))] ∧
      (∀ a ∈ slotWords c, a ∉ t.dirty) ∧ t.force = s.force := by
  obtain ⟨v, hv, hexec⟩ := slotApply_acts ht hwho hc
  have happly : v.slotApply c = ({ v with dirty := v.dirty.filter (fun a => ! (v.slotStaged c).contains a) } : State).submit none
      (.slot c ((v.slotStaged c).map (fun a => (a, v.word a)))) := if_neg (by rw [hv.slotBad, hgood]; exact Bool.false_ne_true)
  have hstaged : v.slotStaged c = s.slotStaged c := by
    rw [hv.frame]
    rfl
  have hwords : (s.slotStaged c).map (fun a => (a, v.word a)) = (s.slotStaged c).map (fun a => (a, s.word a)) :=
    List.map_congr_left fun a ha => congrArg (Prod.mk a) (hv.word _ _ (slotWords_ne a (List.mem_of_mem_filter ha)))
  have hkept : v.due = s.due ∧ v.effFrame = s.effFrame ∧ v.dirty = s.dirty ∧ v.force = s.force := by
    rw [hv.frame]
    exact ⟨rfl, rfl, rfl, rfl⟩
  obtain ⟨hdue, heff, hdirty, hforce⟩ := hkept
  rw [happly, hstaged, hwords] at hexec
  refine ⟨_, hexec.trans (State.done_eq_next hv.clock.1 hv.clock.2), ?_, fun a ha hin => ?_, hforce⟩
  · rw [← hdue, ← heff]
    rfl
  · obtain ⟨hd, hnot⟩ := List.mem_filter.1 hin
    have hmem : a ∈ s.slotStaged c := List.mem_filter.2 ⟨ha, by rw [← hdirty]; simpa using hd⟩
    simp [hmem] at hnot

/-- APPLY of staged values that break a rule sets CFG_REF, and the values return to those in force. -/
theorem exec_slotApply_refused (ht : s.takesWrite b (SLT_CH_CTL c) = true) (hwho : (s.busP b).isOF = true) (hc : c < 32) (hbad : s.slotBad c = true) :
    ∃ t, exec (.slotApply b c) s = .next t ∧ t.bit (SLT_CH_CTL_CFG_REF c) = true ∧ t.due = s.due ∧ t.force = s.force := by
  obtain ⟨v, hv, hexec⟩ := slotApply_acts ht hwho hc
  have happly : v.slotApply c = (v.slotStaged c).foldl State.unstage (v.setBit (SLT_CH_CTL_CFG_REF c) true) := if_pos (by rw [hv.slotBad, hbad])
  have hframe := foldl_unstage (v.slotStaged c) (v.setBit (SLT_CH_CTL_CFG_REF c) true)
  have hword := foldl_unstage_word (v.slotStaged c) (v.setBit (SLT_CH_CTL_CFG_REF c) true) (SLT_CH_CTL c)
  have hout : SLT_CH_CTL c ∉ v.slotStaged c := fun hin => slotWords_ne _ (List.mem_of_mem_filter hin) rfl
  rw [if_neg hout] at hword
  have hreset : resetWord (SLT_CH_CTL c) = 0 := resetWord_of_lookup (lookupReg_SLT_CH_CTL c hc)
  have hfld : ∀ u : State, u.fld (SLT_CH_CTL_CFG_REF c) = getBits (u.word (SLT_CH_CTL c)) 4 1 := fun u => by
    unfold State.word
    rw [hreset]
    rfl
  have href : (v.setBit (SLT_CH_CTL_CFG_REF c) true).bit (SLT_CH_CTL_CFG_REF c) = true := State.bit_setBit_same _ _ _ (show 4 + 1 ≤ 32 by decide) rfl
  have hkept : v.due = s.due ∧ v.force = s.force := by
    rw [hv.frame]
    exact ⟨rfl, rfl⟩
  rw [happly] at hexec
  generalize (v.slotStaged c).foldl State.unstage (v.setBit (SLT_CH_CTL_CFG_REF c) true) = t at *
  refine ⟨t, hexec.trans (State.done_eq_next ?_ ?_), ?_, ?_, ?_⟩
  · rw [hframe]
    exact hv.clock.1
  · rw [hframe]
    exact hv.clock.2
  · exact (congrArg (· == 1) ((hfld t).trans ((congrArg (fun w => getBits w 4 1) hword).trans (hfld _).symm))).trans href
  · rw [hframe]
    exact hkept.1
  · rw [hframe]
    exact hkept.2

end Writes

/-- Settles O58: each command is answered with the status of the check that refuses it, or begins its sequence; a write of SLT_CH_CTL acts on its bit. -/
theorem slotCommands : Obligations.SlotCommands := by
  unfold Obligations.SlotCommands
  exact ⟨fun _ _ _ _ => exec_getChannel_reads, fun _ _ _ _ _ => slotPowerOn_begins, fun _ _ _ _ _ _ => slotPowerOn_refuses,
    fun _ _ _ _ => slotPowerOff_begins, fun _ _ _ _ _ => slotPowerOff_refuses, fun _ _ _ _ => clearLatch_acts, fun _ _ _ _ _ => clearLatch_refuses,
    fun _ _ _ => exec_slotOnWrite_starts, fun _ _ _ _ => exec_slotOnWrite_refused, fun _ _ _ => exec_slotOffWrite_starts,
    fun _ _ _ _ => exec_slotOffWrite_refused, fun _ _ _ => exec_slotClrWrite_clears, fun _ _ _ => exec_slotApply_submits,
    fun _ _ _ => exec_slotApply_refused⟩

end Sys2Proof.Machine
end

section
/-! Proofs of the family 20_fabric_groups: the statement on group peers that a snoop for no port refutes (O44). -/
set_option Elab.async false
namespace Sys2Proof.Machine
open Sys2Proof

/-- A snoop of home slice 0 whose destination is no port: the flush counter of that port number lies at GRP_STAT. -/
def straySnoop : Msg := { src := 128, dst := 360320, kind := .bisnp 0 }

/-- Peer 0 is reachable through ISL 0, on port 0, every member is expelled, and the stray snoop is being sent on port 0. -/
def straySnoopInFlight : State :=
  { State.reset with
    regs := [(GRP_STAT, 0x1FF), (GRP_PEER 0, 0x100)], xbr.inflight := [(0, straySnoop)] }

theorem straySnoop_counter_at_GRP_STAT : (XBR_PFLUSH_ANSWERED straySnoop.dst).addr = GRP_STAT := by decide

theorem straySnoopInFlight_unreachable_reach : (straySnoopInFlight.unreachable 0).reach 0 = true := by decide +kernel

/-- Refutes O44, by its thirteenth clause: the flush of the peer's ports counts the answered snoop at its destination, any number in a state at large,
and for this one the counter carries from GRP_STAT.EXPEL into GRP_STAT.REACH, so that the peer stays reachable. -/
theorem not_groupsAndPeers : ¬ Obligations.GroupsAndPeers := by
  unfold Obligations.GroupsAndPeers
  rintro ⟨-, -, -, -, -, -, -, -, -, -, -, -, hdown, -⟩
  obtain ⟨t, hexec, hgone, -, -⟩ := hdown straySnoopInFlight 0 (by decide) (by decide +kernel) (by decide +kernel)
  have hnext : exec (.peerUnreachable 0) straySnoopInFlight = .next (straySnoopInFlight.unreachable 0) :=
    State.done_eq_next (by decide +kernel) (by decide +kernel)
  have ht : t = straySnoopInFlight.unreachable 0 := Host.Outcome.next.inj (hexec.symm.trans hnext)
  have hreach : (straySnoopInFlight.unreachable 0).reach 0 = false := (congrArg (fun u : State => u.reach 0) ht).symm.trans hgone
  exact absurd (straySnoopInFlight_unreachable_reach.symm.trans hreach) (by decide)

end Sys2Proof.Machine
end

section
/-! Proofs of the family 15_modes_power_debug: what the home agent leaves alone of the management side. -/
set_option Elab.async false
namespace Sys2Proof.Machine
open Sys2Proof

/-- What the home agent has no part in: the clock and its follower, identity, the slot channels, the interpreter's sessions, staging and attachments,
the mode, the debug session, and whether the management watchdog has expired. -/
structure Mgmt where
  wdExp : Bool
  time : TimeSt
  ident : IdSt
  slt : NMap Slt
  sess : NMap Session
  spdm : NMap Spdm
  lock : Option Nat
  attach : List Attach
  dirty : List Nat
  mode : Mode
  dbg : Option Dbg

/-- FLT_STAT.WD_EXP among the words of the registers. -/
def watchdogExpired (r : RegFile) : Bool := getBits (rget r FLT_STAT 0) 9 1 == 1

theorem State.bit_FLT_STAT_WD_EXP (s : State) : s.bit FLT_STAT_WD_EXP = watchdogExpired s.regs := rfl

def State.mgmt (s : State) : Mgmt :=
  ⟨watchdogExpired s.regs, s.time, s.ident, s.slt, s.mbx.sess, s.mbx.spdm, s.mbx.lock, s.mbx.attach, s.dirty, s.md.mode, s.md.dbg⟩

/-! ### The rules for records, folds and optional states -/

@[simp] theorem State.mgmt_mk (regs force dirty latch refused time flt evt mbx ident md prt isl grp lan sec bnd xbr brg home cnt twl slt oxb rsv due out
    fresh pending) :
    State.mgmt ⟨regs, force, dirty, latch, refused, time, flt, evt, mbx, ident, md, prt, isl, grp, lan, sec, bnd, xbr, brg, home, cnt, twl, slt, oxb,
      rsv, due, out, fresh, pending⟩ = ⟨watchdogExpired regs, time, ident, slt, mbx.sess, mbx.spdm, mbx.lock, mbx.attach, dirty, md.mode, md.dbg⟩ := rfl

@[simp] theorem State.mgmt_fold (s : State) :
    (⟨watchdogExpired s.regs, s.time, s.ident, s.slt, s.mbx.sess, s.mbx.spdm, s.mbx.lock, s.mbx.attach, s.dirty, s.md.mode, s.md.dbg⟩ : Mgmt) = s.mgmt := rfl

theorem State.mgmt_of_eq {s t : State} (hwd : t.bit FLT_STAT_WD_EXP = s.bit FLT_STAT_WD_EXP) (htime : t.time = s.time) (hident : t.ident = s.ident) (hslt : t.slt = s.slt) (hmbx : t.mbx = s.mbx)
    (hdirty : t.dirty = s.dirty) (hmd : t.md = s.md) : t.mgmt = s.mgmt := by
  unfold State.mgmt
  rw [← State.bit_FLT_STAT_WD_EXP, hwd, State.bit_FLT_STAT_WD_EXP, htime, hident, hslt, hmbx, hdirty, hmd]

theorem foldl_mgmt {α : Type} {f : State → α → State} (hf : ∀ s a, (f s a).mgmt = s.mgmt) (l : List α) (s : State) :
    (l.foldl f s).mgmt = s.mgmt := by
  induction l generalizing s with
  | nil => rfl
  | cons a l ih => rw [List.foldl_cons, ih, hf]

theorem foldl_snd_mgmt {α β : Type} {f : β × State → α → β × State} (hf : ∀ x a, (f x a).2.mgmt = x.2.mgmt) (l : List α) (x : β × State) :
    (l.foldl f x).2.mgmt = x.2.mgmt := by
  induction l generalizing x with
  | nil => rfl
  | cons a l ih => rw [List.foldl_cons, ih, hf]

/-! ### The registers the home agent writes lie beside FLT_STAT -/

theorem base_off {b : Nat} (i k : Nat) (h : FLT_STAT < b) : b + i * k ≠ FLT_STAT := by omega

theorem gate_off (i k : Nat) : gateBase i + k ≠ FLT_STAT := by
  unfold gateBase FLT_STAT
  split <;> omega

@[simp] theorem BND_ERR_CNT0_POISONED_off (i : Nat) : (BND_ERR_CNT0_POISONED i).addr ≠ FLT_STAT := base_off i _ (by decide)
@[simp] theorem BND_ERR_CNT0_UNMAPPED_off (i : Nat) : (BND_ERR_CNT0_UNMAPPED i).addr ≠ FLT_STAT := base_off i _ (by decide)
@[simp] theorem BND_ERR_CNT1_RO_WR_off (i : Nat) : (BND_ERR_CNT1_RO_WR i).addr ≠ FLT_STAT := base_off i _ (by decide)
@[simp] theorem BND_ERR_CNT1_WR_DISC_off (i : Nat) : (BND_ERR_CNT1_WR_DISC i).addr ≠ FLT_STAT := base_off i _ (by decide)
@[simp] theorem BND_ERR_DPA_HI_DPA_off (i : Nat) : (BND_ERR_DPA_HI_DPA i).addr ≠ FLT_STAT := base_off i _ (by decide)
@[simp] theorem BND_ERR_DPA_LO_DPA_off (i : Nat) : (BND_ERR_DPA_LO_DPA i).addr ≠ FLT_STAT := base_off i _ (by decide)
@[simp] theorem BND_ERR_PARCEL_PARCEL_off (i : Nat) : (BND_ERR_PARCEL_PARCEL i).addr ≠ FLT_STAT := base_off i _ (by decide)
@[simp] theorem BND_ERR_STAT_CODE_off (i : Nat) : (BND_ERR_STAT_CODE i).addr ≠ FLT_STAT := base_off i _ (by decide)
@[simp] theorem BND_ERR_STAT_VALID_off (i : Nat) : (BND_ERR_STAT_VALID i).addr ≠ FLT_STAT := base_off i _ (by decide)
@[simp] theorem HOM_HOST_STAT_STATE_off (i : Nat) : (HOM_HOST_STAT_STATE i).addr ≠ FLT_STAT := base_off i _ (by decide)
@[simp] theorem HOM_HOST_STAT_TMO_CAUSE_off (i : Nat) : (HOM_HOST_STAT_TMO_CAUSE i).addr ≠ FLT_STAT := base_off i _ (by decide)
@[simp] theorem HOM_SLC_CONFL_CONFL_off (i : Nat) : (HOM_SLC_CONFL_CONFL i).addr ≠ FLT_STAT := base_off i _ (by decide)
@[simp] theorem HOM_SLC_MISS_MISS_off (i : Nat) : (HOM_SLC_MISS_MISS i).addr ≠ FLT_STAT := base_off i _ (by decide)
@[simp] theorem HOM_SLC_SNP_UNDELIV_off (i : Nat) : (HOM_SLC_SNP_UNDELIV i).addr ≠ FLT_STAT := base_off i _ (by decide)
@[simp] theorem XBR_PFLUSH_ANSWERED_off (i : Nat) : (XBR_PFLUSH_ANSWERED i).addr ≠ FLT_STAT := base_off i _ (by decide)
@[simp] theorem XBR_PFLUSH_DISCARDED_off (i : Nat) : (XBR_PFLUSH_DISCARDED i).addr ≠ FLT_STAT := base_off i _ (by decide)
@[simp] theorem GATE_VIO_ADDR_HI_ADDR_off (i : Nat) : (GATE_VIO_ADDR_HI_ADDR i).addr ≠ FLT_STAT := gate_off i _
@[simp] theorem GATE_VIO_ADDR_LO_ADDR_off (i : Nat) : (GATE_VIO_ADDR_LO_ADDR i).addr ≠ FLT_STAT := gate_off i _
@[simp] theorem GATE_VIO_FRM_HI_FRAME_off (i : Nat) : (GATE_VIO_FRM_HI_FRAME i).addr ≠ FLT_STAT := gate_off i _
@[simp] theorem GATE_VIO_FRM_LO_FRAME_off (i : Nat) : (GATE_VIO_FRM_LO_FRAME i).addr ≠ FLT_STAT := gate_off i _
@[simp] theorem GATE_VIO_INIT_INIT_off (i : Nat) : (GATE_VIO_INIT_INIT i).addr ≠ FLT_STAT := gate_off i _
@[simp] theorem GATE_VIO_LEN_LEN_off (i : Nat) : (GATE_VIO_LEN_LEN i).addr ≠ FLT_STAT := gate_off i _
@[simp] theorem GATE_VIO_OFS_OFS_off (i : Nat) : (GATE_VIO_OFS_OFS i).addr ≠ FLT_STAT := gate_off i _
@[simp] theorem GATE_VIO_STAT_KIND_off (i : Nat) : (GATE_VIO_STAT_KIND i).addr ≠ FLT_STAT := gate_off i _
@[simp] theorem GATE_VIO_STAT_LOCKED_off (i : Nat) : (GATE_VIO_STAT_LOCKED i).addr ≠ FLT_STAT := gate_off i _
@[simp] theorem GATE_VIO_STAT_VALID_off (i : Nat) : (GATE_VIO_STAT_VALID i).addr ≠ FLT_STAT := gate_off i _
@[simp] theorem GATE_VIO_STAT_VIO_CNT_off (i : Nat) : (GATE_VIO_STAT_VIO_CNT i).addr ≠ FLT_STAT := gate_off i _
@[simp] theorem FLT_CNT_CONT_CNT_off : FLT_CNT_CONT_CNT.addr ≠ FLT_STAT := by decide
@[simp] theorem FLT_CNT_CORR_CNT_off : FLT_CNT_CORR_CNT.addr ≠ FLT_STAT := by decide
@[simp] theorem FLT_CNT_UNC_LOST_off : FLT_CNT_UNC_LOST.addr ≠ FLT_STAT := by decide
@[simp] theorem FLT_CNT_UNC_UNC_off : FLT_CNT_UNC_UNC.addr ≠ FLT_STAT := by decide
@[simp] theorem FLT_NEXT_NEXT_off : FLT_NEXT_NEXT.addr ≠ FLT_STAT := by decide
@[simp] theorem HOM_EVICT_EVICT_BI_off : HOM_EVICT_EVICT_BI.addr ≠ FLT_STAT := by decide
@[simp] theorem HOM_UE_CLEAN_UE_off : HOM_UE_CLEAN_UE.addr ≠ FLT_STAT := by decide
@[simp] theorem HOM_UE_MALFORMED_off : HOM_UE_MALFORMED.addr ≠ FLT_STAT := by decide
@[simp] theorem SEC_IFAIL_PARCEL_PARCEL_off : SEC_IFAIL_PARCEL_PARCEL.addr ≠ FLT_STAT := by decide
@[simp] theorem SEC_IFAIL_STAT_LEVEL_off : SEC_IFAIL_STAT_LEVEL.addr ≠ FLT_STAT := by decide
@[simp] theorem SEC_IFAIL_STAT_REGION_off : SEC_IFAIL_STAT_REGION.addr ≠ FLT_STAT := by decide
@[simp] theorem SEC_IFAIL_STAT_VALID_off : SEC_IFAIL_STAT_VALID.addr ≠ FLT_STAT := by decide
@[simp] theorem SEC_INTEG_CNT_off : SEC_INTEG_CNT.addr ≠ FLT_STAT := by decide
@[simp] theorem SEC_OVF_CNT_off : SEC_OVF_CNT.addr ≠ FLT_STAT := by decide

/-! ### Registers, events and faults -/

theorem State.mgmt_of_regs {s t : State} (hwd : t.bit FLT_STAT_WD_EXP = s.bit FLT_STAT_WD_EXP) (h : ∃ r e o x, t = { s with regs := r, evt := e, out := o, fresh := x }) :
    t.mgmt = s.mgmt := by
  obtain ⟨r, e, o, x, rfl⟩ := h
  simp only [State.mgmt_mk]
  rw [show watchdogExpired r = watchdogExpired s.regs from hwd]
  rfl

@[simp] theorem State.setFld_mgmt (s : State) {f : Fld} (v : Nat) (h : f.addr ≠ FLT_STAT) : (s.setFld f v).mgmt = s.mgmt :=
  State.mgmt_of_regs (State.bit_setFld_addr _ _ _ _ h) ⟨_, _, _, _, rfl⟩

@[simp] theorem State.setBit_mgmt (s : State) {f : Fld} (v : Bool) (h : f.addr ≠ FLT_STAT) : (s.setBit f v).mgmt = s.mgmt := s.setFld_mgmt _ h
@[simp] theorem State.inc_mgmt (s : State) {f : Fld} (h : f.addr ≠ FLT_STAT) : (s.inc f).mgmt = s.mgmt := s.setFld_mgmt _ h

@[simp] theorem State.setFld64_mgmt (s : State) {lo hi : Fld} (v : Nat) (hlo : lo.addr ≠ FLT_STAT) (hhi : hi.addr ≠ FLT_STAT) :
    (s.setFld64 lo hi v).mgmt = s.mgmt := (State.setFld_mgmt _ _ hhi).trans (s.setFld_mgmt _ hlo)

@[simp] theorem State.draw_mgmt (s : State) : s.draw.2.mgmt = s.mgmt := rfl

@[simp] theorem State.raiseShared_mgmt (s : State) {n : Nat} (h : n < 512) : (s.raiseShared n).mgmt = s.mgmt :=
  State.mgmt_of_eq (State.bit_raiseShared _ _ _ h (.inr (by decide))) (by simp) (by simp) (by simp) (by simp) (by simp) (by simp)

@[simp] theorem State.raisePrivate_mgmt (s : State) (t : Nat) {n : Nat} (h : n < 64) : (s.raisePrivate t n).mgmt = s.mgmt :=
  State.mgmt_of_eq (congrArg (· == 1) (State.fld_raisePrivate _ _ _ FLT_STAT_WD_EXP h (.inr (by decide)))) (by simp) (by simp) (by simp) (by simp) (by simp)
    (by simp)

@[simp] theorem State.wake_mgmt (s : State) (p : Option Power) : (s.wake p).mgmt = s.mgmt := by
  unfold State.wake
  split <;> rfl

@[simp] theorem State.quarantineFor_mgmt (s : State) (n : Nat) : (s.quarantineFor n).mgmt = s.mgmt := by
  simp [State.quarantineFor]

@[simp] theorem State.uncontain_mgmt (s : State) (k : Nat) : (s.uncontain k).mgmt = s.mgmt := by
  unfold State.uncontain
  split
  · rfl
  · rw [State.quarantineFor_mgmt]
    rfl

@[simp] theorem State.mergeFault_mgmt (s : State) (k : Nat) (f : FltIn) : (s.mergeFault k f).mgmt = s.mgmt := by
  unfold State.mergeFault
  split
  · rfl
  · simp [apply_ite State.mgmt]

@[simp] theorem State.countFault_mgmt (s : State) (c : FaultClass) : (s.countFault c).mgmt = s.mgmt := by
  cases c <;> simp [State.countFault]

@[simp] theorem State.openFault_mgmt (s : State) (k : Nat) (f : FltIn) : (s.openFault k f).mgmt = s.mgmt := by
  simp [State.openFault, apply_ite State.mgmt]

@[simp] theorem State.overflowFault_mgmt (s : State) (f : FltIn) : (s.overflowFault f).mgmt = s.mgmt := by
  unfold State.overflowFault
  split <;> simp [apply_ite State.mgmt]

@[simp] theorem State.report_mgmt (s : State) (f : FltIn) : (s.report f).mgmt = s.mgmt := by
  unfold State.report
  dsimp only
  split
  · simp
  · split
    · simp
    · split <;> simp

@[simp] theorem State.reportCode_mgmt (s : State) (code id : Nat) (addr : Option Nat) (detail : Nat) :
    (s.reportCode code id addr detail).mgmt = s.mgmt := by
  unfold State.reportCode
  split <;> simp

@[simp] theorem State.bndCount_mgmt (s : State) (b : Nat) (c : BCnt) : (s.bndCount b c).mgmt = s.mgmt := by
  cases c <;> simp [State.bndCount]

@[simp] theorem State.bindFault_mgmt (s : State) (b code parcel dpa detail : Nat) (c : BCnt) :
    (s.bindFault b code parcel dpa detail c).mgmt = s.mgmt := by
  simp [State.bindFault, apply_ite State.mgmt]

@[simp] theorem State.recordVio_mgmt (s : State) (g i : Nat) (k : GKind) (start len ofs : Nat) (l : Bool) :
    (s.recordVio g i k start len ofs l).mgmt = s.mgmt := by
  simp [State.recordVio, apply_ite State.mgmt]

@[simp] theorem State.gateCheck_mgmt (s : State) (g i : Nat) (k : GKind) (start len : Nat) : (s.gateCheck g i k start len).2.mgmt = s.mgmt := by
  unfold State.gateCheck
  split <;> simp

@[simp] theorem State.page_mgmt (s : State) (b : Nat) (f : BndPage → BndPage) : (s.page b f).mgmt = s.mgmt := rfl
@[simp] theorem State.tally_mgmt (s : State) (u ev n : Nat) : (s.tally u ev n).mgmt = s.mgmt := rfl

/-! ### The crossbar -/

@[simp] theorem State.discarded_mgmt (s : State) (p : Nat) : (s.discarded p).mgmt = s.mgmt := s.inc_mgmt (by simp)
@[simp] theorem State.answered_mgmt (s : State) (p : Nat) : (s.answered p).mgmt = s.mgmt := s.inc_mgmt (by simp)
@[simp] theorem State.push_mgmt (s : State) (m : Msg) : (s.push m).mgmt = s.mgmt := rfl

@[simp] theorem State.sendQuiet_mgmt (s : State) (m : Msg) : (s.sendQuiet m).mgmt = s.mgmt := by
  simp [State.sendQuiet, apply_ite State.mgmt]

@[simp] theorem State.lossCounted_mgmt (s : State) (m : Msg) : (s.lossCounted m).mgmt = s.mgmt := by
  unfold State.lossCounted
  split
  · cases m.bnd <;> simp
  · rfl

@[simp] theorem State.bounce_mgmt (s : State) (m : Msg) : (s.bounce m).mgmt = s.mgmt := by
  unfold State.bounce
  cases answerTo m with
  | some a => simp
  | none => cases m.kind <;> simp

@[simp] theorem State.send_mgmt (s : State) (m : Msg) : (s.send m).mgmt = s.mgmt := by
  simp [State.send, apply_ite State.mgmt]

/-! ### The directory and the cache of a home slice -/

@[simp] theorem State.moveWrite_mgmt (s : State) (line : Nat) : (s.moveWrite line).mgmt = s.mgmt := by
  unfold State.moveWrite
  cases s.moveOfLine line <;> rfl

@[simp] theorem State.setDir_mgmt (s : State) (line : Nat) (e : Option DirEnt) : (s.setDir line e).mgmt = s.mgmt := by
  cases e <;> rfl

@[simp] theorem State.poisonLine_mgmt (s : State) (line : Nat) : (s.poisonLine line).mgmt = s.mgmt := by
  unfold State.poisonLine
  split <;> simp

@[simp] theorem State.rename_mgmt (s : State) (line sharers : Nat) (excl : Bool) : (s.rename line sharers excl).mgmt = s.mgmt := by
  unfold State.rename
  cases s.dirOf line <;> simp

@[simp] theorem State.dropBit_mgmt (s : State) (line k : Nat) : (s.dropBit line k).mgmt = s.mgmt := by
  unfold State.dropBit
  cases s.dirOf line <;> simp

@[simp] theorem State.freeEmpty_mgmt (s : State) (line : Nat) : (s.freeEmpty line).mgmt = s.mgmt := by
  unfold State.freeEmpty
  cases s.dirOf line <;> simp [apply_ite State.mgmt]

@[simp] theorem State.purge_mgmt (s : State) (line k : Nat) : (s.purge line k).mgmt = s.mgmt := by
  unfold State.purge
  cases s.dirOf line <;> simp [apply_ite State.mgmt]

@[simp] theorem State.purgeDead_mgmt (s : State) (line : Nat) : (s.purgeDead line).mgmt = s.mgmt := by
  unfold State.purgeDead
  cases s.dirOf line with
  | none => rfl
  | some e => exact foldl_mgmt (fun s k => s.purge_mgmt line k) _ s

@[simp] theorem State.touchWay_mgmt (s : State) (line way : Nat) : (s.touchWay line way).mgmt = s.mgmt := rfl

@[simp] theorem State.takeWay_mgmt (s : State) (line way : Nat) : (s.takeWay line way).mgmt = s.mgmt := by
  unfold State.takeWay
  cases s.dirOf line <;> simp

@[simp] theorem State.cacheIn_mgmt (s : State) (line : Nat) : (s.cacheIn line).mgmt = s.mgmt := by
  unfold State.cacheIn
  cases s.dirOf line with
  | none => rfl
  | some e =>
    simp only
    split
    · simp
    · split
      · simp
      · split
        · split <;> simp
        · rfl

theorem State.writeDir_mgmt {s t : State} {line sharers : Nat} {excl : Bool} {w : Option Nat} (h : s.writeDir line sharers excl w = some t) :
    t.mgmt = s.mgmt := by
  unfold State.writeDir at h
  split at h
  · obtain rfl := Option.some.inj h
    simp [apply_ite State.mgmt]
  · split at h
    · rw [Option.some.inj h]
    · split at h
      · obtain rfl := Option.some.inj h
        simp
      · exact absurd h (by simp)

@[simp] theorem State.dirtyMask_mgmt (s : State) (line : Nat) : (s.dirtyMask line).mgmt = s.mgmt := rfl

@[simp] theorem State.maskError_mgmt (s : State) (line : Nat) : (s.maskError line).mgmt = s.mgmt := by
  simp [State.maskError]

@[simp] theorem State.malformed_mgmt (s : State) (b : Bool) : (s.malformed b).mgmt = s.mgmt := by
  simp [State.malformed, apply_ite State.mgmt]

@[simp] theorem State.dirMiss_mgmt (s : State) (sl : Nat) : (s.dirMiss sl).mgmt = s.mgmt := by
  simp [State.dirMiss]

@[simp] theorem State.dirError_mgmt (s : State) (line : Nat) (err : DirErr) : (s.dirError line err).2.mgmt = s.mgmt := by
  unfold State.dirError
  cases s.dirOf line with
  | none => simp [apply_ite State.mgmt]
  | some e =>
    simp only
    split
    · simp [apply_ite State.mgmt]
    · cases err <;> simp [apply_ite Prod.snd, apply_ite State.mgmt]

/-! ### The transaction entries of a home slice -/

@[simp] theorem State.putTt_mgmt (s : State) (sl : Nat) (t : Tt) : (s.putTt sl t).mgmt = s.mgmt := rfl
@[simp] theorem State.delTt_mgmt (s : State) (sl id : Nat) : (s.delTt sl id).mgmt = s.mgmt := rfl
@[simp] theorem State.addTt_mgmt (s : State) (sl line : Nat) (w : TtWork) : (s.addTt sl line w).2.mgmt = s.mgmt := rfl

@[simp] theorem State.drainTt_mgmt (k : Nat) (s : State) (x : Nat × Tt) : (State.drainTt k s x).mgmt = s.mgmt := by
  simp [State.drainTt, apply_ite State.mgmt]

@[simp] theorem State.drainSlot_mgmt (s : State) (k : Nat) (tmo : Bool) : (s.drainSlot k tmo).mgmt = s.mgmt := by
  unfold State.drainSlot
  split
  · rfl
  · rw [foldl_mgmt (State.drainTt_mgmt k)]
    simp [apply_ite State.mgmt]

@[simp] theorem State.countSnoop_mgmt (s : State) (sl line port : Nat) : (s.countSnoop sl line port).mgmt = s.mgmt := by
  unfold State.countSnoop
  dsimp only
  split <;> simp

@[simp] theorem State.snoop_mgmt (s : State) (sl line k kind : Nat) : (s.snoop sl line k kind).2.mgmt = s.mgmt := by
  unfold State.snoop
  split
  · simp
  · dsimp only
    split <;> simp [apply_ite State.mgmt]

@[simp] theorem State.snoopAll_mgmt (s : State) (sl line kind : Nat) (l : List Nat) : (s.snoopAll sl line kind l).2.mgmt = s.mgmt := by
  unfold State.snoopAll
  refine foldl_snd_mgmt ?_ l _
  intro a k
  exact a.2.snoop_mgmt sl line k kind

@[simp] theorem State.snoopFor_mgmt (s : State) (sl id line kind : Nat) (l : List Nat) : (s.snoopFor sl id line kind l).mgmt = s.mgmt := by
  unfold State.snoopFor
  dsimp only
  split <;> simp

@[simp] theorem State.backInvalidate_mgmt (s : State) (sl : Nat) (t : Tt) : (s.backInvalidate sl t).mgmt = s.mgmt := by
  simp [State.backInvalidate]

theorem State.openEviction_mgmt {s t : State} {sl line : Nat} (h : s.openEviction sl line = some t) : t.mgmt = s.mgmt := by
  unfold State.openEviction at h
  split at h
  · exact absurd h (by simp)
  · split at h
    · exact absurd h (by simp)
    · obtain ⟨u, -, rfl⟩ := Option.map_eq_some_iff.1 h
      simp

@[simp] theorem State.awaitWay_mgmt (s : State) (sl : Nat) (t : Tt) : (s.awaitWay sl t).mgmt = s.mgmt := by
  unfold State.awaitWay
  dsimp only
  split
  · cases h : State.openEviction _ _ _ with
    | none => simp
    | some u => simpa using State.openEviction_mgmt h
  · simp

@[simp] theorem State.respond_mgmt (s : State) (r : HReq) (k : MsgKind) (d : Nat) (p : Bool) : (s.respond r k d p).2.mgmt = s.mgmt := by
  simp [State.respond]

@[simp] theorem State.unserved_mgmt (s : State) (r : HReq) : (s.unserved r).mgmt = s.mgmt := by
  unfold State.unserved
  cases answerTo (hreqMsg r) <;> simp

@[simp] theorem State.process_mgmt (s : State) (sl id : Nat) : (s.process sl id).mgmt = s.mgmt := by
  unfold State.process
  split
  · rfl
  · dsimp only
    split
    · split
      · simp
      · split
        · simp
        · split
          · simp [apply_ite State.mgmt]
          · simp
    · simp
    · simp
    · rfl

@[simp] theorem State.complete_mgmt (s : State) (t : Tt) (r : HReq) : (s.complete t r).2.mgmt = s.mgmt := by
  unfold State.complete
  dsimp only
  split <;> simp

theorem State.finishReq_mgmt {s u : State} {sl : Nat} {t : Tt} {r : HReq} (h : s.finishReq sl t r = some u) : u.mgmt = s.mgmt := by
  unfold State.finishReq at h
  split at h
  · obtain rfl := Option.some.inj h
    simp
  · dsimp only at h
    split at h
    · exact absurd h (by simp)
    next s1 hdir =>
      have hs1 := State.writeDir_mgmt hdir
      obtain rfl := Option.some.inj h
      cases t.biAck <;> simp [hs1]

theorem State.finishOrWait_mgmt {s u : State} {sl : Nat} {t : Tt} {r : HReq} (h : s.finishOrWait sl t r = some u) : u.mgmt = s.mgmt := by
  unfold State.finishOrWait at h
  split at h
  next s1 hdone =>
    obtain rfl := Option.some.inj h
    exact State.finishReq_mgmt hdone
  next =>
    split at h
    · exact absurd h (by simp)
    · obtain rfl := Option.some.inj h
      simp

@[simp] theorem State.activate_mgmt (s : State) (sl id : Nat) : (s.activate sl id).mgmt = s.mgmt := by
  unfold State.activate
  split
  · rfl
  · simp [apply_ite State.mgmt]

/-! ### The metadata of Sealed lines -/

@[simp] theorem State.metaAccess_mgmt (s : State) (k : GKind) (r : Region) (level i : Nat) : (s.metaAccess k r level i).2.mgmt = s.mgmt := by
  unfold State.metaAccess
  split
  · rfl
  · simp [apply_ite Prod.snd, apply_ite State.mgmt]

@[simp] theorem State.fetchMacs_mgmt (s : State) (km : Nat) (a : LineAt) (f : Fetched) : (s.fetchMacs km a f).2.mgmt = s.mgmt := by
  refine foldl_snd_mgmt ?_ _ _
  intro x b
  dsimp only
  split
  · rfl
  · simp [apply_ite Prod.snd, apply_ite State.mgmt]

@[simp] theorem State.setMacRun_mgmt (s : State) (g i : Nat) (m : MacRun) : (s.setMacRun g i m).mgmt = s.mgmt := rfl
@[simp] theorem State.setLeaf_mgmt (s : State) (a : LineAt) (l : Leaf) : (s.setLeaf a l).mgmt = s.mgmt := rfl

@[simp] theorem State.putMac_mgmt (s : State) (km : Nat) (a : LineAt) (v : Nat) (f : Fetched) : (s.putMac km a v f).mgmt = s.mgmt := by
  simp [State.putMac]

@[simp] theorem State.tellRegion_mgmt (s : State) (g : Nat) : (s.tellRegion g).mgmt = s.mgmt :=
  foldl_mgmt (fun s _ => s.raisePrivate_mgmt _ (by decide)) _ s

@[simp] theorem State.integFail_mgmt (s : State) (a : LineAt) (level : Nat) : (s.integFail a level).mgmt = s.mgmt := by
  simp [State.integFail, apply_ite State.mgmt]

@[simp] theorem State.modEntry_mgmt (s : State) (level g i : Nat) (f : Leaf → Leaf) (h : TNode → TNode) :
    (s.modEntry level g i f h).mgmt = s.mgmt := by
  unfold State.modEntry
  split <;> rfl

@[simp] theorem State.fillEntry_mgmt (s : State) (level g i b : Nat) : (s.fillEntry level g i b).mgmt = s.mgmt :=
  s.modEntry_mgmt _ _ _ _ _

@[simp] theorem State.verifyEntry_mgmt (s : State) (km g : Nat) (r : Region) (level i : Nat) (f : Fetched) :
    (s.verifyEntry km g r level i f).2.mgmt = s.mgmt := by
  simp [State.verifyEntry, apply_ite Prod.snd, apply_ite State.mgmt]

@[simp] theorem State.checkLevels_mgmt (s : State) (km g : Nat) (r : Region) (level i : Nat) (f : Fetched) (l : List Nat) :
    (s.checkLevels km g r level i f l).2.mgmt = s.mgmt := by
  induction l generalizing s with
  | nil => rfl
  | cons k l ih => simp [State.checkLevels, apply_ite Prod.snd, apply_ite State.mgmt, ih]

@[simp] theorem State.checkPath_mgmt (s : State) (km g : Nat) (r : Region) (level i : Nat) (f : Fetched) (above : Bool) :
    (s.checkPath km g r level i f above).2.mgmt = s.mgmt := State.checkLevels_mgmt _ _ _ _ _ _ _ _

theorem State.sealLine_mgmt {s t : State} {a : LineAt} {data : Nat} {f : Fetched} (h : (s.sealLine a data f).left = some t) : t.mgmt = s.mgmt := by
  unfold State.sealLine at h
  split at h
  · exact absurd h (by simp [LineOut.left])
  · split at h
    · rw [Option.some.inj h]
    · exact absurd h (by simp [LineOut.left])
  · split at h
    · rw [Option.some.inj h]
    · dsimp only at h
      split at h
      · obtain rfl := Option.some.inj h
        simp
      · split at h
        · split at h
          · obtain rfl := Option.some.inj h
            simp
          · obtain rfl := Option.some.inj h
            simp
        · obtain rfl := Option.some.inj h
          simp

theorem State.openRemac_mgmt {s t : State} {sl bnd line pool ad : Nat} (h : s.openRemac sl bnd line pool ad = some t) : t.mgmt = s.mgmt := by
  unfold State.openRemac at h
  split at h
  · exact absurd h (by simp)
  · obtain ⟨u, -, rfl⟩ := Option.map_eq_some_iff.1 h
    dsimp only
    rw [foldl_mgmt fun s i => s.send_mgmt _]
    simp

/-! ### Lines written to and read from a pool -/

@[simp] theorem State.logWrite_mgmt (s : State) (b dpa : Nat) : (s.logWrite b dpa).mgmt = s.mgmt := by
  simp [State.logWrite, apply_ite State.mgmt]

@[simp] theorem State.addHeat_mgmt (s : State) (pool ppi n : Nat) : (s.addHeat pool ppi n).mgmt = s.mgmt := rfl

@[simp] theorem State.sample_mgmt (s : State) (sl pool ppi : Nat) : (s.sample sl pool ppi).mgmt = s.mgmt := by
  simp [State.sample, apply_ite State.mgmt]

@[simp] theorem State.writeLine_mgmt (s : State) (sl tag bnd dpa line data : Nat) (poison host : Bool) (ent : TtEntry) (f : Fetched) :
    (s.writeLine sl tag bnd dpa line data poison host ent f).2.mgmt = s.mgmt := by
  unfold State.writeLine
  split
  · simp
  · split
    · simp
    · split
      · simp
      next hseal => simpa using State.sealLine_mgmt (congrArg LineOut.left hseal)
      next t hseal =>
        have ht := State.sealLine_mgmt (congrArg LineOut.left hseal)
        cases hopen : t.openRemac sl bnd line _ _ with
        | none => exact ht
        | some u => exact (State.openRemac_mgmt hopen).trans ht
      next hseal => simpa [apply_ite State.mgmt] using State.sealLine_mgmt (congrArg LineOut.left hseal)

@[simp] theorem State.issueWrite_mgmt (s : State) (sl : Nat) (t : Tt) (r : HReq) : (s.issueWrite sl t r).mgmt = s.mgmt := by
  unfold State.issueWrite
  split
  · simp
  · dsimp only
    split <;> simp

@[simp] theorem State.issueRead_mgmt (s : State) (sl : Nat) (t : Tt) (r : HReq) : (s.issueRead sl t r).mgmt = s.mgmt := by
  unfold State.issueRead
  split
  · simp
  · split
    · simp
    · split <;> simp [apply_ite State.mgmt]

/-! ### The work of a home slice -/

theorem State.tryReq_mgmt {s u : State} {sl : Nat} {t : Tt} {r : HReq} (h : s.tryReq sl t r = some u) : u.mgmt = s.mgmt := by
  unfold State.tryReq at h
  split at h
  · split at h
    · obtain rfl := Option.some.inj h
      simp
    · exact State.finishOrWait_mgmt (Option.ite_none_right_eq_some.1 h).2
  · split at h
    · exact State.finishOrWait_mgmt (Option.ite_none_right_eq_some.1 h).2
    · split at h
      · obtain rfl := Option.some.inj h
        simp
      · exact State.finishReq_mgmt (Option.ite_none_right_eq_some.1 h).2

theorem State.tryTt_mgmt {s u : State} {sl : Nat} {t : Tt} (h : s.tryTt sl t = some u) : u.mgmt = s.mgmt := by
  unfold State.tryTt at h
  split at h
  case h_1 =>
    split at h
    · obtain ⟨-, hu⟩ := Option.ite_none_right_eq_some.1 h
      obtain rfl := Option.some.inj hu
      simp
    · exact absurd h (by simp)
  case h_2 => exact absurd h (by simp)
  case h_3 =>
    split at h
    case h_1 =>
      obtain ⟨-, hu⟩ := Option.ite_none_left_eq_some.1 h
      obtain rfl := Option.some.inj hu
      simp
    case h_2 =>
      obtain ⟨-, hu⟩ := Option.ite_none_right_eq_some.1 h
      obtain rfl := Option.some.inj hu
      simp
    case h_3 =>
      obtain ⟨-, hu⟩ := Option.ite_none_right_eq_some.1 h
      obtain rfl := Option.some.inj hu
      simp
    case h_4 => exact State.tryReq_mgmt h

theorem State.tryEvict_mgmt {s u : State} {sl : Nat} (h : s.tryEvict sl = some u) : u.mgmt = s.mgmt := by
  obtain ⟨t, -, ht⟩ := List.exists_of_findSome?_eq_some h
  split at ht
  · exact State.openEviction_mgmt ht
  · exact absurd ht (by simp)

@[simp] theorem State.takeEntry_mgmt (s : State) (sl : Nat) (q : Retry) : (s.takeEntry sl q).2.mgmt = s.mgmt := by
  unfold State.takeEntry
  dsimp only
  split <;> simp [apply_ite State.mgmt]

theorem State.tryRetry_mgmt {s u : State} {sl : Nat} (h : s.tryRetry sl = some u) : u.mgmt = s.mgmt := by
  unfold State.tryRetry at h
  split at h
  · exact absurd h (by simp)
  · split at h
    · exact absurd h (by simp)
    · obtain rfl := Option.some.inj h
      simp

@[simp] theorem State.settle_mgmt (s : State) (sl fuel : Nat) : (s.settle sl fuel).mgmt = s.mgmt := by
  induction fuel generalizing s with
  | zero => rfl
  | succ fuel ih =>
    unfold State.settle
    dsimp only
    split
    next u hu =>
      obtain ⟨t, -, ht⟩ := List.exists_of_findSome?_eq_some hu
      rw [ih, State.tryTt_mgmt ht]
    next =>
      split
      next u hu =>
        rw [ih]
        cases hevict : s.tryEvict sl with
        | some v =>
          rw [hevict] at hu
          rw [← Option.some.inj hu, State.tryEvict_mgmt hevict]
        | none =>
          rw [hevict] at hu
          exact State.tryRetry_mgmt hu
      next => rfl

@[simp] theorem State.run_mgmt (s : State) (sl : Nat) : (s.run sl).mgmt = s.mgmt := by
  simp [State.run, apply_ite State.mgmt]

@[simp] theorem State.runAll_mgmt (s : State) : s.runAll.mgmt = s.mgmt := foldl_mgmt State.run_mgmt _ s

end Sys2Proof.Machine
end

section
/-! Proofs of the family 17_faults_events: fault records, the management watchdog and event routes (O19). -/
set_option Elab.async false
namespace Sys2Proof.Machine
open Sys2Proof

/-! ### FLT_STAT.WD_EXP has no staged bits -/

theorem shMaskAt_FLT_STAT : shMaskAt FLT_STAT = 0#32 := by decide +kernel

theorem mix_zero (w v : Word) : mix 0#32 w v = w := by
  rw [mix, BitVec.and_zero, BitVec.or_zero]
  exact BitVec.and_allOnes

theorem State.bit_WD_EXP_of_word {s t : State} (h : t.word FLT_STAT = s.word FLT_STAT) : t.bit FLT_STAT_WD_EXP = s.bit FLT_STAT_WD_EXP := by
  have hreset : resetWord FLT_STAT = 0 := by decide +kernel
  unfold State.word at h
  rw [hreset] at h
  exact congrArg (fun w => getBits w 9 1 == 1) h

theorem State.revertWord_word_FLT_STAT (s : State) (a : Nat) : (s.revertWord a).word FLT_STAT = s.word FLT_STAT := by
  unfold State.revertWord State.setWord State.word
  by_cases ha : a = FLT_STAT
  · subst ha
    rw [shMaskAt_FLT_STAT, mix_zero]
    simp only [rget_rput, if_true]
  · simp only [rget_rput_ne _ _ _ _ ha]

@[simp] theorem State.revertWord_mgmt (s : State) (a : Nat) : (s.revertWord a).mgmt = s.mgmt :=
  State.mgmt_of_regs (State.bit_WD_EXP_of_word (s.revertWord_word_FLT_STAT a)) ⟨_, _, _, _, rfl⟩

theorem State.revertStaged_word_FLT_STAT (s : State) : s.revertStaged.word FLT_STAT = s.word FLT_STAT := by
  rw [State.revertStaged_word, shMaskAt_FLT_STAT, mix_zero, ite_self]

theorem State.releaseLock_word_FLT_STAT (s : State) (n : Nat) : (s.releaseLock n).word FLT_STAT = s.word FLT_STAT := by
  unfold State.releaseLock
  split_ifs
  · exact s.revertStaged_word_FLT_STAT
  · rfl

theorem State.closeSession_word_FLT_STAT (s : State) (n : Nat) : (s.closeSession n).word FLT_STAT = s.word FLT_STAT := by
  unfold State.closeSession
  split
  · rfl
  · exact s.releaseLock_word_FLT_STAT n

theorem foldl_closeSession_word_FLT_STAT (l : List Nat) (s : State) : (l.foldl State.closeSession s).word FLT_STAT = s.word FLT_STAT := by
  induction l generalizing s with
  | nil => rfl
  | cons n l ih => rw [List.foldl_cons, ih, State.closeSession_word_FLT_STAT]

/-! ### Aborting long commands leaves the interpreter's other state alone (R316, Table 14-5) -/

@[simp] theorem State.lcEnd_mgmt (s : State) (h : Nat) (c : Status) : (s.lcEnd h c).mgmt = s.mgmt := by
  unfold State.lcEnd
  split
  · split <;> simp
  · rfl

@[simp] theorem State.lcEndOpt_mgmt (s : State) (h : Option Nat) (c : Status) : (s.lcEndOpt h c).mgmt = s.mgmt := by
  cases h <;> simp [State.lcEndOpt]

@[simp] theorem State.putExtent_mgmt (s : State) (b : Nat) (e : Extent) : (s.putExtent b e).mgmt = s.mgmt := rfl
@[simp] theorem State.delExtent_mgmt (s : State) (b dpa : Nat) : (s.delExtent b dpa).mgmt = s.mgmt := rfl
@[simp] theorem State.passOn_mgmt (s : State) (r : Nat) (x : Nat × Extent) : (s.passOn r x).mgmt = s.mgmt := rfl
@[simp] theorem State.abortMoves_mgmt (s : State) (t : Move → Bool) (c : Status) : (s.abortMoves t c).mgmt = s.mgmt := rfl
@[simp] theorem State.evacCancel_mgmt (s : State) (p : Nat) : (s.evacCancel p).mgmt = s.mgmt := rfl

@[simp] theorem State.unmake_mgmt (s : State) (i : Nat) : (s.unmake i).mgmt = s.mgmt :=
  foldl_mgmt (f := fun s (x : Nat × Nat) => s.setAlloc x.1 x.2 false) (fun _ _ => rfl) _ s

@[simp] theorem State.cancelAdd_mgmt (s : State) (b : Nat) (e : Extent) (c : Status) : (s.cancelAdd b e c).mgmt = s.mgmt := by
  unfold State.cancelAdd
  rw [State.lcEndOpt_mgmt, foldl_mgmt, State.delExtent_mgmt]
  intro s r
  split <;> simp

@[simp] theorem State.cancelRelease_mgmt (s : State) (b : Nat) (e : Extent) (h : Nat) : (s.cancelRelease b e h).mgmt = s.mgmt := by
  unfold State.cancelRelease
  dsimp only
  split <;> simp

@[simp] theorem State.resumeWbs_mgmt (s : State) (i : Nat) : (s.resumeWbs i).mgmt = s.mgmt := by
  refine foldl_mgmt (fun s e => foldl_mgmt (fun s w => ?_) _ s) _ s
  dsimp only
  split
  · exact State.writeLine_mgmt _ _ _ _ _ _ _ _ _ _ _
  · rfl

@[simp] theorem State.resumeWrites_mgmt (s : State) (i : Nat) : (s.resumeWrites i).mgmt = s.mgmt := by
  unfold State.resumeWrites
  rw [State.runAll_mgmt]
  exact s.resumeWbs_mgmt i

@[simp] theorem State.abortXfer_mgmt (s : State) (x : Xfer) (c : Status) : (s.abortXfer x c).mgmt = s.mgmt := by
  unfold State.abortXfer
  rw [foldl_mgmt fun s k => s.resumeWrites_mgmt _, State.lcEnd_mgmt, State.inc_mgmt _ (by decide)]
  rfl

@[simp] theorem State.dropCargo_mgmt (s : State) (d : Due) : (s.dropCargo d).mgmt = s.mgmt := by
  unfold State.dropCargo
  split
  · refine foldl_mgmt (fun s e => ?_) _ s
    split <;> simp
  · rfl

@[simp] theorem State.withdrawDue_mgmt (s : State) (h : Nat) : (s.withdrawDue h).mgmt = s.mgmt := by
  unfold State.withdrawDue
  rw [State.lcEnd_mgmt, foldl_mgmt State.dropCargo_mgmt]
  rfl

@[simp] theorem State.dropActivation_mgmt (s : State) (a : Activ) (c : Status) : (s.dropActivation a c).mgmt = s.mgmt := by
  unfold State.dropActivation
  rw [State.lcEnd_mgmt, State.setBit_mgmt _ _ (by decide)]
  rfl

theorem State.abortLong_mgmt {s t : State} {h op : Nat} (ht : s.abortLong h op = some t) : t.mgmt = s.mgmt := by
  unfold State.abortLong at ht
  split at ht
  case h_1 =>
    obtain rfl := Option.some.inj ht
    exact State.lcEnd_mgmt _ _ _
  case h_2 | h_3 | h_5 | h_6 =>
    split at ht
    · obtain rfl := Option.some.inj ht
      simp
    · cases ht
  case h_4 =>
    obtain rfl := Option.some.inj ht
    rfl
  case h_7 =>
    split at ht
    · obtain rfl := Option.some.inj ht
      rw [State.setBit_mgmt _ _ (by decide), State.dropActivation_mgmt]
    · cases ht
  case h_8 | h_9 | h_10 => cases ht
  case h_11 =>
    obtain rfl := Option.some.inj ht
    exact s.withdrawDue_mgmt h

theorem State.abortAll_mgmt (s : State) (f : Lc → Bool) : (s.abortAll f).2.mgmt = s.mgmt := by
  refine foldl_snd_mgmt (fun x e => ?_) _ (0, s)
  split
  · split
    next ht => exact State.abortLong_mgmt ht
    next => rfl
  · rfl

/-! ### The management watchdog at its limit (R18, R380) -/

theorem foldl_closeSession_sess (l : List Nat) (s : State) {k : Nat} (h : k ∈ l ∨ mget s.mbx.sess k = none) :
    mget (l.foldl State.closeSession s).mbx.sess k = none := by
  induction l generalizing s with
  | nil => exact h.resolve_left List.not_mem_nil
  | cons n l ih =>
    rw [List.foldl_cons]
    refine ih _ ?_
    by_cases hn : n = k
    · subst hn
      exact .inr (s.closeSession_sess n)
    · refine h.imp (fun hk => (List.mem_cons.1 hk).resolve_left (Ne.symm hn)) fun hk => ?_
      unfold State.closeSession
      split
      · exact hk
      · refine (mget_mdel_ne _ hn).trans ?_
        rw [State.releaseLock_eq]
        exact hk

theorem eq_nil_of_mget {α : Type} {m : NMap α} (h : ∀ k, mget m k = none) : m = [] := by
  cases m with
  | nil => rfl
  | cons e m =>
    have he := h e.1
    unfold mget at he
    simp at he

theorem State.closeSessions_all_sess (s : State) : (s.closeSessions fun _ _ => true).mbx.sess = [] := by
  refine eq_nil_of_mget fun k => ?_
  unfold State.closeSessions
  refine foldl_closeSession_sess _ s ?_
  cases hk : mget s.mbx.sess k with
  | none => exact .inr rfl
  | some x =>
    have hmem := mem_keys_of_mget hk
    exact .inl (by simpa using hmem)

/-- What the interpreter is left with when both pairs are unable to run. -/
structure State.Emptied (s t : State) : Prop where
  sess : t.mbx.sess = []
  lock : t.mbx.lock = none
  spdm : t.mbx.spdm = []
  attach : t.mbx.attach = []
  staged : t.staged = []
  dbg : t.md.dbg = none
  mode : t.md.mode = s.md.mode
  time : t.time = s.time
  wdExp : t.bit FLT_STAT_WD_EXP = s.bit FLT_STAT_WD_EXP

theorem State.revertStaged_mbx (s : State) : s.revertStaged.mbx = s.mbx := by rw [State.revertStaged_eq]
theorem State.revertStaged_md (s : State) : s.revertStaged.md = s.md := by rw [State.revertStaged_eq]
theorem State.revertStaged_time (s : State) : s.revertStaged.time = s.time := by rw [State.revertStaged_eq]

theorem State.emptyInterpreter_emptied (s : State) : s.Emptied s.emptyInterpreter := by
  have hsess := s.closeSessions_all_sess
  have hmode : (s.closeSessions fun _ _ => true).md.mode = s.md.mode := by rw [State.closeSessions_eq]
  have htime := s.closeSessions_time fun _ _ => true
  have hword : (s.closeSessions fun _ _ => true).word FLT_STAT = s.word FLT_STAT := foldl_closeSession_word_FLT_STAT _ s
  unfold State.emptyInterpreter State.clearStaging
  dsimp only
  generalize (s.closeSessions fun _ _ => true) = c at *
  have hstaged := c.revertStaged_staged
  rw [← c.revertStaged_mbx] at hsess
  rw [← c.revertStaged_md] at hmode
  rw [← c.revertStaged_time] at htime
  rw [← c.revertStaged_word_FLT_STAT] at hword
  generalize c.revertStaged = r at *
  exact ⟨hsess, rfl, rfl, rfl, hstaged, rfl, hmode, htime, State.bit_WD_EXP_of_word hword⟩

theorem State.Emptied.of_mgmt {s t u : State} (h : s.Emptied t) (hu : u.mgmt = t.mgmt) : s.Emptied u := by
  injection hu with hwd htime _ _ hsess hspdm hlock hattach hdirty hmode hdbg
  exact ⟨hsess.trans h.sess, hlock.trans h.lock, hspdm.trans h.spdm, hattach.trans h.attach,
    (congrArg (List.filter fun a => ! isSltAddr a) hdirty).trans h.staged, hdbg.trans h.dbg, hmode.trans h.mode, htime.trans h.time, hwd.trans h.wdExp⟩

theorem State.loseInterpreter_emptied (s : State) : s.Emptied s.loseInterpreter ∧ s.loseInterpreter.mbx.lc = [] := by
  have hkept := State.abortAll_mgmt s.emptyInterpreter fun _ => true
  unfold State.loseInterpreter
  generalize (s.emptyInterpreter.abortAll fun _ => true).2 = u at hkept
  exact ⟨s.emptyInterpreter_emptied.of_mgmt hkept, rfl⟩

theorem exec_managementWatchdogLimit_expires {s : State} (hlimit : s.fld FLT_WDOG_LIMIT ≤ s.fld FLT_WDOG_COUNT) (hexp : s.bit FLT_STAT_WD_EXP = false)
    (hpair : s.bit GLB_DEG_STANDBY_PAIR = true) :
    ∃ t, exec .managementWatchdogLimit s = .next t ∧ t.bit MBX_STAT_READY = false ∧ t.bit FLT_STAT_WD_EXP = true ∧ t.mbx.sess = [] ∧ t.mbx.lock = none ∧
      t.mbx.spdm = [] ∧ t.mbx.attach = [] ∧ t.mbx.lc = [] ∧ t.staged = [] ∧ t.md.dbg = none ∧ t.md.mode = s.md.mode := by
  obtain ⟨u, hu⟩ : ∃ u, (s.reportCode 0x0704 0 none 0).setBit FLT_STAT_WD_EXP true = u := ⟨_, rfl⟩
  have hmode : u.md.mode = s.md.mode := by
    rw [← hu]
    exact congrArg Mgmt.mode (s.reportCode_mgmt 0x0704 0 none 0)
  have hset : u.bit FLT_STAT_WD_EXP = true := by
    rw [← hu]
    exact State.bit_setBit_same _ _ _ (by decide) rfl
  have hdone : s.watchdogLimit = u.loseInterpreter.setBit MBX_STAT_READY false := by
    unfold State.watchdogLimit
    rw [if_neg (by simp [hexp, hlimit]), if_neg (by simp [hpair]), ← hu]
  obtain ⟨⟨hsess, hlock, hspdm, hattach, hstaged, hdbg, hkept, -, hwd⟩, hlc⟩ := u.loseInterpreter_emptied
  generalize u.loseInterpreter = v at *
  exact ⟨_, congrArg s.done hdone, State.bit_setBit_same v MBX_STAT_READY false (by decide) rfl,
    (State.bit_setBit_addr v MBX_STAT_READY _ _ (by decide)).trans (hwd.trans hset), hsess, hlock, hspdm, hattach, hlc, hstaged, hdbg, hkept.trans hmode⟩

/-! ### Fault reports (R375 to R379) -/

section Reports

variable {s : State} {code id detail k j : Nat} {addr : Option Nat} {c : FaultClass}

theorem exec_faultReport (hinfo : faultInfo code = some (c, k)) :
    exec (.faultReport code id false addr detail) s =
      s.done (s.report { cls := c, scope := k, id := id, code := code, addr := addr, detail := detail }) := by
  refine congrArg s.done ((if_neg (by simp)).trans ?_)
  unfold State.reportCode
  rw [hinfo]

theorem State.countFault_FLT_NEXT (s : State) (c : FaultClass) : (s.countFault c).fld FLT_NEXT_NEXT = s.fld FLT_NEXT_NEXT := by
  cases c <;> exact State.fld_inc_addr _ _ _ (by decide)

theorem exec_faultReport_opens (hinfo : faultInfo code = some (c, k)) (hc : c ≠ .uncontained) (hopen : openSlotOf s.flt.slots k id = none)
    (hcount : openCount s.flt.slots < 64) (hslot : slotForNew s.flt.slots = some j) :
    ∃ t, exec (.faultReport code id false addr detail) s = .next t ∧
      mget t.flt.slots j = some (FltRec.mk (s.fld FLT_NEXT_NEXT) c k id code s.time.frame s.time.frame 0 addr false false true detail s.flt.serial) ∧
      t.bit (pendFld 0 (sharedCode 297)) = true ∧ t.md = s.md ∧ t.bnd = s.bnd ∧ t.mbx = s.mbx := by
  rw [exec_faultReport hinfo]
  unfold State.report
  simp only [State.countFault_flt, hopen, if_neg (Nat.not_le.2 hcount), hslot, State.openFault, if_neg hc]
  refine ⟨_, State.done_eq_next (by simp) (by simp), ?_, State.bit_raiseShared_pend _ _ _ (by decide), by simp, by simp, by simp⟩
  simp [State.countFault_FLT_NEXT]

theorem exec_faultReport_merges {r : FltRec} (hinfo : faultInfo code = some (c, k)) (hc : c ≠ .uncontained)
    (hopen : openSlotOf s.flt.slots k id = some j) (hr : mget s.flt.slots j = some r) :
    ∃ t, exec (.faultReport code id false addr detail) s = .next t ∧
      mget t.flt.slots j = some { r with
        merged := min (r.merged + 1) 65535, lastF := s.time.frame, mixed := r.mixed || r.code != code, cls := r.cls.max c, opn := true } ∧
      t.md = s.md ∧ t.evt = s.evt ∧ t.out = s.out ∧ t.bnd = s.bnd := by
  rw [exec_faultReport hinfo]
  unfold State.report
  simp only [State.countFault_flt, hopen, State.mergeFault, hr, if_pos hc]
  refine ⟨_, State.done_eq_next (by simp) (by simp), ?_, by simp, ?_, ?_, by simp⟩
  · simp [satTo]
  · cases c <;> rfl
  · cases c <;> rfl

theorem State.wake_quarDue (s : State) (p : Option Power) : (s.wake p).md.quarDue = s.md.quarDue := by
  unfold State.wake
  split <;> rfl

theorem State.quarantineFor_quarDue (s : State) (n : Nat) : (s.quarantineFor n).md.quarDue.isSome = true := by
  unfold State.quarantineFor
  rw [State.wake_quarDue]
  dsimp only
  split <;> rfl

theorem State.uncontain_quarDue {s : State} {k : Nat} (h : (mget s.flt.slots k).isSome = true) : (s.uncontain k).md.quarDue.isSome = true := by
  obtain ⟨r, hr⟩ := Option.isSome_iff_exists.1 h
  unfold State.uncontain
  rw [hr]
  exact State.quarantineFor_quarDue _ _

theorem State.openFault_quarDue (s : State) (k : Nat) {f : FltIn} (hf : f.cls = .uncontained) : (s.openFault k f).md.quarDue.isSome = true := by
  unfold State.openFault
  simp only [hf, if_true]
  exact State.uncontain_quarDue (by simp)

theorem State.mergeFault_quarDue {s : State} {k : Nat} {r : FltRec} {f : FltIn} (h : mget s.flt.slots k = some r) (hf : f.cls = .uncontained) :
    (s.mergeFault k f).md.quarDue.isSome = true := by
  unfold State.mergeFault
  simp only [h, hf, ne_eq, not_true_eq_false, if_false]
  split_ifs
  · exact State.quarantineFor_quarDue _ _
  · exact State.uncontain_quarDue (congrArg Option.isSome (mget_mput_same _ _ _))

theorem State.overflowFault_quarDue (s : State) {f : FltIn} (hf : f.cls = .uncontained) : (s.overflowFault f).md.quarDue.isSome = true := by
  unfold State.overflowFault
  split
  next r hr =>
    have hdue := State.mergeFault_quarDue hr hf
    dsimp only
    split_ifs
    · exact hdue
    · rwa [State.raiseShared_md]
  next => exact s.openFault_quarDue 511 hf

theorem mget_of_mem {α : Type} {m : NMap α} {e : Nat × α} (h : e ∈ m) : ∃ v, mget m e.1 = some v := by
  induction m with
  | nil => exact absurd h List.not_mem_nil
  | cons x m ih =>
    unfold mget
    by_cases hk : x.1 = e.1
    · exact ⟨x.2, if_pos hk⟩
    · obtain ⟨v, hv⟩ := ih ((List.mem_cons.1 h).resolve_left fun he => hk (he ▸ rfl))
      exact ⟨v, (if_neg hk).trans hv⟩

theorem mget_of_openSlotOf {m : NMap FltRec} (h : openSlotOf m k id = some j) : ∃ r, mget m j = some r := by
  unfold openSlotOf at h
  obtain ⟨e, he, rfl⟩ := Option.map_eq_some_iff.1 h
  exact mget_of_mem (List.mem_of_find?_eq_some he)

theorem State.report_quarDue (s : State) {f : FltIn} (hf : f.cls = .uncontained) : (s.report f).md.quarDue.isSome = true := by
  unfold State.report
  dsimp only
  split
  next i hi =>
    obtain ⟨r, hr⟩ := mget_of_openSlotOf hi
    exact State.mergeFault_quarDue hr hf
  next =>
    split_ifs
    · exact State.overflowFault_quarDue _ hf
    · split
      · exact State.openFault_quarDue _ _ hf
      · exact State.overflowFault_quarDue _ hf

theorem exec_faultReport_uncontained (hinfo : faultInfo code = some (.uncontained, k)) :
    ∃ t, exec (.faultReport code id false addr detail) s = .next t ∧ t.md.quarDue.isSome = true ∧ t.md.mode = s.md.mode ∧ t.time = s.time := by
  rw [exec_faultReport hinfo]
  exact ⟨_, State.done_eq_next (by simp) (by simp), s.report_quarDue rfl, congrArg Mgmt.mode (s.report_mgmt _), by simp⟩

/-- The collector's own fault as it stands in FLT_STAT, in the journal and among what is sent. -/
def State.selfFaulted (s : State) : State :=
  (((State.journalIn { s with flt.selfJrn := s.flt.selfJrn + 1 } 4 s.flt.selfJrn).emit (.journal 0x0801)).setBit FLT_STAT_SELF true).setBit
    FLT_STAT_SUSPECT true

theorem State.selfFaulted_SELF (s : State) : s.selfFaulted.bit FLT_STAT_SELF = true :=
  congrArg (· == 1) ((State.fld_setBit_apart _ true (by decide)).trans (State.fld_setFld_same _ FLT_STAT_SELF 1 (by decide)))

theorem State.selfFaulted_SUSPECT (s : State) : s.selfFaulted.bit FLT_STAT_SUSPECT = true := State.bit_setBit_same _ FLT_STAT_SUSPECT true (by decide) rfl

theorem State.wake_eq (s : State) (p : Option Power) : ∃ h w, s.wake p = { s with md.hold := h, md.power := w } := by
  unfold State.wake
  split <;> exact ⟨_, _, rfl⟩

theorem exec_collectorSelfFault (s : State) :
    ∃ t, exec .collectorSelfFault s = .next t ∧ t.md.quarDue = some 0xFFFF ∧ t.bit FLT_STAT_SELF = true ∧ t.bit FLT_STAT_SUSPECT = true ∧
      t.out = .journal 0x0801 :: s.out ∧
      t = { s with
        regs := t.regs, md := t.md, out := t.out, flt.selfJrn := s.flt.selfJrn + 1, twl.jq := (s.journalIn 4 s.flt.selfJrn).twl.jq } := by
  obtain ⟨h, w, hwake⟩ := State.wake_eq { s.selfFaulted with md.quarDue := some 0xFFFF } none
  exact ⟨_, (congrArg s.done hwake).trans (State.done_eq_next rfl rfl), rfl, s.selfFaulted_SELF, s.selfFaulted_SUSPECT, rfl, rfl⟩

end Reports

/-! ### Records by opcode (R378, R379) -/

section Records

variable {s : State} {rq : Rq} {p : Principal} {n count : Nat}

theorem exec_readFaultRecords (hs : s.serves rq 0x0A00 p = true) (hcount : count ≤ 63) :
    ∃ t, exec (.readFaultRecords rq n count) s = .next t ∧
      t.replied rq 0x0A00 .success s.time.frame (((s.recordsFrom n).take count).flatMap (fun r => (List.range 16).map (fun w => (4, r.word w)))) ∧
      t = { s with out := t.out, mbx.sess := t.mbx.sess } :=
  done_turned hs _ _ fun _ => if_neg (Nat.not_lt.2 hcount)

theorem exec_clearFaultRecord_stored {k : Nat} (hs : s.serves rq 0x0A01 p = true) (hk : s.slotOfNumber n = some k) :
    ∃ t, exec (.clearFaultRecord rq n) s = .next t ∧ t.replied rq 0x0A01 .success s.time.frame [] ∧ mget t.flt.slots k = none ∧
      t = { s with out := t.out, mbx.sess := t.mbx.sess, flt.slots := t.flt.slots } := by
  have hcleared : ∃ t, exec (.clearFaultRecord rq n) s = .next t ∧ t.replied rq 0x0A01 .success s.time.frame [] ∧
      t = { ({ s with flt.slots := mdel s.flt.slots k } : State) with out := t.out, mbx.sess := t.mbx.sess } :=
    done_answers hs _ _ (fun m => by
      have hclear : State.clearRecord { s with mbx.sess := m } n = some { s with mbx.sess := m, flt.slots := mdel s.flt.slots k } := by
        unfold State.clearRecord
        rw [show State.slotOfNumber { s with mbx.sess := m } n = some k from hk]
      simp only [hclear]
      rfl) rfl rfl
  obtain ⟨t, hexec, hreply, hframe⟩ := hcleared
  refine ⟨t, hexec, hreply, ?_, ?_⟩
  · rw [hframe]
    exact mget_mdel_same _ _
  · rw [hframe]

theorem exec_clearFaultRecord_unknown (hs : s.serves rq 0x0A01 p = true) (hn : s.slotOfNumber n = none) :
    ∃ t, exec (.clearFaultRecord rq n) s = .next t ∧ t.replied rq 0x0A01 .parameter s.time.frame [] ∧ t.bit FLT_CLR_REFUSED = true ∧
      t = { s with out := t.out, mbx.sess := t.mbx.sess, regs := t.regs } := by
  have hcleared : ∃ t, exec (.clearFaultRecord rq n) s = .next t ∧ t.replied rq 0x0A01 .parameter s.time.frame [] ∧
      t = { s.setBit FLT_CLR_REFUSED true with out := t.out, mbx.sess := t.mbx.sess } :=
    done_answers hs _ _ (fun m => by
      have hclear : State.clearRecord { s with mbx.sess := m } n = none := by
        unfold State.clearRecord
        rw [show State.slotOfNumber { s with mbx.sess := m } n = none from hn]
      simp only [hclear]
      rfl) rfl rfl
  obtain ⟨t, hexec, hreply, hframe⟩ := hcleared
  refine ⟨t, hexec, hreply, ?_, ?_⟩
  · rw [hframe]
    exact State.bit_setBit_same s FLT_CLR_REFUSED true (by decide) rfl
  · rw [hframe]
    rfl

end Records

/-! ### Pin sources, routes and the in-band interrupt (R384, R389, R396) -/

section Routes

variable {s : State} {rq : Rq} {p : Principal} {n target samples : Nat}

/-- Raising a shared source changes registers, what is pending and what has been sent alone. -/
theorem State.raiseShared_eq (s : State) (n : Nat) :
    s.raiseShared n = { s with regs := (s.raiseShared n).regs, evt := (s.raiseShared n).evt, out := (s.raiseShared n).out } := by
  simp only [← State.raiseShared_force s n, ← State.raiseShared_dirty s n, ← State.raiseShared_latch s n, ← State.raiseShared_refused s n, ←
    State.raiseShared_time s n, ← State.raiseShared_flt s n, ← State.raiseShared_mbx s n, ← State.raiseShared_ident s n, ← State.raiseShared_md
    s n, ← State.raiseShared_prt s n, ← State.raiseShared_isl s n, ← State.raiseShared_grp s n, ← State.raiseShared_lan s n, ←
    State.raiseShared_sec s n, ← State.raiseShared_bnd s n, ← State.raiseShared_xbr s n, ← State.raiseShared_brg s n, ← State.raiseShared_home s
    n, ← State.raiseShared_cnt s n, ← State.raiseShared_twl s n, ← State.raiseShared_slt s n, ← State.raiseShared_oxb s n, ←
    State.raiseShared_rsv s n, ← State.raiseShared_due s n, ← State.raiseShared_fresh s n, ← State.raiseShared_pending s n]

theorem exec_pinSourceChange_low (hn : n < 32) (hfilter : getBits (s.routeWord n) 10 8 ≤ samples) (hsense : getBits (s.routeWord n) 8 2 = 2)
    (hlow : n ∉ s.evt.pinsLow) :
    ∃ t, exec (.pinSourceChange n true samples) s = .next t ∧ t.bit (pendFld 0 (sharedCode n)) = true ∧
      t = { s with regs := t.regs, evt := t.evt, out := t.out } := by
  have hpin : isPinSource n = true := decide_eq_true (by omega)
  have hdone : s.pinChange n true samples = State.raiseShared { s with evt.pinsLow := sadd s.evt.pinsLow n } n := by
    unfold State.pinChange
    simp [hpin, Nat.not_lt.2 hfilter, hsense, hlow, Nat.not_le.2 hn]
  refine ⟨_, (congrArg s.done hdone).trans (State.done_eq_next (by simp) (by simp)), State.bit_raiseShared_pend _ _ _ (by omega), ?_⟩
  rw [State.raiseShared_eq]

theorem exec_pinSourceChange_short {low : Bool} (h : samples < getBits (s.routeWord n) 10 8) : exec (.pinSourceChange n low samples) s = .next s := by
  refine (congrArg s.done ?_).trans (State.done_eq_next rfl rfl)
  unfold State.pinChange
  simp [h]

theorem exec_routeEventSource_routes (hs : s.serves rq 0x0A02 p = true) (hn : n ≤ 511) (ht : target ≤ 255)
    (hok : s.routeOk n (setBits (setBits (s.word (EVT_SH_ROUTE n)) 0 8 target) 8 2 0) = true) :
    ∃ t, exec (.routeEventSource rq n target 0) s = .next t ∧ t.replied rq 0x0A02 .success s.effFrame [] ∧
      t.due = s.due ++ [Due.mk s.effFrame false false false none (some (rqRef rq 0x0A02))
        (.route n (setBits (setBits (s.word (EVT_SH_ROUTE n)) 0 8 target) 8 2 0))] ∧
      t = { s with out := t.out, mbx.sess := t.mbx.sess, regs := t.regs, due := t.due } := by
  obtain ⟨u, hu⟩ : ∃ u, (s.setWord (EVT_SH_ROUTE n) (setBits (setBits (s.word (EVT_SH_ROUTE n)) 0 8 target) 8 2 0)).submit (some (rqRef rq 0x0A02))
    (.route n (setBits (setBits (s.word (EVT_SH_ROUTE n)) 0 8 target) 8 2 0)) = u := ⟨_, rfl⟩
  have hrouted : ∃ t, exec (.routeEventSource rq n target 0) s = .next t ∧ t.replied rq 0x0A02 .success s.effFrame [] ∧
      t = { u with out := t.out, mbx.sess := t.mbx.sess } := by
    subst hu
    exact done_answers hs _ _ (fun m => (if_neg (show ¬ (511 < n ∨ 255 < target ∨ 3 < 0) by omega)).trans (if_pos hok)) rfl rfl
  obtain ⟨t, hexec, hreply, hframe⟩ := hrouted
  subst hu
  refine ⟨t, hexec, hreply, ?_, ?_⟩
  · rw [hframe]
    rfl
  · rw [hframe]
    rfl

end Routes

/-- Settles O19: reports open or merge records, an uncontained one makes Quarantine due, the watchdog at its limit empties the interpreter, and the
record opcodes, pin sources, routes and the in-band interrupt act as their rules say. -/
theorem faultsAndRoutes : Obligations.FaultsAndRoutes := by
  unfold Obligations.FaultsAndRoutes
  refine ⟨fun _ _ _ _ _ _ _ _ => exec_faultReport_opens, fun _ _ _ _ _ _ _ _ _ => exec_faultReport_merges,
    fun _ _ _ _ _ _ => exec_faultReport_uncontained, exec_collectorSelfFault, fun _ => exec_managementWatchdogLimit_expires, ?idle,
    fun _ _ _ _ _ => exec_readFaultRecords, fun _ _ _ _ _ => exec_clearFaultRecord_stored, fun _ _ _ _ => exec_clearFaultRecord_unknown,
    fun _ _ _ => exec_pinSourceChange_low, fun _ _ _ _ => exec_pinSourceChange_short, fun _ _ _ _ _ => exec_routeEventSource_routes, ?enable, ?disable⟩
  case idle => exact fun s h => (congrArg s.done (if_pos h)).trans (State.done_eq_next rfl rfl)
  case enable => exact fun s bus h => (congrArg s.done (if_pos h)).trans (State.done_eq_next rfl rfl)
  case disable => exact fun s bus h => (congrArg s.done (if_pos h)).trans (State.done_eq_next rfl rfl)

end Sys2Proof.Machine
end

section
/-! Proofs of the family 15_modes_power_debug: what the fall of every port leaves alone (O18). -/
set_option Elab.async false
namespace Sys2Proof.Machine
open Sys2Proof

/-- What a warm reset leaves alone while it takes the ports down: the clock and its follower, identity, and the slot channels. -/
def State.kept (s : State) : TimeSt × IdSt × NMap Slt := (s.time, s.ident, s.slt)

@[simp] theorem State.kept_mk (regs force dirty latch refused time flt evt mbx ident md prt isl grp lan sec bnd xbr brg home cnt twl slt oxb rsv due out
    fresh pending) :
    State.kept ⟨regs, force, dirty, latch, refused, time, flt, evt, mbx, ident, md, prt, isl, grp, lan, sec, bnd, xbr, brg, home, cnt, twl, slt, oxb,
      rsv, due, out, fresh, pending⟩ = (time, ident, slt) := rfl

@[simp] theorem State.kept_fold (s : State) : (s.time, s.ident, s.slt) = s.kept := rfl

theorem State.kept_of_mgmt {s t : State} (h : t.mgmt = s.mgmt) : t.kept = s.kept := congrArg (fun m => (m.time, m.ident, m.slt)) h

theorem State.kept_of_eq {s t : State} (htime : t.time = s.time) (hident : t.ident = s.ident) (hslt : t.slt = s.slt) : t.kept = s.kept := by
  unfold State.kept
  rw [htime, hident, hslt]

theorem foldl_kept {α : Type} {f : State → α → State} (hf : ∀ s a, (f s a).kept = s.kept) (l : List α) (s : State) : (l.foldl f s).kept = s.kept := by
  induction l generalizing s with
  | nil => rfl
  | cons a l ih => rw [List.foldl_cons, ih, hf]

@[simp] theorem State.setFld_kept (s : State) (f : Fld) (v : Nat) : (s.setFld f v).kept = s.kept := State.kept_of_eq rfl rfl rfl
@[simp] theorem State.setBit_kept (s : State) (f : Fld) (v : Bool) : (s.setBit f v).kept = s.kept := State.kept_of_eq rfl rfl rfl
@[simp] theorem State.inc_kept (s : State) (f : Fld) : (s.inc f).kept = s.kept := State.kept_of_eq rfl rfl rfl
@[simp] theorem State.addSat_kept (s : State) (f : Fld) (n : Nat) : (s.addSat f n).kept = s.kept := State.kept_of_eq rfl rfl rfl
@[simp] theorem State.emit_kept (s : State) (o : Out) : (s.emit o).kept = s.kept := State.kept_of_eq rfl rfl rfl
@[simp] theorem State.raisePrivate_kept (s : State) (t n : Nat) : (s.raisePrivate t n).kept = s.kept := State.kept_of_eq (by simp) (by simp) (by simp)
@[simp] theorem State.raiseShared_kept (s : State) (n : Nat) : (s.raiseShared n).kept = s.kept := State.kept_of_eq (by simp) (by simp) (by simp)
@[simp] theorem State.refreshLevel_kept (s : State) (t : Nat) : (s.refreshLevel t).kept = s.kept := State.kept_of_eq (by simp) (by simp) (by simp)
@[simp] theorem State.report_kept (s : State) (f : FltIn) : (s.report f).kept = s.kept := State.kept_of_mgmt (by simp)
@[simp] theorem State.reportCode_kept (s : State) (code id : Nat) (a : Option Nat) (d : Nat) : (s.reportCode code id a d).kept = s.kept :=
  State.kept_of_mgmt (by simp)
@[simp] theorem State.bindFault_kept (s : State) (b code parcel dpa d : Nat) (c : BCnt) : (s.bindFault b code parcel dpa d c).kept = s.kept :=
  State.kept_of_mgmt (by simp)
@[simp] theorem State.send_kept (s : State) (m : Msg) : (s.send m).kept = s.kept := State.kept_of_mgmt (by simp)
@[simp] theorem State.drainSlot_kept (s : State) (k : Nat) (b : Bool) : (s.drainSlot k b).kept = s.kept := State.kept_of_mgmt (by simp)
@[simp] theorem State.runAll_kept (s : State) : s.runAll.kept = s.kept := State.kept_of_mgmt (by simp)
@[simp] theorem State.lcEndOpt_kept (s : State) (h : Option Nat) (c : Status) : (s.lcEndOpt h c).kept = s.kept := State.kept_of_mgmt (by simp)

/-! #### The bridge (R272, R276, R282) -/

@[simp] theorem State.bridgeFault_kept (s : State) (w : Nat) (a : Option Nat) : (s.bridgeFault w a).kept = s.kept := by
  unfold State.bridgeFault
  cases a <;> exact State.bindFault_kept _ _ _ _ _ _ _

@[simp] theorem State.fillWfail_kept (s : State) (w : Nat) (a : Option Nat) (b : Bool) : (s.fillWfail w a b).kept = s.kept := by
  unfold State.fillWfail
  split <;> rfl

@[simp] theorem State.postedFail_kept (s : State) (w : Nat) (id a : Option Nat) : (s.postedFail w id a).kept = s.kept := by
  simp only [State.postedFail, State.raisePrivate_kept, State.bridgeFault_kept, State.fillWfail_kept]
  rfl

@[simp] theorem State.gatedAccess_kept (s : State) (r : HReq) (n : Nat) : (s.gatedAccess r n).kept = s.kept := by
  unfold State.gatedAccess
  rw [State.kept_of_mgmt (State.unserved_mgmt _ r)]
  split
  · rfl
  · have hcount := State.kept_of_mgmt (s.bndCount_mgmt r.bnd (if hkReads r.kind then .poisoned else .wrDisc))
    dsimp only
    generalize s.bndCount r.bnd (if hkReads r.kind then .poisoned else .wrDisc) = u at hcount ⊢
    split
    · exact hcount
    · exact (State.raisePrivate_kept _ _ _).trans hcount

@[simp] theorem State.farRefused_kept (s : State) (a : BAcc) : (s.farRefused a).kept = s.kept := by
  unfold State.farRefused
  dsimp only
  split_ifs
  · rfl
  · exact State.postedFail_kept _ _ _ _
  · exact State.gatedAccess_kept _ _ _

@[simp] theorem State.sendUnits_kept (a : BAcc) (us : List Nat) (s : State) (b : Bool) : (s.sendUnits a us b).kept = s.kept := by
  induction us generalizing s b with
  | nil => rfl
  | cons u us ih => exact (ih _ _).trans (State.send_kept _ _)

@[simp] theorem State.flushRead_kept (s : State) (w b p a : Nat) (l : List Nat) (f : Option Nat) (k : List Nat) : (s.flushRead w b p a l f k).kept = s.kept :=
  State.send_kept _ _

@[simp] theorem State.prefetch_kept (s : State) (w o : Nat) : (s.prefetch w o).kept = s.kept := by
  unfold State.prefetch
  extract_lets
  split
  · rfl
  · split
    · rfl
    · exact State.send_kept _ _

@[simp] theorem State.issueAcc_kept (s : State) (a : BAcc) : (s.issueAcc a).kept = s.kept := by
  unfold State.issueAcc
  have hgate := State.kept_of_mgmt (s.gateCheck_mgmt a.port (0x3000 + a.win) (if a.write then .write else .read) a.far (if a.one then a.wd else 64))
  dsimp only
  generalize s.gateCheck a.port (0x3000 + a.win) (if a.write then .write else .read) a.far (if a.one then a.wd else 64) = g at hgate ⊢
  refine Eq.trans ?_ hgate
  split_ifs <;> simp only [State.farRefused_kept, State.postedFail_kept, State.flushRead_kept, State.prefetch_kept, State.sendUnits_kept,
    State.setBwin, State.markLk, State.kept_mk, State.kept_fold] <;> rfl

@[simp] theorem State.tryFence_kept (s : State) (w : Nat) : (s.tryFence w).kept = s.kept := by
  unfold State.tryFence
  split
  · rfl
  · split_ifs
    · rfl
    · exact State.flushRead_kept _ _ _ _ _ _ _ _

@[simp] theorem State.bridgeRun_kept (s : State) (p : Nat) : (s.bridgeRun p).kept = s.kept :=
  (foldl_kept State.tryFence_kept _ _).trans (foldl_kept State.issueAcc_kept _ s)

@[simp] theorem State.nextLock_kept (s : State) (far : Nat) : (s.nextLock far).kept = s.kept := by
  unfold State.nextLock
  dsimp only
  have hwait := foldl_kept (f := fun (s : State) (x : Nat × Nat × Nat) => s.setBit (LWB_LOCK_WAIT x.2.1) false) (fun _ _ => rfl)
    (s.brg.wait.filter fun x => x.1 == far && ! s.winOn x.2.2)
    { s with brg.wait := s.brg.wait.filter fun x => ! (s.brg.wait.filter fun x => x.1 == far && ! s.winOn x.2.2).contains x }
  split <;> exact hwait

@[simp] theorem State.releaseFar_kept (s : State) (far : Nat) : (s.releaseFar far).kept = s.kept := by
  unfold State.releaseFar
  split
  · rfl
  · dsimp only
    rw [State.bridgeRun_kept, State.nextLock_kept]
    split
    · exact State.send_kept _ _
    · rfl

@[simp] theorem State.lockRelease_kept (s : State) (p : Nat) : (s.lockRelease p).kept = s.kept := by
  unfold State.lockRelease
  split
  · exact s.releaseFar_kept _
  · rfl

@[simp] theorem State.fenceEnd_kept (s : State) (w : Nat) (b : Bool) : (s.fenceEnd w b).kept = s.kept := by
  unfold State.fenceEnd
  split
  · rfl
  · exact State.lcEndOpt_kept _ _ _

@[simp] theorem State.bridgePortDown_kept (s : State) (p : Nat) : (s.bridgePortDown p).kept = s.kept := by
  unfold State.bridgePortDown
  extract_lets queued ids s1 s2 s3 g s4 k s5 s6
  have h1 : s1.kept = s.kept := foldl_kept (fun s id => by split <;> simp) ids s
  clear_value s1
  have h2 : s2.kept = s1.kept := by
    refine foldl_kept (fun s a => ?_) _ s1
    rw [State.postedFail_kept]
    rfl
  clear_value s2
  have h3 : s3.kept = s2.kept := foldl_kept (fun s w => s.fenceEnd_kept w true) _ s2
  clear_value s3
  have h4 : s4.kept = s3.kept := (State.releaseFar_kept _ p).trans rfl
  clear_value s4
  have h6 : s6.kept = s4.kept := by
    unfold s6 s5
    split <;> rfl
  rw [State.lockRelease_kept, h6, h4, h3, h2, h1]

/-! #### Queues, lanes and links (R134, Table 6-5) -/

@[simp] theorem State.bounce_kept (s : State) (m : Msg) : (s.bounce m).kept = s.kept := State.kept_of_mgmt (by simp)

@[simp] theorem State.syncCredits_kept (s : State) (p : Nat) : (s.syncCredits p).kept = s.kept := by
  unfold State.syncCredits
  split
  · refine foldl_kept (fun s c => ?_) _ s
    unfold State.syncCredit
    dsimp only
    split_ifs <;> rfl
  · rfl

@[simp] theorem State.restLost_kept (s : State) (o : Nat) (m : Msg) : (s.restLost o m).kept = s.kept := by
  unfold State.restLost
  extract_lets s1 s2
  have h2 : s2.kept = s.kept := by
    unfold s2
    split <;> rfl
  split
  · rw [State.reportCode_kept, h2]
  · rw [State.report_kept, h2]

@[simp] theorem State.tailOut_kept (s : State) (o c : Nat) (b : Bool) : (s.tailOut o c b).kept = s.kept := by
  unfold State.tailOut
  split
  · cases b
    · rfl
    · exact State.restLost_kept _ _ _
  · split
    · split
      · cases b <;> rfl
      · rfl
    · rfl

@[simp] theorem State.tail_kept (s : State) (p d c : Nat) (b : Bool) : (s.tail p d c b).kept = s.kept := by
  unfold State.tail
  dsimp only
  split
  · rfl
  · split
    · rfl
    · split
      · rfl
      · exact State.tailOut_kept _ _ _ _

@[simp] theorem State.poolLost_kept (s : State) (m : Msg) : (s.poolLost m).kept = s.kept := by
  unfold State.poolLost
  dsimp only
  split
  · split
    · split
      · split
        exacts [(State.bindFault_kept _ _ _ _ _ _ _).trans rfl, rfl]
      · rfl
    · split
      · split
        exacts [(State.bindFault_kept _ _ _ _ _ _ _).trans rfl, rfl]
      · rfl
  · split
    exacts [(State.bindFault_kept _ _ _ _ _ _ _).trans rfl, rfl]

@[simp] theorem State.flushTo_kept (s : State) (m : Msg) : (s.flushTo m).kept = s.kept := by
  unfold State.flushTo
  split
  · split
    · exact s.bounce_kept m
    · exact State.drainSlot_kept _ _ _
  · exact s.poolLost_kept m
  · exact s.poolLost_kept m
  · exact s.bounce_kept m

@[simp] theorem State.flushFrom_kept (s : State) (p : Nat) : (s.flushFrom p).kept = s.kept := by
  unfold State.flushFrom
  dsimp only
  rw [foldl_kept fun s e => State.tail_kept s _ _ _ _, State.syncCredits_kept]
  rfl

theorem State.idlePrios_kept (s : State) : s.idlePrios.kept = s.kept := rfl

@[simp] theorem State.flushPort_kept (s : State) (p : Nat) : (s.flushPort p).kept = s.kept := by
  unfold State.flushPort
  dsimp only
  rw [State.idlePrios_kept, foldl_kept State.syncCredits_kept, foldl_kept State.flushTo_kept, State.flushFrom_kept]
  rfl

theorem State.islUnknown_kept (s : State) (i : Nat) : (s.islUnknown i).kept = s.kept := by
  refine (foldl_kept ?_ _ _).trans rfl
  exact fun s m => s.setFld_kept _ _

@[simp] theorem State.islDown_kept (s : State) (i : Nat) : (s.islDown i).kept = s.kept := by
  unfold State.islDown
  split
  · rfl
  · dsimp only
    simp only [State.raiseShared_kept, State.setFld_kept, State.setBit_kept, State.inc_kept, State.islUnknown_kept]
    rfl

@[simp] theorem State.dropSweeps_kept (s : State) (p : Nat) : (s.dropSweeps p).kept = s.kept := by
  refine foldl_kept ?_ _ s
  exact fun s l => rfl

@[simp] theorem State.linkDownStat_kept (s : State) (p : Nat) : (s.linkDownStat p).kept = s.kept := by
  unfold State.linkDownStat
  extract_lets s0 s1 s2 s3
  have hdump : (s.abandonDump p).kept = s.kept := by
    unfold State.abandonDump
    split
    · split_ifs <;> rfl
    · rfl
  have hpresence : ∀ (t : State) (ks : List Nat), (t.vdpPresence ks false).kept = t.kept := fun t ks => by
    refine foldl_kept ?_ ks t
    exact fun s k => rfl
  have hlanes : ∀ t : State, (t.clearLanes p).kept = t.kept := fun t => by
    refine foldl_kept ?_ _ t
    exact fun s l => rfl
  have h0 : s0.kept = s.kept := (hpresence _ _).trans hdump
  clear_value s0
  rw [hlanes]
  simp only [s3, s2, s1, State.setFld_kept, State.setBit_kept, h0]

@[simp] theorem State.endRemac_kept (s : State) (b : Nat) : (s.endRemac b).kept = s.kept := by
  unfold State.endRemac
  rw [State.runAll_kept]
  exact foldl_kept (fun s i => State.kept_of_mgmt (s.resumeWbs_mgmt i)) _ _

@[simp] theorem State.addsPortDown_kept (s : State) (p : Nat) : (s.addsPortDown p).kept = s.kept := by
  refine foldl_kept (fun s x => foldl_kept (fun s e => ?_) _ s) _ s
  split
  · split
    · exact State.kept_of_mgmt (State.cancelAdd_mgmt _ _ _ _)
    · rfl
  · rfl

@[simp] theorem State.remacsDown_kept (s : State) (p : Nat) : (s.remacsDown p).kept = s.kept := foldl_kept State.endRemac_kept _ s

@[simp] theorem State.declareDown_kept (s : State) (p : Nat) : (s.declareDown p).kept = s.kept := by
  unfold State.declareDown
  split
  · rfl
  · extract_lets pool s0 s1 s2 x s3 s4 s5
    have h1 : s1.kept = s.kept := by
      refine Eq.trans ?_ (s.bridgePortDown_kept p)
      unfold s1
      split
      · exact State.islDown_kept _ _
      · rfl
    clear_value s1
    have h2 : s2.kept = s1.kept := (State.linkDownStat_kept _ p).trans (s1.dropSweeps_kept p)
    clear_value s2
    have h3 : s3.kept = s2.kept := (State.flushPort_kept _ p).trans (State.raiseShared_kept _ _)
    clear_value s3
    have h4 : s4.kept = s3.kept := by
      unfold s4
      split
      · split
        · exact (State.refreshLevel_kept _ _).trans (State.drainSlot_kept _ _ _)
        · exact State.refreshLevel_kept _ _
      · rfl
    clear_value s4
    have h5 : s5.kept = s4.kept := by
      unfold s5
      split
      · exact (State.remacsDown_kept _ p).trans (State.addsPortDown_kept _ p)
      · rfl
    rw [State.runAll_kept, h5, h4, h3, h2, h1]

theorem State.dropBetween_kept (s : State) (ps : List Nat) : (s.dropBetween ps).kept = s.kept := by
  refine foldl_kept ?_ _ s
  exact fun s e => rfl

/-- With every port down the clock, identity and the slot channels are as they were. -/
theorem State.allDown_kept (s : State) : s.allDown.kept = s.kept :=
  (foldl_kept State.declareDown_kept _ _).trans (s.dropBetween_kept _)

end Sys2Proof.Machine
end

section
/-! Proofs of the family 15_modes_power_debug: resets, the power and reset pins, and boot (O18). -/
set_option Elab.async false
namespace Sys2Proof.Machine
open Sys2Proof

/-! ### A mode change signals, and changes the mode (R324, R392) -/

/-- Registers, pending events and what has been sent are all that differs. -/
def State.Signalled (s t : State) : Prop := ∃ r e o, t = { s with regs := r, evt := e, out := o }

theorem State.Signalled.refl (s : State) : s.Signalled s := ⟨_, _, _, rfl⟩

theorem State.Signalled.trans {s t u : State} (h : s.Signalled t) (k : t.Signalled u) : s.Signalled u := by
  obtain ⟨_, _, _, rfl⟩ := h
  obtain ⟨r, e, o, rfl⟩ := k
  exact ⟨r, e, o, rfl⟩

theorem signalled_foldl {α : Type} {f : State → α → State} (hf : ∀ (s : State) a, s.Signalled (f s a)) (l : List α) (s : State) : s.Signalled (l.foldl f s) := by
  induction l generalizing s with
  | nil => exact .refl s
  | cons a l ih => exact (hf s a).trans (ih _)

theorem State.signalled_refreshLevel (s : State) (t : Nat) : s.Signalled (s.refreshLevel t) := by
  unfold State.refreshLevel
  dsimp only
  split_ifs
  exacts [.refl s, ⟨_, _, _, rfl⟩, .refl s, ⟨_, _, _, rfl⟩, .refl s]

theorem State.signalled_signal (s : State) (t c : Nat) : s.Signalled (s.signal t c) := by
  unfold State.signal
  dsimp only
  split
  · split
    · split
      · split_ifs
        exacts [.refl s, ⟨_, _, _, rfl⟩, by unfold State.msiDropped; split_ifs <;> exact ⟨_, _, _, rfl⟩]
      · exact .refl s
    · exact s.signalled_refreshLevel t
  · split
    · exact s.signalled_refreshLevel 129
    · split
      · split
        · exact ⟨_, _, _, rfl⟩
        · exact .refl s
      · exact .refl s

theorem State.signalled_raisePrivate (s : State) (t n : Nat) : s.Signalled (s.raisePrivate t n) := by
  unfold State.raisePrivate State.raiseAt
  dsimp only
  split
  · refine State.Signalled.trans (t := s.setBit (pendFld t n) true) ⟨_, _, _, rfl⟩ ?_
    split
    · exact State.signalled_signal _ _ _
    · exact .refl _
  · exact .refl s

theorem State.signalled_signalAgain (s : State) (t c : Nat) : s.Signalled (s.signalAgain t c) := by
  unfold State.signalAgain
  split
  · split
    · split
      exacts [s.signalled_signal t _, .refl s]
    · exact s.signalled_refreshLevel t
  · split
    · exact s.signalled_refreshLevel 129
    · split
      exacts [s.signalled_signal t _, .refl s]

theorem State.signalled_leaveClaim (s : State) (t : Nat) : s.Signalled (s.leaveClaim t) := by
  refine signalled_foldl (fun s c => ?_) _ s
  refine State.Signalled.trans (t := (s.dropActive t c).resample t c) ?_ (State.signalled_signalAgain _ t c)
  unfold State.resample
  split <;> exact ⟨_, _, _, rfl⟩

theorem State.setMode_eq (s : State) (m : Mode) (f : Nat) :
    ∃ r e o g, s.setMode m f = { s with regs := r, evt := e, out := o, md.mode := m, md.modeFrame := g } := by
  unfold State.setMode
  split
  next h => exact ⟨_, _, _, _, by rw [← h]⟩
  next =>
    dsimp only
    obtain ⟨r, e, o, hleft⟩ := signalled_foldl (f := fun (s : State) t => if s.claimMode t then s else s.leaveClaim t)
      (fun s t => by split; exacts [.refl s, s.signalled_leaveClaim t]) (s.targets.filter s.claimMode) { s with md.mode := m, md.modeFrame := f }
    rw [hleft]
    obtain ⟨r', e', o', hraised⟩ := signalled_foldl (f := fun (s : State) t => s.raisePrivate t 1) (fun s t => s.signalled_raisePrivate t 1)
      (State.targets { s with md.mode := m, md.modeFrame := f, regs := r, evt := e, out := o })
      { s with md.mode := m, md.modeFrame := f, regs := r, evt := e, out := o }
    exact ⟨r', e', o', f, hraised⟩

theorem State.refreshPersts_eq (s : State) : ∃ p o, s.refreshPersts = { s with prt := p, out := o } := by
  have hfold : ∀ (l : List Nat) (s : State), ∃ p o, l.foldl State.refreshPerst s = { s with prt := p, out := o } := by
    intro l
    induction l with
    | nil => exact fun s => ⟨_, _, rfl⟩
    | cons g l ih =>
      intro s
      obtain ⟨p, o, hl⟩ := ih (s.refreshPerst g)
      refine ⟨p, o, hl.trans ?_⟩
      unfold State.refreshPerst
      dsimp only
      split <;> rfl
  exact hfold _ s

theorem State.refreshPersts_md (s : State) : s.refreshPersts.md = s.md := by
  obtain ⟨p, o, h⟩ := s.refreshPersts_eq
  rw [h]

theorem State.setMode_mode (s : State) (m : Mode) (f : Nat) : (s.setMode m f).md.mode = m := by
  obtain ⟨r, e, o, g, h⟩ := s.setMode_eq m f
  rw [h]

/-! ### Cold reset (R344, R452, R454, R455) -/

/-- A cold reset but for the registers that reload from the journal and the last setpoints. -/
def State.coldState (s : State) (cause : Nat) (boot : Boot) : State :=
  { State.reset with
    ident := s.ident.afterCold, twl := s.twl.afterCold,
    flt := { slots := reloadJournal s.flt.journal, serial := (reloadJournal s.flt.journal).length, journal := s.flt.journal, selfJrn := s.flt.selfJrn },
    prt := { perstIn := s.prt.perstIn }, evt := { pinsLow := s.evt.pinsLow },
    md := { pwrgdCore := s.md.pwrgdCore, resetLow := s.md.resetLow, boot := boot, cause := cause },
    out := coldOuts s ++ s.out, fresh := s.fresh, pending := s.pending }

theorem State.coldReset_eq (s : State) (cause : Nat) (boot : Boot) : ∃ r, s.coldReset cause boot = { s.coldState cause boot with regs := r } := ⟨_, rfl⟩

theorem exec_coldReset {s : State} (h : s.md.boot = .rom ∨ s.md.boot = .up) : exec .coldReset s = .next (s.coldReset 2 .rom) := by
  obtain ⟨r, hr⟩ := s.coldReset_eq 2 .rom
  have hcold : exec .coldReset s = s.doneTimed (s.coldReset 2 .rom) := by
    refine congrArg s.doneTimed ?_
    rcases h with h | h <;> rw [h]
  rw [hcold, hr]
  rfl

theorem exec_resetNLow_long {s : State} {n : Nat} (hn : 25 ≤ n) (h : s.md.boot ≠ .auxOff) :
    exec (.resetNLow n) s = .next (State.coldReset { s with md.resetLow := true } 1 .inReset) := by
  obtain ⟨r, hr⟩ := State.coldReset_eq { s with md.resetLow := true } 1 .inReset
  have hcold : exec (.resetNLow n) s = s.doneTimed (State.coldReset { s with md.resetLow := true } 1 .inReset) :=
    congrArg s.doneTimed ((if_neg (Nat.not_lt.2 hn)).trans (if_neg h))
  rw [hcold, hr]
  rfl

theorem exec_auxPwrgdRise_free {s : State} {straps : Nat} (h : s.md.boot = .auxOff) (hlow : s.md.resetLow = false) :
    exec (.auxPwrgdRise straps) s = .next ((s.sampleStraps straps).coldReset 0 .rom) := by
  obtain ⟨r, hr⟩ := (s.sampleStraps straps).coldReset_eq 0 .rom
  have hcold : exec (.auxPwrgdRise straps) s = s.doneTimed ((s.sampleStraps straps).coldReset 0 .rom) := by
    refine congrArg s.doneTimed ((if_neg (not_not.2 h)).trans ?_)
    rw [hlow]
    rfl
  rw [hcold, hr]
  rfl

theorem exec_auxPwrgdFall (s : State) : exec .auxPwrgdFall s = .next (s.coldReset 0 .auxOff) := by
  obtain ⟨r, hr⟩ := s.coldReset_eq 0 .auxOff
  have hcold : exec .auxPwrgdFall s = s.doneTimed (s.coldReset 0 .auxOff) := rfl
  rw [hcold, hr]
  rfl

theorem exec_resetNRelease_starts {s : State} (straps : Nat) (hlow : s.md.resetLow = true) (hboot : s.md.boot = .inReset) :
    exec (.resetNRelease straps) s = .next { s with md.resetLow := false, md.boot := .rom, ident.straps := straps % 16 } := by
  refine (congrArg s.done ((if_neg (by simp [hlow])).trans (if_pos hboot))).trans ?_
  exact State.done_eq_next rfl rfl

/-! ### Warm reset (R345, Table 15-8) -/

/-- What a warm reset decides before it tests the collector and changes the mode. -/
def State.slate (s : State) : (TimeSt × IdSt × NMap Slt) × MbxSt × BndSt × Memory × Bool × Nat × Option Dbg :=
  (s.kept, s.mbx, s.bnd, s.rsv, s.md.warmDue, s.md.restart, s.md.dbg)

theorem State.setMode_slate (s : State) (m : Mode) (f : Nat) : (s.setMode m f).slate = s.slate := by
  obtain ⟨r, e, o, g, h⟩ := s.setMode_eq m f
  rw [h]
  rfl

theorem State.refreshPersts_slate (s : State) : s.refreshPersts.slate = s.slate := by
  obtain ⟨p, o, h⟩ := s.refreshPersts_eq
  rw [h]
  rfl

theorem State.selfTest_slate (s : State) (ok : Bool) : (s.selfTest ok).slate = s.slate := by
  unfold State.selfTest
  split
  · rfl
  · split
    · obtain ⟨h, w, hwake⟩ := State.wake_eq { s.selfFaulted with md.quarDue := some 0xFFFF } none
      exact (congrArg State.slate hwake).trans rfl
    · rfl

/-- The state a warm reset comes to before its status bits, the self-test and the mode. -/
def State.warmState (s : State) : State :=
  let s1 := (s.allDown.dropMain).resetWords inWarm
  { s1 with
    mbx := {}, evt := { pinsLow := s1.evt.pinsLow },
    due := s1.due.filter (fun d => match d.act with
      | .fmKey _ _ => true
      | .slot _ _ => true
      | .frameLen _ => true
      | _ => false),
    flt.takeDue := false, twl.act := none,
    md := { s1.md with
      modeReq := none, pwrReq := none, quarDue := none, hold := .out, power := .full, mrst := none, warmDue := false, portRst := [],
      restart := 2, dbg := none, mainSafe := false, heldHost := [], heldDown := [], roleHeld := false } }

theorem State.warmState_slate (s : State) : s.warmState.slate = (s.kept, {}, {}, [], false, 2, none) := by
  rw [← s.allDown_kept]
  unfold State.warmState
  generalize s.allDown = u
  rfl

/-- Where Bring-up may not start, the core stays off (Table 15-2). -/
def State.coreHeldOff (s : State) : State := if s.bringUpOk then s else { s with md.power := .off, md.mainSafe := true }

theorem State.coreHeldOff_slate (s : State) : s.coreHeldOff.slate = s.slate := by
  unfold State.coreHeldOff
  split <;> rfl

theorem State.coreHeldOff_mode (s : State) : s.coreHeldOff.md.mode = s.md.mode := by
  unfold State.coreHeldOff
  split <;> rfl

theorem State.warmReset_slate (s : State) (ok : Bool) (f : Nat) :
    (s.warmReset ok f).slate = s.warmState.slate ∧ ((s.warmReset ok f).md.mode = .bringUp ∨ (s.warmReset ok f).md.mode = .standby) := by
  have hwarm : ∃ u : State, u.slate = s.warmState.slate ∧
      s.warmReset ok f = (u.setMode (if u.bringUpOk then .bringUp else .standby) f).coreHeldOff.refreshPersts := by
    refine ⟨_, ?_, rfl⟩
    rw [State.selfTest_slate]
    split <;> rfl
  obtain ⟨u, hu, h⟩ := hwarm
  rw [h, State.refreshPersts_slate, State.coreHeldOff_slate, State.setMode_slate, State.refreshPersts_md, State.coreHeldOff_mode, State.setMode_mode]
  refine ⟨hu, ?_⟩
  split
  exacts [.inl rfl, .inr rfl]

theorem exec_warmReset_up {s : State} (ok : Bool) (h : s.md.boot = .up) :
    ∃ t, exec (.warmReset ok) s = .next t ∧ t.mbx = {} ∧ t.bnd = {} ∧ t.rsv = [] ∧ t.md.warmDue = false ∧ t.md.restart = 2 ∧ t.md.dbg = none ∧
      (t.md.mode = .bringUp ∨ t.md.mode = .standby) ∧ t.time = s.time ∧ t.ident = s.ident ∧ t.slt = s.slt := by
  obtain ⟨hslate, hmode⟩ := s.warmReset_slate ok s.time.frame
  rw [State.warmState_slate] at hslate
  have hexec : exec (.warmReset ok) s = s.done (s.warmReset ok s.time.frame) := congrArg s.done (if_pos h)
  rw [hexec]
  generalize s.warmReset ok s.time.frame = u at hslate hmode
  simp only [State.slate, State.kept, Prod.mk.injEq] at hslate
  obtain ⟨⟨htime, hident, hslt⟩, hmbx, hbnd, hrsv, hdue, hrestart, hdbg⟩ := hslate
  refine ⟨_, rfl, hmbx, hbnd, hrsv, hdue, hrestart, hdbg, hmode, ?_, hident, hslt⟩
  show ({ s.time with sync := u.time.sync, pllLocked := u.time.pllLocked } : TimeSt) = s.time
  rw [htime]

/-! ### The boot ROM (R293, Table 13-5) -/

/-- The boot stage and whether Wellspring is ready. -/
def State.stage (s : State) : Boot × Bool := (s.md.boot, s.sec.wsReady)

theorem State.closeSessions_stage (s : State) (f : Nat → Session → Bool) : (s.closeSessions f).stage = s.stage := by
  have hfold : ∀ (l : List Nat) (s : State), (l.foldl State.closeSession s).stage = s.stage := by
    intro l
    induction l with
    | nil => exact fun _ => rfl
    | cons n l ih =>
      intro s
      refine (ih _).trans ?_
      unfold State.closeSession
      split
      · rfl
      · unfold State.releaseLock State.clearStaging
        split
        · rw [State.revertStaged_eq]
          rfl
        · rfl
  exact hfold _ s

theorem State.zeroOwner_stage (s : State) : s.zeroOwner.stage = s.stage := s.closeSessions_stage _

theorem State.lifecycleNow_stage (s : State) : s.lifecycleNow.stage = s.stage := by
  unfold State.lifecycleNow
  split
  · rfl
  next d _ =>
    dsimp only
    generalize hleft : (if d.target = .ownerOpen ∧ s.ident.life = .blank then _ else _ : State) = u
    have hu : u.stage = s.stage := by
      rw [← hleft]
      split_ifs
      exacts [rfl, s.zeroOwner_stage, rfl, s.zeroOwner_stage, s.zeroOwner_stage, rfl]
    exact hu

theorem State.resolveLifecycle_stage (s : State) : s.resolveLifecycle.stage = s.stage := by
  unfold State.resolveLifecycle
  dsimp only
  split_ifs
  exacts [rfl, State.lifecycleNow_stage _, rfl, rfl]

theorem State.takeLevel_stage (s : State) : s.takeLevel.stage = s.stage := by
  unfold State.takeLevel
  dsimp only
  generalize hlevel : (s.setLevel s.levelOf.1 _).setBit TWL_PERS_CFG_VALID s.twl.pers.isSome = u
  have hu : u.stage = s.stage := by rw [← hlevel]; rfl
  split
  · unfold State.stage
    rw [State.raiseShared_md, State.raiseShared_sec]
    exact hu
  · exact hu

theorem exec_bootRomDone_rom {s : State} (h : s.md.boot = .rom) :
    ∃ t, exec .bootRomDone s = .next t ∧ t.bit MBX_STAT_READY = true ∧ t.md.boot = .up ∧ t.sec.wsReady = true ∧ t.time.frame = s.time.frame := by
  have hboot : ∃ u : State, u.stage = (.up, true) ∧ s.bootDone = (u.setBit MBX_STAT_READY true).measure.autoBringUp := by
    refine ⟨_, ?_, if_neg (not_not.2 h)⟩
    refine Eq.trans (State.takeLevel_stage _) ?_
    split
    · exact State.resolveLifecycle_stage _
    · exact State.resolveLifecycle_stage _
  obtain ⟨u, hu, hdone⟩ := hboot
  have hauto : ∃ q, s.bootDone = { (u.setBit MBX_STAT_READY true).measure with md.modeReq := q } := by
    rw [hdone]
    unfold State.autoBringUp
    split <;> exact ⟨_, rfl⟩
  obtain ⟨q, hq⟩ := hauto
  exact ⟨_, congrArg s.done hq, State.bit_setBit_same u MBX_STAT_READY true (by decide) rfl, congrArg Prod.fst hu, congrArg Prod.snd hu, rfl⟩

/-! ### Core power and Bring-up (R325, R329) -/

theorem exec_pwrgdCoreAssert (s : State) :
    ∃ t, exec .pwrgdCoreAssert s = .next t ∧ t.md.pwrgdCore = true ∧ t.md.mode = s.md.mode ∧ t = { s with md := t.md } := by
  have hauto : ∃ q, State.autoBringUp { s with md.pwrgdCore := true } = { s with md.pwrgdCore := true, md.modeReq := q } := by
    unfold State.autoBringUp
    split <;> exact ⟨_, rfl⟩
  obtain ⟨q, hq⟩ := hauto
  exact ⟨_, (congrArg s.done hq).trans (State.done_eq_next rfl rfl), rfl, rfl, rfl⟩

theorem State.enterStandby_enters (s : State) (f : Nat) :
    (s.enterStandby f).md.mode = .standby ∧ (s.enterStandby f).md.power = .off ∧ (s.enterStandby f).md.mainSafe = true ∧ (s.enterStandby f).rsv = [] ∧
      (s.enterStandby f).bnd = {} ∧ (s.enterStandby f).bit GLB_QUAR_ACTIVE = false := by
  unfold State.enterStandby
  generalize s.allDown.endDataCommands = u
  obtain ⟨r, e, o, g, hmode⟩ := (u.dropMain.resetWords inMain).setMode_eq .standby f
  dsimp only
  rw [hmode]
  generalize hv : State.setBit _ GLB_QUAR_ACTIVE false = v
  have hclear : v.bit GLB_QUAR_ACTIVE = false := by
    rw [← hv]
    exact State.bit_setBit_same _ GLB_QUAR_ACTIVE false (by decide) rfl
  obtain ⟨p, o', hperst⟩ := v.refreshPersts_eq
  rw [hperst]
  subst hv
  exact ⟨rfl, rfl, rfl, rfl, rfl, hclear⟩

theorem exec_pwrgdCoreDeassert_loses {s : State} (hmode : s.md.mode ≠ .standby) (hboot : s.md.boot = .up) :
    ∃ t, exec .pwrgdCoreDeassert s = .next t ∧ t.md.mode = .standby ∧ t.md.power = .off ∧ t.md.mainSafe = true ∧ t.rsv = [] ∧ t.bnd = {} ∧
      t.bit GLB_QUAR_ACTIVE = false := by
  have hlost : s.coreLost = (State.reportCode { s with md.pwrgdCore := false } 0x0702 0 none 0).enterStandby s.time.frame :=
    if_neg (by simp [hmode, hboot])
  obtain ⟨hstandby, hpower, hsafe, hrsv, hbnd, hquar⟩ := State.enterStandby_enters (State.reportCode { s with md.pwrgdCore := false } 0x0702 0 none 0) s.time.frame
  rw [← hlost] at hstandby hpower hsafe hrsv hbnd hquar
  exact ⟨_, rfl, hstandby, hpower, hsafe, hrsv, hbnd, hquar⟩

/-- The board identity check leaves the clock, the mode, the bindings and the effects due alone. -/
theorem State.boardCheck_keeps (s : State) (answers : Bool) (board device : Nat) :
    (s.boardCheck answers board device).time = s.time ∧ (s.boardCheck answers board device).md = s.md ∧
      (s.boardCheck answers board device).bnd = s.bnd ∧ (s.boardCheck answers board device).due = s.due := by
  unfold State.boardCheck
  dsimp only
  split
  · simp
  · generalize hcheck : (if board = (s.setBit GLB_BID_STAT_READ_OK true).ident.board then s.setBit GLB_BID_STAT_READ_OK true else _) = u
    have hu : u.time = s.time ∧ u.md = s.md ∧ u.bnd = s.bnd ∧ u.due = s.due := by
      rw [← hcheck]
      split <;> simp
    split_ifs
    · exact hu
    · exact hu
    · simpa [State.emit] using hu

theorem exec_bringUpComplete_ok {s : State} (answers : Bool) (board device : Nat) (hmode : s.md.mode = .bringUp) (hreq : s.md.modeReq = none) :
    ∃ t, exec (.bringUpComplete true answers board device) s = .next t ∧
      t.md = { s.md with modeReq := some { target := .provisioning, eff := s.effFrame, ref := none, forced := false } } ∧ t.bnd = s.bnd ∧ t.due = s.due := by
  have hdone : s.bringUpDone true answers board device = (s.boardCheck answers board device).acceptMode .provisioning false none :=
    (if_neg (by simp [hmode, hreq])).trans (if_neg (by simp))
  obtain ⟨htime, hmd, hbnd, hdue⟩ := s.boardCheck_keeps answers board device
  generalize s.boardCheck answers board device = u at *
  refine ⟨_, congrArg s.done hdone, ?_, hbnd, hdue⟩
  show ({ u.md with modeReq := some { target := .provisioning, eff := u.effFrame, ref := none, forced := false } } : ModeSt) = _
  unfold State.effFrame
  rw [htime, hmd]

/-- Settles O18: a cold reset and its pins return all but what is kept, a warm reset keeps the clock, identity and the slot channels through the fall of
every port, and boot, core power and the end of Bring-up move the mode. -/
theorem resetsAndBoot : Obligations.ResetsAndBoot := by
  unfold Obligations.ResetsAndBoot
  refine ⟨fun s h => ⟨_, exec_coldReset h, rfl, rfl, rfl, rfl, rfl, rfl, rfl, rfl, rfl, rfl, rfl, rfl, rfl, rfl⟩,
    fun s n hn h => ⟨_, exec_resetNLow_long hn h, rfl, rfl, rfl, rfl, rfl, rfl, rfl, rfl⟩, ?short, fun s straps => exec_resetNRelease_starts straps,
    fun s straps h hlow => ⟨_, exec_auxPwrgdRise_free h hlow, rfl, rfl, rfl, rfl, rfl⟩,
    fun s => ⟨_, exec_auxPwrgdFall s, rfl, rfl, rfl, rfl, rfl, rfl, rfl⟩, fun s ok => exec_warmReset_up ok, fun s => exec_bootRomDone_rom, ?booted,
    exec_pwrgdCoreAssert, fun s => exec_pwrgdCoreDeassert_loses, fun s answers board device => exec_bringUpComplete_ok answers board device⟩
  case short => exact fun s n hn => (congrArg s.doneTimed (if_pos hn)).trans rfl
  case booted => exact fun s h => (congrArg s.done (if_pos h)).trans (State.done_eq_next rfl rfl)

end Sys2Proof.Machine
end
